-- ==== Sys2Proof/Word.lean ====
section
/-!
DEFINITION. The word types of the machine and their plainest arithmetic (R1, R2, R6).
-/

namespace Sys2Proof

/-- A 32-bit register or memory word. -/
abbrev Word := BitVec 32

/-- One byte of memory; the byte at the lowest address holds bits [7:0] (R2). -/
abbrev Byte := BitVec 8

/-- A 64-bit value, such as a register pair or a virtual address (R6). -/
abbrev DWord := BitVec 64

/-- One bit per lane (R40). -/
abbrev Mask := BitVec 32

/-- A 6-bit register field (R107). -/
abbrev Reg := BitVec 6

/-- A 3-bit predicate field (R107). -/
abbrev PReg := BitVec 3

/-- The lane numbers of a wave in ascending order (R30). -/
def allLanes : List Nat := List.range 32

end Sys2Proof
end

