-- ==== Sys2Proof/Machine/Bits.lean ====
section
/-!
DEFINITION. Integer arithmetic of the scalar and vector units (R125 to R129, R407 to R412, R445, R446).
-/

namespace Sys2Proof.Machine

/-- The amount of a shift is taken modulo 32 (R126). -/
def shiftAmount (b : Word) : Nat := b.toNat % 32

/-- Shift left with zeros from the right (R126). -/
def shl (a b : Word) : Word := a <<< shiftAmount b

/-- Shift right with zeros from the left (R126). -/
def shr (a b : Word) : Word := a >>> shiftAmount b

/-- Shift right with copies of bit 31 (R126). -/
def sra (a b : Word) : Word := BitVec.sshiftRight a (shiftAmount b)

/-- Bits [63:32] of the signed product (R127). -/
def mulhi (a b : Word) : Word := BitVec.ofInt 32 (a.toInt * b.toInt / 2 ^ 32)

/-- Bits [63:32] of the unsigned product (R127). -/
def mulhn (a b : Word) : Word := BitVec.ofNat 32 (a.toNat * b.toNat / 2 ^ 32)

/-- a * b + c, or -(a * b) + c, modulo 2^32 (R127). -/
def mad (neg : Bool) (a b c : Word) : Word := if neg then c - a * b else a * b + c

/-- Signed minimum and maximum, unsigned minimum and maximum (R138). -/
def mini (a b : Word) : Word := if a.toInt ≤ b.toInt then a else b
/-- Signed maximum. -/
def maxi (a b : Word) : Word := if a.toInt ≤ b.toInt then b else a
/-- Unsigned minimum. -/
def minn (a b : Word) : Word := if a.toNat ≤ b.toNat then a else b
/-- Unsigned maximum. -/
def maxn (a b : Word) : Word := if a.toNat ≤ b.toNat then b else a

/-- Quotient and remainder of R128, truncating toward zero. -/
def divide (unsigned : Bool) (a b : Word) : Word × Word :=
  if b = 0#32 then (0xFFFFFFFF#32, a)
  else if unsigned then (BitVec.ofNat 32 (a.toNat / b.toNat), BitVec.ofNat 32 (a.toNat % b.toNat))
  else (BitVec.ofInt 32 (Int.tdiv a.toInt b.toInt), BitVec.ofInt 32 (Int.tmod a.toInt b.toInt))

/-- Offset and width of a bit-field control word (R129). -/
def fieldOff (ctl : Word) : Nat := ctl.toNat % 64
/-- The width, in bits [13:8]. -/
def fieldWidth (ctl : Word) : Nat := ctl.toNat / 256 % 64

/-- Extract of R129. -/
def extractField (signed : Bool) (x ctl : Word) : Word :=
  if fieldWidth ctl = 0 ∨ 32 ≤ fieldOff ctl then 0#32
  else
    let n := min (fieldOff ctl + fieldWidth ctl) 32 - fieldOff ctl
    let f := x.toNat / 2 ^ fieldOff ctl % 2 ^ n
    if signed ∧ 2 ^ (n - 1) ≤ f then BitVec.ofNat 32 (f + 2 ^ 32 - 2 ^ n) else BitVec.ofNat 32 f

/-- Insert of R129: bits off to off + w - 1 of t, below 32, become the low bits of x. -/
def insertField (t x ctl : Word) : Word :=
  let m : Word := BitVec.ofNat 32 ((2 ^ fieldWidth ctl - 1) * 2 ^ fieldOff ctl)
  (t &&& ~~~m) ||| ((BitVec.ofNat 32 (x.toNat * 2 ^ fieldOff ctl)) &&& m)

/-- Bits [n - 1 : 0], highest first, that are zero before the first set one. -/
def leadingZeros (x : Word) : Nat → Nat
  | 0 => 0
  | n + 1 => if x.getLsbD n then 0 else leadingZeros x n + 1

/-- Zero bits above the highest set bit, 32 for zero (R410). -/
def clz (x : Word) : Word := BitVec.ofNat 32 (leadingZeros x 32)

/-- Number of set bits (R410). -/
def popc (x : Word) : Word := BitVec.ofNat 32 (allLanes.countP (fun i => x.getLsbD i))

/-- Bit i becomes bit 31 - i (R446). -/
def brev (x : Word) : Word := BitVec.reverse x

/-- Conditions of SCMP (R109, R411). -/
def condScalar (k : Nat) (a b : Word) : Bool :=
  match k with
  | 0 => a == b
  | 1 => a != b
  | 2 => decide (a.toInt < b.toInt)
  | 3 => decide (a.toInt ≤ b.toInt)
  | 4 => decide (b.toInt < a.toInt)
  | 5 => decide (b.toInt ≤ a.toInt)
  | 6 => decide (a.toNat < b.toNat)
  | _ => decide (b.toNat ≤ a.toNat)

/-- Integer conditions of VCMP (R109, R139). -/
def condVector (k : Nat) (a b : Word) : Bool :=
  match k with
  | 0 => a == b
  | 1 => a != b
  | 2 => decide (a.toInt < b.toInt)
  | 3 => decide (a.toInt ≤ b.toInt)
  | 4 => decide (b.toInt < a.toInt)
  | 5 => decide (b.toInt ≤ a.toInt)
  | 6 => decide (a.toNat < b.toNat)
  | 7 => decide (a.toNat ≤ b.toNat)
  | 8 => decide (b.toNat < a.toNat)
  | 9 => decide (b.toNat ≤ a.toNat)
  | 10 => a &&& b != 0#32
  | _ => a &&& b == 0#32

/-- 1 or 0 as a word. -/
def boolWord (b : Bool) : Word := if b then 1#32 else 0#32

/-- Sign extension of an immediate to 32 bits (R107). -/
def sext {n : Nat} (i : BitVec n) : Word := i.signExtend 32

/-- A 64-bit value from a register pair: low word, high word (R6). -/
def pair (lo hi : Word) : Nat := lo.toNat + 2 ^ 32 * hi.toNat

/-- The low word of a 64-bit value. -/
def lo32 (x : Nat) : Word := BitVec.ofNat 32 x

/-- The high word of a 64-bit value. -/
def hi32 (x : Nat) : Word := BitVec.ofNat 32 (x / 2 ^ 32)

/-- Bits [hi:lo] of a word as a number (R1). -/
def wbits (w : Word) (hi lo : Nat) : Nat := w.toNat / 2 ^ lo % 2 ^ (hi + 1 - lo)

/-- One lane of a mask. -/
def laneSet (m : Mask) (l : Nat) : Bool := m.getLsbD l

/-- The mask of the lanes for which a test holds. -/
def maskOf (f : Nat → Bool) : Mask :=
  allLanes.foldl (fun (m : Mask) l => if f l then m ||| BitVec.ofNat 32 (2 ^ l) else m) 0#32

/-- The lanes of a mask, in ascending order. -/
def maskLanes (m : Mask) : List Nat := allLanes.filter (fun l => laneSet m l)

end Sys2Proof.Machine
end

