-- ==== Sys2Proof/Config.lean ====
section
/-!
DEFINITION. What an implementation fixes and the free values. A free value is an opaque constant: no proof sees what it is.
-/

namespace Sys2Proof.Config

/-- Undefined bits (R4): a fresh word for each job and each number drawn from the job's own counter, so that it depends on nothing
that the job cannot know. -/
opaque freeWord : Nat → Nat → Word

/-- Which of the values within 2 ulp a transcendental function returns (R141): one choice per function and operand, the
same on every core. The value is used modulo 4. -/
opaque sfuPick : Nat → Word → Nat

/-- The module serial number (R310, R314). -/
opaque serialNumber : DWord

/-- The firmware version that INVENTORY returns, of the images that the module runs (R315). -/
opaque firmwareVersion : List (List Byte) → Word

/-- The identity certificate of R314, DER-encoded (R296). -/
opaque identityCertificate : List Byte

/-- The identity key that the secure controller derives from its fused secret and the digests of its firmware (R314). -/
opaque identityKey : List Byte → List Byte

/-- The Ed448 signature over a quote, made with an identity key (R314): 114 bytes. -/
opaque quoteSignature : List Byte → List Byte → Nat → Byte

/-- Whether a firmware image passes the signature and roll-back checks of R314. -/
opaque imageAccepted : List Byte → Bool

/-- Which line leaves a full set of a cache to make room (R171, R191): a fresh choice for each number drawn from the state's
counter, taken modulo the lines of the set. -/
opaque victim : Nat → Nat

/-- Lines of a core's L1: 256 KiB of 128 bytes (R26, R171). -/
def l1Lines : Nat := 2048

/-- Sets of a cluster cache (R167). -/
def ccSets : Nat := 1024

/-- Ways of an L2 slice (R20, R171). -/
def l2Ways : Nat := 16

/-- A sensor reading (R315), fresh for each number drawn from the state's counter. -/
opaque sensorReading : Nat → BitVec 16

/-- The firmware images the module holds, as their bytes (R314). -/
opaque firmwareImages : List (List Byte)

/-- Which firmware image a committed image replaces at the next reset (R315). -/
opaque imageSlot : List Byte → Nat

/-- The measurement register that the digest of image number `k` extends, modulo 8 (R314). -/
opaque measureIndex : Nat → Nat

/-- Capability classes 0 to 26 (R297). -/
def classCount : Nat := 27

/-- The mask of a core that passes every class of its bring-up test (R298, R318); assumption 18. -/
def fullMask : DWord := 0x07FFFFFF#64

/-- The classes that a core's bring-up test after a module reset fails (R302, R318): fresh for each reset, by core and by
configuration; assumption 18. -/
opaque bringUp : Nat → Nat → Bool → DWord

/-- The GANG bit of a capability mask (R298). -/
def gangBit : Nat := 48

/-- Byte capacity of one cluster SRAM bank (R165). -/
def bankBytes : Nat := 131072

/-- Cluster SRAM banks (R165). -/
def bankCount : Nat := 64

/-- Deque entries held in SRAM (R76). -/
def dequeSram : Nat := 512

/-- Deque entries in all (R76). -/
def dequeAll : Nat := 33280

/-- Site of row `r` of a block row and column `c` of the die (R12). -/
def siteAt (row col : Nat) : Nat := row * 12 + col

/-- An entry of the graft table (R291): front-end site, slabs, OUT. -/
def graftWord (fes sla slb : Nat) (out : Bool) : Word :=
  BitVec.ofNat 32 (fes * 2 ^ 24 + sla * 2 ^ 16 + slb * 2 ^ 8 + (if out then 8 else 0))

/-- The pairs (row in the block, column of the left slab in the row of twelve, column of the front end) of the four ganged
cores of a cluster block: a choice that obeys R292 with four ganged cores in every cluster; assumption 22. -/
def gangPairs : Nat → List (Nat × Nat × Nat)
  | 0 => [(0, 0, 0), (0, 2, 2), (1, 0, 0), (2, 0, 0)]
  | 1 => [(0, 4, 4), (1, 2, 3), (1, 4, 4), (2, 4, 4)]
  | 2 => [(0, 6, 6), (1, 6, 6), (1, 8, 8), (2, 6, 6)]
  | _ => [(0, 8, 9), (0, 10, 10), (1, 10, 10), (2, 10, 10)]

/-- The fused graft table of a cluster within its stack (R291, R293), without condemned sites; assumption 22. -/
def fusedGraft (cluster entry : Nat) : Word :=
  let row0 := cluster / 4 * 3
  let col0 := cluster % 4 * 3
  if entry < 8 then
    let site := siteAt (row0 + entry / 3) (col0 + entry % 3)
    graftWord site site 0xFF false
  else
    match (gangPairs (cluster % 4))[entry - 8]? with
    | some (r, c, f) => graftWord (siteAt (row0 + r) f) (siteAt (row0 + r) c) (siteAt (row0 + r) (c + 1)) false
    | none => graftWord 0xFF 0xFF 0xFF true

end Sys2Proof.Config
end

