-- ==== Sys2Proof/Machine/Maps.lean ====
section
/-!
DEFINITION. Finite maps as lists in rising key order, and the sparse byte store that memory is: one canonical form, so that
equal contents are equal data.
-/

namespace Sys2Proof.Machine

/-- A finite map from numbers, kept in strictly rising key order. -/
abbrev NMap (α : Type) := List (Nat × α)

/-- The value at a key, if the map has one. -/
def NMap.get? {α : Type} : NMap α → Nat → Option α
  | [], _ => none
  | (j, a) :: m, k => if j = k then some a else NMap.get? m k

/-- The value at a key, or a default. -/
def NMap.at {α : Type} (m : NMap α) (k : Nat) (d : α) : α := (NMap.get? m k).getD d

/-- Sets the value at a key. -/
def NMap.put {α : Type} : NMap α → Nat → α → NMap α
  | [], k, v => [(k, v)]
  | (j, a) :: m, k, v =>
    if k < j then (k, v) :: (j, a) :: m
    else if k = j then (k, v) :: m
    else (j, a) :: NMap.put m k v

/-- Removes a key. -/
def NMap.del {α : Type} (m : NMap α) (k : Nat) : NMap α := m.filter (fun e => e.1 != k)

/-- Sets the value at a key, and keeps no entry for a value that an absent key reads as. -/
def NMap.set {α : Type} [BEq α] (m : NMap α) (d : α) (k : Nat) (v : α) : NMap α :=
  if v == d then NMap.del m k else NMap.put m k v

/-- Applies a function to the value at a key, or to a default when there is none. -/
def NMap.alter {α : Type} (m : NMap α) (d : α) (k : Nat) (f : α → α) : NMap α := NMap.put m k (f (NMap.at m k d))

/-- Keys in strictly rising order. -/
def NMap.sorted {α : Type} : NMap α → Bool
  | [] => true
  | [_] => true
  | (j, _) :: (k, b) :: m => decide (j < k) && NMap.sorted ((k, b) :: m)

/-- A store of bytes: address and byte, unlisted bytes zero (R164, R167, R318). -/
abbrev Memory := List Host.Cell

/-- What an unlisted address reads as. -/
def Memory.unlisted : Byte := 0#8

/-- One byte of a store. -/
def Memory.read (m : Memory) (a : Nat) : Byte := NMap.at m a Memory.unlisted

/-- Writes one byte, keeping the canonical form. -/
def Memory.write (m : Memory) (a : Nat) (b : Byte) : Memory := NMap.set m Memory.unlisted a b

/-- `n` bytes from address `a` upward. -/
def Memory.readBytes (m : Memory) (a : Nat) : Nat → List Byte
  | 0 => []
  | n + 1 => Memory.read m a :: Memory.readBytes m (a + 1) n

/-- Writes bytes from address `a` upward. -/
def Memory.writeBytes (m : Memory) (a : Nat) : List Byte → Memory
  | [] => m
  | b :: bs => Memory.writeBytes (Memory.write m a b) (a + 1) bs

/-- Zeroes every byte from `lo` up to but not including `hi`. -/
def Memory.clear (m : Memory) (lo hi : Nat) : Memory := m.filter (fun e => e.1 < lo || hi ≤ e.1)

/-- The canonical form: rising addresses and no entry equal to what an unlisted address reads as. -/
def Memory.wf (m : Memory) : Bool := NMap.sorted m && m.all (fun e => e.2 != Memory.unlisted)

/-- Adds a number to a set kept as a list without repeats. -/
def setInsert (l : List Nat) (k : Nat) : List Nat := if l.contains k then l else l ++ [k]

/-- Removes a number from a set. -/
def setErase (l : List Nat) (k : Nat) : List Nat := l.filter (fun j => j != k)

/-- The value of little-endian bytes (R2). -/
def bytesNat : List Byte → Nat
  | [] => 0
  | b :: bs => b.toNat + 256 * bytesNat bs

/-- The `n` low bytes of a value, little-endian (R2). -/
def natBytes : Nat → Nat → List Byte
  | 0, _ => []
  | n + 1, x => BitVec.ofNat 8 x :: natBytes n (x / 256)

/-- The bytes of 32-bit words in order (R2). -/
def wordsBytes (ws : List Word) : List Byte := ws.flatMap (fun w => natBytes 4 w.toNat)

/-- The 32-bit word of the first four bytes of a list (R2). -/
def bytesWord (bs : List Byte) : Word := BitVec.ofNat 32 (bytesNat (bs.take 4))

/-- Splits bytes into `n` words (R2). -/
def bytesWords : Nat → List Byte → List Word
  | 0, _ => []
  | n + 1, bs => bytesWord bs :: bytesWords n (bs.drop 4)

end Sys2Proof.Machine
end

