-- ==== Sys2Proof/Machine/Shake.lean ====
section
/-!
DEFINITION. SHAKE256 with a 64-byte output, and the measurement registers of the secure controller (R314; the function is that of
FIPS 202, assumption 20).
-/

namespace Sys2Proof.Machine

/-- A lane of the permutation, rotated left. -/
def laneRot (x : DWord) (n : Nat) : DWord := x.rotateLeft (n % 64)

/-- Lane (x, y) of a state of 25 lanes. -/
def keccakLane (a : List DWord) (x y : Nat) : DWord := a.getD (x % 5 + 5 * (y % 5)) 0#64

/-- Rotation offsets of the lanes, by x + 5 * y. -/
def laneOffsets : List Nat :=
  [0, 1, 62, 28, 27, 36, 44, 6, 55, 20, 3, 10, 43, 25, 39, 41, 45, 15, 21, 8, 18, 2, 61, 56, 14]

/-- Round constants. -/
def roundConstants : List DWord :=
  [0x0000000000000001#64, 0x0000000000008082#64, 0x800000000000808A#64, 0x8000000080008000#64, 0x000000000000808B#64,
   0x0000000080000001#64, 0x8000000080008081#64, 0x8000000000008009#64, 0x000000000000008A#64, 0x0000000000000088#64,
   0x0000000080008009#64, 0x000000008000000A#64, 0x000000008000808B#64, 0x800000000000008B#64, 0x8000000000008089#64,
   0x8000000000008003#64, 0x8000000000008002#64, 0x8000000000000080#64, 0x000000000000800A#64, 0x800000008000000A#64,
   0x8000000080008081#64, 0x8000000000008080#64, 0x0000000080000001#64, 0x8000000080008008#64]

/-- A state of 25 lanes from its lanes. -/
def lanesOf (f : Nat → Nat → DWord) : List DWord := (List.range 25).map (fun k => f (k % 5) (k / 5))

/-- The first step of a round: column parities. -/
def mixColumns (a : List DWord) : List DWord :=
  let c (x : Nat) : DWord := keccakLane a x 0 ^^^ keccakLane a x 1 ^^^ keccakLane a x 2 ^^^ keccakLane a x 3 ^^^ keccakLane a x 4
  let d := (List.range 5).map (fun x => c (x + 4) ^^^ laneRot (c (x + 1)) 1)
  lanesOf (fun x y => keccakLane a x y ^^^ d.getD x 0#64)

/-- The lane that moves to (x, y), rotated. -/
def movedLane (a : List DWord) (x y : Nat) : DWord :=
  laneRot (keccakLane a (x + 3 * y) x) (laneOffsets.getD ((x + 3 * y) % 5 + 5 * x) 0)

/-- One round of the permutation. -/
def keccakRound (a : List DWord) (rc : DWord) : List DWord :=
  let t := mixColumns a
  let b := lanesOf (movedLane t)
  let c := lanesOf (fun x y => keccakLane b x y ^^^ (~~~(keccakLane b (x + 1) y) &&& keccakLane b (x + 2) y))
  c.set 0 (keccakLane c 0 0 ^^^ rc)

/-- The permutation on 1,600 bits. -/
def keccak (a : List DWord) : List DWord := roundConstants.foldl keccakRound a

/-- Absorbs blocks of 136 bytes. -/
def absorb (bs : List Byte) : Nat → List DWord → List DWord
  | 0, a => a
  | n + 1, a =>
    let block := bs.take 136
    let a := (List.range 17).foldl (fun a k => a.set k (a.getD k 0#64 ^^^ BitVec.ofNat 64 (bytesNat ((block.drop (8 * k)).take 8)))) a
    absorb (bs.drop 136) n (keccak a)

/-- SHAKE256 with a 64-byte output (R314). -/
def shake256 (m : List Byte) : List Byte :=
  let n := m.length / 136 + 1
  let padded := m ++ [0x1F#8] ++ List.replicate (136 * n - m.length - 1) 0#8
  let padded := padded.set (136 * n - 1) (padded.getD (136 * n - 1) 0#8 ||| 0x80#8)
  ((absorb padded n (List.replicate 25 0#64)).take 8).flatMap (fun l => natBytes 8 l.toNat)

/-- The digests of some firmware images (R314). -/
def digests (images : List (List Byte)) : List Byte := images.flatMap shake256

/-- The measurement registers extended by the digest of an image (R314). -/
def extend (regs : List (List Byte)) (k : Nat) (image : List Byte) : List (List Byte) :=
  regs.set (Config.measureIndex k % 8) (shake256 (regs.getD (Config.measureIndex k % 8) [] ++ shake256 image))

/-- The measurement registers after the boot of some images (R314). -/
def measured (images : List (List Byte)) : List (List Byte) :=
  (List.range images.length).foldl (fun r k => extend r k (images.getD k [])) (List.replicate 8 (List.replicate 64 0#8))

end Sys2Proof.Machine
end

