-- ==== Sys2Proof/Syntax.lean ====
section
/-!
DEFINITION. The instructions and steps of the machine: one constructor per row of spec/opcode_table.json.
The first 190 are instruction words (R98 to R112); the others are steps of the device and of the host, which have
no word and carry what the outside chooses (a host's answer, a written value) or which unit acts.
-/

namespace Sys2Proof

/-- Where a translation leads: device memory, host memory, or a peer module (R285, R329). -/
inductive Target where
  | dpa (a : Nat)
  | host (a : Nat)
  | peer (module a : Nat)
  deriving DecidableEq, Repr

/-- A Translation Completion (R285): access granted to a page of `size` bytes at `base`, no access, or an error. -/
inductive XAnswer where
  | grant (base size : Nat) (target : Target) (r w : Bool)
  | noAccess
  | error
  deriving DecidableEq, Repr

/-- The answers to a page request (R287). -/
inductive PageAnswer where
  | success
  | invalidRequest
  | responseFailure
  deriving DecidableEq, Repr

/-- A request of a peer module that arrives over Relune Link (R313): it names device physical addresses. -/
inductive PeerOp where
  | read (a n : Nat)
  | write (a : Nat) (bytes : List Byte) (pois : List Nat)
  | atomic (fn : Nat) (a : Nat) (d n : Word)
  deriving DecidableEq, Repr

/-- The caches a line is evicted from or refilled into of the device's own accord (R171, R191). -/
inductive CacheLevel where
  | l1Evict
  | l1Refill
  | clusterEvict
  | clusterRefill
  | icacheEvict
  deriving DecidableEq, Repr

/-- One constructor per row of the opcode table. Field names are the table's: d, a, b, e registers, g guard,
i immediate, n amount or accumulator, o branch offset. -/
inductive Instr where
  /-- NOP (R393): Changes no state and completes in its issue ck. -/
  | nop
  /-- EXIT (R357): Ends the whole wave, releases its shared resources and makes an error delivery to a nonzero future handle. -/
  | exit
  /-- TRAP (R439): Sends the issuing arm to the job's trap entry with cause 0x01 and the given code. -/
  | trap (i : BitVec 13)
  /-- BRK (R338): Sends the issuing arm to the trap entry with cause 0x02 and the given code. -/
  | brk (i : BitVec 13)
  /-- PREOFF (R274): Opens a switch-deferral window of n ck when no window is open and no switch is pending. -/
  | preoff (a : BitVec 6)
  /-- PREON (R274): Closes the wave's PREOFF window by setting PRES to 0. -/
  | preon
  /-- GETC (R368): Copies a control register into a scalar register, capturing the whole cycle count when it reads CYCL. -/
  | getc (d : BitVec 6) (i : BitVec 13)
  /-- SETC (R413): Writes a scalar register into a writable control register, with EXM masked by the entry mask and FLAGS written after earlier flag producers. -/
  | setc (a : BitVec 6) (i : BitVec 13)
  /-- FENCE (R359): Waits until the wave's earlier accesses are performed and writes back L1 dirty bytes to the level of its scope. -/
  | fence (s : BitVec 3)
  /-- ACQ (R325): Performs an acquire at its scope, discarding clean copies matched by published signatures. -/
  | acq (s : BitVec 3)
  /-- REL (R404): Performs a release at its scope, writing back dirty data and publishing the write signature. -/
  | rel (s : BitVec 3)
  /-- DRAIN (R355): Holds the arm until at most n of the wave's earlier store instructions remain outstanding. -/
  | drain (n : BitVec 13)
  /-- RDVI (R402): Sets the expected arrival count of a rendezvous point. -/
  | rdvi (a : BitVec 6) (p : BitVec 5)
  /-- RDVA (R402): Releases at cluster scope and counts one arrival at a rendezvous point, completing the phase when the count is reached. -/
  | rdva (p : BitVec 5)
  /-- RDVW (R402): Waits until the wave's phase at a rendezvous point completes or the team is abandoned, then acquires at cluster scope. -/
  | rdvw (p : BitVec 5)
  /-- SMAP (R420): Maps a stream port register of the wave to one of the team's FIFO bank rings. -/
  | smap (b : BitVec 6) (p : BitVec 2)
  /-- SUNMAP (R420): Ends the wave's mapping of a stream port once no instruction naming the port is pending. -/
  | sunmap (p : BitVec 2)
  /-- MQCFG (R390): Enables or disables the core's message ports for the issuing wave. -/
  | mqcfg (e : BitVec 1)
  /-- TEND (R93): Writes back staged tiles, releases at device scope, delivers the value pair to the task's future and ends the wave. -/
  | tend (a : BitVec 6)
  /-- PTAKE (R227): Takes the core's pennant or queues the wave for it, holding the arm until held. -/
  | ptake
  /-- PPASS (R227): Passes the held pennant to the wave in a named slot after the holder's matrix operations end. -/
  | ppass (a : BitVec 6)
  /-- PPASS_FREE (R227): Passes the held pennant to the oldest queued wave, or frees it, after the holder's matrix operations end. -/
  | ppassFree
  /-- RET (R405): Jumps to the byte address held in a register pair, s62 by default. -/
  | ret (a : BitVec 6)
  /-- JMP (R371): Moves the arm's PC to the packet at the byte address held in a register pair. -/
  | jmp (a : BitVec 6)
  /-- MERGE (R57): Ends an arm of a split group, popping a stacked part or resuming the parent when the last part merges. -/
  | merge
  /-- CWAIT (R344): Waits until a completion object's REM reads 0 and then acquires at cluster scope. -/
  | cwait (a : BitVec 6)
  /-- SADD (R407): Writes the 32-bit sum of two scalar registers. -/
  | sadd (d : BitVec 6) (a : BitVec 6) (b : BitVec 6)
  /-- SSUB (R407): Writes the 32-bit difference of two scalar registers. -/
  | ssub (d : BitVec 6) (a : BitVec 6) (b : BitVec 6)
  /-- SMUL (R407): Writes bits [31:0] of the product of two scalar registers. -/
  | smul (d : BitVec 6) (a : BitVec 6) (b : BitVec 6)
  /-- SMULH (R407): Writes bits [63:32] of the signed or unsigned product of two scalar registers. -/
  | smulh (d : BitVec 6) (a : BitVec 6) (b : BitVec 6) (u : BitVec 1)
  /-- SAND (R407): Writes the bitwise AND of two scalar registers. -/
  | sand (d : BitVec 6) (a : BitVec 6) (b : BitVec 6)
  /-- SOR (R407): Writes the bitwise OR of two scalar registers. -/
  | sor (d : BitVec 6) (a : BitVec 6) (b : BitVec 6)
  /-- SXOR (R407): Writes the bitwise XOR of two scalar registers. -/
  | sxor (d : BitVec 6) (a : BitVec 6) (b : BitVec 6)
  /-- SANDN (R407): Writes a AND NOT b of two scalar registers. -/
  | sandn (d : BitVec 6) (a : BitVec 6) (b : BitVec 6)
  /-- SSHL (R407): Shifts a scalar left by the low five bits of another. -/
  | sshl (d : BitVec 6) (a : BitVec 6) (b : BitVec 6)
  /-- SSHR (R407): Shifts a scalar right, logically or arithmetically by x[0], by the low five bits of another. -/
  | sshr (d : BitVec 6) (a : BitVec 6) (b : BitVec 6) (u : BitVec 1)
  /-- SSRA (R407): Shifts a scalar right arithmetically by the low five bits of another. -/
  | ssra (d : BitVec 6) (a : BitVec 6) (b : BitVec 6)
  /-- SMIN (R407): Writes the signed or unsigned minimum of two scalars. -/
  | smin (d : BitVec 6) (a : BitVec 6) (b : BitVec 6) (u : BitVec 1)
  /-- SMAX (R407): Writes the signed or unsigned maximum of two scalars. -/
  | smax (d : BitVec 6) (a : BitVec 6) (b : BitVec 6) (u : BitVec 1)
  /-- SSEL (R407): Writes a when the old destination is nonzero, otherwise b. -/
  | ssel (d : BitVec 6) (a : BitVec 6) (b : BitVec 6)
  /-- SCMP (R411): Writes 1 when the coded condition holds between two scalars, otherwise 0. -/
  | scmp (d : BitVec 6) (a : BitVec 6) (b : BitVec 6) (k : BitVec 3)
  /-- SDIV (R128): Writes the truncated quotient or remainder of a signed or unsigned scalar division, without a fault for zero. -/
  | sdiv (d : BitVec 6) (a : BitVec 6) (b : BitVec 6) (u : BitVec 1) (v : BitVec 1)
  /-- SBFX (R409): Extracts a signed or unsigned bit field of a scalar under a control word. -/
  | sbfx (d : BitVec 6) (a : BitVec 6) (b : BitVec 6) (u : BitVec 1)
  /-- SBFI (R409): Inserts a bit field into the old destination under a control word. -/
  | sbfi (d : BitVec 6) (a : BitVec 6) (b : BitVec 6)
  /-- SCLZ (R410): Writes the number of leading zero bits of a scalar. -/
  | sclz (d : BitVec 6) (a : BitVec 6)
  /-- SPOPC (R410): Writes the number of set bits of a scalar. -/
  | spopc (d : BitVec 6) (a : BitVec 6)
  /-- SMOV (R418): Copies one scalar register to another. -/
  | smov (d : BitVec 6) (a : BitVec 6)
  /-- SXGET (R435): Reads scalar register q, or a message port, by an index held in a register. -/
  | sxget (d : BitVec 6) (a : BitVec 6)
  /-- SXSET (R435): Writes scalar register q, or a message port, by an index held in a register. -/
  | sxset (a : BitVec 6) (b : BitVec 6)
  /-- MASKP (R382): Copies all 32 lanes of a predicate into a scalar. -/
  | maskp (d : BitVec 6) (p : BitVec 3)
  /-- PMASK (R396): Writes a predicate from a scalar in the lanes of the arm's EXM. -/
  | pmask (p : BitVec 3) (a : BitVec 6)
  /-- VOTE (R459): Writes per-tile any, all, none or a ballot of a predicate over the arm's EXM into a scalar. -/
  | vote (d : BitVec 6) (p : BitVec 3) (u : BitVec 2)
  /-- SADD_IMM (R407): Adds a sign-extended immediate to a scalar. -/
  | saddImm (d : BitVec 6) (a : BitVec 6) (i : BitVec 13)
  /-- SAND_IMM (R407): ANDs a scalar with a sign-extended immediate. -/
  | sandImm (d : BitVec 6) (a : BitVec 6) (i : BitVec 13)
  /-- SOR_IMM (R407): ORs a scalar with a sign-extended immediate. -/
  | sorImm (d : BitVec 6) (a : BitVec 6) (i : BitVec 13)
  /-- SXOR_IMM (R407): XORs a scalar with a sign-extended immediate. -/
  | sxorImm (d : BitVec 6) (a : BitVec 6) (i : BitVec 13)
  /-- SSHL_IMM (R407): Shifts a scalar left by an immediate amount. -/
  | sshlImm (d : BitVec 6) (a : BitVec 6) (n : BitVec 6)
  /-- SSHR_IMM (R407): Shifts a scalar right logically by an immediate amount. -/
  | sshrImm (d : BitVec 6) (a : BitVec 6) (n : BitVec 6)
  /-- SSRA_IMM (R407): Shifts a scalar right arithmetically by an immediate amount. -/
  | ssraImm (d : BitVec 6) (a : BitVec 6) (n : BitVec 6)
  /-- SCMP_IMM (R411): Writes 1 when the coded condition holds between a scalar and a sign-extended imm10. -/
  | scmpImm (d : BitVec 6) (a : BitVec 6) (k : BitVec 3) (i : BitVec 10)
  /-- SMOVI (R418): Writes a sign-extended 19-bit immediate to a scalar. -/
  | smovi (d : BitVec 6) (i : BitVec 19)
  /-- SLIH (R418): Writes bits [31:19] of a scalar from an immediate, keeping bits [18:0]. -/
  | slih (d : BitVec 6) (i : BitVec 13)
  /-- LDS (R381): Loads one global word into a scalar register. -/
  | lds (d : BitVec 6) (a : BitVec 6) (i : BitVec 13)
  /-- STS (R431): Stores one scalar word to global memory through L1. -/
  | sts (d : BitVec 6) (a : BitVec 6) (i : BitVec 13)
  /-- LDACQ (R376): Reads a global word at the level of its scope and then acquires at that scope. -/
  | ldacq (d : BitVec 6) (a : BitVec 6) (s : BitVec 3) (w : BitVec 10)
  /-- STREL (R430): Releases at its scope and then writes a word through to the level of that scope. -/
  | strel (d : BitVec 6) (a : BitVec 6) (s : BitVec 3) (w : BitVec 10)
  /-- ATOMS (R328): Performs a scalar atomic on one word at the level of its scope, optionally returning the old value. -/
  | atoms (d : BitVec 6) (a : BitVec 6) (b : BitVec 6) (s : BitVec 3) (f : BitVec 4)
  /-- BRA (R337): Branches the arm by a signed 25-bit packet offset. -/
  | bra (o : BitVec 25)
  /-- CALL (R339): Writes the return byte address to s62:s63 and branches by a packet offset. -/
  | call (o : BitVec 25)
  /-- BZ (R335): Branches when a scalar register is zero. -/
  | bz (a : BitVec 6) (o : BitVec 16)
  /-- BNZ (R335): Branches when a scalar register is nonzero. -/
  | bnz (a : BitVec 6) (o : BitVec 16)
  /-- BANY (R333): Branches the whole arm when some active lane, per tile in tile mode, has the predicate set. -/
  | bany (p : BitVec 3) (t : BitVec 1) (o : BitVec 16)
  /-- BALL (R333): Branches the whole arm when every active lane, per tile in tile mode, has the predicate set. -/
  | ball (p : BitVec 3) (t : BitVec 1) (o : BitVec 16)
  /-- BNONE (R333): Branches the whole arm when no active lane, per tile in tile mode, has the predicate set. -/
  | bnone (p : BitVec 3) (t : BitVec 1) (o : BitVec 16)
  /-- SPLIT (R56): Divides the arm's active lanes by a predicate into fall-through and taken parts, opening a group. -/
  | split (p : BitVec 3) (o : BitVec 16)
  /-- SWITCH (R433): Divides the arm's lanes into up to nine parts by matching lane values against a scalar table. -/
  | switch (a : BitVec 6) (v : BitVec 6) (n : BitVec 3)
  /-- SPAWN_S (R80): Releases at core scope and pushes a closure from s0-s31 or s32-s63 onto the hot end of the core's deque. -/
  | spawnS (a : BitVec 1)
  /-- SPAWN_L (R80): Releases at core scope and pushes a closure read from 128 bytes of SCRATCH onto the core's deque. -/
  | spawnL (a : BitVec 6)
  /-- FNEW (R91): Writes a future cell with a count, a combine operation and its initial value in one atomic write. -/
  | fnew (a : BitVec 6) (b : BitVec 6) (u : BitVec 3)
  /-- FJOIN (R91): Releases at device scope, checks a continuation line and registers it on a future cell, pushing it when the count is 0. -/
  | fjoin (a : BitVec 6) (b : BitVec 6)
  /-- FWAIT (R365): Reads a future cell and returns its value with a device acquire when resolved, otherwise parks the arm. -/
  | fwait (d : BitVec 6) (a : BitVec 6)
  /-- FPUT (R364): Releases at device scope and delivers a value to a future cell. -/
  | fput (a : BitVec 6) (b : BitVec 6)
  /-- COPY (R341): Checks a copy descriptor, adds its total to REM and queues a copy with conversion on the copy engine. -/
  | copy (a : BitVec 6)
  /-- COPY_M (R216): Queues a copy whose landing starts a follow-on MMA placed in matrix order at issue. -/
  | copyM (a : BitVec 6) (b : BitVec 6) (l : BitVec 3) (n : BitVec 3)
  /-- MMA (R386): Checks shape records and queues a matrix multiply-accumulate into an accumulator tile. -/
  | mma (a : BitVec 6) (l : BitVec 3) (n : BitVec 3)
  /-- MMA_MC (R228): Queues an MMA whose B operand may be fetched once and shared among matching cores of a mask. -/
  | mmaMc (a : BitVec 6) (b : BitVec 6) (l : BitVec 3) (n : BitVec 3)
  /-- ACCZ (R322): Queues the zeroing of a whole accumulator tile and clearing of its poison mark. -/
  | accz (n : BitVec 3)
  /-- ACCLD (R322): Queues a load of SCRATCH elements, widened to f32, into an accumulator tile. -/
  | accld (a : BitVec 6) (l : BitVec 3) (n : BitVec 3)
  /-- ACCST (R322): Queues a store of accumulator elements, narrowed to the slot's format, into SCRATCH. -/
  | accst (a : BitVec 6) (l : BitVec 3) (n : BitVec 3)
  /-- CXOPEN_INTERSECT (R239): Checks two stream descriptors and opens a cursor in INTERSECT mode. -/
  | cxopenIntersect (a : BitVec 6) (b : BitVec 6) (n : BitVec 2)
  /-- CXOPEN_UNION (R239): Checks two stream descriptors and opens a cursor in UNION mode. -/
  | cxopenUnion (a : BitVec 6) (b : BitVec 6) (n : BitVec 2)
  /-- CXOPEN_EXPAND (R239): Checks a descriptor, reads its row pointers and opens a cursor in EXPAND mode. -/
  | cxopenExpand (a : BitVec 6) (n : BitVec 2)
  /-- CXNEXT (R240): Fills the enabled lanes with the cursor's next survivors and writes a status with the count and done bit. -/
  | cxnext (v : BitVec 6) (d : BitVec 6) (p : BitVec 3) (n : BitVec 2)
  /-- CXSPLIT (R247): Searches a cursor's remaining work and writes k balanced cursor images into SCRATCH. -/
  | cxsplit (a : BitVec 6) (b : BitVec 6) (n : BitVec 2)
  /-- CXSAVE (R244): Writes the 64-byte image of an open cursor to SCRATCH. -/
  | cxsave (a : BitVec 6) (n : BitVec 2)
  /-- CXLOAD (R245): Checks a cursor image in SCRATCH and opens the cursor with that state. -/
  | cxload (a : BitVec 6) (n : BitVec 2)
  /-- CXLOAD_S (R245): Checks a cursor image held in 16 scalar registers and opens the cursor with that state. -/
  | cxloadS (a : BitVec 6) (n : BitVec 2)
  /-- CXCLOSE (R246): Releases and clears a cursor. -/
  | cxclose (n : BitVec 2)
  /-- VADD (R442): Writes the per-lane 32-bit sum of two vectors. -/
  | vadd (d : BitVec 6) (a : BitVec 6) (b : BitVec 6) (g : BitVec 3)
  /-- VSUB (R442): Writes the per-lane 32-bit difference of two vectors. -/
  | vsub (d : BitVec 6) (a : BitVec 6) (b : BitVec 6) (g : BitVec 3)
  /-- VMUL (R442): Writes the low 32 bits of the per-lane product. -/
  | vmul (d : BitVec 6) (a : BitVec 6) (b : BitVec 6) (g : BitVec 3)
  /-- VMULH_I (R442): Writes the high 32 bits of the signed per-lane product. -/
  | vmulhI (d : BitVec 6) (a : BitVec 6) (b : BitVec 6) (g : BitVec 3)
  /-- VAND (R442): Writes the per-lane AND of two vectors. -/
  | vand (d : BitVec 6) (a : BitVec 6) (b : BitVec 6) (g : BitVec 3)
  /-- VOR (R442): Writes the per-lane OR of two vectors. -/
  | vor (d : BitVec 6) (a : BitVec 6) (b : BitVec 6) (g : BitVec 3)
  /-- VXOR (R442): Writes the per-lane XOR of two vectors. -/
  | vxor (d : BitVec 6) (a : BitVec 6) (b : BitVec 6) (g : BitVec 3)
  /-- VANDN (R442): Writes the per-lane a AND NOT b. -/
  | vandn (d : BitVec 6) (a : BitVec 6) (b : BitVec 6) (g : BitVec 3)
  /-- VSHL (R442): Shifts each lane left by the low five bits of b. -/
  | vshl (d : BitVec 6) (a : BitVec 6) (b : BitVec 6) (g : BitVec 3)
  /-- VSHR (R442): Shifts each lane right logically by the low five bits of b. -/
  | vshr (d : BitVec 6) (a : BitVec 6) (b : BitVec 6) (g : BitVec 3)
  /-- VSRA (R442): Shifts each lane right arithmetically by the low five bits of b. -/
  | vsra (d : BitVec 6) (a : BitVec 6) (b : BitVec 6) (g : BitVec 3)
  /-- VMIN_I (R442): Writes the signed per-lane minimum. -/
  | vminI (d : BitVec 6) (a : BitVec 6) (b : BitVec 6) (g : BitVec 3)
  /-- VMAX_I (R442): Writes the signed per-lane maximum. -/
  | vmaxI (d : BitVec 6) (a : BitVec 6) (b : BitVec 6) (g : BitVec 3)
  /-- VSEL (R462): Selects va or vb per lane by a predicate under EXM. -/
  | vsel (d : BitVec 6) (a : BitVec 6) (b : BitVec 6) (q : BitVec 3)
  /-- VMOV (R442): Copies one vector register to another in the enabled lanes. -/
  | vmov (d : BitVec 6) (a : BitVec 6) (g : BitVec 3)
  /-- VBCAST (R444): Writes a scalar register into every enabled lane. -/
  | vbcast (d : BitVec 6) (a : BitVec 6) (g : BitVec 3)
  /-- VMIN_N (R442): Writes the unsigned per-lane minimum. -/
  | vminN (d : BitVec 6) (a : BitVec 6) (b : BitVec 6) (g : BitVec 3)
  /-- VMAX_N (R442): Writes the unsigned per-lane maximum. -/
  | vmaxN (d : BitVec 6) (a : BitVec 6) (b : BitVec 6) (g : BitVec 3)
  /-- VMULH_N (R442): Writes the high 32 bits of the unsigned per-lane product. -/
  | vmulhN (d : BitVec 6) (a : BitVec 6) (b : BitVec 6) (g : BitVec 3)
  /-- VBFX_I (R445): Extracts a signed bit field per lane under a per-lane control word. -/
  | vbfxI (d : BitVec 6) (a : BitVec 6) (b : BitVec 6) (g : BitVec 3)
  /-- VBFX_N (R445): Extracts an unsigned bit field per lane under a per-lane control word. -/
  | vbfxN (d : BitVec 6) (a : BitVec 6) (b : BitVec 6) (g : BitVec 3)
  /-- VBFI (R445): Inserts a bit field into each lane of the old destination. -/
  | vbfi (d : BitVec 6) (a : BitVec 6) (b : BitVec 6) (g : BitVec 3)
  /-- VCLZ (R446): Writes the per-lane count of leading zero bits. -/
  | vclz (d : BitVec 6) (a : BitVec 6) (g : BitVec 3)
  /-- VPOPC (R446): Writes the per-lane count of set bits. -/
  | vpopc (d : BitVec 6) (a : BitVec 6) (g : BitVec 3)
  /-- VBREV (R446): Writes each lane with its bits reversed. -/
  | vbrev (d : BitVec 6) (a : BitVec 6) (g : BitVec 3)
  /-- VLANEID (R457): Writes each enabled lane's number into the lane. -/
  | vlaneid (d : BitVec 6) (g : BitVec 3)
  /-- VMAD (R458): Writes the low 32 bits of a × b + c, or −(a × b) + c, per lane. -/
  | vmad (d : BitVec 6) (a : BitVec 6) (b : BitVec 6) (e : BitVec 6) (n : BitVec 1)
  /-- VADD_IMM (R442): Adds a sign-extended immediate to each lane. -/
  | vaddImm (d : BitVec 6) (a : BitVec 6) (i : BitVec 13)
  /-- VAND_IMM (R442): ANDs each lane with a sign-extended immediate. -/
  | vandImm (d : BitVec 6) (a : BitVec 6) (i : BitVec 13)
  /-- VOR_IMM (R442): ORs each lane with a sign-extended immediate. -/
  | vorImm (d : BitVec 6) (a : BitVec 6) (i : BitVec 13)
  /-- VXOR_IMM (R442): XORs each lane with a sign-extended immediate. -/
  | vxorImm (d : BitVec 6) (a : BitVec 6) (i : BitVec 13)
  /-- VSHL_IMM (R442): Shifts each lane left by an immediate amount. -/
  | vshlImm (d : BitVec 6) (a : BitVec 6) (n : BitVec 6)
  /-- VSHR_IMM (R442): Shifts each lane right logically by an immediate amount. -/
  | vshrImm (d : BitVec 6) (a : BitVec 6) (n : BitVec 6)
  /-- VSRA_IMM (R442): Shifts each lane right arithmetically by an immediate amount. -/
  | vsraImm (d : BitVec 6) (a : BitVec 6) (n : BitVec 6)
  /-- VMOV_IMM (R442): Writes a sign-extended immediate into each lane under EXM. -/
  | vmovImm (d : BitVec 6) (i : BitVec 13)
  /-- VCMP_INT (R448): Compares two integer vectors per lane and merges the result into two predicates. -/
  | vcmpInt (p : BitVec 3) (q : BitVec 3) (a : BitVec 6) (b : BitVec 6) (t : BitVec 3) (k : BitVec 4)
  /-- VCMP_IMM (R448): Compares an integer vector with an imm6 per lane and merges the result into two predicates. -/
  | vcmpImm (p : BitVec 3) (q : BitVec 3) (a : BitVec 6) (i : BitVec 6) (t : BitVec 3) (k : BitVec 4)
  /-- VCMP_F32 (R448): Compares two f32 vectors per lane under a float condition and merges the result into two predicates. -/
  | vcmpF32 (p : BitVec 3) (q : BitVec 3) (a : BitVec 6) (b : BitVec 6) (t : BitVec 3) (k : BitVec 4)
  /-- VFADD_F32 (R451): Adds f32 lanes, rounding once in MODE. -/
  | vfaddF32 (d : BitVec 6) (a : BitVec 6) (b : BitVec 6) (g : BitVec 3)
  /-- VFSUB_F32 (R451): Subtracts f32 lanes, rounding once in MODE. -/
  | vfsubF32 (d : BitVec 6) (a : BitVec 6) (b : BitVec 6) (g : BitVec 3)
  /-- VFMUL_F32 (R451): Multiplies f32 lanes, rounding once in MODE. -/
  | vfmulF32 (d : BitVec 6) (a : BitVec 6) (b : BitVec 6) (g : BitVec 3)
  /-- VFMIN_F32 (R456): Writes minimumNumber of f32 lanes. -/
  | vfminF32 (d : BitVec 6) (a : BitVec 6) (b : BitVec 6) (g : BitVec 3)
  /-- VFMAX_F32 (R456): Writes maximumNumber of f32 lanes. -/
  | vfmaxF32 (d : BitVec 6) (a : BitVec 6) (b : BitVec 6) (g : BitVec 3)
  /-- VFDIV (R454): Divides f32 lanes on the SFU pipe, correctly rounded in the captured mode. -/
  | vfdiv (d : BitVec 6) (a : BitVec 6) (b : BitVec 6) (g : BitVec 3)
  /-- VFSQRT (R454): Takes the correctly rounded square root of f32 lanes on the SFU pipe. -/
  | vfsqrt (d : BitVec 6) (a : BitVec 6) (g : BitVec 3)
  /-- VRCP (R454): Takes the correctly rounded reciprocal of f32 lanes. -/
  | vrcp (d : BitVec 6) (a : BitVec 6) (g : BitVec 3)
  /-- VRSQ (R454): Takes the correctly rounded reciprocal square root of f32 lanes. -/
  | vrsq (d : BitVec 6) (a : BitVec 6) (g : BitVec 3)
  /-- VEXP2 (R450): Computes 2 to the power of each f32 lane within 2 ulp. -/
  | vexp2 (d : BitVec 6) (a : BitVec 6) (g : BitVec 3)
  /-- VLOG2 (R450): Computes the base-2 logarithm of each f32 lane within 2 ulp. -/
  | vlog2 (d : BitVec 6) (a : BitVec 6) (g : BitVec 3)
  /-- VSIN (R450): Computes the sine of each f32 lane within 2 ulp. -/
  | vsin (d : BitVec 6) (a : BitVec 6) (g : BitVec 3)
  /-- VCOS (R450): Computes the cosine of each f32 lane within 2 ulp. -/
  | vcos (d : BitVec 6) (a : BitVec 6) (g : BitVec 3)
  /-- VTANH (R450): Computes the hyperbolic tangent of each f32 lane within 2 ulp. -/
  | vtanh (d : BitVec 6) (a : BitVec 6) (g : BitVec 3)
  /-- VFCLASS_F32 (R452): Writes the class word of each f32 lane. -/
  | vfclassF32 (d : BitVec 6) (a : BitVec 6) (g : BitVec 3)
  /-- VFCVT_F32 (R453): Applies the conversion selected by a 6-bit code to each lane. -/
  | vfcvtF32 (d : BitVec 6) (a : BitVec 6) (k : BitVec 6) (g : BitVec 3)
  /-- VFADD_F16X2 (R451): Adds packed f16 halves, rounding each once in MODE. -/
  | vfaddF16x2 (d : BitVec 6) (a : BitVec 6) (b : BitVec 6) (g : BitVec 3)
  /-- VFSUB_F16X2 (R451): Subtracts packed f16 halves. -/
  | vfsubF16x2 (d : BitVec 6) (a : BitVec 6) (b : BitVec 6) (g : BitVec 3)
  /-- VFMUL_F16X2 (R451): Multiplies packed f16 halves. -/
  | vfmulF16x2 (d : BitVec 6) (a : BitVec 6) (b : BitVec 6) (g : BitVec 3)
  /-- VFMIN_F16X2 (R456): Writes minimumNumber of packed f16 halves. -/
  | vfminF16x2 (d : BitVec 6) (a : BitVec 6) (b : BitVec 6) (g : BitVec 3)
  /-- VFMAX_F16X2 (R456): Writes maximumNumber of packed f16 halves. -/
  | vfmaxF16x2 (d : BitVec 6) (a : BitVec 6) (b : BitVec 6) (g : BitVec 3)
  /-- VFCLASS_F16X2 (R452): Writes the class bits of both f16 halves. -/
  | vfclassF16x2 (d : BitVec 6) (a : BitVec 6) (g : BitVec 3)
  /-- VFCVT_F16X2 (R145): Converts both halves of a packed f16 or 16-bit integer register by a code. -/
  | vfcvtF16x2 (d : BitVec 6) (a : BitVec 6) (k : BitVec 6) (g : BitVec 3)
  /-- VFADD_BF16X2 (R451): Adds packed bf16 halves, rounding each once in MODE. -/
  | vfaddBf16x2 (d : BitVec 6) (a : BitVec 6) (b : BitVec 6) (g : BitVec 3)
  /-- VFSUB_BF16X2 (R451): Subtracts packed bf16 halves. -/
  | vfsubBf16x2 (d : BitVec 6) (a : BitVec 6) (b : BitVec 6) (g : BitVec 3)
  /-- VFMUL_BF16X2 (R451): Multiplies packed bf16 halves. -/
  | vfmulBf16x2 (d : BitVec 6) (a : BitVec 6) (b : BitVec 6) (g : BitVec 3)
  /-- VFMIN_BF16X2 (R456): Writes minimumNumber of packed bf16 halves. -/
  | vfminBf16x2 (d : BitVec 6) (a : BitVec 6) (b : BitVec 6) (g : BitVec 3)
  /-- VFMAX_BF16X2 (R456): Writes maximumNumber of packed bf16 halves. -/
  | vfmaxBf16x2 (d : BitVec 6) (a : BitVec 6) (b : BitVec 6) (g : BitVec 3)
  /-- VFCLASS_BF16X2 (R452): Writes the class bits of both bf16 halves. -/
  | vfclassBf16x2 (d : BitVec 6) (a : BitVec 6) (g : BitVec 3)
  /-- VFCVT_BF16X2 (R145): Converts both halves of a packed bf16 or 16-bit integer register by a code. -/
  | vfcvtBf16x2 (d : BitVec 6) (a : BitVec 6) (k : BitVec 6) (g : BitVec 3)
  /-- VFMA_F32 (R455): Computes a × b + c, or its negated-product form, in f32 with one rounding. -/
  | vfmaF32 (d : BitVec 6) (a : BitVec 6) (b : BitVec 6) (e : BitVec 6) (n : BitVec 1)
  /-- VFMA_F16X2 (R455): Computes a fused multiply-add on packed f16 halves. -/
  | vfmaF16x2 (d : BitVec 6) (a : BitVec 6) (b : BitVec 6) (e : BitVec 6) (n : BitVec 1)
  /-- VFMA_BF16X2 (R455): Computes a fused multiply-add on packed bf16 halves. -/
  | vfmaBf16x2 (d : BitVec 6) (a : BitVec 6) (b : BitVec 6) (e : BitVec 6) (n : BitVec 1)
  /-- PAND (R394): Writes the per-lane AND of two predicates. -/
  | pand (d : BitVec 3) (a : BitVec 3) (b : BitVec 3) (g : BitVec 3)
  /-- POR (R394): Writes the per-lane OR of two predicates. -/
  | por (d : BitVec 3) (a : BitVec 3) (b : BitVec 3) (g : BitVec 3)
  /-- PXOR (R394): Writes the per-lane XOR of two predicates. -/
  | pxor (d : BitVec 3) (a : BitVec 3) (b : BitVec 3) (g : BitVec 3)
  /-- PNOT (R394): Writes the per-lane complement of a predicate. -/
  | pnot (d : BitVec 3) (a : BitVec 3) (g : BitVec 3)
  /-- SHFL_IDX (R416): Reads each lane's value from the tile lane named by a vector of indices. -/
  | shflIdx (d : BitVec 6) (a : BitVec 6) (b : BitVec 6) (g : BitVec 3)
  /-- SHFL_UP (R416): Reads each lane's value from the lane a scalar distance below it within its tile. -/
  | shflUp (d : BitVec 6) (a : BitVec 6) (b : BitVec 6) (g : BitVec 3)
  /-- SHFL_DOWN (R416): Reads each lane's value from the lane a scalar distance above it within its tile. -/
  | shflDown (d : BitVec 6) (a : BitVec 6) (b : BitVec 6) (g : BitVec 3)
  /-- SHFL_XOR (R416): Reads each lane's value from the tile lane whose index is XORed with a scalar. -/
  | shflXor (d : BitVec 6) (a : BitVec 6) (b : BitVec 6) (g : BitVec 3)
  /-- SHFL_BCAST (R416): Broadcasts one lane of each tile, named by a scalar, to the tile. -/
  | shflBcast (d : BitVec 6) (a : BitVec 6) (b : BitVec 6) (g : BitVec 3)
  /-- VRED (R461): Reduces each tile's enabled lanes in ascending lane order and writes the result to them. -/
  | vred (d : BitVec 6) (a : BitVec 6) (g : BitVec 3) (f : BitVec 3)
  /-- VSCAN (R461): Writes the inclusive or exclusive running combination of each tile's enabled lanes. -/
  | vscan (d : BitVec 6) (a : BitVec 6) (k : BitVec 1) (f : BitVec 3)
  /-- LD (R373): Loads per-lane global data of the given size into a register group marked empty until the data arrives. -/
  | ld (d : BitVec 6) (a : BitVec 6) (b : BitVec 6) (g : BitVec 3) (n : BitVec 1) (z : BitVec 3)
  /-- ST (R425): Stores per-lane data to global memory through L1, sending untranslated lanes to the side log. -/
  | st (d : BitVec 6) (a : BitVec 6) (b : BitVec 6) (g : BitVec 3) (n : BitVec 1) (z : BitVec 3)
  /-- LDL (R379): Loads per-lane SCRATCH data of the given size at the banks. -/
  | ldl (d : BitVec 6) (a : BitVec 6) (b : BitVec 6) (g : BitVec 3) (z : BitVec 3)
  /-- LDL_W (R379): Waits per lane until its granule is full, then reads it and leaves it full. -/
  | ldlW (d : BitVec 6) (a : BitVec 6) (b : BitVec 6) (g : BitVec 3) (z : BitVec 1)
  /-- LDL_WC (R379): Waits per lane until its granule is full, then reads it and sets it empty. -/
  | ldlWc (d : BitVec 6) (a : BitVec 6) (b : BitVec 6) (g : BitVec 3) (z : BitVec 1)
  /-- STL (R428): Stores per-lane data into SCRATCH at the banks without touching full/empty bits. -/
  | stl (d : BitVec 6) (a : BitVec 6) (b : BitVec 6) (g : BitVec 3) (z : BitVec 3)
  /-- STL_FILL (R428): Stores per-lane data into SCRATCH and sets each written granule full. -/
  | stlFill (d : BitVec 6) (a : BitVec 6) (b : BitVec 6) (g : BitVec 3) (z : BitVec 1)
  /-- ATOM (R328): Performs a per-lane atomic on global words at the home L2 slice, returning old values. -/
  | atom (d : BitVec 6) (a : BitVec 6) (b : BitVec 6) (g : BitVec 3) (f : BitVec 4)
  /-- ATOML (R328): Performs a per-lane atomic on SCRATCH words at the bank, returning old values. -/
  | atoml (d : BitVec 6) (a : BitVec 6) (b : BitVec 6) (g : BitVec 3) (f : BitVec 4)
  /-- PREF (R398): Fills the named cache level with the lines of translated lane addresses, dropping the rest. -/
  | pref (a : BitVec 6) (b : BitVec 6) (g : BitVec 3) (f : BitVec 2)
  /-- EVENT_WRITE (R282): Writes an event entry at EQTL through ATS, releases at host scope, advances EQTL and signals the interrupt, or drops and counts it. -/
  | eventWrite (vi : Nat)
  /-- RESULT_ARRIVAL (R50): The last lane's result of a long-latency producer arrives and every destination of the instruction is marked full. -/
  | resultArrival (core slot id : Nat)
  /-- MISS_STATUS_RETRY (R175): A rejected access is retried when miss-status entries free, with the oldest claim served first. -/
  | missStatusRetry (core : Nat)
  /-- FUTURE_DELIVERY (R88): Combines a delivered value into a future cell at its home slice, decrements the count and resolves it at zero. -/
  | futureDelivery
  /-- ERROR_DELIVERY (R469): The device delivers an error to the future of an ended task or a discarded entry, or writes a KIND 7 event when it cannot. -/
  | errorDelivery
  /-- MESSAGE_ARRIVAL (R184): A message flit reaches a core and is queued if a wave of its job has the ports enabled, otherwise discarded with DROP set at the sender. -/
  | messageArrival (src dst : Nat)
  /-- TASK_DISPATCH (R81): A free task slot pops an eligible ready entry from the deque and starts a task wave from its closure. -/
  | taskDispatch (core : Nat)
  /-- STEAL (R94): A core with a free task slot and no eligible ready entry probes victims level by level and takes the first qualifying cold entry. -/
  | steal (core : Nat)
  /-- STAGING_START (R83): The prefetch engine starts copying an entry's tile operands into the staging area once it has room. -/
  | stagingStart (cluster : Nat)
  /-- STAGING_COMPLETE (R83): Every tile operand of a staged entry has landed, or the copy stopped on a violation, and the entry is marked ready. -/
  | stagingComplete (cluster : Nat)
  /-- TILE_WRITEBACK_COMPLETE (R84): A task's staged tiles have been written back to global memory and its delivery follows. -/
  | tileWritebackComplete (core slot : Nat)
  /-- COPY_START (R215): The copy engine takes the next queued copy in issue order and begins moving it. -/
  | copyStart (core : Nat)
  /-- COPY_COMPLETION (R213): A copy's last bytes land or it stops, REM is decremented and error fields are written after a device-scope publication. -/
  | copyCompletion (core : Nat)
  /-- MATRIX_OP_START (R224): The matrix engine takes the next queued operation of the core in issue order. -/
  | matrixOpStart (core : Nat)
  /-- MATRIX_OP_END (R224): A matrix operation finishes, freeing a queue place and updating MSTAT.BUSY. -/
  | matrixOpEnd (core : Nat)
  /-- BRAMBLE_OP_START (R230): The Bramble takes the next queued cursor operation of the core in issue order. -/
  | brambleOpStart (core : Nat)
  /-- MMA_MC_WINDOW_LAPSE (R228): The 64-ck matching window of an MMA.mc lapses and each unserved participant reads B itself. -/
  | mmaMcWindowLapse (core : Nat)
  /-- TEAM_PLACEMENT (R33): The scheduler places a team of the highest waiting rank on distinct cores of one cluster and gives it its banks. -/
  | teamPlacement (cluster : Nat)
  /-- ROOT_CLOSURE_PUSH (R261): The scheduler pushes a task job's root closure onto a covering core's deque. -/
  | rootClosurePush (core : Nat)
  /-- SWITCH_OUT (R272): After open PREOFF windows close, stops a unit's issue, completes or abandons in-flight work, releases at device scope and saves its state. -/
  | switchOut (core slot : Nat)
  /-- SWITCH_IN (R272): Restores a switched-out unit in the same cluster on eligible cores, acquires at device scope and resumes issue. -/
  | switchIn (unit : Nat) (cores : List Nat)
  /-- PREOFF_WINDOW_EXPIRY (R274): PRES reaches 0 and the wave's switch-deferral window closes. -/
  | preoffWindowExpiry (core slot : Nat)
  /-- PERIOD_START (R267): A contract period begins, its budget is reset to B and its waiting work is placed ahead of all priority classes. -/
  | periodStart (cid : Nat)
  /-- BUDGET_EXHAUSTED (R270): A contract's remaining budget reaches 0 and its work runs on at its job's priority class. -/
  | budgetExhausted (cid : Nat)
  /-- JOB_END (R259): A job with no resident wave, no deque entry and no waiting delivery ends, and its completion record is written after a host release. -/
  | jobEnd (jid : Nat)
  /-- SWEEP_VISIT (R301): The stack's sweep reaches the next core and starts draining it. -/
  | sweepVisit (stack : Nat)
  /-- SWEEP_TEST (R302): Once a drained core holds no wave, its scan-pattern test of every class starts. -/
  | sweepTest (core : Nat)
  /-- TEST_RESULT (R302): A test completes, failing classes are cleared from the mask, the run log is cleared and the core returns to service. -/
  | testResult (core : Nat) (failing : BitVec 64)
  /-- DRAINMAX_EXPIRY (R303): A core not drained within DRAINMAX ck has its visit skipped and the rotation moves on. -/
  | drainmaxExpiry (stack : Nat)
  /-- CORE_GATED (R316): A core drained by a gate command is gated once no wave is resident. -/
  | coreGated (core : Nat)
  /-- LAUNCH (R257): Checks a launch record and accepts the job for placement, or refuses it with a completion record. -/
  | launch (vi : Nat)
  /-- CREATE_CONTRACT (R269): Admits a real-time contract when its load, budget, bank and right tests pass. -/
  | createContract (vi : Nat)
  /-- DESTROY_CONTRACT (R269): Ends an admitted contract at the end of its current period. -/
  | destroyContract (vi : Nat)
  /-- DRAIN_JOB (R263): Drains a job, discarding its queued entries with error deliveries and letting resident waves finish. -/
  | drainJob (vi : Nat)
  /-- CMD_UNDEFINED (R254): A submission entry with an undefined CMD is refused with ERR 16. -/
  | cmdUndefined (vi : Nat)
  /-- GRAFT_READ (R296): Writes the graft table, condemned-site maps and identity certificate to a result buffer. -/
  | graftRead (vi : Nat)
  /-- REGRAFT (R295): Drains affected cores, rebinds a graft entry, tests the new core and reports the result. -/
  | regraft (vi : Nat)
  /-- CAP_READ (R295): Returns the 1,024 capability masks. -/
  | capRead (vi : Nat)
  /-- CAP_FENCE (R304): Clears the named classes from a core's capability mask in the next ck. -/
  | capFence (vi : Nat)
  /-- CAP_RETEST (R295): Clears named condemnations and fences and queues an out-of-order test of the core. -/
  | capRetest (vi : Nat)
  /-- SWEEP_SET (R295): Sets a stack's DRAINMAX and pauses or resumes its sweep rotation. -/
  | sweepSet (vi : Nat)
  /-- MIGRATE (R217): Starts a raw migration copy of a PASID's range on a copy engine of the destination's stack. -/
  | migrate (vi : Nat)
  /-- MIGRATE_END (R218): A migration copy completes or stops on a translation fault and its completion record is written. -/
  | migrateEnd (id : Nat)
  /-- GROUP_SET (R164): Changes a memory group's attribute by invalidating, zeroing and then reporting completion. -/
  | groupSet (vi : Nat)
  /-- POWER_SET_CLOCK_STEP (R316): Steps a stack's arithmetic clock to 700, 525 or 350 MHz at a ck boundary. -/
  | powerSetClockStep (vi : Nat)
  /-- POWER_SET_GATE (R316): Drains a core for gating, or ungates it. -/
  | powerSetGate (vi : Nat)
  /-- POWER_SET_HBM_REFRESH (R316): Sets an HBM stack to normal or self-refresh when idle. -/
  | powerSetHbmRefresh (vi : Nat)
  /-- ALARM_SET (R317): Sets a stack's high and low current-alarm thresholds. -/
  | alarmSet (vi : Nat)
  /-- VI_SET (R311): Binds a VF's PASID and grants its sole-cluster and contract rights. -/
  | viSet (vi : Nat)
  /-- ATTEST (R314): Returns a signed quote of the nonce, measurement registers and serial number. -/
  | attest (vi : Nat)
  /-- RETRANSMIT (R312): An unacknowledged request is sent again with the same tag over any reaching port. -/
  | retransmit (dest tag : Nat)
  /-- ILLEGAL_INSTRUCTION (R113): An arm issues a word that R110 to R112 define as no instruction and raises the illegal-instruction fault with all state unchanged. -/
  | illegalInstruction (w : Word)
  /-- BRAMBLE_OP_END (R230): A Bramble operation finishes, landing CXSAVE or CXSPLIT images with their granules set full and freeing a place in the 8-entry queue. -/
  | brambleOpEnd (core : Nat)
  /-- SQDB_WRITE (R253): A doorbell write sets the submission tail, or sets the queue error when at or above SQSZ. -/
  | sqdbWrite (vi : Nat) (v : Word)
  /-- SQBL_WRITE (R253): An accepted write of the submission base clears the queue error and restarts the queue empty. -/
  | sqblWrite (vi : Nat) (v : Word)
  /-- EQBL_WRITE (R253): An accepted write of the event queue base resets EQTL and EQHD to 0. -/
  | eqblWrite (vi : Nat) (v : Word)
  /-- VIPAS_WRITE (R253): A PF write binds the PF's PASID when it has no live job or contract. -/
  | vipasWrite (vi : Nat) (v : Word)
  /-- REGISTER_WRITE (R253): A write to another writable register of a register page is accepted or ignored by its value checks. -/
  | registerWrite (vi offset : Nat) (v : Word)
  /-- MODULE_RESET (R318): Resets the module and brings it up through secure boot, graft application, HBM training, core tests and link training. -/
  | moduleReset (v : Word)
  /-- STACK_RESET (R310): Resets an idle stack, clearing its cycle counters and returning its banks to CACHE, or is refused. -/
  | stackReset (v : Word)
  /-- CLUSTER_RESET (R310): Resets an idle cluster and returns its banks to CACHE, or is refused. -/
  | clusterReset (v : Word)
  /-- MEVT_CLEAR (R310): Writing 1 to MEVT bits clears those sticky management events. -/
  | mevtClear (v : Word)
  /-- INVENTORY (R315): Returns 64 bytes of module inventory over the management port. -/
  | inventory
  /-- SENSORS (R315): Returns 72 bytes of current, temperature and supply readings. -/
  | sensors
  /-- I3C_POWER (R315): Acts as POWER SET from the management port and returns a status byte. -/
  | i3cPower (kind : Byte) (target : BitVec 16) (value : Byte)
  /-- I3C_ATTEST (R315): Returns the signed attestation quote over the management port. -/
  | i3cAttest (nonce : List Byte)
  /-- STATUS (R315): Returns PFSTAT over the management port. -/
  | status
  /-- I3C_RESET (R315): Requests a module reset from the management port. -/
  | i3cReset
  /-- FW_WRITE (R315): Writes 64 bytes of firmware image into the staging store. -/
  | fwWrite (offset : Word) (image : List Byte)
  /-- FW_COMMIT (R315): Checks the staged image and commits it to run at the next reset. -/
  | fwCommit (length : Word)
  /-- I3C_UNKNOWN_COMMAND (R315): An unlisted or short management-port command returns the status byte 0xFF. -/
  | i3cUnknownCommand (bytes : List Byte)
  /-- TRANSLATION_COMPLETION (R285): A Translation Completion arrives and fills the TLBs, triggers a page request or raises a translation fault. -/
  | translationCompletion (pasid page : Nat) (write : Bool) (answer : XAnswer)
  /-- PAGE_RESPONSE (R287): A PRI page response arrives and waiting accesses retry translation or fault. -/
  | pageResponse (pasid page : Nat) (write : Bool) (answer : PageAnswer)
  /-- INVALIDATE_REQUEST (R290): An ATS Invalidate Request removes matching entries, waits for users and sends the completion. -/
  | invalidateRequest (pasid va size : Nat)
  /-- PEER_REQUEST (R313): A Relune Link request arrives and is performed once, or answered from the replay filter. -/
  | peerRequest (src tag : Nat) (op : PeerOp)
  /-- LINK_ACK (R312): An acknowledgement arrives and frees a place in the destination's window. -/
  | linkAck (dest tag : Nat) (reply : List Byte)
  /-- CURRENT_ALARM_HIGH (R317): A stack's slab current exceeds the high threshold and its matrix arrays begin narrowing. -/
  | currentAlarmHigh (stack : Nat)
  /-- CURRENT_ALARM_LOW (R317): A stack's slab current falls below the low threshold and narrowing ends. -/
  | currentAlarmLow (stack : Nat)
  /-- LINE_EVICTION (R191): A cache line is evicted or refilled of the device's own accord, writing back dirty bytes or bringing in a newer value. -/
  | lineEviction (level : CacheLevel) (unit line : Nat)
  /-- NUMVFS_WRITE (R309): The host sets NumVFs in the SR-IOV capability, enabling 0 to 511 virtual functions. -/
  | numvfsWrite (n : Nat)
  /-- DYNAMIC_ADDRESS_ASSIGNMENT (R315): The board's I3C controller assigns the management port its dynamic address. -/
  | dynamicAddressAssignment (addr : Nat)
  deriving DecidableEq, Repr

end Sys2Proof
end

