-- ==== Sys2Proof/Machine/State.lean ====
section
/-!
DEFINITION. The state of the module: every piece of state the specification names, as plain data. A map that lists no entry
for a unit stands for the unit's reset value.
-/

namespace Sys2Proof.Machine

/-- One arm of one wave: global core number, wave slot, live arm 0 or 1 (R15, R41, R54). -/
structure ArmRef where
  core : Nat
  slot : Nat
  arm : Nat
  deriving DecidableEq, Repr

/-- Why an arm's next word has not issued although it was chosen (R38, R52). Each is tested again at the next choice. -/
inductive Wait where
  /-- A source or destination register is empty (R52). -/
  | empty
  /-- A predicate is held by a CXNEXT in flight (R241). -/
  | predicate
  /-- An engine queue is full (R215, R224, R230). -/
  | engineQueue
  /-- A stream ring has no element to pop or no room to push (R182). -/
  | ring
  /-- A message port has no message or no room (R183, R184). -/
  | port
  /-- An earlier access of the wave is not yet performed (R194, R197). -/
  | earlier
  /-- An earlier instruction has yet to deliver its flags (R369). -/
  | flags
  /-- Its pipe has accepted all that it can in this cycle (R19, R38). -/
  | pipe
  /-- The core's side log is full or holds the page (R288). -/
  | sideLog
  /-- The link window to a peer is full (R312). -/
  | link
  /-- A write to s505 finds the injection buffer full (R184). -/
  | inject
  /-- CWAIT on a completion object whose REM is not 0 (R344). -/
  | completion
  deriving DecidableEq, Repr

/-- What an arm is held by (R38). -/
inductive Hold where
  | none
  | wait (w : Wait)
  /-- Parked by FWAIT on the cell at a handle and its place in memory, to receive its value in s[d] and s[d + 1] (R92). -/
  | parked (handle : Nat) (cell : Target) (d : Nat)
  /-- RDVW on a phase of a point (R66). -/
  | rendezvous (pt phase : Nat)
  /-- PTAKE in the pennant queue (R227). -/
  | pennant
  /-- PPASS until the hand-over, to the wave of a number, or to the queue (R227, R397). -/
  | passing (target : Option Nat)
  /-- An acquire at a scope waits for the wave's loads below a number (R195); then the arm goes on. An LDACQ names its s[d], which no
  arm reads before (R376). -/
  | acquire (scope below : Nat) (d : Option Nat)
  /-- An access waits for the translation of pages (R288): its lanes that wait, with their addresses; lane 32 stands for a scalar
  access. -/
  | page (write : Bool) (lanes : List (Nat × Nat))
  /-- An access was rejected for want of miss-status entries and waits for its retry (R175, R176). -/
  | rejected
  /-- CXOPEN.expand or CXSPLIT until its search phase ends (R239, R247). -/
  | bramble
  /-- TEND until its tiles are written back (R84): the handle and the value that it read at issue (R93), and the bytes of its tiles
  written so far (R438). -/
  | tiles (h v done : Nat)
  deriving DecidableEq, Repr

/-- The 32 lanes of a vector value; lanes past its end are zero. -/
abbrev LaneVec := List Word

/-- Lane `l` of a vector value. -/
def LaneVec.lane (v : LaneVec) (l : Nat) : Word := v.getD l 0#32

/-- The vector value whose lane `l` is `f l`. -/
def LaneVec.ofFn (f : Nat → Word) : LaneVec := allLanes.map f

/-- An instruction that has issued and whose effect waits: where it stands, the operands that it captured at issue, and the
number of the producer that keeps its destinations empty meanwhile (R288, R344, R361, R373, R436). -/
structure Capture where
  id : Nat
  ins : Instr
  pc : Nat
  word : Nat
  lanes : Mask
  sregs : List (Nat × Word)
  vregs : List (Nat × LaneVec)
  popped : Bool
  /-- The handle of the wave's future at issue, which a TEND delivers to (R93). -/
  future : Word × Word
  /-- It has made its release (R363). -/
  released : Bool := false
  /-- A switch has abandoned it, and it issues again (R272, R273). -/
  again : Bool := false
  deriving DecidableEq, Repr

/-- An arm of a wave (R54, R99). `empty` lists the vector registers empty in its view, each with its producer (R51); `cap` is an
instruction of the arm that has issued and waits, `paired` says that the word chained to it has issued too, and `also` is that word
where it waits as well, with what holds it (R103). -/
structure Arm where
  pc : Nat := 0
  word : Nat := 0
  exm : Mask := 0xFFFFFFFF#32
  entry : Mask := 0xFFFFFFFF#32
  grp : Nat := 0
  empty : List (Nat × Nat) := []
  hold : Hold := .none
  last : Nat := 0
  cap : Option Capture := none
  paired : Bool := false
  also : Option (Hold × Capture) := none
  /-- A switch has brought it back, and its packet is to be fetched anew (R100, R272). -/
  refetch : Bool := false
  deriving DecidableEq, Repr

/-- What tells an arm from others that have stood in its live slot: its group, and its lanes in it, which those of the group's other
parts do not meet (R54, R57). -/
structure ArmId where
  grp : Nat
  entry : Mask
  deriving DecidableEq, Repr

/-- A part that waits on the split stack (R54). -/
structure Part where
  pc : Nat
  lanes : Mask
  grp : Nat
  empty : List (Nat × Nat)
  deriving DecidableEq, Repr

/-- An open group of parts (R54, R57): its number, its parent's own group, the parts that have not merged, the union of their lanes,
which is the parent's entry mask when it resumes, the registers that a merged part saw as empty, and the lanes of part 1, as which the
arm that split goes on (R56). -/
structure Group where
  id : Nat
  parentGrp : Nat
  remaining : Nat
  lanes : Mask
  empty : List (Nat × Nat)
  first : Mask := 0#32
  deriving DecidableEq, Repr

/-- A load in flight, as a switch replays it (R273): local or global, size code, lane addresses. An LDACQ is abandoned instead, and
issues again (R273, R377). -/
structure LoadReq where
  loc : Bool
  size : Nat
  lanes : List (Nat × Nat)
  scalar : Bool
  nt : Bool
  acq : Bool := false
  deriving DecidableEq, Repr

/-- The results of a long-latency producer that has issued (R50): registers to write, flags, stream element to fill. -/
structure Pending where
  id : Nat
  arm : Nat
  pc : Nat
  word : Nat
  exm : Mask
  lanes : Mask
  vdst : List (Nat × LaneVec)
  sdst : List (Nat × Word)
  /-- Predicates with their write mask and value. -/
  pdst : List (Nat × Mask × Mask)
  flags : Word
  /-- Stream elements to fill: register, FIFO bank and reservation number (R181). -/
  push : List (Nat × Nat × Nat)
  /-- Bank waits and peer replies that must come first. -/
  left : Nat
  /-- Lanes whose sectors are poisoned, with their addresses: they halt the wave once every reply has come (R178, R330). -/
  bad : List (Nat × Nat) := []
  /-- Miss-status entries held (R175). -/
  lines : Nat
  /-- A plain load, replayed after a switch (R273). -/
  load : Option LoadReq
  /-- It is to be replayed and waits for a page. -/
  replay : Bool := false
  /-- It stands for an instruction that an arm has captured: it marks the destinations and has no results yet. -/
  held : Bool := false
  /-- It is an access to memory, which a release waits for (R194). -/
  isMem : Bool
  /-- It delivers FLAGS, which GETC and SETC of FLAGS wait for (R369). -/
  hasFlags : Bool
  deriving DecidableEq, Repr

/-- A staged tile operand of a task (R73, R83, R84). -/
structure Tile where
  base : Nat
  va : Nat
  rows : Nat
  rb : Nat
  pitch : Nat
  wb : Bool
  deriving DecidableEq, Repr

/-- The program state of a wave (R40, R46). -/
structure Wave where
  uid : Nat
  tid : Nat
  idx : Nat
  isTask : Bool
  handler : Bool
  vregN : Nat
  sregN : Nat
  s : NMap Word := []
  v : NMap LaneVec := []
  p : NMap Mask := []
  mode : Word := 0#32
  /-- MODE as it stood at the start of this cycle, where a SETC of this cycle has changed it (R133). -/
  mode0 : Option Word := none
  /-- Lanes of vector registers that an arm has written in this cycle, as they were: arm, register, lanes, values (R416). -/
  old : List (Nat × Nat × Mask × LaneVec) := []
  flags : Word := 0#32
  ltile : Word := 0#32
  /-- LTILE as it stood at the start of this cycle, where a SETC of this cycle has changed it: it is captured like MODE (R62, R133). -/
  ltile0 : Option Word := none
  etrap : Word := 0#32
  tfutl : Word := 0#32
  tfuth : Word := 0#32
  fcause : Word := 0#32
  faddl : Word := 0#32
  faddh : Word := 0#32
  pres : Word := 0#32
  /-- Its window has been opened in this cycle, and runs from the next (R274). -/
  opened : Bool := false
  aband : Word := 0#32
  cycCap : Option Nat := none
  arms : NMap Arm := [(0, { })]
  stack : List Part := []
  groups : List Group := []
  nextGrp : Nat := 1
  sEmpty : List (Nat × Nat) := []
  pHeld : List (Nat × Nat) := []
  inflight : List Pending := []
  arrived : NMap Nat := []
  ports : NMap Nat := []
  tag : Nat := 0
  tiles : List Tile := []
  /-- The wave has ended; its slot waits for its stores and engine operations (R278, R357). -/
  ended : Bool := false
  /-- Order of placement, for R270. -/
  placed : Nat := 0
  deriving DecidableEq, Repr

/-- A rendezvous point (R64). -/
structure Point where
  e : Option Nat
  a : Nat
  phase : Nat
  deriving DecidableEq, Repr

/-- An element of a FIFO ring: filled, or reserved by a producer (R181). -/
structure Elem where
  data : LaneVec
  filled : Bool
  res : Nat
  /-- ECC has found an uncorrectable error in it (R177); R178 names no event that reads it. -/
  pois : Bool := false
  deriving DecidableEq, Repr

/-- A team, or the team of one that a task runs as (R33, R36). -/
structure Team where
  tid : Nat
  job : Nat
  num : Nat
  cluster : Nat
  cores : List Nat
  size : Nat
  alive : Nat
  points : NMap Point := []
  abandoned : Bool := false
  /-- It has become abandoned in this cycle (R67). -/
  abandoning : Bool := false
  rings : NMap (List Elem) := []
  fifoN : Nat := 0
  alloc : Nat := 0
  isTask : Bool := false
  /-- A switch pre-emption of this unit has been requested (R270, R274). -/
  switching : Bool := false
  /-- Order of placement (R270). -/
  placed : Nat := 0
  deriving DecidableEq, Repr

/-- Lanes of one LDL.w or LDL.wc that wait at a granule (R169). -/
structure BankWait where
  core : Nat
  slot : Nat
  id : Nat
  clear : Bool
  gran : Nat
  size : Nat
  lanes : List (Nat × Nat)
  deriving DecidableEq, Repr

/-- A SCRATCH allocation (R158, R165): bytes, full granules, poisoned sectors, waiters in arrival order, staging space. -/
structure Alloc where
  aid : Nat
  job : Nat
  cluster : Nat
  bytes : Nat
  /-- It is a team's, not shared by the tasks of a job (R158). -/
  ofTeam : Bool := false
  /-- Its SCRATCH banks in list order (R166). -/
  banks : List Nat := []
  cells : Memory := []
  full : List Nat := []
  pois : List Nat := []
  waits : List BankWait := []
  /-- Staging space in use: owner (entry or wave number), base, bytes (R83). -/
  staged : List (Nat × Nat × Nat) := []
  deriving DecidableEq, Repr

/-- A deque entry (R77). -/
structure Entry where
  uid : Nat
  w : List Word
  job : Nat
  pasid : Nat
  ready : Bool
  byp : Nat := 0
  /-- When the bypass count reached 8 (R81). -/
  bypAt : Nat := 0
  scause : Option Word := none
  saddr : Nat := 0
  handler : Bool := false
  /-- The scope of the acquire at dispatch: core, or wider after a steal or for a continuation (R95, R203). -/
  acq : Nat := 1
  /-- The scopes of the steals that brought it here, whose acquires the dispatch performs as well (R95). -/
  stole : List Nat := []
  /-- A sector of it is poisoned (R177, R178). -/
  pois : Bool := false
  tiles : List Tile := []
  deriving DecidableEq, Repr

/-- A byte of a cache line: its value and whether it is dirty (R171). -/
structure CByte where
  val : Byte
  dirty : Bool
  deriving DecidableEq, Repr

/-- A cache line: the PASID that filled it, the bytes present, its poisoned sectors, the sectors that one store covered
whole since they were last written back, and those whose poison stands here, because they were filled or one store covered them whole
(R171, R172, R177, R178); in a cluster cache, the bank that is its way (R167). -/
structure CLine where
  pasid : Nat
  way : Nat := 0
  bytes : NMap CByte := []
  pois : List Nat := []
  whole : List Nat := []
  known : List Nat := []
  deriving DecidableEq, Repr

/-- A line of an L2 slice (R20, R171, R172): the PASID that filled it, its sectors present, and those not yet written back to HBM.
Its bytes stand in `State.mem`, which holds each byte's value at its home. -/
structure L2Line where
  pasid : Nat
  secs : List Nat := []
  dirty : List Nat := []
  deriving DecidableEq, Repr

/-- A cached translation (R285): VA range, target, permissions. -/
structure Xlate where
  pasid : Nat
  base : Nat
  size : Nat
  target : Target
  r : Bool
  w : Bool
  deriving DecidableEq, Repr

/-- A message in the injection buffer or in a receive queue (R184). -/
structure Msg where
  payload : Word
  job : Nat
  src : Nat
  sslot : Nat
  suid : Nat
  dst : Nat
  deriving DecidableEq, Repr

/-- A copy in a core's copy engine (R210, R229). -/
structure CopyOp where
  id : Nat
  slot : Nat
  uid : Nat
  tid : Nat
  aid : Nat
  desc : List Word
  total : Nat
  started : Bool := false
  /-- Runs that are done (R213, R229), and destination bytes of the last that are sent to a peer and not yet performed. -/
  done : Nat := 0
  owed : Nat := 0
  /-- In a quantise: the largest magnitude so far in the superblock, as an f32 word, and whether a source sector of it was poisoned
  (R149, R212, R229). -/
  big : Nat := 0
  bad : Bool := false
  /-- Destination sectors that have received poison (R213). -/
  psn : List Nat := []
  /-- Source bytes that the copy has overwritten, as they were: address, byte, poison (R212). -/
  kept : List (Nat × Byte × Bool) := []
  follow : Option Nat := none
  pc : Nat := 0
  word : Nat := 0
  exm : Mask := 0#32
  deriving DecidableEq, Repr

/-- The matrix operations (R224). -/
inductive MatKind where
  | mma
  | accz
  | accld
  | accst
  deriving DecidableEq, Repr

/-- A format slot of the launch record (R153). -/
structure Slot where
  af : Nat := 0
  bf : Nat := 0
  mf : Nat := 0
  ta : Bool := false
  tb : Bool := false
  blk : Bool := false
  deriving DecidableEq, Repr

/-- A shape record (R219). -/
structure Shape where
  laddr : Nat := 0
  rows : Nat := 0
  cols : Nat := 0
  pitch : Nat := 0
  scale : Nat := 0
  deriving DecidableEq, Repr

/-- An operation in a core's matrix engine (R224, R229). -/
structure MatOp where
  id : Nat
  kind : MatKind
  slot : Nat
  uid : Nat
  tid : Nat
  aid : Nat
  arm : ArmId
  acc : Nat
  fmt : Slot := { }
  a : Shape := { }
  b : Shape := { }
  started : Bool := false
  /-- K blocks of 64 done (R229). -/
  kdone : Nat := 0
  /-- The lowest poisoned sector that its K blocks have read (R225). -/
  pois : Option Nat := none
  /-- A follow-on waits for its copy to end (R216). -/
  waits : Bool := false
  /-- Core mask of an MMA.mc (R228) and the stack count of its issue. -/
  mc : Nat := 0
  at_ : Nat := 0
  /-- Whether its window of R228 has closed: the shared fetch serves it, or it reads B itself. -/
  served : Bool := true
  pc : Nat := 0
  word : Nat := 0
  exm : Mask := 0#32
  deriving DecidableEq, Repr

/-- A cursor: its 16-word image, its owner's slot and wave (R47, R243). -/
structure Cursor where
  slot : Nat
  uid : Nat
  img : List Word
  deriving DecidableEq, Repr

/-- The Bramble operations (R230). -/
inductive BrKind where
  | openTwo
  | openExpand
  | next
  | split
  | save
  | load
  | loadS
  | close
  deriving DecidableEq, Repr

/-- An operation in a core's Bramble: captured operands and the images it has yet to land (R230). -/
structure BrOp where
  id : Nat
  kind : BrKind
  slot : Nat
  uid : Nat
  arm : Nat
  aid : Nat
  cx : Nat
  /-- Captured scalar operands: descriptors, image, addresses, part count. -/
  ops : List Word
  lanes : Mask
  v : Nat := 0
  d : Nat := 0
  p : Nat := 0
  pend : Nat := 0
  union : Bool := false
  started : Bool := false
  pc : Nat := 0
  word : Nat := 0
  exm : Mask := 0#32
  /-- Local address and bytes that land at the operation's end. -/
  lands : List (Nat × List Byte) := []
  deriving DecidableEq, Repr

/-- One instruction and page in a core's side log (R288). -/
structure SideEntry where
  slot : Nat
  uid : Nat
  arm : ArmId
  exm : Mask
  tid : Nat
  job : Nat
  pasid : Nat
  page : Nat
  va0 : Nat
  lanes : Mask
  /-- What its lanes store: lane, VA and bytes; `whole` lists the sectors (VA / 32) that the instruction covers whole. -/
  parts : List (Nat × Nat × List Byte)
  whole : List Nat
  nt : Bool
  /-- An ATOMS without return: operation, VA, data, new value of cas, scope. -/
  atom : Option (Nat × Nat × Word × Word × Nat)
  pc : Nat
  word : Nat
  /-- The instruction's number: one instruction may have several entries. -/
  ins : Nat
  /-- A switch has brought it back: its unit issues nothing before it is performed (R288). -/
  saved : Bool := false
  deriving DecidableEq, Repr

/-- Whether a core is gated by POWER SET (R316). -/
inductive Gate where
  | open
  | draining
  | gated
  deriving DecidableEq, Repr

/-- The fields of a completion record (R259). -/
structure RecordFields where
  tag : Word
  out : Nat
  conf : Nat := 0
  err : Nat := 0
  job : Nat := 0
  halts : Nat := 0
  steals : List Nat := [0, 0, 0]
  dropped : Nat := 0
  classes : Nat := 0
  cid : Nat := 0
  poison : Nat := 0
  at48 : Nat := 0
  deriving DecidableEq, Repr

/-- A completion record that waits for its page (R471): interface, PASID, address, contents. -/
structure RecordWait where
  vi : Nat
  pasid : Nat
  rva : Nat
  fields : RecordFields
  deriving DecidableEq, Repr

/-- A test that a command queued, with where its record goes (R295, R472). -/
structure TestReq where
  /-- The graft entry that a REGRAFT writes, and its word. -/
  regraft : Option (Nat × Word)
  /-- The classes that a CAP RETEST names, without those fenced since. -/
  classes : DWord
  record : RecordWait
  /-- The test that serves it has started: a test that ran before it was accepted does not. -/
  began : Bool := false
  deriving DecidableEq, Repr

/-- The pipes of a partition (R105). -/
inductive Pipe where
  | none
  | scalar
  | vector
  | sfu
  | memory
  | engine
  deriving DecidableEq, Repr

/-- State of a core (R47 and the chapters that own each part). -/
structure Core where
  slots : NMap Wave := []
  /-- The arms that have been chosen in this cycle, and the pipes that accept nothing more: partition, pipe, cycles (R19, R38,
  R140). -/
  chosen : List ArmRef := []
  busy : List (Nat × Pipe × Nat) := []
  sram : List Entry := []
  ext : List Entry := []
  holder : Option Nat := none
  queue : List ArmRef := []
  pjob : Option Nat := none
  acc : NMap Word := []
  accPois : NMap Nat := []
  cx : NMap Cursor := []
  port : Option Nat := none
  pDest : Word := 0#32
  pDrop : Bool := false
  pSrc : Nat := 0
  pSslot : Nat := 0
  rxq : List Msg := []
  txq : List Msg := []
  copyQ : List CopyOp := []
  matQ : List MatOp := []
  brQ : List BrOp := []
  l1 : NMap CLine := []
  icache : List Nat := []
  tlb : List Xlate := []
  sigC : BitVec 2048 := 0#2048
  sigS : BitVec 2048 := 0#2048
  sigD : BitVec 2048 := 0#2048
  lastC : Nat := 0
  lastS : Nat := 0
  lastD : Nat := 0
  mask : DWord := Config.fullMask
  /-- The mask that the core has in ganged configuration (R298). -/
  gmask : DWord := Config.fullMask ||| BitVec.ofNat 64 (2 ^ Config.gangBit)
  draining : Bool := false
  gate : Gate := .open
  /-- Records of gate commands that wait until the core is gated (R472). -/
  gateRecs : List RecordWait := []
  testing : Bool := false
  testReqs : List TestReq := []
  skips : Nat := 0
  runLog : List (Nat × Nat) := []
  overflow : Bool := false
  sideLog : List SideEntry := []
  rejects : List (ArmRef × Nat) := []
  claim : Option ArmRef := none
  narrow : Bool := false
  /-- An MMA has been queued since the matrix engine last held no operation (R71, R386). -/
  mbusy : Bool := false
  deriving DecidableEq, Repr

/-- A signature board (R193): sequence number and the last 64 signatures, newest first. -/
structure Board where
  seq : Nat := 0
  ring : List (Nat × BitVec 2048) := []
  deriving DecidableEq, Repr

/-- A cluster SRAM bank that is not in CACHE mode: FIFO or SCRATCH, and its owner, an allocation, a team or a contract
(R165, R269). -/
inductive BankOwner where
  | alloc (aid : Nat)
  | fifo (tid : Nat)
  | contract (cid : Nat)
  deriving DecidableEq, Repr

/-- A staging request of an entry (R83). -/
structure StageReq where
  entry : Nat
  core : Nat
  job : Nat
  active : Bool
  tiles : List Tile
  deriving DecidableEq, Repr

/-- State of a cluster. -/
structure Cluster where
  ganged : Bool := false
  graft : NMap Word := []
  banks : NMap BankOwner := []
  cc : NMap CLine := []
  board : Board := { }
  stageQ : List StageReq := []
  /-- The job whose team has reserved the cluster (R265). -/
  reserve : Option Nat := none
  deriving DecidableEq, Repr

/-- A sweep visit (R301): core, stack count at its start. -/
structure Visit where
  core : Nat
  start : Nat
  /-- Its test has begun; a period of a contract may suspend it (R270). -/
  began : Bool
  deriving DecidableEq, Repr

/-- What the accumulators of a slab hold while no core is bound to it (R11): their elements, their poison, and the job of the last wave that
held the pennant over them (R48). -/
structure Slab where
  acc : NMap Word := []
  pois : NMap Nat := []
  job : Option Nat := none
  deriving DecidableEq, Repr

/-- State of a compute stack. -/
structure Stack where
  ck : Nat := 0
  /-- The accumulators of the slab sites that no core of the present configurations is bound to (R11). -/
  slabs : NMap Slab := []
  step : Nat := 0
  board : Board := { }
  tcache : List Xlate := []
  next : Nat := 0
  visit : Option Visit := none
  drainMax : Nat := 4000000
  sweepOn : Bool := true
  hi : Nat := 40000
  lo : Nat := 36000
  narrow : Bool := false
  condF : BitVec 144 := 0#144
  condS : BitVec 144 := 0#144
  deriving DecidableEq, Repr

/-- A job (R256, R259). `entry`, `tent`, `fent` are packets; 0xFFFF_FFFF names none. -/
structure Job where
  jid : Nat
  vi : Nat
  pasid : Nat
  num : Nat
  task : Bool
  ganged : Bool := false
  sole : Bool := false
  migrate : Bool := false
  npkt : Nat
  cbase : Nat
  entry : Nat
  tent : Nat := 0xFFFFFFFF
  fent : Nat := 0xFFFFFFFF
  w : Nat := 1
  c : Nat := 1
  g : Nat := 1
  vrb : Nat := 8
  srb : Nat := 1
  fifo : Nat := 0
  prio : Nat := 0
  scr : Nat := 0
  stgb : Nat := 0
  oum : DWord := 0#64
  cid : Nat := 0
  fpol : Nat := 0
  loct : Nat := 0
  plim : Nat := 0
  slots : List Slot := []
  args : List Word := []
  tag : Word := 0#32
  rva : Nat := 0
  started : Nat := 0
  rootPushed : Bool := false
  /-- The cluster of a sole-cluster task job (R262). -/
  home : Option Nat := none
  halts : Nat := 0
  steals : List Nat := [0, 0, 0]
  dropped : Nat := 0
  /-- Cells with a registered continuation that is not yet pushed (R97). -/
  regs : List Target := []
  /-- The cores on which waves of a task job have run; they release when its last wave ends (R203). -/
  cores : List Nat := []
  drained : Bool := false
  halted1 : Bool := false
  ended : Bool := false
  conf : Nat := 1
  classes : DWord := 0#64
  /-- Run-log pairs that have not yet passed (R306): core and class. -/
  pairs : List (Nat × Nat) := []
  /-- Undefined words that its work has drawn (R4). -/
  freeN : Nat := 0
  deriving DecidableEq, Repr

/-- A real-time contract (R267, R268). -/
structure Contract where
  cid : Nat
  vi : Nat
  stack : Nat
  period : Nat
  budget : Nat
  tol : Nat
  cores : BitVec 128
  sbanks : Nat
  fbanks : Nat
  c0 : Nat
  left : Nat := 0
  n : Nat := 0
  ending : Bool := false
  deriving DecidableEq, Repr

/-- An event of 128 bytes that waits to be written (R282). -/
abbrev Event := List Word

/-- The registers of a virtual interface's page (R253) and its held events (R282). -/
structure Iface where
  sqbl : Word := 0#32
  sqbh : Word := 0#32
  sqsz : Word := 0#32
  sqhd : Word := 0#32
  sqdb : Word := 0#32
  eqbl : Word := 0#32
  eqbh : Word := 0#32
  eqsz : Word := 0#32
  eqtl : Word := 0#32
  eqhd : Word := 0#32
  vipas : Word := 0#32
  err : Bool := false
  sole : Bool := false
  contract : Bool := false
  held : List Event := []
  lost : Nat := 0
  deriving DecidableEq, Repr

/-- How far a translation has come (R285 to R287). -/
inductive XPhase where
  /-- A Translation Request is out. -/
  | asked
  /-- A page request is out; `retry` once its success has been answered and the new Translation Request is out. -/
  | paged
  | retry
  /-- The page request waits for the host's allocation. -/
  | queued
  deriving DecidableEq, Repr

/-- An outstanding translation: PASID (none without one), 4 KiB page, permission, and the units that asked; 1,024 is the
I/O die (R285, R287, R471). -/
structure XReq where
  pasid : Nat
  page : Nat
  write : Bool
  phase : XPhase
  who : List Nat
  deriving DecidableEq, Repr

/-- What tells a request from others: its PASID, page and permission. -/
def XReq.key (q : XReq) : Nat × Nat × Bool := (q.pasid, q.page, q.write)

/-- A delivery to a future cell that the device still has to make (R88, R469). -/
structure Delivery where
  err : Bool
  handle : Nat
  value : DWord
  core : Nat
  job : Nat
  pasid : Nat
  tag : Nat
  wave : Word
  team : Word
  dropped : Bool
  fromWave : Bool
  deriving DecidableEq, Repr

/-- A continuation whose line is not yet read (R90): its number, its line, the core that performed the delivery, and the value and
status words of the cell. -/
structure Continuation where
  id : Nat
  va : Nat
  core : Nat
  job : Nat
  w12 : Word
  w13 : Word
  w14 : Word
  deriving DecidableEq, Repr

/-- A sector of a peer's memory that a reply has brought for an engine operation, a staging or a continuation (R90, R205, R312): the
number of what asked, VA / 32, the bytes, and its poison. -/
structure PeerSector where
  owner : Nat
  sector : Nat
  bytes : List Byte
  pois : Bool
  deriving DecidableEq, Repr

/-- A request that waits for its acknowledgement (R312). `src` is the module number that it carries. -/
structure LinkReq where
  src : Nat := 0
  tag : Nat
  op : PeerOp
  sends : Nat
  core : Nat
  slot : Nat
  uid : Nat
  pend : Nat
  lane : Nat
  job : Nat
  wave : Word
  team : Word
  lanes : Mask
  /-- Its virtual address, whether a reply is waited for (R313), and the miss-status entries that it holds until it is acknowledged
  (R175). -/
  va : Nat
  ret : Bool
  lines : Nat := 0
  /-- The range of the cached translation that it used: base and size (R290). -/
  used : Nat × Nat := (0, 0)
  /-- The address space that it belongs to. -/
  pasid : Nat := 0
  deriving DecidableEq, Repr

/-- The window of requests to one destination (R312). -/
structure LinkDest where
  next : Nat := 0
  open_ : List LinkReq := []
  deriving DecidableEq, Repr

/-- A migration copy (R217). -/
structure Migration where
  id : Nat
  record : RecordWait
  pasid : Nat
  src : Nat
  dst : Nat
  len : Nat
  off : Nat
  /-- The offset at which it began. -/
  lo : Nat
  poison : Nat := 0
  failed : Bool := false
  /-- Source pages that it has overwritten, as they were: address, bytes with their poison (R212). -/
  kept : List (Nat × List (Byte × Bool)) := []
  deriving DecidableEq, Repr

/-- The message ports and queue that a switch saves with their owner (R185): relative core, slot. -/
structure SavedPort where
  core : Nat
  slot : Nat
  dest : Word
  drop : Bool
  src : Nat
  sslot : Nat
  rxq : List Msg
  deriving DecidableEq, Repr

/-- The accumulators and the pennant that a switch saves with their holder (R229): relative core, slot. -/
structure SavedAcc where
  core : Nat
  slot : Nat
  acc : NMap Word
  pois : NMap Nat
  queue : List ArmRef
  busy : Bool
  deriving DecidableEq, Repr

/-- A wave that a switch saves: relative core, slot, state, open cursors by number (R251). -/
structure SavedWave where
  core : Nat
  slot : Nat
  wave : Wave
  cursors : List (Nat × Cursor)
  deriving DecidableEq, Repr

/-- A unit that a switch pre-emption has saved (R272): its waves by relative core and slot, and what R229, R251 and R185
save with it. -/
structure Saved where
  uid : Nat
  job : Nat
  tid : Nat
  cluster : Nat
  cores : List Nat
  waves : List SavedWave
  accs : List SavedAcc
  ports : List SavedPort
  copies : List (Nat × CopyOp)
  mats : List (Nat × MatOp)
  logs : List (Nat × SideEntry)
  /-- Requests of waiting LDLs, by relative core and slot (R273). -/
  waits : List BankWait
  deriving DecidableEq, Repr

/-- The PF page and the bring-up state (R310, R318). -/
structure PfPage where
  boot : Bool := true
  rcv : Bool := false
  step : Nat := 5
  rfe : Bool := false
  mevt : Word := 0#32
  mevten : Word := 0#32
  mevtstk : Word := 0#32
  deriving DecidableEq, Repr

/-- The secure controller (R293, R314, R315): the firmware it runs, measurement registers, the graft words it keeps (by
12 × cluster + entry), firmware staging, the image to run at the next reset. -/
structure Secure where
  images : List (List Byte) := Config.firmwareImages
  meas : List (List Byte) := measured Config.firmwareImages
  grafts : NMap Word := []
  store : Memory := []
  committed : Option (List Byte) := none
  deriving DecidableEq, Repr

/-- The management port (R315). -/
structure I3c where
  addr : Option Nat := none
  resp : List Byte := []
  deriving DecidableEq, Repr

/-- Where ECC finds an uncorrectable error (R22, R177). -/
inductive EccPlace where
  /-- A sector of device memory, given by DPA / 32, that its HBM stack delivers. -/
  | home (sector : Nat)
  /-- The same sector in its L2 slice. -/
  | slice (sector : Nat)
  /-- A sector of a line of a core's L1, of a cluster's cache, of a row of a cluster's SCRATCH bank. -/
  | l1 (core line sector : Nat)
  | cluster (cl line sector : Nat)
  | scratch (cl bank row quarter : Nat)
  /-- An entry of a core's deque, by its number. -/
  | deque (core entry : Nat)
  /-- The oldest element of a stream ring. -/
  | ring (tid bank : Nat)
  deriving DecidableEq, Repr

/-- What the machine does next, when the agenda says (assumption 2). -/
inductive Move where
  /-- A step of the device or of the host. -/
  | event (i : Instr)
  /-- An issue choice of a partition of a core, when one of its arms is ready (R38). -/
  | issue (core part : Nat)
  /-- Cycles of a stack pass (R25); before each, its partitions make the choices that they can (R37, R38). -/
  | tick (stack n : Nat)
  /-- A K block of the matrix engine of a core is done (R155, R229). -/
  | kblock (core : Nat)
  /-- A run of at most 4 KiB of a core's copy, or of a tile write-back of a slot, is performed (R213, R229, R438). -/
  | copyRun (core : Nat)
  | tileRun (core slot : Nat)
  /-- An uncorrectable error is found (R22, R177). -/
  | ecc (place : EccPlace)
  /-- The host sets the outstanding page requests that it allocates to the device (R287, R309), or the module number (R312). -/
  | priAllocation (n : Nat)
  | moduleNumber (n : Nat)
  deriving DecidableEq, Repr

/-- Why the machine stops with a fault. -/
inductive Fault where
  /-- An instruction word was executed with no arm issuing it: exec outside an issue. Raised by every instruction's meaning
  when `State.cur` names no live arm. Safe: the hardware has no such case. -/
  | noIssuingArm
  /-- The host granted a translation to an address outside device memory's 2^40 bytes, or a peer asked for one (R161). Raised by
  TRANSLATION_COMPLETION and PEER_REQUEST. Safe: the specification gives no such address. -/
  | noSuchDeviceAddress
  deriving DecidableEq, Repr

/-- Why the machine gives an instruction no meaning. -/
inductive Refusal where
  /-- The instruction has no meaning in this model; raised by its own arm of `exec` only. Safe. -/
  | notModelled (mnemonic : String)
  deriving DecidableEq, Repr

/-- The state of the module. -/
structure State where
  cores : NMap Core
  clusters : NMap Cluster
  stk : NMap Stack
  /-- Device memory by device physical address (R161), and its poisoned sectors (R177). -/
  mem : Memory
  poison : List Nat
  /-- The lines that the L2 slices hold, by line address (R20, R171). -/
  l2 : NMap L2Line
  /-- Host memory reached by translation (R189, R329); assumption 21. -/
  hostMem : Memory
  groups : BitVec 128
  refresh : BitVec 16
  board : Board
  jobs : NMap Job
  teams : NMap Team
  allocs : NMap Alloc
  units : NMap Saved
  contracts : NMap Contract
  vis : NMap Iface
  pf : PfPage
  numVfs : Nat
  msix : List (Nat × Nat)
  deliveries : List Delivery
  conts : List Continuation
  xreqs : List XReq
  /-- The page requests that wait for the host's allocation, in order (R287). -/
  pageQueue : List (Nat × Nat × Bool)
  priLimit : Nat
  ioAtc : List Xlate
  /-- Pages (PASID, page, write) that the host has refused to the I/O die and that what waits for them has still to see. -/
  refusals : List (Nat × Nat × Bool)
  /-- Ranges (PASID, VA, size) whose invalidation waits for accesses to peers, and the Invalidation Completions sent (R290). -/
  invals : List (Nat × Nat × Nat)
  invalsDone : Nat
  /-- The number of this module (R312). -/
  module : Nat
  fetched : List PeerSector
  links : NMap LinkDest
  filters : NMap (List (Nat × List Byte))
  secure : Secure
  i3c : I3c
  migrations : List Migration
  /-- Completion records of commands that wait for their pages (R471, R472). -/
  records : List RecordWait
  /-- Jobs whose completion record has still to be rewritten (R308). -/
  rewrites : List Nat
  /-- The interface that the scheduler serves next, of each rank that has had a placement (R261). -/
  rr : NMap Nat
  /-- Numbers given to waves, entries, teams, producers and the like (assumption 15). -/
  handles : Nat
  agenda : List Move
  cur : Option ArmRef
  freeCtr : Nat
  deriving DecidableEq, Repr

/-- The module right after reset and bring-up (R318): no work, memory zero, every group interleaved, every core normal and
passing every class. -/
def State.reset : State where
  cores := []
  clusters := []
  stk := []
  mem := []
  poison := []
  l2 := []
  hostMem := []
  groups := 0#128
  refresh := 0#16
  board := { }
  jobs := []
  teams := []
  allocs := []
  units := []
  contracts := []
  vis := []
  pf := { }
  numVfs := 0
  msix := []
  deliveries := []
  conts := []
  xreqs := []
  pageQueue := []
  priLimit := 1
  ioAtc := []
  refusals := []
  invals := []
  invalsDone := 0
  module := 0
  fetched := []
  links := []
  filters := []
  secure := { }
  i3c := { }
  migrations := []
  records := []
  rewrites := []
  rr := []
  handles := 1
  agenda := []
  cur := none
  freeCtr := 0

end Sys2Proof.Machine
end

