-- ==== Sys2Proof/Machine/Operands.lean ====
section
/-!
DEFINITION. What each instruction word names: registers with their source positions (R53), predicates, control registers; its
pipe (R105, R110, R111), whether it ends its packet (R101), and the capability class it has whatever its formats (R297).
-/

namespace Sys2Proof.Machine

/-- Operands of an instruction. A source carries its ETRAP position: 0 for a, 1 for b, 2 for c, 3 for none (R53). `cr` and
`cw` are the indices of R71 of the control registers read and written. -/
structure Uses where
  vs : List (Nat × Nat) := []
  ss : List (Nat × Nat) := []
  vd : List Nat := []
  sd : List Nat := []
  pr : List Nat := []
  pw : List Nat := []
  cr : List Nat := []
  cw : List Nat := []
  deriving DecidableEq, Repr

/-- `n` registers from `r` upward. -/
def group (r n : Nat) : List Nat := (List.range n).map (fun k => r + k)

/-- Implicit sources, which hold no ETRAP position (R53). -/
def implicit (rs : List Nat) : List (Nat × Nat) := rs.map (fun r => (r, 3))

/-- Registers of a size code (R372): a pair for b64, a quad for b128. -/
def sizeCount (z : Nat) : Nat := if z = 5 then 2 else if z = 6 then 4 else 1

/-- The register group of a load or store. -/
def sizeRegs (d z : Nat) : List Nat := group d (sizeCount z)

/-- The register group of a granule access: b32 or b128 (R378). -/
def granRegs (d z : Nat) : List Nat := group d (if z = 1 then 4 else 1)

/-- The conversion codes of major 0x2C that read MODE (R132, R143). -/
def cvtReadsMode (k : Nat) : Bool := (k < 7 && k != 2 && k != 3) || (8 ≤ k && k < 12) || (16 ≤ k && k < 32)

/-- Whether a conversion code writes only one element, and so reads its destination (R143). -/
def cvtInserts (k : Nat) : Bool := (8 ≤ k && k < 0x0C) || (0x10 ≤ k && k < 0x20)

/-- The operands of each instruction word; steps without a word name none. -/
def uses : Instr → Uses
  | .nop => { }
  | .exit => { }
  | .trap _ => { }
  | .brk _ => { }
  | .preoff a => { ss := [(a.toNat, 0)], cw := [24] }
  | .preon => { cw := [24] }
  | .getc d i => { sd := [d.toNat], cr := [i.toNat] }
  | .setc a i => { ss := [(a.toNat, 0)], cw := [i.toNat] }
  | .fence _ => { }
  | .acq _ => { }
  | .rel _ => { }
  | .drain _ => { }
  | .rdvi a _ => { ss := [(a.toNat, 0)] }
  | .rdva _ => { }
  | .rdvw _ => { cw := [25] }
  | .smap _ _ => { }
  | .sunmap _ => { }
  | .mqcfg _ => { }
  | .tend a => { ss := [(a.toNat, 0), (a.toNat + 1, 0)], cr := [12, 13] }
  | .ptake => { }
  | .ppass a => { ss := [(a.toNat, 0)] }
  | .ppassFree => { }
  | .ret a => { ss := [(a.toNat, 0), (a.toNat + 1, 0)] }
  | .jmp a => { ss := [(a.toNat, 0), (a.toNat + 1, 0)] }
  | .merge => { }
  | .cwait a => { ss := [(a.toNat, 0)] }
  | .sadd d a b => { ss := [(a.toNat, 0), (b.toNat, 1)], sd := [d.toNat] }
  | .ssub d a b => { ss := [(a.toNat, 0), (b.toNat, 1)], sd := [d.toNat] }
  | .smul d a b => { ss := [(a.toNat, 0), (b.toNat, 1)], sd := [d.toNat] }
  | .smulh d a b _ => { ss := [(a.toNat, 0), (b.toNat, 1)], sd := [d.toNat] }
  | .sand d a b => { ss := [(a.toNat, 0), (b.toNat, 1)], sd := [d.toNat] }
  | .sor d a b => { ss := [(a.toNat, 0), (b.toNat, 1)], sd := [d.toNat] }
  | .sxor d a b => { ss := [(a.toNat, 0), (b.toNat, 1)], sd := [d.toNat] }
  | .sandn d a b => { ss := [(a.toNat, 0), (b.toNat, 1)], sd := [d.toNat] }
  | .sshl d a b => { ss := [(a.toNat, 0), (b.toNat, 1)], sd := [d.toNat] }
  | .sshr d a b _ => { ss := [(a.toNat, 0), (b.toNat, 1)], sd := [d.toNat] }
  | .ssra d a b => { ss := [(a.toNat, 0), (b.toNat, 1)], sd := [d.toNat] }
  | .smin d a b _ => { ss := [(a.toNat, 0), (b.toNat, 1)], sd := [d.toNat] }
  | .smax d a b _ => { ss := [(a.toNat, 0), (b.toNat, 1)], sd := [d.toNat] }
  | .ssel d a b => { ss := [(a.toNat, 0), (b.toNat, 1)], sd := [d.toNat] }
  | .scmp d a b _ => { ss := [(a.toNat, 0), (b.toNat, 1)], sd := [d.toNat] }
  | .sdiv d a b _ _ => { ss := [(a.toNat, 0), (b.toNat, 1)], sd := [d.toNat] }
  | .sbfx d a b _ => { ss := [(a.toNat, 0), (b.toNat, 1)], sd := [d.toNat] }
  | .sbfi d a b => { ss := [(a.toNat, 0), (b.toNat, 1)], sd := [d.toNat] }
  | .sclz d a => { ss := [(a.toNat, 0)], sd := [d.toNat] }
  | .spopc d a => { ss := [(a.toNat, 0)], sd := [d.toNat] }
  | .smov d a => { ss := [(a.toNat, 0)], sd := [d.toNat] }
  | .sxget d a => { ss := [(a.toNat, 0)], sd := [d.toNat] }
  | .sxset a b => { ss := [(a.toNat, 0), (b.toNat, 1)] }
  | .maskp d p => { sd := [d.toNat], pr := [p.toNat] }
  | .pmask p a => { ss := [(a.toNat, 0)], pw := [p.toNat], cr := [4] }
  | .vote d p _ => { sd := [d.toNat], pr := [p.toNat], cr := [4, 2] }
  | .saddImm d a _ => { ss := [(a.toNat, 0)], sd := [d.toNat] }
  | .sandImm d a _ => { ss := [(a.toNat, 0)], sd := [d.toNat] }
  | .sorImm d a _ => { ss := [(a.toNat, 0)], sd := [d.toNat] }
  | .sxorImm d a _ => { ss := [(a.toNat, 0)], sd := [d.toNat] }
  | .sshlImm d a _ => { ss := [(a.toNat, 0)], sd := [d.toNat] }
  | .sshrImm d a _ => { ss := [(a.toNat, 0)], sd := [d.toNat] }
  | .ssraImm d a _ => { ss := [(a.toNat, 0)], sd := [d.toNat] }
  | .scmpImm d a _ _ => { ss := [(a.toNat, 0)], sd := [d.toNat] }
  | .smovi d _ => { sd := [d.toNat] }
  | .slih d _ => { sd := [d.toNat] }
  | .lds d a _ => { ss := [(a.toNat, 0), (a.toNat + 1, 0)], sd := [d.toNat] }
  | .sts d a _ => { ss := [(a.toNat, 0), (a.toNat + 1, 0), (d.toNat, 3)] }
  | .ldacq d a _ _ => { ss := [(a.toNat, 0), (a.toNat + 1, 0)], sd := [d.toNat] }
  | .strel d a _ _ => { ss := [(a.toNat, 0), (a.toNat + 1, 0), (d.toNat, 3)] }
  | .atoms d a b _ f => { ss := [(a.toNat, 0), (a.toNat + 1, 0), (b.toNat, 1)] ++ (if f.toNat = 10 then [(b.toNat + 1, 1)] else []), sd := (if d.toNat = 0 then [] else [d.toNat]) }
  | .bra _ => { }
  | .call _ => { sd := [62, 63] }
  | .bz a _ => { ss := [(a.toNat, 0)] }
  | .bnz a _ => { ss := [(a.toNat, 0)] }
  | .bany p _ _ => { pr := [p.toNat], cr := [4, 2] }
  | .ball p _ _ => { pr := [p.toNat], cr := [4, 2] }
  | .bnone p _ _ => { pr := [p.toNat], cr := [4, 2] }
  | .split p _ => { pr := [p.toNat], cr := [4] }
  | .switch a v n => { vs := [(v.toNat, 0)], ss := implicit (group a.toNat (n.toNat + 1)), cr := [4] }
  | .spawnS a => { ss := implicit (group (32 * a.toNat) 32) }
  | .spawnL a => { ss := [(a.toNat, 0)] }
  | .fnew a b _ => { ss := [(a.toNat, 0), (a.toNat + 1, 0), (b.toNat, 1)] }
  | .fjoin a b => { ss := [(a.toNat, 0), (a.toNat + 1, 0), (b.toNat, 1), (b.toNat + 1, 1)] }
  | .fwait d a => { ss := [(a.toNat, 0), (a.toNat + 1, 0)], sd := [d.toNat, d.toNat + 1] }
  | .fput a b => { ss := [(a.toNat, 0), (a.toNat + 1, 0), (b.toNat, 1), (b.toNat + 1, 1)] }
  | .copy a => { ss := implicit (group a.toNat 8) }
  | .copyM a b _ _ => { ss := implicit (group a.toNat 8 ++ group b.toNat 8) }
  | .mma a _ _ => { ss := implicit (group a.toNat 8) }
  | .mmaMc a b _ _ => { ss := implicit (group a.toNat 8) ++ [(b.toNat, 1)] }
  | .accz _ => { }
  | .accld a _ _ => { ss := implicit (group a.toNat 4) }
  | .accst a _ _ => { ss := implicit (group a.toNat 4) }
  | .cxopenIntersect a b _ => { ss := implicit (group a.toNat 8 ++ group b.toNat 8) }
  | .cxopenUnion a b _ => { ss := implicit (group a.toNat 8 ++ group b.toNat 8) }
  | .cxopenExpand a _ => { ss := implicit (group a.toNat 8) }
  | .cxnext v d p _ => { vd := [v.toNat, v.toNat + 1, v.toNat + 2], sd := [d.toNat], pw := [p.toNat], cr := [4] }
  | .cxsplit a b _ => { ss := [(a.toNat, 0), (b.toNat, 1)] }
  | .cxsave a _ => { ss := [(a.toNat, 0)] }
  | .cxload a _ => { ss := [(a.toNat, 0)] }
  | .cxloadS a _ => { ss := implicit (group a.toNat 16) }
  | .cxclose _ => { }
  | .vadd d a b g => { vs := [(a.toNat, 0), (b.toNat, 1)], vd := [d.toNat], pr := [g.toNat], cr := [4] }
  | .vsub d a b g => { vs := [(a.toNat, 0), (b.toNat, 1)], vd := [d.toNat], pr := [g.toNat], cr := [4] }
  | .vmul d a b g => { vs := [(a.toNat, 0), (b.toNat, 1)], vd := [d.toNat], pr := [g.toNat], cr := [4] }
  | .vmulhI d a b g => { vs := [(a.toNat, 0), (b.toNat, 1)], vd := [d.toNat], pr := [g.toNat], cr := [4] }
  | .vand d a b g => { vs := [(a.toNat, 0), (b.toNat, 1)], vd := [d.toNat], pr := [g.toNat], cr := [4] }
  | .vor d a b g => { vs := [(a.toNat, 0), (b.toNat, 1)], vd := [d.toNat], pr := [g.toNat], cr := [4] }
  | .vxor d a b g => { vs := [(a.toNat, 0), (b.toNat, 1)], vd := [d.toNat], pr := [g.toNat], cr := [4] }
  | .vandn d a b g => { vs := [(a.toNat, 0), (b.toNat, 1)], vd := [d.toNat], pr := [g.toNat], cr := [4] }
  | .vshl d a b g => { vs := [(a.toNat, 0), (b.toNat, 1)], vd := [d.toNat], pr := [g.toNat], cr := [4] }
  | .vshr d a b g => { vs := [(a.toNat, 0), (b.toNat, 1)], vd := [d.toNat], pr := [g.toNat], cr := [4] }
  | .vsra d a b g => { vs := [(a.toNat, 0), (b.toNat, 1)], vd := [d.toNat], pr := [g.toNat], cr := [4] }
  | .vminI d a b g => { vs := [(a.toNat, 0), (b.toNat, 1)], vd := [d.toNat], pr := [g.toNat], cr := [4] }
  | .vmaxI d a b g => { vs := [(a.toNat, 0), (b.toNat, 1)], vd := [d.toNat], pr := [g.toNat], cr := [4] }
  | .vsel d a b q => { vs := [(a.toNat, 0), (b.toNat, 1)], vd := [d.toNat], pr := [q.toNat], cr := [4] }
  | .vmov d a g => { vs := [(a.toNat, 0)], vd := [d.toNat], pr := [g.toNat], cr := [4] }
  | .vbcast d a g => { ss := [(a.toNat, 0)], vd := [d.toNat], pr := [g.toNat], cr := [4] }
  | .vminN d a b g => { vs := [(a.toNat, 0), (b.toNat, 1)], vd := [d.toNat], pr := [g.toNat], cr := [4] }
  | .vmaxN d a b g => { vs := [(a.toNat, 0), (b.toNat, 1)], vd := [d.toNat], pr := [g.toNat], cr := [4] }
  | .vmulhN d a b g => { vs := [(a.toNat, 0), (b.toNat, 1)], vd := [d.toNat], pr := [g.toNat], cr := [4] }
  | .vbfxI d a b g => { vs := [(a.toNat, 0), (b.toNat, 1)], vd := [d.toNat], pr := [g.toNat], cr := [4] }
  | .vbfxN d a b g => { vs := [(a.toNat, 0), (b.toNat, 1)], vd := [d.toNat], pr := [g.toNat], cr := [4] }
  | .vbfi d a b g => { vs := [(a.toNat, 0), (b.toNat, 1), (d.toNat, 3)], vd := [d.toNat], pr := [g.toNat], cr := [4] }
  | .vclz d a g => { vs := [(a.toNat, 0)], vd := [d.toNat], pr := [g.toNat], cr := [4] }
  | .vpopc d a g => { vs := [(a.toNat, 0)], vd := [d.toNat], pr := [g.toNat], cr := [4] }
  | .vbrev d a g => { vs := [(a.toNat, 0)], vd := [d.toNat], pr := [g.toNat], cr := [4] }
  | .vlaneid d g => { vd := [d.toNat], pr := [g.toNat], cr := [4] }
  | .vmad d a b e _ => { vs := [(a.toNat, 0), (b.toNat, 1), (e.toNat, 2)], vd := [d.toNat], cr := [4] }
  | .vaddImm d a _ => { vs := [(a.toNat, 0)], vd := [d.toNat], cr := [4] }
  | .vandImm d a _ => { vs := [(a.toNat, 0)], vd := [d.toNat], cr := [4] }
  | .vorImm d a _ => { vs := [(a.toNat, 0)], vd := [d.toNat], cr := [4] }
  | .vxorImm d a _ => { vs := [(a.toNat, 0)], vd := [d.toNat], cr := [4] }
  | .vshlImm d a _ => { vs := [(a.toNat, 0)], vd := [d.toNat], cr := [4] }
  | .vshrImm d a _ => { vs := [(a.toNat, 0)], vd := [d.toNat], cr := [4] }
  | .vsraImm d a _ => { vs := [(a.toNat, 0)], vd := [d.toNat], cr := [4] }
  | .vmovImm d _ => { vd := [d.toNat], cr := [4] }
  | .vcmpInt p q a b _ _ => { vs := [(a.toNat, 0), (b.toNat, 1)], pw := [p.toNat, q.toNat], cr := [4] }
  | .vcmpImm p q a _ _ _ => { vs := [(a.toNat, 0)], pw := [p.toNat, q.toNat], cr := [4] }
  | .vcmpF32 p q a b _ _ => { vs := [(a.toNat, 0), (b.toNat, 1)], pw := [p.toNat, q.toNat], cr := [4], cw := [1] }
  | .vfaddF32 d a b g => { vs := [(a.toNat, 0), (b.toNat, 1)], vd := [d.toNat], pr := [g.toNat], cr := [4, 0], cw := [1] }
  | .vfsubF32 d a b g => { vs := [(a.toNat, 0), (b.toNat, 1)], vd := [d.toNat], pr := [g.toNat], cr := [4, 0], cw := [1] }
  | .vfmulF32 d a b g => { vs := [(a.toNat, 0), (b.toNat, 1)], vd := [d.toNat], pr := [g.toNat], cr := [4, 0], cw := [1] }
  | .vfminF32 d a b g => { vs := [(a.toNat, 0), (b.toNat, 1)], vd := [d.toNat], pr := [g.toNat], cr := [4], cw := [1] }
  | .vfmaxF32 d a b g => { vs := [(a.toNat, 0), (b.toNat, 1)], vd := [d.toNat], pr := [g.toNat], cr := [4], cw := [1] }
  | .vfdiv d a b g => { vs := [(a.toNat, 0), (b.toNat, 1)], vd := [d.toNat], pr := [g.toNat], cr := [4, 0], cw := [1] }
  | .vfsqrt d a g => { vs := [(a.toNat, 0)], vd := [d.toNat], pr := [g.toNat], cr := [4, 0], cw := [1] }
  | .vrcp d a g => { vs := [(a.toNat, 0)], vd := [d.toNat], pr := [g.toNat], cr := [4, 0], cw := [1] }
  | .vrsq d a g => { vs := [(a.toNat, 0)], vd := [d.toNat], pr := [g.toNat], cr := [4, 0], cw := [1] }
  | .vexp2 d a g => { vs := [(a.toNat, 0)], vd := [d.toNat], pr := [g.toNat], cr := [4], cw := [1] }
  | .vlog2 d a g => { vs := [(a.toNat, 0)], vd := [d.toNat], pr := [g.toNat], cr := [4], cw := [1] }
  | .vsin d a g => { vs := [(a.toNat, 0)], vd := [d.toNat], pr := [g.toNat], cr := [4], cw := [1] }
  | .vcos d a g => { vs := [(a.toNat, 0)], vd := [d.toNat], pr := [g.toNat], cr := [4], cw := [1] }
  | .vtanh d a g => { vs := [(a.toNat, 0)], vd := [d.toNat], pr := [g.toNat], cr := [4], cw := [1] }
  | .vfclassF32 d a g => { vs := [(a.toNat, 0)], vd := [d.toNat], pr := [g.toNat], cr := [4] }
  | .vfcvtF32 d a k g => { vs := (a.toNat, 0) :: (if cvtInserts k.toNat then [(d.toNat, 3)] else []), vd := [d.toNat], pr := [g.toNat], cr := [4] ++ (if cvtReadsMode k.toNat then [0] else []), cw := [1] }
  | .vfaddF16x2 d a b g => { vs := [(a.toNat, 0), (b.toNat, 1)], vd := [d.toNat], pr := [g.toNat], cr := [4, 0], cw := [1] }
  | .vfsubF16x2 d a b g => { vs := [(a.toNat, 0), (b.toNat, 1)], vd := [d.toNat], pr := [g.toNat], cr := [4, 0], cw := [1] }
  | .vfmulF16x2 d a b g => { vs := [(a.toNat, 0), (b.toNat, 1)], vd := [d.toNat], pr := [g.toNat], cr := [4, 0], cw := [1] }
  | .vfminF16x2 d a b g => { vs := [(a.toNat, 0), (b.toNat, 1)], vd := [d.toNat], pr := [g.toNat], cr := [4], cw := [1] }
  | .vfmaxF16x2 d a b g => { vs := [(a.toNat, 0), (b.toNat, 1)], vd := [d.toNat], pr := [g.toNat], cr := [4], cw := [1] }
  | .vfclassF16x2 d a g => { vs := [(a.toNat, 0)], vd := [d.toNat], pr := [g.toNat], cr := [4] }
  | .vfcvtF16x2 d a _ g => { vs := [(a.toNat, 0)], vd := [d.toNat], pr := [g.toNat], cr := [4, 0], cw := [1] }
  | .vfaddBf16x2 d a b g => { vs := [(a.toNat, 0), (b.toNat, 1)], vd := [d.toNat], pr := [g.toNat], cr := [4, 0], cw := [1] }
  | .vfsubBf16x2 d a b g => { vs := [(a.toNat, 0), (b.toNat, 1)], vd := [d.toNat], pr := [g.toNat], cr := [4, 0], cw := [1] }
  | .vfmulBf16x2 d a b g => { vs := [(a.toNat, 0), (b.toNat, 1)], vd := [d.toNat], pr := [g.toNat], cr := [4, 0], cw := [1] }
  | .vfminBf16x2 d a b g => { vs := [(a.toNat, 0), (b.toNat, 1)], vd := [d.toNat], pr := [g.toNat], cr := [4], cw := [1] }
  | .vfmaxBf16x2 d a b g => { vs := [(a.toNat, 0), (b.toNat, 1)], vd := [d.toNat], pr := [g.toNat], cr := [4], cw := [1] }
  | .vfclassBf16x2 d a g => { vs := [(a.toNat, 0)], vd := [d.toNat], pr := [g.toNat], cr := [4] }
  | .vfcvtBf16x2 d a _ g => { vs := [(a.toNat, 0)], vd := [d.toNat], pr := [g.toNat], cr := [4, 0], cw := [1] }
  | .vfmaF32 d a b e _ => { vs := [(a.toNat, 0), (b.toNat, 1), (e.toNat, 2)], vd := [d.toNat], cr := [4, 0], cw := [1] }
  | .vfmaF16x2 d a b e _ => { vs := [(a.toNat, 0), (b.toNat, 1), (e.toNat, 2)], vd := [d.toNat], cr := [4, 0], cw := [1] }
  | .vfmaBf16x2 d a b e _ => { vs := [(a.toNat, 0), (b.toNat, 1), (e.toNat, 2)], vd := [d.toNat], cr := [4, 0], cw := [1] }
  | .pand d a b g => { pr := [a.toNat, b.toNat, g.toNat], pw := [d.toNat], cr := [4] }
  | .por d a b g => { pr := [a.toNat, b.toNat, g.toNat], pw := [d.toNat], cr := [4] }
  | .pxor d a b g => { pr := [a.toNat, b.toNat, g.toNat], pw := [d.toNat], cr := [4] }
  | .pnot d a g => { pr := [a.toNat, g.toNat], pw := [d.toNat], cr := [4] }
  | .shflIdx d a b g => { vs := [(a.toNat, 0), (b.toNat, 1)], vd := [d.toNat], pr := [g.toNat], cr := [4, 2] }
  | .shflUp d a b g => { vs := [(a.toNat, 0)], ss := [(b.toNat, 1)], vd := [d.toNat], pr := [g.toNat], cr := [4, 2] }
  | .shflDown d a b g => { vs := [(a.toNat, 0)], ss := [(b.toNat, 1)], vd := [d.toNat], pr := [g.toNat], cr := [4, 2] }
  | .shflXor d a b g => { vs := [(a.toNat, 0)], ss := [(b.toNat, 1)], vd := [d.toNat], pr := [g.toNat], cr := [4, 2] }
  | .shflBcast d a b g => { vs := [(a.toNat, 0)], ss := [(b.toNat, 1)], vd := [d.toNat], pr := [g.toNat], cr := [4, 2] }
  | .vred d a g f => { vs := [(a.toNat, 0)], vd := [d.toNat], pr := [g.toNat], cr := [4, 2] ++ (if f.toNat = 1 then [0] else []), cw := if f.toNat = 1 ∨ f.toNat = 4 ∨ f.toNat = 5 then [1] else [] }
  | .vscan d a _ f => { vs := [(a.toNat, 0)], vd := [d.toNat], cr := [4, 2] ++ (if f.toNat = 1 then [0] else []), cw := if f.toNat = 1 ∨ f.toNat = 4 ∨ f.toNat = 5 then [1] else [] }
  | .ld d a b g _ z => { vs := [(b.toNat, 1)], ss := [(a.toNat, 0), (a.toNat + 1, 0)], vd := sizeRegs d.toNat z.toNat, pr := [g.toNat], cr := [4] }
  | .st d a b g _ z => { vs := [(b.toNat, 1)] ++ implicit (sizeRegs d.toNat z.toNat), ss := [(a.toNat, 0), (a.toNat + 1, 0)], pr := [g.toNat], cr := [4] }
  | .ldl d a b g z => { vs := [(b.toNat, 1)], ss := [(a.toNat, 0)], vd := sizeRegs d.toNat z.toNat, pr := [g.toNat], cr := [4] }
  | .ldlW d a b g z => { vs := [(b.toNat, 1)], ss := [(a.toNat, 0)], vd := granRegs d.toNat z.toNat, pr := [g.toNat], cr := [4] }
  | .ldlWc d a b g z => { vs := [(b.toNat, 1)], ss := [(a.toNat, 0)], vd := granRegs d.toNat z.toNat, pr := [g.toNat], cr := [4] }
  | .stl d a b g z => { vs := [(b.toNat, 1)] ++ implicit (sizeRegs d.toNat z.toNat), ss := [(a.toNat, 0)], pr := [g.toNat], cr := [4] }
  | .stlFill d a b g z => { vs := [(b.toNat, 1)] ++ implicit (granRegs d.toNat z.toNat), ss := [(a.toNat, 0)], pr := [g.toNat], cr := [4] }
  | .atom d a b g f => { vs := [(b.toNat, 1)] ++ implicit ((if f.toNat = 10 then [d.toNat, d.toNat + 1] else [d.toNat])), ss := [(a.toNat, 0), (a.toNat + 1, 0)], vd := [d.toNat], pr := [g.toNat], cr := [4] }
  | .atoml d a b g f => { vs := [(b.toNat, 1)] ++ implicit ((if f.toNat = 10 then [d.toNat, d.toNat + 1] else [d.toNat])), ss := [(a.toNat, 0)], vd := [d.toNat], pr := [g.toNat], cr := [4] }
  | .pref a b g _ => { vs := [(b.toNat, 1)], ss := [(a.toNat, 0), (a.toNat + 1, 0)], pr := [g.toNat], cr := [4] }
  | .eventWrite _ => { }
  | .resultArrival _ _ _ => { }
  | .missStatusRetry _ => { }
  | .futureDelivery => { }
  | .errorDelivery => { }
  | .messageArrival _ _ => { }
  | .taskDispatch _ => { }
  | .steal _ => { }
  | .stagingStart _ => { }
  | .stagingComplete _ => { }
  | .tileWritebackComplete _ _ => { }
  | .copyStart _ => { }
  | .copyCompletion _ => { }
  | .matrixOpStart _ => { }
  | .matrixOpEnd _ => { }
  | .brambleOpStart _ => { }
  | .mmaMcWindowLapse _ => { }
  | .teamPlacement _ => { }
  | .rootClosurePush _ => { }
  | .switchOut _ _ => { }
  | .switchIn _ _ => { }
  | .preoffWindowExpiry _ _ => { }
  | .periodStart _ => { }
  | .budgetExhausted _ => { }
  | .jobEnd _ => { }
  | .sweepVisit _ => { }
  | .sweepTest _ => { }
  | .testResult _ _ => { }
  | .drainmaxExpiry _ => { }
  | .coreGated _ => { }
  | .launch _ => { }
  | .createContract _ => { }
  | .destroyContract _ => { }
  | .drainJob _ => { }
  | .cmdUndefined _ => { }
  | .graftRead _ => { }
  | .regraft _ => { }
  | .capRead _ => { }
  | .capFence _ => { }
  | .capRetest _ => { }
  | .sweepSet _ => { }
  | .migrate _ => { }
  | .migrateEnd _ => { }
  | .groupSet _ => { }
  | .powerSetClockStep _ => { }
  | .powerSetGate _ => { }
  | .powerSetHbmRefresh _ => { }
  | .alarmSet _ => { }
  | .viSet _ => { }
  | .attest _ => { }
  | .retransmit _ _ => { }
  | .illegalInstruction _ => { }
  | .brambleOpEnd _ => { }
  | .sqdbWrite _ _ => { }
  | .sqblWrite _ _ => { }
  | .eqblWrite _ _ => { }
  | .vipasWrite _ _ => { }
  | .registerWrite _ _ _ => { }
  | .moduleReset _ => { }
  | .stackReset _ => { }
  | .clusterReset _ => { }
  | .mevtClear _ => { }
  | .inventory => { }
  | .sensors => { }
  | .i3cPower _ _ _ => { }
  | .i3cAttest _ => { }
  | .status => { }
  | .i3cReset => { }
  | .fwWrite _ _ => { }
  | .fwCommit _ => { }
  | .i3cUnknownCommand _ => { }
  | .translationCompletion _ _ _ _ => { }
  | .pageResponse _ _ _ _ => { }
  | .invalidateRequest _ _ _ => { }
  | .peerRequest _ _ _ => { }
  | .linkAck _ _ _ => { }
  | .currentAlarmHigh _ => { }
  | .currentAlarmLow _ => { }
  | .lineEviction _ _ _ => { }
  | .numvfsWrite _ => { }
  | .dynamicAddressAssignment _ => { }

/-- The pipe of each instruction (R110, R111). -/
def pipe : Instr → Pipe
  | .nop => .none
  | .exit => .scalar
  | .trap _ => .scalar
  | .brk _ => .scalar
  | .preoff _ => .scalar
  | .preon => .scalar
  | .getc _ _ => .scalar
  | .setc _ _ => .scalar
  | .fence _ => .memory
  | .acq _ => .memory
  | .rel _ => .memory
  | .drain _ => .memory
  | .rdvi _ _ => .memory
  | .rdva _ => .memory
  | .rdvw _ => .memory
  | .smap _ _ => .memory
  | .sunmap _ => .memory
  | .mqcfg _ => .memory
  | .tend _ => .memory
  | .ptake => .engine
  | .ppass _ => .engine
  | .ppassFree => .engine
  | .ret _ => .scalar
  | .jmp _ => .scalar
  | .merge => .scalar
  | .cwait _ => .memory
  | .sadd _ _ _ => .scalar
  | .ssub _ _ _ => .scalar
  | .smul _ _ _ => .scalar
  | .smulh _ _ _ _ => .scalar
  | .sand _ _ _ => .scalar
  | .sor _ _ _ => .scalar
  | .sxor _ _ _ => .scalar
  | .sandn _ _ _ => .scalar
  | .sshl _ _ _ => .scalar
  | .sshr _ _ _ _ => .scalar
  | .ssra _ _ _ => .scalar
  | .smin _ _ _ _ => .scalar
  | .smax _ _ _ _ => .scalar
  | .ssel _ _ _ => .scalar
  | .scmp _ _ _ _ => .scalar
  | .sdiv _ _ _ _ _ => .scalar
  | .sbfx _ _ _ _ => .scalar
  | .sbfi _ _ _ => .scalar
  | .sclz _ _ => .scalar
  | .spopc _ _ => .scalar
  | .smov _ _ => .scalar
  | .sxget _ _ => .scalar
  | .sxset _ _ => .scalar
  | .maskp _ _ => .scalar
  | .pmask _ _ => .scalar
  | .vote _ _ _ => .scalar
  | .saddImm _ _ _ => .scalar
  | .sandImm _ _ _ => .scalar
  | .sorImm _ _ _ => .scalar
  | .sxorImm _ _ _ => .scalar
  | .sshlImm _ _ _ => .scalar
  | .sshrImm _ _ _ => .scalar
  | .ssraImm _ _ _ => .scalar
  | .scmpImm _ _ _ _ => .scalar
  | .smovi _ _ => .scalar
  | .slih _ _ => .scalar
  | .lds _ _ _ => .memory
  | .sts _ _ _ => .memory
  | .ldacq _ _ _ _ => .memory
  | .strel _ _ _ _ => .memory
  | .atoms _ _ _ _ _ => .memory
  | .bra _ => .scalar
  | .call _ => .scalar
  | .bz _ _ => .scalar
  | .bnz _ _ => .scalar
  | .bany _ _ _ => .scalar
  | .ball _ _ _ => .scalar
  | .bnone _ _ _ => .scalar
  | .split _ _ => .scalar
  | .switch _ _ _ => .vector
  | .spawnS _ => .engine
  | .spawnL _ => .engine
  | .fnew _ _ _ => .memory
  | .fjoin _ _ => .memory
  | .fwait _ _ => .memory
  | .fput _ _ => .memory
  | .copy _ => .engine
  | .copyM _ _ _ _ => .engine
  | .mma _ _ _ => .engine
  | .mmaMc _ _ _ _ => .engine
  | .accz _ => .engine
  | .accld _ _ _ => .engine
  | .accst _ _ _ => .engine
  | .cxopenIntersect _ _ _ => .engine
  | .cxopenUnion _ _ _ => .engine
  | .cxopenExpand _ _ => .engine
  | .cxnext _ _ _ _ => .engine
  | .cxsplit _ _ _ => .engine
  | .cxsave _ _ => .engine
  | .cxload _ _ => .engine
  | .cxloadS _ _ => .engine
  | .cxclose _ => .engine
  | .vadd _ _ _ _ => .vector
  | .vsub _ _ _ _ => .vector
  | .vmul _ _ _ _ => .vector
  | .vmulhI _ _ _ _ => .vector
  | .vand _ _ _ _ => .vector
  | .vor _ _ _ _ => .vector
  | .vxor _ _ _ _ => .vector
  | .vandn _ _ _ _ => .vector
  | .vshl _ _ _ _ => .vector
  | .vshr _ _ _ _ => .vector
  | .vsra _ _ _ _ => .vector
  | .vminI _ _ _ _ => .vector
  | .vmaxI _ _ _ _ => .vector
  | .vsel _ _ _ _ => .vector
  | .vmov _ _ _ => .vector
  | .vbcast _ _ _ => .vector
  | .vminN _ _ _ _ => .vector
  | .vmaxN _ _ _ _ => .vector
  | .vmulhN _ _ _ _ => .vector
  | .vbfxI _ _ _ _ => .vector
  | .vbfxN _ _ _ _ => .vector
  | .vbfi _ _ _ _ => .vector
  | .vclz _ _ _ => .vector
  | .vpopc _ _ _ => .vector
  | .vbrev _ _ _ => .vector
  | .vlaneid _ _ => .vector
  | .vmad _ _ _ _ _ => .vector
  | .vaddImm _ _ _ => .vector
  | .vandImm _ _ _ => .vector
  | .vorImm _ _ _ => .vector
  | .vxorImm _ _ _ => .vector
  | .vshlImm _ _ _ => .vector
  | .vshrImm _ _ _ => .vector
  | .vsraImm _ _ _ => .vector
  | .vmovImm _ _ => .vector
  | .vcmpInt _ _ _ _ _ _ => .vector
  | .vcmpImm _ _ _ _ _ _ => .vector
  | .vcmpF32 _ _ _ _ _ _ => .vector
  | .vfaddF32 _ _ _ _ => .vector
  | .vfsubF32 _ _ _ _ => .vector
  | .vfmulF32 _ _ _ _ => .vector
  | .vfminF32 _ _ _ _ => .vector
  | .vfmaxF32 _ _ _ _ => .vector
  | .vfdiv _ _ _ _ => .sfu
  | .vfsqrt _ _ _ => .sfu
  | .vrcp _ _ _ => .sfu
  | .vrsq _ _ _ => .sfu
  | .vexp2 _ _ _ => .sfu
  | .vlog2 _ _ _ => .sfu
  | .vsin _ _ _ => .sfu
  | .vcos _ _ _ => .sfu
  | .vtanh _ _ _ => .sfu
  | .vfclassF32 _ _ _ => .vector
  | .vfcvtF32 _ _ _ _ => .vector
  | .vfaddF16x2 _ _ _ _ => .vector
  | .vfsubF16x2 _ _ _ _ => .vector
  | .vfmulF16x2 _ _ _ _ => .vector
  | .vfminF16x2 _ _ _ _ => .vector
  | .vfmaxF16x2 _ _ _ _ => .vector
  | .vfclassF16x2 _ _ _ => .vector
  | .vfcvtF16x2 _ _ _ _ => .vector
  | .vfaddBf16x2 _ _ _ _ => .vector
  | .vfsubBf16x2 _ _ _ _ => .vector
  | .vfmulBf16x2 _ _ _ _ => .vector
  | .vfminBf16x2 _ _ _ _ => .vector
  | .vfmaxBf16x2 _ _ _ _ => .vector
  | .vfclassBf16x2 _ _ _ => .vector
  | .vfcvtBf16x2 _ _ _ _ => .vector
  | .vfmaF32 _ _ _ _ _ => .vector
  | .vfmaF16x2 _ _ _ _ _ => .vector
  | .vfmaBf16x2 _ _ _ _ _ => .vector
  | .pand _ _ _ _ => .vector
  | .por _ _ _ _ => .vector
  | .pxor _ _ _ _ => .vector
  | .pnot _ _ _ => .vector
  | .shflIdx _ _ _ _ => .vector
  | .shflUp _ _ _ _ => .vector
  | .shflDown _ _ _ _ => .vector
  | .shflXor _ _ _ _ => .vector
  | .shflBcast _ _ _ _ => .vector
  | .vred _ _ _ _ => .vector
  | .vscan _ _ _ _ => .vector
  | .ld _ _ _ _ _ _ => .memory
  | .st _ _ _ _ _ _ => .memory
  | .ldl _ _ _ _ _ => .memory
  | .ldlW _ _ _ _ _ => .memory
  | .ldlWc _ _ _ _ _ => .memory
  | .stl _ _ _ _ _ => .memory
  | .stlFill _ _ _ _ _ => .memory
  | .atom _ _ _ _ _ => .memory
  | .atoml _ _ _ _ _ => .memory
  | .pref _ _ _ _ => .memory
  | .eventWrite _ => .none
  | .resultArrival _ _ _ => .none
  | .missStatusRetry _ => .none
  | .futureDelivery => .none
  | .errorDelivery => .none
  | .messageArrival _ _ => .none
  | .taskDispatch _ => .none
  | .steal _ => .none
  | .stagingStart _ => .none
  | .stagingComplete _ => .none
  | .tileWritebackComplete _ _ => .none
  | .copyStart _ => .none
  | .copyCompletion _ => .none
  | .matrixOpStart _ => .none
  | .matrixOpEnd _ => .none
  | .brambleOpStart _ => .none
  | .mmaMcWindowLapse _ => .none
  | .teamPlacement _ => .none
  | .rootClosurePush _ => .none
  | .switchOut _ _ => .none
  | .switchIn _ _ => .none
  | .preoffWindowExpiry _ _ => .none
  | .periodStart _ => .none
  | .budgetExhausted _ => .none
  | .jobEnd _ => .none
  | .sweepVisit _ => .none
  | .sweepTest _ => .none
  | .testResult _ _ => .none
  | .drainmaxExpiry _ => .none
  | .coreGated _ => .none
  | .launch _ => .none
  | .createContract _ => .none
  | .destroyContract _ => .none
  | .drainJob _ => .none
  | .cmdUndefined _ => .none
  | .graftRead _ => .none
  | .regraft _ => .none
  | .capRead _ => .none
  | .capFence _ => .none
  | .capRetest _ => .none
  | .sweepSet _ => .none
  | .migrate _ => .none
  | .migrateEnd _ => .none
  | .groupSet _ => .none
  | .powerSetClockStep _ => .none
  | .powerSetGate _ => .none
  | .powerSetHbmRefresh _ => .none
  | .alarmSet _ => .none
  | .viSet _ => .none
  | .attest _ => .none
  | .retransmit _ _ => .none
  | .illegalInstruction _ => .none
  | .brambleOpEnd _ => .none
  | .sqdbWrite _ _ => .none
  | .sqblWrite _ _ => .none
  | .eqblWrite _ _ => .none
  | .vipasWrite _ _ => .none
  | .registerWrite _ _ _ => .none
  | .moduleReset _ => .none
  | .stackReset _ => .none
  | .clusterReset _ => .none
  | .mevtClear _ => .none
  | .inventory => .none
  | .sensors => .none
  | .i3cPower _ _ _ => .none
  | .i3cAttest _ => .none
  | .status => .none
  | .i3cReset => .none
  | .fwWrite _ _ => .none
  | .fwCommit _ => .none
  | .i3cUnknownCommand _ => .none
  | .translationCompletion _ _ _ _ => .none
  | .pageResponse _ _ _ _ => .none
  | .invalidateRequest _ _ _ => .none
  | .peerRequest _ _ _ => .none
  | .linkAck _ _ _ => .none
  | .currentAlarmHigh _ => .none
  | .currentAlarmLow _ => .none
  | .lineEviction _ _ _ => .none
  | .numvfsWrite _ => .none
  | .dynamicAddressAssignment _ => .none

/-- The packet-ending instructions (R101). -/
def packetEnding : Instr → Bool
  | .exit => true
  | .trap _ => true
  | .brk _ => true
  | .tend _ => true
  | .ret _ => true
  | .jmp _ => true
  | .merge => true
  | .bra _ => true
  | .call _ => true
  | .bz _ _ => true
  | .bnz _ _ => true
  | .bany _ _ _ => true
  | .ball _ _ _ => true
  | .bnone _ _ _ => true
  | .split _ _ => true
  | .switch _ _ _ => true
  | .nop => false
  | .preoff _ => false
  | .preon => false
  | .getc _ _ => false
  | .setc _ _ => false
  | .fence _ => false
  | .acq _ => false
  | .rel _ => false
  | .drain _ => false
  | .rdvi _ _ => false
  | .rdva _ => false
  | .rdvw _ => false
  | .smap _ _ => false
  | .sunmap _ => false
  | .mqcfg _ => false
  | .ptake => false
  | .ppass _ => false
  | .ppassFree => false
  | .cwait _ => false
  | .sadd _ _ _ => false
  | .ssub _ _ _ => false
  | .smul _ _ _ => false
  | .smulh _ _ _ _ => false
  | .sand _ _ _ => false
  | .sor _ _ _ => false
  | .sxor _ _ _ => false
  | .sandn _ _ _ => false
  | .sshl _ _ _ => false
  | .sshr _ _ _ _ => false
  | .ssra _ _ _ => false
  | .smin _ _ _ _ => false
  | .smax _ _ _ _ => false
  | .ssel _ _ _ => false
  | .scmp _ _ _ _ => false
  | .sdiv _ _ _ _ _ => false
  | .sbfx _ _ _ _ => false
  | .sbfi _ _ _ => false
  | .sclz _ _ => false
  | .spopc _ _ => false
  | .smov _ _ => false
  | .sxget _ _ => false
  | .sxset _ _ => false
  | .maskp _ _ => false
  | .pmask _ _ => false
  | .vote _ _ _ => false
  | .saddImm _ _ _ => false
  | .sandImm _ _ _ => false
  | .sorImm _ _ _ => false
  | .sxorImm _ _ _ => false
  | .sshlImm _ _ _ => false
  | .sshrImm _ _ _ => false
  | .ssraImm _ _ _ => false
  | .scmpImm _ _ _ _ => false
  | .smovi _ _ => false
  | .slih _ _ => false
  | .lds _ _ _ => false
  | .sts _ _ _ => false
  | .ldacq _ _ _ _ => false
  | .strel _ _ _ _ => false
  | .atoms _ _ _ _ _ => false
  | .spawnS _ => false
  | .spawnL _ => false
  | .fnew _ _ _ => false
  | .fjoin _ _ => false
  | .fwait _ _ => false
  | .fput _ _ => false
  | .copy _ => false
  | .copyM _ _ _ _ => false
  | .mma _ _ _ => false
  | .mmaMc _ _ _ _ => false
  | .accz _ => false
  | .accld _ _ _ => false
  | .accst _ _ _ => false
  | .cxopenIntersect _ _ _ => false
  | .cxopenUnion _ _ _ => false
  | .cxopenExpand _ _ => false
  | .cxnext _ _ _ _ => false
  | .cxsplit _ _ _ => false
  | .cxsave _ _ => false
  | .cxload _ _ => false
  | .cxloadS _ _ => false
  | .cxclose _ => false
  | .vadd _ _ _ _ => false
  | .vsub _ _ _ _ => false
  | .vmul _ _ _ _ => false
  | .vmulhI _ _ _ _ => false
  | .vand _ _ _ _ => false
  | .vor _ _ _ _ => false
  | .vxor _ _ _ _ => false
  | .vandn _ _ _ _ => false
  | .vshl _ _ _ _ => false
  | .vshr _ _ _ _ => false
  | .vsra _ _ _ _ => false
  | .vminI _ _ _ _ => false
  | .vmaxI _ _ _ _ => false
  | .vsel _ _ _ _ => false
  | .vmov _ _ _ => false
  | .vbcast _ _ _ => false
  | .vminN _ _ _ _ => false
  | .vmaxN _ _ _ _ => false
  | .vmulhN _ _ _ _ => false
  | .vbfxI _ _ _ _ => false
  | .vbfxN _ _ _ _ => false
  | .vbfi _ _ _ _ => false
  | .vclz _ _ _ => false
  | .vpopc _ _ _ => false
  | .vbrev _ _ _ => false
  | .vlaneid _ _ => false
  | .vmad _ _ _ _ _ => false
  | .vaddImm _ _ _ => false
  | .vandImm _ _ _ => false
  | .vorImm _ _ _ => false
  | .vxorImm _ _ _ => false
  | .vshlImm _ _ _ => false
  | .vshrImm _ _ _ => false
  | .vsraImm _ _ _ => false
  | .vmovImm _ _ => false
  | .vcmpInt _ _ _ _ _ _ => false
  | .vcmpImm _ _ _ _ _ _ => false
  | .vcmpF32 _ _ _ _ _ _ => false
  | .vfaddF32 _ _ _ _ => false
  | .vfsubF32 _ _ _ _ => false
  | .vfmulF32 _ _ _ _ => false
  | .vfminF32 _ _ _ _ => false
  | .vfmaxF32 _ _ _ _ => false
  | .vfdiv _ _ _ _ => false
  | .vfsqrt _ _ _ => false
  | .vrcp _ _ _ => false
  | .vrsq _ _ _ => false
  | .vexp2 _ _ _ => false
  | .vlog2 _ _ _ => false
  | .vsin _ _ _ => false
  | .vcos _ _ _ => false
  | .vtanh _ _ _ => false
  | .vfclassF32 _ _ _ => false
  | .vfcvtF32 _ _ _ _ => false
  | .vfaddF16x2 _ _ _ _ => false
  | .vfsubF16x2 _ _ _ _ => false
  | .vfmulF16x2 _ _ _ _ => false
  | .vfminF16x2 _ _ _ _ => false
  | .vfmaxF16x2 _ _ _ _ => false
  | .vfclassF16x2 _ _ _ => false
  | .vfcvtF16x2 _ _ _ _ => false
  | .vfaddBf16x2 _ _ _ _ => false
  | .vfsubBf16x2 _ _ _ _ => false
  | .vfmulBf16x2 _ _ _ _ => false
  | .vfminBf16x2 _ _ _ _ => false
  | .vfmaxBf16x2 _ _ _ _ => false
  | .vfclassBf16x2 _ _ _ => false
  | .vfcvtBf16x2 _ _ _ _ => false
  | .vfmaF32 _ _ _ _ _ => false
  | .vfmaF16x2 _ _ _ _ _ => false
  | .vfmaBf16x2 _ _ _ _ _ => false
  | .pand _ _ _ _ => false
  | .por _ _ _ _ => false
  | .pxor _ _ _ _ => false
  | .pnot _ _ _ => false
  | .shflIdx _ _ _ _ => false
  | .shflUp _ _ _ _ => false
  | .shflDown _ _ _ _ => false
  | .shflXor _ _ _ _ => false
  | .shflBcast _ _ _ _ => false
  | .vred _ _ _ _ => false
  | .vscan _ _ _ _ => false
  | .ld _ _ _ _ _ _ => false
  | .st _ _ _ _ _ _ => false
  | .ldl _ _ _ _ _ => false
  | .ldlW _ _ _ _ _ => false
  | .ldlWc _ _ _ _ _ => false
  | .stl _ _ _ _ _ => false
  | .stlFill _ _ _ _ _ => false
  | .atom _ _ _ _ _ => false
  | .atoml _ _ _ _ _ => false
  | .pref _ _ _ _ => false
  | .eventWrite _ => false
  | .resultArrival _ _ _ => false
  | .missStatusRetry _ => false
  | .futureDelivery => false
  | .errorDelivery => false
  | .messageArrival _ _ => false
  | .taskDispatch _ => false
  | .steal _ => false
  | .stagingStart _ => false
  | .stagingComplete _ => false
  | .tileWritebackComplete _ _ => false
  | .copyStart _ => false
  | .copyCompletion _ => false
  | .matrixOpStart _ => false
  | .matrixOpEnd _ => false
  | .brambleOpStart _ => false
  | .mmaMcWindowLapse _ => false
  | .teamPlacement _ => false
  | .rootClosurePush _ => false
  | .switchOut _ _ => false
  | .switchIn _ _ => false
  | .preoffWindowExpiry _ _ => false
  | .periodStart _ => false
  | .budgetExhausted _ => false
  | .jobEnd _ => false
  | .sweepVisit _ => false
  | .sweepTest _ => false
  | .testResult _ _ => false
  | .drainmaxExpiry _ => false
  | .coreGated _ => false
  | .launch _ => false
  | .createContract _ => false
  | .destroyContract _ => false
  | .drainJob _ => false
  | .cmdUndefined _ => false
  | .graftRead _ => false
  | .regraft _ => false
  | .capRead _ => false
  | .capFence _ => false
  | .capRetest _ => false
  | .sweepSet _ => false
  | .migrate _ => false
  | .migrateEnd _ => false
  | .groupSet _ => false
  | .powerSetClockStep _ => false
  | .powerSetGate _ => false
  | .powerSetHbmRefresh _ => false
  | .alarmSet _ => false
  | .viSet _ => false
  | .attest _ => false
  | .retransmit _ _ => false
  | .illegalInstruction _ => false
  | .brambleOpEnd _ => false
  | .sqdbWrite _ _ => false
  | .sqblWrite _ _ => false
  | .eqblWrite _ _ => false
  | .vipasWrite _ _ => false
  | .registerWrite _ _ _ => false
  | .moduleReset _ => false
  | .stackReset _ => false
  | .clusterReset _ => false
  | .mevtClear _ => false
  | .inventory => false
  | .sensors => false
  | .i3cPower _ _ _ => false
  | .i3cAttest _ => false
  | .status => false
  | .i3cReset => false
  | .fwWrite _ _ => false
  | .fwCommit _ => false
  | .i3cUnknownCommand _ => false
  | .translationCompletion _ _ _ _ => false
  | .pageResponse _ _ _ _ => false
  | .invalidateRequest _ _ _ => false
  | .peerRequest _ _ _ => false
  | .linkAck _ _ _ => false
  | .currentAlarmHigh _ => false
  | .currentAlarmLow _ => false
  | .lineEviction _ _ _ => false
  | .numvfsWrite _ => false
  | .dynamicAddressAssignment _ => false

/-- The class that an instruction has whatever its formats (R297); COPY, MMA, ACCLD and ACCST take theirs from their
formats when they execute. -/
def classOf : Instr → Option Nat
  | .nop => some 0
  | .exit => some 0
  | .trap _ => some 0
  | .brk _ => some 0
  | .preoff _ => some 0
  | .preon => some 0
  | .getc _ _ => some 0
  | .setc _ _ => some 0
  | .fence _ => some 7
  | .acq _ => some 7
  | .rel _ => some 7
  | .drain _ => some 7
  | .rdvi _ _ => some 0
  | .rdva _ => some 0
  | .rdvw _ => some 0
  | .smap _ _ => some 26
  | .sunmap _ => some 26
  | .mqcfg _ => some 26
  | .tend _ => some 10
  | .ptake => some 21
  | .ppass _ => some 21
  | .ppassFree => some 21
  | .ret _ => some 0
  | .jmp _ => some 0
  | .merge => some 0
  | .cwait _ => some 8
  | .sadd _ _ _ => some 0
  | .ssub _ _ _ => some 0
  | .smul _ _ _ => some 0
  | .smulh _ _ _ _ => some 0
  | .sand _ _ _ => some 0
  | .sor _ _ _ => some 0
  | .sxor _ _ _ => some 0
  | .sandn _ _ _ => some 0
  | .sshl _ _ _ => some 0
  | .sshr _ _ _ _ => some 0
  | .ssra _ _ _ => some 0
  | .smin _ _ _ _ => some 0
  | .smax _ _ _ _ => some 0
  | .ssel _ _ _ => some 0
  | .scmp _ _ _ _ => some 0
  | .sdiv _ _ _ _ _ => some 0
  | .sbfx _ _ _ _ => some 0
  | .sbfi _ _ _ => some 0
  | .sclz _ _ => some 0
  | .spopc _ _ => some 0
  | .smov _ _ => some 0
  | .sxget _ _ => some 0
  | .sxset _ _ => some 0
  | .maskp _ _ => some 0
  | .pmask _ _ => some 0
  | .vote _ _ _ => some 6
  | .saddImm _ _ _ => some 0
  | .sandImm _ _ _ => some 0
  | .sorImm _ _ _ => some 0
  | .sxorImm _ _ _ => some 0
  | .sshlImm _ _ _ => some 0
  | .sshrImm _ _ _ => some 0
  | .ssraImm _ _ _ => some 0
  | .scmpImm _ _ _ _ => some 0
  | .smovi _ _ => some 0
  | .slih _ _ => some 0
  | .lds _ _ _ => some 7
  | .sts _ _ _ => some 7
  | .ldacq _ _ _ _ => some 7
  | .strel _ _ _ _ => some 7
  | .atoms _ _ _ _ _ => some 9
  | .bra _ => some 0
  | .call _ => some 0
  | .bz _ _ => some 0
  | .bnz _ _ => some 0
  | .bany _ _ _ => some 0
  | .ball _ _ _ => some 0
  | .bnone _ _ _ => some 0
  | .split _ _ => some 0
  | .switch _ _ _ => some 1
  | .spawnS _ => some 10
  | .spawnL _ => some 10
  | .fnew _ _ _ => some 10
  | .fjoin _ _ => some 10
  | .fwait _ _ => some 10
  | .fput _ _ => some 10
  | .copy _ => none
  | .copyM _ _ _ _ => none
  | .mma _ _ _ => none
  | .mmaMc _ _ _ _ => none
  | .accz _ => some 21
  | .accld _ _ _ => none
  | .accst _ _ _ => none
  | .cxopenIntersect _ _ _ => some 25
  | .cxopenUnion _ _ _ => some 25
  | .cxopenExpand _ _ => some 25
  | .cxnext _ _ _ _ => some 25
  | .cxsplit _ _ _ => some 25
  | .cxsave _ _ => some 25
  | .cxload _ _ => some 25
  | .cxloadS _ _ => some 25
  | .cxclose _ => some 25
  | .vadd _ _ _ _ => some 1
  | .vsub _ _ _ _ => some 1
  | .vmul _ _ _ _ => some 1
  | .vmulhI _ _ _ _ => some 1
  | .vand _ _ _ _ => some 1
  | .vor _ _ _ _ => some 1
  | .vxor _ _ _ _ => some 1
  | .vandn _ _ _ _ => some 1
  | .vshl _ _ _ _ => some 1
  | .vshr _ _ _ _ => some 1
  | .vsra _ _ _ _ => some 1
  | .vminI _ _ _ _ => some 1
  | .vmaxI _ _ _ _ => some 1
  | .vsel _ _ _ _ => some 1
  | .vmov _ _ _ => some 1
  | .vbcast _ _ _ => some 1
  | .vminN _ _ _ _ => some 1
  | .vmaxN _ _ _ _ => some 1
  | .vmulhN _ _ _ _ => some 1
  | .vbfxI _ _ _ _ => some 1
  | .vbfxN _ _ _ _ => some 1
  | .vbfi _ _ _ _ => some 1
  | .vclz _ _ _ => some 1
  | .vpopc _ _ _ => some 1
  | .vbrev _ _ _ => some 1
  | .vlaneid _ _ => some 1
  | .vmad _ _ _ _ _ => some 1
  | .vaddImm _ _ _ => some 1
  | .vandImm _ _ _ => some 1
  | .vorImm _ _ _ => some 1
  | .vxorImm _ _ _ => some 1
  | .vshlImm _ _ _ => some 1
  | .vshrImm _ _ _ => some 1
  | .vsraImm _ _ _ => some 1
  | .vmovImm _ _ => some 1
  | .vcmpInt _ _ _ _ _ _ => some 1
  | .vcmpImm _ _ _ _ _ _ => some 1
  | .vcmpF32 _ _ _ _ _ _ => some 2
  | .vfaddF32 _ _ _ _ => some 2
  | .vfsubF32 _ _ _ _ => some 2
  | .vfmulF32 _ _ _ _ => some 2
  | .vfminF32 _ _ _ _ => some 2
  | .vfmaxF32 _ _ _ _ => some 2
  | .vfdiv _ _ _ _ => some 5
  | .vfsqrt _ _ _ => some 5
  | .vrcp _ _ _ => some 5
  | .vrsq _ _ _ => some 5
  | .vexp2 _ _ _ => some 5
  | .vlog2 _ _ _ => some 5
  | .vsin _ _ _ => some 5
  | .vcos _ _ _ => some 5
  | .vtanh _ _ _ => some 5
  | .vfclassF32 _ _ _ => some 2
  | .vfcvtF32 _ _ _ _ => some 2
  | .vfaddF16x2 _ _ _ _ => some 3
  | .vfsubF16x2 _ _ _ _ => some 3
  | .vfmulF16x2 _ _ _ _ => some 3
  | .vfminF16x2 _ _ _ _ => some 3
  | .vfmaxF16x2 _ _ _ _ => some 3
  | .vfclassF16x2 _ _ _ => some 3
  | .vfcvtF16x2 _ _ _ _ => some 3
  | .vfaddBf16x2 _ _ _ _ => some 4
  | .vfsubBf16x2 _ _ _ _ => some 4
  | .vfmulBf16x2 _ _ _ _ => some 4
  | .vfminBf16x2 _ _ _ _ => some 4
  | .vfmaxBf16x2 _ _ _ _ => some 4
  | .vfclassBf16x2 _ _ _ => some 4
  | .vfcvtBf16x2 _ _ _ _ => some 4
  | .vfmaF32 _ _ _ _ _ => some 2
  | .vfmaF16x2 _ _ _ _ _ => some 3
  | .vfmaBf16x2 _ _ _ _ _ => some 4
  | .pand _ _ _ _ => some 0
  | .por _ _ _ _ => some 0
  | .pxor _ _ _ _ => some 0
  | .pnot _ _ _ => some 0
  | .shflIdx _ _ _ _ => some 6
  | .shflUp _ _ _ _ => some 6
  | .shflDown _ _ _ _ => some 6
  | .shflXor _ _ _ _ => some 6
  | .shflBcast _ _ _ _ => some 6
  | .vred _ _ _ _ => some 6
  | .vscan _ _ _ _ => some 6
  | .ld _ _ _ _ _ _ => some 7
  | .st _ _ _ _ _ _ => some 7
  | .ldl _ _ _ _ _ => some 8
  | .ldlW _ _ _ _ _ => some 8
  | .ldlWc _ _ _ _ _ => some 8
  | .stl _ _ _ _ _ => some 8
  | .stlFill _ _ _ _ _ => some 8
  | .atom _ _ _ _ _ => some 9
  | .atoml _ _ _ _ _ => some 9
  | .pref _ _ _ _ => some 7
  | .eventWrite _ => none
  | .resultArrival _ _ _ => none
  | .missStatusRetry _ => none
  | .futureDelivery => none
  | .errorDelivery => none
  | .messageArrival _ _ => none
  | .taskDispatch _ => none
  | .steal _ => none
  | .stagingStart _ => none
  | .stagingComplete _ => none
  | .tileWritebackComplete _ _ => none
  | .copyStart _ => none
  | .copyCompletion _ => none
  | .matrixOpStart _ => none
  | .matrixOpEnd _ => none
  | .brambleOpStart _ => none
  | .mmaMcWindowLapse _ => none
  | .teamPlacement _ => none
  | .rootClosurePush _ => none
  | .switchOut _ _ => none
  | .switchIn _ _ => none
  | .preoffWindowExpiry _ _ => none
  | .periodStart _ => none
  | .budgetExhausted _ => none
  | .jobEnd _ => none
  | .sweepVisit _ => none
  | .sweepTest _ => none
  | .testResult _ _ => none
  | .drainmaxExpiry _ => none
  | .coreGated _ => none
  | .launch _ => none
  | .createContract _ => none
  | .destroyContract _ => none
  | .drainJob _ => none
  | .cmdUndefined _ => none
  | .graftRead _ => none
  | .regraft _ => none
  | .capRead _ => none
  | .capFence _ => none
  | .capRetest _ => none
  | .sweepSet _ => none
  | .migrate _ => none
  | .migrateEnd _ => none
  | .groupSet _ => none
  | .powerSetClockStep _ => none
  | .powerSetGate _ => none
  | .powerSetHbmRefresh _ => none
  | .alarmSet _ => none
  | .viSet _ => none
  | .attest _ => none
  | .retransmit _ _ => none
  | .illegalInstruction _ => none
  | .brambleOpEnd _ => none
  | .sqdbWrite _ _ => none
  | .sqblWrite _ _ => none
  | .eqblWrite _ _ => none
  | .vipasWrite _ _ => none
  | .registerWrite _ _ _ => none
  | .moduleReset _ => none
  | .stackReset _ => none
  | .clusterReset _ => none
  | .mevtClear _ => none
  | .inventory => none
  | .sensors => none
  | .i3cPower _ _ _ => none
  | .i3cAttest _ => none
  | .status => none
  | .i3cReset => none
  | .fwWrite _ _ => none
  | .fwCommit _ => none
  | .i3cUnknownCommand _ => none
  | .translationCompletion _ _ _ _ => none
  | .pageResponse _ _ _ _ => none
  | .invalidateRequest _ _ _ => none
  | .peerRequest _ _ _ => none
  | .linkAck _ _ _ => none
  | .currentAlarmHigh _ => none
  | .currentAlarmLow _ => none
  | .lineEviction _ _ _ => none
  | .numvfsWrite _ => none
  | .dynamicAddressAssignment _ => none

/-- The guard predicate of a guarded format, p0 where the instruction has none (R45, R108). -/
def guardOf : Instr → Nat
  | .vadd _ _ _ g => g.toNat
  | .vsub _ _ _ g => g.toNat
  | .vmul _ _ _ g => g.toNat
  | .vmulhI _ _ _ g => g.toNat
  | .vand _ _ _ g => g.toNat
  | .vor _ _ _ g => g.toNat
  | .vxor _ _ _ g => g.toNat
  | .vandn _ _ _ g => g.toNat
  | .vshl _ _ _ g => g.toNat
  | .vshr _ _ _ g => g.toNat
  | .vsra _ _ _ g => g.toNat
  | .vminI _ _ _ g => g.toNat
  | .vmaxI _ _ _ g => g.toNat
  | .vmov _ _ g => g.toNat
  | .vbcast _ _ g => g.toNat
  | .vminN _ _ _ g => g.toNat
  | .vmaxN _ _ _ g => g.toNat
  | .vmulhN _ _ _ g => g.toNat
  | .vbfxI _ _ _ g => g.toNat
  | .vbfxN _ _ _ g => g.toNat
  | .vbfi _ _ _ g => g.toNat
  | .vclz _ _ g => g.toNat
  | .vpopc _ _ g => g.toNat
  | .vbrev _ _ g => g.toNat
  | .vlaneid _ g => g.toNat
  | .vfaddF32 _ _ _ g => g.toNat
  | .vfsubF32 _ _ _ g => g.toNat
  | .vfmulF32 _ _ _ g => g.toNat
  | .vfminF32 _ _ _ g => g.toNat
  | .vfmaxF32 _ _ _ g => g.toNat
  | .vfdiv _ _ _ g => g.toNat
  | .vfsqrt _ _ g => g.toNat
  | .vrcp _ _ g => g.toNat
  | .vrsq _ _ g => g.toNat
  | .vexp2 _ _ g => g.toNat
  | .vlog2 _ _ g => g.toNat
  | .vsin _ _ g => g.toNat
  | .vcos _ _ g => g.toNat
  | .vtanh _ _ g => g.toNat
  | .vfclassF32 _ _ g => g.toNat
  | .vfcvtF32 _ _ _ g => g.toNat
  | .vfaddF16x2 _ _ _ g => g.toNat
  | .vfsubF16x2 _ _ _ g => g.toNat
  | .vfmulF16x2 _ _ _ g => g.toNat
  | .vfminF16x2 _ _ _ g => g.toNat
  | .vfmaxF16x2 _ _ _ g => g.toNat
  | .vfclassF16x2 _ _ g => g.toNat
  | .vfcvtF16x2 _ _ _ g => g.toNat
  | .vfaddBf16x2 _ _ _ g => g.toNat
  | .vfsubBf16x2 _ _ _ g => g.toNat
  | .vfmulBf16x2 _ _ _ g => g.toNat
  | .vfminBf16x2 _ _ _ g => g.toNat
  | .vfmaxBf16x2 _ _ _ g => g.toNat
  | .vfclassBf16x2 _ _ g => g.toNat
  | .vfcvtBf16x2 _ _ _ g => g.toNat
  | .pand _ _ _ g => g.toNat
  | .por _ _ _ g => g.toNat
  | .pxor _ _ _ g => g.toNat
  | .pnot _ _ g => g.toNat
  | .shflIdx _ _ _ g => g.toNat
  | .shflUp _ _ _ g => g.toNat
  | .shflDown _ _ _ g => g.toNat
  | .shflXor _ _ _ g => g.toNat
  | .shflBcast _ _ _ g => g.toNat
  | .vred _ _ g _ => g.toNat
  | .ld _ _ _ g _ _ => g.toNat
  | .st _ _ _ g _ _ => g.toNat
  | .ldl _ _ _ g _ => g.toNat
  | .ldlW _ _ _ g _ => g.toNat
  | .ldlWc _ _ _ g _ => g.toNat
  | .stl _ _ _ g _ => g.toNat
  | .stlFill _ _ _ g _ => g.toNat
  | .atom _ _ _ g _ => g.toNat
  | .atoml _ _ _ g _ => g.toNat
  | .pref _ _ g _ => g.toNat
  | _ => 0

/-- The vector registers that stand inside a pair or quad group, where no stream port may be named (R181). -/
def grouped : Instr → List Nat
  | .ld d _ _ _ _ z | .st d _ _ _ _ z | .ldl d _ _ _ z | .stl d _ _ _ z => if sizeCount z.toNat = 1 then [] else sizeRegs d.toNat z.toNat
  | .ldlW d _ _ _ z | .ldlWc d _ _ _ z | .stlFill d _ _ _ z => if z.toNat = 1 then granRegs d.toNat 1 else []
  | .atom d _ _ _ f | .atoml d _ _ _ f => if f.toNat = 10 then [d.toNat, d.toNat + 1] else []
  | .cxnext v _ _ _ => group v.toNat 3
  | _ => []

end Sys2Proof.Machine
end

