-- ==== Sys2Proof/Machine/Access.lean ====
section
/-!
DEFINITION. Reading and updating parts of the state: units by their numbers (R15), registers of a wave (R40, R44), jobs and
teams.
-/

namespace Sys2Proof.Machine

/-- Global cluster number of a core (R15). -/
def clusterOf (core : Nat) : Nat := core / 8
/-- Stack number of a core (R15). -/
def stackOf (core : Nat) : Nat := core / 128

def State.core (s : State) (c : Nat) : Core := NMap.at s.cores c { }
def State.setCore (s : State) (c : Nat) (k : Core) : State := { s with cores := NMap.put s.cores c k }
def State.modCore (s : State) (c : Nat) (f : Core → Core) : State := s.setCore c (f (s.core c))
def State.cluster (s : State) (c : Nat) : Cluster := NMap.at s.clusters c { }
def State.modCluster (s : State) (c : Nat) (f : Cluster → Cluster) : State :=
  { s with clusters := NMap.put s.clusters c (f (s.cluster c)) }
def State.stack (s : State) (k : Nat) : Stack := NMap.at s.stk k { }
def State.modStack (s : State) (k : Nat) (f : Stack → Stack) : State := { s with stk := NMap.put s.stk k (f (s.stack k)) }
def State.iface (s : State) (v : Nat) : Iface := NMap.at s.vis v { }
def State.modIface (s : State) (v : Nat) (f : Iface → Iface) : State := { s with vis := NMap.put s.vis v (f (s.iface v)) }

/-- What stands for a job that does not exist. -/
def Job.empty : Job := { jid := 0, vi := 0, pasid := 0, num := 0, task := true, npkt := 0, cbase := 0, entry := 0 }
/-- What stands for a team that does not exist. -/
def Team.empty : Team := { tid := 0, job := 0, num := 0, cluster := 0, cores := [], size := 0, alive := 0 }
/-- What stands for an allocation that does not exist: it has no bytes. -/
def Alloc.empty : Alloc := { aid := 0, job := 0, cluster := 0, bytes := 0 }

def State.job (s : State) (j : Nat) : Job := NMap.at s.jobs j Job.empty
def State.team (s : State) (t : Nat) : Team := NMap.at s.teams t Team.empty
def State.alloc (s : State) (a : Nat) : Alloc := NMap.at s.allocs a Alloc.empty
/-- Updates a job that exists. -/
def State.modJob (s : State) (j : Nat) (f : Job → Job) : State :=
  match NMap.get? s.jobs j with
  | some x => { s with jobs := NMap.put s.jobs j (f x) }
  | none => s
/-- Updates a team that exists. -/
def State.modTeam (s : State) (t : Nat) (f : Team → Team) : State :=
  match NMap.get? s.teams t with
  | some x => { s with teams := NMap.put s.teams t (f x) }
  | none => s
/-- Updates an allocation that exists. -/
def State.modAlloc (s : State) (a : Nat) (f : Alloc → Alloc) : State :=
  match NMap.get? s.allocs a with
  | some x => { s with allocs := NMap.put s.allocs a (f x) }
  | none => s

def State.wave? (s : State) (c slot : Nat) : Option Wave := NMap.get? (s.core c).slots slot
/-- Updates the wave in a slot, if there is one. -/
def State.modWave (s : State) (c slot : Nat) (f : Wave → Wave) : State :=
  match s.wave? c slot with
  | some w => s.modCore c (fun k => { k with slots := NMap.put k.slots slot (f w) })
  | none => s
/-- Updates a live arm, if it exists. -/
def Wave.modArm (w : Wave) (a : Nat) (f : Arm → Arm) : Wave :=
  match NMap.get? w.arms a with
  | some x => { w with arms := NMap.put w.arms a (f x) }
  | none => w
def State.modArm (s : State) (r : ArmRef) (f : Arm → Arm) : State := s.modWave r.core r.slot (fun w => w.modArm r.arm f)

/-- A fresh number (assumption 15). -/
def State.fresh (s : State) : Nat × State := (s.handles, { s with handles := s.handles + 1 })
/-- Undefined words for a job, the next that it draws (R4). -/
def State.freeWords (s : State) (jid n : Nat) : List Word × State :=
  ((List.range n).map (fun k => Config.freeWord jid ((s.job jid).freeN + k)), s.modJob jid (fun j => { j with freeN := j.freeN + n }))

/-- A scalar register of a wave (R40). -/
def Wave.sreg (w : Wave) (n : Nat) : Word := NMap.at w.s n 0#32
/-- Whether a scalar register is empty (R51). -/
def Wave.sIsEmpty (w : Wave) (n : Nat) : Bool := w.sEmpty.any (fun e => e.1 == n)
def Wave.setS (w : Wave) (n : Nat) (x : Word) : Wave := { w with s := NMap.put w.s n x }
/-- A vector register of a wave (R40). -/
def Wave.vreg (w : Wave) (n : Nat) : LaneVec := NMap.at w.v n []
def Wave.setV (w : Wave) (n : Nat) (x : LaneVec) : Wave := { w with v := NMap.put w.v n x }
/-- A predicate: p0 reads true in every lane (R44). -/
def Wave.preg (w : Wave) (n : Nat) : Mask := if n = 0 then 0xFFFFFFFF#32 else NMap.at w.p n 0#32
/-- A write to p0 is discarded (R44). -/
def Wave.setP (w : Wave) (n : Nat) (x : Mask) : Wave := if n = 0 then w else { w with p := NMap.put w.p n x }
/-- The 64-bit value of the pair at `n` (R6). -/
def Wave.spair (w : Wave) (n : Nat) : Nat := pair (w.sreg n) (w.sreg (n + 1))
/-- Writes registers one after the other. -/
def Wave.setSs (w : Wave) (l : List (Nat × Word)) : Wave := l.foldl (fun w e => w.setS e.1 e.2) w

/-- New lanes where the mask is set, old ones elsewhere (R45). -/
def mergeLanes (m : Mask) (old : LaneVec) (f : Nat → Word) : LaneVec :=
  LaneVec.ofFn (fun l => if laneSet m l then f l else old.lane l)

/-- New bits where the mask is set, old ones elsewhere (R45). -/
def mergeMask (m old new : Mask) : Mask := (old &&& ~~~m) ||| (new &&& m)

/-- MODE as an instruction of this cycle captures it: as it stood at the start of the cycle (R133). -/
def Wave.modeNow (w : Wave) : Word := w.mode0.getD w.mode

/-- LTILE as an instruction of this cycle captures it, like MODE (R62, R133). -/
def Wave.ltileNow (w : Wave) : Word := w.ltile0.getD w.ltile

/-- The width of a lane tile (R62); LTILE holds 0 to 4 only (R71). -/
def tileWidth (ltile : Word) : Nat := 32 / 2 ^ min ltile.toNat 4

/-- The word that follows, within the packet or the next one (R99, R101); an instruction whose chained word has issued leaves the
arm where that word has left it, or still waiting for that word (R103). -/
def Arm.advance (a : Arm) : Arm :=
  match a.also with
  | some (h, q) => { a with hold := h, cap := some q, also := none, paired := true }
  | none =>
    if a.paired then { a with hold := .none, cap := none, paired := false }
    else if a.word < 2 then { a with word := a.word + 1, hold := .none } else { a with pc := a.pc + 1, word := 0, hold := .none }
/-- The two waiting words of a pair change places (R103). -/
def Arm.swap (a : Arm) : Arm :=
  match a.also, a.cap with
  | some (h, q), some x => { a with hold := h, cap := some q, also := some (a.hold, x) }
  | _, _ => a
/-- An arm with the wait that `p` asks for in front, where the other word of its pair has it (R103). -/
def Arm.facing (p : Hold → Bool) (a : Arm) : Arm := if !p a.hold && a.also.any (fun e => p e.1) then a.swap else a
/-- Whether an arm, or the other word of its pair, is held as `p` asks. -/
def Arm.heldBy (p : Hold → Bool) (a : Arm) : Bool := p a.hold || a.also.any (fun e => p e.1)
/-- The word of an arm that is held as `p` asks is done. -/
def Arm.wake (p : Hold → Bool) (a : Arm) : Arm := if a.heldBy p then (a.facing p).advance else a
/-- What an arm is held by, and with it the other word of its pair. -/
def Arm.holds (a : Arm) : List Hold := a.hold :: a.also.toList.map (fun e => e.1)
/-- The holds that what happens elsewhere ends. -/
def Hold.isPennant (h : Hold) : Bool := match h with | .pennant => true | _ => false
def Hold.isPassing (h : Hold) : Bool := match h with | .passing _ => true | _ => false
def Hold.isBramble (h : Hold) : Bool := match h with | .bramble => true | _ => false
def Hold.isRejected (h : Hold) : Bool := match h with | .rejected => true | _ => false
def Hold.isParked (h : Hold) : Bool := match h with | .parked .. => true | _ => false
def Hold.isAcquire (h : Hold) : Bool := match h with | .acquire .. => true | _ => false
def Hold.isRendezvous (h : Hold) : Bool := match h with | .rendezvous .. => true | _ => false
def Hold.isTiles (h : Hold) : Bool := match h with | .tiles .. => true | _ => false
def Hold.onPage (page : Nat) (h : Hold) : Bool := match h with | .page _ lanes => lanes.any (fun e => e.2 / 4096 == page) | _ => false
/-- The instructions of an arm that have issued and wait. -/
def Arm.captures (a : Arm) : List Capture := a.cap.toList ++ a.also.toList.map (fun e => e.2)
/-- Entry of a packet by a transfer of control (R104). -/
def Arm.goto (a : Arm) (pc : Nat) : Arm := { a with pc := pc, word := 0, hold := .none, cap := none, paired := false, also := none }

/-- Byte address of a packet (R99). -/
def Job.packetVA (j : Job) (pc : Nat) : Nat := j.cbase + 12 * pc
/-- Byte address of an arm's next word (R99). -/
def Job.wordVA (j : Job) (a : Arm) : Nat := j.cbase + 12 * a.pc + 4 * a.word
/-- Whether a virtual address lies in the job's code segment (R100). -/
def Job.inCode (j : Job) (va : Nat) : Bool := decide (j.cbase ≤ va ∧ va < j.cbase + 12 * j.npkt)

/-- Whether any group is open: the wave is split (R57). -/
def Wave.isSplit (w : Wave) : Bool := !w.groups.isEmpty
/-- SPLD (R71). -/
def Wave.spld (w : Wave) : Word :=
  BitVec.ofNat 32 (w.stack.length + (if w.isSplit then 32 else 0) + 64 * w.groups.length)
/-- WAVE (R71). -/
def waveWord (t : Team) (slot : Nat) (w : Wave) : Word :=
  BitVec.ofNat 32 (w.idx + (if w.isTask then 2 ^ 15 else 0) + slot * 2 ^ 16 + (t.size - 1) * 2 ^ 22)

/-- Where a local address lies (R166): the physical bank that stands at its place in the allocation's list, the bank row, the column. -/
def Alloc.place (al : Alloc) (a : Nat) : Option Nat × Nat × Nat := (al.banks[a / 131072]?, a % 131072 / 128, a / 4 % 32)

/-- The local address of a row and column of a physical bank that an allocation holds (R166). -/
def Alloc.addrOf (al : Alloc) (bank row col : Nat) : Option Nat :=
  if al.banks.contains bank ∧ row < 1024 ∧ col < 32 then some (131072 * al.banks.idxOf bank + 128 * row + 4 * col) else none

/-- The lane number that stands for a scalar access. -/
def scalarLane : Nat := 32

/-- The PASID, or the number that stands for requests without one (R471). -/
def noPasid : Nat := 2 ^ 20

/-- Graft entry `e` of a cluster (R291, R293). -/
def State.graftWord (s : State) (cl e : Nat) : Word := NMap.at (s.cluster cl).graft e (Config.fusedGraft (cl % 16) e)
/-- The OUT bit of a graft entry. -/
def graftOut (w : Word) : Bool := w.getLsbD 3
/-- How many ganged cores a cluster can form (R292): its ganged entries that are in service. One that is condemned takes none of the
others out of service (R294). -/
def State.gangCount (s : State) (cl : Nat) : Nat :=
  ((List.range 4).filter (fun k => !graftOut (s.graftWord cl (8 + k)))).length
/-- Whether a graft entry can be formed: its front-end site is not 0xFF (R291). -/
def graftFormed (w : Word) : Bool := w.extractLsb' 24 8 != 0xFF#8
/-- The graft entry of a core in its cluster's configuration (R17, R291). -/
def State.entryOf (s : State) (c : Nat) : Nat := if (s.cluster (clusterOf c)).ganged then 8 + c % 8 / 2 else c % 8
/-- Whether a core number is present in its cluster's configuration (R17, R18). -/
def State.present (s : State) (c : Nat) : Bool :=
  if (s.cluster (clusterOf c)).ganged then c % 2 == 0 && graftFormed (s.graftWord (clusterOf c) (8 + c % 8 / 2)) else true
/-- Whether a core is out of service (R293). -/
def State.isOut (s : State) (c : Nat) : Bool := graftOut (s.graftWord (clusterOf c) (s.entryOf c))
/-- Whether a core is ganged (R17). -/
def State.isGanged (s : State) (c : Nat) : Bool := (s.cluster (clusterOf c)).ganged
/-- The capability mask of a core (R293, R298). -/
def State.capMask (s : State) (c : Nat) : DWord :=
  if s.isOut c || !s.present c then 0#64 else if s.isGanged c then (s.core c).gmask else (s.core c).mask
/-- Whether a mask covers an opcode-use mask (R299). -/
def covers (mask oum : DWord) : Bool := oum &&& ~~~mask == 0#64

/-- The cores of the module in ascending order. -/
def allCores : List Nat := List.range 1024

/-- Every wave that occupies a slot: core, slot, wave. -/
def State.waves (s : State) : List (Nat × Nat × Wave) :=
  s.cores.flatMap (fun e => e.2.slots.map (fun w => (e.1, w.1, w.2)))

/-- The wave of a number that has not ended, with its place. -/
def State.findWave (s : State) (uid : Nat) : Option (Nat × Nat × Wave) := s.waves.find? (fun e => e.2.2.uid == uid)

/-- The PASID bound to an interface, or the number that stands for its requests without one (R253, R471). -/
def State.viPasid (s : State) (vi : Nat) : Nat :=
  if (s.iface vi).vipas.getLsbD 31 then (s.iface vi).vipas.toNat % 2 ^ 20 else noPasid + vi

/-- Banks of a cluster that are still in CACHE mode (R165). -/
def State.cacheBanks (s : State) (cl : Nat) : Nat := Config.bankCount - (s.cluster cl).banks.length
/-- The lowest `n` CACHE banks of a cluster. -/
def State.freeBanks (s : State) (cl n : Nat) : List Nat :=
  ((List.range Config.bankCount).filter (fun b => (NMap.get? (s.cluster cl).banks b).isNone)).take n

/-- A job's slot by number (R153). -/
def Job.slot (j : Job) (k : Nat) : Slot := j.slots.getD k { }

/-- Waves of a job that are resident. -/
def State.jobWaves (s : State) (j : Nat) : List (Nat × Nat × Wave) :=
  s.waves.filter (fun e => (s.team e.2.2.tid).job == j)

/-- Every entry of a core's deque, cold end first (R76). -/
def Core.deque (c : Core) : List Entry := c.ext ++ c.sram

/-- The first number from `lo` that a list does not hold, tried `fuel` times. -/
def firstFree (used : List Nat) : Nat → Nat → Nat
  | 0, n => n
  | fuel + 1, n => if used.contains n then firstFree used fuel (n + 1) else n

/-- Free wave slots of a core (R41). -/
def Core.freeSlots (c : Core) : List Nat := (List.range 64).filter (fun k => (NMap.get? c.slots k).isNone)

/-- Updates a producer in flight. -/
def State.modPending (s : State) (core slot id : Nat) (f : Pending → Pending) : State :=
  s.modWave core slot (fun w => { w with inflight := w.inflight.map (fun p => if p.id = id then f p else p) })

/-- A management event is noted, and the PF's vector 0 signals a newly set enabled bit (R310). -/
def State.mgmtEvent (s : State) (bit stack : Nat) : State :=
  let fresh := !s.pf.mevt.getLsbD bit && s.pf.mevten.getLsbD bit
  { s with pf := { s.pf with mevt := s.pf.mevt ||| BitVec.ofNat 32 (2 ^ bit), mevtstk := BitVec.ofNat 32 stack },
           msix := if fresh then s.msix ++ [(0, 0)] else s.msix }

/-- A rendezvous point of a team (R64). -/
def Team.point (t : Team) (p : Nat) : Point := NMap.at t.points p ⟨none, 0, 0⟩

/-- Requests of a wave to peers that are not acknowledged (R312). -/
def State.peerOpen (s : State) (w : Wave) : List LinkReq := s.links.flatMap (fun d => d.2.open_.filter (fun q => q.uid == w.uid))

/-- The store instructions of R355. -/
def isStore : Instr → Bool
  | .st .. | .sts .. | .stl .. | .stlFill .. | .strel .. => true
  | .atoms d _ _ _ _ => d == 0#6
  | _ => false

/-- The stores and atomics, which are performed although their wave exits (R357). -/
def storesOrAtomic (i : Instr) : Bool :=
  isStore i || (match i with | .atom .. | .atoml .. | .atoms .. => true | _ => false)

/-- The instructions of a wave that have issued and wait, but for those that a switch has abandoned. -/
def Wave.captures (w : Wave) : List Capture := (w.arms.flatMap (fun e => e.2.captures)).filter (fun q => !q.again)

/-- Whether a wave has accesses to memory in flight (R194). -/
def Wave.loading (w : Wave) : Bool := w.inflight.any (fun p => p.isMem)

/-- Whether a load of a wave below a number has not returned (R195). -/
def Wave.loadsBelow (w : Wave) (below : Nat) : Bool :=
  w.inflight.any (fun p => p.isMem && decide (p.id < below) && !(p.held && w.captures.any (fun q => q.id == p.id && isStore q.ins)))

/-- Whether some access of a wave that issued below a number is not yet performed (R194). -/
def State.unperformed (s : State) (c : Nat) (w : Wave) (below : Nat) : Bool :=
  w.loading || (s.core c).sideLog.any (fun e => e.uid == w.uid && decide (e.ins < below)) ||
    (s.peerOpen w).any (fun q => decide (q.pend < below))

end Sys2Proof.Machine
end

