-- ==== Sys2Proof/Machine/Memory.lean ====
section
/-!
DEFINITION. Where the bytes of global memory are (R157 to R164, R171 to R179), write signatures and boards (R192, R193),
release and acquire (R194 to R196), and cached translations (R285, R286). The L2 slices hold the home copies, so that a byte's
value at home is its value in device memory.
-/

namespace Sys2Proof.Machine

/-! ### Placement of device memory -/

/-- The HBM stack and the offset within it of a device physical address (R162). -/
def dpaPlace (groups : BitVec 128) (a : Nat) : Nat × Nat :=
  let g := a / 2 ^ 33
  let low := a % 1024
  if groups.getLsbD g then
    let c := a / 1024 % 2 ^ 20
    (2 * (a / 2 ^ 30 % 8) + (c + c / 16 + c / 256) % 2, 2 ^ 29 * g + 1024 * (c / 2) + low)
  else
    let c := a / 1024 % 2 ^ 23
    (c % 16 ^^^ (c / 16 % 16) ^^^ (c / 256 % 16), 2 ^ 29 * g + 1024 * (c / 16) + low)

/-- The compute stack, slice and set of a line's home (R163). -/
def homeSlice (groups : BitVec 128) (a : Nat) : Nat × Nat × Nat :=
  ((dpaPlace groups a).1 / 2, (a / 2 ^ 7 % 64) ^^^ (a / 2 ^ 13 % 64) ^^^ (a / 2 ^ 19 % 64),
    (a / 2 ^ 13 % 512) ^^^ (a / 2 ^ 22 % 512))

/-! ### Write signatures -/

/-- Rotation of an 11-bit value left (R192). -/
def rot11 (x k : Nat) : Nat := (x * 2 ^ k + x / 2 ^ (11 - k)) % 2048
/-- Reversal of the low `n` bits of a value. -/
def revBits (x : Nat) : Nat → Nat
  | 0 => 0
  | n + 1 => x % 2 * 2 ^ n + revBits (x / 2) n
/-- The three signature bits of a line address (R192). -/
def sigBits (la : Nat) : Nat × Nat × Nat :=
  let a := la % 2048
  let b := la / 2048 % 2048
  let c := la / 4194304 % 2048
  (a ^^^ b ^^^ c, a ^^^ rot11 b 1 ^^^ rot11 c 2, revBits a 11 ^^^ b ^^^ rot11 c 5)
/-- A signature with a line added (R192). -/
def sigAdd (g : BitVec 2048) (la : Nat) : BitVec 2048 :=
  let (i, j, k) := sigBits la
  g ||| BitVec.ofNat 2048 (2 ^ i) ||| BitVec.ofNat 2048 (2 ^ j) ||| BitVec.ofNat 2048 (2 ^ k)
/-- Whether a signature matches a line (R192). -/
def sigMatch (g : BitVec 2048) (la : Nat) : Bool :=
  let (i, j, k) := sigBits la
  g.getLsbD i && g.getLsbD j && g.getLsbD k
/-- The core notes that it has written a line (R192). -/
def Core.sign (c : Core) (la : Nat) : Core :=
  { c with sigC := sigAdd c.sigC la, sigS := sigAdd c.sigS la, sigD := sigAdd c.sigD la }

/-! ### Cache lines -/

/-- The bytes of a sector of a line. -/
def sectorOffsets (sec : Nat) : List Nat := (List.range 32).map (fun k => 32 * sec + k)
/-- Whether every byte of a sector is present. -/
def CLine.full (l : CLine) (sec : Nat) : Bool := (sectorOffsets sec).all (fun o => (NMap.get? l.bytes o).isSome)
/-- Whether a sector is present whole, with its poison: bytes that several stores left leave the sector's bit at its home (R178), so
that a sector made of them alone is still to be filled. -/
def CLine.hasSector (l : CLine) (sec : Nat) : Bool := l.known.contains sec && l.full sec
/-- A line whose cache knows the poison of only those sectors that are present whole. -/
def CLine.keepKnown (l : CLine) : CLine := { l with known := l.known.filter l.full }
/-- Whether a byte of a line stands for its sector's newest value in this cache: dirty, or of a sector that is whole. A clean byte
of a part of a sector is read anew with the rest, so that no read mixes it with later bytes (R179). -/
def CLine.fresh (l : CLine) (o : Nat) : Option Byte :=
  match NMap.get? l.bytes o with
  | some b => if b.dirty || l.hasSector (o / 32) then some b.val else none
  | none => none
/-- Fills a sector that is not whole, clean, around its dirty bytes; a poisoned source poisons the sector (R177). -/
def CLine.fill (l : CLine) (sec : Nat) (f : Nat → Byte) (pois : Bool) : CLine :=
  let b := (sectorOffsets sec).foldl
    (fun m o => if (NMap.get? l.bytes o).any (fun x => x.dirty) then m else NMap.put m o ⟨f o, false⟩) l.bytes
  { l with bytes := b, pois := if pois && !l.hasSector sec then setInsert l.pois sec else l.pois, known := setInsert l.known sec }
/-- A line without the clean bytes of a sector that is not whole: the bytes that come to it now never make those stand for the
sector again (R179). -/
def CLine.settled (l : CLine) (sec : Nat) : CLine :=
  if l.hasSector sec then l
  else { l with bytes := l.bytes.filter (fun e => e.1 / 32 != sec || e.2.dirty), known := setErase l.known sec }
/-- Stores a byte, dirty (R171). -/
def CLine.store (l : CLine) (o : Nat) (b : Byte) : CLine :=
  let l := l.settled (o / 32)
  { l with bytes := NMap.put l.bytes o ⟨b, true⟩ }
/-- The dirty bytes of a line. -/
def CLine.dirty (l : CLine) : List (Nat × Byte) :=
  l.bytes.filterMap (fun e => if e.2.dirty then some (e.1, e.2.val) else none)
/-- The poisoned sectors of a line that have dirty bytes: the poison that leaves with them (R177). -/
def CLine.dirtyPois (l : CLine) : List Nat := l.pois.filter (fun k => l.dirty.any (fun e => e.1 / 32 == k))
/-- A line whose dirty bytes have been written back: they stay, clean (R360). -/
def CLine.clean (l : CLine) : CLine := { l with bytes := l.bytes.map (fun e => (e.1, { e.2 with dirty := false })), whole := [] }
/-- Only what a line holds of one sector. -/
def CLine.part (l : CLine) (sec : Nat) : CLine :=
  { l with bytes := l.bytes.filter (fun e => e.1 / 32 == sec), whole := l.whole.filter (fun k => k == sec),
           pois := l.pois.filter (fun k => k == sec), known := l.known.filter (fun k => k == sec) }
/-- A line without its clean bytes (R195). -/
def CLine.dropClean (l : CLine) : CLine :=
  let b := l.bytes.filter (fun e => e.2.dirty)
  CLine.keepKnown { l with bytes := b, pois := l.pois.filter (fun k => b.any (fun e => e.1 / 32 == k)) }
/-- Removes every byte of a sector. -/
def CLine.dropSector (l : CLine) (sec : Nat) : CLine :=
  { l with bytes := l.bytes.filter (fun e => e.1 / 32 != sec), pois := setErase l.pois sec,
           whole := setErase l.whole sec, known := setErase l.known sec }

/-- Whether a cluster has a cluster cache (R167). -/
def State.hasCC (s : State) (cl : Nat) : Bool := decide (0 < s.cacheBanks cl)

/-- Poison of a sector of device memory (R177). -/
def State.homePoison (s : State) (a : Nat) : Bool := s.poison.contains (a / 32)
/-- Sets or clears the poison of a sector of device memory, given by an address in it. -/
def State.setPoison (s : State) (a : Nat) (p : Bool) : State :=
  { s with poison := if p then setInsert s.poison (a / 32) else setErase s.poison (a / 32) }
/-- Writes bytes at home (R206). -/
def State.homeWrite (s : State) (a : Nat) (bs : List Byte) : State := { s with mem := Memory.writeBytes s.mem a bs }

/-! ### The L2 slices -/

/-- The lines that stand in the same set of the same slice as a line (R163, R171). -/
def State.l2Set (s : State) (la : Nat) : List Nat :=
  let at_ := homeSlice s.groups (128 * la)
  (s.l2.filter (fun e => homeSlice s.groups (128 * e.1) == at_)).map (fun e => e.1)

/-- An L2 line of a PASID: a line of another one is written back to HBM first and refilled (R172); a full set gives up one of its
lines, whose dirty sectors go to HBM (R171). -/
def State.l2Line (s : State) (pasid la : Nat) : State × L2Line :=
  match NMap.get? s.l2 la with
  | some l => if l.pasid = pasid then (s, l) else (s, { pasid := pasid })
  | none =>
    let set := s.l2Set la
    if set.length < Config.l2Ways then (s, { pasid := pasid })
    else ({ s with l2 := NMap.del s.l2 (set.getD (Config.victim s.freeCtr % set.length) la), freeCtr := s.freeCtr + 1 }, { pasid := pasid })

/-- Sectors of a line are read at their home slice, which fetches those that it lacks in units of 64 bytes (R173), or are written
there. -/
def State.l2Touch (s : State) (pasid la : Nat) (secs : List Nat) (write : Bool) : State :=
  let (s, l) := s.l2Line pasid la
  let got := if write then secs else secs.flatMap (fun k => [k / 2 * 2, k / 2 * 2 + 1])
  let l : L2Line := { l with secs := got.foldl setInsert l.secs, dirty := if write then secs.foldl setInsert l.dirty else l.dirty }
  { s with l2 := NMap.put s.l2 la l }

/-- The home slices of lines are read or written for a list of device addresses. -/
def State.l2Bytes (s : State) (pasid : Nat) (write : Bool) (as : List Nat) : State :=
  ((as.map (fun a => a / 32)).dedup).foldl (fun s k => s.l2Touch pasid (k / 4) [k % 4] write) s

/-- Writes the dirty bytes of a line at its home, with the poison of R177 and R178. -/
def State.lineHome (s : State) (la : Nat) (l : CLine) : State :=
  let d := l.dirty
  let s := if d.isEmpty then s else s.l2Touch l.pasid la ((d.map (fun e => e.1 / 32)).dedup) true
  let mem := d.foldl (fun m e => Memory.write m (128 * la + e.1) e.2) s.mem
  let secs := (List.range 4).filter (fun k => d.any (fun e => e.1 / 32 == k))
  let pois := secs.foldl (fun p k =>
    if l.pois.contains k then setInsert p (4 * la + k)
    else if l.whole.contains k then setErase p (4 * la + k) else p) s.poison
  { s with mem := mem, poison := pois }

/-- Changes a line of a cluster's cache, and drops it when nothing is left. -/
def State.setCC (s : State) (cl la : Nat) (l : CLine) : State :=
  s.modCluster cl (fun c => { c with cc := if l.bytes.isEmpty then NMap.del c.cc la else NMap.put c.cc la l })
/-- Changes a line of a core's L1, and drops it when nothing is left. -/
def State.setL1 (s : State) (c la : Nat) (l : CLine) : State :=
  s.modCore c (fun k => { k with l1 := if l.bytes.isEmpty then NMap.del k.l1 la else NMap.put k.l1 la l })

/-- The cluster cache's lines in the set of a line (R167: DPA[16:7]). -/
def State.ccSet (s : State) (cl la : Nat) : List (Nat × CLine) :=
  (s.cluster cl).cc.filter (fun e => e.1 % Config.ccSets == la % Config.ccSets)

/-- A line leaves a cluster's cache, its dirty sectors written back (R171, R191). -/
def State.evictCC (s : State) (cl la : Nat) : State :=
  match NMap.get? (s.cluster cl).cc la with
  | some l => (s.lineHome la l).modCluster cl (fun k => { k with cc := NMap.del k.cc la })
  | none => s

/-- A way of the cluster cache for a new line: a CACHE bank that its set leaves free, else that of a line that leaves (R167,
R191). -/
def State.ccWay (s : State) (cl la : Nat) : State × Nat :=
  let set := s.ccSet cl la
  match (List.range Config.bankCount).find? (fun b => (NMap.get? (s.cluster cl).banks b).isNone && !set.any (fun e => e.2.way == b)) with
  | some b => (s, b)
  | none =>
    match set[Config.victim s.freeCtr % set.length]? with
    | some e => ({ s.evictCC cl e.1 with freeCtr := s.freeCtr + 1 }, e.2.way)
    | none => (s, 0)

/-- A cluster's line for a PASID: a line of another PASID is written back first and leaves (R172). -/
def State.ccLine (s : State) (cl pasid la : Nat) : State × CLine :=
  match NMap.get? (s.cluster cl).cc la with
  | some l =>
    if l.pasid = pasid then (s, l)
    else ((s.lineHome la l).setCC cl la { pasid := pasid, way := l.way }, { pasid := pasid, way := l.way })
  | none => let (s, b) := s.ccWay cl la; (s, { pasid := pasid, way := b })

/-- A sector present in the cluster cache, filled from home (R171). -/
def State.ccSector (s : State) (cl pasid la sec : Nat) : State :=
  let (s, l) := s.ccLine cl pasid la
  if l.hasSector sec then s
  else (s.l2Touch pasid la [sec] false).setCC cl la
    (l.fill sec (fun o => Memory.read s.mem (128 * la + o)) (s.homePoison (128 * la + 32 * sec)))

/-- The copy that a cluster's cache holds of a line of another PASID is written back and leaves (R172). -/
def State.evictOther (s : State) (cl pasid la : Nat) : State :=
  match NMap.get? (s.cluster cl).cc la with
  | some k => if k.pasid = pasid then s else s.evictCC cl la
  | none => s

/-- Dirty bytes of a line that leaves L1 for the cluster cache or for home (R194): the copy of the cluster cache is updated
and, on the way home, left clean, with the poison of R178. -/
def State.lineOut (s : State) (cl la : Nat) (l : CLine) (home : Bool) : State :=
  if home || !s.hasCC cl then
    let s := (s.evictOther cl l.pasid la).lineHome la l
    let l := { l with pois := l.dirtyPois }
    match NMap.get? (s.cluster cl).cc la with
    | some k =>
      let k := (List.range 4).foldl CLine.settled k
      s.setCC cl la
        { k with bytes := l.dirty.foldl (fun m e => NMap.put m e.1 ⟨e.2, false⟩) k.bytes,
                 pois := l.pois.foldl setInsert (k.pois.filter (fun x => !l.whole.contains x)), known := l.whole.foldl setInsert k.known }
    | none => s
  else
    let (s, k) := s.ccLine cl l.pasid la
    let l := { l with pois := l.dirtyPois }
    let k := (List.range 4).foldl CLine.settled k
    s.setCC cl la
      { k with bytes := l.dirty.foldl (fun m e => NMap.put m e.1 ⟨e.2, true⟩) k.bytes,
               pois := l.pois.foldl setInsert (k.pois.filter (fun x => !l.whole.contains x)),
               whole := l.whole.foldl setInsert k.whole, known := l.whole.foldl setInsert k.known }

/-- A line leaves a core's L1, written back to the next level where it is dirty (R171, R191). -/
def State.evictL1 (s : State) (c la : Nat) : State :=
  match NMap.get? (s.core c).l1 la with
  | some l =>
    (if l.dirty.isEmpty then s else s.lineOut (clusterOf c) la l false).modCore c (fun k => { k with l1 := NMap.del k.l1 la })
  | none => s

/-- Room for one more line in a core's L1: a full one gives up a line (R26, R171, R191). -/
def State.roomL1 (s : State) (c : Nat) : State :=
  let l1 := (s.core c).l1
  if l1.length < Config.l1Lines then s
  else match l1[Config.victim s.freeCtr % l1.length]? with
    | some e => { s.evictL1 c e.1 with freeCtr := s.freeCtr + 1 }
    | none => s

/-- A core's line for a PASID (R172). -/
def State.l1Line (s : State) (c pasid la : Nat) : State × CLine :=
  match NMap.get? (s.core c).l1 la with
  | some l =>
    if l.pasid = pasid then (s, l)
    else ((s.lineOut (clusterOf c) la l false).setL1 c la { pasid := pasid }, { pasid := pasid })
  | none => (s.roomL1 c, { pasid := pasid })

/-- A sector present in a core's L1, filled from the next level (R171). -/
def State.l1Sector (s : State) (c pasid la sec : Nat) : State :=
  let (s, l) := s.l1Line c pasid la
  if l.hasSector sec then s
  else
    let cl := clusterOf c
    if s.hasCC cl then
      let s := s.ccSector cl pasid la sec
      let k := NMap.at (s.cluster cl).cc la { pasid := pasid }
      s.setL1 c la (l.fill sec (fun o => (NMap.at k.bytes o ⟨0#8, false⟩).val) (k.pois.contains sec))
    else (s.l2Touch pasid la [sec] false).setL1 c la
      (l.fill sec (fun o => Memory.read s.mem (128 * la + o)) (s.homePoison (128 * la + 32 * sec)))

/-- The sectors, as (line, sector), that `n` bytes at `a` touch. -/
def sectorsOf (a n : Nat) : List (Nat × Nat) :=
  (List.range ((a + n - 1) / 32 + 1 - a / 32)).map (fun k => ((a / 32 + k) / 4, (a / 32 + k) % 4))

/-- A read of `n` bytes at the core's L1: the state after fills, the bytes, and whether a sector read is poisoned
(R171, R178). -/
def State.readL1 (s : State) (c pasid a n : Nat) : State × List Byte × Bool :=
  let s := (sectorsOf a n).foldl (fun s e => s.l1Sector c pasid e.1 e.2) s
  let byte (x : Nat) : Byte := (NMap.at (NMap.at (s.core c).l1 (x / 128) { pasid := pasid }).bytes (x % 128) ⟨0#8, false⟩).val
  (s, (List.range n).map (fun k => byte (a + k)),
    (sectorsOf a n).any (fun e => (NMap.at (s.core c).l1 e.1 { pasid := pasid }).pois.contains e.2))

/-- A read at the cluster's level: the cluster cache, or home while it has none (R189). -/
def State.readCC (s : State) (cl pasid a n : Nat) : State × List Byte × Bool :=
  if s.hasCC cl then
    let s := (sectorsOf a n).foldl (fun s e => s.ccSector cl pasid e.1 e.2) s
    let byte (x : Nat) : Byte :=
      (NMap.at (NMap.at (s.cluster cl).cc (x / 128) { pasid := pasid }).bytes (x % 128) ⟨0#8, false⟩).val
    (s, (List.range n).map (fun k => byte (a + k)),
      (sectorsOf a n).any (fun e => (NMap.at (s.cluster cl).cc e.1 { pasid := pasid }).pois.contains e.2))
  else (s.l2Bytes pasid false (List.range' a n), Memory.readBytes s.mem a n, (sectorsOf a n).any (fun e => s.homePoison (128 * e.1 + 32 * e.2)))

/-- A read at home. -/
def State.readHome (s : State) (a n : Nat) : List Byte × Bool :=
  (Memory.readBytes s.mem a n, (sectorsOf a n).any (fun e => s.homePoison (128 * e.1 + 32 * e.2)))

/-- Copies of a line that another PASID has left in a core's L1 and in its cluster's cache are written back and leave, as an access
that allocates at neither level misses there (R172, R174). -/
def State.expelOther (s : State) (c pasid la : Nat) : State :=
  let s := match NMap.get? (s.core c).l1 la with
    | some l => if l.pasid = pasid then s else s.evictL1 c la
    | none => s
  s.evictOther (clusterOf c) pasid la

/-- A non-temporal read: L1 or the cluster cache where they hold the bytes, else home, without allocating (R174). -/
def State.readNt (s : State) (c pasid a n : Nat) : State × List Byte × Bool :=
  let s := s.expelOther c pasid (a / 128)
  let l1 := NMap.get? (s.core c).l1 (a / 128)
  let cc := NMap.get? (s.cluster (clusterOf c)).cc (a / 128)
  let sec := a % 128 / 32
  let pick (x : Nat) : Byte :=
    ((l1.bind (fun l => l.fresh (x % 128))).or (cc.bind (fun l => l.fresh (x % 128)))).getD (Memory.read s.mem x)
  let below := (cc.any (fun l => l.pois.contains sec)) || (!cc.any (fun l => l.hasSector sec) && s.homePoison a)
  let whole := l1.any (fun l => l.hasSector sec)
  (if whole || cc.any (fun l => l.hasSector sec) then s else s.l2Bytes pasid false [a],
    (List.range n).map (fun k => pick (a + k)), (l1.any (fun l => l.pois.contains sec)) || (!whole && below))

/-- Stores bytes into a core's L1 (R171): dirty, without a fetch, noted in the signatures (R192). -/
def State.storeL1 (s : State) (c pasid : Nat) (ws : List (Nat × Byte)) : State :=
  ws.foldl (fun s e =>
    let (s, l) := s.l1Line c pasid (e.1 / 128)
    (s.setL1 c (e.1 / 128) (l.store (e.1 % 128) e.2)).modCore c (fun k => k.sign (e.1 / 128))) s

/-- One store covered these sectors (DPA / 32) whole: their poison is cleared (R178). -/
def State.wholeL1 (s : State) (c pasid : Nat) (secs : List Nat) : State :=
  secs.foldl (fun s x =>
    let (s, l) := s.l1Line c pasid (x / 4)
    s.setL1 c (x / 4) { l with pois := setErase l.pois (x % 4), whole := setInsert l.whole (x % 4), known := setInsert l.known (x % 4) }) s

/-- Writes bytes at home and in the copies of the core's own cluster cache, as engines and far stores do (R206). A copy of another PASID
is written back and leaves first (R172). -/
def State.writeThrough (s : State) (c pasid : Nat) (ws : List (Nat × Byte)) : State :=
  ws.foldl (fun s e =>
    let s := { s with mem := Memory.write s.mem e.1 e.2 }
    match NMap.get? (s.cluster (clusterOf c)).cc (e.1 / 128) with
    | some l =>
      if (NMap.get? l.bytes (e.1 % 128)).isSome then
        s.setCC (clusterOf c) (e.1 / 128) { l with bytes := NMap.put l.bytes (e.1 % 128) ⟨e.2, false⟩ }
      else s
    | none => s) ((((ws.map (fun e => e.1 / 128)).dedup).foldl (fun s la => s.evictOther (clusterOf c) pasid la) s).l2Bytes pasid true
      (ws.map (fun e => e.1)))

/-- A non-temporal store: into L1 where the line is present, else to home (R174). -/
def State.storeNt (s : State) (c pasid : Nat) (ws : List (Nat × Byte)) : State :=
  ws.foldl (fun s e =>
    let s := s.expelOther c pasid (e.1 / 128)
    match NMap.get? (s.core c).l1 (e.1 / 128) with
    | some _ => s.storeL1 c pasid [e]
    | none => (s.writeThrough c pasid [e]).modCore c (fun k => k.sign (e.1 / 128))) s

/-- Writes back and drops a core's copy of the sector at `a`, before an atomic at the cluster cache or beyond (R204). -/
def State.flushSector (s : State) (c a : Nat) (home : Bool) : State :=
  match NMap.get? (s.core c).l1 (a / 128) with
  | some l => (s.lineOut (clusterOf c) (a / 128) (l.part (a % 128 / 32)) home).setL1 c (a / 128) (l.dropSector (a % 128 / 32))
  | none => s

/-- Writes back the cluster cache's dirty bytes of the sector at `a` and drops its copy, before an access at home: no later read of
the cluster finds an older value there (R191, R204). -/
def State.flushCC (s : State) (cl a : Nat) : State :=
  match NMap.get? (s.cluster cl).cc (a / 128) with
  | some l => (s.lineHome (a / 128) (l.part (a % 128 / 32))).setCC cl (a / 128) (l.dropSector (a % 128 / 32))
  | none => s

/-- The poison of a sector (DPA / 32) at its home and in the copy of a cluster's own cache is set or cleared (R177, R178, R206). -/
def State.markSector (s : State) (cl : Nat) (p : Bool) (sec : Nat) : State :=
  let s := s.setPoison (32 * sec) p
  match NMap.get? (s.cluster cl).cc (sec / 4) with
  | some l => s.setCC cl (sec / 4) { l with pois := if p then setInsert l.pois (sec % 4) else setErase l.pois (sec % 4) }
  | none => s

/-! ### Release and acquire -/

/-- Writes back every dirty byte of a core's L1 to the cluster cache or to home (R194). -/
def State.writeBackL1 (s : State) (c : Nat) (home : Bool) : State :=
  (s.core c).l1.foldl (fun s e =>
    if e.2.dirty.isEmpty then s
    else (s.lineOut (clusterOf c) e.1 e.2 home).setL1 c e.1 e.2.clean) s

/-- Writes back the cluster cache's dirty lines that a signature matches (R194). -/
def State.writeBackCC (s : State) (cl : Nat) (g : BitVec 2048) : State :=
  (s.cluster cl).cc.foldl (fun s e =>
    if e.2.dirty.isEmpty || !sigMatch g e.1 then s
    else (s.lineHome e.1 e.2).setCC cl e.1 e.2.clean) s

/-- Publishes a signature on a board (R193). -/
def Board.publish (b : Board) (g : BitVec 2048) : Board :=
  { seq := b.seq + 1, ring := ((b.seq + 1, g) :: b.ring).take 64 }

/-- Scope codes (R109): 2 cluster, 3 stack, 4 device, 5 host, 6 fabric. -/
def publishTo (s : State) (c scope : Nat) (g : BitVec 2048) : State :=
  let s := s.modCluster (clusterOf c) (fun k => { k with board := k.board.publish g })
  let s := if 3 ≤ scope then s.modStack (stackOf c) (fun k => { k with board := k.board.publish g }) else s
  if 4 ≤ scope then { s with board := s.board.publish g } else s

/-- The memory effect of a release at a scope by a core (R194, R196), once every earlier access is performed. -/
def State.release (s : State) (c scope : Nat) : State :=
  if scope < 2 then s
  else
    let g := if scope = 2 then (s.core c).sigC else if scope = 3 then (s.core c).sigS else (s.core c).sigD
    let s := s.writeBackL1 c (decide (3 ≤ scope))
    let s := if 3 ≤ scope then s.writeBackCC (clusterOf c) g else s
    let s := publishTo s c scope g
    s.modCore c (fun k =>
      { k with sigC := 0#2048, sigS := if 3 ≤ scope then 0#2048 else k.sigS,
               sigD := if 4 ≤ scope then 0#2048 else k.sigD })

/-- The lines that an acquire discards, from a board and the last sequence number seen (R195). -/
def Board.since (b : Board) (last : Nat) : BitVec 2048 :=
  if 64 < b.seq - last then BitVec.allOnes 2048
  else b.ring.foldl (fun g e => if last < e.1 then g ||| e.2 else g) 0#2048

/-- Discards the clean bytes of the L1 lines that a signature matches, or of every line. -/
def Core.discard (c : Core) (every : Bool) (g : BitVec 2048) : Core :=
  { c with l1 := c.l1.filterMap (fun e =>
      if every || sigMatch g e.1 then (let l := e.2.dropClean; if l.bytes.isEmpty then none else some (e.1, l)) else some e) }

/-- Discards the clean sectors of the cluster cache's lines that a signature matches, or of every line; of a sector that is dirty in
part the dirty bytes stay, and the others are read anew, as the visibility of R200 needs. -/
def Cluster.discard (c : Cluster) (every : Bool) (g : BitVec 2048) : Cluster :=
  { c with cc := c.cc.filterMap (fun e =>
      if every || sigMatch g e.1 then (let l := e.2.dropClean; if l.bytes.isEmpty then none else some (e.1, l)) else some e) }

/-- The memory effect of an acquire at a scope by a core (R195, R196), once every earlier load has returned. -/
def State.acquire (s : State) (c scope : Nat) : State :=
  if scope < 2 then s
  else
    let k := s.core c
    let b := if scope = 2 then (s.cluster (clusterOf c)).board
      else if scope = 3 then (s.stack (stackOf c)).board else s.board
    let last := if scope = 2 then k.lastC else if scope = 3 then k.lastS else k.lastD
    let g := b.since last
    let every := decide (5 ≤ scope)
    let s := s.modCore c (fun k => Core.discard
      { k with lastC := if scope = 2 then b.seq else k.lastC, lastS := if scope = 3 then b.seq else k.lastS,
               lastD := if 4 ≤ scope then b.seq else k.lastD } every g)
    if 3 ≤ scope then s.modCluster (clusterOf c) (fun k => k.discard every g) else s

/-- An arm completes by an acquire at a scope: at once, or when the wave's loads below a number have returned (R195, R196); `d` is the
register of an LDACQ (R376). -/
def State.acquireAfter (s : State) (r : ArmRef) (scope below : Nat) (d : Option Nat) : State :=
  match s.wave? r.core r.slot with
  | none => s
  | some w =>
    if w.loadsBelow below then s.modArm r (fun a => { a with hold := .acquire scope below d })
    else (s.acquire r.core scope).modArm r Arm.advance

/-- An arm completes by an acquire at a scope, for which every load that the wave has in flight is an earlier one. -/
def State.finishAcquire (s : State) (r : ArmRef) (scope : Nat) : State := s.acquireAfter r scope s.handles none

/-- The arms of a wave whose acquires waited for its loads (R195). -/
def State.resumeAcquires (s : State) (core slot : Nat) : State :=
  match s.wave? core slot with
  | none => s
  | some w => w.arms.foldl (fun s (e : Nat × Arm) =>
      match (e.2.facing Hold.isAcquire).hold with
      | .acquire scope below d => (s.modArm ⟨core, slot, e.1⟩ (Arm.facing Hold.isAcquire)).acquireAfter ⟨core, slot, e.1⟩ scope below d
      | _ => s) s

/-- The memory effect of a FENCE at a scope (R197). -/
def State.fenceAt (s : State) (c scope : Nat) : State :=
  if scope < 2 then s
  else
    let s := s.writeBackL1 c (decide (3 ≤ scope))
    if 3 ≤ scope then s.writeBackCC (clusterOf c) (s.core c).sigD else s

/-- The fork edge of an engine thread: the core's dirty bytes reach home (R205). -/
def State.fork (s : State) (c : Nat) : State := (s.writeBackL1 c true).writeBackCC (clusterOf c) (s.core c).sigD

/-- An engine publishes the lines it wrote on the boards of its core: a release at device scope (R206). -/
def State.enginePublish (s : State) (c : Nat) (lines : List Nat) : State :=
  publishTo s c 4 (lines.foldl sigAdd 0#2048)

/-! ### Translation -/

/-- What a cached translation says of an access (R285, R286). -/
inductive XResult where
  | hit (t : Target)
  | miss
  deriving DecidableEq, Repr

/-- Offsets a target. -/
def targetPlus : Target → Nat → Target
  | .dpa a, k => .dpa (a + k)
  | .host a, k => .host (a + k)
  | .peer m a, k => .peer m (a + k)

/-- Whether an entry translates an address. -/
def Xlate.covers (x : Xlate) (pasid va : Nat) : Bool := x.pasid == pasid && decide (x.base ≤ va ∧ va < x.base + x.size)

/-- Looks an access up in a list of cached translations; an entry that denies the permission counts as absent (R286). -/
def lookupX (xs : List Xlate) (pasid va : Nat) (write : Bool) : XResult :=
  match xs.find? (fun x => x.covers pasid va && (if write then x.w else x.r)) with
  | some x => .hit (targetPlus x.target (va - x.base))
  | none => .miss

/-- The number of the I/O die as a unit that asks for translations (R471). -/
def ioUnit : Nat := 1024

/-- The I/O die as it asks for completion record rewrites and migrations, which never lead to a page request (R218, R308). -/
def ioQuiet : Nat := 1025

/-- The cached translations that a unit can use: a core's TLB and its stack's cache, or those of the I/O die. -/
def State.xlates (s : State) (unit : Nat) : List Xlate :=
  if ioUnit ≤ unit then s.ioAtc else (s.core unit).tlb ++ (s.stack (stackOf unit)).tcache

/-- Translation of an access of a unit. -/
def State.xlate (s : State) (unit pasid va : Nat) (write : Bool) : XResult := lookupX (s.xlates unit) pasid va write

/-- A Translation Request for a page that misses, unless one is already out (R285, R287); a denied cached entry is
discarded (R286). -/
def State.askX (s : State) (unit pasid va : Nat) (write : Bool) : State :=
  let drop (xs : List Xlate) : List Xlate := xs.filter (fun x => !(x.covers pasid va && !(if write then x.w else x.r)))
  let s := if ioUnit ≤ unit then { s with ioAtc := drop s.ioAtc }
    else (s.modCore unit (fun k => if k.tlb.any (fun x => x.covers pasid va) then { k with tlb := drop k.tlb } else k)).modStack
      (stackOf unit) (fun k => if k.tcache.any (fun x => x.covers pasid va) then { k with tcache := drop k.tcache } else k)
  let page := va / 4096
  if s.xreqs.any (fun q => q.pasid == pasid && q.page == page && q.write == write) then
    { s with xreqs := s.xreqs.map (fun q =>
        if q.pasid == pasid && q.page == page && q.write == write then { q with who := setInsert q.who unit } else q) }
  else { s with xreqs := s.xreqs ++ [{ pasid := pasid, page := page, write := write, phase := .asked, who := [unit] }] }

/-- Whether bits [63:57] of a virtual address are all zero (R157). -/
def vaOk (va : Nat) : Bool := va < 2 ^ 57

end Sys2Proof.Machine
end

