-- ==== Sys2Proof/Machine/Deque.lean ====
section
/-!
DEFINITION. Deques and their entries (R73 to R79), the event queues (R277, R280, R282, R283), draining a job (R263), and the
bytes that a target address names.
-/

namespace Sys2Proof.Machine

/-! ### Bytes at a target -/

/-- `n` bytes at a target as its home holds them, and whether a sector read is poisoned. A peer's bytes are read by link
requests only (R312). -/
def State.readT (s : State) (t : Target) (n : Nat) : List Byte × Bool :=
  match t with
  | .dpa a => s.readHome a n
  | .host a => (Memory.readBytes s.hostMem a n, false)
  | .peer _ _ => (List.replicate n 0#8, false)

/-- Bytes at a target are read: those of device memory at their home slice (R171, R172). -/
def State.touchHome (s : State) (pasid : Nat) (t : Target) (n : Nat) : State :=
  match t with
  | .dpa a => s.l2Bytes pasid false (List.range' a n)
  | _ => s

/-- A read of `n` bytes at a target: the state, the bytes, and whether they are poisoned. -/
def State.readAt (s : State) (pasid : Nat) (t : Target) (n : Nat) : State × List Byte × Bool :=
  let s := s.touchHome pasid t n
  (s, s.readT t n)

/-- Writes bytes at a target's home, and in the copies of a core's own cluster cache (R206). -/
def State.writeT (s : State) (c pasid : Nat) (t : Target) (bs : List Byte) : State :=
  match t with
  | .dpa a => s.writeThrough c pasid ((List.range bs.length).map (fun k => (a + k, bs.getD k 0#8)))
  | .host a => { s with hostMem := Memory.writeBytes s.hostMem a bs }
  | .peer _ _ => s

/-! ### Requests to peers -/

/-- Whether a request to a peer belongs to a load: nothing of an ended wave waits for it (R278, R357). -/
def LinkReq.isRead (q : LinkReq) : Bool := match q.op with | .read _ _ => true | _ => false

/-- The range of the cached translation that an access of a unit uses (R290). -/
def State.usedRange (s : State) (unit pasid va : Nat) (write : Bool) : Nat × Nat :=
  match (s.xlates unit).find? (fun x => x.covers pasid va && (if write then x.w else x.r)) with
  | some x => (x.base, x.size)
  | none => (4096 * (va / 4096), 4096)

/-- A request to a peer, with the module's number and the next tag of its destination (R312), and the translation that it used: of its
core for a job, of the I/O die for a migration (R217, R290). -/
def State.sendPeer (s : State) (module : Nat) (q : LinkReq) : State :=
  let (unit, pasid) := match NMap.get? s.jobs q.job with | some j => (q.core, j.pasid) | none => (ioUnit, q.pasid)
  let used := s.usedRange unit pasid q.va (!q.isRead)
  { s with links := NMap.alter s.links { } module (fun d =>
      { next := (d.next + 1) % 2 ^ 32, open_ := d.open_ ++ [{ q with src := s.module, tag := d.next, used := used, pasid := pasid }] }) }

/-- Whether requests to peers fit the windows of their destinations (R312). -/
def State.peersFit (s : State) (ts : List Target) : Bool :=
  ts.all (fun t => match t with
    | .peer m _ =>
      decide ((NMap.at s.links m { }).open_.length + ts.countP (fun x => match x with | .peer n _ => n == m | _ => false) ≤ 4096)
    | _ => true)

/-- Whether a target lies in a peer. -/
def isPeer (t : Target) : Bool :=
  match t with
  | .peer _ _ => true
  | _ => false

/-- A request of an engine operation, a staging, a continuation or a migration, which names no wave's producer (R90, R205, R217). -/
def engineReq (op : PeerOp) (owner core jid va : Nat) (ret : Bool) (pasid : Nat := 0) : LinkReq :=
  { tag := 0, op := op, sends := 1, core := core, slot := 0, uid := 0, pend := owner, lane := 0, job := jid, wave := 0#32, team := 0#32,
    lanes := 0#32, va := va, ret := ret, pasid := pasid }

/-- A sector of a peer that has been fetched for an owner. -/
def State.fetchOf (s : State) (owner sector : Nat) : Option PeerSector := s.fetched.find? (fun f => f.owner == owner && f.sector == sector)

/-- The sectors (VA / 32) of some addresses that an owner needs from peers and has not fetched, with their targets. -/
def State.peerNeeds (s : State) (owner unit pasid : Nat) (vas : List Nat) : List (Nat × Target) :=
  ((vas.map (fun va => va / 32)).dedup).filterMap (fun k =>
    match s.xlate unit pasid (32 * k) false with
    | .hit (.peer m a) => if (s.fetchOf owner k).isSome then none else some (k, .peer m a)
    | _ => none)

/-- Whether a read of a sector for an owner is on its way. -/
def State.peerAsked (s : State) (owner va : Nat) : Bool :=
  s.links.any (fun d => d.2.open_.any (fun q => q.uid == 0 && q.pend == owner && q.ret && q.va == va))

/-- Reads of peers' sectors are sent for an owner, as many as its destinations' windows take (R312). -/
def State.askSectors (s : State) (owner core jid : Nat) (ns : List (Nat × Target)) (pasid : Nat := 0) : State :=
  ns.foldl (fun s e => match e.2 with
    | .peer m a =>
      if s.peerAsked owner (32 * e.1) || !s.peersFit [e.2] then s
      else s.sendPeer m (engineReq (.read a 32) owner core jid (32 * e.1) true pasid)
    | _ => s) s

/-- What was fetched for an owner is needed no more. -/
def State.forgetFetched (s : State) (owner : Nat) : State :=
  if s.fetched.isEmpty then s else { s with fetched := s.fetched.filter (fun f => f.owner != owner) }

/-! ### Fault causes and events -/

/-- FCAUSE (R277). -/
def fcauseWord (tr : Bool) (arg det code : Nat) : Word :=
  BitVec.ofNat 32 ((if tr then 2 ^ 31 else 0) + arg % 2 ^ 13 * 2 ^ 16 + det % 256 * 256 + code % 256)

/-- FCAUSE of a fault with a detail (R277, R279). -/
def faultCause (code det : Nat) : Word := fcauseWord false 0 det code

/-- The detail of a cause that reports more than eight bits (R279). -/
def unsortedCause (detail stream cx : Nat) : Word := BitVec.ofNat 32 (0x18 + 256 * (detail % 16 + 16 * stream + 32 * cx))

/-- An event waits at its interface's queue; beyond 256 held events it is dropped and counted (R282). -/
def State.postEvent (s : State) (vi : Nat) (e : Event) : State :=
  s.modIface vi (fun v => if 256 ≤ v.held.length then { v with lost := v.lost + 1 } else { v with held := v.held ++ [e] })

/-- A record's event: KIND and TAG in w0, room for the count of dropped events in w1, w2 (R282). -/
def eventOf (kind : Nat) (w2 : Word) (rec : List Word) : Event :=
  BitVec.ofNat 32 (kind * 2 ^ 24 + (rec.getD 0 0#32).toNat % 2 ^ 16) :: 0#32 :: w2 :: rec.drop 3

/-- A line of words that is zero but for the given ones. -/
def wordsWith (n : Nat) (l : List (Nat × Word)) : List Word := (List.range n).map (fun k => NMap.at l k 0#32)

/-- The violation logs of R283: KIND 3 to the job's interface and KIND 4 to the PF's. -/
def State.logViolation (s : State) (vi : Nat) (rec : List Word) : State :=
  (s.postEvent vi (eventOf 3 0#32 rec)).postEvent 0 (eventOf 4 (BitVec.ofNat 32 vi) rec)

/-! ### Closures and deque entries -/

/-- Words of a closure header (R73). -/
def hdrTag (w0 : Word) : Nat := wbits w0 15 0
def hdrVB (w0 : Word) : Nat := wbits w0 23 16
def hdrNop (w0 : Word) : Nat := wbits w0 25 24
def hdrWr (w0 : Word) (k : Nat) : Bool := w0.getLsbD (26 + k)
def hdrPri (w0 : Word) : Nat := wbits w0 29 28
def hdrS (w0 : Word) : Bool := w0.getLsbD 30
def hdrM (w0 : Word) : Bool := w0.getLsbD 31

/-- Whether tile operand k of a staged closure fails R74. -/
def tileBad (ws : List Word) (k : Nat) : Bool :=
  let w := ws.getD (6 + 4 * k) 0#32
  let rows := wbits w 31 16
  let rb := wbits w 15 0
  rows == 0 || rb == 0 || rb % 16 != 0 || decide (131072 < rows * rb)

/-- The index of the first word of a closure that fails R74, if any. -/
def headerFault (npkt : Nat) (ws : List Word) : Option Nat :=
  let w0 := ws.getD 0 0#32
  let nop := hdrNop w0
  if nop = 3 ∨ hdrVB w0 = 0 ∨ 8 < hdrVB w0 ∨ (hdrS w0 ∧ nop = 0) ∨ (hdrWr w0 0 ∧ nop < 1) ∨ (hdrWr w0 1 ∧ nop < 2) then some 0
  else if npkt ≤ (ws.getD 1 0#32).toNat then some 1
  else if hdrS w0 then
    if tileBad ws 0 then some 6 else if nop = 2 ∧ tileBad ws 1 then some 10 else none
  else none

/-- The default-migratable flag sets M (R75). -/
def migratable (j : Job) (ws : List Word) : List Word :=
  if j.migrate then ws.set 0 (ws.getD 0 0#32 ||| 0x80000000#32) else ws

/-- An entry of a job (R77). -/
def newEntry (uid : Nat) (j : Job) (ws : List Word) : Entry :=
  { uid := uid, w := ws, job := j.jid, pasid := j.pasid, ready := !hdrS (ws.getD 0 0#32) }

/-- Whether a deque is full (R79). -/
def Core.dequeFull (c : Core) : Bool := decide (Config.dequeAll ≤ c.deque.length)

/-- A push onto the hot end, after a spill of the 64 coldest SRAM entries when the SRAM is full (R78). A spill is made whatever the
extension region holds, so that it can hold more than 32,768 entries while the deque holds no more than R79 allows: R78 says
nothing of that case, and this is the model's choice (assumption 36). -/
def Core.pushHot (c : Core) (e : Entry) : Core :=
  if Config.dequeSram ≤ c.sram.length then
    { c with ext := c.ext ++ c.sram.take 64, sram := c.sram.drop 64 ++ [e] }
  else { c with sram := c.sram ++ [e] }

/-- The refill of R78, after an entry has left the SRAM. -/
def Core.refill (c : Core) : Core :=
  if c.sram.length ≤ 32 ∧ ¬ c.ext.isEmpty then
    let n := min 64 c.ext.length
    { c with sram := c.ext.drop (c.ext.length - n) ++ c.sram, ext := c.ext.take (c.ext.length - n) }
  else c

/-- Takes an entry out of either store (R78). -/
def Core.takeEntry (c : Core) (uid : Nat) : Core :=
  Core.refill { c with sram := c.sram.filter (fun e => e.uid != uid), ext := c.ext.filter (fun e => e.uid != uid) }

/-- Updates an entry in place. -/
def Core.modEntry (c : Core) (uid : Nat) (f : Entry → Entry) : Core :=
  { c with sram := c.sram.map (fun e => if e.uid = uid then f e else e),
           ext := c.ext.map (fun e => if e.uid = uid then f e else e) }

/-- The error delivery that a discarded closure's handle receives (R263, R469). -/
def State.discardClosure (s : State) (core : Nat) (j : Job) (ws : List Word) : State :=
  let h := pair (ws.getD 2 0#32) (ws.getD 3 0#32)
  if h = 0 then s
  else { s with deliveries := s.deliveries ++
    [{ err := true, handle := h, value := 0#64, core := core, job := j.jid, pasid := j.pasid,
       tag := hdrTag (ws.getD 0 0#32), wave := 0#32, team := 0#32, dropped := true, fromWave := false }] }

/-- Pushes an entry onto a core's deque and queues its staging, whose fork edge lies here (R78, R83, R205); an entry of a drained job
is discarded (R263). -/
def State.pushEntry (s : State) (core : Nat) (e : Entry) : State :=
  let j := s.job e.job
  if j.drained then s.discardClosure core j e.w
  else
    let s := s.modCore core (fun k => k.pushHot e)
    if hdrS (e.w.getD 0 0#32) then
      (s.fork core).modCluster (clusterOf core) (fun k =>
        { k with stageQ := k.stageQ ++ [{ entry := e.uid, core := core, job := e.job, active := false, tiles := [] }] })
    else s

/-- Frees the staging space of an owner (R83, R84). -/
def State.freeStage (s : State) (owner : Nat) : State :=
  { s with allocs := s.allocs.map (fun e => (e.1, { e.2 with staged := e.2.staged.filter (fun t => t.1 != owner) })) }

/-- Abandons the staging of an entry (R83, R263). -/
def State.unstage (s : State) (uid : Nat) : State :=
  let s := s.freeStage uid
  { s with clusters := s.clusters.map (fun e => (e.1, { e.2 with stageQ := e.2.stageQ.filter (fun q => q.entry != uid) })) }

/-- Drains a job (R263): it is placed no more, and its deque entries are discarded. That a discard which leaves few entries in SRAM
is followed by a refill, as a pop is, is this model's choice: R78 names a pop, a claimed dispatch and a steal (assumption 36). -/
def State.drainJob (s : State) (jid : Nat) : State :=
  let j := s.job jid
  if j.drained then s
  else
    let s := s.modJob jid (fun j => { j with drained := true })
    let gone := s.cores.flatMap (fun e => (e.2.deque.filter (fun x => x.job == jid)).map (fun x => (e.1, x)))
    let s := gone.foldl (fun s e => (s.discardClosure e.1 j e.2.w).unstage e.2.uid) s
    { s with cores := s.cores.map (fun e =>
        if e.2.deque.any (fun x => x.job == jid) then
          (e.1, Core.refill { e.2 with sram := e.2.sram.filter (fun x => x.job != jid), ext := e.2.ext.filter (fun x => x.job != jid) })
        else e) }

/-- DQDEP (R71, R78). -/
def Core.dqdep (c : Core) : Word := BitVec.ofNat 32 (c.sram.length + (c.ext.length + 63) / 64 * 2 ^ 16)

end Sys2Proof.Machine
end

