-- ==== Sys2Proof/Machine/Float.lean ====
section
/-!
DEFINITION. Floating-point formats and their arithmetic (R130 to R145, R152): every operation is computed exactly on dyadic
numbers and rounded once. Encoded values are numbers below 2 to the width of their format.
-/

namespace Sys2Proof.Machine

/-- A binary floating-point format (R130). `inf` is false for f8e4, which has no infinities. -/
structure Fmt where
  eb : Nat
  fb : Nat
  inf : Bool
  deriving DecidableEq, Repr

/-- The formats of R130. -/
def Fmt.f32 : Fmt := ⟨8, 23, true⟩
/-- binary16. -/
def Fmt.f16 : Fmt := ⟨5, 10, true⟩
/-- The upper half of binary32. -/
def Fmt.bf16 : Fmt := ⟨8, 7, true⟩
/-- f8e5. -/
def Fmt.f8e5 : Fmt := ⟨5, 2, true⟩
/-- f8e4: exponent 1111 is a normal exponent but for the two NaNs. -/
def Fmt.f8e4 : Fmt := ⟨4, 3, false⟩

/-- The exponent bias. -/
def Fmt.bias (f : Fmt) : Int := 2 ^ (f.eb - 1) - 1
/-- The sign bit's place value. -/
def Fmt.signBit (f : Fmt) : Nat := 2 ^ (f.eb + f.fb)
/-- The encoded exponent of all ones. -/
def Fmt.expMax (f : Fmt) : Nat := 2 ^ f.eb - 1
/-- The exponent of the lowest fraction bit of subnormals. -/
def Fmt.qmin (f : Fmt) : Int := 1 - f.bias - f.fb

/-- Rounding attributes (R132). -/
inductive Rm where
  | rne
  | rtz
  | rdn
  | rup
  deriving DecidableEq, Repr

/-- MODE.RM (R71). -/
def Rm.ofMode (m : Word) : Rm :=
  match m.toNat % 4 with
  | 0 => .rne
  | 1 => .rtz
  | 2 => .rdn
  | _ => .rup

/-- FLAGS bits (R71). -/
def flagNV : Word := 1#32
/-- Division by zero. -/
def flagDZ : Word := 2#32
/-- Overflow. -/
def flagOF : Word := 4#32
/-- Underflow. -/
def flagUF : Word := 8#32
/-- Inexact. -/
def flagNX : Word := 16#32

/-- What an encoded value stands for: a NaN, an infinity, or (-1)^neg * m * 2^e. -/
inductive Num where
  | nan
  | inf (neg : Bool)
  | fin (neg : Bool) (m : Nat) (e : Int)
  deriving DecidableEq, Repr

/-- The sign of an encoded value. -/
def Fmt.neg (f : Fmt) (x : Nat) : Bool := x / f.signBit % 2 == 1
/-- The encoded exponent. -/
def Fmt.expo (f : Fmt) (x : Nat) : Nat := x / 2 ^ f.fb % 2 ^ f.eb
/-- The encoded fraction. -/
def Fmt.frac (f : Fmt) (x : Nat) : Nat := x % 2 ^ f.fb

/-- The value of an encoding (R130). -/
def Fmt.num (f : Fmt) (x : Nat) : Num :=
  let e := f.expo x
  let m := f.frac x
  if e = 0 then .fin (f.neg x) m f.qmin
  else if e = f.expMax ∧ f.inf then (if m = 0 then .inf (f.neg x) else .nan)
  else if e = f.expMax ∧ m = 2 ^ f.fb - 1 ∧ ¬ f.inf then .nan
  else .fin (f.neg x) (2 ^ f.fb + m) (e - f.bias - f.fb)

/-- Whether an encoding is a NaN. -/
def Fmt.isNan (f : Fmt) (x : Nat) : Bool := f.num x == .nan
/-- A NaN whose fraction's top bit is clear (R136). -/
def Fmt.isSnan (f : Fmt) (x : Nat) : Bool := f.isNan x && f.frac x / 2 ^ (f.fb - 1) == 0
/-- A NaN made quiet (R136). -/
def Fmt.quiet (f : Fmt) (x : Nat) : Nat := if f.frac x / 2 ^ (f.fb - 1) = 0 then x + 2 ^ (f.fb - 1) else x
/-- The default NaN of the format (R136). -/
def Fmt.defNan (f : Fmt) : Nat :=
  if f.inf then f.expMax * 2 ^ f.fb + 2 ^ (f.fb - 1) else f.expMax * 2 ^ f.fb + (2 ^ f.fb - 1)
/-- The sign in place. -/
def Fmt.sgn (f : Fmt) (neg : Bool) : Nat := if neg then f.signBit else 0
/-- The largest finite value of a sign. -/
def Fmt.maxFin (f : Fmt) (neg : Bool) : Nat :=
  f.sgn neg + (if f.inf then f.expMax * 2 ^ f.fb - 1 else f.expMax * 2 ^ f.fb + (2 ^ f.fb - 2))
/-- An infinity of a sign; in f8e4, the NaN of the sign (R132). -/
def Fmt.infinity (f : Fmt) (neg : Bool) : Nat :=
  f.sgn neg + (if f.inf then f.expMax * 2 ^ f.fb else f.defNan)
/-- The flag of the signalling NaNs among operands (R136). -/
def Fmt.nv (f : Fmt) (xs : List Nat) : Word := if xs.any f.isSnan then flagNV else 0#32
/-- The NaN result of R136: the first NaN operand, quiet, or the default NaN. -/
def Fmt.pickNan (f : Fmt) (xs : List Nat) : Nat :=
  match xs.find? f.isNan with
  | some x => f.quiet x
  | none => f.defNan

/-- Number of bits of a positive number. -/
def bitLen (m : Nat) : Nat := if m = 0 then 0 else Nat.log2 m + 1

/-- m * 2^k for k of either sign, rounded toward zero, and whether bits were lost. -/
def scaleBy (m : Nat) (k : Int) : Nat := if 0 ≤ k then m * 2 ^ k.toNat else m / 2 ^ (-k).toNat

/-- Whether rounding takes the next number away from zero, by the remainder r of a division by 2^d and the quotient's parity. -/
def roundUp (rm : Rm) (neg : Bool) (odd : Bool) (r d : Nat) : Bool :=
  match rm with
  | .rne => decide (2 ^ d < 2 * r) || (decide (2 * r = 2 ^ d) && odd)
  | .rtz => false
  | .rdn => neg && r != 0
  | .rup => !neg && r != 0

/-- m * 2^e rounded to a multiple of 2^q: the multiple and whether it is exact. -/
def roundQ (rm : Rm) (neg : Bool) (m : Nat) (e q : Int) : Nat × Bool :=
  if q ≤ e then (m * 2 ^ (e - q).toNat, true)
  else
    let d := (q - e).toNat
    let n := m / 2 ^ d
    let r := m % 2 ^ d
    (if roundUp rm neg (n % 2 == 1) r d then n + 1 else n, r == 0)

/-- Whether overflow delivers the largest finite value (R132, R144). -/
def overflowsToMax (rm : Rm) (neg : Bool) : Bool :=
  match rm with
  | .rne => false
  | .rtz => true
  | .rdn => !neg
  | .rup => neg

/-- Rounds (-1)^neg * m * 2^e once into a format, with the flags of R134; `sat` saturates (R144). -/
def Fmt.round (f : Fmt) (rm : Rm) (sat : Bool) (neg : Bool) (m : Nat) (e : Int) : Nat × Word :=
  if m = 0 then (f.sgn neg, 0#32)
  else
    let top : Int := e + bitLen m - 1
    let q0 := top - f.fb
    let q := max q0 f.qmin
    let (n, exact) := roundQ rm neg m e q
    let (n0, _) := roundQ rm neg m e q0
    let maxM := f.maxFin false % 2 ^ f.fb + 2 ^ f.fb
    let maxQ : Int := (f.maxFin false / 2 ^ f.fb : Nat) - f.bias - f.fb
    if maxM * 2 ^ (maxQ - f.qmin).toNat < n * 2 ^ (q - f.qmin).toNat then
      (if sat || overflowsToMax rm neg then f.maxFin neg else f.infinity neg, flagOF ||| flagNX)
    else
      let tiny := decide (n0 * 2 ^ (q0 - (q0 - f.fb - 2)).toNat < 2 ^ (1 - f.bias - (q0 - f.fb - 2)).toNat)
      let bits :=
        if n < 2 ^ f.fb then n
        else if n < 2 ^ (f.fb + 1) then (q + f.fb + f.bias).toNat * 2 ^ f.fb + (n - 2 ^ f.fb)
        else (q + 1 + f.fb + f.bias).toNat * 2 ^ f.fb + (n / 2 - 2 ^ f.fb)
      (f.sgn neg + bits,
        if exact then 0#32 else if tiny && q0 < f.qmin then flagUF ||| flagNX else flagNX)

/-- An exact dyadic number m * 2^e with a signed mantissa. -/
structure Dy where
  m : Int
  e : Int
  deriving DecidableEq, Repr

/-- Sum of two dyadic numbers. -/
def Dy.add (a b : Dy) : Dy :=
  let e := min a.e b.e
  ⟨a.m * 2 ^ (a.e - e).toNat + b.m * 2 ^ (b.e - e).toNat, e⟩
/-- Product of two dyadic numbers. -/
def Dy.mul (a b : Dy) : Dy := ⟨a.m * b.m, a.e + b.e⟩
/-- Negation. -/
def Dy.neg (a : Dy) : Dy := ⟨-a.m, a.e⟩
/-- Absolute value. -/
def Dy.abs (a : Dy) : Dy := ⟨a.m.natAbs, a.e⟩
/-- Strict order of dyadic numbers. -/
def Dy.lt (a b : Dy) : Bool :=
  let e := min a.e b.e
  decide (a.m * 2 ^ (a.e - e).toNat < b.m * 2 ^ (b.e - e).toNat)
/-- Zero. -/
def Dy.zero : Dy := ⟨0, 0⟩
/-- The dyadic number of a finite value. -/
def Num.dy : Num → Dy
  | .fin neg m e => ⟨if neg then -(m : Int) else m, e⟩
  | _ => Dy.zero
/-- Rounds a dyadic number; an exact zero takes the given sign. -/
def Fmt.roundDy (f : Fmt) (rm : Rm) (sat : Bool) (zneg : Bool) (d : Dy) : Nat × Word :=
  f.round rm sat (if d.m = 0 then zneg else decide (d.m < 0)) d.m.natAbs d.e

/-- The sign of an exactly zero sum (R137). -/
def zeroSumNeg (rm : Rm) (na nb : Bool) : Bool := if na == nb then na else rm == .rdn

/-- The sign of a number. -/
def Num.isNeg : Num → Bool
  | .nan => false
  | .inf n => n
  | .fin n _ _ => n

/-- a + b rounded once (R136, R137). -/
def Fmt.add (f : Fmt) (rm : Rm) (a b : Nat) : Nat × Word :=
  match f.num a, f.num b with
  | .nan, _ => (f.pickNan [a, b], f.nv [a, b])
  | _, .nan => (f.pickNan [a, b], f.nv [a, b])
  | .inf x, .inf y => if x = y then (f.infinity x, 0#32) else (f.defNan, flagNV)
  | .inf x, _ => (f.infinity x, 0#32)
  | _, .inf y => (f.infinity y, 0#32)
  | na, nb =>
    let d := Dy.add na.dy nb.dy
    -- a sum of nonzero opposites is zero with the sign of R137; a zero takes both signs into account
    let zn := match na, nb with
      | .fin x 0 _, .fin y 0 _ => zeroSumNeg rm x y
      | _, _ => rm == .rdn
    f.roundDy rm false zn d

/-- The encoding with the other sign. -/
def Fmt.flip (f : Fmt) (x : Nat) : Nat := if f.neg x then x - f.signBit else x + f.signBit

/-- a - b rounded once: a NaN operand keeps its own sign (R136). -/
def Fmt.sub (f : Fmt) (rm : Rm) (a b : Nat) : Nat × Word :=
  if f.isNan b then f.add rm a b else f.add rm a (f.flip b)

/-- The exact product of two numbers. -/
def Num.mul : Num → Num → Num
  | .nan, _ => .nan
  | _, .nan => .nan
  | .inf x, .fin y m _ => if m = 0 then .nan else .inf (x != y)
  | .fin x m _, .inf y => if m = 0 then .nan else .inf (x != y)
  | .inf x, .inf y => .inf (x != y)
  | .fin x m e, .fin y n d => .fin (x != y) (m * n) (e + d)

/-- a * b rounded once (R136). -/
def Fmt.mul (f : Fmt) (rm : Rm) (a b : Nat) : Nat × Word :=
  if f.isNan a || f.isNan b then (f.pickNan [a, b], f.nv [a, b])
  else
    match Num.mul (f.num a) (f.num b) with
    | .nan => (f.defNan, flagNV)
    | .inf n => (f.infinity n, 0#32)
    | .fin n m e => f.round rm false n m e

/-- a * b + c, or -(a * b) + c, rounded once (R137). -/
def Fmt.fma (f : Fmt) (rm : Rm) (ng : Bool) (a b c : Nat) : Nat × Word :=
  let prod := Num.mul (f.num a) (f.num b)
  let invalid := prod == .nan && !f.isNan a && !f.isNan b
  if f.isNan a || f.isNan b || f.isNan c || invalid then
    (f.pickNan [a, b, c], f.nv [a, b, c] ||| (if invalid then flagNV else 0#32))
  else
    let neg := prod.isNeg != ng
    match prod, f.num c with
    | .inf _, .inf y => if neg = y then (f.infinity y, 0#32) else (f.defNan, flagNV)
    | .inf _, _ => (f.infinity neg, 0#32)
    | _, .inf y => (f.infinity y, 0#32)
    | p, nc =>
      let pd := if ng then p.dy.neg else p.dy
      let zn := if pd.m = 0 ∧ nc.dy.m = 0 then zeroSumNeg rm neg nc.isNeg else rm == .rdn
      f.roundDy rm false zn (Dy.add pd nc.dy)

/-- An order of finite and infinite numbers with -0 below +0 (R138). -/
def Num.totalLt (a b : Num) : Bool :=
  match a, b with
  | .inf x, .inf y => x && !y
  | .inf x, _ => x
  | _, .inf y => !y
  | a, b => Dy.lt a.dy b.dy || (a.dy.m == 0 && b.dy.m == 0 && a.isNeg && !b.isNeg)

/-- minimumNumber (R138). -/
def Fmt.minNum (f : Fmt) (a b : Nat) : Nat × Word :=
  if f.isNan a && f.isNan b then (f.pickNan [a, b], f.nv [a, b])
  else if f.isNan a then (b, f.nv [a, b])
  else if f.isNan b then (a, f.nv [a, b])
  else (if Num.totalLt (f.num b) (f.num a) then b else a, 0#32)

/-- maximumNumber (R138). -/
def Fmt.maxNum (f : Fmt) (a b : Nat) : Nat × Word :=
  if f.isNan a && f.isNan b then (f.pickNan [a, b], f.nv [a, b])
  else if f.isNan a then (b, f.nv [a, b])
  else if f.isNan b then (a, f.nv [a, b])
  else (if Num.totalLt (f.num a) (f.num b) then b else a, 0#32)

/-- Ordered less-than, zeros equal (R139). -/
def Num.lt (a b : Num) : Bool :=
  match a, b with
  | .inf x, .inf y => x && !y
  | .inf x, _ => x
  | _, .inf y => !y
  | a, b => Dy.lt a.dy b.dy

/-- Float conditions of VCMP and the NV flag (R109, R139). -/
def condFloat (k : Nat) (a b : Nat) : Bool × Word :=
  let f := Fmt.f32
  let un := f.isNan a || f.isNan b
  let x := f.num a
  let y := f.num b
  let lt := !un && Num.lt x y
  let gt := !un && Num.lt y x
  let eq := !un && !lt && !gt
  let quietNV : Word := if un then flagNV else 0#32
  let s := f.nv [a, b]
  match k with
  | 0 => (eq, s)
  | 1 => (!un && !eq, s)
  | 2 => (lt, quietNV)
  | 3 => (lt || eq, quietNV)
  | 4 => (gt, quietNV)
  | 5 => (gt || eq, quietNV)
  | 6 => (un || eq, s)
  | 7 => (un || !eq, s)
  | 8 => (un || lt, s)
  | 9 => (un || lt || eq, s)
  | 10 => (un || gt, s)
  | 11 => (un || gt || eq, s)
  | 12 => (!un, s)
  | _ => (un, s)

/-- Integer square root by bits: the largest r below 2^n, added to acc, whose square is at most x. -/
def isqrtBits (x : Nat) : Nat → Nat → Nat
  | 0, acc => acc
  | n + 1, acc =>
    let t := acc + 2 ^ n
    isqrtBits x n (if t * t ≤ x then t else acc)

/-- Integer square root of a number below 2^256. -/
def isqrt (x : Nat) : Nat := isqrtBits x 128 0

/-- a / b rounded once (R140). -/
def f32Div (rm : Rm) (a b : Nat) : Nat × Word :=
  let f := Fmt.f32
  match f.num a, f.num b with
  | .nan, _ => (f.pickNan [a, b], f.nv [a, b])
  | _, .nan => (f.pickNan [a, b], f.nv [a, b])
  | .inf x, .inf _ => (f.defNan, if x then flagNV else flagNV)
  | .inf x, y => (f.infinity (x != y.isNeg), 0#32)
  | x, .inf y => (f.sgn (x.isNeg != y), 0#32)
  | .fin x m e, .fin y n d =>
    if n = 0 then (if m = 0 then (f.defNan, flagNV) else (f.infinity (x != y), flagDZ))
    else if m = 0 then (f.sgn (x != y), 0#32)
    else
      let q := m * 2 ^ 60 / n
      let r := m * 2 ^ 60 % n
      f.round rm false (x != y) (2 * q + (if r = 0 then 0 else 1)) (e - d - 61)

/-- Square root rounded once (R140). -/
def f32Sqrt (rm : Rm) (a : Nat) : Nat × Word :=
  let f := Fmt.f32
  match f.num a with
  | .nan => (f.pickNan [a], f.nv [a])
  | .inf n => if n then (f.defNan, flagNV) else (f.infinity false, 0#32)
  | .fin n m e =>
    if m = 0 then (f.sgn n, 0#32)
    else if n then (f.defNan, flagNV)
    else
      let (m1, e1) := if e % 2 = 0 then (m, e) else (2 * m, e - 1)
      let x := m1 * 2 ^ 80
      let r := isqrt x
      f.round rm false false (2 * r + (if r * r = x then 0 else 1)) (e1 / 2 - 41)

/-- Reciprocal rounded once (R140). -/
def f32Rcp (rm : Rm) (a : Nat) : Nat × Word :=
  let f := Fmt.f32
  if f.isNan a then (f.pickNan [a], f.nv [a]) else f32Div rm 0x3F800000 a

/-- Reciprocal square root rounded once, with the special cases of R140. -/
def f32Rsq (rm : Rm) (a : Nat) : Nat × Word :=
  let f := Fmt.f32
  match f.num a with
  | .nan => (f.pickNan [a], f.nv [a])
  | .inf n => if n then (f.defNan, flagNV) else (0, 0#32)
  | .fin n m e =>
    if m = 0 then (f.infinity n, flagDZ)
    else if n then (f.defNan, flagNV)
    else
      let (m1, e1) := if e % 2 = 0 then (m, e) else (2 * m, e - 1)
      let x := 2 ^ 160 / m1
      let r := isqrt x
      f.round rm false false (2 * r + (if r * r * m1 = 2 ^ 160 then 0 else 1)) (-(e1 / 2) - 81)

/-- The class word of one element (R142). -/
def Fmt.classify (f : Fmt) (x : Nat) : Nat :=
  let n := f.neg x
  match f.num x with
  | .nan => if f.isSnan x then 2 ^ 8 else 2 ^ 9
  | .inf _ => if n then 2 ^ 0 else 2 ^ 7
  | .fin _ m _ =>
    if m = 0 then (if n then 2 ^ 3 else 2 ^ 4)
    else if f.expo x = 0 then (if n then 2 ^ 2 else 2 ^ 5)
    else (if n then 2 ^ 1 else 2 ^ 6)

/-- A NaN carried into another format (R136): sign kept, top fraction bits kept, quiet. -/
def convNan (src dst : Fmt) (x : Nat) : Nat :=
  let s := dst.sgn (src.neg x)
  if dst.inf then
    let fr := if dst.fb ≤ src.fb then src.frac x / 2 ^ (src.fb - dst.fb) else src.frac x * 2 ^ (dst.fb - src.fb)
    dst.quiet (s + dst.expMax * 2 ^ dst.fb + fr)
  else s + dst.defNan

/-- Conversion between floating-point formats (R136, R144). -/
def convFloat (src dst : Fmt) (rm : Rm) (sat : Bool) (x : Nat) : Nat × Word :=
  match src.num x with
  | .nan => (convNan src dst x, src.nv [x])
  | .inf n =>
    if sat then (dst.maxFin n, 0#32)
    else if dst.inf then (dst.infinity n, 0#32) else (dst.infinity n, flagNV)
  | .fin n m e => dst.round rm sat n m e

/-- Conversion of a finite or special value to an integer in [lo, hi], saturating (R144, R145). -/
def convInt (src : Fmt) (rm : Rm) (lo hi : Int) (x : Nat) : Int × Word :=
  match src.num x with
  | .nan => (0, flagNV)
  | .inf n => (if n then lo else hi, flagNV)
  | .fin n m e =>
    let (k, exact) := roundQ rm n m e 0
    let v : Int := if n then -(k : Int) else k
    if hi < v then (hi, flagNV) else if v < lo then (lo, flagNV)
    else (v, if exact then 0#32 else flagNX)

/-- Conversion of an integer (R143). -/
def convFromInt (dst : Fmt) (rm : Rm) (v : Int) : Nat × Word := dst.round rm false (decide (v < 0)) v.natAbs 0

/-- roundToIntegralExact (R143). -/
def roundIntegral (rm : Rm) (x : Nat) : Nat × Word :=
  let f := Fmt.f32
  match f.num x with
  | .nan => (f.quiet x, f.nv [x])
  | .inf _ => (x, 0#32)
  | .fin n m e =>
    let (k, exact) := roundQ rm n m e 0
    ((f.round rm false n k 0).1, if exact then 0#32 else flagNX)

/-- The NQ4 codebook as bf16 encodings (R146). -/
def codebook : List Nat :=
  [0xBF80, 0xBF32, 0xBF06, 0xBECA, 0xBE92, 0xBE3C, 0xBDBA, 0x0000,
   0x3DA3, 0x3E25, 0x3E7C, 0x3EAD, 0x3EE2, 0x3F10, 0x3F39, 0x3F80]

/-- The f32 encoding of a codebook value (R143, R146). -/
def codeF32 (c : Nat) : Nat := codebook.getD c 0 * 65536

/-- The exact value of a codebook entry. -/
def codeDy (c : Nat) : Dy := (Fmt.bf16.num (codebook.getD c 0)).dy

/-- Two halves of a packed register, each converted or computed, joined with the OR of their flags (R131). -/
def packed2 (f : Nat → Nat × Word) (a : Nat) : Nat × Word :=
  let (x, fx) := f (a % 65536)
  let (y, fy) := f (a / 65536 % 65536)
  (x + y * 65536, fx ||| fy)

/-- A packed operation of two operands (R131). -/
def packedBin (f : Nat → Nat → Nat × Word) (a b : Nat) : Nat × Word :=
  let (x, fx) := f (a % 65536) (b % 65536)
  let (y, fy) := f (a / 65536 % 65536) (b / 65536 % 65536)
  (x + y * 65536, fx ||| fy)

/-- A packed operation of three operands (R131). -/
def packedTri (f : Nat → Nat → Nat → Nat × Word) (a b c : Nat) : Nat × Word :=
  let (x, fx) := f (a % 65536) (b % 65536) (c % 65536)
  let (y, fy) := f (a / 65536 % 65536) (b / 65536 % 65536) (c / 65536 % 65536)
  (x + y * 65536, fx ||| fy)

/-- Writes element `i` of `w` bits of a register (R131, R143). -/
def insertElem (old : Nat) (w i x : Nat) : Nat := old - old / 2 ^ (w * i) % 2 ^ w * 2 ^ (w * i) + x % 2 ^ w * 2 ^ (w * i)

/-- Element `i` of `w` bits of a register (R131). -/
def getElem (x w i : Nat) : Nat := x / 2 ^ (w * i) % 2 ^ w

/-- Two's complement of an integer in `w` bits. -/
def wrapInt (w : Nat) (v : Int) : Nat := (v % 2 ^ w).toNat

/-- A `w`-bit number read as signed. -/
def asInt (w x : Nat) : Int := if 2 ^ (w - 1) ≤ x then (x : Int) - 2 ^ w else x

/-- VFCVT of major 0x2C (R143): code, mode, old destination, source. -/
def cvtF32 (k : Nat) (rm : Rm) (old x : Nat) : Nat × Word :=
  let ins (w i : Nat) (r : Nat × Word) : Nat × Word := (insertElem old w i r.1, r.2)
  let f := Fmt.f32
  if k = 0 then let (v, fl) := convInt f rm (-2147483648) 2147483647 x; (wrapInt 32 v, fl)
  else if k = 1 then let (v, fl) := convInt f rm 0 4294967295 x; (wrapInt 32 v, fl)
  else if k = 2 then let (v, fl) := convInt f .rtz (-2147483648) 2147483647 x; (wrapInt 32 v, fl)
  else if k = 3 then let (v, fl) := convInt f .rtz 0 4294967295 x; (wrapInt 32 v, fl)
  else if k = 4 then convFromInt f rm (asInt 32 x)
  else if k = 5 then convFromInt f rm x
  else if k = 6 then roundIntegral rm x
  else if k < 0x0A then ins 16 (k % 2) (convFloat f .f16 rm false x)
  else if k < 0x0C then ins 16 (k % 2) (convFloat f .bf16 rm false x)
  else if k < 0x0E then convFloat .f16 f rm false (getElem x 16 (k % 2))
  else if k < 0x10 then convFloat .bf16 f rm false (getElem x 16 (k % 2))
  else if k < 0x14 then ins 8 (k % 4) (convFloat f .f8e4 rm false x)
  else if k < 0x18 then ins 8 (k % 4) (convFloat f .f8e5 rm false x)
  else if k < 0x1C then ins 8 (k % 4) (convFloat f .f8e4 rm true x)
  else if k < 0x20 then ins 8 (k % 4) (convFloat f .f8e5 rm true x)
  else if k < 0x24 then convFloat .f8e4 f rm false (getElem x 8 (k % 4))
  else if k < 0x28 then convFloat .f8e5 f rm false (getElem x 8 (k % 4))
  else (codeF32 (getElem x 4 (k % 8)), 0#32)

/-- VFCVT of majors 0x2D and 0x2E (R145). -/
def cvtPacked (src other : Fmt) (k : Nat) (rm : Rm) (x : Nat) : Nat × Word :=
  match k with
  | 0 => packed2 (convFloat src other rm false) x
  | 1 => packed2 (fun h => let (v, fl) := convInt src rm (-32768) 32767 h; (wrapInt 16 v, fl)) x
  | 2 => packed2 (fun h => let (v, fl) := convInt src rm 0 65535 h; (wrapInt 16 v, fl)) x
  | 3 => packed2 (fun h => convFromInt src rm (asInt 16 h)) x
  | _ => packed2 (fun h => convFromInt src rm h) x

end Sys2Proof.Machine
end

