-- ==== Sys2Proof/Machine/Futures.lean ====
section
/-!
DEFINITION. Future cells (R85 to R92): access at the home slice, combining, delivery, waking of parked arms, and the push of a
continuation.
-/

namespace Sys2Proof.Machine

/-! ### Access to a cell -/

/-- What the check of a handle says (R87). -/
inductive CellCheck where
  /-- The handle is refused, with this FCAUSE. -/
  | bad (cause : Word)
  /-- The page waits for translation. -/
  | miss
  | at (t : Target)
  deriving DecidableEq, Repr

/-- Checks a handle (R87). Of cells outside the module, one in peer memory counts as a refused translation, and one in host memory is
taken: both are this model's choice (assumption 10). That a cell lies in the job's code segment is not tested here: an instruction's cell is
tested by the instruction (R100), and a delivery's is not at all, which is the model's choice (DEDUCED; assumption 13). -/
def State.checkHandle (s : State) (unit pasid handle : Nat) (write : Bool) : CellCheck :=
  if handle % 32 ≠ 0 then .bad (faultCause 0x10 0)
  else if !vaOk handle then .bad (faultCause 0x12 5)
  else match s.xlate unit pasid handle write with
    | .miss => .miss
    | .hit (.peer _ _) => .bad (faultCause 0x12 3)
    | .hit t => .at t

/-- Brings a sector to its home before a device-scope operation of a core (R204, R361). -/
def State.homeSector (s : State) (core : Nat) (t : Target) : State :=
  match t with
  | .dpa a => (s.flushSector core a true).flushCC (clusterOf core) a
  | _ => s

/-- Brings the four sectors of a line to their home before a core reads it there: no later read of the core is older (R191). -/
def State.homeLine (s : State) (core : Nat) (t : Target) : State :=
  (List.range 4).foldl (fun s k => s.homeSector core (targetPlus t (32 * k))) s

/-- The eight words of a cell at its home, and whether its sector is poisoned. -/
def State.cellWords (s : State) (t : Target) : List Word × Bool :=
  let (bs, p) := s.readT t 32
  (bytesWords 8 bs, p)

/-- Writes words of a cell at its home from word `k` upward; the core notes the line (R192). -/
def State.cellPut (s : State) (core pasid : Nat) (t : Target) (k : Nat) (ws : List Word) : State :=
  let s := s.writeT core pasid (targetPlus t (4 * k)) (wordsBytes ws)
  match t with
  | .dpa a => s.modCore core (fun c => c.sign (a / 128))
  | _ => s

/-- OP of a cell's w1 (R85). -/
def cellOp (w1 : Word) : Nat := wbits w1 3 0

/-- The initial value of a combine operation (R86). -/
def initialValue (op : Nat) : Nat :=
  if op = 2 ∨ op = 4 then 0x80000000 else if op = 3 then 0x7FFFFFFF else 0

/-- Combine of R86 on 64-bit values; a 32-bit operation keeps the high word. -/
def combine (op v d : Nat) : Nat :=
  let a := lo32 v
  let b := lo32 d
  let low (x : Word) : Nat := 2 ^ 32 * (v / 2 ^ 32) + x.toNat
  match op with
  | 0 => d % 2 ^ 64
  | 1 => low (a + b)
  | 2 => low (BitVec.ofNat 32 (Fmt.f32.add .rne a.toNat b.toNat).1)
  | 3 => low (mini a b)
  | 4 => low (maxi a b)
  | 5 => low (a ||| b)
  | _ => (v + d) % 2 ^ 64

/-! ### Waking parked arms -/

/-- Wakes one arm parked on a cell: it receives the value and acquires at device scope (R92). -/
def State.wakeArm (s : State) (t : Target) (lo hi : Word) (r : ArmRef) : State :=
  match (s.wave? r.core r.slot).bind (fun w => NMap.get? w.arms r.arm) with
  | some a =>
    match (a.facing Hold.isParked).hold with
    | .parked _ cell d =>
      if cell = t then
        ((s.modArm r (Arm.facing Hold.isParked)).modWave r.core r.slot (fun w => (w.setS d lo).setS (d + 1) hi)).finishAcquire r 4
      else s
    | _ => s
  | none => s

/-- Every live arm of the module. -/
def State.arms (s : State) : List (ArmRef × Wave × Arm) :=
  s.waves.flatMap (fun e => e.2.2.arms.map (fun a => (⟨e.1, e.2.1, a.1⟩, e.2.2, a.2)))

/-- The cores on which an arm is parked on a cell. -/
def State.parkedCores (s : State) (t : Target) : List Nat :=
  ((s.arms.filter (fun e => e.2.2.heldBy (fun h => match h with | .parked _ cell _ => cell == t | _ => false))).map (fun e => e.1.core)).dedup

/-- Before a cell changes, the cores whose arms are parked on it give up the copies of its sector that they have filled since: no later
read of theirs is older than the value that the arms receive (R191, R204). -/
def State.dropParked (s : State) (t : Target) : State := (s.parkedCores t).foldl (fun s c => s.homeSector c t) s

/-- Wakes every arm parked on a cell (R92). -/
def State.wakeCell (s : State) (t : Target) (lo hi : Word) : State :=
  s.arms.foldl (fun s e => s.wakeArm t lo hi e.1) s

/-- The slots of a core whose waves have an arm parked in FWAIT (R37, R60). -/
def State.parkedSlots (s : State) (core : Nat) : Nat :=
  ((s.core core).slots.filter (fun e => e.2.arms.any (fun a => a.2.heldBy Hold.isParked))).length

/-! ### Continuations -/

/-- A continuation that is not pushed: counted, with a KIND 2 event (R90, R97, R282). Of its words R90 gives w4 to w6. That w12 holds
JOB, as in a record, and that the others are 0 is this model's choice (assumption 36). -/
def State.dropContinuation (s : State) (jid : Nat) (cause : Word) (va : Nat) : State :=
  let j := s.job jid
  (s.modJob jid (fun j => { j with dropped := j.dropped + 1 })).postEvent j.vi
    (eventOf 2 0#32 (wordsWith 32 [(4, cause), (5, lo32 va), (6, hi32 va), (12, BitVec.ofNat 32 j.num)]))

/-- The entry of a continuation: its acquire at dispatch is at device scope (R203). -/
def continuationEntry (uid : Nat) (j : Job) (ws : List Word) : Entry := { newEntry uid j ws with acq := 4 }

/-- The addresses of the sectors of a line. -/
def lineSectors (va : Nat) : List Nat := [va, va + 32, va + 64, va + 96]

/-- The 128 bytes of a line at its home, or as they were fetched from a peer for an owner, and whether a sector is poisoned. -/
def State.lineBytes (s : State) (owner va : Nat) (t : Target) : List Byte × Bool :=
  if isPeer t then
    let fs := (lineSectors va).map (fun a => s.fetchOf owner (a / 32))
    (fs.flatMap (fun f => match f with | some f => f.bytes | none => List.replicate 32 0#8), fs.any (fun f => f.any (fun f => f.pois)))
  else s.readT t 128

/-- PushContinuation once the line can be read (R89, R90, R263). -/
def State.pushLine (s : State) (k : Continuation) (t : Target) : State :=
  let s := (s.homeLine k.core t).touchHome (s.job k.job).pasid t 128
  let (bs, pois) := s.lineBytes k.id k.va t
  let j := s.job k.job
  let ws := migratable j ((((bytesWords 32 bs).set 12 k.w12).set 13 k.w13).set 14 k.w14)
  if pois then s.dropContinuation k.job (faultCause 0x13 0) k.va
  else if (headerFault j.npkt ws).isSome then s.dropContinuation k.job (faultCause 0x10 0) k.va
  else if j.drained then
    (s.discardClosure k.core j ws).modJob k.job (fun j => { j with dropped := j.dropped + 1 })
  else if (s.core k.core).dequeFull then s.dropContinuation k.job (faultCause 0x1E 0) k.va
  else
    let (uid, s) := s.fresh
    s.pushEntry k.core (continuationEntry uid j ws)

/-- A continuation goes on as far as its line can be read (R90): its page is asked for, sectors of a peer are fetched. -/
def State.resumeCont (s : State) (k : Continuation) : State :=
  let pasid := (s.job k.job).pasid
  match s.xlate k.core pasid k.va false with
  | .miss => s.askX k.core pasid k.va false
  | .hit t =>
    match s.peerNeeds k.id k.core pasid (lineSectors k.va) with
    | [] => (({ s with conts := s.conts.erase k }).pushLine k t).forgetFetched k.id
    | ns => s.askSectors k.id k.core k.job ns

/-- PushContinuation (R89, R90): the line of an address is the 128 bytes that hold it. -/
def State.pushContinuation (s : State) (core jid va : Nat) (w12 w13 w14 : Word) : State :=
  if !vaOk va then s.dropContinuation jid (faultCause 0x12 5) va
  else
    let (id, s) := s.fresh
    let k : Continuation := { id := id, va := va / 128 * 128, core := core, job := jid, w12 := w12, w13 := w13, w14 := w14 }
    ({ s with conts := s.conts ++ [k] }).resumeCont k

/-- The job of a cell's continuation (R89): the one whose FJOIN registered it, else the one that delivers. -/
def State.cellJob (s : State) (t : Target) (jid : Nat) : Nat :=
  ((s.jobs.find? (fun e => e.2.regs.contains t)).map (fun e => e.1)).getD jid

/-- The continuation of a cell is registered no more. -/
def State.unregister (s : State) (t : Target) : State :=
  { s with jobs := s.jobs.map (fun e => (e.1, { e.2 with regs := e.2.regs.filter (fun x => x != t) })) }

/-! ### Delivery -/

/-- Deliver (R88): one atomic step at the cell's home. -/
def State.deliver (s : State) (core jid : Nat) (t : Target) (d : Nat) (err : Bool) : State :=
  let s := (((s.homeSector core t).dropParked t).touchHome (s.job jid).pasid t 32)
  let ws := (s.cellWords t).1
  let count := (ws.getD 0 0#32).toNat
  let w1 := ws.getD 1 0#32
  let pasid := (s.job jid).pasid
  if count = 0 then s.cellPut core pasid t 1 [w1 ||| 0x100#32]
  else
    let v := pair (ws.getD 2 0#32) (ws.getD 3 0#32)
    let v' := if err then v else combine (cellOp w1) v d
    let w1' := if err then w1 ||| 0x100#32 else w1
    let s := s.cellPut core pasid t 0 [BitVec.ofNat 32 (count - 1), w1', lo32 v', hi32 v']
    if count = 1 then
      let s := s.wakeCell t (lo32 v') (hi32 v')
      if w1.getLsbD 9 then
        (s.unregister t).pushContinuation core (s.cellJob t jid) (pair (ws.getD 4 0#32) (ws.getD 5 0#32)) (lo32 v') (hi32 v') w1'
      else s
    else s

/-- An error delivery that the device cannot make (R469, KIND 7 of R282). -/
def State.deliveryFailed (s : State) (d : Delivery) (cause : Word) : State :=
  let j := s.job d.job
  s.postEvent j.vi (eventOf 7 0#32
    (wordsWith 32 [(0, BitVec.ofNat 32 d.tag), (4, cause), (5, lo32 d.handle), (6, hi32 d.handle), (8, d.wave),
      (10, if d.fromWave then BitVec.ofNat 32 d.core else 0#32), (11, d.team), (12, BitVec.ofNat 32 j.num)]))

end Sys2Proof.Machine
end

