-- ==== Sys2Proof/Machine/Place.lean ====
section
/-!
DEFINITION. Banks of clusters (R165 to R167, R269), the rank of work (R261), and what a cluster and a core accept (R262, R264,
R272, R298).
-/

namespace Sys2Proof.Machine

/-! ### Banks -/

/-- The lines of some ways of a cluster's cache are written back and leave it, before those banks change mode (R167). -/
def State.flushWays (s : State) (cl : Nat) (bs : List Nat) : State :=
  ((s.cluster cl).cc.filter (fun e => bs.contains e.2.way)).foldl (fun s e => s.evictCC cl e.1) s

/-- The contract whose pool a bank belongs to: its own, or that of the job that holds it (R269). -/
def State.bankContract (s : State) : BankOwner → Nat
  | .alloc aid => (s.job (s.alloc aid).job).cid
  | .fifo tid => (s.job (s.team tid).job).cid
  | .contract cid => cid

/-- Whether a contract's core set touches a cluster. -/
def Contract.touches (c : Contract) (cl : Nat) : Bool :=
  cl / 16 == c.stack && (List.range 8).any (fun k => c.cores.getLsbD (cl % 16 * 8 + k))

/-- The banks of a cluster that work of a contract uses, for rings or for SCRATCH. -/
def State.bankUse (s : State) (cl cid : Nat) (fifo : Bool) : Nat :=
  ((s.cluster cl).banks.filter (fun e => s.bankContract e.2 == cid &&
    (match e.2 with | .alloc _ => !fifo | .fifo _ => fifo | .contract _ => false))).length

/-- The SCRATCH and the FIFO banks of a cluster that an admitted contract holds and no work of it uses (R268, R269). -/
def State.poolHeld (s : State) (cl : Nat) (c : Contract) : Nat × Nat :=
  if c.touches cl then (c.sbanks - s.bankUse cl c.cid false, c.fbanks - s.bankUse cl c.cid true) else (0, 0)

/-- How many banks of a cluster an admitted contract holds for work to come (R269). -/
def State.poolWant (s : State) (cl : Nat) (c : Contract) : Nat := (s.poolHeld cl c).1 + (s.poolHeld cl c).2

/-- Gives the lowest CACHE banks of a cluster to an owner (R165). -/
def State.takeBanks (s : State) (cl n : Nat) (o : BankOwner) : State :=
  if n = 0 then s
  else
    let bs := s.freeBanks cl n
    let s := (s.flushWays cl bs).modCluster cl (fun k => { k with banks := bs.foldl (fun m b => NMap.put m b o) k.banks })
    match o with
    | .alloc aid => s.modAlloc aid (fun al => { al with banks := bs })
    | _ => s

/-- Banks return to CACHE. -/
def State.freeBank (s : State) (cl : Nat) (p : BankOwner → Bool) : State :=
  s.modCluster cl (fun k => { k with banks := k.banks.filter (fun e => !p e.2) })

/-- Each contract's pool in a cluster is restored after banks have changed hands (R269). -/
def State.rebank (s : State) (cl : Nat) : State :=
  let s := s.freeBank cl (fun o => match o with | .contract _ => true | _ => false)
  s.contracts.foldl (fun s e => s.takeBanks cl (s.poolWant cl e.2) (.contract e.1)) s

/-- Whether a cluster can give SCRATCH and FIFO banks to a job of a contract, or of none: from those in CACHE mode, and of each kind
from those that the contract holds (R165, R269). -/
def State.givesBanks (s : State) (cl cid scr fifo : Nat) : Bool :=
  let held := ((NMap.get? s.contracts cid).filter (fun _ => cid != 0)).map (s.poolHeld cl)
  decide (scr + fifo ≤ Config.bankCount - (s.cluster cl).banks.length + min scr ((held.map Prod.fst).getD 0) +
    min fifo ((held.map Prod.snd).getD 0))

/-- SCRATCH banks of an allocation (R165). -/
def Job.scrBanks (j : Job) : Nat := (j.scr + 131071) / 131072

/-- Gives banks to work of a job: the SCRATCH banks of an allocation and the FIFO banks of a team (R165). -/
def State.giveBanks (s : State) (cl : Nat) (j : Job) (aid tid fifo : Nat) : State :=
  let s := if j.cid = 0 then s else s.freeBank cl (fun o => o == .contract j.cid)
  ((s.takeBanks cl j.scrBanks (.alloc aid)).takeBanks cl fifo (.fifo tid)).rebank cl

/-! ### Task jobs in clusters -/

/-- The cores of a cluster. -/
def clusterCores (cl : Nat) : List Nat := (List.range 8).map (fun k => 8 * cl + k)

/-- The allocation that the tasks of a job share in a cluster, if it has one (R158). -/
def State.jobAlloc (s : State) (jid cl : Nat) : Option Nat :=
  (s.allocs.find? (fun e => e.2.job == jid && e.2.cluster == cl && !e.2.ofTeam)).map (fun e => e.1)

/-- Whether a job has a task, an entry or a saved task in a cluster. -/
def State.jobIn (s : State) (jid cl : Nat) : Bool :=
  (clusterCores cl).any (fun c =>
    (s.core c).slots.any (fun e => e.2.isTask && (s.team e.2.tid).job == jid) || (s.core c).deque.any (fun e => e.job == jid)) ||
    s.units.any (fun u => u.2.job == jid && u.2.cluster == cl && (s.team u.2.tid).isTask)

/-- A job leaves a cluster when no task or entry of it is there any more: its banks return (R165; assumption 14). -/
def State.leaveCluster (s : State) (jid cl : Nat) : State :=
  if s.jobIn jid cl then s
  else match s.jobAlloc jid cl with
    | none => s
    | some aid => ({ s.freeBank cl (fun o => o == BankOwner.alloc aid) with allocs := NMap.del s.allocs aid }).rebank cl

/-- The allocation of a task job in a cluster, given when the job first runs there (R158, R165). -/
def State.enterCluster (s : State) (jid cl : Nat) : Nat × State :=
  match s.jobAlloc jid cl with
  | some aid => (aid, s)
  | none =>
    let (aid, s) := s.fresh
    let j := s.job jid
    let s := { s with allocs := NMap.put s.allocs aid { aid := aid, job := jid, cluster := cl, bytes := j.scr } }
    (aid, s.giveBanks cl j aid 0 0)

/-- Drains a job (R263); it leaves the clusters where only entries of it were. -/
def State.drain (s : State) (jid : Nat) : State :=
  let s := s.drainJob jid
  (s.allocs.filter (fun e => e.2.job == jid)).foldl (fun s e => s.leaveCluster jid e.2.cluster) s

/-! ### Rank and admission -/

/-- The rank of a job's work (R261): 4 for a contract with budget left, else its priority class. -/
def State.rank (s : State) (j : Job) : Nat :=
  if j.cid ≠ 0 ∧ (NMap.get? s.contracts j.cid).any (fun c => decide (0 < c.left)) then 4 else j.prio

/-- The cores of a contract. -/
def Contract.coreList (c : Contract) : List Nat :=
  ((List.range 128).filter (fun k => c.cores.getLsbD k)).map (fun k => 128 * c.stack + k)

/-- Whether contract work may need a core now: the sweep leaves it alone (R270). -/
def State.contractBusy (s : State) (core : Nat) : Bool :=
  s.contracts.any (fun e => e.2.coreList.contains core && decide (0 < e.2.left) &&
    s.jobs.any (fun j => j.2.cid == e.1 && !j.2.ended))

/-- Whether a core drains for the sweep or for a test (R262, R301): while contract work may need it, it does so only for a test that still
runs, which SWEEP_TEST then suspends (R270). -/
def State.drains (s : State) (c : Nat) : Bool := (s.core c).draining && ((s.core c).testing || !s.contractBusy c)

/-- Whether a core is in service for work of a job (R94, R262, R298, R301, R316). -/
def State.coreServes (s : State) (c : Nat) (j : Job) : Bool :=
  s.present c && !s.isOut c && !s.drains c && (s.core c).gate == .open && covers (s.capMask c) j.oum &&
    (!s.isGanged c || (s.capMask c).getLsbD Config.gangBit)

/-- Whether a job holds a wave or an allocation in a cluster (R262). -/
def State.holdsIn (s : State) (jid cl : Nat) : Bool :=
  s.allocs.any (fun a => a.2.job == jid && a.2.cluster == cl) ||
    (clusterCores cl).any (fun c => (s.core c).slots.any (fun w => (s.team w.2.tid).job == jid))

/-- Whether a cluster admits an address space: no sole-cluster job of another one holds a wave or an allocation there
(R262). -/
def State.admits (s : State) (cl : Nat) (j : Job) : Bool :=
  s.jobs.all (fun e => !e.2.sole || e.2.pasid == j.pasid || !s.holdsIn e.1 cl)

/-- Whether a cluster holds no work and no allocation of another address space (R262). -/
def State.alone (s : State) (cl : Nat) (j : Job) : Bool :=
  s.allocs.all (fun a => a.2.cluster != cl || (s.job a.2.job).pasid == j.pasid) &&
    (clusterCores cl).all (fun c => (s.core c).slots.all (fun w => (s.job (s.team w.2.tid).job).pasid == j.pasid) &&
      (s.core c).deque.all (fun e => e.pasid == j.pasid))

/-- Whether the task work of a job may run in a cluster as a sole-cluster job's must: in the one that was chosen for its root, where it
holds a wave or an allocation or no other address space is (R262). -/
def State.soleTakes (s : State) (cl : Nat) (j : Job) : Bool :=
  !j.sole || (j.home.all (fun h => h == cl) && (s.holdsIn j.jid cl || s.alone cl j))

/-- The reservation of a cluster, its team's rank and job, while the job still waits for it. The rank is that of the work now, as a
contract's budget changes it (R261, R265). -/
def State.reserved (s : State) (cl : Nat) : Option (Nat × Nat) :=
  (s.cluster cl).reserve.bind (fun jid =>
    let j := s.job jid
    if (NMap.get? s.jobs jid).isSome && !j.drained && !j.ended && decide (j.started < j.g) then some (s.rank j, jid) else none)

/-- Whether a job's team or task may be placed in a cluster: above its reservation or itself the team that reserved it, and
above every unit switched out of it (R264, R265, R272). -/
def State.rankEnters (s : State) (cl jid : Nat) (team : Bool) : Bool :=
  let r := s.rank (s.job jid)
  (match s.reserved cl with
    | some (k, other) => (team && other == jid) || decide (k < r)
    | none => true) && s.units.all (fun u => u.2.cluster != cl || decide (s.rank (s.job u.2.job) < r))

/-- Whether the contracts that hold a core take a job's PREOFF limit (R269). -/
def State.limitFits (s : State) (c : Nat) (j : Job) : Bool :=
  s.contracts.all (fun e => !(e.2.stack == stackOf c && e.2.cores.getLsbD (c % 128)) || decide (j.plim ≤ e.2.tol))

/-- Whether a core is in the core set of a job's contract, if the job names one that stands (R262, R269). -/
def State.inSet (s : State) (c : Nat) (j : Job) : Bool :=
  match NMap.get? s.contracts j.cid with
  | some k => j.cid == 0 || (k.stack == stackOf c && k.cores.getLsbD (c % 128))
  | none => true

/-! ### Slabs -/

/-- Fields of a graft entry (R291). -/
def graftFes (w : Word) : Nat := wbits w 31 24
def graftSla (w : Word) : Nat := wbits w 23 16
def graftSlb (w : Word) : Nat := wbits w 15 8

/-- The slab sites of a graft entry. -/
def graftSlabs (w : Word) : List Nat := [graftSla w, graftSlb w].filter (fun k => decide (k < 144))

/-- The slab sites that a core is bound to now: none if it is absent or out of service (R11, R17, R293). -/
def State.coreSlabs (s : State) (c : Nat) : List Nat :=
  if s.present c && !s.isOut c then graftSlabs (s.graftWord (clusterOf c) (s.entryOf c)) else []

/-- Whether an accumulator element lies in the slab that stands at a place in its core's entry: SLA holds columns 0 to 63, and SLB columns
64 to 127. R11 and R222 do not say which, and it is the model's choice (assumption 41). -/
def inSlab (place key : Nat) : Bool := key % 128 / 64 == place

/-- The elements of a slab's own 64 columns as the core's accumulators number them, from the place of the slab in the core's entry, and
back. -/
def slabElems (place : Nat) (m : NMap Word) : NMap Word := (m.filter (fun e => inSlab place e.1)).map (fun e => (e.1 - 64 * place, e.2))
def coreElems (place : Nat) (m : NMap Word) : NMap Word := m.map (fun e => (e.1 + 64 * place, e.2))

/-- The accumulators of a core go to the slabs that it is bound to (R11). -/
def State.unbindSlabs (s : State) (c : Nat) : State :=
  let k := s.core c
  let s := s.modStack (stackOf c) (fun t => { t with slabs := (s.coreSlabs c).zipIdx.foldl (fun m e =>
    NMap.put m e.1 { acc := slabElems e.2 k.acc, pois := k.accPois, job := k.pjob }) t.slabs })
  s.modCore c (fun k => { k with acc := [], accPois := [] })

/-- A core takes the accumulators of the slabs that it is bound to (R11). Where they are not all those of the job that last held this core's
pennant, the next pennant holder of any job finds them zeroed (R48; assumption 41). -/
def State.bindSlabs (s : State) (c : Nat) : State :=
  let held := (s.coreSlabs c).map (fun k => NMap.at (s.stack (stackOf c)).slabs k { })
  let s := s.modStack (stackOf c) (fun t => { t with slabs := t.slabs.filter (fun e => !(s.coreSlabs c).contains e.1) })
  s.modCore c (fun k => { k with
    acc := held.zipIdx.foldl (fun m e => (coreElems e.2 e.1.acc).foldl (fun m x => NMap.put m x.1 x.2) m) []
    accPois := held.foldl (fun m h => h.pois.foldl (fun m x => if (NMap.get? m x.1).isSome then m else NMap.put m x.1 x.2) m) []
    pjob := if held.all (fun h => decide (h.job = k.pjob)) then k.pjob else none })

/-- A change of the graft table or of a cluster's configuration, across which every slab keeps its accumulators (R11). -/
def State.rebound (s : State) (cl : Nat) (f : State → State) : State :=
  (clusterCores cl).foldl State.bindSlabs (f ((clusterCores cl).foldl State.unbindSlabs s))

/-! ### Teams in clusters -/

/-- Waves on each core of a team: core `i` of `C` (R33). -/
def wavesOnCore (w c i : Nat) : Nat := min ((w + c - 1) / c) (w - i * ((w + c - 1) / c))

/-- Whether a cluster can change its configuration: no wave is resident on its cores (R18), and none of them is being tested (assumption 14). -/
def State.clusterIdle (s : State) (cl : Nat) : Bool := (clusterCores cl).all (fun c => (s.core c).slots.isEmpty && !(s.core c).testing)

/-- The state with a cluster in the configuration that a job needs, if it has it or can take it (R18, R262). -/
def State.configured (s : State) (cl : Nat) (j : Job) : Option State :=
  if (s.cluster cl).ganged = j.ganged then some s
  else if s.clusterIdle cl then some (s.rebound cl (fun s => s.modCluster cl (fun k => { k with ganged := j.ganged })))
  else none

/-- Whether a core meets R262 for a job, apart from its free slots. -/
def State.coreMeets (s : State) (c : Nat) (j : Job) : Bool := s.coreServes c j && s.inSet c j && s.limitFits c j

/-- The cores of a cluster that a team takes: in ascending order, each with room for its waves (R33; assumption 14). -/
def State.chooseCores (s : State) (j : Job) : List Nat → Nat → Option (List Nat)
  | [], i => if i = j.c then some [] else none
  | c :: cs, i =>
    if i = j.c then some []
    else if s.coreMeets c j && decide (wavesOnCore j.w j.c i ≤ (s.core c).freeSlots.length) then
      (State.chooseCores s j cs (i + 1)).map (fun l => c :: l)
    else State.chooseCores s j cs i

/-- Whether a cluster admits work of a job's address space, alone if the job is sole-cluster (R262). -/
def State.clusterTakes (s : State) (cl : Nat) (j : Job) : Bool := s.admits cl j && (!j.sole || s.alone cl j)

/-- The cores among some of a cluster on which a team of a job has room now, with the cluster configured for it (R33, R262). -/
def State.teamRoom (s : State) (cl jid : Nat) (free : Nat → Bool) : Option (State × List Nat) :=
  let j := s.job jid
  if !s.clusterTakes cl j || !s.rankEnters cl jid true || !s.givesBanks cl j.cid j.scrBanks j.fifo then none
  else (s.configured cl j).bind (fun s => (s.chooseCores j ((clusterCores cl).filter free) 0).map (fun cs => (s, cs)))

end Sys2Proof.Machine
end

