-- ==== Sys2Proof/Machine/Ops.lean ====
section
/-!
DEFINITION. The shared operations of the machine: the run log and the capability check (R300, R305), the ends of waves and teams,
the pennant (R227), fault halts (R278, R280, R281) and trap entry (R276), and the wrapper that every instruction's meaning runs
in: what blocks it, what its operands are, how its results reach the registers (R42, R45, R50 to R53, R181).
-/

namespace Sys2Proof.Machine

/-! ### Records written through the I/O die -/

/-- Writes bytes at a target from outside the cores, as one write that clears the poison of the sectors it covers (R178). -/
def State.outsideWrite (s : State) (pasid : Nat) (t : Target) (bs : List Byte) : State :=
  match t with
  | .dpa a =>
    let whole := ((sectorsOf a bs.length).map (fun e => 4 * e.1 + e.2)).filter (fun k => decide (a ≤ 32 * k ∧ 32 * k + 32 ≤ a + bs.length))
    whole.foldl (fun s k => s.setPoison (32 * k) false) ((s.l2Bytes pasid true (List.range' a bs.length)).homeWrite a bs)
  | .host a => { s with hostMem := Memory.writeBytes s.hostMem a bs }
  | .peer _ _ => s

/-- Rewrites the class names and CONF of a job's completion record (R308); while the I/O die has no translation of its page,
the rewrite waits for the answer to a Translation Request. -/
def State.rewriteRecord (s : State) (jid : Nat) : State :=
  let j := s.job jid
  match s.xlate ioQuiet j.pasid j.rva true with
  | .hit t =>
    let s := s.outsideWrite j.pasid (targetPlus t 32) (natBytes 8 j.classes.toNat)
    let s := s.outsideWrite j.pasid (targetPlus t 5) [BitVec.ofNat 8 j.conf]
    { s with rewrites := setErase s.rewrites jid }
  | .miss => { s.askX ioQuiet j.pasid j.rva true with rewrites := setInsert s.rewrites jid }

/-- Names classes against a job and marks it SUSPECT (R305, R307). -/
def State.suspect (s : State) (jid : Nat) (classes : DWord) : State :=
  let s := s.modJob jid (fun j => { j with conf := 3, classes := j.classes ||| classes })
  if (s.job jid).ended then s.rewriteRecord jid else s

/-- The run log of a core notes a job and a class (R305). -/
def State.noteClass (s : State) (core jid cls : Nat) : State :=
  let k := s.core core
  if k.runLog.contains (jid, cls) then s
  else if k.runLog.length < 256 then
    (s.modCore core (fun k => { k with runLog := k.runLog ++ [(jid, cls)] })).modJob jid
      (fun j => { j with pairs := j.pairs ++ [(core, cls)] })
  else
    let s := s.modCore core (fun k => { k with overflow := true })
    (((k.runLog.map (fun e => e.1)) ++ [jid]).dedup).foldl (fun s j => s.suspect j (s.job j).oum) s

/-- The fault code of R300 for a class, if it is refused: undeclared by the job, or fenced on the core. -/
def State.classFault (s : State) (core : Nat) (j : Job) (cls : Nat) : Option Nat :=
  if !j.oum.getLsbD cls then some 0x15 else if !(s.capMask core).getLsbD cls then some 0x16 else none

/-! ### The pennant -/

/-- Whether a wave has a matrix operation or a follow-on still to run (R227). -/
def Core.matrixBusy (k : Core) (uid : Nat) : Bool := k.matQ.any (fun o => o.uid == uid)

/-- A slot holds the pennant; accumulators of another job are zeroed, and every PTAKE of the wave completes (R48, R227). -/
def State.givePennant (s : State) (core slot : Nat) : State :=
  let job := ((s.wave? core slot).map (fun w => (s.team w.tid).job)).getD 0
  let s := s.modCore core (fun k =>
    { k with holder := some slot, queue := k.queue.filter (fun r => r.slot != slot), pjob := some job,
             acc := if k.pjob = some job then k.acc else [], accPois := if k.pjob = some job then k.accPois else [] })
  s.modWave core slot (fun w =>
    { w with arms := w.arms.map (fun (e : Nat × Arm) => (e.1, e.2.wake Hold.isPennant)) })

/-- The hand-over of R227 to the wave of a number, or to the queue. A wave that is switched out does not take it, and is passed over as one
that has ended: R227 speaks only of the latter, and this is the model's choice (assumption 40). -/
def State.handover (s : State) (core : Nat) (target : Option Nat) : State :=
  let old := (s.core core).holder
  let s := match old with
    | some h => s.modWave core h (fun w =>
        { w with arms := w.arms.map (fun (e : Nat × Arm) => (e.1, e.2.wake Hold.isPassing)) })
    | none => s
  let found := target.bind (fun u => (s.core core).slots.find? (fun e => e.2.uid == u && !e.2.ended))
  match found with
  | some e => s.givePennant core e.1
  | none =>
    match (s.core core).queue with
    | r :: _ => s.givePennant core r.slot
    | [] => s.modCore core (fun k => { k with holder := none })

/-- Hands the pennant on when its holder has ended or passes it, and no matrix operation of it runs (R227). -/
def State.settlePennant (s : State) (core : Nat) : State :=
  let k := s.core core
  match k.holder with
  | none => s
  | some h =>
    match NMap.get? k.slots h with
    | none => s.handover core none
    | some w =>
      if k.matrixBusy w.uid then s
      else if w.ended then s.handover core none
      else match w.arms.findSome? (fun (e : Nat × Arm) => e.2.holds.findSome? (fun h => match h with | .passing t => some t | _ => none)) with
        | some t => s.handover core t
        | none => s

/-- PENN (R71). -/
def Core.penn (k : Core) (slot : Nat) : Word :=
  match k.holder with
  | some h => BitVec.ofNat 32 (h + 2 ^ 8 + (if h = slot then 2 ^ 9 else 0))
  | none => 0#32

/-! ### Streams -/

/-- 32 undefined words of a job (R4). -/
def State.freeLanes (s : State) (jid : Nat) : LaneVec × State := s.freeWords jid 32

/-- Fills a reserved element of a ring (R181). -/
def fillElem (res : Nat) (data : LaneVec) (es : List Elem) : List Elem :=
  es.map (fun e => if !e.filled && e.res == res then { e with data := data, filled := true } else e)

/-- Changes a ring of a team. -/
def State.modRing (s : State) (tid bank : Nat) (f : List Elem → List Elem) : State :=
  s.modTeam tid (fun t => { t with rings := NMap.alter t.rings [] bank f })

/-- Data of a push: words of lanes that are not enabled are undefined (R181). -/
def State.pushData (s : State) (jid : Nat) (lanes : Mask) (v : LaneVec) : LaneVec × State :=
  let (free, s) := s.freeLanes jid
  (LaneVec.ofFn (fun l => if laneSet lanes l then v.lane l else free.lane l), s)

/-- The bank that a vector register name stands for, when it is a mapped stream port (R49). -/
def Wave.portBank (w : Wave) (reg : Nat) : Option Nat := if 60 ≤ reg then NMap.get? w.ports (reg - 60) else none

/-! ### The end of a wave -/

/-- The access that receives the core's claim next: the oldest that has been rejected 64 times (R176). -/
def Core.nextClaim (k : Core) : Option ArmRef := (k.rejects.find? (fun e => decide (64 ≤ e.2))).map (fun e => e.1)

/-- A core without the rejections of some arms; a claim of theirs goes to the next (R176). -/
def Core.unclaim (k : Core) (p : ArmRef → Bool) : Core :=
  let k := { k with rejects := k.rejects.filter (fun e => !p e.1) }
  match k.claim with
  | some r => if p r then { k with claim := k.nextClaim } else k
  | none => k

/-- An arm with only those of its captured instructions that `f` keeps, or none. -/
def Arm.only (a : Arm) (f : Hold × Capture → Bool) : Option Arm :=
  match (a.cap.toList.map (fun q => (a.hold, q)) ++ a.also.toList).filter f with
  | (h, q) :: rest => some { a with hold := h, cap := some q, also := rest.head?, paired := false }
  | [] => none

/-- What an arm still has to perform when its wave exits: the stores and atomics that it has issued and that wait (R357). -/
def Arm.storing (a : Arm) : Option Arm := a.only (fun e => storesOrAtomic e.2.ins && !e.2.again)

/-- A wave that goes on with some of its arms' captured instructions only. -/
def Wave.onlyHolds (w : Wave) (arms : NMap Arm) : Wave :=
  { w with arms := arms,
           inflight := (w.inflight.filter (fun p => p.held && arms.any (fun e => e.2.captures.any (fun q => q.id == p.id)))).map
             (fun (p : Pending) => { p with push := [] }) }

/-- A wave that has ended: nothing of it issues, and no producer of it is in flight (R278). Stores and atomics that wait are still
performed where it exits (R357); a fault halt abandons them, as R470 says of held instructions (assumption 6). -/
def Wave.halted (w : Wave) (exits : Bool := false) : Wave :=
  { w.onlyHolds (if exits then w.arms.filterMap (fun (e : Nat × Arm) => e.2.storing.map (fun a => (e.1, a))) else []) with
    ended := true, stack := [], groups := [], ports := [], pres := 0#32, opened := false, sEmpty := [], pHeld := [] }

/-- What the discarded producers of a wave have reserved in rings is filled with undefined words (R181). -/
def State.fillReserved (s : State) (w : Wave) : State :=
  w.inflight.foldl (fun s p => p.push.foldl (fun s e =>
    let (free, s) := s.freeLanes (s.team w.tid).job
    s.modRing w.tid e.2.1 (fillElem e.2.2 free)) s) s

/-- Frees the shared resources of a wave that ends: its message ports, its place in the pennant queue, its waiting local
accesses, its miss-status claims; what its discarded producers reserved is filled with undefined words (R47, R181, R278). `exits` says
that it has ended without a fault. -/
def State.releaseWave (s : State) (core slot : Nat) (w : Wave) (exits : Bool := false) : State :=
  let v := w.halted exits
  let s := (s.fillReserved w).modCore core (fun k => Core.unclaim
    { k with port := if k.port = some slot then none else k.port, queue := k.queue.filter (fun r => r.slot != slot) }
    (fun r => r.slot == slot && (NMap.get? v.arms r.arm).isNone))
  let s := { s with allocs := s.allocs.map (fun (e : Nat × Alloc) =>
    (e.1, { e.2 with waits := e.2.waits.filter (fun q => !(q.core == core && q.slot == slot)) })) }
  (s.modWave core slot (fun w => w.halted exits)).freeStage w.uid

/-- The end of a team (R34): a release at host scope by its cores or, with the last wave of a task job, by every core that ran
its tasks (R203), and its banks return (R165). -/
def State.endTeam (s : State) (tid : Nat) : State :=
  let t := s.team tid
  let last := !t.isTask || ((s.jobWaves t.job).isEmpty && !s.units.any (fun u => u.2.job == t.job))
  let s := if last then ((s.job t.job).cores.foldl setInsert t.cores).foldl (fun s c => s.release c 5) s else s
  if t.isTask then ({ s with teams := NMap.del s.teams tid }).leaveCluster t.job t.cluster
  else
    let s := s.freeBank t.cluster (fun o => o == .fifo tid || o == .alloc t.alloc)
    ({ s with teams := NMap.del s.teams tid, allocs := NMap.del s.allocs t.alloc }).rebank t.cluster

/-- Whether something of an ended wave still runs: engine operations, the side log, stores and atomics, those that wait among them
(R278, R357). -/
def State.waveBusy (s : State) (core : Nat) (w : Wave) : Bool :=
  let k := s.core core
  k.copyQ.any (fun o => o.uid == w.uid) || k.matQ.any (fun o => o.uid == w.uid) || k.brQ.any (fun o => o.uid == w.uid) ||
    k.sideLog.any (fun e => e.uid == w.uid) || (s.peerOpen w).any (fun q => !q.isRead) || !w.arms.isEmpty

/-- The cursors of ended waves are closed (R47, R48, R278, R357), each as soon as no operation of its wave in the Bramble needs it. -/
def Core.closeCursors (k : Core) : Core :=
  if k.cx.isEmpty then k
  else { k with cx := k.cx.filter (fun e =>
    k.slots.any (fun w => w.2.uid == e.2.uid && !w.2.ended) || k.brQ.any (fun o => o.uid == e.2.uid)) }

/-- Frees the slot of an ended wave, and its team may end. -/
def State.freeSlot (s : State) (core slot : Nat) (w : Wave) : State :=
  let s := s.modCore core (fun k => { k with slots := NMap.del k.slots slot })
  let s := s.modTeam w.tid (fun t => { t with alive := t.alive - 1 })
  if (s.team w.tid).alive = 0 then s.endTeam w.tid else s

/-- Brings a core to rest after work of it has ended: the pennant moves on, and slots of ended waves are freed. -/
def State.settle (s : State) (core : Nat) : State :=
  let s := (s.settlePennant core).modCore core Core.closeCursors
  (s.core core).slots.foldl (fun s e => if e.2.ended && !s.waveBusy core e.2 then s.freeSlot core e.1 e.2 else s) s

/-- The error delivery of a wave with a nonzero handle (R93, R469). -/
def State.queueError (s : State) (core slot : Nat) (w : Wave) : State :=
  let h := pair w.tfutl w.tfuth
  if h = 0 then s
  else
    let t := s.team w.tid
    let j := s.job t.job
    { s with deliveries := s.deliveries ++
      [{ err := true, handle := h, value := 0#64, core := core, job := t.job, pasid := j.pasid, tag := w.tag,
         wave := waveWord t slot w, team := BitVec.ofNat 32 t.num, dropped := false, fromWave := true }] }

/-- A wave ends without a fault: EXIT (R357), or TEND after its delivery. -/
def State.endWave (s : State) (core slot : Nat) (err : Bool) : State :=
  match s.wave? core slot with
  | none => s
  | some w => ((if err then s.queueError core slot w else s).releaseWave core slot w true).settle core

/-! ### Fault halts and traps -/

/-- Where a wave halts: the instruction's packet and word, the arm's EXM, and whether the fault was found later (R470). -/
structure HaltAt where
  pc : Nat
  word : Nat
  exm : Mask
  imp : Bool := false
  deriving DecidableEq, Repr

/-- The fault record (R280). -/
def State.faultRecord (s : State) (core slot : Nat) (w : Wave) (h : HaltAt) (cause : Word) (addr : Nat)
    (tail : List Word) : List Word :=
  let t := s.team w.tid
  let j := s.job t.job
  let ck := (s.stack (stackOf core)).ck
  [BitVec.ofNat 32 (3 * 2 ^ 28 + j.vrb * 2 ^ 16 + (if w.isTask then w.tag else 0)), BitVec.ofNat 32 j.fent, 0#32, 0#32,
    cause, lo32 addr, hi32 addr, BitVec.ofNat 32 h.pc, waveWord t slot w,
    BitVec.ofNat 32 (h.word * 2 ^ 30 + (if h.imp then 2 ^ 29 else 0)) ||| w.spld,
    BitVec.ofNat 32 core, BitVec.ofNat 32 t.num, BitVec.ofNat 32 j.num, h.exm, lo32 ck, hi32 ck] ++
    (tail ++ List.replicate (16 - tail.length) 0#32)

/-- Where a fault record goes (R281), with the violation logs of R283. -/
def State.placeRecord (s : State) (core jid : Nat) (handler : Bool) (cause : Word) (line : List Word) : State :=
  let j := s.job jid
  let s :=
    if j.fent = 0xFFFFFFFF ∨ j.fpol = 1 ∨ handler ∨ (s.core core).dequeFull then s.postEvent j.vi (eventOf 1 0#32 line)
    else
      let (uid, s) := s.fresh
      s.pushEntry core { newEntry uid j line with handler := true }
  if cause.toNat % 256 = 0x12 then s.logViolation j.vi line else s

/-- An RDVW at a point of an abandoned team returns with ABAND set (R67, R68). -/
def State.abandonArm (s : State) (r : ArmRef) (pt : Nat) : State :=
  (s.modWave r.core r.slot (fun w =>
    { w with aband := w.aband ||| 0x80000000#32 ||| BitVec.ofNat 32 (2 ^ pt) })).finishAcquire r 2

/-- The team becomes abandoned (R67); its waiting RDVW instructions return when the cycle ends (R37, R67). -/
def State.abandonTeam (s : State) (tid : Nat) : State :=
  s.modTeam tid (fun t => { t with abandoned := true, abandoning := !t.abandoned || t.abandoning })

/-- The point and phase of a waiting RDVW that returns when the cycle ends: its phase has completed, or its team is abandoned (R37,
R66, R67). -/
def State.rdvReturn (s : State) (w : Wave) (a : Arm) : Option (Nat × Nat) :=
  match (a.facing Hold.isRendezvous).hold with
  | .rendezvous pt phase =>
    if phase < ((s.team w.tid).point pt).phase || (s.team w.tid).abandoned then some (pt, phase) else none
  | _ => none

/-- A waiting RDVW returns: normally where its phase has completed, else by abandonment (R66, R67). -/
def State.returnRdvw (s : State) (e : ArmRef × Wave × Arm) : State :=
  match s.rdvReturn e.2.1 e.2.2 with
  | some (pt, phase) =>
    let s := s.modArm e.1 (Arm.facing Hold.isRendezvous)
    if phase < ((s.team e.2.1.tid).point pt).phase then s.finishAcquire e.1 2 else s.abandonArm e.1 pt
  | none => s

/-- At the end of a cycle of a stack, the RDVW instructions whose wait is over return (R37, R66, R67). -/
def State.endCycle (s : State) (stack : Nat) : State :=
  let s := (s.arms.filter (fun e => stackOf e.1.core == stack)).foldl State.returnRdvw s
  if s.teams.any (fun t => t.2.abandoning && t.2.cluster / 16 == stack) then
    { s with teams := s.teams.map (fun (t : Nat × Team) => if t.2.cluster / 16 = stack then (t.1, { t.2 with abandoning := false }) else t) }
  else s

/-- What a fault halt does outside the wave (R278): its team becomes abandoned, its future receives an error delivery where `err` says
so, the record goes where R281 says, and the job counts it. -/
def State.afterHalt (s : State) (core slot : Nat) (w : Wave) (line : List Word) (cause : Word) (err : Bool) : State :=
  let jid := (s.team w.tid).job
  let s := s.abandonTeam w.tid
  let s := if err then s.queueError core slot w else s
  let s := s.placeRecord core jid w.handler cause line
  let s := s.modJob jid (fun j => { j with halts := j.halts + 1, halted1 := j.halted1 || j.fpol == 1 })
  if (s.job jid).fpol = 1 then s.drain jid else s

/-- A fault halt (R278): taking a fault, for every cause; a wave that has ended takes none. `err` is false for the fault of a TEND
on its own handle. -/
def State.haltWave (s : State) (core slot : Nat) (h : HaltAt) (cause : Word) (addr : Nat) (tail : List Word)
    (err : Bool) : State :=
  match s.wave? core slot with
  | none => s
  | some w =>
    if w.ended then s
    else
    let line := s.faultRecord core slot w h cause addr tail
    ((s.releaseWave core slot w).afterHalt core slot w line cause err).settle core

/-- The identity of an arm. -/
def Arm.ident (a : Arm) : ArmId := ⟨a.grp, a.entry⟩

/-- Whether an arm is the one of an identity. A parent that resumes after its parts have merged is the arm that split. -/
def Arm.isOne (a : Arm) (x : ArmId) : Bool := a.grp == x.grp && (x.grp == 0 || a.entry &&& x.entry != 0#32)

/-- Where the instruction stands at which an arm is blocked or held, the first of a pair whose words both wait, or else the one that it
issues next (R470). -/
def Arm.nextAt (a : Arm) : Nat × Nat :=
  match a.cap, a.also with
  | some q, some (_, x) => if q.pc < x.pc ∨ (q.pc = x.pc ∧ q.word ≤ x.word) then (q.pc, q.word) else (x.pc, x.word)
  | some q, none => (q.pc, q.word)
  | none, _ => (a.pc, a.word)

/-- The live arm that an identity has become: its own arm, or the part 1 as which it went on when it split (R56, R433); none where it
has ended. -/
def Wave.follow (w : Wave) : Nat → ArmId → Option Arm
  | 0, _ => none
  | n + 1, x =>
    match (w.arms.map (fun e => e.2)).find? (fun a => a.isOne x) with
    | some a => some a
    | none =>
      match w.groups.find? (fun g => g.parentGrp == x.grp && (x.grp == 0 || g.lanes &&& x.entry != 0#32)) with
      | some g => w.follow n ⟨g.id, g.first⟩
      | none => none

/-- The next instruction of the arm that issued a faulting instruction, with that arm's EXM; when the arm has ended, the next
instruction of live arm 0 with the EXM that the faulting arm had (R280, R470). -/
def Wave.nextOf (w : Wave) (x : ArmId) (h : HaltAt) : HaltAt :=
  match w.follow (w.groups.length + 1) x, w.arms.head? with
  | some a, _ => ⟨a.nextAt.1, a.nextAt.2, a.exm, true⟩
  | none, some e => ⟨e.2.nextAt.1, e.2.nextAt.2, h.exm, true⟩
  | none, none => { h with imp := true }

/-- A fault found after its wave has ended: the record goes to the event queue with the given kind and counts as a halted wave
(R289, R323). -/
def State.endedHalt (s : State) (core slot : Nat) (w : Wave) (h : HaltAt) (kind : Nat) (cause : Word) (addr : Nat)
    (tail : List Word) : State :=
  let j := s.job (s.team w.tid).job
  let line := s.faultRecord core slot w { h with imp := true } cause addr tail
  let s := s.postEvent j.vi (eventOf kind 0#32 line)
  let s := if cause.toNat % 256 = 0x12 then s.logViolation j.vi line else s
  let s := s.modJob j.jid (fun j => { j with halts := j.halts + 1, halted1 := j.halted1 || j.fpol == 1 })
  if (s.job j.jid).fpol = 1 then s.drain j.jid else s

/-- A fault found after its instruction has issued (R470): the wave halts, unless it has ended. -/
def State.lateHalt (s : State) (core slot : Nat) (arm : ArmId) (h : HaltAt) (kind : Nat) (cause : Word) (addr : Nat)
    (tail : List Word) : State :=
  match s.wave? core slot with
  | none => s
  | some w =>
    if !w.ended then s.haltWave core slot (w.nextOf arm h) cause addr tail true
    else s.endedHalt core slot w h kind cause addr tail

/-- What an instruction runs with: its arm, its wave with the elements of stream ports that it reads in their registers,
its team and job, the enabled lanes (R45), and whether it has popped a stream. -/
structure Ctx where
  r : ArmRef
  wave : Wave
  arm : Arm
  team : Team
  job : Job
  lanes : Mask
  popped : Bool := false
  ins : Instr := .nop
  /-- What kept the destinations of a captured instruction empty until it runs again. -/
  held : Option Pending := none
  deriving DecidableEq, Repr

/-- The instruction halts its wave where it stands (R8, R278). A store or an atomic that its wave's EXIT has left to be performed makes
the record that R289 gives for the side log: no rule names another, and this is the model's choice (assumption 6). -/
def Ctx.halt (c : Ctx) (cause : Word) (addr : Nat) (tail : List Word) (s : State) : State :=
  if c.wave.ended then s.endedHalt c.r.core c.r.slot c.wave ⟨c.arm.pc, c.arm.word, c.arm.exm, true⟩ 5 cause addr tail
  else s.haltWave c.r.core c.r.slot ⟨c.arm.pc, c.arm.word, c.arm.exm, false⟩ cause addr tail true

/-- The instruction faults where it stands (R8, R278). -/
def Ctx.fault (c : Ctx) (code det addr : Nat) (s : State) : State := c.halt (faultCause code det) addr [] s

/-- The same with the mask of the offending lanes in w16 (R280). -/
def Ctx.faultLanes (c : Ctx) (code det addr : Nat) (m : Mask) (s : State) : State := c.halt (faultCause code det) addr [m] s

/-- The illegal-instruction fault at the instruction's own word (R113). -/
def Ctx.illegal (c : Ctx) (s : State) : State := c.fault 0x10 0 (c.job.wordVA c.arm) s

/-- EnterTrap (R276, R338). A long-latency result that s60 or s61 waited for is dropped: of two writes the later issue's stays
(R59; assumption 40). -/
def State.enterTrap (s : State) (r : ArmRef) (h : HaltAt) (code arg addr resume : Nat) : State :=
  match s.wave? r.core r.slot with
  | none => s
  | some w =>
    let j := s.job (s.team w.tid).job
    if j.tent = 0xFFFFFFFF then s.haltWave r.core r.slot h (fcauseWord false arg 0 code) addr [] true
    else
      s.modWave r.core r.slot (fun w =>
        { (w.setS 60 (lo32 resume)).setS 61 (hi32 resume) with
          fcause := fcauseWord true arg 0 code, faddl := lo32 addr, faddh := hi32 addr,
          sEmpty := w.sEmpty.filter (fun e => e.1 != 60 && e.1 != 61)
          inflight := w.inflight.map (fun (p : Pending) => { p with sdst := p.sdst.filter (fun e => e.1 != 60 && e.1 != 61) }) }.modArm r.arm (fun a => a.goto j.tent))

/-! ### What stands in an instruction's way -/

/-- The checks that come before an instruction executes. -/
inductive Check where
  /-- It names registers that the wave does not have, or a port inside a group (R42, R181). -/
  | illegal
  /-- It would block on an empty source whose ETRAP bit is set: position and register (R53). -/
  | trap (pos reg : Nat)
  | wait (w : Wait)
  | go
  deriving DecidableEq, Repr

/-- Takes the elements of stream ports that are read, or nothing when one of them has none to give (R181, R182). -/
def popAll (rings : NMap (List Elem)) : List (Nat × Nat) → Option (NMap (List Elem) × List (Nat × LaneVec))
  | [] => some (rings, [])
  | (reg, bank) :: l =>
    match NMap.at rings bank [] with
    | e :: es =>
      if e.filled then (popAll (NMap.put rings bank es) l).map (fun x => (x.1, (reg, e.data) :: x.2)) else none
    | [] => none

/-- Whether each ring has room for its pushes (R182). -/
def roomAll (rings : NMap (List Elem)) : List (Nat × Nat) → Bool
  | [] => true
  | (_, bank) :: l =>
    let es := NMap.at rings bank []
    decide (es.length < 1024) && roomAll (NMap.put rings bank (es ++ [⟨[], false, 0, false⟩])) l

/-- The stream ports among registers: each once, with its bank. -/
def Wave.portsOf (w : Wave) (regs : List Nat) : List (Nat × Nat) :=
  regs.dedup.filterMap (fun r => (w.portBank r).map (fun b => (r, b)))

/-- Whether a vector register is empty in the arm's view; a mapped port is none (R49, R51). -/
def Ctx.vEmpty (c : Ctx) (r : Nat) : Bool := (c.wave.portBank r).isNone && c.arm.empty.any (fun e => e.1 == r)

/-- Whether a scalar register is empty (R51). -/
def Ctx.sEmpty (c : Ctx) (r : Nat) : Bool := c.wave.sIsEmpty r

/-- The empty sources in a position whose ETRAP bit is set, in the order of the positions (R53). -/
def Ctx.trapSource (c : Ctx) (u : Uses) : Option (Nat × Nat) :=
  let es := u.vs.filter (fun e => c.vEmpty e.1) ++ u.ss.filter (fun e => c.sEmpty e.1)
  [0, 1, 2].findSome? (fun p => (es.find? (fun e => e.2 == p && c.wave.etrap.getLsbD p)).map (fun e => (p, e.1)))

/-- Whether the pops and pushes of the instruction can be made now (R181, R182); one that a switch has abandoned has its elements. -/
def Ctx.ringsReady (c : Ctx) (u : Uses) : Bool :=
  if c.lanes = 0#32 ∨ c.held.isSome then true
  else match popAll c.team.rings (c.wave.portsOf (u.vs.map (fun e => e.1))) with
    | none => false
    | some (rings, _) => roomAll rings (c.wave.portsOf u.vd)

/-- Whether an instruction names vector registers that the wave does not have, or a stream port inside a group (R42,
R181). -/
def Wave.lacks (w : Wave) (i : Instr) : Bool :=
  ((uses i).vs.map (fun e => e.1) ++ (uses i).vd).any (fun r => decide (w.vregN ≤ r) && (w.portBank r).isNone) ||
    (grouped i).any (fun r => (w.portBank r).isSome)

/-- Whether the queue of the engine that an instruction goes to is full (R215, R224, R230). -/
def Core.engineFull (k : Core) : Instr → Bool
  | .copy _ => decide (16 ≤ k.copyQ.length)
  | .copyM _ _ _ _ => decide (16 ≤ k.copyQ.length) || decide (8 ≤ k.matQ.length)
  | .mma _ _ _ | .mmaMc _ _ _ _ | .accz _ | .accld _ _ _ | .accst _ _ _ => decide (8 ≤ k.matQ.length)
  | .cxopenIntersect _ _ _ | .cxopenUnion _ _ _ | .cxopenExpand _ _ | .cxnext _ _ _ _ | .cxsplit _ _ _ | .cxsave _ _
  | .cxload _ _ | .cxloadS _ _ | .cxclose _ => decide (8 ≤ k.brQ.length)
  | _ => false

/-- Whether an arm waits for an acquire, or for the load before it (R195, R376). -/
def Arm.acquires (a : Arm) : Bool :=
  a.holds.any Hold.isAcquire || a.captures.any (fun q => !q.again && (match q.ins with | .ldacq .. => true | _ => false))

/-- Whether an instruction comes behind an acquire of the wave's other arm: an access to memory, or a reader of the register of an LDACQ,
until the acquire completes (R195, R376). -/
def Ctx.behindAcquire (c : Ctx) (i : Instr) : Bool :=
  c.wave.arms.any (fun e => e.1 != c.r.arm && e.2.acquires &&
    (pipe i == .memory || e.2.holds.any (fun h => match h with
      | .acquire _ _ (some d) => (uses i).ss.any (fun x => x.1 == d)
      | _ => false)))

/-- The checks of an instruction before it executes: a full engine queue keeps it from all others (R320), then R42, R181, R52,
R53, R195, R241 and R182. -/
def Ctx.check (c : Ctx) (k : Core) (i : Instr) : Check :=
  let u := uses i
  if k.engineFull i then .wait .engineQueue
  else if c.wave.lacks i then .illegal
  else match c.trapSource u with
    | some (p, r) => .trap p r
    | none =>
      if u.vs.any (fun e => c.vEmpty e.1) || u.ss.any (fun e => c.sEmpty e.1) || u.vd.any c.vEmpty || u.sd.any c.sEmpty
      then .wait .empty
      else if c.behindAcquire i then .wait .earlier
      else if (u.pr ++ u.pw).any (fun p => c.wave.pHeld.any (fun e => e.1 == p)) then .wait .predicate
      else if !c.ringsReady u then .wait .ring
      else .go

/-! ### Running an instruction -/

/-- The context in which the issuing arm runs an instruction. -/
def State.ctx? (s : State) (i : Instr) : Option Ctx :=
  match s.cur with
  | none => none
  | some r =>
    match s.wave? r.core r.slot with
    | none => none
    | some w =>
      (NMap.get? w.arms r.arm).map (fun a =>
        { r := r, wave := w, arm := a, team := s.team w.tid, job := s.job (s.team w.tid).job,
          lanes := a.exm &&& w.preg (guardOf i), ins := i })

/-- The arm waits, and its word issues again later (R38, R52). -/
def State.hold (s : State) (r : ArmRef) (w : Wait) : State := s.modArm r (fun a => { a with hold := .wait w })

/-- Empty marks without those of one producer. -/
def unmark (id : Nat) (l : List (Nat × Nat)) : List (Nat × Nat) := l.filter (fun e => e.2 != id)

/-- A wave without the marks of one producer: its destinations are full in every view (R50, R51). -/
def Wave.unmark (w : Wave) (id : Nat) : Wave :=
  { w with
    arms := w.arms.map (fun (e : Nat × Arm) => (e.1, { e.2 with empty := Machine.unmark id e.2.empty }))
    stack := w.stack.map (fun (e : Part) => { e with empty := Machine.unmark id e.empty })
    groups := w.groups.map (fun (e : Group) => { e with empty := Machine.unmark id e.empty })
    sEmpty := Machine.unmark id w.sEmpty
    pHeld := Machine.unmark id w.pHeld }

/-- The pops of an instruction: the rings without their elements, and the elements in the registers' places (R181). -/
def Ctx.pop (c : Ctx) (u : Uses) (s : State) : Ctx × State :=
  if c.lanes = 0#32 then (c, s)
  else match popAll c.team.rings (c.wave.portsOf (u.vs.map (fun e => e.1))) with
    | some (rings, e :: es) =>
      ({ c with wave := (e :: es).foldl (fun w x => w.setV x.1 x.2) c.wave, popped := true },
        s.modTeam c.wave.tid (fun t => { t with rings := rings }))
    | _ => (c, s)

/-- The pops of an instruction are given back: it faults before it reads its sources, or with nothing changed (R8, R56, R433). -/
def Ctx.unpop (c : Ctx) (s : State) : State :=
  if c.popped then s.modTeam c.wave.tid (fun t => { t with rings := c.team.rings }) else s

/-- The capability check of R300 for one class, with the run log of R305; the meaning goes on only if it passes. -/
def Ctx.withClass (c : Ctx) (cls : Nat) (s : State) (k : State → State) : State :=
  match s.classFault c.r.core c.job cls with
  | some code => c.fault code 0 cls s
  | none => k (s.noteClass c.r.core c.job.jid cls)

/-- The capability check of an instruction whose class its opcode fixes. -/
def Ctx.withClassOf (c : Ctx) (i : Instr) (s : State) (k : State → State) : State :=
  match classOf i with
  | some cls => c.withClass cls s k
  | none => k s

/-- The trap of an empty read (R53, R276). For a chained pair it names the packet of the first word, at which the arm
stands. -/
def Ctx.emptyTrap (c : Ctx) (pos reg : Nat) (s : State) : State :=
  s.enterTrap c.r ⟨c.arm.pc, c.arm.word, c.arm.exm, false⟩ 3 pos reg (c.job.packetVA c.arm.pc)

/-- A captured instruction runs: with its operands as they were at issue, its place in the program, its destinations still empty
by its own producer, and the producers in flight that are earlier than it. -/
def Ctx.resumed (c : Ctx) (q : Capture) : Ctx :=
  let w := { c.wave with inflight := c.wave.inflight.filter (fun p => decide (p.id < q.id)) }
  { c with
    wave := { q.vregs.foldl (fun (w : Wave) e => w.setV e.1 e.2) (Wave.setSs w q.sregs) with tfutl := q.future.1, tfuth := q.future.2 }
    arm := { c.arm with pc := q.pc, word := q.word }
    lanes := q.lanes
    popped := q.popped
    held := c.wave.inflight.find? (fun p => p.id == q.id) }

/-- The producer of a captured instruction that has run without launching one: its destinations are full again, and an element
that it reserved is filled with undefined words. -/
def State.unhold (s : State) (r : ArmRef) (tid : Nat) (p : Pending) : State :=
  let s := p.push.foldl (fun s e => let (free, s) := s.freeLanes (s.team tid).job; s.modRing tid e.2.1 (fillElem e.2.2 free)) s
  s.modWave r.core r.slot (fun w => w.unmark p.id)

/-- Whether a producer still stands in a wave's list. -/
def State.flies (s : State) (r : ArmRef) (id : Nat) : Bool :=
  (s.wave? r.core r.slot).any (fun w => w.inflight.any (fun p => p.id == id))

/-- What held the place of a captured instruction is done, unless the instruction has launched its producer. -/
def State.unheld (t : State) (c : Ctx) (held : Option Pending) : State :=
  match held with
  | some p => if t.flies c.r p.id then t else t.unhold c.r c.wave.tid p
  | none => t

/-- Runs a captured instruction again (R288, R176, R344, R436). -/
def Ctx.rerun (c : Ctx) (q : Capture) (k : Ctx → State → State) (s : State) : State :=
  let d := c.resumed q
  let s := s.modWave c.r.core c.r.slot (fun w =>
    { w with inflight := w.inflight.filter (fun p => p.id != q.id) }.modArm c.r.arm (fun a => { a with cap := none, hold := .none }))
  (k d s).unheld c d.held

/-- A word issues: its checks, its class, its pops, then its own effect. -/
def Ctx.begin (c : Ctx) (i : Instr) (k : Ctx → State → State) (s : State) : State :=
  match c.check (s.core c.r.core) i with
  | .illegal => c.illegal s
  | .trap p r => c.emptyTrap p r s
  | .wait w => s.hold c.r w
  | .go =>
    c.withClassOf i s (fun s =>
      let (c, s) := c.pop (uses i) s
      k c s)

/-- A captured instruction that a switch has abandoned issues again (R272, R273): where it stood, with its operands as they are now,
but for elements that it has popped, and with the elements that it has reserved (R181). While it blocks it stays abandoned. -/
def Ctx.reissue (c : Ctx) (q : Capture) (k : Ctx → State → State) (s : State) : State :=
  let held := c.wave.inflight.find? (fun p => p.id == q.id)
  let w := { c.wave with inflight := c.wave.inflight.filter (fun p => p.id != q.id) }
  let d := { c with arm := { c.arm with pc := q.pc, word := q.word, cap := none }, wave := w, held := held }
  let t := s.modWave c.r.core c.r.slot (fun w =>
    { w with inflight := w.inflight.filter (fun p => p.id != q.id) }.modArm c.r.arm (fun a => { a with cap := none, hold := .none }))
  let t :=
    if q.popped then
      d.withClassOf q.ins t (k { d with lanes := q.lanes, popped := true, wave := q.vregs.foldl (fun (w : Wave) e => w.setV e.1 e.2) w })
    else d.begin q.ins k t
  match (t.wave? c.r.core c.r.slot).bind (fun w => NMap.get? w.arms c.r.arm) with
  | some a => match a.hold, a.cap with
    | .wait w, none => s.hold c.r w
    | _, _ => t.unheld c held
  | none => t.unheld c held

/-- Every instruction word runs in this wrapper: a word issues, and a captured instruction, which has issued, runs again. -/
def State.run (s : State) (i : Instr) (k : Ctx → State → State) : Host.Outcome State Fault Refusal :=
  match s.ctx? i with
  | none => .fault .noIssuingArm
  | some c =>
    .next (match c.arm.cap with
      | some q => if q.again then c.reissue q k s else c.rerun q k s
      | none => c.begin i k s)

/-! ### Results -/

/-- What an instruction writes: vector registers with all their lanes, scalar registers, predicates with their write mask
and value, and FLAGS bits to set. -/
structure Result where
  vdst : List (Nat × LaneVec) := []
  sdst : List (Nat × Word) := []
  pdst : List (Nat × Mask × Mask) := []
  flags : Word := 0#32
  deriving DecidableEq, Repr

/-- Writes results into a wave's own registers, in the enabled lanes (R45). -/
def Wave.write (w : Wave) (lanes : Mask) (x : Result) : Wave :=
  let w := x.vdst.foldl (fun w e => w.setV e.1 (mergeLanes lanes (w.vreg e.1) e.2.lane)) w
  let w := w.setSs x.sdst
  let w := x.pdst.foldl (fun w e => w.setP e.1 (mergeMask e.2.1 (w.preg e.1) e.2.2)) w
  { w with flags := w.flags ||| x.flags }

/-- A split wave notes the lanes that an arm writes in this cycle as they were: a shuffle of the other arm reads those (R416). -/
def Wave.noteOld (w : Wave) (arm : Nat) (lanes : Mask) (x : Result) : Wave :=
  if w.isSplit then { w with old := x.vdst.map (fun e => (arm, e.1, lanes, w.vreg e.1)) ++ w.old } else w

/-- The vector results that go to stream ports, with their banks (R181). -/
def Ctx.pushes (c : Ctx) (x : Result) : List (Nat × Nat × LaneVec) :=
  x.vdst.filterMap (fun e => (c.wave.portBank e.1).map (fun b => (e.1, b, e.2)))

/-- The results that go to the wave's own registers. -/
def Ctx.ownDst (c : Ctx) (x : Result) : Result :=
  { x with vdst := x.vdst.filter (fun e => (c.wave.portBank e.1).isNone) }

/-- Writes results at once, pushes what goes to stream ports, and moves the arm on. -/
def Ctx.retireNow (c : Ctx) (x : Result) (s : State) : State :=
  let s := if c.lanes = 0#32 then s else (c.pushes x).foldl (fun s e =>
    let (data, s) := s.pushData c.job.jid c.lanes e.2.2
    s.modRing c.wave.tid e.2.1 (fun es => es ++ [⟨data, true, 0, false⟩])) s
  s.modWave c.r.core c.r.slot (fun w =>
    ((w.noteOld c.r.arm c.lanes (c.ownDst x)).write c.lanes (c.ownDst x)).modArm c.r.arm Arm.advance)

/-- What a producer in flight needs besides its results: whether it is a memory access, what must come first, miss-status
entries, its plain load, and predicates that it holds. -/
structure Flight where
  isMem : Bool := false
  left : Nat := 0
  lines : Nat := 0
  load : Option LoadReq := none
  bad : List (Nat × Nat) := []
  holdsPreds : List Nat := []
  hasFlags : Bool := false
  deriving DecidableEq, Repr

/-- A producer in flight, by its number and the stream elements that it has reserved (R50). -/
def Ctx.flight (c : Ctx) (x : Result) (f : Flight) (id : Nat) (ports : List (Nat × Nat × Nat)) : Pending :=
  { id := id, arm := c.r.arm, pc := c.arm.pc, word := c.arm.word, exm := c.arm.exm, lanes := c.lanes,
    vdst := x.vdst, sdst := x.sdst, pdst := x.pdst, flags := x.flags, push := ports,
    left := f.left, bad := f.bad, lines := f.lines, load := f.load, isMem := f.isMem, hasFlags := f.hasFlags }

/-- The marks of a producer (R50, R181): its destinations empty, its predicates held, elements of stream ports reserved; the
producer is in flight, and its number is returned. A captured instruction has made its marks already. -/
def Ctx.mark (c : Ctx) (x : Result) (f : Flight) (s : State) : Nat × State :=
  match c.held with
  | some p =>
    (p.id, s.modWave c.r.core c.r.slot (fun w => { w with inflight := w.inflight ++ [c.flight x f p.id p.push] }))
  | none =>
    let (id, s) := s.fresh
    let ports := if c.lanes = 0#32 then [] else (c.pushes x).map (fun e => (e.1, e.2.1, 64 * id + e.1))
    let s := ports.foldl (fun s e => s.modRing c.wave.tid e.2.1 (fun es => es ++ [⟨[], false, e.2.2, false⟩])) s
    let own := (c.ownDst x).vdst.map (fun e => (e.1, id))
    (id, s.modWave c.r.core c.r.slot (fun w =>
      { w with sEmpty := w.sEmpty ++ x.sdst.map (fun (e : Nat × Word) => (e.1, id)), pHeld := w.pHeld ++ f.holdsPreds.map (fun (q : Nat) => (q, id)),
               inflight := w.inflight ++ [c.flight x f id ports] }.modArm c.r.arm (fun a => { a with empty := a.empty ++ own })))

/-- A long-latency producer issues (R50), and its arm moves on. The number of the producer is returned. -/
def Ctx.launch (c : Ctx) (x : Result) (f : Flight) (s : State) : Nat × State :=
  let (id, s) := c.mark x f s
  (id, s.modArm c.r Arm.advance)

/-- The operands of an instruction as its arm holds them at issue. -/
def Ctx.capture (c : Ctx) (id : Nat) : Capture :=
  let u := uses c.ins
  { id := id, ins := c.ins, pc := c.arm.pc, word := c.arm.word, lanes := c.lanes, popped := c.popped,
    sregs := u.ss.map (fun e => (e.1, c.wave.sreg e.1)), vregs := u.vs.map (fun e => (e.1, c.wave.vreg e.1)),
    future := (c.wave.tfutl, c.wave.tfuth) }

/-- The destinations that an instruction marks empty while it waits: those of FWAIT stay full (R365). -/
def heldDst (i : Instr) : List Nat × List Nat :=
  match i with
  | .fwait _ _ => ([], [])
  | _ => ((uses i).vd, (uses i).sd)

/-- An instruction that has issued waits, held by `h`: its operands are captured, its destinations stay empty (R50, R288); `mem`
says that it is an access to memory, which a release waits for (R194). -/
def Ctx.holdFor (c : Ctx) (h : Hold) (mem : Bool) (s : State) : State :=
  match c.arm.cap with
  | some q => s.modWave c.r.core c.r.slot (fun w =>
      { w with inflight := w.inflight ++ c.held.toList }.modArm c.r.arm (fun a => { a with hold := h, cap := some q }))
  | none =>
    let u := heldDst c.ins
    let (id, s) := c.mark { vdst := u.1.map (fun r => (r, [])), sdst := u.2.map (fun r => (r, 0#32)) } { isMem := mem, left := 1 } s
    (s.modPending c.r.core c.r.slot id (fun p => { p with held := true })).modArm c.r
      (fun a => { a with hold := h, cap := some (c.capture id) })

/-- The word waits: it issues again later, or, once it has captured its operands, runs again with them. -/
def Ctx.wait (c : Ctx) (w : Wait) (s : State) : State :=
  if c.arm.cap.isSome then c.holdFor (.wait w) false s else s.hold c.r w

/-- The results of a computing instruction: at once, or in flight when it pops a stream (R50). -/
def Ctx.retire (c : Ctx) (x : Result) (s : State) : State :=
  if c.popped && !(x.vdst.isEmpty && x.sdst.isEmpty) then
    let s := s.modWave c.r.core c.r.slot (fun w => w.write c.lanes { pdst := x.pdst })
    (c.launch { x with pdst := [] } { hasFlags := x.flags != 0#32 } s).2
  else c.retireNow x s

/-- The results of an SFU instruction: in flight, and nothing without an enabled lane (R50). -/
def Ctx.retireSfu (c : Ctx) (x : Result) (s : State) : State :=
  if c.lanes = 0#32 then c.retireNow { } s else (c.launch x { hasFlags := true } s).2

/-- The arm moves on and nothing is written. -/
def Ctx.done (c : Ctx) (s : State) : State := s.modArm c.r Arm.advance

/-! ### Transfers of control -/

/-- Next() of R319: word 0 of the next packet (R101). -/
def Ctx.next (c : Ctx) (s : State) : State := s.modArm c.r (fun a => a.goto (a.pc + 1))

/-- A transfer to a packet, or its refusal (R102); `w` changes the wave when the transfer is made. -/
def Ctx.transfer (c : Ctx) (target : Int) (w : Wave → Wave) (s : State) : State :=
  if 0 ≤ target ∧ target < c.job.npkt then
    s.modWave c.r.core c.r.slot (fun x => (w x).modArm c.r.arm (fun a => a.goto target.toNat))
  else c.fault 0x10 0 (((c.job.cbase : Int) + 12 * target) % 2 ^ 64).toNat s

/-- Branch of R319: a relative target (R102). -/
def Ctx.branch (c : Ctx) {n : Nat} (off : BitVec n) (s : State) : State := c.transfer (c.arm.pc + off.toInt) id s

/-- A transfer to a byte address (R102). -/
def Ctx.jump (c : Ctx) (va : Nat) (s : State) : State :=
  if c.job.inCode va ∧ (va - c.job.cbase) % 12 = 0 then
    s.modArm c.r (fun a => a.goto ((va - c.job.cbase) / 12))
  else c.fault 0x10 0 va s

end Sys2Proof.Machine
end

