-- ==== Sys2Proof/Machine/Local.lean ====
section
/-!
DEFINITION. Local memory: bytes, poison and full/empty granules of a SCRATCH allocation (R158, R160, R168, R169, R178).
-/

namespace Sys2Proof.Machine

/-- The address of the lowest poisoned sector that `n` bytes at `a` touch (R177). -/
def Alloc.poisonIn (al : Alloc) (a n : Nat) : Option Nat :=
  ((sectorsOf a n).map (fun e => 4 * e.1 + e.2)).find? (fun k => al.pois.contains k) |>.map (fun k => 32 * k)

/-- `n` bytes at a local address. -/
def Alloc.bytesAt (al : Alloc) (a n : Nat) : List Byte := Memory.readBytes al.cells a n

/-- Writes bytes at a local address. -/
def Alloc.put (al : Alloc) (a : Nat) (bs : List Byte) : Alloc := { al with cells := Memory.writeBytes al.cells a bs }

/-- Writes single bytes in order, so that a later one wins (R160). -/
def Alloc.putAll (al : Alloc) (ws : List (Nat × Byte)) : Alloc :=
  { al with cells := ws.foldl (fun m e => Memory.write m e.1 e.2) al.cells }

/-- The sectors that one write covers whole lose their poison (R178). -/
def Alloc.cleanse (al : Alloc) (ws : List (Nat × Byte)) : Alloc :=
  { al with pois := al.pois.filter (fun k => !((List.range 32).all (fun o => ws.any (fun e => e.1 == 32 * k + o)))) }

/-- The read of a waiting lane at its granule: the bytes, and their poisoned sector (R169, R178). -/
def laneWord (al : Alloc) (a : Nat) (k : Nat) : Word := bytesWord (al.bytesAt (a + 4 * k) 4)

/-- Puts the lanes that a granule access read into a producer's results: register `k` of its group receives word `k`. -/
def Pending.fillLanes (p : Pending) (al : Alloc) (lanes : List (Nat × Nat)) : Pending :=
  { p with vdst := (List.range p.vdst.length).map (fun k =>
      let e := p.vdst.getD k (0, [])
      (e.1, LaneVec.ofFn (fun l => match lanes.find? (fun x => x.1 == l) with
        | some x => laneWord al x.2 k
        | none => e.2.lane l))) }

/-- The halt of a wave whose waiting lanes read a poisoned sector (R169, R178, R380): the record names the load. -/
def State.poisonWait (s : State) (q : BankWait) (sector : Nat) : State :=
  match (s.wave? q.core q.slot).bind (fun w => w.inflight.find? (fun p => p.id == q.id)) with
  | some p =>
    s.haltWave q.core q.slot ⟨p.pc, p.word, p.exm, false⟩ (faultCause 0x13 0) sector
      [maskOf (fun l => q.lanes.any (fun x => x.1 == l))] true
  | none => s

/-- Serves one waiting request at a granule: it reads, and has one granule less to wait for (R169). -/
def State.serveWait (s : State) (aid : Nat) (q : BankWait) : State :=
  let al := s.alloc aid
  match (q.lanes.filterMap (fun x => al.poisonIn x.2 q.size)).head? with
  | some sector => s.poisonWait q sector
  | none => s.modPending q.core q.slot q.id (fun p => { p.fillLanes al q.lanes with left := p.left - 1 })

/-- The waiting requests that a fill of a granule serves: those ahead of the first .wc, and that one (R169). -/
def servedBy : List BankWait → List BankWait
  | [] => []
  | q :: qs => if q.clear then [q] else q :: servedBy qs

/-- A granule is filled (R168, R169): waiting requests are served in order, and a .wc empties it. -/
def State.fillGranule (s : State) (aid g : Nat) : State :=
  let al := s.alloc aid
  let served := servedBy (al.waits.filter (fun q => q.gran == g))
  let emptied := served.any (fun q => q.clear)
  let s := s.modAlloc aid (fun al =>
    { al with full := if emptied then setErase al.full g else setInsert al.full g,
              waits := al.waits.filter (fun q => !served.contains q) })
  served.foldl (fun s q => s.serveWait aid q) s

/-- The granules that bytes touch, each once, in ascending order of first touch. -/
def granulesOf (as : List Nat) : List Nat := as.foldl (fun l a => setInsert l (a / 16)) []

/-- An engine's write to SCRATCH: its bytes, its poison, and its granules set full (R168, R178). `poisoned` lists sectors
whose source was poisoned; `whole` says whether sectors that it covers are cleared. -/
def State.engineLocal (s : State) (aid a : Nat) (bs : List Byte) (poisoned : List Nat) : State :=
  let ws := (List.range bs.length).map (fun k => (a + k, bs.getD k 0#8))
  let s := s.modAlloc aid (fun al =>
    let al := (al.putAll ws).cleanse ws
    { al with pois := poisoned.foldl setInsert al.pois })
  (granulesOf (ws.map (fun e => e.1))).foldl (fun s g => s.fillGranule aid g) s

/-- Local address bytes of the issuing wave's allocation (R158). -/
def Ctx.allocBytes (c : Ctx) (s : State) : Nat := (s.alloc c.team.alloc).bytes

end Sys2Proof.Machine
end

