-- ==== Sys2Proof/Machine/Engine.lean ====
section
/-!
DEFINITION. What the engines share: bytes moved between global memory at home and SCRATCH at the bank, with their poison (R178,
R205, R206), the pages and the peers' sectors that they need, and the record of an access that is refused to them (R283).
-/

namespace Sys2Proof.Machine

/-! ### Rows -/

/-- Rows of bytes at a pitch, as an engine reads or writes them in order. -/
structure Rows where
  base : Nat
  pitch : Nat
  rb : Nat
  rows : Nat
  deriving DecidableEq, Repr

/-- The address of byte `i` of rows of `rb` bytes at a pitch. -/
def rowAddr (base pitch rb i : Nat) : Nat := base + i / rb * pitch + i % rb

/-- The address of byte `i`. -/
def Rows.at (x : Rows) (i : Nat) : Nat := rowAddr x.base x.pitch x.rb i

/-- How many bytes the rows have. -/
def Rows.bytes (x : Rows) : Nat := x.rows * x.rb

/-- The number of the last byte at an address, if the rows have one there. -/
def Rows.last (x : Rows) (a : Nat) : Option Nat :=
  if a < x.base ∨ x.rows = 0 then none
  else
    let r := if x.pitch = 0 then x.rows - 1 else min (x.rows - 1) ((a - x.base) / x.pitch)
    let c := a - x.base - r * x.pitch
    if c < x.rb then some (r * x.rb + c) else none

/-- The addresses of the blocks of a size that rows touch: for each row, its first byte and the first byte of each later block. -/
def Rows.marks (x : Rows) (size : Nat) : List Nat :=
  (List.range x.rows).flatMap (fun r =>
    let a := x.base + r * x.pitch
    a :: ((List.range ((a + x.rb - 1) / size - a / size)).map (fun k => (a / size + k + 1) * size)))

/-! ### Bytes on their way -/

/-- One byte that an engine writes: its address, its value, and whether a source of it was poisoned. -/
structure EByte where
  addr : Nat
  val : Byte
  pois : Bool
  deriving DecidableEq, Repr

/-- The sectors (address / 32) that bytes touch, each once. -/
def touched (ws : List EByte) : List Nat := (ws.map (fun w => w.addr / 32)).dedup

/-- The sectors among them that receive poison. -/
def poisonedOf (ws : List EByte) : List Nat := (touched ws).filter (fun k => ws.any (fun w => w.addr / 32 == k && w.pois))

/-- The sectors that the bytes cover whole, all from sources without poison (R178). -/
def cleansedOf (ws : List EByte) : List Nat :=
  (touched ws).filter (fun k => !ws.any (fun w => w.addr / 32 == k && w.pois) &&
    (List.range 32).all (fun o => ws.any (fun w => w.addr == 32 * k + o)))

/-- An engine of a core writes bytes of device memory; `clean` lists the sectors whose poison its operation clears (R178, R206). -/
def State.engineDpa (s : State) (core pasid : Nat) (ws : List EByte) (clean : List Nat) : State :=
  let s := s.writeThrough core pasid (ws.map (fun w => (w.addr, w.val)))
  let s := (poisonedOf ws).foldl (fun s k => s.markSector (clusterOf core) true k) s
  clean.foldl (fun s k => s.markSector (clusterOf core) false k) s

/-- A part of an engine operation's bytes reaches SCRATCH: the sectors whose poison the operation has cleared, and the granules that
have received its last byte (R168, R178). -/
def State.scratchPart (s : State) (aid : Nat) (ws : List EByte) (clean full : List Nat) : State :=
  let s := s.modAlloc aid (fun al =>
    let al := al.putAll (ws.map (fun w => (w.addr, w.val)))
    { al with pois := (poisonedOf ws).foldl setInsert (al.pois.filter (fun k => !clean.contains k)) })
  full.foldl (fun s g => s.fillGranule aid g) s

/-- An engine writes bytes of SCRATCH as one operation: poison, and granules set full (R168, R178). -/
def State.engineScratch (s : State) (aid : Nat) (ws : List EByte) : State :=
  s.scratchPart aid ws (cleansedOf ws) (granulesOf (ws.map (fun w => w.addr)))

/-! ### Pages and peers -/

/-- What keeps an engine from its accesses: a page, or sectors of peers. -/
inductive Need where
  | page (va : Nat) (write : Bool)
  | sectors (ns : List (Nat × Target))
  deriving DecidableEq, Repr

/-- The first of some accesses (address, write) whose page an engine cannot use yet. -/
def State.missing (s : State) (unit pasid : Nat) (as : List (Nat × Bool)) : Option (Nat × Bool) :=
  as.find? (fun e => s.xlate unit pasid e.1 e.2 = .miss)

/-- What an owner still needs before some accesses. -/
def State.engineNeed (s : State) (owner unit pasid : Nat) (as : List (Nat × Bool)) : Option Need :=
  match s.missing unit pasid as with
  | some e => some (.page e.1 e.2)
  | none =>
    match s.peerNeeds owner unit pasid ((as.filter (fun e => !e.2)).map (fun e => e.1)) with
    | [] => none
    | ns => some (.sectors ns)

/-- Asks for what an owner needs. -/
def State.supply (s : State) (owner unit jid : Nat) : Need → State
  | .page va w => s.askX unit (s.job jid).pasid va w
  | .sectors ns => s.askSectors owner unit jid ns

/-- The page that an owner waits for. -/
def Need.page? : Need → Option (Nat × Bool)
  | .page va w => some (va, w)
  | .sectors _ => none

/-- A byte of global memory as an engine reads it at home (R205), or as it was fetched from a peer, with its sector's poison. -/
def State.engineRead (s : State) (owner unit pasid va : Nat) : Byte × Bool :=
  match s.xlate unit pasid va false with
  | .hit (.peer _ _) =>
    match s.fetchOf owner (va / 32) with
    | some f => (f.bytes.getD (va % 32) 0#8, f.pois)
    | none => (0#8, false)
  | .hit t =>
    let (bs, p) := s.readT t 1
    (bs.getD 0 0#8, p)
  | .miss => (0#8, false)

/-- An engine's reads of global memory at home, of the sectors (VA / 32) that some addresses name (R171, R172). -/
def State.engineTouch (s : State) (unit pasid : Nat) (vas : List Nat) : State :=
  ((vas.map (fun va => va / 32)).dedup).foldl (fun s k => match s.xlate unit pasid (32 * k) false with
    | .hit (.dpa a) => s.l2Touch pasid (a / 128) [a % 128 / 32] false
    | _ => s) s

/-- Bytes in runs of consecutive addresses within a sector, and whether a source of each run was poisoned. -/
def pieces : List EByte → List (Nat × List Byte × Bool)
  | [] => []
  | w :: ws =>
    match pieces ws with
    | (a, bs, p) :: r =>
      if a = w.addr + 1 ∧ a % 32 ≠ 0 then (w.addr, w.val :: bs, w.pois || p) :: r else (w.addr, [w.val], w.pois) :: (a, bs, p) :: r
    | [] => [(w.addr, [w.val], w.pois)]

/-- The write requests to peers that an engine's bytes make (R206, R312): target, VA, bytes, and whether their sector receives
poison (R177). -/
def State.peerWrites (s : State) (core pasid : Nat) (ws : List EByte) : List (Target × Nat × List Byte × Bool) :=
  (pieces (ws.filter (fun w => match s.xlate core pasid w.addr true with | .hit (.peer _ _) => true | _ => false))).filterMap (fun p =>
    match s.xlate core pasid p.1 true with
    | .hit t => some (t, p.1, p.2)
    | .miss => none)

/-- Whether writes of an owner to peers are still to be acknowledged. -/
def State.peerOwes (s : State) (owner : Nat) : Bool :=
  s.links.any (fun d => d.2.open_.any (fun q => q.uid == 0 && q.pend == owner && !q.ret))

/-- An engine operation as the requests of it to peers name it (R282): its number, core, job, WAVE and TEAM. -/
structure Owner where
  id : Nat
  core : Nat
  job : Nat
  wave : Word
  team : Word
  deriving DecidableEq, Repr

/-- An engine writes a part of its operation's bytes at virtual addresses, and publishes the lines on its core's boards (R206); `clean`
lists the sectors (VA / 32) whose poison the operation clears. -/
def State.enginePart (s : State) (o : Owner) (ws : List EByte) (clean : List Nat) : State :=
  let pasid := (s.job o.job).pasid
  let sends := s.peerWrites o.core pasid ws
  let dpa : List EByte := ws.filterMap (fun w => match s.xlate o.core pasid w.addr true with
    | .hit (.dpa a) => some { w with addr := a }
    | _ => none)
  let host : List (Nat × Byte) := ws.filterMap (fun w => match s.xlate o.core pasid w.addr true with
    | .hit (.host a) => some (a, w.val)
    | _ => none)
  let clean := clean.filterMap (fun k => match s.xlate o.core pasid (32 * k) true with
    | .hit (.dpa a) => some (a / 32)
    | _ => none)
  let s := s.engineDpa o.core pasid dpa clean
  let s := { s with hostMem := host.foldl (fun (m : Memory) (e : Nat × Byte) => Memory.write m e.1 e.2) s.hostMem }
  let s := sends.foldl (fun s e => match e.1 with
    | .peer m a => s.sendPeer m { engineReq (.write a e.2.2.1 (if e.2.2.2 then [a / 32] else [])) o.id o.core o.job e.2.1 false with wave := o.wave, team := o.team }
    | _ => s) s
  s.enginePublish o.core ((dpa.map (fun w => w.addr / 128)).dedup)

/-- The record of an access that the device refuses to an engine of a wave, in the violation logs (R283). -/
def State.logEngine (s : State) (core slot jid : Nat) (h : HaltAt) (cause : Word) (addr : Nat) : State :=
  match s.wave? core slot with
  | some w => if (s.team w.tid).job = jid then s.logViolation (s.job jid).vi (s.faultRecord core slot w h cause addr []) else s
  | none => s

/-- The record of an access that the device refuses to staging, in the violation logs (R283): the PC and the TAG are the closure's (R280,
R282); no wave has them yet, so that WAVE, TEAM and EXM are 0. -/
def State.logStaging (s : State) (core jid : Nat) (closure : List Word) (cause : Word) (addr : Nat) : State :=
  let j := s.job jid
  let ck := (s.stack (stackOf core)).ck
  s.logViolation j.vi (wordsWith 32
    [(0, BitVec.ofNat 32 (hdrTag (closure.getD 0 0#32))), (4, cause), (5, lo32 addr), (6, hi32 addr), (7, closure.getD 1 0#32),
     (10, BitVec.ofNat 32 core), (12, BitVec.ofNat 32 j.num), (14, lo32 ck), (15, hi32 ck)])

/-- An engine operation of a wave, as its requests name it. -/
def State.owner (s : State) (id core slot tid : Nat) : Owner :=
  let t := s.team tid
  { id := id, core := core, job := t.job, team := BitVec.ofNat 32 t.num,
    wave := ((s.wave? core slot).map (fun w => waveWord t slot w)).getD 0#32 }

end Sys2Proof.Machine
end

