-- ==== Sys2Proof/Machine/Cursor.lean ====
section
/-!
DEFINITION. Cursors and their streams (R231 to R237, R242, R243): images, element reads, survivors, and the parts of a split (R247).
-/

namespace Sys2Proof.Machine

/-- A stream of a cursor, in the fields of the image (R243): local, encoding, base, position, byte offset, end, previous index
and whether it is valid, next bitmap bit. In EXPAND, stream A has positions, and B is the row pointers: row, RP[row + 1], row
count. -/
structure Strm where
  loc : Bool
  enc : Nat
  base : Nat
  pos : Nat
  off : Nat
  fin : Nat
  last : Nat
  has : Bool
  bit : Nat
  deriving DecidableEq, Repr

/-- A cursor's state (R243). -/
structure Cur where
  mode : Nat
  vsza : Nat
  vszb : Nat
  a : Strm
  b : Strm
  j : Nat
  k : Nat
  cnt : Nat
  deriving DecidableEq, Repr

/-- The cursor of an image (R243). -/
def curOf (img : List Word) : Cur :=
  let w (k : Nat) : Word := img.getD k 0#32
  let n (k : Nat) : Nat := (w k).toNat
  { mode := wbits (w 0) 31 30, vsza := wbits (w 0) 23 21, vszb := wbits (w 0) 20 18,
    a := { loc := (w 0).getLsbD 29, enc := wbits (w 0) 27 26, base := pair (w 1) (w 2), pos := n 3, off := n 4, fin := n 5,
           last := n 6, has := (w 0).getLsbD 5, bit := wbits (w 0) 17 12 },
    b := { loc := (w 0).getLsbD 28, enc := wbits (w 0) 25 24, base := pair (w 7) (w 8), pos := n 9, off := n 10, fin := n 11,
           last := n 12, has := (w 0).getLsbD 4, bit := wbits (w 0) 11 6 },
    j := wbits (w 13) 31 16, k := wbits (w 13) 15 0, cnt := n 14 }

/-- 1 or 0. -/
def bitNat (b : Bool) : Nat := if b then 1 else 0

/-- The image of a cursor (R243). -/
def Cur.image (c : Cur) : List Word :=
  let w0 := c.mode * 2 ^ 30 + bitNat c.a.loc * 2 ^ 29 + bitNat c.b.loc * 2 ^ 28 + c.a.enc * 2 ^ 26 + c.b.enc * 2 ^ 24 +
    c.vsza * 2 ^ 21 + c.vszb * 2 ^ 18 + c.a.bit * 2 ^ 12 + c.b.bit * 2 ^ 6 + bitNat c.a.has * 32 + bitNat c.b.has * 16
  [BitVec.ofNat 32 w0, lo32 c.a.base, hi32 c.a.base, lo32 c.a.pos, lo32 c.a.off, lo32 c.a.fin, lo32 c.a.last,
    lo32 c.b.base, hi32 c.b.base, lo32 c.b.pos, lo32 c.b.off, lo32 c.b.fin, lo32 c.b.last,
    BitVec.ofNat 32 (c.j * 2 ^ 16 + c.k), lo32 c.cnt, 0#32]

/-! ### Checks -/

/-- The word index of the first failing check of a descriptor (R232). -/
def descriptorFault (expand : Bool) (d : List Word) : Option Nat :=
  let w (k : Nat) : Word := d.getD k 0#32
  let enc := wbits (w 3) 1 0
  let idx := wbits (w 3) 8 6
  let rk := (w 3).getLsbD 11
  let len := (w 2).toNat
  if (enc = 0 ∨ enc = 2) ∧ (w 0).toNat % 4 ≠ 0 then some 0
  else if (w 3).getLsbD 9 ∧ w 1 ≠ 0#32 then some 1
  else if (enc = 0 ∧ 0x3FFFFFFF < len) ∨ (enc = 2 ∧ 357913941 < len) then some 2
  else if wbits (w 3) 31 12 ≠ 0 ∨ wbits (w 3) 5 2 ≠ 0 ∨ 5 < idx ∨ enc = 3 ∨ (expand ∧ enc ≠ 0) ∨ (!expand ∧ rk) then some 3
  else if (w 3).getLsbD 10 ∧ w 5 ≠ 0#32 then some 5
  else if (if expand then (w 6).toNat % 4 ≠ 0 else w 6 ≠ 0#32) then some 6
  else if (if expand then rk ∧ w 7 ≠ 0#32 else w 7 ≠ 0#32) then some 7
  else none

/-- The first address of an extent of `n` bytes that lies outside R157 or the allocation, with its DET (R232, R245). -/
def streamBeyond (loc : Bool) (bytes base n : Nat) : Option (Nat × Nat) :=
  if n = 0 then none
  else if loc then (if bytes < base + n then some (max base bytes, 2) else none)
  else if 2 ^ 57 < base + n then some (max base (2 ^ 57), 1) else none

/-- The stream that a descriptor opens (R239). -/
def openStream (d : List Word) : Strm :=
  let w (k : Nat) : Word := d.getD k 0#32
  let enc := wbits (w 3) 1 0
  let len := (w 2).toNat
  { loc := (w 3).getLsbD 9, enc := enc, base := pair (w 0) (w 1), pos := 0, off := 0,
    fin := if enc = 0 then 4 * len else if enc = 1 then len else 12 * len, last := 0, has := false, bit := 0 }

/-- The row-pointer stream that a descriptor opens (R239). -/
def openRows (d : List Word) : Strm :=
  let w (k : Nat) : Word := d.getD k 0#32
  { loc := (w 3).getLsbD 11, enc := 0, base := pair (w 6) (w 7), pos := 0, off := 0, fin := (w 2).toNat, last := 0,
    has := false, bit := 0 }

/-- VSZ of a descriptor (R231). -/
def descriptorSize (d : List Word) : Nat := wbits (d.getD 3 0#32) 8 6

/-- The cursor that CXOPEN opens (R239); the EXPAND positions are still to be read. -/
def openCur (mode : Nat) (da db : List Word) : Cur :=
  if mode = 2 then
    { mode := 2, vsza := descriptorSize da, vszb := 0, a := { openStream da with fin := 0 }, b := openRows da, j := 0, k := 1, cnt := 0 }
  else
    { mode := mode, vsza := descriptorSize da, vszb := descriptorSize db, a := openStream da, b := openStream db, j := 0, k := 1, cnt := 0 }

/-- The violation row of R232 for one descriptor: index extent or row pointers, then the value base. -/
def descriptorBeyond (expand : Bool) (bytes : Nat) (d : List Word) : Option (Nat × Nat) :=
  let w (k : Nat) : Word := d.getD k 0#32
  let x := openStream d
  let r := openRows d
  (if expand then streamBeyond r.loc bytes r.base (4 * (r.fin + 1)) else streamBeyond x.loc bytes x.base x.fin).or
    (streamBeyond ((w 3).getLsbD 10) bytes (pair (w 4) (w 5)) 1)

/-- The first failing word of an image (R245). Of a check that compares words, the one that holds the position or the offset is named: word 4
or 10 for AOFF or BOFF, 3 for APOS, 9 for BPOS. R245 does not say which, and this is the model's choice (assumption 40). -/
def imageFault (img : List Word) : Option Nat :=
  let w (k : Nat) : Word := img.getD k 0#32
  let c := curOf img
  let expand := c.mode = 2
  if wbits (w 0) 3 0 ≠ 0 ∨ c.mode = 3 ∨ c.a.enc = 3 ∨ c.b.enc = 3 ∨ 5 < c.vsza ∨ 5 < c.vszb ∨ (c.a.bit ≠ 0 ∧ c.a.enc ≠ 2) ∨
      (c.b.bit ≠ 0 ∧ c.b.enc ≠ 2) ∨
      (expand ∧ (c.a.enc ≠ 0 ∨ c.b.enc ≠ 0 ∨ c.vszb ≠ 0 ∨ c.a.has ∨ c.b.has)) then some 0
  else if expand ∧ c.a.fin < c.a.pos then some 3
  else if (if expand then c.a.off ≠ 0 else c.a.fin < c.a.off) then some 4
  else if expand ∧ c.a.last ≠ 0 then some 6
  else if expand ∧ c.b.fin ≤ c.b.pos ∧ c.a.pos < c.a.fin then some 9
  else if !expand ∧ c.b.fin < c.b.off then some 10
  else if expand ∧ c.b.last ≠ 0 then some 12
  else if c.k ≤ c.j then some 13
  else if w 15 ≠ 0#32 then some 15
  else none

/-- The extents of an image (R245). -/
def imageBeyond (bytes : Nat) (img : List Word) : Option (Nat × Nat) :=
  let c := curOf img
  if c.mode = 2 then
    (streamBeyond c.a.loc bytes c.a.base (4 * c.a.fin)).or (streamBeyond c.b.loc bytes c.b.base (4 * (c.b.fin + 1)))
  else (streamBeyond c.a.loc bytes c.a.base c.a.fin).or (streamBeyond c.b.loc bytes c.b.base c.b.fin)

/-! ### Reads -/

/-- Why a Bramble operation stops: a page that waits, a poisoned sector, or a malformed element with its detail, its stream and
the cursor that stands at it (R248, R249). -/
inductive CurStop where
  | miss (va : Nat)
  | poison (addr : Nat)
  | bad (detail stream : Nat) (c : Cur)
  deriving DecidableEq, Repr

/-- Where streams are read: the core's translations, the PASID, the allocation (R249). -/
structure CurEnv where
  s : State
  core : Nat
  pasid : Nat
  aid : Nat
  /-- The operation that reads, as what it fetches from peers is kept for it. -/
  owner : Nat := 0

/-- `n` bytes at an address of a stream, as a number; a sector of a peer that is not there yet is missed as a page is (R312). -/
def CurEnv.read (e : CurEnv) (loc : Bool) (a n : Nat) : Except CurStop (List Byte) :=
  if loc then
    match (e.s.alloc e.aid).poisonIn a n with
    | some sector => .error (.poison sector)
    | none => .ok ((e.s.alloc e.aid).bytesAt a n)
  else
    match e.s.engineNeed e.owner e.core e.pasid [(a, false), (a + n - 1, false)] with
    | some (.page va _) => .error (.miss va)
    | some (.sectors ns) => .error (.miss (32 * ((ns.head?).map (fun x => x.1)).getD 0))
    | none =>
      let bs := (List.range n).map (fun k => e.s.engineRead e.owner e.core e.pasid (a + k))
      match (List.range n).find? (fun k => (bs.getD k (0#8, false)).2) with
      | some k => .error (.poison ((a + k) / 32 * 32))
      | none => .ok (bs.map (fun b => b.1))

/-- A 32-bit word of a stream at a byte offset. -/
def CurEnv.word (e : CurEnv) (x : Strm) (off : Nat) : Except CurStop Nat := (e.read x.loc (x.base + off) 4).map bytesNat

/-- What stands at a stream's place (R233 to R236). -/
inductive Peek where
  | done
  | bad (detail : Nat)
  /-- A BMP64 block without a further set bit; `empty` when it has none at all (R242). -/
  | skip (next : Nat) (empty : Bool)
  /-- An element: its index, the offset and bit after it, and the index of the first element of its block (R247); an element of
  another encoding is its own block. -/
  | elem (idx nextOff nextBit first : Nat)
  deriving DecidableEq, Repr

/-- The lowest set bit of a bitmap at or above a bit. -/
def lowBit (bm : Nat) : Nat → Nat → Option Nat
  | 0, _ => none
  | fuel + 1, j => if bm / 2 ^ j % 2 = 1 then some j else lowBit bm fuel (j + 1)

/-- An element with its overflow and order checks, in the order of R236. -/
def Strm.checked (x : Strm) (idx nextOff nextBit first : Nat) : Peek :=
  if 2 ^ 32 ≤ idx then .bad 3 else if x.has && decide (idx ≤ x.last) then .bad 1 else .elem idx nextOff nextBit first

/-- An IDX32 element (R233). One of which fewer than four bytes lie before the end, as an edited image may have it, is reported as
truncated: the table of R236 names only the other encodings, and this is the model's choice (assumption 40). -/
def CurEnv.peekIdx (e : CurEnv) (x : Strm) : Except CurStop Peek :=
  if x.fin < x.off + 4 then .ok (.bad 2) else (e.word x x.off).map (fun i => x.checked i (x.off + 4) 0 i)

/-- A DLT8 element (R234). -/
def CurEnv.peekDlt (e : CurEnv) (x : Strm) : Except CurStop Peek :=
  match e.read x.loc (x.base + x.off) 1 with
  | .error z => .error z
  | .ok bs =>
    let b := bytesNat bs
    let i := (if x.has then x.last else 0) + b
    if b ≠ 255 then .ok (x.checked i (x.off + 1) 0 i)
    else if x.fin < x.off + 5 then .ok (.bad 2)
    else (e.word x (x.off + 1)).map (fun i => x.checked i (x.off + 5) 0 i)

/-- A BMP64 element (R235). AOFF is the byte offset of the stream's next element (R243), so the last set bit of a block takes the
stream to the next block. -/
def CurEnv.peekBmp (e : CurEnv) (x : Strm) : Except CurStop Peek :=
  if x.fin < x.off + 12 then .ok (.bad 2)
  else (e.read x.loc (x.base + x.off) 12).map (fun bs =>
    let bm := bytesNat (bs.drop 4)
    match lowBit bm (64 - x.bit) x.bit with
    | none => .skip (x.off + 12) (bm == 0)
    | some j =>
      let last := (lowBit bm (63 - j) (j + 1)).isNone
      let base := bytesNat (bs.take 4)
      x.checked (base + j) (if last then x.off + 12 else x.off) (if last then 0 else j + 1) (base + (lowBit bm 64 0).getD j))

/-- What stands at a stream's place (R236). -/
def CurEnv.peek (e : CurEnv) (x : Strm) : Except CurStop Peek :=
  if x.fin ≤ x.off then .ok .done
  else if x.enc = 0 then e.peekIdx x else if x.enc = 1 then e.peekDlt x else e.peekBmp x

/-- A stream whose element has been consumed (R240). -/
def Strm.eat (x : Strm) (idx off bit : Nat) : Strm := { x with pos := x.pos + 1, off := off, bit := bit, last := idx, has := true }

/-- A stream past a block. -/
def Strm.skip (x : Strm) (off : Nat) : Strm := { x with off := off, bit := 0 }

/-! ### Survivors -/

/-- What Survivor finds (R237): a survivor, the end or the step limit, or a malformed element. The cursor stands behind what it
has consumed; the counts are of the elements advanced on each stream (R242). -/
inductive Surv where
  | got (c : Cur) (na nb : Nat) (i q1 q2 : Nat) (inA inB : Bool)
  | stop (c : Cur) (na nb : Nat)
  | bad (c : Cur) (detail stream : Nat)
  deriving DecidableEq, Repr

/-- The index of an element. -/
def Peek.index : Peek → Option Nat
  | .elem i _ _ _ => some i
  | _ => none

/-- A stream that consumes what it stands at, when told to. -/
def Strm.take (x : Strm) (p : Peek) (yes : Bool) : Strm :=
  match p with
  | .elem i off bit _ => if yes then x.eat i off bit else x
  | _ => x

/-- One advance of a merge from what stands at both streams (R237, R242): a survivor, an end, or the cursor behind an element
that survives not. Where both stand at a malformed element, stream A is the one reported: R248 does not say which, and this is the model's
choice (assumption 40). -/
def Cur.advance (c : Cur) (na nb : Nat) (pa pb : Peek) : Surv ⊕ (Cur × Nat × Nat) :=
  let union := c.mode = 1
  if (pa = .done ∧ pb = .done) ∨ (¬ union ∧ (pa = .done ∨ pb = .done)) then .inl (.stop c na nb)
  else match pa, pb with
    | .bad d, _ => .inl (.bad c d 0)
    | _, .bad d => .inl (.bad c d 1)
    | _, _ =>
      let ta := match pa.index, pb.index with | some i, some k => decide (i ≤ k) | some _, none => true | none, _ => false
      let tb := match pa.index, pb.index with | some i, some k => decide (k ≤ i) | none, some _ => true | _, none => false
      let d := { c with a := c.a.take pa ta, b := c.b.take pb tb }
      let na' := na + bitNat ta
      let nb' := nb + bitNat tb
      if union ∨ (ta && tb) then
        .inl (.got d na' nb' (((if ta then pa.index else pb.index)).getD 0) (if ta then c.a.pos else 0xFFFFFFFF)
          (if tb then c.b.pos else 0xFFFFFFFF) ta tb)
      else .inr (d, na', nb')

/-- Whether a stream is at its end (R237, R243): no element lies inside it. -/
def Strm.ended (x : Strm) : Bool := decide (x.fin ≤ x.off)

/-- Done (R237): it reads nothing. -/
def Cur.done (c : Cur) : Bool :=
  if c.mode = 2 then decide (c.a.fin ≤ c.a.pos)
  else if c.mode = 1 then c.a.ended && c.b.ended
  else c.a.ended || c.b.ended

/-- The elements that a CXNEXT may advance each stream by (R242). -/
def advanceLimit : Nat := 256

/-- Survivor in INTERSECT and UNION (R237). A cursor that is done reads nothing, and neither does one of which a stream has
reached its limit: that stops the fill (R242). -/
def CurEnv.merge (e : CurEnv) : Nat → Cur → Nat → Nat → Except CurStop Surv
  | 0, c, na, nb => .ok (.stop c na nb)
  | fuel + 1, c, na, nb =>
    if c.done || decide (advanceLimit ≤ max na nb) then .ok (.stop c na nb)
    else match e.peek c.a with
    | .error z => .error z
    | .ok (.skip off empty) => CurEnv.merge e fuel { c with a := c.a.skip off } (na + bitNat empty) nb
    | .ok pa =>
      match e.peek c.b with
      | .error z => .error z
      | .ok (.skip off empty) => CurEnv.merge e fuel { c with b := c.b.skip off } na (nb + bitNat empty)
      | .ok pb =>
        match c.advance na nb pa pb with
        | .inl r => .ok r
        | .inr (d, na', nb') => CurEnv.merge e fuel d na' nb'

/-- Survivor in EXPAND (R237): rows that end at or before the position are passed, each with a row-pointer read. Where no row is left
though the end position is not reached, as an edited image or a row pointer that changed may have it, no row holds the position:
there is no survivor and Done is false, which is the model's choice (assumption 40). -/
def CurEnv.expand (e : CurEnv) : Nat → Cur → Nat → Nat → Except CurStop Surv
  | 0, c, na, nb => .ok (.stop c na nb)
  | fuel + 1, c, na, nb =>
    if c.done || decide (advanceLimit ≤ max na nb) then .ok (.stop c na nb)
    else if c.b.off ≤ c.a.pos then
      if c.b.fin ≤ c.b.pos + 1 then .ok (.stop c na nb)
      else match e.word c.b (4 * (c.b.pos + 2)) with
        | .error z => .error z
        | .ok r =>
          if r < c.b.off then .ok (.bad c 4 1)
          else CurEnv.expand e fuel { c with b := { c.b with pos := c.b.pos + 1, off := r } } na (nb + 1)
    else (e.word c.a (4 * c.a.pos)).map (fun i =>
      .got { c with a := { c.a with pos := c.a.pos + 1 } } (na + 1) nb i c.a.pos c.b.pos false false)

/-- Survivor (R237). -/
def CurEnv.survivor (e : CurEnv) (c : Cur) (na nb : Nat) : Except CurStop Surv :=
  if c.mode = 2 then e.expand 1024 c na nb else e.merge 1024 c na nb

/-- One filled lane: lane, index, first and second value, sides (R240). -/
structure Filled where
  lane : Nat
  idx : Nat
  v1 : Nat
  v2 : Nat
  inA : Bool
  inB : Bool
  deriving DecidableEq, Repr

/-- Off(q, z) (R240). -/
def offsetOf (q z : Nat) : Nat := if z = 0 ∨ q = 0xFFFFFFFF then q else q * 2 ^ (z - 1) % 2 ^ 32

/-- The fill of R240 over lanes: the cursor behind it, the filled lanes, and the malformed element that stopped it. -/
def CurEnv.fill (e : CurEnv) : List Nat → Cur → Nat → Nat → Except CurStop (Cur × List Filled × Option (Nat × Nat))
  | [], c, _, _ => .ok (c, [], none)
  | l :: ls, c, na, nb =>
    match e.survivor c na nb with
    | .error z => .error z
    | .ok (.stop d _ _) => .ok (d, [], none)
    | .ok (.bad d detail stream) => .ok (d, [], some (detail, stream))
    | .ok (.got d na' nb' i q1 q2 x y) =>
      (CurEnv.fill e ls d na' nb').map (fun r =>
        (r.1, ⟨l, i, offsetOf q1 c.vsza, if c.mode = 2 then q2 else offsetOf q2 c.vszb, x, y⟩ :: r.2.1, r.2.2))

/-! ### Opening and splitting -/

/-- The reads of CXOPEN.expand (R239): the cursor with its positions, or the malformed row pointer. -/
def CurEnv.openRows (e : CurEnv) (c : Cur) : Except CurStop Cur :=
  if c.b.fin = 0 then .ok c
  else
    match e.word c.b 0, e.word c.b 4, e.word c.b (4 * c.b.fin) with
    | .ok r0, .ok r1, .ok rl =>
      let d := { c with a := { c.a with pos := r0, fin := rl }, b := { c.b with off := r1 } }
      if rl < r0 ∨ r1 < r0 then .error (.bad 4 1 d) else .ok d
    | .error z, _, _ => .error z
    | _, .error z, _ => .error z
    | _, _, .error z => .error z

/-- A remaining element of a walked stream (R247): the stream as it stands before it, its index, and the index of the first element of
its block, which may have been consumed. -/
structure Walked where
  before : Strm
  idx : Nat
  first : Nat
  deriving DecidableEq, Repr

/-- The remaining elements of a stream, and the stream at its end (R247); `bad` wraps a malformed element. -/
def CurEnv.walk (e : CurEnv) (bad : Nat → Strm → CurStop) : Nat → Strm → Except CurStop (List Walked × Strm)
  | 0, x => .ok ([], x)
  | fuel + 1, x =>
    match e.peek x with
    | .error z => .error z
    | .ok .done => .ok ([], { x with off := x.fin, bit := 0 })
    | .ok (.bad d) => .error (bad d x)
    | .ok (.skip off _) => CurEnv.walk e bad fuel (x.skip off)
    | .ok (.elem i off bit first) => (CurEnv.walk e bad fuel (x.eat i off bit)).map (fun r => (⟨x, i, first⟩ :: r.1, r.2))

/-- The number of the first remaining element that is at least `t` (R247). -/
def firstAtLeast (xs : List Walked) (t : Nat) : Nat := xs.findIdx (fun e => decide (t ≤ e.idx))

/-- The least number from `lo` below `hi` that meets a test which its successors meet too, else `hi`: a search by halves (R247). -/
def bisect (test : Nat → Except CurStop Bool) : Nat → Nat → Nat → Except CurStop Nat
  | 0, _, hi => .ok hi
  | fuel + 1, lo, hi =>
    if hi ≤ lo then .ok hi
    else match test ((lo + hi) / 2) with
      | .error z => .error z
      | .ok true => bisect test fuel lo ((lo + hi) / 2)
      | .ok false => bisect test fuel ((lo + hi) / 2 + 1) hi

/-- The numbers that a search by halves tests. -/
def bisected (test : Nat → Except CurStop Bool) : Nat → Nat → Nat → List Nat
  | 0, _, _ => []
  | fuel + 1, lo, hi =>
    if hi ≤ lo then []
    else (lo + hi) / 2 :: (match test ((lo + hi) / 2) with
      | .error _ => []
      | .ok true => bisected test fuel lo ((lo + hi) / 2)
      | .ok false => bisected test fuel ((lo + hi) / 2 + 1) hi)

/-- A stream of a merge as CXSPLIT sees it (R247): its own state and how many elements remain; for DLT8 and BMP64, which are walked,
those elements and the stream at its end; and how a malformed element of it is reported, with the stream that stands at it. -/
structure SplitView where
  own : Strm
  count : Nat
  walked : Option (List Walked × Strm)
  bad : Nat → Strm → CurStop

/-- The view of a stream: IDX32 is searched, and the others are walked (R247). -/
def CurEnv.view (e : CurEnv) (bad : Nat → Strm → CurStop) (x : Strm) : Except CurStop SplitView :=
  if x.enc = 0 then .ok ⟨x, (x.fin - x.off) / 4, none, bad⟩
  else (e.walk bad (x.fin * 6 + 2) x).map (fun r => ⟨x, r.1.length, some r, bad⟩)

/-- An IDX32 stream with its first `m` remaining elements consumed: the word of the last of them is its previous index (R233, R243). -/
def CurEnv.passed (e : CurEnv) (x : Strm) (m : Nat) : Except CurStop Strm :=
  if m = 0 then .ok x
  else (e.word x (x.off + 4 * (m - 1))).map (fun i =>
    { x with pos := x.pos + m, off := x.off + 4 * m, last := i, has := true })

/-- The index of a remaining element of an IDX32 stream, checked against the element before it or the stream's previous index (R236,
R248). -/
def CurEnv.indexAt (e : CurEnv) (v : SplitView) (m : Nat) : Except CurStop Nat :=
  match e.passed v.own m with
  | .error z => .error z
  | .ok x =>
    match e.peekIdx x with
    | .error z => .error z
    | .ok (.elem i _ _ _) => .ok i
    | .ok (.bad d) => .error (v.bad d x)
    | .ok _ => .ok 0

/-- Whether a remaining element of an IDX32 stream is at least `t`. -/
def CurEnv.reaches (e : CurEnv) (v : SplitView) (t m : Nat) : Except CurStop Bool := (e.indexAt v m).map (fun i => decide (t ≤ i))

/-- The number of the first remaining element that is at least `t`, or of all (R247). -/
def CurEnv.search (e : CurEnv) (v : SplitView) (t : Nat) : Except CurStop Nat :=
  match v.walked with
  | some (xs, _) => .ok (firstAtLeast xs t)
  | none => bisect (e.reaches v t) 33 0 v.count

/-- A stream as it stands with its first `m` remaining elements consumed, under BMP64 at the start of a block; with all of them, the stream at its
end (R247). The last element that an IDX32 stream has consumed is read, and checked (R236). -/
def CurEnv.startAt (e : CurEnv) (v : SplitView) (m : Nat) : Except CurStop Strm :=
  if m = 0 ∧ 0 < v.count then .ok v.own
  else match v.walked with
    | some (xs, z) =>
      .ok (match xs[m]? with | some x => (if v.own.enc = 2 then { x.before with bit := 0 } else x.before) | none => z)
    | none => if m = 0 then .ok v.own else (e.indexAt v (m - 1)).bind (fun _ => e.passed v.own m)

/-- One pass of the repeat of R247 over a BMP64 stream: the first element of the whole block that holds its first remaining element at or
above `t`. -/
def SplitView.lower (v : SplitView) (t : Nat) : Nat :=
  match v.walked with
  | some (xs, _) => if v.own.enc = 2 then min t (((xs[firstAtLeast xs t]?).map Walked.first).getD t) else t
  | none => t

/-- The repeat of R247: block starts of both streams, until nothing changes. -/
def lowerBoth (va vb : SplitView) : Nat → Nat → Nat
  | 0, t => t
  | fuel + 1, t => if vb.lower (va.lower t) = t then t else lowerBoth va vb fuel (vb.lower (va.lower t))

/-- An index beyond every element. -/
def beyondAll : Nat := 2 ^ 40

/-- The index at element `m` of A, under BMP64 that of the start of its block; beyond every element when `m` is its end (R247). -/
def CurEnv.boundary (e : CurEnv) (v : SplitView) (m : Nat) : Except CurStop Nat :=
  if v.count ≤ m then .ok beyondAll
  else match v.walked with
    | some (xs, _) => .ok (((xs[m]?).map Walked.first).getD 0)
    | none => e.indexAt v m

/-- The boundaries 1 to `n` of a merge (R247): their index, and the element of A. -/
def CurEnv.bounds (e : CurEnv) (va vb : SplitView) (k : Nat) : Nat → Except CurStop (List (Nat × Nat))
  | 0 => .ok []
  | n + 1 =>
    match CurEnv.bounds e va vb k n with
    | .error z => .error z
    | .ok ts =>
      let m := (n + 1) * va.count / k
      match e.boundary va m with
      | .error z => .error z
      | .ok t =>
        if va.own.enc = 2 ∨ vb.own.enc = 2 then
          let u := max (lowerBoth va vb (2 * (va.count + vb.count) + 2) t) (((ts.getLast?).map (fun x => x.1)).getD 0)
          (e.search va u).map (fun a => ts ++ [(u, a)])
        else .ok (ts ++ [(t, m)])

/-- The streams at some boundaries (R247). -/
def CurEnv.starts (e : CurEnv) (v : SplitView) : List Nat → Except CurStop (List Strm)
  | [] => .ok []
  | m :: ms =>
    match e.startAt v m, CurEnv.starts e v ms with
    | .ok x, .ok xs => .ok (x :: xs)
    | .error z, _ => .error z
    | _, .error z => .error z

/-- The elements of B at some boundaries (R247). -/
def CurEnv.searches (e : CurEnv) (v : SplitView) : List Nat → Except CurStop (List Nat)
  | [] => .ok []
  | t :: ts =>
    match e.search v t, CurEnv.searches e v ts with
    | .ok m, .ok ms => .ok (m :: ms)
    | .error z, _ => .error z
    | _, .error z => .error z

/-- Part `j` of a merge (R247): each stream from one boundary to the next, and the last to its end. -/
def mergePart (c : Cur) (k : Nat) (ba bb : List Strm) (j : Nat) : Cur :=
  let fin (x : Strm) (bs : List Strm) : Nat := ((bs[j + 1]?).map (fun b => b.off)).getD x.fin
  { c with a := { ba.getD j c.a with fin := fin c.a ba }, b := { bb.getD j c.b with fin := fin c.b bb }, j := j, k := k, cnt := 0 }

/-- The parts of an INTERSECT or UNION cursor (R247; assumption 29). -/
def CurEnv.splitMerge (e : CurEnv) (c : Cur) (k : Nat) : Except CurStop (List Cur) :=
  match e.view (fun d x => .bad d 0 { c with a := x }) c.a, e.view (fun d x => .bad d 1 { c with b := x }) c.b with
  | .error z, _ => .error z
  | _, .error z => .error z
  | .ok va, .ok vb =>
    match e.bounds va vb k (k - 1) with
    | .error z => .error z
    | .ok ts =>
      match e.searches vb (ts.map (fun x => x.1)) with
      | .error z => .error z
      | .ok ms =>
        match e.starts va (ts.map (fun x => x.2)), e.starts vb ms with
        | .ok ba, .ok bb => .ok ((List.range k).map (mergePart c k (c.a :: ba) (c.b :: bb)))
        | .error z, _ => .error z
        | _, .error z => .error z

/-- The row pointer that ends a row; the cursor holds that of its own row (R243, R247). One that is read is checked against the one
before it, and the cursor that stands at a malformed one is at the end of the row before (R236, R248; assumption 29). -/
def CurEnv.rowEnd (e : CurEnv) (c : Cur) (r : Nat) : Except CurStop Nat :=
  if r ≤ c.b.pos then .ok c.b.off
  else match if r = c.b.pos + 1 then .ok c.b.off else e.word c.b (4 * r), e.word c.b (4 * (r + 1)) with
    | .ok x, .ok y =>
      if y < x then
        .error (.bad 4 1 { c with a := { c.a with pos := min c.a.fin (max c.a.pos x) }, b := { c.b with pos := r - 1, off := x } })
      else .ok y
    | .error z, _ => .error z
    | _, .error z => .error z

/-- Whether a row ends behind a position. -/
def CurEnv.rowBeyond (e : CurEnv) (c : Cur) (p r : Nat) : Except CurStop Bool := (e.rowEnd c r).map (fun x => decide (p < x))

/-- The row that holds a position, from the cursor's row on, with the next row's pointer: a search (R247; assumption 29). -/
def CurEnv.rowOf (e : CurEnv) (c : Cur) (p : Nat) : Except CurStop (Nat × Nat) :=
  match bisect (e.rowBeyond c p) 33 c.b.pos (c.b.fin - 1) with
  | .error z => .error z
  | .ok r => (e.rowEnd c r).map (fun x => (r, x))

/-- Part `j` of an EXPAND cursor (R247). -/
def CurEnv.expandPart (e : CurEnv) (c : Cur) (k j : Nat) : Except CurStop Cur :=
  let n := c.a.fin - c.a.pos
  let lo := c.a.pos + j * n / k
  let hi := c.a.pos + (j + 1) * n / k
  let part (r off : Nat) : Cur :=
    { c with a := { c.a with pos := lo, fin := hi }, b := { c.b with pos := r, off := off }, j := j, k := k, cnt := 0 }
  if lo = hi then .ok (part c.b.pos c.b.off)
  else (e.rowOf c lo).map (fun r => part r.1 r.2)

/-- The parts of a cursor (R247). -/
def CurEnv.split (e : CurEnv) (c : Cur) (k : Nat) : Except CurStop (List Cur) :=
  if c.mode = 2 then
    (List.range k).foldl (fun acc j =>
      match acc with
      | .error z => .error z
      | .ok ps => (e.expandPart c k j).map (fun p => ps ++ [p])) (.ok [])
  else e.splitMerge c k

/-! ### What a split reads -/

/-- The addresses of global memory at which the remaining elements of an IDX32 stream stand, each with the one before it, against which it
is checked (R236). -/
def SplitView.elemVas (v : SplitView) (ms : List Nat) : List Nat :=
  ms.flatMap (fun m => if m < v.count then (if m = 0 then [] else [v.own.base + v.own.off + 4 * (m - 1)]) ++ [v.own.base + v.own.off + 4 * m] else [])

/-- The addresses that CXSPLIT reads of one stream in global memory (R247): all that remains of one that it walks; of one that it searches,
the elements that the search for each of some indexes tests, with the elements of some numbers. -/
def CurEnv.viewVas (e : CurEnv) (v : SplitView) (ts ms : List Nat) : List Nat :=
  if v.own.loc then []
  else if v.walked.isSome then (List.range (v.own.fin - v.own.off)).map (fun k => v.own.base + v.own.off + k)
  else v.elemVas (ts.flatMap (fun t => bisected (e.reaches v t) 33 0 v.count) ++ ms)

/-- The addresses of global memory that CXSPLIT reads of a cursor's streams (R247). -/
def CurEnv.splitVas (e : CurEnv) (c : Cur) (k : Nat) : List Nat :=
  if c.mode = 2 then
    if c.b.loc then []
    else (List.range k).flatMap (fun j =>
      let lo := c.a.pos + j * (c.a.fin - c.a.pos) / k
      if lo = c.a.pos + (j + 1) * (c.a.fin - c.a.pos) / k then []
      else ((bisected (e.rowBeyond c lo) 33 c.b.pos (c.b.fin - 1)).filter (fun r => decide (c.b.pos < r))).flatMap (fun r =>
        [c.b.base + 4 * r, c.b.base + 4 * (r + 1)]))
  else
    match e.view (fun d x => .bad d 0 { c with a := x }) c.a, e.view (fun d x => .bad d 1 { c with b := x }) c.b with
    | .ok va, .ok vb =>
      match e.bounds va vb k (k - 1) with
      | .ok ts =>
        let index := ts.map (fun x => x.1)
        e.viewVas va (if vb.own.enc = 2 then index else []) (((List.range k).map (fun j => j * va.count / k)) ++ ts.flatMap (fun x => [x.2 - 1, x.2])) ++
          e.viewVas vb index []
      | .error _ => []
    | _, _ => []

end Sys2Proof.Machine
end

