-- ==== Sys2Proof/WellFormed.lean ====
section
/-!
DEFINITION. Which instruction words of the right field widths are instructions: the reserved sub-field values, register
groups and pairs of R43, R64, R80, R91, R107, R109, R113, R143, R145, R197, R209 and R238. A word that fails here raises the
illegal-instruction fault by decode (R106, R113). The steps of the device and of the host have no word.
-/

namespace Sys2Proof

/-- The base of a register pair is even (R43). -/
def evenReg (r : Reg) : Bool := r.toNat % 2 == 0

/-- The base of a register quad is a multiple of 4 (R43). -/
def quadReg (r : Reg) : Bool := r.toNat % 4 == 0

/-- A group of `k` registers from `r` ends at or before register 63 (R43, R209). -/
def groupFits (r : Reg) (k : Nat) : Bool := r.toNat + k ≤ 64

/-- The vector group of a load or store of size code `z` (R372): 7 is reserved, 5 takes a pair, 6 a quad. -/
def sizeGroup (z : BitVec 3) (d : Reg) : Bool :=
  if z.toNat = 7 then false else if z.toNat = 5 then evenReg d else if z.toNat = 6 then quadReg d else true

/-- The group of a granule access: b32, or b128 with a quad (R378, R428). -/
def granuleGroup (z : BitVec 1) (d : Reg) : Bool := if z.toNat = 1 then quadReg d else true

/-- A scope code other than 7 (R109, R197). -/
def scopeOk (s : BitVec 3) : Bool := s.toNat != 7

/-- The two predicates of a compare differ, or both are p0 (R109, R449). -/
def predPair (p q : PReg) : Bool := p != q || p.toNat == 0

/-- The conversion codes of R143 for major 0x2C. -/
def cvtF32Code (k : BitVec 6) : Bool := k.toNat != 7 && k.toNat < 48

/-- The conversion codes of R145 for majors 0x2D and 0x2E. -/
def cvtPackedCode (k : BitVec 6) : Bool := k.toNat < 5

/-- The operations of an atomic (R328): codes 11 to 15 are reserved, and cas (10) takes a pair of data registers. -/
def atomFn (f : BitVec 4) (data : Reg) : Bool := f.toNat < 10 || (f.toNat == 10 && evenReg data)

/-- Whether the fields of an instruction form one: true for every step that has no word. -/
def Instr.wf : Instr → Bool
  | .fence s | .acq s | .rel s => scopeOk s
  | .rdvi _ p => p.toNat < 24
  | .rdva p => p.toNat < 24
  | .rdvw p => p.toNat < 24
  | .tend a => evenReg a
  | .ret a => evenReg a
  | .jmp a => evenReg a
  | .lds _ a _ => evenReg a
  | .sts _ a _ => evenReg a
  | .ldacq _ a s _ => evenReg a && scopeOk s
  | .strel _ a s _ => evenReg a && scopeOk s
  | .atoms _ a b s f => evenReg a && scopeOk s && atomFn f b
  | .switch a _ n => a.toNat + n.toNat < 64
  | .fnew a _ u => evenReg a && u.toNat != 7
  | .fjoin a b => evenReg a && evenReg b
  | .fwait d a => evenReg d && evenReg a
  | .fput a b => evenReg a && evenReg b
  | .copy a => groupFits a 8
  | .copyM a b _ _ => groupFits a 8 && groupFits b 8
  | .mma a _ _ => groupFits a 8
  | .mmaMc a _ _ _ => groupFits a 8
  | .accld a _ _ => groupFits a 4
  | .accst a _ _ => groupFits a 4
  | .cxopenIntersect a b _ => groupFits a 8 && groupFits b 8
  | .cxopenUnion a b _ => groupFits a 8 && groupFits b 8
  | .cxopenExpand a _ => groupFits a 8
  | .cxnext v _ _ _ => groupFits v 3
  | .cxloadS a _ => groupFits a 16
  | .vcmpInt p q _ _ _ k => predPair p q && k.toNat < 12
  | .vcmpImm p q _ _ _ k => predPair p q && k.toNat < 12
  | .vcmpF32 p q _ _ _ k => predPair p q && k.toNat < 14
  | .vfcvtF32 _ _ k _ => cvtF32Code k
  | .vfcvtF16x2 _ _ k _ => cvtPackedCode k
  | .vfcvtBf16x2 _ _ k _ => cvtPackedCode k
  | .ld d a _ _ _ z => evenReg a && sizeGroup z d
  | .st d a _ _ _ z => evenReg a && sizeGroup z d
  | .ldl d _ _ _ z => sizeGroup z d
  | .stl d _ _ _ z => sizeGroup z d
  | .ldlW d _ _ _ z => granuleGroup z d
  | .ldlWc d _ _ _ z => granuleGroup z d
  | .stlFill d _ _ _ z => granuleGroup z d
  | .atom d a _ _ f => evenReg a && atomFn f d
  | .atoml d _ _ _ f => atomFn f d
  | .pref a _ _ f => evenReg a && f.toNat < 3
  | .nop
  | .exit
  | .trap _
  | .brk _
  | .preoff _
  | .preon
  | .getc _ _
  | .setc _ _
  | .drain _
  | .smap _ _
  | .sunmap _
  | .mqcfg _
  | .ptake
  | .ppass _
  | .ppassFree
  | .merge
  | .cwait _
  | .sadd _ _ _
  | .ssub _ _ _
  | .smul _ _ _
  | .smulh _ _ _ _
  | .sand _ _ _
  | .sor _ _ _
  | .sxor _ _ _
  | .sandn _ _ _
  | .sshl _ _ _
  | .sshr _ _ _ _
  | .ssra _ _ _
  | .smin _ _ _ _
  | .smax _ _ _ _
  | .ssel _ _ _
  | .scmp _ _ _ _
  | .sdiv _ _ _ _ _
  | .sbfx _ _ _ _
  | .sbfi _ _ _
  | .sclz _ _
  | .spopc _ _
  | .smov _ _
  | .sxget _ _
  | .sxset _ _
  | .maskp _ _
  | .pmask _ _
  | .vote _ _ _
  | .saddImm _ _ _
  | .sandImm _ _ _
  | .sorImm _ _ _
  | .sxorImm _ _ _
  | .sshlImm _ _ _
  | .sshrImm _ _ _
  | .ssraImm _ _ _
  | .scmpImm _ _ _ _
  | .smovi _ _
  | .slih _ _
  | .bra _
  | .call _
  | .bz _ _
  | .bnz _ _
  | .bany _ _ _
  | .ball _ _ _
  | .bnone _ _ _
  | .split _ _
  | .spawnS _
  | .spawnL _
  | .accz _
  | .cxsplit _ _ _
  | .cxsave _ _
  | .cxload _ _
  | .cxclose _
  | .vadd _ _ _ _
  | .vsub _ _ _ _
  | .vmul _ _ _ _
  | .vmulhI _ _ _ _
  | .vand _ _ _ _
  | .vor _ _ _ _
  | .vxor _ _ _ _
  | .vandn _ _ _ _
  | .vshl _ _ _ _
  | .vshr _ _ _ _
  | .vsra _ _ _ _
  | .vminI _ _ _ _
  | .vmaxI _ _ _ _
  | .vsel _ _ _ _
  | .vmov _ _ _
  | .vbcast _ _ _
  | .vminN _ _ _ _
  | .vmaxN _ _ _ _
  | .vmulhN _ _ _ _
  | .vbfxI _ _ _ _
  | .vbfxN _ _ _ _
  | .vbfi _ _ _ _
  | .vclz _ _ _
  | .vpopc _ _ _
  | .vbrev _ _ _
  | .vlaneid _ _
  | .vmad _ _ _ _ _
  | .vaddImm _ _ _
  | .vandImm _ _ _
  | .vorImm _ _ _
  | .vxorImm _ _ _
  | .vshlImm _ _ _
  | .vshrImm _ _ _
  | .vsraImm _ _ _
  | .vmovImm _ _
  | .vfaddF32 _ _ _ _
  | .vfsubF32 _ _ _ _
  | .vfmulF32 _ _ _ _
  | .vfminF32 _ _ _ _
  | .vfmaxF32 _ _ _ _
  | .vfdiv _ _ _ _
  | .vfsqrt _ _ _
  | .vrcp _ _ _
  | .vrsq _ _ _
  | .vexp2 _ _ _
  | .vlog2 _ _ _
  | .vsin _ _ _
  | .vcos _ _ _
  | .vtanh _ _ _
  | .vfclassF32 _ _ _
  | .vfaddF16x2 _ _ _ _
  | .vfsubF16x2 _ _ _ _
  | .vfmulF16x2 _ _ _ _
  | .vfminF16x2 _ _ _ _
  | .vfmaxF16x2 _ _ _ _
  | .vfclassF16x2 _ _ _
  | .vfaddBf16x2 _ _ _ _
  | .vfsubBf16x2 _ _ _ _
  | .vfmulBf16x2 _ _ _ _
  | .vfminBf16x2 _ _ _ _
  | .vfmaxBf16x2 _ _ _ _
  | .vfclassBf16x2 _ _ _
  | .vfmaF32 _ _ _ _ _
  | .vfmaF16x2 _ _ _ _ _
  | .vfmaBf16x2 _ _ _ _ _
  | .pand _ _ _ _
  | .por _ _ _ _
  | .pxor _ _ _ _
  | .pnot _ _ _
  | .shflIdx _ _ _ _
  | .shflUp _ _ _ _
  | .shflDown _ _ _ _
  | .shflXor _ _ _ _
  | .shflBcast _ _ _ _
  | .vred _ _ _ _
  | .vscan _ _ _ _
  | .eventWrite _
  | .resultArrival _ _ _
  | .missStatusRetry _
  | .futureDelivery
  | .errorDelivery
  | .messageArrival _ _
  | .taskDispatch _
  | .steal _
  | .stagingStart _
  | .stagingComplete _
  | .tileWritebackComplete _ _
  | .copyStart _
  | .copyCompletion _
  | .matrixOpStart _
  | .matrixOpEnd _
  | .brambleOpStart _
  | .mmaMcWindowLapse _
  | .teamPlacement _
  | .rootClosurePush _
  | .switchOut _ _
  | .switchIn _ _
  | .preoffWindowExpiry _ _
  | .periodStart _
  | .budgetExhausted _
  | .jobEnd _
  | .sweepVisit _
  | .sweepTest _
  | .testResult _ _
  | .drainmaxExpiry _
  | .coreGated _
  | .sqdbWrite _ _
  | .sqblWrite _ _
  | .eqblWrite _ _
  | .vipasWrite _ _
  | .registerWrite _ _ _
  | .launch _
  | .createContract _
  | .destroyContract _
  | .drainJob _
  | .cmdUndefined _
  | .graftRead _
  | .regraft _
  | .capRead _
  | .capFence _
  | .capRetest _
  | .sweepSet _
  | .migrate _
  | .migrateEnd _
  | .groupSet _
  | .powerSetClockStep _
  | .powerSetGate _
  | .powerSetHbmRefresh _
  | .alarmSet _
  | .viSet _
  | .attest _
  | .moduleReset _
  | .stackReset _
  | .clusterReset _
  | .mevtClear _
  | .inventory
  | .sensors
  | .i3cPower _ _ _
  | .i3cAttest _
  | .status
  | .i3cReset
  | .fwWrite _ _
  | .fwCommit _
  | .i3cUnknownCommand _
  | .translationCompletion _ _ _ _
  | .pageResponse _ _ _ _
  | .invalidateRequest _ _ _
  | .peerRequest _ _ _
  | .linkAck _ _ _
  | .retransmit _ _
  | .currentAlarmHigh _
  | .currentAlarmLow _
  | .illegalInstruction _
  | .brambleOpEnd _
  | .lineEviction _ _ _
  | .numvfsWrite _
  | .dynamicAddressAssignment _ => true

end Sys2Proof
end

