-- ==== Sys2Proof/Decode.lean ====
section
/-!
DEFINITION. Decoding instruction words (R98, R107 to R113) from bytes, and the encoder written from the same encodings.
Bit [31] is the chain bit C; it is no part of the instruction and is read by `chainBit`.
-/

namespace Sys2Proof

/-- Why bytes are no instruction: each becomes the illegal-instruction fault of R113 when an arm reaches the word. -/
inductive Reject where
  /-- Fewer than four bytes stand there. -/
  | truncated
  /-- The major opcode is unassigned: 0x1C to 0x1F, 0x3C to 0x3F (R110, R113). -/
  | reservedMajor
  /-- No row of the major has these function bits, or an unused bit is set (R107, R113). -/
  | noFunction
  /-- A sub-field value, a register pair or a register group is reserved (R43, R113). -/
  | reservedOperand
  deriving DecidableEq, Repr

/-- Bits [lo + n - 1 : lo] of a word, as a number (R1). -/
def bitsAt (w lo n : Nat) : Nat := w / 2 ^ lo % 2 ^ n

/-- Bits [lo + n - 1 : lo] of a word, as a field (R108). -/
def fieldAt (w lo n : Nat) : BitVec n := BitVec.ofNat n (bitsAt w lo n)

/-- The chain bit C at [31] (R98, R103). -/
def chainBit (w : Nat) : Bool := bitsAt w 31 1 == 1

/-- Major opcode 0x00 (R110, R111). -/
def decodeMajor00 (w : Nat) : Option Instr :=
  if bitsAt w 0 25 = 0 then some .nop else
  if bitsAt w 0 25 = 524288 then some .exit else
  if bitsAt w 13 12 = 128 then some (.trap (fieldAt w 0 13)) else
  if bitsAt w 13 12 = 192 then some (.brk (fieldAt w 0 13)) else
  if bitsAt w 19 6 = 4 ∧ bitsAt w 0 13 = 0 then some (.preoff (fieldAt w 13 6)) else
  if bitsAt w 0 25 = 2621440 then some .preon else
  if bitsAt w 19 6 = 6 then some (.getc (fieldAt w 13 6) (fieldAt w 0 13)) else
  if bitsAt w 19 6 = 7 then some (.setc (fieldAt w 13 6) (fieldAt w 0 13)) else
  if bitsAt w 3 22 = 524288 then some (.fence (fieldAt w 0 3)) else
  if bitsAt w 3 22 = 589824 then some (.acq (fieldAt w 0 3)) else
  if bitsAt w 3 22 = 655360 then some (.rel (fieldAt w 0 3)) else
  if bitsAt w 13 12 = 704 then some (.drain (fieldAt w 0 13)) else
  if bitsAt w 19 6 = 12 ∧ bitsAt w 5 8 = 0 then some (.rdvi (fieldAt w 13 6) (fieldAt w 0 5)) else
  if bitsAt w 5 20 = 212992 then some (.rdva (fieldAt w 0 5)) else
  if bitsAt w 5 20 = 229376 then some (.rdvw (fieldAt w 0 5)) else
  if bitsAt w 8 17 = 30720 then some (.smap (fieldAt w 2 6) (fieldAt w 0 2)) else
  if bitsAt w 2 23 = 2097152 then some (.sunmap (fieldAt w 0 2)) else
  if bitsAt w 1 24 = 4456448 then some (.mqcfg (fieldAt w 0 1)) else
  if bitsAt w 19 6 = 18 ∧ bitsAt w 0 13 = 0 then some (.tend (fieldAt w 13 6)) else
  if bitsAt w 0 25 = 9961472 then some .ptake else
  if bitsAt w 19 6 = 20 ∧ bitsAt w 0 13 = 0 then some (.ppass (fieldAt w 13 6)) else
  if bitsAt w 0 25 = 10485761 then some .ppassFree else
  if bitsAt w 19 6 = 21 ∧ bitsAt w 0 13 = 0 then some (.ret (fieldAt w 13 6)) else
  if bitsAt w 19 6 = 22 ∧ bitsAt w 0 13 = 0 then some (.jmp (fieldAt w 13 6)) else
  if bitsAt w 0 25 = 12058624 then some .merge else
  if bitsAt w 19 6 = 24 ∧ bitsAt w 0 13 = 0 then some (.cwait (fieldAt w 13 6)) else
  none

/-- Major opcode 0x01 (R110, R111). -/
def decodeMajor01 (w : Nat) : Option Instr :=
  if bitsAt w 0 7 = 0 then some (.sadd (fieldAt w 19 6) (fieldAt w 13 6) (fieldAt w 7 6)) else
  if bitsAt w 0 7 = 1 then some (.ssub (fieldAt w 19 6) (fieldAt w 13 6) (fieldAt w 7 6)) else
  if bitsAt w 0 7 = 2 then some (.smul (fieldAt w 19 6) (fieldAt w 13 6) (fieldAt w 7 6)) else
  if bitsAt w 5 2 = 0 ∧ bitsAt w 0 4 = 3 then some (.smulh (fieldAt w 19 6) (fieldAt w 13 6) (fieldAt w 7 6) (fieldAt w 4 1)) else
  if bitsAt w 0 7 = 4 then some (.sand (fieldAt w 19 6) (fieldAt w 13 6) (fieldAt w 7 6)) else
  if bitsAt w 0 7 = 5 then some (.sor (fieldAt w 19 6) (fieldAt w 13 6) (fieldAt w 7 6)) else
  if bitsAt w 0 7 = 6 then some (.sxor (fieldAt w 19 6) (fieldAt w 13 6) (fieldAt w 7 6)) else
  if bitsAt w 0 7 = 7 then some (.sandn (fieldAt w 19 6) (fieldAt w 13 6) (fieldAt w 7 6)) else
  if bitsAt w 0 7 = 8 then some (.sshl (fieldAt w 19 6) (fieldAt w 13 6) (fieldAt w 7 6)) else
  if bitsAt w 5 2 = 0 ∧ bitsAt w 0 4 = 9 then some (.sshr (fieldAt w 19 6) (fieldAt w 13 6) (fieldAt w 7 6) (fieldAt w 4 1)) else
  if bitsAt w 0 7 = 10 then some (.ssra (fieldAt w 19 6) (fieldAt w 13 6) (fieldAt w 7 6)) else
  if bitsAt w 5 2 = 0 ∧ bitsAt w 0 4 = 11 then some (.smin (fieldAt w 19 6) (fieldAt w 13 6) (fieldAt w 7 6) (fieldAt w 4 1)) else
  if bitsAt w 5 2 = 0 ∧ bitsAt w 0 4 = 12 then some (.smax (fieldAt w 19 6) (fieldAt w 13 6) (fieldAt w 7 6) (fieldAt w 4 1)) else
  if bitsAt w 0 7 = 13 then some (.ssel (fieldAt w 19 6) (fieldAt w 13 6) (fieldAt w 7 6)) else
  if bitsAt w 0 4 = 14 then some (.scmp (fieldAt w 19 6) (fieldAt w 13 6) (fieldAt w 7 6) (fieldAt w 4 3)) else
  if bitsAt w 6 1 = 0 ∧ bitsAt w 0 4 = 15 then some (.sdiv (fieldAt w 19 6) (fieldAt w 13 6) (fieldAt w 7 6) (fieldAt w 5 1) (fieldAt w 4 1)) else
  none

/-- Major opcode 0x02 (R110, R111). -/
def decodeMajor02 (w : Nat) : Option Instr :=
  if bitsAt w 5 2 = 0 ∧ bitsAt w 0 4 = 0 then some (.sbfx (fieldAt w 19 6) (fieldAt w 13 6) (fieldAt w 7 6) (fieldAt w 4 1)) else
  if bitsAt w 0 7 = 1 then some (.sbfi (fieldAt w 19 6) (fieldAt w 13 6) (fieldAt w 7 6)) else
  if bitsAt w 0 13 = 2 then some (.sclz (fieldAt w 19 6) (fieldAt w 13 6)) else
  if bitsAt w 0 13 = 3 then some (.spopc (fieldAt w 19 6) (fieldAt w 13 6)) else
  if bitsAt w 0 13 = 4 then some (.smov (fieldAt w 19 6) (fieldAt w 13 6)) else
  if bitsAt w 0 13 = 5 then some (.sxget (fieldAt w 19 6) (fieldAt w 13 6)) else
  if bitsAt w 19 6 = 0 ∧ bitsAt w 0 7 = 6 then some (.sxset (fieldAt w 13 6) (fieldAt w 7 6)) else
  if bitsAt w 16 3 = 0 ∧ bitsAt w 0 13 = 7 then some (.maskp (fieldAt w 19 6) (fieldAt w 13 3)) else
  if bitsAt w 22 3 = 0 ∧ bitsAt w 0 13 = 8 then some (.pmask (fieldAt w 19 3) (fieldAt w 13 6)) else
  if bitsAt w 16 3 = 0 ∧ bitsAt w 6 7 = 0 ∧ bitsAt w 0 4 = 9 then some (.vote (fieldAt w 19 6) (fieldAt w 13 3) (fieldAt w 4 2)) else
  none

/-- Major opcode 0x03 (R110, R111). -/
def decodeMajor03 (w : Nat) : Option Instr :=
  some (.saddImm (fieldAt w 19 6) (fieldAt w 13 6) (fieldAt w 0 13))

/-- Major opcode 0x04 (R110, R111). -/
def decodeMajor04 (w : Nat) : Option Instr :=
  some (.sandImm (fieldAt w 19 6) (fieldAt w 13 6) (fieldAt w 0 13))

/-- Major opcode 0x05 (R110, R111). -/
def decodeMajor05 (w : Nat) : Option Instr :=
  some (.sorImm (fieldAt w 19 6) (fieldAt w 13 6) (fieldAt w 0 13))

/-- Major opcode 0x06 (R110, R111). -/
def decodeMajor06 (w : Nat) : Option Instr :=
  some (.sxorImm (fieldAt w 19 6) (fieldAt w 13 6) (fieldAt w 0 13))

/-- Major opcode 0x07 (R110, R111). -/
def decodeMajor07 (w : Nat) : Option Instr :=
  if bitsAt w 6 7 = 0 then some (.sshlImm (fieldAt w 19 6) (fieldAt w 13 6) (fieldAt w 0 6)) else
  if bitsAt w 6 7 = 32 then some (.sshrImm (fieldAt w 19 6) (fieldAt w 13 6) (fieldAt w 0 6)) else
  if bitsAt w 6 7 = 64 then some (.ssraImm (fieldAt w 19 6) (fieldAt w 13 6) (fieldAt w 0 6)) else
  none

/-- Major opcode 0x08 (R110, R111). -/
def decodeMajor08 (w : Nat) : Option Instr :=
  some (.scmpImm (fieldAt w 19 6) (fieldAt w 13 6) (fieldAt w 10 3) (fieldAt w 0 10))

/-- Major opcode 0x09 (R110, R111). -/
def decodeMajor09 (w : Nat) : Option Instr :=
  some (.smovi (fieldAt w 19 6) (fieldAt w 0 19))

/-- Major opcode 0x0A (R110, R111). -/
def decodeMajor0A (w : Nat) : Option Instr :=
  if bitsAt w 13 6 = 0 then some (.slih (fieldAt w 19 6) (fieldAt w 0 13)) else
  none

/-- Major opcode 0x0B (R110, R111). -/
def decodeMajor0B (w : Nat) : Option Instr :=
  some (.lds (fieldAt w 19 6) (fieldAt w 13 6) (fieldAt w 0 13))

/-- Major opcode 0x0C (R110, R111). -/
def decodeMajor0C (w : Nat) : Option Instr :=
  some (.sts (fieldAt w 19 6) (fieldAt w 13 6) (fieldAt w 0 13))

/-- Major opcode 0x0D (R110, R111). -/
def decodeMajor0D (w : Nat) : Option Instr :=
  some (.ldacq (fieldAt w 19 6) (fieldAt w 13 6) (fieldAt w 10 3) (fieldAt w 0 10))

/-- Major opcode 0x0E (R110, R111). -/
def decodeMajor0E (w : Nat) : Option Instr :=
  some (.strel (fieldAt w 19 6) (fieldAt w 13 6) (fieldAt w 10 3) (fieldAt w 0 10))

/-- Major opcode 0x0F (R110, R111). -/
def decodeMajor0F (w : Nat) : Option Instr :=
  some (.atoms (fieldAt w 19 6) (fieldAt w 13 6) (fieldAt w 7 6) (fieldAt w 4 3) (fieldAt w 0 4))

/-- Major opcode 0x10 (R110, R111). -/
def decodeMajor10 (w : Nat) : Option Instr :=
  some (.bra (fieldAt w 0 25))

/-- Major opcode 0x11 (R110, R111). -/
def decodeMajor11 (w : Nat) : Option Instr :=
  some (.call (fieldAt w 0 25))

/-- Major opcode 0x12 (R110, R111). -/
def decodeMajor12 (w : Nat) : Option Instr :=
  if bitsAt w 16 3 = 0 then some (.bz (fieldAt w 19 6) (fieldAt w 0 16)) else
  none

/-- Major opcode 0x13 (R110, R111). -/
def decodeMajor13 (w : Nat) : Option Instr :=
  if bitsAt w 16 3 = 0 then some (.bnz (fieldAt w 19 6) (fieldAt w 0 16)) else
  none

/-- Major opcode 0x14 (R110, R111). -/
def decodeMajor14 (w : Nat) : Option Instr :=
  if bitsAt w 22 3 = 0 ∧ bitsAt w 17 2 = 0 then some (.bany (fieldAt w 19 3) (fieldAt w 16 1) (fieldAt w 0 16)) else
  none

/-- Major opcode 0x15 (R110, R111). -/
def decodeMajor15 (w : Nat) : Option Instr :=
  if bitsAt w 22 3 = 0 ∧ bitsAt w 17 2 = 0 then some (.ball (fieldAt w 19 3) (fieldAt w 16 1) (fieldAt w 0 16)) else
  none

/-- Major opcode 0x16 (R110, R111). -/
def decodeMajor16 (w : Nat) : Option Instr :=
  if bitsAt w 22 3 = 0 ∧ bitsAt w 17 2 = 0 then some (.bnone (fieldAt w 19 3) (fieldAt w 16 1) (fieldAt w 0 16)) else
  none

/-- Major opcode 0x17 (R110, R111). -/
def decodeMajor17 (w : Nat) : Option Instr :=
  if bitsAt w 22 3 = 0 ∧ bitsAt w 16 3 = 0 then some (.split (fieldAt w 19 3) (fieldAt w 0 16)) else
  none

/-- Major opcode 0x18 (R110, R111). -/
def decodeMajor18 (w : Nat) : Option Instr :=
  if bitsAt w 0 10 = 0 then some (.switch (fieldAt w 19 6) (fieldAt w 13 6) (fieldAt w 10 3)) else
  none

/-- Major opcode 0x19 (R110, R111). -/
def decodeMajor19 (w : Nat) : Option Instr :=
  if bitsAt w 20 5 = 0 ∧ bitsAt w 0 19 = 0 then some (.spawnS (fieldAt w 19 1)) else
  if bitsAt w 20 5 = 1 ∧ bitsAt w 0 14 = 0 then some (.spawnL (fieldAt w 14 6)) else
  none

/-- Major opcode 0x1A (R110, R111). -/
def decodeMajor1A (w : Nat) : Option Instr :=
  if bitsAt w 19 6 = 0 ∧ bitsAt w 0 4 = 0 then some (.fnew (fieldAt w 13 6) (fieldAt w 7 6) (fieldAt w 4 3)) else
  if bitsAt w 19 6 = 0 ∧ bitsAt w 0 7 = 1 then some (.fjoin (fieldAt w 13 6) (fieldAt w 7 6)) else
  if bitsAt w 0 13 = 2 then some (.fwait (fieldAt w 19 6) (fieldAt w 13 6)) else
  if bitsAt w 19 6 = 0 ∧ bitsAt w 0 7 = 3 then some (.fput (fieldAt w 13 6) (fieldAt w 7 6)) else
  none

/-- Major opcode 0x1B (R110, R111). -/
def decodeMajor1B (w : Nat) : Option Instr :=
  if bitsAt w 20 5 = 0 ∧ bitsAt w 0 14 = 0 then some (.copy (fieldAt w 14 6)) else
  if bitsAt w 20 5 = 0 ∧ bitsAt w 3 2 = 1 then some (.copyM (fieldAt w 14 6) (fieldAt w 8 6) (fieldAt w 5 3) (fieldAt w 0 3)) else
  if bitsAt w 20 5 = 4 ∧ bitsAt w 8 6 = 0 ∧ bitsAt w 3 2 = 0 then some (.mma (fieldAt w 14 6) (fieldAt w 5 3) (fieldAt w 0 3)) else
  if bitsAt w 20 5 = 4 ∧ bitsAt w 3 2 = 1 then some (.mmaMc (fieldAt w 14 6) (fieldAt w 8 6) (fieldAt w 5 3) (fieldAt w 0 3)) else
  if bitsAt w 3 22 = 655360 then some (.accz (fieldAt w 0 3)) else
  if bitsAt w 20 5 = 6 ∧ bitsAt w 8 6 = 0 ∧ bitsAt w 3 2 = 0 then some (.accld (fieldAt w 14 6) (fieldAt w 5 3) (fieldAt w 0 3)) else
  if bitsAt w 20 5 = 7 ∧ bitsAt w 8 6 = 0 ∧ bitsAt w 3 2 = 0 then some (.accst (fieldAt w 14 6) (fieldAt w 5 3) (fieldAt w 0 3)) else
  if bitsAt w 20 5 = 8 ∧ bitsAt w 2 6 = 0 then some (.cxopenIntersect (fieldAt w 14 6) (fieldAt w 8 6) (fieldAt w 0 2)) else
  if bitsAt w 20 5 = 8 ∧ bitsAt w 2 6 = 8 then some (.cxopenUnion (fieldAt w 14 6) (fieldAt w 8 6) (fieldAt w 0 2)) else
  if bitsAt w 20 5 = 8 ∧ bitsAt w 2 12 = 16 then some (.cxopenExpand (fieldAt w 14 6) (fieldAt w 0 2)) else
  if bitsAt w 20 5 = 9 ∧ bitsAt w 2 3 = 0 then some (.cxnext (fieldAt w 14 6) (fieldAt w 8 6) (fieldAt w 5 3) (fieldAt w 0 2)) else
  if bitsAt w 20 5 = 10 ∧ bitsAt w 2 6 = 0 then some (.cxsplit (fieldAt w 14 6) (fieldAt w 8 6) (fieldAt w 0 2)) else
  if bitsAt w 20 5 = 11 ∧ bitsAt w 2 12 = 0 then some (.cxsave (fieldAt w 14 6) (fieldAt w 0 2)) else
  if bitsAt w 20 5 = 12 ∧ bitsAt w 2 12 = 0 then some (.cxload (fieldAt w 14 6) (fieldAt w 0 2)) else
  if bitsAt w 20 5 = 12 ∧ bitsAt w 2 12 = 8 then some (.cxloadS (fieldAt w 14 6) (fieldAt w 0 2)) else
  if bitsAt w 2 23 = 3407872 then some (.cxclose (fieldAt w 0 2)) else
  none

/-- Major opcode 0x20 (R110, R111). -/
def decodeMajor20 (w : Nat) : Option Instr :=
  if bitsAt w 0 4 = 0 then some (.vadd (fieldAt w 19 6) (fieldAt w 13 6) (fieldAt w 7 6) (fieldAt w 4 3)) else
  if bitsAt w 0 4 = 1 then some (.vsub (fieldAt w 19 6) (fieldAt w 13 6) (fieldAt w 7 6) (fieldAt w 4 3)) else
  if bitsAt w 0 4 = 2 then some (.vmul (fieldAt w 19 6) (fieldAt w 13 6) (fieldAt w 7 6) (fieldAt w 4 3)) else
  if bitsAt w 0 4 = 3 then some (.vmulhI (fieldAt w 19 6) (fieldAt w 13 6) (fieldAt w 7 6) (fieldAt w 4 3)) else
  if bitsAt w 0 4 = 4 then some (.vand (fieldAt w 19 6) (fieldAt w 13 6) (fieldAt w 7 6) (fieldAt w 4 3)) else
  if bitsAt w 0 4 = 5 then some (.vor (fieldAt w 19 6) (fieldAt w 13 6) (fieldAt w 7 6) (fieldAt w 4 3)) else
  if bitsAt w 0 4 = 6 then some (.vxor (fieldAt w 19 6) (fieldAt w 13 6) (fieldAt w 7 6) (fieldAt w 4 3)) else
  if bitsAt w 0 4 = 7 then some (.vandn (fieldAt w 19 6) (fieldAt w 13 6) (fieldAt w 7 6) (fieldAt w 4 3)) else
  if bitsAt w 0 4 = 8 then some (.vshl (fieldAt w 19 6) (fieldAt w 13 6) (fieldAt w 7 6) (fieldAt w 4 3)) else
  if bitsAt w 0 4 = 9 then some (.vshr (fieldAt w 19 6) (fieldAt w 13 6) (fieldAt w 7 6) (fieldAt w 4 3)) else
  if bitsAt w 0 4 = 10 then some (.vsra (fieldAt w 19 6) (fieldAt w 13 6) (fieldAt w 7 6) (fieldAt w 4 3)) else
  if bitsAt w 0 4 = 11 then some (.vminI (fieldAt w 19 6) (fieldAt w 13 6) (fieldAt w 7 6) (fieldAt w 4 3)) else
  if bitsAt w 0 4 = 12 then some (.vmaxI (fieldAt w 19 6) (fieldAt w 13 6) (fieldAt w 7 6) (fieldAt w 4 3)) else
  if bitsAt w 0 4 = 13 then some (.vsel (fieldAt w 19 6) (fieldAt w 13 6) (fieldAt w 7 6) (fieldAt w 4 3)) else
  if bitsAt w 7 6 = 0 ∧ bitsAt w 0 4 = 14 then some (.vmov (fieldAt w 19 6) (fieldAt w 13 6) (fieldAt w 4 3)) else
  if bitsAt w 7 6 = 0 ∧ bitsAt w 0 4 = 15 then some (.vbcast (fieldAt w 19 6) (fieldAt w 13 6) (fieldAt w 4 3)) else
  none

/-- Major opcode 0x21 (R110, R111). -/
def decodeMajor21 (w : Nat) : Option Instr :=
  if bitsAt w 0 4 = 0 then some (.vminN (fieldAt w 19 6) (fieldAt w 13 6) (fieldAt w 7 6) (fieldAt w 4 3)) else
  if bitsAt w 0 4 = 1 then some (.vmaxN (fieldAt w 19 6) (fieldAt w 13 6) (fieldAt w 7 6) (fieldAt w 4 3)) else
  if bitsAt w 0 4 = 2 then some (.vmulhN (fieldAt w 19 6) (fieldAt w 13 6) (fieldAt w 7 6) (fieldAt w 4 3)) else
  if bitsAt w 0 4 = 3 then some (.vbfxI (fieldAt w 19 6) (fieldAt w 13 6) (fieldAt w 7 6) (fieldAt w 4 3)) else
  if bitsAt w 0 4 = 4 then some (.vbfxN (fieldAt w 19 6) (fieldAt w 13 6) (fieldAt w 7 6) (fieldAt w 4 3)) else
  if bitsAt w 0 4 = 5 then some (.vbfi (fieldAt w 19 6) (fieldAt w 13 6) (fieldAt w 7 6) (fieldAt w 4 3)) else
  if bitsAt w 7 6 = 0 ∧ bitsAt w 0 4 = 6 then some (.vclz (fieldAt w 19 6) (fieldAt w 13 6) (fieldAt w 4 3)) else
  if bitsAt w 7 6 = 0 ∧ bitsAt w 0 4 = 7 then some (.vpopc (fieldAt w 19 6) (fieldAt w 13 6) (fieldAt w 4 3)) else
  if bitsAt w 7 6 = 0 ∧ bitsAt w 0 4 = 8 then some (.vbrev (fieldAt w 19 6) (fieldAt w 13 6) (fieldAt w 4 3)) else
  if bitsAt w 7 12 = 0 ∧ bitsAt w 0 4 = 9 then some (.vlaneid (fieldAt w 19 6) (fieldAt w 4 3)) else
  none

/-- Major opcode 0x22 (R110, R111). -/
def decodeMajor22 (w : Nat) : Option Instr :=
  some (.vmad (fieldAt w 19 6) (fieldAt w 13 6) (fieldAt w 7 6) (fieldAt w 1 6) (fieldAt w 0 1))

/-- Major opcode 0x23 (R110, R111). -/
def decodeMajor23 (w : Nat) : Option Instr :=
  some (.vaddImm (fieldAt w 19 6) (fieldAt w 13 6) (fieldAt w 0 13))

/-- Major opcode 0x24 (R110, R111). -/
def decodeMajor24 (w : Nat) : Option Instr :=
  some (.vandImm (fieldAt w 19 6) (fieldAt w 13 6) (fieldAt w 0 13))

/-- Major opcode 0x25 (R110, R111). -/
def decodeMajor25 (w : Nat) : Option Instr :=
  some (.vorImm (fieldAt w 19 6) (fieldAt w 13 6) (fieldAt w 0 13))

/-- Major opcode 0x26 (R110, R111). -/
def decodeMajor26 (w : Nat) : Option Instr :=
  some (.vxorImm (fieldAt w 19 6) (fieldAt w 13 6) (fieldAt w 0 13))

/-- Major opcode 0x27 (R110, R111). -/
def decodeMajor27 (w : Nat) : Option Instr :=
  if bitsAt w 6 7 = 0 then some (.vshlImm (fieldAt w 19 6) (fieldAt w 13 6) (fieldAt w 0 6)) else
  if bitsAt w 6 7 = 32 then some (.vshrImm (fieldAt w 19 6) (fieldAt w 13 6) (fieldAt w 0 6)) else
  if bitsAt w 6 7 = 64 then some (.vsraImm (fieldAt w 19 6) (fieldAt w 13 6) (fieldAt w 0 6)) else
  none

/-- Major opcode 0x28 (R110, R111). -/
def decodeMajor28 (w : Nat) : Option Instr :=
  if bitsAt w 13 6 = 0 then some (.vmovImm (fieldAt w 19 6) (fieldAt w 0 13)) else
  none

/-- Major opcode 0x29 (R110, R111). -/
def decodeMajor29 (w : Nat) : Option Instr :=
  some (.vcmpInt (fieldAt w 22 3) (fieldAt w 19 3) (fieldAt w 13 6) (fieldAt w 7 6) (fieldAt w 4 3) (fieldAt w 0 4))

/-- Major opcode 0x2A (R110, R111). -/
def decodeMajor2A (w : Nat) : Option Instr :=
  some (.vcmpImm (fieldAt w 22 3) (fieldAt w 19 3) (fieldAt w 13 6) (fieldAt w 7 6) (fieldAt w 4 3) (fieldAt w 0 4))

/-- Major opcode 0x2B (R110, R111). -/
def decodeMajor2B (w : Nat) : Option Instr :=
  some (.vcmpF32 (fieldAt w 22 3) (fieldAt w 19 3) (fieldAt w 13 6) (fieldAt w 7 6) (fieldAt w 4 3) (fieldAt w 0 4))

/-- Major opcode 0x2C (R110, R111). -/
def decodeMajor2C (w : Nat) : Option Instr :=
  if bitsAt w 0 4 = 0 then some (.vfaddF32 (fieldAt w 19 6) (fieldAt w 13 6) (fieldAt w 7 6) (fieldAt w 4 3)) else
  if bitsAt w 0 4 = 1 then some (.vfsubF32 (fieldAt w 19 6) (fieldAt w 13 6) (fieldAt w 7 6) (fieldAt w 4 3)) else
  if bitsAt w 0 4 = 2 then some (.vfmulF32 (fieldAt w 19 6) (fieldAt w 13 6) (fieldAt w 7 6) (fieldAt w 4 3)) else
  if bitsAt w 0 4 = 3 then some (.vfminF32 (fieldAt w 19 6) (fieldAt w 13 6) (fieldAt w 7 6) (fieldAt w 4 3)) else
  if bitsAt w 0 4 = 4 then some (.vfmaxF32 (fieldAt w 19 6) (fieldAt w 13 6) (fieldAt w 7 6) (fieldAt w 4 3)) else
  if bitsAt w 0 4 = 5 then some (.vfdiv (fieldAt w 19 6) (fieldAt w 13 6) (fieldAt w 7 6) (fieldAt w 4 3)) else
  if bitsAt w 7 6 = 0 ∧ bitsAt w 0 4 = 6 then some (.vfsqrt (fieldAt w 19 6) (fieldAt w 13 6) (fieldAt w 4 3)) else
  if bitsAt w 7 6 = 0 ∧ bitsAt w 0 4 = 7 then some (.vrcp (fieldAt w 19 6) (fieldAt w 13 6) (fieldAt w 4 3)) else
  if bitsAt w 7 6 = 0 ∧ bitsAt w 0 4 = 8 then some (.vrsq (fieldAt w 19 6) (fieldAt w 13 6) (fieldAt w 4 3)) else
  if bitsAt w 7 6 = 0 ∧ bitsAt w 0 4 = 9 then some (.vexp2 (fieldAt w 19 6) (fieldAt w 13 6) (fieldAt w 4 3)) else
  if bitsAt w 7 6 = 0 ∧ bitsAt w 0 4 = 10 then some (.vlog2 (fieldAt w 19 6) (fieldAt w 13 6) (fieldAt w 4 3)) else
  if bitsAt w 7 6 = 0 ∧ bitsAt w 0 4 = 11 then some (.vsin (fieldAt w 19 6) (fieldAt w 13 6) (fieldAt w 4 3)) else
  if bitsAt w 7 6 = 0 ∧ bitsAt w 0 4 = 12 then some (.vcos (fieldAt w 19 6) (fieldAt w 13 6) (fieldAt w 4 3)) else
  if bitsAt w 7 6 = 0 ∧ bitsAt w 0 4 = 13 then some (.vtanh (fieldAt w 19 6) (fieldAt w 13 6) (fieldAt w 4 3)) else
  if bitsAt w 7 6 = 0 ∧ bitsAt w 0 4 = 14 then some (.vfclassF32 (fieldAt w 19 6) (fieldAt w 13 6) (fieldAt w 4 3)) else
  if bitsAt w 0 4 = 15 then some (.vfcvtF32 (fieldAt w 19 6) (fieldAt w 13 6) (fieldAt w 7 6) (fieldAt w 4 3)) else
  none

/-- Major opcode 0x2D (R110, R111). -/
def decodeMajor2D (w : Nat) : Option Instr :=
  if bitsAt w 0 4 = 0 then some (.vfaddF16x2 (fieldAt w 19 6) (fieldAt w 13 6) (fieldAt w 7 6) (fieldAt w 4 3)) else
  if bitsAt w 0 4 = 1 then some (.vfsubF16x2 (fieldAt w 19 6) (fieldAt w 13 6) (fieldAt w 7 6) (fieldAt w 4 3)) else
  if bitsAt w 0 4 = 2 then some (.vfmulF16x2 (fieldAt w 19 6) (fieldAt w 13 6) (fieldAt w 7 6) (fieldAt w 4 3)) else
  if bitsAt w 0 4 = 3 then some (.vfminF16x2 (fieldAt w 19 6) (fieldAt w 13 6) (fieldAt w 7 6) (fieldAt w 4 3)) else
  if bitsAt w 0 4 = 4 then some (.vfmaxF16x2 (fieldAt w 19 6) (fieldAt w 13 6) (fieldAt w 7 6) (fieldAt w 4 3)) else
  if bitsAt w 7 6 = 0 ∧ bitsAt w 0 4 = 14 then some (.vfclassF16x2 (fieldAt w 19 6) (fieldAt w 13 6) (fieldAt w 4 3)) else
  if bitsAt w 0 4 = 15 then some (.vfcvtF16x2 (fieldAt w 19 6) (fieldAt w 13 6) (fieldAt w 7 6) (fieldAt w 4 3)) else
  none

/-- Major opcode 0x2E (R110, R111). -/
def decodeMajor2E (w : Nat) : Option Instr :=
  if bitsAt w 0 4 = 0 then some (.vfaddBf16x2 (fieldAt w 19 6) (fieldAt w 13 6) (fieldAt w 7 6) (fieldAt w 4 3)) else
  if bitsAt w 0 4 = 1 then some (.vfsubBf16x2 (fieldAt w 19 6) (fieldAt w 13 6) (fieldAt w 7 6) (fieldAt w 4 3)) else
  if bitsAt w 0 4 = 2 then some (.vfmulBf16x2 (fieldAt w 19 6) (fieldAt w 13 6) (fieldAt w 7 6) (fieldAt w 4 3)) else
  if bitsAt w 0 4 = 3 then some (.vfminBf16x2 (fieldAt w 19 6) (fieldAt w 13 6) (fieldAt w 7 6) (fieldAt w 4 3)) else
  if bitsAt w 0 4 = 4 then some (.vfmaxBf16x2 (fieldAt w 19 6) (fieldAt w 13 6) (fieldAt w 7 6) (fieldAt w 4 3)) else
  if bitsAt w 7 6 = 0 ∧ bitsAt w 0 4 = 14 then some (.vfclassBf16x2 (fieldAt w 19 6) (fieldAt w 13 6) (fieldAt w 4 3)) else
  if bitsAt w 0 4 = 15 then some (.vfcvtBf16x2 (fieldAt w 19 6) (fieldAt w 13 6) (fieldAt w 7 6) (fieldAt w 4 3)) else
  none

/-- Major opcode 0x2F (R110, R111). -/
def decodeMajor2F (w : Nat) : Option Instr :=
  some (.vfmaF32 (fieldAt w 19 6) (fieldAt w 13 6) (fieldAt w 7 6) (fieldAt w 1 6) (fieldAt w 0 1))

/-- Major opcode 0x30 (R110, R111). -/
def decodeMajor30 (w : Nat) : Option Instr :=
  some (.vfmaF16x2 (fieldAt w 19 6) (fieldAt w 13 6) (fieldAt w 7 6) (fieldAt w 1 6) (fieldAt w 0 1))

/-- Major opcode 0x31 (R110, R111). -/
def decodeMajor31 (w : Nat) : Option Instr :=
  some (.vfmaBf16x2 (fieldAt w 19 6) (fieldAt w 13 6) (fieldAt w 7 6) (fieldAt w 1 6) (fieldAt w 0 1))

/-- Major opcode 0x32 (R110, R111). -/
def decodeMajor32 (w : Nat) : Option Instr :=
  if bitsAt w 22 3 = 0 ∧ bitsAt w 16 3 = 0 ∧ bitsAt w 10 3 = 0 ∧ bitsAt w 0 4 = 0 then some (.pand (fieldAt w 19 3) (fieldAt w 13 3) (fieldAt w 7 3) (fieldAt w 4 3)) else
  if bitsAt w 22 3 = 0 ∧ bitsAt w 16 3 = 0 ∧ bitsAt w 10 3 = 0 ∧ bitsAt w 0 4 = 1 then some (.por (fieldAt w 19 3) (fieldAt w 13 3) (fieldAt w 7 3) (fieldAt w 4 3)) else
  if bitsAt w 22 3 = 0 ∧ bitsAt w 16 3 = 0 ∧ bitsAt w 10 3 = 0 ∧ bitsAt w 0 4 = 2 then some (.pxor (fieldAt w 19 3) (fieldAt w 13 3) (fieldAt w 7 3) (fieldAt w 4 3)) else
  if bitsAt w 22 3 = 0 ∧ bitsAt w 16 3 = 0 ∧ bitsAt w 7 6 = 0 ∧ bitsAt w 0 4 = 3 then some (.pnot (fieldAt w 19 3) (fieldAt w 13 3) (fieldAt w 4 3)) else
  none

/-- Major opcode 0x33 (R110, R111). -/
def decodeMajor33 (w : Nat) : Option Instr :=
  if bitsAt w 0 4 = 0 then some (.shflIdx (fieldAt w 19 6) (fieldAt w 13 6) (fieldAt w 7 6) (fieldAt w 4 3)) else
  if bitsAt w 0 4 = 1 then some (.shflUp (fieldAt w 19 6) (fieldAt w 13 6) (fieldAt w 7 6) (fieldAt w 4 3)) else
  if bitsAt w 0 4 = 2 then some (.shflDown (fieldAt w 19 6) (fieldAt w 13 6) (fieldAt w 7 6) (fieldAt w 4 3)) else
  if bitsAt w 0 4 = 3 then some (.shflXor (fieldAt w 19 6) (fieldAt w 13 6) (fieldAt w 7 6) (fieldAt w 4 3)) else
  if bitsAt w 0 4 = 4 then some (.shflBcast (fieldAt w 19 6) (fieldAt w 13 6) (fieldAt w 7 6) (fieldAt w 4 3)) else
  none

/-- Major opcode 0x34 (R110, R111). -/
def decodeMajor34 (w : Nat) : Option Instr :=
  if bitsAt w 7 6 = 0 ∧ bitsAt w 3 1 = 0 then some (.vred (fieldAt w 19 6) (fieldAt w 13 6) (fieldAt w 4 3) (fieldAt w 0 3)) else
  if bitsAt w 5 8 = 0 ∧ bitsAt w 3 1 = 1 then some (.vscan (fieldAt w 19 6) (fieldAt w 13 6) (fieldAt w 4 1) (fieldAt w 0 3)) else
  none

/-- Major opcode 0x35 (R110, R111). -/
def decodeMajor35 (w : Nat) : Option Instr :=
  some (.ld (fieldAt w 19 6) (fieldAt w 13 6) (fieldAt w 7 6) (fieldAt w 4 3) (fieldAt w 3 1) (fieldAt w 0 3))

/-- Major opcode 0x36 (R110, R111). -/
def decodeMajor36 (w : Nat) : Option Instr :=
  some (.st (fieldAt w 19 6) (fieldAt w 13 6) (fieldAt w 7 6) (fieldAt w 4 3) (fieldAt w 3 1) (fieldAt w 0 3))

/-- Major opcode 0x37 (R110, R111). -/
def decodeMajor37 (w : Nat) : Option Instr :=
  if bitsAt w 3 1 = 0 then some (.ldl (fieldAt w 19 6) (fieldAt w 13 6) (fieldAt w 7 6) (fieldAt w 4 3) (fieldAt w 0 3)) else
  if bitsAt w 2 2 = 2 ∧ bitsAt w 0 1 = 0 then some (.ldlW (fieldAt w 19 6) (fieldAt w 13 6) (fieldAt w 7 6) (fieldAt w 4 3) (fieldAt w 1 1)) else
  if bitsAt w 2 2 = 2 ∧ bitsAt w 0 1 = 1 then some (.ldlWc (fieldAt w 19 6) (fieldAt w 13 6) (fieldAt w 7 6) (fieldAt w 4 3) (fieldAt w 1 1)) else
  none

/-- Major opcode 0x38 (R110, R111). -/
def decodeMajor38 (w : Nat) : Option Instr :=
  if bitsAt w 3 1 = 0 then some (.stl (fieldAt w 19 6) (fieldAt w 13 6) (fieldAt w 7 6) (fieldAt w 4 3) (fieldAt w 0 3)) else
  if bitsAt w 2 2 = 2 ∧ bitsAt w 0 1 = 0 then some (.stlFill (fieldAt w 19 6) (fieldAt w 13 6) (fieldAt w 7 6) (fieldAt w 4 3) (fieldAt w 1 1)) else
  none

/-- Major opcode 0x39 (R110, R111). -/
def decodeMajor39 (w : Nat) : Option Instr :=
  some (.atom (fieldAt w 19 6) (fieldAt w 13 6) (fieldAt w 7 6) (fieldAt w 4 3) (fieldAt w 0 4))

/-- Major opcode 0x3A (R110, R111). -/
def decodeMajor3A (w : Nat) : Option Instr :=
  some (.atoml (fieldAt w 19 6) (fieldAt w 13 6) (fieldAt w 7 6) (fieldAt w 4 3) (fieldAt w 0 4))

/-- Major opcode 0x3B (R110, R111). -/
def decodeMajor3B (w : Nat) : Option Instr :=
  if bitsAt w 19 6 = 0 ∧ bitsAt w 2 2 = 0 then some (.pref (fieldAt w 13 6) (fieldAt w 7 6) (fieldAt w 4 3) (fieldAt w 0 2)) else
  none

/-- The instruction of a word, by its major opcode at [30:25], before the operand checks of `Instr.wf`. -/
def decodeFields (w : Nat) : Except Reject Instr :=
  match bitsAt w 25 6 with
  | 0 => match decodeMajor00 w with | some i => .ok i | none => .error .noFunction
  | 1 => match decodeMajor01 w with | some i => .ok i | none => .error .noFunction
  | 2 => match decodeMajor02 w with | some i => .ok i | none => .error .noFunction
  | 3 => match decodeMajor03 w with | some i => .ok i | none => .error .noFunction
  | 4 => match decodeMajor04 w with | some i => .ok i | none => .error .noFunction
  | 5 => match decodeMajor05 w with | some i => .ok i | none => .error .noFunction
  | 6 => match decodeMajor06 w with | some i => .ok i | none => .error .noFunction
  | 7 => match decodeMajor07 w with | some i => .ok i | none => .error .noFunction
  | 8 => match decodeMajor08 w with | some i => .ok i | none => .error .noFunction
  | 9 => match decodeMajor09 w with | some i => .ok i | none => .error .noFunction
  | 10 => match decodeMajor0A w with | some i => .ok i | none => .error .noFunction
  | 11 => match decodeMajor0B w with | some i => .ok i | none => .error .noFunction
  | 12 => match decodeMajor0C w with | some i => .ok i | none => .error .noFunction
  | 13 => match decodeMajor0D w with | some i => .ok i | none => .error .noFunction
  | 14 => match decodeMajor0E w with | some i => .ok i | none => .error .noFunction
  | 15 => match decodeMajor0F w with | some i => .ok i | none => .error .noFunction
  | 16 => match decodeMajor10 w with | some i => .ok i | none => .error .noFunction
  | 17 => match decodeMajor11 w with | some i => .ok i | none => .error .noFunction
  | 18 => match decodeMajor12 w with | some i => .ok i | none => .error .noFunction
  | 19 => match decodeMajor13 w with | some i => .ok i | none => .error .noFunction
  | 20 => match decodeMajor14 w with | some i => .ok i | none => .error .noFunction
  | 21 => match decodeMajor15 w with | some i => .ok i | none => .error .noFunction
  | 22 => match decodeMajor16 w with | some i => .ok i | none => .error .noFunction
  | 23 => match decodeMajor17 w with | some i => .ok i | none => .error .noFunction
  | 24 => match decodeMajor18 w with | some i => .ok i | none => .error .noFunction
  | 25 => match decodeMajor19 w with | some i => .ok i | none => .error .noFunction
  | 26 => match decodeMajor1A w with | some i => .ok i | none => .error .noFunction
  | 27 => match decodeMajor1B w with | some i => .ok i | none => .error .noFunction
  | 32 => match decodeMajor20 w with | some i => .ok i | none => .error .noFunction
  | 33 => match decodeMajor21 w with | some i => .ok i | none => .error .noFunction
  | 34 => match decodeMajor22 w with | some i => .ok i | none => .error .noFunction
  | 35 => match decodeMajor23 w with | some i => .ok i | none => .error .noFunction
  | 36 => match decodeMajor24 w with | some i => .ok i | none => .error .noFunction
  | 37 => match decodeMajor25 w with | some i => .ok i | none => .error .noFunction
  | 38 => match decodeMajor26 w with | some i => .ok i | none => .error .noFunction
  | 39 => match decodeMajor27 w with | some i => .ok i | none => .error .noFunction
  | 40 => match decodeMajor28 w with | some i => .ok i | none => .error .noFunction
  | 41 => match decodeMajor29 w with | some i => .ok i | none => .error .noFunction
  | 42 => match decodeMajor2A w with | some i => .ok i | none => .error .noFunction
  | 43 => match decodeMajor2B w with | some i => .ok i | none => .error .noFunction
  | 44 => match decodeMajor2C w with | some i => .ok i | none => .error .noFunction
  | 45 => match decodeMajor2D w with | some i => .ok i | none => .error .noFunction
  | 46 => match decodeMajor2E w with | some i => .ok i | none => .error .noFunction
  | 47 => match decodeMajor2F w with | some i => .ok i | none => .error .noFunction
  | 48 => match decodeMajor30 w with | some i => .ok i | none => .error .noFunction
  | 49 => match decodeMajor31 w with | some i => .ok i | none => .error .noFunction
  | 50 => match decodeMajor32 w with | some i => .ok i | none => .error .noFunction
  | 51 => match decodeMajor33 w with | some i => .ok i | none => .error .noFunction
  | 52 => match decodeMajor34 w with | some i => .ok i | none => .error .noFunction
  | 53 => match decodeMajor35 w with | some i => .ok i | none => .error .noFunction
  | 54 => match decodeMajor36 w with | some i => .ok i | none => .error .noFunction
  | 55 => match decodeMajor37 w with | some i => .ok i | none => .error .noFunction
  | 56 => match decodeMajor38 w with | some i => .ok i | none => .error .noFunction
  | 57 => match decodeMajor39 w with | some i => .ok i | none => .error .noFunction
  | 58 => match decodeMajor3A w with | some i => .ok i | none => .error .noFunction
  | 59 => match decodeMajor3B w with | some i => .ok i | none => .error .noFunction
  | _ => .error .reservedMajor

/-- The instruction of a 32-bit word, or why it is none (R113). -/
def decodeWord (w : Nat) : Except Reject Instr :=
  match decodeFields w with
  | .ok i => if i.wf then .ok i else .error .reservedOperand
  | .error r => .error r

/-- The word that four bytes hold, lowest address first (R2). -/
def wordOfBytes (b0 b1 b2 b3 : Byte) : Nat :=
  b0.toNat + b1.toNat * 2 ^ 8 + b2.toNat * 2 ^ 16 + b3.toNat * 2 ^ 24

/-- The four bytes of a word, lowest address first (R2). -/
def bytesOfWord (w : Nat) : List Byte :=
  [BitVec.ofNat 8 w, BitVec.ofNat 8 (w / 2 ^ 8), BitVec.ofNat 8 (w / 2 ^ 16), BitVec.ofNat 8 (w / 2 ^ 24)]

/-- Decoding is total on bytes: the chain bit, the instruction and the bytes after its word, or why there is none. -/
def decodeBytes : List Byte → Except Reject (Bool × Instr × List Byte)
  | b0 :: b1 :: b2 :: b3 :: rest =>
    let w := wordOfBytes b0 b1 b2 b3
    match decodeWord w with
    | .ok i => .ok (chainBit w, i, rest)
    | .error r => .error r
  | _ => .error .truncated

/-- The instruction that the decoder reads from a table row's bits, laid out as the hardware stores them (R2, R98). -/
def decodeTableWord (_nbits w : Nat) : Option Instr :=
  match decodeBytes (bytesOfWord w) with
  | .ok (_, i, _) => some i
  | .error _ => none

/-- The chain bit in place (R98). -/
def chainValue (c : Bool) : Nat := if c then 2 ^ 31 else 0

/-- A word from its fixed bits and its fields, each given as a value and its lowest bit (R108). -/
def assemble (fixed : Nat) : List (Nat × Nat) → Nat
  | [] => fixed
  | (v, lo) :: rest => v * 2 ^ lo + assemble fixed rest

/-- The bits [30:0] of an instruction's word, or none for a step that has no word (R107 to R112). -/
def encodeFields : Instr → Option Nat
  | .nop => some (assemble 0x00000000 [])
  | .exit => some (assemble 0x00080000 [])
  | .trap i => some (assemble 0x00100000 [(i.toNat, 0)])
  | .brk i => some (assemble 0x00180000 [(i.toNat, 0)])
  | .preoff a => some (assemble 0x00200000 [(a.toNat, 13)])
  | .preon => some (assemble 0x00280000 [])
  | .getc d i => some (assemble 0x00300000 [(d.toNat, 13), (i.toNat, 0)])
  | .setc a i => some (assemble 0x00380000 [(a.toNat, 13), (i.toNat, 0)])
  | .fence s => some (assemble 0x00400000 [(s.toNat, 0)])
  | .acq s => some (assemble 0x00480000 [(s.toNat, 0)])
  | .rel s => some (assemble 0x00500000 [(s.toNat, 0)])
  | .drain n => some (assemble 0x00580000 [(n.toNat, 0)])
  | .rdvi a p => some (assemble 0x00600000 [(a.toNat, 13), (p.toNat, 0)])
  | .rdva p => some (assemble 0x00680000 [(p.toNat, 0)])
  | .rdvw p => some (assemble 0x00700000 [(p.toNat, 0)])
  | .smap b p => some (assemble 0x00780000 [(b.toNat, 2), (p.toNat, 0)])
  | .sunmap p => some (assemble 0x00800000 [(p.toNat, 0)])
  | .mqcfg e => some (assemble 0x00880000 [(e.toNat, 0)])
  | .tend a => some (assemble 0x00900000 [(a.toNat, 13)])
  | .ptake => some (assemble 0x00980000 [])
  | .ppass a => some (assemble 0x00A00000 [(a.toNat, 13)])
  | .ppassFree => some (assemble 0x00A00001 [])
  | .ret a => some (assemble 0x00A80000 [(a.toNat, 13)])
  | .jmp a => some (assemble 0x00B00000 [(a.toNat, 13)])
  | .merge => some (assemble 0x00B80000 [])
  | .cwait a => some (assemble 0x00C00000 [(a.toNat, 13)])
  | .sadd d a b => some (assemble 0x02000000 [(d.toNat, 19), (a.toNat, 13), (b.toNat, 7)])
  | .ssub d a b => some (assemble 0x02000001 [(d.toNat, 19), (a.toNat, 13), (b.toNat, 7)])
  | .smul d a b => some (assemble 0x02000002 [(d.toNat, 19), (a.toNat, 13), (b.toNat, 7)])
  | .smulh d a b u => some (assemble 0x02000003 [(d.toNat, 19), (a.toNat, 13), (b.toNat, 7), (u.toNat, 4)])
  | .sand d a b => some (assemble 0x02000004 [(d.toNat, 19), (a.toNat, 13), (b.toNat, 7)])
  | .sor d a b => some (assemble 0x02000005 [(d.toNat, 19), (a.toNat, 13), (b.toNat, 7)])
  | .sxor d a b => some (assemble 0x02000006 [(d.toNat, 19), (a.toNat, 13), (b.toNat, 7)])
  | .sandn d a b => some (assemble 0x02000007 [(d.toNat, 19), (a.toNat, 13), (b.toNat, 7)])
  | .sshl d a b => some (assemble 0x02000008 [(d.toNat, 19), (a.toNat, 13), (b.toNat, 7)])
  | .sshr d a b u => some (assemble 0x02000009 [(d.toNat, 19), (a.toNat, 13), (b.toNat, 7), (u.toNat, 4)])
  | .ssra d a b => some (assemble 0x0200000A [(d.toNat, 19), (a.toNat, 13), (b.toNat, 7)])
  | .smin d a b u => some (assemble 0x0200000B [(d.toNat, 19), (a.toNat, 13), (b.toNat, 7), (u.toNat, 4)])
  | .smax d a b u => some (assemble 0x0200000C [(d.toNat, 19), (a.toNat, 13), (b.toNat, 7), (u.toNat, 4)])
  | .ssel d a b => some (assemble 0x0200000D [(d.toNat, 19), (a.toNat, 13), (b.toNat, 7)])
  | .scmp d a b k => some (assemble 0x0200000E [(d.toNat, 19), (a.toNat, 13), (b.toNat, 7), (k.toNat, 4)])
  | .sdiv d a b u v => some (assemble 0x0200000F [(d.toNat, 19), (a.toNat, 13), (b.toNat, 7), (u.toNat, 5), (v.toNat, 4)])
  | .sbfx d a b u => some (assemble 0x04000000 [(d.toNat, 19), (a.toNat, 13), (b.toNat, 7), (u.toNat, 4)])
  | .sbfi d a b => some (assemble 0x04000001 [(d.toNat, 19), (a.toNat, 13), (b.toNat, 7)])
  | .sclz d a => some (assemble 0x04000002 [(d.toNat, 19), (a.toNat, 13)])
  | .spopc d a => some (assemble 0x04000003 [(d.toNat, 19), (a.toNat, 13)])
  | .smov d a => some (assemble 0x04000004 [(d.toNat, 19), (a.toNat, 13)])
  | .sxget d a => some (assemble 0x04000005 [(d.toNat, 19), (a.toNat, 13)])
  | .sxset a b => some (assemble 0x04000006 [(a.toNat, 13), (b.toNat, 7)])
  | .maskp d p => some (assemble 0x04000007 [(d.toNat, 19), (p.toNat, 13)])
  | .pmask p a => some (assemble 0x04000008 [(p.toNat, 19), (a.toNat, 13)])
  | .vote d p u => some (assemble 0x04000009 [(d.toNat, 19), (p.toNat, 13), (u.toNat, 4)])
  | .saddImm d a i => some (assemble 0x06000000 [(d.toNat, 19), (a.toNat, 13), (i.toNat, 0)])
  | .sandImm d a i => some (assemble 0x08000000 [(d.toNat, 19), (a.toNat, 13), (i.toNat, 0)])
  | .sorImm d a i => some (assemble 0x0A000000 [(d.toNat, 19), (a.toNat, 13), (i.toNat, 0)])
  | .sxorImm d a i => some (assemble 0x0C000000 [(d.toNat, 19), (a.toNat, 13), (i.toNat, 0)])
  | .sshlImm d a n => some (assemble 0x0E000000 [(d.toNat, 19), (a.toNat, 13), (n.toNat, 0)])
  | .sshrImm d a n => some (assemble 0x0E000800 [(d.toNat, 19), (a.toNat, 13), (n.toNat, 0)])
  | .ssraImm d a n => some (assemble 0x0E001000 [(d.toNat, 19), (a.toNat, 13), (n.toNat, 0)])
  | .scmpImm d a k i => some (assemble 0x10000000 [(d.toNat, 19), (a.toNat, 13), (k.toNat, 10), (i.toNat, 0)])
  | .smovi d i => some (assemble 0x12000000 [(d.toNat, 19), (i.toNat, 0)])
  | .slih d i => some (assemble 0x14000000 [(d.toNat, 19), (i.toNat, 0)])
  | .lds d a i => some (assemble 0x16000000 [(d.toNat, 19), (a.toNat, 13), (i.toNat, 0)])
  | .sts d a i => some (assemble 0x18000000 [(d.toNat, 19), (a.toNat, 13), (i.toNat, 0)])
  | .ldacq d a s w => some (assemble 0x1A000000 [(d.toNat, 19), (a.toNat, 13), (s.toNat, 10), (w.toNat, 0)])
  | .strel d a s w => some (assemble 0x1C000000 [(d.toNat, 19), (a.toNat, 13), (s.toNat, 10), (w.toNat, 0)])
  | .atoms d a b s f => some (assemble 0x1E000000 [(d.toNat, 19), (a.toNat, 13), (b.toNat, 7), (s.toNat, 4), (f.toNat, 0)])
  | .bra o => some (assemble 0x20000000 [(o.toNat, 0)])
  | .call o => some (assemble 0x22000000 [(o.toNat, 0)])
  | .bz a o => some (assemble 0x24000000 [(a.toNat, 19), (o.toNat, 0)])
  | .bnz a o => some (assemble 0x26000000 [(a.toNat, 19), (o.toNat, 0)])
  | .bany p t o => some (assemble 0x28000000 [(p.toNat, 19), (t.toNat, 16), (o.toNat, 0)])
  | .ball p t o => some (assemble 0x2A000000 [(p.toNat, 19), (t.toNat, 16), (o.toNat, 0)])
  | .bnone p t o => some (assemble 0x2C000000 [(p.toNat, 19), (t.toNat, 16), (o.toNat, 0)])
  | .split p o => some (assemble 0x2E000000 [(p.toNat, 19), (o.toNat, 0)])
  | .switch a v n => some (assemble 0x30000000 [(a.toNat, 19), (v.toNat, 13), (n.toNat, 10)])
  | .spawnS a => some (assemble 0x32000000 [(a.toNat, 19)])
  | .spawnL a => some (assemble 0x32100000 [(a.toNat, 14)])
  | .fnew a b u => some (assemble 0x34000000 [(a.toNat, 13), (b.toNat, 7), (u.toNat, 4)])
  | .fjoin a b => some (assemble 0x34000001 [(a.toNat, 13), (b.toNat, 7)])
  | .fwait d a => some (assemble 0x34000002 [(d.toNat, 19), (a.toNat, 13)])
  | .fput a b => some (assemble 0x34000003 [(a.toNat, 13), (b.toNat, 7)])
  | .copy a => some (assemble 0x36000000 [(a.toNat, 14)])
  | .copyM a b l n => some (assemble 0x36000008 [(a.toNat, 14), (b.toNat, 8), (l.toNat, 5), (n.toNat, 0)])
  | .mma a l n => some (assemble 0x36400000 [(a.toNat, 14), (l.toNat, 5), (n.toNat, 0)])
  | .mmaMc a b l n => some (assemble 0x36400008 [(a.toNat, 14), (b.toNat, 8), (l.toNat, 5), (n.toNat, 0)])
  | .accz n => some (assemble 0x36500000 [(n.toNat, 0)])
  | .accld a l n => some (assemble 0x36600000 [(a.toNat, 14), (l.toNat, 5), (n.toNat, 0)])
  | .accst a l n => some (assemble 0x36700000 [(a.toNat, 14), (l.toNat, 5), (n.toNat, 0)])
  | .cxopenIntersect a b n => some (assemble 0x36800000 [(a.toNat, 14), (b.toNat, 8), (n.toNat, 0)])
  | .cxopenUnion a b n => some (assemble 0x36800020 [(a.toNat, 14), (b.toNat, 8), (n.toNat, 0)])
  | .cxopenExpand a n => some (assemble 0x36800040 [(a.toNat, 14), (n.toNat, 0)])
  | .cxnext v d p n => some (assemble 0x36900000 [(v.toNat, 14), (d.toNat, 8), (p.toNat, 5), (n.toNat, 0)])
  | .cxsplit a b n => some (assemble 0x36A00000 [(a.toNat, 14), (b.toNat, 8), (n.toNat, 0)])
  | .cxsave a n => some (assemble 0x36B00000 [(a.toNat, 14), (n.toNat, 0)])
  | .cxload a n => some (assemble 0x36C00000 [(a.toNat, 14), (n.toNat, 0)])
  | .cxloadS a n => some (assemble 0x36C00020 [(a.toNat, 14), (n.toNat, 0)])
  | .cxclose n => some (assemble 0x36D00000 [(n.toNat, 0)])
  | .vadd d a b g => some (assemble 0x40000000 [(d.toNat, 19), (a.toNat, 13), (b.toNat, 7), (g.toNat, 4)])
  | .vsub d a b g => some (assemble 0x40000001 [(d.toNat, 19), (a.toNat, 13), (b.toNat, 7), (g.toNat, 4)])
  | .vmul d a b g => some (assemble 0x40000002 [(d.toNat, 19), (a.toNat, 13), (b.toNat, 7), (g.toNat, 4)])
  | .vmulhI d a b g => some (assemble 0x40000003 [(d.toNat, 19), (a.toNat, 13), (b.toNat, 7), (g.toNat, 4)])
  | .vand d a b g => some (assemble 0x40000004 [(d.toNat, 19), (a.toNat, 13), (b.toNat, 7), (g.toNat, 4)])
  | .vor d a b g => some (assemble 0x40000005 [(d.toNat, 19), (a.toNat, 13), (b.toNat, 7), (g.toNat, 4)])
  | .vxor d a b g => some (assemble 0x40000006 [(d.toNat, 19), (a.toNat, 13), (b.toNat, 7), (g.toNat, 4)])
  | .vandn d a b g => some (assemble 0x40000007 [(d.toNat, 19), (a.toNat, 13), (b.toNat, 7), (g.toNat, 4)])
  | .vshl d a b g => some (assemble 0x40000008 [(d.toNat, 19), (a.toNat, 13), (b.toNat, 7), (g.toNat, 4)])
  | .vshr d a b g => some (assemble 0x40000009 [(d.toNat, 19), (a.toNat, 13), (b.toNat, 7), (g.toNat, 4)])
  | .vsra d a b g => some (assemble 0x4000000A [(d.toNat, 19), (a.toNat, 13), (b.toNat, 7), (g.toNat, 4)])
  | .vminI d a b g => some (assemble 0x4000000B [(d.toNat, 19), (a.toNat, 13), (b.toNat, 7), (g.toNat, 4)])
  | .vmaxI d a b g => some (assemble 0x4000000C [(d.toNat, 19), (a.toNat, 13), (b.toNat, 7), (g.toNat, 4)])
  | .vsel d a b q => some (assemble 0x4000000D [(d.toNat, 19), (a.toNat, 13), (b.toNat, 7), (q.toNat, 4)])
  | .vmov d a g => some (assemble 0x4000000E [(d.toNat, 19), (a.toNat, 13), (g.toNat, 4)])
  | .vbcast d a g => some (assemble 0x4000000F [(d.toNat, 19), (a.toNat, 13), (g.toNat, 4)])
  | .vminN d a b g => some (assemble 0x42000000 [(d.toNat, 19), (a.toNat, 13), (b.toNat, 7), (g.toNat, 4)])
  | .vmaxN d a b g => some (assemble 0x42000001 [(d.toNat, 19), (a.toNat, 13), (b.toNat, 7), (g.toNat, 4)])
  | .vmulhN d a b g => some (assemble 0x42000002 [(d.toNat, 19), (a.toNat, 13), (b.toNat, 7), (g.toNat, 4)])
  | .vbfxI d a b g => some (assemble 0x42000003 [(d.toNat, 19), (a.toNat, 13), (b.toNat, 7), (g.toNat, 4)])
  | .vbfxN d a b g => some (assemble 0x42000004 [(d.toNat, 19), (a.toNat, 13), (b.toNat, 7), (g.toNat, 4)])
  | .vbfi d a b g => some (assemble 0x42000005 [(d.toNat, 19), (a.toNat, 13), (b.toNat, 7), (g.toNat, 4)])
  | .vclz d a g => some (assemble 0x42000006 [(d.toNat, 19), (a.toNat, 13), (g.toNat, 4)])
  | .vpopc d a g => some (assemble 0x42000007 [(d.toNat, 19), (a.toNat, 13), (g.toNat, 4)])
  | .vbrev d a g => some (assemble 0x42000008 [(d.toNat, 19), (a.toNat, 13), (g.toNat, 4)])
  | .vlaneid d g => some (assemble 0x42000009 [(d.toNat, 19), (g.toNat, 4)])
  | .vmad d a b e n => some (assemble 0x44000000 [(d.toNat, 19), (a.toNat, 13), (b.toNat, 7), (e.toNat, 1), (n.toNat, 0)])
  | .vaddImm d a i => some (assemble 0x46000000 [(d.toNat, 19), (a.toNat, 13), (i.toNat, 0)])
  | .vandImm d a i => some (assemble 0x48000000 [(d.toNat, 19), (a.toNat, 13), (i.toNat, 0)])
  | .vorImm d a i => some (assemble 0x4A000000 [(d.toNat, 19), (a.toNat, 13), (i.toNat, 0)])
  | .vxorImm d a i => some (assemble 0x4C000000 [(d.toNat, 19), (a.toNat, 13), (i.toNat, 0)])
  | .vshlImm d a n => some (assemble 0x4E000000 [(d.toNat, 19), (a.toNat, 13), (n.toNat, 0)])
  | .vshrImm d a n => some (assemble 0x4E000800 [(d.toNat, 19), (a.toNat, 13), (n.toNat, 0)])
  | .vsraImm d a n => some (assemble 0x4E001000 [(d.toNat, 19), (a.toNat, 13), (n.toNat, 0)])
  | .vmovImm d i => some (assemble 0x50000000 [(d.toNat, 19), (i.toNat, 0)])
  | .vcmpInt p q a b t k => some (assemble 0x52000000 [(p.toNat, 22), (q.toNat, 19), (a.toNat, 13), (b.toNat, 7), (t.toNat, 4), (k.toNat, 0)])
  | .vcmpImm p q a i t k => some (assemble 0x54000000 [(p.toNat, 22), (q.toNat, 19), (a.toNat, 13), (i.toNat, 7), (t.toNat, 4), (k.toNat, 0)])
  | .vcmpF32 p q a b t k => some (assemble 0x56000000 [(p.toNat, 22), (q.toNat, 19), (a.toNat, 13), (b.toNat, 7), (t.toNat, 4), (k.toNat, 0)])
  | .vfaddF32 d a b g => some (assemble 0x58000000 [(d.toNat, 19), (a.toNat, 13), (b.toNat, 7), (g.toNat, 4)])
  | .vfsubF32 d a b g => some (assemble 0x58000001 [(d.toNat, 19), (a.toNat, 13), (b.toNat, 7), (g.toNat, 4)])
  | .vfmulF32 d a b g => some (assemble 0x58000002 [(d.toNat, 19), (a.toNat, 13), (b.toNat, 7), (g.toNat, 4)])
  | .vfminF32 d a b g => some (assemble 0x58000003 [(d.toNat, 19), (a.toNat, 13), (b.toNat, 7), (g.toNat, 4)])
  | .vfmaxF32 d a b g => some (assemble 0x58000004 [(d.toNat, 19), (a.toNat, 13), (b.toNat, 7), (g.toNat, 4)])
  | .vfdiv d a b g => some (assemble 0x58000005 [(d.toNat, 19), (a.toNat, 13), (b.toNat, 7), (g.toNat, 4)])
  | .vfsqrt d a g => some (assemble 0x58000006 [(d.toNat, 19), (a.toNat, 13), (g.toNat, 4)])
  | .vrcp d a g => some (assemble 0x58000007 [(d.toNat, 19), (a.toNat, 13), (g.toNat, 4)])
  | .vrsq d a g => some (assemble 0x58000008 [(d.toNat, 19), (a.toNat, 13), (g.toNat, 4)])
  | .vexp2 d a g => some (assemble 0x58000009 [(d.toNat, 19), (a.toNat, 13), (g.toNat, 4)])
  | .vlog2 d a g => some (assemble 0x5800000A [(d.toNat, 19), (a.toNat, 13), (g.toNat, 4)])
  | .vsin d a g => some (assemble 0x5800000B [(d.toNat, 19), (a.toNat, 13), (g.toNat, 4)])
  | .vcos d a g => some (assemble 0x5800000C [(d.toNat, 19), (a.toNat, 13), (g.toNat, 4)])
  | .vtanh d a g => some (assemble 0x5800000D [(d.toNat, 19), (a.toNat, 13), (g.toNat, 4)])
  | .vfclassF32 d a g => some (assemble 0x5800000E [(d.toNat, 19), (a.toNat, 13), (g.toNat, 4)])
  | .vfcvtF32 d a k g => some (assemble 0x5800000F [(d.toNat, 19), (a.toNat, 13), (k.toNat, 7), (g.toNat, 4)])
  | .vfaddF16x2 d a b g => some (assemble 0x5A000000 [(d.toNat, 19), (a.toNat, 13), (b.toNat, 7), (g.toNat, 4)])
  | .vfsubF16x2 d a b g => some (assemble 0x5A000001 [(d.toNat, 19), (a.toNat, 13), (b.toNat, 7), (g.toNat, 4)])
  | .vfmulF16x2 d a b g => some (assemble 0x5A000002 [(d.toNat, 19), (a.toNat, 13), (b.toNat, 7), (g.toNat, 4)])
  | .vfminF16x2 d a b g => some (assemble 0x5A000003 [(d.toNat, 19), (a.toNat, 13), (b.toNat, 7), (g.toNat, 4)])
  | .vfmaxF16x2 d a b g => some (assemble 0x5A000004 [(d.toNat, 19), (a.toNat, 13), (b.toNat, 7), (g.toNat, 4)])
  | .vfclassF16x2 d a g => some (assemble 0x5A00000E [(d.toNat, 19), (a.toNat, 13), (g.toNat, 4)])
  | .vfcvtF16x2 d a k g => some (assemble 0x5A00000F [(d.toNat, 19), (a.toNat, 13), (k.toNat, 7), (g.toNat, 4)])
  | .vfaddBf16x2 d a b g => some (assemble 0x5C000000 [(d.toNat, 19), (a.toNat, 13), (b.toNat, 7), (g.toNat, 4)])
  | .vfsubBf16x2 d a b g => some (assemble 0x5C000001 [(d.toNat, 19), (a.toNat, 13), (b.toNat, 7), (g.toNat, 4)])
  | .vfmulBf16x2 d a b g => some (assemble 0x5C000002 [(d.toNat, 19), (a.toNat, 13), (b.toNat, 7), (g.toNat, 4)])
  | .vfminBf16x2 d a b g => some (assemble 0x5C000003 [(d.toNat, 19), (a.toNat, 13), (b.toNat, 7), (g.toNat, 4)])
  | .vfmaxBf16x2 d a b g => some (assemble 0x5C000004 [(d.toNat, 19), (a.toNat, 13), (b.toNat, 7), (g.toNat, 4)])
  | .vfclassBf16x2 d a g => some (assemble 0x5C00000E [(d.toNat, 19), (a.toNat, 13), (g.toNat, 4)])
  | .vfcvtBf16x2 d a k g => some (assemble 0x5C00000F [(d.toNat, 19), (a.toNat, 13), (k.toNat, 7), (g.toNat, 4)])
  | .vfmaF32 d a b e n => some (assemble 0x5E000000 [(d.toNat, 19), (a.toNat, 13), (b.toNat, 7), (e.toNat, 1), (n.toNat, 0)])
  | .vfmaF16x2 d a b e n => some (assemble 0x60000000 [(d.toNat, 19), (a.toNat, 13), (b.toNat, 7), (e.toNat, 1), (n.toNat, 0)])
  | .vfmaBf16x2 d a b e n => some (assemble 0x62000000 [(d.toNat, 19), (a.toNat, 13), (b.toNat, 7), (e.toNat, 1), (n.toNat, 0)])
  | .pand d a b g => some (assemble 0x64000000 [(d.toNat, 19), (a.toNat, 13), (b.toNat, 7), (g.toNat, 4)])
  | .por d a b g => some (assemble 0x64000001 [(d.toNat, 19), (a.toNat, 13), (b.toNat, 7), (g.toNat, 4)])
  | .pxor d a b g => some (assemble 0x64000002 [(d.toNat, 19), (a.toNat, 13), (b.toNat, 7), (g.toNat, 4)])
  | .pnot d a g => some (assemble 0x64000003 [(d.toNat, 19), (a.toNat, 13), (g.toNat, 4)])
  | .shflIdx d a b g => some (assemble 0x66000000 [(d.toNat, 19), (a.toNat, 13), (b.toNat, 7), (g.toNat, 4)])
  | .shflUp d a b g => some (assemble 0x66000001 [(d.toNat, 19), (a.toNat, 13), (b.toNat, 7), (g.toNat, 4)])
  | .shflDown d a b g => some (assemble 0x66000002 [(d.toNat, 19), (a.toNat, 13), (b.toNat, 7), (g.toNat, 4)])
  | .shflXor d a b g => some (assemble 0x66000003 [(d.toNat, 19), (a.toNat, 13), (b.toNat, 7), (g.toNat, 4)])
  | .shflBcast d a b g => some (assemble 0x66000004 [(d.toNat, 19), (a.toNat, 13), (b.toNat, 7), (g.toNat, 4)])
  | .vred d a g f => some (assemble 0x68000000 [(d.toNat, 19), (a.toNat, 13), (g.toNat, 4), (f.toNat, 0)])
  | .vscan d a k f => some (assemble 0x68000008 [(d.toNat, 19), (a.toNat, 13), (k.toNat, 4), (f.toNat, 0)])
  | .ld d a b g n z => some (assemble 0x6A000000 [(d.toNat, 19), (a.toNat, 13), (b.toNat, 7), (g.toNat, 4), (n.toNat, 3), (z.toNat, 0)])
  | .st d a b g n z => some (assemble 0x6C000000 [(d.toNat, 19), (a.toNat, 13), (b.toNat, 7), (g.toNat, 4), (n.toNat, 3), (z.toNat, 0)])
  | .ldl d a b g z => some (assemble 0x6E000000 [(d.toNat, 19), (a.toNat, 13), (b.toNat, 7), (g.toNat, 4), (z.toNat, 0)])
  | .ldlW d a b g z => some (assemble 0x6E000008 [(d.toNat, 19), (a.toNat, 13), (b.toNat, 7), (g.toNat, 4), (z.toNat, 1)])
  | .ldlWc d a b g z => some (assemble 0x6E000009 [(d.toNat, 19), (a.toNat, 13), (b.toNat, 7), (g.toNat, 4), (z.toNat, 1)])
  | .stl d a b g z => some (assemble 0x70000000 [(d.toNat, 19), (a.toNat, 13), (b.toNat, 7), (g.toNat, 4), (z.toNat, 0)])
  | .stlFill d a b g z => some (assemble 0x70000008 [(d.toNat, 19), (a.toNat, 13), (b.toNat, 7), (g.toNat, 4), (z.toNat, 1)])
  | .atom d a b g f => some (assemble 0x72000000 [(d.toNat, 19), (a.toNat, 13), (b.toNat, 7), (g.toNat, 4), (f.toNat, 0)])
  | .atoml d a b g f => some (assemble 0x74000000 [(d.toNat, 19), (a.toNat, 13), (b.toNat, 7), (g.toNat, 4), (f.toNat, 0)])
  | .pref a b g f => some (assemble 0x76000000 [(a.toNat, 13), (b.toNat, 7), (g.toNat, 4), (f.toNat, 0)])
  | .eventWrite _ => none
  | .resultArrival _ _ _ => none
  | .missStatusRetry _ => none
  | .futureDelivery => none
  | .errorDelivery => none
  | .messageArrival _ _ => none
  | .taskDispatch _ => none
  | .steal _ => none
  | .stagingStart _ => none
  | .stagingComplete _ => none
  | .tileWritebackComplete _ _ => none
  | .copyStart _ => none
  | .copyCompletion _ => none
  | .matrixOpStart _ => none
  | .matrixOpEnd _ => none
  | .brambleOpStart _ => none
  | .mmaMcWindowLapse _ => none
  | .teamPlacement _ => none
  | .rootClosurePush _ => none
  | .switchOut _ _ => none
  | .switchIn _ _ => none
  | .preoffWindowExpiry _ _ => none
  | .periodStart _ => none
  | .budgetExhausted _ => none
  | .jobEnd _ => none
  | .sweepVisit _ => none
  | .sweepTest _ => none
  | .testResult _ _ => none
  | .drainmaxExpiry _ => none
  | .coreGated _ => none
  | .launch _ => none
  | .createContract _ => none
  | .destroyContract _ => none
  | .drainJob _ => none
  | .cmdUndefined _ => none
  | .graftRead _ => none
  | .regraft _ => none
  | .capRead _ => none
  | .capFence _ => none
  | .capRetest _ => none
  | .sweepSet _ => none
  | .migrate _ => none
  | .migrateEnd _ => none
  | .groupSet _ => none
  | .powerSetClockStep _ => none
  | .powerSetGate _ => none
  | .powerSetHbmRefresh _ => none
  | .alarmSet _ => none
  | .viSet _ => none
  | .attest _ => none
  | .retransmit _ _ => none
  | .illegalInstruction _ => none
  | .brambleOpEnd _ => none
  | .sqdbWrite _ _ => none
  | .sqblWrite _ _ => none
  | .eqblWrite _ _ => none
  | .vipasWrite _ _ => none
  | .registerWrite _ _ _ => none
  | .moduleReset _ => none
  | .stackReset _ => none
  | .clusterReset _ => none
  | .mevtClear _ => none
  | .inventory => none
  | .sensors => none
  | .i3cPower _ _ _ => none
  | .i3cAttest _ => none
  | .status => none
  | .i3cReset => none
  | .fwWrite _ _ => none
  | .fwCommit _ => none
  | .i3cUnknownCommand _ => none
  | .translationCompletion _ _ _ _ => none
  | .pageResponse _ _ _ _ => none
  | .invalidateRequest _ _ _ => none
  | .peerRequest _ _ _ => none
  | .linkAck _ _ _ => none
  | .currentAlarmHigh _ => none
  | .currentAlarmLow _ => none
  | .lineEviction _ _ _ => none
  | .numvfsWrite _ => none
  | .dynamicAddressAssignment _ => none

/-- The word of an instruction with chain bit `c` (R98). -/
def encode (c : Bool) (i : Instr) : Option Word :=
  match encodeFields i with
  | some w => some (BitVec.ofNat 32 (w + chainValue c))
  | none => none

end Sys2Proof
end

