-- ==== Sys2Proof/Machine/Fetch.lean ====
section
/-!
DEFINITION. Fetching the next word of an arm, or the chained pair that it begins (R99 to R106).
-/

namespace Sys2Proof.Machine

/-- One code word: its page waits, or its bits and whether its sector is poisoned. -/
inductive CodeWord where
  | miss
  | refused
  | word (w : Nat) (poisoned : Bool)
  deriving DecidableEq, Repr

/-- Reads the code word of a packet and position at its home (R100). A code page that leads to a peer module cannot be fetched: the
rules say nothing of one, and the model refuses it as a translation is refused, with the violation fault of DET 3 (assumption 10). -/
def State.codeWord (s : State) (core : Nat) (j : Job) (pc word : Nat) : CodeWord :=
  match s.xlate core j.pasid (j.packetVA pc + 4 * word) false with
  | .miss => .miss
  | .hit (.peer _ _) => .refused
  | .hit t => let (bs, p) := s.readT t 4; .word (bytesNat bs) p

/-- What an arm's fetch finds, in the order of R106. -/
inductive Fetched where
  /-- The page of an address waits for translation. -/
  | miss (va : Nat)
  | fault (code det addr : Nat)
  /-- A packet that is fetched lies in a poisoned sector: the fault stands at its word 0 (R100). -/
  | poisoned (pc addr : Nat)
  /-- The word at a position is no instruction for this wave (R113, R101, R42). -/
  | illegal (pc word : Nat) (w : Nat)
  /-- A pair that breaks R103. -/
  | chain
  | one (i : Instr)
  | two (i j : Instr)
  deriving DecidableEq, Repr

/-- Whether every word from position `k` of a packet reads as zero. -/
def zeroFrom (ws : List Nat) (k : Nat) : Bool := (ws.drop k).all (fun w => w == 0)

/-- The mode of the cursor of an image (R243). -/
def imageMode (img : List Word) : Nat := wbits (img.getD 0 0#32) 31 30

/-- A cursor after every operation that waits before a new one: its owner, and its mode unless an image in SCRATCH is still to
give it. -/
structure CxView where
  uid : Nat
  mode : Option Nat
  deriving DecidableEq, Repr

/-- What an operation that has not started will do to the view of a cursor. -/
def CxView.after (v : Option CxView) (o : BrOp) : Option CxView :=
  match o.kind with
  | .openTwo => some ⟨o.uid, some (if o.union then 1 else 0)⟩
  | .openExpand => some ⟨o.uid, some 2⟩
  | .load => some ⟨o.uid, none⟩
  | .loadS => some ⟨o.uid, some (imageMode o.ops)⟩
  | .close => none
  | _ => v

/-- The view of a cursor that a new operation has (R230: operations run in issue order). The cursor of a wave that has ended is
closed (R47). -/
def Core.cxView (k : Core) (cx : Nat) : Option CxView :=
  ((k.brQ.filter (fun o => o.cx == cx && !o.started)).foldl CxView.after
    ((NMap.get? k.cx cx).map (fun c => ⟨c.uid, some (imageMode c.img)⟩))).filter
    (fun v => k.slots.any (fun w => w.2.uid == v.uid && !w.2.ended))

/-- The registers that an instruction reads and writes, with the scalar register that SXGET or SXSET indexes unless its index is empty and so
not known yet, the predicates that
CXNEXT writes on a UNION cursor, and the registers of trap entry, which does not wait for them (R103, R240, R276, R338). Of control
registers it counts those that an instruction names or that its own operation writes. MSTAT, PENN and DQDEP, which change with the
work of an engine, of the pennant or of a deque, count as written by none: R103 does not say, and this is the model's choice
(assumption 40). -/
def Wave.usesNow (w : Wave) (k : Core) (i : Instr) : Uses :=
  match i with
  | .cxnext _ _ p n =>
    if (k.cxView n.toNat).any (fun v => v.mode == some 1) then { uses i with pw := [p.toNat, p.toNat + 1, p.toNat + 2] } else uses i
  | .trap _ | .brk _ => { uses i with sd := [60, 61] }
  | .sxget _ a => if w.sIsEmpty a.toNat then uses i else { uses i with ss := (uses i).ss ++ [((w.sreg a.toNat).toNat, 3)] }
  | .sxset a _ => if w.sIsEmpty a.toNat then uses i else { uses i with sd := [(w.sreg a.toNat).toNat] }
  | _ => uses i

/-- Whether the second word reads or writes something that the first writes (R103). A write to p0 is discarded (R44), so that the first
word is taken not to write it: R103 does not say, and this is the model's choice (assumption 40). -/
def conflicts (u v : Uses) : Bool :=
  u.vd.any (fun r => v.vd.contains r || v.vs.any (fun e => e.1 == r)) ||
    u.sd.any (fun r => v.sd.contains r || v.ss.any (fun e => e.1 == r)) ||
    u.pw.any (fun r => r != 0 && (v.pw.contains r || v.pr.contains r)) || u.cw.any (fun r => v.cw.contains r || v.cr.contains r)

/-- Whether two words go to one pipe; NOP goes to none (R105). -/
def samePipe (i j : Instr) : Bool := pipe i != .none && pipe i == pipe j

/-- The three words of a packet and the offset of the first one in a poisoned sector, or why they cannot be had. -/
def State.packetWords (s : State) (core : Nat) (j : Job) (pc : Nat) : Except Fetched (List Nat × Option Nat) :=
  match s.codeWord core j pc 0, s.codeWord core j pc 1, s.codeWord core j pc 2 with
  | .word a p, .word b q, .word c r => .ok ([a, b, c], if p then some 0 else if q then some 4 else if r then some 8 else none)
  | .miss, _, _ => .error (.miss (j.packetVA pc))
  | .refused, _, _ => .error (.fault 0x12 3 (j.packetVA pc))
  | _, .miss, _ => .error (.miss (j.packetVA pc + 4))
  | _, .refused, _ => .error (.fault 0x12 3 (j.packetVA pc + 4))
  | _, _, .miss => .error (.miss (j.packetVA pc + 8))
  | _, _, .refused => .error (.fault 0x12 3 (j.packetVA pc + 8))

/-- The pipe that the major opcode of a word names, whether or not the word is an instruction (R105, R110, R111). -/
def wordPipe (x : Nat) : Pipe :=
  let maj := x / 2 ^ 25 % 2 ^ 6
  let fn := x / 2 ^ 19 % 2 ^ 6
  if maj = 0 then
    if fn = 0 ∨ 0x18 < fn then .none
    else if fn = 0x13 ∨ fn = 0x14 then .engine
    else if 8 ≤ fn ∧ fn ≤ 0x12 ∨ fn = 0x18 then .memory
    else .scalar
  else if maj ≤ 0x0A then .scalar
  else if maj ≤ 0x0F then .memory
  else if maj ≤ 0x17 then .scalar
  else if maj = 0x18 then .vector
  else if maj = 0x19 ∨ maj = 0x1B then .engine
  else if maj = 0x1A then .memory
  else if maj < 0x20 then .none
  else if maj = 0x2C ∧ 5 ≤ x % 16 ∧ x % 16 ≤ 13 then .sfu
  else if maj ≤ 0x34 then .vector
  else if maj ≤ 0x3B then .memory
  else .none

/-- The second word of a pair, once its packet has been read (R103, R106). A pair that breaks R103 by the chain bit or by the
pipe of a second word that is no instruction is an illegal chain all the same, which R106 puts before that word's decode
(assumption 6). -/
def Wave.pairWith (w : Wave) (k : Core) (i : Instr) (pc word : Nat) (ws : List Nat) : Fetched :=
  let x := ws.getD word 0
  if chainBit x then .chain
  else match decodeWord x with
    | .error _ => if pipe i != .none && pipe i == wordPipe x then .chain else .illegal pc word x
    | .ok j =>
      if samePipe i j || conflicts (w.usesNow k i) (w.usesNow k j) then .chain
      else if (packetEnding j && !zeroFrom ws (word + 1)) || w.lacks j then .illegal pc word x
      else .two i j

/-- The packet behind a word at position 2 with its chain bit, where its segment has one: no packet otherwise (R103). -/
def State.nextPacket (s : State) (core : Nat) (j : Job) (a : Arm) (x : Nat) : Except Fetched (List Nat) :=
  if chainBit x && a.word == 2 && decide (a.pc + 1 < j.npkt) then
    match s.packetWords core j (a.pc + 1) with
    | .error f => .error f
    | .ok (vs, none) => .ok vs
    | .ok (_, some k) => .error (.poisoned (a.pc + 1) ((j.packetVA (a.pc + 1) + k) / 32 * 32))
  else .ok []

/-- What an arm issues once every word of its choice has been fetched (R101 to R106, R42). -/
def Wave.choose (w : Wave) (k : Core) (j : Job) (a : Arm) (ws next : List Nat) : Fetched :=
  let x := ws.getD a.word 0
  match decodeWord x with
  | .error _ => .illegal a.pc a.word x
  | .ok i =>
    if (packetEnding i && !zeroFrom ws (a.word + 1)) || w.lacks i then .illegal a.pc a.word x
    else if !chainBit x then .one i
    else if packetEnding i || (a.word == 2 && decide (j.npkt ≤ a.pc + 1)) then .chain
    else if a.word < 2 then w.pairWith k i a.pc (a.word + 1) ws
    else w.pairWith k i (a.pc + 1) 0 next

/-- The fetch of an arm: what it would issue, fetch faults first (R99 to R106). A packet is fetched when its first word issues, and again
by an arm that a switch has brought back within it. -/
def State.fetch (s : State) (core : Nat) (w : Wave) (j : Job) (a : Arm) : Fetched :=
  match s.packetWords core j a.pc with
  | .error f => f
  | .ok (ws, pois) =>
    if pois.isSome && (a.word == 0 || a.refetch) then
      .poisoned a.pc ((j.packetVA a.pc + pois.getD 0) / 32 * 32)
    else match s.nextPacket core j a (ws.getD a.word 0) with
      | .error f => f
      | .ok next => w.choose (s.core core) j a ws next

/-- The line of a code address becomes resident in the instruction cache of 1,024 lines; one that it lacks comes from its home slice
(R81, R100, R171, R172). -/
def State.touchLine (s : State) (core pasid va : Nat) : State :=
  match s.xlate core pasid va false with
  | .hit (.dpa a) =>
    let s := if (s.core core).icache.contains (a / 128) then s else s.l2Touch pasid (a / 128) (List.range 4) false
    s.modCore core (fun k => { k with icache := ((a / 128) :: k.icache.filter (fun l => l != a / 128)).take 1024 })
  | _ => s

/-- The lines of a packet become resident: two for a packet that straddles them (R81, R100). -/
def State.touchCode (s : State) (core : Nat) (j : Job) (pc : Nat) : State :=
  let va := j.packetVA pc
  let s := s.touchLine core j.pasid va
  if (va + 11) / 128 = va / 128 then s else s.touchLine core j.pasid (va + 11)

/-- The lines of the packets that a chained pair is fetched from become resident (R81, R103). -/
def State.touchPair (s : State) (core : Nat) (j : Job) (a : Arm) : State :=
  let s := s.touchCode core j a.pc
  if a.word = 2 then s.touchCode core j (a.pc + 1) else s

/-- Whether the fetch of an arm reads the next packet: its word is the last of its packet and chained (R103). -/
def State.crosses (s : State) (core : Nat) (j : Job) (a : Arm) : Bool :=
  a.word == 2 && decide (a.pc + 1 < j.npkt) && (match s.codeWord core j a.pc 2 with | .word x _ => chainBit x | _ => false)

/-- The lines that the fetch of an arm reads become resident (R81, R100, R103). -/
def State.touchFetched (s : State) (core : Nat) (j : Job) (a : Arm) : State :=
  if s.crosses core j a then s.touchPair core j a else s.touchCode core j a.pc

/-- A wait for the translation of a page (R285, R288): the arm holds, and the page is asked for. -/
def State.holdPage (s : State) (r : ArmRef) (pasid va : Nat) : State :=
  (s.askX r.core pasid va false).modArm r (fun a => { a with hold := .page false [(32, va)] })

end Sys2Proof.Machine
end

