-- ==== Sys2Proof/Machine/Global.lean ====
section
/-!
DEFINITION. Accesses to global memory by waves: address formation (R157, R159), translation of lanes (R288), miss-status entries
(R175, R176), reads (R171, R174, R178), the side log (R288), atomics (R204, R328), and requests to peers (R312).
-/

namespace Sys2Proof.Machine

/-! ### Addresses -/

/-- The enabled lanes of a global vector access with their virtual addresses (R157). -/
def Ctx.vaLanes (c : Ctx) (a b : BitVec 6) : List (Nat × Nat) :=
  (maskLanes c.lanes).map (fun l => (l, (c.wave.spair a.toNat + ((c.wave.vreg b.toNat).lane l).toNat) % 2 ^ 64))

/-- Aligns addresses down to a size (R159). -/
def alignLanes (n : Nat) (lanes : List (Nat × Nat)) : List (Nat × Nat) := lanes.map (fun e => (e.1, e.2 / n * n))

/-- Whether an access of `n` bytes touches the job's code segment (R100). -/
def Job.touchesCode (j : Job) (va n : Nat) : Bool := j.inCode va || j.inCode (va + n - 1)

/-- The first lane whose address is refused when it is formed, with the DET of the violation (R157, R100, R279). -/
def Ctx.badLane (c : Ctx) (store : Bool) (n : Nat) (lanes : List (Nat × Nat)) : Option (Nat × Nat) :=
  lanes.findSome? (fun e =>
    if !vaOk e.2 then some (e.2, 1) else if store && c.job.touchesCode (e.2 / n * n) n then some (e.2, 4) else none)

/-- The mask of lanes in a list. -/
def laneMask (lanes : List (Nat × Nat)) : Mask := maskOf (fun l => lanes.any (fun e => e.1 == l))

/-- The lowest of some lanes. -/
def lowestLane (lanes : List (Nat × Nat)) : Nat × Nat :=
  lanes.foldl (fun m e => if e.1 < m.1 then e else m) (lanes.headD (0, 0))

/-- The lanes whose addresses are refused when formed. -/
def Ctx.badMask (c : Ctx) (store : Bool) (n : Nat) (lanes : List (Nat × Nat)) : Mask :=
  laneMask (lanes.filter (fun e => (c.badLane store n [e]).isSome))

/-! ### Translation of lanes -/

/-- Whether the core's side log holds an entry for a page (R288). -/
def State.pageLogged (s : State) (core pasid va : Nat) : Bool :=
  (s.core core).sideLog.any (fun e => e.pasid == pasid && e.page == va / 4096)

/-- The target of a lane's address, unless its page waits (R285, R288). -/
def Ctx.laneTarget (c : Ctx) (s : State) (write : Bool) (va : Nat) : Option Target :=
  if s.pageLogged c.r.core c.job.pasid va then none
  else match s.xlate c.r.core c.job.pasid va write with
    | .hit t => some t
    | .miss => none

/-- The lanes that translate, with their addresses and targets. -/
def Ctx.hits (c : Ctx) (s : State) (write : Bool) (lanes : List (Nat × Nat)) : List (Nat × Nat × Target) :=
  lanes.filterMap (fun e => (c.laneTarget s write e.2).map (fun t => (e.1, e.2, t)))

/-- The lanes whose pages wait. -/
def Ctx.misses (c : Ctx) (s : State) (write : Bool) (lanes : List (Nat × Nat)) : List (Nat × Nat) :=
  lanes.filter (fun e => (c.laneTarget s write e.2).isNone)

/-- Asks for the translation of each page that has none. -/
def State.askPages (s : State) (core pasid : Nat) (write : Bool) (lanes : List (Nat × Nat)) : State :=
  lanes.foldl (fun s e => if s.xlate core pasid e.2 write = .miss then s.askX core pasid e.2 write else s) s

/-- The arm holds until one of its pages arrives, with its operands captured and its destinations empty (R288, R373). -/
def Ctx.holdPages (c : Ctx) (s : State) (write : Bool) (e : Nat × Nat) (es : List (Nat × Nat)) : State :=
  c.holdFor (.page write (e :: es)) true (s.askPages c.r.core c.job.pasid write (e :: es))

/-! ### Miss-status entries -/

/-- Miss-status entries in use on a core (R175). -/
def State.entriesUsed (s : State) (core : Nat) : Nat :=
  ((s.core core).slots.map (fun e => (e.2.inflight.map (fun p => p.lines)).sum)).sum +
    (s.links.map (fun d => ((d.2.open_.filter (fun q => q.core == core)).map (fun q => q.lines)).sum)).sum

/-- The miss-status entries that an access without a claim may take: none while an access holds the core's claim, to which every entry goes that frees
(R175, R176). -/
def State.entriesFree (s : State) (core : Nat) : Nat := if (s.core core).claim.isSome then 0 else 8192 - s.entriesUsed core

/-- The lines that accesses send beyond L1, each once (R175). -/
def State.missLines (s : State) (core pasid : Nat) (ts : List Target) : List Nat :=
  (ts.filterMap (fun t => match t with
    | .dpa a =>
      match NMap.get? (s.core core).l1 (a / 128) with
      | some l => if l.pasid = pasid ∧ l.hasSector (a % 128 / 32) then none else some (a / 128)
      | none => some (a / 128)
    | .host a => some (2 ^ 33 + a / 128)
    | .peer m a => some (2 ^ 60 * (m + 1) + a / 128))).dedup

/-- The lines that a non-temporal store sends beyond L1 (R174, R175): those that L1 does not hold. A peer's line is held by the request
to it. -/
def State.ntLines (s : State) (core pasid : Nat) (ts : List Target) : List Nat :=
  s.missLines core pasid (ts.filter (fun t => match t with
    | .dpa a => !(NMap.get? (s.core core).l1 (a / 128)).any (fun l => l.pasid == pasid)
    | _ => true))

/-- The core counts the rejection of an access; the 64th gives it the claim (R175, R176). -/
def Core.rejected (k : Core) (r : ArmRef) : Core :=
  let k := if k.rejects.any (fun e => e.1 == r) then
      { k with rejects := k.rejects.map (fun (e : ArmRef × Nat) => if e.1 = r then (e.1, min (e.2 + 1) 64) else e) }
    else { k with rejects := k.rejects ++ [(r, 1)] }
  if k.claim.isNone then { k with claim := k.nextClaim } else k

/-- Whether an access may take the miss-status entries that it needs: they are free, and no other access holds the claim (R175, R176). -/
def State.takesEntries (s : State) (core : Nat) (r : ArmRef) (need : Nat) : Bool :=
  let claim := (s.core core).claim
  need == 0 || (decide (s.entriesUsed core + need ≤ 8192) && (claim.isNone || claim == some r))

/-- The core rejects an access for want of entries (R175, R176). The access waits, with its operands captured, for a retry. -/
def Ctx.reject (c : Ctx) (s : State) : State := c.holdFor .rejected true (s.modCore c.r.core (fun k => k.rejected c.r))

/-- Goes on when the entries that an access needs are free and no other access holds the claim (R175, R176). -/
def Ctx.withEntries (c : Ctx) (need : Nat) (s : State) (k : State → State) : State :=
  if !s.takesEntries c.r.core c.r need then c.reject s
  else if (s.core c.r.core).rejects.any (fun e => e.1 == c.r) then k (s.modCore c.r.core (fun k => k.unclaim (fun r => r == c.r)))
  else k s

/-- The miss-status entries that an access of one word at a scope takes: none where the core's L1 holds the word and the scope is the
core's (R175, R189). -/
def State.scopeLines (s : State) (core pasid scope : Nat) (t : Target) : Nat :=
  if scope < 2 then (s.missLines core pasid [t]).length else 1

/-- The arm moves on; the miss-status entries that its access took are held until the response arrives (R175). -/
def Ctx.doneLines (c : Ctx) (lines : Nat) (s : State) : State :=
  if lines = 0 then c.done s else (c.launch { } { lines := lines } s).2

/-! ### Peers -/

/-- A request of this wave to a peer. -/
def Ctx.peerReq (c : Ctx) (op : PeerOp) (pend lane va : Nat) (ret : Bool) : LinkReq :=
  { tag := 0, op := op, sends := 1, core := c.r.core, slot := c.r.slot, uid := c.wave.uid, pend := pend, lane := lane,
    job := c.job.jid, wave := waveWord c.team c.r.slot c.wave, team := BitVec.ofNat 32 c.team.num,
    lanes := if lane < 32 then BitVec.ofNat 32 (2 ^ lane) else 0#32, va := va, ret := ret }

/-! ### Reads -/

/-- A read at the level of a scope (R189, R202); the core's own dirty bytes of the sector reach that level first
(assumption 12). -/
def State.readLevel (s : State) (core pasid scope : Nat) (t : Target) : State × List Byte × Bool :=
  match t with
  | .dpa a =>
    if scope < 2 then s.readL1 core pasid a 4
    else if scope = 2 ∧ s.hasCC (clusterOf core) then (s.flushSector core a false).readCC (clusterOf core) pasid a 4
    else (s.homeSector core t).readAt pasid t 4
  | _ => (s, s.readT t 4)

/-- Reads `n` bytes at a target as a plain load (R171, R174); a peer's bytes come later. -/
def State.readPlain (s : State) (core pasid : Nat) (nt : Bool) (t : Target) (n : Nat) : State × List Byte × Bool :=
  match t with
  | .dpa a => if nt then s.readNt core pasid a n else s.readL1 core pasid a n
  | _ => (s, s.readT t n)

/-- What the lanes of a load read: the state, and for each lane its address, its bytes, and whether they are poisoned. -/
def State.readLanes (s : State) (core pasid : Nat) (nt : Bool) (n : Nat) :
    List (Nat × Nat × Target) → State × List (Nat × Nat × List Byte × Bool)
  | [] => (s, [])
  | e :: es =>
    let (s, bs, p) := s.readPlain core pasid nt e.2.2 n
    let (s, l) := State.readLanes s core pasid nt n es
    (s, (e.1, e.2.1, bs, p) :: l)

/-- Bytes of a size code (R372). -/
def sizeBytes (z : Nat) : Nat := if z < 2 then 1 else if z < 4 then 2 else if z = 4 then 4 else if z = 5 then 8 else 16

/-- Word `k` of a lane's result by the size code (R372). -/
def loadWord (z : Nat) (bs : List Byte) (k : Nat) : Word :=
  if z = 1 then (BitVec.ofNat 8 (bytesNat bs)).signExtend 32
  else if z = 3 then (BitVec.ofNat 16 (bytesNat bs)).signExtend 32
  else bytesWord (bs.drop (4 * k))

/-- The registers that lanes read into a group (R372). -/
def loadRegs (z d : Nat) (l : List (Nat × Nat × List Byte × Bool)) : List (Nat × LaneVec) :=
  (List.range (sizeCount z)).map (fun k => (d + k, LaneVec.ofFn (fun lane =>
    match l.find? (fun e => e.1 == lane) with
    | some e => loadWord z e.2.2.1 k
    | none => 0#32)))

/-- What the lanes of a load read in peers, each address once, with its lanes: lanes that read the same bytes share a request, and so
its answer (R160, R312). -/
def peerReads (lanes : List (Nat × Nat × Target)) : List (Target × List (Nat × Nat)) :=
  (((lanes.map (fun e => e.2.2)).filter isPeer).dedup).map (fun t =>
    (t, (lanes.filter (fun e => e.2.2 == t)).map (fun e => (e.1, e.2.1))))

/-- The read requests of lanes that lead to peers (R312). -/
def Ctx.askPeers (c : Ctx) (pend n : Nat) (lanes : List (Nat × Nat × Target)) (s : State) : State :=
  (peerReads lanes).foldl (fun s e => match e.1, e.2 with
    | .peer m a, (l, va) :: _ => s.sendPeer m { c.peerReq (.read a n) pend l va true with lanes := laneMask e.2 }
    | _, _ => s) s

/-- The poison fault of an access of some lanes: at the sector of the lowest one (R178, R330). -/
def Ctx.poisonLanes (c : Ctx) (bad : List (Nat × Nat)) (s : State) : State :=
  c.faultLanes 0x13 0 ((lowestLane bad).2 / 32 * 32) (laneMask bad) s

/-- A plain load once every lane translates: entries, reads, poison, and the results in flight (R373, R175, R178). -/
def Ctx.loadGo (c : Ctx) (nt : Bool) (z : Nat) (lanes : List (Nat × Nat × Target)) (req : LoadReq)
    (res : List (Nat × Nat × List Byte × Bool) → Result) (s : State) : State :=
  let n := sizeBytes z
  let lines := (s.missLines c.r.core c.job.pasid (lanes.map (fun e => e.2.2))).length
  c.withEntries lines s (fun s =>
    let peers := peerReads lanes
    if !s.peersFit (peers.map (fun e => e.1)) then c.holdFor (.wait .link) true s
    else
      let (s, l) := s.readLanes c.r.core c.job.pasid nt n lanes
      let bad := (l.filter (fun e => e.2.2.2)).map (fun e => (e.1, e.2.1))
      if peers.isEmpty && !bad.isEmpty then c.poisonLanes bad s
      else
        let (id, s) := c.launch (res l) { isMem := true, left := peers.length, lines := lines, load := some req, bad := bad } s
        c.askPeers id n lanes s)

/-- A plain load of lanes with formed addresses (R373, R279, R288). -/
def Ctx.load (c : Ctx) (nt : Bool) (z : Nat) (lanes : List (Nat × Nat)) (req : LoadReq)
    (res : List (Nat × Nat × List Byte × Bool) → Result) (s : State) : State :=
  match c.badLane false (sizeBytes z) lanes with
  | some (va, det) => c.faultLanes 0x12 det va (c.badMask false (sizeBytes z) lanes) s
  | none =>
    let lanes := alignLanes (sizeBytes z) lanes
    match c.misses s false lanes with
    | e :: es => c.holdPages s false e es
    | [] => c.loadGo nt z (c.hits s false lanes) req res s

/-! ### Stores and the side log -/

/-- The bytes of a lane's store with their virtual addresses. -/
def laneBytes (va : Nat) (bs : List Byte) : List (Nat × Byte) := (List.range bs.length).map (fun k => (va + k, bs.getD k 0#8))

/-- The sectors of addresses (address / 32) that writes cover whole (R178). -/
def wholeSectors (ws : List (Nat × Byte)) : List Nat :=
  ((ws.map (fun e => e.1 / 32)).dedup).filter (fun k => (List.range 32).all (fun o => ws.any (fun e => e.1 == 32 * k + o)))

/-- Writes one instruction's bytes at device addresses as a plain store, line by line, with the poison rule of R178: a line that a full L1
gives up for a later one takes its mark with it. -/
def State.storePlain (s : State) (core pasid : Nat) (nt : Bool) (ws : List (Nat × Byte)) : State :=
  let whole := wholeSectors ws
  if nt then
    let s := s.storeNt core pasid ws
    let inL1 (k : Nat) : Bool := (NMap.get? (s.core core).l1 (k / 4)).any (fun l => l.pasid == pasid)
    let s := s.wholeL1 core pasid (whole.filter inL1)
    (whole.filter (fun k => !inL1 k)).foldl (fun s k => s.markSector (clusterOf core) false k) s
  else ((ws.map (fun e => e.1 / 128)).dedup).foldl (fun s la =>
    (s.storeL1 core pasid (ws.filter (fun e => e.1 / 128 == la))).wholeL1 core pasid (whole.filter (fun k => k / 4 == la))) s

/-- The entries that a store's waiting lanes make in the side log, one for each page (R288). -/
def Ctx.logEntries (c : Ctx) (ins : Nat) (nt : Bool) (atom : Option (Nat × Nat × Word × Word × Nat))
    (lanes : List (Nat × Nat × List Byte)) : List SideEntry :=
  ((lanes.map (fun e => e.2.1 / 4096)).dedup).map (fun page =>
    let mine := lanes.filter (fun e => e.2.1 / 4096 == page)
    { slot := c.r.slot, uid := c.wave.uid, arm := c.arm.ident, exm := c.arm.exm, tid := c.wave.tid, job := c.job.jid, pasid := c.job.pasid,
      page := page, va0 := ((mine.head?).map (fun e => e.2.1)).getD 0, lanes := maskOf (fun l => mine.any (fun e => e.1 == l)),
      parts := mine, whole := wholeSectors (mine.flatMap (fun e => laneBytes e.2.1 e.2.2)), nt := nt, atom := atom, pc := c.arm.pc, word := c.arm.word, ins := ins })

/-- The bytes that a side-log entry stores, with their virtual addresses. -/
def SideEntry.writes (e : SideEntry) : List (Nat × Byte) := e.parts.flatMap (fun p => laneBytes p.2.1 p.2.2)

/-- A byte that a store writes in a peer: its module, its address there, its virtual address, its lane and its value. -/
structure PeerByte where
  module : Nat
  at_ : Nat
  va : Nat
  lane : Nat
  val : Byte
  deriving DecidableEq, Repr

/-- The bytes that the lanes of a store write in peers, in lane order. -/
def peerBytes (lanes : List (Nat × Nat × Target × List Byte)) : List PeerByte :=
  lanes.flatMap (fun e => match e.2.2.1 with
    | .peer m a => (List.range e.2.2.2.length).map (fun k => ⟨m, a + k, e.2.1 + k, e.1, e.2.2.2.getD k 0#8⟩)
    | _ => [])

/-- One write request to a peer: bytes of one sector that follow each other, with the virtual address of the first and the lanes. -/
structure PeerWrite where
  module : Nat
  at_ : Nat
  va : Nat
  bytes : List Byte
  lanes : List Nat
  deriving DecidableEq, Repr

/-- Bytes of a sector in ascending order of address make runs, each a request. -/
def peerRuns : List (PeerByte × List Nat) → List PeerWrite
  | [] => []
  | (b, ls) :: rest =>
    match peerRuns rest with
    | w :: ws => if w.at_ = b.at_ + 1 then { w with at_ := b.at_, va := b.va, bytes := b.val :: w.bytes, lanes := ls ++ w.lanes } :: ws
        else { module := b.module, at_ := b.at_, va := b.va, bytes := [b.val], lanes := ls } :: w :: ws
    | [] => [{ module := b.module, at_ := b.at_, va := b.va, bytes := [b.val], lanes := ls }]

/-- What one store instruction sends to peers: each byte once, as the highest lane writes it (R160), the bytes of a sector that follow each
other in one request, so that a sector which the instruction covers whole is written by one write (R178, R312; assumption 27). -/
def peerWrites (lanes : List (Nat × Nat × Target × List Byte)) : List PeerWrite :=
  let bs := peerBytes lanes
  ((bs.map (fun b => (b.module, b.at_ / 32))).dedup).flatMap (fun k =>
    peerRuns ((List.range 32).filterMap (fun o =>
      let mine := bs.filter (fun b => b.module == k.1 && b.at_ == 32 * k.2 + o)
      mine.getLast?.map (fun b => (b, mine.map (fun x => x.lane))))))

/-- The targets of write requests to peers. -/
def PeerWrite.target (w : PeerWrite) : Target := .peer w.module w.at_

/-- The write requests of lanes that lead to peers are sent (R312). The last of each line holds the miss-status entry of a non-temporal
store (R175). -/
def Ctx.sendWrites (c : Ctx) (ins : Nat) (nt : Bool) : List PeerWrite → State → State
  | [], s => s
  | w :: ws, s =>
    let more := ws.any (fun x => x.module == w.module && x.at_ / 128 == w.at_ / 128)
    Ctx.sendWrites c ins nt ws (s.sendPeer w.module
      { c.peerReq (.write w.at_ w.bytes []) ins (w.lanes.headD scalarLane) w.va false with
        lanes := maskOf (fun l => w.lanes.contains l), lines := if nt && !more then 1 else 0 })

/-- The write requests of lanes that lead to peers (R312): lane, address, target, bytes. -/
def Ctx.writePeers (c : Ctx) (ins : Nat) (nt : Bool) (lanes : List (Nat × Nat × Target × List Byte)) (s : State) : State :=
  c.sendWrites ins nt (peerWrites lanes) s

/-- Performs the lanes of a store that translate: at device memory as one write, at host memory, and at peers (R160, R189,
R425). -/
def Ctx.storeHits (c : Ctx) (ins : Nat) (nt : Bool) (lanes : List (Nat × Nat × Target × List Byte)) (s : State) : State :=
  let dpa := lanes.flatMap (fun e => match e.2.2.1 with | .dpa a => laneBytes a e.2.2.2 | _ => [])
  let s := s.storePlain c.r.core c.job.pasid nt dpa
  let s := lanes.foldl (fun s e => match e.2.2.1 with
    | .host a => { s with hostMem := Memory.writeBytes s.hostMem a e.2.2.2 }
    | _ => s) s
  c.writePeers ins nt lanes s

/-- A plain store of lanes with formed addresses and their bytes (R425, R288). -/
def Ctx.store (c : Ctx) (nt : Bool) (n : Nat) (lanes : List (Nat × Nat)) (data : Nat → List Byte) (s : State) : State :=
  match c.badLane true n lanes with
  | some (va, det) => c.faultLanes 0x12 det va (c.badMask true n lanes) s
  | none =>
    let lanes := alignLanes n lanes
    let hits := (c.hits s true lanes).map (fun e => (e.1, e.2.1, e.2.2, data e.1))
    let misses := (c.misses s true lanes).map (fun e => (e.1, e.2, data e.1))
    let (ins, s) := s.fresh
    let entries := c.logEntries ins nt none misses
    if 1024 < (s.core c.r.core).sideLog.length + entries.length then c.holdFor (.wait .sideLog) true s
    else if !s.peersFit ((peerWrites hits).map PeerWrite.target) then c.holdFor (.wait .link) true s
    else
      let lines (ts : List Target) : Nat := if nt then (s.ntLines c.r.core c.job.pasid ts).length else 0
      let own := lines ((hits.map (fun e => e.2.2.1)).filter (fun t => !isPeer t))
      c.withEntries (lines (hits.map (fun e => e.2.2.1))) s (fun s =>
        let s := c.storeHits ins nt hits s
        let s := s.askPages c.r.core c.job.pasid true (c.misses s true lanes)
        c.doneLines own (s.modCore c.r.core (fun k => { k with sideLog := k.sideLog ++ entries })))

/-! ### Atomics -/

/-- The new word of an atomic (R328). -/
def atomNew (fn : Nat) (w d n : Word) : Word :=
  match fn with
  | 0 => w + d
  | 1 => BitVec.ofNat 32 (Fmt.f32.add .rne w.toNat d.toNat).1
  | 2 => mini w d
  | 3 => maxi w d
  | 4 => minn w d
  | 5 => maxn w d
  | 6 => w &&& d
  | 7 => w ||| d
  | 8 => w ^^^ d
  | 9 => d
  | _ => if w = d then n else w

/-- The PCIe AtomicOps that host memory takes (R329). -/
def hostAtomic (fn : Nat) : Bool := fn == 0 || fn == 9 || fn == 10

/-- An atomic at the home of a word (R204): its old value, or none where the sector is poisoned (R178). -/
def State.atomHome (s : State) (core pasid : Nat) (t : Target) (fn : Nat) (d n : Word) : State × Option Word :=
  let (s, bs, p) := (s.homeSector core t).readAt pasid t 4
  if p then (s, none)
  else
    let w := bytesWord bs
    (s.cellPut core pasid t 0 [atomNew fn w d n], some w)

/-- An atomic at the level of a scope (R189, R204, R328). -/
def State.atomScope (s : State) (core pasid scope : Nat) (t : Target) (fn : Nat) (d n : Word) : State × Option Word :=
  match t with
  | .dpa a =>
    if scope < 2 then
      let (s, bs, p) := s.readL1 core pasid a 4
      if p then (s, none)
      else
        let w := bytesWord bs
        (s.storeL1 core pasid (laneBytes a (natBytes 4 (atomNew fn w d n).toNat)), some w)
    else if scope = 2 ∧ s.hasCC (clusterOf core) then
      let cl := clusterOf core
      let s := s.flushSector core a false
      let (s, bs, p) := s.readCC cl pasid a 4
      if p then (s, none)
      else
        let w := bytesWord bs
        let l := NMap.at (s.cluster cl).cc (a / 128) { pasid := pasid }
        let l := (laneBytes (a % 128) (natBytes 4 (atomNew fn w d n).toNat)).foldl (fun (l : CLine) e => l.store e.1 e.2) l
        ((s.setCC cl (a / 128) l).modCore core (fun k => k.sign (a / 128)), some w)
    else s.atomHome core pasid t fn d n
  | _ => s.atomHome core pasid t fn d n

end Sys2Proof.Machine
end

