-- ==== Sys2Proof/Machine/System.lean ====
section
/-!
DEFINITION. The system group (R111): NOP, EXIT, traps, switch-deferral windows, control registers (R69 to R72), fences (R197),
DRAIN, rendezvous (R402), stream ports (R420), message ports (R390), the pennant (R227), CWAIT (R344), and the illegal word (R113).
-/

namespace Sys2Proof.Machine

/-! ### NOP, EXIT, traps, the illegal word -/

/-- NOP (R393). -/
def execNop (s : State) : Host.Outcome State Fault Refusal := s.run .nop (fun c s => c.done s)

/-- EXIT (R357). -/
def execExit (s : State) : Host.Outcome State Fault Refusal := s.run .exit (fun c s => s.endWave c.r.core c.r.slot true)

/-- The trap that TRAP and BRK ask for (R275, R276). -/
def Ctx.askedTrap (c : Ctx) (code : Nat) (i : BitVec 13) (s : State) : State :=
  s.enterTrap c.r ⟨c.arm.pc, c.arm.word, c.arm.exm, false⟩ code i.toNat (c.job.wordVA c.arm) (c.job.packetVA (c.arm.pc + 1))

/-- TRAP (R439). -/
def execTrap (i : BitVec 13) (s : State) : Host.Outcome State Fault Refusal := s.run (.trap i) (fun c s => c.askedTrap 1 i s)

/-- BRK (R338). -/
def execBrk (i : BitVec 13) (s : State) : Host.Outcome State Fault Refusal := s.run (.brk i) (fun c s => c.askedTrap 2 i s)

/-- A word that is no instruction (R113): the fault of the arm that issues it. -/
def execIllegalInstruction (_w : Word) (s : State) : Host.Outcome State Fault Refusal :=
  match s.ctx? .nop with
  | some c => .next (c.illegal s)
  | none => .fault .noIssuingArm

/-! ### PREOFF and PREON -/

/-- PREOFF (R274). -/
def execPreoff (a : BitVec 6) (s : State) : Host.Outcome State Fault Refusal :=
  s.run (.preoff a) (fun c s =>
    let n := c.wave.sreg a.toNat
    if n.toNat = 0 ∨ c.job.plim < n.toNat then c.fault 0x10 0 n.toNat s
    else if c.wave.pres = 0#32 ∧ c.team.switching = false then
      s.modWave c.r.core c.r.slot (fun w => { w with pres := n, opened := true }.modArm c.r.arm Arm.advance)
    else c.done s)

/-- PREON (R274). -/
def execPreon (s : State) : Host.Outcome State Fault Refusal :=
  s.run .preon (fun c s => s.modWave c.r.core c.r.slot (fun w => { w with pres := 0#32, opened := false }.modArm c.r.arm Arm.advance))

/-! ### Control registers -/

/-- MSTAT.BUSY (R71): from an MMA until the engine holds no operation (R386), and while a follow-on has not ended (R216). -/
def Core.matrixBusyBit (k : Core) : Bool := (k.mbusy && !k.matQ.isEmpty) || k.matQ.any (fun o => o.kind == .mma)

/-- MSTAT (R71): NARROW, BUSY and GANG. -/
def State.mstat (s : State) (core : Nat) : Word :=
  let k := s.core core
  BitVec.ofNat 32 ((if k.narrow then 1 else 0) + (if k.matrixBusyBit then 2 else 0) +
    (if s.isGanged core then 4 else 0))

/-- The value of a control register as GETC returns it (R71, R72, R369); none for an index that R71 does not assign. -/
def Ctx.control (c : Ctx) (s : State) (i : Nat) : Option Word :=
  let core := c.r.core
  let ck := (s.stack (stackOf core)).ck
  match i with
  | 0 => some c.wave.modeNow
  | 1 => some c.wave.flags
  | 2 => some c.wave.ltileNow
  | 3 => some c.wave.etrap
  | 4 => some c.arm.exm
  | 5 => some (waveWord c.team c.r.slot c.wave)
  | 6 => some (BitVec.ofNat 32 c.team.num)
  | 7 => some (if c.team.isTask then 0#32 else BitVec.ofNat 32 c.job.g)
  | 8 => some (BitVec.ofNat 32 core)
  | 9 => some (BitVec.ofNat 32 (clusterOf core))
  | 10 => some (BitVec.ofNat 32 (stackOf core))
  | 11 => some (BitVec.ofNat 32 c.job.num)
  | 12 => some c.wave.tfutl
  | 13 => some c.wave.tfuth
  | 14 => some (lo32 (s.capMask core).toNat)
  | 15 => some (hi32 (s.capMask core).toNat)
  | 16 => some (lo32 ck)
  | 17 => some (hi32 (c.wave.cycCap.getD ck))
  | 18 => some c.wave.spld
  | 19 => some (s.mstat core)
  | 20 => some ((s.core core).penn c.r.slot)
  | 21 => some c.wave.fcause
  | 22 => some c.wave.faddl
  | 23 => some c.wave.faddh
  | 24 => some c.wave.pres
  | 25 => some c.wave.aband
  | 26 => some (s.core core).dqdep
  | 27 => some (BitVec.ofNat 32 c.job.loct)
  | _ => none

/-- Whether an earlier instruction of the wave has yet to deliver FLAGS (R369). -/
def Wave.flagsPending (w : Wave) : Bool := w.inflight.any (fun p => p.hasFlags)

/-- GETC (R368, R369): a read of CYCL captures the count (R70). -/
def execGetc (d : BitVec 6) (i : BitVec 13) (s : State) : Host.Outcome State Fault Refusal :=
  s.run (.getc d i) (fun c s =>
    match c.control s i.toNat with
    | none => c.illegal s
    | some v =>
      if i.toNat = 1 ∧ c.wave.flagsPending then c.wait .flags s
      else
        let ck := (s.stack (stackOf c.r.core)).ck
        s.modWave c.r.core c.r.slot (fun w =>
          ({ w with cycCap := if i.toNat = 16 then some ck else w.cycCap }.setS d.toNat v).modArm c.r.arm Arm.advance))

/-- A write of a control register (R69, R71): none for a register that is read-only or unassigned, or for a value with a
reserved bit or field value set. -/
def setControl (i : Nat) (v : Word) : Option (Wave → Wave) :=
  match i with
  | 0 => if v.toNat < 4 then some (fun w => { w with mode := v, mode0 := some w.modeNow }) else none
  | 1 => if v.toNat < 32 then some (fun w => { w with flags := v }) else none
  | 2 => if v.toNat < 5 then some (fun w => { w with ltile := v, ltile0 := some w.ltileNow }) else none
  | 3 => if v.toNat < 8 then some (fun w => { w with etrap := v }) else none
  | 12 => some (fun w => { w with tfutl := v })
  | 13 => some (fun w => { w with tfuth := v })
  | 25 => if v &&& 0x7F000000#32 = 0#32 then some (fun w => { w with aband := v }) else none
  | _ => none

/-- SETC (R413). -/
def execSetc (a : BitVec 6) (i : BitVec 13) (s : State) : Host.Outcome State Fault Refusal :=
  s.run (.setc a i) (fun c s =>
    let v := c.wave.sreg a.toNat
    if i.toNat = 4 then s.modArm c.r (fun x => { x.advance with exm := v &&& x.entry })
    else match setControl i.toNat v with
      | none => c.illegal s
      | some f =>
        if i.toNat = 1 ∧ c.wave.flagsPending then c.wait .flags s
        else s.modWave c.r.core c.r.slot (fun w => (f w).modArm c.r.arm Arm.advance))

/-! ### Fences and DRAIN -/

/-- The numbers below which instructions of the wave are earlier than this one: every number yet given, or, once it has issued, its
own. -/
def Ctx.before (c : Ctx) (s : State) : Nat := (c.held.map (fun p => p.id)).getD s.handles

/-- Goes on once every earlier access of the wave is performed (R194, R197); until then the word has issued and holds its arm. A future
operation that waits for its cell's page is not counted, nor is an access that the wave's other arm issues later: R194 does not say
how accesses of two arms are ordered, and this is the model's choice (assumption 35). `mem` says that the instruction is an access
itself. -/
def Ctx.afterAccesses (c : Ctx) (s : State) (k : State → State) (mem : Bool := false) : State :=
  if s.unperformed c.r.core c.wave (c.before s) then c.holdFor (.wait .earlier) mem s else k s

/-- At fabric scope a release also waits for the core's writes to peers (R196). -/
def State.fabricOpen (s : State) (core scope : Nat) : Bool :=
  scope == 6 && s.links.any (fun d => d.2.open_.any (fun q => q.core == core))

/-- FENCE (R197, R198). -/
def execFence (sc : BitVec 3) (s : State) : Host.Outcome State Fault Refusal :=
  s.run (.fence sc) (fun c s => c.afterAccesses s (fun s => c.done (s.fenceAt c.r.core sc.toNat)))

/-- ACQ (R195, R325). -/
def execAcq (sc : BitVec 3) (s : State) : Host.Outcome State Fault Refusal :=
  s.run (.acq sc) (fun c s => s.finishAcquire c.r sc.toNat)

/-- REL (R194, R404). -/
def execRel (sc : BitVec 3) (s : State) : Host.Outcome State Fault Refusal :=
  s.run (.rel sc) (fun c s => c.afterAccesses s (fun s =>
    if s.fabricOpen c.r.core sc.toNat then c.holdFor (.wait .earlier) false s else c.done (s.release c.r.core sc.toNat)))

/-- The store instructions of a wave below a number that are outstanding (R355): those in the side log, those not acknowledged by a
peer, and those that have issued and wait; every other store is performed when it issues. -/
def State.outstanding (s : State) (core : Nat) (w : Wave) (below : Nat) : Nat :=
  let logged := ((s.core core).sideLog.filter (fun e => e.uid == w.uid)).map (fun e => e.ins)
  let peer := ((s.peerOpen w).filter (fun q => !q.isRead && !q.ret && q.pend != 0)).map (fun q => q.pend)
  let caught := (w.captures.filter (fun q => isStore q.ins)).map (fun q => q.id)
  ((logged ++ peer ++ caught).filter (fun k => decide (k < below))).dedup.length

/-- DRAIN (R355): it waits for stores that issued before it. -/
def execDrain (n : BitVec 13) (s : State) : Host.Outcome State Fault Refusal :=
  s.run (.drain n) (fun c s =>
    if s.outstanding c.r.core c.wave (c.before s) ≤ n.toNat then c.done s else c.holdFor (.wait .earlier) false s)

/-! ### Rendezvous -/

/-- The split-sync fault of R61, or the rest of a rendezvous instruction. -/
def Ctx.rendezvous (c : Ctx) (s : State) (k : State → State) : State :=
  if c.wave.isSplit then c.fault 0x19 0 0 s else k s

/-- RDVI (R65, R402). -/
def execRdvi (a : BitVec 6) (p : BitVec 5) (s : State) : Host.Outcome State Fault Refusal :=
  s.run (.rdvi a p) (fun c s => c.rendezvous s (fun s =>
    let n := (c.wave.sreg a.toNat).toNat
    let pt := c.team.point p.toNat
    if n < 1 ∨ 4095 < n then c.fault 0x10 0 n s
    else match pt.e with
      | some e => if e = n then c.done s else c.illegal s
      | none => c.done (s.modTeam c.wave.tid (fun t => { t with points := NMap.put t.points p.toNat { pt with e := some n } }))))

/-- RDVA's arrival (R66); the RDVW instructions that wait for a phase which it completes return when the cycle ends (R37). -/
def Ctx.arrive (c : Ctx) (p e : Nat) (s : State) : State :=
  let pt := (s.team c.wave.tid).point p
  let full := pt.a + 1 == e
  let s := s.modWave c.r.core c.r.slot (fun w => { w with arrived := NMap.put w.arrived p pt.phase }.modArm c.r.arm Arm.advance)
  s.modTeam c.wave.tid (fun t =>
    { t with points := NMap.put t.points p (if full then ⟨pt.e, 0, pt.phase + 1⟩ else ⟨pt.e, pt.a + 1, pt.phase⟩) })

/-- RDVA (R66, R402): a release at cluster scope, then the arrival. -/
def execRdva (p : BitVec 5) (s : State) : Host.Outcome State Fault Refusal :=
  s.run (.rdva p) (fun c s => c.rendezvous s (fun s =>
    match (c.team.point p.toNat).e with
    | none => c.illegal s
    | some e => c.afterAccesses s (fun s => c.arrive p.toNat e (s.release c.r.core 2))))

/-- RDVW (R66, R67, R402). In the cycle in which its team becomes abandoned it waits, as its phase may still complete. -/
def execRdvw (p : BitVec 5) (s : State) : Host.Outcome State Fault Refusal :=
  s.run (.rdvw p) (fun c s => c.rendezvous s (fun s =>
    let pt := c.team.point p.toNat
    match pt.e with
    | none => c.illegal s
    | some _ =>
      let phase := NMap.at c.wave.arrived p.toNat pt.phase
      if phase < pt.phase then s.finishAcquire c.r 2
      else if c.team.abandoned && !c.team.abandoning then s.abandonArm c.r p.toNat
      else s.modArm c.r (fun a => { a with hold := .rendezvous p.toNat phase })))

/-! ### Stream and message ports -/

/-- Whether a vector register is empty in any view of the wave (R420). -/
def Wave.emptyAnywhere (w : Wave) (r : Nat) : Bool :=
  w.arms.any (fun e => e.2.empty.any (fun x => x.1 == r)) || w.stack.any (fun e => e.empty.any (fun x => x.1 == r)) ||
    w.groups.any (fun e => e.empty.any (fun x => x.1 == r))

/-- SMAP (R420). -/
def execSmap (b : BitVec 6) (p : BitVec 2) (s : State) : Host.Outcome State Fault Refusal :=
  s.run (.smap b p) (fun c s =>
    if c.team.fifoN ≤ b.toNat then c.illegal s
    else if c.wave.emptyAnywhere (60 + p.toNat) then c.wait .empty s
    else s.modWave c.r.core c.r.slot (fun w => { w with ports := NMap.put w.ports p.toNat b.toNat }.modArm c.r.arm Arm.advance))

/-- Whether an instruction names a vector register. -/
def names (i : Instr) (r : Nat) : Bool := (uses i).vs.any (fun e => e.1 == r) || (uses i).vd.contains r

/-- The wave's other arm. -/
def Ctx.others (c : Ctx) : List Ctx :=
  (c.wave.arms.filter (fun (e : Nat × Arm) => e.1 != c.r.arm)).map (fun e => { c with r := { c.r with arm := e.1 }, arm := e.2 })

/-- The words that an arm would issue next. -/
def Ctx.nextWords (c : Ctx) (s : State) : List Instr :=
  match s.fetch c.r.core c.wave c.job c.arm with
  | .one i => [i]
  | .two i j => [i, j]
  | _ => []

/-- Whether an arm is blocked at its next word or pair (R38, R52). -/
def Ctx.blocked (c : Ctx) (s : State) : Bool :=
  (match c.arm.hold with | .none | .wait _ => true | _ => false) &&
    (c.nextWords s).any (fun i => match ({ c with lanes := c.arm.exm &&& c.wave.preg (guardOf i) } : Ctx).check (s.core c.r.core) i with
      | .wait _ => true
      | _ => false)

/-- Whether another arm of the wave is held at an instruction that names a register, or blocked at one (R420). -/
def Ctx.otherNames (c : Ctx) (s : State) (r : Nat) : Bool :=
  c.others.any (fun d => d.arm.cap.any (fun q => names q.ins r) || d.arm.also.any (fun e => names e.2.ins r) || (d.blocked s && (d.nextWords s).any (fun i => names i r)))

/-- SUNMAP (R420). -/
def execSunmap (p : BitVec 2) (s : State) : Host.Outcome State Fault Refusal :=
  s.run (.sunmap p) (fun c s =>
    let r := 60 + p.toNat
    if (c.wave.portBank r).isNone then c.done s
    else if c.wave.inflight.any (fun q => q.push.any (fun e => e.1 == r)) || c.otherNames s r then c.wait .ring s
    else s.modWave c.r.core c.r.slot (fun w => { w with ports := NMap.del w.ports p.toNat }.modArm c.r.arm Arm.advance))

/-- Whether another arm of the wave waits with a write to s505 for room in the injection buffer (R390). -/
def Ctx.otherInjects (c : Ctx) (s : State) : Bool :=
  decide (16 ≤ (s.core c.r.core).txq.length) && c.others.any (fun d => (d.nextWords s).any (fun i => match i with
    | .sxset a _ => (c.wave.sreg a.toNat).toNat == 505
    | _ => false))

/-- MQCFG (R390). -/
def execMqcfg (e : BitVec 1) (s : State) : Host.Outcome State Fault Refusal :=
  s.run (.mqcfg e) (fun c s =>
    let mine := (s.core c.r.core).port == some c.r.slot
    if e = 1#1 then
      if mine then c.done s
      else if (s.core c.r.core).port.isSome then c.wait .port s
      else c.done (s.modCore c.r.core (fun k =>
        { k with port := some c.r.slot, pDest := 0#32, pDrop := false,
                 rxq := if k.rxq.any (fun m => m.job != c.job.jid) then [] else k.rxq }))
    else if !mine then c.done s
    else if c.otherInjects s then c.wait .inject s
    else c.done (s.modCore c.r.core (fun k => { k with port := none })))

/-! ### The pennant -/

/-- The pennant fault: FADDL holds PENN (R397). -/
def Ctx.pennantFault (c : Ctx) (s : State) : State := c.fault 0x1C 0 ((s.core c.r.core).penn c.r.slot).toNat s

/-- PTAKE (R227, R397). One that issues again after a switch keeps its place in the queue that was saved (R229, R467). -/
def execPtake (s : State) : Host.Outcome State Fault Refusal :=
  s.run .ptake (fun c s =>
    match (s.core c.r.core).holder with
    | none => c.done (s.givePennant c.r.core c.r.slot)
    | some h =>
      if h = c.r.slot then c.done s
      else (s.modCore c.r.core (fun k => { k with queue := if k.queue.contains c.r then k.queue else k.queue ++ [c.r] })).modArm c.r
        (fun a => { a with hold := .pennant }))

/-- A pass waits for the holder's matrix operations, and is made at once when there are none (R227). -/
def Ctx.pass (c : Ctx) (target : Option Nat) (s : State) : State :=
  (s.modArm c.r (fun a => { a with hold := .passing target })).settlePennant c.r.core

/-- PPASS (R227, R397). -/
def execPpass (a : BitVec 6) (s : State) : Host.Outcome State Fault Refusal :=
  s.run (.ppass a) (fun c s =>
    let v := (c.wave.sreg a.toNat).toNat
    if 64 ≤ v then c.fault 0x10 0 v s
    else if (s.core c.r.core).holder ≠ some c.r.slot then c.pennantFault s
    else match s.wave? c.r.core v with
      | none => c.pennantFault s
      | some w =>
        if w.ended ∨ (s.team w.tid).job ≠ c.job.jid then c.pennantFault s else c.pass (some w.uid) s)

/-- PPASS.free (R227, R397). -/
def execPpassFree (s : State) : Host.Outcome State Fault Refusal :=
  s.run .ppassFree (fun c s =>
    if (s.core c.r.core).holder ≠ some c.r.slot then c.pennantFault s else c.pass none s)

/-! ### CWAIT -/

/-- CWAIT (R344): ignores the object's full/empty bit. -/
def execCwait (a : BitVec 6) (s : State) : Host.Outcome State Fault Refusal :=
  s.run (.cwait a) (fun c s =>
    let x := (c.wave.sreg a.toNat).toNat
    let al := s.alloc c.team.alloc
    if x % 16 ≠ 0 then c.fault 0x10 0 x s
    else if al.bytes < x + 16 then c.fault 0x12 2 x s
    else match al.poisonIn x 4 with
      | some sector => c.fault 0x13 0 sector s
      | none => if bytesNat (al.bytesAt x 4) = 0 then s.finishAcquire c.r 2 else c.holdFor (.wait .completion) false s)

end Sys2Proof.Machine
end

