-- ==== Sys2Proof/Machine/Matrix.lean ====
section
/-!
DEFINITION. The matrix engine: ACCZ, ACCLD, ACCST (R222, R223, R321 to R324), MMA and MMA.mc (R153 to R156, R219 to R229, R385
to R389), and the passing of its queue (R224).
-/

namespace Sys2Proof.Machine

/-! ### Formats and shapes -/

/-- E(f): element bytes of a format code (R319). -/
def elemBytes (f : Nat) : Nat := if f = 1 ∨ f = 8 then 4 else if f = 2 ∨ f = 3 then 2 else 1

/-- The capability class of an MMA's pair; none for a pair outside R154 (R297). -/
def pairClass (a b : Nat) : Option Nat :=
  if a = 2 ∧ b = 2 then some 15
  else if a = 3 ∧ b = 3 then some 16
  else if (a = 4 ∨ a = 5) ∧ (b = 4 ∨ b = 5) then some 17
  else if a = 6 ∧ b = 6 then some 18
  else if a = 7 ∧ b = 3 then some 19
  else if a = 7 ∧ b = 4 then some 20
  else none

/-- The capability class of ACCLD and ACCST by OF; none for a format that R154 does not allow (R297). -/
def accClass (f : Nat) : Option Nat :=
  if f = 1 ∨ f = 2 ∨ f = 3 then some 21 else if f = 4 ∨ f = 5 then some 22 else if f = 8 then some 23 else none

/-- A shape record in registers (R219). -/
def Wave.shape (w : Wave) (r : Nat) : Shape :=
  { laddr := (w.sreg r).toNat, rows := wbits (w.sreg (r + 1)) 31 16, cols := wbits (w.sreg (r + 1)) 15 0,
    pitch := (w.sreg (r + 2)).toNat, scale := (w.sreg (r + 3)).toNat }

/-- Stored rows and their bytes of A (R220). -/
def storedA (f : Slot) (a : Shape) : Nat × Nat :=
  if f.af = 7 then (a.rows, a.cols / 2)
  else if f.ta then (a.cols, a.rows * elemBytes f.af)
  else (a.rows, a.cols * elemBytes f.af)

/-- Stored rows and their bytes of B (R220). -/
def storedB (f : Slot) (b : Shape) : Nat × Nat :=
  if f.tb then (b.cols, b.rows * elemBytes f.bf) else (b.rows, b.cols * elemBytes f.bf)

/-- Bytes of A's scale area (R220). -/
def scaleBytes (f : Slot) (a : Shape) : Nat := (if f.blk then 4 else 4 * a.rows) + a.rows * (a.cols / 64)

/-- The width of an accumulator tile (R222). -/
def accWidth (ganged : Bool) : Nat := if ganged then 128 else 64

/-- The shape mismatch of an MMA: 0 for what concerns A, 1 for what concerns B (R221, R388). -/
def mmaMismatch (ganged : Bool) (f : Slot) (a b : Shape) : Option Nat :=
  if a.rows = 0 ∨ 128 < a.rows ∨ a.cols % 64 ≠ 0 ∨ a.cols < 64 ∨ 4096 < a.cols ∨ (f.af = 7 ∧ a.scale = 0) ∨
      (f.af ≠ 7 ∧ a.scale ≠ 0) ∨ a.pitch < (storedA f a).2 ∨ a.laddr % 16 ≠ 0 ∨ a.pitch % 16 ≠ 0 ∨ a.scale % 4 ≠ 0 then some 0
  else if a.cols ≠ b.rows ∨ b.cols = 0 ∨ accWidth ganged < b.cols ∨ b.scale ≠ 0 ∨ b.pitch < (storedB f b).2 ∨
      b.laddr % 16 ≠ 0 ∨ b.pitch % 16 ≠ 0 then some 1
  else none

/-- The lowest address at or beyond an allocation that rows touch (R158). -/
def rowsBeyond (bytes base pitch rows rb : Nat) : Option Nat :=
  ((List.range rows).find? (fun r => decide (bytes < base + r * pitch + rb))).map (fun r => max (base + r * pitch) bytes)

/-- The lowest offending local address of an MMA's operands and scale area (R386, R388). -/
def mmaBeyond (bytes : Nat) (f : Slot) (a b : Shape) : Option Nat :=
  ([rowsBeyond bytes a.laddr a.pitch (storedA f a).1 (storedA f a).2,
    rowsBeyond bytes b.laddr b.pitch (storedB f b).1 (storedB f b).2,
    if f.af = 7 then rowsBeyond bytes a.scale 0 1 (scaleBytes f a) else none].filterMap (fun x => x)).min?

/-! ### Elements and sums -/

/-- The value of an element by its format code (R151). -/
def element (f x : Nat) : Num :=
  let int (v : Int) : Num := .fin (decide (v < 0)) v.natAbs 0
  match f with
  | 1 => Fmt.f32.num x
  | 2 => Fmt.f16.num x
  | 3 => Fmt.bf16.num x
  | 4 => Fmt.f8e4.num x
  | 5 => Fmt.f8e5.num x
  | 6 => int (asInt 8 x)
  | 7 => Fmt.bf16.num (codebook.getD x 0)
  | _ => int (asInt 32 x)

/-- An exact product; integers have no negative zero (R155, R156). -/
def product (f : Nat) (x y : Num) : Num :=
  match Num.mul x y with
  | .fin n m e => .fin (n && !(f == 6 && m == 0)) m e
  | z => z

/-- Whether a number is negative zero. -/
def Num.negZero : Num → Bool
  | .fin n m _ => n && m == 0
  | _ => false

/-- The exact sum of a group of products (R155, R156). -/
def groupSum (ps : List Num) : Num :=
  if ps.contains .nan || (ps.contains (.inf true) && ps.contains (.inf false)) then .nan
  else if ps.contains (.inf true) then .inf true
  else if ps.contains (.inf false) then .inf false
  else
    let d := ps.foldl (fun d p => Dy.add d p.dy) Dy.zero
    if d.m = 0 then .fin (ps.all Num.negZero) 0 0 else .fin (decide (d.m < 0)) d.m.natAbs d.e

/-- RoundF32 in rne, with the default NaN (R155, R156). -/
def roundNum (f : Fmt) (x : Num) : Nat :=
  match x with
  | .nan => f.defNan
  | .inf n => f.infinity n
  | .fin n m e => (f.round .rne false n m e).1

/-- The addition of a group sum into an accumulator element (R155, R156). -/
def accumulate (acc : Word) (sum : Num) : Word :=
  let r := (Fmt.f32.add .rne acc.toNat (roundNum .f32 sum)).1
  BitVec.ofNat 32 (if Fmt.f32.isNan r then Fmt.f32.defNan else r)

/-- An element of SCRATCH. -/
def Alloc.elem (al : Alloc) (f a : Nat) : Num := element f (bytesNat (al.bytesAt a (elemBytes f)))

/-- A[i][k] (R220). -/
def MatOp.aElem (o : MatOp) (al : Alloc) (i k : Nat) : Num :=
  if o.fmt.af = 7 then element 7 (getElem (Memory.read al.cells (o.a.laddr + i * o.a.pitch + k / 2)).toNat 4 (k % 2))
  else
    let e := elemBytes o.fmt.af
    al.elem o.fmt.af (if o.fmt.ta then o.a.laddr + k * o.a.pitch + i * e else o.a.laddr + i * o.a.pitch + k * e)

/-- B[k][j] (R220). -/
def MatOp.bElem (o : MatOp) (al : Alloc) (k j : Nat) : Num :=
  let e := elemBytes o.fmt.bf
  al.elem o.fmt.bf (if o.fmt.tb then o.b.laddr + j * o.b.pitch + k * e else o.b.laddr + k * o.b.pitch + j * e)

/-- scaleA(i, q): S and (b + 1) / 256 (R148, R220). -/
def MatOp.scale (o : MatOp) (al : Alloc) (i q : Nat) : Num :=
  let sAt := if o.fmt.blk then o.a.scale else o.a.scale + 4 * i
  let bAt := (if o.fmt.blk then o.a.scale + 4 else o.a.scale + 4 * o.a.rows) + i * (o.a.cols / 64) + q
  Num.mul (al.elem 1 sAt) (.fin false ((Memory.read al.cells bAt).toNat + 1) (-8))

/-- The products of a group of `n` values of k from `k0` (R155). For nq4 each product carries the scale: the exact sum is the same, and a
NaN or an infinity of S enters as R220 says. For a finite S the rules do not say what sign a sum that is exactly zero then has: this
model tests the scaled products for -0 (assumption 40). -/
def MatOp.products (o : MatOp) (al : Alloc) (i j k0 n : Nat) : List Num :=
  (List.range n).map (fun d =>
    let p := product o.fmt.af (o.aElem al i (k0 + d)) (o.bElem al (k0 + d) j)
    if o.fmt.af = 7 then Num.mul p (o.scale al i (k0 / 64)) else p)

/-- One K block of 64 added into an accumulator element (R155): one group of 64 for nq4, else four groups of 16. -/
def MatOp.blockElem (o : MatOp) (al : Alloc) (q i j : Nat) (acc : Word) : Word :=
  if o.fmt.af = 7 then accumulate acc (groupSum (o.products al i j (64 * q) 64))
  else [0, 1, 2, 3].foldl (fun x g => accumulate x (groupSum (o.products al i j (64 * q + 16 * g) 16))) acc

/-! ### Accumulators -/

/-- The place of an accumulator element (R222). -/
def accKey (k i j : Nat) : Nat := k * 16384 + i * 128 + j

/-- An accumulator element; an unlisted one is +0. -/
def Core.accElem (c : Core) (k i j : Nat) : Word := NMap.at c.acc (accKey k i j) 0#32

/-- The places (i, j) of a tile. -/
def tilePlaces (rows cols : Nat) : List (Nat × Nat) := (List.range rows).flatMap (fun i => (List.range cols).map (fun j => (i, j)))

/-- Writes accumulator elements. -/
def Core.setAcc (c : Core) (k : Nat) (ps : List (Nat × Nat)) (f : Nat → Nat → Word) : Core :=
  { c with acc := ps.foldl (fun (m : NMap Word) (p : Nat × Nat) => NMap.set m 0#32 (accKey k p.1 p.2) (f p.1 p.2)) c.acc }

/-- ACCZ's effect (R222, R225). -/
def Core.zeroAcc (c : Core) (k : Nat) : Core :=
  { c with acc := c.acc.filter (fun e => e.1 / 16384 != k), accPois := NMap.del c.accPois k }

/-- The lowest poisoned sector that rows touch. -/
def Alloc.rowsPoison (al : Alloc) (base pitch rows rb : Nat) : Option Nat :=
  ((List.range rows).filterMap (fun r => al.poisonIn (base + r * pitch) rb)).min?

/-- The lowest of some addresses. -/
def lowest (xs : List (Option Nat)) : Option Nat := (xs.filterMap (fun x => x)).min?

/-- The poisoned sector that K block `q` of an MMA reads: of A, of B, of A's scales (R220, R225). -/
def MatOp.poison (o : MatOp) (al : Alloc) (q : Nat) : Option Nat :=
  let ea := elemBytes o.fmt.af
  let eb := elemBytes o.fmt.bf
  lowest
    [if o.fmt.af = 7 then al.rowsPoison (o.a.laddr + 32 * q) o.a.pitch o.a.rows 32
      else if o.fmt.ta then al.rowsPoison (o.a.laddr + 64 * q * o.a.pitch) o.a.pitch 64 (o.a.rows * ea)
      else al.rowsPoison (o.a.laddr + 64 * q * ea) o.a.pitch o.a.rows (64 * ea),
     if o.fmt.tb then al.rowsPoison (o.b.laddr + 64 * q * eb) o.b.pitch o.b.cols (64 * eb)
      else al.rowsPoison (o.b.laddr + 64 * q * o.b.pitch) o.b.pitch 64 (o.b.cols * eb),
     if o.fmt.af = 7 then al.rowsPoison o.a.scale 0 1 (if o.fmt.blk then 4 else 4 * o.a.rows) else none,
     if o.fmt.af = 7 then al.rowsPoison (o.a.scale + (if o.fmt.blk then 4 else 4 * o.a.rows) + q) (o.a.cols / 64) o.a.rows 1 else none]

/-- Widen (R152, R319). -/
def widen (f x : Nat) : Word :=
  match f with
  | 1 => BitVec.ofNat 32 x
  | 2 => BitVec.ofNat 32 (convFloat .f16 .f32 .rne false x).1
  | 3 => BitVec.ofNat 32 (convFloat .bf16 .f32 .rne false x).1
  | 4 => BitVec.ofNat 32 (convFloat .f8e4 .f32 .rne false x).1
  | 5 => BitVec.ofNat 32 (convFloat .f8e5 .f32 .rne false x).1
  | _ => BitVec.ofNat 32 (convFromInt .f32 .rne (asInt 32 x)).1

/-- Narrow (R152, R319, R322). -/
def narrow (f : Nat) (y : Word) : Nat :=
  match f with
  | 1 => y.toNat
  | 2 => (convFloat .f32 .f16 .rne false y.toNat).1
  | 3 => (convFloat .f32 .bf16 .rne false y.toNat).1
  | 4 => (convFloat .f32 .f8e4 .rne true y.toNat).1
  | 5 => (convFloat .f32 .f8e5 .rne true y.toNat).1
  | _ => wrapInt 32 (convInt .f32 .rne (-2147483648) 2147483647 y.toNat).1

/-! ### Issue -/

/-- Goes on when the wave holds the pennant (R47). -/
def Ctx.ownPennant (c : Ctx) (s : State) (k : State → State) : State :=
  if (s.core c.r.core).holder = some c.r.slot then k s else c.pennantFault s

/-- What every matrix operation captures at issue (R209). -/
def Ctx.matOp (c : Ctx) (kind : MatKind) (acc : Nat) (id : Nat) : MatOp :=
  { id := id, kind := kind, slot := c.r.slot, uid := c.wave.uid, tid := c.wave.tid, aid := c.team.alloc, arm := c.arm.ident,
    acc := acc, pc := c.arm.pc, word := c.arm.word, exm := c.arm.exm }

/-- An operation takes its place in the matrix order (R224). -/
def Ctx.queueMat (c : Ctx) (f : MatOp → MatOp) (kind : MatKind) (acc : Nat) (s : State) : State :=
  let (id, s) := s.fresh
  let o := f (c.matOp kind acc id)
  s.modCore c.r.core (fun k =>
    { k with matQ := k.matQ ++ [o], mbusy := (kind == .mma && !o.waits) || (k.mbusy && !k.matQ.isEmpty) })

/-- ACCZ (R222, R322). -/
def execAccz (n : BitVec 3) (s : State) : Host.Outcome State Fault Refusal :=
  s.run (.accz n) (fun c s => c.ownPennant s (fun s => c.done (c.queueMat id .accz n.toNat s)))

/-- The checks that ACCLD and ACCST share, in the order of R320 (R223, R323). -/
def Ctx.accMove (c : Ctx) (a : BitVec 6) (l n : BitVec 3) (kind : MatKind) (s : State) : State :=
  let f := c.job.slot l.toNat
  match accClass f.mf with
  | none => c.fault 0x10 0 l.toNat s
  | some cls => c.withClass cls s (fun s => c.ownPennant s (fun s =>
      let x := c.wave.shape a.toNat
      let e := elemBytes f.mf
      if x.rows = 0 ∨ 128 < x.rows ∨ x.cols = 0 ∨ accWidth (s.isGanged c.r.core) < x.cols ∨ x.scale ≠ 0 ∨
          x.pitch < x.cols * e ∨ x.laddr % 16 ≠ 0 ∨ x.pitch % 16 ≠ 0 then c.fault 0x17 0 0 s
      else match rowsBeyond (c.allocBytes s) x.laddr x.pitch x.rows (x.cols * e) with
        | some addr => c.fault 0x12 2 addr s
        | none => c.done (c.queueMat (fun o => { o with fmt := f, a := x }) kind n.toNat s)))

/-- ACCLD (R223, R322). -/
def execAccld (a : BitVec 6) (l n : BitVec 3) (s : State) : Host.Outcome State Fault Refusal :=
  s.run (.accld a l n) (fun c s => c.accMove a l n .accld s)

/-- ACCST (R223, R322). -/
def execAccst (a : BitVec 6) (l n : BitVec 3) (s : State) : Host.Outcome State Fault Refusal :=
  s.run (.accst a l n) (fun c s => c.accMove a l n .accst s)

/-- The format checks of an MMA or follow-on, with its class (R221, R386, R388). -/
def Ctx.mmaFormats (c : Ctx) (l : Nat) (s : State) (k : Nat → State → State) : State :=
  let f := c.job.slot l
  match pairClass f.af f.bf with
  | none => c.fault 0x10 0 l s
  | some cls => if f.ta ∧ f.af = 7 then c.illegal s else k cls s

/-- The shape and extent checks of an MMA or follow-on (R221, R386, R388). -/
def Ctx.mmaShapes (c : Ctx) (base l : Nat) (s : State) (k : State → State) : State :=
  let f := c.job.slot l
  let a := c.wave.shape base
  let b := c.wave.shape (base + 4)
  match mmaMismatch (s.isGanged c.r.core) f a b with
  | some x => c.fault 0x17 0 x s
  | none =>
    match mmaBeyond (c.allocBytes s) f a b with
    | some addr => c.fault 0x12 2 addr s
    | none => k s

/-- The records and formats that an MMA captures (R209). -/
def Ctx.mmaOp (c : Ctx) (base l : Nat) (o : MatOp) : MatOp :=
  { o with fmt := c.job.slot l, a := c.wave.shape base, b := c.wave.shape (base + 4) }

/-- MMA (R386). -/
def execMma (a : BitVec 6) (l n : BitVec 3) (s : State) : Host.Outcome State Fault Refusal :=
  s.run (.mma a l n) (fun c s =>
    c.mmaFormats l.toNat s (fun cls s => c.withClass cls s (fun s => c.ownPennant s (fun s =>
      c.mmaShapes a.toNat l.toNat s (fun s => c.done (c.queueMat (c.mmaOp a.toNat l.toNat) .mma n.toNat s))))))

/-! ### MMA.mc -/

/-- Whether a core mask of an MMA.mc is allowed (R228). -/
def State.mcMask (s : State) (core : Nat) (m : Word) : Bool :=
  m.toNat < 256 && m.getLsbD (core % 8) && m.toNat != 2 ^ (core % 8) &&
    (List.range 8).all (fun k => !m.getLsbD k || s.present (clusterOf core * 8 + k))

/-- The cores that a mask names. -/
def mcCores (core m : Nat) : List Nat :=
  ((List.range 8).filter (fun k => m / 2 ^ k % 2 == 1)).map (fun k => clusterOf core * 8 + k)

/-- Whether two records match (R228). -/
def MatOp.matches (o p : MatOp) : Bool := p.mc == o.mc && p.b == o.b && p.fmt.bf == o.fmt.bf && p.fmt.tb == o.fmt.tb

/-- The open MMA.mc of a core, if any: the first that is not served. -/
def Core.openMc (k : Core) : Option MatOp := k.matQ.find? (fun o => !o.served)

/-- The open operations of the listed cores that match (R228). -/
def State.mcGroup (s : State) (core : Nat) (o : MatOp) : List (Nat × MatOp) :=
  (mcCores core o.mc).filterMap (fun c => ((s.core c).openMc).bind (fun p => if o.matches p then some (c, p) else none))

/-- Closes the window of an operation. -/
def State.serve (s : State) (core id : Nat) : State :=
  s.modCore core (fun k => { k with matQ := k.matQ.map (fun o => if o.id = id then { o with served := true } else o) })

/-- When every listed core has issued a matching MMA.mc within 64 ck of the first, every participant receives B (R228). -/
def State.mcMatch (s : State) (core : Nat) : State :=
  match (s.core core).openMc with
  | none => s
  | some o =>
    let g := s.mcGroup core o
    let first := ((g.map (fun e => e.2.at_)).min?).getD o.at_
    if g.length = (mcCores core o.mc).length ∧ (s.stack (stackOf core)).ck ≤ first + 64 then
      g.foldl (fun s e => s.serve e.1 e.2.id) s
    else s

/-- MMA.mc (R228, R386). -/
def execMmaMc (a b : BitVec 6) (l n : BitVec 3) (s : State) : Host.Outcome State Fault Refusal :=
  s.run (.mmaMc a b l n) (fun c s =>
    c.mmaFormats l.toNat s (fun cls s =>
      let m := c.wave.sreg b.toNat
      if !s.mcMask c.r.core m then c.fault 0x10 0 m.toNat s
      else c.withClass cls s (fun s => c.withClass 24 s (fun s => c.ownPennant s (fun s =>
        c.mmaShapes a.toNat l.toNat s (fun s =>
          let ck := (s.stack (stackOf c.r.core)).ck
          (c.done (c.queueMat (fun o => { c.mmaOp a.toNat l.toNat o with mc := m.toNat, at_ := ck, served := false })
            .mma n.toNat s)).mcMatch c.r.core))))))

/-- MMA_MC_WINDOW_LAPSE (R228): 64 ck have passed since the first of the matching issues, or a listed core's record does not
match; the core's operation reads B itself. -/
def execMmaMcWindowLapse (core : Nat) (s : State) : Host.Outcome State Fault Refusal :=
  .next (match (s.core core).openMc with
    | none => s
    | some o =>
      let first := (((s.mcGroup core o).map (fun e => e.2.at_)).min?).getD o.at_
      let differs := (mcCores core o.mc).any (fun c => ((s.core c).openMc).any (fun p => p.mc == o.mc && !o.matches p))
      if first + 64 < (s.stack (stackOf core)).ck ∨ differs then s.serve core o.id else s)

/-! ### The engine -/

/-- Whether every access of a wave that came before an engine operation is performed (R205, R288). -/
def State.forkReady (s : State) (core slot uid id : Nat) : Bool :=
  !(s.core core).sideLog.any (fun e => e.uid == uid && decide (e.ins < id)) &&
    !s.links.any (fun d => d.2.open_.any (fun q => q.uid == uid && decide (q.pend < id))) &&
    !((s.wave? core slot).any (fun w => w.uid == uid && w.inflight.any (fun p => p.isMem && decide (p.id < id) && p.left != 0)))

/-- Updates the operation at the head of a core's matrix queue. -/
def State.modMat (s : State) (core : Nat) (f : MatOp → MatOp) : State :=
  s.modCore core (fun k => { k with matQ := match k.matQ with | o :: os => f o :: os | [] => [] })

/-- MATRIX_OP_START (R224): the next operation in issue order begins, after its fork edge; an MMA's first K block takes up the
stack's narrowing (R226). -/
def execMatrixOpStart (core : Nat) (s : State) : Host.Outcome State Fault Refusal :=
  .next (match (s.core core).matQ with
    | [] => s
    | o :: _ =>
      if o.started || o.waits || !o.served || !s.forkReady core o.slot o.uid o.id then s
      else
        let narrow := o.kind == .mma && (s.stack (stackOf core)).narrow
        ((s.fork core).modMat core (fun o => { o with started := true })).modCore core (fun k => { k with narrow := narrow }))

/-- One K block of an MMA is done (R155, R229), with the poison that it has read (R225). -/
def State.blockDone (s : State) (core : Nat) : State :=
  match (s.core core).matQ with
  | [] => s
  | o :: _ =>
    if !o.started || o.kind != .mma || decide (o.a.cols / 64 ≤ o.kdone) then s
    else
      let al := s.alloc o.aid
      (s.modCore core (fun k => k.setAcc o.acc (tilePlaces o.a.rows o.b.cols)
        (fun i j => o.blockElem al o.kdone i j (k.accElem o.acc i j)))).modMat core (fun o => { o with kdone := o.kdone + 1, pois := lowest [o.pois, o.poison al o.kdone] })

/-- A K block ends between others: the next one takes up the stack's narrowing (R226). -/
def State.kblock (s : State) (core : Nat) : State :=
  match (s.core core).matQ with
  | o :: _ =>
    if o.started && o.kind == .mma && decide (o.kdone + 1 < o.a.cols / 64) then
      (s.blockDone core).modCore core (fun k => { k with narrow := (s.stack (stackOf core)).narrow })
    else s
  | [] => s

/-- The rest of an MMA: its K blocks to the last, and the poison that it has read (R155, R225). -/
def State.endMma (s : State) (core : Nat) (o : MatOp) : State :=
  let s := (List.range (o.a.cols / 64 - o.kdone)).foldl (fun s _ => s.blockDone core) s
  let pois := ((s.core core).matQ.head?).bind (fun o => o.pois)
  s.modCore core (fun k =>
    { k with narrow := false,
             accPois := match NMap.get? k.accPois o.acc, pois with
               | none, some x => NMap.put k.accPois o.acc x
               | _, _ => k.accPois })

/-- ACCLD's effect (R322). -/
def State.endAccld (s : State) (core : Nat) (o : MatOp) : State :=
  let al := s.alloc o.aid
  let e := elemBytes o.fmt.mf
  s.modCore core (fun k =>
    let k := k.setAcc o.acc (tilePlaces o.a.rows o.a.cols)
      (fun i j => widen o.fmt.mf (bytesNat (al.bytesAt (o.a.laddr + i * o.a.pitch + j * e) e)))
    { k with accPois := match al.rowsPoison o.a.laddr o.a.pitch o.a.rows (o.a.cols * e) with
               | some x => NMap.put k.accPois o.acc x
               | none => NMap.del k.accPois o.acc })

/-- ACCST's effect (R322, R323). -/
def State.endAccst (s : State) (core : Nat) (o : MatOp) : State :=
  match NMap.get? (s.core core).accPois o.acc with
  | some x => s.lateHalt core o.slot o.arm ⟨o.pc, o.word, o.exm, true⟩ 1 (faultCause 0x13 0) x []
  | none =>
    let e := elemBytes o.fmt.mf
    let k := s.core core
    s.engineScratch o.aid ((tilePlaces o.a.rows o.a.cols).flatMap (fun p =>
      let bs := natBytes e (narrow o.fmt.mf (k.accElem o.acc p.1 p.2))
      (List.range e).map (fun b => ⟨o.a.laddr + p.1 * o.a.pitch + p.2 * e + b, bs.getD b 0#8, false⟩)))

/-- An operation's effect at its end. -/
def State.finishMat (s : State) (core : Nat) (o : MatOp) : State :=
  match o.kind with
  | .accz => s.modCore core (fun k => k.zeroAcc o.acc)
  | .accld => s.endAccld core o
  | .accst => s.endAccst core o
  | .mma => s.endMma core o

/-- MATRIX_OP_END (R224): the operation at the head ends, and its place is free. -/
def execMatrixOpEnd (core : Nat) (s : State) : Host.Outcome State Fault Refusal :=
  .next (match (s.core core).matQ with
    | [] => s
    | o :: _ =>
      if !o.started then s
      else ((s.finishMat core o).modCore core (fun k => { k with matQ := k.matQ.filter (fun x => x.id != o.id) })).settle core)

end Sys2Proof.Machine
end

