-- ==== Sys2Proof/Machine/Scalar.lean ====
section
/-!
DEFINITION. Scalar arithmetic and moves (R406 to R412, R418), SXGET and SXSET (R435, R436), and what passes between predicates and
scalars (R382, R396, R459). Each runs once per issue, whatever the mask (R45).
-/

namespace Sys2Proof.Machine

/-- Writes one scalar register and moves the arm on. -/
def Ctx.scalar (c : Ctx) (d : BitVec 6) (x : Word) (s : State) : State :=
  s.modWave c.r.core c.r.slot (fun w => (w.setS d.toNat x).modArm c.r.arm Arm.advance)

/-- A scalar operand. -/
def Ctx.sv (c : Ctx) (a : BitVec 6) : Word := c.wave.sreg a.toNat

/-- SADD (R407). -/
def execSadd (d a b : BitVec 6) (s : State) : Host.Outcome State Fault Refusal :=
  s.run (.sadd d a b) (fun c s => c.scalar d (c.sv a + c.sv b) s)

/-- SSUB (R407). -/
def execSsub (d a b : BitVec 6) (s : State) : Host.Outcome State Fault Refusal :=
  s.run (.ssub d a b) (fun c s => c.scalar d (c.sv a - c.sv b) s)

/-- SMUL (R127, R407). -/
def execSmul (d a b : BitVec 6) (s : State) : Host.Outcome State Fault Refusal :=
  s.run (.smul d a b) (fun c s => c.scalar d (c.sv a * c.sv b) s)

/-- SMULH: .n when x[0] is 1 (R127, R407). -/
def execSmulh (d a b : BitVec 6) (u : BitVec 1) (s : State) : Host.Outcome State Fault Refusal :=
  s.run (.smulh d a b u) (fun c s => c.scalar d (if u = 1#1 then mulhn (c.sv a) (c.sv b) else mulhi (c.sv a) (c.sv b)) s)

/-- SAND (R407). -/
def execSand (d a b : BitVec 6) (s : State) : Host.Outcome State Fault Refusal :=
  s.run (.sand d a b) (fun c s => c.scalar d (c.sv a &&& c.sv b) s)

/-- SOR (R407). -/
def execSor (d a b : BitVec 6) (s : State) : Host.Outcome State Fault Refusal :=
  s.run (.sor d a b) (fun c s => c.scalar d (c.sv a ||| c.sv b) s)

/-- SXOR (R407). -/
def execSxor (d a b : BitVec 6) (s : State) : Host.Outcome State Fault Refusal :=
  s.run (.sxor d a b) (fun c s => c.scalar d (c.sv a ^^^ c.sv b) s)

/-- SANDN (R407). -/
def execSandn (d a b : BitVec 6) (s : State) : Host.Outcome State Fault Refusal :=
  s.run (.sandn d a b) (fun c s => c.scalar d (c.sv a &&& ~~~(c.sv b)) s)

/-- SSHL (R126, R407). -/
def execSshl (d a b : BitVec 6) (s : State) : Host.Outcome State Fault Refusal :=
  s.run (.sshl d a b) (fun c s => c.scalar d (shl (c.sv a) (c.sv b)) s)

/-- SSHR: arithmetic when x[0] is 1 (R126, R407). -/
def execSshr (d a b : BitVec 6) (u : BitVec 1) (s : State) : Host.Outcome State Fault Refusal :=
  s.run (.sshr d a b u) (fun c s => c.scalar d (if u = 1#1 then sra (c.sv a) (c.sv b) else shr (c.sv a) (c.sv b)) s)

/-- SSRA (R126, R407). -/
def execSsra (d a b : BitVec 6) (s : State) : Host.Outcome State Fault Refusal :=
  s.run (.ssra d a b) (fun c s => c.scalar d (sra (c.sv a) (c.sv b)) s)

/-- SMIN: .n when x[0] is 1 (R407). -/
def execSmin (d a b : BitVec 6) (u : BitVec 1) (s : State) : Host.Outcome State Fault Refusal :=
  s.run (.smin d a b u) (fun c s => c.scalar d (if u = 1#1 then minn (c.sv a) (c.sv b) else mini (c.sv a) (c.sv b)) s)

/-- SMAX: .n when x[0] is 1 (R407). -/
def execSmax (d a b : BitVec 6) (u : BitVec 1) (s : State) : Host.Outcome State Fault Refusal :=
  s.run (.smax d a b u) (fun c s => c.scalar d (if u = 1#1 then maxn (c.sv a) (c.sv b) else maxi (c.sv a) (c.sv b)) s)

/-- SSEL: the old destination selects (R407). -/
def execSsel (d a b : BitVec 6) (s : State) : Host.Outcome State Fault Refusal :=
  s.run (.ssel d a b) (fun c s => c.scalar d (if c.sv d = 0#32 then c.sv b else c.sv a) s)

/-- SCMP (R109, R411). -/
def execScmp (d a b : BitVec 6) (k : BitVec 3) (s : State) : Host.Outcome State Fault Refusal :=
  s.run (.scmp d a b k) (fun c s => c.scalar d (boolWord (condScalar k.toNat (c.sv a) (c.sv b))) s)

/-- SDIV: x[1] selects .n, x[0] the remainder (R128, R412). -/
def execSdiv (d a b : BitVec 6) (u v : BitVec 1) (s : State) : Host.Outcome State Fault Refusal :=
  s.run (.sdiv d a b u v) (fun c s =>
    let q := divide (u == 1#1) (c.sv a) (c.sv b)
    c.scalar d (if v = 1#1 then q.2 else q.1) s)

/-- SBFX: .i when x is 1 (R129, R409). -/
def execSbfx (d a b : BitVec 6) (u : BitVec 1) (s : State) : Host.Outcome State Fault Refusal :=
  s.run (.sbfx d a b u) (fun c s => c.scalar d (extractField (u == 1#1) (c.sv a) (c.sv b)) s)

/-- SBFI: inserts into the old destination (R129, R409). -/
def execSbfi (d a b : BitVec 6) (s : State) : Host.Outcome State Fault Refusal :=
  s.run (.sbfi d a b) (fun c s => c.scalar d (insertField (c.sv d) (c.sv a) (c.sv b)) s)

/-- SCLZ (R410). -/
def execSclz (d a : BitVec 6) (s : State) : Host.Outcome State Fault Refusal :=
  s.run (.sclz d a) (fun c s => c.scalar d (clz (c.sv a)) s)

/-- SPOPC (R410). -/
def execSpopc (d a : BitVec 6) (s : State) : Host.Outcome State Fault Refusal :=
  s.run (.spopc d a) (fun c s => c.scalar d (popc (c.sv a)) s)

/-- SMOV (R418). -/
def execSmov (d a : BitVec 6) (s : State) : Host.Outcome State Fault Refusal :=
  s.run (.smov d a) (fun c s => c.scalar d (c.sv a) s)

/-- SADD with an immediate (R407). -/
def execSaddImm (d a : BitVec 6) (i : BitVec 13) (s : State) : Host.Outcome State Fault Refusal :=
  s.run (.saddImm d a i) (fun c s => c.scalar d (c.sv a + sext i) s)

/-- SAND with an immediate (R407). -/
def execSandImm (d a : BitVec 6) (i : BitVec 13) (s : State) : Host.Outcome State Fault Refusal :=
  s.run (.sandImm d a i) (fun c s => c.scalar d (c.sv a &&& sext i) s)

/-- SOR with an immediate (R407). -/
def execSorImm (d a : BitVec 6) (i : BitVec 13) (s : State) : Host.Outcome State Fault Refusal :=
  s.run (.sorImm d a i) (fun c s => c.scalar d (c.sv a ||| sext i) s)

/-- SXOR with an immediate (R407). -/
def execSxorImm (d a : BitVec 6) (i : BitVec 13) (s : State) : Host.Outcome State Fault Refusal :=
  s.run (.sxorImm d a i) (fun c s => c.scalar d (c.sv a ^^^ sext i) s)

/-- SSHL with an immediate amount, taken modulo 32 (R126, R407). -/
def execSshlImm (d a n : BitVec 6) (s : State) : Host.Outcome State Fault Refusal :=
  s.run (.sshlImm d a n) (fun c s => c.scalar d (shl (c.sv a) (n.setWidth 32)) s)

/-- SSHR with an immediate amount, taken modulo 32 (R126, R407). -/
def execSshrImm (d a n : BitVec 6) (s : State) : Host.Outcome State Fault Refusal :=
  s.run (.sshrImm d a n) (fun c s => c.scalar d (shr (c.sv a) (n.setWidth 32)) s)

/-- SSRA with an immediate amount, taken modulo 32 (R126, R407). -/
def execSsraImm (d a n : BitVec 6) (s : State) : Host.Outcome State Fault Refusal :=
  s.run (.ssraImm d a n) (fun c s => c.scalar d (sra (c.sv a) (n.setWidth 32)) s)

/-- SCMP with an immediate, sign-extended under every condition (R109, R411). -/
def execScmpImm (d a : BitVec 6) (k : BitVec 3) (i : BitVec 10) (s : State) : Host.Outcome State Fault Refusal :=
  s.run (.scmpImm d a k i) (fun c s => c.scalar d (boolWord (condScalar k.toNat (c.sv a) (sext i))) s)

/-- SMOVI (R418). -/
def execSmovi (d : BitVec 6) (i : BitVec 19) (s : State) : Host.Outcome State Fault Refusal :=
  s.run (.smovi d i) (fun c s => c.scalar d (sext i) s)

/-- SLIH: bits [31:19], with bits [18:0] kept (R418). -/
def execSlih (d : BitVec 6) (i : BitVec 13) (s : State) : Host.Outcome State Fault Refusal :=
  s.run (.slih d i) (fun c s => c.scalar d ((i ++ (c.sv d).extractLsb' 0 19 : BitVec 32)) s)

/-! ### Indexed registers and message ports -/

/-- Whether the message ports of the core are this wave's, so that an index names a port (R42, R436). -/
def Ctx.isPort (c : Ctx) (s : State) (q : Nat) : Bool := (s.core c.r.core).port == some c.r.slot && decide (504 ≤ q ∧ q ≤ 507)

/-- s507: DROP, SRC, SSLOT and CNT (R183). -/
def Core.portStatus (k : Core) : Word :=
  BitVec.ofNat 32 ((if k.pDrop then 2 ^ 31 else 0) + k.pSrc * 2 ^ 16 + k.pSslot * 2 ^ 10 + k.rxq.length)

/-- A read of s506: the oldest message, whose payload arrives as a long-latency result (R50, R183). -/
def Ctx.popMessage (c : Ctx) (d : BitVec 6) (s : State) : State :=
  match (s.core c.r.core).rxq with
  | [] => c.holdFor (.wait .port) false s
  | m :: ms =>
    let s := s.modCore c.r.core (fun k => { k with rxq := ms, pSrc := m.src, pSslot := m.sslot })
    (c.launch { sdst := [(d.toNat, m.payload)] } { } s).2

/-- SXGET (R435, R436). A read of s506 that was blocked when the ports were disabled reads the wave's own s506, whatever the wave
declares (R41, R391). -/
def execSxget (d a : BitVec 6) (s : State) : Host.Outcome State Fault Refusal :=
  s.run (.sxget d a) (fun c s =>
    let q := (c.sv a).toNat
    let k := s.core c.r.core
    if c.isPort s q then
      if q = 504 then c.scalar d (k.pDest &&& 0x3FF#32) s
      else if q = 505 then c.scalar d 0#32 s
      else if q = 506 then c.popMessage d s
      else c.scalar d k.portStatus s
    else if c.held.isNone ∧ c.wave.sregN ≤ q then c.fault 0x10 0 q s
    else if c.sEmpty q then c.wait .empty s
    else c.scalar d (c.wave.sreg q) s)

/-- A write to s505: one message, held in the injection buffer (R183, R184). -/
def Ctx.sendMessage (c : Ctx) (x : Word) (s : State) : State :=
  let k := s.core c.r.core
  if 16 ≤ k.txq.length then c.wait .inject s
  else if 1024 ≤ k.pDest.toNat then c.fault 0x10 0 k.pDest.toNat s
  else c.done (s.modCore c.r.core (fun k => { k with txq := k.txq ++
    [{ payload := x, job := c.job.jid, src := c.r.core, sslot := c.r.slot, suid := c.wave.uid, dst := k.pDest.toNat }] }))

/-- SXSET (R435, R436). -/
def execSxset (a b : BitVec 6) (s : State) : Host.Outcome State Fault Refusal :=
  s.run (.sxset a b) (fun c s =>
    let q := (c.sv a).toNat
    let x := c.sv b
    if c.isPort s q then
      if q = 504 then c.done (s.modCore c.r.core (fun k => { k with pDest := x }))
      else if q = 505 then c.sendMessage x s
      else if q = 506 then c.illegal s
      else c.done (s.modCore c.r.core (fun k => { k with pDrop := k.pDrop && x.getLsbD 31 }))
    else if c.wave.sregN ≤ q then c.fault 0x10 0 q s
    else if c.sEmpty q then c.wait .empty s
    else s.modWave c.r.core c.r.slot (fun w => (w.setS q x).modArm c.r.arm Arm.advance))

/-! ### Predicates and scalars -/

/-- MASKP: every lane, whatever EXM (R382). -/
def execMaskp (d : BitVec 6) (p : BitVec 3) (s : State) : Host.Outcome State Fault Refusal :=
  s.run (.maskp d p) (fun c s => c.scalar d (c.wave.preg p.toNat) s)

/-- PMASK: the lanes of the arm's EXM (R396). -/
def execPmask (p : BitVec 3) (a : BitVec 6) (s : State) : Host.Outcome State Fault Refusal :=
  s.run (.pmask p a) (fun c s =>
    s.modWave c.r.core c.r.slot (fun w =>
      (w.setP p.toNat (mergeMask c.arm.exm (w.preg p.toNat) (c.sv a))).modArm c.r.arm Arm.advance))

/-- The mask of the lanes of tile `t` of width `w` (R62). -/
def tileMask (w t : Nat) : Mask := BitVec.ofNat 32 ((2 ^ w - 1) * 2 ^ (w * t))

/-- What a vote or a branch finds in a tile: any, all or none of its active lanes (R333, R459). -/
def voteTile (kind : Nat) (active p : Mask) : Bool :=
  if kind = 0 then active &&& p != 0#32 else if kind = 1 then active &&& ~~~p == 0#32 else active &&& p == 0#32

/-- VOTE's result (R459). -/
def voteWord (kind w : Nat) (exm p : Mask) : Word :=
  if kind = 3 then exm &&& p
  else maskOf (fun t => decide (t < 32 / w) && exm &&& tileMask w t != 0#32 && voteTile kind (exm &&& tileMask w t) p)

/-- VOTE (R459). -/
def execVote (d : BitVec 6) (p : BitVec 3) (u : BitVec 2) (s : State) : Host.Outcome State Fault Refusal :=
  s.run (.vote d p u) (fun c s =>
    c.scalar d (voteWord u.toNat (tileWidth c.wave.ltileNow) c.arm.exm (c.wave.preg p.toNat)) s)

end Sys2Proof.Machine
end

