-- ==== Sys2Proof/Machine/Bramble.lean ====
section
/-!
DEFINITION. The Bramble: CXOPEN, CXNEXT, CXSPLIT, CXSAVE, CXLOAD, CXCLOSE (R230, R238 to R251, R346 to R354), and the passing of
its queue (R230).
-/

namespace Sys2Proof.Machine

/-! ### Who holds a cursor when a new operation comes to run -/

/-- Goes on unless the cursor is another wave's (R47). -/
def Ctx.cxFree (c : Ctx) (n : BitVec 2) (s : State) (k : State → State) : State :=
  match (s.core c.r.core).cxView n.toNat with
  | some v => if v.uid = c.wave.uid then k s else c.fault 0x10 0 n.toNat s
  | none => k s

/-- Goes on when the wave owns the cursor, which is open (R47, R238). -/
def Ctx.cxOwn (c : Ctx) (n : BitVec 2) (s : State) (k : CxView → State → State) : State :=
  match (s.core c.r.core).cxView n.toNat with
  | some v => if v.uid = c.wave.uid then k v s else c.fault 0x10 0 n.toNat s
  | none => c.illegal s

/-! ### Issue -/

/-- Queues an operation with its captured operands (R209, R230). -/
def Ctx.queueBr (c : Ctx) (kind : BrKind) (n : BitVec 2) (ops : List Word) (f : BrOp → BrOp) (s : State) : State :=
  let (id, s) := s.fresh
  let o : BrOp :=
    { id := id, kind := kind, slot := c.r.slot, uid := c.wave.uid, arm := c.r.arm, aid := c.team.alloc, cx := n.toNat,
      ops := ops, lanes := c.lanes, pc := c.arm.pc, word := c.arm.word, exm := c.arm.exm }
  s.modCore c.r.core (fun k => { k with brQ := k.brQ ++ [f o] })

/-- Captured scalar registers. -/
def Ctx.regs (c : Ctx) (a : BitVec 6) (n : Nat) : List Word := (List.range n).map (fun k => c.wave.sreg (a.toNat + k))

/-- The fault of a descriptor that fails R232: the word index, and the stream in FADDH. -/
def Ctx.descriptorIllegal (c : Ctx) (word stream : Nat) (s : State) : State := c.fault 0x10 0 (word + 2 ^ 32 * stream) s

/-- CXOPEN of two streams (R232, R239, R351). -/
def Ctx.openTwo (c : Ctx) (a b : BitVec 6) (n : BitVec 2) (union : Bool) (s : State) : State :=
  c.cxFree n s (fun s =>
    let da := c.regs a 8
    let db := c.regs b 8
    match descriptorFault false da, descriptorFault false db with
    | some k, _ => c.descriptorIllegal k 0 s
    | none, some k => c.descriptorIllegal k 1 s
    | none, none =>
      match (descriptorBeyond false (c.allocBytes s) da).or (descriptorBeyond false (c.allocBytes s) db) with
      | some (addr, det) => c.fault 0x12 det addr s
      | none => c.done (c.queueBr .openTwo n (da ++ db) (fun o => { o with union := union }) s))

/-- CXOPEN.intersect (R351). -/
def execCxopenIntersect (a b : BitVec 6) (n : BitVec 2) (s : State) : Host.Outcome State Fault Refusal :=
  s.run (.cxopenIntersect a b n) (fun c s => c.openTwo a b n false s)

/-- CXOPEN.union (R351). -/
def execCxopenUnion (a b : BitVec 6) (n : BitVec 2) (s : State) : Host.Outcome State Fault Refusal :=
  s.run (.cxopenUnion a b n) (fun c s => c.openTwo a b n true s)

/-- CXOPEN.expand (R351): the arm holds until its row pointers are read (R239). -/
def execCxopenExpand (a : BitVec 6) (n : BitVec 2) (s : State) : Host.Outcome State Fault Refusal :=
  s.run (.cxopenExpand a n) (fun c s =>
    c.cxFree n s (fun s =>
      let d := c.regs a 8
      match descriptorFault true d with
      | some k => c.descriptorIllegal k 0 s
      | none =>
        match descriptorBeyond true (c.allocBytes s) d with
        | some (addr, det) => c.fault 0x12 det addr s
        | none => (c.queueBr .openExpand n d id s).modArm c.r (fun x => { x with hold := .bramble })))

/-- The predicates that a CXNEXT writes (R240, R241); a write to p0 is discarded and holds nothing (R44, R349). -/
def nextPreds (mode p : Nat) : List Nat := (if mode = 1 then [p, p + 1, p + 2] else [p]).filter (fun q => q != 0)

/-- CXNEXT (R240, R241, R349): a cursor whose image is still to be read has no mode yet, and its CXNEXT waits for it. -/
def execCxnext (v d : BitVec 6) (p : BitVec 3) (n : BitVec 2) (s : State) : Host.Outcome State Fault Refusal :=
  s.run (.cxnext v d p n) (fun c s =>
    c.cxOwn n s (fun view s =>
      match view.mode with
      | none => c.wait .engineQueue s
      | some mode =>
        let preds := nextPreds mode p.toNat
        if mode = 1 ∧ 5 < p.toNat then c.illegal s
        else if preds.any (fun q => c.wave.pHeld.any (fun e => e.1 == q)) then c.wait .predicate s
        else if c.lanes = 0#32 then c.done s
        else
          let res : Result := { vdst := [(v.toNat, []), (v.toNat + 1, []), (v.toNat + 2, [])], sdst := [(d.toNat, 0#32)] }
          let (id, s) := c.launch res { left := 1, holdsPreds := preds } s
          c.queueBr .next n [] (fun o => { o with v := v.toNat, d := d.toNat, p := p.toNat, pend := id }) s))

/-- Sets granules empty at an issue (R244, R247). -/
def State.emptyGranules (s : State) (aid a bytes : Nat) : State :=
  s.modAlloc aid (fun al => { al with full := al.full.filter (fun g => !decide (a / 16 ≤ g ∧ g < (a + bytes) / 16)) })

/-- CXSPLIT (R247, R353): the arm holds through the search phase. -/
def execCxsplit (a b : BitVec 6) (n : BitVec 2) (s : State) : Host.Outcome State Fault Refusal :=
  s.run (.cxsplit a b n) (fun c s =>
    c.cxOwn n s (fun _ s =>
      let at_ := (c.sv a).toNat
      let k := (c.sv b).toNat
      if k < 2 ∨ 16 < k ∨ at_ % 128 ≠ 0 then c.illegal s
      else if c.allocBytes s < at_ + 128 * k then c.fault 0x12 2 (max at_ (c.allocBytes s)) s
      else
        let s := (List.range k).foldl (fun s j => s.emptyGranules c.team.alloc (at_ + 128 * j + 64) 64) s
        (c.queueBr .split n [c.sv a, c.sv b] id s).modArm c.r (fun x => { x with hold := .bramble })))

/-- Goes on with a local address that is a multiple of 64 and whose 64 bytes lie in the allocation (R244, R245). -/
def Ctx.imagePlace (c : Ctx) (a : BitVec 6) (s : State) (k : Nat → State → State) : State :=
  let at_ := (c.sv a).toNat
  if at_ % 64 ≠ 0 then c.illegal s
  else if c.allocBytes s < at_ + 64 then c.fault 0x12 2 (max at_ (c.allocBytes s)) s
  else k at_ s

/-- CXSAVE (R244, R352). -/
def execCxsave (a : BitVec 6) (n : BitVec 2) (s : State) : Host.Outcome State Fault Refusal :=
  s.run (.cxsave a n) (fun c s =>
    c.cxOwn n s (fun _ s =>
      c.imagePlace a s (fun at_ s => c.done (c.queueBr .save n [c.sv a] id (s.emptyGranules c.team.alloc at_ 64)))))

/-- CXLOAD from SCRATCH (R245, R347): the image is read in Bramble order. -/
def execCxload (a : BitVec 6) (n : BitVec 2) (s : State) : Host.Outcome State Fault Refusal :=
  s.run (.cxload a n) (fun c s =>
    c.cxFree n s (fun s => c.imagePlace a s (fun _ s => c.done (c.queueBr .load n [c.sv a] id s))))

/-- CXLOAD.s (R245, R347). -/
def execCxloadS (a : BitVec 6) (n : BitVec 2) (s : State) : Host.Outcome State Fault Refusal :=
  s.run (.cxloadS a n) (fun c s =>
    c.cxFree n s (fun s =>
      let img := c.regs a 16
      match imageFault img with
      | some k => c.fault 0x10 0 k s
      | none =>
        match imageBeyond (c.allocBytes s) img with
        | some (addr, det) => c.fault 0x12 det addr s
        | none => c.done (c.queueBr .loadS n img id s)))

/-- CXCLOSE (R246, R346). -/
def execCxclose (n : BitVec 2) (s : State) : Host.Outcome State Fault Refusal :=
  s.run (.cxclose n) (fun c s => c.cxFree n s (fun s => c.done (c.queueBr .close n [] id s)))

/-! ### The engine -/

/-- What an operation does when it runs: its effect, the page that it waits for, or the fault that it finds. -/
inductive BrResult where
  | ok (s : State)
  | miss (va : Nat)
  | halt (cause : Word) (addr : Nat) (tail : List Word)

/-- The job of the wave that issued an operation. -/
def State.brJob (s : State) (core : Nat) (o : BrOp) : Job :=
  s.job (s.team (((s.wave? core o.slot).map (fun w => w.tid)).getD 0)).job

/-- Where an operation reads. -/
def State.brEnv (s : State) (core : Nat) (o : BrOp) : CurEnv :=
  { s := s, core := core, pasid := (s.brJob core o).pasid, aid := o.aid, owner := o.id }

/-- What stopped an operation's reads (R248, R249). -/
def CurStop.result (z : CurStop) (cx : Nat) : BrResult :=
  match z with
  | .miss va => .miss va
  | .poison a => .halt (faultCause 0x13 0) a []
  | .bad detail stream c => .halt (unsortedCause detail stream cx) 0 c.image

/-- An operation's cursor, if its wave owns it. -/
def State.brCur (s : State) (core : Nat) (o : BrOp) : Option Cur :=
  (NMap.get? (s.core core).cx o.cx).bind (fun c => if c.uid = o.uid then some (curOf c.img) else none)

/-- A cursor takes a state (R239, R245). -/
def State.setCur (s : State) (core : Nat) (o : BrOp) (c : Cur) : State :=
  s.modCore core (fun k => { k with cx := NMap.put k.cx o.cx { slot := o.slot, uid := o.uid, img := c.image } })

/-- The arm that an operation held goes on (R239, R247). -/
def State.brRelease (s : State) (core : Nat) (o : BrOp) : State :=
  s.modArm ⟨core, o.slot, o.arm⟩ (Arm.wake Hold.isBramble)

/-- The addresses at which the bytes of a global stream between two offsets begin and enter each further sector (R171). -/
def spanVas (loc : Bool) (base lo hi : Nat) : List Nat :=
  if loc ∨ hi ≤ lo then [] else (List.range ((base + hi - 1) / 32 - (base + lo) / 32 + 1)).map (fun k => base + lo + 32 * k)

/-- What a stream has been read of between two of its states: up to its place, and the element that stands there. -/
def Strm.readTo (x y : Strm) : List Nat := spanVas x.loc x.base x.off (min x.fin (y.off + 1))

/-- What a cursor has read of its global streams between two of its states (R237, R249). -/
def Cur.readTo (c d : Cur) : List Nat :=
  if c.mode = 2 then spanVas c.a.loc c.a.base (4 * c.a.pos) (4 * d.a.pos) ++ spanVas c.b.loc c.b.base (4 * (c.b.pos + 2)) (4 * (d.b.pos + 2))
  else c.a.readTo d.a ++ c.b.readTo d.b

/-- An operation's reads of global memory at the home slices (R171, R249). -/
def State.brTouch (s : State) (core : Nat) (o : BrOp) (vas : List Nat) : State := s.engineTouch core (s.brJob core o).pasid vas

/-- The head of a core's Bramble queue has started, with what it has to land. -/
def State.brStarted (s : State) (core id : Nat) (lands : List (Nat × List Byte)) : State :=
  s.modCore core (fun k => { k with brQ := k.brQ.map (fun x => if x.id = id then { x with started := true, lands := lands } else x) })

/-- CXOPEN.expand's reads (R239). -/
def State.brExpand (s : State) (core : Nat) (o : BrOp) : BrResult :=
  match (s.brEnv core o).openRows (openCur 2 o.ops []) with
  | .error z => z.result o.cx
  | .ok c =>
    let n := c.a.fin - c.a.pos
    match if c.b.fin = 0 then none else streamBeyond c.a.loc (s.alloc o.aid).bytes (c.a.base + 4 * c.a.pos) (4 * n) with
    | some (addr, det) => .halt (faultCause 0x12 det) addr []
    | none =>
      let rows := if c.b.loc ∨ c.b.fin = 0 then [] else [c.b.base, c.b.base + 4, c.b.base + 4 * c.b.fin]
      .ok ((((s.brTouch core o rows).setCur core o c).brStarted core o.id []).brRelease core o)

/-- The lanes that a fill has filled and whose survivor meets a condition. -/
def filledMask (fs : List Filled) (p : Filled → Bool) : Mask := maskOf (fun l => fs.any (fun f => f.lane == l && p f))

/-- A value of each filled lane. -/
def filledVec (fs : List Filled) (f : Filled → Nat) : LaneVec :=
  LaneVec.ofFn (fun l => BitVec.ofNat 32 (((fs.find? (fun x => x.lane == l)).map f).getD 0))

/-- The results of a CXNEXT (R240). -/
def nextResults (o : BrOp) (mode : Nat) (fs : List Filled) (done : Bool) (p : Pending) : Pending :=
  let lanes := filledMask fs (fun _ => true)
  { p with
    lanes := lanes
    vdst := [(o.v, filledVec fs (fun f => f.idx)), (o.v + 1, filledVec fs (fun f => f.v1)), (o.v + 2, filledVec fs (fun f => f.v2))]
    sdst := [(o.d, BitVec.ofNat 32 (fs.length + (if done then 2 ^ 31 else 0)))]
    pdst := (o.p, o.lanes, lanes) ::
      (if mode = 1 then [(o.p + 1, o.lanes, filledMask fs (fun f => f.inA)), (o.p + 2, o.lanes, filledMask fs (fun f => f.inB))] else []) }

/-- A CXNEXT's fill (R240, R242, R248). -/
def State.brNext (s : State) (core : Nat) (o : BrOp) (c : Cur) : BrResult :=
  match (s.brEnv core o).fill (maskLanes o.lanes) c 0 0 with
  | .error z => z.result o.cx
  | .ok (d, [], some (detail, stream)) => .halt (unsortedCause detail stream o.cx) 0 d.image
  | .ok (d, fs, _) =>
    let d := { d with cnt := (d.cnt + fs.length) % 2 ^ 32 }
    .ok ((((s.brTouch core o (c.readTo d)).setCur core o d).modPending core o.slot o.pend (nextResults o d.mode fs d.done)).brStarted core o.id [])

/-- A CXSPLIT's search (R247). -/
def State.brSplit (s : State) (core : Nat) (o : BrOp) (c : Cur) : BrResult :=
  match (s.brEnv core o).split c (o.ops.getD 1 0#32).toNat with
  | .error z => z.result o.cx
  | .ok ps =>
    let lands := (List.range ps.length).map (fun j =>
      ((o.ops.getD 0 0#32).toNat + 128 * j + 64, wordsBytes ((ps.getD j c).image)))
    .ok (((s.brTouch core o ((s.brEnv core o).splitVas c (o.ops.getD 1 0#32).toNat)).brStarted core o.id lands).brRelease core o)

/-- A CXLOAD's image from SCRATCH (R245, R348). -/
def State.brLoad (s : State) (core : Nat) (o : BrOp) : BrResult :=
  let al := s.alloc o.aid
  let a := (o.ops.getD 0 0#32).toNat
  let img := bytesWords 16 (al.bytesAt a 64)
  match al.poisonIn a 64 with
  | some x => .halt (faultCause 0x13 0) x []
  | none =>
    match imageFault img with
    | some k => .halt (faultCause 0x10 0) k []
    | none =>
      match imageBeyond al.bytes img with
      | some (addr, det) => .halt (faultCause 0x12 det) addr []
      | none => .ok ((s.setCur core o { curOf img with cnt := 0 }).brStarted core o.id [])

/-- Runs an operation (R230, R239, R240, R244 to R247). -/
def State.brRun (s : State) (core : Nat) (o : BrOp) : BrResult :=
  match o.kind with
  | .openTwo =>
    .ok ((s.setCur core o (openCur (if o.union then 1 else 0) (o.ops.take 8) (o.ops.drop 8))).brStarted core o.id [])
  | .openExpand => s.brExpand core o
  | .next =>
    match s.brCur core o with
    | some c => s.brNext core o c
    | none => .ok (s.brStarted core o.id [])
  | .split =>
    match s.brCur core o with
    | some c => s.brSplit core o c
    | none => .ok (s.brStarted core o.id [])
  | .save =>
    match s.brCur core o with
    | some c => .ok (s.brStarted core o.id [((o.ops.getD 0 0#32).toNat, wordsBytes c.image)])
    | none => .ok (s.brStarted core o.id [])
  | .load => s.brLoad core o
  | .loadS => .ok ((s.setCur core o { curOf o.ops with cnt := 0 }).brStarted core o.id [])
  | .close =>
    .ok ((s.modCore core (fun k => { k with cx := k.cx.filter (fun e => !(e.1 == o.cx && e.2.uid == o.uid)) })).brStarted core o.id [])

/-- Whether an operation is an engine thread, with a fork edge (R205, R249). -/
def BrKind.forks : BrKind → Bool
  | .openTwo | .openExpand | .next | .split | .save => true
  | .load | .loadS | .close => false

/-- An operation leaves the queue. -/
def State.dropBr (s : State) (core : Nat) (o : BrOp) : State :=
  (s.modCore core (fun k => { k with brQ := k.brQ.filter (fun x => x.id != o.id) })).forgetFetched o.id

/-- An operation finds a fault: its wave halts at it. An ended wave's is dropped with its operation (R249), and a refused or violating
access of it is logged (R283). -/
def State.haltBr (s : State) (core : Nat) (o : BrOp) (cause : Word) (addr : Nat) (tail : List Word) : State :=
  let s := s.dropBr core o
  match s.wave? core o.slot with
  | some w =>
    if w.ended then
      (if cause.toNat % 256 = 0x12 then s.logEngine core o.slot (s.team w.tid).job ⟨o.pc, o.word, o.exm, false⟩ cause addr else s).settle core
    else s.haltWave core o.slot ⟨o.pc, o.word, o.exm, false⟩ cause addr tail true
  | none => s

/-- An operation's page is asked for, or its sector of a peer (R249, R312). -/
def State.brSupply (s : State) (core : Nat) (o : BrOp) (va : Nat) : State :=
  match s.engineNeed o.id core (s.brJob core o).pasid [(va, false)] with
  | some n => s.supply o.id core (s.brJob core o).jid n
  | none => s

/-- BRAMBLE_OP_START (R230): the next operation in issue order runs, after its fork edge; its images are still to land. -/
def execBrambleOpStart (core : Nat) (s : State) : Host.Outcome State Fault Refusal :=
  .next (match (s.core core).brQ with
    | [] => s
    | o :: _ =>
      if o.started || !s.forkReady core o.slot o.uid o.id then s
      else
        let s := if o.kind.forks then s.fork core else s
        match s.brRun core o with
        | .ok t => t
        | .miss va => s.brSupply core o va
        | .halt cause addr tail => s.haltBr core o cause addr tail)

/-- BRAMBLE_OP_END (R230): the operation's images land and fill their granules (R244, R247), its results may arrive, and its
place is free. -/
def execBrambleOpEnd (core : Nat) (s : State) : Host.Outcome State Fault Refusal :=
  .next (match (s.core core).brQ with
    | [] => s
    | o :: _ =>
      if !o.started then s
      else
        let s := o.lands.foldl (fun s e =>
          s.engineScratch o.aid ((List.range e.2.length).map (fun k => ⟨e.1 + k, e.2.getD k 0#8, false⟩))) s
        let s := if o.kind = .next then s.modPending core o.slot o.pend (fun p => { p with left := 0 }) else s
        (s.dropBr core o).settle core)

/-- The page that the head of a core's Bramble queue waits for. -/
def State.brMiss (s : State) (core : Nat) : Option Nat :=
  match (s.core core).brQ with
  | [] => none
  | o :: _ =>
    if o.started then none
    else match s.brRun core o with
      | .miss va => some va
      | _ => none

/-- The host refuses the page that the head of the queue waits for (R249, R287). -/
def State.refuseBr (s : State) (core : Nat) (cause : Word) (addr : Nat) : State :=
  match (s.core core).brQ with
  | [] => s
  | o :: _ => s.haltBr core o cause addr []

end Sys2Proof.Machine
end

