-- ==== Sys2Proof/Machine/Branch.lean ====
section
/-!
DEFINITION. Control flow: branches (R332 to R337), CALL, RET and JMP (R102, R339, R371, R405), and the arms that SPLIT, SWITCH and
MERGE make and end (R54 to R58).
-/

namespace Sys2Proof.Machine

/-- BRA (R102, R337). -/
def execBra (o : BitVec 25) (s : State) : Host.Outcome State Fault Refusal := s.run (.bra o) (fun c s => c.branch o s)

/-- CALL (R102, R339). -/
def execCall (o : BitVec 25) (s : State) : Host.Outcome State Fault Refusal :=
  s.run (.call o) (fun c s =>
    let back := c.job.packetVA (c.arm.pc + 1)
    c.transfer (c.arm.pc + o.toInt) (fun w => (w.setS 62 (lo32 back)).setS 63 (hi32 back)) s)

/-- BZ (R335). -/
def execBz (a : BitVec 6) (o : BitVec 16) (s : State) : Host.Outcome State Fault Refusal :=
  s.run (.bz a o) (fun c s => if c.sv a = 0#32 then c.branch o s else c.next s)

/-- BNZ (R335). -/
def execBnz (a : BitVec 6) (o : BitVec 16) (s : State) : Host.Outcome State Fault Refusal :=
  s.run (.bnz a o) (fun c s => if c.sv a = 0#32 then c.next s else c.branch o s)

/-- Whether a predicate branch is taken (R333): its test holds in every tile with an active lane, and some lane is
active. -/
def Ctx.taken (c : Ctx) (kind : Nat) (p : BitVec 3) (t : BitVec 1) : Bool :=
  let w := if t = 1#1 then tileWidth c.wave.ltileNow else 32
  c.arm.exm != 0#32 && (List.range (32 / w)).all (fun g =>
    c.arm.exm &&& tileMask w g == 0#32 || voteTile kind (c.arm.exm &&& tileMask w g) (c.wave.preg p.toNat))

/-- BANY (R333). -/
def execBany (p : BitVec 3) (t : BitVec 1) (o : BitVec 16) (s : State) : Host.Outcome State Fault Refusal :=
  s.run (.bany p t o) (fun c s => if c.taken 0 p t then c.branch o s else c.next s)

/-- BALL (R333). -/
def execBall (p : BitVec 3) (t : BitVec 1) (o : BitVec 16) (s : State) : Host.Outcome State Fault Refusal :=
  s.run (.ball p t o) (fun c s => if c.taken 1 p t then c.branch o s else c.next s)

/-- BNONE (R333). -/
def execBnone (p : BitVec 3) (t : BitVec 1) (o : BitVec 16) (s : State) : Host.Outcome State Fault Refusal :=
  s.run (.bnone p t o) (fun c s => if c.taken 2 p t then c.branch o s else c.next s)

/-- JMP (R371). -/
def execJmp (a : BitVec 6) (s : State) : Host.Outcome State Fault Refusal :=
  s.run (.jmp a) (fun c s => c.jump (c.wave.spair a.toNat) s)

/-- RET (R405). -/
def execRet (a : BitVec 6) (s : State) : Host.Outcome State Fault Refusal :=
  s.run (.ret a) (fun c s => c.jump (c.wave.spair a.toNat) s)

/-! ### Arms -/

/-- A part of a split: its lanes and entry packet. -/
structure PartAt where
  lanes : Mask
  pc : Nat
  deriving DecidableEq, Repr

/-- The arm that a part becomes: its view of full/empty bits is a copy of the splitting arm's (R51). -/
def Arm.part (a : Arm) (grp : Nat) (p : PartAt) : Arm :=
  { a with pc := p.pc, word := 0, exm := p.lanes, entry := p.lanes, grp := grp, hold := .none }

/-- OpenGroup and the placing of parts (R56): two live arms of an unsplit wave, or the issuing arm; the rest wait on the
stack, the earliest on top. -/
def Wave.openParts (w : Wave) (arm : Nat) (a : Arm) (p q : PartAt) (ps : List PartAt) : Wave :=
  let g := w.nextGrp
  let group : Group :=
    { id := g, parentGrp := a.grp, remaining := ps.length + 2, lanes := (p :: q :: ps).foldl (fun m x => m ||| x.lanes) 0#32, empty := [], first := p.lanes }
  let waiting (l : List PartAt) : List Part := l.map (fun x => { pc := x.pc, lanes := x.lanes, grp := g, empty := a.empty })
  if w.isSplit then
    { w with nextGrp := g + 1, groups := group :: w.groups, arms := NMap.put w.arms arm (a.part g p), stack := waiting (q :: ps) ++ w.stack }
  else
    { w with nextGrp := g + 1, groups := [group], arms := [(0, a.part g p), (1, a.part g q)], stack := waiting ps ++ w.stack }

/-- The rule of R56 on parts that have lanes; `alone` is where an arm with no active lane goes on. -/
def Ctx.splitInto (c : Ctx) (parts : List PartAt) (alone : Nat) (s : State) : State :=
  match parts.filter (fun p => p.lanes != 0#32) with
  | [] => s.modArm c.r (fun a => a.goto alone)
  | [p] => s.modArm c.r (fun a => a.goto p.pc)
  | p :: q :: ps =>
    let depth := c.wave.stack.length
    let need := if c.wave.isSplit then ps.length + 1 else ps.length
    if 16 - depth < need ∨ c.wave.groups.length = 31 then
      c.fault 0x1A 0 (depth + 2 ^ 32 * c.wave.groups.length) (c.unpop s)
    else s.modWave c.r.core c.r.slot (fun w => w.openParts c.r.arm c.arm p q ps)

/-- SPLIT (R56, R423): its target is checked whatever the lanes. -/
def execSplit (p : BitVec 3) (o : BitVec 16) (s : State) : Host.Outcome State Fault Refusal :=
  s.run (.split p o) (fun c s =>
    let t : Int := c.arm.pc + o.toInt
    let m := c.wave.preg p.toNat
    if 0 ≤ t ∧ t < c.job.npkt then
      c.splitInto [⟨c.arm.exm &&& ~~~m, c.arm.pc + 1⟩, ⟨c.arm.exm &&& m, t.toNat⟩] (c.arm.pc + 1) s
    else c.transfer t id s)

/-- The lanes whose first match in the table of SWITCH is entry `k`; `n` stands for no match (R433). -/
def switchLanes (exm : Mask) (v : LaneVec) (table : List Word) (k : Nat) : Mask :=
  maskOf (fun l => laneSet exm l && table.findIdx (fun x => x == v.lane l) == k)

/-- SWITCH (R433): packets PC + 1 to PC + n, and PC + 1 + n for the lanes that match nothing. -/
def execSwitch (a v : BitVec 6) (n : BitVec 3) (s : State) : Host.Outcome State Fault Refusal :=
  s.run (.switch a v n) (fun c s =>
    let k := n.toNat + 1
    let table := (group a.toNat k).map c.wave.sreg
    if c.arm.pc + 1 + k < c.job.npkt then
      c.splitInto ((List.range (k + 1)).map (fun j =>
        ⟨switchLanes c.arm.exm (c.wave.vreg v.toNat) table j, c.arm.pc + 1 + j⟩)) (c.arm.pc + 1 + k) s
    else c.transfer (c.arm.pc + 1 + k) id (c.unpop s))

/-- The stack's top becomes the arm that an ending arm was, or the arm is no more (R57). A part that leaves the stack counts as one
that has just issued; the parts that a split makes live keep the time of the splitting arm's last issue before it. R38 does not say
how long a new arm has gone without issuing: this is the model's choice (assumption 40). -/
def Wave.popPart (w : Wave) (arm : Nat) (a : Arm) : Wave :=
  match w.stack with
  | p :: ps =>
    let x : Arm := { a with pc := p.pc, word := 0, exm := p.lanes, entry := p.lanes, grp := p.grp, empty := p.empty, hold := .none, cap := none, paired := false, also := none }
    { w with stack := ps, arms := NMap.put w.arms arm x }
  | [] => { w with arms := NMap.del w.arms arm }

/-- MERGE's rule (R57), for an arm of an open group. -/
def Wave.merge (w : Wave) (arm : Nat) (a : Arm) (g : Group) : Wave :=
  let view := (g.empty ++ a.empty).dedup
  if 1 < g.remaining then
    let gs : List Group :=
      w.groups.map (fun (x : Group) => if x.id = g.id then { x with remaining := x.remaining - 1, empty := view } else x)
    ({ w with groups := gs }).popPart arm a
  else
    let x : Arm :=
      { a with pc := a.pc + 1, word := 0, exm := g.lanes, entry := g.lanes, grp := g.parentGrp, empty := view, hold := .none, cap := none, paired := false, also := none }
    { w with groups := w.groups.filter (fun (x : Group) => x.id != g.id), arms := NMap.put w.arms arm x }

/-- MERGE (R57, R383). -/
def execMerge (s : State) : Host.Outcome State Fault Refusal :=
  s.run .merge (fun c s =>
    match c.wave.groups.find? (fun g => g.id == c.arm.grp) with
    | none => c.next s
    | some g => s.modWave c.r.core c.r.slot (fun w => w.merge c.r.arm c.arm g))

end Sys2Proof.Machine
end

