-- ==== Sys2Proof/Machine/Copy.lean ====
section
/-!
DEFINITION. The copy engine: COPY and COPY.m (R209 to R216, R340 to R343), NQ4 in memory (R147 to R150), and the completion object
(R213).
-/

namespace Sys2Proof.Machine

/-! ### The descriptor -/

/-- A copy descriptor (R210). -/
structure CopyDesc where
  src : Nat
  dst : Nat
  rows : Nat
  rb : Nat
  sp : Nat
  dp : Nat
  sf : Nat
  df : Nat
  sk : Bool
  dk : Bool
  sat : Bool
  co : Nat
  deriving DecidableEq, Repr

/-- The fields of a descriptor (R210). -/
def copyDesc (d : List Word) : CopyDesc :=
  let w (k : Nat) : Word := d.getD k 0#32
  { src := pair (w 0) (w 1), dst := pair (w 2) (w 3), rows := wbits (w 4) 31 16, rb := wbits (w 4) 15 0, sp := (w 5).toNat,
    dp := (w 6).toNat, sf := wbits (w 7) 3 0, df := wbits (w 7) 7 4, sk := (w 7).getLsbD 8, dk := (w 7).getLsbD 9,
    sat := (w 7).getLsbD 10, co := wbits (w 7) 31 13 * 16 }

/-- The four kinds of copy (R151, R212). -/
inductive CopyKind where
  | raw
  | convert
  | quantise
  | dequantise
  deriving DecidableEq, Repr

/-- The kind of a format pair; none for a pair that COPY does not convert (R151, R211). -/
def copyKind (sf df : Nat) : Option CopyKind :=
  let small (f : Nat) : Bool := decide (1 ≤ f ∧ f ≤ 3)
  let float (f : Nat) : Bool := decide (1 ≤ f ∧ f ≤ 5)
  if sf = df then (if sf < 9 then some .raw else none)
  else if float sf && float df then some .convert
  else if small sf && df == 7 then some .quantise
  else if sf == 7 && small df then some .dequantise
  else none

/-- The capability class of a copy (R297). -/
def CopyKind.cls : CopyKind → Nat
  | .raw => 11
  | .convert => 12
  | .quantise => 13
  | .dequantise => 14

/-- Element bytes of the source as the copy reads it (R212). -/
def CopyDesc.es (d : CopyDesc) (k : CopyKind) : Nat := if k = .raw then 1 else elemBytes d.sf
/-- Element bytes of the destination as the copy writes it (R212). -/
def CopyDesc.ed (d : CopyDesc) (k : CopyKind) : Nat := if k = .raw then 1 else elemBytes d.df
/-- Element bytes of the side that RB describes (R210). -/
def CopyDesc.er (d : CopyDesc) (k : CopyKind) : Nat := if k = .dequantise then d.ed k else d.es k
/-- The number of elements (R212). -/
def CopyDesc.count (d : CopyDesc) (k : CopyKind) : Nat := d.rows * d.rb / d.er k
/-- Superblocks of a packed nq4 side (R212). -/
def CopyDesc.blocks (d : CopyDesc) (k : CopyKind) : Nat := (d.count k + 16383) / 16384
/-- Bytes of a superblock (R147). -/
def superBytes : Nat := 8452

/-- Bytes in a row of the source and of the destination; a packed side is one row (R212). -/
def CopyDesc.srcRow (d : CopyDesc) (k : CopyKind) : Nat := if k = .dequantise then d.blocks k * superBytes else d.rb
/-- Bytes in a row of the destination. -/
def CopyDesc.dstRow (d : CopyDesc) (k : CopyKind) : Nat :=
  match k with
  | .raw => d.rb
  | .convert => d.rb / d.es k * d.ed k
  | .quantise => d.blocks k * superBytes
  | .dequantise => d.rb
/-- Rows of the source. -/
def CopyDesc.srcRows (d : CopyDesc) (k : CopyKind) : Nat := if k = .dequantise then 1 else d.rows
/-- Rows of the destination. -/
def CopyDesc.dstRows (d : CopyDesc) (k : CopyKind) : Nat := if k = .quantise then 1 else d.rows
/-- Destination bytes (R212). -/
def CopyDesc.total (d : CopyDesc) (k : CopyKind) : Nat := d.dstRows k * d.dstRow k
/-! ### Checks at issue -/

/-- The descriptor word that breaks the first row of R211, or the pair check (R211). -/
def copyBadWord (d : List Word) : Option Nat :=
  let x := copyDesc d
  if x.sk ∧ d.getD 1 0#32 ≠ 0#32 then some 1
  else if x.dk ∧ d.getD 3 0#32 ≠ 0#32 then some 3
  else if x.rows = 0 ∨ x.rb = 0 then some 4
  else if wbits (d.getD 7 0#32) 12 11 ≠ 0 then some 7
  else if (copyKind x.sf x.df).isNone then some 7
  else none

/-- Whether a conversion breaks the alignment row of R211, or the total is too large. -/
def CopyDesc.bad (d : CopyDesc) (k : CopyKind) : Bool :=
  (k != .raw && (d.rb % d.er k != 0 ||
    (d.sf != 7 && (d.src % d.es k != 0 || d.sp % d.es k != 0)) ||
    (d.df != 7 && (d.dst % d.ed k != 0 || d.dp % d.ed k != 0)) ||
    ((d.sf == 7 || d.df == 7) && d.count k % 64 != 0))) ||
  decide (2 ^ 32 ≤ d.total k)

/-- The first offending address of an extent, with its DET (R157, R158, R211). -/
def extentFault (loc : Bool) (bytes base pitch rows rb : Nat) : Option (Nat × Nat) :=
  let last := base + (rows - 1) * pitch + rb - 1
  if loc then (if bytes ≤ last then some (max base bytes, 2) else none)
  else if 2 ^ 57 ≤ last then some (max base (2 ^ 57), 1) else none

/-- The first byte of the job's code segment that rows touch (R100). -/
def Job.rowsInCode (j : Job) (base pitch rows rb : Nat) : Option Nat :=
  ((List.range rows).find? (fun r =>
    decide (base + r * pitch < j.cbase + 12 * j.npkt ∧ j.cbase < base + r * pitch + rb))).map
      (fun r => max (base + r * pitch) j.cbase)

/-- The violation row of R211 in the order source, destination, completion object, code segment. -/
def Ctx.copyBeyond (c : Ctx) (s : State) (d : CopyDesc) (k : CopyKind) : Option (Nat × Nat) :=
  let bytes := c.allocBytes s
  [extentFault d.sk bytes d.src d.sp (d.srcRows k) (d.srcRow k), extentFault d.dk bytes d.dst d.dp (d.dstRows k) (d.dstRow k),
    extentFault true bytes d.co 0 1 16,
    if d.dk then none else (c.job.rowsInCode d.dst d.dp (d.dstRows k) (d.dstRow k)).map (fun a => (a, 4))].findSome? (fun x => x)

/-- The registers of a descriptor. -/
def Wave.descriptor (w : Wave) (a : BitVec 6) : List Word := (group a.toNat 8).map w.sreg

/-- The completion object's words (R213). -/
def Alloc.object (al : Alloc) (co : Nat) : List Word := bytesWords 4 (al.bytesAt co 16)

/-- Writes the completion object; its granule turns full (R213). -/
def State.putObject (s : State) (aid co : Nat) (ws : List Word) : State :=
  let bs := wordsBytes ws
  s.engineScratch aid ((List.range 16).map (fun k => ⟨co + k, bs.getD k 0#8, false⟩))

/-- ComplAdd at issue (R212). -/
def State.addRem (s : State) (aid co total : Nat) : State :=
  let ws := (s.alloc aid).object co
  s.putObject aid co (ws.set 0 (ws.getD 0 0#32 + BitVec.ofNat 32 total))

/-- A copy is queued with its follow-on, once every check has passed (R212, R215). -/
def Ctx.queueCopy (c : Ctx) (d : List Word) (k : CopyKind) (follow : Option Nat) (s : State) : State :=
  let x := copyDesc d
  let (id, s) := s.fresh
  let s := s.addRem c.team.alloc x.co (x.total k)
  s.modCore c.r.core (fun q => { q with copyQ := q.copyQ ++
    [{ id := id, slot := c.r.slot, uid := c.wave.uid, tid := c.wave.tid, aid := c.team.alloc, desc := d, total := x.total k,
       follow := follow, pc := c.arm.pc, word := c.arm.word, exm := c.arm.exm }] })

/-- The illegal-instruction rows of R211. -/
def Ctx.copyRows (c : Ctx) (d : List Word) (s : State) (k : CopyKind → State → State) : State :=
  match copyBadWord d with
  | some i => c.fault 0x10 0 i s
  | none =>
    match copyKind (copyDesc d).sf (copyDesc d).df with
    | none => c.fault 0x10 0 7 s
    | some x => if (copyDesc d).bad x then c.illegal s else k x s

/-- COPY (R211, R341). -/
def execCopy (a : BitVec 6) (s : State) : Host.Outcome State Fault Refusal :=
  s.run (.copy a) (fun c s =>
    let d := c.wave.descriptor a
    c.copyRows d s (fun k s => c.withClass k.cls s (fun s =>
      match c.copyBeyond s (copyDesc d) k with
      | some (addr, det) => c.fault 0x12 det addr s
      | none => c.done (c.queueCopy d k none s))))

/-- COPY.m with its follow-on's place in the matrix order (R216, R341). -/
def execCopyM (a b : BitVec 6) (l n : BitVec 3) (s : State) : Host.Outcome State Fault Refusal :=
  s.run (.copyM a b l n) (fun c s =>
    let d := c.wave.descriptor a
    c.copyRows d s (fun k s => c.mmaFormats l.toNat s (fun cls s =>
      c.withClass k.cls s (fun s => c.withClass cls s (fun s => c.ownPennant s (fun s =>
        match c.copyBeyond s (copyDesc d) k with
        | some (addr, det) => c.fault 0x12 det addr s
        | none => c.mmaShapes b.toNat l.toNat s (fun s =>
          let id := s.handles
          let s := c.queueMat (fun o => { c.mmaOp b.toNat l.toNat o with waits := true }) .mma n.toNat s
          c.done (c.queueCopy d k (some id) s))))))))

/-! ### NQ4 (R147 to R150) -/

/-- The format of a code among f32, f16, bf16, f8e4, f8e5. -/
def floatFmt (f : Nat) : Fmt :=
  match f with
  | 1 => .f32
  | 2 => .f16
  | 3 => .bf16
  | 4 => .f8e4
  | _ => .f8e5

/-- The largest magnitude of numbers. -/
def largest (xs : List Dy) : Dy := xs.foldl (fun m x => if Dy.lt m x.abs then x.abs else m) Dy.zero

/-- The scale code of a block (R149): Clamp(Ceiling(256 * m / S) - 1, 0, 255). -/
def scaleCode (m big : Dy) : Nat :=
  let e := min m.e big.e
  let num := (m.m * 2 ^ (m.e - e).toNat).natAbs * 256
  let den := (big.m * 2 ^ (big.e - e).toNat).natAbs
  min ((num + den - 1) / den - 1) 255

/-- The code nearest to a value; of two equally near codes, the even one (R149). -/
def nearestCode (scale x : Dy) : Nat :=
  let dist (c : Nat) : Dy := (Dy.add (Dy.mul (codeDy c) scale) x.neg).abs
  (List.range 16).foldl (fun best c =>
    if Dy.lt (dist c) (dist best) || (!Dy.lt (dist best) (dist c) && c % 2 == 0 && best % 2 == 1) then c else best) 0

/-- The 32 bytes of a block's codes (R147). -/
def packCodes (cs : List Nat) : List Byte :=
  (List.range 32).map (fun i => BitVec.ofNat 8 (cs.getD (2 * i) 7 + 16 * cs.getD (2 * i + 1) 7))

/-- Codes and scale code of a block (R149). -/
def quantBlock (big : Dy) (xs : List Dy) : List Nat × Nat :=
  if big.m = 0 ∨ xs.isEmpty then ([], 0)
  else
    let b := scaleCode (largest xs) big
    (xs.map (nearestCode (Dy.mul big ⟨b + 1, -8⟩)), b)

/-- An element of a superblock in a format (R148, R150): its code, its block's scale code, the stored S. -/
def dequantise (f : Fmt) (c b big : Nat) : Nat :=
  match Fmt.f32.num big with
  | .nan => f.defNan
  | .inf n => if c = 7 then f.defNan else f.infinity (decide (c < 7) != n)
  | .fin n m e =>
    let x := Dy.mul (codeDy c) ⟨(if n then -(m : Int) else m) * (b + 1), e - 8⟩
    (f.roundDy .rne false false x).1

/-! ### Runs -/

/-- The destination of a copy as rows. -/
def CopyDesc.dstSide (d : CopyDesc) (k : CopyKind) : Rows := ⟨d.dst, d.dp, d.dstRow k, d.dstRows k⟩
/-- The source of a copy as rows. -/
def CopyDesc.srcSide (d : CopyDesc) (k : CopyKind) : Rows := ⟨d.src, d.sp, d.srcRow k, d.srcRows k⟩

/-- The elements that a copy takes in one run: at most 4 KiB on either side (R213, R229). -/
def CopyDesc.runElems (d : CopyDesc) (k : CopyKind) : Nat :=
  match k with
  | .quantise => 4096 / d.es k
  | .dequantise => 4096 / d.ed k
  | _ => 4096 / max (d.es k) (d.ed k)

/-- Runs in a superblock, in each of the two passes of a quantise (R149, R229). -/
def CopyDesc.perSuper (d : CopyDesc) (k : CopyKind) : Nat := 16384 / d.runElems k

/-- How many runs a copy has. -/
def CopyDesc.steps (d : CopyDesc) (k : CopyKind) : Nat :=
  if k = .quantise then d.blocks k * (2 * d.perSuper k) else (d.count k + d.runElems k - 1) / d.runElems k

/-- A run of a copy: its superblock, its elements, and whether it only looks for the largest magnitude. -/
structure CopyRun where
  q : Nat
  lo : Nat
  hi : Nat
  scan : Bool
  deriving DecidableEq, Repr

/-- Run `i` of a copy. -/
def CopyDesc.run (d : CopyDesc) (k : CopyKind) (i : Nat) : CopyRun :=
  let n := d.runElems k
  let cnt := d.count k
  if k = .quantise then
    let m := d.perSuper k
    let q := i / (2 * m)
    let lo := 16384 * q + n * (i % m)
    ⟨q, min lo cnt, min (lo + n) cnt, decide (i % (2 * m) < m)⟩
  else ⟨n * i / 16384, n * i, min (n * i + n) cnt, false⟩

/-- The run in which a destination byte lands. -/
def CopyDesc.lands (d : CopyDesc) (k : CopyKind) (i : Nat) : Nat :=
  let n := d.runElems k
  if k = .quantise then
    let m := d.perSuper k
    let t := i % superBytes
    2 * m * (i / superBytes) + m +
      (if t < 8192 then t / (n / 2) else if t < 8448 then (t - 8192) / (n / 64) else m - 1)
  else i / (n * d.ed k)

/-- The source bytes of a run, by their place in the order of R212. -/
def CopyDesc.srcOffs (d : CopyDesc) (k : CopyKind) (r : CopyRun) : List Nat :=
  if k = .dequantise then
    let l := r.lo % 16384
    let n := r.hi - r.lo
    (List.range' (superBytes * r.q + l / 2) ((n + 1) / 2)) ++ (List.range' (superBytes * r.q + 8192 + l / 64) ((n + 63) / 64)) ++
      List.range' (superBytes * r.q + 8448) 4
  else List.range' (r.lo * d.es k) ((r.hi - r.lo) * d.es k)

/-- A source byte by its place in the order of R212, with its poison. -/
abbrev Source := Nat → Byte × Bool

/-- `w` source bytes as a number, and whether one of them is poisoned. -/
def Source.val (f : Source) (off w : Nat) : Nat × Bool :=
  let bs := (List.range w).map (fun j => f (off + j))
  (bytesNat (bs.map (fun b => b.1)), bs.any (fun b => b.2))

/-- The bytes of a number at a place of the destination. -/
def outBytes (off w x : Nat) (p : Bool) : List (Nat × Byte × Bool) :=
  (List.range w).map (fun j => (off + j, (natBytes w x).getD j 0#8, p))

/-- The elements of a run of a quantise, from a first one. -/
def CopyDesc.nums (d : CopyDesc) (k : CopyKind) (f : Source) (lo hi : Nat) : List Num :=
  (List.range' lo (hi - lo)).map (fun e => (floatFmt d.sf).num (f.val (e * d.es k) (d.es k)).1)

/-- What a run of a quantise lands (R147, R149): the codes and scale codes of its blocks, with the last run S. -/
def CopyDesc.quantised (d : CopyDesc) (k : CopyKind) (f : Source) (r : CopyRun) (i : Nat) (big : Dy) (p : Bool) : List (Nat × Byte × Bool) :=
  let n := d.runElems k
  let m := d.perSuper k
  let first := n * (i % m) / 64
  let at_ := superBytes * r.q
  let blocks := (List.range' first (n / 64)).map (fun b =>
    let lo := 16384 * r.q + 64 * b
    (b, quantBlock big ((d.nums k f (min lo r.hi) (min (lo + 64) r.hi)).map Num.dy)))
  blocks.flatMap (fun e => (List.range 32).map (fun j => (at_ + 32 * e.1 + j, (packCodes e.2.1).getD j 0#8, p))) ++
    blocks.map (fun e => (at_ + 8192 + e.1, BitVec.ofNat 8 e.2.2, p)) ++
    (if i % m + 1 = m then outBytes (at_ + 8448) 4 (Fmt.f32.round .rne false false big.m.natAbs big.e).1 p else [])

/-- What a run lands, from its source bytes (R212). -/
def CopyDesc.landed (d : CopyDesc) (k : CopyKind) (f : Source) (r : CopyRun) (i : Nat) (big : Dy) (p : Bool) : List (Nat × Byte × Bool) :=
  let es := d.es k
  let ed := d.ed k
  let elems := List.range' r.lo (r.hi - r.lo)
  match k with
  | .raw => elems.map (fun e => (e, (f e).1, (f e).2))
  | .convert => elems.flatMap (fun e =>
      let x := f.val (e * es) es
      outBytes (e * ed) ed (convFloat (floatFmt d.sf) (floatFmt d.df) .rne (d.sat && decide (4 ≤ d.df)) x.1).1 x.2)
  | .quantise => if r.scan then [] else d.quantised k f r i big p
  | .dequantise => elems.flatMap (fun e =>
      let at_ := superBytes * r.q
      let l := e % 16384
      let c := f.val (at_ + l / 2) 1
      let b := f.val (at_ + 8192 + l / 64) 1
      let s := f.val (at_ + 8448) 4
      outBytes (e * ed) ed (dequantise (floatFmt d.df) (getElem c.1 4 (l % 2)) b.1 s.1) (c.2 || b.2 || s.2))

/-! ### Moving the bytes -/

/-- Whether an address of the destination is one of the source too (R212). -/
def CopyDesc.overlaps (d : CopyDesc) (k : CopyKind) (a : Nat) : Bool := d.sk == d.dk && ((d.srcSide k).last a).isSome

/-- A byte of a side of a copy, with its poison. -/
def State.sideByte (s : State) (core pasid owner aid : Nat) (loc : Bool) (a : Nat) : Byte × Bool :=
  if loc then (Memory.read (s.alloc aid).cells a, (s.alloc aid).pois.contains (a / 32)) else s.engineRead owner core pasid a

/-- A source byte of a copy, as it was before the copy overwrote it (R212). -/
def State.copySource (s : State) (core pasid : Nat) (o : CopyOp) (k : CopyKind) : Source := fun off =>
  let d := copyDesc o.desc
  let a := (d.srcSide k).at off
  match o.kept.find? (fun e => e.1 == a) with
  | some e => e.2
  | none => s.sideByte core pasid o.id o.aid d.sk a

/-- How a copy's next run goes: it needs something, it meets a NaN or an infinity (R149), or it lands bytes. -/
inductive CopyTry where
  | need (n : Need)
  | nonFinite
  | go (ws : List (Nat × Byte × Bool)) (big : Nat) (bad : Bool)
  deriving DecidableEq, Repr

/-- The global accesses of a run, source first; a source byte that it overwrites is read too. -/
def CopyDesc.accesses (d : CopyDesc) (k : CopyKind) (srcs dsts : List Nat) : List (Nat × Bool) :=
  (if d.sk then [] else srcs.map (fun i => ((d.srcSide k).at i, false))) ++
    (if d.dk then [] else (dsts.map (fun i => ((d.dstSide k).at i, true))) ++
      ((dsts.map (d.dstSide k).at).filter (d.overlaps k)).map (fun a => (a, false)))

/-- The destination places at which a run lands bytes. -/
def CopyDesc.dstOffs (d : CopyDesc) (k : CopyKind) (r : CopyRun) (i : Nat) : List Nat :=
  if k = .quantise then
    let n := d.runElems k
    let m := d.perSuper k
    let at_ := superBytes * r.q
    if r.scan then []
    else (List.range' (at_ + n * (i % m) / 2) (n / 2)) ++ (List.range' (at_ + 8192 + n * (i % m) / 64) (n / 64)) ++
      (if i % m + 1 = m then List.range' (at_ + 8448) 4 else [])
  else List.range' (r.lo * d.ed k) ((r.hi - r.lo) * d.ed k)

/-- The largest magnitude that a quantise has met in its superblock, with this run's elements. -/
def CopyOp.bigWith (o : CopyOp) (xs : List Num) : Dy :=
  largest ((Fmt.f32.num o.big).dy :: xs.map Num.dy)

/-- The next run of a copy (R212, R213). -/
def State.copyTry (s : State) (core : Nat) (o : CopyOp) (k : CopyKind) : CopyTry :=
  let d := copyDesc o.desc
  let pasid := (s.job (s.team o.tid).job).pasid
  let r := d.run k o.done
  match s.engineNeed o.id core pasid (d.accesses k (d.srcOffs k r) (d.dstOffs k r o.done)) with
  | some n => .need n
  | none =>
    let f := s.copySource core pasid o k
    let bad := o.bad || (d.srcOffs k r).any (fun i => (f i).2)
    let xs := if k = .quantise then d.nums k f r.lo r.hi else []
    if xs.any (fun x => match x with | .fin _ _ _ => false | _ => true) then .nonFinite
    else
      let big := if r.scan then o.bigWith xs else (Fmt.f32.num o.big).dy
      .go (d.landed k f r o.done big bad) (if r.scan then (Fmt.f32.round .rne false false big.m.natAbs big.e).1 else o.big) bad

/-- The copy at the head of a core's queue changes. -/
def State.modCopy (s : State) (core : Nat) (f : CopyOp → CopyOp) : State :=
  s.modCore core (fun k => { k with copyQ := match k.copyQ with | o :: os => f o :: os | [] => [] })

/-- What becomes of the bytes that a copy overwrites in its own source: they are undefined (R212), and what they were is kept for the
runs that still read them. -/
def State.keepSource (s : State) (core : Nat) (o : CopyOp) (k : CopyKind) (ws : List EByte) : List (Nat × Byte × Bool) × List EByte × State :=
  let d := copyDesc o.desc
  let lost := ws.filter (fun w => d.overlaps k w.addr)
  if lost.isEmpty then (o.kept, ws, s)
  else
    let pasid := (s.job (s.team o.tid).job).pasid
    let kept := lost.foldl (fun l w =>
      if l.any (fun e => e.1 == w.addr) then l else l ++ [(w.addr, s.sideByte core pasid o.id o.aid d.dk w.addr)]) o.kept
    let (free, s) := s.freeWords (s.team o.tid).job lost.length
    (kept, ws.map (fun w => if d.overlaps k w.addr then
      { w with val := ((free.getD (lost.idxOf w) 0#32).extractLsb' 0 8) } else w), s)

/-- Bytes of a run reach the destination of a copy: with the poison, the sectors that the copy has cleared, and the granules that have
received its last byte (R168, R178, R206, R212, R342). -/
def State.landRun (s : State) (core : Nat) (o : CopyOp) (k : CopyKind) (ws : List EByte) : State :=
  let d := copyDesc o.desc
  let dst := d.dstSide k
  let later (a : Nat) : Bool := (dst.last a).any (fun i => decide (o.done < d.lands k i))
  let psn := (poisonedOf ws).foldl setInsert o.psn
  let clean := (touched ws).filter (fun x => !psn.contains x &&
    (List.range 32).all (fun j => (dst.last (32 * x + j)).isSome && !later (32 * x + j)))
  if d.dk then
    s.scratchPart o.aid ws clean ((granulesOf (ws.map (fun w => w.addr))).filter (fun g => (List.range 16).all (fun j => !later (16 * g + j))))
  else s.enginePart (s.owner o.id core o.slot o.tid) ws clean

/-- Landed bytes leave REM (R213). -/
def State.subRem (s : State) (o : CopyOp) (n : Nat) : State :=
  let co := (copyDesc o.desc).co
  let ws := (s.alloc o.aid).object co
  if n = 0 then s else s.putObject o.aid co (ws.set 0 (ws.getD 0 0#32 - BitVec.ofNat 32 n))

/-- The completion object at the end of a copy (R213): bytes that leave REM, error bits, poisoned sectors, OFF. -/
def State.endObject (s : State) (o : CopyOp) (left err off : Nat) : State :=
  let co := (copyDesc o.desc).co
  let ws := (s.alloc o.aid).object co
  let w1 := ws.getD 1 0#32
  s.putObject o.aid co
    [ws.getD 0 0#32 - BitVec.ofNat 32 left, w1 ||| BitVec.ofNat 32 err,
      BitVec.ofNat 32 (min ((ws.getD 2 0#32).toNat + o.psn.length) 0xFFFFFFFF),
      if err ≠ 0 ∧ wbits w1 1 0 = 0 then BitVec.ofNat 32 off else ws.getD 3 0#32]

/-- A copy leaves its queue. -/
def State.dropCopy (s : State) (core : Nat) (o : CopyOp) : State :=
  ((s.modCore core (fun k => { k with copyQ := k.copyQ.filter (fun x => x.id != o.id) })).forgetFetched o.id).settle core

/-- A matrix queue whose follow-on of a number may start, or is dropped (R216). -/
def followUp (id : Nat) (ok : Bool) (l : List MatOp) : List MatOp :=
  if ok then l.map (fun x => if x.id = id then { x with waits := false } else x) else l.filter (fun x => x.id != id)

/-- What becomes of a follow-on: it may start, or it is dropped (R216). -/
def State.follow (s : State) (core : Nat) (o : CopyOp) (ok : Bool) : State :=
  match o.follow with
  | none => s
  | some id => s.modCore core (fun k => { k with matQ := followUp id ok k.matQ })

/-- The restart offset (R213): source bytes before the first element of the next run, in superblocks where a side is nq4. -/
def CopyDesc.restart (d : CopyDesc) (k : CopyKind) (done : Nat) : Nat :=
  match k with
  | .quantise => (d.run k done).q * 16384 * d.es k
  | .dequantise => (d.run k done).q * superBytes
  | _ => (d.run k done).lo * d.es k

/-- Destination bytes that the first runs have landed. -/
def CopyDesc.landedIn (d : CopyDesc) (k : CopyKind) (done : Nat) : Nat :=
  match k with
  | .quantise =>
    let m := d.perSuper k
    let n := d.runElems k
    done / (2 * m) * superBytes + (done % (2 * m) - m) * (n / 2 + n / 64)
  | _ => min (d.total k) (done * d.runElems k * d.ed k)

/-- A copy ends (R206, R213, R216): its follow-on starts or is dropped, and its object tells. -/
def State.finishCopy (s : State) (core : Nat) (o : CopyOp) (k : CopyKind) (err : Nat) : State :=
  let d := copyDesc o.desc
  let s := s.follow core o (err == 0)
  let left := if d.steps k ≤ o.done then o.owed else d.total k - d.landedIn k o.done + o.owed
  (s.endObject o left err (d.restart k o.done)).dropCopy core o

/-- A run of a copy that lands bytes; the last one ends the copy, unless a peer has still to take them. Bytes of destination rows that overlap
land in ascending order of the rows, so that the later row's stay: R212 lets bytes land in any order, and this is the model's choice
(assumption 40). -/
def State.copyGo (s : State) (core : Nat) (o : CopyOp) (k : CopyKind) (ws : List (Nat × Byte × Bool)) (big : Nat) (bad : Bool) : State :=
  let d := copyDesc o.desc
  let bytes : List EByte := ws.map (fun e => ⟨(d.dstSide k).at e.1, e.2.1, e.2.2⟩)
  let sends := if d.dk then [] else s.peerWrites core (s.job (s.team o.tid).job).pasid bytes
  if !s.peersFit (sends.map (fun e => e.1)) then s
  else
    let (kept, bytes, s) := s.keepSource core o k bytes
    let s := s.landRun core o k bytes
    let next := (d.run k (o.done + 1)).q != (d.run k o.done).q
    let n := bytes.length
    let o : CopyOp := { o with done := o.done + 1, owed := n, big := if next then 0 else big, bad := !next && bad,
                               psn := (poisonedOf bytes).foldl setInsert o.psn, kept := kept }
    if !sends.isEmpty then s.modCopy core (fun _ => o)
    else if d.steps k ≤ o.done then s.finishCopy core o k 0
    else (s.subRem o n).modCopy core (fun _ => { o with owed := 0 })

/-- The kind of a copy in a queue. -/
def CopyOp.kind (o : CopyOp) : CopyKind := (copyKind (copyDesc o.desc).sf (copyDesc o.desc).df).getD .raw

/-- The source sectors of a copy's next run are read at home (R205). -/
def State.copyTouch (s : State) (core : Nat) (o : CopyOp) (k : CopyKind) : State :=
  let d := copyDesc o.desc
  if d.sk then s
  else s.engineTouch core (s.job (s.team o.tid).job).pasid ((d.srcOffs k (d.run k o.done)).map (d.srcSide k).at)

/-- One run of the copy at the head of a core's queue (R213): what it needs is asked for; a run that a peer has still to take is
waited for. -/
def State.copyRun (s : State) (core : Nat) : State :=
  match (s.core core).copyQ with
  | [] => s
  | o :: _ =>
    if !o.started then s
    else if o.owed ≠ 0 then
      if s.peerOwes o.id then s
      else if (copyDesc o.desc).steps o.kind ≤ o.done then s.finishCopy core o o.kind 0
      else (s.subRem o o.owed).modCopy core (fun o => { o with owed := 0 })
    else match s.copyTry core o o.kind with
      | .need n => s.supply o.id core (s.team o.tid).job n
      | .nonFinite => s.finishCopy core o o.kind 1
      | .go ws big bad => (s.copyTouch core o o.kind).copyGo core o o.kind ws big bad

/-- COPY_START (R215): the next copy in issue order begins, after its fork edge (R205). -/
def execCopyStart (core : Nat) (s : State) : Host.Outcome State Fault Refusal :=
  .next (match (s.core core).copyQ with
    | [] => s
    | o :: os =>
      if o.started || !s.forkReady core o.slot o.uid o.id then s
      else (s.fork core).modCore core (fun k => { k with copyQ := { o with started := true } :: os }))

/-- The place of a copy's progress. -/
def State.copyMark (s : State) (core : Nat) : Option (Nat × Nat × Nat) := ((s.core core).copyQ.head?).map (fun o => (o.id, o.done, o.owed))

/-- Runs of the copy at the head, until it ends or waits. -/
def State.copyRuns (core : Nat) : Nat → State → State
  | 0, s => s
  | fuel + 1, s =>
    let t := s.copyRun core
    if t.copyMark core = s.copyMark core ∨ (t.copyMark core).map (fun e => e.1) ≠ (s.copyMark core).map (fun e => e.1) then t
    else State.copyRuns core fuel t

/-- COPY_COMPLETION (R213): the copy at the head goes on to its end, or as far as it can; a quantise stops at a NaN or an infinity. -/
def execCopyCompletion (core : Nat) (s : State) : Host.Outcome State Fault Refusal :=
  .next (match (s.core core).copyQ with
    | [] => s
    | o :: _ => State.copyRuns core (2 * (copyDesc o.desc).steps o.kind + 2) s)

/-- The page that a started copy waits for. -/
def State.copyMiss (s : State) (core : Nat) (o : CopyOp) : Option (Nat × Bool) :=
  if !o.started || o.owed != 0 then none
  else match s.copyTry core o o.kind with
    | .need n => n.page?
    | _ => none

/-- A copy whose page the host refuses stops (R213, R283). -/
def State.refuseCopy (s : State) (core : Nat) (o : CopyOp) (va : Nat) (cause : Word) : State :=
  let s := if cause.toNat % 256 = 0x12 then s.logEngine core o.slot (s.team o.tid).job ⟨o.pc, o.word, o.exm, false⟩ cause va
    else s
  s.finishCopy core o o.kind 2

end Sys2Proof.Machine
end

