-- ==== Sys2Proof/Machine/Sfu.lean ====
section
/-!
DEFINITION. The transcendental functions of the special-function unit (R141). The specification gives their exact points, and
elsewhere any value within 2 ulp of the exact result: a free choice among the four neighbours of the exact value
(assumption 9). The exact value is located by fixed-point series.
-/

namespace Sys2Proof.Machine

/-- Fraction bits of the fixed-point series. -/
def fixP : Nat := 160

/-- pi / 2 with 320 fraction bits. -/
def halfPi320 : Nat := 0x1921fb54442d18469898cc51701b839a252049c1114cf98e804177d4c76273644a29410f31c6809bb

/-- ln 2 with 160 fraction bits. -/
def ln2Fix : Nat := 0xb17217f7d1cf79abc9e3b39803f2f6af40f34326

/-- Terms of the exponential series: the sum of y^k / k! for fixed-point y, from the term t with index k. -/
def expTerms (y : Nat) : Nat → Nat → Nat → Nat
  | 0, _, _ => 0
  | n + 1, k, t => t + expTerms y n (k + 1) (t * y / 2 ^ fixP / (k + 1))

/-- e^y for 0 ≤ y < 1 in fixed point. -/
def expFix (y : Nat) : Nat := expTerms y 48 0 (2 ^ fixP)

/-- Terms of the series of atanh, from the power t with index k. -/
def atanhTerms (z2 : Nat) : Nat → Nat → Nat → Nat
  | 0, _, _ => 0
  | n + 1, k, t => t / k + atanhTerms z2 n (k + 2) (t * z2 / 2 ^ fixP)

/-- atanh z for 0 ≤ z ≤ 1/3 in fixed point. -/
def atanhFix (z : Nat) : Nat := atanhTerms (z * z / 2 ^ fixP) 60 1 z

/-- Alternating terms of sine and cosine: sum of t_k with t_(k+2) = -t_k r^2 / ((k + 1) (k + 2)). -/
def trigTerms (r2 : Nat) : Nat → Nat → Nat → Int
  | 0, _, _ => 0
  | n + 1, k, t => (t : Int) - trigTerms r2 n (k + 2) (t * r2 / 2 ^ fixP / ((k + 1) * (k + 2)))

/-- sin r in fixed point, 0 ≤ r ≤ pi / 2. -/
def sinFix (r : Nat) : Int := trigTerms (r * r / 2 ^ fixP) 30 1 r

/-- cos r in fixed point, 0 ≤ r ≤ pi / 2. -/
def cosFix (r : Nat) : Int := trigTerms (r * r / 2 ^ fixP) 30 0 (2 ^ fixP)

/-- A located value: sign, and a number just below or at the exact magnitude. -/
structure Located where
  neg : Bool
  m : Nat
  e : Int
  deriving DecidableEq, Repr

/-- The largest f32 magnitude at or below m * 2^e, as an encoding without sign. -/
def floorF32 (m : Nat) (e : Int) : Nat := (Fmt.f32.round .rtz false false m e).1

/-- The f32 magnitudes within 2 ulp of an inexact magnitude whose floor is `c` (R141), an ulp being that of the binade of `c`: one below,
`c`, one above, and the second above unless `c` is the last of its binade; just above the start of a binade, whose floats below lie half as
far apart, also a second and a third below, as far as the magnitude lies in the lower half behind `c`. -/
def withinTwoUlp (c : Nat) (lower : Bool) : List Nat :=
  let start := 2 ≤ c / 2 ^ 23
  [c, c + 1] ++ (if c = 0 then [] else [c - 1]) ++ (if c % 2 ^ 23 = 2 ^ 23 - 1 then [] else [c + 2]) ++
    (if start ∧ (c % 2 ^ 23 = 0 ∨ c % 2 ^ 23 = 1 ∧ lower) then [c - 2] else []) ++ (if start ∧ c % 2 ^ 23 = 0 ∧ lower then [c - 3] else [])

/-- The value within 2 ulp that the unit returns (R141), of the exact result's sign and at most `hi`: which one is open (assumption 9). -/
def sfuChoose (fn : Nat) (x : Word) (hi : Nat) (v : Located) : Nat :=
  let c := floorF32 v.m v.e
  let near := (withinTwoUlp c ((Fmt.f32.round .rne false false (2 * v.m + 1) (v.e - 1)).1 = c)).filter (fun r => decide (r ≤ hi))
  Fmt.f32.sgn v.neg + near.getD (Config.sfuPick fn x % near.length) hi

/-- 2^x for a finite operand away from the exact points (R141). -/
def locExp2 (neg : Bool) (m : Nat) (e : Int) : Located :=
  if e + bitLen m < -100 then (if neg then ⟨false, 2 ^ 100 - 1, -100⟩ else ⟨false, 2 ^ 100 + 1, -100⟩)
  else
    let fx : Int := if 0 ≤ e + fixP then (m * 2 ^ (e + fixP).toNat : Nat) else (m / 2 ^ (-(e + fixP)).toNat : Nat)
    let v : Int := if neg then -fx else fx
    let n := v / 2 ^ fixP
    let f := (v % 2 ^ fixP).toNat
    ⟨false, expFix (f * ln2Fix / 2 ^ fixP), n - fixP⟩

/-- log2 of a positive finite operand away from the exact points (R141). -/
def locLog2 (m : Nat) (e : Int) : Located :=
  let l := bitLen m
  let num := m - 2 ^ (l - 1)
  let den := m + 2 ^ (l - 1)
  let ln := 2 * atanhFix (num * 2 ^ fixP / den)
  let frac : Int := (ln * 2 ^ fixP / ln2Fix : Nat)
  let v : Int := (e + l - 1) * 2 ^ fixP + frac
  ⟨decide (v < 0), v.natAbs, -fixP⟩

/-- The quadrant and the remainder in fixed point of a magnitude m * 2^e by pi / 2, reduced exactly (R141). -/
def reduceTrig (m : Nat) (e : Int) : Nat × Nat :=
  let x := if 0 ≤ e + 320 then m * 2 ^ (e + 320).toNat else m / 2 ^ (-(e + 320)).toNat
  (x / halfPi320 % 4, x % halfPi320 / 2 ^ (320 - fixP))

/-- sin of a finite nonzero operand (R141). -/
def locSin (neg : Bool) (m : Nat) (e : Int) : Located :=
  if e + bitLen m < -40 then ⟨neg, m * 2 ^ 64 - 1, e - 64⟩
  else
    let (q, r) := reduceTrig m e
    let v := if q % 2 = 0 then sinFix r else cosFix r
    ⟨neg != decide (2 ≤ q), v.natAbs, -fixP⟩

/-- cos of a finite nonzero operand (R141). -/
def locCos (m : Nat) (e : Int) : Located :=
  if e + bitLen m < -40 then ⟨false, 2 ^ 100 - 1, -100⟩
  else
    let (q, r) := reduceTrig m e
    let v := if q % 2 = 0 then cosFix r else sinFix r
    ⟨q == 1 || q == 2, v.natAbs, -fixP⟩

/-- tanh of a finite nonzero operand of magnitude below 10 (R141). -/
def locTanh (neg : Bool) (m : Nat) (e : Int) : Located :=
  if e + bitLen m < -40 then ⟨neg, m * 2 ^ 64 - 1, e - 64⟩
  else
    let l := locExp2 false (m * (2 ^ 320 / ln2Fix)) (e - 159)
    let ex := if 0 ≤ l.e + fixP then l.m * 2 ^ (l.e + fixP).toNat else l.m / 2 ^ (-(l.e + fixP)).toNat
    ⟨neg, (ex - 2 ^ fixP) * 2 ^ fixP / (ex + 2 ^ fixP), -fixP⟩

/-- Whether m * 2^e is an integer. -/
def isIntegral (m : Nat) (e : Int) : Bool := decide (0 ≤ e) || m % 2 ^ (-e).toNat == 0

/-- VEXP2 (R141). -/
def f32Exp2 (x : Word) : Nat × Word :=
  let f := Fmt.f32
  match f.num x.toNat with
  | .nan => (f.pickNan [x.toNat], f.nv [x.toNat])
  | .inf n => (if n then 0 else f.infinity false, 0#32)
  | .fin n m e =>
    if m = 0 then (0x3F800000, 0#32)
    else if ¬ n ∧ 128 ≤ scaleBy m e then (f.infinity false, flagOF ||| flagNX)
    else if n ∧ (150 < scaleBy m e ∨ (scaleBy m e = 150 ∧ ¬ isIntegral m e)) then (0, flagUF ||| flagNX)
    else if isIntegral m e ∧ ¬ (n ∧ 149 < scaleBy m e) then
      f.round .rne false false 1 (if n then -(scaleBy m e : Int) else scaleBy m e)
    else
      let v := locExp2 n m e
      let r := sfuChoose 0 x 0x7F7FFFFF v
      (r, if r < 0x00800000 then flagUF ||| flagNX else flagNX)

/-- VLOG2 (R141). -/
def f32Log2 (x : Word) : Nat × Word :=
  let f := Fmt.f32
  match f.num x.toNat with
  | .nan => (f.pickNan [x.toNat], f.nv [x.toNat])
  | .inf n => if n then (f.defNan, flagNV) else (f.infinity false, 0#32)
  | .fin n m e =>
    if m = 0 then (f.infinity true, flagDZ)
    else if n then (f.defNan, flagNV)
    else if m = 2 ^ (bitLen m - 1) then convFromInt f .rne (e + bitLen m - 1)
    else (sfuChoose 1 x 0x7F7FFFFF (locLog2 m e), flagNX)

/-- VSIN (R141). -/
def f32Sin (x : Word) : Nat × Word :=
  let f := Fmt.f32
  match f.num x.toNat with
  | .nan => (f.pickNan [x.toNat], f.nv [x.toNat])
  | .inf _ => (f.defNan, flagNV)
  | .fin n m e =>
    if m = 0 then (f.sgn n, 0#32)
    else
      let r := sfuChoose 2 x 0x3F800000 (locSin n m e)
      (r, if r % 0x80000000 < 0x00800000 then flagUF ||| flagNX else flagNX)

/-- VCOS (R141). -/
def f32Cos (x : Word) : Nat × Word :=
  let f := Fmt.f32
  match f.num x.toNat with
  | .nan => (f.pickNan [x.toNat], f.nv [x.toNat])
  | .inf _ => (f.defNan, flagNV)
  | .fin _ m e => if m = 0 then (0x3F800000, 0#32) else (sfuChoose 3 x 0x3F800000 (locCos m e), flagNX)

/-- VTANH (R141): a magnitude of 10 or more gives exactly one. -/
def f32Tanh (x : Word) : Nat × Word :=
  let f := Fmt.f32
  match f.num x.toNat with
  | .nan => (f.pickNan [x.toNat], f.nv [x.toNat])
  | .inf n => (f.sgn n + 0x3F800000, 0#32)
  | .fin n m e =>
    if m = 0 then (f.sgn n, 0#32)
    else if 10 ≤ scaleBy m e then (f.sgn n + 0x3F800000, 0#32)
    else
      let r := sfuChoose 4 x 0x3F800000 (locTanh n m e)
      (r, if r % 0x80000000 < 0x00800000 then flagUF ||| flagNX else flagNX)

end Sys2Proof.Machine
end

