-- ==== Sys2Proof/Machine/VectorInt.lean ====
section
/-!
DEFINITION. The integer instructions of the vector pipe (R440 to R449, R457, R458, R462).
-/

namespace Sys2Proof.Machine

/-- Lane `l` of a vector source. -/
def Ctx.vl (c : Ctx) (r : BitVec 6) (l : Nat) : Word := (c.wave.vreg r.toNat).lane l

/-- An instruction writes one vector register, lane by lane, and no flag (R440). -/
def Ctx.vector (c : Ctx) (d : BitVec 6) (f : Nat → Word) (s : State) : State :=
  c.retire { vdst := [(d.toNat, LaneVec.ofFn f)] } s

/-- VADD (R442). -/
def execVadd (d a b : BitVec 6) (g : BitVec 3) (s : State) : Host.Outcome State Fault Refusal :=
  s.run (.vadd d a b g) (fun c s => c.vector d (fun l => c.vl a l + c.vl b l) s)

/-- VSUB (R442). -/
def execVsub (d a b : BitVec 6) (g : BitVec 3) (s : State) : Host.Outcome State Fault Refusal :=
  s.run (.vsub d a b g) (fun c s => c.vector d (fun l => c.vl a l - c.vl b l) s)

/-- VMUL (R127, R442). -/
def execVmul (d a b : BitVec 6) (g : BitVec 3) (s : State) : Host.Outcome State Fault Refusal :=
  s.run (.vmul d a b g) (fun c s => c.vector d (fun l => c.vl a l * c.vl b l) s)

/-- VMULH.i (R127, R442). -/
def execVmulhI (d a b : BitVec 6) (g : BitVec 3) (s : State) : Host.Outcome State Fault Refusal :=
  s.run (.vmulhI d a b g) (fun c s => c.vector d (fun l => mulhi (c.vl a l) (c.vl b l)) s)

/-- VAND (R442). -/
def execVand (d a b : BitVec 6) (g : BitVec 3) (s : State) : Host.Outcome State Fault Refusal :=
  s.run (.vand d a b g) (fun c s => c.vector d (fun l => c.vl a l &&& c.vl b l) s)

/-- VOR (R442). -/
def execVor (d a b : BitVec 6) (g : BitVec 3) (s : State) : Host.Outcome State Fault Refusal :=
  s.run (.vor d a b g) (fun c s => c.vector d (fun l => c.vl a l ||| c.vl b l) s)

/-- VXOR (R442). -/
def execVxor (d a b : BitVec 6) (g : BitVec 3) (s : State) : Host.Outcome State Fault Refusal :=
  s.run (.vxor d a b g) (fun c s => c.vector d (fun l => c.vl a l ^^^ c.vl b l) s)

/-- VANDN (R442). -/
def execVandn (d a b : BitVec 6) (g : BitVec 3) (s : State) : Host.Outcome State Fault Refusal :=
  s.run (.vandn d a b g) (fun c s => c.vector d (fun l => c.vl a l &&& ~~~(c.vl b l)) s)

/-- VSHL (R126, R442). -/
def execVshl (d a b : BitVec 6) (g : BitVec 3) (s : State) : Host.Outcome State Fault Refusal :=
  s.run (.vshl d a b g) (fun c s => c.vector d (fun l => shl (c.vl a l) (c.vl b l)) s)

/-- VSHR (R126, R442). -/
def execVshr (d a b : BitVec 6) (g : BitVec 3) (s : State) : Host.Outcome State Fault Refusal :=
  s.run (.vshr d a b g) (fun c s => c.vector d (fun l => shr (c.vl a l) (c.vl b l)) s)

/-- VSRA (R126, R442). -/
def execVsra (d a b : BitVec 6) (g : BitVec 3) (s : State) : Host.Outcome State Fault Refusal :=
  s.run (.vsra d a b g) (fun c s => c.vector d (fun l => sra (c.vl a l) (c.vl b l)) s)

/-- VMIN.i (R138, R442). -/
def execVminI (d a b : BitVec 6) (g : BitVec 3) (s : State) : Host.Outcome State Fault Refusal :=
  s.run (.vminI d a b g) (fun c s => c.vector d (fun l => mini (c.vl a l) (c.vl b l)) s)

/-- VMAX.i (R138, R442). -/
def execVmaxI (d a b : BitVec 6) (g : BitVec 3) (s : State) : Host.Outcome State Fault Refusal :=
  s.run (.vmaxI d a b g) (fun c s => c.vector d (fun l => maxi (c.vl a l) (c.vl b l)) s)

/-- VMIN.n (R138, R442). -/
def execVminN (d a b : BitVec 6) (g : BitVec 3) (s : State) : Host.Outcome State Fault Refusal :=
  s.run (.vminN d a b g) (fun c s => c.vector d (fun l => minn (c.vl a l) (c.vl b l)) s)

/-- VMAX.n (R138, R442). -/
def execVmaxN (d a b : BitVec 6) (g : BitVec 3) (s : State) : Host.Outcome State Fault Refusal :=
  s.run (.vmaxN d a b g) (fun c s => c.vector d (fun l => maxn (c.vl a l) (c.vl b l)) s)

/-- VMULH.n (R127, R442). -/
def execVmulhN (d a b : BitVec 6) (g : BitVec 3) (s : State) : Host.Outcome State Fault Refusal :=
  s.run (.vmulhN d a b g) (fun c s => c.vector d (fun l => mulhn (c.vl a l) (c.vl b l)) s)

/-- VBFX.i (R129, R445). -/
def execVbfxI (d a b : BitVec 6) (g : BitVec 3) (s : State) : Host.Outcome State Fault Refusal :=
  s.run (.vbfxI d a b g) (fun c s => c.vector d (fun l => extractField true (c.vl a l) (c.vl b l)) s)

/-- VBFX.n (R129, R445). -/
def execVbfxN (d a b : BitVec 6) (g : BitVec 3) (s : State) : Host.Outcome State Fault Refusal :=
  s.run (.vbfxN d a b g) (fun c s => c.vector d (fun l => extractField false (c.vl a l) (c.vl b l)) s)

/-- VBFI: inserts into the old destination (R129, R445). -/
def execVbfi (d a b : BitVec 6) (g : BitVec 3) (s : State) : Host.Outcome State Fault Refusal :=
  s.run (.vbfi d a b g) (fun c s => c.vector d (fun l => insertField (c.vl d l) (c.vl a l) (c.vl b l)) s)

/-- VSEL (R462): runs under EXM; the predicate selects. -/
def execVsel (d a b : BitVec 6) (q : BitVec 3) (s : State) : Host.Outcome State Fault Refusal :=
  s.run (.vsel d a b q) (fun c s => c.vector d (fun l => if laneSet (c.wave.preg q.toNat) l then c.vl a l else c.vl b l) s)

/-- VMOV (R442). -/
def execVmov (d a : BitVec 6) (g : BitVec 3) (s : State) : Host.Outcome State Fault Refusal :=
  s.run (.vmov d a g) (fun c s => c.vector d (fun l => c.vl a l) s)

/-- VBCAST (R444). -/
def execVbcast (d a : BitVec 6) (g : BitVec 3) (s : State) : Host.Outcome State Fault Refusal :=
  s.run (.vbcast d a g) (fun c s => c.vector d (fun _ => c.sv a) s)

/-- VCLZ (R446). -/
def execVclz (d a : BitVec 6) (g : BitVec 3) (s : State) : Host.Outcome State Fault Refusal :=
  s.run (.vclz d a g) (fun c s => c.vector d (fun l => clz (c.vl a l)) s)

/-- VPOPC (R446). -/
def execVpopc (d a : BitVec 6) (g : BitVec 3) (s : State) : Host.Outcome State Fault Refusal :=
  s.run (.vpopc d a g) (fun c s => c.vector d (fun l => popc (c.vl a l)) s)

/-- VBREV (R446). -/
def execVbrev (d a : BitVec 6) (g : BitVec 3) (s : State) : Host.Outcome State Fault Refusal :=
  s.run (.vbrev d a g) (fun c s => c.vector d (fun l => brev (c.vl a l)) s)

/-- VLANEID (R457). -/
def execVlaneid (d : BitVec 6) (g : BitVec 3) (s : State) : Host.Outcome State Fault Refusal :=
  s.run (.vlaneid d g) (fun c s => c.vector d (fun l => BitVec.ofNat 32 l) s)

/-- VMAD (R127, R458). -/
def execVmad (d a b e : BitVec 6) (n : BitVec 1) (s : State) : Host.Outcome State Fault Refusal :=
  s.run (.vmad d a b e n) (fun c s => c.vector d (fun l => mad (n == 1#1) (c.vl a l) (c.vl b l) (c.vl e l)) s)

/-- VADD with an immediate (R442). -/
def execVaddImm (d a : BitVec 6) (i : BitVec 13) (s : State) : Host.Outcome State Fault Refusal :=
  s.run (.vaddImm d a i) (fun c s => c.vector d (fun l => c.vl a l + sext i) s)

/-- VAND with an immediate (R442). -/
def execVandImm (d a : BitVec 6) (i : BitVec 13) (s : State) : Host.Outcome State Fault Refusal :=
  s.run (.vandImm d a i) (fun c s => c.vector d (fun l => c.vl a l &&& sext i) s)

/-- VOR with an immediate (R442). -/
def execVorImm (d a : BitVec 6) (i : BitVec 13) (s : State) : Host.Outcome State Fault Refusal :=
  s.run (.vorImm d a i) (fun c s => c.vector d (fun l => c.vl a l ||| sext i) s)

/-- VXOR with an immediate (R442). -/
def execVxorImm (d a : BitVec 6) (i : BitVec 13) (s : State) : Host.Outcome State Fault Refusal :=
  s.run (.vxorImm d a i) (fun c s => c.vector d (fun l => c.vl a l ^^^ sext i) s)

/-- VSHL by an immediate amount, taken modulo 32 (R126, R442). -/
def execVshlImm (d a n : BitVec 6) (s : State) : Host.Outcome State Fault Refusal :=
  s.run (.vshlImm d a n) (fun c s => c.vector d (fun l => shl (c.vl a l) (n.setWidth 32)) s)

/-- VSHR by an immediate amount, taken modulo 32 (R126, R442). -/
def execVshrImm (d a n : BitVec 6) (s : State) : Host.Outcome State Fault Refusal :=
  s.run (.vshrImm d a n) (fun c s => c.vector d (fun l => shr (c.vl a l) (n.setWidth 32)) s)

/-- VSRA by an immediate amount, taken modulo 32 (R126, R442). -/
def execVsraImm (d a n : BitVec 6) (s : State) : Host.Outcome State Fault Refusal :=
  s.run (.vsraImm d a n) (fun c s => c.vector d (fun l => sra (c.vl a l) (n.setWidth 32)) s)

/-- VMOV with an immediate (R442). -/
def execVmovImm (d : BitVec 6) (i : BitVec 13) (s : State) : Host.Outcome State Fault Refusal :=
  s.run (.vmovImm d i) (fun c s => c.vector d (fun _ => sext i) s)

/-! ### VCMP -/

/-- One merge of VCMP (R448): the new bits of pd1 and pd2 from their old bits and the compare's result. -/
def mergeBits (t : Nat) (p q r : Bool) : Bool × Bool :=
  match t % 4 with
  | 0 => (r, !r)
  | 1 => (p && r, q && !r)
  | 2 => (p || r, q || !r)
  | _ => (p || r, q && !r)

/-- The lanes of the predicates that VCMP writes: the lanes of EXM, and under .z the arm's whole entry mask (R448). -/
def Ctx.cmpLanes (c : Ctx) (t : Nat) : Mask := if 4 ≤ t then c.arm.exm ||| c.arm.entry else c.arm.exm

/-- The value of a merged predicate: zero in the lanes outside EXM, which only .z writes (R448). -/
def Ctx.cmpBits (c : Ctx) (f : Nat → Bool) : Mask := maskOf (fun l => laneSet c.arm.exm l && f l)

/-- VCMP from the results of its lanes (R448). -/
def Ctx.compare (c : Ctx) (p q t : Nat) (r : Nat → Bool × Word) (s : State) : State :=
  let old1 := c.wave.preg p
  let old2 := c.wave.preg q
  let new (l : Nat) : Bool × Bool := mergeBits t (laneSet old1 l) (laneSet old2 l) (r l).1
  let m := c.cmpLanes t
  c.retire
    { pdst := [(p, m, c.cmpBits (fun l => (new l).1)), (q, m, c.cmpBits (fun l => (new l).2))],
      flags := (maskLanes c.arm.exm).foldl (fun f l => f ||| (r l).2) 0#32 } s

/-- VCMP of integers (R447, R448). -/
def execVcmpInt (p q : BitVec 3) (a b : BitVec 6) (t : BitVec 3) (k : BitVec 4) (s : State) : Host.Outcome State Fault Refusal :=
  s.run (.vcmpInt p q a b t k) (fun c s => c.compare p.toNat q.toNat t.toNat (fun l => (condVector k.toNat (c.vl a l) (c.vl b l), 0#32)) s)

/-- VCMP of integers with an immediate (R447, R448). -/
def execVcmpImm (p q : BitVec 3) (a i : BitVec 6) (t : BitVec 3) (k : BitVec 4) (s : State) : Host.Outcome State Fault Refusal :=
  s.run (.vcmpImm p q a i t k) (fun c s => c.compare p.toNat q.toNat t.toNat (fun l => (condVector k.toNat (c.vl a l) (sext i), 0#32)) s)

end Sys2Proof.Machine
end

