-- ==== Sys2Proof/Machine/VectorFloat.lean ====
section
/-!
DEFINITION. The floating-point instructions of the vector pipe and of the SFU pipe (R130 to R145, R450 to R456).
-/

namespace Sys2Proof.Machine

/-- The rounding that an instruction captures at issue (R133). -/
def Ctx.rm (c : Ctx) : Rm := Rm.ofMode c.wave.modeNow

/-- The result of lanes and the flags that the enabled ones raise (R134). -/
def Ctx.floatResult (c : Ctx) (d : BitVec 6) (f : Nat → Nat × Word) : Result :=
  { vdst := [(d.toNat, LaneVec.ofFn (fun l => BitVec.ofNat 32 (f l).1))],
    flags := (maskLanes c.lanes).foldl (fun w l => w ||| (f l).2) 0#32 }

/-- An instruction of the vector pipe on floating-point lanes (R440). -/
def Ctx.float (c : Ctx) (d : BitVec 6) (f : Nat → Nat × Word) (s : State) : State := c.retire (c.floatResult d f) s

/-- An instruction of the SFU pipe: a long-latency producer (R440). -/
def Ctx.sfu (c : Ctx) (d : BitVec 6) (f : Nat → Nat × Word) (s : State) : State := c.retireSfu (c.floatResult d f) s

/-- Lane `l` of a source as a number. -/
def Ctx.vn (c : Ctx) (r : BitVec 6) (l : Nat) : Nat := (c.vl r l).toNat

/-- VCMP of f32 (R139, R447, R448). -/
def execVcmpF32 (p q : BitVec 3) (a b : BitVec 6) (t : BitVec 3) (k : BitVec 4) (s : State) : Host.Outcome State Fault Refusal :=
  s.run (.vcmpF32 p q a b t k) (fun c s => c.compare p.toNat q.toNat t.toNat (fun l => condFloat k.toNat (c.vn a l) (c.vn b l)) s)

/-- VFADD.f32 (R451). -/
def execVfaddF32 (d a b : BitVec 6) (g : BitVec 3) (s : State) : Host.Outcome State Fault Refusal :=
  s.run (.vfaddF32 d a b g) (fun c s => c.float d (fun l => Fmt.f32.add c.rm (c.vn a l) (c.vn b l)) s)

/-- VFSUB.f32 (R451). -/
def execVfsubF32 (d a b : BitVec 6) (g : BitVec 3) (s : State) : Host.Outcome State Fault Refusal :=
  s.run (.vfsubF32 d a b g) (fun c s => c.float d (fun l => Fmt.f32.sub c.rm (c.vn a l) (c.vn b l)) s)

/-- VFMUL.f32 (R451). -/
def execVfmulF32 (d a b : BitVec 6) (g : BitVec 3) (s : State) : Host.Outcome State Fault Refusal :=
  s.run (.vfmulF32 d a b g) (fun c s => c.float d (fun l => Fmt.f32.mul c.rm (c.vn a l) (c.vn b l)) s)

/-- VFMIN.f32 (R138, R456). -/
def execVfminF32 (d a b : BitVec 6) (g : BitVec 3) (s : State) : Host.Outcome State Fault Refusal :=
  s.run (.vfminF32 d a b g) (fun c s => c.float d (fun l => Fmt.f32.minNum (c.vn a l) (c.vn b l)) s)

/-- VFMAX.f32 (R138, R456). -/
def execVfmaxF32 (d a b : BitVec 6) (g : BitVec 3) (s : State) : Host.Outcome State Fault Refusal :=
  s.run (.vfmaxF32 d a b g) (fun c s => c.float d (fun l => Fmt.f32.maxNum (c.vn a l) (c.vn b l)) s)

/-- VFCLASS.f32 (R142, R452). -/
def execVfclassF32 (d a : BitVec 6) (g : BitVec 3) (s : State) : Host.Outcome State Fault Refusal :=
  s.run (.vfclassF32 d a g) (fun c s => c.float d (fun l => (Fmt.f32.classify (c.vn a l), 0#32)) s)

/-- VFCVT of f32 (R143, R453). -/
def execVfcvtF32 (d a k : BitVec 6) (g : BitVec 3) (s : State) : Host.Outcome State Fault Refusal :=
  s.run (.vfcvtF32 d a k g) (fun c s => c.float d (fun l => cvtF32 k.toNat c.rm (c.vn d l) (c.vn a l)) s)

/-- VFMA.f32 (R137, R455). -/
def execVfmaF32 (d a b e : BitVec 6) (n : BitVec 1) (s : State) : Host.Outcome State Fault Refusal :=
  s.run (.vfmaF32 d a b e n) (fun c s => c.float d (fun l => Fmt.f32.fma c.rm (n == 1#1) (c.vn a l) (c.vn b l) (c.vn e l)) s)

/-- VFADD.f16x2 (R451). -/
def execVfaddF16x2 (d a b : BitVec 6) (g : BitVec 3) (s : State) : Host.Outcome State Fault Refusal :=
  s.run (.vfaddF16x2 d a b g) (fun c s => c.float d (fun l => packedBin (Fmt.f16.add c.rm) (c.vn a l) (c.vn b l)) s)

/-- VFSUB.f16x2 (R451). -/
def execVfsubF16x2 (d a b : BitVec 6) (g : BitVec 3) (s : State) : Host.Outcome State Fault Refusal :=
  s.run (.vfsubF16x2 d a b g) (fun c s => c.float d (fun l => packedBin (Fmt.f16.sub c.rm) (c.vn a l) (c.vn b l)) s)

/-- VFMUL.f16x2 (R451). -/
def execVfmulF16x2 (d a b : BitVec 6) (g : BitVec 3) (s : State) : Host.Outcome State Fault Refusal :=
  s.run (.vfmulF16x2 d a b g) (fun c s => c.float d (fun l => packedBin (Fmt.f16.mul c.rm) (c.vn a l) (c.vn b l)) s)

/-- VFMIN.f16x2 (R138, R456). -/
def execVfminF16x2 (d a b : BitVec 6) (g : BitVec 3) (s : State) : Host.Outcome State Fault Refusal :=
  s.run (.vfminF16x2 d a b g) (fun c s => c.float d (fun l => packedBin (Fmt.f16.minNum) (c.vn a l) (c.vn b l)) s)

/-- VFMAX.f16x2 (R138, R456). -/
def execVfmaxF16x2 (d a b : BitVec 6) (g : BitVec 3) (s : State) : Host.Outcome State Fault Refusal :=
  s.run (.vfmaxF16x2 d a b g) (fun c s => c.float d (fun l => packedBin (Fmt.f16.maxNum) (c.vn a l) (c.vn b l)) s)

/-- VFCLASS.f16x2 (R142, R452). -/
def execVfclassF16x2 (d a : BitVec 6) (g : BitVec 3) (s : State) : Host.Outcome State Fault Refusal :=
  s.run (.vfclassF16x2 d a g) (fun c s => c.float d (fun l => (packed2 (fun h => (Fmt.f16.classify h, 0#32)) (c.vn a l))) s)

/-- VFCVT of f16x2 (R145, R453). -/
def execVfcvtF16x2 (d a k : BitVec 6) (g : BitVec 3) (s : State) : Host.Outcome State Fault Refusal :=
  s.run (.vfcvtF16x2 d a k g) (fun c s => c.float d (fun l => cvtPacked Fmt.f16 Fmt.bf16 k.toNat c.rm (c.vn a l)) s)

/-- VFMA.f16x2 (R137, R455). -/
def execVfmaF16x2 (d a b e : BitVec 6) (n : BitVec 1) (s : State) : Host.Outcome State Fault Refusal :=
  s.run (.vfmaF16x2 d a b e n) (fun c s => c.float d (fun l => packedTri (Fmt.f16.fma c.rm (n == 1#1)) (c.vn a l) (c.vn b l) (c.vn e l)) s)

/-- VFADD.bf16x2 (R451). -/
def execVfaddBf16x2 (d a b : BitVec 6) (g : BitVec 3) (s : State) : Host.Outcome State Fault Refusal :=
  s.run (.vfaddBf16x2 d a b g) (fun c s => c.float d (fun l => packedBin (Fmt.bf16.add c.rm) (c.vn a l) (c.vn b l)) s)

/-- VFSUB.bf16x2 (R451). -/
def execVfsubBf16x2 (d a b : BitVec 6) (g : BitVec 3) (s : State) : Host.Outcome State Fault Refusal :=
  s.run (.vfsubBf16x2 d a b g) (fun c s => c.float d (fun l => packedBin (Fmt.bf16.sub c.rm) (c.vn a l) (c.vn b l)) s)

/-- VFMUL.bf16x2 (R451). -/
def execVfmulBf16x2 (d a b : BitVec 6) (g : BitVec 3) (s : State) : Host.Outcome State Fault Refusal :=
  s.run (.vfmulBf16x2 d a b g) (fun c s => c.float d (fun l => packedBin (Fmt.bf16.mul c.rm) (c.vn a l) (c.vn b l)) s)

/-- VFMIN.bf16x2 (R138, R456). -/
def execVfminBf16x2 (d a b : BitVec 6) (g : BitVec 3) (s : State) : Host.Outcome State Fault Refusal :=
  s.run (.vfminBf16x2 d a b g) (fun c s => c.float d (fun l => packedBin (Fmt.bf16.minNum) (c.vn a l) (c.vn b l)) s)

/-- VFMAX.bf16x2 (R138, R456). -/
def execVfmaxBf16x2 (d a b : BitVec 6) (g : BitVec 3) (s : State) : Host.Outcome State Fault Refusal :=
  s.run (.vfmaxBf16x2 d a b g) (fun c s => c.float d (fun l => packedBin (Fmt.bf16.maxNum) (c.vn a l) (c.vn b l)) s)

/-- VFCLASS.bf16x2 (R142, R452). -/
def execVfclassBf16x2 (d a : BitVec 6) (g : BitVec 3) (s : State) : Host.Outcome State Fault Refusal :=
  s.run (.vfclassBf16x2 d a g) (fun c s => c.float d (fun l => (packed2 (fun h => (Fmt.bf16.classify h, 0#32)) (c.vn a l))) s)

/-- VFCVT of bf16x2 (R145, R453). -/
def execVfcvtBf16x2 (d a k : BitVec 6) (g : BitVec 3) (s : State) : Host.Outcome State Fault Refusal :=
  s.run (.vfcvtBf16x2 d a k g) (fun c s => c.float d (fun l => cvtPacked Fmt.bf16 Fmt.f16 k.toNat c.rm (c.vn a l)) s)

/-- VFMA.bf16x2 (R137, R455). -/
def execVfmaBf16x2 (d a b e : BitVec 6) (n : BitVec 1) (s : State) : Host.Outcome State Fault Refusal :=
  s.run (.vfmaBf16x2 d a b e n) (fun c s => c.float d (fun l => packedTri (Fmt.bf16.fma c.rm (n == 1#1)) (c.vn a l) (c.vn b l) (c.vn e l)) s)

/-- VFDIV (R140, R454). -/
def execVfdiv (d a b : BitVec 6) (g : BitVec 3) (s : State) : Host.Outcome State Fault Refusal :=
  s.run (.vfdiv d a b g) (fun c s => c.sfu d (fun l => f32Div c.rm (c.vn a l) (c.vn b l)) s)

/-- VFSQRT (R140, R454). -/
def execVfsqrt (d a : BitVec 6) (g : BitVec 3) (s : State) : Host.Outcome State Fault Refusal :=
  s.run (.vfsqrt d a g) (fun c s => c.sfu d (fun l => f32Sqrt c.rm (c.vn a l)) s)

/-- VRCP (R140, R454). -/
def execVrcp (d a : BitVec 6) (g : BitVec 3) (s : State) : Host.Outcome State Fault Refusal :=
  s.run (.vrcp d a g) (fun c s => c.sfu d (fun l => f32Rcp c.rm (c.vn a l)) s)

/-- VRSQ (R140, R454). -/
def execVrsq (d a : BitVec 6) (g : BitVec 3) (s : State) : Host.Outcome State Fault Refusal :=
  s.run (.vrsq d a g) (fun c s => c.sfu d (fun l => f32Rsq c.rm (c.vn a l)) s)

/-- VEXP2 (R141, R450). -/
def execVexp2 (d a : BitVec 6) (g : BitVec 3) (s : State) : Host.Outcome State Fault Refusal :=
  s.run (.vexp2 d a g) (fun c s => c.sfu d (fun l => f32Exp2 (c.vl a l)) s)

/-- VLOG2 (R141, R450). -/
def execVlog2 (d a : BitVec 6) (g : BitVec 3) (s : State) : Host.Outcome State Fault Refusal :=
  s.run (.vlog2 d a g) (fun c s => c.sfu d (fun l => f32Log2 (c.vl a l)) s)

/-- VSIN (R141, R450). -/
def execVsin (d a : BitVec 6) (g : BitVec 3) (s : State) : Host.Outcome State Fault Refusal :=
  s.run (.vsin d a g) (fun c s => c.sfu d (fun l => f32Sin (c.vl a l)) s)

/-- VCOS (R141, R450). -/
def execVcos (d a : BitVec 6) (g : BitVec 3) (s : State) : Host.Outcome State Fault Refusal :=
  s.run (.vcos d a g) (fun c s => c.sfu d (fun l => f32Cos (c.vl a l)) s)

/-- VTANH (R141, R450). -/
def execVtanh (d a : BitVec 6) (g : BitVec 3) (s : State) : Host.Outcome State Fault Refusal :=
  s.run (.vtanh d a g) (fun c s => c.sfu d (fun l => f32Tanh (c.vl a l)) s)

end Sys2Proof.Machine
end

