-- ==== Sys2Proof/Machine/CrossLane.lean ====
section
/-!
DEFINITION. Predicate logic (R394), shuffles (R415, R416), reductions and scans (R460, R461).
-/

namespace Sys2Proof.Machine

/-- The write of a predicate in the enabled lanes (R45, R394). -/
def Ctx.predicate (c : Ctx) (d : BitVec 3) (v : Mask) (s : State) : State := c.retire { pdst := [(d.toNat, c.lanes, v)] } s

/-- PAND (R394). -/
def execPand (d a b g : BitVec 3) (s : State) : Host.Outcome State Fault Refusal :=
  s.run (.pand d a b g) (fun c s => c.predicate d (c.wave.preg a.toNat &&& c.wave.preg b.toNat) s)

/-- POR (R394). -/
def execPor (d a b g : BitVec 3) (s : State) : Host.Outcome State Fault Refusal :=
  s.run (.por d a b g) (fun c s => c.predicate d (c.wave.preg a.toNat ||| c.wave.preg b.toNat) s)

/-- PXOR (R394). -/
def execPxor (d a b g : BitVec 3) (s : State) : Host.Outcome State Fault Refusal :=
  s.run (.pxor d a b g) (fun c s => c.predicate d (c.wave.preg a.toNat ^^^ c.wave.preg b.toNat) s)

/-- PNOT (R394). -/
def execPnot (d a g : BitVec 3) (s : State) : Host.Outcome State Fault Refusal :=
  s.run (.pnot d a g) (fun c s => c.predicate d (~~~(c.wave.preg a.toNat)) s)

/-- The tile width that an instruction captures (R62). -/
def Ctx.tile (c : Ctx) : Nat := tileWidth c.wave.ltileNow

/-- Lane `l` of a register as a shuffle reads it: one that the wave's other arm has written in this cycle gives its old value
(R416). -/
def Ctx.vOld (c : Ctx) (a : BitVec 6) (l : Nat) : Word :=
  match c.wave.old.find? (fun e => e.1 != c.r.arm && e.2.1 == a.toNat && laneSet e.2.2.1 l) with
  | some e => e.2.2.2.lane l
  | none => c.vl a l

/-- A shuffle: each lane reads the lane that a function names, whether or not that lane is enabled (R416). -/
def Ctx.shuffle (c : Ctx) (d a : BitVec 6) (j : Nat → Nat) (s : State) : State := c.vector d (fun l => c.vOld a (j l)) s

/-- The first lane of a lane's tile (R416). -/
def tileBase (w l : Nat) : Nat := l - l % w

/-- SHFL.idx (R416). -/
def execShflIdx (d a b : BitVec 6) (g : BitVec 3) (s : State) : Host.Outcome State Fault Refusal :=
  s.run (.shflIdx d a b g) (fun c s => c.shuffle d a (fun l => tileBase c.tile l + (c.vl b l).toNat % c.tile) s)

/-- SHFL.up (R416). -/
def execShflUp (d a b : BitVec 6) (g : BitVec 3) (s : State) : Host.Outcome State Fault Refusal :=
  s.run (.shflUp d a b g) (fun c s => c.shuffle d a (fun l => if (c.sv b).toNat ≤ l % c.tile then l - (c.sv b).toNat else l) s)

/-- SHFL.down (R416). -/
def execShflDown (d a b : BitVec 6) (g : BitVec 3) (s : State) : Host.Outcome State Fault Refusal :=
  s.run (.shflDown d a b g) (fun c s => c.shuffle d a (fun l => if l % c.tile + (c.sv b).toNat < c.tile then l + (c.sv b).toNat else l) s)

/-- SHFL.xor (R416). -/
def execShflXor (d a b : BitVec 6) (g : BitVec 3) (s : State) : Host.Outcome State Fault Refusal :=
  s.run (.shflXor d a b g) (fun c s => c.shuffle d a (fun l => tileBase c.tile l + (l % c.tile ^^^ ((c.sv b).toNat % c.tile))) s)

/-- SHFL.bcast (R416). -/
def execShflBcast (d a b : BitVec 6) (g : BitVec 3) (s : State) : Host.Outcome State Fault Refusal :=
  s.run (.shflBcast d a b g) (fun c s => c.shuffle d a (fun l => tileBase c.tile l + (c.sv b).toNat % c.tile) s)

/-- The combination of a reduction or scan (R460): operation, rounding, accumulated value, next value. -/
def reduceOp (f : Nat) (rm : Rm) (x y : Word) : Word × Word :=
  let ofNat (r : Nat × Word) : Word × Word := (BitVec.ofNat 32 r.1, r.2)
  match f with
  | 0 => (x + y, 0#32)
  | 1 => ofNat (Fmt.f32.add rm x.toNat y.toNat)
  | 2 => (mini x y, 0#32)
  | 3 => (maxi x y, 0#32)
  | 4 => ofNat (Fmt.f32.minNum x.toNat y.toNat)
  | 5 => ofNat (Fmt.f32.maxNum x.toNat y.toNat)
  | 6 => (x &&& y, 0#32)
  | _ => (x ||| y, 0#32)

/-- The identity of an exclusive scan (R460). -/
def reduceIdentity (f : Nat) : Word :=
  match f with
  | 1 => 0x80000000#32
  | 2 => 0x7FFFFFFF#32
  | 3 => 0x80000000#32
  | 4 => 0x7F800000#32
  | 5 => 0xFF800000#32
  | 6 => 0xFFFFFFFF#32
  | _ => 0#32

/-- The running values of lanes in ascending order, after an accumulated value, with the flags raised (R461). -/
def runningFrom (f : Nat) (rm : Rm) (x : Nat → Word) (acc : Word) : List Nat → List (Nat × Word) × Word
  | [] => ([], 0#32)
  | l :: ls =>
    let (y, fl) := reduceOp f rm acc (x l)
    let (r, fs) := runningFrom f rm x y ls
    ((l, y) :: r, fl ||| fs)

/-- The running values of the enabled lanes of a tile (R461): the first enters unchanged. -/
def running (f : Nat) (rm : Rm) (x : Nat → Word) : List Nat → List (Nat × Word) × Word
  | [] => ([], 0#32)
  | l :: ls =>
    let (r, fl) := runningFrom f rm x (x l) ls
    ((l, x l) :: r, fl)

/-- The enabled lanes of each tile. -/
def Ctx.tiles (c : Ctx) : List (List Nat) :=
  (List.range (32 / c.tile)).map (fun t => (maskLanes c.lanes).filter (fun l => l / c.tile == t))

/-- A value by lane, zero for a lane that a list does not name. -/
def laneAt (l : List (Nat × Word)) (k : Nat) : Word := ((l.find? (fun e => e.1 == k)).map (fun e => e.2)).getD 0#32

/-- The running values of every tile, with the flags raised. -/
def Ctx.runs (c : Ctx) (f : Nat) (a : BitVec 6) : List (List (Nat × Word) × Word) := c.tiles.map (running f c.rm (c.vl a))

/-- What a reduction delivers: the last running value to every enabled lane of its tile (R461). -/
def reduced (r : List (Nat × Word)) : List (Nat × Word) :=
  r.map (fun e => (e.1, ((r.getLast?).map (fun x => x.2)).getD 0#32))

/-- What an exclusive scan delivers: the running value of the enabled lane before (R461). -/
def shifted (f : Nat) (r : List (Nat × Word)) : List (Nat × Word) :=
  (r.map (fun e => e.1)).zip (reduceIdentity f :: r.map (fun e => e.2))

/-- The result of a reduction or scan from what each tile delivers (R461). -/
def combined (d : BitVec 6) (rs : List (List (Nat × Word) × Word)) (deliver : List (Nat × Word) → List (Nat × Word)) : Result :=
  let all := rs.flatMap (fun r => deliver r.1)
  { vdst := [(d.toNat, LaneVec.ofFn (laneAt all))], flags := rs.foldl (fun w r => w ||| r.2) 0#32 }

/-- VRED (R460, R461). -/
def execVred (d a : BitVec 6) (g f : BitVec 3) (s : State) : Host.Outcome State Fault Refusal :=
  s.run (.vred d a g f) (fun c s => c.retire (combined d (c.runs f.toNat a) reduced) s)

/-- VSCAN (R460, R461). -/
def execVscan (d a : BitVec 6) (k : BitVec 1) (f : BitVec 3) (s : State) : Host.Outcome State Fault Refusal :=
  s.run (.vscan d a k f) (fun c s => 
    c.retire (combined d (c.runs f.toNat a) (if k = 1#1 then shifted f.toNat else id)) s)

end Sys2Proof.Machine
end

