-- ==== Sys2Proof/Machine/Network.lean ====
section
/-!
DEFINITION. The on-chip network (R20, R186 to R188): the routers of a compute stack, their ports, how a turn list leads through them,
and the routes of memory accesses and messages. A flit goes its way in one step, so that a queue never stands between steps.
-/

namespace Sys2Proof.Machine

/-- A router of a stack's folded Clos (R186). -/
inductive Router where
  | leaf (l : Nat)
  | middle (pod m : Nat)
  | spine (plane k : Nat)
  deriving DecidableEq, Repr

/-- What attaches to a leaf (R186). -/
inductive Endpoint where
  | cluster (c : Nat)
  | slice (n : Nat)
  | bridge (b : Nat)
  deriving DecidableEq, Repr

/-- Where a port of a router leads. -/
inductive Hop where
  | to_ (r : Router)
  | end_ (e : Endpoint)
  deriving DecidableEq, Repr

/-- The ports of the routers (R186). -/
def Router.port (r : Router) (p : Nat) : Option Hop :=
  match r with
  | .leaf l =>
    if p = 0 then some (.end_ (.cluster l))
    else if p ≤ 4 then some (.end_ (.slice (4 * l + p - 1)))
    else if p = 5 ∧ l % 4 = 0 then some (.end_ (.bridge (l / 4)))
    else if 8 ≤ p ∧ p ≤ 11 then some (.to_ (.middle (l / 4) (p - 8)))
    else none
  | .middle pod m =>
    if p < 4 then some (.to_ (.leaf (4 * pod + p))) else if p < 8 then some (.to_ (.spine m (p - 4))) else none
  | .spine plane _ => if p < 4 then some (.to_ (.middle p plane)) else none

/-- The up ports of a router (R186). -/
def Router.upPorts : Router → List Nat
  | .leaf _ => [8, 9, 10, 11]
  | .middle _ _ => [4, 5, 6, 7]
  | .spine _ _ => []

/-- The port whose queue holds the fewest flits, ties to the lowest number (R187). -/
def leastQueued (flits : Nat → Nat) : List Nat → Option Nat
  | [] => none
  | p :: ps =>
    match leastQueued flits ps with
    | some q => if flits q < flits p then some q else some p
    | none => some p

/-- The output port that a turn names: 15 is any up port (R187). -/
def Router.turn (r : Router) (flits : Router → Nat → Nat) (t : Nat) : Option Nat :=
  if t = 15 then leastQueued (flits r) r.upPorts else some t

/-- The routers that a turn list crosses from a leaf on, and where it ends: each router takes bits [3:0] and shifts the list right by 4
(R187). -/
def Router.walk (flits : Router → Nat → Nat) : Nat → Router → Nat → List Router × Option Endpoint
  | 0, r, _ => ([r], none)
  | fuel + 1, r, w =>
    match (r.turn flits (w % 16)).bind r.port with
    | some (.end_ e) => ([r], some e)
    | some (.to_ next) => let (rs, e) := Router.walk flits fuel next (w / 16); (r :: rs, e)
    | none => ([r], none)

/-- The leaf and the port of an endpoint (R186). -/
def Endpoint.place : Endpoint → Nat × Nat
  | .cluster c => (c, 0)
  | .slice n => (n / 4, 1 + n % 4)
  | .bridge b => (4 * b, 5)

/-- The turn list from a leaf to an endpoint of the same stack (R187). -/
def turnList (srcLeaf : Nat) (e : Endpoint) : List Nat :=
  let (leaf, port) := e.place
  if srcLeaf = leaf then [port]
  else if srcLeaf / 4 = leaf / 4 then [15, leaf % 4, port]
  else [15, 15, leaf / 4, leaf % 4, port]

/-- The turn list of a message: its up ports are fixed by the destination and the source core (R187). -/
def messageTurns (srcCore dstCore srcLeaf : Nat) (e : Endpoint) : List Nat :=
  let (leaf, port) := e.place
  if srcLeaf = leaf then [port]
  else if srcLeaf / 4 = leaf / 4 then [8 + dstCore % 4, leaf % 4, port]
  else [8 + dstCore % 4, 4 + srcCore % 4, leaf / 4, leaf % 4, port]

/-- The 24-bit word of a turn list, first turn lowest (R187). -/
def turnWord : List Nat → Nat
  | [] => 0
  | t :: ts => t + 16 * turnWord ts

/-- Where a flit goes within a stack. -/
def leads (flits : Router → Nat → Nat) (srcLeaf : Nat) (ts : List Nat) : Option Endpoint :=
  (Router.walk flits 6 (.leaf srcLeaf) (turnWord ts)).2

/-- The bridges by which traffic from stack `s` leaves for stack `t` and enters it (R188). -/
def bridges (s t : Nat) : Nat × Nat := (t % 4, s % 4)

/-- Where a flit from a leaf of one stack to an endpoint of another or the same stack arrives: over the two bridges, of which the second
writes a new turn list (R188). -/
def arrives (flits : Router → Nat → Nat) (turns : Nat → Endpoint → List Nat) (src dst srcLeaf : Nat) (e : Endpoint) : Option Endpoint :=
  if src = dst then leads flits srcLeaf (turns srcLeaf e)
  else
    let (out, into) := bridges src dst
    match leads flits srcLeaf (turns srcLeaf (.bridge out)) with
    | some (.bridge _) => leads flits (4 * into) (turns (4 * into) e)
    | _ => none

/-- Whether the network leads a message from a core to another (R184, R187, R188): queues do not matter to its fixed route. -/
def messageArrives (src dst : Nat) : Bool :=
  arrives (fun _ _ => 0) (messageTurns src dst) (stackOf src) (stackOf dst) (clusterOf src % 16) (.cluster (clusterOf dst % 16)) ==
    some (.cluster (clusterOf dst % 16))

/-- Where a core's access to a line goes: the slice of its home, over the network (R163, R187, R188). -/
def State.homeArrival (s : State) (flits : Router → Nat → Nat) (core la : Nat) : Option Endpoint :=
  let (stack, slice, _) := homeSlice s.groups (128 * la)
  arrives flits turnList (stackOf core) stack (clusterOf core % 16) (.slice slice)

end Sys2Proof.Machine
end

