-- ==== Sys2Proof/Machine/Device.lean ====
section
/-!
DEFINITION. Steps of the device: results that arrive (R50), messages (R184), and the writing of events (R282).
-/

namespace Sys2Proof.Machine

/-! ### Results in flight -/

/-- A producer's results reach the wave's own registers, and every destination is full in every view (R50, R51). -/
def Wave.receive (w : Wave) (p : Pending) : Wave :=
  let own := p.vdst.filter (fun e => !p.push.any (fun x => x.1 == e.1))
  let w := (w.write p.lanes { vdst := own, sdst := p.sdst, pdst := p.pdst, flags := p.flags }).unmark p.id
  { w with inflight := w.inflight.filter (fun q => q.id != p.id) }

/-- A producer's results that go to stream ports fill their elements (R181). -/
def State.fillPushes (s : State) (w : Wave) (p : Pending) : State :=
  p.push.foldl (fun s e =>
    let (data, s) := s.pushData (s.team w.tid).job p.lanes (((p.vdst.find? (fun x => x.1 == e.1)).map (fun x => x.2)).getD [])
    s.modRing w.tid e.2.1 (fillElem e.2.2 data)) s

/-- RESULT_ARRIVAL (R50): the last lane's result is there. -/
def execResultArrival (core slot id : Nat) (s : State) : Host.Outcome State Fault Refusal :=
  .next (match s.wave? core slot with
    | none => s
    | some w =>
      match w.inflight.find? (fun p => p.id == id && p.left == 0) with
      | none => s
      | some p => (((s.fillPushes w p).modWave core slot (fun w => w.receive p)).resumeAcquires core slot))

/-! ### Messages -/

/-- DROP of a wave, where it owns message ports or has them saved (R183, R185). -/
def State.dropMark (s : State) (uid : Nat) : State :=
  { s with
    cores := s.cores.map (fun (e : Nat × Core) =>
      (e.1, if e.2.port.any (fun p => e.2.slots.any (fun w => w.1 == p && w.2.uid == uid)) then { e.2 with pDrop := true } else e.2))
    units := s.units.map (fun (u : Nat × Saved) => (u.1, { u.2 with ports := u.2.ports.map (fun (p : SavedPort) =>
      if u.2.waves.any (fun w => w.core == p.core && w.slot == p.slot && w.wave.uid == uid) then { p with drop := true } else p) })) }

/-- Whether a core accepts messages of a job: a wave of the job has the ports enabled there (R184). -/
def State.takesMessages (s : State) (core jid : Nat) : Bool :=
  ((s.core core).port.bind (fun p => s.wave? core p)).any (fun w => (s.team w.tid).job == jid)

/-- The message leaves the injection buffer. -/
def State.leaveTx (s : State) (m : Msg) : State := s.modCore m.src (fun k => { k with txq := k.txq.erase m })

/-- MESSAGE_ARRIVAL (R184): the oldest message from one core to another comes over its fixed route (R187, R188); a full receive queue
holds it back. -/
def execMessageArrival (src dst : Nat) (s : State) : Host.Outcome State Fault Refusal :=
  .next (match (s.core src).txq.find? (fun m => m.dst == dst) with
    | none => s
    | some m =>
      if !messageArrives src dst then s
      else if !s.takesMessages dst m.job then (s.leaveTx m).dropMark m.suid
      else if 256 ≤ (s.core dst).rxq.length then s
      else (s.leaveTx m).modCore dst (fun k => { k with rxq := k.rxq ++ [m] }))

/-! ### Events -/

/-- Whether an event queue is full (R282). -/
def Iface.eqFull (v : Iface) : Bool := v.eqsz == 0#32 || (v.eqtl.toNat + 1) % v.eqsz.toNat == v.eqhd.toNat

/-- The address where an interface's next event goes (R253, R282). -/
def Iface.eventVA (v : Iface) : Nat := pair v.eqbl v.eqbh + 128 * v.eqtl.toNat

/-- Where a virtual address leads for the I/O die under an interface or a job: `bad` is what it cannot translate (R471). -/
inductive IoPlace where
  | at (t : Target)
  | miss
  | bad
  deriving DecidableEq, Repr

/-- Translation of an address for the I/O die (R471). An address beyond 57 bits and one that leads to a peer module count as refused:
R471 names neither, and this is the model's choice (assumption 10). -/
def State.ioPlace (s : State) (pasid va : Nat) (write : Bool) : IoPlace :=
  if !vaOk va || s.refusals.contains (pasid, va / 4096, write) then .bad
  else match s.xlate ioUnit pasid va write with
    | .miss => .miss
    | .hit (.peer _ _) => .bad
    | .hit t => .at t

/-- A refusal has been seen by what waited for it. -/
def State.forget (s : State) (pasid va : Nat) (write : Bool) : State :=
  { s with refusals := s.refusals.filter (fun e => e != (pasid, va / 4096, write)) }

/-- The oldest waiting event is dropped and counted (R282). -/
def State.dropEvent (s : State) (vi : Nat) : State := s.modIface vi (fun v => { v with held := v.held.drop 1, lost := v.lost + 1 })

/-- The oldest waiting event is written: the count of dropped events in w1, EQTL moves on, vector 0 signals (R282, R309). -/
def State.writeEvent (s : State) (vi : Nat) (t : Target) (e : Event) : State :=
  let lost := (s.iface vi).lost
  let s := s.outsideWrite (s.viPasid vi) t (wordsBytes (e.set 1 (BitVec.ofNat 32 (min lost 0xFFFFFFFF))))
  { s.modIface vi (fun v =>
      { v with held := v.held.drop 1, lost := 0, eqtl := BitVec.ofNat 32 ((v.eqtl.toNat + 1) % v.eqsz.toNat) }) with
    msix := s.msix ++ [(vi, 0)] }

/-- EVENT_WRITE (R282). -/
def execEventWrite (vi : Nat) (s : State) : Host.Outcome State Fault Refusal :=
  .next (match (s.iface vi).held with
    | [] => s
    | e :: _ =>
      let v := s.iface vi
      if v.eqFull then s.dropEvent vi
      else match s.ioPlace (s.viPasid vi) v.eventVA true with
        | .miss => s.askX ioUnit (s.viPasid vi) v.eventVA true
        | .bad => (s.forget (s.viPasid vi) v.eventVA true).dropEvent vi
        | .at t => s.writeEvent vi t e)

end Sys2Proof.Machine
end

