-- ==== Sys2Proof/Machine/Tasks.lean ====
section
/-!
DEFINITION. Tasks and futures: SPAWN (R80, R422), FNEW, FJOIN, FWAIT and FPUT (R91, R92, R361 to R367), TEND (R93, R437, R438), and
the deliveries that the device makes (R84, R88, R469).
-/

namespace Sys2Proof.Machine

/-! ### SPAWN -/

/-- The push of a closure by a wave (R74, R75, R79, R80). -/
def Ctx.spawn (c : Ctx) (ws : List Word) (s : State) : State :=
  match headerFault c.job.npkt ws with
  | some k => c.fault 0x10 0 k s
  | none =>
    if !c.job.drained && (s.core c.r.core).dequeFull then c.fault 0x1E 0 0 s
    else
      let (uid, s) := s.fresh
      c.done (s.pushEntry c.r.core (newEntry uid c.job (migratable c.job ws)))

/-- SPAWN.s (R80, R422): the closure of s0 to s31 or s32 to s63. -/
def execSpawnS (a : BitVec 1) (s : State) : Host.Outcome State Fault Refusal :=
  s.run (.spawnS a) (fun c s => c.afterAccesses s (fun s =>
    c.spawn ((group (32 * a.toNat) 32).map (fun r => c.wave.sreg r)) s))

/-- SPAWN.l (R80, R422): the closure of 128 bytes of SCRATCH. R80 names no address for its violation: FADDL is the first byte beyond
the allocation, or the local address where that is beyond it already, a choice of this model (assumption 36). -/
def execSpawnL (a : BitVec 6) (s : State) : Host.Outcome State Fault Refusal :=
  s.run (.spawnL a) (fun c s => c.afterAccesses s (fun s =>
    let x := (c.wave.sreg a.toNat).toNat
    let al := s.alloc c.team.alloc
    if x % 128 ≠ 0 then c.fault 0x10 0 x s
    else if al.bytes < x + 128 then c.fault 0x12 2 (max x al.bytes) s
    else match al.poisonIn x 128 with
      | some sector => c.fault 0x13 0 sector s
      | none => c.spawn (bytesWords 32 (al.bytesAt x 128)) s))

/-! ### Future cells -/

/-- A fault with a whole cause word; `err` says whether the wave's own future receives the error delivery (R438). -/
def Ctx.faultWord (c : Ctx) (cause : Word) (addr : Nat) (err : Bool) (s : State) : State :=
  s.haltWave c.r.core c.r.slot ⟨c.arm.pc, c.arm.word, c.arm.exm, false⟩ cause addr [] err

/-- Goes on with a cell whose handle passes R87: aligned, within 57 bits, outside the code segment (R100), translated, with the
miss-status entries of its lines free (R175). An arm whose cell's page waits holds, with its operands captured (R288, R361). The
permission that it asks for is a choice of this model: read for FWAIT, which writes nothing, and write for the others; while it waits
for its page it is no access that a release of the wave waits for, which is one as well (assumption 35). -/
def Ctx.onCell (c : Ctx) (h : Nat) (write err : Bool) (lines : Nat) (s : State) (k : Target → State → State) : State :=
  if h % 32 = 0 ∧ vaOk h ∧ c.job.inCode h then c.faultWord (faultCause 0x12 4) h err s
  else match s.checkHandle c.r.core c.job.pasid h write with
    | .bad cause => c.faultWord cause h err s
    | .miss => c.holdFor (.page write [(32, h)]) false (s.askX c.r.core c.job.pasid h write)
    | .at t =>
      if s.pageLogged c.r.core c.job.pasid h then c.holdFor (.page write [(32, h)]) false s
      else c.withEntries lines s (fun s => k t s)

/-- Goes on with the words of a cell whose sector is not poisoned and whose OP is defined (R86, R178). -/
def Ctx.readCell (c : Ctx) (t : Target) (h : Nat) (err : Bool) (s : State) (k : List Word → State → State) : State :=
  let s := (s.homeSector c.r.core t).touchHome c.job.pasid t 32
  let (ws, p) := s.cellWords t
  if p then c.faultWord (faultCause 0x13 0) h err s
  else if 6 < cellOp (ws.getD 1 0#32) then c.faultWord (faultCause 0x1D 0) h err s
  else k ws s

/-- The cell's sector carries no poison after a write of all 32 bytes (R178, R362). -/
def State.cleanCell (s : State) (core : Nat) (t : Target) : State :=
  match t with
  | .dpa a => s.markSector (clusterOf core) false (a / 32)
  | _ => s

/-- FNEW's write (R91, R362). -/
def State.newCell (s : State) (core pasid : Nat) (t : Target) (count : Word) (op : Nat) : State :=
  let v := initialValue op
  let s := (s.homeSector core t).dropParked t
  let s := s.cellPut core pasid t 0 [count, BitVec.ofNat 32 op, lo32 v, hi32 v, 0#32, 0#32, 0#32, 0#32]
  let s := (s.cleanCell core t).unregister t
  if count = 0#32 then s.wakeCell t (lo32 v) (hi32 v) else s

/-- FNEW (R91, R362). -/
def execFnew (a b : BitVec 6) (u : BitVec 3) (s : State) : Host.Outcome State Fault Refusal :=
  s.run (.fnew a b u) (fun c s =>
    if u = 7#3 then c.illegal s
    else c.onCell (c.wave.spair a.toNat) true true 1 s (fun t s =>
      c.done (s.newCell c.r.core c.job.pasid t (c.wave.sreg b.toNat) u.toNat)))

/-- The number under which an instruction that has captured its operands fetches from peers. -/
def Ctx.fetcher (c : Ctx) : Nat := (c.held.map (fun p => p.id)).getD 0

/-- Goes on with the target of a continuation line whose page translates (R91). -/
def Ctx.onLine (c : Ctx) (va : Nat) (s : State) (k : Target → State → State) : State :=
  if va % 128 ≠ 0 then c.fault 0x10 0 va s
  else if !vaOk va then c.fault 0x12 5 va s
  else match s.xlate c.r.core c.job.pasid va false with
    | .hit t => if s.pageLogged c.r.core c.job.pasid va then c.holdFor (.page false [(32, va)]) false s else k t s
    | .miss => c.holdFor (.page false [(32, va)]) false (s.askX c.r.core c.job.pasid va false)

/-- A release of an instruction, once the wave's earlier accesses are performed (R194, R203); one that has made its release makes it
once. -/
def Ctx.releaseAt (c : Ctx) (scope : Nat) (s : State) (k : State → State) : State :=
  if c.arm.cap.any (fun q => q.released) then k s else c.afterAccesses s (fun s => k (s.release c.r.core scope))

/-- An instruction that has made its release waits for its line to come from a peer (R90, R312, R363). -/
def Ctx.holdReleased (c : Ctx) (s : State) : State :=
  (c.holdFor (.wait .link) false s).modArm c.r (fun a => { a with cap := a.cap.map (fun q => { q with released := true }) })

/-- Goes on when a line can be read: one in a peer is fetched first, and the arm waits for it (R90, R312). -/
def Ctx.lineThere (c : Ctx) (va : Nat) (t : Target) (s : State) (k : State → State) : State :=
  if !isPeer t then k s
  else if c.held.isNone then c.holdReleased s
  else match s.peerNeeds c.fetcher c.r.core c.job.pasid (lineSectors va) with
    | [] => k s
    | ns => c.holdReleased (s.askSectors c.fetcher c.r.core c.job.jid ns)

/-- FJOIN's registration at the cell (R91, R363). -/
def Ctx.join (c : Ctx) (t : Target) (h va : Nat) (s : State) : State :=
  c.readCell t h true s (fun ws s =>
    let w1 := ws.getD 1 0#32
    if w1.getLsbD 9 then c.fault 0x1D 0 h s
    else
      let s := s.cellPut c.r.core c.job.pasid t 1 [w1 ||| 0x200#32]
      let s := c.done (s.cellPut c.r.core c.job.pasid t 4 [lo32 va, hi32 va])
      if ws.getD 0 0#32 = 0#32 then
        s.pushContinuation c.r.core c.job.jid va (ws.getD 2 0#32) (ws.getD 3 0#32) (w1 ||| 0x200#32)
      else s.modJob c.job.jid (fun j => { j with regs := j.regs ++ [t] }))

/-- FJOIN's line, once it can be read after the release (R91, R363); the fault of a poisoned line names the line (R366). -/
def Ctx.joinLine (c : Ctx) (t line : Target) (h va : Nat) (s : State) : State :=
  let s := (s.homeLine c.r.core line).touchHome c.job.pasid line 128
  let (bs, p) := s.lineBytes c.fetcher va line
  let s := s.forgetFetched c.fetcher
  if p then c.fault 0x13 0 va s
  else match headerFault c.job.npkt (bytesWords 32 bs) with
    | some k => c.fault 0x10 0 k s
    | none => c.join t h va s

/-- FJOIN (R91, R363): its cell and its line each take a miss-status entry (R175). -/
def execFjoin (a b : BitVec 6) (s : State) : Host.Outcome State Fault Refusal :=
  s.run (.fjoin a b) (fun c s =>
    let h := c.wave.spair a.toNat
    let va := c.wave.spair b.toNat
    c.onCell h true true (if h / 128 = va / 128 then 1 else 2) s (fun t s =>
      c.onLine va s (fun line s =>
        c.releaseAt 4 s (fun s =>
          c.lineThere va line s (fun s => c.joinLine t line h va s)))))

/-- Whether a wave has an arm parked in FWAIT. -/
def Wave.parkedArm (w : Wave) : Bool := w.arms.any (fun e => e.2.heldBy Hold.isParked)

/-- FWAIT on a cell whose count is not 0 (R365). -/
def Ctx.park (c : Ctx) (t : Target) (h d : Nat) (s : State) : State :=
  if !c.wave.parkedArm && decide (48 ≤ s.parkedSlots c.r.core) then c.fault 0x1B 0 h s
  else s.modArm c.r (fun a => { a with hold := .parked h t d })

/-- FWAIT (R92, R365). -/
def execFwait (d a : BitVec 6) (s : State) : Host.Outcome State Fault Refusal :=
  s.run (.fwait d a) (fun c s =>
    let h := c.wave.spair a.toNat
    c.onCell h false true 1 s (fun t s =>
      c.readCell t h true s (fun ws s =>
        if ws.getD 0 0#32 = 0#32 then
          (s.modWave c.r.core c.r.slot (fun w =>
            (w.setS d.toNat (ws.getD 2 0#32)).setS (d.toNat + 1) (ws.getD 3 0#32))).finishAcquire c.r 4
        else c.park t h d.toNat s)))

/-- FPUT (R91, R364). -/
def execFput (a b : BitVec 6) (s : State) : Host.Outcome State Fault Refusal :=
  s.run (.fput a b) (fun c s =>
    let h := c.wave.spair a.toNat
    c.onCell h true true 1 s (fun t s =>
      c.releaseAt 4 s (fun s =>
        c.readCell t h true s (fun _ s =>
          c.done (s.deliver c.r.core c.job.jid t (c.wave.spair b.toNat) false)))))

/-! ### TEND -/

/-- TEND's delivery and the end of the wave (R93); an arm is known to hold the context. -/
def Ctx.tendDeliver (c : Ctx) (t : Target) (h v : Nat) (s : State) : State :=
  c.readCell t h false s (fun _ s =>
    (s.deliver c.r.core c.job.jid t v false).endWave c.r.core c.r.slot false)

/-- The tiles that a task writes back at its end (R84). -/
def Wave.backTiles (w : Wave) : List Tile := w.tiles.filter (fun t => t.wb)

/-- The write-back begins: an engine thread that forks here (R205, R437). -/
def Ctx.startBack (c : Ctx) (h v : Nat) (s : State) : State :=
  c.afterAccesses s (fun s => (s.fork c.r.core).modArm c.r (fun x => { x with hold := .tiles h v 0 }))

/-- TEND (R93, R437): its handle is checked first (R87); a task with tiles to write back holds until they are written. -/
def execTend (a : BitVec 6) (s : State) : Host.Outcome State Fault Refusal :=
  s.run (.tend a) (fun c s =>
    let h := pair c.wave.tfutl c.wave.tfuth
    let v := c.wave.spair a.toNat
    if !c.wave.backTiles.isEmpty then
      if h = 0 then c.startBack h v s else c.onCell h true false 1 s (fun _ s => c.startBack h v s)
    else if h = 0 then s.endWave c.r.core c.r.slot false
    else c.onCell h true false 1 s (fun t s => c.releaseAt 4 s (fun s => c.tendDeliver t h v s)))

/-- The arm of a wave that waits in TEND, with the handle and the value that it read, and the bytes written back. -/
def Wave.tendArm (w : Wave) : Option (Nat × Arm × Nat × Nat × Nat) :=
  w.arms.findSome? (fun (e : Nat × Arm) => match (e.2.facing Hold.isTiles).hold with
    | .tiles h v done => some (e.1, e.2.facing Hold.isTiles, h, v, done)
    | _ => none)

/-- The context of a wave that waits in TEND, with the handle, the value, and the bytes written back. -/
def State.tendCtx (s : State) (core slot : Nat) : Option (Ctx × Nat × Nat × Nat) :=
  match s.wave? core slot with
  | some w => (w.tendArm).map (fun e =>
      ({ r := ⟨core, slot, e.1⟩, wave := w, arm := e.2.1, team := s.team w.tid, job := s.job (s.team w.tid).job,
         lanes := 0#32 }, e.2.2))
  | none => none

/-- A delivery of a wave is waiting. -/
def State.deliveryOf (s : State) (core slot : Nat) : Bool :=
  s.deliveries.any (fun d => !d.err && d.core == core && wbits d.wave 21 16 == slot)

/-- A tile in global memory. -/
def Tile.side (t : Tile) : Rows := ⟨t.va, t.pitch, t.rb, t.rows⟩

/-- The tile and its place that byte `i` of some tiles is. -/
def tileAt : List Tile → Nat → Option (Tile × Nat)
  | [], _ => none
  | t :: ts, i => if i < t.side.bytes then some (t, i) else tileAt ts (i - t.side.bytes)

/-- The next run of a write-back: its address, and its bytes up to the end of the row, of the page, or to the job's code segment: at
most 4 KiB (R100, R438). -/
def Ctx.backRun (c : Ctx) (t : Tile) (i : Nat) : Nat × Nat :=
  let va := t.side.at i
  let n := min (t.rb - i % t.rb) (4096 - va % 4096)
  (va, if va < c.job.cbase then min n (c.job.cbase - va) else n)

/-- The bytes of a run of a write-back, and the sectors that the tile covers whole and whose last byte is among them (R178). -/
def State.backBytes (s : State) (aid : Nat) (t : Tile) (i n : Nat) : List EByte × List Nat :=
  let al := s.alloc aid
  let ws : List EByte := (List.range' i n).map (fun j =>
    ⟨t.side.at j, Memory.read al.cells (t.base + j), al.pois.contains ((t.base + j) / 32)⟩)
  let clean := (touched ws).filter (fun x => (List.range 32).all (fun o =>
    (t.side.last (32 * x + o)).any (fun j => decide (j < i + n) && !al.pois.contains ((t.base + j) / 32))))
  (ws, clean)

/-- The write-back of a TEND has ended: a task without a future ends, else its delivery waits (R84, R93). -/
def Ctx.backDone (c : Ctx) (h v : Nat) (s : State) : State :=
  if h = 0 then s.endWave c.r.core c.r.slot false
  else
    let s := s.release c.r.core 4
    { s with deliveries := s.deliveries ++
      [{ err := false, handle := h, value := BitVec.ofNat 64 v, core := c.r.core, job := c.job.jid,
         pasid := c.job.pasid, tag := c.wave.tag, wave := waveWord c.team c.r.slot c.wave,
         team := BitVec.ofNat 32 c.team.num, dropped := false, fromWave := true }] }

/-- A run of a write-back whose page is there (R84, R206). -/
def Ctx.backWrite (c : Ctx) (h v done : Nat) (t : Tile) (i n : Nat) (s : State) : State :=
  let (ws, clean) := s.backBytes c.team.alloc t i n
  if !s.peersFit ((s.peerWrites c.r.core c.job.pasid ws).map (fun e => e.1)) then s
  else (s.enginePart (s.owner c.wave.uid c.r.core c.r.slot c.wave.tid) ws clean).modArm c.r
    (fun a => { a.facing Hold.isTiles with hold := .tiles h v (done + n) })

/-- One run of the write-back of a slot's TEND (R84, R438): at an address beyond 57 bits or in the code segment it faults, and what is
written stays written. -/
def State.tileRun (s : State) (core slot : Nat) : State :=
  match s.tendCtx core slot with
  | none => s
  | some (c, h, v, done) =>
    if s.deliveryOf core slot then s
    else match tileAt c.wave.backTiles done with
      | none => if s.peerOwes c.wave.uid then s else c.backDone h v s
      | some (t, i) =>
        let (va, n) := c.backRun t i
        if !vaOk va then c.faultWord (faultCause 0x12 1) va true s
        else if c.job.inCode va then c.faultWord (faultCause 0x12 4) va true s
        else match s.engineNeed c.wave.uid core c.job.pasid [(va, true)] with
          | some need => s.supply c.wave.uid core c.job.jid need
          | none => c.backWrite h v done t i n s

/-- The address that a slot's write-back has come to. -/
def State.backVa (s : State) (core slot : Nat) : Option Nat :=
  (s.tendCtx core slot).bind (fun e => (tileAt e.1.wave.backTiles e.2.2.2).map (fun x => (e.1.backRun x.1 x.2).1))

/-- The page that it has come to. -/
def State.backAt (s : State) (core slot : Nat) : Option Nat := (s.backVa core slot).map (fun va => va / 4096)

/-- The bytes that a slot's TEND has written back. -/
def State.tileMark (s : State) (core slot : Nat) : Option Nat := (s.tendCtx core slot).map (fun e => e.2.2.2)

/-- Runs of a write-back, until it ends or waits. -/
def State.tileRuns (core slot : Nat) : Nat → State → State
  | 0, s => s
  | fuel + 1, s =>
    let t := s.tileRun core slot
    if t.tileMark core slot = s.tileMark core slot then t else State.tileRuns core slot fuel t

/-- TILE_WRITEBACK_COMPLETE (R84): the tiles of a slot's TEND are written to their end, or as far as they can be; a task without a
future ends, else its delivery waits. -/
def execTileWritebackComplete (core slot : Nat) (s : State) : Host.Outcome State Fault Refusal :=
  .next (match s.tendCtx core slot with
    | none => s
    | some (c, _) => State.tileRuns core slot ((c.wave.backTiles.map (fun t => t.side.bytes)).sum + 1) s)

/-! ### Deliveries by the device -/

/-- Removes the first delivery of a kind. -/
def dropFirst (err : Bool) : List Delivery → List Delivery
  | [] => []
  | d :: ds => if d.err = err then ds else d :: dropFirst err ds

/-- FUTURE_DELIVERY (R88, R93): the delivery of a TEND whose tiles have been written back; then its wave ends. -/
def execFutureDelivery (s : State) : Host.Outcome State Fault Refusal :=
  .next (match s.deliveries.find? (fun d => !d.err) with
    | none => s
    | some d =>
      match s.tendCtx d.core (wbits d.wave 21 16) with
      | none => { s with deliveries := dropFirst false s.deliveries }
      | some (c, _) =>
        match s.checkHandle d.core d.pasid d.handle true with
        | .miss => s.askX d.core d.pasid d.handle true
        | .bad cause => c.faultWord cause d.handle false { s with deliveries := dropFirst false s.deliveries }
        | .at t => c.tendDeliver t d.handle d.value.toNat { s with deliveries := dropFirst false s.deliveries })

/-- What an error delivery does once its handle has been checked (R469). -/
def State.deliverError (s : State) (d : Delivery) (t : Target) : State :=
  let s := (s.homeSector d.core t).touchHome d.pasid t 32
  let (ws, p) := s.cellWords t
  if p then s.deliveryFailed d (faultCause 0x13 0)
  else if 6 < cellOp (ws.getD 1 0#32) then s.deliveryFailed d (faultCause 0x1D 0)
  else s.deliver d.core d.job t 0 true

/-- ERROR_DELIVERY (R469): the first error delivery whose page does not wait. One whose cell lies in the job's code segment is performed: R469
lists no such case, and R100 speaks of stores by the job's waves, so that this is the model's choice (DEDUCED; assumption 13). -/
def execErrorDelivery (s : State) : Host.Outcome State Fault Refusal :=
  .next (match s.deliveries.find? (fun d => d.err && s.checkHandle d.core d.pasid d.handle true != .miss) with
    | some d =>
      let s := { s with deliveries := s.deliveries.erase d }
      match s.checkHandle d.core d.pasid d.handle true with
      | .at t => s.deliverError d t
      | .bad cause => s.deliveryFailed d cause
      | .miss => s
    | none => (s.deliveries.filter (fun d => d.err)).foldl (fun s d => s.askX d.core d.pasid d.handle true) s)

end Sys2Proof.Machine
end

