-- ==== Sys2Proof/Machine/Dispatcher.lean ====
section
/-!
DEFINITION. What task dispatch (R81, R82) and stealing (R94 to R96) take and do, and the staging of tile operands (R83).
-/

namespace Sys2Proof.Machine

/-! ### Dispatch -/

/-- Whether an entry is eligible on a core, whose cluster has the configuration of its job or can take it, and may take a slot there (R18,
R81, R262, R264, R269; assumption 14). -/
def State.eligible (s : State) (core : Nat) (e : Entry) : Bool :=
  let j := s.job e.job
  let cl := clusterOf core
  !j.drained && (s.configured cl j).any (fun t => t.coreMeets core j) && s.admits cl j && s.soleTakes cl j && s.rankEnters cl e.job false &&
    ((s.jobAlloc e.job cl).isSome || s.givesBanks cl j.cid j.scrBanks 0)

/-- Whether the code line that an entry begins at is resident in the core's instruction cache (R81). That a line counts only while
the core also holds its translation, without which the line has no address to look up, is this model's choice (assumption 36). -/
def State.lineResident (s : State) (core : Nat) (e : Entry) : Bool :=
  match s.xlate core e.pasid ((s.job e.job).packetVA (e.w.getD 1 0#32).toNat) false with
  | .hit (.dpa a) => (s.core core).icache.contains (a / 128)
  | _ => false

/-- The entry that claims the next dispatch, among eligible ready ones, cold end first: the one whose count reached 8 first
(R81). -/
def claimed (es : List Entry) : Option Entry :=
  (es.filter (fun e => e.ready && decide (8 ≤ e.byp))).foldl (fun (b : Option Entry) e =>
    match b with
    | some x => if e.bypAt < x.bypAt then some e else some x
    | none => some e) none

/-- What a pop takes, and the entries that it passes over (R81). `es` is the eligible entries, cold end first. -/
def State.popChoice (s : State) (core : Nat) (es : List Entry) : Option (Entry × List Entry) :=
  match claimed es with
  | some e => some (e, [])
  | none =>
    let ready := ((es.reverse.take 4).filter (fun e => e.ready))
    let top := (ready.map (fun e => hdrPri (e.w.getD 0 0#32))).max?.getD 0
    let cand := ready.filter (fun e => hdrPri (e.w.getD 0 0#32) == top)
    match (cand.find? (fun e => s.lineResident core e)).or cand.head? with
    | some e => some (e, ready.filter (fun x => x.uid != e.uid))
    | none => none

/-- Raises the bypass counts of entries passed over (R80, R81). -/
def State.bump (s : State) (core : Nat) (es : List Entry) : State :=
  let (n, s) := s.fresh
  es.foldl (fun s e => s.modCore core (fun k => k.modEntry e.uid (fun x =>
    if 8 ≤ x.byp then x else { x with byp := x.byp + 1, bypAt := if x.byp + 1 = 8 then n else x.bypAt }))) s

/-- The scalar registers that a task starts with: its closure, with the addresses of staged tiles (R82). -/
def Entry.registers (e : Entry) : List Word :=
  (List.range e.tiles.length).foldl (fun ws k =>
    match e.tiles[k]? with
    | some t => (ws.set (4 + 4 * k) (BitVec.ofNat 32 t.base)).set (5 + 4 * k) 0#32
    | none => ws) e.w

/-- The wave of a task (R46, R82). -/
def taskWave (j : Job) (tid : Nat) (e : Entry) : Wave :=
  let w0 := e.w.getD 0 0#32
  { uid := e.uid, tid := tid, idx := 0, isTask := true, handler := e.handler, vregN := 8 * hdrVB w0, sregN := 64 * j.srb,
    s := (List.range 32).map (fun k => (k, e.registers.getD k 0#32)), tfutl := e.w.getD 2 0#32, tfuth := e.w.getD 3 0#32,
    arms := [(0, { pc := (e.w.getD 1 0#32).toNat })], tag := hdrTag w0, tiles := e.tiles, placed := tid }

/-- StartTaskWave in a slot (R36, R82) of a cluster that takes the configuration of its job (R18), with the acquires of R203 and, for the steals that brought the entry, of R95. An entry of which
ECC has poisoned a sector faults (R178); that FADDL:FADDH is then 0 is this model's choice, as the storage of a deque has no address
(R76, R279; assumption 40). -/
def State.startTask (s : State) (core slot : Nat) (e : Entry) : State :=
  let cl := clusterOf core
  let j := s.job e.job
  let s := (s.configured cl j).getD s
  let (aid, s) := s.enterCluster e.job cl
  let (tid, s) := s.fresh
  let team : Team :=
    { tid := tid, job := e.job, num := 0, cluster := cl, cores := [core], size := 1, alive := 1, alloc := aid, isTask := true,
      placed := tid }
  let s := ({ s with teams := NMap.put s.teams tid team }).modJob e.job (fun j => { j with cores := setInsert j.cores core })
  let s := (s.modCore core (fun k => { k with slots := NMap.put k.slots slot (taskWave j tid e) })).acquire core e.acq
  let s := e.stole.foldl (fun s scope => s.acquire core scope) s
  match e.scause with
  | some cause => s.haltWave core slot ⟨(e.w.getD 1 0#32).toNat, 0, 0xFFFFFFFF#32, false⟩ cause e.saddr [] true
  | none =>
    if e.pois then s.haltWave core slot ⟨(e.w.getD 1 0#32).toNat, 0, 0xFFFFFFFF#32, false⟩ (faultCause 0x13 0) 0 [] true else s

/-! ### Stealing -/

/-- The victims of a thief at a level, in order (R94). -/
def victims (thief level : Nat) : List Nat :=
  let st := thief / 128
  let cl := clusterOf thief % 16
  match level with
  | 1 => (List.range 7).map (fun k => clusterOf thief * 8 + (thief % 8 + 1 + k) % 8)
  | 2 => (List.range 15).flatMap (fun k => clusterCores (st * 16 + (cl + 1 + k) % 16))
  | _ => (List.range 7).flatMap (fun k => (List.range 16).flatMap (fun m => clusterCores ((st + 1 + k) % 8 * 16 + (cl + 1 + m) % 16)))

/-- Whether a thief takes an entry of a victim at a level (R94). An entry of a sole-cluster job stays in its cluster: that of the job's
root, or for a team job, whose teams may be in several, the victim's. -/
def State.qualifies (s : State) (thief victim level : Nat) (e : Entry) : Bool :=
  let j := s.job e.job
  s.eligible thief e && (!j.sole || j.home == some (clusterOf thief) || clusterOf victim == clusterOf thief) &&
    (level != 3 || (j.loct != 0 && decide (j.loct ≤ (s.core victim).deque.length) && hdrM (e.w.getD 0 0#32)))

/-- The narrowest scope that holds two cores (R95). -/
def commonScope (a b : Nat) : Nat := if clusterOf a = clusterOf b then 2 else if stackOf a = stackOf b then 3 else 4

/-- A steal is counted at its level (R97). -/
def Job.countSteal (j : Job) (level : Nat) : Job := { j with steals := j.steals.set (level - 1) (j.steals.getD (level - 1) 0 + 1) }

/-- An entry leaves its victim (R95): the release, the end of its staging, the count. -/
def State.takeStolen (s : State) (thief victim level : Nat) (e : Entry) : State :=
  let s := s.release victim (commonScope thief victim)
  let s := (s.modCore victim (fun k => k.takeEntry e.uid)).unstage e.uid
  (s.modJob e.job (fun j => j.countSteal level)).leaveCluster e.job (clusterOf victim)

/-- The stolen entry (R95). The acquires of earlier thefts, which no dispatch has performed, stay with it beside the last thief's
own, so that they are performed when it is dispatched (assumption 14). -/
def Entry.stolen (e : Entry) (scope : Nat) : Entry :=
  { e with byp := 0, ready := !hdrS (e.w.getD 0 0#32), stole := setInsert e.stole scope, tiles := [], scause := none, saddr := 0 }

/-- A stolen entry that is staged waits at the hot end of the thief's deque, and its staging starts again (R95). That it is taken in
even where the thief's deque already holds 33,280 entries is this model's choice: R79 speaks of pushes by waves and by the device,
and R94 and R95 make no exception for a full deque (assumption 36). -/
def State.restage (s : State) (thief : Nat) (e : Entry) : State :=
  let s := (s.enterCluster e.job (clusterOf thief)).2
  (s.modCore thief (fun k => k.pushHot e)).modCluster (clusterOf thief) (fun k =>
    { k with stageQ := k.stageQ ++ [{ entry := e.uid, core := thief, job := e.job, active := false, tiles := [] }] })

/-! ### Staging -/

/-- Whether bytes of an allocation's staging area are free (R83). -/
def Alloc.stageFree (al : Alloc) (base n : Nat) : Bool :=
  decide (base + n ≤ al.bytes) && al.staged.all (fun t => decide (base + n ≤ t.2.1 ∨ t.2.1 + t.2.2 ≤ base))

/-- The lowest place for bytes in the staging area: its base, or right behind a staged tile (assumption 14). -/
def Alloc.stagePlace (al : Alloc) (stgb n : Nat) : Option Nat :=
  ((stgb :: al.staged.map (fun t => t.2.1 + t.2.2)).filter (fun b => decide (stgb ≤ b) && al.stageFree b n)).min?

/-- The tile operand `k` of a closure, without its place (R73). -/
def tileOf (ws : List Word) (k : Nat) : Tile :=
  let w (i : Nat) : Word := ws.getD (4 + 4 * k + i) 0#32
  { base := 0, va := pair (w 0) (w 1), rows := wbits (w 2) 31 16, rb := wbits (w 2) 15 0, pitch := (w 3).toNat,
    wb := hdrWr (ws.getD 0 0#32) k }

/-- Places for the operands of an entry, all of them or none (R83). -/
def Alloc.placeTiles (al : Alloc) (owner stgb : Nat) : List Tile → Option (List Tile × Alloc)
  | [] => some ([], al)
  | t :: ts =>
    match al.stagePlace stgb (t.rows * t.rb) with
    | none => none
    | some b =>
      match Alloc.placeTiles { al with staged := al.staged ++ [(owner, b, t.rows * t.rb)] } owner stgb ts with
      | none => none
      | some (l, al) => some ({ t with base := b } :: l, al)

/-- The head of a cluster's staging queue with its entry and allocation. -/
def State.stageHead (s : State) (cl : Nat) : Option (StageReq × Entry × Alloc) :=
  match (s.cluster cl).stageQ with
  | [] => none
  | q :: _ =>
    match (s.core q.core).deque.find? (fun e => e.uid == q.entry), s.jobAlloc q.job cl with
    | some e, some aid => some (q, e, s.alloc aid)
    | _, _ => none

/-- The job of the staging that is served next receives its allocation in the cluster, when the cluster can give it (R83, R165). -/
def State.stageEnter (s : State) (cl : Nat) : State :=
  match (s.cluster cl).stageQ with
  | [] => s
  | q :: _ =>
    if s.givesBanks cl (s.job q.job).cid (s.job q.job).scrBanks 0 && (s.core q.core).deque.any (fun e => e.uid == q.entry) then
      (s.enterCluster q.job cl).2
    else s

/-- Changes the head of a cluster's staging queue. -/
def State.modStage (s : State) (cl : Nat) (f : StageReq → List StageReq) : State :=
  s.modCluster cl (fun k => { k with stageQ := match k.stageQ with | q :: qs => f q ++ qs | [] => [] })

/-- A staging begins: its operands have their places. -/
def State.startStage (s : State) (cluster : Nat) (q : StageReq) (e : Entry) (al : Alloc) : State :=
  match al.placeTiles e.uid (s.job q.job).stgb ((List.range (hdrNop (e.w.getD 0 0#32))).map (tileOf e.w)) with
  | none => s
  | some (ts, al') =>
    ({ s with allocs := NMap.put s.allocs al.aid al' }).modStage cluster (fun q => [{ q with active := true, tiles := ts }])

/-- STAGING_START (R83): requests are served in push order; the head waits for its job's allocation and for room. Its fork edge lies
at the push. -/
def execStagingStart (cluster : Nat) (s : State) : Host.Outcome State Fault Refusal :=
  let s := if (s.stageHead cluster).isSome then s else s.stageEnter cluster
  .next (match s.stageHead cluster with
    | none => s
    | some (q, e, al) => if q.active then s else s.startStage cluster q e al)

/-- The bytes of a tile on their way into SCRATCH (R83). -/
def State.stageBytes (s : State) (owner core pasid : Nat) (t : Tile) : List EByte :=
  (List.range t.side.bytes).map (fun i =>
    let b := s.engineRead owner core pasid (t.side.at i)
    ⟨t.base + i, b.1, b.2⟩)

/-- An entry's staging ends: ready, with its tiles or its error (R82, R83). -/
def State.endStage (s : State) (cl : Nat) (q : StageReq) (err : Option (Word × Nat)) : State :=
  let s := s.modCore q.core (fun k => k.modEntry q.entry (fun e =>
    { e with ready := true, tiles := q.tiles, scause := err.map (fun x => x.1), saddr := (err.map (fun x => x.2 % 2 ^ 57)).getD 0 }))
  s.modStage cl (fun _ => [])

/-- A staging whose source address is refused stops, and the refusal is logged (R83, R283). -/
def State.refuseStage (s : State) (cl : Nat) (q : StageReq) (cause : Word) (va : Nat) : State :=
  let closure := (((s.core q.core).deque.find? (fun e => e.uid == q.entry)).map (fun e => e.w)).getD []
  let s := if cause.toNat % 256 = 0x12 then s.logStaging q.core q.job closure cause va else s
  s.endStage cl q (some (cause, va))

/-- What the head of a cluster's staging waits for: a page, or sectors of a peer. -/
def State.stageNeed (s : State) (q : StageReq) : Option Need :=
  s.engineNeed q.entry q.core (s.job q.job).pasid ((q.tiles.flatMap (fun t => t.side.marks 32)).map (fun va => (va, false)))

/-- The page that the head of a cluster's staging waits for. -/
def State.stageMiss (s : State) (q : StageReq) : Option (Nat × Bool) := (s.stageNeed q).bind Need.page?

/-- STAGING_COMPLETE (R83): every tile operand has landed, or a source address lies beyond 57 bits. -/
def execStagingComplete (cluster : Nat) (s : State) : Host.Outcome State Fault Refusal :=
  .next (match s.stageHead cluster with
    | none => s
    | some (q, _, al) =>
      if !q.active then s
      else match (q.tiles.flatMap (fun t => t.side.marks 32)).find? (fun va => !vaOk va) with
        | some va => s.refuseStage cluster q (faultCause 0x12 1) va
        | none =>
          match s.stageNeed q with
          | some n => s.supply q.entry q.core q.job n
          | none =>
            let s := s.engineTouch q.core (s.job q.job).pasid (q.tiles.flatMap (fun t => t.side.marks 32))
            let s := q.tiles.foldl (fun s t => s.engineScratch al.aid (s.stageBytes q.entry q.core (s.job q.job).pasid t)) s
            (s.forgetFetched q.entry).endStage cluster q none)

end Sys2Proof.Machine
end

