-- ==== Sys2Proof/Machine/Time.lean ====
section
/-!
DEFINITION. The passing of cycles of a stack's arithmetic clock (R25): the counters that fall with them.
-/

namespace Sys2Proof.Machine

/-- The cores of a contract on which a wave of its jobs is resident (R267). -/
def State.contractCores (s : State) (c : Contract) : Nat :=
  ((List.range 128).filter (fun k => c.cores.getLsbD k &&
    (s.core (128 * c.stack + k)).slots.any (fun e => (s.job (s.team e.2.tid).job).cid == c.cid))).length

/-- `n` cycles of a core's pipes: a partition may choose again, and pipes come free (R38). -/
def Core.passPipes (k : Core) (n : Nat) : Core :=
  if k.chosen.isEmpty && k.busy.isEmpty then k
  else { k with chosen := [], busy := (k.busy.map (fun (e : Nat × Pipe × Nat) => (e.1, e.2.1, e.2.2 - n))).filter (fun e => e.2.2 != 0) }

/-- A wave in which no cycle passes unnoticed: it has a window open, or has written MODE, LTILE or lanes in this cycle. -/
def Wave.inCycle (w : Wave) : Bool := w.pres != 0#32 || w.mode0.isSome || w.ltile0.isSome || !w.old.isEmpty

/-- `n` cycles of a wave: its window runs, from the cycle after the one that opened it (R274), and what it wrote in the cycle before is there (R133, R416). -/
def Wave.passCycles (w : Wave) (n : Nat) : Wave :=
  { w with pres := BitVec.ofNat 32 (w.pres.toNat - (if w.opened then n - 1 else n)), opened := false, mode0 := none, ltile0 := none, old := [] }

/-- `n` cycles of a stack pass: its count (R25), its cores' pipes (R38), their waves, contract budgets (R267), and the RDVW
instructions that return (R37). -/
def State.pass (s : State) (stack n : Nat) : State :=
  let s := { s with contracts := s.contracts.map (fun (e : Nat × Contract) =>
    if e.2.stack = stack then (e.1, { e.2 with left := e.2.left - n * s.contractCores e.2 }) else e) }
  let s := { s with cores := s.cores.map (fun (e : Nat × Core) =>
    if stackOf e.1 = stack then
      let k := e.2.passPipes n
      (e.1, if k.slots.any (fun w => w.2.inCycle) then
        { k with slots := k.slots.map (fun (w : Nat × Wave) => (w.1, w.2.passCycles n)) } else k)
    else e) }
  (s.modStack stack (fun k => { k with ck := (k.ck + n) % 2 ^ 64 })).endCycle stack

end Sys2Proof.Machine
end

