-- ==== Sys2Proof/Machine/ScalarMem.lean ====
section
/-!
DEFINITION. Scalar accesses to global memory: LDS (R381), STS (R431), LDACQ (R376), STREL (R430) and ATOMS (R328).
-/

namespace Sys2Proof.Machine

/-- The word that a scalar load read. -/
def scalarWord (l : List (Nat × Nat × List Byte × Bool)) : Word :=
  match l with
  | e :: _ => bytesWord e.2.2.1
  | [] => 0#32

/-- The address of LDS and STS: base pair plus signed byte offset (R157). -/
def Ctx.offsetVA (c : Ctx) (a : BitVec 6) (i : BitVec 13) : Nat := (((c.wave.spair a.toNat : Int) + i.toInt) % 2 ^ 64).toNat

/-- The address of LDACQ and STREL: base pair plus unsigned word offset (R157). -/
def Ctx.wordVA (c : Ctx) (a : BitVec 6) (w : BitVec 10) : Nat := (c.wave.spair a.toNat + 4 * w.toNat) % 2 ^ 64

/-- LDS (R381). -/
def execLds (d a : BitVec 6) (i : BitVec 13) (s : State) : Host.Outcome State Fault Refusal :=
  s.run (.lds d a i) (fun c s =>
    let va := c.offsetVA a i
    c.load false 4 [(scalarLane, va)] { loc := false, size := 4, lanes := [(scalarLane, va / 4 * 4)], scalar := true, nt := false }
      (fun l => { sdst := [(d.toNat, scalarWord l)] }) s)

/-- STS (R431). -/
def execSts (d a : BitVec 6) (i : BitVec 13) (s : State) : Host.Outcome State Fault Refusal :=
  s.run (.sts d a i) (fun c s =>
    c.store false 4 [(scalarLane, c.offsetVA a i)] (fun _ => natBytes 4 (c.sv d).toNat) s)

/-- LDACQ of a word whose target is known (R202, R376): the word is read at its level, a peer's with a request, and the arm waits for
it, held by the acquire that follows the load. -/
def Ctx.acquireAt (c : Ctx) (d scope lines al : Nat) (t : Target) (s : State) : State :=
  let (s, bs, p) := s.readLevel c.r.core c.job.pasid scope t
  if p then c.fault 0x13 0 (al / 32 * 32) s
  else
    let peers := [(scalarLane, al, t)].filter (fun e => isPeer e.2.2)
    let req : LoadReq := { loc := false, size := 4, lanes := [(scalarLane, al)], scalar := true, nt := false, acq := true }
    let (id, s) := c.mark { sdst := [(d, bytesWord bs)] } { isMem := true, left := peers.length, lines := lines, load := some req } s
    (c.askPeers id 4 peers s).modArm c.r (fun a => { a with hold := .acquire scope (id + 1) (some d) })

/-- LDACQ (R202, R376): it waits for the wave's earlier loads, reads at the level of its scope, and acquires. -/
def execLdacq (d a : BitVec 6) (sc : BitVec 3) (w : BitVec 10) (s : State) : Host.Outcome State Fault Refusal :=
  s.run (.ldacq d a sc w) (fun c s =>
    let va := c.wordVA a w
    match c.badLane false 4 [(scalarLane, va)] with
    | some (x, det) => c.fault 0x12 det x s
    | none =>
      let al := va / 4 * 4
      match c.laneTarget s false al with
      | none => c.holdPages s false (scalarLane, al) []
      | some t =>
        if c.wave.loadsBelow (c.before s) then c.holdFor (.wait .earlier) true s
        else if !s.peersFit [t] then c.holdFor (.wait .link) true s
        else
          let lines := s.scopeLines c.r.core c.job.pasid sc.toNat t
          c.withEntries lines s (fun s => c.acquireAt d.toNat sc.toNat lines al t s))

/-- A word written through to the level of a scope, with the copies of the core updated or dropped (R202). -/
def State.writeLevel (s : State) (core pasid scope : Nat) (t : Target) (bs : List Byte) : State :=
  match t with
  | .dpa a =>
    if scope < 2 then s.storeL1 core pasid (laneBytes a bs)
    else if scope = 2 ∧ s.hasCC (clusterOf core) then
      let cl := clusterOf core
      let s := s.flushSector core a false
      let (s, l) := s.ccLine cl pasid (a / 128)
      let l := (laneBytes (a % 128) bs).foldl (fun (l : CLine) e => l.store e.1 e.2) l
      (s.setCC cl (a / 128) l).modCore core (fun k => k.sign (a / 128))
    else (s.homeSector core t).cellPut core pasid t 0 [bytesWord bs]
  | _ => s.writeT core pasid t bs

/-- STREL (R202, R430). -/
def execStrel (d a : BitVec 6) (sc : BitVec 3) (w : BitVec 10) (s : State) : Host.Outcome State Fault Refusal :=
  s.run (.strel d a sc w) (fun c s =>
    let va := c.wordVA a w
    match c.badLane true 4 [(scalarLane, va)] with
    | some (x, det) => c.fault 0x12 det x s
    | none =>
      let al := va / 4 * 4
      match c.laneTarget s true al with
      | none => c.holdPages s true (scalarLane, al) []
      | some t => c.afterAccesses s (fun s =>
        if s.fabricOpen c.r.core sc.toNat then c.holdFor (.wait .earlier) true s
        else if !s.peersFit [t] then c.holdFor (.wait .link) true s
        else
          let bs := natBytes 4 (c.sv d).toNat
          let s := s.release c.r.core sc.toNat
          let (ins, s) := s.fresh
          c.done (c.writePeers ins false [(scalarLane, al, t, bs)] (s.writeLevel c.r.core c.job.pasid sc.toNat t bs))) true)

/-- An ATOMS whose page waits, without return, enters the side log (R288, R330). -/
def Ctx.logAtom (c : Ctx) (al : Nat) (fn : Nat) (d n : Word) (scope : Nat) (s : State) : State :=
  let (ins, s) := s.fresh
  let entries := c.logEntries ins false (some (fn, al, d, n, scope)) [(scalarLane, al, [])]
  if 1024 < (s.core c.r.core).sideLog.length + entries.length then c.holdFor (.wait .sideLog) true s
  else
    let s := s.askPages c.r.core c.job.pasid true [(scalarLane, al)]
    c.done (s.modCore c.r.core (fun k => { k with sideLog := k.sideLog ++ entries }))

/-- ATOMS with its target known (R328 to R330), and the miss-status entries that it takes. -/
def Ctx.atomsAt (c : Ctx) (d : Nat) (sc fn lines al : Nat) (t : Target) (x n : Word) (s : State) : State :=
  match t with
  | .peer m p =>
    if d = 0 then
      let (ins, s) := s.fresh
      c.done (s.sendPeer m { c.peerReq (.atomic fn p x n) ins scalarLane al false with lines := lines })
    else
      let (id, s) := c.launch { sdst := [(d, 0#32)] } { isMem := true, left := 1, lines := lines } s
      s.sendPeer m (c.peerReq (.atomic fn p x n) id scalarLane al true)
  | _ =>
    match s.atomScope c.r.core c.job.pasid sc t fn x n with
    | (s, none) => c.fault 0x13 0 (al / 32 * 32) s
    | (s, some old) => if d = 0 then c.doneLines lines s else (c.launch { sdst := [(d, old)] } { isMem := true, lines := lines } s).2

/-- Whether a target is host memory. -/
def isHost (t : Target) : Bool :=
  match t with
  | .host _ => true
  | _ => false

/-- ATOMS (R328): sd of 0 means no return. -/
def execAtoms (d a b : BitVec 6) (sc : BitVec 3) (f : BitVec 4) (s : State) : Host.Outcome State Fault Refusal :=
  s.run (.atoms d a b sc f) (fun c s =>
    let va := c.wave.spair a.toNat
    let x := c.sv b
    let n := c.wave.sreg (b.toNat + 1)
    match c.badLane true 4 [(scalarLane, va)] with
    | some (y, det) => c.fault 0x12 det y s
    | none =>
      let al := va / 4 * 4
      match c.laneTarget s true al with
      | none => if d = 0#6 then c.logAtom al f.toNat x n sc.toNat s else c.holdPages s true (scalarLane, al) []
      | some t =>
        if isHost t && !hostAtomic f.toNat then c.fault 0x10 0 al s
        else if !s.peersFit [t] then c.holdFor (.wait .link) true s
        else
          let lines := s.scopeLines c.r.core c.job.pasid sc.toNat t
          c.withEntries lines s (fun s => c.atomsAt d.toNat sc.toNat f.toNat lines al t x n s))

end Sys2Proof.Machine
end

