-- ==== Sys2Proof/Machine/VectorMem.lean ====
section
/-!
DEFINITION. Vector accesses to memory: LD (R373), ST (R425), LDL (R379), STL (R428), ATOM and ATOML (R328), PREF (R398).
-/

namespace Sys2Proof.Machine

/-! ### Global memory -/

/-- LD (R373): nothing happens without an enabled lane. -/
def execLd (d a b : BitVec 6) (g : BitVec 3) (n : BitVec 1) (z : BitVec 3) (s : State) : Host.Outcome State Fault Refusal :=
  s.run (.ld d a b g n z) (fun c s =>
    if c.lanes = 0#32 then c.done s
    else
      let lanes := c.vaLanes a b
      c.load (n == 1#1) z.toNat lanes
        { loc := false, size := z.toNat, lanes := alignLanes (sizeBytes z.toNat) lanes, scalar := false, nt := n == 1#1 }
        (fun l => { vdst := loadRegs z.toNat d.toNat l }) s)

/-- The bytes that a lane stores from a register group (R424). -/
def Ctx.laneData (c : Ctx) (d z lane : Nat) : List Byte :=
  ((List.range (sizeCount z)).flatMap (fun k => natBytes 4 ((c.wave.vreg (d + k)).lane lane).toNat)).take (sizeBytes z)

/-- ST (R425). -/
def execSt (d a b : BitVec 6) (g : BitVec 3) (n : BitVec 1) (z : BitVec 3) (s : State) : Host.Outcome State Fault Refusal :=
  s.run (.st d a b g n z) (fun c s =>
    if c.lanes = 0#32 then c.done s
    else c.store (n == 1#1) (sizeBytes z.toNat) (c.vaLanes a b) (c.laneData d.toNat z.toNat) s)

/-- Performs the lanes of an ATOM in ascending order: the state, the old values, and the lanes on poisoned sectors (R328,
R330). -/
def State.atomLanes (s : State) (core pasid fn : Nat) (x n : Nat → Word) :
    List (Nat × Nat × Target) → State × List (Nat × Word) × List (Nat × Nat)
  | [] => (s, [], [])
  | e :: es =>
    if isPeer e.2.2 then
      let (s, olds, bad) := State.atomLanes s core pasid fn x n es
      (s, (e.1, 0#32) :: olds, bad)
    else
      match s.atomHome core pasid e.2.2 fn (x e.1) (n e.1) with
      | (s, none) =>
        let (s, olds, bad) := State.atomLanes s core pasid fn x n es
        (s, olds, (e.1, e.2.1) :: bad)
      | (s, some old) =>
        let (s, olds, bad) := State.atomLanes s core pasid fn x n es
        (s, (e.1, old) :: olds, bad)

/-- The old values of lanes as a vector. -/
def oldLanes (olds : List (Nat × Word)) : LaneVec :=
  LaneVec.ofFn (fun l => ((olds.find? (fun e => e.1 == l)).map (fun e => e.2)).getD 0#32)

/-- The atomic requests of lanes that lead to peers (R329). -/
def Ctx.atomPeers (c : Ctx) (id fn : Nat) (x n : Nat → Word) (lanes : List (Nat × Nat × Target)) (s : State) : State :=
  lanes.foldl (fun s e => match e.2.2 with
    | .peer m a => s.sendPeer m (c.peerReq (.atomic fn a (x e.1) (n e.1)) id e.1 e.2.1 true)
    | _ => s) s

/-- ATOM once every lane translates (R328 to R330). -/
def Ctx.atomGo (c : Ctx) (d fn : Nat) (lanes : List (Nat × Nat × Target)) (s : State) : State :=
  let x := (c.wave.vreg d).lane
  let n := (c.wave.vreg (d + 1)).lane
  match lanes.find? (fun e => isHost e.2.2 && !hostAtomic fn) with
  | some e => c.faultLanes 0x10 0 e.2.1 (maskOf (fun l => lanes.any (fun y => y.1 == l && isHost y.2.2))) s
  | none =>
    let lines := ((lanes.map (fun e => e.2.1 / 128)).dedup).length
    if !s.peersFit (lanes.map (fun e => e.2.2)) then c.holdFor (.wait .link) true s
    else c.withEntries lines s (fun s =>
      let (s, olds, bad) := s.atomLanes c.r.core c.job.pasid fn x n lanes
      let peers := lanes.filter (fun e => isPeer e.2.2)
      if peers.isEmpty && !bad.isEmpty then c.poisonLanes bad s
      else
        let (id, s) := c.launch { vdst := [(d, oldLanes olds)] } { isMem := true, left := peers.length, lines := lines, bad := bad } s
        c.atomPeers id fn x n peers s)

/-- ATOM (R328). -/
def execAtom (d a b : BitVec 6) (g : BitVec 3) (f : BitVec 4) (s : State) : Host.Outcome State Fault Refusal :=
  s.run (.atom d a b g f) (fun c s =>
    if c.lanes = 0#32 then c.done s
    else
      let lanes := c.vaLanes a b
      match c.badLane true 4 lanes with
      | some (va, det) => c.faultLanes 0x12 det va (c.badMask true 4 lanes) s
      | none =>
        let lanes := alignLanes 4 lanes
        match c.misses s true lanes with
        | e :: es => c.holdPages s true e es
        | [] => c.atomGo d.toNat f.toNat (c.hits s true lanes) s)

/-- Fills a line absent from a core's L1, from its cluster cache, or from its home slice, without a trace in any value (R398). -/
def State.prefetchLine (s : State) (core pasid level la : Nat) : State :=
  if level = 0 then (List.range 4).foldl (fun s k => s.l1Sector core pasid la k) s
  else if level = 1 then (List.range 4).foldl (fun s k => s.ccSector (clusterOf core) pasid la k) s
  else s.l2Touch pasid la (List.range 4) false

/-- Whether a level that PREF names lacks a line; a cluster without a cache is filled with nothing (R398). -/
def State.lacksLine (s : State) (core pasid level la : Nat) : Bool :=
  let whole (l : Option CLine) : Bool := l.any (fun l => l.pasid == pasid && (List.range 4).all l.hasSector)
  if level = 0 then !whole (NMap.get? (s.core core).l1 la)
  else if level = 1 then s.hasCC (clusterOf core) && !whole (NMap.get? (s.cluster (clusterOf core)).cc la)
  else !(NMap.get? s.l2 la).any (fun l => l.pasid == pasid && (List.range 4).all l.secs.contains)

/-- PREF (R398): lanes without a cached translation are dropped, and lines without a free miss-status entry (R175); the entries taken
are held until the lines arrive. -/
def execPref (a b : BitVec 6) (g : BitVec 3) (f : BitVec 2) (s : State) : Host.Outcome State Fault Refusal :=
  s.run (.pref a b g f) (fun c s =>
    let lines := ((c.vaLanes a b).filterMap (fun e =>
      if !vaOk e.2 then none
      else match s.xlate c.r.core c.job.pasid e.2 false with
        | .hit (.dpa x) => some (x / 128)
        | _ => none)).dedup
    let absent := (lines.filter (fun la => s.lacksLine c.r.core c.job.pasid f.toNat la)).take (s.entriesFree c.r.core)
    c.doneLines absent.length (absent.foldl (fun s la => s.prefetchLine c.r.core c.job.pasid f.toNat la) s))

/-! ### Local memory -/

/-- The enabled lanes of a local access with their addresses, computed exactly (R158). -/
def Ctx.localLanes (c : Ctx) (a b : BitVec 6) : List (Nat × Nat) :=
  (maskLanes c.lanes).map (fun l => (l, (c.sv a).toNat + ((c.wave.vreg b.toNat).lane l).toNat))

/-- Goes on with aligned addresses when every lane lies in the allocation (R158, R159); FADDH of a local address is 0. -/
def Ctx.inAlloc (c : Ctx) (n : Nat) (lanes : List (Nat × Nat)) (s : State) (k : List (Nat × Nat) → State → State) : State :=
  let bytes := c.allocBytes s
  match lanes.find? (fun e => decide (bytes ≤ e.2)) with
  | some e => c.faultLanes 0x12 2 (e.2 % 2 ^ 32) (laneMask (lanes.filter (fun x => decide (bytes ≤ x.2)))) s
  | none => k (alignLanes n lanes) s

/-- LDL (R379): reads at the bank; granule bits play no part. -/
def execLdl (d a b : BitVec 6) (g : BitVec 3) (z : BitVec 3) (s : State) : Host.Outcome State Fault Refusal :=
  s.run (.ldl d a b g z) (fun c s =>
    if c.lanes = 0#32 then c.done s
    else
      let n := sizeBytes z.toNat
      c.inAlloc n (c.localLanes a b) s (fun lanes s =>
        let al := s.alloc c.team.alloc
        match lanes.find? (fun e => (al.poisonIn e.2 n).isSome) with
        | some e => c.faultLanes 0x13 0 (e.2 / 32 * 32) (laneMask (lanes.filter (fun x => (al.poisonIn x.2 n).isSome))) s
        | none =>
          let l := lanes.map (fun e => (e.1, e.2, al.bytesAt e.2 n, false))
          (c.launch { vdst := loadRegs z.toNat d.toNat l }
            { isMem := true, load := some { loc := true, size := z.toNat, lanes := lanes, scalar := false, nt := false } } s).2))

/-- The requests of a waiting LDL, one for each distinct granule (R169). -/
def Ctx.granuleWaits (c : Ctx) (id n : Nat) (clear : Bool) (lanes : List (Nat × Nat)) : List BankWait :=
  (granulesOf (lanes.map (fun e => e.2))).map (fun gr =>
    { core := c.r.core, slot := c.r.slot, id := id, clear := clear, gran := gr, size := n,
      lanes := lanes.filter (fun e => e.2 / 16 == gr) })

/-- A request arrives at its bank: on a full granule it reads at once, else it waits (R169). -/
def State.arriveWait (s : State) (aid : Nat) (q : BankWait) : State :=
  let al := s.alloc aid
  if al.full.contains q.gran && !(al.waits.any (fun x => x.gran == q.gran)) then
    let s := if q.clear then s.modAlloc aid (fun al => { al with full := setErase al.full q.gran }) else s
    s.serveWait aid q
  else s.modAlloc aid (fun al => { al with waits := al.waits ++ [q] })

/-- LDL.w and LDL.wc (R169, R379); once the poison fault has halted the wave, its other lanes are discarded (R380). -/
def Ctx.waitingLoad (c : Ctx) (d a b : BitVec 6) (z : BitVec 1) (clear : Bool) (s : State) : State :=
  if c.lanes = 0#32 then c.done s
  else
    let n := if z = 1#1 then 16 else 4
    c.inAlloc n (c.localLanes a b) s (fun lanes s =>
      let gs := granulesOf (lanes.map (fun e => e.2))
      let res : Result := { vdst := (granRegs d.toNat z.toNat).map (fun r => (r, [])) }
      let (id, s) := c.launch res { isMem := true, left := gs.length } s
      (c.granuleWaits id n clear lanes).foldl (fun s q => if s.flies c.r id then s.arriveWait c.team.alloc q else s) s)

/-- LDL.w (R379). -/
def execLdlW (d a b : BitVec 6) (g : BitVec 3) (z : BitVec 1) (s : State) : Host.Outcome State Fault Refusal :=
  s.run (.ldlW d a b g z) (fun c s => c.waitingLoad d a b z false s)

/-- LDL.wc (R379). -/
def execLdlWc (d a b : BitVec 6) (g : BitVec 3) (z : BitVec 1) (s : State) : Host.Outcome State Fault Refusal :=
  s.run (.ldlWc d a b g z) (fun c s => c.waitingLoad d a b z true s)

/-- A local store of lanes in ascending order, as one write (R160, R178, R428). -/
def Ctx.localStore (c : Ctx) (data : Nat → List Byte) (lanes : List (Nat × Nat)) (s : State) : State :=
  let ws := lanes.flatMap (fun e => laneBytes e.2 (data e.1))
  s.modAlloc c.team.alloc (fun al => (al.putAll ws).cleanse ws)

/-- STL (R428): granule bits are unchanged. -/
def execStl (d a b : BitVec 6) (g : BitVec 3) (z : BitVec 3) (s : State) : Host.Outcome State Fault Refusal :=
  s.run (.stl d a b g z) (fun c s =>
    if c.lanes = 0#32 then c.done s
    else c.inAlloc (sizeBytes z.toNat) (c.localLanes a b) s (fun lanes s =>
      c.done (c.localStore (c.laneData d.toNat z.toNat) lanes s)))

/-- STL.fill (R428): each granule written is set full once, after its lanes. -/
def execStlFill (d a b : BitVec 6) (g : BitVec 3) (z : BitVec 1) (s : State) : Host.Outcome State Fault Refusal :=
  s.run (.stlFill d a b g z) (fun c s =>
    if c.lanes = 0#32 then c.done s
    else
      let code := if z = 1#1 then 6 else 4
      c.inAlloc (sizeBytes code) (c.localLanes a b) s (fun lanes s =>
        let s := c.done (c.localStore (c.laneData d.toNat code) lanes s)
        (granulesOf (lanes.map (fun e => e.2))).foldl (fun s gr => s.fillGranule c.team.alloc gr) s))

/-- The lanes of an ATOML in ascending order at the bank: the allocation, the old values, the lanes on poison (R328,
R330). -/
def Alloc.atomLanes (al : Alloc) (fn : Nat) (x n : Nat → Word) : List (Nat × Nat) → Alloc × List (Nat × Word) × List (Nat × Nat)
  | [] => (al, [], [])
  | e :: es =>
    if (al.poisonIn e.2 4).isSome then
      let (al, olds, bad) := Alloc.atomLanes al fn x n es
      (al, olds, e :: bad)
    else
      let old := bytesWord (al.bytesAt e.2 4)
      let (al, olds, bad) := Alloc.atomLanes (al.put e.2 (natBytes 4 (atomNew fn old (x e.1) (n e.1)).toNat)) fn x n es
      (al, (e.1, old) :: olds, bad)

/-- ATOML (R328). -/
def execAtoml (d a b : BitVec 6) (g : BitVec 3) (f : BitVec 4) (s : State) : Host.Outcome State Fault Refusal :=
  s.run (.atoml d a b g f) (fun c s =>
    if c.lanes = 0#32 then c.done s
    else c.inAlloc 4 (c.localLanes a b) s (fun lanes s =>
      let x := (c.wave.vreg d.toNat).lane
      let n := (c.wave.vreg (d.toNat + 1)).lane
      let (al, olds, bad) := (s.alloc c.team.alloc).atomLanes f.toNat x n lanes
      let s := s.modAlloc c.team.alloc (fun _ => al)
      match bad with
      | e :: _ => c.faultLanes 0x13 0 (e.2 / 32 * 32) (laneMask bad) s
      | [] => (c.launch { vdst := [(d.toNat, oldLanes olds)] } { isMem := true } s).2))

end Sys2Proof.Machine
end

