-- ==== Sys2Proof/Machine/Switch.lean ====
section
/-!
DEFINITION. Switch pre-emption (R272 to R274): what it waits for, what it saves (R185, R229, R251, R273), and how a unit resumes.
-/

namespace Sys2Proof.Machine

/-! ### Pages that arms wait for -/

/-- An arm that is held on a page of an address space issues again (R288). -/
def Arm.release (a : Arm) (page : Nat) : Arm :=
  if a.heldBy (Hold.onPage page) then { a.facing (Hold.onPage page) with hold := .none } else a

/-- A wave's arms that are held on a page issue again. -/
def Wave.releasePage (w : Wave) (page : Nat) : Wave := { w with arms := w.arms.map (fun (e : Nat × Arm) => (e.1, e.2.release page)) }

/-- Arms of an address space on a core that are held on a page issue again (R288). -/
def State.releasePage (s : State) (core pasid page : Nat) : State :=
  s.modCore core (fun k => { k with slots := k.slots.map (fun (e : Nat × Wave) =>
    (e.1, if (s.job (s.team e.2.tid).job).pasid = pasid then e.2.releasePage page else e.2)) })

/-! ### Replay of loads -/

/-- The context of a producer in flight. -/
def State.pendCtx (s : State) (core slot : Nat) (w : Wave) (p : Pending) : Ctx :=
  { r := ⟨core, slot, p.arm⟩, wave := w, arm := { pc := p.pc, word := p.word, exm := p.exm }, team := s.team w.tid,
    job := s.job (s.team w.tid).job, lanes := p.lanes }

/-- A load's results from what its lanes read. -/
def Pending.withLoad (p : Pending) (q : LoadReq) (l : List (Nat × Nat × List Byte × Bool)) : Pending :=
  if q.scalar then { p with sdst := p.sdst.map (fun e => (e.1, scalarWord l)) }
  else { p with vdst := loadRegs q.size ((p.vdst.map (fun e => e.1)).headD 0) l }

/-- What a replayed load has read becomes its result; poisoned sectors halt its wave when no reply is waited for (R178). -/
def State.replayRead (s : State) (core slot : Nat) (p : Pending) (q : LoadReq) (left : Nat)
    (l : List (Nat × Nat × List Byte × Bool)) : State :=
  let bad := (l.filter (fun e => e.2.2.2)).map (fun e => (e.1, e.2.1))
  if left = 0 ∧ !bad.isEmpty then
    s.haltWave core slot ⟨p.pc, p.word, p.exm, false⟩ (faultCause 0x13 0) ((lowestLane bad).2 / 32 * 32) [laneMask bad] true
  else s.modPending core slot p.id (fun p => { p.withLoad q l with left := left, bad := bad, replay := false })

/-- What stands for a replayed load among the rejected accesses of its core: an arm that no wave has (R175, R176). -/
def replayRef (core slot : Nat) (p : Pending) : ArmRef := ⟨core, slot, 2 + p.id⟩

/-- A replayed load waits to be tried again. -/
def State.replayLater (s : State) (core slot : Nat) (p : Pending) : State :=
  s.modPending core slot p.id (fun p => { p with left := 1, replay := true })

/-- A replayed load of global memory: it waits again for pages that are not there, for miss-status entries, and for the windows of
peers (R175, R176, R273, R288, R312). -/
def State.replayGlobal (s : State) (core slot : Nat) (c : Ctx) (p : Pending) (q : LoadReq) : State :=
  match c.misses s false q.lanes with
  | e :: es => (s.askPages core c.job.pasid false (e :: es)).replayLater core slot p
  | [] =>
    let lanes := c.hits s false q.lanes
    let lines := (s.missLines core c.job.pasid (lanes.map (fun e => e.2.2))).length
    let r := replayRef core slot p
    if !s.takesEntries core r lines then (s.modCore core (fun k => k.rejected r)).replayLater core slot p
    else
      let s := s.modCore core (fun k => k.unclaim (fun x => x == r))
      let peers := peerReads lanes
      if !s.peersFit (peers.map (fun e => e.1)) then s.replayLater core slot p
      else
        let n := sizeBytes q.size
        let (s, l) := s.readLanes core c.job.pasid q.nt n lanes
        c.askPeers p.id n lanes ((s.modPending core slot p.id (fun p => { p with lines := lines })).replayRead core slot p q peers.length l)

/-- Replays a plain load (R273). -/
def State.replayLoad (s : State) (core slot : Nat) (w : Wave) (p : Pending) : State :=
  match p.load with
  | none => s
  | some q =>
    if q.loc then
      let al := s.alloc (s.team w.tid).alloc
      let n := sizeBytes q.size
      s.replayRead core slot p q 0 (q.lanes.map (fun e => (e.1, e.2, al.bytesAt e.2 n, (al.poisonIn e.2 n).isSome)))
    else s.replayGlobal core slot (s.pendCtx core slot w p) p q

/-- The loads of a core that a switch replays and that wait: slot, wave, producer. -/
def State.replaysOn (s : State) (core : Nat) (which : Wave → Pending → Bool) : List (Nat × Wave × Pending) :=
  (s.core core).slots.flatMap (fun e => (e.2.inflight.filter (fun p => p.replay && which e.2 p)).map (fun p => (e.1, e.2, p)))

/-- They are tried again. -/
def State.retryReplays (s : State) (core : Nat) (which : Wave → Pending → Bool) : State :=
  (s.replaysOn core which).foldl (fun s e => s.replayLoad core e.1 e.2.1 e.2.2) s

/-- Whether a replayed load of an address space waits for a page. -/
def State.awaits (s : State) (pasid page : Nat) (w : Wave) (p : Pending) : Bool :=
  (s.job (s.team w.tid).job).pasid == pasid && p.load.any (fun q => q.lanes.any (fun e => e.2 / 4096 == page))

/-! ### Switching out -/

/-- The waves of a team, with their places. -/
def State.teamWaves (s : State) (tid : Nat) : List (Nat × Nat × Wave) := s.waves.filter (fun e => e.2.2.tid == tid)

/-- Whether a producer in flight can be abandoned at a switch: a plain load, an LDACQ, an instruction that has issued and waits, or a
load that waits at banks (R273). -/
def State.abandonable (s : State) (p : Pending) : Bool :=
  p.load.isSome || p.held || s.allocs.any (fun e => e.2.waits.any (fun q => q.id == p.id))

/-- Whether an operation of a Bramble is a CXSPLIT in its search phase (R251). -/
def BrOp.searching (o : BrOp) : Bool := o.kind == .split && !o.started

/-- Whether a wave lets its unit switch (R272 to R274): no PREOFF window, nothing in flight that must complete first. -/
def State.waveMaySwitch (s : State) (core slot : Nat) (w : Wave) : Bool :=
  let k := s.core core
  w.pres == 0#32 && w.inflight.all (fun p => p.left == 0 || s.abandonable p) &&
    (!w.arms.any (fun e => e.2.heldBy Hold.isTiles) || !s.deliveries.any (fun d => !d.err && d.core == core &&
      d.wave == waveWord (s.team w.tid) slot w)) &&
    k.matQ.all (fun o => o.uid != w.uid || !o.started || o.kind == .mma) &&
    k.brQ.all (fun o => o.uid != w.uid || o.searching)

/-- Whether an instruction is a plain load: one that waits is replayed with its destinations empty, as one in flight is (R273). -/
def isLoad : Instr → Bool
  | .ld .. | .lds .. => true
  | _ => false

/-- What an arm is held by after a switch: a TEND goes on with its tiles (R438), and what has been captured may be tried. -/
def Hold.saved (h : Hold) : Hold := if h.isTiles then h else .wait .earlier

/-- A captured instruction after a switch: it issues again, but a load is replayed (R272, R273). -/
def Capture.saved (h : Hold) (q : Capture) : Capture := if h.isTiles || isLoad q.ins then q else { q with again := true }

/-- Whether a captured instruction has elements of stream rings of its own: popped, or reserved for its results (R181). -/
def Wave.ringsOf (w : Wave) (q : Capture) : Bool := q.popped || w.inflight.any (fun p => p.id == q.id && !p.push.isEmpty)

/-- Whether a switch keeps what an arm has captured: a load, a TEND, a pair of which one word still waits, and an instruction that has
elements of stream rings, which are popped once each and filled where they were reserved (R181, R467). -/
def Wave.keeps (w : Wave) (a : Arm) : Bool :=
  a.paired || a.also.isSome || a.hold.isTiles || a.cap.any (fun q => w.ringsOf q || isLoad q.ins)

/-- An arm as a switch saves it: what it waited for is abandoned, and issues again as it stands in the program (R272, R273); stores and
atomics that an EXIT has left to be performed stay as they are (R357). -/
def Wave.savedArm (w : Wave) (a : Arm) : Arm :=
  let a := { a with refetch := true }
  if w.ended then { a with hold := a.hold.saved, also := a.also.map (fun e => (e.1.saved, e.2)) }
  else if w.keeps a then
    { a with hold := a.hold.saved, cap := a.cap.map (Capture.saved a.hold), also := a.also.map (fun e => (e.1.saved, e.2.saved e.1)) }
  else { a with hold := .none, cap := none }

/-- Whether a producer of a wave is abandoned with its instruction: an LDACQ, or what stands for an instruction that issues again and has
reserved no element of a ring. -/
def Wave.abandons (w : Wave) (p : Pending) : Bool :=
  p.load.any (fun q => q.acq) ||
    (p.held && !w.arms.any (fun e => (w.savedArm e.2).captures.any (fun q => q.id == p.id && (!q.again || !p.push.isEmpty))))

/-- A wave as a switch saves it (R272, R273). -/
def Wave.saved (w : Wave) : Wave :=
  (w.inflight.filter w.abandons).foldl (fun w p => w.unmark p.id)
    { w with arms := w.arms.map (fun (e : Nat × Arm) => (e.1, w.savedArm e.2)), mode0 := none, ltile0 := none, old := [],
             inflight := (w.inflight.filter (fun p => !w.abandons p)).map (fun (p : Pending) =>
               if p.load.isSome then { p with left := 1, bad := [], lines := 0 } else p) }

/-- Delivers every producer of a wave that has its results and is no plain load (R273). -/
def State.completeAll (s : State) (core slot : Nat) (w : Wave) : State :=
  (w.inflight.filter (fun p => p.left == 0 && p.load.isNone)).foldl (fun s p =>
    ((s.fillPushes w p).modWave core slot (fun x => x.receive p)).resumeAcquires core slot) s

/-- The relative number of a core in a unit. -/
def relCore (cores : List Nat) (core : Nat) : Nat := cores.idxOf core

/-- What a unit saves of its waves: registers, arms, cursors (R251, R272). -/
def State.saveWaves (s : State) (t : Team) : List SavedWave :=
  (s.teamWaves t.tid).map (fun e =>
    { core := relCore t.cores e.1, slot := e.2.1, wave := e.2.2.saved,
      cursors := (s.core e.1).cx.filter (fun c => c.2.uid == e.2.2.uid) })

/-- What a unit saves of cores whose pennant it holds (R229). -/
def State.saveAccs (s : State) (t : Team) : List SavedAcc :=
  t.cores.filterMap (fun c =>
    let k := s.core c
    match k.holder with
    | some h =>
      if k.slots.any (fun x => x.1 == h && x.2.tid == t.tid) then
        some { core := relCore t.cores c, slot := h, acc := k.acc, pois := k.accPois, busy := k.mbusy && !k.matQ.isEmpty,
               queue := k.queue.filter (fun r => k.slots.any (fun x => x.1 == r.slot && x.2.tid == t.tid)) }
      else none
    | none => none)

/-- What a unit saves of message ports that it owns (R185). -/
def State.savePorts (s : State) (t : Team) : List SavedPort :=
  t.cores.filterMap (fun c =>
    let k := s.core c
    match k.port with
    | some p =>
      if k.slots.any (fun x => x.1 == p && x.2.tid == t.tid) then
        some { core := relCore t.cores c, slot := p, dest := k.pDest, drop := k.pDrop, src := k.pSrc, sslot := k.pSslot,
               rxq := k.rxq }
      else none
    | none => none)

/-- What a unit saves (R185, R229, R251, R272, R288). -/
def State.saveUnit (s : State) (uid : Nat) (t : Team) : Saved :=
  { uid := uid, job := t.job, tid := t.tid, cluster := t.cluster, cores := t.cores, waves := s.saveWaves t,
    accs := s.saveAccs t, ports := s.savePorts t,
    copies := t.cores.flatMap (fun c => ((s.core c).copyQ.filter (fun o => o.tid == t.tid)).map (fun o => (relCore t.cores c, o))),
    mats := t.cores.flatMap (fun c => ((s.core c).matQ.filter (fun o => o.tid == t.tid)).map (fun o => (relCore t.cores c, { o with started := false }))),
    logs := t.cores.flatMap (fun c => ((s.core c).sideLog.filter (fun e => e.tid == t.tid)).map (fun e => (relCore t.cores c, e))),
    waits := ((s.allocs.flatMap (fun a => a.2.waits)).filter (fun q =>
      (s.wave? q.core q.slot).any (fun w => w.tid == t.tid))).map (fun q => { q with core := relCore t.cores q.core }) }

/-- A core without a unit: its slots, engines, logs, ports, cursors (R272). -/
def Core.without (k : Core) (t : Team) : Core :=
  let mine (slot : Nat) : Bool := k.slots.any (fun x => x.1 == slot && x.2.tid == t.tid)
  let uids := (k.slots.filter (fun x => x.2.tid == t.tid)).map (fun x => x.2.uid)
  let k := k.unclaim (fun r => mine r.slot)
  { k with
    slots := k.slots.filter (fun x => x.2.tid != t.tid)
    narrow := k.narrow && !(k.matQ.head?).any (fun o => o.tid == t.tid)
    queue := k.queue.filter (fun r => !mine r.slot)
    port := if k.port.any mine then none else k.port
    rxq := if k.port.any mine then [] else k.rxq
    cx := k.cx.filter (fun c => !uids.contains c.2.uid)
    copyQ := k.copyQ.filter (fun o => o.tid != t.tid)
    matQ := k.matQ.filter (fun o => o.tid != t.tid)
    brQ := k.brQ.filter (fun o => !uids.contains o.uid)
    sideLog := k.sideLog.filter (fun e => e.tid != t.tid) }

/-- Requests to peers for abandoned loads have no producer any more (R273). -/
def State.forgetReads (s : State) (t : Team) : State :=
  let ids := (s.teamWaves t.tid).flatMap (fun e => (e.2.2.inflight.filter (fun p => p.load.isSome)).map (fun p => p.id))
  { s with links := s.links.map (fun (d : Nat × LinkDest) => (d.1, { d.2 with open_ := d.2.open_.map (fun (q : LinkReq) =>
      if ids.contains q.pend then { q with pend := 0 } else q) })) }

/-- The pages of some side-log entries, each once: core, PASID, page. -/
def logPages (cores : List Nat) (l : List (Nat × SideEntry)) : List (Nat × Nat × Nat) :=
  (l.map (fun e => (cores.getD e.1 0, e.2.pasid, e.2.page))).dedup

/-- Arms and replayed loads that were held behind a page's side-log entries, once none is left in the log (R288). -/
def State.releaseLogged (s : State) (core pasid page : Nat) : State :=
  if s.pageLogged core pasid (4096 * page) then s else (s.releasePage core pasid page).retryReplays core (s.awaits pasid page)

/-- SwitchOut (R272), once nothing holds it up. -/
def State.switchOut (s : State) (t : Team) : State :=
  let s := (s.teamWaves t.tid).foldl (fun s e => s.completeAll e.1 e.2.1 e.2.2) s
  let s := t.cores.foldl (fun s c => s.release c 4) s
  let (uid, s) := s.fresh
  let u := s.saveUnit uid t
  let s := s.forgetReads t
  let s := { s with
    units := NMap.put s.units uid u
    allocs := s.allocs.map (fun (a : Nat × Alloc) =>
      (a.1, { a.2 with waits := a.2.waits.filter (fun (q : BankWait) => !(s.wave? q.core q.slot).any (fun (w : Wave) => w.tid == t.tid)) })) }
  let s := t.cores.foldl (fun s c => (s.modCore c (fun k => k.without t)).settlePennant c) s
  let s := (logPages t.cores u.logs).foldl (fun s e => s.releaseLogged e.1 e.2.1 e.2.2) s
  s.modTeam t.tid (fun t => { t with switching := false })

/-! ### Switching in -/

/-- How many waves of a unit resume on its core of a relative number. -/
def Saved.wavesOn (u : Saved) (rel : Nat) : Nat := (u.waves.filter (fun w => w.core == rel)).length

/-- A cursor of a number is open to nobody, and no operation on it waits or runs, which would still need its state (R230, R251). -/
def Core.cxIsFree (k : Core) (cx : Nat) : Bool := (k.cxView cx).isNone && !k.brQ.any (fun o => o.cx == cx)

/-- Whether a core can take the part of a unit that resumes there (R185, R229, R251, R262, R272). -/
def State.coreTakes (s : State) (u : Saved) (rel core : Nat) : Bool :=
  let k := s.core core
  let j := s.job u.job
  clusterOf core == u.cluster && (s.configured u.cluster j).any (fun t => t.coreMeets core j) &&
    decide (u.wavesOn rel ≤ k.freeSlots.length) &&
    (!u.accs.any (fun a => a.core == rel) || k.holder.isNone) && (!u.ports.any (fun p => p.core == rel) || k.port.isNone) &&
    u.waves.all (fun w => w.core != rel || w.cursors.all (fun c => k.cxIsFree c.1)) &&
    decide (k.copyQ.length + (u.copies.filter (fun c => c.1 == rel)).length ≤ 16) &&
    decide (k.matQ.length + (u.mats.filter (fun c => c.1 == rel)).length ≤ 8) &&
    decide (k.sideLog.length + (u.logs.filter (fun c => c.1 == rel)).length ≤ 1024)

/-- The side-log pages of a unit that a core cannot translate yet (R288). -/
def State.unitMiss (s : State) (u : Saved) (cores : List Nat) : Option (Nat × Nat × Nat) :=
  u.logs.findSome? (fun e =>
    let c := cores.getD e.1 0
    if s.xlate c e.2.pasid (4096 * e.2.page) true = .miss then some (c, e.2.pasid, 4096 * e.2.page) else none)

/-- The lowest cores that take a unit. -/
def State.unitCores (s : State) (u : Saved) : List Nat :=
  (List.range u.cores.length).foldl (fun cs k =>
    cs ++ ((clusterCores u.cluster).find? (fun c => !cs.contains c && s.coreTakes u k c)).toList) []

/-- Whether cores take a unit: its own number of distinct cores, in ascending order as before; no reservation of a team of
higher rank keeps their slots (R265). A unit of the reservation's own rank goes before it (R272), which this model takes from the
order of R272 (assumption 37). -/
def State.unitTakes (s : State) (u : Saved) (cores : List Nat) : Bool :=
  cores.length == u.cores.length && decide cores.Nodup &&
    (List.range cores.length).all (fun k => s.coreTakes u k (cores.getD k 0)) &&
    (match s.reserved u.cluster with | some (k, _) => decide (k ≤ s.rank (s.job u.job)) | none => true) &&
    s.units.all (fun e => e.2.cluster != u.cluster || decide (s.rank (s.job e.2.job) ≤ s.rank (s.job u.job)))

/-- The slots that a unit's waves take: the lowest free ones of each core, in the order of their old slots (assumption 14). -/
def State.unitSlots (s : State) (u : Saved) (cores : List Nat) : List (Nat × Nat × Nat) :=
  (List.range cores.length).flatMap (fun rel =>
    let ws := u.waves.filter (fun w => w.core == rel)
    (List.range ws.length).filterMap (fun k =>
      match ws[k]?, (s.core (cores.getD rel 0)).freeSlots[k]? with
      | some w, some slot => some (rel, w.slot, slot)
      | _, _ => none))

/-- The new slot of an old place. -/
def newSlot (places : List (Nat × Nat × Nat)) (rel slot : Nat) : Nat :=
  ((places.find? (fun p => p.1 == rel && p.2.1 == slot)).map (fun p => p.2.2)).getD 0

/-- A core with the part of a unit that resumes there (R185, R229, R251, R272). -/
def Core.withUnit (k : Core) (u : Saved) (core rel : Nat) (places : List (Nat × Nat × Nat)) : Core :=
  let slot := newSlot places rel
  let ws := u.waves.filter (fun w => w.core == rel)
  let k := { k with
    mbusy := k.mbusy && !k.matQ.isEmpty
    slots := ws.foldl (fun m w => NMap.put m (slot w.slot) w.wave) k.slots
    cx := (ws.flatMap (fun w => w.cursors.map (fun c => (c.1, { c.2 with slot := slot w.slot })))).foldl
      (fun m c => NMap.put m c.1 c.2) k.cx
    copyQ := k.copyQ ++ (u.copies.filter (fun c => c.1 == rel)).map (fun c => { c.2 with slot := slot c.2.slot })
    matQ := k.matQ ++ (u.mats.filter (fun c => c.1 == rel)).map (fun c => { c.2 with slot := slot c.2.slot })
    sideLog := k.sideLog ++ (u.logs.filter (fun c => c.1 == rel)).map (fun c => { c.2 with slot := slot c.2.slot, saved := true }) }
  let k := match u.accs.find? (fun a => a.core == rel) with
    | some a => { k with holder := some (slot a.slot), acc := a.acc, accPois := a.pois, pjob := some u.job, mbusy := a.busy || k.mbusy,
                         queue := a.queue.map (fun r => { r with core := core, slot := slot r.slot }) ++ k.queue }
    | none => k
  match u.ports.find? (fun p => p.core == rel) with
  | some p => { k with port := some (slot p.slot), pDest := p.dest, pDrop := p.drop, pSrc := p.src, pSslot := p.sslot, rxq := p.rxq }
  | none => k

/-- The waiting LDL requests of a unit stand at their granules again (R169, R273); those of a wave that the poison of one has halted are
discarded (R380). -/
def State.restoreWaits (s : State) (u : Saved) (cores : List Nat) (places : List (Nat × Nat × Nat)) : State :=
  u.waits.foldl (fun s q =>
    let q := { q with core := cores.getD q.core 0, slot := newSlot places q.core q.slot }
    if s.flies ⟨q.core, q.slot, 0⟩ q.id then s.arriveWait (s.team u.tid).alloc q else s) s

/-- What a side-log entry stores to, and what its requests lead to. -/
def State.entryTargets (s : State) (core : Nat) (e : SideEntry) : List Target :=
  let at_ (va : Nat) : Option Target := match s.xlate core e.pasid va true with | .hit t => some t | .miss => none
  match e.atom with
  | some (_, va, _) => (at_ va).toList
  | none => e.parts.filterMap (fun p => at_ p.2.1)

/-- Where the requests of a side-log entry go: its atomic's, or one for each run of its store's bytes at a peer (R160, R312). -/
def State.entrySends (s : State) (core : Nat) (e : SideEntry) : List Target :=
  if e.atom.isSome then s.entryTargets core e
  else (Machine.peerWrites (e.parts.filterMap (fun p =>
    match s.xlate core e.pasid p.2.1 true with | .hit t => some (p.1, p.2.1, t, p.2.2) | .miss => none))).map PeerWrite.target

/-- The fault of a side-log entry's instruction, found when its page is refused or when it is performed (R289, R470). -/
def State.entryFault (s : State) (core : Nat) (e : SideEntry) (cause : Word) (va : Nat) : State :=
  s.lateHalt core e.slot e.arm ⟨e.pc, e.word, e.exm, true⟩ 5 cause va [e.lanes]

/-- A side-log entry is performed: its bytes are stored, with one request for each run of them that leads to a peer (R282, R288, R312), or its
atomic is, unless host memory does not take it (R329, R330). -/
def State.replayEntry (s : State) (core : Nat) (e : SideEntry) : State :=
  let c : Ctx := { r := ⟨core, e.slot, 0⟩, wave := { ((s.wave? core e.slot).getD { uid := e.uid, tid := e.tid, idx := 0, isTask := false, handler := false, vregN := 64, sregN := 512 }) with uid := e.uid },
                   arm := { pc := e.pc, word := e.word }, team := s.team e.tid, job := s.job e.job, lanes := e.lanes }
  match e.atom with
  | some (fn, va, x, n, scope) =>
    match s.xlate core e.pasid va true with
    | .hit (.peer m p) => s.sendPeer m { c.peerReq (.atomic fn p x n) e.ins 32 va false with lines := 1 }
    | .hit (.host a) =>
      if hostAtomic fn then (s.atomScope core e.pasid scope (.host a) fn x n).1 else s.entryFault core e (faultCause 0x10 0) va
    | .hit t =>
      match s.atomScope core e.pasid scope t fn x n with
      | (s, none) => s.entryFault core e (faultCause 0x13 0) (va / 32 * 32)
      | (s, some _) => s
    | .miss => s
  | none =>
    match s.xlate core e.pasid (4096 * e.page) true with
    | .hit (.peer m a) =>
      c.writePeers e.ins e.nt (e.parts.map (fun p => (p.1, p.2.1, .peer m (a + p.2.1 % 4096), p.2.2))) s
    | .hit (.host a) =>
      { s with hostMem := e.writes.foldl (fun (m : Memory) (w : Nat × Byte) => Memory.write m (a + w.1 % 4096) w.2) s.hostMem }
    | .hit (.dpa a) => s.storePlain core e.pasid e.nt (e.writes.map (fun w => (a + w.1 % 4096, w.2)))
    | .miss => s

/-- The miss-status entries that a side-log entry's instruction takes when it is performed (R175). -/
def State.entryLines (s : State) (core : Nat) (e : SideEntry) : Nat :=
  let ts := s.entryTargets core e
  match e.atom with
  | some (_, _, _, _, scope) => (ts.map (s.scopeLines core e.pasid scope)).sum
  | none => if e.nt then (s.ntLines core e.pasid ts).length else 0

/-- Those of its lines that no request to a peer holds are held until the response arrives, while its wave lives (R175). -/
def State.holdLines (s : State) (core : Nat) (e : SideEntry) (lines : Nat) : State :=
  if lines = 0 ∨ (s.entryTargets core e).any isPeer then s
  else
    let (id, s) := s.fresh
    s.modWave core e.slot (fun w => if w.uid = e.uid ∧ !w.ended then { w with inflight := w.inflight ++
      [{ id := id, arm := 0, pc := e.pc, word := e.word, exm := e.exm, lanes := 0#32, vdst := [], sdst := [], pdst := [], flags := 0#32,
         push := [], left := 0, lines := lines, load := none, isMem := false, hasFlags := false }] } else w)

/-- Side-log entries are performed in order and leave the log, as far as the windows to peers and the miss-status entries take their
requests (R175, R288, R312). -/
def State.replayEntries (core : Nat) : List SideEntry → State → State
  | [], s => s
  | e :: es, s =>
    let lines := s.entryLines core e
    if s.peersFit (s.entrySends core e) && decide (lines ≤ s.entriesFree core) then
      State.replayEntries core es
        (((s.modCore core (fun k => { k with sideLog := k.sideLog.erase e })).holdLines core e lines).replayEntry core e)
    else s

/-- The core's side-log entries for a page are performed in log order and leave the log (R288). -/
def State.replayPage (s : State) (core pasid page : Nat) : State :=
  State.replayEntries core ((s.core core).sideLog.filter (fun e => e.pasid == pasid && e.page == page)) s

/-- A core's side-log entries whose pages translate and that waited for a window go on, and loads behind them (R288, R312). -/
def State.drainLog (s : State) (core : Nat) : State :=
  (logPages [core] ((s.core core).sideLog.map (fun e => (0, e)))).foldl (fun s e =>
    if s.xlate core e.2.1 (4096 * e.2.2) true = .miss then s
    else (s.replayPage core e.2.1 e.2.2).releaseLogged core e.2.1 e.2.2) s

/-- MISS_STATUS_RETRY (R175, R176): the access with the claim, or else the oldest rejected one, is tried again as its partition's
next choice; without one, side-log entries that waited for miss-status entries go on. -/
def execMissStatusRetry (core : Nat) (s : State) : Host.Outcome State Fault Refusal :=
  .next (match (s.core core).claim.or (((s.core core).rejects.head?).map (fun e => e.1)) with
    | some r =>
      if r.arm < 2 then s.modArm r (fun a => if a.heldBy Hold.isRejected then { a.facing Hold.isRejected with hold := .none } else a)
      else s.retryReplays core (fun _ p => p.id + 2 == r.arm)
    | none => s.drainLog core)

/-- The class of a load in flight (R299). -/
def LoadReq.cls (q : LoadReq) : Option Nat :=
  classOf (if q.loc then .ldl 0 0 0 0 0 else if q.scalar then .lds 0 0 0 else .ld 0 0 0 0 0 0)

/-- The classes of the loads of a wave that a switch replays: in flight, waiting at banks, or captured. -/
def Wave.replayClasses (w : Wave) (waits : List BankWait) : List Nat :=
  w.inflight.filterMap (fun p => (p.load.bind LoadReq.cls).or (if waits.any (fun q => q.id == p.id) then classOf (.ldlW 0 0 0 0 0) else none)) ++
    w.captures.filterMap (fun q => if isLoad q.ins then classOf q.ins else none)

/-- A load that a switch replays issues again, on the core on which its wave resumes (R272, R305). -/
def State.noteReplays (s : State) (u : Saved) : State :=
  (s.teamWaves u.tid).foldl (fun s e => (e.2.2.replayClasses u.waits).foldl (fun s c => s.noteClass e.1 u.job c) s) s

/-- SwitchIn (R272): everything is where it was, entries of the side log are performed first, loads are replayed. -/
def State.switchIn (s : State) (u : Saved) (cores : List Nat) : State :=
  let places := s.unitSlots u cores
  let s := (s.configured u.cluster (s.job u.job)).getD s
  let s := { s with units := NMap.del s.units u.uid }
  let s := s.modTeam u.tid (fun t => { t with cores := cores })
  let s := if (s.team u.tid).isTask then s.modJob u.job (fun j => { j with cores := cores.foldl setInsert j.cores }) else s
  let s := (List.range cores.length).foldl (fun s rel =>
    let c := cores.getD rel 0
    s.modCore c (fun k => k.withUnit u c rel places)) s
  let s := cores.foldl (fun s c => s.acquire c 4) s
  let s := (logPages cores u.logs).foldl (fun s e => s.replayPage e.1 e.2.1 e.2.2) s
  let s := (s.noteReplays u).restoreWaits u cores places
  let s := (s.teamWaves u.tid).foldl (fun s e => (e.2.2.inflight.filter (fun p => p.load.isSome)).foldl (fun s p =>
    s.replayLoad e.1 e.2.1 e.2.2 p) s) s
  cores.foldl (fun s c => s.settle c) s

/-- PREOFF_WINDOW_EXPIRY (R274): in the last cycle of a wave's window, PRES reaches 0 and the window closes. -/
def execPreoffWindowExpiry (core slot : Nat) (s : State) : Host.Outcome State Fault Refusal :=
  .next (s.modWave core slot (fun w => if w.pres = 1#32 ∧ !w.opened then { w with pres := 0#32 } else w))

end Sys2Proof.Machine
end

