-- ==== Sys2Proof/Machine/Schedule.lean ====
section
/-!
DEFINITION. The scheduler: what it places next (R261), teams (R33 to R35, R262, R265), root closures (R261), contracts
(R267 to R271), tasks (R81, R94, R264), and the ends of jobs with their completion records (R259, R307).
-/

namespace Sys2Proof.Machine

/-! ### What waits -/

/-- Whether a job has work for the scheduler to place: a team to start, or its root closure (R35, R261, R263). -/
def Job.waiting (j : Job) : Bool :=
  !j.drained && !j.ended && (if j.task then !j.rootPushed else decide (j.started < j.g))

/-- The end of a contract's current period (R267, R270). -/
def Contract.periodEnd (c : Contract) : Nat := c.c0 + c.n * c.period

/-- The contracts with budget left, the one whose period ends first in front, ties to the lower number (R270). -/
def State.servedContracts (s : State) : List Contract :=
  ((s.contracts.map (fun e => e.2)).filter (fun c => decide (0 < c.left))).insertionSort (fun a b =>
    a.periodEnd < b.periodEnd || (a.periodEnd == b.periodEnd && decide (a.cid ≤ b.cid)))

/-- Whether a contract competes with another for a core and is served first (R270). -/
def Contract.ahead (c d : Contract) : Bool :=
  c.stack == d.stack && c.cores &&& d.cores != 0#128 &&
    (decide (c.periodEnd < d.periodEnd) || (c.periodEnd == d.periodEnd && decide (c.cid < d.cid)))

/-- Whether contract work of a job is served before that of another, as their contracts compete for a core (R270). -/
def State.jobAhead (s : State) (a b : Nat × Job) : Bool :=
  match NMap.get? s.contracts a.2.cid, NMap.get? s.contracts b.2.cid with
  | some c, some d => c.ahead d
  | _, _ => false

/-- A list in its own order, but for those before which another must go. -/
def inOrder {α : Type} [DecidableEq α] (ahead : α → α → Bool) : Nat → List α → List α
  | 0, l => l
  | fuel + 1, l =>
    match l.find? (fun x => !l.any (fun y => ahead y x)) with
    | some x => x :: inOrder ahead fuel (l.erase x)
    | none => l

/-- A placement of a job moves the turn of its rank to the next interface (R261). -/
def State.served (s : State) (j : Job) : State := { s with rr := NMap.put s.rr (s.rank j) ((j.vi + 1) % 512) }

/-! ### Teams -/

/-- A wave of a team at its start (R46). -/
def teamWave (j : Job) (uid tid idx : Nat) : Wave :=
  { uid := uid, tid := tid, idx := idx, isTask := false, handler := false, vregN := 8 * j.vrb, sregN := 64 * j.srb,
    s := (List.range 32).map (fun k => (k, j.args.getD k 0#32)), arms := [(0, { pc := j.entry })], placed := tid }

/-- Starts one wave of a team in the lowest free slot of its core. -/
def State.startWave (s : State) (j : Job) (tid idx core : Nat) : State :=
  match (s.core core).freeSlots with
  | [] => s
  | slot :: _ =>
    let (uid, s) := s.fresh
    s.modCore core (fun k => { k with slots := NMap.put k.slots slot (teamWave j uid tid idx) })

/-- Places the next team of a job on cores of a cluster (R33 to R35, R165). -/
def State.placeTeam (s : State) (cl jid : Nat) (cs : List Nat) : State :=
  let j := s.job jid
  let (tid, s) := s.fresh
  let (aid, s) := s.fresh
  let team : Team :=
    { tid := tid, job := jid, num := j.started, cluster := cl, cores := cs, size := j.w, alive := j.w, fifoN := j.fifo,
      alloc := aid, placed := tid }
  let s := { s.served j with
    teams := NMap.put s.teams tid team
    allocs := NMap.put s.allocs aid { aid := aid, job := jid, cluster := cl, bytes := j.scr, ofTeam := true }
    clusters := s.clusters.map (fun (e : Nat × Cluster) => (e.1, if e.2.reserve = some jid then { e.2 with reserve := none } else e.2)) }
  let s := (s.giveBanks cl j aid tid j.fifo).modJob jid (fun j => { j with started := j.started + 1 })
  (List.range j.w).foldl (fun s idx => s.startWave j tid idx (cs.getD (idx / ((j.w + j.c - 1) / j.c)) 0)) s

/-- The free slots of a cluster, if it is eligible for a reservation (R265). R265 does not say which clusters are: that it is those with the
cores of R262 in the job's own configuration, whatever they hold, and that banks, a sole-cluster job of another address space and work
which keeps the configuration do not count, is the model's choice (assumption 14). -/
def State.reserveSlots (s : State) (cl jid : Nat) : Option Nat :=
  let j := s.job jid
  let t := s.modCluster cl (fun k => { k with ganged := j.ganged })
  let ok := decide (j.c ≤ ((clusterCores cl).filter (fun c => t.coreMeets c j)).length) &&
    (match s.reserved cl with | some (k, _) => decide (k < s.rank j) | none => true)
  if ok then some (((clusterCores cl).map (fun c => if s.present c then (s.core c).freeSlots.length else 0)).sum) else none

/-- The clusters of the module. -/
def allClusters : List Nat := List.range 128

/-- The cluster that a team which cannot be placed reserves: the most free slots, ties to the lowest number (R265). -/
def State.reserveChoice (s : State) (jid : Nat) : Option Nat :=
  (allClusters.foldl (fun (b : Option (Nat × Nat)) cl =>
    match s.reserveSlots cl jid, b with
    | some n, some (_, m) => if m < n then some (cl, n) else b
    | some n, none => some (cl, n)
    | none, _ => b) none).map (fun x => x.1)

/-- Whether a job's team holds a reservation (R265). -/
def State.hasReserve (s : State) (jid : Nat) : Bool := s.clusters.any (fun e => (s.reserved e.1).any (fun r => r.2 == jid))

/-! ### Root closures -/

/-- Pushes the root closure of a job (R75, R261). -/
def State.pushRoot (s : State) (core jid : Nat) : State :=
  let j := s.job jid
  let (_, s) := s.enterCluster jid (clusterOf core)
  let (uid, s) := s.fresh
  let s := s.modJob jid (fun j => { j with rootPushed := true, started := 1, home := if j.sole then some (clusterOf core) else none })
  (s.pushEntry core (newEntry uid j (migratable j j.args))).served j

/-! ### Room -/

/-- Whether a core has room for the root closure of a job, with its cluster configured for it (R261, R262). -/
def State.rootRoom (s : State) (core jid : Nat) : Option State :=
  let j := s.job jid
  let cl := clusterOf core
  if !s.clusterTakes cl j || !s.rankEnters cl jid false || !s.givesBanks cl j.cid j.scrBanks 0 || (s.core core).dequeFull then none
  else (s.configured cl j).bind (fun s => if s.coreMeets core j then some s else none)

/-- Whether there is room for some work of a waiting job now. -/
def State.jobRoom (s : State) (jid : Nat) : Bool :=
  if (s.job jid).task then allCores.any (fun c => (s.rootRoom c jid).isSome)
  else allClusters.any (fun cl => (s.teamRoom cl jid (fun _ => true)).isSome)

/-- Whether a core of a contract has a slot for an entry of a deque, which it pops or, as a thief, takes at the
level one below the scope that holds both cores (R81, R94). -/
def State.entryRoom (s : State) (c : Contract) (owner : Nat) (e : Entry) : Bool :=
  c.coreList.any (fun k => !(s.core k).freeSlots.isEmpty &&
    (if k = owner then s.eligible k e
     else ((s.core owner).deque.take 8).any (fun x => x.uid == e.uid) && s.qualifies k owner (commonScope k owner - 1) e))

/-! ### Contracts -/

/-- The units that hold cores of a contract with work of lower rank and no request yet: the lowest class first, then the most
recently placed (R270). -/
def State.victimUnits (s : State) (c : Contract) : List Nat :=
  let on (t : Team) : Bool := t.cores.any (fun k => c.coreList.contains k) && !(s.teamWaves t.tid).isEmpty
  (((s.teams.map (fun e => e.2)).filter (fun t => on t && decide (s.rank (s.job t.job) < 4))).insertionSort (fun a b =>
    let ra := s.rank (s.job a.job)
    let rb := s.rank (s.job b.job)
    ra < rb || (ra == rb && decide (b.placed ≤ a.placed)))).map (fun t => t.tid)

/-- The state as if some units had left their cores. -/
def State.withoutUnits (s : State) (tids : List Nat) : State :=
  { s with cores := s.cores.map (fun (e : Nat × Core) =>
      let k := tids.foldl (fun (k : Core) t => k.without (s.team t)) e.2
      (e.1, { k with holder := k.holder.filter (fun h => k.slots.any (fun w => w.1 == h)) })) }

/-- The fewest units, in the order of R270, whose switch gives a piece of work its place, without those among them that it does not
need; none when no number would. -/
def State.switchesFor (s : State) (c : Contract) (fits : State → Bool) : Option (List Nat) :=
  let ids := s.victimUnits c
  ((List.range (ids.length + 1)).find? (fun n => fits (s.withoutUnits (ids.take n)))).map (fun n =>
    (ids.take n).reverse.foldl (fun kept t => if fits (s.withoutUnits (kept.erase t)) then kept.erase t else kept) (ids.take n))

/-- Whether a job's work has room, or would have it after the switches that its contract may ask for (R270). -/
def State.roomInSight (s : State) (jid : Nat) : Bool :=
  match NMap.get? s.contracts (s.job jid).cid with
  | some c => (s.switchesFor c (fun t => t.jobRoom jid)).isSome
  | none => s.jobRoom jid

/-- The waiting work of a contract, each piece as the test that it finds a place: its waiting jobs, its saved units, and its ready entries,
wherever they are (R270, R271). -/
def State.contractWork (s : State) (c : Contract) : List (State → Bool) :=
  let own (jid : Nat) : Bool := (s.job jid).cid == c.cid
  (s.jobs.filter (fun e => e.2.waiting && own e.1)).map (fun e t => t.jobRoom e.1) ++
    (s.units.filter (fun u => own u.2.job)).map (fun u t => t.unitTakes u.2 (t.unitCores u.2)) ++
    s.cores.flatMap (fun k => (k.2.deque.filter (fun e => e.ready && own e.job)).map (fun e t => t.entryRoom c k.1 e))

/-- The switches that give each piece of a contract's waiting work its place, as far as switches can (R270). -/
def State.neededSwitches (s : State) (c : Contract) : List Nat := ((s.contractWork c).filterMap (s.switchesFor c)).flatten.dedup

/-- Whether waiting work of a contract with budget left, which has its place or would have it after switches, comes before work of a job on
some cores: before all work of lower rank, and before that of a contract which it precedes (R270, R271). That nothing later takes any
core of the contract until then is the model's choice (assumption 14). -/
def State.contractFirst (s : State) (cores : List Nat) (j : Job) : Bool :=
  s.servedContracts.any (fun c => cores.any (fun k => c.coreList.contains k) &&
    (decide (s.rank j < 4) || (NMap.get? s.contracts j.cid).any (fun d => c.ahead d)) &&
    (s.contractWork c).any (fun fits => (s.switchesFor c fits).isSome))

/-- Whether a unit may resume on cores: contract work that comes first there goes before it (R270). -/
def State.unitFits (s : State) (u : Saved) (cores : List Nat) : Bool := s.unitTakes u cores && !s.contractFirst cores (s.job u.job)

/-! ### The choice -/

/-- The waiting jobs of a rank that the scheduler considers, in its order: interfaces in turn, and the earliest job of each (R261); of
contracts with budget left that compete for a core, the one whose period ends first in front (R270). Contract work that no switch would
give a place holds up none behind it (R271). -/
def State.rankJobs (s : State) (r : Nat) : List Nat :=
  let js := s.jobs.filter (fun e => e.2.waiting && s.rank e.2 == r)
  let ahead (a b : Nat × Job) : Bool := r == 4 && s.jobAhead a b
  let turn := (NMap.get? s.rr r).getD 0
  let vis := ((js.map (fun e => e.2.vi)).dedup).insertionSort (fun a b => decide ((a + 512 - turn) % 512 ≤ (b + 512 - turn) % 512))
  let heads := vis.filterMap (fun v =>
    let own := js.filter (fun e => e.2.vi == v)
    (own.find? (fun e => r == 4 && !own.any (fun x => ahead x e) && s.roomInSight e.1)).or (own.find? (fun e => !own.any (fun x => ahead x e))))
  (inOrder ahead heads.length heads).map (fun e => e.1)

/-- The waiting jobs that the scheduler considers, in its order (R261). -/
def State.candidateJobs (s : State) : List Nat := [4, 3, 2, 1, 0].flatMap s.rankJobs

/-- The cores on which a team of a job can be placed in a cluster now, with the cluster configured for it (R33, R262): contract work that
comes first on a core keeps other teams from it (R270). -/
def State.teamFit (s : State) (cl jid : Nat) : Option (State × List Nat) :=
  s.teamRoom cl jid (fun c => !s.contractFirst [c] (s.job jid))

/-- Whether a core can receive the root closure of a job, with its cluster configured for it (R261, R262, R270). -/
def State.rootFit (s : State) (core jid : Nat) : Option State :=
  if s.contractFirst [core] (s.job jid) then none else s.rootRoom core jid

/-- Whether some work of a job can be placed now. -/
def State.placeable (s : State) (jid : Nat) : Bool :=
  if (s.job jid).task then allCores.any (fun c => (s.rootFit c jid).isSome) else allClusters.any (fun cl => (s.teamFit cl jid).isSome)

/-- Whether a job's team cannot be placed and can reserve a cluster (R265). -/
def State.wantsReserve (s : State) (jid : Nat) : Bool :=
  !(s.job jid).task && !s.hasReserve jid && (s.reserveChoice jid).isSome

/-- The job that the scheduler acts on next: the first that can be placed, or whose team takes a reservation (R261, R265). -/
def State.nextJob (s : State) : Option Nat := s.candidateJobs.find? (fun j => s.placeable j || s.wantsReserve j)

/-- TEAM_PLACEMENT (R33, R261, R265): a team of the next job in a cluster, or its reservation when it fits nowhere. -/
def execTeamPlacement (cluster : Nat) (s : State) : Host.Outcome State Fault Refusal :=
  .next (match s.nextJob with
    | none => s
    | some jid =>
      if (s.job jid).task then s
      else if s.placeable jid then
        match s.teamFit cluster jid with
        | some (t, cs) => t.placeTeam cluster jid cs
        | none => s
      else match s.reserveChoice jid with
        | some cl => s.modCluster cl (fun k => { k with reserve := some jid })
        | none => s)

/-- ROOT_CLOSURE_PUSH (R261): the root closure of the next job, onto a core that meets R262. -/
def execRootClosurePush (core : Nat) (s : State) : Host.Outcome State Fault Refusal :=
  .next (match s.nextJob with
    | none => s
    | some jid =>
      if !(s.job jid).task then s
      else match s.rootFit core jid with
        | some t => t.pushRoot core jid
        | none => s)

/-! ### Tasks -/

/-- Whether the team that has reserved a cluster fits there now: slots that free are offered to it first (R264). -/
def State.reserverFits (s : State) (cl : Nat) : Bool := (s.reserved cl).any (fun e => (s.teamFit cl e.2).isSome)

/-- Whether an eligible entry takes a slot of a core before all other work that waits for it (R81, R264, R270). -/
def State.takes (s : State) (core : Nat) (e : Entry) : Bool := s.eligible core e && !s.contractFirst [core] (s.job e.job)

/-- Whether a core's own deque holds an eligible ready entry. -/
def State.hasWork (s : State) (core : Nat) : Bool := (s.core core).deque.any (fun e => e.ready && s.takes core e)

/-- TASK_DISPATCH (R81): a slot that the team which has reserved the cluster can take is offered to it first (R264). -/
def execTaskDispatch (core : Nat) (s : State) : Host.Outcome State Fault Refusal :=
  .next (match (s.core core).freeSlots with
    | [] => s
    | slot :: _ =>
      if s.reserverFits (clusterOf core) then s
      else match s.popChoice core ((s.core core).deque.filter (fun e => s.takes core e)) with
        | none => s
        | some (e, passed) =>
          let s := if passed.isEmpty then s else s.bump core passed
          (s.modCore core (fun k => k.takeEntry e.uid)).startTask core slot e)

/-- What a thief takes: level, victim, entry (R94). -/
def State.stealChoice (s : State) (thief : Nat) : Option (Nat × Nat × Entry) :=
  [1, 2, 3].findSome? (fun level => (victims thief level).findSome? (fun v =>
    (((s.core v).deque.take 8).find? (fun e => s.qualifies thief v level e && s.takes thief e)).map (fun e => (level, v, e))))

/-- STEAL (R94, R95): a thief with a free slot and no eligible ready entry of its own. -/
def execSteal (core : Nat) (s : State) : Host.Outcome State Fault Refusal :=
  .next (match (s.core core).freeSlots with
    | [] => s
    | slot :: _ =>
      if s.hasWork core || s.reserverFits (clusterOf core) then s
      else match s.stealChoice core with
        | none => s
        | some (level, victim, e) =>
          let s := s.takeStolen core victim level e
          let x := e.stolen (commonScope core victim)
          if x.ready then s.startTask core slot x else s.restage core x)

/-- SWITCH_IN (R272): a unit resumes on cores of its cluster. -/
def execSwitchIn (unit : Nat) (cores : List Nat) (s : State) : Host.Outcome State Fault Refusal :=
  .next (match NMap.get? s.units unit with
    | none => s
    | some u =>
      if !s.unitFits u cores then s
      else match s.unitMiss u cores with
        | some (c, pasid, va) => s.askX c pasid va true
        | none => s.switchIn u cores)

/-- Requests the switches that contracts with budget left need (R270). That a request stands until its unit has been switched out, though
the work that needed it may have found another place or have ended since, is the model's choice (assumption 14). -/
def State.requestSwitches (s : State) : State :=
  s.servedContracts.foldl (fun s c =>
    (s.neededSwitches c).foldl (fun s t => s.modTeam t (fun t => { t with switching := true })) s) s

/-- SWITCH_OUT (R272): the unit of the wave in a slot, whose switch has been requested (R270); the requests are those that contract
work which has become runnable needs now (R271). -/
def execSwitchOut (core slot : Nat) (s : State) : Host.Outcome State Fault Refusal :=
  let s := s.requestSwitches
  .next (match s.wave? core slot with
    | none => s
    | some w =>
      let t := s.team w.tid
      if t.switching && (s.teamWaves t.tid).all (fun e => s.waveMaySwitch e.1 e.2.1 e.2.2) then s.switchOut t else s)

/-- A destroyed contract ends: its banks are freed, and its jobs run at their priority class on any cores (R269). -/
def State.endContract (s : State) (cid : Nat) : State :=
  let s := { s with contracts := NMap.del s.contracts cid,
                    jobs := s.jobs.map (fun (e : Nat × Job) => (e.1, if e.2.cid = cid then { e.2 with cid := 0 } else e.2)) }
  s.clusters.foldl (fun s e => s.rebank e.1) s

/-- BUDGET_EXHAUSTED (R270): a contract's remaining budget has reached 0 and its work has its priority class again; contracts
that compete for its cores may need them. -/
def execBudgetExhausted (cid : Nat) (s : State) : Host.Outcome State Fault Refusal :=
  .next (match NMap.get? s.contracts cid with
    | none => s
    | some c => if c.left = 0 ∧ 0 < c.n then s.requestSwitches else s)

/-! ### Completion records -/

/-- The 64 bytes of a completion record (R259). -/
def RecordFields.bytes (r : RecordFields) : List Byte :=
  natBytes 4 r.tag.toNat ++ [BitVec.ofNat 8 r.out, BitVec.ofNat 8 r.conf] ++ natBytes 2 r.err ++ natBytes 4 r.job ++
    natBytes 4 r.halts ++ r.steals.flatMap (natBytes 4) ++ natBytes 4 r.dropped ++ natBytes 8 r.classes ++ natBytes 4 r.cid ++
    natBytes 4 r.poison ++ natBytes 8 r.at48 ++ natBytes 8 0

/-- Writes a completion record, and vector 1 of the interface signals it (R259, R309). -/
def State.putRecord (s : State) (vi : Nat) (t : Target) (r : RecordFields) : State :=
  let s := s.outsideWrite (s.viPasid vi) t r.bytes
  { s with msix := s.msix ++ [(vi, 1)] }

/-- Writes a completion record now, or when its page has been had; one whose page cannot be had is dropped (R471). -/
def State.putOrWait (s : State) (w : RecordWait) : State :=
  match s.ioPlace w.pasid w.rva true with
  | .at t => s.putRecord w.vi t w.fields
  | .bad => s.forget w.pasid w.rva true
  | .miss => { s.askX ioUnit w.pasid w.rva true with records := s.records ++ [w] }

/-- Whether a job has ended (R259, R272): no wave, no saved unit, no entry, no delivery. That it also waits for a continuation whose
line is still on its way is this model's choice: R97 does not list it, and its push or its loss still has to be counted
(assumption 36). -/
def State.jobDone (s : State) (jid : Nat) : Bool :=
  let j := s.job jid
  (NMap.get? s.jobs jid).isSome && !j.ended && !j.waiting && (s.jobWaves jid).isEmpty && s.units.all (fun u => u.2.job != jid) &&
    s.cores.all (fun c => c.2.deque.all (fun e => e.job != jid)) && s.deliveries.all (fun d => d.job != jid) &&
    s.conts.all (fun c => c.job != jid)

/-- CONF of a job (R307). -/
def Job.confNow (j : Job) : Nat := if j.conf = 3 then 3 else if j.pairs.isEmpty then 2 else 1

/-- The completion record of a job (R97, R259). -/
def Job.record (j : Job) : RecordFields :=
  { tag := j.tag, out := if j.halted1 then 3 else if j.drained then 4 else 1, conf := j.confNow, job := j.num, halts := j.halts,
    steals := j.steals, dropped := j.dropped + j.regs.length, classes := j.classes.toNat }

/-- A job has ended: it keeps what R307 still needs. -/
def State.closeJob (s : State) (jid : Nat) : State :=
  s.modJob jid (fun j => { j with ended := true, conf := j.confNow, dropped := j.dropped + j.regs.length, regs := [] })

/-- JOB_END (R259): the completion record of a job that has ended; one whose page cannot be had is dropped (R471). -/
def execJobEnd (jid : Nat) (s : State) : Host.Outcome State Fault Refusal :=
  .next (if !s.jobDone jid then s
    else
      let j := s.job jid
      match s.ioPlace j.pasid j.rva true with
      | .miss => s.askX ioUnit j.pasid j.rva true
      | .bad => (s.forget j.pasid j.rva true).closeJob jid
      | .at t => (s.putRecord j.vi t j.record).closeJob jid)

end Sys2Proof.Machine
end

