-- ==== Sys2Proof/Machine/Queue.lean ====
section
/-!
DEFINITION. Submission queues (R253, R254, R471): how an entry is read and refused, LAUNCH (R256, R257), CREATE CONTRACT and
DESTROY CONTRACT (R268, R269), DRAIN JOB (R263).
-/

namespace Sys2Proof.Machine

/-! ### Bytes through the I/O die -/

/-- The parts of `n` bytes at an address by pages: address and length. -/
def pageParts (va n : Nat) : List (Nat × Nat) :=
  (List.range ((va + n - 1) / 4096 + 1 - va / 4096)).map (fun i =>
    let lo := max va (4096 * (va / 4096 + i))
    (lo, min (va + n) (4096 * (va / 4096 + i + 1)) - lo))

/-- Where the I/O die finds bytes: all of them, or a page that is not there yet, or one that it cannot have (R471). -/
inductive Span where
  | ok (parts : List (Target × Nat))
  | miss (va : Nat)
  | bad
  deriving DecidableEq, Repr

/-- Translation of bytes for the I/O die (R471). -/
def State.span (s : State) (pasid va n : Nat) (write : Bool) : Span :=
  let ps := (pageParts va n).map (fun p => (s.ioPlace pasid p.1 write, p))
  if ps.any (fun p => p.1 == .bad) then .bad
  else match ps.find? (fun p => p.1 == .miss) with
    | some p => .miss p.2.1
    | none => .ok (ps.filterMap (fun p => match p.1 with | .at t => some (t, p.2.2) | _ => none))

/-- Refusals of pages have been seen by what waited for them. -/
def State.forgetSpan (s : State) (pasid va n : Nat) (write : Bool) : State :=
  (pageParts va n).foldl (fun s p => s.forget pasid p.1 write) s

/-- Reads parts: the bytes, and whether a sector of them is poisoned. -/
def State.readParts (s : State) (ps : List (Target × Nat)) : List Byte × Bool :=
  (ps.flatMap (fun p => (s.readT p.1 p.2).1), ps.any (fun p => (s.readT p.1 p.2).2))

/-- Writes bytes over parts. -/
def State.writeParts (s : State) (pasid : Nat) : List (Target × Nat) → List Byte → State
  | [], _ => s
  | p :: ps, bs => (s.outsideWrite pasid p.1 (bs.take p.2)).writeParts pasid ps (bs.drop p.2)

/-! ### Entries -/

/-- A submission entry of an interface (R254). -/
structure Submission where
  vi : Nat
  pasid : Nat
  bytes : List Byte
  deriving DecidableEq, Repr

/-- A little-endian field of bytes (R2). -/
def fieldOf (bs : List Byte) (off n : Nat) : Nat := bytesNat ((bs.drop off).take n)

def Submission.cmd (e : Submission) : Nat := fieldOf e.bytes 0 1
def Submission.tag (e : Submission) : Word := BitVec.ofNat 32 (fieldOf e.bytes 4 4)
/-- The address of the record, descriptor or result buffer that the entry names. -/
def Submission.ptr (e : Submission) : Nat := fieldOf e.bytes 8 8
def Submission.rva (e : Submission) : Nat := fieldOf e.bytes 16 8
/-- An operand at an offset from byte 24 (R254, R311). -/
def Submission.operand (e : Submission) (off n : Nat) : Nat := fieldOf e.bytes (24 + off) n

/-- The entry's completion record, while it waits. -/
def Submission.record (e : Submission) (r : RecordFields) : RecordWait := { vi := e.vi, pasid := e.pasid, rva := e.rva, fields := r }

/-- The address of the next entry of an interface. -/
def Iface.entryVA (v : Iface) : Nat := pair v.sqbl v.sqbh + 64 * v.sqhd.toNat

/-- What the device finds when it looks for the next entry of an interface (R253, R254, R471). -/
inductive Next where
  | none
  | miss (va : Nat)
  /-- The entry cannot be read, or its record's address is no multiple of 64. -/
  | broken
  | entry (e : Submission)
  deriving DecidableEq, Repr

/-- The next entry of an interface; nothing is read in recovery, by a function that is not enabled, or while VIST[0] is set. -/
def State.nextEntry (s : State) (vi : Nat) : Next :=
  let v := s.iface vi
  let pasid := s.viPasid vi
  if s.pf.rcv || decide (s.numVfs < vi) || v.err || v.sqsz == 0#32 || v.sqhd == v.sqdb then .none
  else match s.ioPlace pasid v.entryVA false with
    | .miss => .miss v.entryVA
    | .bad => .broken
    | .at t =>
      let (bs, pois) := s.readT t 64
      let e : Submission := { vi := vi, pasid := pasid, bytes := bs }
      if pois || e.rva % 64 != 0 then .broken else .entry e

/-- The I/O die has read parts: those of device memory at their home slices, under the PASID of the read (R171, R172, R471). -/
def State.touchParts (s : State) (pasid : Nat) (ps : List (Target × Nat)) : State := ps.foldl (fun s p => s.touchHome pasid p.1 p.2) s

/-- The I/O die has read the next entry of an interface (R172, R254). -/
def State.touchEntry (s : State) (vi : Nat) : State :=
  match s.ioPlace (s.viPasid vi) (s.iface vi).entryVA false with
  | .at t => s.touchHome (s.viPasid vi) t 64
  | _ => s

/-- The entry is consumed: SQHD moves past it, and the refusals that it met are done with (R254). -/
def State.consume (s : State) (e : Submission) : State :=
  ((s.forget e.pasid (s.iface e.vi).entryVA false).forget e.pasid e.rva true).modIface e.vi (fun v =>
    { v with sqhd := BitVec.ofNat 32 ((v.sqhd.toNat + 1) % v.sqsz.toNat) })

/-- The entry ends with a completion record, or without one where its page cannot be had (R259, R471). -/
def State.answer (s : State) (e : Submission) (r : RecordFields) : State := (s.putOrWait (e.record r)).consume e

/-- A refused command: a refused LAUNCH has no pairs, so that its CONF is 2 (R259, R306, R307). -/
def State.refuse (s : State) (e : Submission) (err : Nat) : State :=
  s.answer e { tag := e.tag, out := 2, err := err, conf := if e.cmd = 1 then 2 else 0 }

/-- The acceptance of a command whose record is written at once. -/
def State.accept (s : State) (e : Submission) : State := s.answer e { tag := e.tag, out := 1 }

/-- Acts on the next entry of an interface when its CMD is one of a step's own: the record's page is had first, then the
refusals of R471 that come before a command's own checks. -/
def State.command (s : State) (vi : Nat) (mine : Nat → Bool) (act : Submission → State → State) : State :=
  match s.nextEntry vi with
  | .none => s
  | .miss va => s.askX ioUnit (s.viPasid vi) va false
  | .broken => ((s.touchEntry vi).forget (s.viPasid vi) (s.iface vi).entryVA false).modIface vi (fun v => { v with err := true })
  | .entry e =>
    if !mine e.cmd then s
    else
      let s := s.touchEntry vi
      match s.ioPlace e.pasid e.rva true with
      | .miss => s.askX ioUnit e.pasid e.rva true
      | _ =>
        if 16 ≤ e.cmd ∧ vi ≠ 0 then s.refuse e 12
        else if noPasid ≤ e.pasid then s.refuse e 13
        else act e s

/-- Goes on with the bytes that an entry names; ERR 17 where they cannot be had or a sector of them is poisoned (R471). -/
def State.withBytes (s : State) (e : Submission) (n : Nat) (act : List Byte → State → State) : State :=
  match s.span e.pasid e.ptr n false with
  | .miss va => s.askX ioUnit e.pasid va false
  | .bad => (s.forgetSpan e.pasid e.ptr n false).refuse e 17
  | .ok ps =>
    match s.readParts ps with
    | (bs, false) => act bs (s.touchParts e.pasid ps)
    | (_, true) => (s.touchParts e.pasid ps).refuse e 17

/-- Goes on with a result for an entry's buffer; ERR 17 where the buffer cannot be had (R471). -/
def State.withResult (s : State) (e : Submission) (bs : List Byte) : State :=
  match s.span e.pasid e.ptr bs.length true with
  | .miss va => s.askX ioUnit e.pasid va true
  | .bad => (s.forgetSpan e.pasid e.ptr bs.length true).refuse e 17
  | .ok ps => (s.writeParts (s.viPasid e.vi) ps bs).accept e

/-- CMD_UNDEFINED (R254): ERR 16 before every other refusal (R471). -/
def execCmdUndefined (vi : Nat) (s : State) : Host.Outcome State Fault Refusal :=
  .next (match s.nextEntry vi with
    | .entry e =>
      if (1 ≤ e.cmd ∧ e.cmd ≤ 4) ∨ (16 ≤ e.cmd ∧ e.cmd ≤ 27) then s
      else
        let s := s.touchEntry vi
        match s.ioPlace e.pasid e.rva true with
        | .miss => s.askX ioUnit e.pasid e.rva true
        | _ => s.refuse e 16
    | _ => s.command vi (fun _ => false) (fun _ s => s))

/-! ### LAUNCH -/

/-- A format slot of a launch record (R153). -/
def slotOf (b : List Byte) : Slot :=
  { af := fieldOf b 0 1 % 16, bf := fieldOf b 1 1 % 16, mf := fieldOf b 2 1 % 16, ta := (b.getD 3 0#8).getLsbD 0,
    tb := (b.getD 3 0#8).getLsbD 1, blk := (b.getD 3 0#8).getLsbD 2 }

/-- Whether reserved bits of a format slot are nonzero (R153, R257). -/
def slotBad (b : List Byte) : Bool :=
  (b.take 3).any (fun x => x >>> 4 != 0#8) || b.getD 3 0#8 >>> 3 != 0#8 || (b.drop 4).any (fun x => x != 0#8)

/-- The eight slots' bytes of a launch record. -/
def slotBytes (bs : List Byte) : List (List Byte) := (List.range 8).map (fun k => (bs.drop (128 + 16 * k)).take 16)

/-- The job that a launch record describes (R256), with ENTRY in w1 of a root closure (R257). -/
def launchJob (e : Submission) (bs : List Byte) : Job :=
  let f := fieldOf bs
  let flg := f 3 1
  let task := f 2 1 == 1
  let args := bytesWords 32 (bs.drop 256)
  { jid := 0, vi := e.vi, pasid := e.pasid, num := 0, task := task, ganged := flg.testBit 0, sole := flg.testBit 1,
    migrate := flg.testBit 2, npkt := f 4 4, cbase := f 8 8, entry := f 16 4, tent := f 20 4, fent := f 24 4,
    w := if task then 1 else f 28 2, c := if task then 1 else f 30 1, g := if task then 1 else f 32 4,
    vrb := f 36 1, srb := f 37 1, fifo := f 38 1, prio := f 39 1, scr := f 40 4, stgb := f 44 4,
    oum := BitVec.ofNat 64 (f 48 8), cid := f 56 4, fpol := f 60 1, loct := f 62 2, plim := f 64 4,
    slots := (slotBytes bs).map slotOf, args := if task then args.set 1 (BitVec.ofNat 32 (f 16 4)) else args,
    tag := e.tag, rva := e.rva }

/-- ERR 1 of R257: version, kind, reserved bits and bytes (R299). -/
def launchReserved (bs : List Byte) : Bool :=
  let f := fieldOf bs
  f 0 2 != 1 || decide (1 < f 2 1) || f 3 1 / 8 != 0 || f 31 1 != 0 || f 39 1 / 4 != 0 || f 61 1 != 0 ||
    (List.range 60).any (fun k => f (68 + k) 1 != 0) || f 48 8 / 2 ^ 27 != 0 || (slotBytes bs).any slotBad

/-- ERR 2 of R257: a field outside its range (R256). -/
def launchRange (bs : List Byte) : Bool :=
  let f := fieldOf bs
  let out (x lo hi : Nat) : Bool := decide (x < lo ∨ hi < x)
  out (f 4 4) 1 16777216 || out (f 36 1) 1 8 || out (f 37 1) 1 8 || out (f 38 1) 0 64 || out (f 40 4) 0 8388608 ||
    f 40 4 % 128 != 0 || out (f 44 4) 0 (f 40 4) || f 44 4 % 128 != 0 || out (f 60 1) 0 1 || out (f 62 2) 0 33280 ||
    out (f 64 4) 0 65536 ||
    (if f 2 1 = 0 then
      out (f 28 2) 1 512 || out (f 30 1) 1 8 || f 32 4 == 0 || decide (64 * f 30 1 < f 28 2) ||
        decide (64 < (f 40 4 + 131071) / 131072 + f 38 1)
    else f 28 2 != 0 || f 30 1 != 0 || f 32 4 != 0 || f 38 1 != 0)

/-- ERR 3 of R257: the code segment and its entries. -/
def launchCode (j : Job) : Bool :=
  j.cbase % 384 != 0 || decide (j.npkt ≤ j.entry) || (j.tent != 0xFFFFFFFF && decide (j.npkt ≤ j.tent)) ||
    (j.fent != 0xFFFFFFFF && decide (j.npkt ≤ j.fent))

/-- The mask that a core presents to jobs of a configuration: none where the entry of that configuration is out of service (R257, R262,
R293, R298). -/
def State.maskFor (s : State) (c : Nat) (ganged : Bool) : DWord :=
  let cl := clusterOf c
  let k := s.core c
  if ganged then
    if c % 2 = 0 ∧ !graftOut (s.graftWord cl (8 + c % 8 / 2)) ∧ k.gmask.getLsbD Config.gangBit then k.gmask else 0#64
  else if graftOut (s.graftWord cl (c % 8)) then 0#64 else k.mask

/-- ERR 5 of R257: no core covers the opcode-use mask, or no cluster forms enough ganged cores. -/
def State.launchCores (s : State) (j : Job) : Bool :=
  let set := match NMap.get? s.contracts j.cid with
    | some c => if j.cid ≠ 0 ∧ c.vi = j.vi then c.coreList else allCores
    | none => allCores
  !set.any (fun c => covers (s.maskFor c j.ganged) j.oum) ||
    (j.ganged && (decide (4 < j.c) || !allClusters.any (fun cl => decide (j.c ≤ s.gangCount cl))))

/-- Whether an interface holds the sole-cluster right (R253). -/
def State.soleRight (s : State) (vi : Nat) : Bool := vi == 0 || (s.iface vi).sole
/-- Whether an interface holds the contract right (R253). -/
def State.contractRight (s : State) (vi : Nat) : Bool := vi == 0 || (s.iface vi).contract

/-- The first failing reason of R257; 0 for none. -/
def State.launchErr (s : State) (bs : List Byte) (j : Job) : Nat :=
  if launchReserved bs then 1
  else if launchRange bs then 2
  else if launchCode j then 3
  else if j.task ∧ (headerFault j.npkt j.args).isSome then 4
  else if s.launchCores j then 5
  else if j.cid ≠ 0 ∧ ¬ (NMap.get? s.contracts j.cid).any (fun c => c.vi == j.vi) then 6
  else if j.sole ∧ ¬ s.soleRight j.vi then 7
  else 0

/-- The JOB value of a new job: the lowest that no live job of its interface has (R260; assumption 15). -/
def State.freeJob (s : State) (vi : Nat) : Nat :=
  let used := (s.jobs.filter (fun e => e.2.vi == vi && !e.2.ended)).map (fun e => e.2.num)
  firstFree used used.length 1

/-- A job is accepted and waits for its first placement (R261). -/
def State.addJob (s : State) (j : Job) : State :=
  let (jid, s) := s.fresh
  { s with jobs := NMap.put s.jobs jid { j with jid := jid, num := s.freeJob j.vi } }

/-- LAUNCH (R256, R257). -/
def execLaunch (vi : Nat) (s : State) : Host.Outcome State Fault Refusal :=
  .next (s.command vi (fun c => c == 1) (fun e s => s.withBytes e 384 (fun bs s =>
    let j := launchJob e bs
    match s.launchErr bs j with
    | 0 => (s.addJob j).consume e
    | err => s.refuse e err)))

/-! ### Contracts and drains -/

/-- The contract that a descriptor describes (R268), before its admission. -/
def descContract (vi : Nat) (bs : List Byte) : Contract :=
  let f := fieldOf bs
  { cid := 0, vi := vi, stack := f 16 1, period := f 0 8, budget := f 8 8, tol := f 20 4, cores := BitVec.ofNat 128 (f 24 16),
    sbanks := f 17 1, fbanks := f 18 1, c0 := 0 }

/-- How many cores a contract holds. -/
def Contract.size (c : Contract) : Nat := c.coreList.length

/-- A sum of fractions: numerator and denominator. -/
def addFraction (x : Nat × Nat) (n d : Nat) : Nat × Nat := (x.1 * d + n * x.2, x.2 * d)

/-- Test 8 of R269: the load of every core of the set is at most 0.9. -/
def State.loadFits (s : State) (c : Contract) : Bool :=
  c.coreList.all (fun k =>
    let mine := (s.contracts.map (fun e => e.2)).filter (fun x => x.coreList.contains k) ++ [c]
    let u := mine.foldl (fun u x => addFraction u x.budget (x.period * x.size)) (0, 1)
    decide (10 * u.1 ≤ 9 * u.2))

/-- Test 10 of R269: the banks are free in every cluster of the set. -/
def State.banksFit (s : State) (c : Contract) : Bool :=
  allClusters.all (fun cl => !c.touches cl || decide (c.sbanks + c.fbanks ≤ s.cacheBanks cl))

/-- Test 11 of R269, with the ranges of R268 (assumption 23). -/
def State.descFits (s : State) (vi : Nat) (bs : List Byte) (c : Contract) : Bool :=
  s.contractRight vi && fieldOf bs 19 1 == 0 && (bs.drop 40).all (fun b => b == 0#8) && decide (0 < c.size) &&
    decide (65536 ≤ c.period ∧ c.period ≤ 2 ^ 40 ∧ 1 ≤ c.budget ∧ c.stack < 8 ∧ c.sbanks ≤ 64 ∧ c.fbanks ≤ 64 ∧ c.tol ≤ 65536)

/-- The first failing test of R269; 0 for none. -/
def State.contractErr (s : State) (vi : Nat) (bs : List Byte) (c : Contract) : Nat :=
  if !s.loadFits c then 8 else if c.budget ≤ 2700 + c.tol then 9 else if !s.banksFit c then 10
  else if !s.descFits vi bs c then 11 else 0

/-- A contract is admitted: its id, its first period (R267), its banks (R269). -/
def State.takeIn (s : State) (c : Contract) : Nat × Nat × State :=
  let used := s.contracts.map (fun e => e.1)
  let cid := firstFree used used.length 1
  let c0 := 1024 * (((s.stack c.stack).ck + 1023) / 1024)
  let c := { c with cid := cid, c0 := c0 }
  let s := { s with contracts := NMap.put s.contracts cid c }
  (cid, c0, (allClusters.filter c.touches).foldl (fun s cl => s.rebank cl) s)

/-- CREATE CONTRACT (R268, R269). -/
def execCreateContract (vi : Nat) (s : State) : Host.Outcome State Fault Refusal :=
  .next (s.command vi (fun c => c == 2) (fun e s => s.withBytes e 64 (fun bs s =>
    let c := descContract vi bs
    match s.contractErr vi bs c with
    | 0 =>
      let (cid, c0, s) := s.takeIn c
      s.answer e { tag := e.tag, out := 1, cid := cid, at48 := c0 }
    | err => s.refuse e err)))

/-- DESTROY CONTRACT (R269): it takes effect at the end of the current period. -/
def execDestroyContract (vi : Nat) (s : State) : Host.Outcome State Fault Refusal :=
  .next (s.command vi (fun c => c == 3) (fun e s =>
    match NMap.get? s.contracts (e.operand 0 4) with
    | some c =>
      if c.vi = vi then ({ s with contracts := NMap.put s.contracts c.cid { c with ending := true } }).accept e
      else s.refuse e 18
    | none => s.refuse e 18))

/-- DRAIN JOB (R259, R263). -/
def execDrainJob (vi : Nat) (s : State) : Host.Outcome State Fault Refusal :=
  .next (s.command vi (fun c => c == 4) (fun e s =>
    match s.jobs.find? (fun x => x.2.vi == vi && !x.2.ended && x.2.num == e.operand 0 4) with
    | some (jid, j) => (s.drain jid).answer e { tag := e.tag, out := 1, job := j.num }
    | none => s.refuse e 18))

end Sys2Proof.Machine
end

