-- ==== Sys2Proof/Machine/Sweep.lean ====
section
/-!
DEFINITION. The sweep (R301 to R303), tests and their results (R294, R302, R305 to R308), condemned sites (R294), and gates (R316).
-/

namespace Sys2Proof.Machine

/-! ### Results of a test -/

/-- Classes that a test of a core in a configuration covers (R302). -/
def testClasses (ganged : Bool) : DWord :=
  Config.fullMask ||| (if ganged then BitVec.ofNat 64 (2 ^ Config.gangBit) else 0#64)

/-- Classes whose failure condemns a core (R294): 0 and 7 its front end, 1 its slab. -/
def failsFront (f : DWord) : Bool := f.getLsbD 0 || f.getLsbD 7
def failsSlab (f : DWord) : Bool := f.getLsbD 1

/-- The mask of a core in a configuration. -/
def Core.maskOf (k : Core) (ganged : Bool) : DWord := if ganged then k.gmask else k.mask

/-- Sets the mask of a core in a configuration. -/
def Core.setMask (k : Core) (ganged : Bool) (m : DWord) : Core := if ganged then { k with gmask := m } else { k with mask := m }

/-- Whether a test or a fence of a core concerns its ganged form: an odd core of a ganged cluster is absent (R17), and a command that
names it concerns its normal form (assumption 36). -/
def State.testForm (s : State) (core : Nat) : Bool := s.isGanged core && core % 2 == 0

/-- The entry of a core in a configuration (R291). -/
def entryFor (core : Nat) (ganged : Bool) : Nat := if ganged then 8 + core % 8 / 2 else core % 8

/-- Writes a graft entry; the secure controller keeps it (R293), and each slab its accumulators (R11). -/
def State.setGraft (s : State) (cl e : Nat) (w : Word) : State :=
  { s.rebound cl (fun s => s.modCluster cl (fun k => { k with graft := NMap.put k.graft e w })) with
    secure := { s.secure with grafts := NMap.put s.secure.grafts (12 * cl + e) w } }

/-- Sets the bits of sites in a map of condemned sites (R294, R296). -/
def markSites (m : BitVec 144) (sites : List Nat) : BitVec 144 := sites.foldl (fun m k => m ||| BitVec.ofNat 144 (2 ^ k)) m

/-- Clears the bits of sites in a map of condemned sites (R295). -/
def dropSites (m : BitVec 144) (sites : List Nat) : BitVec 144 := sites.foldl (fun m k => m &&& ~~~BitVec.ofNat 144 (2 ^ k)) m

/-- Whether an entry names a condemned site of its stack (R294). -/
def State.condemned (s : State) (stack : Nat) (w : Word) : Bool :=
  (s.stack stack).condF.getLsbD (graftFes w) || (graftSlabs w).any (fun k => (s.stack stack).condS.getLsbD k)

/-- A core is condemned by the classes that it fails (R294): OUT in its entry, its site on record, its mask 0. -/
def State.condemn (s : State) (core : Nat) (ganged : Bool) (f : DWord) : State :=
  if !failsFront f && !failsSlab f then s
  else
    let cl := clusterOf core
    let w := s.graftWord cl (entryFor core ganged)
    let s := s.modStack (stackOf core) (fun k =>
      { k with condF := if failsFront f then markSites k.condF ([graftFes w].filter (fun x => decide (x < 144))) else k.condF,
               condS := if failsSlab f then markSites k.condS (graftSlabs w) else k.condS })
    let s := s.setGraft cl (entryFor core ganged) (w ||| 8#32)
    (s.modCore core (fun k => k.setMask ganged 0#64)).mgmtEvent 0 (stackOf core)

/-- Failing classes leave a core's mask and the retests already asked for, which were asked before this fence; they name its jobs (R302,
R307), and may condemn it (R294). -/
def State.failClasses (s : State) (core : Nat) (ganged : Bool) (f : DWord) : State :=
  let old := (s.core core).maskOf ganged
  let s := s.modCore core (fun k =>
    { k.setMask ganged (old &&& ~~~f) with testReqs := k.testReqs.map (fun q => { q with classes := q.classes &&& ~~~f }) })
  let s := if old &&& f = 0#64 then s else s.mgmtEvent 1 (stackOf core)
  let hit := (s.core core).runLog.filter (fun p => f.getLsbD p.2)
  let s := hit.foldl (fun s p => s.suspect p.1 (BitVec.ofNat 64 (2 ^ p.2))) s
  s.condemn core ganged f

/-- The pairs of a core's run log pass for the classes that did not fail (R306), and the log is cleared (R305). -/
def State.passPairs (s : State) (core : Nat) (f : DWord) : State :=
  let ps := (s.core core).runLog.filter (fun p => !f.getLsbD p.2)
  let s := ps.foldl (fun s p => s.modJob p.1 (fun j => { j with pairs := j.pairs.filter (fun q => q != (core, p.2)) })) s
  s.modCore core (fun k => { k with runLog := [], overflow := false })

/-- Ended jobs whose last pair has passed become CONFIRMED (R306, R307). -/
def State.confirm (s : State) : State :=
  s.jobs.foldl (fun s e =>
    if e.2.ended && e.2.conf == 1 && e.2.pairs.isEmpty then (s.modJob e.1 (fun j => { j with conf := 2 })).rewriteRecord e.1 else s) s

/-- Whether another entry of a stack with OUT = 0 names a site of a word in the same configuration (R292). -/
def State.siteTaken (s : State) (cl e : Nat) (w : Word) : Bool :=
  (List.range 16).any (fun k =>
    let c := cl / 16 * 16 + k
    (List.range 12).any (fun i =>
      let x := s.graftWord c i
      !(c == cl && i == e) && decide (8 ≤ i) == decide (8 ≤ e) && !graftOut x &&
        (graftFes x == graftFes w || (graftSlabs x).any (fun t => (graftSlabs w).contains t))))

/-- Whether a slab site lies within reach of a front-end site (R12). -/
def siteReach (fes slab : Nat) : Bool := decide (slab < 144) && fes / 12 == slab / 12 && decide (slab ≤ fes + 1 ∧ fes ≤ slab + 1)

/-- The cluster of a site within its stack (R13). -/
def siteCluster (site : Nat) : Nat := site / 12 / 3 * 4 + site % 12 / 3

/-- Whether a new graft entry obeys R292 and names no condemned site (R294, R295). R292 asks that the front end lie in the cluster's
block of a normal entry only: that a ganged entry may take a front end of another block is the model's choice (assumption 36). -/
def State.regraftFits (s : State) (cl e : Nat) (w : Word) : Bool :=
  let f := graftFes w
  let a := graftSla w
  let b := graftSlb w
  decide (f < 144) && siteReach f a &&
    (if e < 8 then b == 0xFF && siteCluster f == cl % 16
     else siteReach f b && a / 12 == b / 12 && (a == b + 1 || b == a + 1)) &&
    !s.siteTaken cl e w && !s.condemned (cl / 16) w

/-- The core of a graft entry (R17, R291). -/
def entryCore (cl e : Nat) : Nat := 8 * cl + (if e < 8 then e else 2 * (e - 8))

/-- The cores of a stack whose entries, OUT or not, name a site of a word in a configuration that their cluster has: REGRAFT drains
them (R295). -/
def State.siteUsers (s : State) (cl e : Nat) (w : Word) : List Nat :=
  (List.range 16).flatMap (fun k =>
    let c := cl / 16 * 16 + k
    ((List.range 12).filter (fun i =>
      let x := s.graftWord c i
      decide (8 ≤ i) == decide (8 ≤ e) && (s.cluster c).ganged == decide (8 ≤ i) &&
        (graftFes x == graftFes w || (graftSlabs x).any (fun t => (graftSlabs w).contains t)))).map (entryCore c))

/-- Whether the cores that a core's next regraft drains hold no wave (R295). -/
def State.sitesDrained (s : State) (core : Nat) : Bool :=
  match (s.core core).testReqs.head?.bind (fun q => q.regraft) with
  | some (e, w) => (s.siteUsers (clusterOf core) e w).all (fun c => (s.core c).slots.isEmpty)
  | none => true

/-- The record of a command that a test served (R472). -/
def TestReq.done (q : TestReq) (f : DWord) : RecordWait := { q.record with fields := { q.record.fields with classes := f.toNat } }

/-- The record of a regraft that is refused as its test ends (R295, R311). -/
def TestReq.refused (q : TestReq) : RecordWait := { q.record with fields := { q.record.fields with out := 2, err := 15 } }

/-! ### When a core is tested -/

/-- Whether a core is to be tested: by its stack's visit, after three skips, or by a command (R295, R301, R303). -/
def State.testWanted (s : State) (core : Nat) : Bool :=
  let k := s.core core
  (s.stack (stackOf core)).visit.any (fun v => v.core == core) || decide (3 ≤ k.skips) || !k.testReqs.isEmpty

/-- Whether the sweep visits a core at all (R301). -/
def State.visitable (s : State) (core : Nat) : Bool := s.present core && !s.isOut core

/-- The core that a stack's sweep visits next (R301). -/
def State.nextVisit (s : State) (stack : Nat) : Option Nat :=
  ((List.range 128).map (fun k => 128 * stack + ((s.stack stack).next + k) % 128)).find? (fun c => s.visitable c)

/-- SWEEP_VISIT (R301): the next core of a stack drains; on a contract's core the sweep waits for R270. -/
def execSweepVisit (stack : Nat) (s : State) : Host.Outcome State Fault Refusal :=
  .next (let k := s.stack stack
    if s.pf.rcv || decide (8 ≤ stack) || !k.sweepOn || k.visit.isSome then s
    else match s.nextVisit stack with
      | none => s
      | some c =>
        if s.contractBusy c then s
        else (s.modCore c (fun k => { k with draining := true })).modStack stack (fun k =>
          { k with visit := some { core := c, start := k.ck, began := false } }))

/-- The test of a core that contract work may need is interrupted, and its drain; they resume later. The visit of a test counts as no skip;
that of a core that still drains may still be skipped (R270, R303). -/
def State.suspendTest (s : State) (core : Nat) : State :=
  if s.contractBusy core && s.testWanted core then
    s.modCore core (fun k =>
      { k with testing := false, draining := false, testReqs := k.testReqs.map (fun q => { q with began := false }) })
  else s

/-- SWEEP_TEST (R270, R302): a core that is to be tested drains, and once no wave is resident its test runs; none runs while
the stack's sweep is paused (R303), or while contract work may need the core. -/
def execSweepTest (core : Nat) (s : State) : Host.Outcome State Fault Refusal :=
  .next (let k := s.core core
    if s.contractBusy core then s.suspendTest core
    else if s.pf.rcv || k.testing || !s.testWanted core || !(s.stack (stackOf core)).sweepOn then s
    else if !k.draining then s.modCore core (fun k => { k with draining := true })
    else if !k.slots.isEmpty || !s.sitesDrained core then s
    else (s.modCore core (fun k =>
      { k with testing := true, testReqs := (k.testReqs.take 1).map (fun q => { q with began := true }) ++ k.testReqs.drop 1 })).modStack (stackOf core) (fun k =>
      { k with visit := k.visit.map (fun v => if v.core = core then { v with began := true } else v) }))

/-- The graft entry and mask with which a command's test ends: a regraft binds the new entry, whose core has every class
that it passes; a retest gives back the classes it names (R295; assumption 18). -/
def State.applyReq (s : State) (core : Nat) (f : DWord) (q : TestReq) : State :=
  match q.regraft with
  | some (e, w) =>
    (s.setGraft (clusterOf core) e w).modCore core (fun k => k.setMask (decide (8 ≤ e)) (testClasses (decide (8 ≤ e))))
  | none =>
    let g := s.testForm core
    let e := entryFor core g
    let w := s.graftWord (clusterOf core) e
    let s := s.modCore core (fun k => k.setMask g (k.maskOf g ||| (q.classes &&& testClasses g)))
    if graftOut w && !failsFront f && !failsSlab f && graftFes w != 0xFF && !s.condemned (stackOf core) w &&
        !s.siteTaken (clusterOf core) e w then
      s.setGraft (clusterOf core) e (w &&& ~~~8#32)
    else s

/-- Whether a command's request no longer obeys R292 and R294 as its test ends: an entry written or a site condemned since it was
accepted takes its place, and the regraft is refused (R295; assumption 18). -/
def State.reqRefused (s : State) (core : Nat) (q : TestReq) : Bool :=
  q.regraft.any (fun x => !s.regraftFits (clusterOf core) x.1 x.2)

/-- A test has ended and its core returns to service (R301, R303), with the request that the test served; the rotation moves on if
this was its visit. -/
def State.endTest (s : State) (core : Nat) : State :=
  let s := s.modCore core (fun k =>
    let rest := k.testReqs.filter (fun q => !q.began)
    { k with testing := false, skips := 0, testReqs := rest, draining := !rest.isEmpty })
  s.modStack (stackOf core) (fun k =>
    if k.visit.any (fun v => v.core == core) then { k with visit := none, next := (core + 1) % 128 } else k)

/-- TEST_RESULT (R294, R302, R305 to R308, R472). -/
def execTestResult (core : Nat) (failing : BitVec 64) (s : State) : Host.Outcome State Fault Refusal :=
  .next (let k := s.core core
    if !k.testing then s
    else
      let req := k.testReqs.find? (fun q => q.began)
      let ganged := match req.bind (fun q => q.regraft) with | some (e, _) => decide (8 ≤ e) | none => s.testForm core
      let f := failing &&& testClasses ganged
      let s := (s.writeBackL1 core false).modCore core (fun k => { k with l1 := [] })
      if req.any (fun q => s.reqRefused core q) then
        req.elim (s.endTest core) (fun q => (s.endTest core).putOrWait q.refused)
      else
        let s := match req with | some q => s.applyReq core f q | none => s
        let s := (s.failClasses core ganged f).passPairs core f
        let s := s.endTest core
        let s := match req with | some q => s.putOrWait (q.done f) | none => s
        s.confirm)

/-- DRAINMAX_EXPIRY (R303): the visit of a core that did not drain in time is skipped; after three skips the core accepts no
work until it has drained. -/
def execDrainmaxExpiry (stack : Nat) (s : State) : Host.Outcome State Fault Refusal :=
  .next (let k := s.stack stack
    match k.visit with
    | none => s
    | some v =>
      if v.began || k.ck < v.start + k.drainMax || (s.core v.core).slots.isEmpty then s
      else
        let n := (s.core v.core).skips + 1
        let s := s.modCore v.core (fun c => { c with skips := n, draining := decide (3 ≤ n) || !c.testReqs.isEmpty })
        let s := s.modStack stack (fun k => { k with visit := none, next := (v.core + 1) % 128 })
        if n = 3 then s.mgmtEvent 5 stack else s)

/-! ### Periods -/

/-- PERIOD_START (R267, R270): once the stack's count has reached the start of the next period. -/
def execPeriodStart (cid : Nat) (s : State) : Host.Outcome State Fault Refusal :=
  .next (match NMap.get? s.contracts cid with
    | none => s
    | some c =>
      if (s.stack c.stack).ck < c.periodEnd then s
      else if c.ending then s.endContract cid
      else
        let s := { s with contracts := NMap.put s.contracts cid { c with left := c.budget, n := c.n + 1 } }
        (c.coreList.foldl State.suspendTest s).requestSwitches)

/-! ### Gates -/

/-- CORE_GATED (R316, R472): a core that drains for a gate is gated once no wave is resident, and then its commands'
records are written. -/
def execCoreGated (core : Nat) (s : State) : Host.Outcome State Fault Refusal :=
  .next (let k := s.core core
    if k.gate = .draining then
      if k.slots.isEmpty then
        k.gateRecs.foldl (fun s w => s.putOrWait w) (s.modCore core (fun k => { k with gate := .gated, gateRecs := [] }))
      else s
    else s)

end Sys2Proof.Machine
end

