-- ==== Sys2Proof/Machine/Manage.lean ====
section
/-!
DEFINITION. The management commands (R311, R472): grafting and the sweep (R291 to R296, R304), migration (R217, R218), groups
(R164), power (R316), alarms (R317), virtual functions (R253, R311), and attestation (R314).
-/

namespace Sys2Proof.Machine

/-- Acts on a management command of a number whose operands lie in their ranges; ERR 15 otherwise (R311). -/
def State.manage (s : State) (vi cmd : Nat) (ok : Submission → State → Bool) (act : Submission → State → State) : State :=
  s.command vi (fun c => c == cmd) (fun e s => if ok e s then act e s else s.refuse e 15)

/-- Operands that are always in range. -/
def anyOperands (_ : Submission) (_ : State) : Bool := true

/-! ### Graft tables and masks -/

/-- The result of GRAFT READ (R296). -/
def State.graftResult (s : State) : List Byte :=
  let table := allClusters.flatMap (fun cl => (List.range 12).flatMap (fun e => natBytes 4 (s.graftWord cl e).toNat))
  let maps := (List.range 8).flatMap (fun k => natBytes 18 (s.stack k).condF.toNat ++ natBytes 18 (s.stack k).condS.toNat)
  let cert := Config.identityCertificate.take 862
  table ++ maps ++ natBytes 2 cert.length ++ cert ++ List.replicate (862 - cert.length) 0#8

/-- GRAFT READ (R296). -/
def execGraftRead (vi : Nat) (s : State) : Host.Outcome State Fault Refusal :=
  .next (s.manage vi 16 anyOperands (fun e s => s.withResult e s.graftResult))

/-- CAP READ (R295): the 1,024 masks. -/
def execCapRead (vi : Nat) (s : State) : Host.Outcome State Fault Refusal :=
  .next (s.manage vi 18 anyOperands (fun e s => s.withResult e (allCores.flatMap (fun c => natBytes 8 (s.capMask c).toNat))))

/-- The cluster, entry and word that a REGRAFT names, with RG = 1 (R291, R311). -/
def regraftArgs (e : Submission) : Nat × Nat × Word :=
  (16 * e.operand 0 1 + e.operand 1 1, e.operand 2 1,
    BitVec.ofNat 32 (e.operand 3 1 * 2 ^ 24 + e.operand 4 1 * 2 ^ 16 + e.operand 5 1 * 2 ^ 8 + 16))

/-- REGRAFT (R292, R295): the core drains, and its test follows once no core that uses a named site holds a wave. -/
def execRegraft (vi : Nat) (s : State) : Host.Outcome State Fault Refusal :=
  .next (s.manage vi 17
    (fun e s =>
      let (cl, n, w) := regraftArgs e
      decide (e.operand 0 1 < 8 ∧ e.operand 1 1 < 16 ∧ n < 12) && s.regraftFits cl n w)
    (fun e s =>
      let (cl, n, w) := regraftArgs e
      (s.modCore (entryCore cl n) (fun k =>
        { k with draining := true,
                 testReqs := k.testReqs ++ [{ regraft := some (n, w), classes := 0#64, record := e.record { tag := e.tag, out := 1 } }] })).consume e))

/-- The core and the class mask of CAP FENCE and CAP RETEST. -/
def fenceArgs (e : Submission) : Nat × DWord := (e.operand 0 4, BitVec.ofNat 64 (e.operand 4 8))

/-- Their ranges (R311). -/
def fenceFits (e : Submission) (_ : State) : Bool :=
  decide ((fenceArgs e).1 < 1024) && (fenceArgs e).2 &&& ~~~testClasses true == 0#64

/-- CAP FENCE (R304): a test whose failing classes are the named ones, without a pass. -/
def execCapFence (vi : Nat) (s : State) : Host.Outcome State Fault Refusal :=
  .next (s.manage vi 19 fenceFits (fun e s =>
    let (core, m) := fenceArgs e
    (s.failClasses core (s.testForm core) m).accept e))

/-- The condemnations of a core's sites that classes name are cleared (R294, R295). -/
def State.clearSites (s : State) (core : Nat) (m : DWord) : State :=
  let w := s.graftWord (clusterOf core) (entryFor core (s.testForm core))
  s.modStack (stackOf core) (fun k =>
    { k with condF := if failsFront m then dropSites k.condF ([graftFes w].filter (fun x => decide (x < 144))) else k.condF,
             condS := if failsSlab m then dropSites k.condS (graftSlabs w) else k.condS })

/-- CAP RETEST (R295): the named condemnations and fences are cleared, and a test of the core is queued. -/
def execCapRetest (vi : Nat) (s : State) : Host.Outcome State Fault Refusal :=
  .next (s.manage vi 20 fenceFits (fun e s =>
    let (core, m) := fenceArgs e
    ((s.clearSites core m).modCore core (fun k =>
      { k with draining := true,
               testReqs := k.testReqs ++ [{ regraft := none, classes := m, record := e.record { tag := e.tag, out := 1 } }] })).consume e))

/-- The sweep of a stack pauses: a visit whose test has not begun ends there (R295; assumption 25). -/
def State.pauseSweep (s : State) (stack : Nat) : State :=
  match (s.stack stack).visit with
  | some v =>
    if (s.core v.core).testing then s
    else (s.modCore v.core (fun k => { k with draining := decide (3 ≤ k.skips) || !k.testReqs.isEmpty })).modStack stack
      (fun k => { k with visit := none })
  | none => s

/-- SWEEP SET (R295). -/
def execSweepSet (vi : Nat) (s : State) : Host.Outcome State Fault Refusal :=
  .next (s.manage vi 21
    (fun e _ => decide (e.operand 0 1 < 8 ∧ e.operand 1 1 < 2 ∧ 65536 ≤ e.operand 4 4))
    (fun e s =>
      let on := e.operand 1 1 == 1
      let s := if on then s else s.pauseSweep (e.operand 0 1)
      (s.modStack (e.operand 0 1) (fun k => { k with sweepOn := on, drainMax := e.operand 4 4 })).accept e))

/-! ### Migration -/

/-- MIGRATE (R217): the copy starts; its record follows at its end. -/
def execMigrate (vi : Nat) (s : State) : Host.Outcome State Fault Refusal :=
  .next (s.manage vi 22
    (fun e _ => decide (e.operand 0 4 < 2 ^ 20 ∧ e.operand 4 8 % 4096 = 0 ∧ e.operand 12 8 % 4096 = 0 ∧
      e.operand 20 8 % 4096 = 0 ∧ e.operand 28 8 % 4096 = 0 ∧ e.operand 28 8 ≤ e.operand 20 8))
    (fun e s =>
      let (id, s) := s.fresh
      let m : Migration :=
        { id := id, record := e.record { tag := e.tag, out := 1 }, pasid := e.operand 0 4, src := e.operand 4 8,
          dst := e.operand 12 8, len := e.operand 20 8, off := e.operand 28 8, lo := e.operand 28 8 }
      ({ s with migrations := s.migrations ++ [m] } : State).consume e))

/-- Where an address of a migration leads; no page request is made for it (R218). -/
def State.migratePlace (s : State) (pasid va : Nat) (write : Bool) : IoPlace :=
  if !vaOk va then .bad
  else match s.xlate ioQuiet pasid va write with
    | .miss => .miss
    | .hit t => .at t

/-- The addresses of the sectors of a page. -/
def pageSectors (va : Nat) : List Nat := (List.range 128).map (fun k => va + 32 * k)

/-- The bytes of a source page of a migration with their poison: as they were before it overwrote them, as they were fetched from a
peer, or as they stand at home (R212, R217). -/
def State.migrateBytes (s : State) (m : Migration) (va : Nat) (t : Target) : List (Byte × Bool) :=
  match m.kept.find? (fun e => e.1 == va) with
  | some e => e.2
  | none => (List.range 128).flatMap (fun k =>
      let f := if isPeer t then (match s.fetchOf m.id (va / 32 + k) with | some f => (f.bytes, f.pois) | none => ([], false))
        else s.readT (targetPlus t (32 * k)) 32
      (List.range 32).map (fun i => (f.1.getD i 0#8, f.2)))

/-- Whether a page of the destination is one of the source too (R212). -/
def Migration.overlaps (m : Migration) (va : Nat) : Bool := decide (m.src + m.lo ≤ va ∧ va < m.src + m.len)

/-- What a migration writes to its next destination page: the source's bytes with their poison. A page that the source overlaps receives
undefined bytes (R4, R212), each a free value of its own. -/
def Migration.landed (m : Migration) (bs : List (Byte × Bool)) : List (Byte × Bool) :=
  if m.overlaps (m.dst + m.off) then
    (List.range 4096).map (fun i => ((Config.freeWord m.id (m.off + i)).extractLsb' 0 8, (bs.getD i (0#8, false)).2))
  else bs

/-- Whether a sector of some bytes carries poison. -/
def sectorPoison (bs : List (Byte × Bool)) (k : Nat) : Bool := ((bs.drop (32 * k)).take 32).any (fun b => b.2)

/-- A page lands (R217, R218): its bytes and poison at the destination, its lines on the boards of the core whose copy engine
runs the copy: the first core of the stack that homes the destination (assumption 14). A peer takes it in one request for each
sector (R312). -/
def State.landPage (s : State) (m : Migration) (to_ : Target) (bs : List (Byte × Bool)) : State :=
  let data := bs.map (fun b => b.1)
  match to_ with
  | .dpa a =>
    let core := 128 * (homeSlice s.groups a).1
    let s := s.writeT core m.pasid to_ data
    let s := (List.range 128).foldl (fun s k => s.markSector (clusterOf core) (sectorPoison bs k) (a / 32 + k)) s
    s.enginePublish core ((List.range 32).map (fun k => a / 128 + k))
  | .host _ => s.writeT 0 m.pasid to_ data
  | .peer n a => (List.range 128).foldl (fun s k =>
      s.sendPeer n (engineReq (.write (a + 32 * k) ((data.drop (32 * k)).take 32) (if sectorPoison bs k then [(a + 32 * k) / 32] else []))
        m.id 0 0 (m.dst + m.off + 32 * k) false m.pasid)) s

/-- How a migration stands after some pages: complete, stopped, waiting for a translation, or waiting for a peer. -/
inductive MigEnd where
  | complete
  | stopped
  | waits (va : Nat) (write : Bool)
  | link
  deriving DecidableEq, Repr

/-- What the next page of a migration needs before it moves, its places known: its source's sectors from a peer, those of a destination
page that the source overlaps, and room in a peer's window. -/
def State.migrateNeeds (s : State) (m : Migration) (to_ : Target) : List (Nat × Target) × Bool :=
  let reads := (m.src + m.off) :: (if m.overlaps (m.dst + m.off) then [m.dst + m.off] else [])
  (s.peerNeeds m.id ioQuiet m.pasid ((reads.filter (fun va => !m.kept.any (fun e => e.1 == va))).flatMap pageSectors),
    s.peersFit (List.replicate 128 to_))

/-- The next page of a migration moves (R212, R217, R218). -/
def State.migrateOne (s : State) (m : Migration) (from_ to_ : Target) : State × Migration :=
  let bs := s.migrateBytes m (m.src + m.off) from_
  let dst := m.dst + m.off
  let kept := if m.overlaps dst && !m.kept.any (fun e => e.1 == dst) then
      m.kept ++ [(dst, s.migrateBytes m dst to_)] else m.kept
  let s := ((s.touchHome m.pasid from_ 4096).landPage m to_ (m.landed bs)).forgetFetched m.id
  (s, { m with off := m.off + 4096, poison := m.poison + (List.range 128).countP (sectorPoison bs), kept := kept })

/-- Moves at most `n` pages of a migration (R217, R218). -/
def State.migratePages (s : State) (m : Migration) : Nat → State × Migration × MigEnd
  | 0 => (s, m, if s.peerOwes m.id then .link else .complete)
  | n + 1 =>
    if m.failed then (s, m, .stopped)
    else match s.migratePlace m.pasid (m.src + m.off) false, s.migratePlace m.pasid (m.dst + m.off) true with
      | .bad, _ => (s, m, .stopped)
      | _, .bad => (s, m, .stopped)
      | .miss, _ => (s, m, .waits (m.src + m.off) false)
      | _, .miss => (s, m, .waits (m.dst + m.off) true)
      | .at a, .at b =>
        if m.overlaps (m.dst + m.off) && s.migratePlace m.pasid (m.dst + m.off) false == .miss then (s, m, .waits (m.dst + m.off) false)
        else match s.migrateNeeds m b with
          | ([], true) =>
            let (s, m) := s.migrateOne m a b
            State.migratePages s m n
          | ([], false) => (s, m, .link)
          | (ns, _) => (s.askSectors m.id 0 0 ns m.pasid, m, .link)

/-- The record of a migration that has ended (R472). -/
def Migration.result (m : Migration) (whole : Bool) : RecordWait :=
  { m.record with fields := { m.record.fields with out := if whole then 1 else 3, at48 := m.off, poison := min m.poison 0xFFFFFFFF } }

/-- MIGRATE_END (R217, R218, R472): the copy runs to its end, or as far as its translations go. -/
def execMigrateEnd (id : Nat) (s : State) : Host.Outcome State Fault Refusal :=
  .next (match s.migrations.find? (fun m => m.id == id) with
    | none => s
    | some m =>
      match s.migratePages m ((m.len - m.off) / 4096) with
      | (s, m, .waits va write) =>
        { s.askX ioQuiet m.pasid va write with migrations := s.migrations.map (fun x => if x.id = id then m else x) }
      | (s, m, .link) => { s with migrations := s.migrations.map (fun x => if x.id = id then m else x) }
      | (s, m, fin) =>
        ({ s with migrations := s.migrations.filter (fun x => x.id != id) } : State).putOrWait (m.result (fin == MigEnd.complete)))

/-! ### Groups -/

/-- Whether a range of device addresses meets a group (R161). -/
def inGroup (g : Nat) (t : Target) (size : Nat) : Bool :=
  match t with
  | .dpa a => decide (a < 2 ^ 33 * (g + 1) ∧ 2 ^ 33 * g < a + size)
  | _ => false

/-- A core without cached lines and translations of a group. -/
def Core.dropGroup (k : Core) (g : Nat) : Core :=
  { k with l1 := k.l1.filter (fun e => e.1 / 2 ^ 26 != g), icache := k.icache.filter (fun la => la / 2 ^ 26 != g),
           tlb := k.tlb.filter (fun x => !inGroup g x.target x.size) }

/-- Step 1 of R164: nothing is written back. -/
def State.dropGroup (s : State) (g : Nat) : State :=
  { s with
    cores := s.cores.map (fun e => (e.1, e.2.dropGroup g))
    clusters := s.clusters.map (fun (e : Nat × Cluster) => (e.1, { e.2 with cc := e.2.cc.filter (fun l => l.1 / 2 ^ 26 != g) }))
    l2 := s.l2.filter (fun e => e.1 / 2 ^ 26 != g)
    stk := s.stk.map (fun (e : Nat × Stack) => (e.1, { e.2 with tcache := e.2.tcache.filter (fun x => !inGroup g x.target x.size) }))
    ioAtc := s.ioAtc.filter (fun x => !inGroup g x.target x.size) }

/-- The change of a group's attribute (R164). -/
def State.setGroup (s : State) (g : Nat) (loc : Bool) : State :=
  let s : State := s.dropGroup g
  { s with
    mem := Memory.clear s.mem (2 ^ 33 * g) (2 ^ 33 * (g + 1))
    poison := s.poison.filter (fun k => k / 2 ^ 28 != g)
    groups := if loc then s.groups ||| BitVec.ofNat 128 (2 ^ g) else s.groups &&& ~~~BitVec.ofNat 128 (2 ^ g) }

/-- GROUP SET (R164, R311). -/
def execGroupSet (vi : Nat) (s : State) : Host.Outcome State Fault Refusal :=
  .next (s.manage vi 23 (fun e _ => decide (e.operand 0 1 < 128 ∧ e.operand 1 1 < 2))
    (fun e s => (s.setGroup (e.operand 0 1) (e.operand 1 1 == 1)).accept e))

/-! ### Power and alarms -/

/-- Whether the operands of POWER SET are in range (R316). -/
def powerFits (kind target value : Nat) : Bool :=
  match kind with
  | 0 => decide (target < 8 ∧ value < 3)
  | 1 => decide (target < 1024 ∧ value < 2)
  | 2 => decide (target < 16 ∧ value < 2)
  | _ => false

/-- A clock step of a stack (R24, R316): it changes nothing but the time that things take. -/
def State.clockStep (s : State) (stack value : Nat) : State := s.modStack stack (fun k => { k with step := value })

/-- A gate command (R316): the core drains and is gated later, or is ungated; the records of commands that are done are
written (R472). -/
def State.gateSet (s : State) (core value : Nat) (rec : List RecordWait) : State :=
  let k := s.core core
  if value = 1 then
    if k.gate = .gated then rec.foldl (fun s w => s.putOrWait w) s
    else s.modCore core (fun k => { k with gate := .draining, gateRecs := k.gateRecs ++ rec })
  else
    (k.gateRecs ++ rec).foldl (fun s w => s.putOrWait w) (s.modCore core (fun k => { k with gate := .open, gateRecs := [] }))

/-- Normal or self-refresh of an HBM stack (R316); an access wakes the stack. -/
def State.refreshSet (s : State) (hbm value : Nat) : State :=
  { s with refresh := if value = 1 then s.refresh ||| BitVec.ofNat 16 (2 ^ hbm) else s.refresh &&& ~~~BitVec.ofNat 16 (2 ^ hbm) }

/-- The operands of POWER SET. -/
def powerArgs (e : Submission) : Nat × Nat × Nat := (e.operand 0 1, e.operand 1 2, e.operand 3 1)

/-- A POWER SET of one kind; kinds that R316 does not list are refused with kind 0's. -/
def State.powerSet (s : State) (vi : Nat) (mine : Nat → Bool) (act : Submission → State → State) : State :=
  s.command vi (fun c => c == 24) (fun e s =>
    let (kind, target, value) := powerArgs e
    if !mine kind then s else if powerFits kind target value then act e s else s.refuse e 15)

/-- POWER SET, clock step (R24, R316). -/
def execPowerSetClockStep (vi : Nat) (s : State) : Host.Outcome State Fault Refusal :=
  .next (s.powerSet vi (fun k => k == 0 || decide (2 < k))
    (fun e s => (s.clockStep (powerArgs e).2.1 (powerArgs e).2.2).accept e))

/-- POWER SET, gate (R316). -/
def execPowerSetGate (vi : Nat) (s : State) : Host.Outcome State Fault Refusal :=
  .next (s.powerSet vi (fun k => k == 1)
    (fun e s => (s.gateSet (powerArgs e).2.1 (powerArgs e).2.2 [e.record { tag := e.tag, out := 1 }]).consume e))

/-- POWER SET, HBM refresh (R316). -/
def execPowerSetHbmRefresh (vi : Nat) (s : State) : Host.Outcome State Fault Refusal :=
  .next (s.powerSet vi (fun k => k == 2) (fun e s => (s.refreshSet (powerArgs e).2.1 (powerArgs e).2.2).accept e))

/-- ALARM SET (R317). -/
def execAlarmSet (vi : Nat) (s : State) : Host.Outcome State Fault Refusal :=
  .next (s.manage vi 25
    (fun e _ => decide (e.operand 0 1 < 8 ∧ e.operand 8 4 < e.operand 4 4 ∧ e.operand 4 4 ≤ 40000))
    (fun e s => (s.modStack (e.operand 0 1) (fun k => { k with hi := e.operand 4 4, lo := e.operand 8 4 })).accept e))

/-! ### Virtual functions -/

/-- Whether an interface has a live job or an admitted contract (R253, R311). -/
def State.viBusy (s : State) (vi : Nat) : Bool :=
  s.jobs.any (fun e => e.2.vi == vi && !e.2.ended) || s.contracts.any (fun e => e.2.vi == vi)

/-- VI SET (R253, R311): ERR 14 before ERR 15 (R471). -/
def execViSet (vi : Nat) (s : State) : Host.Outcome State Fault Refusal :=
  .next (s.command vi (fun c => c == 26) (fun e s =>
    let f := e.operand 0 2
    let rights := e.operand 2 2
    let pasid := e.operand 4 4
    if s.viBusy f then s.refuse e 14
    else if f = 0 ∨ s.numVfs < f ∨ 4 ≤ rights ∨ 2 ^ 20 ≤ pasid then s.refuse e 15
    else (s.modIface f (fun v =>
      { v with vipas := BitVec.ofNat 32 (2 ^ 31 + pasid), sole := rights.testBit 0, contract := rights.testBit 1 })).accept e))

/-! ### Attestation -/

/-- The quote of R314 over a nonce. -/
def State.quote (s : State) (nonce : List Byte) : List Byte :=
  nonce ++ s.secure.meas.flatMap (fun m => m.take 32) ++ natBytes 8 Config.serialNumber.toNat

/-- The quote with its signature by the identity key of the firmware that runs (R314). -/
def State.signedQuote (s : State) (nonce : List Byte) : List Byte :=
  let q := s.quote nonce
  q ++ (List.range 114).map (Config.quoteSignature (Config.identityKey (digests s.secure.images)) q)

/-- ATTEST (R314). -/
def execAttest (vi : Nat) (s : State) : Host.Outcome State Fault Refusal :=
  .next (s.manage vi 27 anyOperands (fun e s => s.withResult e (s.signedQuote ((e.bytes.drop 24).take 32))))

end Sys2Proof.Machine
end

