-- ==== Sys2Proof/Machine/Registers.lean ====
section
/-!
DEFINITION. Host writes of registers: the register page (R253), the PF page with its resets (R310, R318), NumVFs (R309), and the
management port (R315).
-/

namespace Sys2Proof.Machine

/-! ### The register page -/

/-- Whether a function answers: it is enabled, and the module is not in recovery (R309, R314). -/
def State.answers (s : State) (vi : Nat) : Bool := !s.pf.rcv && decide (vi ≤ s.numVfs)

/-- A queue size that is accepted: a power of two from 16 to 65,536 (R253). -/
def sizeOk (v : Word) : Bool := (List.range 13).any (fun k => v == BitVec.ofNat 32 (2 ^ (k + 4)))

/-- A queue base that is accepted: a multiple of 4,096 (R253). -/
def baseOk (v : Word) : Bool := v.toNat % 4096 == 0

/-- Whether the submission base and size accept writes (R253). -/
def Iface.queueOpen (v : Iface) : Bool := v.err || v.sqhd == v.sqdb

/-- SQBL: an accepted write clears the queue error and restarts the queue empty (R253). -/
def Iface.putSqbl (v : Iface) (x : Word) : Iface :=
  if baseOk x && v.queueOpen then { v with sqbl := x, err := false, sqhd := 0#32, sqdb := 0#32 } else v

/-- SQDB: an index at or above SQSZ sets the queue error (R253). -/
def Iface.putSqdb (v : Iface) (x : Word) : Iface :=
  if v.sqsz.toNat ≤ x.toNat then { v with err := true } else { v with sqdb := x }

/-- EQBL: an accepted write resets EQTL and EQHD (R253). -/
def Iface.putEqbl (v : Iface) (x : Word) : Iface := if baseOk x then { v with eqbl := x, eqtl := 0#32, eqhd := 0#32 } else v

/-- The other writable registers of the page, by offset (R253). -/
def Iface.put (v : Iface) (offset : Nat) (x : Word) : Iface :=
  match offset with
  | 0x004 => if v.queueOpen then { v with sqbh := x } else v
  | 0x008 => if sizeOk x && v.queueOpen then { v with sqsz := x } else v
  | 0x01C => { v with eqbh := x }
  | 0x020 => if sizeOk x then { v with eqsz := x } else v
  | 0x028 => { v with eqhd := x }
  | _ => v

/-- A register of the page as the host reads it (R253). -/
def State.readReg (s : State) (vi offset : Nat) : Word :=
  let v := s.iface vi
  match offset with
  | 0x000 => v.sqbl
  | 0x004 => v.sqbh
  | 0x008 => v.sqsz
  | 0x00C => v.sqhd
  | 0x018 => v.eqbl
  | 0x01C => v.eqbh
  | 0x020 => v.eqsz
  | 0x024 => v.eqtl
  | 0x028 => v.eqhd
  | 0x030 => BitVec.ofNat 32 ((if v.err then 1 else 0) + (if s.soleRight vi then 2 else 0) + (if s.contractRight vi then 4 else 0))
  | 0x034 => v.vipas
  | _ => 0#32

/-- A change of an interface's registers, where its function answers. -/
def State.writeReg (s : State) (vi : Nat) (f : Iface → Iface) : Host.Outcome State Fault Refusal :=
  .next (if s.answers vi then s.modIface vi f else s)

/-- SQDB_WRITE (R253). -/
def execSqdbWrite (vi : Nat) (v : Word) (s : State) : Host.Outcome State Fault Refusal := s.writeReg vi (fun k => k.putSqdb v)

/-- SQBL_WRITE (R253). -/
def execSqblWrite (vi : Nat) (v : Word) (s : State) : Host.Outcome State Fault Refusal := s.writeReg vi (fun k => k.putSqbl v)

/-- EQBL_WRITE (R253). -/
def execEqblWrite (vi : Nat) (v : Word) (s : State) : Host.Outcome State Fault Refusal := s.writeReg vi (fun k => k.putEqbl v)

/-- VIPAS_WRITE (R253): on the PF, without a live job and an admitted contract; it binds the PASID. -/
def execVipasWrite (vi : Nat) (v : Word) (s : State) : Host.Outcome State Fault Refusal :=
  s.writeReg vi (fun k => if vi = 0 && !s.viBusy 0 then { k with vipas := BitVec.ofNat 32 (2 ^ 31 + v.toNat % 2 ^ 20) } else k)

/-- The place of the PF page among the offsets of interface 0 (R310; assumption 26). -/
def pfBase : Nat := 0x1000

/-- REGISTER_WRITE (R253, R310): MEVTEN of the PF page, or a register of a register page. -/
def execRegisterWrite (vi offset : Nat) (v : Word) (s : State) : Host.Outcome State Fault Refusal :=
  if vi = 0 ∧ offset = pfBase + 0x24 then
    .next (if s.answers 0 then { s with pf := { s.pf with mevten := v &&& 0x3F#32 } } else s)
  else s.writeReg vi (fun k => k.put offset v)

/-- MEVT_CLEAR (R310). -/
def execMevtClear (v : Word) (s : State) : Host.Outcome State Fault Refusal :=
  .next (if s.answers 0 then { s with pf := { s.pf with mevt := s.pf.mevt &&& ~~~v } } else s)

/-- PFSTAT (R310). -/
def PfPage.stat (p : PfPage) : Word :=
  BitVec.ofNat 32 ((if p.boot then 1 else 0) + (if p.rcv then 2 else 0) + 4 * p.step + (if p.rfe then 32 else 0))

/-- A register of the PF page as the host reads it (R310). -/
def State.readPf (s : State) (offset : Nat) : Word :=
  match offset with
  | 0x0000 => s.pf.stat
  | 0x0008 => lo32 Config.serialNumber.toNat
  | 0x000C => hi32 Config.serialNumber.toNat
  | 0x0020 => s.pf.mevt
  | 0x0024 => s.pf.mevten
  | 0x0028 => s.pf.mevtstk
  | _ => 0#32

/-- NUMVFS_WRITE (R309): 0 to 511 virtual functions; nothing in recovery (R314). -/
def execNumvfsWrite (n : Nat) (s : State) : Host.Outcome State Fault Refusal := .next (if n ≤ 511 ∧ s.pf.rcv = false then { s with numVfs := n } else s)

/-! ### Resets -/

/-- The firmware that runs after a reset: a committed image takes its place (R314, R315). -/
def Secure.nextImages (k : Secure) : List (List Byte) :=
  match k.committed with
  | some image => if k.images.isEmpty then [image] else k.images.set (Config.imageSlot image % k.images.length) image
  | none => k.images

/-- The secure controller after its boot (R314). -/
def Secure.reboot (k : Secure) : Secure :=
  { k with images := k.nextImages, meas := measured k.nextImages, committed := none }

/-- The graft table as the secure controller applies it at reset (R293). -/
def State.applyGrafts (s : State) : State :=
  s.secure.grafts.foldl (fun s e => s.modCluster (e.1 / 12) (fun k => { k with graft := NMap.put k.graft (e.1 % 12) e.2 })) s

/-- The bring-up test of a core in a configuration (R302, R318): its mask is what its failing classes leave, and they may condemn
it (R294, R310). The mask of one that is out of service is 0 (R293). -/
def State.bringUp (s : State) (n core : Nat) (ganged : Bool) : State :=
  let f := Config.bringUp n core ganged &&& testClasses ganged
  if graftOut (s.graftWord (clusterOf core) (entryFor core ganged)) then s.modCore core (fun k => k.setMask ganged 0#64)
  else
    let s := s.modCore core (fun k => k.setMask ganged (testClasses ganged &&& ~~~f))
    (if f = 0#64 then s else s.mgmtEvent 1 (stackOf core)).condemn core ganged f

/-- What a module reset keeps (R293, R294, R318): host memory, the secure controller's store, condemned sites, the management
port, and the model's own numbers. An image that fails its check leaves the module in recovery (R314), where no core is tested;
otherwise every core's test sets its mask (R318, step 4). -/
def State.moduleReset (s : State) : State :=
  let k := s.secure.reboot
  let ok := k.images.all Config.imageAccepted
  let r : State := { State.reset with
    secure := k, hostMem := s.hostMem, i3c := s.i3c, handles := s.handles, freeCtr := s.freeCtr + 1, agenda := s.agenda,
    stk := (List.range 8).map (fun j => (j, { condF := (s.stack j).condF, condS := (s.stack j).condS })),
    pf := if ok then { } else { boot := false, rcv := true, step := 0 } }
  let r := r.applyGrafts
  if ok then allCores.foldl (fun r c => if c % 2 = 0 then (r.bringUp s.freeCtr c false).bringUp s.freeCtr c true else r.bringUp s.freeCtr c false) r
  else r

/-- A reset request of a kind, with its target (R310). -/
def resetTarget (v : Word) (kind : Nat) : Option Nat := if wbits v 31 24 = 0xA5 ∧ wbits v 3 0 = kind then some (wbits v 23 16) else none

/-- A reset request is refused: RFE (R310). -/
def State.refuseReset (s : State) : State := { s with pf := { s.pf with rfe := true } }

/-- A reset request has succeeded (R310). -/
def State.grantReset (s : State) : State := { s with pf := { s.pf with rfe := false } }

/-- Whether a cluster holds no wave, entry or bank allocation (R310). -/
def State.clusterEmpty (s : State) (cl : Nat) : Bool :=
  (clusterCores cl).all (fun c => (s.core c).slots.isEmpty && (s.core c).deque.isEmpty) && (s.cluster cl).banks.isEmpty

/-- MODULE_RESET (R310, R318). -/
def execModuleReset (v : Word) (s : State) : Host.Outcome State Fault Refusal :=
  .next (if s.answers 0 && (resetTarget v 1).isSome then s.moduleReset else s)

/-- STACK_RESET (R310): the count of the stack is cleared. -/
def execStackReset (v : Word) (s : State) : Host.Outcome State Fault Refusal :=
  .next (if !s.answers 0 then s
    else match resetTarget v 2 with
      | none => s
      | some k =>
        if k < 8 ∧ (List.range 16).all (fun j => s.clusterEmpty (16 * k + j)) then
          (s.modStack k (fun k => { k with ck := 0 })).grantReset
        else s.refuseReset)

/-- CLUSTER_RESET (R310). -/
def execClusterReset (v : Word) (s : State) : Host.Outcome State Fault Refusal :=
  .next (if !s.answers 0 then s
    else match resetTarget v 3 with
      | none => s
      | some k => if k < 128 ∧ s.clusterEmpty k then (s.modCluster k (fun c => { c with banks := [] })).grantReset else s.refuseReset)

end Sys2Proof.Machine
end

