-- ==== Sys2Proof/Machine/Port.lean ====
section
/-!
DEFINITION. The management port (R315): commands of the board's management controller and their responses.
-/

namespace Sys2Proof.Machine

/-- The response that the next private read returns (R315). -/
def State.respond (s : State) (bs : List Byte) : State := { s with i3c := { s.i3c with resp := bs } }

/-- The status byte of a command that is not listed, short, or not answered in recovery (R315). -/
def unknownStatus : List Byte := [0xFF#8]

/-- A command reaches the port once it has its dynamic address; in recovery only some answer (R315). -/
def State.portCommand (s : State) (inRecovery : Bool) (act : State → State) : Host.Outcome State Fault Refusal :=
  .next (if s.i3c.addr.isNone then s else if s.pf.rcv && !inRecovery then s.respond unknownStatus else act s)

/-- DYNAMIC_ADDRESS_ASSIGNMENT (R315). -/
def execDynamicAddressAssignment (addr : Nat) (s : State) : Host.Outcome State Fault Refusal :=
  .next { s with i3c := { s.i3c with addr := some (addr % 128) } }

/-- Working cores of a stack: entries 0 to 7 of its clusters in service (R291, R315). -/
def State.workingCores (s : State) (stack : Nat) : Nat :=
  ((List.range 128).filter (fun k => !graftOut (s.graftWord (16 * stack + k / 8) (k % 8)))).length

/-- Ganged cores that a stack can form (R18, R315). -/
def State.gangedCores (s : State) (stack : Nat) : Nat := ((List.range 16).map (fun k => s.gangCount (16 * stack + k))).sum

/-- The 64 bytes of INVENTORY (R315). -/
def State.inventoryBytes (s : State) : List Byte :=
  natBytes 8 Config.serialNumber.toNat ++ natBytes 4 (Config.firmwareVersion s.secure.images).toNat ++
    (List.range 8).flatMap (fun k => natBytes 2 (s.workingCores k)) ++ (List.range 8).flatMap (fun k => natBytes 1 (s.gangedCores k)) ++
    natBytes 2 0xFFFF ++ List.replicate 26 0#8

/-- INVENTORY (R315). -/
def execInventory (s : State) : Host.Outcome State Fault Refusal := s.portCommand true (fun s => s.respond s.inventoryBytes)

/-- SENSORS (R315): 35 readings, which the specification leaves open, and a reserved field. -/
def execSensors (s : State) : Host.Outcome State Fault Refusal :=
  s.portCommand false (fun s =>
    ({ s with freeCtr := s.freeCtr + 35 }).respond
      ((List.range 35).flatMap (fun k => natBytes 2 (Config.sensorReading (s.freeCtr + k)).toNat) ++ [0#8, 0#8]))

/-- POWER (R315, R316): it acts as POWER SET, without a record. -/
def execI3cPower (kind : Byte) (target : BitVec 16) (value : Byte) (s : State) : Host.Outcome State Fault Refusal :=
  s.portCommand false (fun s =>
    if !powerFits kind.toNat target.toNat value.toNat then s.respond [1#8]
    else
      (if kind = 0#8 then s.clockStep target.toNat value.toNat
       else if kind = 1#8 then s.gateSet target.toNat value.toNat []
       else s.refreshSet target.toNat value.toNat).respond [0#8])

/-- ATTEST (R314, R315); a short nonce makes the command short. -/
def execI3cAttest (nonce : List Byte) (s : State) : Host.Outcome State Fault Refusal :=
  s.portCommand false (fun s => s.respond (if nonce.length < 32 then unknownStatus else s.signedQuote (nonce.take 32)))

/-- STATUS (R310, R315). -/
def execStatus (s : State) : Host.Outcome State Fault Refusal := s.portCommand true (fun s => s.respond (natBytes 4 s.pf.stat.toNat))

/-- RESET (R315, R318): a module reset. -/
def execI3cReset (s : State) : Host.Outcome State Fault Refusal := s.portCommand true (fun s => s.moduleReset.respond [0#8])

/-- Bytes of the firmware staging store (R315). -/
def stageStore : Nat := 16777216

/-- FW WRITE (R315): 64 bytes of image. -/
def execFwWrite (offset : Word) (image : List Byte) (s : State) : Host.Outcome State Fault Refusal :=
  s.portCommand true (fun s =>
    if image.length < 64 then s.respond unknownStatus
    else if stageStore < offset.toNat + 64 then s.respond [1#8]
    else ({ s with secure := { s.secure with store := Memory.writeBytes s.secure.store offset.toNat (image.take 64) } }).respond [0#8])

/-- FW COMMIT (R314, R315). -/
def execFwCommit (length : Word) (s : State) : Host.Outcome State Fault Refusal :=
  s.portCommand true (fun s =>
    if stageStore < length.toNat then s.respond [1#8]
    else
      let image := Memory.readBytes s.secure.store 0 length.toNat
      if Config.imageAccepted image then ({ s with secure := { s.secure with committed := some image } }).respond [0#8]
      else s.respond [1#8])

/-- Whether bytes are a command of R315 with all its operands. -/
def portListed (bs : List Byte) : Bool :=
  match bs with
  | [] => false
  | c :: ops =>
    (c == 1#8 || c == 2#8 || c == 5#8 || c == 6#8) || (c == 3#8 && decide (4 ≤ ops.length)) || (c == 4#8 && decide (32 ≤ ops.length)) ||
      (c == 7#8 && decide (68 ≤ ops.length)) || (c == 8#8 && decide (4 ≤ ops.length))

/-- I3C_UNKNOWN_COMMAND (R315). -/
def execI3cUnknownCommand (bytes : List Byte) (s : State) : Host.Outcome State Fault Refusal :=
  s.portCommand true (fun s => if portListed bytes then s else s.respond unknownStatus)

end Sys2Proof.Machine
end

