-- ==== Sys2Proof/Machine/Link.lean ====
section
/-!
DEFINITION. Relune Link (R312, R313): acknowledgements and their replies, retransmissions, the requests of peers.
-/

namespace Sys2Proof.Machine

/-- The lanes that a request's reply serves (R160, R312). -/
def LinkReq.serves (q : LinkReq) : List Nat := if q.lane = scalarLane then [scalarLane] else maskLanes q.lanes

/-- The virtual address of a lane that a request serves. -/
def LinkReq.laneVa (q : LinkReq) (p : Pending) (lane : Nat) : Nat :=
  ((p.load.bind (fun l => l.lanes.find? (fun e => e.1 == lane))).map (fun e => e.2)).getD q.va

/-- The lane's part of a reply goes into a load's or an atomic's results. -/
def Pending.fillLane (p : Pending) (lane : Nat) (reply : List Byte) : Pending :=
  if lane = scalarLane then { p with sdst := p.sdst.map (fun (e : Nat × Word) => (e.1, bytesWord reply)) }
  else
    let z := (p.load.map (fun q => q.size)).getD 4
    let first := (p.vdst.map (fun (e : Nat × LaneVec) => e.1)).headD 0
    { p with vdst := p.vdst.map (fun (e : Nat × LaneVec) =>
        (e.1, LaneVec.ofFn (fun l => if l = lane then loadWord z reply (e.1 - first) else e.2.lane l))) }

/-- A request leaves its destination's window (R312). -/
def State.closeReq (s : State) (dest tag : Nat) : State :=
  { s with links := NMap.alter s.links { } dest (fun d => { d with open_ := d.open_.filter (fun q => q.tag != tag) }) }

/-- The open request of a tag to a destination. -/
def State.openReq (s : State) (dest tag : Nat) : Option LinkReq := (NMap.at s.links dest { }).open_.find? (fun q => q.tag == tag)

/-- The producer in flight that waits for a request's reply, with its wave. -/
def State.waiter (s : State) (q : LinkReq) : Option (Wave × Pending) :=
  match s.wave? q.core q.slot with
  | some w => if w.uid = q.uid then (w.inflight.find? (fun p => p.id == q.pend)).map (fun p => (w, p)) else none
  | none => none

/-- Whether what asked for a sector still needs it: an engine operation, a staging, a continuation, a migration, an instruction that
waits. -/
def State.ownerLives (s : State) (owner : Nat) : Bool :=
  s.cores.any (fun e => e.2.copyQ.any (fun o => o.id == owner) || e.2.brQ.any (fun o => o.id == owner) ||
    e.2.slots.any (fun w => w.2.inflight.any (fun p => p.id == owner))) ||
  s.clusters.any (fun e => e.2.stageQ.any (fun q => q.entry == owner)) || s.conts.any (fun k => k.id == owner) || s.migrations.any (fun m => m.id == owner) ||
  s.units.any (fun u => u.2.copies.any (fun c => c.2.id == owner) || u.2.waves.any (fun w => w.wave.inflight.any (fun p => p.id == owner)))

/-- A sector of a peer reaches what asked for it; a continuation goes on (R90, R205). -/
def State.takeFetched (s : State) (q : LinkReq) (bytes : List Byte) (pois : Bool) : State :=
  if s.ownerLives q.pend then
    let s : State := { s with fetched := s.fetched ++ [{ owner := q.pend, sector := q.va / 32, bytes := bytes, pois := pois }] }
    (s.conts.filter (fun k => k.id == q.pend)).foldl (fun s k => s.resumeCont k) s
  else s

/-- A reply has changed its producer, which waits for one reply less. When the last has come and some lanes read poison, the wave halts
at the sector of the lowest of them (R178, R330). -/
def State.replied (s : State) (q : LinkReq) (f : Pending → Pending) : State :=
  let s := s.modPending q.core q.slot q.pend (fun p => { f p with left := p.left - 1 })
  match s.waiter q with
  | some (_, p) =>
    if p.left = 0 ∧ !p.bad.isEmpty then
      s.haltWave q.core q.slot ⟨p.pc, p.word, p.exm, false⟩ (faultCause 0x13 0) ((lowestLane p.bad).2 / 32 * 32) [laneMask p.bad] true
    else s
  | none => s

/-- The reply of a read or an atomic carries poison: its lanes are some that read poison (R178, R313). -/
def State.poisonReply (s : State) (q : LinkReq) : State :=
  if q.uid = 0 then s.takeFetched q (List.replicate 32 0#8) true
  else s.replied q (fun p => { p with bad := p.bad ++ q.serves.map (fun l => (l, q.laneVa p l)) })

/-- How many bytes a request's reply has: a reply without them says that a sector was poisoned (assumption 27). -/
def replySize : PeerOp → Nat
  | .read _ n => n
  | .write _ _ _ => 0
  | .atomic _ _ _ _ => 4

/-- A reply reaches its producer (R50, R312). -/
def State.takeReply (s : State) (q : LinkReq) (reply : List Byte) : State :=
  if reply.length < replySize q.op then s.poisonReply q
  else if q.uid = 0 then s.takeFetched q reply false
  else s.replied q (fun p => q.serves.foldl (fun p l => p.fillLane l reply) p)

/-- What waited for a place in a window goes on: side-log entries, replayed loads and continuations (R90, R273, R288, R312). -/
def State.windowFree (s : State) : State :=
  let s := (s.cores.filter (fun (e : Nat × Core) => !e.2.sideLog.isEmpty)).foldl (fun s e => s.drainLog e.1) s
  let s := (s.cores.filter (fun (e : Nat × Core) => !e.2.slots.isEmpty)).foldl (fun s e => s.retryReplays e.1 (fun _ p =>
    !e.2.rejects.any (fun x => x.1.arm == p.id + 2))) s
  s.conts.foldl (fun s k => s.resumeCont k) s

/-- Whether a request to a peer used a translation that meets a range (R290). -/
def LinkReq.reaches (q : LinkReq) (pasid va size : Nat) : Bool :=
  q.pasid == pasid && decide (q.used.1 < va + size ∧ va < q.used.1 + q.used.2)

/-- Invalidations complete once no request that used such a translation is on its way (R290). -/
def State.completeInvals (s : State) : State :=
  let waits (x : Nat × Nat × Nat) : Bool := s.links.any (fun d => d.2.open_.any (fun q => q.reaches x.1 x.2.1 x.2.2))
  { s with invals := s.invals.filter waits, invalsDone := s.invalsDone + (s.invals.filter (fun x => !waits x)).length }

/-- LINK_ACK (R312): a place in the destination's window is free, and the reply is delivered. -/
def execLinkAck (dest tag : Nat) (reply : List Byte) (s : State) : Host.Outcome State Fault Refusal :=
  .next (match s.openReq dest tag with
    | none => s
    | some q =>
      let s := s.closeReq dest tag
      ((if q.ret then s.takeReply q reply else s).settle q.core).windowFree.completeInvals)

/-- The address of a request. -/
def peerAddr : PeerOp → Nat
  | .read a _ => a
  | .write a _ _ => a
  | .atomic _ a _ _ => a

/-- The KIND 6 event of a discarded request (R282). -/
def State.linkFailure (s : State) (dest : Nat) (q : LinkReq) : State :=
  let j := s.job q.job
  let ck := (s.stack (stackOf q.core)).ck
  s.postEvent j.vi (eventOf 6 0#32 (wordsWith 32
    [(5, lo32 (peerAddr q.op)), (6, hi32 (peerAddr q.op)), (7, BitVec.ofNat 32 (dest % 4096)), (8, q.wave), (10, BitVec.ofNat 32 q.core),
     (11, q.team), (12, BitVec.ofNat 32 j.num), (13, q.lanes), (14, lo32 ck), (15, hi32 ck), (16, BitVec.ofNat 32 q.tag)]))

/-- An outstanding request to an unreachable destination ends (R313). -/
def State.failReq (s : State) (dest : Nat) (q : LinkReq) : State :=
  let s := s.closeReq dest q.tag
  (if q.ret then s.poisonReply q else s.linkFailure dest q).settle q.core

/-- RETRANSMIT (R312, R313): the same tag again, at most 16 sends in all; after them the destination is unreachable. -/
def execRetransmit (dest tag : Nat) (s : State) : Host.Outcome State Fault Refusal :=
  .next (match s.openReq dest tag with
    | none => s
    | some q =>
      if q.sends < 16 then
        { s with links := NMap.alter s.links { } dest (fun d => { d with open_ := d.open_.map (fun (x : LinkReq) =>
            if x.tag = tag then { x with sends := x.sends + 1 } else x) }) }
      else
        let s := s.mgmtEvent 3 (stackOf q.core)
        ((NMap.at s.links dest { }).open_.foldl (fun s q => s.failReq dest q) s).windowFree.completeInvals)

/-! ### Requests of peers -/

/-- A peer's request is performed at home (R189, R313): the state and the reply; a poisoned sector gives none. A write carries the poison
of its sectors (R177). -/
def State.peerOp (s : State) (op : PeerOp) : State × List Byte :=
  match op with
  | .read a n =>
    match s.readAt noPasid (.dpa a) n with
    | (s, bs, false) => (s, bs)
    | (s, _, true) => (s, [])
  | .write a bs pois => ((pois.filter (fun k => decide (a / 32 ≤ k ∧ 32 * k < a + bs.length))).foldl (fun s k => s.setPoison (32 * k) true) (s.outsideWrite noPasid (.dpa a) bs), [])
  | .atomic fn a d n =>
    match s.readAt noPasid (.dpa a) 4 with
    | (s, bs, false) => ((s.l2Bytes noPasid true [a]).homeWrite a (natBytes 4 (atomNew fn (bytesWord bs) d n).toNat), bs)
    | (s, _, true) => (s, [])

/-- The bytes that a request touches. -/
def peerSize : PeerOp → Nat
  | .read _ n => n
  | .write _ bs _ => bs.length
  | .atomic _ _ _ _ => 4

/-- PEER_REQUEST (R313): performed once; a tag in the filter is answered with the reply it had. -/
def execPeerRequest (src tag : Nat) (op : PeerOp) (s : State) : Host.Outcome State Fault Refusal :=
  if s.pf.rcv then .next s
  else if 2 ^ 40 < peerAddr op + peerSize op then .fault .noSuchDeviceAddress
  else
    let f := NMap.at s.filters src []
    if f.any (fun e => e.1 == tag) then .next s
    else
      let (s, reply) := s.peerOp op
      .next { s with filters := NMap.put s.filters src (((tag, reply) :: f).take 4096) }

end Sys2Proof.Machine
end

