-- ==== Sys2Proof/Machine/Translate.lean ====
section
/-!
DEFINITION. Address translation by the host (R285 to R290): completions, page responses, invalidations, what waits for a page and
what becomes of it; and the device's own evictions and alarms (R191, R317).
-/

namespace Sys2Proof.Machine

/-! ### A page arrives -/

/-- Continuations of a core whose line's page is asked about. -/
def State.contsOn (s : State) (core pasid page : Nat) : List Continuation :=
  s.conts.filter (fun k => k.core == core && (s.job k.job).pasid == pasid && k.va / 4096 == page)

/-- What waited for a page on a core goes on (R90, R273, R288): the side log first, then held loads. -/
def State.arriveCore (s : State) (core pasid page : Nat) : State :=
  let s := if s.xlate core pasid (4096 * page) true = .miss then s else s.replayPage core pasid page
  let s := s.releasePage core pasid page
  let s := s.retryReplays core (s.awaits pasid page)
  let s := (s.contsOn core pasid page).foldl (fun s k => s.resumeCont k) s
  s.settle core

/-- Records and rewrites that wait for a page of the I/O die are tried again (R308, R471). -/
def State.retryRecords (s : State) : State :=
  let ws := s.records
  let s := ws.foldl (fun s w => s.putOrWait w) { s with records := [] }
  s.rewrites.foldl (fun s j => s.rewriteRecord j) s

/-- What waited for a page goes on, unit by unit. -/
def State.arrive (s : State) (q : XReq) : State :=
  q.who.foldl (fun s u => if ioUnit ≤ u then s.retryRecords else s.arriveCore u q.pasid q.page) s

/-! ### A page is refused -/

/-- Where the instruction stands that an arm is held at: a captured one, or the arm's next. -/
def Arm.heldAt (a : Arm) : HaltAt :=
  match a.cap with
  | some q => ⟨q.pc, q.word, a.exm, false⟩
  | none => ⟨a.pc, a.word, a.exm, false⟩

/-- The lanes of a held access that wait for a page with a permission. -/
def Hold.lanesOn (page : Nat) (write : Bool) (h : Hold) : List (Nat × Nat) :=
  match h with
  | .page w lanes => if w = write then lanes.filter (fun e => e.2 / 4096 == page) else []
  | _ => []

/-- The arm of a wave that waits for a page, facing that wait, with its lanes on the page. -/
def Wave.armOn (w : Wave) (page : Nat) (write : Bool) : Option (Arm × List (Nat × Nat)) :=
  w.arms.findSome? (fun (e : Nat × Arm) =>
    let a := e.2.facing (fun h => !(h.lanesOn page write).isEmpty)
    match a.hold.lanesOn page write with
    | [] => none
    | l => some (a, l))

/-- Whether an arm is held at a TEND on its own cell, whose fault makes no error delivery (R438). -/
def Arm.heldTend (a : Arm) : Bool :=
  match a.cap with
  | some q => match q.ins with
    | .tend _ => true
    | _ => false
  | none => false

/-- A wave held on a page that the host refuses takes its fault (R287); of one that has ended, what waits for the page is discarded with
the record of R289 (assumption 6). -/
def State.refuseArms (s : State) (core : Nat) (q : XReq) (cause : Word) : State :=
  (s.core core).slots.foldl (fun s e =>
    if (s.job (s.team e.2.tid).job).pasid ≠ q.pasid then s
    else match e.2.armOn q.page q.write with
      | some (a, lanes) =>
        if e.2.ended then
          ((s.endedHalt core e.1 e.2 a.heldAt 5 cause (lanes.headD (0, 0)).2 [laneMask lanes]).modWave core e.1 (fun w =>
            w.onlyHolds (w.arms.filterMap (fun (x : Nat × Arm) =>
              (x.2.only (fun y => (y.1.lanesOn q.page q.write).isEmpty)).map (fun a => (x.1, a)))))).settle core
        else s.haltWave core e.1 a.heldAt cause (lanes.headD (0, 0)).2 [laneMask lanes] (!a.heldTend)
      | none => s) s

/-- Replayed loads whose page is refused (R273, R287). -/
def State.refuseReplays (s : State) (core : Nat) (q : XReq) (cause : Word) : State :=
  if q.write then s
  else (s.replaysOn core (s.awaits q.pasid q.page)).foldl (fun s e =>
    match e.2.2.load with
    | some l =>
      let mine := l.lanes.filter (fun x => x.2 / 4096 == q.page)
      s.haltWave core e.1 ⟨e.2.2.pc, e.2.2.word, e.2.2.exm, false⟩ cause ((mine.head?.map (fun x => x.2)).getD 0)
        [if l.scalar then 0#32 else laneMask mine] true
    | none => s) s

/-- The first entry of each wave. -/
def firstOfWave : List SideEntry → List Nat → List SideEntry
  | [], _ => []
  | e :: es, seen => if seen.contains e.uid then firstOfWave es seen else e :: firstOfWave es (e.uid :: seen)

/-- Side-log entries of a refused page are discarded, and their waves halt (R289). -/
def State.refuseLog (s : State) (core : Nat) (q : XReq) (cause : Word) : State :=
  if !q.write then s
  else
    let hit (e : SideEntry) : Bool := e.pasid == q.pasid && e.page == q.page
    let mine := firstOfWave ((s.core core).sideLog.filter hit) []
    let s := s.modCore core (fun k => { k with sideLog := k.sideLog.filter (fun e => !hit e) })
    mine.foldl (fun s e => s.entryFault core e cause e.va0) s

/-- Whether something of an ended wave of a saved unit still has to run when the unit resumes: engine operations, entries of the side
log, the pennant that it holds (R278). -/
def Saved.busy (u : Saved) (x : SavedWave) : Bool :=
  u.copies.any (fun c => c.2.uid == x.wave.uid) || u.mats.any (fun m => m.2.uid == x.wave.uid) || u.logs.any (fun e => e.2.uid == x.wave.uid) ||
    u.accs.any (fun a => a.core == x.core && a.slot == x.slot)

/-- A saved unit without what a wave of it that ends gives up (R278). -/
def Saved.dropWave (u : Saved) (x : SavedWave) : Saved :=
  { u with
    ports := u.ports.filter (fun p => !(p.core == x.core && p.slot == x.slot))
    accs := u.accs.map (fun (a : SavedAcc) => if a.core = x.core then { a with queue := a.queue.filter (fun r => r.slot != x.slot) } else a)
    waits := u.waits.filter (fun q => !(q.core == x.core && q.slot == x.slot))
    waves := u.waves.filterMap (fun (y : SavedWave) =>
      if y.core = x.core ∧ y.slot = x.slot then (if u.busy x then some { y with wave := y.wave.halted, cursors := [] } else none) else some y) }

/-- A wave of a saved unit ends: its shared resources are free, and its team may end. -/
def State.endSaved (s : State) (u : Saved) (x : SavedWave) : State :=
  let s := (s.fillReserved x.wave).freeStage x.wave.uid
  let v := u.dropWave x
  let s := { s with units := NMap.put s.units u.uid v }
  if u.busy x then s
  else
    let s := s.modTeam u.tid (fun t => { t with alive := t.alive - 1 })
    if (s.team u.tid).alive = 0 then ({ s with units := NMap.del s.units u.uid }).endTeam u.tid else s

/-- A wave of a unit that is switched out halts as soon as a page of its side log is refused (R289, R470); its record names the core
and the slot that it had. -/
def State.haltSaved (s : State) (u : Saved) (x : SavedWave) (e : SideEntry) (cause : Word) : State :=
  let core := u.cores.getD x.core 0
  let line := s.faultRecord core x.slot x.wave (x.wave.nextOf e.arm ⟨e.pc, e.word, e.exm, true⟩) cause e.va0 [e.lanes]
  (s.endSaved u x).afterHalt core x.slot x.wave line cause true

/-- Side-log entries of a refused page that a switch has saved are discarded, and their waves halt; of one that has ended the record
goes to the event queue (R289). -/
def State.refuseUnit (s : State) (u : Saved) (q : XReq) (cause : Word) : State :=
  let hit (e : Nat × SideEntry) : Bool := e.2.pasid == q.pasid && e.2.page == q.page
  let s := { s with units := NMap.put s.units u.uid { u with logs := u.logs.filter (fun e => !hit e) } }
  (firstOfWave ((u.logs.filter hit).map (fun e => e.2)) []).foldl (fun s e =>
    match NMap.get? s.units u.uid with
    | some v => match v.waves.find? (fun x => x.wave.uid == e.uid) with
      | some x =>
        if x.wave.ended then
          s.endedHalt (u.cores.getD x.core 0) x.slot x.wave ⟨e.pc, e.word, e.exm, true⟩ 5 cause e.va0 [e.lanes]
        else s.haltSaved v x e cause
      | none => s
    | none => s) s

/-- Saved units whose side log waits for a page. -/
def State.refuseSaved (s : State) (q : XReq) (cause : Word) : State :=
  if q.write then s.units.foldl (fun s u => s.refuseUnit u.2 q cause) s else s

/-- Continuations whose line's page is refused are not pushed (R90). -/
def State.refuseConts (s : State) (core : Nat) (q : XReq) (cause : Word) : State :=
  if q.write then s
  else (s.contsOn core q.pasid q.page).foldl (fun s k =>
    ({ s with conts := s.conts.erase k }).dropContinuation k.job cause k.va) s

/-- Deliveries whose cell's page is refused: an error delivery is not made, a TEND faults (R438, R469). -/
def State.refuseDeliveries (s : State) (core : Nat) (q : XReq) (cause : Word) : State :=
  if !q.write then s
  else (s.deliveries.filter (fun d => d.core == core && d.pasid == q.pasid && d.handle / 4096 == q.page)).foldl (fun s d =>
    let s := { s with deliveries := s.deliveries.erase d }
    if d.err then s.deliveryFailed d cause
    else match s.tendCtx d.core (wbits d.wave 21 16) with
      | some (c, _) => c.faultWord cause d.handle false s
      | none => s) s

/-- The copy of a core that waits for a refused page stops (R213). -/
def State.refuseCopies (s : State) (core : Nat) (q : XReq) (cause : Word) : State :=
  match (s.core core).copyQ with
  | o :: _ =>
    match s.copyMiss core o with
    | some (va, w) =>
      if va / 4096 = q.page ∧ w = q.write ∧ (s.job (s.team o.tid).job).pasid = q.pasid then s.refuseCopy core o va cause else s
    | none => s
  | [] => s

/-- The staging that waits for a refused page stops (R83). -/
def State.refuseStaging (s : State) (core : Nat) (q : XReq) (cause : Word) : State :=
  match s.stageHead (clusterOf core) with
  | some (r, _, _) =>
    match s.stageMiss r with
    | some (va, w) =>
      if r.active && r.core == core && va / 4096 == q.page && w == q.write && (s.job r.job).pasid == q.pasid then
        s.refuseStage (clusterOf core) r cause va
      else s
    | none => s
  | none => s

/-- A task's write-back that waits for a refused page faults (R84). -/
def State.refuseTiles (s : State) (core : Nat) (q : XReq) (cause : Word) : State :=
  if !q.write then s
  else (s.core core).slots.foldl (fun s e =>
    match s.tendCtx core e.1 with
    | some (c, _) =>
      if s.deliveryOf core e.1 || c.job.pasid != q.pasid then s
      else if s.backAt core e.1 = some q.page then c.faultWord cause ((s.backVa core e.1).getD 0) true s else s
    | none => s) s

/-- The Bramble operation that waits for a refused page faults (R249). -/
def State.refuseBramble (s : State) (core : Nat) (q : XReq) (cause : Word) : State :=
  match (s.core core).brQ with
  | o :: _ =>
    match s.brMiss core with
    | some va => if !q.write && va / 4096 == q.page && (s.brJob core o).pasid == q.pasid then s.refuseBr core cause va else s
    | none => s
  | [] => s

/-- Everything on a core that waits for a refused page; once its entries have left the side log, loads that they held back go on
(R288). -/
def State.refuseCore (s : State) (core : Nat) (q : XReq) (cause : Word) : State :=
  let s := s.refuseLog core q cause
  let s := s.refuseArms core q cause
  let s := if q.write then s.releaseLogged core q.pasid q.page else s
  let s := s.refuseReplays core q cause
  let s := s.refuseConts core q cause
  let s := s.refuseDeliveries core q cause
  let s := s.refuseCopies core q cause
  let s := s.refuseStaging core q cause
  let s := s.refuseTiles core q cause
  s.refuseBramble core q cause

/-- The I/O die cannot have a page: what waits for it sees the refusal (R282, R471). -/
def State.refuseIo (s : State) (q : XReq) : State :=
  ({ s with refusals := s.refusals ++ [(q.pasid, q.page, q.write)] }).retryRecords

/-- Whether a migration asks for a page to read or to write it next: the source's, the destination's, and to read it a destination page that
the source overlaps (R212, R217). -/
def Migration.asks (m : Migration) (page : Nat) (write : Bool) : Bool :=
  if write then (m.dst + m.off) / 4096 == page
  else (m.src + m.off) / 4096 == page || (m.overlaps (m.dst + m.off) && (m.dst + m.off) / 4096 == page)

/-- Migrations and rewrites that need a page which was not granted end without a page request (R218, R308). -/
def State.refuseQuiet (s : State) (q : XReq) : State :=
  { s with
    migrations := s.migrations.map (fun (m : Migration) =>
      if m.pasid = q.pasid ∧ m.asks q.page q.write then { m with failed := true } else m)
    rewrites := s.rewrites.filter (fun j => !(q.write && (s.job j).pasid == q.pasid && (s.job j).rva / 4096 == q.page)) }

/-- The host has refused a page for good. -/
def State.refusePage (s : State) (q : XReq) (cause : Word) : State :=
  let s := s.refuseSaved q cause
  q.who.foldl (fun s u =>
    if u = ioQuiet then s.refuseQuiet q else if u = ioUnit then s.refuseIo q else s.refuseCore u q cause) s

/-! ### Completions -/

/-- Sizes of pages (R285). -/
def pageSizes : List Nat := [4096, 65536, 2097152, 1073741824]

/-- Whether a granted range is a page that holds the requested one (R285). -/
def grantFits (page base size : Nat) : Bool :=
  pageSizes.contains size && base % size == 0 && decide (base ≤ 4096 * page ∧ 4096 * page < base + size)

/-- Whether a target leaves device memory (R161). -/
def beyondDevice (t : Target) (size : Nat) : Bool :=
  match t with
  | .dpa a => decide (2 ^ 40 < a + size)
  | _ => false

/-- A granted translation fills the caches of the units that asked (R285). -/
def State.fillX (s : State) (x : Xlate) (u : Nat) : State :=
  if ioUnit ≤ u then { s with ioAtc := x :: s.ioAtc }
  else (s.modCore u (fun k => { k with tlb := (x :: k.tlb).take 512 })).modStack (stackOf u)
    (fun k => { k with tcache := (x :: k.tcache).take 32768 })

/-- A request is answered for good. -/
def State.dropX (s : State) (q : XReq) : State := { s with xreqs := s.xreqs.filter (fun x => x != q) }

/-- Changes a request. -/
def State.setX (s : State) (q : XReq) (f : XReq → XReq) : State := { s with xreqs := s.xreqs.map (fun x => if x = q then f x else x) }

/-- Page requests that are out (R287). -/
def State.pagesOut (s : State) : Nat := (s.xreqs.filter (fun q => q.phase == .paged)).length

/-- Waiting page requests go out in the order in which they came to wait, as many as the host allocates (R287, R309). -/
def State.sendQueued (s : State) : State :=
  let out := s.pageQueue.take (s.priLimit - s.pagesOut)
  { s with pageQueue := s.pageQueue.drop (s.priLimit - s.pagesOut)
           xreqs := s.xreqs.map (fun (q : XReq) => if q.phase = .queued ∧ out.contains q.key then { q with phase := .paged } else q) }

/-- No access was granted: a page request follows, or, after one, the refusal (R285 to R287). -/
def State.denied (s : State) (q : XReq) : State :=
  if q.phase = .retry then (s.dropX q).refusePage q (faultCause 0x12 3)
  else
    let s := if q.who.contains ioQuiet then s.refuseQuiet q else s
    let rest := q.who.filter (fun u => u != ioQuiet)
    if rest.isEmpty then s.dropX q
    else ({ s.setX q (fun q => { q with who := rest, phase := .queued }) with pageQueue := s.pageQueue ++ [q.key] }).sendQueued

/-- The outstanding request of an answer, in one of some phases. -/
def State.findX (s : State) (pasid page : Nat) (write : Bool) (ps : List XPhase) : Option XReq :=
  s.xreqs.find? (fun q => q.pasid == pasid && q.page == page && q.write == write && ps.contains q.phase)

/-- TRANSLATION_COMPLETION (R285 to R287). -/
def execTranslationCompletion (pasid page : Nat) (write : Bool) (answer : XAnswer) (s : State) : Host.Outcome State Fault Refusal :=
  match s.findX pasid page write [.asked, .retry] with
  | none => .next s
  | some q =>
    match answer with
    | .error => .next ((s.dropX q).refusePage q (faultCause 0x14 2))
    | .noAccess => .next (s.denied q)
    | .grant base size target r w =>
      if !grantFits page base size then .next s
      else if beyondDevice target size then .fault .noSuchDeviceAddress
      else if !(if write then w else r) then .next (s.denied q)
      else
        let x : Xlate := { pasid := pasid, base := base, size := size, target := target, r := r, w := w }
        .next (((q.who.foldl (fun s u => s.fillX x u) s).dropX q).arrive q)

/-- PAGE_RESPONSE (R287). -/
def execPageResponse (pasid page : Nat) (write : Bool) (answer : PageAnswer) (s : State) : Host.Outcome State Fault Refusal :=
  .next (match s.findX pasid page write [.paged] with
    | none => s
    | some q =>
      match answer with
      | .success => (s.setX q (fun q => { q with phase := .retry })).sendQueued
      | .invalidRequest => ((s.dropX q).refusePage q (faultCause 0x12 3)).sendQueued
      | .responseFailure => ((s.dropX q).refusePage q (faultCause 0x14 1)).sendQueued)

/-- Whether a cached translation meets a range of an address space. -/
def Xlate.meets (x : Xlate) (pasid va size : Nat) : Bool := x.pasid == pasid && decide (x.base < va + size ∧ va < x.base + x.size)

/-- Side-log entries in a range translate again (R290): those that had their translation and waited for a window ask for it. -/
def State.askAgain (pasid va size : Nat) (s : State) : State :=
  s.cores.foldl (fun s e => (e.2.sideLog.filter (fun x => x.pasid == pasid && decide (4096 * x.page < va + size ∧ va < 4096 * x.page + 4096) &&
      s.xlate e.1 x.pasid (4096 * x.page) true == .miss)).foldl (fun s x => s.askX e.1 x.pasid (4096 * x.page) true) s) s

/-- INVALIDATE_REQUEST (R290): in recovery the device answers the management port alone (R314). Else every matching entry leaves. An access of this module is performed in the step that uses its entry; the
completion waits for requests to peers that are on their way. -/
def execInvalidateRequest (pasid va size : Nat) (s : State) : Host.Outcome State Fault Refusal :=
  if s.pf.rcv then .next s
  else .next (State.completeInvals (State.askAgain pasid va size { s with
    invals := s.invals ++ [(pasid, va, size)]
    cores := s.cores.map (fun (e : Nat × Core) => (e.1, { e.2 with tlb := e.2.tlb.filter (fun x => !x.meets pasid va size) }))
    stk := s.stk.map (fun (e : Nat × Stack) => (e.1, { e.2 with tcache := e.2.tcache.filter (fun x => !x.meets pasid va size) }))
    ioAtc := s.ioAtc.filter (fun x => !x.meets pasid va size) }))

/-! ### Alarms and evictions -/

/-- CURRENT_ALARM_HIGH (R226, R317): the stack narrows, and the host hears of it (R310). -/
def execCurrentAlarmHigh (stack : Nat) (s : State) : Host.Outcome State Fault Refusal :=
  .next (if decide (8 ≤ stack) || (s.stack stack).narrow then s
    else (s.modStack stack (fun k => { k with narrow := true })).mgmtEvent 2 stack)

/-- CURRENT_ALARM_LOW (R317). -/
def execCurrentAlarmLow (stack : Nat) (s : State) : Host.Outcome State Fault Refusal :=
  .next (if decide (8 ≤ stack) || !(s.stack stack).narrow then s else s.modStack stack (fun k => { k with narrow := false }))

/-- A poison bit of a cached line's sector, where the line is held. -/
def poisonLine (m : NMap CLine) (line sector : Nat) : NMap CLine :=
  match NMap.get? m line with
  | some l => NMap.put m line { l with pois := setInsert l.pois (sector % 4) }
  | none => m

/-- ECC finds an uncorrectable error: the sector's poison bit is set (R177), and the host hears of one that an HBM4E stack delivers
(R22, R310). -/
def State.eccError (s : State) (p : EccPlace) : State :=
  match p with
  | .home k => (s.setPoison (32 * k) true).mgmtEvent 4 (homeSlice s.groups (32 * k)).1
  | .slice k => s.setPoison (32 * k) true
  | .l1 c line sec => s.modCore c (fun k => { k with l1 := poisonLine k.l1 line sec })
  | .cluster cl line sec => s.modCluster cl (fun k => { k with cc := poisonLine k.cc line sec })
  | .scratch cl bank row quarter =>
    match NMap.get? (s.cluster cl).banks bank with
    | some (.alloc aid) =>
      match (s.alloc aid).addrOf bank row (8 * quarter) with
      | some a => s.modAlloc aid (fun al => { al with pois := setInsert al.pois (a / 32) })
      | none => s
    | _ => s
  | .deque c uid => s.modCore c (fun k => k.modEntry uid (fun e => { e with pois := true }))
  | .ring tid bank => s.modRing tid bank (fun es => match es with | e :: r => { e with pois := true } :: r | [] => [])

/-- LINE_EVICTION (R191): a line leaves a level of its own accord, or is read anew from below. -/
def execLineEviction (level : CacheLevel) (unit line : Nat) (s : State) : Host.Outcome State Fault Refusal :=
  .next (match level with
    | .l1Evict => s.evictL1 unit line
    | .l1Refill =>
      match NMap.get? (s.core unit).l1 line with
      | some l => (List.range 4).foldl (fun s k => s.l1Sector unit l.pasid line k) (s.evictL1 unit line)
      | none => s
    | .clusterEvict => s.evictCC unit line
    | .clusterRefill =>
      match NMap.get? (s.cluster unit).cc line with
      | some l => (List.range 4).foldl (fun s k => s.ccSector unit l.pasid line k) (s.evictCC unit line)
      | none => s
    | .icacheEvict => s.modCore unit (fun k => { k with icache := k.icache.filter (fun x => x != line) }))

end Sys2Proof.Machine
end

