-- ==== Sys2Proof/Machine/Dispatch.lean ====
section
/-!
DEFINITION. The meaning of every instruction and step, one arm each.
-/

namespace Sys2Proof.Machine

open Sys2Proof

/-- One instruction word of the issuing arm, or one step of the device or of the host. -/
def exec (i : Instr) (s : State) : Host.Outcome State Fault Refusal :=
  match i with
  | .nop => Sys2Proof.Machine.execNop s
  | .exit => Sys2Proof.Machine.execExit s
  | .trap im => Sys2Proof.Machine.execTrap im s
  | .brk im => Sys2Proof.Machine.execBrk im s
  | .preoff a => Sys2Proof.Machine.execPreoff a s
  | .preon => Sys2Proof.Machine.execPreon s
  | .getc d im => Sys2Proof.Machine.execGetc d im s
  | .setc a im => Sys2Proof.Machine.execSetc a im s
  | .fence sc => Sys2Proof.Machine.execFence sc s
  | .acq sc => Sys2Proof.Machine.execAcq sc s
  | .rel sc => Sys2Proof.Machine.execRel sc s
  | .drain n => Sys2Proof.Machine.execDrain n s
  | .rdvi a p => Sys2Proof.Machine.execRdvi a p s
  | .rdva p => Sys2Proof.Machine.execRdva p s
  | .rdvw p => Sys2Proof.Machine.execRdvw p s
  | .smap b p => Sys2Proof.Machine.execSmap b p s
  | .sunmap p => Sys2Proof.Machine.execSunmap p s
  | .mqcfg e => Sys2Proof.Machine.execMqcfg e s
  | .tend a => Sys2Proof.Machine.execTend a s
  | .ptake => Sys2Proof.Machine.execPtake s
  | .ppass a => Sys2Proof.Machine.execPpass a s
  | .ppassFree => Sys2Proof.Machine.execPpassFree s
  | .ret a => Sys2Proof.Machine.execRet a s
  | .jmp a => Sys2Proof.Machine.execJmp a s
  | .merge => Sys2Proof.Machine.execMerge s
  | .cwait a => Sys2Proof.Machine.execCwait a s
  | .sadd d a b => Sys2Proof.Machine.execSadd d a b s
  | .ssub d a b => Sys2Proof.Machine.execSsub d a b s
  | .smul d a b => Sys2Proof.Machine.execSmul d a b s
  | .smulh d a b u => Sys2Proof.Machine.execSmulh d a b u s
  | .sand d a b => Sys2Proof.Machine.execSand d a b s
  | .sor d a b => Sys2Proof.Machine.execSor d a b s
  | .sxor d a b => Sys2Proof.Machine.execSxor d a b s
  | .sandn d a b => Sys2Proof.Machine.execSandn d a b s
  | .sshl d a b => Sys2Proof.Machine.execSshl d a b s
  | .sshr d a b u => Sys2Proof.Machine.execSshr d a b u s
  | .ssra d a b => Sys2Proof.Machine.execSsra d a b s
  | .smin d a b u => Sys2Proof.Machine.execSmin d a b u s
  | .smax d a b u => Sys2Proof.Machine.execSmax d a b u s
  | .ssel d a b => Sys2Proof.Machine.execSsel d a b s
  | .scmp d a b k => Sys2Proof.Machine.execScmp d a b k s
  | .sdiv d a b u v => Sys2Proof.Machine.execSdiv d a b u v s
  | .sbfx d a b u => Sys2Proof.Machine.execSbfx d a b u s
  | .sbfi d a b => Sys2Proof.Machine.execSbfi d a b s
  | .sclz d a => Sys2Proof.Machine.execSclz d a s
  | .spopc d a => Sys2Proof.Machine.execSpopc d a s
  | .smov d a => Sys2Proof.Machine.execSmov d a s
  | .sxget d a => Sys2Proof.Machine.execSxget d a s
  | .sxset a b => Sys2Proof.Machine.execSxset a b s
  | .maskp d p => Sys2Proof.Machine.execMaskp d p s
  | .pmask p a => Sys2Proof.Machine.execPmask p a s
  | .vote d p u => Sys2Proof.Machine.execVote d p u s
  | .saddImm d a im => Sys2Proof.Machine.execSaddImm d a im s
  | .sandImm d a im => Sys2Proof.Machine.execSandImm d a im s
  | .sorImm d a im => Sys2Proof.Machine.execSorImm d a im s
  | .sxorImm d a im => Sys2Proof.Machine.execSxorImm d a im s
  | .sshlImm d a n => Sys2Proof.Machine.execSshlImm d a n s
  | .sshrImm d a n => Sys2Proof.Machine.execSshrImm d a n s
  | .ssraImm d a n => Sys2Proof.Machine.execSsraImm d a n s
  | .scmpImm d a k im => Sys2Proof.Machine.execScmpImm d a k im s
  | .smovi d im => Sys2Proof.Machine.execSmovi d im s
  | .slih d im => Sys2Proof.Machine.execSlih d im s
  | .lds d a im => Sys2Proof.Machine.execLds d a im s
  | .sts d a im => Sys2Proof.Machine.execSts d a im s
  | .ldacq d a sc w => Sys2Proof.Machine.execLdacq d a sc w s
  | .strel d a sc w => Sys2Proof.Machine.execStrel d a sc w s
  | .atoms d a b sc f => Sys2Proof.Machine.execAtoms d a b sc f s
  | .bra o => Sys2Proof.Machine.execBra o s
  | .call o => Sys2Proof.Machine.execCall o s
  | .bz a o => Sys2Proof.Machine.execBz a o s
  | .bnz a o => Sys2Proof.Machine.execBnz a o s
  | .bany p t o => Sys2Proof.Machine.execBany p t o s
  | .ball p t o => Sys2Proof.Machine.execBall p t o s
  | .bnone p t o => Sys2Proof.Machine.execBnone p t o s
  | .split p o => Sys2Proof.Machine.execSplit p o s
  | .switch a v n => Sys2Proof.Machine.execSwitch a v n s
  | .spawnS a => Sys2Proof.Machine.execSpawnS a s
  | .spawnL a => Sys2Proof.Machine.execSpawnL a s
  | .fnew a b u => Sys2Proof.Machine.execFnew a b u s
  | .fjoin a b => Sys2Proof.Machine.execFjoin a b s
  | .fwait d a => Sys2Proof.Machine.execFwait d a s
  | .fput a b => Sys2Proof.Machine.execFput a b s
  | .copy a => Sys2Proof.Machine.execCopy a s
  | .copyM a b l n => Sys2Proof.Machine.execCopyM a b l n s
  | .mma a l n => Sys2Proof.Machine.execMma a l n s
  | .mmaMc a b l n => Sys2Proof.Machine.execMmaMc a b l n s
  | .accz n => Sys2Proof.Machine.execAccz n s
  | .accld a l n => Sys2Proof.Machine.execAccld a l n s
  | .accst a l n => Sys2Proof.Machine.execAccst a l n s
  | .cxopenIntersect a b n => Sys2Proof.Machine.execCxopenIntersect a b n s
  | .cxopenUnion a b n => Sys2Proof.Machine.execCxopenUnion a b n s
  | .cxopenExpand a n => Sys2Proof.Machine.execCxopenExpand a n s
  | .cxnext v d p n => Sys2Proof.Machine.execCxnext v d p n s
  | .cxsplit a b n => Sys2Proof.Machine.execCxsplit a b n s
  | .cxsave a n => Sys2Proof.Machine.execCxsave a n s
  | .cxload a n => Sys2Proof.Machine.execCxload a n s
  | .cxloadS a n => Sys2Proof.Machine.execCxloadS a n s
  | .cxclose n => Sys2Proof.Machine.execCxclose n s
  | .vadd d a b g => Sys2Proof.Machine.execVadd d a b g s
  | .vsub d a b g => Sys2Proof.Machine.execVsub d a b g s
  | .vmul d a b g => Sys2Proof.Machine.execVmul d a b g s
  | .vmulhI d a b g => Sys2Proof.Machine.execVmulhI d a b g s
  | .vand d a b g => Sys2Proof.Machine.execVand d a b g s
  | .vor d a b g => Sys2Proof.Machine.execVor d a b g s
  | .vxor d a b g => Sys2Proof.Machine.execVxor d a b g s
  | .vandn d a b g => Sys2Proof.Machine.execVandn d a b g s
  | .vshl d a b g => Sys2Proof.Machine.execVshl d a b g s
  | .vshr d a b g => Sys2Proof.Machine.execVshr d a b g s
  | .vsra d a b g => Sys2Proof.Machine.execVsra d a b g s
  | .vminI d a b g => Sys2Proof.Machine.execVminI d a b g s
  | .vmaxI d a b g => Sys2Proof.Machine.execVmaxI d a b g s
  | .vsel d a b q => Sys2Proof.Machine.execVsel d a b q s
  | .vmov d a g => Sys2Proof.Machine.execVmov d a g s
  | .vbcast d a g => Sys2Proof.Machine.execVbcast d a g s
  | .vminN d a b g => Sys2Proof.Machine.execVminN d a b g s
  | .vmaxN d a b g => Sys2Proof.Machine.execVmaxN d a b g s
  | .vmulhN d a b g => Sys2Proof.Machine.execVmulhN d a b g s
  | .vbfxI d a b g => Sys2Proof.Machine.execVbfxI d a b g s
  | .vbfxN d a b g => Sys2Proof.Machine.execVbfxN d a b g s
  | .vbfi d a b g => Sys2Proof.Machine.execVbfi d a b g s
  | .vclz d a g => Sys2Proof.Machine.execVclz d a g s
  | .vpopc d a g => Sys2Proof.Machine.execVpopc d a g s
  | .vbrev d a g => Sys2Proof.Machine.execVbrev d a g s
  | .vlaneid d g => Sys2Proof.Machine.execVlaneid d g s
  | .vmad d a b e n => Sys2Proof.Machine.execVmad d a b e n s
  | .vaddImm d a im => Sys2Proof.Machine.execVaddImm d a im s
  | .vandImm d a im => Sys2Proof.Machine.execVandImm d a im s
  | .vorImm d a im => Sys2Proof.Machine.execVorImm d a im s
  | .vxorImm d a im => Sys2Proof.Machine.execVxorImm d a im s
  | .vshlImm d a n => Sys2Proof.Machine.execVshlImm d a n s
  | .vshrImm d a n => Sys2Proof.Machine.execVshrImm d a n s
  | .vsraImm d a n => Sys2Proof.Machine.execVsraImm d a n s
  | .vmovImm d im => Sys2Proof.Machine.execVmovImm d im s
  | .vcmpInt p q a b t k => Sys2Proof.Machine.execVcmpInt p q a b t k s
  | .vcmpImm p q a im t k => Sys2Proof.Machine.execVcmpImm p q a im t k s
  | .vcmpF32 p q a b t k => Sys2Proof.Machine.execVcmpF32 p q a b t k s
  | .vfaddF32 d a b g => Sys2Proof.Machine.execVfaddF32 d a b g s
  | .vfsubF32 d a b g => Sys2Proof.Machine.execVfsubF32 d a b g s
  | .vfmulF32 d a b g => Sys2Proof.Machine.execVfmulF32 d a b g s
  | .vfminF32 d a b g => Sys2Proof.Machine.execVfminF32 d a b g s
  | .vfmaxF32 d a b g => Sys2Proof.Machine.execVfmaxF32 d a b g s
  | .vfdiv d a b g => Sys2Proof.Machine.execVfdiv d a b g s
  | .vfsqrt d a g => Sys2Proof.Machine.execVfsqrt d a g s
  | .vrcp d a g => Sys2Proof.Machine.execVrcp d a g s
  | .vrsq d a g => Sys2Proof.Machine.execVrsq d a g s
  | .vexp2 d a g => Sys2Proof.Machine.execVexp2 d a g s
  | .vlog2 d a g => Sys2Proof.Machine.execVlog2 d a g s
  | .vsin d a g => Sys2Proof.Machine.execVsin d a g s
  | .vcos d a g => Sys2Proof.Machine.execVcos d a g s
  | .vtanh d a g => Sys2Proof.Machine.execVtanh d a g s
  | .vfclassF32 d a g => Sys2Proof.Machine.execVfclassF32 d a g s
  | .vfcvtF32 d a k g => Sys2Proof.Machine.execVfcvtF32 d a k g s
  | .vfaddF16x2 d a b g => Sys2Proof.Machine.execVfaddF16x2 d a b g s
  | .vfsubF16x2 d a b g => Sys2Proof.Machine.execVfsubF16x2 d a b g s
  | .vfmulF16x2 d a b g => Sys2Proof.Machine.execVfmulF16x2 d a b g s
  | .vfminF16x2 d a b g => Sys2Proof.Machine.execVfminF16x2 d a b g s
  | .vfmaxF16x2 d a b g => Sys2Proof.Machine.execVfmaxF16x2 d a b g s
  | .vfclassF16x2 d a g => Sys2Proof.Machine.execVfclassF16x2 d a g s
  | .vfcvtF16x2 d a k g => Sys2Proof.Machine.execVfcvtF16x2 d a k g s
  | .vfaddBf16x2 d a b g => Sys2Proof.Machine.execVfaddBf16x2 d a b g s
  | .vfsubBf16x2 d a b g => Sys2Proof.Machine.execVfsubBf16x2 d a b g s
  | .vfmulBf16x2 d a b g => Sys2Proof.Machine.execVfmulBf16x2 d a b g s
  | .vfminBf16x2 d a b g => Sys2Proof.Machine.execVfminBf16x2 d a b g s
  | .vfmaxBf16x2 d a b g => Sys2Proof.Machine.execVfmaxBf16x2 d a b g s
  | .vfclassBf16x2 d a g => Sys2Proof.Machine.execVfclassBf16x2 d a g s
  | .vfcvtBf16x2 d a k g => Sys2Proof.Machine.execVfcvtBf16x2 d a k g s
  | .vfmaF32 d a b e n => Sys2Proof.Machine.execVfmaF32 d a b e n s
  | .vfmaF16x2 d a b e n => Sys2Proof.Machine.execVfmaF16x2 d a b e n s
  | .vfmaBf16x2 d a b e n => Sys2Proof.Machine.execVfmaBf16x2 d a b e n s
  | .pand d a b g => Sys2Proof.Machine.execPand d a b g s
  | .por d a b g => Sys2Proof.Machine.execPor d a b g s
  | .pxor d a b g => Sys2Proof.Machine.execPxor d a b g s
  | .pnot d a g => Sys2Proof.Machine.execPnot d a g s
  | .shflIdx d a b g => Sys2Proof.Machine.execShflIdx d a b g s
  | .shflUp d a b g => Sys2Proof.Machine.execShflUp d a b g s
  | .shflDown d a b g => Sys2Proof.Machine.execShflDown d a b g s
  | .shflXor d a b g => Sys2Proof.Machine.execShflXor d a b g s
  | .shflBcast d a b g => Sys2Proof.Machine.execShflBcast d a b g s
  | .vred d a g f => Sys2Proof.Machine.execVred d a g f s
  | .vscan d a k f => Sys2Proof.Machine.execVscan d a k f s
  | .ld d a b g n z => Sys2Proof.Machine.execLd d a b g n z s
  | .st d a b g n z => Sys2Proof.Machine.execSt d a b g n z s
  | .ldl d a b g z => Sys2Proof.Machine.execLdl d a b g z s
  | .ldlW d a b g z => Sys2Proof.Machine.execLdlW d a b g z s
  | .ldlWc d a b g z => Sys2Proof.Machine.execLdlWc d a b g z s
  | .stl d a b g z => Sys2Proof.Machine.execStl d a b g z s
  | .stlFill d a b g z => Sys2Proof.Machine.execStlFill d a b g z s
  | .atom d a b g f => Sys2Proof.Machine.execAtom d a b g f s
  | .atoml d a b g f => Sys2Proof.Machine.execAtoml d a b g f s
  | .pref a b g f => Sys2Proof.Machine.execPref a b g f s
  | .eventWrite vi => Sys2Proof.Machine.execEventWrite vi s
  | .resultArrival core slot id => Sys2Proof.Machine.execResultArrival core slot id s
  | .missStatusRetry core => Sys2Proof.Machine.execMissStatusRetry core s
  | .futureDelivery => Sys2Proof.Machine.execFutureDelivery s
  | .errorDelivery => Sys2Proof.Machine.execErrorDelivery s
  | .messageArrival src dst => Sys2Proof.Machine.execMessageArrival src dst s
  | .taskDispatch core => Sys2Proof.Machine.execTaskDispatch core s
  | .steal core => Sys2Proof.Machine.execSteal core s
  | .stagingStart cluster => Sys2Proof.Machine.execStagingStart cluster s
  | .stagingComplete cluster => Sys2Proof.Machine.execStagingComplete cluster s
  | .tileWritebackComplete core slot => Sys2Proof.Machine.execTileWritebackComplete core slot s
  | .copyStart core => Sys2Proof.Machine.execCopyStart core s
  | .copyCompletion core => Sys2Proof.Machine.execCopyCompletion core s
  | .matrixOpStart core => Sys2Proof.Machine.execMatrixOpStart core s
  | .matrixOpEnd core => Sys2Proof.Machine.execMatrixOpEnd core s
  | .brambleOpStart core => Sys2Proof.Machine.execBrambleOpStart core s
  | .mmaMcWindowLapse core => Sys2Proof.Machine.execMmaMcWindowLapse core s
  | .teamPlacement cluster => Sys2Proof.Machine.execTeamPlacement cluster s
  | .rootClosurePush core => Sys2Proof.Machine.execRootClosurePush core s
  | .switchOut core slot => Sys2Proof.Machine.execSwitchOut core slot s
  | .switchIn unit cores => Sys2Proof.Machine.execSwitchIn unit cores s
  | .preoffWindowExpiry core slot => Sys2Proof.Machine.execPreoffWindowExpiry core slot s
  | .periodStart cid => Sys2Proof.Machine.execPeriodStart cid s
  | .budgetExhausted cid => Sys2Proof.Machine.execBudgetExhausted cid s
  | .jobEnd jid => Sys2Proof.Machine.execJobEnd jid s
  | .sweepVisit stack => Sys2Proof.Machine.execSweepVisit stack s
  | .sweepTest core => Sys2Proof.Machine.execSweepTest core s
  | .testResult core failing => Sys2Proof.Machine.execTestResult core failing s
  | .drainmaxExpiry stack => Sys2Proof.Machine.execDrainmaxExpiry stack s
  | .coreGated core => Sys2Proof.Machine.execCoreGated core s
  | .launch vi => Sys2Proof.Machine.execLaunch vi s
  | .createContract vi => Sys2Proof.Machine.execCreateContract vi s
  | .destroyContract vi => Sys2Proof.Machine.execDestroyContract vi s
  | .drainJob vi => Sys2Proof.Machine.execDrainJob vi s
  | .cmdUndefined vi => Sys2Proof.Machine.execCmdUndefined vi s
  | .graftRead vi => Sys2Proof.Machine.execGraftRead vi s
  | .regraft vi => Sys2Proof.Machine.execRegraft vi s
  | .capRead vi => Sys2Proof.Machine.execCapRead vi s
  | .capFence vi => Sys2Proof.Machine.execCapFence vi s
  | .capRetest vi => Sys2Proof.Machine.execCapRetest vi s
  | .sweepSet vi => Sys2Proof.Machine.execSweepSet vi s
  | .migrate vi => Sys2Proof.Machine.execMigrate vi s
  | .migrateEnd id => Sys2Proof.Machine.execMigrateEnd id s
  | .groupSet vi => Sys2Proof.Machine.execGroupSet vi s
  | .powerSetClockStep vi => Sys2Proof.Machine.execPowerSetClockStep vi s
  | .powerSetGate vi => Sys2Proof.Machine.execPowerSetGate vi s
  | .powerSetHbmRefresh vi => Sys2Proof.Machine.execPowerSetHbmRefresh vi s
  | .alarmSet vi => Sys2Proof.Machine.execAlarmSet vi s
  | .viSet vi => Sys2Proof.Machine.execViSet vi s
  | .attest vi => Sys2Proof.Machine.execAttest vi s
  | .retransmit dest tag => Sys2Proof.Machine.execRetransmit dest tag s
  | .illegalInstruction w => Sys2Proof.Machine.execIllegalInstruction w s
  | .brambleOpEnd core => Sys2Proof.Machine.execBrambleOpEnd core s
  | .sqdbWrite vi v => Sys2Proof.Machine.execSqdbWrite vi v s
  | .sqblWrite vi v => Sys2Proof.Machine.execSqblWrite vi v s
  | .eqblWrite vi v => Sys2Proof.Machine.execEqblWrite vi v s
  | .vipasWrite vi v => Sys2Proof.Machine.execVipasWrite vi v s
  | .registerWrite vi offset v => Sys2Proof.Machine.execRegisterWrite vi offset v s
  | .moduleReset v => Sys2Proof.Machine.execModuleReset v s
  | .stackReset v => Sys2Proof.Machine.execStackReset v s
  | .clusterReset v => Sys2Proof.Machine.execClusterReset v s
  | .mevtClear v => Sys2Proof.Machine.execMevtClear v s
  | .inventory => Sys2Proof.Machine.execInventory s
  | .sensors => Sys2Proof.Machine.execSensors s
  | .i3cPower kind target value => Sys2Proof.Machine.execI3cPower kind target value s
  | .i3cAttest nonce => Sys2Proof.Machine.execI3cAttest nonce s
  | .status => Sys2Proof.Machine.execStatus s
  | .i3cReset => Sys2Proof.Machine.execI3cReset s
  | .fwWrite offset image => Sys2Proof.Machine.execFwWrite offset image s
  | .fwCommit length => Sys2Proof.Machine.execFwCommit length s
  | .i3cUnknownCommand bytes => Sys2Proof.Machine.execI3cUnknownCommand bytes s
  | .translationCompletion pasid page write answer => Sys2Proof.Machine.execTranslationCompletion pasid page write answer s
  | .pageResponse pasid page write answer => Sys2Proof.Machine.execPageResponse pasid page write answer s
  | .invalidateRequest pasid va size => Sys2Proof.Machine.execInvalidateRequest pasid va size s
  | .peerRequest src tag op => Sys2Proof.Machine.execPeerRequest src tag op s
  | .linkAck dest tag reply => Sys2Proof.Machine.execLinkAck dest tag reply s
  | .currentAlarmHigh stack => Sys2Proof.Machine.execCurrentAlarmHigh stack s
  | .currentAlarmLow stack => Sys2Proof.Machine.execCurrentAlarmLow stack s
  | .lineEviction level unit line => Sys2Proof.Machine.execLineEviction level unit line s
  | .numvfsWrite n => Sys2Proof.Machine.execNumvfsWrite n s
  | .dynamicAddressAssignment addr => Sys2Proof.Machine.execDynamicAddressAssignment addr s

end Sys2Proof.Machine
end

