-- ==== Sys2Proof/Machine/Issue.lean ====
section
/-!
DEFINITION. The issue choices of a partition (R19, R37, R38): which arm is ready, what it issues (R99 to R106), and what its pipes
accept in a cycle.
-/

namespace Sys2Proof.Machine

/-- Executes a word for an arm. -/
def State.runWord (s : State) (r : ArmRef) (i : Instr) : Host.Outcome State Fault Refusal :=
  match exec i { s with cur := some r } with
  | .next t => .next { t with cur := none }
  | o => o

/-- A live arm. -/
def State.arm? (s : State) (r : ArmRef) : Option Arm := (s.wave? r.core r.slot).bind (fun w => NMap.get? w.arms r.arm)

/-- What an arm is held by; an arm that has ended is held by nothing. -/
def State.holdOf (s : State) (r : ArmRef) : Hold :=
  match s.arm? r with
  | some a => a.hold
  | none => .none

/-- Whether an arm's next word may be tried: it is not held until something wakes it. -/
def Hold.free : Hold → Bool
  | .none => true
  | .wait _ => true
  | _ => false

/-- Whether an arm still lives. -/
def State.armLives (s : State) (r : ArmRef) : Bool := (s.arm? r).isSome

/-- How many instructions of an arm have issued and wait. -/
def Arm.waiting (a : Arm) : Nat := (if a.cap.isSome then 1 else 0) + (if a.also.isSome then 1 else 0)

/-- Whether an arm's word has not issued in the step from `s` to `t`, or has issued before and still waits. -/
def State.waits (s : State) (r : ArmRef) (t : State) : Bool :=
  match s.arm? r, t.arm? r with
  | some a, some b => match b.hold with
    | .wait _ => b.cap.isNone || (a.cap.isSome && decide (a.waiting ≤ b.waiting))
    | _ => false
  | _, _ => false

/-! ### Pipes -/

/-- How many words a pipe accepts in a cycle: one, but two on the scalar pipe, as R384 has two MERGEs in one cycle, and on the vector
pipe of a ganged core (R19; assumption 38). -/
def State.pipeWidth (s : State) (core : Nat) (p : Pipe) : Nat := if p = .scalar ∨ (p = .vector ∧ s.isGanged core) then 2 else 1

/-- Cycles for which a word occupies its pipe (R19, R140). -/
def State.occupies (s : State) (core : Nat) (p : Pipe) : Nat := if p = .sfu then (if s.isGanged core then 2 else 4) else 1

/-- Whether a partition's pipe can accept a word in this cycle (R38). -/
def State.pipeFree (s : State) (core part : Nat) (p : Pipe) : Bool :=
  p == .none || decide (((s.core core).busy.filter (fun e => e.1 == part && e.2.1 == p)).length < s.pipeWidth core p)

/-- A word goes to its pipe. -/
def State.takePipe (s : State) (core part : Nat) (i : Instr) : State :=
  if pipe i = .none then s
  else s.modCore core (fun k => { k with busy := k.busy ++ [(part, pipe i, s.occupies core (pipe i))] })

/-- The partition of a slot (R41). -/
def ArmRef.part (r : ArmRef) : Nat := r.slot / 16

/-! ### One arm -/

/-- Notes the time of an issue (R38); the packet of the arm has been fetched. -/
def State.noteIssue (s : State) (r : ArmRef) : State :=
  s.modArm r (fun a => { a with last := (s.stack (stackOf r.core)).ck, refetch := false })

/-- What follows the run of words from `s`: a word that waits has not issued; one that issues goes to its pipe, and the time is
noted. -/
def State.issued (s : State) (r : ArmRef) (is : List Instr) : Host.Outcome State Fault Refusal → Host.Outcome State Fault Refusal
  | .next t => .next (if s.waits r t then t else (is.foldl (fun t i => t.takePipe r.core r.part i) t).noteIssue r)
  | o => o

/-- The second word of a pair whose first word has issued and waits, held by `h` with the capture `x`: it issues in the same cycle,
and the arm stays held at the first, and at the second where that waits too (R103). A MERGE behind a word that waits, or an EXIT behind a
store or an atomic that waits, is performed when that word is done, as the arm that it ends still holds it; of a SPLIT or a SWITCH behind
a word that waits part 1 holds that word, as which the arm goes on (R56): both are the model's choices (assumption 6). -/
def State.secondOf (s t : State) (r : ArmRef) (h : Hold) (x : Capture) (d : Ctx) (j : Instr) : Host.Outcome State Fault Refusal :=
  let at_ (u : State) : ArmRef := if (t.wave? r.core r.slot).any (fun w => !w.isSplit) && (u.wave? r.core r.slot).any Wave.isSplit then { r with arm := 0 } else r
  let both (h2 : Hold) (y : Capture) (u : State) : State :=
    u.modArm r (fun a => { { a with cap := none, also := none, paired := false }.advance with
      hold := h, cap := some x, also := some (h2, y), paired := true })
  let t := t.modArm r (fun a => { a.advance with cap := none })
  let y : Capture := { d.capture 0 with pc := ((t.arm? r).map (fun a => a.pc)).getD 0, word := ((t.arm? r).map (fun a => a.word)).getD 0 }
  if j = .merge ∨ (j = .exit ∧ storesOrAtomic x.ins) then .next (both (.wait .earlier) y t)
  else match t.runWord r j with
    | .next u => match u.arm? r with
      | none => .next u
      | some b => match b.hold, b.cap with
        | .none, _ => .next (u.modArm (at_ u) (fun a => { a with hold := h, cap := some x, paired := true }))
        | .wait w, none => .next (s.hold r w)
        | h2, z => .next (both h2 (z.getD y) u)
    | o => o

/-- A chained pair (R103): both words are tested before either issues, the first executes before the second, and a second
word that must wait takes the first back. Of a mapping or a port setting that the first word changes, which R103 names no conflict, the
second is tested against the old and executes on the new: that is the model's choice (assumption 40). -/
def State.issuePair (s : State) (r : ArmRef) (i j : Instr) : Host.Outcome State Fault Refusal :=
  let s' := { s with cur := some r }
  match s'.ctx? i, s'.ctx? j with
  | some c, some d =>
    match c.check (s.core r.core) i, d.check (s.core r.core) j with
    | .trap p x, _ => .next (c.emptyTrap p x s)
    | .wait w, _ => .next (s.hold r w)
    | _, .trap p x => .next (c.emptyTrap p x s)
    | _, .wait w => .next (s.hold r w)
    | _, _ =>
      match s.runWord r i with
      | .next t =>
        match t.arm? r with
        | none => .next t
        | some a =>
          if s.waits r t then .next t
          else if a.hold = .none then
            match t.runWord r j with
            | .next u => .next (if t.waits r u then s.hold r .ring else u)
            | o => o
          else s.secondOf t r a.hold (a.cap.getD (c.capture 0)) d j
      | o => o
  | _, _ => .next s

/-- Whether the engine queue that a word goes to is full, by its opcode alone: such a word does not issue and meets none of its
checks, those of its fields among them (R320). -/
def Core.wordQueueFull (k : Core) (x : Nat) : Bool :=
  let fn := x / 2 ^ 20 % 2 ^ 5
  x / 2 ^ 25 % 2 ^ 6 == 0x1B &&
    (if fn = 0 then decide (16 ≤ k.copyQ.length) || (x / 8 % 2 == 1 && decide (8 ≤ k.matQ.length))
     else if 4 ≤ fn ∧ fn < 8 then decide (8 ≤ k.matQ.length)
     else decide (8 ≤ fn ∧ fn < 14 ∧ 8 ≤ k.brQ.length))

/-- What an arm does with what its fetch has found. -/
def State.issueFetched (s : State) (r : ArmRef) (j : Job) (a : Arm) (f : Fetched) :
    Host.Outcome State Fault Refusal :=
  let halt (t : State) (pc word : Nat) (cause : Word) (addr : Nat) : Host.Outcome State Fault Refusal :=
    .next (t.haltWave r.core r.slot ⟨pc, word, a.exm, false⟩ cause addr [] true)
  match f with
  | .miss va => .next (s.holdPage r j.pasid va)
  | .fault code det addr => halt (s.touchCode r.core j a.pc) a.pc a.word (faultCause code det) addr
  | .poisoned pc addr => halt (if pc = a.pc then s.touchCode r.core j pc else s.touchPair r.core j a) pc 0 (faultCause 0x13 0) addr
  | .chain => halt (s.touchFetched r.core j a) a.pc a.word (faultCause 0x11 0) (j.wordVA a)
  | .illegal pc word w =>
    if (s.core r.core).wordQueueFull w then .next (s.hold r .engineQueue)
    else ((s.touchFetched r.core j a).modArm r (fun a => { a with pc := pc, word := word })).runWord r (.illegalInstruction (BitVec.ofNat 32 w))
  | .one i =>
    if s.pipeFree r.core r.part (pipe i) then s.issued r [i] ((s.touchCode r.core j a.pc).runWord r i) else .next (s.hold r .pipe)
  | .two i k =>
    if s.pipeFree r.core r.part (pipe i) && s.pipeFree r.core r.part (pipe k) then
      s.issued r [i, k] ((s.touchPair r.core j a).issuePair r i k)
    else .next (s.hold r .pipe)

/-- An arm of an ended wave that has performed what it still had to is no more, and the wave's slot may be free (R357). -/
def State.reap (s : State) (r : ArmRef) : State :=
  match s.wave? r.core r.slot with
  | some w =>
    if w.ended && (NMap.get? w.arms r.arm).any (fun a => a.cap.isNone) then
      (s.modWave r.core r.slot (fun w => { w with arms := NMap.del w.arms r.arm })).settle r.core
    else s
  | none => s

/-- A captured instruction runs again; where the other word of its pair waits too and may be tried, that one does when this still
waits. -/
def State.issueCaptured (s : State) (r : ArmRef) (q : Capture) : Host.Outcome State Fault Refusal :=
  let reaped (o : Host.Outcome State Fault Refusal) : Host.Outcome State Fault Refusal :=
    match o with
    | .next t => .next (t.reap r)
    | o => o
  let s := s.modArm r (Arm.facing Hold.free)
  match s.runWord r q.ins with
  | .next t =>
    if !s.waits r t then .next (t.reap r)
    else match (s.arm? r).bind (fun a => a.also) with
      | some (h, x) => if h.free then reaped ((s.modArm r Arm.swap).runWord r x.ins) else .next t
      | none => .next t
  | o => o

/-- What an arm that is chosen does: a captured instruction runs again, else the arm's next word or pair issues unless something
holds it. An arm past the last packet faults before any fetch (R102). -/
def State.issueArm (s : State) (r : ArmRef) : Host.Outcome State Fault Refusal :=
  match s.wave? r.core r.slot with
  | none => .next s
  | some w =>
    match NMap.get? w.arms r.arm with
    | none => .next s
    | some a =>
      let j := s.job (s.team w.tid).job
      if !a.heldBy Hold.free then .next s
      else match (a.facing Hold.free).cap with
        | some q => s.issueCaptured r q
        | none =>
          if j.npkt ≤ a.pc then
            .next (s.haltWave r.core r.slot ⟨j.npkt, 0, a.exm, false⟩ (faultCause 0x10 0) (j.cbase + 12 * j.npkt) [] true)
          else s.issueFetched r j a (s.fetch r.core w j a)

/-! ### One choice of a partition -/

/-- The order of R38 among arms: the arm that has gone longest without issuing, then its slot's turn in the partition at
the stack's count, then live arm 0. -/
def State.before (s : State) (x y : ArmRef × Wave × Arm) : Bool :=
  let turn (r : ArmRef) : Nat := (r.slot % 16 + 16 - (s.stack (stackOf r.core)).ck % 16) % 16
  let key (e : ArmRef × Wave × Arm) : Nat × Nat × Nat := (e.2.2.last, turn e.1, e.1.arm)
  let a := key x
  let b := key y
  a.1 < b.1 || (a.1 == b.1 && (a.2.1 < b.2.1 || (a.2.1 == b.2.1 && decide (a.2.2 < b.2.2))))

/-- Whether a unit's arms issue nothing: its switch has been requested, and no window of PREOFF is open (R272), or side-log entries that
it has brought back from a switch are not performed yet (R288). -/
def State.stopped (s : State) (tid : Nat) : Bool :=
  ((s.team tid).switching && s.waves.all (fun e => e.2.2.tid != tid || e.2.2.pres == 0#32)) ||
    (s.team tid).cores.any (fun c => (s.core c).sideLog.any (fun e => e.tid == tid && e.saved))

/-- The live arms of a partition, in the order of R38. -/
def State.partArms (s : State) (core part : Nat) : List (ArmRef × Wave × Arm) :=
  ((s.core core).slots.flatMap (fun e =>
    if e.1 / 16 = part then e.2.arms.map (fun a => ((⟨core, e.1, a.1⟩ : ArmRef), e.2, a.2)) else [])).insertionSort (fun x y => !(s.before y x))

/-- The choices that a partition has made in this cycle (R38). -/
def Core.turns (k : Core) (part : Nat) : Nat := (k.chosen.filter (fun r => r.part == part)).length

/-- The arms of a partition that may be tried, in the order of R38. An arm that has been chosen in this cycle is not chosen again in
it: R38 does not say, and this is the model's choice (assumption 40). -/
def State.candidates (s : State) (core part : Nat) : List (ArmRef × Wave × Arm) :=
  (s.partArms core part).filter (fun e => e.2.2.heldBy Hold.free && !(s.core core).chosen.contains e.1 && !s.stopped e.2.1.tid)

/-- Tries arms in order: the first that does not wait is chosen. -/
def State.tryArms (s : State) : List (ArmRef × Wave × Arm) → Option (ArmRef × Arm × Host.Outcome State Fault Refusal)
  | [] => none
  | e :: es =>
    match s.issueArm e.1 with
    | .next t => if s.waits e.1 t then s.tryArms es else some (e.1, e.2.2, .next t)
    | o => some (e.1, e.2.2, o)

/-- A choice is counted; the run of a captured instruction is none (R38). -/
def State.countTurn (core : Nat) (x : ArmRef × Arm × Host.Outcome State Fault Refusal) : Host.Outcome State Fault Refusal :=
  match x.2.2 with
  | .next t => .next (if x.2.1.cap.isSome then t else t.modCore core (fun k => { k with chosen := k.chosen ++ [x.1] }))
  | o => o

/-- Whether an arm's next word, or the word chained to it, is a MERGE. -/
def State.mergesNext (s : State) (e : ArmRef × Wave × Arm) : Bool :=
  e.2.2.cap.isNone && (match s.fetch e.1.core e.2.1 (s.job (s.team e.2.1.tid).job) e.2.2 with | .one .merge | .two _ .merge => true | _ => false)

/-- The MERGEs of both live arms of a wave in one cycle: where live arm 1 would go first, live arm 0 does (R384). -/
def State.mergeFirst (s : State) (core part : Nat) (x : ArmRef × Arm × Host.Outcome State Fault Refusal) :
    ArmRef × Arm × Host.Outcome State Fault Refusal :=
  let mates := (s.partArms core part).filter (fun e => e.1.slot == x.1.slot)
  if x.1.arm = 1 ∧ (s.core core).turns part = 0 ∧ mates.length = 2 ∧ mates.all s.mergesNext then
    match State.countTurn core x with
    | .next t =>
      if (t.tryArms (t.candidates core part)).any (fun y => y.1 == { x.1 with arm := 0 }) then
        (s.tryArms (mates.filter (fun e => e.1.arm == 0))).getD x
      else x
    | _ => x
  else x

/-- The next choice of a partition in this cycle, if it has one: at most two (R38). -/
def State.choice (s : State) (core part : Nat) : Option (Host.Outcome State Fault Refusal) :=
  if 2 ≤ (s.core core).turns part then none
  else (s.tryArms (s.candidates core part)).map (fun x => State.countTurn core (s.mergeFirst core part x))

/-- The partition makes its next choice (R38), or has none to make. -/
def State.issue (s : State) (core part : Nat) : Host.Outcome State Fault Refusal := (s.choice core part).getD (.next s)

/-! ### Cycles -/

/-- Choices of a partition, as many as it has up to a number. -/
def State.choices (core part : Nat) : Nat → State → State
  | 0, s => s
  | n + 1, s =>
    match s.choice core part with
    | some (.next t) => State.choices core part n t
    | _ => s

/-- The partitions of a stack: core and partition. -/
def State.partsOf (s : State) (stack : Nat) : List (Nat × Nat) :=
  (s.cores.filter (fun (e : Nat × Core) => stackOf e.1 == stack && !e.2.slots.isEmpty)).flatMap (fun e => (List.range 4).map (fun p => (e.1, p)))

/-- Tasks of a core are dispatched, as many as it can take (R37). -/
def State.dispatches (core : Nat) : Nat → State → State
  | 0, s => s
  | n + 1, s =>
    match exec (.taskDispatch core) s with
    | .next t => if (t.core core).deque.length < (s.core core).deque.length then State.dispatches core n t else s
    | _ => s

/-- What a stack does before a cycle passes: tasks that can be dispatched are (R37), and each partition makes its choices. -/
def State.fillCycle (s : State) (stack : Nat) : State :=
  let s := (s.cores.filter (fun (e : Nat × Core) => stackOf e.1 == stack && !e.2.deque.isEmpty)).foldl (fun s e => State.dispatches e.1 64 s) s
  (s.partsOf stack).foldl (fun s e => State.choices e.1 e.2 64 s) s

/-- Whether no partition of a stack can choose, and no pipe of it is busy: cycles change nothing that is ready. -/
def State.idle (s : State) (stack : Nat) : Bool :=
  s.cores.all (fun (e : Nat × Core) => stackOf e.1 != stack || (e.2.deque.isEmpty && e.2.busy.isEmpty && e.2.chosen.isEmpty)) &&
    !s.arms.any (fun e => stackOf e.1.core == stack && (s.rdvReturn e.2.1 e.2.2).isSome) &&
    (s.partsOf stack).all (fun e => (s.choice e.1 e.2).isNone)

/-- Cycles of a stack pass; before each, the stack does what it can (R25, R37, R38). -/
def State.cycles (stack : Nat) : Nat → State → State
  | 0, s => s
  | n + 1, s => if s.idle stack then s.pass stack (n + 1) else State.cycles stack n ((s.fillCycle stack).pass stack 1)

end Sys2Proof.Machine
end

