-- ==== Sys2Proof/Machine/Due.lean ====
section
/-!
DEFINITION. The order in which the machine acts when its agenda names nothing (assumption 2): first the steps of the device that
are due, then an issue choice by the age order of R38, else one cycle of every stack.
-/

namespace Sys2Proof.Machine

/-- Steps of the device that may be due for the waves of a core. -/
def slotDue (c : Nat) (e : Nat × Wave) : List Instr :=
  Instr.tileWritebackComplete c e.1 :: (e.2.inflight.filter (fun p => p.left == 0)).map (fun p => Instr.resultArrival c e.1 p.id)

/-- Steps of the engines and of the dispatcher of a core that may be due. -/
def engineDue (c : Nat) : List Instr :=
  [Instr.brambleOpEnd c, Instr.brambleOpStart c, Instr.matrixOpEnd c, Instr.matrixOpStart c, Instr.mmaMcWindowLapse c,
   Instr.copyCompletion c, Instr.copyStart c, Instr.taskDispatch c, Instr.coreGated c, Instr.sweepTest c]

/-- Steps of the device that may be due on a core. -/
def coreDue (e : Nat × Core) : List Instr :=
  List.append (e.2.slots.flatMap (slotDue e.1))
    (List.append (engineDue e.1) (e.2.txq.map (fun m => Instr.messageArrival e.1 m.dst)))

/-- The retry of a core's oldest rejected access, when it would not be rejected again (R175, R176). -/
def State.retryDue (s : State) (c : Nat) (k : Core) : List Instr :=
  match k.claim.or ((k.rejects.head?).map (fun e => e.1)) with
  | some r =>
    match (s.modArm r (fun a => { a.facing Hold.isRejected with hold := .none })).issueArm r with
    | .next t => if (t.arm? r).any (fun a => a.heldBy Hold.isRejected) then [] else [Instr.missStatusRetry c]
    | _ => [Instr.missStatusRetry c]
  | none => if k.sideLog.isEmpty then [] else [Instr.missStatusRetry c]

/-- Steps of the submission and event queues of an interface that may be due. -/
def ifaceDue (v : Nat) : List Instr :=
  [Instr.eventWrite v, Instr.launch v, Instr.createContract v, Instr.destroyContract v, Instr.drainJob v,
   Instr.cmdUndefined v, Instr.graftRead v, Instr.regraft v, Instr.capRead v, Instr.capFence v, Instr.capRetest v,
   Instr.sweepSet v, Instr.migrate v, Instr.groupSet v, Instr.powerSetClockStep v, Instr.powerSetGate v,
   Instr.powerSetHbmRefresh v, Instr.alarmSet v, Instr.viSet v, Instr.attest v]

/-- The scheduler's next placement, on the first core or cluster that takes it (R261). -/
def State.placeDue (s : State) : List Instr :=
  match s.nextJob with
  | none => []
  | some jid =>
    if (s.job jid).task then ((allCores.find? (fun c => (s.rootFit c jid).isSome)).map Instr.rootClosurePush).toList
    else [Instr.teamPlacement ((allClusters.find? (fun cl => (s.teamFit cl jid).isSome)).getD 0)]

/-- A steal by the first core that can make one; thieves matter only while a deque holds an entry (R94). -/
def State.stealDue (s : State) : List Instr :=
  if s.cores.all (fun e => e.2.deque.isEmpty) then []
  else ((allCores.find? (fun c => !(s.core c).freeSlots.isEmpty && !s.hasWork c &&
    (s.stealChoice c).isSome)).map Instr.steal).toList

/-- Switches that have been requested, and units that can resume on the lowest cores that take them (R270, R272). -/
def State.switchDue (s : State) : List Instr :=
  (s.requestSwitches.teams.filter (fun t => t.2.switching)).flatMap (fun t => ((s.teamWaves t.1).head?).map (fun w => Instr.switchOut w.1 w.2.1) |>.toList) ++
    s.units.map (fun u => Instr.switchIn u.1 (s.unitCores u.2))

/-- Steps of a contract that may be due. -/
def contractDue (e : Nat × Contract) : List Instr := [Instr.periodStart e.1, Instr.budgetExhausted e.1]

/-- Steps of a cluster that may be due. -/
def clusterDue (e : Nat × Cluster) : List Instr := [Instr.stagingComplete e.1, Instr.stagingStart e.1]

/-- Every step of the device that may be due, in a fixed order. -/
def State.dueList (s : State) : List Instr :=
  (s.contracts.map contractDue ++ [s.switchDue] ++ [[Instr.futureDelivery, Instr.errorDelivery]] ++
    s.cores.map (fun e => s.retryDue e.1 e.2) ++ s.cores.map coreDue ++ s.clusters.map clusterDue ++ [s.stealDue] ++
    [s.migrations.map (fun m => Instr.migrateEnd m.id)] ++ s.vis.map (fun e => ifaceDue e.1) ++
    s.stk.map (fun e => [Instr.drainmaxExpiry e.1]) ++ [s.placeDue] ++
    s.jobs.map (fun e => if e.2.ended then [] else [Instr.jobEnd e.1])).flatten

/-- Whether a step changes something at a state. -/
def enabled (i : Instr) (s : State) : Bool :=
  match exec i { s with cur := none } with
  | .next t => t != { s with cur := none }
  | _ => true

/-- The stacks that hold anything. -/
def State.liveStacks (s : State) : List Nat := ((s.cores.map (fun (e : Nat × Core) => stackOf e.1)) ++ s.stk.map (fun e => e.1)).dedup

/-- The machine's move when the agenda is empty. -/
def State.defaultMove (s : State) : Host.Outcome State Fault Refusal :=
  match s.dueList.find? (fun i => enabled i s) with
  | some i => exec i { s with cur := none }
  | none =>
    match (s.liveStacks.flatMap s.partsOf).findSome? (fun e => s.choice e.1 e.2) with
    | some o => o
    | none => .next (s.liveStacks.foldl (fun s k => s.pass k 1) s)

/-- One move of the agenda. In recovery the links answer nothing: only the management port does (R314). -/
def State.perform (s : State) (m : Move) : Host.Outcome State Fault Refusal :=
  match m with
  | .event i => exec i { s with cur := none }
  | .issue core part => s.issue core part
  | .tick k n => .next (State.cycles k n s)
  | .kblock core => .next (s.kblock core)
  | .copyRun core => .next (s.copyRun core)
  | .tileRun core slot => .next (s.tileRun core slot)
  | .ecc place => .next (s.eccError place)
  | .priAllocation n => .next (if s.pf.rcv then s else ({ s with priLimit := n }).sendQueued)
  | .moduleNumber n => .next (if s.pf.rcv then s else { s with module := n % 2 ^ 12 })

/-! ### Placing a word where the next issue fetches it -/

/-- The arm that `State.withFetchWord` uses: the oldest of the partition of the first arm that lives, else live arm 0 of slot 0 of
core 0. -/
def State.fetchArm (s : State) : ArmRef :=
  let r := ((s.arms.head?).map (fun e => e.1)).getD ⟨0, 0, 0⟩
  (((s.partArms r.core r.part).head?).map (fun e => e.1)).getD r

/-- The job that a load of a program from outside makes when no wave is resident (assumption 24): one team of one wave on
core 0, every capability class, 16 packets at virtual address 0. -/
def placedJob : Job :=
  { jid := 1, vi := 0, pasid := 1, num := 1, task := false, npkt := 16, cbase := 0, entry := 0, srb := 8,
    oum := 0x07FFFFFF#64, plim := 65536, scr := 131072, fifo := 1, started := 1 }

/-- Its team. -/
def placedTeam : Team := { tid := 1, job := 1, num := 0, cluster := 0, cores := [0], size := 1, alive := 1, fifoN := 1, alloc := 1 }

/-- Its wave. -/
def placedWave : Wave := { uid := 1, tid := 1, idx := 0, isTask := false, handler := false, vregN := 64, sregN := 512 }

/-- A state with a wave that can fetch. -/
def State.withWave (s : State) : State :=
  if !s.arms.isEmpty then s
  else
    { s.modCore 0 (fun k => { k with slots := NMap.put k.slots 0 placedWave }) with
      jobs := NMap.put s.jobs 1 placedJob, teams := NMap.put s.teams 1 placedTeam,
      allocs := NMap.put s.allocs 1 { aid := 1, job := 1, cluster := 0, bytes := 131072, ofTeam := true }, handles := s.handles + 1 }

/-- The arm stands at the first word of a packet that exists, held by nothing, and its partition may choose. -/
def State.readyArm (s : State) (r : ArmRef) (npkt : Nat) : State :=
  (s.modArm r (fun a => { a with pc := if npkt ≤ a.pc then 0 else a.pc, word := 0, hold := .none, cap := none, paired := false, also := none })).modCore r.core
    (fun k => { k with chosen := [], busy := [] })

/-- Writes a packet at a virtual address of a core's address space, with a translation of its page if there is none. -/
def State.putPacket (s : State) (core pasid va : Nat) (bs : List Byte) : State :=
  match s.xlate core pasid va false with
  | .hit t => s.outsideWrite pasid t bs
  | .miss =>
    (s.modCore core (fun k => { k with tlb :=
      { pasid := pasid, base := va / 2097152 * 2097152, size := 2097152, target := .dpa (va / 2097152 * 2097152 % 2 ^ 40), r := true, w := true }
        :: k.tlb })).outsideWrite pasid (.dpa (va % 2 ^ 40)) bs

/-- The bytes of a packet that begins with a word and is zero behind it. -/
def packetOf (w : Nat) : List Byte := natBytes 12 (w % 2 ^ 32)

end Sys2Proof.Machine
end

