-- ==== Sys2Proof/Machine/Step.lean ====
section
/-!
DEFINITION. One step of the machine, and the placing of a word where the step fetches.
-/

namespace Sys2Proof.Machine

/-- One step: the agenda's next move, or the machine's own when the agenda is empty. -/
def step (s : State) : Host.Outcome State Fault Refusal :=
  match s.agenda with
  | m :: rest => State.perform { s with agenda := rest } m
  | [] => s.defaultMove

/-- The state with an instruction word stored where the next step fetches it (assumption 24). -/
def State.withFetchWord (s : State) (_nbits w : Nat) : State :=
  let s := s.withWave
  let r := s.fetchArm
  let j := s.job (s.team (((s.wave? r.core r.slot).map (fun w => w.tid)).getD 0)).job
  let s := s.readyArm r j.npkt
  let pc := (((s.wave? r.core r.slot).bind (fun w => NMap.get? w.arms r.arm)).map (fun a => a.pc)).getD 0
  { s.putPacket r.core j.pasid (j.packetVA pc) (packetOf w) with agenda := [.issue r.core r.part] }

end Sys2Proof.Machine
end

