-- ==== Sys2Proof/Safety.lean ====
section
/-!
DEFINITION. What a safe run is, and the terms in which the statements speak of an instruction that executes.
-/

namespace Sys2Proof

open Sys2Proof.Machine

/-- A step from the state answers a next state. -/
def stepsOn (s : State) : Prop := ∃ t, step s = .next t

/-- `n` steps from the state each answer a next state. -/
def safeFor : Nat → State → Prop
  | 0, _ => True
  | n + 1, s => ∃ t, step s = .next t ∧ safeFor n t

namespace Machine

/-- The word `i` executes in the state, in the context `c`: a live arm issues it (R38), not one whose instruction waits with its
operands captured, alone or with the word chained to it (R103); it names no register that its wave
lacks, no source or destination of it is empty, no predicate of it is held, its stream ports and its engine's queue have room
(R42, R52, R181, R182, R241); and its job and its core have its class (R300). -/
structure Ready (s : State) (i : Instr) (c : Ctx) : Prop where
  ctx : s.ctx? i = some c
  fresh : c.arm.cap = none
  single : c.arm.also = none
  go : c.check (s.core c.r.core) i = .go
  cls : ∀ k, classOf i = some k → s.classFault c.r.core c.job k = none

/-- The state once the core's run log has noted the instruction's class (R305). -/
def State.noted (s : State) (c : Ctx) (i : Instr) : State :=
  match classOf i with
  | some k => s.noteClass c.r.core c.job.jid k
  | none => s

/-- The context and the state in which the instruction's own effect takes place: its class is noted, and the elements of the
stream ports that it reads are popped (R181, R305). -/
def State.begun (s : State) (c : Ctx) (i : Instr) : Ctx × State := c.pop (uses i) (s.noted c i)

/-- The run log of the issuing core has room for the instruction's class, or holds it already (R305). -/
def State.logRoom (s : State) (c : Ctx) (i : Instr) : Prop :=
  ∀ k, classOf i = some k →
    (s.core c.r.core).runLog.contains (c.job.jid, k) = true ∨ (s.core c.r.core).runLog.length < 256

/-- Two states hold the same bytes in device memory and in host memory, and the same poison (R177). -/
def State.sameMemory (s t : State) : Prop :=
  (∀ a, t.mem.read a = s.mem.read a) ∧ (∀ a, t.hostMem.read a = s.hostMem.read a) ∧ t.poison = s.poison

/-- Two states hold the same bytes, poison and full granules in every SCRATCH allocation (R158, R168). -/
def State.sameScratch (s t : State) : Prop :=
  ∀ a, (∀ k, (t.alloc a).cells.read k = (s.alloc a).cells.read k) ∧ (t.alloc a).full = (s.alloc a).full ∧
    (t.alloc a).pois = (s.alloc a).pois

/-- Control registers of a wave (R71): all but EXM, which is an arm's. -/
def Wave.controls (w : Wave) : List Word :=
  [w.mode, w.flags, w.ltile, w.etrap, w.tfutl, w.tfuth, w.fcause, w.faddl, w.faddh, w.pres, w.aband]

end Machine

end Sys2Proof
end

