-- ==== Sys2Proof/Certificates/Slice0/Obligations.lean ====
section
/-!
DEFINITION. The statements about the model, with the tables of results that they use (namespace Claims). A table says in the
terms of the specification what each instruction of a family writes.
-/

open Sys2Proof Sys2Proof.Machine

namespace Sys2Proof.Claims

/-- Every memory of the module is in its canonical form, and NumVFs is a number that the PF can hold (R309). -/
structure Inv (s : State) : Prop where
  mem : Memory.wf s.mem = true
  host : Memory.wf s.hostMem = true
  staging : Memory.wf s.secure.store = true
  scratch : ∀ e, e ∈ s.allocs → Memory.wf e.2.cells = true
  vfs : s.numVfs ≤ 511

/-- The state after the word's own effect on the wave that issued it: the effect `f` on its registers, and the arm at the word
that follows (R99, R101). -/
def wrote (s : State) (c : Ctx) (i : Instr) (f : Wave → Wave) : State :=
  (s.noted c i).modWave c.r.core c.r.slot (fun w => (f w).modArm c.r.arm Arm.advance)

/-- The state after a word that only moves its arm on. -/
def passed (s : State) (c : Ctx) (i : Instr) : State := (s.noted c i).modArm c.r Arm.advance

/-- The state after a transfer of the arm to word 0 of a packet (R102). -/
def moved (s : State) (c : Ctx) (i : Instr) (pc : Nat) : State := (s.noted c i).modArm c.r (fun a => a.goto pc)

/-- An arm stands at word `i` of its packet, which is at hand: nothing of the wave keeps it from issuing as a word (R100, R101, R106). -/
structure Fetches (s : State) (core : Nat) (w : Wave) (j : Job) (a : Arm) (i : Instr) (chained : Bool) (x : Nat → Nat) : Prop where
  room : a.pc < j.npkt ∧ a.word < 3
  words : ∀ k, k < 3 → ∃ p, s.codeWord core j a.pc k = .word (x k) p ∧ (a.word = 0 ∨ a.refetch = true → p = false)
  decodes : decodeWord (x a.word) = .ok i
  chain : chainBit (x a.word) = chained
  ending : packetEnding i = true → chained = false ∧ ∀ k, a.word < k → k < 3 → x k = 0
  has : w.lacks i = false

/-- The word chained behind it is `k`: the next of the packet, or word 0 of the next packet; the two go to different pipes, and `k` neither
reads nor writes what `i` writes (R103, R104). -/
structure Chained (s : State) (core : Nat) (w : Wave) (j : Job) (a : Arm) (i k : Instr) (x y : Nat → Nat) : Prop where
  behind : (a.word < 2 ∧ decodeWord (x (a.word + 1)) = .ok k ∧ chainBit (x (a.word + 1)) = false ∧
      (packetEnding k = true → ∀ n, a.word + 1 < n → n < 3 → x n = 0)) ∨
    (a.word = 2 ∧ a.pc + 1 < j.npkt ∧ (∀ n, n < 3 → s.codeWord core j (a.pc + 1) n = .word (y n) false) ∧
      decodeWord (y 0) = .ok k ∧ chainBit (y 0) = false ∧ (packetEnding k = true → y 1 = 0 ∧ y 2 = 0))
  pipes : pipe i ≠ pipe k ∨ pipe i = .none
  apart : conflicts (w.usesNow (s.core core) i) (w.usesNow (s.core core) k) = false
  has : w.lacks k = false

/-- The agenda asks for the next choice of a partition, which has made fewer than two in this cycle, and live arm `r`, which has gone
longest without issuing, is the first that may be tried (R38). -/
structure Chooses (s s1 : State) (core part : Nat) (r : ArmRef) (w : Wave) (a : Arm) : Prop where
  agenda : ∃ rest, s.agenda = .issue core part :: rest ∧ s1 = { s with agenda := rest }
  turn : (s1.core core).turns part < 2
  first : (s1.candidates core part).head? = some (r, w, a)
  wave : s1.wave? r.core r.slot = some w
  arm : NMap.get? w.arms r.arm = some a
  place : r.core = core ∧ r.part = part
  fresh : a.cap = none

/-- A choice that words have made: each is on its pipe, the time of the issue is noted, and the partition has chosen once more. -/
def chosen (t : State) (core part : Nat) (r : ArmRef) (is : List Instr) : State :=
  ((is.foldl (fun t i => t.takePipe core part i) t).noteIssue r).modCore core (fun k => { k with chosen := k.chosen ++ [r] })

/-- The word-by-word result of the scalar instructions (R382, R407, R410, R411, R418, R459); SDIV, shifts and bit fields have
statements of their own. -/
def scalarRule (c : Ctx) : Instr → Option (Reg × Word)
  | .sadd d a b => some (d, c.wave.sreg a.toNat + c.wave.sreg b.toNat)
  | .ssub d a b => some (d, c.wave.sreg a.toNat - c.wave.sreg b.toNat)
  | .smul d a b => some (d, (c.wave.sreg a.toNat * c.wave.sreg b.toNat))
  | .smulh d a b u =>
    let x := c.wave.sreg a.toNat
    let y := c.wave.sreg b.toNat
    some (d, if u = 1#1 then BitVec.ofNat 32 (x.toNat * y.toNat / 2 ^ 32) else BitVec.ofInt 32 (x.toInt * y.toInt / 2 ^ 32))
  | .sand d a b => some (d, c.wave.sreg a.toNat &&& c.wave.sreg b.toNat)
  | .sor d a b => some (d, c.wave.sreg a.toNat ||| c.wave.sreg b.toNat)
  | .sxor d a b => some (d, c.wave.sreg a.toNat ^^^ c.wave.sreg b.toNat)
  | .sandn d a b => some (d, c.wave.sreg a.toNat &&& ~~~(c.wave.sreg b.toNat))
  | .smin d a b u =>
    let x := c.wave.sreg a.toNat
    let y := c.wave.sreg b.toNat
    some (d, if u = 1#1 then (if x.toNat ≤ y.toNat then x else y) else (if x.toInt ≤ y.toInt then x else y))
  | .smax d a b u =>
    let x := c.wave.sreg a.toNat
    let y := c.wave.sreg b.toNat
    some (d, if u = 1#1 then (if x.toNat ≤ y.toNat then y else x) else (if x.toInt ≤ y.toInt then y else x))
  | .ssel d a b => some (d, if c.wave.sreg d.toNat ≠ 0#32 then c.wave.sreg a.toNat else c.wave.sreg b.toNat)
  | .scmp d a b k => some (d, if condScalar k.toNat (c.wave.sreg a.toNat) (c.wave.sreg b.toNat) then 1#32 else 0#32)
  | .sclz d a => some (d, BitVec.ofNat 32 (leadingZeros (c.wave.sreg a.toNat) 32))
  | .spopc d a => some (d, BitVec.ofNat 32 ((List.range 32).countP (fun n => (c.wave.sreg a.toNat).getLsbD n)))
  | .smov d a => some (d, c.wave.sreg a.toNat)
  | .saddImm d a i => some (d, c.wave.sreg a.toNat + i.signExtend 32)
  | .sandImm d a i => some (d, c.wave.sreg a.toNat &&& i.signExtend 32)
  | .sorImm d a i => some (d, c.wave.sreg a.toNat ||| i.signExtend 32)
  | .sxorImm d a i => some (d, c.wave.sreg a.toNat ^^^ i.signExtend 32)
  | .scmpImm d a k i => some (d, if condScalar k.toNat (c.wave.sreg a.toNat) (i.signExtend 32) then 1#32 else 0#32)
  | .smovi d i => some (d, i.signExtend 32)
  | .slih d i => some (d, i ++ (c.wave.sreg d.toNat).extractLsb' 0 19)
  | .maskp d p => some (d, c.wave.preg p.toNat)
  | .vote d p u => some (d, voteWord u.toNat (tileWidth (c.wave.ltile0.getD c.wave.ltile)) c.arm.exm (c.wave.preg p.toNat))
  | _ => none

/-- The shifts of a scalar (R126): destination, operand, amount as it is given, and kind (left, logical right, arithmetic
right). -/
def scalarShift (c : Ctx) : Instr → Option (Reg × Word × Nat × Nat)
  | .sshl d a b => some (d, c.wave.sreg a.toNat, (c.wave.sreg b.toNat).toNat, 0)
  | .sshr d a b u => some (d, c.wave.sreg a.toNat, (c.wave.sreg b.toNat).toNat, if u = 1#1 then 2 else 1)
  | .ssra d a b => some (d, c.wave.sreg a.toNat, (c.wave.sreg b.toNat).toNat, 2)
  | .sshlImm d a n => some (d, c.wave.sreg a.toNat, n.toNat, 0)
  | .sshrImm d a n => some (d, c.wave.sreg a.toNat, n.toNat, 1)
  | .ssraImm d a n => some (d, c.wave.sreg a.toNat, n.toNat, 2)
  | _ => none

/-- The same of a vector: destination, lanes, amounts by lane, kind. -/
def vectorShift (c : Ctx) : Instr → Option (Reg × (Nat → Word) × (Nat → Nat) × Nat)
  | .vshl d a b _ => some (d, (c.wave.vreg a.toNat).lane, fun l => ((c.wave.vreg b.toNat).lane l).toNat, 0)
  | .vshr d a b _ => some (d, (c.wave.vreg a.toNat).lane, fun l => ((c.wave.vreg b.toNat).lane l).toNat, 1)
  | .vsra d a b _ => some (d, (c.wave.vreg a.toNat).lane, fun l => ((c.wave.vreg b.toNat).lane l).toNat, 2)
  | .vshlImm d a n => some (d, (c.wave.vreg a.toNat).lane, fun _ => n.toNat, 0)
  | .vshrImm d a n => some (d, (c.wave.vreg a.toNat).lane, fun _ => n.toNat, 1)
  | .vsraImm d a n => some (d, (c.wave.vreg a.toNat).lane, fun _ => n.toNat, 2)
  | _ => none

/-- A shift by the amount modulo 32: zeros from the right, zeros from the left, copies of bit 31 (R126). -/
def shifted (kind n : Nat) (x : Word) : Word :=
  if kind = 0 then x <<< (n % 32) else if kind = 1 then x >>> (n % 32) else x.sshiftRight (n % 32)

/-- The control register of an index (R70 to R72), as GETC returns it: MODE and LTILE as of the start of the cycle (R62, R133), EXM of the issuing
arm, the registers of its place from where the wave stands, CYCH from the count that a read of CYCL has captured. -/
def controlValue (s : State) (c : Ctx) (n : Nat) : Word :=
  let k := s.core c.r.core
  let w := c.wave
  let ck := (s.stack (c.r.core / 128)).ck
  match n with
  | 0 => w.mode0.getD w.mode
  | 1 => w.flags
  | 2 => w.ltile0.getD w.ltile
  | 3 => w.etrap
  | 4 => c.arm.exm
  | 5 => BitVec.ofNat 32 ((c.team.size - 1) * 2 ^ 22 + c.r.slot * 2 ^ 16 + (if w.isTask then 2 ^ 15 else 0) + w.idx)
  | 6 => BitVec.ofNat 32 c.team.num
  | 7 => if c.team.isTask then 0#32 else BitVec.ofNat 32 c.job.g
  | 8 => BitVec.ofNat 32 c.r.core
  | 9 => BitVec.ofNat 32 (c.r.core / 8)
  | 10 => BitVec.ofNat 32 (c.r.core / 128)
  | 11 => BitVec.ofNat 32 c.job.num
  | 12 => w.tfutl
  | 13 => w.tfuth
  | 14 => (s.capMask c.r.core).extractLsb' 0 32
  | 15 => (s.capMask c.r.core).extractLsb' 32 32
  | 16 => BitVec.ofNat 32 ck
  | 17 => BitVec.ofNat 32 ((w.cycCap.getD ck) / 2 ^ 32)
  | 18 => BitVec.ofNat 32 (w.groups.length * 2 ^ 6 + (if w.groups = [] then 0 else 2 ^ 5) + w.stack.length)
  | 19 => BitVec.ofNat 32 ((if (s.cluster (c.r.core / 8)).ganged then 2 ^ 2 else 0) + (if k.matrixBusyBit then 2 else 0) + (if k.narrow then 1 else 0))
  | 20 => match k.holder with
    | some h => BitVec.ofNat 32 ((if h = c.r.slot then 2 ^ 9 else 0) + 2 ^ 8 + h)
    | none => 0#32
  | 21 => w.fcause
  | 22 => w.faddl
  | 23 => w.faddh
  | 24 => w.pres
  | 25 => w.aband
  | 26 => BitVec.ofNat 32 ((k.ext.length + 63) / 64 * 2 ^ 16 + k.sram.length)
  | 27 => BitVec.ofNat 32 c.job.loct
  | _ => 0#32

/-- Quotient and remainder (R128), on operands as integers, read as signed or as unsigned. -/
def quotient (unsigned : Bool) (a b : Word) : Word × Word :=
  if b = 0#32 then (0xFFFFFFFF#32, a)
  else if unsigned = false ∧ a = 0x80000000#32 ∧ b = 0xFFFFFFFF#32 then (0x80000000#32, 0#32)
  else if unsigned then (BitVec.ofNat 32 (a.toNat / b.toNat), BitVec.ofNat 32 (a.toNat - a.toNat / b.toNat * b.toNat))
  else (BitVec.ofInt 32 (a.toInt.tdiv b.toInt), BitVec.ofInt 32 (a.toInt - a.toInt.tdiv b.toInt * b.toInt))

/-- Bit `n` of an extract (R129): offset and width are control bits [5:0] and [13:8]. -/
def extractBit (signed : Bool) (x ctl : Word) (n : Nat) : Bool :=
  let off := (ctl.extractLsb' 0 6).toNat
  let w := (ctl.extractLsb' 8 6).toNat
  let top := min (off + w) 32 - 1
  if w = 0 ∨ 32 ≤ off then false
  else if off + n ≤ top then x.getLsbD (off + n)
  else signed && x.getLsbD top

/-- Bit `n` of an insert of `x` into `t` (R129). -/
def insertBit (t x ctl : Word) (n : Nat) : Bool :=
  let off := (ctl.extractLsb' 0 6).toNat
  let w := (ctl.extractLsb' 8 6).toNat
  if off ≤ n ∧ n < off + w then x.getLsbD (n - off) else t.getLsbD n

/-- Lane `l` of a register as it stood before what the wave's other arm has written in this cycle (R416). -/
def before (c : Ctx) (a : Reg) (l : Nat) : Word :=
  ((c.wave.old.find? (fun e => e.1 != c.r.arm && e.2.1 == a.toNat && e.2.2.1.getLsbD l)).map (fun e => e.2.2.2.lane l)).getD (c.vl a l)

/-- The lanes that the integer instructions of the vector pipe write (R442 to R446, R457, R458, R462), and the shuffles (R416). -/
def vectorRule (c : Ctx) : Instr → Option (Reg × (Nat → Word))
  | .vadd d a b _ => some (d, fun l => c.vl a l + c.vl b l)
  | .vsub d a b _ => some (d, fun l => c.vl a l - c.vl b l)
  | .vmul d a b _ => some (d, fun l => c.vl a l * c.vl b l)
  | .vmulhI d a b _ => some (d, fun l => BitVec.ofInt 32 ((c.vl a l).toInt * (c.vl b l).toInt / 2 ^ 32))
  | .vmulhN d a b _ => some (d, fun l => BitVec.ofNat 32 ((c.vl a l).toNat * (c.vl b l).toNat / 2 ^ 32))
  | .vand d a b _ => some (d, fun l => c.vl a l &&& c.vl b l)
  | .vor d a b _ => some (d, fun l => c.vl a l ||| c.vl b l)
  | .vxor d a b _ => some (d, fun l => c.vl a l ^^^ c.vl b l)
  | .vandn d a b _ => some (d, fun l => c.vl a l &&& ~~~(c.vl b l))
  | .vminI d a b _ => some (d, fun l => if (c.vl a l).toInt ≤ (c.vl b l).toInt then c.vl a l else c.vl b l)
  | .vmaxI d a b _ => some (d, fun l => if (c.vl a l).toInt ≤ (c.vl b l).toInt then c.vl b l else c.vl a l)
  | .vminN d a b _ => some (d, fun l => if (c.vl a l).toNat ≤ (c.vl b l).toNat then c.vl a l else c.vl b l)
  | .vmaxN d a b _ => some (d, fun l => if (c.vl a l).toNat ≤ (c.vl b l).toNat then c.vl b l else c.vl a l)
  | .vsel d a b q => some (d, fun l => if (c.wave.preg q.toNat).getLsbD l then c.vl a l else c.vl b l)
  | .vmov d a _ => some (d, fun l => c.vl a l)
  | .vbcast d a _ => some (d, fun _ => c.wave.sreg a.toNat)
  | .vclz d a _ => some (d, fun l => BitVec.ofNat 32 (leadingZeros (c.vl a l) 32))
  | .vpopc d a _ => some (d, fun l => BitVec.ofNat 32 ((List.range 32).countP (fun n => (c.vl a l).getLsbD n)))
  | .vbrev d a _ => some (d, fun l => (c.vl a l).reverse)
  | .vlaneid d _ => some (d, fun l => BitVec.ofNat 32 l)
  | .vmad d a b e n => some (d, fun l =>
      if n = 1#1 then c.vl e l - c.vl a l * c.vl b l else c.vl a l * c.vl b l + c.vl e l)
  | .vaddImm d a i => some (d, fun l => c.vl a l + i.signExtend 32)
  | .vandImm d a i => some (d, fun l => c.vl a l &&& i.signExtend 32)
  | .vorImm d a i => some (d, fun l => c.vl a l ||| i.signExtend 32)
  | .vxorImm d a i => some (d, fun l => c.vl a l ^^^ i.signExtend 32)
  | .vmovImm d i => some (d, fun _ => i.signExtend 32)
  | .shflIdx d a b _ => some (d, fun l =>
      let w := tileWidth (c.wave.ltile0.getD c.wave.ltile)
      before c a (l - l % w + (c.vl b l).toNat % w))
  | .shflUp d a b _ => some (d, fun l =>
      let w := tileWidth (c.wave.ltile0.getD c.wave.ltile)
      let n := (c.wave.sreg b.toNat).toNat
      before c a (if n ≤ l % w then l - n else l))
  | .shflDown d a b _ => some (d, fun l =>
      let w := tileWidth (c.wave.ltile0.getD c.wave.ltile)
      let n := (c.wave.sreg b.toNat).toNat
      before c a (if l % w + n < w then l + n else l))
  | .shflXor d a b _ => some (d, fun l =>
      let w := tileWidth (c.wave.ltile0.getD c.wave.ltile)
      before c a (l - l % w + (l % w ^^^ ((c.wave.sreg b.toNat).toNat % w))))
  | .shflBcast d a b _ => some (d, fun l =>
      let w := tileWidth (c.wave.ltile0.getD c.wave.ltile)
      before c a (l - l % w + (c.wave.sreg b.toNat).toNat % w))
  | _ => none

/-- The fields of vectors: bits of the result by lane (R129, R445). -/
def vectorField (c : Ctx) : Instr → Option (Reg × (Nat → Nat → Bool))
  | .vbfxI d a b _ => some (d, fun l n => extractBit true (c.vl a l) (c.vl b l) n)
  | .vbfxN d a b _ => some (d, fun l n => extractBit false (c.vl a l) (c.vl b l) n)
  | .vbfi d a b _ => some (d, fun l n => insertBit (c.vl d l) (c.vl a l) (c.vl b l) n)
  | _ => none

/-- The lanes and the flags of the floating-point instructions of the vector pipe (R137, R138, R142 to R145, R451 to R456), in
terms of the operations on one element of a format. -/
def floatRule (c : Ctx) : Instr → Option (Reg × (Nat → Nat × Word))
  | .vfaddF32 d a b _ => some (d, fun l => Fmt.f32.add c.rm (c.vn a l) (c.vn b l))
  | .vfsubF32 d a b _ => some (d, fun l => Fmt.f32.sub c.rm (c.vn a l) (c.vn b l))
  | .vfmulF32 d a b _ => some (d, fun l => Fmt.f32.mul c.rm (c.vn a l) (c.vn b l))
  | .vfminF32 d a b _ => some (d, fun l => Fmt.f32.minNum (c.vn a l) (c.vn b l))
  | .vfmaxF32 d a b _ => some (d, fun l => Fmt.f32.maxNum (c.vn a l) (c.vn b l))
  | .vfclassF32 d a _ => some (d, fun l => (Fmt.f32.classify (c.vn a l), 0#32))
  | .vfcvtF32 d a k _ => some (d, fun l => cvtF32 k.toNat c.rm (c.vn d l) (c.vn a l))
  | .vfmaF32 d a b e n => some (d, fun l => Fmt.f32.fma c.rm (n == 1#1) (c.vn a l) (c.vn b l) (c.vn e l))
  | .vfaddF16x2 d a b _ => some (d, fun l => packedBin (Fmt.f16.add c.rm) (c.vn a l) (c.vn b l))
  | .vfsubF16x2 d a b _ => some (d, fun l => packedBin (Fmt.f16.sub c.rm) (c.vn a l) (c.vn b l))
  | .vfmulF16x2 d a b _ => some (d, fun l => packedBin (Fmt.f16.mul c.rm) (c.vn a l) (c.vn b l))
  | .vfminF16x2 d a b _ => some (d, fun l => packedBin Fmt.f16.minNum (c.vn a l) (c.vn b l))
  | .vfmaxF16x2 d a b _ => some (d, fun l => packedBin Fmt.f16.maxNum (c.vn a l) (c.vn b l))
  | .vfclassF16x2 d a _ => some (d, fun l => packed2 (fun h => (Fmt.f16.classify h, 0#32)) (c.vn a l))
  | .vfcvtF16x2 d a k _ => some (d, fun l => cvtPacked Fmt.f16 Fmt.bf16 k.toNat c.rm (c.vn a l))
  | .vfmaF16x2 d a b e n => some (d, fun l => packedTri (Fmt.f16.fma c.rm (n == 1#1)) (c.vn a l) (c.vn b l) (c.vn e l))
  | .vfaddBf16x2 d a b _ => some (d, fun l => packedBin (Fmt.bf16.add c.rm) (c.vn a l) (c.vn b l))
  | .vfsubBf16x2 d a b _ => some (d, fun l => packedBin (Fmt.bf16.sub c.rm) (c.vn a l) (c.vn b l))
  | .vfmulBf16x2 d a b _ => some (d, fun l => packedBin (Fmt.bf16.mul c.rm) (c.vn a l) (c.vn b l))
  | .vfminBf16x2 d a b _ => some (d, fun l => packedBin Fmt.bf16.minNum (c.vn a l) (c.vn b l))
  | .vfmaxBf16x2 d a b _ => some (d, fun l => packedBin Fmt.bf16.maxNum (c.vn a l) (c.vn b l))
  | .vfclassBf16x2 d a _ => some (d, fun l => packed2 (fun h => (Fmt.bf16.classify h, 0#32)) (c.vn a l))
  | .vfcvtBf16x2 d a k _ => some (d, fun l => cvtPacked Fmt.bf16 Fmt.f16 k.toNat c.rm (c.vn a l))
  | .vfmaBf16x2 d a b e n => some (d, fun l => packedTri (Fmt.bf16.fma c.rm (n == 1#1)) (c.vn a l) (c.vn b l) (c.vn e l))
  | _ => none

/-- The same of the special-function unit (R140, R141, R450, R454); where R141 leaves a choice within 2 ulp, the value is one of
the free values of assumption 9. -/
def sfuRule (c : Ctx) : Instr → Option (Reg × (Nat → Nat × Word))
  | .vfdiv d a b _ => some (d, fun l => f32Div c.rm (c.vn a l) (c.vn b l))
  | .vfsqrt d a _ => some (d, fun l => f32Sqrt c.rm (c.vn a l))
  | .vrcp d a _ => some (d, fun l => f32Rcp c.rm (c.vn a l))
  | .vrsq d a _ => some (d, fun l => f32Rsq c.rm (c.vn a l))
  | .vexp2 d a _ => some (d, fun l => f32Exp2 (c.vl a l))
  | .vlog2 d a _ => some (d, fun l => f32Log2 (c.vl a l))
  | .vsin d a _ => some (d, fun l => f32Sin (c.vl a l))
  | .vcos d a _ => some (d, fun l => f32Cos (c.vl a l))
  | .vtanh d a _ => some (d, fun l => f32Tanh (c.vl a l))
  | _ => none

/-- FLAGS raised by the enabled lanes (R134). -/
def raised (m : Mask) (f : Nat → Nat × Word) : Word :=
  ((List.range 32).filter (fun l => m.getLsbD l)).foldl (fun w l => w ||| (f l).2) 0#32

/-- What an instruction of the vector pipe delivers when it writes one vector register. -/
def pipeRule (c : Ctx) (i : Instr) : Option Result :=
  match vectorRule c i, floatRule c i with
  | some (d, f), _ => some { vdst := [(d.toNat, LaneVec.ofFn f)] }
  | none, some (d, f) =>
    some { vdst := [(d.toNat, LaneVec.ofFn (fun l => BitVec.ofNat 32 (f l).1))], flags := raised c.lanes f }
  | none, none => none

/-- In every tile of a branch that has an active lane, some active lane passes a test, or (`some` false) none does; and some lane
is active (R333). -/
def tilesHold (c : Ctx) (t : BitVec 1) (test : Nat → Prop) (some : Prop) : Prop :=
  let w := if t = 1#1 then tileWidth (c.wave.ltile0.getD c.wave.ltile) else 32
  c.arm.exm ≠ 0#32 ∧ ∀ g, (∃ l, l < 32 ∧ l / w = g ∧ c.arm.exm.getLsbD l = true) →
    ((∃ l, l < 32 ∧ l / w = g ∧ c.arm.exm.getLsbD l = true ∧ test l) ↔ some)

/-- The byte at a device address as a plain load of a core sees it (R171): in its L1, else in its cluster cache, else at home; a line
that another address space filled does not count, nor does a clean byte of a sector that is not whole (CLine.fresh). -/
def seen (s : State) (core pasid a : Nat) : Byte :=
  let own (l : Option CLine) : Option Byte :=
    l.bind (fun l => if l.pasid = pasid then l.fresh (a % 128) else none)
  match own (NMap.get? (s.core core).l1 (a / 128)) with
  | some b => b
  | none =>
    if s.cacheBanks (clusterOf core) = 0 then s.mem.read a
    else match own (NMap.get? (s.cluster (clusterOf core)).cc (a / 128)) with
      | some b => b
      | none => s.mem.read a

/-- The caches that a core uses hold lines of one address space only (R172), and a cluster without CACHE banks holds none (R167). -/
structure Alone (s : State) (core pasid : Nat) : Prop where
  l1 : ∀ la l, NMap.get? (s.core core).l1 la = some l → l.pasid = pasid
  cc : ∀ la l, NMap.get? (s.cluster (clusterOf core)).cc la = some l → l.pasid = pasid
  empty : s.cacheBanks (clusterOf core) = 0 → (s.cluster (clusterOf core)).cc = []

/-- The lines that a core and its cluster hold stand in order, each once, and so do the bytes of each (R26, R167). -/
structure Tidy (s : State) (core : Nat) : Prop where
  l1 : NMap.sorted (s.core core).l1 = true
  cc : NMap.sorted (s.cluster (clusterOf core)).cc = true
  bytes : ∀ e, e ∈ (s.core core).l1 ++ (s.cluster (clusterOf core)).cc → NMap.sorted e.2.bytes = true ∧ ∀ x, x ∈ e.2.bytes → x.1 < 128

/-- The byte that a read at the level of a cluster finds: its cluster cache's, else the one at home (R171, R189). -/
def clusterByte (s : State) (cl a : Nat) : Byte :=
  match (NMap.get? (s.cluster cl).cc (a / 128)).bind (fun k => NMap.get? k.bytes (a % 128)) with
  | some x => x.val
  | none => s.mem.read a

/-- The write-back of a core at a scope from cluster up (R194, R197): every dirty byte of its L1 stands at the level of the cluster and,
from stack scope on, at home; the lines of its L1 stay, with their bytes, all clean. -/
def WroteBack (s t : State) (core scope : Nat) : Prop :=
  (∀ la l o b, NMap.get? (s.core core).l1 la = some l → NMap.get? l.bytes o = some ⟨b, true⟩ →
    clusterByte t (clusterOf core) (128 * la + o) = b ∧ (3 ≤ scope → t.mem.read (128 * la + o) = b)) ∧
  (∀ la, (NMap.get? (t.core core).l1 la).map (fun l => l.bytes.map (fun e => (e.1, e.2.val))) =
    (NMap.get? (s.core core).l1 la).map (fun l => l.bytes.map (fun e => (e.1, e.2.val)))) ∧
  (∀ la l, NMap.get? (t.core core).l1 la = some l → l.dirty = [])

/-- The write-back of the cluster cache's lines that a signature matches (R194): of those lines it keeps no dirty byte, and each that was
dirty stands at home, unless the core's own L1 held a dirty byte there, which then stands at home in its place. -/
def WroteBackCC (s t : State) (core : Nat) (g : BitVec 2048) : Prop :=
  (∀ la l, NMap.get? (t.cluster (clusterOf core)).cc la = some l → sigMatch g la = true → l.dirty = []) ∧
  (∀ la l o b, NMap.get? (s.cluster (clusterOf core)).cc la = some l → sigMatch g la = true → NMap.get? l.bytes o = some ⟨b, true⟩ →
    t.mem.read (128 * la + o) = (match (NMap.get? (s.core core).l1 la).bind (fun k => NMap.get? k.bytes o) with
      | some ⟨d, true⟩ => d
      | _ => b))

/-- The byte at a device address that a read at the level of a scope finds, once the core's own dirty bytes have reached that level
(R189, assumption 12): below cluster scope what the core sees; else its dirty byte, then the cluster cache's, then the one at home. -/
def levelByte (s : State) (core pasid scope x : Nat) : Byte :=
  let cc := NMap.get? (s.cluster (clusterOf core)).cc (x / 128)
  if scope < 2 then seen s core pasid x
  else match (NMap.get? (s.core core).l1 (x / 128)).bind (fun l => NMap.get? l.bytes (x % 128)) with
    | some ⟨b, true⟩ => b
    | _ =>
      if scope = 2 ∧ s.cacheBanks (clusterOf core) ≠ 0 then (cc.bind (fun l => l.fresh (x % 128))).getD (s.mem.read x)
      else match cc.bind (fun l => NMap.get? l.bytes (x % 128)) with
        | some ⟨b, true⟩ => b
        | _ => s.mem.read x

/-- What an access of the word at `a` at the level of a scope leaves (R189, R202, R204): the core sees the bytes `new` that it wrote, in the
rest of the word's sector what stands at that level, and every other byte as before; from cluster scope on the core's L1 keeps
no copy of the sector, and at home neither does its cluster's cache, and the new bytes stand at home. -/
def AtLevel (s t : State) (core pasid scope a : Nat) (new : Option Word) : Prop :=
  (∀ x, seen t core pasid x =
    if a ≤ x ∧ x < a + 4 ∧ new ≠ none then (new.getD 0#32).extractLsb' (8 * (x - a)) 8
    else if x / 32 = a / 32 then levelByte s core pasid scope x else seen s core pasid x) ∧
  (2 ≤ scope → ∀ l, NMap.get? (t.core core).l1 (a / 128) = some l → ∀ e, e ∈ l.bytes → e.1 / 32 ≠ a % 128 / 32) ∧
  (3 ≤ scope ∨ 2 ≤ scope ∧ s.cacheBanks (clusterOf core) = 0 →
    (∀ l, NMap.get? (t.cluster (clusterOf core)).cc (a / 128) = some l → ∀ e, e ∈ l.bytes → e.1 / 32 ≠ a % 128 / 32) ∧
    (∀ w k, new = some w → k < 4 → t.mem.read (a + k) = w.extractLsb' (8 * k) 8)) ∧
  (∀ x, x / 32 ≠ a / 32 → t.mem.read x = s.mem.read x)

/-- The lines of a list that a cache does not hold, each once. -/
def absent (m : NMap CLine) (lines : List Nat) : List Nat := lines.dedup.filter (fun la => (NMap.get? m la).isNone)

/-- The caches that a core uses have room for the lines of a list that they lack, so that none leaves for them (R26, R167, R191). -/
structure Room (s : State) (core : Nat) (lines : List Nat) : Prop where
  l1 : absent (s.core core).l1 lines = [] ∨ (s.core core).l1.length + (absent (s.core core).l1 lines).length ≤ 2048
  cc : ∀ la, s.cacheBanks (clusterOf core) ≠ 0 → la ∈ absent (s.cluster (clusterOf core)).cc lines →
    (s.ccSet (clusterOf core) la).length + ((absent (s.cluster (clusterOf core)).cc lines).filter (fun k => k % 1024 == la % 1024)).length ≤
      s.cacheBanks (clusterOf core)

/-- An access of a wave at a virtual address reaches device address `x` at once (R157, R285, R288). -/
structure Hits (s : State) (c : Ctx) (write : Bool) (va x : Nat) : Prop where
  ok : va < 2 ^ 57
  quiet : ∀ e, e ∈ (s.core c.r.core).sideLog → e.pasid ≠ c.job.pasid ∨ e.page ≠ va / 4096
  target : s.xlate c.r.core c.job.pasid va write = .hit (.dpa x)
  code : write = true → va + 16 ≤ c.job.cbase ∨ c.job.cbase + 12 * c.job.npkt ≤ va

/-- No copy of a sector of device memory that a core can read is poisoned (R177, R178). -/
def Unpoisoned (s : State) (core x : Nat) : Prop :=
  x / 32 ∉ s.poison ∧ (∀ l, NMap.get? (s.core core).l1 (x / 128) = some l → x % 128 / 32 ∉ l.pois) ∧
    (∀ l, NMap.get? (s.cluster (clusterOf core)).cc (x / 128) = some l → x % 128 / 32 ∉ l.pois)

/-- A core has miss-status entries for any access, and none of its accesses holds the claim (R175, R176). -/
def EntriesFree (s : State) (core : Nat) : Prop := s.entriesUsed core + 32 ≤ 8192 ∧ (s.core core).claim = none

/-- The state in which an access goes on: the core forgets the rejections of its arm, if it has counted any (R176). -/
def Accepted (s : State) (c : Ctx) (u : State) : Prop := u = s ∨ u = s.modCore c.r.core (fun k => k.unclaim (fun r => r == c.r))

/-- What a wave is after a word that writes none of its registers and moves its arm on; loads in flight may have joined it. -/
def MovedOn (c : Ctx) (t : State) : Prop :=
  ∃ w a, t.wave? c.r.core c.r.slot = some w ∧ NMap.get? w.arms c.r.arm = some a ∧ a.pc = c.arm.advance.pc ∧
    a.word = c.arm.advance.word ∧ a.exm = c.arm.exm ∧ a.hold = .none ∧ a.empty = c.arm.empty ∧ w.s = c.wave.s ∧ w.v = c.wave.v ∧
    w.p = c.wave.p ∧ w.sEmpty = c.wave.sEmpty ∧ w.controls = c.wave.controls

/-- A word has issued and holds its arm by `h` (R50, R194, R355): its operands are captured at its own place in the program, it has the
next number, and nothing else of its wave changes, nor does any byte. -/
def Held (s : State) (c : Ctx) (i : Instr) (h : Hold) (t : State) : Prop :=
  ∃ w a q, t.wave? c.r.core c.r.slot = some w ∧ NMap.get? w.arms c.r.arm = some a ∧ a.hold = h ∧ a.cap = some q ∧ q.ins = i ∧
    q.id = s.handles ∧ q.again = false ∧ q.pc = c.arm.pc ∧ q.word = c.arm.word ∧ q.lanes = c.lanes ∧
    q.sregs = (uses i).ss.map (fun e => (e.1, c.wave.sreg e.1)) ∧ a.pc = c.arm.pc ∧ a.word = c.arm.word ∧ a.exm = c.arm.exm ∧
    a.empty = c.arm.empty ∧ w.s = c.wave.s ∧ w.v = c.wave.v ∧ w.p = c.wave.p ∧ w.sEmpty = c.wave.sEmpty ∧
    w.controls = c.wave.controls ∧ w.loading = c.wave.loading ∧ s.sameMemory t ∧ s.sameScratch t

/-- The virtual address of a lane of a global vector access (R157). -/
def laneVA (c : Ctx) (a b : Reg) (l : Nat) : Nat :=
  (pair (c.wave.sreg a.toNat) (c.wave.sreg (a.toNat + 1)) + ((c.wave.vreg b.toNat).lane l).toNat) % 2 ^ 64

/-- The local address of a lane of a local vector access (R158). -/
def laneLA (c : Ctx) (a b : Reg) (l : Nat) : Nat := (c.wave.sreg a.toNat).toNat + ((c.wave.vreg b.toNat).lane l).toNat

/-- Byte `k` of what a lane stores from the register group at `d` (R424). -/
def laneByte (c : Ctx) (d : Reg) (l k : Nat) : Byte := ((c.wave.vreg (d.toNat + k / 4)).lane l).extractLsb' (8 * (k % 4)) 8

/-- Bytes stored by lanes, a higher lane over a lower one, everything else as before (R160). `at_ l` is where an enabled lane stores. -/
def Stored (lanes : Mask) (n : Nat) (at_ : Nat → Nat) (byte : Nat → Nat → Byte) (before after : Nat → Byte) : Prop :=
  (∀ l k, l < 32 → lanes.getLsbD l = true → k < n →
    (∀ m, l < m → m < 32 → lanes.getLsbD m = true → at_ l + k < at_ m ∨ at_ m + n ≤ at_ l + k) → after (at_ l + k) = byte l k) ∧
  (∀ a, (∀ l, l < 32 → lanes.getLsbD l = true → a < at_ l ∨ at_ l + n ≤ a) → after a = before a)

/-- A future handle that passes its checks and leads to device address `x` at once (R87, R100, R288). -/
structure CellAt (s : State) (c : Ctx) (write : Bool) (h x : Nat) : Prop where
  aligned : h % 32 = 0
  ok : h < 2 ^ 57
  code : c.job.inCode h = false
  quiet : ∀ e, e ∈ (s.core c.r.core).sideLog → e.pasid ≠ c.job.pasid ∨ e.page ≠ h / 4096
  target : s.xlate c.r.core c.job.pasid h write = .hit (.dpa x)

/-- A core and its cluster hold no copy of the line of a device address. -/
def Uncached (s : State) (core x : Nat) : Prop :=
  NMap.get? (s.core core).l1 (x / 128) = none ∧ NMap.get? (s.cluster (clusterOf core)).cc (x / 128) = none

/-- Word `k` of the cell at device address `x`. -/
def cell (m : Memory) (x k : Nat) : Word := bytesWord (Memory.readBytes m (x + 4 * k) 4)

/-- What a delivery makes of a cell (R86, R88): with a count of 0 it sets ERR; else it combines its value or sets ERR, and takes one
from the count. The other words stay, as do the bytes around the cell. -/
def Delivered (m m' : Memory) (x : Nat) (d : Nat) (err : Bool) : Prop :=
  let w (k : Nat) : Word := cell m x k
  (w 0 = 0#32 → cell m' x 1 = w 1 ||| 0x100#32 ∧ ∀ k, k < 8 → k ≠ 1 → cell m' x k = w k) ∧
  (w 0 ≠ 0#32 → cell m' x 0 = w 0 - 1#32 ∧ cell m' x 1 = (if err then w 1 ||| 0x100#32 else w 1) ∧
    pair (cell m' x 2) (cell m' x 3) = (if err then pair (w 2) (w 3) else combine ((w 1).toNat % 16) (pair (w 2) (w 3)) d) ∧
    ∀ k, 4 ≤ k → k < 8 → cell m' x k = w k) ∧
  (∀ a, a < x ∨ x + 32 ≤ a → m'.read a = m.read a)

/-- Scalar registers from `a` upward. -/
def regs (c : Ctx) (a : Reg) (n : Nat) : List Word := (List.range n).map (fun k => c.wave.sreg (a.toNat + k))

/-- The job and the core have a capability class (R300). -/
def HasClass (s : State) (c : Ctx) (cls : Nat) : Prop :=
  c.job.oum.getLsbD cls = true ∧ (s.capMask c.r.core).getLsbD cls = true

/-- The cursor is closed, or its wave's (R47), once the queue before it has run (R230). -/
def CursorFree (s : State) (c : Ctx) (n : BitVec 2) : Prop :=
  ∀ v, (s.core c.r.core).cxView n.toNat = some v → v.uid = c.wave.uid

/-- The cursor is open, and its wave's (R47, R238), once the queue before it has run (R230). -/
def CursorOwn (s : State) (c : Ctx) (n : BitVec 2) : Prop :=
  ∃ v, (s.core c.r.core).cxView n.toNat = some v ∧ v.uid = c.wave.uid

/-- What a Bramble instruction other than CXNEXT puts in the Bramble's queue (R230, R238 to R247): its kind, cursor and captured scalars, whether its arm
holds until its search is done, and the checks that it passes at issue. `bytes` is the size of the allocation. -/
def brambleRule (s : State) (c : Ctx) (bytes : Nat) : Instr → Option (BrKind × BitVec 2 × List Word × Bool × Prop)
  | .cxopenIntersect a b n => some (.openTwo, n, regs c a 8 ++ regs c b 8, false, CursorFree s c n ∧
      descriptorFault false (regs c a 8) = none ∧ descriptorFault false (regs c b 8) = none ∧
      descriptorBeyond false bytes (regs c a 8) = none ∧ descriptorBeyond false bytes (regs c b 8) = none)
  | .cxopenUnion a b n => some (.openTwo, n, regs c a 8 ++ regs c b 8, false, CursorFree s c n ∧
      descriptorFault false (regs c a 8) = none ∧ descriptorFault false (regs c b 8) = none ∧
      descriptorBeyond false bytes (regs c a 8) = none ∧ descriptorBeyond false bytes (regs c b 8) = none)
  | .cxopenExpand a n => some (.openExpand, n, regs c a 8, true, CursorFree s c n ∧
      descriptorFault true (regs c a 8) = none ∧ descriptorBeyond true bytes (regs c a 8) = none)
  | .cxsplit a b n => some (.split, n, [c.wave.sreg a.toNat, c.wave.sreg b.toNat], true, CursorOwn s c n ∧
      2 ≤ (c.wave.sreg b.toNat).toNat ∧ (c.wave.sreg b.toNat).toNat ≤ 16 ∧ (c.wave.sreg a.toNat).toNat % 128 = 0 ∧
      (c.wave.sreg a.toNat).toNat + 128 * (c.wave.sreg b.toNat).toNat ≤ bytes)
  | .cxsave a n => some (.save, n, [c.wave.sreg a.toNat], false, CursorOwn s c n ∧
      (c.wave.sreg a.toNat).toNat % 64 = 0 ∧ (c.wave.sreg a.toNat).toNat + 64 ≤ bytes)
  | .cxload a n => some (.load, n, [c.wave.sreg a.toNat], false, CursorFree s c n ∧
      (c.wave.sreg a.toNat).toNat % 64 = 0 ∧ (c.wave.sreg a.toNat).toNat + 64 ≤ bytes)
  | .cxloadS a n => some (.loadS, n, regs c a 16, false, CursorFree s c n ∧ imageFault (regs c a 16) = none ∧
      imageBeyond bytes (regs c a 16) = none)
  | .cxclose n => some (.close, n, [], false, CursorFree s c n)
  | _ => none

/-- An IDX32 stream in SCRATCH whose remaining indices are `xs`: they ascend, from its previous index on (R233, R236, R243). -/
structure Indices (al : Alloc) (x : Strm) (xs : List Nat) : Prop where
  loc : x.loc = true
  enc : x.enc = 0 ∧ x.bit = 0
  fin : x.fin = x.off + 4 * xs.length
  words : ∀ n, n < xs.length → bytesNat (al.bytesAt (x.base + x.off + 4 * n) 4) = xs.getD n 0
  sorted : ((if x.has then [x.last] else []) ++ xs).Pairwise (fun p q => p < q)

/-- The stream with its first `n` remaining indices consumed (R240, R243). -/
def behind (x : Strm) (xs : List Nat) (n : Nat) : Strm :=
  if n = 0 then x else { x with pos := x.pos + n, off := x.off + 4 * n, last := xs.getD (n - 1) 0, has := true }

/-- The survivors of two ascending lists of indices, `p` and `q` being the positions of their heads (R237): index, and the position in
each stream that holds it. -/
def survivors (union : Bool) : Nat → List Nat → List Nat → Nat → Nat → List (Nat × Option Nat × Option Nat)
  | n + 1, x :: xs, y :: ys, p, q =>
    if x = y then (x, some p, some q) :: survivors union n xs ys (p + 1) (q + 1)
    else if x < y then (if union then [(x, some p, none)] else []) ++ survivors union n xs (y :: ys) (p + 1) q
    else (if union then [(y, none, some q)] else []) ++ survivors union n (x :: xs) ys p (q + 1)
  | n + 1, x :: xs, [], p, q => if union then (x, some p, none) :: survivors union n xs [] (p + 1) q else []
  | n + 1, [], y :: ys, p, q => if union then (y, none, some q) :: survivors union n [] ys p (q + 1) else []
  | _, _, _, _, _ => []

/-- Row pointer `k` of an EXPAND cursor whose row pointers are in SCRATCH (R231, R237). -/
def rowPtr (al : Alloc) (c : Cur) (k : Nat) : Nat := bytesNat (al.bytesAt (c.b.base + 4 * k) 4)

/-- An EXPAND cursor with its streams in SCRATCH and its row pointers in order, whose rows cover its positions (R237, R243). -/
structure Expands (al : Alloc) (c : Cur) : Prop where
  mode : c.mode = 2
  loc : c.a.loc = true ∧ c.b.loc = true
  rows : c.a.pos < c.a.fin → c.b.pos < c.b.fin ∧ c.a.fin ≤ rowPtr al c c.b.fin
  here : c.b.off = rowPtr al c (c.b.pos + 1)
  order : ∀ k, c.b.pos < k → k < c.b.fin → rowPtr al c k ≤ rowPtr al c (k + 1)

/-- Row `r` of an EXPAND cursor holds position `p` (R237); the row at which the cursor stands is entered already. -/
def holdsPos (al : Alloc) (c : Cur) (r p : Nat) : Prop :=
  c.b.pos ≤ r ∧ (c.b.pos < r → rowPtr al c r ≤ p) ∧ p < rowPtr al c (r + 1)

/-- Where boundary `j` of `k` lies among the remaining indices of A and of B (R247). -/
def cuts (xs ys : List Nat) (k j : Nat) : Nat × Nat :=
  let m := j * xs.length / k
  (m, if j = 0 then 0 else if h : m < xs.length then ys.countP (fun y => decide (y < xs[m])) else ys.length)

/-- The checks of an MMA, and of the follow-on of a COPY.m (R221, R297, R386). -/
def MmaFits (s : State) (c : Ctx) (bytes : Nat) (a : Reg) (l : BitVec 3) : Prop :=
  let f := c.job.slot l.toNat
  (∃ k, pairClass f.af f.bf = some k ∧ HasClass s c k) ∧ (f.ta = true → f.af ≠ 7) ∧
    mmaMismatch (s.isGanged c.r.core) f (c.wave.shape a.toNat) (c.wave.shape (a.toNat + 4)) = none ∧
    mmaBeyond bytes f (c.wave.shape a.toNat) (c.wave.shape (a.toNat + 4)) = none

/-- The checks of ACCLD and ACCST (R223, R297, R323). -/
def AccMove (s : State) (c : Ctx) (bytes : Nat) (a : Reg) (l : BitVec 3) : Prop :=
  let f := (c.job.slot l.toNat).mf
  let x := c.wave.shape a.toNat
  (∃ k, accClass f = some k ∧ HasClass s c k) ∧ 1 ≤ x.rows ∧ x.rows ≤ 128 ∧ 1 ≤ x.cols ∧
    x.cols ≤ accWidth (s.isGanged c.r.core) ∧ x.scale = 0 ∧ x.cols * elemBytes f ≤ x.pitch ∧ x.laddr % 16 = 0 ∧ x.pitch % 16 = 0 ∧
    rowsBeyond bytes x.laddr x.pitch x.rows (x.cols * elemBytes f) = none

/-- What a matrix instruction other than COPY.m puts in the matrix order (R209, R216, R220 to R224, R228): its kind and accumulator,
the format slot and the shape records that it captures, and the checks that it passes at issue. -/
def matrixRule (s : State) (c : Ctx) (bytes : Nat) : Instr → Option (MatKind × BitVec 3 × Slot × Shape × Shape × Prop)
  | .accz n => some (.accz, n, { }, { }, { }, True)
  | .accld a l n => some (.accld, n, c.job.slot l.toNat, c.wave.shape a.toNat, { }, AccMove s c bytes a l)
  | .accst a l n => some (.accst, n, c.job.slot l.toNat, c.wave.shape a.toNat, { }, AccMove s c bytes a l)
  | .mma a l n => some (.mma, n, c.job.slot l.toNat, c.wave.shape a.toNat, c.wave.shape (a.toNat + 4), MmaFits s c bytes a l)
  | .mmaMc a b l n => some (.mma, n, c.job.slot l.toNat, c.wave.shape a.toNat, c.wave.shape (a.toNat + 4),
      MmaFits s c bytes a l ∧ HasClass s c 24 ∧ s.mcMask c.r.core (c.wave.sreg b.toNat) = true)
  | _ => none

/-- The new word of an atomic, by its function code (R328). -/
def atomRule (fn : Nat) (w d n : Word) : Word :=
  match fn with
  | 0 => w + d
  | 1 => BitVec.ofNat 32 (Fmt.f32.add .rne w.toNat d.toNat).1
  | 2 => if w.toInt ≤ d.toInt then w else d
  | 3 => if w.toInt ≤ d.toInt then d else w
  | 4 => if w.toNat ≤ d.toNat then w else d
  | 5 => if w.toNat ≤ d.toNat then d else w
  | 6 => w &&& d
  | 7 => w ||| d
  | 8 => w ^^^ d
  | 9 => d
  | _ => if w = d then n else w

/-- The entry `e` of command `n` stands next at interface `vi`, may be executed there, and its record's page is at `x` (R254, R471). -/
structure Command (s : State) (vi n : Nat) (e : Submission) (x : Target) : Prop where
  entry : s.nextEntry vi = .entry e
  cmd : e.cmd = n
  pf : 16 ≤ n → vi = 0
  pasid : e.pasid < noPasid
  place : s.ioPlace e.pasid e.rva true = .at x

/-- The state once the record `r` of an entry stands at `x`, its vector has signalled, and the entry is consumed (R253, R254, R259,
R309). -/
def answered (s : State) (e : Submission) (x : Target) (r : RecordFields) : State := (s.putRecord e.vi x r).consume e

/-- The record of a command that is done at once (R472). -/
def plain (e : Submission) : RecordFields := { tag := e.tag, out := 1 }

/-- The record of a refused command (R259): a refused LAUNCH has no pairs, so that its CONF is 2. -/
def refused (e : Submission) (err : Nat) : RecordFields := { tag := e.tag, out := 2, err := err, conf := if e.cmd = 1 then 2 else 0 }

/-- The result buffer of an entry takes `n` bytes at `ps` (R471). -/
def Buffer (s : State) (e : Submission) (n : Nat) (ps : List (Target × Nat)) : Prop := s.span e.pasid e.ptr n true = .ok ps

/-- The steps that act on submission entries, with interface and CMD value (R254, R311). -/
def commandOf : Instr → Option (Nat × Nat)
  | .launch v => some (v, 1)
  | .createContract v => some (v, 2)
  | .destroyContract v => some (v, 3)
  | .drainJob v => some (v, 4)
  | .graftRead v => some (v, 16)
  | .regraft v => some (v, 17)
  | .capRead v => some (v, 18)
  | .capFence v => some (v, 19)
  | .capRetest v => some (v, 20)
  | .sweepSet v => some (v, 21)
  | .migrate v => some (v, 22)
  | .groupSet v => some (v, 23)
  | .powerSetClockStep v => some (v, 24)
  | .powerSetGate v => some (v, 24)
  | .powerSetHbmRefresh v => some (v, 24)
  | .alarmSet v => some (v, 25)
  | .viSet v => some (v, 26)
  | .attest v => some (v, 27)
  | _ => none

/-- A wave is no longer resident, or it has ended and waits for what it left running (R278, R357). -/
def Gone (s : State) (core slot : Nat) : Prop := s.wave? core slot = none ∨ ∃ w, s.wave? core slot = some w ∧ w.ended = true

/-- The arm that goes on holding the first word of a pair, from the state `t` that this word left to the state `u` after the second: part 1
where the second has split the wave (R56), else the arm itself. -/
def holder (t u : State) (r : ArmRef) : ArmRef :=
  if (t.wave? r.core r.slot).any (fun w => !w.isSplit) && (u.wave? r.core r.slot).any Wave.isSplit then { r with arm := 0 } else r

end Sys2Proof.Claims

/-! ### The machine as a whole -/

/-- What reset leaves (R25, R165, R193, R298, R318): no work of any kind, every counter at 0, every cluster normal with all
its banks CACHE, every signature board at sequence number 0, every core in service with every class that its test passes
(assumption 18), and the module between resets with BOOT set. The spec gives no value for some parts, and what they hold is the model's choice
(assumption 22): device memory and host memory zero and without poison, the caches and the submission pages empty, NumVFs and the clock
step 0. -/
def Obligations.ResetState : Prop :=
  State.reset.arms = [] ∧ State.reset.jobs = [] ∧ State.reset.teams = [] ∧ State.reset.contracts = [] ∧
  (∀ c, (State.reset.core c).deque = [] ∧ (State.reset.core c).holder = none ∧ (State.reset.core c).slots = [] ∧
    (State.reset.core c).runLog = [] ∧ (State.reset.core c).l1 = [] ∧ (State.reset.core c).sigC = 0#2048 ∧
    (State.reset.core c).sigS = 0#2048 ∧ (State.reset.core c).sigD = 0#2048) ∧
  (∀ c, c < 1024 → State.reset.capMask c = 0x07FFFFFF#64) ∧
  (∀ cl, (State.reset.cluster cl).ganged = false ∧ State.reset.cacheBanks cl = 64 ∧ (State.reset.cluster cl).board.seq = 0) ∧
  (∀ k, (State.reset.stack k).ck = 0 ∧ (State.reset.stack k).board.seq = 0 ∧ (State.reset.stack k).step = 0) ∧
  State.reset.board.seq = 0 ∧ (∀ a, State.reset.mem.read a = 0#8 ∧ State.reset.hostMem.read a = 0#8) ∧
  State.reset.poison = [] ∧ State.reset.groups = 0#128 ∧ State.reset.numVfs = 0 ∧ State.reset.pf.boot = true ∧
  State.reset.pf.rcv = false ∧ (∀ v, State.reset.iface v = { })

/-- A step runs the decoded instruction (R38, R99 to R106): where the agenda asks for a partition's next choice, the arm that has gone
longest without issuing is not held, the three words of its packet are at hand, and the word at its position decodes to `i` without
the chain bit, does not end its packet before a word that is not zero, names no register that the wave lacks, and goes to a pipe that
accepts a word in this cycle, the step is `exec i` with that arm issuing, the packet's lines having been touched; unless the word
waits, it is on its pipe, the time of its issue is noted, and the partition's choice is counted.
A chained pair (R103, R104, R106): where the word at an arm's position has its chain bit set and the word behind it, in the packet or
at the start of the next, has not, both are instructions of different pipes, which accept them, and the second neither reads nor
writes what the first writes, both tests of issue are made before either issues, so that a second word that must wait keeps the
first; then the step is `exec` of the first and, in the same cycle, `exec` of the second in the state that the first leaves, whether the
first is done or waits with its operands captured. Of a second word that splits the wave part 1 goes on holding the first, and a MERGE, or an
EXIT behind a store or an atomic, waits with a first word that waits: both are the model's choices (assumption 6).
Of the MERGEs of both live arms of a wave in one cycle live arm 0's is performed first (R384), where live arm 1 would be chosen first
and live arm 0 next.
Which partition issues next is the choice of the agenda (assumption 2), what a pipe accepts in a cycle is assumption 38, that an arm chooses once in a cycle assumption 40, and what becomes of a pair whose word waits assumption 6. -/
def Obligations.StepRunsDecoded : Prop :=
  (∀ (s s1 t : State) (core part : Nat) (r : ArmRef) (w : Wave) (a : Arm) (j : Job) (x : Nat → Nat) (i : Instr),
     Claims.Chooses s s1 core part r w a → j = s1.job (s1.team w.tid).job → Claims.Fetches s1 core w j a i false x →
     (i = .merge → r.arm = 0 ∨ (s1.core core).turns part ≠ 0 ∨
       ∃ e, e ∈ s1.partArms core part ∧ e.1.slot = r.slot ∧ s1.mergesNext e = false) →
     s1.pipeFree core part (pipe i) = true →
     exec i { s1.touchCode core j a.pc with cur := some r } = .next t → s1.waits r { t with cur := none } = false →
     step s = .next (Claims.chosen { t with cur := none } core part r [i])) ∧
  (∀ (s s1 s2 : State) (core part : Nat) (r : ArmRef) (w : Wave) (a : Arm) (j : Job) (x y : Nat → Nat) (i k : Instr) (c d : Ctx),
     Claims.Chooses s s1 core part r w a → j = s1.job (s1.team w.tid).job → Claims.Fetches s1 core w j a i true x →
     Claims.Chained s1 core w j a i k x y → s1.pipeFree core part (pipe i) = true → s1.pipeFree core part (pipe k) = true →
     (k = .merge → r.arm = 0 ∨ (s1.core core).turns part ≠ 0 ∨
       ∃ e, e ∈ s1.partArms core part ∧ e.1.slot = r.slot ∧ s1.mergesNext e = false) →
     s2 = { s1.touchPair core j a with cur := some r } → s2.ctx? i = some c → s2.ctx? k = some d →
     (∀ v, (c.check (s2.core core) i = .wait v ∨ c.check (s2.core core) i = .go ∧ d.check (s2.core core) k = .wait v) →
       (s1.touchPair core j a).issuePair r i k = .next ((s1.touchPair core j a).modArm r (fun a => { a with hold := .wait v }))) ∧
     (∀ t u b, c.check (s2.core core) i = .go → d.check (s2.core core) k = .go →
       exec i s2 = .next t → t.arm? r = some b →
       (b.hold = .none → exec k { t with cur := some r } = .next u →
         ({ t with cur := none } : State).waits r { u with cur := none } = false → s1.waits r { u with cur := none } = false →
         step s = .next (Claims.chosen { u with cur := none } core part r [i, k])) ∧
       (∀ q e, b.hold ≠ .none → b.cap = some q → k ≠ .merge → (k = .exit → storesOrAtomic q.ins = false) →
         exec k { t.modArm r (fun a => { a.advance with cap := none }) with cur := some r } = .next u → u.arm? r = some e → e.hold = .none →
         step s = .next (Claims.chosen (({ u with cur := none } : State).modArm (Claims.holder t u r)
           (fun a => { a with hold := b.hold, cap := some q, paired := true })) core part r [i, k])) ∧
       (∀ q, b.hold ≠ .none → b.cap = some q → k = .merge ∨ (k = .exit ∧ storesOrAtomic q.ins = true) →
         ∃ y, y.ins = k ∧ step s = .next (Claims.chosen (({ t with cur := none } : State).modArm r (fun a =>
           { ({ a.advance with cap := none, also := none, paired := false } : Arm).advance with
             hold := b.hold, cap := some q, also := some (.wait .earlier, y), paired := true })) core part r [i, k])))) ∧
  (∀ (s s1 t : State) (rest : List Move) (core part : Nat) (x y z : ArmRef × Arm × Host.Outcome State Fault Refusal)
     (mates : List (ArmRef × Wave × Arm)), s.agenda = .issue core part :: rest → s1 = { s with agenda := rest } →
     (s1.core core).turns part = 0 → s1.tryArms (s1.candidates core part) = some x → x.1.arm = 1 →
     mates = (s1.partArms core part).filter (fun e => e.1.slot == x.1.slot) → mates.length = 2 → (∀ e, e ∈ mates → s1.mergesNext e = true) →
     State.countTurn core x = .next t → t.tryArms (t.candidates core part) = some y → y.1 = { x.1 with arm := 0 } →
     s1.tryArms (mates.filter (fun e => e.1.arm == 0)) = some z → step s = State.countTurn core z)

/-- Decoding gives back every well-formed instruction from its word, with its chain bit (R98, R107 to R112): no bit of an
encoding is dropped, for any value of any field. -/
def Obligations.DecodeEncode : Prop :=
  ∀ (i : Instr) (c : Bool) (w : Word), i.wf = true → encode c i = some w →
    decodeWord w.toNat = .ok i ∧ chainBit w.toNat = c

/-- Words that the specification prints decode to the instructions that they stand for: of the system group and the transfers of control
(R112, R197, R274, R357, R368, R371, R383, R423), of the scalar, vector and predicate families, of loads, stores and prefetches of global
and of local memory (R376, R381, R430, R431), of tasks and futures (R93, R361), and of the matrix, copy and Bramble engines (R209,
R238). -/
def Obligations.DecodeWords : Prop :=
  (decodeWord 0x00000000 = .ok .nop ∧ decodeWord 0x80000000 = .ok .nop ∧ chainBit 0x80000000 = true ∧
    decodeWord 0x00400004 = .ok (.fence 4) ∧ decodeWord 0x00480002 = .ok (.acq 2) ∧ decodeWord 0x00500004 = .ok (.rel 4) ∧
    decodeWord 0x0020A000 = .ok (.preoff 5) ∧ decodeWord 0x00280000 = .ok .preon ∧ decodeWord 0x00080000 = .ok .exit ∧
    decodeWord 0x00308000 = .ok (.getc 4 0) ∧ decodeWord 0x00314010 = .ok (.getc 10 16) ∧ decodeWord 0x00B78000 = .ok (.jmp 60) ∧
    decodeWord 0x00B80000 = .ok .merge ∧ decodeWord 0x2200003C = .ok (.call 60) ∧ decodeWord 0x2E08000A = .ok (.split 1 10) ∧
    decodeWord 0x31406C00 = .ok (.switch 40 3 3)) ∧
  (decodeWord 0x0220A32E = .ok (.scmp 4 5 6 2) ∧ decodeWord 0x1020BFFF = .ok (.scmpImm 4 5 7 0x3FF) ∧
    decodeWord 0x04188280 = .ok (.sbfx 3 4 5 0) ∧ decodeWord 0x0418C381 = .ok (.sbfi 3 6 7) ∧
    decodeWord 0x04106002 = .ok (.sclz 2 3) ∧ decodeWord 0x124C5678 = .ok (.smovi 9 0x45678) ∧
    decodeWord 0x14480246 = .ok (.slih 9 0x246) ∧ decodeWord 0x04286007 = .ok (.maskp 5 3) ∧
    decodeWord 0x0418A008 = .ok (.pmask 3 5) ∧ decodeWord 0x04304039 = .ok (.vote 6 2 3)) ∧
  (decodeWord 0x401A800F = .ok (.vbcast 3 20 0) ∧ decodeWord 0x42188283 = .ok (.vbfxI 3 4 5 0) ∧
    decodeWord 0x4420A30F = .ok (.vmad 4 5 6 7 1) ∧ decodeWord 0x4020A32D = .ok (.vsel 4 5 6 2) ∧
    decodeWord 0x58104180 = .ok (.vfaddF32 2 2 3 0) ∧ decodeWord 0x5828CD0F = .ok (.vfcvtF32 5 6 0x1A 0) ∧
    decodeWord 0x5820A305 = .ok (.vfdiv 4 5 6 0) ∧ decodeWord 0x640841F0 = .ok (.pand 1 2 3 7) ∧
    decodeWord 0x6820A013 = .ok (.vred 4 5 1 3) ∧ decodeWord 0x6830E018 = .ok (.vscan 6 7 1 0)) ∧
  (decodeWord 0x6A118084 = .ok (.ld 2 12 1 0 0 4) ∧ decodeWord 0x6C118084 = .ok (.st 2 12 1 0 0 4) ∧
    decodeWord 0x6C30810D = .ok (.st 6 4 2 0 1 5) ∧ decodeWord 0x1610C000 = .ok (.lds 2 6 0) ∧
    decodeWord 0x16189FFC = .ok (.lds 3 4 (-4)) ∧ decodeWord 0x1810DFF8 = .ok (.sts 2 6 (-8)) ∧
    decodeWord 0x1A188805 = .ok (.ldacq 3 4 2 5) ∧ decodeWord 0x1C188802 = .ok (.strel 3 4 2 2) ∧
    decodeWord 0x76008102 = .ok (.pref 4 2 0 2) ∧ decodeWord 0x6E20C10A = .ok (.ldlW 4 6 2 0 1) ∧
    decodeWord 0x7048C104 = .ok (.stl 9 6 2 0 4) ∧ decodeWord 0x7020C10A = .ok (.stlFill 4 6 2 0 1)) ∧
  (decodeWord 0x32080000 = .ok (.spawnS 1) ∧ decodeWord 0x32118000 = .ok (.spawnL 6) ∧ decodeWord 0x00910000 = .ok (.tend 8) ∧
    decodeWord 0x34008320 = .ok (.fnew 4 6 2) ∧ decodeWord 0x34008601 = .ok (.fjoin 4 12) ∧ decodeWord 0x34408002 = .ok (.fwait 8 4) ∧
    decodeWord 0x34008503 = .ok (.fput 4 10)) ∧
  (decodeWord 0x36080000 = .ok (.copy 32) ∧ decodeWord 0x3608282B = .ok (.copyM 32 40 1 3) ∧ decodeWord 0x36440022 = .ok (.mma 16 1 2) ∧
    decodeWord 0x36441808 = .ok (.mmaMc 16 24 0 0) ∧ decodeWord 0x36500005 = .ok (.accz 5) ∧ decodeWord 0x36650041 = .ok (.accld 20 2 1) ∧
    decodeWord 0x36750041 = .ok (.accst 20 2 1) ∧ decodeWord 0x00C0C000 = .ok (.cwait 6) ∧ decodeWord 0x00980000 = .ok .ptake ∧
    decodeWord 0x00A06000 = .ok (.ppass 3) ∧ decodeWord 0x00A00001 = .ok .ppassFree) ∧
  (decodeWord 0x36841801 = .ok (.cxopenIntersect 16 24 1) ∧ decodeWord 0x36841820 = .ok (.cxopenUnion 16 24 0) ∧
    decodeWord 0x36840042 = .ok (.cxopenExpand 16 2) ∧ decodeWord 0x36921E41 = .ok (.cxnext 8 30 2 1) ∧
    decodeWord 0x36A18701 = .ok (.cxsplit 6 7 1) ∧ decodeWord 0x36B18001 = .ok (.cxsave 6 1) ∧ decodeWord 0x36C18002 = .ok (.cxload 6 2) ∧
    decodeWord 0x36C40020 = .ok (.cxloadS 16 0) ∧ decodeWord 0x36D00003 = .ok (.cxclose 3))

/-- The state right after reset meets the invariant that every step keeps (Claims.Inv): device memory, host memory, firmware
staging and the bytes of every SCRATCH allocation are in their canonical form, and the number of virtual functions is one that
the register NUM_VFS can hold. -/
def Obligations.ResetInvariant : Prop := Claims.Inv State.reset

/-- The canonical form of every memory is kept by every step, from every state that has it. -/
def Obligations.StepInvariant : Prop := ∀ s t, Claims.Inv s → step s = .next t → Claims.Inv t

/-- Memory reads as last written (R2, R191): bytes written from an address upward are read back in their order, and every byte
outside them reads as before.
Two memories in the canonical form that read the same at every address are equal data.
Multi-byte values are little-endian (R2): the byte at the lowest address holds the least significant bits of a value, and the
bytes of a value give the value back. -/
def Obligations.MemoryLaws : Prop :=
  (∀ (m : Memory) (a : Nat) (bs : List Byte),
     Memory.readBytes (Memory.writeBytes m a bs) a bs.length = bs ∧
     (∀ b, b < a ∨ a + bs.length ≤ b → Memory.read (Memory.writeBytes m a bs) b = Memory.read m b) ∧
     (Memory.wf m = true → Memory.wf (Memory.writeBytes m a bs) = true)) ∧
  (∀ m n : Memory, Memory.wf m = true → Memory.wf n = true → (∀ a, Memory.read m a = Memory.read n a) → m = n) ∧
  (∀ (n x : Nat), (natBytes n x).length = n ∧ bytesNat (natBytes n x) = x % 256 ^ n ∧
     (∀ k, k < n → (natBytes n x).getD k 0#8 = BitVec.ofNat 8 (x / 256 ^ k)))

/-- Every instruction and step answers a next state (R8, R278): an instruction word whose arm is live, and every step of the
device or the host, but for a grant or a peer's request whose bytes reach past the 2^40
bytes of device memory.
The grant and the request that do not answer are the stops of assumption 10. -/
def Obligations.EveryInstructionAnswers : Prop :=
  ∀ (i : Instr) (s : State),
    ((encodeFields i).isSome = true ∨ (∃ w, i = .illegalInstruction w) → ∃ c, s.ctx? .nop = some c) →
    (∀ pasid page write base size a r w, i = .translationCompletion pasid page write (.grant base size (.dpa a) r w) → a + size ≤ 2 ^ 40) →
    (∀ src tag op, i = .peerRequest src tag op → peerAddr op + peerSize op ≤ 2 ^ 40) → ∃ t, exec i s = .next t
/-! ### What stands in a word's way, faults and traps -/

/-- An instruction word that names a vector register beyond its wave's count, which no stream port stands for, raises the
illegal-instruction fault at its own address (R42, R113). An engine instruction whose queue is full makes no such check: its arm
waits, and nothing else changes (R215, R224, R230, R320).
A word that is no instruction raises the illegal-instruction fault at its own address when an arm reaches it (R113). -/
def Obligations.IllegalFaults : Prop :=
  (∀ (i : Instr) (s : State) (c : Ctx), (encodeFields i).isSome = true → s.ctx? i = some c → c.arm.cap = none →
     ((s.core c.r.core).engineFull i = false → c.wave.lacks i = true →
       exec i s = .next (c.fault 0x10 0 (c.job.cbase + 12 * c.arm.pc + 4 * c.arm.word) s)) ∧
     ((s.core c.r.core).engineFull i = true →
       exec i s = .next (s.modArm c.r (fun a => { a with hold := .wait .engineQueue })))) ∧
  (∀ (w : Word) (s : State) (c : Ctx), s.ctx? .nop = some c →
     exec (.illegalInstruction w) s = .next (c.fault 0x10 0 (c.job.cbase + 12 * c.arm.pc + 4 * c.arm.word) s))

/-- An instruction word with an empty source or destination register does not issue (R52), unless the trap of R53 applies: its
arm waits, and nothing else changes.
An empty source in a position whose ETRAP bit is set makes the word trap (R53, R276): cause 3 with the position as ARG, the
register in FADDL, and resume at the packet; the arm goes to the trap entry, s60 and s61 are full, and nothing else of the wave changes.
That a load in flight to s60 or s61 is dropped at a trap is a choice of the model (assumption 40). -/
def Obligations.EmptyOperands : Prop :=
  (∀ (i : Instr) (s : State) (c : Ctx), (encodeFields i).isSome = true → s.ctx? i = some c → c.arm.cap = none →
     (s.core c.r.core).engineFull i = false → c.wave.lacks i = false → c.trapSource (uses i) = none →
     ((∃ e, e ∈ (uses i).vs ∧ c.vEmpty e.1 = true) ∨ (∃ e, e ∈ (uses i).ss ∧ c.sEmpty e.1 = true) ∨
       (∃ r, r ∈ (uses i).vd ∧ c.vEmpty r = true) ∨ (∃ r, r ∈ (uses i).sd ∧ c.sEmpty r = true)) →
     exec i s = .next (s.modArm c.r (fun a => { a with hold := .wait .empty }))) ∧
  (∀ (i : Instr) (s : State) (c : Ctx) (p r : Nat), (encodeFields i).isSome = true → s.ctx? i = some c → c.arm.cap = none →
     (s.core c.r.core).engineFull i = false → c.wave.lacks i = false → c.trapSource (uses i) = some (p, r) → c.job.tent ≠ 0xFFFFFFFF →
     exec i s = .next (s.modWave c.r.core c.r.slot (fun w =>
       { (w.setS 60 (lo32 (c.job.cbase + 12 * c.arm.pc))).setS 61 (hi32 (c.job.cbase + 12 * c.arm.pc)) with
         fcause := fcauseWord true p 0 3, faddl := lo32 r, faddh := hi32 r,
         sEmpty := w.sEmpty.filter (fun e => e.1 != 60 && e.1 != 61),
         inflight := w.inflight.map (fun (q : Pending) => { q with sdst := q.sdst.filter (fun e => e.1 != 60 && e.1 != 61) }) }.modArm c.r.arm (fun a => a.goto c.job.tent))))

/-- The capability check of R300 for the instructions whose class their opcode fixes: a class outside the job's OUM raises fault
0x15, and else a class outside the core's mask raises fault 0x16, with the class in FADDL, before any other effect.
A class that the run log of a core has room for enters it once, against the job (R305): registers, memory and the other
cores stay as they are. -/
def Obligations.Capabilities : Prop :=
  (∀ (i : Instr) (s : State) (c : Ctx) (k : Nat), (encodeFields i).isSome = true → s.ctx? i = some c →
     c.arm.cap = none → c.check (s.core c.r.core) i = .go → classOf i = some k →
     (c.job.oum.getLsbD k = false → exec i s = .next (c.fault 0x15 0 k s)) ∧
     (c.job.oum.getLsbD k = true → (s.capMask c.r.core).getLsbD k = false → exec i s = .next (c.fault 0x16 0 k s))) ∧
  (∀ (s : State) (core jid cls : Nat), (s.core core).runLog.length < 256 →
     (((s.noteClass core jid cls).core core).runLog =
       if (jid, cls) ∈ (s.core core).runLog then (s.core core).runLog else (s.core core).runLog ++ [(jid, cls)]) ∧
     s.sameMemory (s.noteClass core jid cls) ∧ s.sameScratch (s.noteClass core jid cls) ∧
     (∀ c k, (s.noteClass core jid cls).wave? c k = s.wave? c k) ∧
     (∀ c, c ≠ core → (s.noteClass core jid cls).core c = s.core c))

/-- The fault record (R280): header with PRI 3, VB of the job and the tag of a task, FENT, the cause, the address, where the wave
stood, who it was, the arm's EXM and the count of its stack, the words of the cause, and zeros.
A wave that halts, or ends (`x`), keeps nothing running (R47, R278): no arm and no part of it remains, its loads in flight are
dropped, its stream ports are unmapped, PRES is 0, its message ports and its place in the pennant queue are free; its general
registers, its predicates and its other control registers stay, and no byte of device memory changes. Only of a wave that ends does
an arm stay with a store or an atomic that it has issued and that waits, which is still performed (R357); that a halt abandons
it is the model's choice (assumption 6).
The reserved bits of a record read 0 (assumption 22). -/
def Obligations.FaultHalt : Prop :=
  (∀ (s : State) (core slot : Nat) (w : Wave) (h : HaltAt) (cause : Word) (addr : Nat) (tail : List Word),
     tail.length ≤ 16 →
     let t := s.team w.tid
     let j := s.job t.job
     let r := s.faultRecord core slot w h cause addr tail
     r.length = 32 ∧
     r.getD 0 0#32 = BitVec.ofNat 32 (3 * 2 ^ 28 + j.vrb * 2 ^ 16 + (if w.isTask then w.tag else 0)) ∧
     r.getD 1 0#32 = BitVec.ofNat 32 j.fent ∧ r.getD 2 0#32 = 0#32 ∧ r.getD 3 0#32 = 0#32 ∧ r.getD 4 0#32 = cause ∧
     r.getD 5 0#32 = lo32 addr ∧ r.getD 6 0#32 = hi32 addr ∧ r.getD 7 0#32 = BitVec.ofNat 32 h.pc ∧
     r.getD 8 0#32 = waveWord t slot w ∧
     r.getD 9 0#32 = (BitVec.ofNat 32 (h.word * 2 ^ 30 + (if h.imp then 2 ^ 29 else 0)) ||| w.spld) ∧
     r.getD 10 0#32 = BitVec.ofNat 32 core ∧ r.getD 11 0#32 = BitVec.ofNat 32 t.num ∧ r.getD 12 0#32 = BitVec.ofNat 32 j.num ∧
     r.getD 13 0#32 = h.exm ∧ r.getD 14 0#32 = lo32 (s.stack (stackOf core)).ck ∧
     r.getD 15 0#32 = hi32 (s.stack (stackOf core)).ck ∧
     (∀ k, k < 16 → r.getD (16 + k) 0#32 = tail.getD k 0#32)) ∧
  (∀ (s : State) (core slot : Nat) (w : Wave) (x : Bool), s.wave? core slot = some w →
     let t := s.releaseWave core slot w x
     ∃ v, t.wave? core slot = some v ∧ v.ended = true ∧ v.stack = [] ∧ v.groups = [] ∧ v.ports = [] ∧ v.pres = 0#32 ∧
       (x = false ∨ (∀ e, e ∈ w.arms → e.2.cap = none ∧ e.2.also = none) → v.arms = [] ∧ v.inflight = []) ∧
       (∀ e, e ∈ v.arms → ∃ q a, e.2.cap = some q ∧ storesOrAtomic q.ins = true ∧ (e.1, a) ∈ w.arms) ∧
       (∀ n, v.sreg n = w.sreg n) ∧ (∀ n, v.vreg n = w.vreg n) ∧
       (∀ n, v.preg n = w.preg n) ∧ v.mode = w.mode ∧ v.flags = w.flags ∧ v.ltile = w.ltile ∧ v.etrap = w.etrap ∧
       (t.core core).port ≠ some slot ∧ (∀ r, r ∈ (t.core core).queue → r.slot ≠ slot) ∧ s.sameMemory t)

/-- TRAP and BRK (R275, R276): the arm goes to the trap entry with its EXM; s60:s61 hold the address of the next packet, FCAUSE
the code, FADDL:FADDH the address of the word; every other register, and all of memory, stay. s60 and s61 are full, and no load in
flight writes them any more (R338). Without a trap entry the wave
halts with the same cause and address, TR clear.
That a load in flight to s60 or s61 is dropped is a choice of the model (assumption 40). -/
def Obligations.TrapsEnter : Prop :=
  ∀ (s : State) (c : Ctx) (i : Instr) (code : Nat) (n : BitVec 13), Ready s i c → s.logRoom c i →
    (i = .trap n ∧ code = 1 ∨ i = .brk n ∧ code = 2) →
    (c.job.tent ≠ 0xFFFFFFFF →
      ∃ t w a, exec i s = .next t ∧ t.wave? c.r.core c.r.slot = some w ∧ NMap.get? w.arms c.r.arm = some a ∧
        a.pc = c.job.tent ∧ a.word = 0 ∧ a.exm = c.arm.exm ∧
        w.sreg 60 = lo32 (c.job.cbase + 12 * (c.arm.pc + 1)) ∧ w.sreg 61 = hi32 (c.job.cbase + 12 * (c.arm.pc + 1)) ∧
        w.fcause = fcauseWord true n.toNat 0 code ∧
        w.faddl = lo32 (c.job.cbase + 12 * c.arm.pc + 4 * c.arm.word) ∧
        w.faddh = hi32 (c.job.cbase + 12 * c.arm.pc + 4 * c.arm.word) ∧
        (∀ e, e ∈ w.sEmpty ↔ e ∈ c.wave.sEmpty ∧ e.1 ≠ 60 ∧ e.1 ≠ 61) ∧
        (∀ p, p ∈ w.inflight → ∀ e, e ∈ p.sdst → e.1 ≠ 60 ∧ e.1 ≠ 61) ∧
        (∀ k, k ≠ 60 → k ≠ 61 → w.sreg k = c.wave.sreg k) ∧ (∀ k, w.vreg k = c.wave.vreg k) ∧
        (∀ k, w.preg k = c.wave.preg k) ∧ w.flags = c.wave.flags ∧ w.mode = c.wave.mode ∧ w.ltile = c.wave.ltile ∧
        w.etrap = c.wave.etrap ∧ w.aband = c.wave.aband ∧ w.pres = c.wave.pres ∧ s.sameMemory t ∧ s.sameScratch t) ∧
    (c.job.tent = 0xFFFFFFFF →
      exec i s = .next ((s.noted c i).haltWave c.r.core c.r.slot ⟨c.arm.pc, c.arm.word, c.arm.exm, false⟩
        (fcauseWord false n.toNat 0 code) (c.job.cbase + 12 * c.arm.pc + 4 * c.arm.word) [] true))
/-! ### Scalar instructions -/

/-- The scalar instructions of the table write their result to one scalar register, once per issue, whatever the mask (R45, R382,
R407, R410, R411, R418, R459), and change nothing else but the run log and the arm's place.
What a scalar instruction of the table leaves alone: every register but its destination, every control register, every other
wave, and all of memory (R45, R125). -/
def Obligations.ScalarTable : Prop :=
  (∀ (s : State) (c : Ctx) (i : Instr) (d : Reg) (x : Word), Ready s i c → Claims.scalarRule c i = some (d, x) →
     exec i s = .next (Claims.wrote s c i (fun w => w.setS d.toNat x))) ∧
  (∀ (s t : State) (c : Ctx) (i : Instr) (d : Reg) (x : Word), Ready s i c → s.logRoom c i →
     (Claims.scalarRule c i = some (d, x)) → exec i s = .next t →
     ∃ w, t.wave? c.r.core c.r.slot = some w ∧ w.sreg d.toNat = x ∧ (∀ n, n ≠ d.toNat → w.sreg n = c.wave.sreg n) ∧
       (∀ n, w.vreg n = c.wave.vreg n) ∧ (∀ n, w.preg n = c.wave.preg n) ∧ w.controls = c.wave.controls ∧
       (∀ k j, (k ≠ c.r.core ∨ j ≠ c.r.slot) → t.wave? k j = s.wave? k j) ∧
       (∀ k, (t.core k).acc = (s.core k).acc ∧ (t.core k).cx = (s.core k).cx ∧ (t.core k).holder = (s.core k).holder) ∧
       s.sameMemory t ∧ s.sameScratch t)

/-- A shift takes its amount modulo 32, from a register or an immediate (R126): SSHL and VSHL fill with zeros from the right, SSHR with
x = 0, its immediate form and VSHR with zeros from the left, SSRA, VSRA, and SSHR with x = 1, which is the same as SSRA (R110), with
copies of bit 31. -/
def Obligations.ShiftAmounts : Prop :=
  (∀ (s : State) (c : Ctx) (i : Instr) (d : Reg) (x : Word) (n k : Nat), Ready s i c →
    Claims.scalarShift c i = some (d, x, n, k) →
    exec i s = .next (Claims.wrote s c i (fun w => w.setS d.toNat (Claims.shifted k n x)))) ∧
  (∀ (s : State) (c : Ctx) (i : Instr) (d : Reg) (x : Nat → Word) (n : Nat → Nat) (k : Nat), Ready s i c →
    Claims.vectorShift (s.begun c i).1 i = some (d, x, n, k) →
    exec i s = .next ((s.begun c i).1.retire { vdst := [(d.toNat, LaneVec.ofFn (fun l => Claims.shifted k (n l) (x l)))] }
      (s.begun c i).2))

/-- SDIV (R128): truncates toward zero; a zero divisor gives all ones and the dividend, the one overflow gives 0x8000_0000 and 0;
x[0] selects the remainder. -/
def Obligations.DivideResult : Prop :=
  ∀ (s : State) (c : Ctx) (d a b : Reg) (u v : BitVec 1), Ready s (.sdiv d a b u v) c →
    exec (.sdiv d a b u v) s = .next (Claims.wrote s c (.sdiv d a b u v) (fun w => w.setS d.toNat
      (let q := Claims.quotient (u == 1#1) (c.wave.sreg a.toNat) (c.wave.sreg b.toNat)
       if v = 1#1 then q.2 else q.1)))

/-- The bit-field instructions, bit by bit (R129): SBFX and SBFI on scalars, VBFX.i, VBFX.n and VBFI in every lane. -/
def Obligations.BitFields : Prop :=
  (∀ (s : State) (c : Ctx) (d a b : Reg) (u : BitVec 1), Ready s (.sbfx d a b u) c →
    ∃ x, exec (.sbfx d a b u) s = .next (Claims.wrote s c (.sbfx d a b u) (fun w => w.setS d.toNat x)) ∧
      ∀ n, n < 32 → x.getLsbD n = Claims.extractBit (u == 1#1) (c.wave.sreg a.toNat) (c.wave.sreg b.toNat) n) ∧
  (∀ (s : State) (c : Ctx) (d a b : Reg), Ready s (.sbfi d a b) c →
    ∃ x, exec (.sbfi d a b) s = .next (Claims.wrote s c (.sbfi d a b) (fun w => w.setS d.toNat x)) ∧
      ∀ n, n < 32 → x.getLsbD n =
        Claims.insertBit (c.wave.sreg d.toNat) (c.wave.sreg a.toNat) (c.wave.sreg b.toNat) n) ∧
  (∀ (s : State) (c : Ctx) (i : Instr) (d : Reg) (f : Nat → Nat → Bool), Ready s i c →
    Claims.vectorField (s.begun c i).1 i = some (d, f) →
    ∃ x : Nat → Word, exec i s = .next ((s.begun c i).1.retire { vdst := [(d.toNat, LaneVec.ofFn x)] } (s.begun c i).2) ∧
      ∀ l n, n < 32 → (x l).getLsbD n = f l n)

/-- PMASK writes the lanes of the arm's EXM and keeps the others; a write to p0 is discarded (R44, R396).
PAND, POR, PXOR and PNOT write the enabled lanes of their predicate (R394); the other lanes, the other registers and memory stay;
p0 is never written (R44). -/
def Obligations.PredicateWrites : Prop :=
  (∀ (s : State) (c : Ctx) (p : PReg) (a : Reg), Ready s (.pmask p a) c → s.logRoom c (.pmask p a) →
     ∃ t w, exec (.pmask p a) s = .next t ∧ t.wave? c.r.core c.r.slot = some w ∧
       (∀ l, l < 32 → (w.preg p.toNat).getLsbD l =
         if p = 0#3 then true else if c.arm.exm.getLsbD l then (c.wave.sreg a.toNat).getLsbD l
         else (c.wave.preg p.toNat).getLsbD l) ∧
       (∀ q, q ≠ p.toNat → w.preg q = c.wave.preg q) ∧ (∀ n, w.sreg n = c.wave.sreg n) ∧ (∀ n, w.vreg n = c.wave.vreg n) ∧
       w.controls = c.wave.controls ∧ s.sameMemory t) ∧
  (∀ (s : State) (c : Ctx) (i : Instr) (d : PReg) (f : Nat → Bool), Ready s i c → s.logRoom c i →
     ((∃ a b g, i = .pand d a b g ∧ ∀ l, f l = ((c.wave.preg a.toNat).getLsbD l && (c.wave.preg b.toNat).getLsbD l)) ∨
      (∃ a b g, i = .por d a b g ∧ ∀ l, f l = ((c.wave.preg a.toNat).getLsbD l || (c.wave.preg b.toNat).getLsbD l)) ∨
      (∃ a b g, i = .pxor d a b g ∧ ∀ l, f l = ((c.wave.preg a.toNat).getLsbD l != (c.wave.preg b.toNat).getLsbD l)) ∨
      (∃ a g, i = .pnot d a g ∧ ∀ l, f l = !(c.wave.preg a.toNat).getLsbD l)) →
     ∃ t w, exec i s = .next t ∧ t.wave? c.r.core c.r.slot = some w ∧
       (∀ l, l < 32 → (w.preg d.toNat).getLsbD l =
         if d = 0#3 then true else if c.lanes.getLsbD l then f l else (c.wave.preg d.toNat).getLsbD l) ∧
       (∀ n, n ≠ d.toNat → w.preg n = c.wave.preg n) ∧ (∀ n, w.sreg n = c.wave.sreg n) ∧
       (∀ n, w.vreg n = c.wave.vreg n) ∧ w.controls = c.wave.controls ∧ s.sameMemory t ∧ s.sameScratch t)

/-- SXGET and SXSET by an index into the wave's own registers (R42, R435): both complete for every index below the declared count that
is not empty and names no enabled port, which is read or written; one at or above the count faults with the index in FADDL; an empty
register holds the arm.
The message ports by index (R183, R436): SXGET and SXSET complete for the ports: s504 reads and writes the destination, whose
reserved bits read 0, s505 reads 0 and sends one message to the destination core with the sender's core, slot and job, once the buffer
of 16 has room (R184), s506 pops
the oldest message as a long-latency result and cannot be written, s507 reads DROP, SRC, SSLOT and CNT and takes a write of DROP
only as a clear. With no message a read of s506 waits with its destination empty, all registers as they were. -/
def Obligations.ScalarIndex : Prop :=
  (∀ (s : State) (c : Ctx) (d a b : Reg),
     let q := (c.wave.sreg a.toNat).toNat
     (Ready s (.sxget d a) c → c.isPort s q = false →
       (q < c.wave.sregN → c.sEmpty q = false →
         exec (.sxget d a) s = .next (Claims.wrote s c (.sxget d a) (fun w => w.setS d.toNat (c.wave.sreg q)))) ∧
       (c.wave.sregN ≤ q → exec (.sxget d a) s = .next (c.fault 0x10 0 q (s.noted c (.sxget d a)))) ∧
       (q < c.wave.sregN → c.sEmpty q = true →
         exec (.sxget d a) s = .next ((s.noted c (.sxget d a)).modArm c.r (fun x => { x with hold := .wait .empty })))) ∧
     (Ready s (.sxset a b) c → c.isPort s q = false →
       (q < c.wave.sregN → c.sEmpty q = false →
         exec (.sxset a b) s = .next (Claims.wrote s c (.sxset a b) (fun w => w.setS q (c.wave.sreg b.toNat)))) ∧
       (c.wave.sregN ≤ q → exec (.sxset a b) s = .next (c.fault 0x10 0 q (s.noted c (.sxset a b)))) ∧
       (q < c.wave.sregN → c.sEmpty q = true →
         exec (.sxset a b) s = .next ((s.noted c (.sxset a b)).modArm c.r (fun x => { x with hold := .wait .empty }))))) ∧
  (∀ (s : State) (c : Ctx) (d a b : Reg),
     let q := (c.wave.sreg a.toNat).toNat
     let core := c.r.core
     (Ready s (.sxget d a) c → c.isPort s q = true →
       let n := s.noted c (.sxget d a)
       (q = 504 → exec (.sxget d a) s =
         .next (Claims.wrote s c (.sxget d a) (fun w => w.setS d.toNat ((s.core core).pDest &&& 0x3FF#32)))) ∧
       (q = 507 → exec (.sxget d a) s = .next (Claims.wrote s c (.sxget d a) (fun w => w.setS d.toNat
         (BitVec.ofNat 32 ((if (s.core core).pDrop then 2 ^ 31 else 0) + (s.core core).pSrc * 2 ^ 16 + (s.core core).pSslot * 2 ^ 10 +
           (s.core core).rxq.length))))) ∧
       (q = 505 → exec (.sxget d a) s = .next (Claims.wrote s c (.sxget d a) (fun w => w.setS d.toNat 0#32))) ∧
       (q = 506 → ∀ m ms, (s.core core).rxq = m :: ms →
         exec (.sxget d a) s = .next (c.launch { sdst := [(d.toNat, m.payload)] } { }
           (n.modCore core (fun k => { k with rxq := ms, pSrc := m.src, pSslot := m.sslot }))).2) ∧
       (q = 506 → (s.core core).rxq = [] → ∃ t w x, exec (.sxget d a) s = .next t ∧ t.wave? c.r.core c.r.slot = some w ∧
         NMap.get? w.arms c.r.arm = some x ∧ x.hold = .wait .port ∧ x.pc = c.arm.pc ∧ x.word = c.arm.word ∧
         (∃ e, e ∈ w.sEmpty ∧ e.1 = d.toNat) ∧ (∀ k, w.sreg k = c.wave.sreg k) ∧ (∀ k, w.vreg k = c.wave.vreg k) ∧
         (∀ k, w.preg k = c.wave.preg k) ∧ (t.core core).rxq = [])) ∧
     (Ready s (.sxset a b) c → c.isPort s q = true →
       let n := s.noted c (.sxset a b)
       let x := c.wave.sreg b.toNat
       (q = 504 → exec (.sxset a b) s = .next ((n.modCore core (fun k => { k with pDest := x })).modArm c.r Arm.advance)) ∧
       (q = 507 → exec (.sxset a b) s =
         .next ((n.modCore core (fun k => { k with pDrop := k.pDrop && x.getLsbD 31 })).modArm c.r Arm.advance)) ∧
       (q = 505 → 16 ≤ (s.core core).txq.length → exec (.sxset a b) s = .next (n.modArm c.r (fun y => { y with hold := .wait .inject }))) ∧
       (q = 505 → (s.core core).txq.length < 16 → 1024 ≤ (s.core core).pDest.toNat → exec (.sxset a b) s = .next (c.fault 0x10 0 (s.core core).pDest.toNat n)) ∧
       (q = 505 → (s.core core).pDest.toNat < 1024 → (s.core core).txq.length < 16 →
         exec (.sxset a b) s = .next ((n.modCore core (fun k => { k with txq := k.txq ++
           [{ payload := x, job := c.job.jid, src := core, sslot := c.r.slot, suid := c.wave.uid,
              dst := (s.core core).pDest.toNat }] })).modArm c.r Arm.advance)) ∧
       (q = 506 → exec (.sxset a b) s = .next (c.fault 0x10 0 (c.job.cbase + 12 * c.arm.pc + 4 * c.arm.word) n))))

/-- GETC (R69 to R72, R369): it completes for each of the 28 registers of R71, of FLAGS once no earlier instruction of the wave has flags
to deliver: the value of the register at issue (Claims.controlValue) goes to the scalar register; a read of CYCL captures the whole
count, so that CYCH then gives its upper half; an index that R71 does not assign faults.
SETC (R55, R62, R69, R133, R413): MODE, FLAGS, LTILE, ETRAP, TFUTL, TFUTH and ABAND take a value without reserved bits or field values, of
which MODE and LTILE are in force from the next cycle on (R62);
a write of EXM keeps only lanes of the entry mask; a reserved value, a read-only register or an unassigned index faults. -/
def Obligations.ControlRegisters : Prop :=
  ((∀ (s : State) (c : Ctx) (d : Reg) (n : BitVec 13), Ready s (.getc d n) c → n.toNat < 28 →
     (n.toNat = 1 → c.wave.inflight.all (fun p => !p.hasFlags) = true) →
     exec (.getc d n) s = .next (Claims.wrote s c (.getc d n) (fun w =>
       { w with cycCap := if n.toNat = 16 then some (s.stack (c.r.core / 128)).ck else w.cycCap }.setS d.toNat (Claims.controlValue s c n.toNat)))) ∧
   (∀ (s : State) (c : Ctx) (d : Reg) (n : BitVec 13), Ready s (.getc d n) c → 28 ≤ n.toNat →
     exec (.getc d n) s = .next (c.fault 0x10 0 (c.job.cbase + 12 * c.arm.pc + 4 * c.arm.word) (s.noted c (.getc d n)))) ∧
   (∀ (s : State) (c : Ctx) (d : Reg), Ready s (.getc d 1) c → (∃ p, p ∈ c.wave.inflight ∧ p.hasFlags = true) →
     exec (.getc d 1) s = .next ((s.noted c (.getc d 1)).modArm c.r (fun x => { x with hold := .wait .flags })))) ∧
  (∀ (s : State) (c : Ctx) (a : Reg) (n : BitVec 13), Ready s (.setc a n) c →
     (n.toNat = 1 → c.wave.inflight.all (fun p => !p.hasFlags) = true) →
     let v := c.wave.sreg a.toNat
     let i : Instr := .setc a n
     (n.toNat = 0 → v.toNat < 4 → exec i s = .next (Claims.wrote s c i (fun w => { w with mode := v, mode0 := some (w.mode0.getD w.mode) }))) ∧
     (n.toNat = 1 → v.toNat < 32 → exec i s = .next (Claims.wrote s c i (fun w => { w with flags := v }))) ∧
     (n.toNat = 2 → v.toNat < 5 → exec i s = .next (Claims.wrote s c i (fun w => { w with ltile := v, ltile0 := some (w.ltile0.getD w.ltile) }))) ∧
     (n.toNat = 3 → v.toNat < 8 → exec i s = .next (Claims.wrote s c i (fun w => { w with etrap := v }))) ∧
     (n.toNat = 4 → exec i s = .next ((s.noted c i).modArm c.r (fun x => { x.advance with exm := v &&& x.entry }))) ∧
     (n.toNat = 12 → exec i s = .next (Claims.wrote s c i (fun w => { w with tfutl := v }))) ∧
     (n.toNat = 13 → exec i s = .next (Claims.wrote s c i (fun w => { w with tfuth := v }))) ∧
     (n.toNat = 25 → v &&& 0x7F000000#32 = 0#32 → exec i s = .next (Claims.wrote s c i (fun w => { w with aband := v }))) ∧
     ((n.toNat = 0 ∧ 4 ≤ v.toNat) ∨ (n.toNat = 1 ∧ 32 ≤ v.toNat) ∨ (n.toNat = 2 ∧ 5 ≤ v.toNat) ∨ (n.toNat = 3 ∧ 8 ≤ v.toNat) ∨
       (5 ≤ n.toNat ∧ n.toNat ≤ 11) ∨ (14 ≤ n.toNat ∧ n.toNat ≤ 24) ∨ (n.toNat = 25 ∧ v &&& 0x7F000000#32 ≠ 0#32) ∨
       26 ≤ n.toNat →
       exec i s = .next (c.fault 0x10 0 (c.job.cbase + 12 * c.arm.pc + 4 * c.arm.word) (s.noted c i))))

/-! ### Vector instructions -/

/-- The instructions of the vector pipe that write one vector register: integer arithmetic, moves and shuffles (R416, R442 to
R446, R457, R458, R462) and floating-point arithmetic with its flags (R451 to R453, R455, R456) deliver the lanes of the table, from
the sources as they are once stream ports have been popped.
Only enabled lanes are written (R45): where no stream port is read or written, each enabled lane of the destination takes the
result, every other lane and register keeps its value, FLAGS gains the flags raised, and no other control register, wave or byte
of memory changes. -/
def Obligations.VectorTable : Prop :=
  (∀ (s : State) (c : Ctx) (i : Instr) (x : Result), Ready s i c → Claims.pipeRule (s.begun c i).1 i = some x →
     exec i s = .next ((s.begun c i).1.retire x (s.begun c i).2)) ∧
  (∀ (s t : State) (c : Ctx) (i : Instr) (x : Result) (d : Nat) (v : LaneVec), Ready s i c → s.logRoom c i →
     (s.begun c i).1.popped = false → Claims.pipeRule c i = some x → x.vdst = [(d, v)] → c.wave.portBank d = none →
     exec i s = .next t →
     ∃ w, t.wave? c.r.core c.r.slot = some w ∧
       (∀ l, l < 32 → (w.vreg d).lane l = if c.lanes.getLsbD l then v.lane l else (c.wave.vreg d).lane l) ∧
       (∀ n, n ≠ d → w.vreg n = c.wave.vreg n) ∧ (∀ n, w.sreg n = c.wave.sreg n) ∧ (∀ n, w.preg n = c.wave.preg n) ∧
       w.flags = c.wave.flags ||| x.flags ∧ w.mode = c.wave.mode ∧ w.ltile = c.wave.ltile ∧ w.etrap = c.wave.etrap ∧
       (∀ k j, (k ≠ c.r.core ∨ j ≠ c.r.slot) → t.wave? k j = s.wave? k j) ∧ t.teams = s.teams ∧
       s.sameMemory t ∧ s.sameScratch t)

/-- A result for a mapped stream port is pushed, once, onto its FIFO bank (R49, R181): the enabled lanes carry the result, and the
wave's own register of that name keeps its value.
An instruction that reads one mapped stream port takes the oldest element of its ring when some lane is enabled (R181): its
source reads that element, once, the ring loses it, and the results of the instruction become long-latency (R50). -/
def Obligations.StreamPorts : Prop :=
  (∀ (s t : State) (c : Ctx) (i : Instr) (x : Result) (d b : Nat) (v : LaneVec), Ready s i c → s.logRoom c i →
     (s.begun c i).1.popped = false → Claims.pipeRule c i = some x → x.vdst = [(d, v)] → c.wave.portBank d = some b →
     c.lanes ≠ 0#32 → NMap.get? s.teams c.wave.tid = some c.team → exec i s = .next t →
     (∃ e, NMap.at (t.team c.wave.tid).rings b [] = NMap.at c.team.rings b [] ++ [e] ∧ e.filled = true ∧
       ∀ l, l < 32 → c.lanes.getLsbD l = true → e.data.lane l = v.lane l) ∧
     (∃ w, t.wave? c.r.core c.r.slot = some w ∧ ∀ n, w.vreg n = c.wave.vreg n) ∧ s.sameMemory t) ∧
  (∀ (s t : State) (c : Ctx) (i : Instr) (x : Result) (r k : Nat) (e : Elem) (es : List Elem), Ready s i c → s.logRoom c i →
     c.lanes ≠ 0#32 → c.wave.portsOf ((uses i).vs.map (fun y => y.1)) = [(r, k)] →
     NMap.at c.team.rings k [] = e :: es → NMap.get? s.teams c.wave.tid = some c.team →
     Claims.pipeRule (s.begun c i).1 i = some x → (∀ y, y ∈ x.vdst → c.wave.portBank y.1 = none) → exec i s = .next t →
     (s.begun c i).1.wave.vreg r = e.data ∧ NMap.at (t.team c.wave.tid).rings k [] = es ∧
     ∃ w p, t.wave? c.r.core c.r.slot = some w ∧ w.inflight = c.wave.inflight ++ [p] ∧ p.vdst = x.vdst ∧ p.flags = x.flags ∧
       p.lanes = c.lanes ∧ (∀ n, w.vreg n = c.wave.vreg n) ∧ s.sameMemory t)

/-- A long-latency producer marks its destinations empty when it issues, and its results wait in flight (R50, R51): vector
registers in the view of its arm, scalar registers for the wave; no register changes, and the arm moves on.
The special-function instructions are long-latency producers of the lanes of their table (R140, R141, R440, R450, R454); with
no enabled lane they only pass.
Values that R141 allows within 2 ulp are free values (assumption 9). -/
def Obligations.Producers : Prop :=
  (∀ (s : State) (c : Ctx) (i : Instr) (x : Result) (f : Flight), s.ctx? i = some c →
     (∀ e, e ∈ x.vdst → c.wave.portBank e.1 = none) →
     ∃ w a p, (c.launch x f s).2.wave? c.r.core c.r.slot = some w ∧ NMap.get? w.arms c.r.arm = some a ∧
       w.inflight = c.wave.inflight ++ [p] ∧ p.vdst = x.vdst ∧ p.sdst = x.sdst ∧ p.flags = x.flags ∧ p.lanes = c.lanes ∧
       p.id = (c.launch x f s).1 ∧ a.empty = c.arm.empty ++ x.vdst.map (fun e => (e.1, p.id)) ∧
       w.sEmpty = c.wave.sEmpty ++ x.sdst.map (fun e => (e.1, p.id)) ∧ a.pc = c.arm.advance.pc ∧ a.word = c.arm.advance.word ∧
       (∀ n, w.sreg n = c.wave.sreg n) ∧ (∀ n, w.vreg n = c.wave.vreg n) ∧ (∀ n, w.preg n = c.wave.preg n) ∧
       w.controls = c.wave.controls ∧ s.sameMemory (c.launch x f s).2) ∧
  (∀ (s : State) (c : Ctx) (i : Instr) (d : Reg) (f : Nat → Nat × Word), Ready s i c →
     Claims.sfuRule (s.begun c i).1 i = some (d, f) →
     (c.lanes ≠ 0#32 → exec i s = .next ((s.begun c i).1.launch
       { vdst := [(d.toNat, LaneVec.ofFn (fun l => BitVec.ofNat 32 (f l).1))],
         flags := Claims.raised (s.begun c i).1.lanes f } { hasFlags := true } (s.begun c i).2).2) ∧
     (c.lanes = 0#32 → exec i s = .next (Claims.passed s c i)))

/-- VRED and VSCAN combine the enabled lanes of each tile in ascending order (R460, R461): every enabled lane of a reduced tile takes
the whole combination, of an inclusive scan that of the lanes up to it, of an exclusive scan that of the lanes before it, or the
identity. -/
def Obligations.ReduceAndScan : Prop :=
  ∀ (s : State) (c : Ctx) (d a : Reg) (g f : BitVec 3) (k : BitVec 1),
    let on (c : Ctx) (p : Nat → Bool) : List Nat := (List.range 32).filter (fun n => c.lanes.getLsbD n && p n)
    let fold (c : Ctx) : List Nat → Word
      | [] => reduceIdentity f.toNat
      | l :: ls => ls.foldl (fun x n => (reduceOp f.toNat c.rm x (c.vl a n)).1) (c.vl a l)
    (Ready s (.vred d a g f) c →
      let b := s.begun c (.vred d a g f)
      let w := tileWidth (b.1.wave.ltile0.getD b.1.wave.ltile)
      ∃ v fl, exec (.vred d a g f) s = .next (b.1.retire { vdst := [(d.toNat, v)], flags := fl } b.2) ∧
        ∀ l, l < 32 → b.1.lanes.getLsbD l = true → v.lane l = fold b.1 (on b.1 (fun n => n / w == l / w))) ∧
    (Ready s (.vscan d a k f) c →
      let b := s.begun c (.vscan d a k f)
      let w := tileWidth (b.1.wave.ltile0.getD b.1.wave.ltile)
      ∃ v fl, exec (.vscan d a k f) s = .next (b.1.retire { vdst := [(d.toNat, v)], flags := fl } b.2) ∧
        ∀ l, l < 32 → b.1.lanes.getLsbD l = true → v.lane l =
          fold b.1 (on b.1 (fun n => n / w == l / w && (if k = 1#1 then decide (n < l) else decide (n ≤ l)))))

/-- VCMP (R139, R448): in the lanes of EXM the merge of its code is applied to the old predicates and the result of the compare;
under .z the lanes of the entry mask outside EXM are cleared in both; every other lane keeps its value, and a write to p0 is
discarded (R44). Only the f32 form changes FLAGS. -/
def Obligations.VectorCompare : Prop :=
  ∀ (s : State) (c : Ctx) (i : Instr) (p q : PReg) (m : BitVec 3) (r : Nat → Bool), Ready s i c → s.logRoom c i → i.wf = true →
    (∃ a b k, (i = .vcmpInt p q a b m k ∧ ∀ l, r l = condVector k.toNat ((s.begun c i).1.vl a l) ((s.begun c i).1.vl b l)) ∨
      (i = .vcmpImm p q a b m k ∧ ∀ l, r l = condVector k.toNat ((s.begun c i).1.vl a l) (b.signExtend 32)) ∨
      (i = .vcmpF32 p q a b m k ∧ ∀ l, r l = (condFloat k.toNat ((s.begun c i).1.vn a l) ((s.begun c i).1.vn b l)).1)) →
    ∃ t w, exec i s = .next t ∧ t.wave? c.r.core c.r.slot = some w ∧
      (∀ l, l < 32 →
        let x := (c.wave.preg p.toNat).getLsbD l
        let y := (c.wave.preg q.toNat).getLsbD l
        let on := c.arm.exm.getLsbD l
        let cleared := m.getLsbD 2 && c.arm.entry.getLsbD l
        (p ≠ 0#3 → (w.preg p.toNat).getLsbD l =
          if on then (if m.toNat % 4 = 0 then r l else if m.toNat % 4 = 1 then x && r l else x || r l) else x && !cleared) ∧
        (q ≠ 0#3 → (w.preg q.toNat).getLsbD l =
          if on then (if m.toNat % 4 = 0 then !(r l) else if m.toNat % 4 = 2 then y || !(r l) else y && !(r l))
          else y && !cleared)) ∧
      (∀ n, n ≠ p.toNat → n ≠ q.toNat → w.preg n = c.wave.preg n) ∧ (∀ n, w.sreg n = c.wave.sreg n) ∧
      (∀ n, w.vreg n = c.wave.vreg n) ∧ s.sameMemory t ∧ s.sameScratch t ∧
      ((∀ a b k, i ≠ .vcmpF32 p q a b m k) → w.controls = c.wave.controls)

/-- p0 reads as true in every lane, and a write to it is discarded, while the other destinations of an instruction are written
(R44). -/
def Obligations.PredicateZero : Prop :=
  ∀ (w : Wave) (m : Mask) (x : Result),
    w.preg 0 = 0xFFFFFFFF#32 ∧ (w.write m x).preg 0 = 0xFFFFFFFF#32 ∧
    (∀ n v, (n, v) ∈ x.sdst → (∀ e, e ∈ x.sdst → e.1 = n → e.2 = v) → (w.write m x).sreg n = v) ∧
    (∀ n v, (n, v) ∈ x.vdst → (∀ e, e ∈ x.vdst → e.1 = n → e.2 = v) → (w.write m x).vreg n = mergeLanes m (w.vreg n) v.lane) ∧
    (∀ n k v, x.pdst = [(0, k, v)] → (w.write m x).preg n = w.preg n)

/-- Special values of f32 (R136 to R138), as VFADD, VFMUL, VFMIN and VFMAX compute them: the first NaN operand is the result, made
quiet, and NV is raised for a signalling one; the sum of opposite infinities and the product of zero and infinity are the default
NaN with NV; of a number and a NaN the minimum and the maximum are the number, of two NaNs the first, made quiet; -0 orders below +0. -/
def Obligations.FloatSpecials : Prop :=
  ∀ (rm : Rm) (a b : Word),
    let nan (x : Word) : Prop := x.extractLsb' 23 8 = 0xFF#8 ∧ x.extractLsb' 0 23 ≠ 0#23
    let snan (x : Word) : Prop := nan x ∧ x.getLsbD 22 = false
    let f := Fmt.f32
    (nan a → (f.add rm a.toNat b.toNat).1 = (a ||| 0x00400000#32).toNat ∧ (f.mul rm a.toNat b.toNat).1 = (a ||| 0x00400000#32).toNat) ∧
    (¬ nan a → nan b →
      (f.add rm a.toNat b.toNat).1 = (b ||| 0x00400000#32).toNat ∧ (f.mul rm a.toNat b.toNat).1 = (b ||| 0x00400000#32).toNat ∧
      (f.minNum a.toNat b.toNat).1 = a.toNat ∧ (f.maxNum a.toNat b.toNat).1 = a.toNat) ∧
    (nan a → ¬ nan b → (f.minNum a.toNat b.toNat).1 = b.toNat ∧ (f.maxNum a.toNat b.toNat).1 = b.toNat) ∧
    (nan a → nan b → (f.minNum a.toNat b.toNat).1 = (a ||| 0x00400000#32).toNat ∧ (f.maxNum a.toNat b.toNat).1 = (a ||| 0x00400000#32).toNat) ∧
    (nan a ∨ nan b →
      (snan a ∨ snan b → (f.add rm a.toNat b.toNat).2 = 1#32 ∧ (f.mul rm a.toNat b.toNat).2 = 1#32 ∧
        (f.minNum a.toNat b.toNat).2 = 1#32 ∧ (f.maxNum a.toNat b.toNat).2 = 1#32) ∧
      (¬ (snan a ∨ snan b) → (f.add rm a.toNat b.toNat).2 = 0#32 ∧ (f.mul rm a.toNat b.toNat).2 = 0#32 ∧
        (f.minNum a.toNat b.toNat).2 = 0#32 ∧ (f.maxNum a.toNat b.toNat).2 = 0#32)) ∧
    f.add rm 0x7F800000 0xFF800000 = (0x7FC00000, 1#32) ∧ f.mul rm 0 0x7F800000 = (0x7FC00000, 1#32) ∧
    f.minNum 0 0x80000000 = (0x80000000, 0#32) ∧ f.maxNum 0x80000000 0 = (0, 0#32)

/-! ### Transfers of control and arms -/

/-- The branch instructions (R102, R319, R332 to R337): whether each is taken, and its relative target. A predicate branch is taken
when its test holds in every tile with an active lane, and some lane is active; without its t bit the wave is one tile. -/
def Claims.branch (c : Ctx) : Instr → Option (Prop × Int)
  | .bra o => some (True, o.toInt)
  | .bz a o => some (c.wave.sreg a.toNat = 0#32, o.toInt)
  | .bnz a o => some (c.wave.sreg a.toNat ≠ 0#32, o.toInt)
  | .bany p t o => some (Claims.tilesHold c t (fun l => (c.wave.preg p.toNat).getLsbD l = true) True, o.toInt)
  | .ball p t o => some (Claims.tilesHold c t (fun l => (c.wave.preg p.toNat).getLsbD l = false) False, o.toInt)
  | .bnone p t o => some (Claims.tilesHold c t (fun l => (c.wave.preg p.toNat).getLsbD l = true) False, o.toInt)
  | _ => none

/-- Branches, CALL, JMP and RET (R102, R332 to R337, R339, R371, R405): a transfer to a packet of the job goes to its word 0, an
untaken branch to the next packet; CALL writes the address of the next packet to s62:s63; a transfer to anywhere else faults with
the byte address of its target, and writes nothing. -/
def Obligations.TransfersOfControl : Prop :=
  (∀ (s : State) (c : Ctx) (i : Instr) (taken : Prop) (off : Int), Ready s i c → Claims.branch c i = some (taken, off) →
    (¬ taken → exec i s = .next (Claims.moved s c i (c.arm.pc + 1))) ∧
    (taken → 0 ≤ c.arm.pc + off → c.arm.pc + off < c.job.npkt →
      exec i s = .next (Claims.moved s c i (c.arm.pc + off).toNat)) ∧
    (taken → (c.arm.pc + off < 0 ∨ c.job.npkt ≤ c.arm.pc + off) →
      exec i s = .next (c.fault 0x10 0 (((c.job.cbase : Int) + 12 * (c.arm.pc + off)) % 2 ^ 64).toNat (s.noted c i)))) ∧
  (∀ (s : State) (c : Ctx) (o : BitVec 25), Ready s (.call o) c →
    let back := c.job.cbase + 12 * (c.arm.pc + 1)
    let dst : Int := c.arm.pc + o.toInt
    (0 ≤ dst → dst < c.job.npkt → exec (.call o) s = .next ((s.noted c (.call o)).modWave c.r.core c.r.slot (fun w =>
      ((w.setS 62 (lo32 back)).setS 63 (hi32 back)).modArm c.r.arm (fun a => a.goto dst.toNat)))) ∧
    (dst < 0 ∨ c.job.npkt ≤ dst →
      exec (.call o) s = .next (c.fault 0x10 0 (((c.job.cbase : Int) + 12 * dst) % 2 ^ 64).toNat (s.noted c (.call o))))) ∧
  (∀ (s : State) (c : Ctx) (i : Instr) (a : Reg) (k : Nat), Ready s i c → i = .jmp a ∨ i = .ret a →
    let va := pair (c.wave.sreg a.toNat) (c.wave.sreg (a.toNat + 1))
    (va = c.job.cbase + 12 * k → k < c.job.npkt → exec i s = .next (Claims.moved s c i k)) ∧
    ((∀ n, n < c.job.npkt → va ≠ c.job.cbase + 12 * n) → exec i s = .next (c.fault 0x10 0 va (s.noted c i))))

/-- SPLIT and SWITCH (R56, R423, R433): which active lanes form which part, in order. SPLIT: the fall-through at the next packet,
then the lanes of its predicate at the target. SWITCH of n scalars: for each of them the lanes whose vector element equals it and
none before it, at the packets that follow in order, then the others. A target outside the job faults, before a stream port that
names the elements is read: its ring keeps them all.
What becomes of the parts of a SPLIT or SWITCH (R54 to R58): parts without lanes are dropped; one part left means no split; two or
more open a group. An unsplit wave runs the first two as live arms 0 and 1, a split one the first in the issuing arm; the others
wait on the stack in order, the first on top. Too many for the 16 entries of the stack, or a 32nd group, faults, and what the word took
from a stream is given back. -/
def Obligations.SplitsTheWave : Prop :=
  ((∀ (s : State) (c : Ctx) (p : PReg) (o : BitVec 16), Ready s (.split p o) c →
     let dst : Int := c.arm.pc + o.toInt
     (0 ≤ dst → dst < c.job.npkt → ∃ f t, exec (.split p o) s =
       .next (c.splitInto [⟨f, c.arm.pc + 1⟩, ⟨t, dst.toNat⟩] (c.arm.pc + 1) (s.noted c (.split p o))) ∧
       ∀ l, l < 32 → f.getLsbD l = (c.arm.exm.getLsbD l && !(c.wave.preg p.toNat).getLsbD l) ∧
         t.getLsbD l = (c.arm.exm.getLsbD l && (c.wave.preg p.toNat).getLsbD l)) ∧
     (dst < 0 ∨ c.job.npkt ≤ dst → exec (.split p o) s =
       .next (c.fault 0x10 0 (((c.job.cbase : Int) + 12 * dst) % 2 ^ 64).toNat (s.noted c (.split p o))))) ∧
   (∀ (s : State) (c : Ctx) (a v : Reg) (n : BitVec 3), Ready s (.switch a v n) c →
     let b := s.begun c (.switch a v n)
     let k := n.toNat + 1
     (c.arm.pc + 1 + k < c.job.npkt → ∃ ps : List PartAt, exec (.switch a v n) s = .next (b.1.splitInto ps (c.arm.pc + 1 + k) b.2) ∧
       ps.length = k + 1 ∧ (∀ j, j ≤ k → ∃ m, ps[j]? = some ⟨m, c.arm.pc + 1 + j⟩ ∧
         ∀ l, l < 32 → (m.getLsbD l = true ↔ c.arm.exm.getLsbD l = true ∧
           (j < k → b.1.wave.sreg (a.toNat + j) = (b.1.wave.vreg v.toNat).lane l) ∧
           (∀ e, e < j → b.1.wave.sreg (a.toNat + e) ≠ (b.1.wave.vreg v.toNat).lane l)))) ∧
     (c.job.npkt ≤ c.arm.pc + 1 + k →
       exec (.switch a v n) s = .next (b.1.fault 0x10 0 ((c.job.cbase + 12 * (c.arm.pc + 1 + k)) % 2 ^ 64) (b.1.unpop b.2)) ∧
         ((b.1.unpop b.2).team c.wave.tid).rings = c.team.rings))) ∧
  (∀ (s : State) (c : Ctx) (ps : List PartAt) (alone : Nat), s.wave? c.r.core c.r.slot = some c.wave →
     NMap.get? c.wave.arms c.r.arm = some c.arm →
     let live := ps.filter (fun p => p.lanes != 0#32)
     let fits := (if c.wave.groups = [] then live.length - 2 else live.length - 1) + c.wave.stack.length ≤ 16 ∧
       c.wave.groups.length ≠ 31
     (live = [] → c.splitInto ps alone s = s.modArm c.r (fun a => a.goto alone)) ∧
     (∀ p, live = [p] → c.splitInto ps alone s = s.modArm c.r (fun a => a.goto p.pc)) ∧
     (2 ≤ live.length → c.wave.stack.length ≤ 16 → ¬ fits →
       c.splitInto ps alone s = c.fault 0x1A 0 (c.wave.stack.length + 2 ^ 32 * c.wave.groups.length) (c.unpop s)) ∧
     (∀ p q rest, live = p :: q :: rest → c.wave.stack.length ≤ 16 → fits →
       ∃ w g, (c.splitInto ps alone s).wave? c.r.core c.r.slot = some w ∧ w.groups = g :: c.wave.groups ∧
         g.parentGrp = c.arm.grp ∧ g.remaining = live.length ∧
         (∀ l, l < 32 → (g.lanes.getLsbD l = true ↔ ∃ e, e ∈ live ∧ e.lanes.getLsbD l = true)) ∧
         w.s = c.wave.s ∧ w.v = c.wave.v ∧ w.p = c.wave.p ∧ w.controls = c.wave.controls ∧
         (let arm (e : PartAt) : Arm := { c.arm with pc := e.pc, word := 0, exm := e.lanes, entry := e.lanes, grp := g.id, hold := .none }
          let part (e : PartAt) : Part := { pc := e.pc, lanes := e.lanes, grp := g.id, empty := c.arm.empty }
          (c.wave.groups = [] → w.arms = [(0, arm p), (1, arm q)] ∧ w.stack = rest.map part ++ c.wave.stack) ∧
          (c.wave.groups ≠ [] → NMap.get? w.arms c.r.arm = some (arm p) ∧ w.stack = (q :: rest).map part ++ c.wave.stack))))

/-- MERGE (R57, R383) completes: in an unsplit wave it goes on at the next packet, and in a split one it acts on the innermost
open group of its arm. An arm that is not the last of its group ends: the group counts one part less and adds its view of what is
empty to its own, all else of the groups stays, and the top of the stack takes the arm's place, whichever group it belongs to; without
one the arm is no more. The last ends the group: the parent resumes after the MERGE with the lanes of all the parts, and sees a
register as empty that any of them saw so (R51). -/
def Obligations.MergeJoins : Prop :=
  ∀ (s : State) (c : Ctx), Ready s .merge c →
    (c.wave.groups = [] → exec .merge s = .next (Claims.moved s c .merge (c.arm.pc + 1))) ∧
    (∀ g, c.wave.groups.find? (fun x => x.id == c.arm.grp) = some g →
      exec .merge s = .next ((s.noted c .merge).modWave c.r.core c.r.slot (fun w => w.merge c.r.arm c.arm g))) ∧
    (∀ g, s.logRoom c .merge → c.wave.groups.find? (fun x => x.id == c.arm.grp) = some g →
      ∃ t w, exec .merge s = .next t ∧ t.wave? c.r.core c.r.slot = some w ∧ w.s = c.wave.s ∧ w.v = c.wave.v ∧ w.p = c.wave.p ∧
        w.controls = c.wave.controls ∧ s.sameMemory t ∧ s.sameScratch t ∧
        (1 < g.remaining →
          (∃ view, w.groups = c.wave.groups.map (fun x => if x.id = g.id then { x with remaining := x.remaining - 1, empty := view } else x) ∧
            ∀ e, e ∈ view ↔ e ∈ g.empty ∨ e ∈ c.arm.empty) ∧
          (∀ e es, c.wave.stack = e :: es → w.stack = es ∧ ∃ a, NMap.get? w.arms c.r.arm = some a ∧ a.pc = e.pc ∧ a.word = 0 ∧
            a.exm = e.lanes ∧ a.entry = e.lanes ∧ a.grp = e.grp ∧ a.empty = e.empty) ∧
          (c.wave.stack = [] → w.stack = [] ∧ w.arms = NMap.del c.wave.arms c.r.arm)) ∧
        (g.remaining ≤ 1 → w.groups = c.wave.groups.filter (fun x => x.id != g.id) ∧ w.stack = c.wave.stack ∧
          ∃ a, NMap.get? w.arms c.r.arm = some a ∧ a.pc = c.arm.pc + 1 ∧ a.word = 0 ∧ a.exm = g.lanes ∧ a.entry = g.lanes ∧
            a.grp = g.parentGrp ∧ ∀ e, e ∈ a.empty ↔ e ∈ g.empty ∨ e ∈ c.arm.empty))

/-! ### The system group -/

/-- NOP and PREON, PREOFF, DRAIN and CWAIT (R274, R344, R355, R393). PREOFF opens a window of n cycles unless one is open or a switch is
pending, and faults for n of 0 or above PLIM; DRAIN goes on when at most its count of the wave's stores are outstanding; CWAIT
acquires at cluster scope once word 0 of its object is 0, its arm held until then with the address that it read at issue, and
faults on an address that is not a multiple of 16 or lies outside the allocation, and on poison.
EXIT ends its whole wave (R60, R357): its slot is free, or waits with the wave ended for its stores and engine operations, of its
arms only those with stores and atomics that have issued and wait; a nonzero TFUTH:TFUTL is delivered an error, and nothing else is delivered; EXIT abandons no team (R67). -/
def Obligations.WaveEndsAndWaits : Prop :=
  ((∀ (s : State) (c : Ctx), Ready s .nop c → exec .nop s = .next (Claims.passed s c .nop)) ∧
   (∀ (s : State) (c : Ctx), Ready s .preon c → exec .preon s = .next (Claims.wrote s c .preon (fun w => { w with pres := 0#32, opened := false }))) ∧
   (∀ (s : State) (c : Ctx) (a : Reg), Ready s (.preoff a) c →
     let n := c.wave.sreg a.toNat
     (n = 0#32 ∨ c.job.plim < n.toNat → exec (.preoff a) s = .next (c.fault 0x10 0 n.toNat (s.noted c (.preoff a)))) ∧
     (n ≠ 0#32 → n.toNat ≤ c.job.plim → c.wave.pres = 0#32 → c.team.switching = false →
       exec (.preoff a) s = .next (Claims.wrote s c (.preoff a) (fun w => { w with pres := n, opened := true }))) ∧
     (n ≠ 0#32 → n.toNat ≤ c.job.plim → c.wave.pres ≠ 0#32 ∨ c.team.switching = true →
       exec (.preoff a) s = .next (Claims.passed s c (.preoff a)))) ∧
   (∀ (s : State) (c : Ctx) (n : BitVec 13), Ready s (.drain n) c →
     let open_ := (s.noted c (.drain n)).outstanding c.r.core c.wave s.handles
     (open_ ≤ n.toNat → exec (.drain n) s = .next (Claims.passed s c (.drain n))) ∧
     (n.toNat < open_ → ∃ t, exec (.drain n) s = .next t ∧ Claims.Held (s.noted c (.drain n)) c (.drain n) (.wait .earlier) t)) ∧
   (∀ (s : State) (c : Ctx) (a : Reg), Ready s (.cwait a) c →
     let s' := s.noted c (.cwait a)
     let x := (c.wave.sreg a.toNat).toNat
     let al := s'.alloc c.team.alloc
     (x % 16 ≠ 0 → exec (.cwait a) s = .next (c.fault 0x10 0 x s')) ∧
     (x % 16 = 0 → al.bytes < x + 16 → exec (.cwait a) s = .next (c.fault 0x12 2 x s')) ∧
     (x % 16 = 0 → x + 16 ≤ al.bytes → x / 32 ∈ al.pois → exec (.cwait a) s = .next (c.fault 0x13 0 (x / 32 * 32) s')) ∧
     (x % 16 = 0 → x + 16 ≤ al.bytes → x / 32 ∉ al.pois →
       let zero := ∀ k, k < 4 → al.cells.read (x + k) = 0#8
       (zero → exec (.cwait a) s = .next (s'.finishAcquire c.r 2)) ∧
       (¬ zero → ∃ t, exec (.cwait a) s = .next t ∧ Claims.Held s' c (.cwait a) (.wait .completion) t)))) ∧
  (∀ (s : State) (c : Ctx), Ready s .exit c → s.logRoom c .exit →
     ∃ t, exec .exit s = .next t ∧
       (t.wave? c.r.core c.r.slot = none ∨ ∃ w, t.wave? c.r.core c.r.slot = some w ∧ w.ended = true ∧
         ∀ e, e ∈ w.arms → ∃ q, e.2.cap = some q ∧ storesOrAtomic q.ins = true) ∧
       (pair c.wave.tfutl c.wave.tfuth = 0 → t.deliveries = s.deliveries) ∧
       (pair c.wave.tfutl c.wave.tfuth ≠ 0 → ∃ d, t.deliveries = s.deliveries ++ [d] ∧ d.err = true ∧
         d.handle = pair c.wave.tfutl c.wave.tfuth ∧ d.value = 0#64 ∧ d.core = c.r.core) ∧
       (∀ k, (t.team k).abandoned = true → (s.team k).abandoned = true))

/-- ACQ, REL and FENCE (R194 to R198): FENCE and REL hold their arm until every earlier access of the wave is performed, REL.fabric
also until the core's writes to peers are acknowledged, ACQ until the wave's earlier loads have returned; then the arm goes on
after the effect on the core's caches. -/
def Obligations.FencesComplete : Prop :=
  ∀ (s : State) (c : Ctx) (sc : BitVec 3),
    (Ready s (.fence sc) c →
      let s' := s.noted c (.fence sc)
      (s'.unperformed c.r.core c.wave s'.handles = false → exec (.fence sc) s = .next ((s'.fenceAt c.r.core sc.toNat).modArm c.r Arm.advance)) ∧
      (s'.unperformed c.r.core c.wave s'.handles = true →
        ∃ t, exec (.fence sc) s = .next t ∧ Claims.Held s' c (.fence sc) (.wait .earlier) t)) ∧
    (Ready s (.rel sc) c →
      let s' := s.noted c (.rel sc)
      let blocked := s'.unperformed c.r.core c.wave s'.handles = true ∨
        (sc = 6#3 ∧ ∃ d, d ∈ s'.links ∧ ∃ q, q ∈ d.2.open_ ∧ q.core = c.r.core)
      (¬ blocked → exec (.rel sc) s = .next ((s'.release c.r.core sc.toNat).modArm c.r Arm.advance)) ∧
      (blocked → ∃ t, exec (.rel sc) s = .next t ∧ Claims.Held s' c (.rel sc) (.wait .earlier) t)) ∧
    (Ready s (.acq sc) c → s.logRoom c (.acq sc) →
      let s' := s.noted c (.acq sc)
      let earlier := c.wave.loadsBelow s'.handles
      (earlier = false → exec (.acq sc) s = .next ((s'.acquire c.r.core sc.toNat).modArm c.r Arm.advance)) ∧
      (earlier = true → exec (.acq sc) s = .next (s'.modArm c.r (fun a => { a with hold := .acquire sc.toNat s'.handles none }))))

/-- The memory effect of a release (R193, R194): nothing below cluster scope; from there on every dirty byte of the core's L1 stands,
clean, at the level of the cluster, and from stack scope on at home, where the cluster cache's dirty bytes of the lines that the core's
signature matches then stand too; the core's signature of the scope enters the boards of every level up to it as the next number, and the signatures of those levels
are cleared. A FENCE writes back in the same way, by the core's signature of device
scope, publishes no signature and discards no line (R197, R198).
The memory effect of an acquire (R195, R196): nothing below cluster scope; from there on the core has seen its board of the scope
up to the board's number; a line of its L1 that a signature since the last number matches, or every line at host scope and
beyond or when more than 64 numbers have passed, keeps its dirty bytes only; from stack scope on so does every such line of the cluster
cache, and below it that cache stays; no byte of memory changes. -/
def Obligations.ReleaseAndAcquire : Prop :=
  (∀ (s : State) (c sc : Nat),
     (sc < 2 → s.release c sc = s) ∧
     (2 ≤ sc →
       let t := s.release c sc
       let g := if sc = 2 then (s.core c).sigC else if sc = 3 then (s.core c).sigS else (s.core c).sigD
       (∀ la l, NMap.get? (t.core c).l1 la = some l → l.dirty = []) ∧ (Claims.Tidy s c → Claims.WroteBack s t c sc) ∧
       (3 ≤ sc → Claims.Tidy s c → Claims.WroteBackCC s t c g) ∧ (t.core c).sigC = 0#2048 ∧ (3 ≤ sc → (t.core c).sigS = 0#2048) ∧ (4 ≤ sc → (t.core c).sigD = 0#2048) ∧
       (t.cluster (clusterOf c)).board = (s.cluster (clusterOf c)).board.publish g ∧
       (t.stack (stackOf c)).board = (if 3 ≤ sc then (s.stack (stackOf c)).board.publish g else (s.stack (stackOf c)).board) ∧
       t.board = (if 4 ≤ sc then s.board.publish g else s.board) ∧
       (∀ b : Board, (b.publish g).seq = b.seq + 1 ∧ (b.publish g).ring.head? = some (b.seq + 1, g)) ∧
       (∀ k slot, t.wave? k slot = s.wave? k slot) ∧ s.sameScratch t) ∧
     (sc < 2 → s.fenceAt c sc = s) ∧
     (2 ≤ sc →
       let t := s.fenceAt c sc
       (Claims.Tidy s c → Claims.WroteBack s t c sc) ∧ (3 ≤ sc → Claims.Tidy s c → Claims.WroteBackCC s t c (s.core c).sigD) ∧
       (t.core c).sigC = (s.core c).sigC ∧ (t.core c).sigS = (s.core c).sigS ∧
       (t.core c).sigD = (s.core c).sigD ∧ t.board = s.board ∧ (∀ k, (t.cluster k).board = (s.cluster k).board) ∧
       (∀ k, (t.stack k).board = (s.stack k).board) ∧ (∀ k slot, t.wave? k slot = s.wave? k slot) ∧ s.sameScratch t)) ∧
  (∀ (s : State) (c sc : Nat),
     (sc < 2 → s.acquire c sc = s) ∧
     (2 ≤ sc →
       let t := s.acquire c sc
       let b := if sc = 2 then (s.cluster (clusterOf c)).board else if sc = 3 then (s.stack (stackOf c)).board else s.board
       let last := if sc = 2 then (s.core c).lastC else if sc = 3 then (s.core c).lastS else (s.core c).lastD
       let hit (la : Nat) : Prop := 5 ≤ sc ∨ 64 < b.seq - last ∨
         ∀ n, n = (sigBits la).1 ∨ n = (sigBits la).2.1 ∨ n = (sigBits la).2.2 →
           ∃ e, e ∈ b.ring ∧ last < e.1 ∧ e.2.getLsbD n = true
       (if sc = 2 then (t.core c).lastC else if sc = 3 then (t.core c).lastS else (t.core c).lastD) = b.seq ∧
       (∀ e, e ∈ (t.core c).l1 → hit e.1 → ∀ x, x ∈ e.2.bytes → x.2.dirty = true) ∧
       (∀ e, e ∈ (s.core c).l1 → e.2.dirty ≠ [] → ∃ l, (e.1, l) ∈ (t.core c).l1 ∧ l.dirty = e.2.dirty) ∧
       (∀ e, e ∈ (s.core c).l1 → ¬ hit e.1 → e ∈ (t.core c).l1) ∧
       (sc = 2 → (t.cluster (clusterOf c)).cc = (s.cluster (clusterOf c)).cc) ∧
       (3 ≤ sc →
         (∀ e, e ∈ (t.cluster (clusterOf c)).cc → hit e.1 → ∀ x, x ∈ e.2.bytes → x.2.dirty = true) ∧
         (∀ e, e ∈ (s.cluster (clusterOf c)).cc → e.2.dirty ≠ [] → ∃ l, (e.1, l) ∈ (t.cluster (clusterOf c)).cc ∧ l.dirty = e.2.dirty) ∧
         (∀ e, e ∈ (s.cluster (clusterOf c)).cc → ¬ hit e.1 → e ∈ (t.cluster (clusterOf c)).cc)) ∧
       s.sameMemory t ∧ s.sameScratch t ∧ (∀ k slot, t.wave? k slot = s.wave? k slot)))

/-- RDVI, RDVA and RDVW (R61, R64 to R68, R402). A split wave faults. RDVI sets an unset count of 1 to 4,095, agrees with an equal one and
faults otherwise. RDVA and RDVW fault on an unset count. RDVA counts an arrival in the phase and notes the phase for its wave; the
arrival that reaches the count completes the phase, and no arm of the team waits for it any more. RDVW goes on with an acquire if
its phase has completed, returns with ABAND set if the team is abandoned, and else waits. -/
def Obligations.Rendezvous : Prop :=
  ∀ (s : State) (c : Ctx) (a : Reg) (p : BitVec 5), p.toNat < 24 → NMap.get? s.teams c.wave.tid = some c.team →
    let pt := c.team.point p.toNat
    (∀ i, i = .rdvi a p ∨ i = .rdva p ∨ i = .rdvw p → Ready s i c → s.logRoom c i →
      (c.wave.groups ≠ [] → exec i s = .next (c.fault 0x19 0 0 (s.noted c i))) ∧
      (i ≠ .rdvi a p → c.wave.groups = [] → pt.e = none →
        exec i s = .next (c.fault 0x10 0 (c.job.cbase + 12 * c.arm.pc + 4 * c.arm.word) (s.noted c i)))) ∧
    (Ready s (.rdvi a p) c → s.logRoom c (.rdvi a p) → c.wave.groups = [] →
      let n := (c.wave.sreg a.toNat).toNat
      (n = 0 ∨ 4095 < n → exec (.rdvi a p) s = .next (c.fault 0x10 0 n (s.noted c (.rdvi a p)))) ∧
      (1 ≤ n → n ≤ 4095 → pt.e ≠ none → pt.e ≠ some n → exec (.rdvi a p) s =
        .next (c.fault 0x10 0 (c.job.cbase + 12 * c.arm.pc + 4 * c.arm.word) (s.noted c (.rdvi a p)))) ∧
      (1 ≤ n → n ≤ 4095 → pt.e = none ∨ pt.e = some n →
        ∃ t w, exec (.rdvi a p) s = .next t ∧ (t.team c.wave.tid).point p.toNat = ⟨some n, pt.a, pt.phase⟩ ∧
          (∀ q, q ≠ p.toNat → (t.team c.wave.tid).point q = c.team.point q) ∧
          t.wave? c.r.core c.r.slot = some w ∧ w = c.wave.modArm c.r.arm Arm.advance ∧ s.sameMemory t ∧ s.sameScratch t)) ∧
    (∀ e, Ready s (.rdva p) c → s.logRoom c (.rdva p) → c.wave.groups = [] → pt.e = some e →
      s.unperformed c.r.core c.wave s.handles = false →
        ∃ t w, exec (.rdva p) s = .next t ∧ t.wave? c.r.core c.r.slot = some w ∧ NMap.get? w.arrived p.toNat = some pt.phase ∧
          (t.team c.wave.tid).point p.toNat = (if pt.a + 1 = e then ⟨some e, 0, pt.phase + 1⟩ else ⟨some e, pt.a + 1, pt.phase⟩) ∧
          (∀ q, q ≠ p.toNat → (t.team c.wave.tid).point q = c.team.point q)) ∧
    (∀ e, Ready s (.rdvw p) c → s.logRoom c (.rdvw p) → c.wave.groups = [] → pt.e = some e →
      let phase := (NMap.get? c.wave.arrived p.toNat).getD pt.phase
      let s' := s.noted c (.rdvw p)
      (phase < pt.phase → exec (.rdvw p) s = .next (s'.finishAcquire c.r 2)) ∧
      (pt.phase ≤ phase → c.team.abandoned = true → c.team.abandoning = false →
        exec (.rdvw p) s = .next ((s'.modWave c.r.core c.r.slot (fun w =>
          { w with aband := w.aband ||| 0x80000000#32 ||| BitVec.ofNat 32 (2 ^ p.toNat) })).finishAcquire c.r 2)) ∧
      (pt.phase ≤ phase → c.team.abandoned = false ∨ c.team.abandoning = true →
        exec (.rdvw p) s = .next (s'.modArm c.r (fun x => { x with hold := .rendezvous p.toNat phase })))) ∧
    (∀ (s : State) (r : ArmRef) (w : Wave) (x : Arm) (p phase : Nat), (r, w, x) ∈ s.arms → (s.arms.map (fun e => e.1)).Nodup →
      s.wave? r.core r.slot = some w → w.arms = [(r.arm, x)] → x.hold = .rendezvous p phase → x.also = none →
      w.loading = false →
      let past := phase < ((s.team w.tid).point p).phase
      let gone := (s.team w.tid).abandoned = true
      ∃ v y, (s.endCycle (stackOf r.core)).wave? r.core r.slot = some v ∧ NMap.get? v.arms r.arm = some y ∧
        (past ∨ gone → y = x.advance) ∧ (¬ past → ¬ gone → y = x) ∧
        v.aband = (w.aband ||| (if gone ∧ ¬ past then 0x80000000#32 ||| BitVec.ofNat 32 (2 ^ p) else 0#32)))

/-- SMAP, SUNMAP and MQCFG (R390, R420): SMAP names a FIFO bank of the team and waits while the own register of the port is empty in
any view; SUNMAP waits for what still names the port; MQCFG enables the core's message ports for a wave when no wave owns them,
with s504 and DROP cleared and messages of another job discarded, and disables them. -/
def Obligations.PortsAreMapped : Prop :=
  (∀ (s : State) (c : Ctx) (b : BitVec 6) (p : BitVec 2), Ready s (.smap b p) c →
    let s' := s.noted c (.smap b p)
    (c.team.fifoN ≤ b.toNat →
      exec (.smap b p) s = .next (c.fault 0x10 0 (c.job.cbase + 12 * c.arm.pc + 4 * c.arm.word) s')) ∧
    (b.toNat < c.team.fifoN → c.wave.emptyAnywhere (60 + p.toNat) = true →
      exec (.smap b p) s = .next (s'.modArm c.r (fun x => { x with hold := .wait .empty }))) ∧
    (b.toNat < c.team.fifoN → c.wave.emptyAnywhere (60 + p.toNat) = false →
      exec (.smap b p) s = .next (Claims.wrote s c (.smap b p) (fun w => { w with ports := NMap.put w.ports p.toNat b.toNat })))) ∧
  (∀ (s : State) (c : Ctx) (p : BitVec 2), Ready s (.sunmap p) c →
    let s' := s.noted c (.sunmap p)
    let pending := c.wave.inflight.any (fun q => q.push.any (fun e => e.1 == 60 + p.toNat)) || c.otherNames s' (60 + p.toNat)
    (NMap.get? c.wave.ports p.toNat = none → exec (.sunmap p) s = .next (Claims.passed s c (.sunmap p))) ∧
    (NMap.get? c.wave.ports p.toNat ≠ none → pending = false →
      exec (.sunmap p) s = .next (Claims.wrote s c (.sunmap p) (fun w => { w with ports := NMap.del w.ports p.toNat }))) ∧
    (NMap.get? c.wave.ports p.toNat ≠ none → pending = true →
      exec (.sunmap p) s = .next (s'.modArm c.r (fun x => { x with hold := .wait .ring })))) ∧
  (∀ (s : State) (c : Ctx) (e : BitVec 1), Ready s (.mqcfg e) c →
    let s' := s.noted c (.mqcfg e)
    let owner := (s'.core c.r.core).port
    (e = 1#1 → owner = none → ∃ t, exec (.mqcfg e) s = .next t ∧ (t.core c.r.core).port = some c.r.slot ∧
      (t.core c.r.core).pDest = 0#32 ∧ (t.core c.r.core).pDrop = false ∧
      (t.core c.r.core).rxq = (if ∃ m, m ∈ (s'.core c.r.core).rxq ∧ m.job ≠ c.job.jid then [] else (s'.core c.r.core).rxq)) ∧
    (e = 1#1 → owner = some c.r.slot → exec (.mqcfg e) s = .next (Claims.passed s c (.mqcfg e))) ∧
    (e = 1#1 → owner ≠ none → owner ≠ some c.r.slot →
      exec (.mqcfg e) s = .next (s'.modArm c.r (fun x => { x with hold := .wait .port }))) ∧
    (e = 0#1 → owner ≠ some c.r.slot → exec (.mqcfg e) s = .next (Claims.passed s c (.mqcfg e))) ∧
    (e = 0#1 → owner = some c.r.slot → c.otherInjects s' = false → ∃ t, exec (.mqcfg e) s = .next t ∧
      (t.core c.r.core).port = none ∧ (t.core c.r.core).rxq = (s'.core c.r.core).rxq))

/-- The pennant (R48, R227, R397). PTAKE takes a free pennant, whose accumulators are zeroed for a wave of another job, completes for
the holder, and else queues its arm. PPASS and PPASS.free fault unless their wave holds the pennant; once no matrix operation of
the wave runs, the pennant goes to the named wave of the same job, or to the head of the queue, or is free, and the arm goes on.
That a pass to a wave which is switched out goes to the queue is a choice of the model (assumption 40). -/
def Obligations.PennantMoves : Prop :=
  (∀ (s : State) (c : Ctx), Ready s .ptake c → s.logRoom c .ptake →
    let k := s.core c.r.core
    (k.holder = none → ∃ t w a, exec .ptake s = .next t ∧ (t.core c.r.core).holder = some c.r.slot ∧
      (t.core c.r.core).acc = (if k.pjob = some c.team.job then k.acc else []) ∧
      (∀ r, r ∈ (t.core c.r.core).queue ↔ r ∈ k.queue ∧ r.slot ≠ c.r.slot) ∧
      t.wave? c.r.core c.r.slot = some w ∧ (NMap.get? w.arms c.r.arm = some a) ∧
      (c.arm.hold ≠ .pennant → a = c.arm.advance) ∧ s.sameMemory t ∧ s.sameScratch t) ∧
    (k.holder = some c.r.slot → exec .ptake s = .next (Claims.passed s c .ptake)) ∧
    (∀ h, k.holder = some h → h ≠ c.r.slot → ∃ t w a, exec .ptake s = .next t ∧ (t.core c.r.core).holder = some h ∧
      (t.core c.r.core).queue = (if c.r ∈ k.queue then k.queue else k.queue ++ [c.r]) ∧ t.wave? c.r.core c.r.slot = some w ∧ NMap.get? w.arms c.r.arm = some a ∧
      a = { c.arm with hold := .pennant })) ∧
  (∀ (s : State) (c : Ctx) (i : Instr), Ready s i c → s.logRoom c i →
    (i = .ppassFree ∨ ∃ a, i = .ppass a ∧ (c.wave.sreg a.toNat).toNat < 64) → (s.core c.r.core).holder ≠ some c.r.slot →
    exec i s = .next (c.fault 0x1C 0 ((s.core c.r.core).penn c.r.slot).toNat (s.noted c i))) ∧
  (∀ (s : State) (c : Ctx), Ready s .ppassFree c → s.logRoom c .ppassFree → (s.core c.r.core).holder = some c.r.slot →
    (s.core c.r.core).matrixBusy c.wave.uid = false → c.wave.ended = false →
    (∀ e, e ∈ c.wave.arms → e.2.heldBy Hold.isPassing = false) →
    ∃ t w, exec .ppassFree s = .next t ∧ (t.core c.r.core).holder = (((s.core c.r.core).queue.head?).map (fun r => r.slot)) ∧
      t.wave? c.r.core c.r.slot = some w ∧ NMap.get? w.arms c.r.arm = some c.arm.advance) ∧
  (∀ (s : State) (c : Ctx) (a : Reg) (v : Wave), Ready s (.ppass a) c → s.logRoom c (.ppass a) →
    let n := (c.wave.sreg a.toNat).toNat
    (64 ≤ n → exec (.ppass a) s = .next (c.fault 0x10 0 n (s.noted c (.ppass a)))) ∧
    (n < 64 → (s.core c.r.core).holder = some c.r.slot →
      (s.wave? c.r.core n = none ∨ (s.wave? c.r.core n = some v ∧ (v.ended = true ∨ (s.team v.tid).job ≠ c.job.jid)) →
        exec (.ppass a) s = .next (c.fault 0x1C 0 ((s.core c.r.core).penn c.r.slot).toNat (s.noted c (.ppass a)))) ∧
      (s.wave? c.r.core n = some v → v.ended = false → (s.team v.tid).job = c.job.jid → c.wave.ended = false →
        (s.core c.r.core).matrixBusy c.wave.uid = false → (∀ e, e ∈ c.wave.arms → e.2.heldBy Hold.isPassing = false) →
        ∃ t w h x, exec (.ppass a) s = .next t ∧ (t.core c.r.core).holder = some h ∧ (h, x) ∈ (t.core c.r.core).slots ∧
          x.uid = v.uid ∧ t.wave? c.r.core c.r.slot = some w ∧ NMap.get? w.arms c.r.arm = some c.arm.advance)))

/-! ### Memory -/

/-- The caches are transparent to their core (R2, R171 to R174) while no line has to leave them: reading a sector into L1 changes no byte
that the core sees and gives what it sees; a store into L1, temporal or not, changes the bytes that it writes, the last write to an
address counting, and no other; a temporal store leaves home as it was.
PREF (R398) always completes: its arm goes on, its wave keeps its registers, and, where no line has to leave the core's caches, no
byte that the core sees changes. -/
def Obligations.CachesTransparent : Prop :=
  (∀ (s : State) (core pasid a n : Nat) (ws : List (Nat × Byte)), Claims.Alone s core pasid →
     (0 < n → Claims.Room s core ((sectorsOf a n).map (fun e => e.1)) →
       (s.readL1 core pasid a n).2.1 = (List.range n).map (fun k => Claims.seen s core pasid (a + k)) ∧
       (∀ x, Claims.seen (s.readL1 core pasid a n).1 core pasid x = Claims.seen s core pasid x) ∧
       (s.readL1 core pasid a n).1.mem = s.mem) ∧
     (Claims.Room s core (ws.map (fun e => e.1 / 128)) →
       (∀ nt x, Claims.seen (s.storePlain core pasid nt ws) core pasid x =
         (((ws.reverse.find? (fun e => e.1 == x)).map (fun e => e.2)).getD (Claims.seen s core pasid x))) ∧
       (s.storePlain core pasid false ws).mem = s.mem)) ∧
  (∀ (s : State) (c : Ctx) (a b : Reg) (g : BitVec 3) (f : BitVec 2), Ready s (.pref a b g f) c → s.logRoom c (.pref a b g f) →
     ∃ t, exec (.pref a b g f) s = .next t ∧ Claims.MovedOn c t ∧
       (∀ lines, (∀ l x, l < 32 → c.lanes.getLsbD l = true → s.xlate c.r.core c.job.pasid (Claims.laneVA (s.begun c (.pref a b g f)).1 a b l)
           false = .hit (.dpa x) → x / 128 ∈ lines) →
         Claims.Alone s c.r.core c.job.pasid → Claims.Room s c.r.core lines → t.mem = s.mem ∧
         ∀ x, Claims.seen t c.r.core c.job.pasid x = Claims.seen s c.r.core c.job.pasid x))

/-- LD, LDS and LDACQ (R157, R159, R171, R372, R373, R376, R381). Without an enabled lane LD does nothing. An address past 57 bits
raises a violation with DET 1. Where the addresses, aligned down to the size, reach device memory, the bytes that the core sees
are in flight to the destinations, extended by the size code; the arm goes on, and no register and no byte of home memory has
changed yet, where no line has to leave the core's caches. LDACQ reads at the level of its scope, with its word in flight to sd and its
arm held by the acquire that follows the load, or faults where that level has poison; a read at a level finds what stands there, and
leaves no nearer copy of the sector.
That FADDL and FADDH name a poisoned sector by its virtual address is assumption 6, and the level at which an access is performed assumption 12. -/
def Obligations.GlobalLoads : Prop :=
  (∀ (s : State) (c : Ctx) (d a b : Reg) (g z : BitVec 3) (n : BitVec 1), Ready s (.ld d a b g n z) c →
    let i : Instr := .ld d a b g n z
    let e := s.begun c i
    let size := sizeBytes z.toNat
    (e.1.lanes = 0#32 → exec i s = .next (e.2.modArm c.r Arm.advance)) ∧
    (∀ l, l < 32 → e.1.lanes.getLsbD l = true → 2 ^ 57 ≤ Claims.laneVA e.1 a b l →
      (∀ m, m < l → e.1.lanes.getLsbD m = true → Claims.laneVA e.1 a b m < 2 ^ 57) →
      ∃ m, exec i s = .next (e.1.faultLanes 0x12 1 (Claims.laneVA e.1 a b l) m e.2) ∧
        ∀ k, k < 32 → m.getLsbD k = (e.1.lanes.getLsbD k && decide (2 ^ 57 ≤ Claims.laneVA e.1 a b k))) ∧
    (∀ x : Nat → Nat, e.1.lanes ≠ 0#32 → s.logRoom c i → Claims.Alone e.2 c.r.core c.job.pasid →
      Claims.EntriesFree e.2 c.r.core →
      Claims.Room e.2 c.r.core (((List.range 32).filter (fun l => e.1.lanes.getLsbD l)).map (fun l => x l / 128)) →
      (∀ l, l < 32 → e.1.lanes.getLsbD l = true →
        Claims.Hits e.2 e.1 false (Claims.laneVA e.1 a b l / size * size) (x l) ∧ x l % size = 0 ∧
        Claims.laneVA e.1 a b l < 2 ^ 57 ∧ Claims.Unpoisoned e.2 c.r.core (x l)) →
      ∃ t w q, exec i s = .next t ∧ t.wave? c.r.core c.r.slot = some w ∧ q ∈ w.inflight ∧ q.lanes = e.1.lanes ∧
        q.left = 0 ∧ q.vdst.length = sizeCount z.toNat ∧
        (∀ k, k < sizeCount z.toNat → ∃ v, q.vdst[k]? = some (d.toNat + k, v) ∧ ∀ l, l < 32 → e.1.lanes.getLsbD l = true →
          v.lane l = loadWord z.toNat ((List.range size).map (fun o => Claims.seen e.2 c.r.core c.job.pasid (x l + o))) k) ∧
        (∀ r, w.sreg r = c.wave.sreg r) ∧ (∀ r, w.vreg r = c.wave.vreg r) ∧ (∀ r, w.preg r = c.wave.preg r) ∧
        w.controls = c.wave.controls ∧ t.mem = s.mem ∧ (∃ y, NMap.get? w.arms c.r.arm = some y ∧
          y.pc = c.arm.advance.pc ∧ y.word = c.arm.advance.word ∧ y.exm = c.arm.exm ∧ y.hold = .none))) ∧
  (∀ (s : State) (c : Ctx) (d a : Reg) (o : BitVec 13), Ready s (.lds d a o) c → s.logRoom c (.lds d a o) →
    let i : Instr := .lds d a o
    let s' := s.noted c i
    let va := (((pair (c.wave.sreg a.toNat) (c.wave.sreg (a.toNat + 1)) : Int) + o.toInt) % 2 ^ 64).toNat
    (2 ^ 57 ≤ va → exec i s = .next (c.faultLanes 0x12 1 va 0#32 s')) ∧
    (∀ x, Claims.Alone s' c.r.core c.job.pasid → Claims.EntriesFree s' c.r.core → Claims.Room s' c.r.core [x / 128] → va < 2 ^ 57 →
      x % 4 = 0 →
      Claims.Hits s' c false (va / 4 * 4) x → Claims.Unpoisoned s' c.r.core x →
      ∃ t w q, exec i s = .next t ∧ t.wave? c.r.core c.r.slot = some w ∧ q ∈ w.inflight ∧ q.left = 0 ∧
        (∃ y, q.sdst = [(d.toNat, y)] ∧ ∀ k, k < 4 → y.extractLsb' (8 * k) 8 = Claims.seen s' c.r.core c.job.pasid (x + k)) ∧
        (∀ r, w.sreg r = c.wave.sreg r) ∧ (∀ r, w.vreg r = c.wave.vreg r) ∧ (∀ r, w.preg r = c.wave.preg r) ∧
        w.controls = c.wave.controls ∧ t.mem = s.mem ∧ NMap.get? w.arms c.r.arm = some c.arm.advance)) ∧
  (∀ (s : State) (c : Ctx) (d a : Reg) (sc : BitVec 3) (o : BitVec 10) (x : Nat), Ready s (.ldacq d a sc o) c →
    let i : Instr := .ldacq d a sc o
    let s' := s.noted c i
    let va := (pair (c.wave.sreg a.toNat) (c.wave.sreg (a.toNat + 1)) + 4 * o.toNat) % 2 ^ 64
    va < 2 ^ 57 → Claims.Hits s' c false (va / 4 * 4) x → Claims.EntriesFree s' c.r.core → c.wave.loadsBelow s'.handles = false →
    ∃ u n, Claims.Accepted s' c u ∧ n ≤ 1 ∧
      let y := u.readLevel c.r.core c.job.pasid sc.toNat (.dpa x)
      let m := c.mark { sdst := [(d.toNat, bytesWord y.2.1)] }
        { isMem := true, left := 0, lines := n, load := some { loc := false, size := 4, lanes := [(scalarLane, va / 4 * 4)], scalar := true, nt := false, acq := true } } y.1
      (y.2.2 = false → exec i s = .next (m.2.modArm c.r (fun a => { a with hold := .acquire sc.toNat (m.1 + 1) (some d.toNat) }))) ∧
      (y.2.2 = true → exec i s = .next (c.fault 0x13 0 (va / 32 * 32) y.1))) ∧
  (∀ (s : State) (core pasid scope a : Nat), Claims.Alone s core pasid → Claims.Tidy s core → Claims.Room s core [a / 128] → a % 4 = 0 →
    let y := s.readLevel core pasid scope (.dpa a)
    y.2.1 = (List.range 4).map (fun k => Claims.levelByte s core pasid scope (a + k)) ∧ Claims.AtLevel s y.1 core pasid scope a none ∧
    (Claims.Unpoisoned s core a → y.2.2 = false))

/-- ST, STS and STREL (R157, R159, R160, R171, R424, R425, R430, R431). Where the addresses, aligned down to the size, reach device
memory, the core sees the bytes stored there, a higher lane's over a lower one's, and every other byte as before; a temporal
store leaves home as it was, where no line has to leave the core's caches; registers stay and the arm goes on. STREL stores at the
level of its scope, after its release: the word stands there, and nearer copies of its sector are gone.
The level at which a STREL is performed is assumption 12. -/
def Obligations.GlobalStores : Prop :=
  (∀ (s : State) (c : Ctx) (d a b : Reg) (g z : BitVec 3) (n : BitVec 1) (x : Nat → Nat), Ready s (.st d a b g n z) c → z ≠ 7#3 →
    let i : Instr := .st d a b g n z
    let e := s.begun c i
    let size := sizeBytes z.toNat
    (e.1.lanes = 0#32 → exec i s = .next (e.2.modArm c.r Arm.advance)) ∧
    (e.1.lanes ≠ 0#32 → s.logRoom c i → Claims.Alone e.2 c.r.core c.job.pasid → Claims.EntriesFree e.2 c.r.core →
      Claims.Room e.2 c.r.core (((List.range 32).filter (fun l => e.1.lanes.getLsbD l)).map (fun l => x l / 128)) →
      (s.core c.r.core).sideLog.length ≤ 1024 →
      (∀ l, l < 32 → e.1.lanes.getLsbD l = true → Claims.Hits e.2 e.1 true (Claims.laneVA e.1 a b l / size * size) (x l) ∧
        x l % size = 0 ∧ Claims.laneVA e.1 a b l < 2 ^ 57) →
      ∃ t, exec i s = .next t ∧
        Claims.Stored e.1.lanes size x (Claims.laneByte e.1 d) (Claims.seen e.2 c.r.core c.job.pasid)
          (Claims.seen t c.r.core c.job.pasid) ∧
        (n = 0#1 → t.mem = s.mem) ∧ t.hostMem = s.hostMem ∧ s.sameScratch t ∧ Claims.MovedOn c t)) ∧
  (∀ (s : State) (c : Ctx) (d a : Reg) (o : BitVec 13) (x : Nat), Ready s (.sts d a o) c → s.logRoom c (.sts d a o) →
    let i : Instr := .sts d a o
    let s' := s.noted c i
    let va := (((pair (c.wave.sreg a.toNat) (c.wave.sreg (a.toNat + 1)) : Int) + o.toInt) % 2 ^ 64).toNat
    (2 ^ 57 ≤ va → exec i s = .next (c.faultLanes 0x12 1 va 0#32 s')) ∧
    (Claims.Alone s' c.r.core c.job.pasid → Claims.Room s' c.r.core [x / 128] → (s.core c.r.core).sideLog.length ≤ 1024 →
      va < 2 ^ 57 → x % 4 = 0 → Claims.Hits s' c true (va / 4 * 4) x →
      ∃ t, exec i s = .next t ∧
        (∀ k, k < 4 → Claims.seen t c.r.core c.job.pasid (x + k) = (c.wave.sreg d.toNat).extractLsb' (8 * k) 8) ∧
        (∀ k, k < x ∨ x + 4 ≤ k → Claims.seen t c.r.core c.job.pasid k = Claims.seen s' c.r.core c.job.pasid k) ∧
        t.mem = s.mem ∧ t.hostMem = s.hostMem ∧ s.sameScratch t ∧
        t.wave? c.r.core c.r.slot = some (c.wave.modArm c.r.arm Arm.advance)) ∧
    (va < 2 ^ 57 → va / 4 * 4 + 16 ≤ c.job.cbase ∨ c.job.cbase + 12 * c.job.npkt ≤ va / 4 * 4 →
      s'.xlate c.r.core c.job.pasid (va / 4 * 4) true = .miss → (s.core c.r.core).sideLog.length < 1024 →
      ∃ t e, exec i s = .next t ∧ (t.core c.r.core).sideLog = (s.core c.r.core).sideLog ++ [e] ∧ e.uid = c.wave.uid ∧
        e.pasid = c.job.pasid ∧ e.page = va / 4096 ∧
        e.writes = (List.range 4).map (fun k => (va / 4 * 4 + k, (c.wave.sreg d.toNat).extractLsb' (8 * k) 8)) ∧
        (∃ q, q ∈ t.xreqs ∧ q.pasid = c.job.pasid ∧ q.page = va / 4096 ∧ q.write = true) ∧
        t.wave? c.r.core c.r.slot = some (c.wave.modArm c.r.arm Arm.advance) ∧ s.sameMemory t ∧ s.sameScratch t)) ∧
  (∀ (s : State) (c : Ctx) (d a : Reg) (sc : BitVec 3) (o : BitVec 10) (x : Nat), Ready s (.strel d a sc o) c →
    let i : Instr := .strel d a sc o
    let s' := s.noted c i
    let va := (pair (c.wave.sreg a.toNat) (c.wave.sreg (a.toNat + 1)) + 4 * o.toNat) % 2 ^ 64
    let r := s'.release c.r.core sc.toNat
    va < 2 ^ 57 → Claims.Hits s' c true (va / 4 * 4) x → s'.unperformed c.r.core c.wave s'.handles = false →
    s'.fabricOpen c.r.core sc.toNat = false →
    exec i s = .next ((({ r with handles := r.handles + 1 } : State).writeLevel c.r.core c.job.pasid sc.toNat (.dpa x)
      (natBytes 4 (c.wave.sreg d.toNat).toNat)).modArm c.r Arm.advance)) ∧
  (∀ (s : State) (core pasid scope a : Nat) (w : Word), Claims.Alone s core pasid → Claims.Tidy s core → Claims.Room s core [a / 128] →
    a % 4 = 0 → Claims.AtLevel s (s.writeLevel core pasid scope (.dpa a) (natBytes 4 w.toNat)) core pasid scope a (some w))

/-- The atomics (R204, R328, R330). ATOMS acts at the level of its scope, and its old word is in flight to sd, or dropped for sd of 0;
ATOM acts at home, ATOML at the bank, in the enabled lanes in ascending order, and their old words are in flight to vd. An atomic
answers the word that stands at its level and leaves the new word of R328 there, and no nearer copy of the sector; one at home with no
cached copy of its word changes no other byte.
That FADDL and FADDH name a poisoned sector by its virtual address is assumption 6, and the level at which an atomic is performed assumption 12. -/
def Obligations.Atomics : Prop :=
  (∀ (fn : Nat) (w d n : Word), atomNew fn w d n = Claims.atomRule fn w d n) ∧
  (∀ (s : State) (core pasid a fn : Nat) (d n : Word), a % 4 = 0 → NMap.get? (s.core core).l1 (a / 128) = none →
    NMap.get? (s.cluster (clusterOf core)).cc (a / 128) = none → a / 32 ∉ s.poison →
    let w := bytesWord (Memory.readBytes s.mem a 4)
    (s.atomHome core pasid (.dpa a) fn d n).2 = some w ∧
    (∀ k, k < 4 → (s.atomHome core pasid (.dpa a) fn d n).1.mem.read (a + k) = (Claims.atomRule fn w d n).extractLsb' (8 * k) 8) ∧
    (∀ x, x < a ∨ a + 4 ≤ x → (s.atomHome core pasid (.dpa a) fn d n).1.mem.read x = s.mem.read x)) ∧
  (∀ (s : State) (core pasid scope a fn : Nat) (d n : Word), Claims.Alone s core pasid → Claims.Tidy s core →
    Claims.Room s core [a / 128] → a % 4 = 0 →
    let y := s.atomScope core pasid scope (.dpa a) fn d n
    let w := bytesWord ((List.range 4).map (fun k => Claims.levelByte s core pasid scope (a + k)))
    (∀ old, y.2 = some old → old = w ∧ Claims.AtLevel s y.1 core pasid scope a (some (Claims.atomRule fn w d n))) ∧
    (Claims.Unpoisoned s core a → y.2 ≠ none) ∧ (3 ≤ scope → y = s.atomHome core pasid (.dpa a) fn d n)) ∧
  (∀ (s : State) (core pasid fn : Nat) (x n : Nat → Word) (l : Nat) (va : Nat) (t : Target) (es : List (Nat × Nat × Target)), isPeer t = false →
    let h := s.atomHome core pasid t fn (x l) (n l)
    let r := h.1.atomLanes core pasid fn x n es
    s.atomLanes core pasid fn x n ((l, va, t) :: es) =
      (r.1, (h.2.toList.map (fun old => (l, old))) ++ r.2.1, (if h.2 = none then [(l, va)] else []) ++ r.2.2) ∧
    s.atomLanes core pasid fn x n [] = (s, [], [])) ∧
  (∀ (s : State) (c : Ctx) (d a b : Reg) (sc : BitVec 3) (f : BitVec 4) (x : Nat), Ready s (.atoms d a b sc f) c →
    let i : Instr := .atoms d a b sc f
    let s' := s.noted c i
    let va := pair (c.wave.sreg a.toNat) (c.wave.sreg (a.toNat + 1))
    va < 2 ^ 57 → Claims.Hits s' c true (va / 4 * 4) x → Claims.EntriesFree s' c.r.core →
    ∃ (u : State) (k : Nat), Claims.Accepted s' c u ∧ k ≤ 1 ∧ (2 ≤ sc.toNat → k = 1) ∧
      let y := u.atomScope c.r.core c.job.pasid sc.toNat (.dpa x) f.toNat (c.wave.sreg b.toNat) (c.wave.sreg (b.toNat + 1))
      (∀ old, y.2 = some old → d = 0#6 → exec i s = .next (if k = 0 then y.1.modArm c.r Arm.advance
        else (c.launch { } { lines := k } y.1).2)) ∧
      (∀ old, y.2 = some old → d ≠ 0#6 → exec i s = .next (c.launch { sdst := [(d.toNat, old)] }
        { isMem := true, lines := k } y.1).2) ∧
      (y.2 = none → exec i s = .next (c.fault 0x13 0 (va / 32 * 32) y.1))) ∧
  (∀ (s : State) (c : Ctx) (d a b : Reg) (g : BitVec 3) (f : BitVec 4) (x : Nat → Nat), Ready s (.atom d a b g f) c →
    let i : Instr := .atom d a b g f
    let e := s.begun c i
    (e.1.lanes = 0#32 → exec i s = .next (e.2.modArm c.r Arm.advance)) ∧
    (e.1.lanes ≠ 0#32 → Claims.EntriesFree e.2 c.r.core →
      (∀ l, l < 32 → e.1.lanes.getLsbD l = true → Claims.Hits e.2 e.1 true (Claims.laneVA e.1 a b l / 4 * 4) (x l) ∧
        Claims.laneVA e.1 a b l < 2 ^ 57) →
      let lanes := ((List.range 32).filter (fun l => e.1.lanes.getLsbD l)).map
        (fun l => (l, Claims.laneVA e.1 a b l / 4 * 4, Target.dpa (x l)))
      ∃ u : State, Claims.Accepted e.2 c u ∧
        let y := u.atomLanes c.r.core c.job.pasid f.toNat (e.1.wave.vreg d.toNat).lane (e.1.wave.vreg (d.toNat + 1)).lane lanes
        (y.2.2 = [] → exec i s = .next (e.1.launch { vdst := [(d.toNat, oldLanes y.2.1)] }
          { isMem := true, lines := ((lanes.map (fun k => k.2.1 / 128)).dedup).length } y.1).2) ∧
        (∀ p ps, y.2.2 = p :: ps → ∃ m, exec i s = .next (e.1.faultLanes 0x13 0 (p.2 / 32 * 32) m y.1) ∧
          ∀ l, l < 32 → (m.getLsbD l = true ↔ ∃ k, k ∈ y.2.2 ∧ k.1 = l)))) ∧
  (∀ (s : State) (c : Ctx) (d a b : Reg) (g : BitVec 3) (f : BitVec 4), Ready s (.atoml d a b g f) c →
    let i : Instr := .atoml d a b g f
    let e := s.begun c i
    let al := e.2.alloc c.team.alloc
    (e.1.lanes = 0#32 → exec i s = .next (e.2.modArm c.r Arm.advance)) ∧
    (e.1.lanes ≠ 0#32 → al.pois = [] →
      (∀ l, l < 32 → e.1.lanes.getLsbD l = true → Claims.laneLA e.1 a b l < al.bytes) →
      ∃ u olds, exec i s = .next (e.1.launch { vdst := [(d.toNat, oldLanes olds)] } { isMem := true } u).2 ∧
        (∀ l, l < 32 → e.1.lanes.getLsbD l = true →
          (∀ m, m < 32 → e.1.lanes.getLsbD m = true → m ≠ l →
            Claims.laneLA e.1 a b m / 4 ≠ Claims.laneLA e.1 a b l / 4) →
          let w := bytesWord (al.bytesAt (Claims.laneLA e.1 a b l / 4 * 4) 4)
          (l, w) ∈ olds ∧ bytesWord ((u.alloc c.team.alloc).bytesAt (Claims.laneLA e.1 a b l / 4 * 4) 4) =
            Claims.atomRule f.toNat w ((e.1.wave.vreg d.toNat).lane l) ((e.1.wave.vreg (d.toNat + 1)).lane l)) ∧
        (∀ k, (∀ l, l < 32 → e.1.lanes.getLsbD l = true → k / 4 ≠ Claims.laneLA e.1 a b l / 4) →
          (u.alloc c.team.alloc).cells.read k = al.cells.read k) ∧
        (u.alloc c.team.alloc).full = al.full))

/-- LDL, STL and STL.fill (R158 to R160, R168, R379, R428). An address at or past the allocation raises a violation with DET 2 and its low
32 bits in FADDL, FADDH 0. Inside it,
LDL reads the bytes at the address aligned down to the size, whatever the granule bits; a store writes them, a higher lane's over
a lower one's, and leaves every other byte; STL leaves the granule bits, STL.fill sets each granule that it writes full, unless a
.wc request waits there, which empties it.
LDL.w and LDL.wc (R168, R169, R379): a lane whose granule is full, with no request waiting there, reads at once, and .wc empties the
granule; a lane whose granule is empty waits at the bank, behind the requests that wait there; the instruction has as many
granules to wait for. -/
def Obligations.LocalMemory : Prop :=
  (∀ (s : State) (c : Ctx) (i : Instr) (d a b : Reg) (g : BitVec 3) (z : Nat) (kind : Nat), Ready s i c →
     ((∃ q : BitVec 3, i = .ldl d a b g q ∧ z = q.toNat ∧ kind = 0) ∨ (∃ q : BitVec 3, i = .stl d a b g q ∧ q ≠ 7#3 ∧ z = q.toNat ∧ kind = 1) ∨
       (∃ q : BitVec 1, i = .stlFill d a b g q ∧ z = (if q = 1#1 then 6 else 4) ∧ kind = 2)) →
     let e := s.begun c i
     let al := e.2.alloc c.team.alloc
     let n := sizeBytes z
     let la (l : Nat) : Nat := Claims.laneLA e.1 a b l / n * n
     (e.1.lanes = 0#32 → exec i s = .next (e.2.modArm c.r Arm.advance)) ∧
     (∀ l, l < 32 → e.1.lanes.getLsbD l = true → al.bytes ≤ Claims.laneLA e.1 a b l →
       (∀ m, m < l → e.1.lanes.getLsbD m = true → Claims.laneLA e.1 a b m < al.bytes) →
       ∃ m, exec i s = .next (e.1.faultLanes 0x12 2 (Claims.laneLA e.1 a b l % 2 ^ 32) m e.2) ∧
         ∀ k, k < 32 → m.getLsbD k = (e.1.lanes.getLsbD k && decide (al.bytes ≤ Claims.laneLA e.1 a b k))) ∧
     (e.1.lanes ≠ 0#32 → s.logRoom c i → al.pois = [] →
       (∀ l, l < 32 → e.1.lanes.getLsbD l = true → Claims.laneLA e.1 a b l < al.bytes) →
       ∃ t w, exec i s = .next t ∧ t.wave? c.r.core c.r.slot = some w ∧ s.sameMemory t ∧
         (∀ r, w.sreg r = c.wave.sreg r) ∧ (∀ r, w.vreg r = c.wave.vreg r) ∧ (∀ r, w.preg r = c.wave.preg r) ∧
         w.controls = c.wave.controls ∧
         (∃ y, NMap.get? w.arms c.r.arm = some y ∧ y.pc = c.arm.advance.pc ∧ y.word = c.arm.advance.word ∧ y.exm = c.arm.exm ∧
           y.hold = .none) ∧
         (kind = 0 → s.sameScratch t ∧ ∃ q, q ∈ w.inflight ∧ q.lanes = e.1.lanes ∧ q.left = 0 ∧ q.vdst.length = sizeCount z ∧
           ∀ k, k < sizeCount z → ∃ v, q.vdst[k]? = some (d.toNat + k, v) ∧ ∀ l, l < 32 → e.1.lanes.getLsbD l = true →
             v.lane l = loadWord z ((List.range n).map (fun o => al.cells.read (la l + o))) k) ∧
         (kind ≠ 0 → Claims.Stored e.1.lanes n la (Claims.laneByte e.1 d) al.cells.read (t.alloc c.team.alloc).cells.read) ∧
         (kind = 1 → (t.alloc c.team.alloc).full = al.full ∧ (t.alloc c.team.alloc).waits = al.waits) ∧
         (kind = 2 → ∀ gr,
           ((∃ l, l < 32 ∧ e.1.lanes.getLsbD l = true ∧ gr = la l / 16) →
             (gr ∈ (t.alloc c.team.alloc).full ↔ ∀ q, q ∈ al.waits → q.gran = gr → q.clear = false)) ∧
           (¬ (∃ l, l < 32 ∧ e.1.lanes.getLsbD l = true ∧ gr = la l / 16) →
             (gr ∈ (t.alloc c.team.alloc).full ↔ gr ∈ al.full))) ∧
         (∀ k, k ≠ c.team.alloc → t.alloc k = s.alloc k))) ∧
  (∀ (s : State) (c : Ctx) (i : Instr) (d a b : Reg) (g : BitVec 3) (z : BitVec 1) (clear : Bool), Ready s i c → s.logRoom c i →
     (i = .ldlW d a b g z ∧ clear = false ∨ i = .ldlWc d a b g z ∧ clear = true) →
     let e := s.begun c i
     let al := e.2.alloc c.team.alloc
     let n := if z = 1#1 then 16 else 4
     let la (l : Nat) : Nat := Claims.laneLA e.1 a b l / n * n
     let atOnce (gr : Nat) : Prop := gr ∈ al.full ∧ ∀ q, q ∈ al.waits → q.gran ≠ gr
     (e.1.lanes = 0#32 → exec i s = .next (e.2.modArm c.r Arm.advance)) ∧
     (e.1.lanes ≠ 0#32 → al.pois = [] → (∀ l, l < 32 → e.1.lanes.getLsbD l = true → Claims.laneLA e.1 a b l < al.bytes) →
       ∃ t w q, exec i s = .next t ∧ t.wave? c.r.core c.r.slot = some w ∧ q ∈ w.inflight ∧ q.lanes = e.1.lanes ∧
         s.sameMemory t ∧ (∀ r, w.sreg r = c.wave.sreg r) ∧ (∀ r, w.vreg r = c.wave.vreg r) ∧
         (∀ k, (t.alloc c.team.alloc).cells.read k = al.cells.read k) ∧
         (∃ gs : List Nat, gs.Nodup ∧ q.left = gs.length ∧
           ∀ gr, gr ∈ gs ↔ (∃ l, l < 32 ∧ e.1.lanes.getLsbD l = true ∧ gr = la l / 16) ∧ ¬ atOnce gr) ∧
         (∀ gr, gr ∈ (t.alloc c.team.alloc).full ↔ gr ∈ al.full ∧
           ¬ (clear = true ∧ atOnce gr ∧ ∃ l, l < 32 ∧ e.1.lanes.getLsbD l = true ∧ gr = la l / 16)) ∧
         (∀ l, l < 32 → e.1.lanes.getLsbD l = true → atOnce (la l / 16) → ∀ k, k < n / 4 →
           ∃ v, q.vdst[k]? = some (d.toNat + k, v) ∧ v.lane l = bytesWord (al.bytesAt (la l + 4 * k) 4)) ∧
         (∀ l, l < 32 → e.1.lanes.getLsbD l = true → ¬ atOnce (la l / 16) →
           ∃ x, x ∈ (t.alloc c.team.alloc).waits ∧ x.core = c.r.core ∧ x.slot = c.r.slot ∧ x.id = q.id ∧
             x.gran = la l / 16 ∧ x.clear = clear ∧ (l, la l) ∈ x.lanes)))

/-! ### Engines -/

/-- ACCZ, ACCLD, ACCST, MMA and MMA.mc (R209, R220 to R224, R228): a wave that does not hold the pennant faults at ACCZ; where the
checks pass, the operation, with what it captures, is the last of the core's matrix order, not started, and the arm goes on with
its wave unchanged; an MMA.mc waits for the cores of its mask.
The matrix engine runs in order (R155, R205, R222 to R225, R228, R322, R323): the head of the order starts after its fork edge unless it
waits for a copy or for its shared fetch, and no byte of the core's L1 is dirty then; a K block of an MMA adds its group sums into the elements of its tile and leaves the others;
the end of an ACCZ leaves its accumulator zero and without poison, that of an ACCLD the elements of its tile, widened, with the lowest
poisoned sector that it read, and every other element as it was, that of an ACCST its elements, narrowed, in the allocation; an ACCST
of a poisoned accumulator writes nothing and halts its wave, or leaves the record of one that has ended (R323); an
ended operation leaves the order. An MMA.mc whose window has passed reads its operand itself. -/
def Obligations.MatrixEngine : Prop :=
  ((∀ (s : State) (c : Ctx) (n : BitVec 3), Ready s (.accz n) c → (s.core c.r.core).holder ≠ some c.r.slot → s.logRoom c (.accz n) →
     exec (.accz n) s = .next (c.fault 0x1C 0 ((s.core c.r.core).penn c.r.slot).toNat (s.noted c (.accz n)))) ∧
   (∀ (s : State) (c : Ctx) (i : Instr) (kind : MatKind) (n : BitVec 3) (f : Slot) (a b : Shape) (ok : Prop),
     Ready s i c → Claims.matrixRule s c (s.alloc c.team.alloc).bytes i = some (kind, n, f, a, b, ok) → ok →
     (s.core c.r.core).holder = some c.r.slot →
     ∃ (t : State) (o : MatOp) (w : Wave), exec i s = .next t ∧
       (t.core c.r.core).matQ.map (fun x => { x with served := true }) =
         (s.core c.r.core).matQ.map (fun x => { x with served := true }) ++ [{ o with served := true }] ∧
       o.kind = kind ∧ o.acc = n.toNat ∧ o.fmt = f ∧ o.a = a ∧ o.b = b ∧ o.slot = c.r.slot ∧ o.uid = c.wave.uid ∧
       o.started = false ∧ o.kdone = 0 ∧ o.waits = false ∧
       (∀ x y l m, i = .mmaMc x y l m → o.mc = (c.wave.sreg y.toNat).toNat) ∧
       t.wave? c.r.core c.r.slot = some w ∧ w = c.wave.modArm c.r.arm Arm.advance)) ∧
  (∀ (s : State) (core : Nat) (o : MatOp) (os : List MatOp), (s.core core).matQ = o :: os →
     (o.started = false → o.waits = false → o.served = true → s.forkReady core o.slot o.uid o.id = true →
       ∃ t, exec (.matrixOpStart core) s = .next t ∧ (t.core core).matQ = { o with started := true } :: os ∧
         (t.core core).narrow = (o.kind == .mma && (s.stack (stackOf core)).narrow) ∧ t.mem = (s.fork core).mem ∧
         (∀ la l, NMap.get? (t.core core).l1 la = some l → l.dirty = []) ∧ t.hostMem = s.hostMem ∧ s.sameScratch t) ∧
     (o.started = true → o.kind = .mma → o.kdone < o.a.cols / 64 → o.b.cols ≤ 128 →
       let k := ((s.blockDone core).core core)
       (∃ p, k.matQ = { o with kdone := o.kdone + 1, pois := p } :: os ∧ (o.pois = none → (s.alloc o.aid).pois = [] → p = none)) ∧
       (∀ i j, i < o.a.rows → j < o.b.cols →
         k.accElem o.acc i j = o.blockElem (s.alloc o.aid) o.kdone i j ((s.core core).accElem o.acc i j)) ∧
       (∀ n i j, i < 128 → j < 128 → n ≠ o.acc ∨ o.a.rows ≤ i ∨ o.b.cols ≤ j → o.a.rows ≤ 128 →
         k.accElem n i j = (s.core core).accElem n i j)) ∧
     (o.started = true → ∃ t, exec (.matrixOpEnd core) s = .next t ∧ (∀ x, x ∈ (t.core core).matQ → x.id ≠ o.id) ∧
       (o.kind = .accz → NMap.get? (t.core core).accPois o.acc = none ∧
         ∀ i j, i < 128 → j < 128 → (t.core core).accElem o.acc i j = 0#32)) ∧
     (∀ w, o.started = true → o.kind = .accld → (s.core core).holder = some o.slot → s.wave? core o.slot = some w → w.ended = false →
       (∀ e, e ∈ w.arms → e.2.heldBy Hold.isPassing = false) → o.a.rows ≤ 128 → 1 ≤ o.a.cols → o.a.cols ≤ 128 → 1 ≤ elemBytes o.fmt.mf →
       let al := s.alloc o.aid
       let n := elemBytes o.fmt.mf
       let reads (k : Nat) : Prop := ∃ i, i < o.a.rows ∧ (o.a.laddr + i * o.a.pitch) / 32 ≤ k ∧
         k ≤ (o.a.laddr + i * o.a.pitch + o.a.cols * n - 1) / 32
       ∃ t, exec (.matrixOpEnd core) s = .next t ∧
         (∀ i j, i < o.a.rows → j < o.a.cols → (t.core core).accElem o.acc i j =
           widen o.fmt.mf (bytesNat (al.bytesAt (o.a.laddr + i * o.a.pitch + j * n) n))) ∧
         (∀ m i j, i < 128 → j < 128 → m ≠ o.acc ∨ o.a.rows ≤ i ∨ o.a.cols ≤ j →
           (t.core core).accElem m i j = (s.core core).accElem m i j) ∧
         (NMap.get? (t.core core).accPois o.acc = none ↔ ∀ k, k ∈ al.pois → ¬ reads k) ∧
         (∀ x, NMap.get? (t.core core).accPois o.acc = some x →
           ∃ k, x = 32 * k ∧ k ∈ al.pois ∧ reads k ∧ ∀ m, m ∈ al.pois → reads m → k ≤ m)) ∧
     (∀ w x, o.started = true → o.kind = .accst → NMap.get? (s.core core).accPois o.acc = some x → s.wave? core o.slot = some w →
       let h : HaltAt := ⟨o.pc, o.word, o.exm, true⟩
       let u := if w.ended then s.endedHalt core o.slot w h 1 (faultCause 0x13 0) x []
         else s.haltWave core o.slot (w.nextOf o.arm h) (faultCause 0x13 0) x [] true
       exec (.matrixOpEnd core) s = .next ((u.modCore core (fun k => { k with matQ := k.matQ.filter (fun y => y.id != o.id) })).settle core)) ∧
     (o.started = true → o.kind = .accst → NMap.get? (s.core core).accPois o.acc = none → (s.alloc o.aid).pois = [] →
       NMap.get? s.allocs o.aid ≠ none → (∀ e, e ∈ (s.core core).slots → e.2.ended = false) →
       o.a.cols * elemBytes o.fmt.mf ≤ o.a.pitch →
       ∃ t, exec (.matrixOpEnd core) s = .next t ∧ ∀ i j, i < o.a.rows → j < o.a.cols →
         bytesNat ((t.alloc o.aid).bytesAt (o.a.laddr + i * o.a.pitch + j * elemBytes o.fmt.mf) (elemBytes o.fmt.mf)) =
           narrow o.fmt.mf ((s.core core).accElem o.acc i j) % 256 ^ elemBytes o.fmt.mf) ∧
     (∀ x, (s.core core).openMc = some x → (∀ c m, (c, m) ∈ s.mcGroup core x → m.at_ + 64 < (s.stack (stackOf core)).ck) →
       x.at_ + 64 < (s.stack (stackOf core)).ck →
       ∃ t, exec (.mmaMcWindowLapse core) s = .next t ∧ ∀ y, y ∈ (t.core core).matQ → y.id = x.id → y.served = true))

/-- COPY and COPY.m (R209 to R216, R340 to R343): where the descriptor passes its checks, the copy with its descriptor is the last of
the core's copy queue, and word 0 of its completion object has grown by the bytes of its destination; a COPY.m puts its MMA in the
matrix order, to wait for the copy; the arm goes on and its registers stay. The first rows of R211 fault with the word's index.
The copy engine runs in order (R205, R206, R212 to R215): the head of its queue starts after its fork edge; a copy without a
conversion within SCRATCH, of one row, whose source, destination and completion object lie apart, has moved its bytes when it has
run from its start to its completion, has left the queue, and has taken its bytes from word 0 of its completion object, without an
error.
When each run of a copy lands is a choice of the model (assumption 2). -/
def Obligations.CopyEngine : Prop :=
  (∀ (s : State) (c : Ctx) (i : Instr) (a : Reg) (follow : Option (Reg × BitVec 3 × BitVec 3)), Ready s i c →
     (i = .copy a ∧ follow = none ∨ ∃ b l n, i = .copyM a b l n ∧ follow = some (b, l, n)) →
     let d := Claims.regs c a 8
     let x := copyDesc d
     let al := s.alloc c.team.alloc
     (∀ k, copyBadWord d = some k → exec i s = .next (c.fault 0x10 0 k (s.noted c i))) ∧
     (∀ k, copyBadWord d = none → copyKind x.sf x.df = some k → x.bad k = false → Claims.HasClass s c k.cls →
       c.copyBeyond s x k = none → al.pois = [] → NMap.get? s.allocs c.team.alloc = some al →
       (∀ b l n, follow = some (b, l, n) → Claims.MmaFits s c al.bytes b l ∧ (s.core c.r.core).holder = some c.r.slot) →
       ∃ (t : State) (o : CopyOp) (w : Wave), exec i s = .next t ∧ (t.core c.r.core).copyQ = (s.core c.r.core).copyQ ++ [o] ∧ o.desc = d ∧ o.total = x.total k ∧
         o.uid = c.wave.uid ∧ o.aid = c.team.alloc ∧ o.started = false ∧
         ((t.alloc c.team.alloc).object x.co).getD 0 0#32 = (al.object x.co).getD 0 0#32 + BitVec.ofNat 32 (x.total k) ∧
         (∀ y, y < x.co ∨ x.co + 16 ≤ y → (t.alloc c.team.alloc).cells.read y = al.cells.read y) ∧
         t.wave? c.r.core c.r.slot = some w ∧ w.s = c.wave.s ∧ w.v = c.wave.v ∧ w.p = c.wave.p ∧ w.controls = c.wave.controls ∧
         NMap.get? w.arms c.r.arm = some c.arm.advance ∧
         (follow = none → o.follow = none ∧ (t.core c.r.core).matQ = (s.core c.r.core).matQ) ∧
         (∀ b l n, follow = some (b, l, n) → ∃ m : MatOp, o.follow = some m.id ∧ (t.core c.r.core).matQ = (s.core c.r.core).matQ ++ [m] ∧
           m.kind = .mma ∧ m.acc = n.toNat ∧ m.waits = true ∧ m.fmt = c.job.slot l.toNat ∧ m.a = c.wave.shape b.toNat ∧
           m.b = c.wave.shape (b.toNat + 4)))) ∧
  (∀ (s : State) (core : Nat) (o : CopyOp) (os : List CopyOp), (s.core core).copyQ = o :: os →
     (o.started = false → s.forkReady core o.slot o.uid o.id = true →
       exec (.copyStart core) s = .next ((s.fork core).modCore core (fun k => { k with copyQ := { o with started := true } :: os }))) ∧
     (let d := copyDesc o.desc
      let al := s.alloc o.aid
      o.started = true → o.done = 0 → o.owed = 0 → o.kept = [] → o.psn = [] → o.bad = false → o.follow = none → d.sf = d.df → d.sf < 9 → d.sk = true → d.dk = true → d.rows = 1 → o.total = d.rb →
      al.pois = [] → NMap.get? s.allocs o.aid ≠ none → (∀ e, e ∈ (s.core core).slots → e.2.ended = false) →
      (d.co + 16 ≤ d.dst ∨ d.dst + d.rb ≤ d.co) → (d.co + 16 ≤ d.src ∨ d.src + d.rb ≤ d.co) →
      (d.src + d.rb ≤ d.dst ∨ d.dst + d.rb ≤ d.src) →
      ∃ t, exec (.copyCompletion core) s = .next t ∧ (∀ x, x ∈ (t.core core).copyQ → x.id ≠ o.id) ∧
        (∀ k, k < d.rb → (t.alloc o.aid).cells.read (d.dst + k) = al.cells.read (d.src + k)) ∧
        ((t.alloc o.aid).object d.co).getD 0 0#32 = (al.object d.co).getD 0 0#32 - BitVec.ofNat 32 d.rb ∧
        ((t.alloc o.aid).object d.co).getD 1 0#32 = (al.object d.co).getD 1 0#32))

/-- The Bramble instructions (R230, R238 to R247, R346 to R354): where the checks pass, the operation with its captured scalars is the
last of the Bramble's queue; CXOPEN.expand and CXSPLIT hold their arm, the others let it go on; registers stay. CXNEXT of a
cursor of a known mode also marks its vector registers, its scalar and its predicates (three of a union, but never p0) as to be
delivered; with no enabled lane it does nothing.
The Bramble runs in order (R230, R239, R243 to R246): the head of its queue, of whatever kind, starts after the fork edge that the
kinds which are engine threads have (R205, R249), no byte of the core's L1 being dirty then, and is marked as started; at its end
it leaves the queue. CXOPEN of two streams leaves the cursor at their start, CXLOAD.s as its image says with a count of 0, CXCLOSE closed; the
image of a CXSAVE lands at its address at its end and fills its granules. CXLOAD takes the image in SCRATCH, CXOPEN.expand its row pointers.
CXNEXT delivers, in the lanes that it fills, index and offsets of the survivors in order, its predicates and its status, and leaves its
cursor behind them; at 256 advances of a stream the fill stops. CXSPLIT lands the images of its parts. What the survivors and the
parts are is stated for IDX32 streams and row pointers in SCRATCH.
What a split checks while it searches is assumption 29, and what becomes of positions that no row holds assumption 40. -/
def Obligations.Bramble : Prop :=
  ((∀ (s : State) (c : Ctx) (i : Instr) (kind : BrKind) (n : BitVec 2) (ops : List Word) (holds : Bool) (ok : Prop), Ready s i c →
     s.logRoom c i → Claims.brambleRule s c (s.alloc c.team.alloc).bytes i = some (kind, n, ops, holds, ok) → ok →
     ∃ (t : State) (o : BrOp) (w : Wave) (x : Arm), exec i s = .next t ∧ (t.core c.r.core).brQ = (s.core c.r.core).brQ ++ [o] ∧ o.kind = kind ∧ o.cx = n.toNat ∧
       o.ops = ops ∧ o.uid = c.wave.uid ∧ o.arm = c.r.arm ∧ o.started = false ∧
       (kind = .openTwo → (o.union = true ↔ ∃ a b, i = .cxopenUnion a b n)) ∧
       (t.core c.r.core).cx = (s.core c.r.core).cx ∧ t.wave? c.r.core c.r.slot = some w ∧ w.s = c.wave.s ∧ w.v = c.wave.v ∧
       w.p = c.wave.p ∧ w.controls = c.wave.controls ∧ NMap.get? w.arms c.r.arm = some x ∧
       x = (if holds then { c.arm with hold := .bramble } else c.arm.advance) ∧ s.sameMemory t ∧
       (∀ k y, (t.alloc k).cells.read y = (s.alloc k).cells.read y)) ∧
   (∀ (s : State) (c : Ctx) (v d : Reg) (p : PReg) (n : BitVec 2), Ready s (.cxnext v d p n) c → s.logRoom c (.cxnext v d p n) →
     (∀ u m, (s.core c.r.core).cxView n.toNat = some u → u.uid = c.wave.uid → u.mode = some m → (m = 1 → p.toNat ≤ 5) →
       let ps := (if m = 1 then [p.toNat, p.toNat + 1, p.toNat + 2] else [p.toNat]).filter (fun q => decide (q ≠ 0))
       (∀ q, q ∈ ps → ∀ e, e ∈ c.wave.pHeld → e.1 ≠ q) →
       (c.lanes = 0#32 → exec (.cxnext v d p n) s = .next (Claims.passed s c (.cxnext v d p n))) ∧
       (c.lanes ≠ 0#32 → ∃ (t : State) (o : BrOp) (w : Wave) (q : Pending), exec (.cxnext v d p n) s = .next t ∧ (t.core c.r.core).brQ = (s.core c.r.core).brQ ++ [o] ∧
         o.kind = .next ∧ o.cx = n.toNat ∧ o.lanes = c.lanes ∧ o.pend = q.id ∧ t.wave? c.r.core c.r.slot = some w ∧
         q ∈ w.inflight ∧ q.left = 1 ∧ q.vdst.map (fun e => e.1) = [v.toNat, v.toNat + 1, v.toNat + 2] ∧
         q.sdst.map (fun e => e.1) = [d.toNat] ∧ w.sEmpty = c.wave.sEmpty ++ [(d.toNat, q.id)] ∧
         w.pHeld = c.wave.pHeld ++ ps.map (fun k => (k, q.id)) ∧ w.s = c.wave.s ∧ w.v = c.wave.v ∧ w.p = c.wave.p ∧
         w.controls = c.wave.controls)))) ∧
  (∀ (s : State) (core : Nat) (o : BrOp) (os : List BrOp), (s.core core).brQ = o :: os →
     (∀ u, o.started = false → s.forkReady core o.slot o.uid o.id = true →
       let f := if o.kind = .load ∨ o.kind = .loadS ∨ o.kind = .close then s else s.fork core
       f.brRun core o = .ok u → exec (.brambleOpStart core) s = .next u ∧ u.mem = f.mem ∧ u.hostMem = s.hostMem ∧
         (o.kind ≠ .load → o.kind ≠ .loadS → o.kind ≠ .close → ∀ la l, NMap.get? (u.core core).l1 la = some l → l.dirty = []) ∧
         ∃ y ys, (u.core core).brQ = y :: ys ∧ y.started = true ∧ y.id = o.id ∧ y.kind = o.kind ∧ y.cx = o.cx) ∧
     (o.started = true → ∃ t, exec (.brambleOpEnd core) s = .next t ∧ ∀ x, x ∈ (t.core core).brQ → x.id ≠ o.id) ∧
     (o.started = false → s.forkReady core o.slot o.uid o.id = true →
       (o.kind = .openTwo → ∃ t c, exec (.brambleOpStart core) s = .next t ∧ NMap.get? (t.core core).cx o.cx = some c ∧
         c.uid = o.uid ∧ c.img = (openCur (if o.union then 1 else 0) (o.ops.take 8) (o.ops.drop 8)).image) ∧
       (o.kind = .loadS → ∃ t c, exec (.brambleOpStart core) s = .next t ∧ NMap.get? (t.core core).cx o.cx = some c ∧
         c.uid = o.uid ∧ c.img = ({ curOf o.ops with cnt := 0 } : Cur).image) ∧
       (o.kind = .close → ∃ t, exec (.brambleOpStart core) s = .next t ∧
         ∀ c, (o.cx, c) ∈ (t.core core).cx → c.uid ≠ o.uid) ∧
       (o.kind = .save → ∀ c, NMap.get? (s.core core).cx o.cx = some c → c.uid = o.uid →
         ∃ t y ys, exec (.brambleOpStart core) s = .next t ∧ (t.core core).brQ = y :: ys ∧ y.started = true ∧
           y.lands = [((o.ops.getD 0 0#32).toNat, wordsBytes (curOf c.img).image)])) ∧
     (∀ a bs, o.started = true → o.kind = .save → o.lands = [(a, bs)] → a % 16 = 0 → bs.length = 64 → (s.alloc o.aid).pois = [] →
       NMap.get? s.allocs o.aid ≠ none → (∀ e, e ∈ (s.core core).slots → e.2.ended = false) →
       ∃ t, exec (.brambleOpEnd core) s = .next t ∧ (∀ x, x ∈ (t.core core).brQ → x.id ≠ o.id) ∧
         Memory.readBytes (t.alloc o.aid).cells a 64 = bs ∧
         ∀ g, a / 16 ≤ g → g < a / 16 + 4 →
           (g ∈ (t.alloc o.aid).full ↔ ∀ q, q ∈ (s.alloc o.aid).waits → q.gran = g → q.clear = false)) ∧
     (o.started = false → o.kind = .load → s.forkReady core o.slot o.uid o.id = true →
       let al := s.alloc o.aid
       let a := (o.ops.getD 0 0#32).toNat
       let img := bytesWords 16 (al.bytesAt a 64)
       al.pois = [] → imageFault img = none → imageBeyond al.bytes img = none →
       ∃ t c, exec (.brambleOpStart core) s = .next t ∧ NMap.get? (t.core core).cx o.cx = some c ∧ c.uid = o.uid ∧ c.img = img.set 14 0#32) ∧
     (o.started = false → o.kind = .openExpand → s.forkReady core o.slot o.uid o.id = true →
       let al := s.alloc o.aid
       let c := openCur 2 o.ops []
       let n := c.b.fin
       al.pois = [] → c.b.loc = true →
       (n ≠ 0 → Claims.rowPtr al c 0 ≤ Claims.rowPtr al c n ∧ Claims.rowPtr al c 0 ≤ Claims.rowPtr al c 1 ∧
         streamBeyond c.a.loc al.bytes (c.a.base + 4 * Claims.rowPtr al c 0) (4 * (Claims.rowPtr al c n - Claims.rowPtr al c 0)) = none) →
       ∃ t v, exec (.brambleOpStart core) s = .next t ∧ NMap.get? (t.core core).cx o.cx = some v ∧ v.uid = o.uid ∧
         v.img = (if n = 0 then c else
           { c with
             a := { c.a with pos := Claims.rowPtr al c 0, fin := Claims.rowPtr al c n }
             b := { c.b with off := Claims.rowPtr al c 1 } }).image ∧
         ∀ w x, s.wave? core o.slot = some w → NMap.get? w.arms o.arm = some x → x.hold = .bramble → x.also = none →
           ∃ u, t.wave? core o.slot = some u ∧ NMap.get? u.arms o.arm = some x.advance) ∧
     (∀ (v : Cursor) (w : Wave) (p : Pending) (d : Cur) (fs : List Filled), o.started = false → o.kind = .next →
       s.forkReady core o.slot o.uid o.id = true → NMap.get? (s.core core).cx o.cx = some v → v.uid = o.uid →
       s.wave? core o.slot = some w → p ∈ w.inflight → p.id = o.pend →
       ((s.fork core).brEnv core o).fill (maskLanes o.lanes) (curOf v.img) 0 0 = .ok (d, fs, none) →
       ∃ t u q x y z n, exec (.brambleOpStart core) s = .next t ∧ t.wave? core o.slot = some u ∧ q ∈ u.inflight ∧ q.id = o.pend ∧
         (NMap.get? (t.core core).cx o.cx).map (fun e => e.img) = some ({ d with cnt := (d.cnt + fs.length) % 2 ^ 32 } : Cur).image ∧
         q.vdst = [(o.v, x), (o.v + 1, y), (o.v + 2, z)] ∧ q.sdst = [(o.d, BitVec.ofNat 32 (fs.length + n))] ∧
         (∀ l, l < 32 → q.lanes.getLsbD l = fs.any (fun f => f.lane == l)) ∧
         (∀ f, f.lane < 32 → fs.find? (fun e => e.lane == f.lane) = some f →
           x.lane f.lane = BitVec.ofNat 32 f.idx ∧ y.lane f.lane = BitVec.ofNat 32 f.v1 ∧ z.lane f.lane = BitVec.ofNat 32 f.v2) ∧
         (∃ a b, q.pdst = (o.p, o.lanes, q.lanes) :: (if d.mode = 1 then [(o.p + 1, o.lanes, a), (o.p + 2, o.lanes, b)] else []) ∧
           ∀ l, l < 32 → a.getLsbD l = fs.any (fun f => f.lane == l && f.inA) ∧ b.getLsbD l = fs.any (fun f => f.lane == l && f.inB)) ∧
         n = (if (d.mode = 2 ∧ d.a.fin ≤ d.a.pos) ∨ (d.mode = 1 ∧ d.a.fin ≤ d.a.off ∧ d.b.fin ≤ d.b.off) ∨
           (d.mode ≠ 1 ∧ d.mode ≠ 2 ∧ (d.a.fin ≤ d.a.off ∨ d.b.fin ≤ d.b.off)) then 2 ^ 31 else 0)) ∧
     (∀ (v : Cursor) (k at_ : Nat) (lanes : List Nat), (s.alloc o.aid).pois = [] →
       let al := s.alloc o.aid
       let c := curOf v.img
       let e := (s.fork core).brEnv core o
       (∀ na nb, 256 ≤ max na nb → e.survivor c na nb = .ok (.stop c na nb)) ∧
       (∀ xs ys, c.mode < 2 → Claims.Indices al c.a xs → Claims.Indices al c.b ys →
         (xs.length < 256 → ys.length < 256 →
           let all := Claims.survivors (c.mode == 1) 512 xs ys c.a.pos c.b.pos
           ∃ n m, n ≤ xs.length ∧ m ≤ ys.length ∧
             let d := { c with a := Claims.behind c.a xs n, b := Claims.behind c.b ys m }
             e.fill lanes c 0 0 = .ok (d, (lanes.zip all).map (fun x => ⟨x.1, x.2.1, offsetOf (x.2.2.1.getD 0xFFFFFFFF) c.vsza,
               offsetOf (x.2.2.2.getD 0xFFFFFFFF) c.vszb, x.2.2.1.isSome, x.2.2.2.isSome⟩), none) ∧
             Claims.survivors (c.mode == 1) 512 (xs.drop n) (ys.drop m) d.a.pos d.b.pos = all.drop lanes.length) ∧
         (2 ≤ k → ∃ ps, e.split c k = .ok ps ∧ ps.length = k ∧ ∀ j, j < k →
           let lo := Claims.cuts xs ys k j
           let hi := Claims.cuts xs ys k (j + 1)
           ps.getD j c = { c with
             a := { Claims.behind c.a xs lo.1 with fin := if j + 1 = k then c.a.fin else c.a.off + 4 * hi.1 },
             b := { Claims.behind c.b ys lo.2 with fin := if j + 1 = k then c.b.fin else c.b.off + 4 * hi.2 }, j := j, k := k, cnt := 0 })) ∧
       (Claims.Expands al c →
         (c.a.fin < c.a.pos + 256 → c.b.fin < c.b.pos + 256 → ∃ d fs, e.fill lanes c 0 0 = .ok (d, fs, none) ∧
           fs.length = min lanes.length (c.a.fin - c.a.pos) ∧ d.a = { c.a with pos := c.a.pos + fs.length } ∧ d.b.off = Claims.rowPtr al c (d.b.pos + 1) ∧
           ∀ i f, fs[i]? = some f → lanes[i]? = some f.lane ∧ f.idx = bytesNat (al.bytesAt (c.a.base + 4 * (c.a.pos + i)) 4) ∧
             f.v1 = offsetOf (c.a.pos + i) c.vsza ∧ Claims.holdsPos al c f.v2 (c.a.pos + i)) ∧
         (2 ≤ k → ∃ ps, e.split c k = .ok ps ∧ ps.length = k ∧ ∀ j, j < k →
           let lo := c.a.pos + j * (c.a.fin - c.a.pos) / k
           let hi := c.a.pos + (j + 1) * (c.a.fin - c.a.pos) / k
           ∃ r, ps.getD j c = { c with a := { c.a with pos := lo, fin := hi }, j := j, k := k, cnt := 0, b := { c.b with pos := r, off := Claims.rowPtr al c (r + 1) } } ∧
             (lo = hi → r = c.b.pos) ∧ (lo ≠ hi → Claims.holdsPos al c r lo))) ∧
       (∀ ps, o.started = false → o.kind = .split → s.forkReady core o.slot o.uid o.id = true →
         NMap.get? (s.core core).cx o.cx = some v → v.uid = o.uid → at_ = (o.ops.getD 0 0#32).toNat → k = (o.ops.getD 1 0#32).toNat →
         e.split c k = .ok ps →
         ∃ t y ys, exec (.brambleOpStart core) s = .next t ∧ (t.core core).brQ = y :: ys ∧ y.started = true ∧
           (t.core core).cx = (s.core core).cx ∧
           y.lands = (List.range ps.length).map (fun j => (at_ + 128 * j + 64, wordsBytes (ps.getD j c).image)))))

/-! ### Tasks and futures -/

/-- SPAWN.s and SPAWN.l (R73 to R80, R263, R422): once the wave's earlier accesses are performed, the closure of 32 registers or of 128
bytes of SCRATCH is the entry at the hot end of the core's deque, with M set for a default-migratable job, and no byte of memory
changes unless the entry is to be staged, whose fork edge lies here; a header that fails
R74 faults with the word's index, a full deque with spawn overflow, and the closure of a drained job is discarded, with an error
for its future.
The order of the checks of a SPAWN of a drained job is assumption 13. -/
def Obligations.SpawnPushes : Prop :=
  ∀ (s : State) (c : Ctx) (i : Instr) (ws : List Word), Ready s i c → s.logRoom c i → s.unperformed c.r.core c.wave s.handles = false →
    ((∃ a : BitVec 1, i = .spawnS a ∧ ws = (List.range 32).map (fun k => c.wave.sreg (32 * a.toNat + k))) ∨
      (∃ a, i = .spawnL a ∧ (c.wave.sreg a.toNat).toNat % 128 = 0 ∧
        (c.wave.sreg a.toNat).toNat + 128 ≤ (s.alloc c.team.alloc).bytes ∧ (s.alloc c.team.alloc).pois = [] ∧
        ws = (List.range 32).map (fun k => Claims.cell (s.alloc c.team.alloc).cells (c.wave.sreg a.toNat).toNat k))) →
    (∀ k, headerFault c.job.npkt ws = some k → exec i s = .next (c.fault 0x10 0 k (s.noted c i))) ∧
    (headerFault c.job.npkt ws = none → c.job.drained = false → 33280 ≤ (s.core c.r.core).deque.length →
      exec i s = .next (c.fault 0x1E 0 0 (s.noted c i))) ∧
    (headerFault c.job.npkt ws = none → (s.job c.job.jid).drained = false → c.job.drained = false →
      (s.core c.r.core).deque.length < 33280 →
      ∃ (t : State) (e : Entry), exec i s = .next t ∧ (t.core c.r.core).deque = (s.core c.r.core).deque ++ [e] ∧
        e.job = c.job.jid ∧ e.pasid = c.job.pasid ∧ e.handler = false ∧ e.byp = 0 ∧
        e.w.getD 0 0#32 = (if c.job.migrate then ws.getD 0 0#32 ||| 0x80000000#32 else ws.getD 0 0#32) ∧
        (∀ k, 0 < k → e.w.getD k 0#32 = ws.getD k 0#32) ∧ e.ready = !(ws.getD 0 0#32).getLsbD 30 ∧
        t.wave? c.r.core c.r.slot = some (c.wave.modArm c.r.arm Arm.advance) ∧
        ((ws.getD 0 0#32).getLsbD 30 = false → s.sameMemory t) ∧ s.sameScratch t) ∧
    (headerFault c.job.npkt ws = none → (s.job c.job.jid).drained = true → c.job.drained = true →
      ∃ t, exec i s = .next t ∧ (t.core c.r.core).deque = (s.core c.r.core).deque ∧
        (pair (ws.getD 2 0#32) (ws.getD 3 0#32) = 0 → t.deliveries = s.deliveries) ∧
        (pair (ws.getD 2 0#32) (ws.getD 3 0#32) ≠ 0 → ∃ d, t.deliveries = s.deliveries ++ [d] ∧ d.err = true ∧
          d.handle = pair (ws.getD 2 0#32) (ws.getD 3 0#32)))

/-- The delivery to a cell whose line no cache near the core holds (R88), and FNEW, FJOIN, FWAIT and FPUT (R85 to R92, R361 to R365) on
handles that lead to device memory. FNEW writes all eight words; FPUT delivers after its release; FWAIT answers the value of a
resolved cell, or parks, or faults at the park limit; FJOIN registers its line with a cell that has none, after its release and
the check of the line's header. At FWAIT, FPUT and FJOIN an OP above 6 faults; FNEW takes none above 6.
Which permission of a page FWAIT and FJOIN need is a choice of the model (assumption 35). -/
def Obligations.FutureCells : Prop :=
  (∀ (s : State) (core jid x d : Nat) (err : Bool), x % 32 = 0 → Claims.Uncached s core x →
    (∀ k, k ∈ s.parkedCores (.dpa x) → Claims.Uncached s k x) → d < 2 ^ 64 →
    (Claims.cell s.mem x 0 = 1#32 → (Claims.cell s.mem x 1).getLsbD 9 = false) → Claims.Delivered s.mem (s.deliver core jid (.dpa x) d err).mem x d err) ∧
  (∀ (s : State) (c : Ctx) (a b : Reg) (u : BitVec 3) (x : Nat), Ready s (.fnew a b u) c →
    let s' := s.noted c (.fnew a b u)
    (u = 7#3 → exec (.fnew a b u) s = .next (c.fault 0x10 0 (c.job.cbase + 12 * c.arm.pc + 4 * c.arm.word) s')) ∧
    (u ≠ 7#3 → x % 32 = 0 → Claims.CellAt s' c true (c.wave.spair a.toNat) x → Claims.Uncached s' c.r.core x →
      (∀ k, k ∈ s'.parkedCores (.dpa x) → Claims.Uncached s' k x) → Claims.EntriesFree s' c.r.core →
      ∃ t, exec (.fnew a b u) s = .next t ∧
        (∀ k, k < 8 → Claims.cell t.mem x k =
          if k = 0 then c.wave.sreg b.toNat else if k = 1 then BitVec.ofNat 32 u.toNat
          else if k = 2 then (if u = 2#3 ∨ u = 4#3 then 0x80000000#32 else if u = 3#3 then 0x7FFFFFFF#32 else 0#32) else 0#32) ∧
        (∀ y, y < x ∨ x + 32 ≤ y → t.mem.read y = s'.mem.read y))) ∧
  (∀ (s : State) (c : Ctx) (d a : Reg) (x : Nat), Ready s (.fwait d a) c → s.logRoom c (.fwait d a) →
    let h := c.wave.spair a.toNat
    let s' := s.noted c (.fwait d a)
    x % 32 = 0 → Claims.CellAt s' c false h x → Claims.Uncached s' c.r.core x → x / 32 ∉ s'.poison → Claims.EntriesFree s' c.r.core →
    ∃ v : State, Claims.Accepted s' c v ∧
    let u := v.touchHome c.job.pasid (.dpa x) 32
    (6 < (Claims.cell s.mem x 1).toNat % 16 → exec (.fwait d a) s = .next (c.faultWord (faultCause 0x1D 0) h true u)) ∧
    ((Claims.cell s.mem x 1).toNat % 16 ≤ 6 →
      (Claims.cell s.mem x 0 = 0#32 → ∃ t w, exec (.fwait d a) s = .next t ∧ t.wave? c.r.core c.r.slot = some w ∧
        w.sreg (d.toNat + 1) = Claims.cell s.mem x 3 ∧ w.sreg d.toNat = Claims.cell s.mem x 2 ∧
        (∀ r, r ≠ d.toNat → r ≠ d.toNat + 1 → w.sreg r = c.wave.sreg r) ∧ w.v = c.wave.v ∧ w.p = c.wave.p ∧
        w.controls = c.wave.controls ∧ s.sameMemory t) ∧
      (Claims.cell s.mem x 0 ≠ 0#32 →
        (c.wave.parkedArm = true ∨ s'.parkedSlots c.r.core < 48 →
          exec (.fwait d a) s = .next (u.modArm c.r (fun y => { y with hold := .parked h (.dpa x) d.toNat }))) ∧
        (c.wave.parkedArm = false → 48 ≤ s'.parkedSlots c.r.core → exec (.fwait d a) s = .next (c.fault 0x1B 0 h u))))) ∧
  (∀ (s : State) (c : Ctx) (a b : Reg) (x : Nat), Ready s (.fput a b) c →
    let h := c.wave.spair a.toNat
    let s' := s.noted c (.fput a b)
    Claims.CellAt s' c true h x → s'.unperformed c.r.core c.wave s'.handles = false → Claims.EntriesFree s' c.r.core →
    ∃ u : State, Claims.Accepted s' c u ∧
    let r := ((u.release c.r.core 4).homeSector c.r.core (.dpa x)).touchHome c.job.pasid (.dpa x) 32
    ((r.cellWords (.dpa x)).2 = false → 6 < cellOp ((r.cellWords (.dpa x)).1.getD 1 0#32) →
      exec (.fput a b) s = .next (c.faultWord (faultCause 0x1D 0) h true r)) ∧
    ((r.cellWords (.dpa x)).2 = false → cellOp ((r.cellWords (.dpa x)).1.getD 1 0#32) ≤ 6 →
    exec (.fput a b) s = .next ((r.deliver c.r.core c.job.jid (.dpa x) (c.wave.spair b.toNat) false).modArm c.r Arm.advance))) ∧
  (∀ (s : State) (c : Ctx) (a b : Reg) (x y : Nat), Ready s (.fjoin a b) c →
    let va := c.wave.spair b.toNat
    let s' := s.noted c (.fjoin a b)
    Claims.EntriesFree s' c.r.core → ∃ u : State, Claims.Accepted s' c u ∧
    let r := u.release c.r.core 4
    x % 32 = 0 → Claims.CellAt s' c true (c.wave.spair a.toNat) x → va % 128 = 0 → va < 2 ^ 57 →
    s'.xlate c.r.core c.job.pasid va false = .hit (.dpa y) → y % 128 = 0 →
    (∀ e, e ∈ (s'.core c.r.core).sideLog → e.pasid ≠ c.job.pasid ∨ e.page ≠ va / 4096) →
    s'.unperformed c.r.core c.wave s'.handles = false → Claims.Uncached r c.r.core x → Claims.Uncached r c.r.core y →
    x / 32 ∉ r.poison → (∀ k, k < 4 → y / 32 + k ∉ r.poison) →
    headerFault c.job.npkt ((List.range 32).map (fun k => Claims.cell r.mem y k)) = none →
    (6 < (Claims.cell r.mem x 1).toNat % 16 →
      ∃ v, exec (.fjoin a b) s = .next (c.faultWord (faultCause 0x1D 0) (c.wave.spair a.toNat) true v) ∧ v.mem = r.mem) ∧
    ((Claims.cell r.mem x 1).toNat % 16 ≤ 6 → (Claims.cell r.mem x 1).getLsbD 9 = false →
    ∃ t, exec (.fjoin a b) s = .next t ∧ Claims.cell t.mem x 1 = Claims.cell r.mem x 1 ||| 0x200#32 ∧
      Claims.cell t.mem x 4 = lo32 va ∧ Claims.cell t.mem x 5 = hi32 va ∧
      (Claims.cell r.mem x 0 ≠ 0#32 → NMap.get? s.jobs c.job.jid ≠ none → Target.dpa x ∈ (t.job c.job.jid).regs)))

/-- TEND and what ends a task after it (R84, R93, R437, R438, R469). A wave without a future ends; one with a future delivers its value at
device scope first; one with tiles to write back holds until they are written, and then ends, or leaves its delivery to be made: the
bytes of the tile in SCRATCH stand at its addresses in global memory, which no cache near a core holds. A
delivery that the device makes reaches its cell once its page translates, and the TEND's wave ends with it. -/
def Obligations.TaskEnds : Prop :=
  (∀ (s : State) (c : Ctx) (a : Reg), Ready s (.tend a) c →
    let h := pair c.wave.tfutl c.wave.tfuth
    let v := c.wave.spair a.toNat
    let s' := s.noted c (.tend a)
    (h = 0 → (∀ t, t ∈ c.wave.tiles → t.wb = false) → exec (.tend a) s = .next (s'.endWave c.r.core c.r.slot false)) ∧
    ((∃ t, t ∈ c.wave.tiles ∧ t.wb = true) → s'.unperformed c.r.core c.wave s'.handles = false → (h ≠ 0 → ∃ x, Claims.CellAt s' c true h x) →
      Claims.EntriesFree s' c.r.core → ∃ u : State, Claims.Accepted s' c u ∧
      exec (.tend a) s = .next ((u.fork c.r.core).modArm c.r (fun y => { y with hold := .tiles h v 0 }))) ∧
    (∀ x, h ≠ 0 → (∀ t, t ∈ c.wave.tiles → t.wb = false) → Claims.CellAt s' c true h x → s'.unperformed c.r.core c.wave s'.handles = false →
      Claims.EntriesFree s' c.r.core → ∃ u : State, Claims.Accepted s' c u ∧
      let r := ((u.release c.r.core 4).homeSector c.r.core (.dpa x)).touchHome c.job.pasid (.dpa x) 32
      (r.cellWords (.dpa x)).2 = false → cellOp ((r.cellWords (.dpa x)).1.getD 1 0#32) ≤ 6 →
      exec (.tend a) s = .next ((r.deliver c.r.core c.job.jid (.dpa x) v false).endWave c.r.core c.r.slot false))) ∧
  (∀ (s : State) (core slot : Nat) (err : Bool) (w : Wave), s.wave? core slot = some w → err = false →
    (s.endWave core slot err).deliveries = s.deliveries ∧
    ((s.endWave core slot err).wave? core slot = none ∨
      ∃ u, (s.endWave core slot err).wave? core slot = some u ∧ u.ended = true ∧
        ∀ e, e ∈ u.arms → ∃ q, e.2.cap = some q ∧ storesOrAtomic q.ins = true)) ∧
  (∀ (s : State) (core slot : Nat) (c : Ctx) (h v done : Nat), s.tendCtx core slot = some (c, h, v, done) → s.deliveryOf core slot = false →
    (∀ t, t ∈ c.wave.backTiles → ∀ i k, i < t.rows → k < t.rb → t.va + i * t.pitch + k < 2 ^ 57 ∧
      c.job.inCode (t.va + i * t.pitch + k) = false ∧ ∃ x, s.xlate core c.job.pasid (t.va + i * t.pitch + k) true = .hit (.dpa x)) →
    s.peerOwes c.wave.uid = false →
    ∃ t, exec (.tileWritebackComplete core slot) s = .next t ∧
      (h = 0 → t.wave? core slot = none ∨ ∃ u, t.wave? core slot = some u ∧ u.ended = true) ∧
      (h ≠ 0 → ∃ d, t.deliveries = s.deliveries ++ [d] ∧ d.err = false ∧ d.handle = h ∧ d.value = BitVec.ofNat 64 v) ∧
      (∀ (tl : Tile) (f : Nat → Nat), c.wave.backTiles = [tl] → done = 0 →
        (∀ i, i < tl.rows * tl.rb → s.xlate core c.job.pasid (tl.va + i / tl.rb * tl.pitch + i % tl.rb) true = .hit (.dpa (f i))) →
        (∀ i j, i < tl.rows * tl.rb → j < tl.rows * tl.rb → f i = f j → i = j) →
        (∀ k j i e b, i < tl.rows * tl.rb → e ∈ (s.core k).l1 ++ (s.cluster j).cc → b ∈ e.2.bytes → 128 * e.1 + b.1 ≠ f i) →
        ∀ i, i < tl.rows * tl.rb → t.mem.read (f i) = (s.alloc c.team.alloc).cells.read (tl.base + i))) ∧
  (∀ (s : State) (d : Delivery) (c : Ctx) (e : Nat × Nat × Nat) (x : Nat), s.deliveries.find? (fun d => !d.err) = some d →
    s.tendCtx d.core (wbits d.wave 21 16) = some (c, e) → s.checkHandle d.core d.pasid d.handle true = .at (.dpa x) →
    let u := (({ s with deliveries := dropFirst false s.deliveries } : State).homeSector c.r.core (.dpa x)).touchHome c.job.pasid (.dpa x) 32
    (u.cellWords (.dpa x)).2 = false → cellOp ((u.cellWords (.dpa x)).1.getD 1 0#32) ≤ 6 →
    exec .futureDelivery s = .next ((u.deliver c.r.core c.job.jid (.dpa x) d.value.toNat false).endWave c.r.core c.r.slot false)) ∧
  (∀ (s : State) (d : Delivery) (ds : List Delivery) (x : Nat), s.deliveries = d :: ds → d.err = true →
    s.checkHandle d.core d.pasid d.handle true = .at (.dpa x) →
    let u := (({ s with deliveries := ds } : State).homeSector d.core (.dpa x)).touchHome d.pasid (.dpa x) 32
    (u.cellWords (.dpa x)).2 = false → cellOp ((u.cellWords (.dpa x)).1.getD 1 0#32) ≤ 6 →
    exec .errorDelivery s = .next (u.deliver d.core d.job (.dpa x) 0 true))

/-! ### Steps of the device -/

/-- What the device reports (R259, R282, R309): the layout of a completion record; a record stands at its address, its vector signals
and the entry is consumed; JOB_END writes the record of a job that has ended and closes it; EVENT_WRITE puts the oldest event at EQTL
with the count of dropped events, moves EQTL on and signals, and drops it, counted, while the queue is full. -/
def Obligations.Reports : Prop :=
  (∀ (r : RecordFields) (x y z : Nat), r.steals = [x, y, z] →
    let f := fieldOf r.bytes
    r.bytes.length = 64 ∧ f 0 4 = r.tag.toNat ∧ f 4 1 = r.out % 2 ^ 8 ∧ f 5 1 = r.conf % 2 ^ 8 ∧ f 6 2 = r.err % 2 ^ 16 ∧
      f 8 4 = r.job % 2 ^ 32 ∧ f 12 4 = r.halts % 2 ^ 32 ∧ f 16 4 = x % 2 ^ 32 ∧ f 20 4 = y % 2 ^ 32 ∧ f 24 4 = z % 2 ^ 32 ∧
      f 28 4 = r.dropped % 2 ^ 32 ∧ f 32 8 = r.classes % 2 ^ 64 ∧ f 40 4 = r.cid % 2 ^ 32 ∧ f 44 4 = r.poison % 2 ^ 32 ∧
      f 48 8 = r.at48 % 2 ^ 64 ∧ f 56 8 = 0) ∧
  (∀ (s : State) (e : Submission) (a : Nat) (r : RecordFields), r.bytes.length = 64 →
    let u := Claims.answered s e (.dpa a) r
    let v := s.iface e.vi
    Memory.readBytes u.mem a 64 = r.bytes ∧ (∀ b, b < a ∨ a + 64 ≤ b → u.mem.read b = s.mem.read b) ∧ u.msix = s.msix ++ [(e.vi, 1)] ∧
      u.iface e.vi = { v with sqhd := BitVec.ofNat 32 ((v.sqhd.toNat + 1) % v.sqsz.toNat) } ∧ u.jobs = s.jobs ∧ u.cores = s.cores) ∧
  (∀ (s : State) (jid a : Nat) (j : Job), NMap.get? s.jobs jid = some j → s.jobDone jid = true → j.steals.length = 3 →
    s.ioPlace j.pasid j.rva true = .at (.dpa a) →
    ∃ (t : State) (r : RecordFields) (k : Job), exec (.jobEnd jid) s = .next t ∧ Memory.readBytes t.mem a 64 = r.bytes ∧ r.tag = j.tag ∧
      r.out = (if j.halted1 then 3 else if j.drained then 4 else 1) ∧ r.job = j.num ∧ r.halts = j.halts ∧ r.steals = j.steals ∧
      r.conf = (if j.conf = 3 then 3 else if j.pairs = [] then 2 else 1) ∧ r.err = 0 ∧ r.dropped = j.dropped + j.regs.length ∧
      r.classes = j.classes.toNat ∧ t.msix = s.msix ++ [(j.vi, 1)] ∧ NMap.get? t.jobs jid = some k ∧ k.ended = true) ∧
  (∀ (s : State) (vi a : Nat) (e : Event) (es : List Event), (s.iface vi).held = e :: es → e.length = 32 →
    let v := s.iface vi
    (v.eqsz ≠ 0#32 → (v.eqtl.toNat + 1) % v.eqsz.toNat ≠ v.eqhd.toNat →
      s.ioPlace (s.viPasid vi) (pair v.eqbl v.eqbh + 128 * v.eqtl.toNat) true = .at (.dpa a) →
      ∃ t, exec (.eventWrite vi) s = .next t ∧
        Memory.readBytes t.mem a 128 = wordsBytes (e.set 1 (BitVec.ofNat 32 (min v.lost 0xFFFFFFFF))) ∧
        (∀ b, b < a ∨ a + 128 ≤ b → t.mem.read b = s.mem.read b) ∧
        t.iface vi = { v with held := es, lost := 0, eqtl := BitVec.ofNat 32 ((v.eqtl.toNat + 1) % v.eqsz.toNat) } ∧
        t.msix = s.msix ++ [(vi, 0)]) ∧
    (v.eqsz = 0#32 ∨ (v.eqtl.toNat + 1) % v.eqsz.toNat = v.eqhd.toNat →
      ∃ t, exec (.eventWrite vi) s = .next t ∧ t.iface vi = { v with held := es, lost := v.lost + 1 } ∧ t.mem = s.mem))

/-- Results, retries, messages and windows (R50, R175, R176, R184 to R188, R191, R195, R274). The results of a producer reach its wave's
registers in its lanes, nothing of it is empty any more, and an acquire that waited for it alone, of the loads before it, is done; the arm of
the access with the claim, else of the oldest rejected one, may issue again; the network's routes lead from every core to every core, and from every core to the home slice of every line,
whatever stands in the routers' queues; a message enters the receive queue of a core that accepts it, waits while that is full, and
sets DROP for its sender where it is not accepted; in the last cycle of a PREOFF window, which is not that of the PREOFF itself, PRES reaches 0; a line leaves a cache, and the core
sees what it saw. -/
def Obligations.CoreEvents : Prop :=
  (∀ (s : State) (core slot id : Nat) (w : Wave) (p : Pending), s.wave? core slot = some w →
    w.inflight.find? (fun q => q.id == id && q.left == 0) = some p → p.push = [] →
    ∃ t u, exec (.resultArrival core slot id) s = .next t ∧ t.wave? core slot = some u ∧
      (∀ d x, p.vdst = [(d, x)] → ∀ l, l < 32 → (u.vreg d).lane l = if p.lanes.getLsbD l then x.lane l else (w.vreg d).lane l) ∧
      (∀ d, (∀ e, e ∈ p.vdst → e.1 ≠ d) → u.vreg d = w.vreg d) ∧ (∀ d x, p.sdst = [(d, x)] → u.sreg d = x) ∧
      (∀ d, (∀ e, e ∈ p.sdst → e.1 ≠ d) → u.sreg d = w.sreg d) ∧
      (∀ d m x, p.pdst = [(d, m, x)] → d ≠ 0 → u.preg d = (w.preg d &&& ~~~m) ||| (x &&& m)) ∧
      (∀ d, (∀ e, e ∈ p.pdst → e.1 ≠ d) → u.preg d = w.preg d) ∧ u.flags = w.flags ||| p.flags ∧
      (∀ e, e ∈ u.sEmpty ↔ e ∈ w.sEmpty ∧ e.2 ≠ p.id) ∧ (∀ e, e ∈ u.pHeld ↔ e ∈ w.pHeld ∧ e.2 ≠ p.id) ∧
      (∀ k a, NMap.get? u.arms k = some a → ∀ e, e ∈ a.empty → e.2 ≠ p.id) ∧ (∀ q, q ∈ u.inflight ↔ q ∈ w.inflight ∧ q.id ≠ p.id) ∧
      (∀ k a sc below d, w.arms = [(k, a)] → a.hold = .acquire sc below d → a.also = none →
        (∀ q, q ∈ w.inflight → q.id ≠ p.id → q.isMem = true → below ≤ q.id) →
        u.arms = [(k, ({ a with empty := a.empty.filter (fun e => e.2 != p.id) } : Arm).advance)])) ∧
  (∀ (s : State) (core : Nat) (r : ArmRef),
    ((s.core core).claim = some r ∨ (s.core core).claim = none ∧ ∃ n l, (s.core core).rejects = (r, n) :: l) → r.arm < 2 →
    exec (.missStatusRetry core) s = .next (s.modArm r (fun a => if a.heldBy Hold.isRejected then { a.facing Hold.isRejected with hold := .none } else a))) ∧
  (∀ src dst, src < 1024 → dst < 1024 → messageArrives src dst = true) ∧
  (∀ (s : State) (flits : Router → Nat → Nat) (core la : Nat), core < 1024 → la < 2 ^ 33 →
    s.homeArrival flits core la = some (.slice (homeSlice s.groups (128 * la)).2.1)) ∧
  (∀ (s : State) (src dst : Nat) (m : Msg), src < 1024 → dst < 1024 → (s.core src).txq.find? (fun m => m.dst == dst) = some m → m.src = src →
    (s.takesMessages dst m.job = true → (s.core dst).rxq.length < 256 →
      ∃ t, exec (.messageArrival src dst) s = .next t ∧ (t.core dst).rxq = (s.core dst).rxq ++ [m] ∧
        (t.core src).txq = (s.core src).txq.erase m ∧ ∀ c k, t.wave? c k = s.wave? c k) ∧
    (s.takesMessages dst m.job = true → 256 ≤ (s.core dst).rxq.length → exec (.messageArrival src dst) s = .next s) ∧
    (s.takesMessages dst m.job = false →
      ∃ t, exec (.messageArrival src dst) s = .next t ∧ (t.core src).txq = (s.core src).txq.erase m ∧
        (∀ c, (t.core c).rxq = (s.core c).rxq) ∧
        ∀ c p w, (s.core c).port = some p → s.wave? c p = some w → w.uid = m.suid → (t.core c).pDrop = true)) ∧
  (∀ (s : State) (core slot : Nat) (w : Wave), s.wave? core slot = some w → w.pres = 1#32 → w.opened = false →
    ∃ t, exec (.preoffWindowExpiry core slot) s = .next t ∧ t.wave? core slot = some { w with pres := 0#32 } ∧
      (∀ c k, c ≠ core ∨ k ≠ slot → t.wave? c k = s.wave? c k) ∧ (∀ k, t.stack k = s.stack k) ∧ t.mem = s.mem) ∧
  (∀ (s : State) (level : CacheLevel) (unit line : Nat), ∃ t, exec (.lineEviction level unit line) s = .next t ∧
    (level = .l1Evict → NMap.get? (t.core unit).l1 line = none) ∧ (level = .clusterEvict → NMap.get? (t.cluster unit).cc line = none) ∧
    (level = .icacheEvict → line ∉ (t.core unit).icache) ∧
    (∀ core pasid x, level = .l1Evict → unit = core → Claims.Alone s core pasid → s.cacheBanks (clusterOf core) ≠ 0 →
      NMap.get? (s.cluster (clusterOf core)).cc line = none → Claims.Room s core [line] →
      (∀ l, NMap.get? (s.core core).l1 line = some l → NMap.sorted l.bytes = true ∧ ∀ k, 128 ≤ k → NMap.get? l.bytes k = none) →
      (∀ l k b, NMap.get? (s.core core).l1 line = some l → NMap.get? l.bytes k = some b → b.dirty = false →
        s.mem.read (128 * line + k) = b.val) →
      Claims.seen t core pasid x = Claims.seen s core pasid x))

/-- TASK_DISPATCH and STEAL (R36, R46, R81, R82, R94, R95, R97, R270). What a pop takes is ready and, unless its bypass count is 8, among the four
hottest eligible entries, with the highest PRI of the ready ones there. The task's wave starts in the lowest free slot at the
packet of w1, with the closure in its registers, as a team of one, and the entry leaves the deque. A thief takes one of the eight
coldest entries of a core of its own cluster, of its own stack, or, at or above LOCT and with M set, of another stack; an entry of a sole-cluster job stays in its cluster; none is
taken while contract work comes first on the core; the steal counts.
The slot that a task takes is a choice of the model (assumption 14). -/
def Obligations.TasksStart : Prop :=
  (∀ (s : State) (core : Nat) (es ps : List Entry) (e : Entry), s.popChoice core es = some (e, ps) →
    e ∈ es ∧ e.ready = true ∧ (8 ≤ e.byp ∧ ps = [] ∨ e ∈ es.reverse.take 4 ∧
      (∀ x, x ∈ es.reverse.take 4 → x.ready = true → hdrPri (x.w.getD 0 0#32) ≤ hdrPri (e.w.getD 0 0#32)) ∧
      ∀ x, x ∈ ps ↔ x ∈ es.reverse.take 4 ∧ x.ready = true ∧ x.uid ≠ e.uid)) ∧
  (∀ (s : State) (core slot : Nat) (sl : List Nat) (e : Entry) (ps : List Entry), (s.core core).freeSlots = slot :: sl →
    s.reserverFits (clusterOf core) = false →
    s.popChoice core ((s.core core).deque.filter (fun e => s.takes core e)) = some (e, ps) → e.scause = none → e.pois = false →
    e.tiles = [] →
    ∃ t w, exec (.taskDispatch core) s = .next t ∧ t.wave? core slot = some w ∧ w.uid = e.uid ∧ w.isTask = true ∧ w.idx = 0 ∧
      (∀ k, k < 32 → w.sreg k = e.w.getD k 0#32) ∧ (∀ k, 32 ≤ k → w.sreg k = 0#32) ∧ w.v = [] ∧ w.p = [] ∧ w.stack = [] ∧ w.groups = [] ∧
      w.tfutl = e.w.getD 2 0#32 ∧ w.tfuth = e.w.getD 3 0#32 ∧ w.arms = [(0, { pc := (e.w.getD 1 0#32).toNat })] ∧
      w.vregN = 8 * ((e.w.getD 0 0#32).toNat / 2 ^ 16 % 2 ^ 8) ∧ w.sregN = 64 * (s.job e.job).srb ∧ w.handler = e.handler ∧
      (t.team w.tid).job = e.job ∧ (t.team w.tid).size = 1 ∧ (t.team w.tid).cores = [core] ∧
      (∀ x, x ∈ (t.core core).deque → x.uid ≠ e.uid)) ∧
  (∀ (s : State) (thief level victim : Nat) (e : Entry), s.stealChoice thief = some (level, victim, e) →
    e ∈ (s.core victim).deque.take 8 ∧ s.eligible thief e = true ∧ s.contractFirst [thief] (s.job e.job) = false ∧
      (level = 1 ∧ clusterOf victim = clusterOf thief ∧ victim ≠ thief ∨
       level = 2 ∧ clusterOf victim ≠ clusterOf thief ∧ stackOf victim = stackOf thief ∨
       level = 3 ∧ (thief < 1024 → stackOf victim ≠ stackOf thief) ∧ (s.job e.job).loct ≠ 0 ∧
         (s.job e.job).loct ≤ (s.core victim).deque.length ∧ (e.w.getD 0 0#32).getLsbD 31 = true) ∧
      ((s.job e.job).sole = true → (s.job e.job).home = some (clusterOf thief) ∨ clusterOf victim = clusterOf thief)) ∧
  (∀ (s : State) (core slot level victim : Nat) (sl : List Nat) (e : Entry) (j : Job), (s.core core).freeSlots = slot :: sl →
    s.hasWork core = false → s.reserverFits (clusterOf core) = false → s.stealChoice core = some (level, victim, e) →
    (e.w.getD 0 0#32).getLsbD 30 = false → e.pois = false →
    NMap.get? s.jobs e.job = some j → j.steals.length = 3 → victim ≠ core →
    ∃ t w, exec (.steal core) s = .next t ∧ t.wave? core slot = some w ∧ w.uid = e.uid ∧ w.isTask = true ∧
      w.arms = [(0, { pc := (e.w.getD 1 0#32).toNat })] ∧ (∀ k, k < 32 → w.sreg k = e.w.getD k 0#32) ∧
      (t.team w.tid).job = e.job ∧ (∀ x, x ∈ (t.core victim).deque → x.uid ≠ e.uid) ∧
      (∀ k, k < 3 → (t.job e.job).steals.getD k 0 = j.steals.getD k 0 + (if k + 1 = level then 1 else 0)))

/-- Staging (R73, R83). The head of a cluster's staging queue takes space for its tile at or above STGB and becomes active; once
every page is at hand it lands the rows at their place in SCRATCH, its entry is ready with its tile, and the next one is the head.
The place that a tile takes is a choice of the model (assumption 14). -/
def Obligations.Staging : Prop :=
  ∀ (s : State) (cl aid : Nat) (q : StageReq) (qs : List StageReq) (e : Entry) (al : Alloc), (s.cluster cl).stageQ = q :: qs →
    (s.core q.core).deque.find? (fun e => e.uid == q.entry) = some e → s.jobAlloc q.job cl = some aid →
    NMap.get? s.allocs aid = some al → al.aid = aid →
    (∀ b n, q.active = false → (e.w.getD 0 0#32).toNat / 2 ^ 24 % 4 = 1 → al.staged = [] → b = (s.job q.job).stgb →
      n = (e.w.getD 6 0#32).toNat / 2 ^ 16 * ((e.w.getD 6 0#32).toNat % 2 ^ 16) → b + n ≤ al.bytes →
      ∃ t, exec (.stagingStart cl) s = .next t ∧
        (t.cluster cl).stageQ = { q with active := true, tiles :=
          [{ base := b, va := pair (e.w.getD 4 0#32) (e.w.getD 5 0#32), rows := (e.w.getD 6 0#32).toNat / 2 ^ 16,
             rb := (e.w.getD 6 0#32).toNat % 2 ^ 16, pitch := (e.w.getD 7 0#32).toNat, wb := (e.w.getD 0 0#32).getLsbD 26 }] } :: qs ∧
        (t.alloc aid).staged = [(e.uid, b, n)]) ∧
    (∀ x, q.active = true → q.tiles = [x] → (∀ va, va ∈ x.side.marks 32 → va < 2 ^ 57) → s.stageNeed q = none → al.waits = [] →
      ∃ t, exec (.stagingComplete cl) s = .next t ∧ (t.cluster cl).stageQ = qs ∧
        (∀ y, y ∈ (t.core q.core).deque → y.uid = q.entry → y.ready = true ∧ y.tiles = [x] ∧ y.scause = none) ∧
        (∀ i k, i < x.rows → k < x.rb → (t.alloc aid).cells.read (x.base + i * x.rb + k) =
          (s.engineRead q.entry q.core (s.job q.job).pasid (x.va + i * x.pitch + k)).1) ∧ s.sameMemory t)

/-- TEAM_PLACEMENT, ROOT_CLOSURE_PUSH, SWITCH_OUT and SWITCH_IN (R33, R35, R46, R75, R261, R272). The waves of a placed team stand on its
cores at ENTRY; the root closure is at the hot end of a deque; a unit that switches leaves its slots, and what its waves hold is
saved; a saved wave resumes as it was.
The slots that a unit takes are a choice of the model (assumption 14). -/
def Obligations.UnitsMove : Prop :=
  (∀ (s u : State) (cl jid : Nat) (cs : List Nat), s.nextJob = some jid → (s.job jid).task = false → cl < 128 →
    s.teamFit cl jid = some (u, cs) → NMap.get? s.jobs jid ≠ none → 1 ≤ (s.job jid).c → 1 ≤ (s.job jid).w →
    let j := s.job jid
    ∃ t tid, exec (.teamPlacement cl) s = .next t ∧ cs.length = j.c ∧ (∀ c, c ∈ cs → clusterOf c = cl) ∧
      (t.team tid).job = jid ∧ (t.team tid).num = j.started ∧ (t.team tid).cores = cs ∧ (t.team tid).size = j.w ∧
      (t.job jid).started = j.started + 1 ∧ NMap.get? t.rr (s.rank j) = some ((j.vi + 1) % 512) ∧
      (∀ k, k < j.w → ∃ slot w, t.wave? (cs.getD (k / ((j.w + j.c - 1) / j.c)) 0) slot = some w ∧ w.tid = tid ∧ w.idx = k ∧
        w.arms = [(0, { pc := j.entry })] ∧ (∀ r, r < 32 → w.sreg r = j.args.getD r 0#32) ∧ w.vregN = 8 * j.vrb ∧ w.sregN = 64 * j.srb)) ∧
  (∀ (s u : State) (core jid : Nat), s.nextJob = some jid → (s.job jid).task = true → s.rootFit core jid = some u →
    NMap.get? s.jobs jid ≠ none → (s.job jid).jid = jid → (s.job jid).drained = false →
    let j := s.job jid
    ∃ (t : State) (e : Entry), exec (.rootClosurePush core) s = .next t ∧ (t.core core).deque = (s.core core).deque ++ [e] ∧ e.job = jid ∧
      e.pasid = j.pasid ∧ e.w.getD 0 0#32 = (if j.migrate then j.args.getD 0 0#32 ||| (if j.args = [] then 0#32 else 0x80000000#32) else j.args.getD 0 0#32) ∧
      (∀ k, 0 < k → e.w.getD k 0#32 = j.args.getD k 0#32) ∧ e.ready = !(e.w.getD 0 0#32).getLsbD 30 ∧
      (t.job jid).rootPushed = true ∧ NMap.get? t.rr (s.rank j) = some ((j.vi + 1) % 512)) ∧
  (∀ (s : State) (core slot : Nat) (w : Wave) (m : Team), s.wave? core slot = some w → NMap.get? s.teams w.tid = some m → m.tid = w.tid →
    m.switching = true → (∀ e, e ∈ s.teamWaves w.tid → s.waveMaySwitch e.1 e.2.1 e.2.2 = true ∧ e.2.2.inflight = []) →
    (∀ c k x, s.wave? c k = some x → x.tid = w.tid → c ∈ m.cores) → (∀ c, c ∈ m.cores → (s.core c).sideLog = []) →
    ∃ t uid u, exec (.switchOut core slot) s = .next t ∧ NMap.get? t.units uid = some u ∧ u.tid = w.tid ∧ u.job = m.job ∧ u.cores = m.cores ∧
      (∀ c k x, t.wave? c k = some x → x.tid ≠ w.tid) ∧
      (∀ c k x, s.wave? c k = some x → x.tid = w.tid → ∃ y, y ∈ u.waves ∧ y.core = m.cores.idxOf c ∧ y.slot = k ∧ y.wave.uid = x.uid ∧
        y.wave.s = x.s ∧ y.wave.v = x.v ∧ y.wave.p = x.p ∧ y.wave.controls = x.controls) ∧
      (∀ c k x, s.wave? c k = some x → x.tid ≠ w.tid →
        ∃ y, t.wave? c k = some y ∧ y.s = x.s ∧ y.v = x.v ∧ y.p = x.p ∧ y.controls = x.controls)) ∧
  (∀ (s : State) (c old slot : Nat) (sl : List Nat) (u : Saved) (x : SavedWave), NMap.get? s.units u.uid = some u → u.waves = [x] →
    u.cores = [old] → x.core = 0 → s.unitFits u [c] = true → (s.core c).freeSlots = slot :: sl → u.logs = [] → u.waits = [] →
    x.wave.inflight = [] → x.wave.ended = false → (∀ e, e ∈ s.waves → e.2.2.tid ≠ u.tid) →
    ∃ t w, exec (.switchIn u.uid [c]) s = .next t ∧ NMap.get? t.units u.uid = none ∧ t.wave? c slot = some w ∧ w.uid = x.wave.uid ∧
      w.s = x.wave.s ∧ w.v = x.wave.v ∧ w.p = x.wave.p ∧ w.stack = x.wave.stack ∧ w.groups = x.wave.groups ∧ w.controls = x.wave.controls)

/-- Contracts and time (R25, R267 to R270). Cycles of a stack raise its count and use the budget of its contracts, one unit for each core
where their work stands; a period starts with the whole budget; a contract that ends does so at the end of its period; work of a
contract whose budget is spent has its class of priority. CREATE CONTRACT enters a contract whose first period begins at the
multiple of 1,024 at or after the stack's count, and reports its id; DESTROY CONTRACT marks it. -/
def Obligations.ContractsAndTime : Prop :=
  (∀ (s : State) (k n : Nat), ((s.pass k n).stack k).ck = ((s.stack k).ck + n) % 2 ^ 64 ∧
    (∀ m, m ≠ k → (s.pass k n).stack m = s.stack m) ∧ (s.pass k n).mem = s.mem ∧
    (∀ cid c, NMap.get? s.contracts cid = some c → NMap.get? (s.pass k n).contracts cid =
      some (if c.stack = k then { c with left := c.left - n * s.contractCores c } else c))) ∧
  (∀ (s : State) (cid : Nat) (c : Contract), NMap.get? s.contracts cid = some c →
    (c.c0 + c.n * c.period ≤ (s.stack c.stack).ck →
      (c.ending = false → ∃ t, exec (.periodStart cid) s = .next t ∧
        NMap.get? t.contracts cid = some { c with left := c.budget, n := c.n + 1 } ∧ t.mem = s.mem) ∧
      (c.ending = true → ∃ t, exec (.periodStart cid) s = .next t ∧ NMap.get? t.contracts cid = none)) ∧
    (c.left = 0 → 0 < c.n → exec (.budgetExhausted cid) s = .next s.requestSwitches ∧ (∀ j, j.cid = cid → s.rank j = j.prio)) ∧
    (0 < c.left → ∀ j, j.cid = cid → cid ≠ 0 → s.rank j = 4)) ∧
  (∀ (s : State) (vi : Nat) (e : Submission) (x : Target) (ps : List (Target × Nat)) (bs : List Byte), Claims.Command s vi 2 e x →
    s.span e.pasid e.ptr 64 false = .ok ps → s.readParts ps = (bs, false) →
    let c := descContract vi bs
    (c.period = fieldOf bs 0 8 ∧ c.budget = fieldOf bs 8 8 ∧ c.stack = fieldOf bs 16 1 ∧ c.sbanks = fieldOf bs 17 1 ∧
      c.fbanks = fieldOf bs 18 1 ∧ c.tol = fieldOf bs 20 4 ∧ c.cores.toNat = fieldOf bs 24 16 % 2 ^ 128) ∧
    (s.contractErr vi bs c = 0 → ∃ u cid c0, exec (.createContract vi) s = .next (Claims.answered u e x { tag := e.tag, out := 1, cid := cid, at48 := c0 }) ∧
      c0 % 1024 = 0 ∧ (s.stack c.stack).ck ≤ c0 ∧ c0 < (s.stack c.stack).ck + 1024 ∧ 1 ≤ cid ∧ NMap.get? s.contracts cid = none ∧
      NMap.get? u.contracts cid = some { c with cid := cid, c0 := c0 } ∧ u.cores = s.cores) ∧
    (s.contractErr vi bs c ≠ 0 → exec (.createContract vi) s =
      .next (Claims.answered ((s.touchEntry vi).touchParts e.pasid ps) e x (Claims.refused e (s.contractErr vi bs c)))) ∧
    (c.budget ≤ 2700 + c.tol → s.loadFits c = true → s.contractErr vi bs c = 9)) ∧
  (∀ (s : State) (vi : Nat) (e : Submission) (x : Target), Claims.Command s vi 3 e x →
    (∀ c, NMap.get? s.contracts (fieldOf e.bytes 24 4) = some c → c.cid = fieldOf e.bytes 24 4 → c.vi = vi →
      exec (.destroyContract vi) s =
        .next (Claims.answered { s.touchEntry vi with contracts := NMap.put s.contracts c.cid { c with ending := true } } e x (Claims.plain e))) ∧
    (NMap.get? s.contracts (fieldOf e.bytes 24 4) = none →
      exec (.destroyContract vi) s = .next (Claims.answered (s.touchEntry vi) e x (Claims.refused e 18))))

/-- The sweep, tests and alarms (R292, R294, R295, R301 to R308, R316, R317, R472). A visit drains the first core of the rotation that is in service; its test runs
once no wave stands there; a result clears the run log, takes the failing classes out of the mask, and names them against the
jobs of the log; the result of a CAP RETEST gives back the classes that it names and that pass, that of a REGRAFT binds the new entry with the
classes that pass, or is refused where the entry no longer obeys R292, and each writes its command's record with the failing classes; a visit that outlives DRAINMAX counts as skipped; a gate closes once no wave stands on the core, and the records of its commands are written; the current
alarms narrow a stack and end that. -/
def Obligations.SweepAndTests : Prop :=
  (∀ (s : State) (k c : Nat), s.pf.rcv = false → k < 8 → (s.stack k).sweepOn = true → (s.stack k).visit = none →
    s.nextVisit k = some c → s.contractBusy c = false →
    (stackOf c = k ∧ s.present c = true ∧ s.isOut c = false) ∧
    ∃ t, exec (.sweepVisit k) s = .next t ∧ (t.core c).draining = true ∧
      (t.stack k).visit = some { core := c, start := (s.stack k).ck, began := false } ∧ t.mem = s.mem) ∧
  (∀ (s : State) (core : Nat), s.pf.rcv = false → (s.core core).testing = false → s.testWanted core = true → s.contractBusy core = false →
    (s.stack (stackOf core)).sweepOn = true →
    ((s.core core).draining = false → exec (.sweepTest core) s = .next (s.modCore core (fun k => { k with draining := true }))) ∧
    ((s.core core).draining = true → (s.core core).slots = [] → s.sitesDrained core = true → ∃ t, exec (.sweepTest core) s = .next t ∧
      (t.core core).testing = true ∧ (t.core core).draining = true ∧ (t.core core).mask = (s.core core).mask ∧
      (∀ q qs, (s.core core).testReqs = q :: qs → (t.core core).testReqs = { q with began := true } :: qs) ∧
      ((s.core core).testReqs = [] → t.core core = { s.core core with testing := true }))) ∧
  (∀ (s : State) (core : Nat) (f : BitVec 64), (s.core core).testing = true → (s.core core).testReqs = [] → s.isGanged core = false →
    NMap.sorted s.jobs = true →
    ∃ t, exec (.testResult core f) s = .next t ∧
      (let k := t.core core
       k.testing = false ∧ k.draining = false ∧ k.skips = 0 ∧ k.runLog = [] ∧ k.l1 = [] ∧
       k.mask = (if f.getLsbD 0 ∨ f.getLsbD 1 ∨ f.getLsbD 7 then 0#64 else (s.core core).mask &&& ~~~(f &&& 0x07FFFFFF#64))) ∧
      (∀ c, c ≠ core → (t.core c).mask = (s.core c).mask ∧ (t.core c).runLog = (s.core c).runLog) ∧
      (∀ jid cls, (jid, cls) ∈ (s.core core).runLog → cls < 27 → f.getLsbD cls = true → NMap.get? s.jobs jid ≠ none →
        (t.job jid).conf = 3 ∧ (t.job jid).classes.getLsbD cls = true) ∧
      (f &&& 0x07FFFFFF#64 = 0#64 → ∀ jid cls, (jid, cls) ∈ (s.core core).runLog → (core, cls) ∉ (t.job jid).pairs)) ∧
  (∀ (s : State) (core a : Nat) (f : BitVec 64) (q : TestReq), (s.core core).testing = true → (s.core core).testReqs = [q] → q.began = true →
    s.ioPlace q.record.pasid q.record.rva true = .at (.dpa a) → q.record.fields.steals.length = 3 → (∀ e, e ∈ s.jobs → e.2.ended = false) →
    let cl := clusterOf core
    let back (t : State) : Prop := (t.core core).testing = false ∧ (t.core core).draining = false ∧ (t.core core).testReqs = [] ∧
      (t.core core).skips = 0 ∧ (t.core core).l1 = []
    (q.regraft = none → s.isGanged core = false →
      let g := f &&& 0x07FFFFFF#64
      ∃ t, exec (.testResult core f) s = .next t ∧ back t ∧ Memory.readBytes t.mem a 64 = ({ q.record.fields with classes := g.toNat } : RecordFields).bytes ∧
        (q.record.vi, 1) ∈ t.msix ∧
        (t.core core).mask = (if g.getLsbD 0 ∨ g.getLsbD 1 ∨ g.getLsbD 7 then 0#64
          else ((s.core core).mask ||| (q.classes &&& 0x07FFFFFF#64)) &&& ~~~g)) ∧
    (∀ n w, q.regraft = some (n, w) → n < 12 → core = 8 * cl + (if n < 8 then n else 2 * (n - 8)) →
      let all := if n < 8 then 0x07FFFFFF#64 else 0x1000007FFFFFF#64
      let g := f &&& all
      (s.regraftFits cl n w = true →
        ∃ t, exec (.testResult core f) s = .next t ∧ back t ∧
          Memory.readBytes t.mem a 64 = ({ q.record.fields with classes := g.toNat } : RecordFields).bytes ∧ (q.record.vi, 1) ∈ t.msix ∧
          t.graftWord cl n = (if g.getLsbD 0 ∨ g.getLsbD 1 ∨ g.getLsbD 7 then w ||| 8#32 else w) ∧
          (if n < 8 then (t.core core).mask else (t.core core).gmask) =
            (if g.getLsbD 0 ∨ g.getLsbD 1 ∨ g.getLsbD 7 then 0#64 else all &&& ~~~g)) ∧
      (s.regraftFits cl n w = false →
        ∃ t, exec (.testResult core f) s = .next t ∧ back t ∧
          Memory.readBytes t.mem a 64 = ({ q.record.fields with out := 2, err := 15 } : RecordFields).bytes ∧ (q.record.vi, 1) ∈ t.msix ∧
          t.graftWord cl n = s.graftWord cl n ∧ (t.core core).mask = (s.core core).mask ∧ (t.core core).gmask = (s.core core).gmask))) ∧
  (∀ (s : State) (k : Nat) (v : Visit), (s.stack k).visit = some v → v.began = false → v.start + (s.stack k).drainMax ≤ (s.stack k).ck →
    (s.core v.core).slots ≠ [] →
    ∃ t, exec (.drainmaxExpiry k) s = .next t ∧ (t.stack k).visit = none ∧ (t.stack k).next = (v.core + 1) % 128 ∧
      (t.core v.core).skips = (s.core v.core).skips + 1 ∧
      ((s.core v.core).testReqs = [] → ((t.core v.core).draining = true ↔ 2 ≤ (s.core v.core).skips)) ∧
      ((s.core v.core).skips = 2 → t.pf.mevt.getLsbD 5 = true ∧ t.pf.mevtstk = BitVec.ofNat 32 k)) ∧
  (∀ (s : State) (core : Nat), (s.core core).gate = .draining → (s.core core).slots = [] →
    ∃ t, exec (.coreGated core) s = .next t ∧ t.core core = { s.core core with gate := .gated, gateRecs := [] } ∧
      ((∀ w, w ∈ (s.core core).gateRecs → ∃ x, s.ioPlace w.pasid w.rva true = .at x) →
        t.msix = s.msix ++ (s.core core).gateRecs.map (fun w => (w.vi, 1))) ∧
      (∀ w a, (s.core core).gateRecs = [w] → s.ioPlace w.pasid w.rva true = .at (.dpa a) → w.fields.steals.length = 3 →
        Memory.readBytes t.mem a 64 = w.fields.bytes)) ∧
  (∀ (s : State) (k : Nat), k < 8 →
    ((s.stack k).narrow = false → ∃ t, exec (.currentAlarmHigh k) s = .next t ∧ t.stack k = { s.stack k with narrow := true } ∧
      t.pf.mevt.getLsbD 2 = true ∧ t.pf.mevtstk = BitVec.ofNat 32 k ∧ t.cores = s.cores) ∧
    ((s.stack k).narrow = true →
      exec (.currentAlarmLow k) s = .next (s.modStack k (fun k => { k with narrow := false }))))

/-- LAUNCH, DRAIN JOB, and what is refused (R254, R256, R257, R259, R263, R471). A launch record that passes R257 becomes a job that waits; one
that fails is refused with its reason. DRAIN JOB drains the live job of its JOB value. A management command of a VF is refused
with ERR 12, a command of an unbound interface with 13, an undefined one with 16, an unreadable record with 17; an entry that cannot
be read sets VIST[0].
CONF of the record of an undefined command is a choice of the model (assumption 11). -/
def Obligations.Commands : Prop :=
  (∀ (s : State) (vi : Nat) (e : Submission) (x : Target), Claims.Command s vi 1 e x →
    (s.span e.pasid e.ptr 384 false = .bad →
      ∃ u, exec (.launch vi) s = .next (Claims.answered u e x (Claims.refused e 17)) ∧ u.jobs = s.jobs ∧ u.mem = s.mem) ∧
    (∀ ps bs, s.span e.pasid e.ptr 384 false = .ok ps → s.readParts ps = (bs, false) →
      let err := s.launchErr bs (launchJob e bs)
      (err ≠ 0 → exec (.launch vi) s = .next (Claims.answered ((s.touchEntry vi).touchParts e.pasid ps) e x (Claims.refused e err))) ∧
      (err = 0 → ∃ t jid j, exec (.launch vi) s = .next t ∧ NMap.get? t.jobs jid = some j ∧ j.vi = vi ∧ j.pasid = e.pasid ∧
        j.task = decide (fieldOf bs 2 1 = 1) ∧ j.npkt = fieldOf bs 4 4 ∧ j.cbase = fieldOf bs 8 8 ∧ j.entry = fieldOf bs 16 4 ∧
        j.tent = fieldOf bs 20 4 ∧ j.fent = fieldOf bs 24 4 ∧ j.vrb = fieldOf bs 36 1 ∧ j.srb = fieldOf bs 37 1 ∧ j.prio = fieldOf bs 39 1 ∧
        j.scr = fieldOf bs 40 4 ∧ j.oum.toNat = fieldOf bs 48 8 % 2 ^ 64 ∧ j.tag.toNat = fieldOf e.bytes 4 4 % 2 ^ 32 ∧
        j.rva = fieldOf e.bytes 16 8 ∧ j.started = 0 ∧ j.drained = false ∧ j.ended = false ∧ t.mem = s.mem ∧ t.msix = s.msix ∧
        (∀ k, k ≠ s.handles → NMap.get? t.jobs k = NMap.get? s.jobs k)) ∧
      (fieldOf bs 0 2 ≠ 1 → err = 1) ∧ (err = 0 → fieldOf bs 8 8 % 384 = 0 ∧ fieldOf bs 16 4 < fieldOf bs 4 4))) ∧
  (∀ (s : State) (vi : Nat) (e : Submission) (x : Target), Claims.Command s vi 4 e x →
    (∀ jid j, s.jobs.find? (fun y => y.2.vi == vi && !y.2.ended && y.2.num == fieldOf e.bytes 24 4) = some (jid, j) → j.drained = false →
      NMap.get? s.jobs jid = some j →
      ∃ u, exec (.drainJob vi) s = .next (Claims.answered u e x { tag := e.tag, out := 1, job := fieldOf e.bytes 24 4 }) ∧
        (u.job jid).drained = true ∧ (∀ c y, y ∈ (u.core c).deque → y.job ≠ jid) ∧ ∀ c k, u.wave? c k = s.wave? c k) ∧
    (s.jobs.find? (fun y => y.2.vi == vi && !y.2.ended && y.2.num == fieldOf e.bytes 24 4) = none →
      exec (.drainJob vi) s = .next (Claims.answered (s.touchEntry vi) e x (Claims.refused e 18)))) ∧
  (∀ (s : State) (i : Instr) (vi n : Nat) (e : Submission) (x : Target), Claims.commandOf i = some (vi, n) → s.nextEntry vi = .entry e →
    e.cmd = n → s.ioPlace e.pasid e.rva true = .at x →
    (16 ≤ n → vi ≠ 0 → exec i s = .next (Claims.answered (s.touchEntry vi) e x (Claims.refused e 12))) ∧
    ((n < 16 ∨ vi = 0) → 2 ^ 20 ≤ e.pasid → exec i s = .next (Claims.answered (s.touchEntry vi) e x (Claims.refused e 13)))) ∧
  (∀ (s : State) (vi : Nat) (e : Submission) (x : Target), s.nextEntry vi = .entry e → s.ioPlace e.pasid e.rva true = .at x →
    (e.cmd = 0 ∨ 5 ≤ e.cmd ∧ e.cmd ≤ 15 ∨ 28 ≤ e.cmd) → exec (.cmdUndefined vi) s = .next (Claims.answered (s.touchEntry vi) e x (Claims.refused e 16))) ∧
  (∀ (s : State) (i : Instr) (vi n : Nat), Claims.commandOf i = some (vi, n) → s.nextEntry vi = .broken →
    ∃ t, exec i s = .next t ∧ t.iface vi = { s.iface vi with err := true } ∧ t.mem = s.mem ∧ t.jobs = s.jobs)

/-- The management commands (R162, R164, R217, R291 to R296, R304, R311, R314, R316, R317, R472): each reports in its record, at once or, for REGRAFT, CAP
RETEST, MIGRATE and a gate that waits for waves, when it is done; ERR 15 where an operand is out of its range. A page of a migration
holds its source's bytes, or undefined ones where the ranges overlap there.
The signature of a quote is a free value of the model (assumption 20). -/
def Obligations.ManagementCommands : Prop :=
  ∀ (s : State) (e : Submission) (x : Target),
    let o (off n : Nat) : Nat := fieldOf e.bytes (24 + off) n
    let r := s.touchEntry 0
    (Claims.Command s 0 16 e x → ∀ ps, Claims.Buffer s e s.graftResult.length ps →
      exec (.graftRead 0) s = .next (Claims.answered (r.writeParts (s.viPasid 0) ps s.graftResult) e x (Claims.plain e))) ∧
    (∀ cl n, cl < 128 → n < 12 → fieldOf s.graftResult (48 * cl + 4 * n) 4 = (s.graftWord cl n).toNat) ∧
    (Claims.Command s 0 17 e x →
      let cl := 16 * o 0 1 + o 1 1
      let w := BitVec.ofNat 8 (o 3 1) ++ BitVec.ofNat 8 (o 4 1) ++ BitVec.ofNat 8 (o 5 1) ++ 0x10#8
      (o 0 1 < 8 → o 1 1 < 16 → o 2 1 < 12 → s.regraftFits cl (o 2 1) w = true →
        ∃ t q, exec (.regraft 0) s = .next t ∧ (t.core (8 * cl + (if o 2 1 < 8 then o 2 1 else 2 * (o 2 1 - 8)))).draining = true ∧
          (t.core (8 * cl + (if o 2 1 < 8 then o 2 1 else 2 * (o 2 1 - 8)))).testReqs =
            (s.core (8 * cl + (if o 2 1 < 8 then o 2 1 else 2 * (o 2 1 - 8)))).testReqs ++ [q] ∧ q.regraft = some (o 2 1, w) ∧
          t.msix = s.msix ∧ t.mem = s.mem) ∧
      (8 ≤ o 0 1 ∨ 16 ≤ o 1 1 ∨ 12 ≤ o 2 1 ∨ s.regraftFits cl (o 2 1) w = false →
        exec (.regraft 0) s = .next (Claims.answered r e x (Claims.refused e 15)))) ∧
    (Claims.Command s 0 18 e x → ∀ ps, Claims.Buffer s e 8192 ps →
      exec (.capRead 0) s = .next (Claims.answered (r.writeParts (s.viPasid 0) ps
        ((List.range 1024).flatMap (fun c => natBytes 8 (s.capMask c).toNat))) e x (Claims.plain e))) ∧
    (Claims.Command s 0 19 e x → o 0 4 < 1024 → s.isGanged (o 0 4) = false → BitVec.ofNat 64 (o 4 8) &&& ~~~0x1000007FFFFFF#64 = 0#64 →
      (∀ p, p ∈ (s.core (o 0 4)).runLog → (BitVec.ofNat 64 (o 4 8)).getLsbD p.2 = false) →
      ∃ u, exec (.capFence 0) s = .next (Claims.answered u e x (Claims.plain e)) ∧
        (u.core (o 0 4)).mask = (if (BitVec.ofNat 64 (o 4 8)).getLsbD 0 ∨ (BitVec.ofNat 64 (o 4 8)).getLsbD 1 ∨ (BitVec.ofNat 64 (o 4 8)).getLsbD 7
          then 0#64 else (s.core (o 0 4)).mask &&& ~~~BitVec.ofNat 64 (o 4 8)) ∧ u.mem = s.mem) ∧
    (1024 ≤ o 0 4 ∨ BitVec.ofNat 64 (o 4 8) &&& ~~~0x1000007FFFFFF#64 ≠ 0#64 →
      (Claims.Command s 0 19 e x → exec (.capFence 0) s = .next (Claims.answered r e x (Claims.refused e 15))) ∧
      (Claims.Command s 0 20 e x → exec (.capRetest 0) s = .next (Claims.answered r e x (Claims.refused e 15)))) ∧
    (Claims.Command s 0 20 e x → o 0 4 < 1024 → BitVec.ofNat 64 (o 4 8) &&& ~~~0x1000007FFFFFF#64 = 0#64 →
      ∃ t q, exec (.capRetest 0) s = .next t ∧ (t.core (o 0 4)).draining = true ∧
        (t.core (o 0 4)).testReqs = (s.core (o 0 4)).testReqs ++ [q] ∧ q.regraft = none ∧ q.classes = BitVec.ofNat 64 (o 4 8) ∧
        q.record.rva = e.rva ∧ t.msix = s.msix) ∧
    (Claims.Command s 0 21 e x →
      (o 0 1 < 8 → o 1 1 < 2 → 65536 ≤ o 4 4 → ∃ u, exec (.sweepSet 0) s = .next (Claims.answered u e x (Claims.plain e)) ∧
        (u.stack (o 0 1)).sweepOn = decide (o 1 1 = 1) ∧ (u.stack (o 0 1)).drainMax = o 4 4 ∧ ∀ k, k ≠ o 0 1 → u.stack k = s.stack k) ∧
      (8 ≤ o 0 1 ∨ 2 ≤ o 1 1 ∨ o 4 4 < 65536 → exec (.sweepSet 0) s = .next (Claims.answered r e x (Claims.refused e 15)))) ∧
    (Claims.Command s 0 22 e x → o 0 4 < 2 ^ 20 → o 4 8 % 4096 = 0 → o 12 8 % 4096 = 0 → o 20 8 % 4096 = 0 → o 28 8 % 4096 = 0 →
      o 28 8 ≤ o 20 8 → ∃ t m, exec (.migrate 0) s = .next t ∧ t.migrations = s.migrations ++ [m] ∧ m.pasid = o 0 4 ∧ m.src = o 4 8 ∧
        m.dst = o 12 8 ∧ m.len = o 20 8 ∧ m.off = o 28 8 ∧ m.lo = m.off ∧ m.record.rva = e.rva ∧ t.msix = s.msix ∧ t.mem = s.mem) ∧
    (Claims.Command s 0 22 e x → 2 ^ 20 ≤ o 0 4 ∨ o 4 8 % 4096 ≠ 0 ∨ o 12 8 % 4096 ≠ 0 ∨ o 20 8 % 4096 ≠ 0 ∨ o 28 8 % 4096 ≠ 0 ∨
      o 20 8 < o 28 8 → exec (.migrate 0) s = .next (Claims.answered r e x (Claims.refused e 15))) ∧
    (∀ m a b h, s.migrations.find? (fun y => y.id == m.id) = some m → m.failed = false → m.len = m.off + 4096 → m.kept = [] →
      b % 128 = 0 → s.migratePlace m.pasid (m.src + m.off) false = .at (.dpa a) →
      s.migratePlace m.pasid (m.dst + m.off) true = .at (.dpa b) → s.migratePlace m.pasid (m.dst + m.off) false ≠ .miss →
      (∀ va, va = m.src + m.off ∨ va = m.dst + m.off → s.peerNeeds m.id ioQuiet m.pasid (pageSectors va) = []) → s.peerOwes m.id = false →
      s.ioPlace m.record.pasid m.record.rva true = .at (.host h) →
      ∃ t, exec (.migrateEnd m.id) s = .next t ∧ (∀ k, k < 4096 → t.mem.read (b + k) =
          if m.src + m.lo ≤ m.dst + m.off ∧ m.dst + m.off < m.src + m.len then (Config.freeWord m.id (m.off + k)).extractLsb' 0 8
          else s.mem.read (a + k)) ∧
        (∀ y, y < b ∨ b + 4096 ≤ y → t.mem.read y = s.mem.read y) ∧ (∀ y, y ∈ t.migrations → y.id ≠ m.id) ∧
        t.msix = s.msix ++ [(m.record.vi, 1)]) ∧
    (Claims.Command s 0 23 e x → o 0 1 < 128 → o 1 1 < 2 → ∀ h, x = .host h →
      ∃ u, exec (.groupSet 0) s = .next (Claims.answered u e x (Claims.plain e)) ∧
        (∀ k, u.groups.getLsbD k = if k = o 0 1 then decide (o 1 1 = 1) else s.groups.getLsbD k) ∧
        (∀ a, u.mem.read a = if o 0 1 * 2 ^ 33 ≤ a ∧ a < (o 0 1 + 1) * 2 ^ 33 then 0#8 else s.mem.read a)) ∧
    (Claims.Command s 0 23 e x → 128 ≤ o 0 1 ∨ 2 ≤ o 1 1 →
      exec (.groupSet 0) s = .next (Claims.answered r e x (Claims.refused e 15))) ∧
    (Claims.Command s 0 24 e x →
      (o 0 1 = 0 → o 1 2 < 8 → o 3 1 < 3 → exec (.powerSetClockStep 0) s =
        .next (Claims.answered (r.modStack (o 1 2) (fun k => { k with step := o 3 1 })) e x (Claims.plain e))) ∧
      (o 0 1 = 0 ∧ (8 ≤ o 1 2 ∨ 3 ≤ o 3 1) ∨ 3 ≤ o 0 1 →
        exec (.powerSetClockStep 0) s = .next (Claims.answered r e x (Claims.refused e 15))) ∧
      (o 0 1 = 1 → 1024 ≤ o 1 2 ∨ 2 ≤ o 3 1 → exec (.powerSetGate 0) s = .next (Claims.answered r e x (Claims.refused e 15))) ∧
      (o 0 1 = 2 → 16 ≤ o 1 2 ∨ 2 ≤ o 3 1 → exec (.powerSetHbmRefresh 0) s = .next (Claims.answered r e x (Claims.refused e 15))) ∧
      (o 0 1 = 1 → o 1 2 < 1024 → o 3 1 = 1 → (s.core (o 1 2)).gate ≠ .gated →
        ∃ t w, exec (.powerSetGate 0) s = .next t ∧ (t.core (o 1 2)).gate = .draining ∧
          (t.core (o 1 2)).gateRecs = (s.core (o 1 2)).gateRecs ++ [w] ∧ w.fields = Claims.plain e ∧ w.rva = e.rva ∧ t.msix = s.msix) ∧
      (o 0 1 = 1 → o 1 2 < 1024 → o 3 1 = 0 → (s.core (o 1 2)).gateRecs = [] →
        exec (.powerSetGate 0) s =
          .next (Claims.answered (r.modCore (o 1 2) (fun k => { k with gate := .open, gateRecs := [] })) e x (Claims.plain e))) ∧
      (o 0 1 = 2 → o 1 2 < 16 → o 3 1 < 2 → ∃ u, exec (.powerSetHbmRefresh 0) s = .next (Claims.answered u e x (Claims.plain e)) ∧
        (∀ k, u.refresh.getLsbD k = if k = o 1 2 then decide (o 3 1 = 1) else s.refresh.getLsbD k) ∧ u.mem = s.mem)) ∧
    (Claims.Command s 0 25 e x →
      (o 0 1 < 8 → o 8 4 < o 4 4 → o 4 4 ≤ 40000 → exec (.alarmSet 0) s =
        .next (Claims.answered (r.modStack (o 0 1) (fun k => { k with hi := o 4 4, lo := o 8 4 })) e x (Claims.plain e))) ∧
      (8 ≤ o 0 1 ∨ o 4 4 ≤ o 8 4 ∨ 40000 < o 4 4 → exec (.alarmSet 0) s = .next (Claims.answered r e x (Claims.refused e 15)))) ∧
    (Claims.Command s 0 26 e x →
      (s.viBusy (o 0 2) = true → exec (.viSet 0) s = .next (Claims.answered r e x (Claims.refused e 14))) ∧
      (s.viBusy (o 0 2) = false → o 0 2 = 0 ∨ s.numVfs < o 0 2 ∨ 4 ≤ o 2 2 ∨ 2 ^ 20 ≤ o 4 4 →
        exec (.viSet 0) s = .next (Claims.answered r e x (Claims.refused e 15))) ∧
      (s.viBusy (o 0 2) = false → o 0 2 ≠ 0 → o 0 2 ≤ s.numVfs → o 2 2 < 4 → o 4 4 < 2 ^ 20 → exec (.viSet 0) s =
        .next (Claims.answered (r.modIface (o 0 2) (fun v =>
          { v with vipas := BitVec.ofNat 32 (2 ^ 31 + o 4 4), sole := decide (o 2 2 % 2 = 1), contract := decide (2 ≤ o 2 2) }))
          e x (Claims.plain e)))) ∧
    (Claims.Command s 0 27 e x → ∀ ps,
      let quote := (e.bytes.drop 24).take 32 ++ s.secure.meas.flatMap (fun m => m.take 32) ++ natBytes 8 Config.serialNumber.toNat
      let bs := quote ++ (List.range 114).map (Config.quoteSignature (Config.identityKey (digests s.secure.images)) quote)
      Claims.Buffer s e bs.length ps → exec (.attest 0) s = .next (Claims.answered (r.writeParts (s.viPasid 0) ps bs) e x (Claims.plain e)))

/-- What the host writes (R253, R309, R310, R318): the doorbell, the queue bases and the other registers of a page, the PF's PASID, MEVTEN and MEVT,
NumVFs, and the resets, while the function answers.
The places of the PF page and what a refused reset sets are assumption 26, and what a module reset keeps assumption 31. -/
def Obligations.HostRegisters : Prop :=
  (∀ (s : State) (vi : Nat) (v : Word), s.pf.rcv = false → vi ≤ s.numVfs →
    let k := s.iface vi
    (k.sqsz.toNat ≤ v.toNat → exec (.sqdbWrite vi v) s = .next (s.modIface vi (fun k => { k with err := true }))) ∧
    (v.toNat < k.sqsz.toNat → exec (.sqdbWrite vi v) s = .next (s.modIface vi (fun k => { k with sqdb := v }))) ∧
    (v.toNat % 4096 = 0 → k.err = true ∨ k.sqhd = k.sqdb →
      exec (.sqblWrite vi v) s = .next (s.modIface vi (fun k => { k with sqbl := v, err := false, sqhd := 0#32, sqdb := 0#32 }))) ∧
    (v.toNat % 4096 = 0 → exec (.eqblWrite vi v) s = .next (s.modIface vi (fun k => { k with eqbl := v, eqtl := 0#32, eqhd := 0#32 }))) ∧
    (vi = 0 → s.viBusy 0 = false →
      exec (.vipasWrite vi v) s = .next (s.modIface 0 (fun k => { k with vipas := BitVec.ofNat 32 (2 ^ 31 + v.toNat % 2 ^ 20) }))) ∧
    (k.err = true ∨ k.sqhd = k.sqdb → exec (.registerWrite vi 4 v) s = .next (s.modIface vi (fun k => { k with sqbh := v })) ∧
      (∀ n, 4 ≤ n → n ≤ 16 → v = BitVec.ofNat 32 (2 ^ n) →
        exec (.registerWrite vi 8 v) s = .next (s.modIface vi (fun k => { k with sqsz := v })))) ∧
    exec (.registerWrite vi 0x1C v) s = .next (s.modIface vi (fun k => { k with eqbh := v })) ∧
    (∀ n, 4 ≤ n → n ≤ 16 → v = BitVec.ofNat 32 (2 ^ n) →
      exec (.registerWrite vi 0x20 v) s = .next (s.modIface vi (fun k => { k with eqsz := v }))) ∧
    exec (.registerWrite vi 0x28 v) s = .next (s.modIface vi (fun k => { k with eqhd := v })) ∧
    (vi = 0 → exec (.registerWrite vi 0x1024 v) s = .next { s with pf := { s.pf with mevten := v &&& 0x3F#32 } }) ∧
    exec (.mevtClear v) s = .next { s with pf := { s.pf with mevt := s.pf.mevt &&& ~~~v } }) ∧
  (∀ (s : State) (n : Nat), (n ≤ 511 → s.pf.rcv = false → exec (.numvfsWrite n) s = .next { s with numVfs := n }) ∧
    (511 < n ∨ s.pf.rcv = true → exec (.numvfsWrite n) s = .next s)) ∧
  (∀ (s : State) (v : Word), s.pf.rcv = false → v.toNat / 2 ^ 24 = 0xA5 →
    let k := v.toNat / 2 ^ 16 % 2 ^ 8
    (v.toNat % 16 = 1 → ∃ t, exec (.moduleReset v) s = .next t ∧ (∀ c, (t.core c).slots = [] ∧ (t.core c).deque = [] ∧ (t.core c).l1 = [] ∧
        (t.core c).runLog = [] ∧ (t.core c).draining = false) ∧ t.jobs = [] ∧ t.teams = [] ∧ t.allocs = [] ∧ t.units = [] ∧
      t.contracts = [] ∧ t.mem = [] ∧ t.poison = [] ∧ t.groups = 0#128 ∧ t.vis = [] ∧ t.numVfs = 0 ∧ t.board.seq = 0 ∧
      t.hostMem = s.hostMem ∧ t.i3c = s.i3c ∧ t.secure.store = s.secure.store ∧
      ∀ j, j < 8 → (t.stack j).ck = 0 ∧ ∀ k, ((s.stack j).condF.getLsbD k = true → (t.stack j).condF.getLsbD k = true) ∧
        ((s.stack j).condS.getLsbD k = true → (t.stack j).condS.getLsbD k = true)) ∧
    (v.toNat % 16 = 2 → k < 8 → (∀ j, j < 16 → s.clusterEmpty (16 * k + j) = true) → ∃ t, exec (.stackReset v) s = .next t ∧
      t.stack k = { s.stack k with ck := 0 } ∧ t.pf = { s.pf with rfe := false } ∧ t.mem = s.mem) ∧
    (v.toNat % 16 = 2 → 8 ≤ k ∨ (∃ j, j < 16 ∧ s.clusterEmpty (16 * k + j) = false) →
      exec (.stackReset v) s = .next { s with pf := { s.pf with rfe := true } }) ∧
    (v.toNat % 16 = 3 → k < 128 → s.clusterEmpty k = true → ∃ t, exec (.clusterReset v) s = .next t ∧
      (t.cluster k).banks = [] ∧ t.pf = { s.pf with rfe := false } ∧ t.mem = s.mem) ∧
    (v.toNat % 16 = 3 → 128 ≤ k ∨ s.clusterEmpty k = false →
      exec (.clusterReset v) s = .next { s with pf := { s.pf with rfe := true } }))

/-- The management port (R315): the board assigns an address; then each command leaves its response for the next read. In recovery
SENSORS, POWER and ATTEST answer 0xFF, and the others act.
Sensor readings and the signature of a quote are free values of the model (assumptions 19 and 20). -/
def Obligations.ManagementPort : Prop :=
  (∀ (s : State) (a : Nat), exec (.dynamicAddressAssignment a) s = .next { s with i3c := { s.i3c with addr := some (a % 128) } }) ∧
  (∀ (s : State) (a : Nat), s.i3c.addr = some a →
    let answer (t : State) (bs : List Byte) : State := { t with i3c := { t.i3c with resp := bs } }
    (∃ bs, exec .inventory s = .next (answer s bs) ∧ bs.length = 64 ∧ fieldOf bs 0 8 = Config.serialNumber.toNat ∧
      fieldOf bs 8 4 = (Config.firmwareVersion s.secure.images).toNat ∧ (∀ k, k < 8 → fieldOf bs (12 + 2 * k) 2 = s.workingCores k) ∧
      fieldOf bs 36 2 = 0xFFFF ∧ (∀ k, 38 ≤ k → bs.getD k 0#8 = 0#8)) ∧
    exec .status s = .next (answer s (natBytes 4 ((if s.pf.boot then 1 else 0) + (if s.pf.rcv then 2 else 0) + 4 * s.pf.step +
      (if s.pf.rfe then 32 else 0)))) ∧
    (s.pf.rcv = false → ∃ t bs, exec .sensors s = .next (answer t bs) ∧ bs.length = 72 ∧ fieldOf bs 70 2 = 0 ∧ t.mem = s.mem ∧ t.cores = s.cores ∧
      ∀ k, k < 35 → fieldOf bs (2 * k) 2 = (Config.sensorReading (s.freeCtr + k)).toNat) ∧
    (∀ kind value target, s.pf.rcv = false →
      (kind = 0#8 → target.toNat < 8 → value.toNat < 3 → exec (.i3cPower kind target value) s =
        .next (answer (s.modStack target.toNat (fun k => { k with step := value.toNat })) [0#8])) ∧
      (kind = 1#8 → target.toNat < 1024 → value = 1#8 → (s.core target.toNat).gate = .open → exec (.i3cPower kind target value) s =
        .next (answer (s.modCore target.toNat (fun k => { k with gate := .draining })) [0#8])) ∧
      (kind.toNat > 2 → exec (.i3cPower kind target value) s = .next (answer s [1#8]))) ∧
    (∀ nonce, s.pf.rcv = false → nonce.length = 32 →
      let quote := nonce ++ s.secure.meas.flatMap (fun m => m.take 32) ++ natBytes 8 Config.serialNumber.toNat
      exec (.i3cAttest nonce) s =
        .next (answer s (quote ++ (List.range 114).map (Config.quoteSignature (Config.identityKey (digests s.secure.images)) quote)))) ∧
    (∃ t, exec .i3cReset s = .next (answer t [0#8]) ∧ (∀ c, (t.core c).slots = [] ∧ (t.core c).deque = []) ∧ t.jobs = [] ∧ t.mem = [] ∧ t.hostMem = s.hostMem) ∧
    (∀ off image, image.length = 64 → off.toNat + 64 ≤ 16777216 → ∃ t, exec (.fwWrite off image) s = .next (answer t [0#8]) ∧
      Memory.readBytes t.secure.store off.toNat 64 = image ∧
      (∀ y, y < off.toNat ∨ off.toNat + 64 ≤ y → t.secure.store.read y = s.secure.store.read y) ∧ t.mem = s.mem) ∧
    (∀ off image, image.length = 64 → 16777216 < off.toNat + 64 → exec (.fwWrite off image) s = .next (answer s [1#8])) ∧
    (∀ len, len.toNat ≤ 16777216 →
      let image := Memory.readBytes s.secure.store 0 len.toNat
      (Config.imageAccepted image = true →
        exec (.fwCommit len) s = .next (answer { s with secure := { s.secure with committed := some image } } [0#8])) ∧
      (Config.imageAccepted image = false → exec (.fwCommit len) s = .next (answer s [1#8]))) ∧
    (∀ bs, portListed bs = false → exec (.i3cUnknownCommand bs) s = .next (answer s [0xFF#8])) ∧
    (s.pf.rcv = true → exec .sensors s = .next (answer s [0xFF#8]) ∧ (∀ n, exec (.i3cAttest n) s = .next (answer s [0xFF#8])) ∧
      ∀ k x v, exec (.i3cPower k x v) s = .next (answer s [0xFF#8])))

/-- Translation by the host (R285 to R290). A grant is cached by the core that asked, whose held arms go on; no access leads to a page request, and
after one to a refusal; a page response retries or refuses, and those that wait go out in order; a wave held on a page that is refused
halts with the cause, which is 0x12 with DET 3, or 0x14 with DET 1 or 2, and with its lanes on that page. An invalidation removes every
matching cached translation, and without a side log no other; it waits for requests to peers that used one, and side-log entries
in its range ask again; in recovery nothing happens. -/
def Obligations.Translation : Prop :=
  (∀ (s : State) (page base size core : Nat) (write r w : Bool) (x : Target) (q : XReq), q.pasid < 2 ^ 20 →
    s.findX q.pasid page write [.asked, .retry] = some q → q.page = page → q.write = write → q.who = [core] → core < 1024 →
    grantFits page base size = true → (∀ a, x = .dpa a → a + size ≤ 2 ^ 40) → (if write then w else r) = true →
    (s.core core).sideLog = [] → s.conts = [] → (∀ e, e ∈ (s.core core).slots → e.2.inflight = [] ∧ e.2.ended = false) →
    ∃ t, exec (.translationCompletion q.pasid page write (.grant base size x r w)) s = .next t ∧ q ∉ t.xreqs ∧
      (∀ va, base ≤ va → va < base + size → t.xlate core q.pasid va write = .hit (targetPlus x (va - base))) ∧
      (∀ slot v k a m l, s.wave? core slot = some v → (s.job (s.team v.tid).job).pasid = q.pasid →
        NMap.get? v.arms k = some a → a.hold = .page m l → a.also = none → (∃ e, e ∈ l ∧ e.2 / 4096 = page) →
        ∃ u b, t.wave? core slot = some u ∧ NMap.get? u.arms k = some b ∧ b = { a with hold := .none })) ∧
  (∀ (s : State) (page core : Nat) (write : Bool) (q : XReq), s.findX q.pasid page write [.asked, .retry] = some q → q.page = page →
    q.write = write → q.who = [core] → core < 1024 → q.phase = .asked →
    ∃ t, exec (.translationCompletion q.pasid page write .noAccess) s = .next t ∧ q ∉ t.xreqs ∧
      (s.pageQueue = [] → s.pagesOut < s.priLimit → { q with phase := .paged } ∈ t.xreqs ∧ t.pageQueue = []) ∧
      (s.priLimit ≤ s.pagesOut → { q with phase := .queued } ∈ t.xreqs ∧ t.pageQueue = s.pageQueue ++ [(q.pasid, page, write)]) ∧
      t.cores = s.cores ∧ t.mem = s.mem) ∧
  (∀ (s : State) (page : Nat) (write : Bool) (q : XReq), s.findX q.pasid page write [.paged] = some q →
    let free := s.priLimit - (s.xreqs.filter (fun y => y.phase == .paged && y != q)).length
    ∃ t, exec (.pageResponse q.pasid page write .success) s = .next t ∧ { q with phase := .retry } ∈ t.xreqs ∧
      t.pageQueue = s.pageQueue.drop free ∧
      (∀ y, y ∈ s.xreqs → y.phase = .queued → (y.pasid, y.page, y.write) ∈ s.pageQueue.take free → { y with phase := .paged } ∈ t.xreqs) ∧
      t.cores = s.cores ∧ t.mem = s.mem) ∧
  (∀ (s : State) (i : Instr) (core slot page : Nat) (write : Bool) (q : XReq) (cause : Word) (v : Wave) (a : Arm) (n va : Nat) (l : List (Nat × Nat)),
    q.page = page → q.write = write → q.who = [core] → core < 1024 →
    (i = .pageResponse q.pasid page write .invalidRequest ∧ cause = 0x312#32 ∧ s.findX q.pasid page write [.paged] = some q ∨
      i = .pageResponse q.pasid page write .responseFailure ∧ cause = 0x114#32 ∧ s.findX q.pasid page write [.paged] = some q ∨
      i = .translationCompletion q.pasid page write .error ∧ cause = 0x214#32 ∧ s.findX q.pasid page write [.asked, .retry] = some q ∨
      i = .translationCompletion q.pasid page write .noAccess ∧ cause = 0x312#32 ∧ q.phase = .retry ∧
        s.findX q.pasid page write [.asked, .retry] = some q) →
    (s.core core).slots = [(slot, v)] → v.arms = [(0, a)] → v.inflight = [] → v.ended = false → a.hold = .page write l → a.cap = none → a.also = none →
    (l.filter (fun e => e.2 / 4096 == page)).head? = some (n, va) → (s.core core).sideLog = [] → s.units = [] →
    let j := s.job (s.team v.tid).job
    j.pasid = q.pasid → j.fent = 0xFFFFFFFF → (s.iface j.vi).held.length < 256 →
    ∃ t e, exec i s = .next t ∧ Claims.Gone t core slot ∧ e ∈ (t.iface j.vi).held ∧ e.getD 4 0#32 = cause ∧ e.getD 5 0#32 = lo32 va ∧
      e.getD 6 0#32 = hi32 va ∧ e.getD 7 0#32 = BitVec.ofNat 32 a.pc ∧ e.getD 10 0#32 = BitVec.ofNat 32 core ∧
      ∀ k, k < 32 → ((e.getD 16 0#32).getLsbD k = true ↔ ∃ x, x ∈ l ∧ x.1 = k ∧ x.2 / 4096 = page)) ∧
  (∀ (s : State) (pasid va size : Nat), (s.pf.rcv = true → exec (.invalidateRequest pasid va size) s = .next s) ∧
    (s.pf.rcv = false → ∃ t, exec (.invalidateRequest pasid va size) s = .next t ∧
      (∀ u x, x ∈ t.xlates u → x ∈ s.xlates u ∧ ¬ (x.pasid = pasid ∧ x.base < va + size ∧ va < x.base + x.size)) ∧
      ((∀ e, e ∈ s.cores → e.2.sideLog = []) → ∀ u x, x ∈ s.xlates u →
        ¬ (x.pasid = pasid ∧ x.base < va + size ∧ va < x.base + x.size) → x ∈ t.xlates u) ∧
      ((pasid, va, size) ∈ t.invals ↔
        ∃ d q, d ∈ s.links ∧ q ∈ d.2.open_ ∧ q.pasid = pasid ∧ q.used.1 < va + size ∧ va < q.used.1 + q.used.2) ∧
      (∀ c k e, NMap.get? s.cores c = some k → e ∈ k.sideLog → c < 1024 → e.pasid = pasid → 4096 * e.page < va + size →
        va < 4096 * e.page + 4096 → t.xlate c pasid (4096 * e.page) true = .miss →
        ∃ q, q ∈ t.xreqs ∧ q.pasid = pasid ∧ q.page = e.page ∧ q.write = true ∧ c ∈ q.who) ∧
      t.mem = s.mem ∧ ∀ c k, t.wave? c k = s.wave? c k))

/-- Relune Link (R312, R313). An acknowledgement frees its place in the window, and a read's reply reaches the load that waits for it; a request
that was sent fewer than 16 times is sent again, and after 16 the destination is unreachable and a write of it becomes a link
failure event. A peer's request is performed at home, a write with the poison that it carries (R177, R178), and a tag that the filter holds
is not performed again. -/
def Obligations.Link : Prop :=
  (∀ (s : State) (dest tag : Nat) (q : LinkReq) (reply : List Byte), s.openReq dest tag = some q → s.conts = [] →
    (∀ e, e ∈ s.cores → e.2.sideLog = [] ∧ ∀ w, w ∈ e.2.slots → ∀ p, p ∈ w.2.inflight → p.replay = false) → (∀ e, e ∈ (s.core q.core).slots → e.2.ended = false) →
    (q.ret = false → ∃ t, exec (.linkAck dest tag reply) s = .next t ∧ t.openReq dest tag = none ∧ t.mem = s.mem) ∧
    (∀ w p, q.ret = true → s.wave? q.core q.slot = some w → w.uid = q.uid → q.uid ≠ 0 → (∀ e, e ∈ w.inflight ↔ e = p) →
      p.id = q.pend → p.left = 1 → p.bad = [] → q.lane = scalarLane → (∀ a n, q.op = .read a n → n = 4) → (∀ a b m, q.op ≠ .write a b m) →
      reply.length = 4 → ∀ d x, p.sdst = [(d, x)] →
      ∃ t u y, exec (.linkAck dest tag reply) s = .next t ∧ t.openReq dest tag = none ∧ t.wave? q.core q.slot = some u ∧
        y ∈ u.inflight ∧ y.id = p.id ∧ y.left = 0 ∧ y.sdst = [(d, bytesWord reply)])) ∧
  (∀ (s : State) (dest tag : Nat) (q : LinkReq), s.openReq dest tag = some q →
    (q.sends < 16 → ∃ t, exec (.retransmit dest tag) s = .next t ∧ t.openReq dest tag = some { q with sends := q.sends + 1 } ∧
      t.cores = s.cores ∧ t.mem = s.mem) ∧
    (16 ≤ q.sends → (NMap.at s.links dest { }).open_ = [q] → s.conts = [] →
      (∀ e, e ∈ s.cores → e.2.sideLog = [] ∧ ∀ w, w ∈ e.2.slots → ∀ p, p ∈ w.2.inflight → p.replay = false) → q.ret = false → (s.iface (s.job q.job).vi).held.length < 256 →
      ∃ t e, exec (.retransmit dest tag) s = .next t ∧ t.openReq dest tag = none ∧ t.pf.mevt.getLsbD 3 = true ∧
        e ∈ (t.iface (s.job q.job).vi).held ∧ (e.getD 0 0#32).toNat / 2 ^ 24 = 6 ∧ e.getD 5 0#32 = lo32 (peerAddr q.op) ∧
        e.getD 6 0#32 = hi32 (peerAddr q.op) ∧ e.getD 7 0#32 = BitVec.ofNat 32 (dest % 4096) ∧ e.getD 16 0#32 = BitVec.ofNat 32 q.tag)) ∧
  (∀ (s : State) (src tag a n : Nat) (bs : List Byte) (d new : Word), s.pf.rcv = false →
    let fresh := ∀ e, e ∈ NMap.at s.filters src [] → e.1 ≠ tag
    let quiet (m : Nat) : Prop := ∀ k, k < 2 ^ 35 → a < 32 * k + 32 → 32 * k < a + m → k ∉ s.poison
    (∀ op, a + peerSize op ≤ 2 ^ 40 → peerAddr op = a → (∃ e, e ∈ NMap.at s.filters src [] ∧ e.1 = tag) →
      exec (.peerRequest src tag op) s = .next s) ∧
    (fresh → a + n ≤ 2 ^ 40 → quiet n → ∃ t, exec (.peerRequest src tag (.read a n)) s = .next t ∧ t.mem = s.mem ∧
      (tag, Memory.readBytes s.mem a n) ∈ NMap.at t.filters src []) ∧
    (∀ pois, fresh → a + bs.length ≤ 2 ^ 40 → ∃ t, exec (.peerRequest src tag (.write a bs pois)) s = .next t ∧
      Memory.readBytes t.mem a bs.length = bs ∧ (∀ y, y < a ∨ a + bs.length ≤ y → t.mem.read y = s.mem.read y) ∧ t.cores = s.cores ∧
      ∀ k, k ∈ t.poison ↔ (k ∈ pois ∧ a / 32 ≤ k ∧ 32 * k < a + bs.length) ∨
        (k ∈ s.poison ∧ ¬ (a ≤ 32 * k ∧ 32 * k + 32 ≤ a + bs.length))) ∧
    (fresh → a + 4 ≤ 2 ^ 40 → quiet 4 → n < 11 → ∃ t, exec (.peerRequest src tag (.atomic n a d new)) s = .next t ∧
      Claims.cell t.mem a 0 = Claims.atomRule n (Claims.cell s.mem a 0) d new ∧
      (∀ y, y < a ∨ a + 4 ≤ y → t.mem.read y = s.mem.read y) ∧ (tag, Memory.readBytes s.mem a 4) ∈ NMap.at t.filters src []))
end

