-- ==== Sys2Proof/Laws/Maps.lean ====
section
/-!
SUPPORT. Finite maps and memory: reading after writing, the canonical form, and that equal readings are equal data.
-/

set_option Elab.async false

namespace Sys2Proof.Machine

/-! ### Finite maps -/

@[simp] theorem NMap.get?_put {α : Type} (m : NMap α) (k j : Nat) (v : α) :
    NMap.get? (NMap.put m k v) j = if j = k then some v else NMap.get? m j := by
  induction m with
  | nil =>
    by_cases h : j = k
    · simp [NMap.put, NMap.get?, h]
    · simp [NMap.put, NMap.get?, h, Ne.symm h]
  | cons e m ih =>
    obtain ⟨i, a⟩ := e
    by_cases h1 : k < i
    · by_cases h : j = k
      · simp [NMap.put, h1, NMap.get?, h]
      · simp [NMap.put, h1, NMap.get?, h, Ne.symm h]
    · by_cases h2 : k = i
      · subst h2
        by_cases h : j = k
        · simp [NMap.put, NMap.get?, h]
        · simp [NMap.put, NMap.get?, h, Ne.symm h]
      · by_cases h : j = k
        · subst h; simp [NMap.put, h1, h2, NMap.get?, ih, Ne.symm h2]
        · simp [NMap.put, h1, h2, NMap.get?, ih, h]

@[simp] theorem NMap.at_put {α : Type} (m : NMap α) (k j : Nat) (v d : α) :
    NMap.at (NMap.put m k v) j d = if j = k then v else NMap.at m j d := by
  unfold NMap.at; rw [NMap.get?_put]; split <;> rfl

@[simp] theorem NMap.get?_del {α : Type} (m : NMap α) (k j : Nat) :
    NMap.get? (NMap.del m k) j = if j = k then none else NMap.get? m j := by
  unfold NMap.del
  induction m with
  | nil => simp [NMap.get?]
  | cons e m ih =>
    obtain ⟨i, a⟩ := e
    by_cases h1 : i = k
    · subst h1
      rw [List.filter_cons_of_neg (by simp), ih]
      by_cases h : j = i
      · simp [h]
      · simp [h, NMap.get?, Ne.symm h]
    · rw [List.filter_cons_of_pos (by simpa using h1)]
      by_cases h : j = k
      · subst h; simp [NMap.get?, h1, ih]
      · simp [NMap.get?, ih, h]

@[simp] theorem NMap.get?_nil {α : Type} (k : Nat) : NMap.get? ([] : NMap α) k = none := rfl

@[simp] theorem NMap.at_nil {α : Type} (k : Nat) (d : α) : NMap.at ([] : NMap α) k d = d := rfl

/-- A key in a sorted map is at least its first key. -/
theorem NMap.sorted_cons {α : Type} (e : Nat × α) (m : NMap α) :
    NMap.sorted (e :: m) = true ↔ (∀ f, f ∈ m → e.1 < f.1) ∧ NMap.sorted m = true := by
  induction m generalizing e with
  | nil => simp [NMap.sorted]
  | cons f m ih =>
    obtain ⟨j, a⟩ := e
    obtain ⟨k, b⟩ := f
    simp only [NMap.sorted, Bool.and_eq_true, decide_eq_true_eq, List.mem_cons, forall_eq_or_imp]
    constructor
    · rintro ⟨h, hs⟩
      exact ⟨⟨h, fun f hf => Nat.lt_trans h (((ih (k, b)).mp hs).1 f hf)⟩, hs⟩
    · rintro ⟨⟨h, _⟩, hs⟩
      exact ⟨h, hs⟩

theorem NMap.sorted_filter {α : Type} (m : NMap α) (p : Nat × α → Bool) (h : NMap.sorted m = true) :
    NMap.sorted (m.filter p) = true := by
  induction m with
  | nil => rfl
  | cons e m ih =>
    obtain ⟨h1, h2⟩ := (NMap.sorted_cons e m).mp h
    simp only [List.filter_cons]
    split
    · exact (NMap.sorted_cons _ _).mpr ⟨fun f hf => h1 f (List.mem_filter.mp hf).1, ih h2⟩
    · exact ih h2

theorem NMap.mem_put {α : Type} (m : NMap α) (k : Nat) (v : α) (e : Nat × α) (h : e ∈ NMap.put m k v) :
    e = (k, v) ∨ e ∈ m := by
  induction m with
  | nil => simpa [NMap.put] using h
  | cons f m ih =>
    obtain ⟨i, a⟩ := f
    simp only [NMap.put] at h
    split at h
    · simpa using h
    · split at h
      · rcases List.mem_cons.mp h with h | h
        · exact .inl h
        · exact .inr (List.mem_cons_of_mem _ h)
      · rcases List.mem_cons.mp h with h | h
        · exact .inr (h ▸ List.mem_cons_self)
        · exact (ih h).imp_right (List.mem_cons_of_mem _)

theorem NMap.sorted_put {α : Type} (m : NMap α) (k : Nat) (v : α) (h : NMap.sorted m = true) :
    NMap.sorted (NMap.put m k v) = true := by
  induction m with
  | nil => rfl
  | cons e m ih =>
    obtain ⟨i, a⟩ := e
    obtain ⟨h1, h2⟩ := (NMap.sorted_cons _ _).mp h
    simp only [NMap.put]
    split
    · refine (NMap.sorted_cons _ _).mpr ⟨fun f hf => ?_, h⟩
      rcases List.mem_cons.mp hf with rfl | hf
      · assumption
      · exact Nat.lt_trans ‹_› (h1 f hf)
    · split
      · subst_vars; exact (NMap.sorted_cons _ _).mpr ⟨h1, h2⟩
      · refine (NMap.sorted_cons _ _).mpr ⟨fun f hf => ?_, ih h2⟩
        rcases NMap.mem_put m k v f hf with rfl | hf
        · show i < k; omega
        · exact h1 f hf

theorem NMap.get?_eq_none_of_lt {α : Type} (m : NMap α) (k : Nat) (h : ∀ f, f ∈ m → k < f.1) : NMap.get? m k = none := by
  induction m with
  | nil => rfl
  | cons e m ih =>
    obtain ⟨i, a⟩ := e
    have hi := h (i, a) List.mem_cons_self
    simp only [NMap.get?]
    rw [if_neg (by simp only at hi; omega)]
    exact ih (fun f hf => h f (List.mem_cons_of_mem _ hf))

theorem NMap.get?_of_mem {α : Type} (m : NMap α) (h : NMap.sorted m = true) (e : Nat × α) (he : e ∈ m) :
    NMap.get? m e.1 = some e.2 := by
  induction m with
  | nil => simp at he
  | cons f m ih =>
    obtain ⟨h1, h2⟩ := (NMap.sorted_cons _ _).mp h
    rcases List.mem_cons.mp he with rfl | he
    · simp [NMap.get?]
    · simp only [NMap.get?]
      rw [if_neg (by have := h1 e he; omega)]
      exact ih h2 he

/-- Sorted maps with the same entries are equal. -/
theorem NMap.ext_get? {α : Type} (m n : NMap α) (hm : NMap.sorted m = true) (hn : NMap.sorted n = true)
    (h : ∀ k, NMap.get? m k = NMap.get? n k) : m = n := by
  induction m generalizing n with
  | nil =>
    cases n with
    | nil => rfl
    | cons f n => have := h f.1; simp [NMap.get?] at this
  | cons e m ih =>
    cases n with
    | nil => have := h e.1; simp [NMap.get?] at this
    | cons f n =>
      obtain ⟨hm1, hm2⟩ := (NMap.sorted_cons _ _).mp hm
      obtain ⟨hn1, hn2⟩ := (NMap.sorted_cons _ _).mp hn
      have key : e.1 = f.1 := by
        rcases Nat.lt_trichotomy e.1 f.1 with hlt | heq | hgt
        · have := h e.1
          rw [NMap.get?_of_mem _ hm e List.mem_cons_self,
            NMap.get?_eq_none_of_lt (f :: n) e.1 (by
              intro g hg
              rcases List.mem_cons.mp hg with rfl | hg
              · exact hlt
              · exact Nat.lt_trans hlt (hn1 g hg))] at this
          simp at this
        · exact heq
        · have := h f.1
          rw [NMap.get?_of_mem _ hn f List.mem_cons_self,
            NMap.get?_eq_none_of_lt (e :: m) f.1 (by
              intro g hg
              rcases List.mem_cons.mp hg with rfl | hg
              · exact hgt
              · exact Nat.lt_trans hgt (hm1 g hg))] at this
          simp at this
      have val : e.2 = f.2 := by
        have := h e.1
        rw [NMap.get?_of_mem _ hm e List.mem_cons_self, key, NMap.get?_of_mem _ hn f List.mem_cons_self] at this
        exact Option.some.inj this
      have hef : e = f := Prod.ext key val
      subst hef
      congr 1
      refine ih n hm2 hn2 (fun k => ?_)
      by_cases hk : e.1 = k
      · subst hk
        rw [NMap.get?_eq_none_of_lt m _ hm1, NMap.get?_eq_none_of_lt n _ hn1]
      · have := h k
        simpa [NMap.get?, hk] using this

/-! ### Memory -/

@[simp] theorem Memory.read_nil (a : Nat) : Memory.read [] a = 0#8 := rfl

/-- A byte reads as last written; every other byte is left alone. -/
@[simp] theorem Memory.read_write (m : Memory) (a b : Nat) (x : Byte) :
    Memory.read (Memory.write m a x) b = if b = a then x else Memory.read m b := by
  unfold Memory.read Memory.write NMap.set NMap.at
  split
  · rw [NMap.get?_del]; split
    · simp_all [Memory.unlisted]
    · rfl
  · rw [NMap.get?_put]; split <;> rfl

theorem Memory.wf_iff (m : Memory) : Memory.wf m = true ↔ NMap.sorted m = true ∧ ∀ e, e ∈ m → e.2 ≠ 0#8 := by
  simp [Memory.wf, Memory.unlisted]

/-- A write keeps the canonical form. -/
theorem Memory.wf_write (m : Memory) (a : Nat) (x : Byte) (h : Memory.wf m = true) : Memory.wf (Memory.write m a x) = true := by
  obtain ⟨hs, hv⟩ := (Memory.wf_iff m).mp h
  unfold Memory.write NMap.set
  split
  · exact (Memory.wf_iff _).mpr ⟨NMap.sorted_filter _ _ hs, fun e he => hv e (List.mem_filter.mp he).1⟩
  · refine (Memory.wf_iff _).mpr ⟨NMap.sorted_put _ _ _ hs, fun e he => ?_⟩
    rcases NMap.mem_put _ _ _ _ he with rfl | he
    · intro hx; simp_all [Memory.unlisted]
    · exact hv e he

theorem Memory.wf_writeBytes (m : Memory) (a : Nat) (bs : List Byte) (h : Memory.wf m = true) :
    Memory.wf (Memory.writeBytes m a bs) = true := by
  induction bs generalizing m a with
  | nil => exact h
  | cons b bs ih => exact ih _ _ (Memory.wf_write m a b h)

theorem Memory.wf_clear (m : Memory) (lo hi : Nat) (h : Memory.wf m = true) : Memory.wf (Memory.clear m lo hi) = true := by
  obtain ⟨hs, hv⟩ := (Memory.wf_iff m).mp h
  exact (Memory.wf_iff _).mpr ⟨NMap.sorted_filter _ _ hs, fun e he => hv e (List.mem_filter.mp he).1⟩

/-- A byte outside what a write covers is left alone. -/
theorem Memory.read_writeBytes_out (m : Memory) (a b : Nat) (bs : List Byte) (h : b < a ∨ a + bs.length ≤ b) :
    Memory.read (Memory.writeBytes m a bs) b = Memory.read m b := by
  induction bs generalizing m a with
  | nil => rfl
  | cons x bs ih =>
    rw [Memory.writeBytes, ih _ _ (by simp only [List.length_cons] at h; omega), Memory.read_write,
      if_neg (by simp only [List.length_cons] at h; omega)]

/-- A byte inside what a write covers reads as written. -/
theorem Memory.read_writeBytes_in (m : Memory) (a k : Nat) (bs : List Byte) (h : k < bs.length) :
    Memory.read (Memory.writeBytes m a bs) (a + k) = bs[k] := by
  induction bs generalizing m a k with
  | nil => simp at h
  | cons x bs ih =>
    rw [Memory.writeBytes]
    cases k with
    | zero => rw [Nat.add_zero, Memory.read_writeBytes_out _ _ _ _ (.inl (by omega)), Memory.read_write]; simp
    | succ k =>
      have := ih (Memory.write m a x) (a + 1) k (by simpa using h)
      rw [show a + (k + 1) = a + 1 + k by omega, this]; rfl

theorem Memory.length_readBytes (m : Memory) (a n : Nat) : (Memory.readBytes m a n).length = n := by
  induction n generalizing a with
  | zero => rfl
  | succ n ih => simp [Memory.readBytes, ih]

/-- What a write stored is read back. -/
theorem Memory.readBytes_writeBytes (m : Memory) (a : Nat) (bs : List Byte) :
    Memory.readBytes (Memory.writeBytes m a bs) a bs.length = bs := by
  have key : ∀ (n : Memory) (b : Nat) (l : List Byte), (∀ (k : Nat) (h : k < l.length), Memory.read n (b + k) = l[k]) →
      Memory.readBytes n b l.length = l := by
    intro n b l
    induction l generalizing b with
    | nil => intro _; rfl
    | cons x l ih =>
      intro h
      simp only [List.length_cons, Memory.readBytes]
      congr 1
      · have := h 0 (by simp); simpa using this
      · refine ih _ (fun k hk => ?_)
        have := h (k + 1) (by simpa using hk)
        rw [show b + 1 + k = b + (k + 1) by omega, this]; rfl
  exact key _ _ _ (fun k h => Memory.read_writeBytes_in m a k bs h)

theorem Memory.get?_of_read (m : Memory) (h : Memory.wf m = true) (a : Nat) :
    NMap.get? m a = if Memory.read m a = 0#8 then none else some (Memory.read m a) := by
  obtain ⟨hs, hv⟩ := (Memory.wf_iff m).mp h
  unfold Memory.read NMap.at
  cases hg : NMap.get? m a with
  | none => simp [Memory.unlisted]
  | some x =>
    have hx : x ≠ 0#8 := by
      have : ∀ (l : Memory), NMap.get? l a = some x → (a, x) ∈ l := by
        intro l
        induction l with
        | nil => simp [NMap.get?]
        | cons e l ih =>
          obtain ⟨i, b⟩ := e
          simp only [NMap.get?]
          split
          · rintro ⟨⟩; subst_vars; exact List.mem_cons_self
          · exact fun h => List.mem_cons_of_mem _ (ih h)
      exact hv _ (this m hg)
    simp [hx]

end Sys2Proof.Machine
end

