-- ==== Sys2Proof/Laws/State.lean ====
section
/-!
SUPPORT. What each update of the state leaves alone, field by field, and what it makes of what it changes.
-/

set_option Elab.async false

namespace Sys2Proof.Machine

/-! ### Fields that an update leaves alone -/

@[simp] theorem State.setCore_clusters (s : State) (c : Nat) (k : Core) : (s.setCore c k).clusters = s.clusters := rfl
@[simp] theorem State.setCore_stk (s : State) (c : Nat) (k : Core) : (s.setCore c k).stk = s.stk := rfl
@[simp] theorem State.setCore_mem (s : State) (c : Nat) (k : Core) : (s.setCore c k).mem = s.mem := rfl
@[simp] theorem State.setCore_poison (s : State) (c : Nat) (k : Core) : (s.setCore c k).poison = s.poison := rfl
@[simp] theorem State.setCore_l2 (s : State) (c : Nat) (k : Core) : (s.setCore c k).l2 = s.l2 := rfl
@[simp] theorem State.setCore_hostMem (s : State) (c : Nat) (k : Core) : (s.setCore c k).hostMem = s.hostMem := rfl
@[simp] theorem State.setCore_groups (s : State) (c : Nat) (k : Core) : (s.setCore c k).groups = s.groups := rfl
@[simp] theorem State.setCore_refresh (s : State) (c : Nat) (k : Core) : (s.setCore c k).refresh = s.refresh := rfl
@[simp] theorem State.setCore_board (s : State) (c : Nat) (k : Core) : (s.setCore c k).board = s.board := rfl
@[simp] theorem State.setCore_jobs (s : State) (c : Nat) (k : Core) : (s.setCore c k).jobs = s.jobs := rfl
@[simp] theorem State.setCore_teams (s : State) (c : Nat) (k : Core) : (s.setCore c k).teams = s.teams := rfl
@[simp] theorem State.setCore_allocs (s : State) (c : Nat) (k : Core) : (s.setCore c k).allocs = s.allocs := rfl
@[simp] theorem State.setCore_units (s : State) (c : Nat) (k : Core) : (s.setCore c k).units = s.units := rfl
@[simp] theorem State.setCore_contracts (s : State) (c : Nat) (k : Core) : (s.setCore c k).contracts = s.contracts := rfl
@[simp] theorem State.setCore_vis (s : State) (c : Nat) (k : Core) : (s.setCore c k).vis = s.vis := rfl
@[simp] theorem State.setCore_pf (s : State) (c : Nat) (k : Core) : (s.setCore c k).pf = s.pf := rfl
@[simp] theorem State.setCore_numVfs (s : State) (c : Nat) (k : Core) : (s.setCore c k).numVfs = s.numVfs := rfl
@[simp] theorem State.setCore_msix (s : State) (c : Nat) (k : Core) : (s.setCore c k).msix = s.msix := rfl
@[simp] theorem State.setCore_deliveries (s : State) (c : Nat) (k : Core) : (s.setCore c k).deliveries = s.deliveries := rfl
@[simp] theorem State.setCore_conts (s : State) (c : Nat) (k : Core) : (s.setCore c k).conts = s.conts := rfl
@[simp] theorem State.setCore_xreqs (s : State) (c : Nat) (k : Core) : (s.setCore c k).xreqs = s.xreqs := rfl
@[simp] theorem State.setCore_pageQueue (s : State) (c : Nat) (k : Core) : (s.setCore c k).pageQueue = s.pageQueue := rfl
@[simp] theorem State.setCore_priLimit (s : State) (c : Nat) (k : Core) : (s.setCore c k).priLimit = s.priLimit := rfl
@[simp] theorem State.setCore_ioAtc (s : State) (c : Nat) (k : Core) : (s.setCore c k).ioAtc = s.ioAtc := rfl
@[simp] theorem State.setCore_refusals (s : State) (c : Nat) (k : Core) : (s.setCore c k).refusals = s.refusals := rfl
@[simp] theorem State.setCore_invals (s : State) (c : Nat) (k : Core) : (s.setCore c k).invals = s.invals := rfl
@[simp] theorem State.setCore_invalsDone (s : State) (c : Nat) (k : Core) : (s.setCore c k).invalsDone = s.invalsDone := rfl
@[simp] theorem State.setCore_module (s : State) (c : Nat) (k : Core) : (s.setCore c k).module = s.module := rfl
@[simp] theorem State.setCore_fetched (s : State) (c : Nat) (k : Core) : (s.setCore c k).fetched = s.fetched := rfl
@[simp] theorem State.setCore_links (s : State) (c : Nat) (k : Core) : (s.setCore c k).links = s.links := rfl
@[simp] theorem State.setCore_filters (s : State) (c : Nat) (k : Core) : (s.setCore c k).filters = s.filters := rfl
@[simp] theorem State.setCore_secure (s : State) (c : Nat) (k : Core) : (s.setCore c k).secure = s.secure := rfl
@[simp] theorem State.setCore_i3c (s : State) (c : Nat) (k : Core) : (s.setCore c k).i3c = s.i3c := rfl
@[simp] theorem State.setCore_migrations (s : State) (c : Nat) (k : Core) : (s.setCore c k).migrations = s.migrations := rfl
@[simp] theorem State.setCore_records (s : State) (c : Nat) (k : Core) : (s.setCore c k).records = s.records := rfl
@[simp] theorem State.setCore_rewrites (s : State) (c : Nat) (k : Core) : (s.setCore c k).rewrites = s.rewrites := rfl
@[simp] theorem State.setCore_rr (s : State) (c : Nat) (k : Core) : (s.setCore c k).rr = s.rr := rfl
@[simp] theorem State.setCore_handles (s : State) (c : Nat) (k : Core) : (s.setCore c k).handles = s.handles := rfl
@[simp] theorem State.setCore_agenda (s : State) (c : Nat) (k : Core) : (s.setCore c k).agenda = s.agenda := rfl
@[simp] theorem State.setCore_cur (s : State) (c : Nat) (k : Core) : (s.setCore c k).cur = s.cur := rfl
@[simp] theorem State.setCore_freeCtr (s : State) (c : Nat) (k : Core) : (s.setCore c k).freeCtr = s.freeCtr := rfl

@[simp] theorem State.modCore_clusters (s : State) (c : Nat) (f : Core → Core) : (s.modCore c f).clusters = s.clusters := rfl
@[simp] theorem State.modCore_stk (s : State) (c : Nat) (f : Core → Core) : (s.modCore c f).stk = s.stk := rfl
@[simp] theorem State.modCore_mem (s : State) (c : Nat) (f : Core → Core) : (s.modCore c f).mem = s.mem := rfl
@[simp] theorem State.modCore_poison (s : State) (c : Nat) (f : Core → Core) : (s.modCore c f).poison = s.poison := rfl
@[simp] theorem State.modCore_l2 (s : State) (c : Nat) (f : Core → Core) : (s.modCore c f).l2 = s.l2 := rfl
@[simp] theorem State.modCore_hostMem (s : State) (c : Nat) (f : Core → Core) : (s.modCore c f).hostMem = s.hostMem := rfl
@[simp] theorem State.modCore_groups (s : State) (c : Nat) (f : Core → Core) : (s.modCore c f).groups = s.groups := rfl
@[simp] theorem State.modCore_refresh (s : State) (c : Nat) (f : Core → Core) : (s.modCore c f).refresh = s.refresh := rfl
@[simp] theorem State.modCore_board (s : State) (c : Nat) (f : Core → Core) : (s.modCore c f).board = s.board := rfl
@[simp] theorem State.modCore_jobs (s : State) (c : Nat) (f : Core → Core) : (s.modCore c f).jobs = s.jobs := rfl
@[simp] theorem State.modCore_teams (s : State) (c : Nat) (f : Core → Core) : (s.modCore c f).teams = s.teams := rfl
@[simp] theorem State.modCore_allocs (s : State) (c : Nat) (f : Core → Core) : (s.modCore c f).allocs = s.allocs := rfl
@[simp] theorem State.modCore_units (s : State) (c : Nat) (f : Core → Core) : (s.modCore c f).units = s.units := rfl
@[simp] theorem State.modCore_contracts (s : State) (c : Nat) (f : Core → Core) : (s.modCore c f).contracts = s.contracts := rfl
@[simp] theorem State.modCore_vis (s : State) (c : Nat) (f : Core → Core) : (s.modCore c f).vis = s.vis := rfl
@[simp] theorem State.modCore_pf (s : State) (c : Nat) (f : Core → Core) : (s.modCore c f).pf = s.pf := rfl
@[simp] theorem State.modCore_numVfs (s : State) (c : Nat) (f : Core → Core) : (s.modCore c f).numVfs = s.numVfs := rfl
@[simp] theorem State.modCore_msix (s : State) (c : Nat) (f : Core → Core) : (s.modCore c f).msix = s.msix := rfl
@[simp] theorem State.modCore_deliveries (s : State) (c : Nat) (f : Core → Core) : (s.modCore c f).deliveries = s.deliveries := rfl
@[simp] theorem State.modCore_conts (s : State) (c : Nat) (f : Core → Core) : (s.modCore c f).conts = s.conts := rfl
@[simp] theorem State.modCore_xreqs (s : State) (c : Nat) (f : Core → Core) : (s.modCore c f).xreqs = s.xreqs := rfl
@[simp] theorem State.modCore_pageQueue (s : State) (c : Nat) (f : Core → Core) : (s.modCore c f).pageQueue = s.pageQueue := rfl
@[simp] theorem State.modCore_priLimit (s : State) (c : Nat) (f : Core → Core) : (s.modCore c f).priLimit = s.priLimit := rfl
@[simp] theorem State.modCore_ioAtc (s : State) (c : Nat) (f : Core → Core) : (s.modCore c f).ioAtc = s.ioAtc := rfl
@[simp] theorem State.modCore_refusals (s : State) (c : Nat) (f : Core → Core) : (s.modCore c f).refusals = s.refusals := rfl
@[simp] theorem State.modCore_invals (s : State) (c : Nat) (f : Core → Core) : (s.modCore c f).invals = s.invals := rfl
@[simp] theorem State.modCore_invalsDone (s : State) (c : Nat) (f : Core → Core) : (s.modCore c f).invalsDone = s.invalsDone := rfl
@[simp] theorem State.modCore_module (s : State) (c : Nat) (f : Core → Core) : (s.modCore c f).module = s.module := rfl
@[simp] theorem State.modCore_fetched (s : State) (c : Nat) (f : Core → Core) : (s.modCore c f).fetched = s.fetched := rfl
@[simp] theorem State.modCore_links (s : State) (c : Nat) (f : Core → Core) : (s.modCore c f).links = s.links := rfl
@[simp] theorem State.modCore_filters (s : State) (c : Nat) (f : Core → Core) : (s.modCore c f).filters = s.filters := rfl
@[simp] theorem State.modCore_secure (s : State) (c : Nat) (f : Core → Core) : (s.modCore c f).secure = s.secure := rfl
@[simp] theorem State.modCore_i3c (s : State) (c : Nat) (f : Core → Core) : (s.modCore c f).i3c = s.i3c := rfl
@[simp] theorem State.modCore_migrations (s : State) (c : Nat) (f : Core → Core) : (s.modCore c f).migrations = s.migrations := rfl
@[simp] theorem State.modCore_records (s : State) (c : Nat) (f : Core → Core) : (s.modCore c f).records = s.records := rfl
@[simp] theorem State.modCore_rewrites (s : State) (c : Nat) (f : Core → Core) : (s.modCore c f).rewrites = s.rewrites := rfl
@[simp] theorem State.modCore_rr (s : State) (c : Nat) (f : Core → Core) : (s.modCore c f).rr = s.rr := rfl
@[simp] theorem State.modCore_handles (s : State) (c : Nat) (f : Core → Core) : (s.modCore c f).handles = s.handles := rfl
@[simp] theorem State.modCore_agenda (s : State) (c : Nat) (f : Core → Core) : (s.modCore c f).agenda = s.agenda := rfl
@[simp] theorem State.modCore_cur (s : State) (c : Nat) (f : Core → Core) : (s.modCore c f).cur = s.cur := rfl
@[simp] theorem State.modCore_freeCtr (s : State) (c : Nat) (f : Core → Core) : (s.modCore c f).freeCtr = s.freeCtr := rfl

@[simp] theorem State.modCluster_cores (s : State) (c : Nat) (f : Cluster → Cluster) : (s.modCluster c f).cores = s.cores := rfl
@[simp] theorem State.modCluster_stk (s : State) (c : Nat) (f : Cluster → Cluster) : (s.modCluster c f).stk = s.stk := rfl
@[simp] theorem State.modCluster_mem (s : State) (c : Nat) (f : Cluster → Cluster) : (s.modCluster c f).mem = s.mem := rfl
@[simp] theorem State.modCluster_poison (s : State) (c : Nat) (f : Cluster → Cluster) : (s.modCluster c f).poison = s.poison := rfl
@[simp] theorem State.modCluster_l2 (s : State) (c : Nat) (f : Cluster → Cluster) : (s.modCluster c f).l2 = s.l2 := rfl
@[simp] theorem State.modCluster_hostMem (s : State) (c : Nat) (f : Cluster → Cluster) : (s.modCluster c f).hostMem = s.hostMem := rfl
@[simp] theorem State.modCluster_groups (s : State) (c : Nat) (f : Cluster → Cluster) : (s.modCluster c f).groups = s.groups := rfl
@[simp] theorem State.modCluster_refresh (s : State) (c : Nat) (f : Cluster → Cluster) : (s.modCluster c f).refresh = s.refresh := rfl
@[simp] theorem State.modCluster_board (s : State) (c : Nat) (f : Cluster → Cluster) : (s.modCluster c f).board = s.board := rfl
@[simp] theorem State.modCluster_jobs (s : State) (c : Nat) (f : Cluster → Cluster) : (s.modCluster c f).jobs = s.jobs := rfl
@[simp] theorem State.modCluster_teams (s : State) (c : Nat) (f : Cluster → Cluster) : (s.modCluster c f).teams = s.teams := rfl
@[simp] theorem State.modCluster_allocs (s : State) (c : Nat) (f : Cluster → Cluster) : (s.modCluster c f).allocs = s.allocs := rfl
@[simp] theorem State.modCluster_units (s : State) (c : Nat) (f : Cluster → Cluster) : (s.modCluster c f).units = s.units := rfl
@[simp] theorem State.modCluster_contracts (s : State) (c : Nat) (f : Cluster → Cluster) : (s.modCluster c f).contracts = s.contracts := rfl
@[simp] theorem State.modCluster_vis (s : State) (c : Nat) (f : Cluster → Cluster) : (s.modCluster c f).vis = s.vis := rfl
@[simp] theorem State.modCluster_pf (s : State) (c : Nat) (f : Cluster → Cluster) : (s.modCluster c f).pf = s.pf := rfl
@[simp] theorem State.modCluster_numVfs (s : State) (c : Nat) (f : Cluster → Cluster) : (s.modCluster c f).numVfs = s.numVfs := rfl
@[simp] theorem State.modCluster_msix (s : State) (c : Nat) (f : Cluster → Cluster) : (s.modCluster c f).msix = s.msix := rfl
@[simp] theorem State.modCluster_deliveries (s : State) (c : Nat) (f : Cluster → Cluster) : (s.modCluster c f).deliveries = s.deliveries := rfl
@[simp] theorem State.modCluster_conts (s : State) (c : Nat) (f : Cluster → Cluster) : (s.modCluster c f).conts = s.conts := rfl
@[simp] theorem State.modCluster_xreqs (s : State) (c : Nat) (f : Cluster → Cluster) : (s.modCluster c f).xreqs = s.xreqs := rfl
@[simp] theorem State.modCluster_pageQueue (s : State) (c : Nat) (f : Cluster → Cluster) : (s.modCluster c f).pageQueue = s.pageQueue := rfl
@[simp] theorem State.modCluster_priLimit (s : State) (c : Nat) (f : Cluster → Cluster) : (s.modCluster c f).priLimit = s.priLimit := rfl
@[simp] theorem State.modCluster_ioAtc (s : State) (c : Nat) (f : Cluster → Cluster) : (s.modCluster c f).ioAtc = s.ioAtc := rfl
@[simp] theorem State.modCluster_refusals (s : State) (c : Nat) (f : Cluster → Cluster) : (s.modCluster c f).refusals = s.refusals := rfl
@[simp] theorem State.modCluster_invals (s : State) (c : Nat) (f : Cluster → Cluster) : (s.modCluster c f).invals = s.invals := rfl
@[simp] theorem State.modCluster_invalsDone (s : State) (c : Nat) (f : Cluster → Cluster) : (s.modCluster c f).invalsDone = s.invalsDone := rfl
@[simp] theorem State.modCluster_module (s : State) (c : Nat) (f : Cluster → Cluster) : (s.modCluster c f).module = s.module := rfl
@[simp] theorem State.modCluster_fetched (s : State) (c : Nat) (f : Cluster → Cluster) : (s.modCluster c f).fetched = s.fetched := rfl
@[simp] theorem State.modCluster_links (s : State) (c : Nat) (f : Cluster → Cluster) : (s.modCluster c f).links = s.links := rfl
@[simp] theorem State.modCluster_filters (s : State) (c : Nat) (f : Cluster → Cluster) : (s.modCluster c f).filters = s.filters := rfl
@[simp] theorem State.modCluster_secure (s : State) (c : Nat) (f : Cluster → Cluster) : (s.modCluster c f).secure = s.secure := rfl
@[simp] theorem State.modCluster_i3c (s : State) (c : Nat) (f : Cluster → Cluster) : (s.modCluster c f).i3c = s.i3c := rfl
@[simp] theorem State.modCluster_migrations (s : State) (c : Nat) (f : Cluster → Cluster) : (s.modCluster c f).migrations = s.migrations := rfl
@[simp] theorem State.modCluster_records (s : State) (c : Nat) (f : Cluster → Cluster) : (s.modCluster c f).records = s.records := rfl
@[simp] theorem State.modCluster_rewrites (s : State) (c : Nat) (f : Cluster → Cluster) : (s.modCluster c f).rewrites = s.rewrites := rfl
@[simp] theorem State.modCluster_rr (s : State) (c : Nat) (f : Cluster → Cluster) : (s.modCluster c f).rr = s.rr := rfl
@[simp] theorem State.modCluster_handles (s : State) (c : Nat) (f : Cluster → Cluster) : (s.modCluster c f).handles = s.handles := rfl
@[simp] theorem State.modCluster_agenda (s : State) (c : Nat) (f : Cluster → Cluster) : (s.modCluster c f).agenda = s.agenda := rfl
@[simp] theorem State.modCluster_cur (s : State) (c : Nat) (f : Cluster → Cluster) : (s.modCluster c f).cur = s.cur := rfl
@[simp] theorem State.modCluster_freeCtr (s : State) (c : Nat) (f : Cluster → Cluster) : (s.modCluster c f).freeCtr = s.freeCtr := rfl

@[simp] theorem State.modStack_cores (s : State) (k : Nat) (f : Stack → Stack) : (s.modStack k f).cores = s.cores := rfl
@[simp] theorem State.modStack_clusters (s : State) (k : Nat) (f : Stack → Stack) : (s.modStack k f).clusters = s.clusters := rfl
@[simp] theorem State.modStack_mem (s : State) (k : Nat) (f : Stack → Stack) : (s.modStack k f).mem = s.mem := rfl
@[simp] theorem State.modStack_poison (s : State) (k : Nat) (f : Stack → Stack) : (s.modStack k f).poison = s.poison := rfl
@[simp] theorem State.modStack_l2 (s : State) (k : Nat) (f : Stack → Stack) : (s.modStack k f).l2 = s.l2 := rfl
@[simp] theorem State.modStack_hostMem (s : State) (k : Nat) (f : Stack → Stack) : (s.modStack k f).hostMem = s.hostMem := rfl
@[simp] theorem State.modStack_groups (s : State) (k : Nat) (f : Stack → Stack) : (s.modStack k f).groups = s.groups := rfl
@[simp] theorem State.modStack_refresh (s : State) (k : Nat) (f : Stack → Stack) : (s.modStack k f).refresh = s.refresh := rfl
@[simp] theorem State.modStack_board (s : State) (k : Nat) (f : Stack → Stack) : (s.modStack k f).board = s.board := rfl
@[simp] theorem State.modStack_jobs (s : State) (k : Nat) (f : Stack → Stack) : (s.modStack k f).jobs = s.jobs := rfl
@[simp] theorem State.modStack_teams (s : State) (k : Nat) (f : Stack → Stack) : (s.modStack k f).teams = s.teams := rfl
@[simp] theorem State.modStack_allocs (s : State) (k : Nat) (f : Stack → Stack) : (s.modStack k f).allocs = s.allocs := rfl
@[simp] theorem State.modStack_units (s : State) (k : Nat) (f : Stack → Stack) : (s.modStack k f).units = s.units := rfl
@[simp] theorem State.modStack_contracts (s : State) (k : Nat) (f : Stack → Stack) : (s.modStack k f).contracts = s.contracts := rfl
@[simp] theorem State.modStack_vis (s : State) (k : Nat) (f : Stack → Stack) : (s.modStack k f).vis = s.vis := rfl
@[simp] theorem State.modStack_pf (s : State) (k : Nat) (f : Stack → Stack) : (s.modStack k f).pf = s.pf := rfl
@[simp] theorem State.modStack_numVfs (s : State) (k : Nat) (f : Stack → Stack) : (s.modStack k f).numVfs = s.numVfs := rfl
@[simp] theorem State.modStack_msix (s : State) (k : Nat) (f : Stack → Stack) : (s.modStack k f).msix = s.msix := rfl
@[simp] theorem State.modStack_deliveries (s : State) (k : Nat) (f : Stack → Stack) : (s.modStack k f).deliveries = s.deliveries := rfl
@[simp] theorem State.modStack_conts (s : State) (k : Nat) (f : Stack → Stack) : (s.modStack k f).conts = s.conts := rfl
@[simp] theorem State.modStack_xreqs (s : State) (k : Nat) (f : Stack → Stack) : (s.modStack k f).xreqs = s.xreqs := rfl
@[simp] theorem State.modStack_pageQueue (s : State) (k : Nat) (f : Stack → Stack) : (s.modStack k f).pageQueue = s.pageQueue := rfl
@[simp] theorem State.modStack_priLimit (s : State) (k : Nat) (f : Stack → Stack) : (s.modStack k f).priLimit = s.priLimit := rfl
@[simp] theorem State.modStack_ioAtc (s : State) (k : Nat) (f : Stack → Stack) : (s.modStack k f).ioAtc = s.ioAtc := rfl
@[simp] theorem State.modStack_refusals (s : State) (k : Nat) (f : Stack → Stack) : (s.modStack k f).refusals = s.refusals := rfl
@[simp] theorem State.modStack_invals (s : State) (k : Nat) (f : Stack → Stack) : (s.modStack k f).invals = s.invals := rfl
@[simp] theorem State.modStack_invalsDone (s : State) (k : Nat) (f : Stack → Stack) : (s.modStack k f).invalsDone = s.invalsDone := rfl
@[simp] theorem State.modStack_module (s : State) (k : Nat) (f : Stack → Stack) : (s.modStack k f).module = s.module := rfl
@[simp] theorem State.modStack_fetched (s : State) (k : Nat) (f : Stack → Stack) : (s.modStack k f).fetched = s.fetched := rfl
@[simp] theorem State.modStack_links (s : State) (k : Nat) (f : Stack → Stack) : (s.modStack k f).links = s.links := rfl
@[simp] theorem State.modStack_filters (s : State) (k : Nat) (f : Stack → Stack) : (s.modStack k f).filters = s.filters := rfl
@[simp] theorem State.modStack_secure (s : State) (k : Nat) (f : Stack → Stack) : (s.modStack k f).secure = s.secure := rfl
@[simp] theorem State.modStack_i3c (s : State) (k : Nat) (f : Stack → Stack) : (s.modStack k f).i3c = s.i3c := rfl
@[simp] theorem State.modStack_migrations (s : State) (k : Nat) (f : Stack → Stack) : (s.modStack k f).migrations = s.migrations := rfl
@[simp] theorem State.modStack_records (s : State) (k : Nat) (f : Stack → Stack) : (s.modStack k f).records = s.records := rfl
@[simp] theorem State.modStack_rewrites (s : State) (k : Nat) (f : Stack → Stack) : (s.modStack k f).rewrites = s.rewrites := rfl
@[simp] theorem State.modStack_rr (s : State) (k : Nat) (f : Stack → Stack) : (s.modStack k f).rr = s.rr := rfl
@[simp] theorem State.modStack_handles (s : State) (k : Nat) (f : Stack → Stack) : (s.modStack k f).handles = s.handles := rfl
@[simp] theorem State.modStack_agenda (s : State) (k : Nat) (f : Stack → Stack) : (s.modStack k f).agenda = s.agenda := rfl
@[simp] theorem State.modStack_cur (s : State) (k : Nat) (f : Stack → Stack) : (s.modStack k f).cur = s.cur := rfl
@[simp] theorem State.modStack_freeCtr (s : State) (k : Nat) (f : Stack → Stack) : (s.modStack k f).freeCtr = s.freeCtr := rfl

@[simp] theorem State.modIface_cores (s : State) (v : Nat) (f : Iface → Iface) : (s.modIface v f).cores = s.cores := rfl
@[simp] theorem State.modIface_clusters (s : State) (v : Nat) (f : Iface → Iface) : (s.modIface v f).clusters = s.clusters := rfl
@[simp] theorem State.modIface_stk (s : State) (v : Nat) (f : Iface → Iface) : (s.modIface v f).stk = s.stk := rfl
@[simp] theorem State.modIface_mem (s : State) (v : Nat) (f : Iface → Iface) : (s.modIface v f).mem = s.mem := rfl
@[simp] theorem State.modIface_poison (s : State) (v : Nat) (f : Iface → Iface) : (s.modIface v f).poison = s.poison := rfl
@[simp] theorem State.modIface_l2 (s : State) (v : Nat) (f : Iface → Iface) : (s.modIface v f).l2 = s.l2 := rfl
@[simp] theorem State.modIface_hostMem (s : State) (v : Nat) (f : Iface → Iface) : (s.modIface v f).hostMem = s.hostMem := rfl
@[simp] theorem State.modIface_groups (s : State) (v : Nat) (f : Iface → Iface) : (s.modIface v f).groups = s.groups := rfl
@[simp] theorem State.modIface_refresh (s : State) (v : Nat) (f : Iface → Iface) : (s.modIface v f).refresh = s.refresh := rfl
@[simp] theorem State.modIface_board (s : State) (v : Nat) (f : Iface → Iface) : (s.modIface v f).board = s.board := rfl
@[simp] theorem State.modIface_jobs (s : State) (v : Nat) (f : Iface → Iface) : (s.modIface v f).jobs = s.jobs := rfl
@[simp] theorem State.modIface_teams (s : State) (v : Nat) (f : Iface → Iface) : (s.modIface v f).teams = s.teams := rfl
@[simp] theorem State.modIface_allocs (s : State) (v : Nat) (f : Iface → Iface) : (s.modIface v f).allocs = s.allocs := rfl
@[simp] theorem State.modIface_units (s : State) (v : Nat) (f : Iface → Iface) : (s.modIface v f).units = s.units := rfl
@[simp] theorem State.modIface_contracts (s : State) (v : Nat) (f : Iface → Iface) : (s.modIface v f).contracts = s.contracts := rfl
@[simp] theorem State.modIface_pf (s : State) (v : Nat) (f : Iface → Iface) : (s.modIface v f).pf = s.pf := rfl
@[simp] theorem State.modIface_numVfs (s : State) (v : Nat) (f : Iface → Iface) : (s.modIface v f).numVfs = s.numVfs := rfl
@[simp] theorem State.modIface_msix (s : State) (v : Nat) (f : Iface → Iface) : (s.modIface v f).msix = s.msix := rfl
@[simp] theorem State.modIface_deliveries (s : State) (v : Nat) (f : Iface → Iface) : (s.modIface v f).deliveries = s.deliveries := rfl
@[simp] theorem State.modIface_conts (s : State) (v : Nat) (f : Iface → Iface) : (s.modIface v f).conts = s.conts := rfl
@[simp] theorem State.modIface_xreqs (s : State) (v : Nat) (f : Iface → Iface) : (s.modIface v f).xreqs = s.xreqs := rfl
@[simp] theorem State.modIface_pageQueue (s : State) (v : Nat) (f : Iface → Iface) : (s.modIface v f).pageQueue = s.pageQueue := rfl
@[simp] theorem State.modIface_priLimit (s : State) (v : Nat) (f : Iface → Iface) : (s.modIface v f).priLimit = s.priLimit := rfl
@[simp] theorem State.modIface_ioAtc (s : State) (v : Nat) (f : Iface → Iface) : (s.modIface v f).ioAtc = s.ioAtc := rfl
@[simp] theorem State.modIface_refusals (s : State) (v : Nat) (f : Iface → Iface) : (s.modIface v f).refusals = s.refusals := rfl
@[simp] theorem State.modIface_invals (s : State) (v : Nat) (f : Iface → Iface) : (s.modIface v f).invals = s.invals := rfl
@[simp] theorem State.modIface_invalsDone (s : State) (v : Nat) (f : Iface → Iface) : (s.modIface v f).invalsDone = s.invalsDone := rfl
@[simp] theorem State.modIface_module (s : State) (v : Nat) (f : Iface → Iface) : (s.modIface v f).module = s.module := rfl
@[simp] theorem State.modIface_fetched (s : State) (v : Nat) (f : Iface → Iface) : (s.modIface v f).fetched = s.fetched := rfl
@[simp] theorem State.modIface_links (s : State) (v : Nat) (f : Iface → Iface) : (s.modIface v f).links = s.links := rfl
@[simp] theorem State.modIface_filters (s : State) (v : Nat) (f : Iface → Iface) : (s.modIface v f).filters = s.filters := rfl
@[simp] theorem State.modIface_secure (s : State) (v : Nat) (f : Iface → Iface) : (s.modIface v f).secure = s.secure := rfl
@[simp] theorem State.modIface_i3c (s : State) (v : Nat) (f : Iface → Iface) : (s.modIface v f).i3c = s.i3c := rfl
@[simp] theorem State.modIface_migrations (s : State) (v : Nat) (f : Iface → Iface) : (s.modIface v f).migrations = s.migrations := rfl
@[simp] theorem State.modIface_records (s : State) (v : Nat) (f : Iface → Iface) : (s.modIface v f).records = s.records := rfl
@[simp] theorem State.modIface_rewrites (s : State) (v : Nat) (f : Iface → Iface) : (s.modIface v f).rewrites = s.rewrites := rfl
@[simp] theorem State.modIface_rr (s : State) (v : Nat) (f : Iface → Iface) : (s.modIface v f).rr = s.rr := rfl
@[simp] theorem State.modIface_handles (s : State) (v : Nat) (f : Iface → Iface) : (s.modIface v f).handles = s.handles := rfl
@[simp] theorem State.modIface_agenda (s : State) (v : Nat) (f : Iface → Iface) : (s.modIface v f).agenda = s.agenda := rfl
@[simp] theorem State.modIface_cur (s : State) (v : Nat) (f : Iface → Iface) : (s.modIface v f).cur = s.cur := rfl
@[simp] theorem State.modIface_freeCtr (s : State) (v : Nat) (f : Iface → Iface) : (s.modIface v f).freeCtr = s.freeCtr := rfl

@[simp] theorem State.modJob_cores (s : State) (j : Nat) (f : Job → Job) : (s.modJob j f).cores = s.cores := by unfold State.modJob; split <;> rfl
@[simp] theorem State.modJob_clusters (s : State) (j : Nat) (f : Job → Job) : (s.modJob j f).clusters = s.clusters := by unfold State.modJob; split <;> rfl
@[simp] theorem State.modJob_stk (s : State) (j : Nat) (f : Job → Job) : (s.modJob j f).stk = s.stk := by unfold State.modJob; split <;> rfl
@[simp] theorem State.modJob_mem (s : State) (j : Nat) (f : Job → Job) : (s.modJob j f).mem = s.mem := by unfold State.modJob; split <;> rfl
@[simp] theorem State.modJob_poison (s : State) (j : Nat) (f : Job → Job) : (s.modJob j f).poison = s.poison := by unfold State.modJob; split <;> rfl
@[simp] theorem State.modJob_l2 (s : State) (j : Nat) (f : Job → Job) : (s.modJob j f).l2 = s.l2 := by unfold State.modJob; split <;> rfl
@[simp] theorem State.modJob_hostMem (s : State) (j : Nat) (f : Job → Job) : (s.modJob j f).hostMem = s.hostMem := by unfold State.modJob; split <;> rfl
@[simp] theorem State.modJob_groups (s : State) (j : Nat) (f : Job → Job) : (s.modJob j f).groups = s.groups := by unfold State.modJob; split <;> rfl
@[simp] theorem State.modJob_refresh (s : State) (j : Nat) (f : Job → Job) : (s.modJob j f).refresh = s.refresh := by unfold State.modJob; split <;> rfl
@[simp] theorem State.modJob_board (s : State) (j : Nat) (f : Job → Job) : (s.modJob j f).board = s.board := by unfold State.modJob; split <;> rfl
@[simp] theorem State.modJob_teams (s : State) (j : Nat) (f : Job → Job) : (s.modJob j f).teams = s.teams := by unfold State.modJob; split <;> rfl
@[simp] theorem State.modJob_allocs (s : State) (j : Nat) (f : Job → Job) : (s.modJob j f).allocs = s.allocs := by unfold State.modJob; split <;> rfl
@[simp] theorem State.modJob_units (s : State) (j : Nat) (f : Job → Job) : (s.modJob j f).units = s.units := by unfold State.modJob; split <;> rfl
@[simp] theorem State.modJob_contracts (s : State) (j : Nat) (f : Job → Job) : (s.modJob j f).contracts = s.contracts := by unfold State.modJob; split <;> rfl
@[simp] theorem State.modJob_vis (s : State) (j : Nat) (f : Job → Job) : (s.modJob j f).vis = s.vis := by unfold State.modJob; split <;> rfl
@[simp] theorem State.modJob_pf (s : State) (j : Nat) (f : Job → Job) : (s.modJob j f).pf = s.pf := by unfold State.modJob; split <;> rfl
@[simp] theorem State.modJob_numVfs (s : State) (j : Nat) (f : Job → Job) : (s.modJob j f).numVfs = s.numVfs := by unfold State.modJob; split <;> rfl
@[simp] theorem State.modJob_msix (s : State) (j : Nat) (f : Job → Job) : (s.modJob j f).msix = s.msix := by unfold State.modJob; split <;> rfl
@[simp] theorem State.modJob_deliveries (s : State) (j : Nat) (f : Job → Job) : (s.modJob j f).deliveries = s.deliveries := by unfold State.modJob; split <;> rfl
@[simp] theorem State.modJob_conts (s : State) (j : Nat) (f : Job → Job) : (s.modJob j f).conts = s.conts := by unfold State.modJob; split <;> rfl
@[simp] theorem State.modJob_xreqs (s : State) (j : Nat) (f : Job → Job) : (s.modJob j f).xreqs = s.xreqs := by unfold State.modJob; split <;> rfl
@[simp] theorem State.modJob_pageQueue (s : State) (j : Nat) (f : Job → Job) : (s.modJob j f).pageQueue = s.pageQueue := by unfold State.modJob; split <;> rfl
@[simp] theorem State.modJob_priLimit (s : State) (j : Nat) (f : Job → Job) : (s.modJob j f).priLimit = s.priLimit := by unfold State.modJob; split <;> rfl
@[simp] theorem State.modJob_ioAtc (s : State) (j : Nat) (f : Job → Job) : (s.modJob j f).ioAtc = s.ioAtc := by unfold State.modJob; split <;> rfl
@[simp] theorem State.modJob_refusals (s : State) (j : Nat) (f : Job → Job) : (s.modJob j f).refusals = s.refusals := by unfold State.modJob; split <;> rfl
@[simp] theorem State.modJob_invals (s : State) (j : Nat) (f : Job → Job) : (s.modJob j f).invals = s.invals := by unfold State.modJob; split <;> rfl
@[simp] theorem State.modJob_invalsDone (s : State) (j : Nat) (f : Job → Job) : (s.modJob j f).invalsDone = s.invalsDone := by unfold State.modJob; split <;> rfl
@[simp] theorem State.modJob_module (s : State) (j : Nat) (f : Job → Job) : (s.modJob j f).module = s.module := by unfold State.modJob; split <;> rfl
@[simp] theorem State.modJob_fetched (s : State) (j : Nat) (f : Job → Job) : (s.modJob j f).fetched = s.fetched := by unfold State.modJob; split <;> rfl
@[simp] theorem State.modJob_links (s : State) (j : Nat) (f : Job → Job) : (s.modJob j f).links = s.links := by unfold State.modJob; split <;> rfl
@[simp] theorem State.modJob_filters (s : State) (j : Nat) (f : Job → Job) : (s.modJob j f).filters = s.filters := by unfold State.modJob; split <;> rfl
@[simp] theorem State.modJob_secure (s : State) (j : Nat) (f : Job → Job) : (s.modJob j f).secure = s.secure := by unfold State.modJob; split <;> rfl
@[simp] theorem State.modJob_i3c (s : State) (j : Nat) (f : Job → Job) : (s.modJob j f).i3c = s.i3c := by unfold State.modJob; split <;> rfl
@[simp] theorem State.modJob_migrations (s : State) (j : Nat) (f : Job → Job) : (s.modJob j f).migrations = s.migrations := by unfold State.modJob; split <;> rfl
@[simp] theorem State.modJob_records (s : State) (j : Nat) (f : Job → Job) : (s.modJob j f).records = s.records := by unfold State.modJob; split <;> rfl
@[simp] theorem State.modJob_rewrites (s : State) (j : Nat) (f : Job → Job) : (s.modJob j f).rewrites = s.rewrites := by unfold State.modJob; split <;> rfl
@[simp] theorem State.modJob_rr (s : State) (j : Nat) (f : Job → Job) : (s.modJob j f).rr = s.rr := by unfold State.modJob; split <;> rfl
@[simp] theorem State.modJob_handles (s : State) (j : Nat) (f : Job → Job) : (s.modJob j f).handles = s.handles := by unfold State.modJob; split <;> rfl
@[simp] theorem State.modJob_agenda (s : State) (j : Nat) (f : Job → Job) : (s.modJob j f).agenda = s.agenda := by unfold State.modJob; split <;> rfl
@[simp] theorem State.modJob_cur (s : State) (j : Nat) (f : Job → Job) : (s.modJob j f).cur = s.cur := by unfold State.modJob; split <;> rfl
@[simp] theorem State.modJob_freeCtr (s : State) (j : Nat) (f : Job → Job) : (s.modJob j f).freeCtr = s.freeCtr := by unfold State.modJob; split <;> rfl

@[simp] theorem State.modTeam_cores (s : State) (t : Nat) (f : Team → Team) : (s.modTeam t f).cores = s.cores := by unfold State.modTeam; split <;> rfl
@[simp] theorem State.modTeam_clusters (s : State) (t : Nat) (f : Team → Team) : (s.modTeam t f).clusters = s.clusters := by unfold State.modTeam; split <;> rfl
@[simp] theorem State.modTeam_stk (s : State) (t : Nat) (f : Team → Team) : (s.modTeam t f).stk = s.stk := by unfold State.modTeam; split <;> rfl
@[simp] theorem State.modTeam_mem (s : State) (t : Nat) (f : Team → Team) : (s.modTeam t f).mem = s.mem := by unfold State.modTeam; split <;> rfl
@[simp] theorem State.modTeam_poison (s : State) (t : Nat) (f : Team → Team) : (s.modTeam t f).poison = s.poison := by unfold State.modTeam; split <;> rfl
@[simp] theorem State.modTeam_l2 (s : State) (t : Nat) (f : Team → Team) : (s.modTeam t f).l2 = s.l2 := by unfold State.modTeam; split <;> rfl
@[simp] theorem State.modTeam_hostMem (s : State) (t : Nat) (f : Team → Team) : (s.modTeam t f).hostMem = s.hostMem := by unfold State.modTeam; split <;> rfl
@[simp] theorem State.modTeam_groups (s : State) (t : Nat) (f : Team → Team) : (s.modTeam t f).groups = s.groups := by unfold State.modTeam; split <;> rfl
@[simp] theorem State.modTeam_refresh (s : State) (t : Nat) (f : Team → Team) : (s.modTeam t f).refresh = s.refresh := by unfold State.modTeam; split <;> rfl
@[simp] theorem State.modTeam_board (s : State) (t : Nat) (f : Team → Team) : (s.modTeam t f).board = s.board := by unfold State.modTeam; split <;> rfl
@[simp] theorem State.modTeam_jobs (s : State) (t : Nat) (f : Team → Team) : (s.modTeam t f).jobs = s.jobs := by unfold State.modTeam; split <;> rfl
@[simp] theorem State.modTeam_allocs (s : State) (t : Nat) (f : Team → Team) : (s.modTeam t f).allocs = s.allocs := by unfold State.modTeam; split <;> rfl
@[simp] theorem State.modTeam_units (s : State) (t : Nat) (f : Team → Team) : (s.modTeam t f).units = s.units := by unfold State.modTeam; split <;> rfl
@[simp] theorem State.modTeam_contracts (s : State) (t : Nat) (f : Team → Team) : (s.modTeam t f).contracts = s.contracts := by unfold State.modTeam; split <;> rfl
@[simp] theorem State.modTeam_vis (s : State) (t : Nat) (f : Team → Team) : (s.modTeam t f).vis = s.vis := by unfold State.modTeam; split <;> rfl
@[simp] theorem State.modTeam_pf (s : State) (t : Nat) (f : Team → Team) : (s.modTeam t f).pf = s.pf := by unfold State.modTeam; split <;> rfl
@[simp] theorem State.modTeam_numVfs (s : State) (t : Nat) (f : Team → Team) : (s.modTeam t f).numVfs = s.numVfs := by unfold State.modTeam; split <;> rfl
@[simp] theorem State.modTeam_msix (s : State) (t : Nat) (f : Team → Team) : (s.modTeam t f).msix = s.msix := by unfold State.modTeam; split <;> rfl
@[simp] theorem State.modTeam_deliveries (s : State) (t : Nat) (f : Team → Team) : (s.modTeam t f).deliveries = s.deliveries := by unfold State.modTeam; split <;> rfl
@[simp] theorem State.modTeam_conts (s : State) (t : Nat) (f : Team → Team) : (s.modTeam t f).conts = s.conts := by unfold State.modTeam; split <;> rfl
@[simp] theorem State.modTeam_xreqs (s : State) (t : Nat) (f : Team → Team) : (s.modTeam t f).xreqs = s.xreqs := by unfold State.modTeam; split <;> rfl
@[simp] theorem State.modTeam_pageQueue (s : State) (t : Nat) (f : Team → Team) : (s.modTeam t f).pageQueue = s.pageQueue := by unfold State.modTeam; split <;> rfl
@[simp] theorem State.modTeam_priLimit (s : State) (t : Nat) (f : Team → Team) : (s.modTeam t f).priLimit = s.priLimit := by unfold State.modTeam; split <;> rfl
@[simp] theorem State.modTeam_ioAtc (s : State) (t : Nat) (f : Team → Team) : (s.modTeam t f).ioAtc = s.ioAtc := by unfold State.modTeam; split <;> rfl
@[simp] theorem State.modTeam_refusals (s : State) (t : Nat) (f : Team → Team) : (s.modTeam t f).refusals = s.refusals := by unfold State.modTeam; split <;> rfl
@[simp] theorem State.modTeam_invals (s : State) (t : Nat) (f : Team → Team) : (s.modTeam t f).invals = s.invals := by unfold State.modTeam; split <;> rfl
@[simp] theorem State.modTeam_invalsDone (s : State) (t : Nat) (f : Team → Team) : (s.modTeam t f).invalsDone = s.invalsDone := by unfold State.modTeam; split <;> rfl
@[simp] theorem State.modTeam_module (s : State) (t : Nat) (f : Team → Team) : (s.modTeam t f).module = s.module := by unfold State.modTeam; split <;> rfl
@[simp] theorem State.modTeam_fetched (s : State) (t : Nat) (f : Team → Team) : (s.modTeam t f).fetched = s.fetched := by unfold State.modTeam; split <;> rfl
@[simp] theorem State.modTeam_links (s : State) (t : Nat) (f : Team → Team) : (s.modTeam t f).links = s.links := by unfold State.modTeam; split <;> rfl
@[simp] theorem State.modTeam_filters (s : State) (t : Nat) (f : Team → Team) : (s.modTeam t f).filters = s.filters := by unfold State.modTeam; split <;> rfl
@[simp] theorem State.modTeam_secure (s : State) (t : Nat) (f : Team → Team) : (s.modTeam t f).secure = s.secure := by unfold State.modTeam; split <;> rfl
@[simp] theorem State.modTeam_i3c (s : State) (t : Nat) (f : Team → Team) : (s.modTeam t f).i3c = s.i3c := by unfold State.modTeam; split <;> rfl
@[simp] theorem State.modTeam_migrations (s : State) (t : Nat) (f : Team → Team) : (s.modTeam t f).migrations = s.migrations := by unfold State.modTeam; split <;> rfl
@[simp] theorem State.modTeam_records (s : State) (t : Nat) (f : Team → Team) : (s.modTeam t f).records = s.records := by unfold State.modTeam; split <;> rfl
@[simp] theorem State.modTeam_rewrites (s : State) (t : Nat) (f : Team → Team) : (s.modTeam t f).rewrites = s.rewrites := by unfold State.modTeam; split <;> rfl
@[simp] theorem State.modTeam_rr (s : State) (t : Nat) (f : Team → Team) : (s.modTeam t f).rr = s.rr := by unfold State.modTeam; split <;> rfl
@[simp] theorem State.modTeam_handles (s : State) (t : Nat) (f : Team → Team) : (s.modTeam t f).handles = s.handles := by unfold State.modTeam; split <;> rfl
@[simp] theorem State.modTeam_agenda (s : State) (t : Nat) (f : Team → Team) : (s.modTeam t f).agenda = s.agenda := by unfold State.modTeam; split <;> rfl
@[simp] theorem State.modTeam_cur (s : State) (t : Nat) (f : Team → Team) : (s.modTeam t f).cur = s.cur := by unfold State.modTeam; split <;> rfl
@[simp] theorem State.modTeam_freeCtr (s : State) (t : Nat) (f : Team → Team) : (s.modTeam t f).freeCtr = s.freeCtr := by unfold State.modTeam; split <;> rfl

@[simp] theorem State.modAlloc_cores (s : State) (a : Nat) (f : Alloc → Alloc) : (s.modAlloc a f).cores = s.cores := by unfold State.modAlloc; split <;> rfl
@[simp] theorem State.modAlloc_clusters (s : State) (a : Nat) (f : Alloc → Alloc) : (s.modAlloc a f).clusters = s.clusters := by unfold State.modAlloc; split <;> rfl
@[simp] theorem State.modAlloc_stk (s : State) (a : Nat) (f : Alloc → Alloc) : (s.modAlloc a f).stk = s.stk := by unfold State.modAlloc; split <;> rfl
@[simp] theorem State.modAlloc_mem (s : State) (a : Nat) (f : Alloc → Alloc) : (s.modAlloc a f).mem = s.mem := by unfold State.modAlloc; split <;> rfl
@[simp] theorem State.modAlloc_poison (s : State) (a : Nat) (f : Alloc → Alloc) : (s.modAlloc a f).poison = s.poison := by unfold State.modAlloc; split <;> rfl
@[simp] theorem State.modAlloc_l2 (s : State) (a : Nat) (f : Alloc → Alloc) : (s.modAlloc a f).l2 = s.l2 := by unfold State.modAlloc; split <;> rfl
@[simp] theorem State.modAlloc_hostMem (s : State) (a : Nat) (f : Alloc → Alloc) : (s.modAlloc a f).hostMem = s.hostMem := by unfold State.modAlloc; split <;> rfl
@[simp] theorem State.modAlloc_groups (s : State) (a : Nat) (f : Alloc → Alloc) : (s.modAlloc a f).groups = s.groups := by unfold State.modAlloc; split <;> rfl
@[simp] theorem State.modAlloc_refresh (s : State) (a : Nat) (f : Alloc → Alloc) : (s.modAlloc a f).refresh = s.refresh := by unfold State.modAlloc; split <;> rfl
@[simp] theorem State.modAlloc_board (s : State) (a : Nat) (f : Alloc → Alloc) : (s.modAlloc a f).board = s.board := by unfold State.modAlloc; split <;> rfl
@[simp] theorem State.modAlloc_jobs (s : State) (a : Nat) (f : Alloc → Alloc) : (s.modAlloc a f).jobs = s.jobs := by unfold State.modAlloc; split <;> rfl
@[simp] theorem State.modAlloc_teams (s : State) (a : Nat) (f : Alloc → Alloc) : (s.modAlloc a f).teams = s.teams := by unfold State.modAlloc; split <;> rfl
@[simp] theorem State.modAlloc_units (s : State) (a : Nat) (f : Alloc → Alloc) : (s.modAlloc a f).units = s.units := by unfold State.modAlloc; split <;> rfl
@[simp] theorem State.modAlloc_contracts (s : State) (a : Nat) (f : Alloc → Alloc) : (s.modAlloc a f).contracts = s.contracts := by unfold State.modAlloc; split <;> rfl
@[simp] theorem State.modAlloc_vis (s : State) (a : Nat) (f : Alloc → Alloc) : (s.modAlloc a f).vis = s.vis := by unfold State.modAlloc; split <;> rfl
@[simp] theorem State.modAlloc_pf (s : State) (a : Nat) (f : Alloc → Alloc) : (s.modAlloc a f).pf = s.pf := by unfold State.modAlloc; split <;> rfl
@[simp] theorem State.modAlloc_numVfs (s : State) (a : Nat) (f : Alloc → Alloc) : (s.modAlloc a f).numVfs = s.numVfs := by unfold State.modAlloc; split <;> rfl
@[simp] theorem State.modAlloc_msix (s : State) (a : Nat) (f : Alloc → Alloc) : (s.modAlloc a f).msix = s.msix := by unfold State.modAlloc; split <;> rfl
@[simp] theorem State.modAlloc_deliveries (s : State) (a : Nat) (f : Alloc → Alloc) : (s.modAlloc a f).deliveries = s.deliveries := by unfold State.modAlloc; split <;> rfl
@[simp] theorem State.modAlloc_conts (s : State) (a : Nat) (f : Alloc → Alloc) : (s.modAlloc a f).conts = s.conts := by unfold State.modAlloc; split <;> rfl
@[simp] theorem State.modAlloc_xreqs (s : State) (a : Nat) (f : Alloc → Alloc) : (s.modAlloc a f).xreqs = s.xreqs := by unfold State.modAlloc; split <;> rfl
@[simp] theorem State.modAlloc_pageQueue (s : State) (a : Nat) (f : Alloc → Alloc) : (s.modAlloc a f).pageQueue = s.pageQueue := by unfold State.modAlloc; split <;> rfl
@[simp] theorem State.modAlloc_priLimit (s : State) (a : Nat) (f : Alloc → Alloc) : (s.modAlloc a f).priLimit = s.priLimit := by unfold State.modAlloc; split <;> rfl
@[simp] theorem State.modAlloc_ioAtc (s : State) (a : Nat) (f : Alloc → Alloc) : (s.modAlloc a f).ioAtc = s.ioAtc := by unfold State.modAlloc; split <;> rfl
@[simp] theorem State.modAlloc_refusals (s : State) (a : Nat) (f : Alloc → Alloc) : (s.modAlloc a f).refusals = s.refusals := by unfold State.modAlloc; split <;> rfl
@[simp] theorem State.modAlloc_invals (s : State) (a : Nat) (f : Alloc → Alloc) : (s.modAlloc a f).invals = s.invals := by unfold State.modAlloc; split <;> rfl
@[simp] theorem State.modAlloc_invalsDone (s : State) (a : Nat) (f : Alloc → Alloc) : (s.modAlloc a f).invalsDone = s.invalsDone := by unfold State.modAlloc; split <;> rfl
@[simp] theorem State.modAlloc_module (s : State) (a : Nat) (f : Alloc → Alloc) : (s.modAlloc a f).module = s.module := by unfold State.modAlloc; split <;> rfl
@[simp] theorem State.modAlloc_fetched (s : State) (a : Nat) (f : Alloc → Alloc) : (s.modAlloc a f).fetched = s.fetched := by unfold State.modAlloc; split <;> rfl
@[simp] theorem State.modAlloc_links (s : State) (a : Nat) (f : Alloc → Alloc) : (s.modAlloc a f).links = s.links := by unfold State.modAlloc; split <;> rfl
@[simp] theorem State.modAlloc_filters (s : State) (a : Nat) (f : Alloc → Alloc) : (s.modAlloc a f).filters = s.filters := by unfold State.modAlloc; split <;> rfl
@[simp] theorem State.modAlloc_secure (s : State) (a : Nat) (f : Alloc → Alloc) : (s.modAlloc a f).secure = s.secure := by unfold State.modAlloc; split <;> rfl
@[simp] theorem State.modAlloc_i3c (s : State) (a : Nat) (f : Alloc → Alloc) : (s.modAlloc a f).i3c = s.i3c := by unfold State.modAlloc; split <;> rfl
@[simp] theorem State.modAlloc_migrations (s : State) (a : Nat) (f : Alloc → Alloc) : (s.modAlloc a f).migrations = s.migrations := by unfold State.modAlloc; split <;> rfl
@[simp] theorem State.modAlloc_records (s : State) (a : Nat) (f : Alloc → Alloc) : (s.modAlloc a f).records = s.records := by unfold State.modAlloc; split <;> rfl
@[simp] theorem State.modAlloc_rewrites (s : State) (a : Nat) (f : Alloc → Alloc) : (s.modAlloc a f).rewrites = s.rewrites := by unfold State.modAlloc; split <;> rfl
@[simp] theorem State.modAlloc_rr (s : State) (a : Nat) (f : Alloc → Alloc) : (s.modAlloc a f).rr = s.rr := by unfold State.modAlloc; split <;> rfl
@[simp] theorem State.modAlloc_handles (s : State) (a : Nat) (f : Alloc → Alloc) : (s.modAlloc a f).handles = s.handles := by unfold State.modAlloc; split <;> rfl
@[simp] theorem State.modAlloc_agenda (s : State) (a : Nat) (f : Alloc → Alloc) : (s.modAlloc a f).agenda = s.agenda := by unfold State.modAlloc; split <;> rfl
@[simp] theorem State.modAlloc_cur (s : State) (a : Nat) (f : Alloc → Alloc) : (s.modAlloc a f).cur = s.cur := by unfold State.modAlloc; split <;> rfl
@[simp] theorem State.modAlloc_freeCtr (s : State) (a : Nat) (f : Alloc → Alloc) : (s.modAlloc a f).freeCtr = s.freeCtr := by unfold State.modAlloc; split <;> rfl

@[simp] theorem State.modWave_clusters (s : State) (c k : Nat) (f : Wave → Wave) : (s.modWave c k f).clusters = s.clusters := by unfold State.modWave; split <;> rfl
@[simp] theorem State.modWave_stk (s : State) (c k : Nat) (f : Wave → Wave) : (s.modWave c k f).stk = s.stk := by unfold State.modWave; split <;> rfl
@[simp] theorem State.modWave_mem (s : State) (c k : Nat) (f : Wave → Wave) : (s.modWave c k f).mem = s.mem := by unfold State.modWave; split <;> rfl
@[simp] theorem State.modWave_poison (s : State) (c k : Nat) (f : Wave → Wave) : (s.modWave c k f).poison = s.poison := by unfold State.modWave; split <;> rfl
@[simp] theorem State.modWave_l2 (s : State) (c k : Nat) (f : Wave → Wave) : (s.modWave c k f).l2 = s.l2 := by unfold State.modWave; split <;> rfl
@[simp] theorem State.modWave_hostMem (s : State) (c k : Nat) (f : Wave → Wave) : (s.modWave c k f).hostMem = s.hostMem := by unfold State.modWave; split <;> rfl
@[simp] theorem State.modWave_groups (s : State) (c k : Nat) (f : Wave → Wave) : (s.modWave c k f).groups = s.groups := by unfold State.modWave; split <;> rfl
@[simp] theorem State.modWave_refresh (s : State) (c k : Nat) (f : Wave → Wave) : (s.modWave c k f).refresh = s.refresh := by unfold State.modWave; split <;> rfl
@[simp] theorem State.modWave_board (s : State) (c k : Nat) (f : Wave → Wave) : (s.modWave c k f).board = s.board := by unfold State.modWave; split <;> rfl
@[simp] theorem State.modWave_jobs (s : State) (c k : Nat) (f : Wave → Wave) : (s.modWave c k f).jobs = s.jobs := by unfold State.modWave; split <;> rfl
@[simp] theorem State.modWave_teams (s : State) (c k : Nat) (f : Wave → Wave) : (s.modWave c k f).teams = s.teams := by unfold State.modWave; split <;> rfl
@[simp] theorem State.modWave_allocs (s : State) (c k : Nat) (f : Wave → Wave) : (s.modWave c k f).allocs = s.allocs := by unfold State.modWave; split <;> rfl
@[simp] theorem State.modWave_units (s : State) (c k : Nat) (f : Wave → Wave) : (s.modWave c k f).units = s.units := by unfold State.modWave; split <;> rfl
@[simp] theorem State.modWave_contracts (s : State) (c k : Nat) (f : Wave → Wave) : (s.modWave c k f).contracts = s.contracts := by unfold State.modWave; split <;> rfl
@[simp] theorem State.modWave_vis (s : State) (c k : Nat) (f : Wave → Wave) : (s.modWave c k f).vis = s.vis := by unfold State.modWave; split <;> rfl
@[simp] theorem State.modWave_pf (s : State) (c k : Nat) (f : Wave → Wave) : (s.modWave c k f).pf = s.pf := by unfold State.modWave; split <;> rfl
@[simp] theorem State.modWave_numVfs (s : State) (c k : Nat) (f : Wave → Wave) : (s.modWave c k f).numVfs = s.numVfs := by unfold State.modWave; split <;> rfl
@[simp] theorem State.modWave_msix (s : State) (c k : Nat) (f : Wave → Wave) : (s.modWave c k f).msix = s.msix := by unfold State.modWave; split <;> rfl
@[simp] theorem State.modWave_deliveries (s : State) (c k : Nat) (f : Wave → Wave) : (s.modWave c k f).deliveries = s.deliveries := by unfold State.modWave; split <;> rfl
@[simp] theorem State.modWave_conts (s : State) (c k : Nat) (f : Wave → Wave) : (s.modWave c k f).conts = s.conts := by unfold State.modWave; split <;> rfl
@[simp] theorem State.modWave_xreqs (s : State) (c k : Nat) (f : Wave → Wave) : (s.modWave c k f).xreqs = s.xreqs := by unfold State.modWave; split <;> rfl
@[simp] theorem State.modWave_pageQueue (s : State) (c k : Nat) (f : Wave → Wave) : (s.modWave c k f).pageQueue = s.pageQueue := by unfold State.modWave; split <;> rfl
@[simp] theorem State.modWave_priLimit (s : State) (c k : Nat) (f : Wave → Wave) : (s.modWave c k f).priLimit = s.priLimit := by unfold State.modWave; split <;> rfl
@[simp] theorem State.modWave_ioAtc (s : State) (c k : Nat) (f : Wave → Wave) : (s.modWave c k f).ioAtc = s.ioAtc := by unfold State.modWave; split <;> rfl
@[simp] theorem State.modWave_refusals (s : State) (c k : Nat) (f : Wave → Wave) : (s.modWave c k f).refusals = s.refusals := by unfold State.modWave; split <;> rfl
@[simp] theorem State.modWave_invals (s : State) (c k : Nat) (f : Wave → Wave) : (s.modWave c k f).invals = s.invals := by unfold State.modWave; split <;> rfl
@[simp] theorem State.modWave_invalsDone (s : State) (c k : Nat) (f : Wave → Wave) : (s.modWave c k f).invalsDone = s.invalsDone := by unfold State.modWave; split <;> rfl
@[simp] theorem State.modWave_module (s : State) (c k : Nat) (f : Wave → Wave) : (s.modWave c k f).module = s.module := by unfold State.modWave; split <;> rfl
@[simp] theorem State.modWave_fetched (s : State) (c k : Nat) (f : Wave → Wave) : (s.modWave c k f).fetched = s.fetched := by unfold State.modWave; split <;> rfl
@[simp] theorem State.modWave_links (s : State) (c k : Nat) (f : Wave → Wave) : (s.modWave c k f).links = s.links := by unfold State.modWave; split <;> rfl
@[simp] theorem State.modWave_filters (s : State) (c k : Nat) (f : Wave → Wave) : (s.modWave c k f).filters = s.filters := by unfold State.modWave; split <;> rfl
@[simp] theorem State.modWave_secure (s : State) (c k : Nat) (f : Wave → Wave) : (s.modWave c k f).secure = s.secure := by unfold State.modWave; split <;> rfl
@[simp] theorem State.modWave_i3c (s : State) (c k : Nat) (f : Wave → Wave) : (s.modWave c k f).i3c = s.i3c := by unfold State.modWave; split <;> rfl
@[simp] theorem State.modWave_migrations (s : State) (c k : Nat) (f : Wave → Wave) : (s.modWave c k f).migrations = s.migrations := by unfold State.modWave; split <;> rfl
@[simp] theorem State.modWave_records (s : State) (c k : Nat) (f : Wave → Wave) : (s.modWave c k f).records = s.records := by unfold State.modWave; split <;> rfl
@[simp] theorem State.modWave_rewrites (s : State) (c k : Nat) (f : Wave → Wave) : (s.modWave c k f).rewrites = s.rewrites := by unfold State.modWave; split <;> rfl
@[simp] theorem State.modWave_rr (s : State) (c k : Nat) (f : Wave → Wave) : (s.modWave c k f).rr = s.rr := by unfold State.modWave; split <;> rfl
@[simp] theorem State.modWave_handles (s : State) (c k : Nat) (f : Wave → Wave) : (s.modWave c k f).handles = s.handles := by unfold State.modWave; split <;> rfl
@[simp] theorem State.modWave_agenda (s : State) (c k : Nat) (f : Wave → Wave) : (s.modWave c k f).agenda = s.agenda := by unfold State.modWave; split <;> rfl
@[simp] theorem State.modWave_cur (s : State) (c k : Nat) (f : Wave → Wave) : (s.modWave c k f).cur = s.cur := by unfold State.modWave; split <;> rfl
@[simp] theorem State.modWave_freeCtr (s : State) (c k : Nat) (f : Wave → Wave) : (s.modWave c k f).freeCtr = s.freeCtr := by unfold State.modWave; split <;> rfl

@[simp] theorem State.modArm_clusters (s : State) (r : ArmRef) (f : Arm → Arm) : (s.modArm r f).clusters = s.clusters := by simp [State.modArm]
@[simp] theorem State.modArm_stk (s : State) (r : ArmRef) (f : Arm → Arm) : (s.modArm r f).stk = s.stk := by simp [State.modArm]
@[simp] theorem State.modArm_mem (s : State) (r : ArmRef) (f : Arm → Arm) : (s.modArm r f).mem = s.mem := by simp [State.modArm]
@[simp] theorem State.modArm_poison (s : State) (r : ArmRef) (f : Arm → Arm) : (s.modArm r f).poison = s.poison := by simp [State.modArm]
@[simp] theorem State.modArm_l2 (s : State) (r : ArmRef) (f : Arm → Arm) : (s.modArm r f).l2 = s.l2 := by simp [State.modArm]
@[simp] theorem State.modArm_hostMem (s : State) (r : ArmRef) (f : Arm → Arm) : (s.modArm r f).hostMem = s.hostMem := by simp [State.modArm]
@[simp] theorem State.modArm_groups (s : State) (r : ArmRef) (f : Arm → Arm) : (s.modArm r f).groups = s.groups := by simp [State.modArm]
@[simp] theorem State.modArm_refresh (s : State) (r : ArmRef) (f : Arm → Arm) : (s.modArm r f).refresh = s.refresh := by simp [State.modArm]
@[simp] theorem State.modArm_board (s : State) (r : ArmRef) (f : Arm → Arm) : (s.modArm r f).board = s.board := by simp [State.modArm]
@[simp] theorem State.modArm_jobs (s : State) (r : ArmRef) (f : Arm → Arm) : (s.modArm r f).jobs = s.jobs := by simp [State.modArm]
@[simp] theorem State.modArm_teams (s : State) (r : ArmRef) (f : Arm → Arm) : (s.modArm r f).teams = s.teams := by simp [State.modArm]
@[simp] theorem State.modArm_allocs (s : State) (r : ArmRef) (f : Arm → Arm) : (s.modArm r f).allocs = s.allocs := by simp [State.modArm]
@[simp] theorem State.modArm_units (s : State) (r : ArmRef) (f : Arm → Arm) : (s.modArm r f).units = s.units := by simp [State.modArm]
@[simp] theorem State.modArm_contracts (s : State) (r : ArmRef) (f : Arm → Arm) : (s.modArm r f).contracts = s.contracts := by simp [State.modArm]
@[simp] theorem State.modArm_vis (s : State) (r : ArmRef) (f : Arm → Arm) : (s.modArm r f).vis = s.vis := by simp [State.modArm]
@[simp] theorem State.modArm_pf (s : State) (r : ArmRef) (f : Arm → Arm) : (s.modArm r f).pf = s.pf := by simp [State.modArm]
@[simp] theorem State.modArm_numVfs (s : State) (r : ArmRef) (f : Arm → Arm) : (s.modArm r f).numVfs = s.numVfs := by simp [State.modArm]
@[simp] theorem State.modArm_msix (s : State) (r : ArmRef) (f : Arm → Arm) : (s.modArm r f).msix = s.msix := by simp [State.modArm]
@[simp] theorem State.modArm_deliveries (s : State) (r : ArmRef) (f : Arm → Arm) : (s.modArm r f).deliveries = s.deliveries := by simp [State.modArm]
@[simp] theorem State.modArm_conts (s : State) (r : ArmRef) (f : Arm → Arm) : (s.modArm r f).conts = s.conts := by simp [State.modArm]
@[simp] theorem State.modArm_xreqs (s : State) (r : ArmRef) (f : Arm → Arm) : (s.modArm r f).xreqs = s.xreqs := by simp [State.modArm]
@[simp] theorem State.modArm_pageQueue (s : State) (r : ArmRef) (f : Arm → Arm) : (s.modArm r f).pageQueue = s.pageQueue := by simp [State.modArm]
@[simp] theorem State.modArm_priLimit (s : State) (r : ArmRef) (f : Arm → Arm) : (s.modArm r f).priLimit = s.priLimit := by simp [State.modArm]
@[simp] theorem State.modArm_ioAtc (s : State) (r : ArmRef) (f : Arm → Arm) : (s.modArm r f).ioAtc = s.ioAtc := by simp [State.modArm]
@[simp] theorem State.modArm_refusals (s : State) (r : ArmRef) (f : Arm → Arm) : (s.modArm r f).refusals = s.refusals := by simp [State.modArm]
@[simp] theorem State.modArm_invals (s : State) (r : ArmRef) (f : Arm → Arm) : (s.modArm r f).invals = s.invals := by simp [State.modArm]
@[simp] theorem State.modArm_invalsDone (s : State) (r : ArmRef) (f : Arm → Arm) : (s.modArm r f).invalsDone = s.invalsDone := by simp [State.modArm]
@[simp] theorem State.modArm_module (s : State) (r : ArmRef) (f : Arm → Arm) : (s.modArm r f).module = s.module := by simp [State.modArm]
@[simp] theorem State.modArm_fetched (s : State) (r : ArmRef) (f : Arm → Arm) : (s.modArm r f).fetched = s.fetched := by simp [State.modArm]
@[simp] theorem State.modArm_links (s : State) (r : ArmRef) (f : Arm → Arm) : (s.modArm r f).links = s.links := by simp [State.modArm]
@[simp] theorem State.modArm_filters (s : State) (r : ArmRef) (f : Arm → Arm) : (s.modArm r f).filters = s.filters := by simp [State.modArm]
@[simp] theorem State.modArm_secure (s : State) (r : ArmRef) (f : Arm → Arm) : (s.modArm r f).secure = s.secure := by simp [State.modArm]
@[simp] theorem State.modArm_i3c (s : State) (r : ArmRef) (f : Arm → Arm) : (s.modArm r f).i3c = s.i3c := by simp [State.modArm]
@[simp] theorem State.modArm_migrations (s : State) (r : ArmRef) (f : Arm → Arm) : (s.modArm r f).migrations = s.migrations := by simp [State.modArm]
@[simp] theorem State.modArm_records (s : State) (r : ArmRef) (f : Arm → Arm) : (s.modArm r f).records = s.records := by simp [State.modArm]
@[simp] theorem State.modArm_rewrites (s : State) (r : ArmRef) (f : Arm → Arm) : (s.modArm r f).rewrites = s.rewrites := by simp [State.modArm]
@[simp] theorem State.modArm_rr (s : State) (r : ArmRef) (f : Arm → Arm) : (s.modArm r f).rr = s.rr := by simp [State.modArm]
@[simp] theorem State.modArm_handles (s : State) (r : ArmRef) (f : Arm → Arm) : (s.modArm r f).handles = s.handles := by simp [State.modArm]
@[simp] theorem State.modArm_agenda (s : State) (r : ArmRef) (f : Arm → Arm) : (s.modArm r f).agenda = s.agenda := by simp [State.modArm]
@[simp] theorem State.modArm_cur (s : State) (r : ArmRef) (f : Arm → Arm) : (s.modArm r f).cur = s.cur := by simp [State.modArm]
@[simp] theorem State.modArm_freeCtr (s : State) (r : ArmRef) (f : Arm → Arm) : (s.modArm r f).freeCtr = s.freeCtr := by simp [State.modArm]

@[simp] theorem Wave.setS_uid (w : Wave) (n : Nat) (x : Word) : (w.setS n x).uid = w.uid := rfl
@[simp] theorem Wave.setS_tid (w : Wave) (n : Nat) (x : Word) : (w.setS n x).tid = w.tid := rfl
@[simp] theorem Wave.setS_idx (w : Wave) (n : Nat) (x : Word) : (w.setS n x).idx = w.idx := rfl
@[simp] theorem Wave.setS_isTask (w : Wave) (n : Nat) (x : Word) : (w.setS n x).isTask = w.isTask := rfl
@[simp] theorem Wave.setS_handler (w : Wave) (n : Nat) (x : Word) : (w.setS n x).handler = w.handler := rfl
@[simp] theorem Wave.setS_vregN (w : Wave) (n : Nat) (x : Word) : (w.setS n x).vregN = w.vregN := rfl
@[simp] theorem Wave.setS_sregN (w : Wave) (n : Nat) (x : Word) : (w.setS n x).sregN = w.sregN := rfl
@[simp] theorem Wave.setS_v (w : Wave) (n : Nat) (x : Word) : (w.setS n x).v = w.v := rfl
@[simp] theorem Wave.setS_p (w : Wave) (n : Nat) (x : Word) : (w.setS n x).p = w.p := rfl
@[simp] theorem Wave.setS_mode (w : Wave) (n : Nat) (x : Word) : (w.setS n x).mode = w.mode := rfl
@[simp] theorem Wave.setS_mode0 (w : Wave) (n : Nat) (x : Word) : (w.setS n x).mode0 = w.mode0 := rfl
@[simp] theorem Wave.setS_old (w : Wave) (n : Nat) (x : Word) : (w.setS n x).old = w.old := rfl
@[simp] theorem Wave.setS_flags (w : Wave) (n : Nat) (x : Word) : (w.setS n x).flags = w.flags := rfl
@[simp] theorem Wave.setS_ltile (w : Wave) (n : Nat) (x : Word) : (w.setS n x).ltile = w.ltile := rfl
@[simp] theorem Wave.setS_ltile0 (w : Wave) (n : Nat) (x : Word) : (w.setS n x).ltile0 = w.ltile0 := rfl
@[simp] theorem Wave.setS_opened (w : Wave) (n : Nat) (x : Word) : (w.setS n x).opened = w.opened := rfl
@[simp] theorem Wave.setS_etrap (w : Wave) (n : Nat) (x : Word) : (w.setS n x).etrap = w.etrap := rfl
@[simp] theorem Wave.setS_tfutl (w : Wave) (n : Nat) (x : Word) : (w.setS n x).tfutl = w.tfutl := rfl
@[simp] theorem Wave.setS_tfuth (w : Wave) (n : Nat) (x : Word) : (w.setS n x).tfuth = w.tfuth := rfl
@[simp] theorem Wave.setS_fcause (w : Wave) (n : Nat) (x : Word) : (w.setS n x).fcause = w.fcause := rfl
@[simp] theorem Wave.setS_faddl (w : Wave) (n : Nat) (x : Word) : (w.setS n x).faddl = w.faddl := rfl
@[simp] theorem Wave.setS_faddh (w : Wave) (n : Nat) (x : Word) : (w.setS n x).faddh = w.faddh := rfl
@[simp] theorem Wave.setS_pres (w : Wave) (n : Nat) (x : Word) : (w.setS n x).pres = w.pres := rfl
@[simp] theorem Wave.setS_aband (w : Wave) (n : Nat) (x : Word) : (w.setS n x).aband = w.aband := rfl
@[simp] theorem Wave.setS_cycCap (w : Wave) (n : Nat) (x : Word) : (w.setS n x).cycCap = w.cycCap := rfl
@[simp] theorem Wave.setS_arms (w : Wave) (n : Nat) (x : Word) : (w.setS n x).arms = w.arms := rfl
@[simp] theorem Wave.setS_stack (w : Wave) (n : Nat) (x : Word) : (w.setS n x).stack = w.stack := rfl
@[simp] theorem Wave.setS_groups (w : Wave) (n : Nat) (x : Word) : (w.setS n x).groups = w.groups := rfl
@[simp] theorem Wave.setS_nextGrp (w : Wave) (n : Nat) (x : Word) : (w.setS n x).nextGrp = w.nextGrp := rfl
@[simp] theorem Wave.setS_sEmpty (w : Wave) (n : Nat) (x : Word) : (w.setS n x).sEmpty = w.sEmpty := rfl
@[simp] theorem Wave.setS_pHeld (w : Wave) (n : Nat) (x : Word) : (w.setS n x).pHeld = w.pHeld := rfl
@[simp] theorem Wave.setS_inflight (w : Wave) (n : Nat) (x : Word) : (w.setS n x).inflight = w.inflight := rfl
@[simp] theorem Wave.setS_arrived (w : Wave) (n : Nat) (x : Word) : (w.setS n x).arrived = w.arrived := rfl
@[simp] theorem Wave.setS_ports (w : Wave) (n : Nat) (x : Word) : (w.setS n x).ports = w.ports := rfl
@[simp] theorem Wave.setS_tag (w : Wave) (n : Nat) (x : Word) : (w.setS n x).tag = w.tag := rfl
@[simp] theorem Wave.setS_tiles (w : Wave) (n : Nat) (x : Word) : (w.setS n x).tiles = w.tiles := rfl
@[simp] theorem Wave.setS_ended (w : Wave) (n : Nat) (x : Word) : (w.setS n x).ended = w.ended := rfl
@[simp] theorem Wave.setS_placed (w : Wave) (n : Nat) (x : Word) : (w.setS n x).placed = w.placed := rfl

@[simp] theorem Wave.setV_uid (w : Wave) (n : Nat) (x : LaneVec) : (w.setV n x).uid = w.uid := rfl
@[simp] theorem Wave.setV_tid (w : Wave) (n : Nat) (x : LaneVec) : (w.setV n x).tid = w.tid := rfl
@[simp] theorem Wave.setV_idx (w : Wave) (n : Nat) (x : LaneVec) : (w.setV n x).idx = w.idx := rfl
@[simp] theorem Wave.setV_isTask (w : Wave) (n : Nat) (x : LaneVec) : (w.setV n x).isTask = w.isTask := rfl
@[simp] theorem Wave.setV_handler (w : Wave) (n : Nat) (x : LaneVec) : (w.setV n x).handler = w.handler := rfl
@[simp] theorem Wave.setV_vregN (w : Wave) (n : Nat) (x : LaneVec) : (w.setV n x).vregN = w.vregN := rfl
@[simp] theorem Wave.setV_sregN (w : Wave) (n : Nat) (x : LaneVec) : (w.setV n x).sregN = w.sregN := rfl
@[simp] theorem Wave.setV_s (w : Wave) (n : Nat) (x : LaneVec) : (w.setV n x).s = w.s := rfl
@[simp] theorem Wave.setV_p (w : Wave) (n : Nat) (x : LaneVec) : (w.setV n x).p = w.p := rfl
@[simp] theorem Wave.setV_mode (w : Wave) (n : Nat) (x : LaneVec) : (w.setV n x).mode = w.mode := rfl
@[simp] theorem Wave.setV_mode0 (w : Wave) (n : Nat) (x : LaneVec) : (w.setV n x).mode0 = w.mode0 := rfl
@[simp] theorem Wave.setV_old (w : Wave) (n : Nat) (x : LaneVec) : (w.setV n x).old = w.old := rfl
@[simp] theorem Wave.setV_flags (w : Wave) (n : Nat) (x : LaneVec) : (w.setV n x).flags = w.flags := rfl
@[simp] theorem Wave.setV_ltile (w : Wave) (n : Nat) (x : LaneVec) : (w.setV n x).ltile = w.ltile := rfl
@[simp] theorem Wave.setV_ltile0 (w : Wave) (n : Nat) (x : LaneVec) : (w.setV n x).ltile0 = w.ltile0 := rfl
@[simp] theorem Wave.setV_opened (w : Wave) (n : Nat) (x : LaneVec) : (w.setV n x).opened = w.opened := rfl
@[simp] theorem Wave.setV_etrap (w : Wave) (n : Nat) (x : LaneVec) : (w.setV n x).etrap = w.etrap := rfl
@[simp] theorem Wave.setV_tfutl (w : Wave) (n : Nat) (x : LaneVec) : (w.setV n x).tfutl = w.tfutl := rfl
@[simp] theorem Wave.setV_tfuth (w : Wave) (n : Nat) (x : LaneVec) : (w.setV n x).tfuth = w.tfuth := rfl
@[simp] theorem Wave.setV_fcause (w : Wave) (n : Nat) (x : LaneVec) : (w.setV n x).fcause = w.fcause := rfl
@[simp] theorem Wave.setV_faddl (w : Wave) (n : Nat) (x : LaneVec) : (w.setV n x).faddl = w.faddl := rfl
@[simp] theorem Wave.setV_faddh (w : Wave) (n : Nat) (x : LaneVec) : (w.setV n x).faddh = w.faddh := rfl
@[simp] theorem Wave.setV_pres (w : Wave) (n : Nat) (x : LaneVec) : (w.setV n x).pres = w.pres := rfl
@[simp] theorem Wave.setV_aband (w : Wave) (n : Nat) (x : LaneVec) : (w.setV n x).aband = w.aband := rfl
@[simp] theorem Wave.setV_cycCap (w : Wave) (n : Nat) (x : LaneVec) : (w.setV n x).cycCap = w.cycCap := rfl
@[simp] theorem Wave.setV_arms (w : Wave) (n : Nat) (x : LaneVec) : (w.setV n x).arms = w.arms := rfl
@[simp] theorem Wave.setV_stack (w : Wave) (n : Nat) (x : LaneVec) : (w.setV n x).stack = w.stack := rfl
@[simp] theorem Wave.setV_groups (w : Wave) (n : Nat) (x : LaneVec) : (w.setV n x).groups = w.groups := rfl
@[simp] theorem Wave.setV_nextGrp (w : Wave) (n : Nat) (x : LaneVec) : (w.setV n x).nextGrp = w.nextGrp := rfl
@[simp] theorem Wave.setV_sEmpty (w : Wave) (n : Nat) (x : LaneVec) : (w.setV n x).sEmpty = w.sEmpty := rfl
@[simp] theorem Wave.setV_pHeld (w : Wave) (n : Nat) (x : LaneVec) : (w.setV n x).pHeld = w.pHeld := rfl
@[simp] theorem Wave.setV_inflight (w : Wave) (n : Nat) (x : LaneVec) : (w.setV n x).inflight = w.inflight := rfl
@[simp] theorem Wave.setV_arrived (w : Wave) (n : Nat) (x : LaneVec) : (w.setV n x).arrived = w.arrived := rfl
@[simp] theorem Wave.setV_ports (w : Wave) (n : Nat) (x : LaneVec) : (w.setV n x).ports = w.ports := rfl
@[simp] theorem Wave.setV_tag (w : Wave) (n : Nat) (x : LaneVec) : (w.setV n x).tag = w.tag := rfl
@[simp] theorem Wave.setV_tiles (w : Wave) (n : Nat) (x : LaneVec) : (w.setV n x).tiles = w.tiles := rfl
@[simp] theorem Wave.setV_ended (w : Wave) (n : Nat) (x : LaneVec) : (w.setV n x).ended = w.ended := rfl
@[simp] theorem Wave.setV_placed (w : Wave) (n : Nat) (x : LaneVec) : (w.setV n x).placed = w.placed := rfl

@[simp] theorem Wave.setP_uid (w : Wave) (n : Nat) (x : Mask) : (w.setP n x).uid = w.uid := by unfold Wave.setP; split <;> rfl
@[simp] theorem Wave.setP_tid (w : Wave) (n : Nat) (x : Mask) : (w.setP n x).tid = w.tid := by unfold Wave.setP; split <;> rfl
@[simp] theorem Wave.setP_idx (w : Wave) (n : Nat) (x : Mask) : (w.setP n x).idx = w.idx := by unfold Wave.setP; split <;> rfl
@[simp] theorem Wave.setP_isTask (w : Wave) (n : Nat) (x : Mask) : (w.setP n x).isTask = w.isTask := by unfold Wave.setP; split <;> rfl
@[simp] theorem Wave.setP_handler (w : Wave) (n : Nat) (x : Mask) : (w.setP n x).handler = w.handler := by unfold Wave.setP; split <;> rfl
@[simp] theorem Wave.setP_vregN (w : Wave) (n : Nat) (x : Mask) : (w.setP n x).vregN = w.vregN := by unfold Wave.setP; split <;> rfl
@[simp] theorem Wave.setP_sregN (w : Wave) (n : Nat) (x : Mask) : (w.setP n x).sregN = w.sregN := by unfold Wave.setP; split <;> rfl
@[simp] theorem Wave.setP_s (w : Wave) (n : Nat) (x : Mask) : (w.setP n x).s = w.s := by unfold Wave.setP; split <;> rfl
@[simp] theorem Wave.setP_v (w : Wave) (n : Nat) (x : Mask) : (w.setP n x).v = w.v := by unfold Wave.setP; split <;> rfl
@[simp] theorem Wave.setP_mode (w : Wave) (n : Nat) (x : Mask) : (w.setP n x).mode = w.mode := by unfold Wave.setP; split <;> rfl
@[simp] theorem Wave.setP_mode0 (w : Wave) (n : Nat) (x : Mask) : (w.setP n x).mode0 = w.mode0 := by unfold Wave.setP; split <;> rfl
@[simp] theorem Wave.setP_old (w : Wave) (n : Nat) (x : Mask) : (w.setP n x).old = w.old := by unfold Wave.setP; split <;> rfl
@[simp] theorem Wave.setP_flags (w : Wave) (n : Nat) (x : Mask) : (w.setP n x).flags = w.flags := by unfold Wave.setP; split <;> rfl
@[simp] theorem Wave.setP_ltile (w : Wave) (n : Nat) (x : Mask) : (w.setP n x).ltile = w.ltile := by unfold Wave.setP; split <;> rfl
@[simp] theorem Wave.setP_ltile0 (w : Wave) (n : Nat) (x : Mask) : (w.setP n x).ltile0 = w.ltile0 := by unfold Wave.setP; split <;> rfl
@[simp] theorem Wave.setP_opened (w : Wave) (n : Nat) (x : Mask) : (w.setP n x).opened = w.opened := by unfold Wave.setP; split <;> rfl
@[simp] theorem Wave.setP_etrap (w : Wave) (n : Nat) (x : Mask) : (w.setP n x).etrap = w.etrap := by unfold Wave.setP; split <;> rfl
@[simp] theorem Wave.setP_tfutl (w : Wave) (n : Nat) (x : Mask) : (w.setP n x).tfutl = w.tfutl := by unfold Wave.setP; split <;> rfl
@[simp] theorem Wave.setP_tfuth (w : Wave) (n : Nat) (x : Mask) : (w.setP n x).tfuth = w.tfuth := by unfold Wave.setP; split <;> rfl
@[simp] theorem Wave.setP_fcause (w : Wave) (n : Nat) (x : Mask) : (w.setP n x).fcause = w.fcause := by unfold Wave.setP; split <;> rfl
@[simp] theorem Wave.setP_faddl (w : Wave) (n : Nat) (x : Mask) : (w.setP n x).faddl = w.faddl := by unfold Wave.setP; split <;> rfl
@[simp] theorem Wave.setP_faddh (w : Wave) (n : Nat) (x : Mask) : (w.setP n x).faddh = w.faddh := by unfold Wave.setP; split <;> rfl
@[simp] theorem Wave.setP_pres (w : Wave) (n : Nat) (x : Mask) : (w.setP n x).pres = w.pres := by unfold Wave.setP; split <;> rfl
@[simp] theorem Wave.setP_aband (w : Wave) (n : Nat) (x : Mask) : (w.setP n x).aband = w.aband := by unfold Wave.setP; split <;> rfl
@[simp] theorem Wave.setP_cycCap (w : Wave) (n : Nat) (x : Mask) : (w.setP n x).cycCap = w.cycCap := by unfold Wave.setP; split <;> rfl
@[simp] theorem Wave.setP_arms (w : Wave) (n : Nat) (x : Mask) : (w.setP n x).arms = w.arms := by unfold Wave.setP; split <;> rfl
@[simp] theorem Wave.setP_stack (w : Wave) (n : Nat) (x : Mask) : (w.setP n x).stack = w.stack := by unfold Wave.setP; split <;> rfl
@[simp] theorem Wave.setP_groups (w : Wave) (n : Nat) (x : Mask) : (w.setP n x).groups = w.groups := by unfold Wave.setP; split <;> rfl
@[simp] theorem Wave.setP_nextGrp (w : Wave) (n : Nat) (x : Mask) : (w.setP n x).nextGrp = w.nextGrp := by unfold Wave.setP; split <;> rfl
@[simp] theorem Wave.setP_sEmpty (w : Wave) (n : Nat) (x : Mask) : (w.setP n x).sEmpty = w.sEmpty := by unfold Wave.setP; split <;> rfl
@[simp] theorem Wave.setP_pHeld (w : Wave) (n : Nat) (x : Mask) : (w.setP n x).pHeld = w.pHeld := by unfold Wave.setP; split <;> rfl
@[simp] theorem Wave.setP_inflight (w : Wave) (n : Nat) (x : Mask) : (w.setP n x).inflight = w.inflight := by unfold Wave.setP; split <;> rfl
@[simp] theorem Wave.setP_arrived (w : Wave) (n : Nat) (x : Mask) : (w.setP n x).arrived = w.arrived := by unfold Wave.setP; split <;> rfl
@[simp] theorem Wave.setP_ports (w : Wave) (n : Nat) (x : Mask) : (w.setP n x).ports = w.ports := by unfold Wave.setP; split <;> rfl
@[simp] theorem Wave.setP_tag (w : Wave) (n : Nat) (x : Mask) : (w.setP n x).tag = w.tag := by unfold Wave.setP; split <;> rfl
@[simp] theorem Wave.setP_tiles (w : Wave) (n : Nat) (x : Mask) : (w.setP n x).tiles = w.tiles := by unfold Wave.setP; split <;> rfl
@[simp] theorem Wave.setP_ended (w : Wave) (n : Nat) (x : Mask) : (w.setP n x).ended = w.ended := by unfold Wave.setP; split <;> rfl
@[simp] theorem Wave.setP_placed (w : Wave) (n : Nat) (x : Mask) : (w.setP n x).placed = w.placed := by unfold Wave.setP; split <;> rfl
@[simp] theorem Wave.modArm_uid (w : Wave) (n : Nat) (g : Arm → Arm) : (w.modArm n g).uid = w.uid := by unfold Wave.modArm; split <;> rfl
@[simp] theorem Wave.modArm_tid (w : Wave) (n : Nat) (g : Arm → Arm) : (w.modArm n g).tid = w.tid := by unfold Wave.modArm; split <;> rfl
@[simp] theorem Wave.modArm_idx (w : Wave) (n : Nat) (g : Arm → Arm) : (w.modArm n g).idx = w.idx := by unfold Wave.modArm; split <;> rfl
@[simp] theorem Wave.modArm_isTask (w : Wave) (n : Nat) (g : Arm → Arm) : (w.modArm n g).isTask = w.isTask := by unfold Wave.modArm; split <;> rfl
@[simp] theorem Wave.modArm_handler (w : Wave) (n : Nat) (g : Arm → Arm) : (w.modArm n g).handler = w.handler := by unfold Wave.modArm; split <;> rfl
@[simp] theorem Wave.modArm_vregN (w : Wave) (n : Nat) (g : Arm → Arm) : (w.modArm n g).vregN = w.vregN := by unfold Wave.modArm; split <;> rfl
@[simp] theorem Wave.modArm_sregN (w : Wave) (n : Nat) (g : Arm → Arm) : (w.modArm n g).sregN = w.sregN := by unfold Wave.modArm; split <;> rfl
@[simp] theorem Wave.modArm_s (w : Wave) (n : Nat) (g : Arm → Arm) : (w.modArm n g).s = w.s := by unfold Wave.modArm; split <;> rfl
@[simp] theorem Wave.modArm_v (w : Wave) (n : Nat) (g : Arm → Arm) : (w.modArm n g).v = w.v := by unfold Wave.modArm; split <;> rfl
@[simp] theorem Wave.modArm_p (w : Wave) (n : Nat) (g : Arm → Arm) : (w.modArm n g).p = w.p := by unfold Wave.modArm; split <;> rfl
@[simp] theorem Wave.modArm_mode (w : Wave) (n : Nat) (g : Arm → Arm) : (w.modArm n g).mode = w.mode := by unfold Wave.modArm; split <;> rfl
@[simp] theorem Wave.modArm_mode0 (w : Wave) (n : Nat) (g : Arm → Arm) : (w.modArm n g).mode0 = w.mode0 := by unfold Wave.modArm; split <;> rfl
@[simp] theorem Wave.modArm_old (w : Wave) (n : Nat) (g : Arm → Arm) : (w.modArm n g).old = w.old := by unfold Wave.modArm; split <;> rfl
@[simp] theorem Wave.modArm_flags (w : Wave) (n : Nat) (g : Arm → Arm) : (w.modArm n g).flags = w.flags := by unfold Wave.modArm; split <;> rfl
@[simp] theorem Wave.modArm_ltile (w : Wave) (n : Nat) (g : Arm → Arm) : (w.modArm n g).ltile = w.ltile := by unfold Wave.modArm; split <;> rfl
@[simp] theorem Wave.modArm_ltile0 (w : Wave) (n : Nat) (g : Arm → Arm) : (w.modArm n g).ltile0 = w.ltile0 := by unfold Wave.modArm; split <;> rfl
@[simp] theorem Wave.modArm_opened (w : Wave) (n : Nat) (g : Arm → Arm) : (w.modArm n g).opened = w.opened := by unfold Wave.modArm; split <;> rfl
@[simp] theorem Wave.modArm_etrap (w : Wave) (n : Nat) (g : Arm → Arm) : (w.modArm n g).etrap = w.etrap := by unfold Wave.modArm; split <;> rfl
@[simp] theorem Wave.modArm_tfutl (w : Wave) (n : Nat) (g : Arm → Arm) : (w.modArm n g).tfutl = w.tfutl := by unfold Wave.modArm; split <;> rfl
@[simp] theorem Wave.modArm_tfuth (w : Wave) (n : Nat) (g : Arm → Arm) : (w.modArm n g).tfuth = w.tfuth := by unfold Wave.modArm; split <;> rfl
@[simp] theorem Wave.modArm_fcause (w : Wave) (n : Nat) (g : Arm → Arm) : (w.modArm n g).fcause = w.fcause := by unfold Wave.modArm; split <;> rfl
@[simp] theorem Wave.modArm_faddl (w : Wave) (n : Nat) (g : Arm → Arm) : (w.modArm n g).faddl = w.faddl := by unfold Wave.modArm; split <;> rfl
@[simp] theorem Wave.modArm_faddh (w : Wave) (n : Nat) (g : Arm → Arm) : (w.modArm n g).faddh = w.faddh := by unfold Wave.modArm; split <;> rfl
@[simp] theorem Wave.modArm_pres (w : Wave) (n : Nat) (g : Arm → Arm) : (w.modArm n g).pres = w.pres := by unfold Wave.modArm; split <;> rfl
@[simp] theorem Wave.modArm_aband (w : Wave) (n : Nat) (g : Arm → Arm) : (w.modArm n g).aband = w.aband := by unfold Wave.modArm; split <;> rfl
@[simp] theorem Wave.modArm_cycCap (w : Wave) (n : Nat) (g : Arm → Arm) : (w.modArm n g).cycCap = w.cycCap := by unfold Wave.modArm; split <;> rfl
@[simp] theorem Wave.modArm_stack (w : Wave) (n : Nat) (g : Arm → Arm) : (w.modArm n g).stack = w.stack := by unfold Wave.modArm; split <;> rfl
@[simp] theorem Wave.modArm_groups (w : Wave) (n : Nat) (g : Arm → Arm) : (w.modArm n g).groups = w.groups := by unfold Wave.modArm; split <;> rfl
@[simp] theorem Wave.modArm_nextGrp (w : Wave) (n : Nat) (g : Arm → Arm) : (w.modArm n g).nextGrp = w.nextGrp := by unfold Wave.modArm; split <;> rfl
@[simp] theorem Wave.modArm_sEmpty (w : Wave) (n : Nat) (g : Arm → Arm) : (w.modArm n g).sEmpty = w.sEmpty := by unfold Wave.modArm; split <;> rfl
@[simp] theorem Wave.modArm_pHeld (w : Wave) (n : Nat) (g : Arm → Arm) : (w.modArm n g).pHeld = w.pHeld := by unfold Wave.modArm; split <;> rfl
@[simp] theorem Wave.modArm_inflight (w : Wave) (n : Nat) (g : Arm → Arm) : (w.modArm n g).inflight = w.inflight := by unfold Wave.modArm; split <;> rfl
@[simp] theorem Wave.modArm_arrived (w : Wave) (n : Nat) (g : Arm → Arm) : (w.modArm n g).arrived = w.arrived := by unfold Wave.modArm; split <;> rfl
@[simp] theorem Wave.modArm_ports (w : Wave) (n : Nat) (g : Arm → Arm) : (w.modArm n g).ports = w.ports := by unfold Wave.modArm; split <;> rfl
@[simp] theorem Wave.modArm_tag (w : Wave) (n : Nat) (g : Arm → Arm) : (w.modArm n g).tag = w.tag := by unfold Wave.modArm; split <;> rfl
@[simp] theorem Wave.modArm_tiles (w : Wave) (n : Nat) (g : Arm → Arm) : (w.modArm n g).tiles = w.tiles := by unfold Wave.modArm; split <;> rfl
@[simp] theorem Wave.modArm_ended (w : Wave) (n : Nat) (g : Arm → Arm) : (w.modArm n g).ended = w.ended := by unfold Wave.modArm; split <;> rfl
@[simp] theorem Wave.modArm_placed (w : Wave) (n : Nat) (g : Arm → Arm) : (w.modArm n g).placed = w.placed := by unfold Wave.modArm; split <;> rfl

@[simp] theorem Arm.advance_exm (a : Arm) : a.advance.exm = a.exm := by unfold Arm.advance; (repeat' split) <;> rfl
@[simp] theorem Arm.goto_exm (a : Arm) (n : Nat) : (a.goto n).exm = a.exm := rfl
@[simp] theorem Arm.advance_entry (a : Arm) : a.advance.entry = a.entry := by unfold Arm.advance; (repeat' split) <;> rfl
@[simp] theorem Arm.goto_entry (a : Arm) (n : Nat) : (a.goto n).entry = a.entry := rfl
@[simp] theorem Arm.advance_grp (a : Arm) : a.advance.grp = a.grp := by unfold Arm.advance; (repeat' split) <;> rfl
@[simp] theorem Arm.goto_grp (a : Arm) (n : Nat) : (a.goto n).grp = a.grp := rfl
@[simp] theorem Arm.advance_empty (a : Arm) : a.advance.empty = a.empty := by unfold Arm.advance; (repeat' split) <;> rfl
@[simp] theorem Arm.goto_empty (a : Arm) (n : Nat) : (a.goto n).empty = a.empty := rfl
@[simp] theorem Arm.advance_last (a : Arm) : a.advance.last = a.last := by unfold Arm.advance; (repeat' split) <;> rfl
@[simp] theorem Arm.goto_last (a : Arm) (n : Nat) : (a.goto n).last = a.last := rfl

/-! ### What an update makes of what it changes -/

@[simp] theorem State.core_modCore (s : State) (c d : Nat) (f : Core → Core) :
    (s.modCore c f).core d = if d = c then f (s.core c) else s.core d := by
  simp [State.modCore, State.setCore, State.core]

@[simp] theorem State.cluster_modCluster (s : State) (c d : Nat) (f : Cluster → Cluster) :
    (s.modCluster c f).cluster d = if d = c then f (s.cluster c) else s.cluster d := by
  simp [State.modCluster, State.cluster]

@[simp] theorem State.stack_modStack (s : State) (c d : Nat) (f : Stack → Stack) :
    (s.modStack c f).stack d = if d = c then f (s.stack c) else s.stack d := by
  simp [State.modStack, State.stack]

@[simp] theorem State.iface_modIface (s : State) (c d : Nat) (f : Iface → Iface) :
    (s.modIface c f).iface d = if d = c then f (s.iface c) else s.iface d := by
  simp [State.modIface, State.iface]

@[simp] theorem State.core_modJob (s : State) (j : Nat) (f : Job → Job) (c : Nat) : (s.modJob j f).core c = s.core c := by
  simp [State.core]
@[simp] theorem State.core_modTeam (s : State) (j : Nat) (f : Team → Team) (c : Nat) : (s.modTeam j f).core c = s.core c := by
  simp [State.core]
@[simp] theorem State.wave?_modJob (s : State) (j : Nat) (f : Job → Job) (c k : Nat) :
    (s.modJob j f).wave? c k = s.wave? c k := by simp [State.wave?]
@[simp] theorem State.wave?_modTeam (s : State) (j : Nat) (f : Team → Team) (c k : Nat) :
    (s.modTeam j f).wave? c k = s.wave? c k := by simp [State.wave?]
@[simp] theorem State.team_modWave (s : State) (c k : Nat) (f : Wave → Wave) (t : Nat) :
    (s.modWave c k f).team t = s.team t := by simp [State.team]
@[simp] theorem State.job_modWave (s : State) (c k : Nat) (f : Wave → Wave) (j : Nat) :
    (s.modWave c k f).job j = s.job j := by simp [State.job]

/-- The wave in a slot after the wave in a slot has been updated. -/
@[simp] theorem State.wave?_modWave (s : State) (c k d j : Nat) (f : Wave → Wave) :
    (s.modWave c k f).wave? d j = if d = c ∧ j = k then (s.wave? c k).map f else s.wave? d j := by
  unfold State.modWave
  split
  · rename_i w h
    by_cases hd : d = c
    · subst hd
      by_cases hj : j = k
      · subst hj; rw [h]; simp [State.wave?]
      · simp [State.wave?, hj]
    · simp [State.wave?, hd]
  · rename_i h
    by_cases hd : d = c ∧ j = k
    · obtain ⟨rfl, rfl⟩ := hd; simp [h]
    · simp [hd]

/-- A core after an update of one of its waves differs in its slots only. -/
theorem State.core_modWave (s : State) (c k d : Nat) (f : Wave → Wave) :
    (s.modWave c k f).core d = { s.core d with slots := ((s.modWave c k f).core d).slots } := by
  unfold State.modWave
  split
  · by_cases hd : d = c
    · subst hd; simp
    · simp [hd]
  · rfl

@[simp] theorem Wave.sreg_setS (w : Wave) (n m : Nat) (x : Word) : (w.setS n x).sreg m = if m = n then x else w.sreg m := by
  simp [Wave.sreg, Wave.setS]
@[simp] theorem Wave.vreg_setV (w : Wave) (n m : Nat) (x : LaneVec) : (w.setV n x).vreg m = if m = n then x else w.vreg m := by
  simp [Wave.vreg, Wave.setV]
@[simp] theorem Wave.sreg_setV (w : Wave) (n m : Nat) (x : LaneVec) : (w.setV n x).sreg m = w.sreg m := rfl
@[simp] theorem Wave.vreg_setS (w : Wave) (n m : Nat) (x : Word) : (w.setS n x).vreg m = w.vreg m := rfl
@[simp] theorem Wave.preg_setS (w : Wave) (n m : Nat) (x : Word) : (w.setS n x).preg m = w.preg m := rfl
@[simp] theorem Wave.preg_setV (w : Wave) (n m : Nat) (x : LaneVec) : (w.setV n x).preg m = w.preg m := rfl
@[simp] theorem Wave.sreg_setP (w : Wave) (n m : Nat) (x : Mask) : (w.setP n x).sreg m = w.sreg m := by simp [Wave.sreg]
@[simp] theorem Wave.vreg_setP (w : Wave) (n m : Nat) (x : Mask) : (w.setP n x).vreg m = w.vreg m := by simp [Wave.vreg]
@[simp] theorem Wave.sreg_modArm (w : Wave) (n m : Nat) (g : Arm → Arm) : (w.modArm n g).sreg m = w.sreg m := by
  simp [Wave.sreg]
@[simp] theorem Wave.vreg_modArm (w : Wave) (n m : Nat) (g : Arm → Arm) : (w.modArm n g).vreg m = w.vreg m := by
  simp [Wave.vreg]
@[simp] theorem Wave.preg_modArm (w : Wave) (n m : Nat) (g : Arm → Arm) : (w.modArm n g).preg m = w.preg m := by
  simp [Wave.preg]

/-- A predicate after a write; a write to p0 is discarded (R44). -/
theorem Wave.preg_setP (w : Wave) (n m : Nat) (x : Mask) : (w.setP n x).preg m = if m = n ∧ n ≠ 0 then x else w.preg m := by
  unfold Wave.setP Wave.preg
  by_cases hn : n = 0
  · simp [hn]
  · by_cases hm : m = n
    · subst hm; simp [hn]
    · by_cases h0 : m = 0
      · subst h0; simp [hm]
      · simp [hn, h0, hm]

/-- The arm of a number after an update. -/
@[simp] theorem Wave.get?_modArm (w : Wave) (n m : Nat) (g : Arm → Arm) :
    NMap.get? (w.modArm n g).arms m = if m = n then (NMap.get? w.arms n).map g else NMap.get? w.arms m := by
  unfold Wave.modArm
  split
  · rename_i a h; simp only [NMap.get?_put]; split <;> simp_all
  · rename_i h; by_cases hm : m = n
    · subst hm; simp [h]
    · simp [hm]

/-- An arm whose pair is not under way stands free behind its word (R101, R103). -/
@[simp] theorem Arm.advance_hold (a : Arm) (h : a.also = none) : a.advance.hold = .none := by
  unfold Arm.advance; simp only [h]; (repeat' split) <;> rfl
@[simp] theorem Arm.goto_pc (a : Arm) (n : Nat) : (a.goto n).pc = n := rfl
@[simp] theorem Arm.goto_word (a : Arm) (n : Nat) : (a.goto n).word = 0 := rfl
@[simp] theorem Arm.goto_hold (a : Arm) (n : Nat) : (a.goto n).hold = .none := rfl
@[simp] theorem Arm.goto_cap (a : Arm) (n : Nat) : (a.goto n).cap = none := rfl
@[simp] theorem Arm.goto_paired (a : Arm) (n : Nat) : (a.goto n).paired = false := rfl
@[simp] theorem Arm.goto_also (a : Arm) (n : Nat) : (a.goto n).also = none := rfl

/-- A lane of a vector that is given lane by lane. -/
theorem LaneVec.lane_ofFn (f : Nat → Word) (l : Nat) (h : l < 32) : (LaneVec.ofFn f).lane l = f l := by
  unfold LaneVec.ofFn LaneVec.lane allLanes
  simp [List.getD, h]

end Sys2Proof.Machine
end

