-- ==== Sys2Proof/Laws/Run.lean ====
section
/-!
SUPPORT. What the wrapper of every instruction word does: the effect of a word that executes, and where it stops.
-/

set_option Elab.async false

namespace Sys2Proof.Machine

/-- The wrapper of a word that executes is the word's own effect. -/
theorem State.run_ready {s : State} {i : Instr} {c : Ctx} (h : Ready s i c) (k : Ctx → State → State) :
    s.run i k = .next (k (s.begun c i).1 (s.begun c i).2) := by
  unfold State.run State.begun State.noted
  rw [h.ctx]
  simp only [h.fresh]
  unfold Ctx.begin
  simp only [h.go]
  unfold Ctx.withClassOf
  cases hc : classOf i with
  | none => rfl
  | some cls =>
    unfold Ctx.withClass
    simp only [h.cls cls hc]

/-- A word that reads no vector register pops nothing (R181). -/
theorem State.begun_of_no_vector {s : State} {i : Instr} {c : Ctx} (h : (uses i).vs = []) : s.begun c i = (c, s.noted c i) := by
  unfold State.begun Ctx.pop
  rw [h]
  split
  · rfl
  · simp [Wave.portsOf, popAll]

theorem State.run_scalar {s : State} {i : Instr} {c : Ctx} (h : Ready s i c) (hv : (uses i).vs = []) (k : Ctx → State → State) :
    s.run i k = .next (k c (s.noted c i)) := by
  rw [State.run_ready h, State.begun_of_no_vector hv]

/-- A word without an issuing arm is a fault of the model. -/
theorem State.run_noArm {s : State} {i : Instr} (h : s.ctx? i = none) (k : Ctx → State → State) :
    s.run i k = .fault .noIssuingArm := by
  unfold State.run; rw [h]

/-- A word that must wait leaves everything but its arm's hold (R38, R52). -/
theorem State.run_wait {s : State} {i : Instr} {c : Ctx} {w : Wait} (h : s.ctx? i = some c) (hc : c.arm.cap = none)
    (hw : c.check (s.core c.r.core) i = .wait w) (k : Ctx → State → State) : s.run i k = .next (s.hold c.r w) := by
  unfold State.run; rw [h]; simp only [hc, Ctx.begin, hw]

/-- A word that names registers its wave lacks is illegal (R42). -/
theorem State.run_illegal {s : State} {i : Instr} {c : Ctx} (h : s.ctx? i = some c) (hc : c.arm.cap = none)
    (hw : c.check (s.core c.r.core) i = .illegal) (k : Ctx → State → State) : s.run i k = .next (c.illegal s) := by
  unfold State.run; rw [h]; simp only [hc, Ctx.begin, hw]

/-- A word that reads an empty register in a trapping position traps (R53). -/
theorem State.run_trap {s : State} {i : Instr} {c : Ctx} {p r : Nat} (h : s.ctx? i = some c) (hc : c.arm.cap = none)
    (hw : c.check (s.core c.r.core) i = .trap p r) (k : Ctx → State → State) : s.run i k = .next (c.emptyTrap p r s) := by
  unfold State.run; rw [h]; simp only [hc, Ctx.begin, hw]

/-- A word of a class that its job or its core lacks faults (R300). -/
theorem State.run_classFault {s : State} {i : Instr} {c : Ctx} {cls code : Nat} (h : s.ctx? i = some c) (hn : c.arm.cap = none)
    (hg : c.check (s.core c.r.core) i = .go) (hc : classOf i = some cls)
    (hf : s.classFault c.r.core c.job cls = some code) (k : Ctx → State → State) :
    s.run i k = .next (c.fault code 0 cls s) := by
  unfold State.run; rw [h]; simp only [hn]
  unfold Ctx.begin; simp only [hg]
  unfold Ctx.withClassOf Ctx.withClass
  rw [hc]; simp only [hf]

/-- A captured instruction runs again with what it captured (R288, R361, R373). -/
theorem State.run_captured {s : State} {i : Instr} {c : Ctx} {q : Capture} (h : s.ctx? i = some c) (hc : c.arm.cap = some q)
    (ha : q.again = false) (k : Ctx → State → State) : s.run i k = .next (c.rerun q k s) := by
  unfold State.run; rw [h]; simp [hc, ha]

/-- A captured instruction that a switch has abandoned issues again (R272). -/
theorem State.run_again {s : State} {i : Instr} {c : Ctx} {q : Capture} (h : s.ctx? i = some c) (hc : c.arm.cap = some q)
    (ha : q.again = true) (k : Ctx → State → State) : s.run i k = .next (c.reissue q k s) := by
  unfold State.run; rw [h]; simp [hc, ha]

/-- Every word of an issuing arm answers a next state. -/
theorem State.run_next {s : State} {i : Instr} {c : Ctx} (h : s.ctx? i = some c) (k : Ctx → State → State) :
    ∃ t, s.run i k = .next t := by
  unfold State.run; rw [h]; exact ⟨_, rfl⟩

/-- What the context of a word is: its arm, its wave, its team and job, its enabled lanes. -/
theorem State.ctx?_some {s : State} {i : Instr} {c : Ctx} (h : s.ctx? i = some c) :
    s.cur = some c.r ∧ s.wave? c.r.core c.r.slot = some c.wave ∧ NMap.get? c.wave.arms c.r.arm = some c.arm ∧
      c.team = s.team c.wave.tid ∧ c.job = s.job c.team.job ∧ c.lanes = c.arm.exm &&& c.wave.preg (guardOf i) ∧
      c.popped = false := by
  unfold State.ctx? at h
  split at h
  · cases h
  · rename_i r hr
    split at h
    · cases h
    · rename_i w hw
      cases ha : NMap.get? w.arms r.arm with
      | none => rw [ha] at h; cases h
      | some a =>
        rw [ha] at h
        obtain rfl := Option.some.inj h
        exact ⟨hr, hw, ha, rfl, rfl, rfl, rfl⟩

/-- Where the run log has room, noting a class changes the log and the job's open pairs, and nothing else (R305). -/
theorem State.noteClass_of_room {s : State} {core jid cls : Nat}
    (h : (s.core core).runLog.contains (jid, cls) = true ∨ (s.core core).runLog.length < 256) :
    s.noteClass core jid cls = s ∨
      s.noteClass core jid cls = (s.modCore core (fun k => { k with runLog := k.runLog ++ [(jid, cls)] })).modJob jid
        (fun j => { j with pairs := j.pairs ++ [(core, cls)] }) := by
  unfold State.noteClass
  simp only
  split
  · exact .inl rfl
  · split
    · exact .inr rfl
    · rename_i h1 h2
      rcases h with h | h
      · exact absurd h h1
      · exact absurd h h2

/-- The wave of a context is still in its slot after its class is noted in a log with room. -/
theorem State.wave?_noted {s : State} {i : Instr} {c : Ctx} (h : s.logRoom c i) (d j : Nat) :
    (s.noted c i).wave? d j = s.wave? d j := by
  unfold State.noted
  split
  · rename_i k hk
    rcases State.noteClass_of_room (h k hk) with e | e
    · rw [e]
    · rw [e]
      unfold State.wave?
      simp only [State.core_modJob, State.core_modCore]
      split <;> simp_all
  · rfl

end Sys2Proof.Machine
end

