-- ==== Sys2Proof/Laws/Note.lean ====
section
/-!
SUPPORT. What the note of a class in a core's run log leaves alone (R305): everything that an instruction reads of its core, its
cluster and its stack.
-/

set_option Elab.async false

namespace Sys2Proof.Machine

/-- Two states agree in all that an instruction reads of cores, clusters, stacks, teams and allocations. -/
structure State.SameUnits (s t : State) : Prop where
  cores : t.cores = s.cores
  clusters : t.clusters = s.clusters
  stk : t.stk = s.stk
  teams : t.teams = s.teams
  allocs : t.allocs = s.allocs
  jobs : t.jobs = s.jobs

theorem State.SameUnits.same (s : State) : s.SameUnits s := ⟨.refl _, .refl _, .refl _, .refl _, .refl _, .refl _⟩

theorem State.SameUnits.trans {s t u : State} (h : s.SameUnits t) (g : t.SameUnits u) : s.SameUnits u :=
  ⟨g.cores.trans h.cores, g.clusters.trans h.clusters, g.stk.trans h.stk, g.teams.trans h.teams, g.allocs.trans h.allocs,
    g.jobs.trans h.jobs⟩

/-- A fold of updates that leave the units alone leaves them alone. -/
theorem State.SameUnits.foldl {α : Type} {f : State → α → State} (hf : ∀ (s : State) a, s.SameUnits (f s a)) (l : List α) (s : State) :
    s.SameUnits (l.foldl f s) := by
  induction l generalizing s with
  | nil => exact .same _
  | cons a l ih => exact (hf s a).trans (ih _)

theorem State.l2Line_units (s : State) (p la : Nat) : s.SameUnits (s.l2Line p la).1 := by
  unfold State.l2Line
  split
  · split <;> exact ⟨.refl _, .refl _, .refl _, .refl _, .refl _, .refl _⟩
  · simp only
    split <;> exact ⟨.refl _, .refl _, .refl _, .refl _, .refl _, .refl _⟩

theorem State.l2Touch_units (s : State) (p la : Nat) (ks : List Nat) (w : Bool) : s.SameUnits (s.l2Touch p la ks w) :=
  (s.l2Line_units p la).trans ⟨.refl _, .refl _, .refl _, .refl _, .refl _, .refl _⟩

theorem State.l2Bytes_units (s : State) (p : Nat) (w : Bool) (as : List Nat) : s.SameUnits (s.l2Bytes p w as) :=
  .foldl (fun s k => s.l2Touch_units p (k / 4) [k % 4] w) _ s

/-- A write from outside the cores leaves the units alone. -/
theorem State.outsideWrite_units (s : State) (p : Nat) (t : Target) (bs : List Byte) : s.SameUnits (s.outsideWrite p t bs) := by
  unfold State.outsideWrite
  split
  · rename_i a
    have h : (s.l2Bytes p true (List.range' a bs.length)).SameUnits ((s.l2Bytes p true (List.range' a bs.length)).homeWrite a bs) :=
      ⟨.refl _, .refl _, .refl _, .refl _, .refl _, .refl _⟩
    exact ((s.l2Bytes_units _ _ _).trans h).trans (.foldl (f := fun s k => s.setPoison (32 * k) false)
      (fun _ _ => ⟨.refl _, .refl _, .refl _, .refl _, .refl _, .refl _⟩) _ _)
  · exact ⟨.refl _, .refl _, .refl _, .refl _, .refl _, .refl _⟩
  · exact .same _

/-- A Translation Request of the I/O die leaves the units alone. -/
theorem State.askX_io_units {s : State} {u : Nat} (h : ioUnit ≤ u) (p va : Nat) (w : Bool) : s.SameUnits (s.askX u p va w) := by
  unfold State.askX
  simp only [h, if_true]
  split <;> exact ⟨.refl _, .refl _, .refl _, .refl _, .refl _, .refl _⟩

/-- The rewrite of a completion record (R308) leaves the units alone. -/
theorem State.rewriteRecord_units (s : State) (jid : Nat) : s.SameUnits (s.rewriteRecord jid) := by
  unfold State.rewriteRecord
  simp only
  split
  · exact ((s.outsideWrite_units _ _ _).trans (State.outsideWrite_units _ _ _ _)).trans
      ⟨.refl _, .refl _, .refl _, .refl _, .refl _, .refl _⟩
  · exact (State.askX_io_units (by decide) _ _ _).trans ⟨.refl _, .refl _, .refl _, .refl _, .refl _, .refl _⟩

/-- Two states agree in what an instruction reads of cores, clusters, stacks, teams and allocations, their jobs apart. -/
structure State.SameHardware (s t : State) : Prop where
  cores : t.cores = s.cores
  clusters : t.clusters = s.clusters
  stk : t.stk = s.stk
  teams : t.teams = s.teams
  allocs : t.allocs = s.allocs

theorem State.suspect_hardware (s : State) (jid : Nat) (x : DWord) : s.SameHardware (s.suspect jid x) := by
  have h (t : State) (g : s.SameHardware t) : s.SameHardware (t.rewriteRecord jid) :=
    have r := t.rewriteRecord_units jid
    ⟨r.cores.trans g.cores, r.clusters.trans g.clusters, r.stk.trans g.stk, r.teams.trans g.teams, r.allocs.trans g.allocs⟩
  have m : s.SameHardware (s.modJob jid (fun j => { j with conf := 3, classes := j.classes ||| x })) := by
    unfold State.modJob; split <;> exact ⟨.refl _, .refl _, .refl _, .refl _, .refl _⟩
  unfold State.suspect
  simp only
  split
  · exact h _ m
  · exact m

theorem State.suspects_hardware (l : List Nat) (s : State) : s.SameHardware (l.foldl (fun s j => s.suspect j (s.job j).oum) s) := by
  induction l generalizing s with
  | nil => exact ⟨.refl _, .refl _, .refl _, .refl _, .refl _⟩
  | cons a l ih =>
    have h := s.suspect_hardware a (s.job a).oum
    have g := ih (s.suspect a (s.job a).oum)
    exact ⟨g.cores.trans h.cores, g.clusters.trans h.clusters, g.stk.trans h.stk, g.teams.trans h.teams, g.allocs.trans h.allocs⟩

/-- The note of a class changes nothing of a core but its run log and the log's overflow (R305). -/
theorem State.core_noteClass (s : State) (core jid cls d : Nat) : ∃ l o,
    (s.noteClass core jid cls).core d = { s.core d with runLog := l, overflow := o } := by
  unfold State.noteClass
  simp only
  split
  · exact ⟨_, _, rfl⟩
  · split
    · rw [State.core_modJob, State.core_modCore]
      split
      · subst_vars; exact ⟨_, _, rfl⟩
      · exact ⟨_, _, rfl⟩
    · have h := State.suspects_hardware ((((s.core core).runLog.map (fun e => e.1)) ++ [jid]).dedup)
        (s.modCore core (fun k => { k with overflow := true }))
      unfold State.core at h ⊢
      rw [h.cores]
      change ∃ l o, (s.modCore core (fun k => { k with overflow := true })).core d = _
      rw [State.core_modCore]
      split
      · subst_vars; exact ⟨_, _, rfl⟩
      · exact ⟨_, _, rfl⟩

/-- The note of a class leaves every cluster, stack, team and allocation as it is (R305). -/
theorem State.noteClass_hardware (s : State) (core jid cls : Nat) :
    (s.noteClass core jid cls).clusters = s.clusters ∧ (s.noteClass core jid cls).stk = s.stk ∧
      (s.noteClass core jid cls).teams = s.teams ∧ (s.noteClass core jid cls).allocs = s.allocs := by
  unfold State.noteClass
  simp only
  split
  · exact ⟨rfl, rfl, rfl, rfl⟩
  · split
    · unfold State.modJob; split <;> exact ⟨rfl, rfl, rfl, rfl⟩
    · have h := State.suspects_hardware ((((s.core core).runLog.map (fun e => e.1)) ++ [jid]).dedup)
        (s.modCore core (fun k => { k with overflow := true }))
      exact ⟨h.clusters, h.stk, h.teams, h.allocs⟩

/-- Every wave is in its slot after a class is noted. -/
theorem State.wave?_noteClass (s : State) (core jid cls d j : Nat) : (s.noteClass core jid cls).wave? d j = s.wave? d j := by
  obtain ⟨l, o, h⟩ := s.core_noteClass core jid cls d
  unfold State.wave?
  rw [h]

/-- The owner of a core's message ports and its messages after a class is noted. -/
theorem Ctx.isPort_noteClass (c : Ctx) (s : State) (core jid cls q : Nat) :
    c.isPort (s.noteClass core jid cls) q = c.isPort s q := by
  obtain ⟨l, o, h⟩ := s.core_noteClass core jid cls c.r.core
  unfold Ctx.isPort
  rw [h]

/-- A control register reads the same after a class is noted (R71, R72). -/
theorem Ctx.control_noteClass (c : Ctx) (s : State) (core jid cls n : Nat) :
    c.control (s.noteClass core jid cls) n = c.control s n := by
  obtain ⟨l, o, h⟩ := s.core_noteClass core jid cls c.r.core
  obtain ⟨hc, hs, -, -⟩ := s.noteClass_hardware core jid cls
  have hk : ∀ k, (s.noteClass core jid cls).stack k = s.stack k := fun k => by unfold State.stack; rw [hs]
  have hl : ∀ k, (s.noteClass core jid cls).cluster k = s.cluster k := fun k => by unfold State.cluster; rw [hc]
  have hm : (s.noteClass core jid cls).capMask c.r.core = s.capMask c.r.core := by
    unfold State.capMask State.isOut State.present State.isGanged State.entryOf State.graftWord
    simp only [hl, h]
  have ht : (s.noteClass core jid cls).mstat c.r.core = s.mstat c.r.core := by
    unfold State.mstat State.isGanged
    simp only [hl, h]
    rfl
  have hd : ((s.noteClass core jid cls).core c.r.core).dqdep = (s.core c.r.core).dqdep := by rw [h]; rfl
  have hp : ((s.noteClass core jid cls).core c.r.core).penn c.r.slot = (s.core c.r.core).penn c.r.slot := by rw [h]; rfl
  unfold Ctx.control
  simp only [hk, hm, ht, hd, hp]

end Sys2Proof.Machine
end

