-- ==== Sys2Proof/Laws/PerInstr.lean ====
section
/-!
SUPPORT. Per instruction: decoding the encoded word of a well-formed instruction gives it back, with its chain bit (R98, R106 to
R112).
-/

set_option Elab.async false

namespace Sys2Proof.Laws.Coded

/-- Every word that encodes the instruction decodes to it, with the chain bit it was given. -/
def Statement (i : Instr) : Prop :=
  ∀ (c : Bool) (w : Word), i.wf = true → encode c i = some w → decodeWord w.toNat = .ok i ∧ chainBit w.toNat = c

/-- The field words with a chain bit decode as their fields do. -/
theorem of_fields {i : Instr} {f : Nat} (he : encodeFields i = some f)
    (h : ∀ k, k ≤ 1 → ∀ w, w = f + 2147483648 * k → w < 4294967296 ∧ bitsAt w 31 1 = k ∧ decodeFields w = .ok i) : Statement i := by
  intro c w hw hc
  simp only [encode, he, Option.some.injEq] at hc
  have hk : f + chainValue c = f + 2147483648 * c.toNat := by cases c <;> simp [chainValue]
  have hb : c.toNat ≤ 1 := by cases c <;> simp
  obtain ⟨hl, hs, hd⟩ := h _ hb _ rfl
  have hn : w.toNat = f + 2147483648 * c.toNat := by
    rw [← hc, hk, BitVec.toNat_ofNat]; omega
  rw [hn]
  refine ⟨by simp [decodeWord, hd, hw], ?_⟩
  show (bitsAt _ 31 1 == 1) = c
  rw [hs]; cases c <;> rfl

/-- A step without a word has nothing to decode. -/
theorem no_word {i : Instr} (he : encodeFields i = none) : Statement i := by
  intro c w _ hc; simp [encode, he] at hc

/-- Above a chunk, a word reads as what stands there. -/
theorem skip {w v p r m lo : Nat} (q : w = v + p * r) (hv : v < 2 ^ m) (l n : Nat) (hp : p = 2 ^ m) (hl : lo = m + l) :
    bitsAt w lo n = bitsAt r l n := by
  unfold bitsAt
  rw [q, hp, hl, Nat.pow_add, ← Nat.div_div_eq_div_mul, Nat.add_mul_div_left _ _ (Nat.two_pow_pos m), Nat.div_eq_of_lt hv,
    Nat.zero_add]

/-- A whole chunk reads as its value. -/
theorem low {w v p r m : Nat} (q : w = v + p * r) (hv : v < 2 ^ m) (hp : p = 2 ^ m) : bitsAt w 0 m = v := by
  unfold bitsAt
  rw [q, hp, Nat.pow_zero, Nat.div_one, Nat.add_mul_mod_self_left, Nat.mod_eq_of_lt hv]

/-- Bits within a chunk are those of its value. -/
theorem part {w v p r m u : Nat} (q : w = v + p * r) (_hv : v < 2 ^ m) (l n : Nat) (hp : p = 2 ^ m) (hm : l + n ≤ m)
    (hu : v / 2 ^ l % 2 ^ n = u) : bitsAt w l n = u := by
  unfold bitsAt
  have e : 2 ^ m * r = 2 ^ l * (2 ^ n * (2 ^ (m - l - n) * r)) := by
    rw [← Nat.mul_assoc, ← Nat.mul_assoc, ← Nat.pow_add, ← Nat.pow_add]; congr 2; omega
  rw [q, hp, e, Nat.add_mul_div_left _ _ (Nat.two_pow_pos l), Nat.add_mul_mod_self_left, hu]

/-- A chunk below a bounded rest is bounded. -/
theorem bound {w v p r m b : Nat} (q : w = v + p * r) (hv : v < 2 ^ m) (hr : r < b) (hp : p = 2 ^ m) :
    w < p * b := by
  have : p * (r + 1) ≤ p * b := Nat.mul_le_mul_left _ hr
  rw [Nat.mul_add] at this
  omega

/-- The chain bit stands alone at the top. -/
theorem top {k : Nat} (hk : k ≤ 1) : bitsAt k 0 1 = k := by unfold bitsAt; omega

/-- Two ranges that hold a bit in common differ when that bit does. -/
theorem differs {w lo n v b u : Nat} (h : bitsAt w b 1 = u) (d : Nat) (hb : b = lo + d) (hd : d + 1 ≤ n)
    (hu : v / 2 ^ d % 2 ≠ u) : ¬ bitsAt w lo n = v := by
  intro e
  apply hu
  rw [← h, ← e, hb]
  unfold bitsAt
  have : 2 ^ n = 2 ^ d * 2 ^ (n - d) := by rw [← Nat.pow_add]; congr 1; omega
  rw [this, Nat.mod_mul_right_div_self, Nat.mod_mod_of_dvd _ (by
    have : n - d = (n - d - 1) + 1 := by omega
    rw [this, Nat.pow_succ]; exact Nat.dvd_mul_left _ _), Nat.pow_add, Nat.div_div_eq_div_mul, Nat.pow_one]

/-- A field is read as it was written. -/
theorem fieldAt_eq {n : Nat} {w lo : Nat} {d : BitVec n} (h : bitsAt w lo n = d.toNat) : fieldAt w lo n = d := by
  simp [fieldAt, h]

/-- Major opcode 00. -/
theorem major00 (w : Nat) (h : bitsAt w 25 6 = 0) :
    decodeFields w = match decodeMajor00 w with | some i => .ok i | none => .error .noFunction := by
  unfold decodeFields; generalize bitsAt w 25 6 = n at h; subst h; rfl

/-- Major opcode 01. -/
theorem major01 (w : Nat) (h : bitsAt w 25 6 = 1) :
    decodeFields w = match decodeMajor01 w with | some i => .ok i | none => .error .noFunction := by
  unfold decodeFields; generalize bitsAt w 25 6 = n at h; subst h; rfl

/-- Major opcode 02. -/
theorem major02 (w : Nat) (h : bitsAt w 25 6 = 2) :
    decodeFields w = match decodeMajor02 w with | some i => .ok i | none => .error .noFunction := by
  unfold decodeFields; generalize bitsAt w 25 6 = n at h; subst h; rfl

/-- Major opcode 03. -/
theorem major03 (w : Nat) (h : bitsAt w 25 6 = 3) :
    decodeFields w = match decodeMajor03 w with | some i => .ok i | none => .error .noFunction := by
  unfold decodeFields; generalize bitsAt w 25 6 = n at h; subst h; rfl

/-- Major opcode 04. -/
theorem major04 (w : Nat) (h : bitsAt w 25 6 = 4) :
    decodeFields w = match decodeMajor04 w with | some i => .ok i | none => .error .noFunction := by
  unfold decodeFields; generalize bitsAt w 25 6 = n at h; subst h; rfl

/-- Major opcode 05. -/
theorem major05 (w : Nat) (h : bitsAt w 25 6 = 5) :
    decodeFields w = match decodeMajor05 w with | some i => .ok i | none => .error .noFunction := by
  unfold decodeFields; generalize bitsAt w 25 6 = n at h; subst h; rfl

/-- Major opcode 06. -/
theorem major06 (w : Nat) (h : bitsAt w 25 6 = 6) :
    decodeFields w = match decodeMajor06 w with | some i => .ok i | none => .error .noFunction := by
  unfold decodeFields; generalize bitsAt w 25 6 = n at h; subst h; rfl

/-- Major opcode 07. -/
theorem major07 (w : Nat) (h : bitsAt w 25 6 = 7) :
    decodeFields w = match decodeMajor07 w with | some i => .ok i | none => .error .noFunction := by
  unfold decodeFields; generalize bitsAt w 25 6 = n at h; subst h; rfl

/-- Major opcode 08. -/
theorem major08 (w : Nat) (h : bitsAt w 25 6 = 8) :
    decodeFields w = match decodeMajor08 w with | some i => .ok i | none => .error .noFunction := by
  unfold decodeFields; generalize bitsAt w 25 6 = n at h; subst h; rfl

/-- Major opcode 09. -/
theorem major09 (w : Nat) (h : bitsAt w 25 6 = 9) :
    decodeFields w = match decodeMajor09 w with | some i => .ok i | none => .error .noFunction := by
  unfold decodeFields; generalize bitsAt w 25 6 = n at h; subst h; rfl

/-- Major opcode 0A. -/
theorem major0A (w : Nat) (h : bitsAt w 25 6 = 10) :
    decodeFields w = match decodeMajor0A w with | some i => .ok i | none => .error .noFunction := by
  unfold decodeFields; generalize bitsAt w 25 6 = n at h; subst h; rfl

/-- Major opcode 0B. -/
theorem major0B (w : Nat) (h : bitsAt w 25 6 = 11) :
    decodeFields w = match decodeMajor0B w with | some i => .ok i | none => .error .noFunction := by
  unfold decodeFields; generalize bitsAt w 25 6 = n at h; subst h; rfl

/-- Major opcode 0C. -/
theorem major0C (w : Nat) (h : bitsAt w 25 6 = 12) :
    decodeFields w = match decodeMajor0C w with | some i => .ok i | none => .error .noFunction := by
  unfold decodeFields; generalize bitsAt w 25 6 = n at h; subst h; rfl

/-- Major opcode 0D. -/
theorem major0D (w : Nat) (h : bitsAt w 25 6 = 13) :
    decodeFields w = match decodeMajor0D w with | some i => .ok i | none => .error .noFunction := by
  unfold decodeFields; generalize bitsAt w 25 6 = n at h; subst h; rfl

/-- Major opcode 0E. -/
theorem major0E (w : Nat) (h : bitsAt w 25 6 = 14) :
    decodeFields w = match decodeMajor0E w with | some i => .ok i | none => .error .noFunction := by
  unfold decodeFields; generalize bitsAt w 25 6 = n at h; subst h; rfl

/-- Major opcode 0F. -/
theorem major0F (w : Nat) (h : bitsAt w 25 6 = 15) :
    decodeFields w = match decodeMajor0F w with | some i => .ok i | none => .error .noFunction := by
  unfold decodeFields; generalize bitsAt w 25 6 = n at h; subst h; rfl

/-- Major opcode 10. -/
theorem major10 (w : Nat) (h : bitsAt w 25 6 = 16) :
    decodeFields w = match decodeMajor10 w with | some i => .ok i | none => .error .noFunction := by
  unfold decodeFields; generalize bitsAt w 25 6 = n at h; subst h; rfl

/-- Major opcode 11. -/
theorem major11 (w : Nat) (h : bitsAt w 25 6 = 17) :
    decodeFields w = match decodeMajor11 w with | some i => .ok i | none => .error .noFunction := by
  unfold decodeFields; generalize bitsAt w 25 6 = n at h; subst h; rfl

/-- Major opcode 12. -/
theorem major12 (w : Nat) (h : bitsAt w 25 6 = 18) :
    decodeFields w = match decodeMajor12 w with | some i => .ok i | none => .error .noFunction := by
  unfold decodeFields; generalize bitsAt w 25 6 = n at h; subst h; rfl

/-- Major opcode 13. -/
theorem major13 (w : Nat) (h : bitsAt w 25 6 = 19) :
    decodeFields w = match decodeMajor13 w with | some i => .ok i | none => .error .noFunction := by
  unfold decodeFields; generalize bitsAt w 25 6 = n at h; subst h; rfl

/-- Major opcode 14. -/
theorem major14 (w : Nat) (h : bitsAt w 25 6 = 20) :
    decodeFields w = match decodeMajor14 w with | some i => .ok i | none => .error .noFunction := by
  unfold decodeFields; generalize bitsAt w 25 6 = n at h; subst h; rfl

/-- Major opcode 15. -/
theorem major15 (w : Nat) (h : bitsAt w 25 6 = 21) :
    decodeFields w = match decodeMajor15 w with | some i => .ok i | none => .error .noFunction := by
  unfold decodeFields; generalize bitsAt w 25 6 = n at h; subst h; rfl

/-- Major opcode 16. -/
theorem major16 (w : Nat) (h : bitsAt w 25 6 = 22) :
    decodeFields w = match decodeMajor16 w with | some i => .ok i | none => .error .noFunction := by
  unfold decodeFields; generalize bitsAt w 25 6 = n at h; subst h; rfl

/-- Major opcode 17. -/
theorem major17 (w : Nat) (h : bitsAt w 25 6 = 23) :
    decodeFields w = match decodeMajor17 w with | some i => .ok i | none => .error .noFunction := by
  unfold decodeFields; generalize bitsAt w 25 6 = n at h; subst h; rfl

/-- Major opcode 18. -/
theorem major18 (w : Nat) (h : bitsAt w 25 6 = 24) :
    decodeFields w = match decodeMajor18 w with | some i => .ok i | none => .error .noFunction := by
  unfold decodeFields; generalize bitsAt w 25 6 = n at h; subst h; rfl

/-- Major opcode 19. -/
theorem major19 (w : Nat) (h : bitsAt w 25 6 = 25) :
    decodeFields w = match decodeMajor19 w with | some i => .ok i | none => .error .noFunction := by
  unfold decodeFields; generalize bitsAt w 25 6 = n at h; subst h; rfl

/-- Major opcode 1A. -/
theorem major1A (w : Nat) (h : bitsAt w 25 6 = 26) :
    decodeFields w = match decodeMajor1A w with | some i => .ok i | none => .error .noFunction := by
  unfold decodeFields; generalize bitsAt w 25 6 = n at h; subst h; rfl

/-- Major opcode 1B. -/
theorem major1B (w : Nat) (h : bitsAt w 25 6 = 27) :
    decodeFields w = match decodeMajor1B w with | some i => .ok i | none => .error .noFunction := by
  unfold decodeFields; generalize bitsAt w 25 6 = n at h; subst h; rfl

/-- Major opcode 20. -/
theorem major20 (w : Nat) (h : bitsAt w 25 6 = 32) :
    decodeFields w = match decodeMajor20 w with | some i => .ok i | none => .error .noFunction := by
  unfold decodeFields; generalize bitsAt w 25 6 = n at h; subst h; rfl

/-- Major opcode 21. -/
theorem major21 (w : Nat) (h : bitsAt w 25 6 = 33) :
    decodeFields w = match decodeMajor21 w with | some i => .ok i | none => .error .noFunction := by
  unfold decodeFields; generalize bitsAt w 25 6 = n at h; subst h; rfl

/-- Major opcode 22. -/
theorem major22 (w : Nat) (h : bitsAt w 25 6 = 34) :
    decodeFields w = match decodeMajor22 w with | some i => .ok i | none => .error .noFunction := by
  unfold decodeFields; generalize bitsAt w 25 6 = n at h; subst h; rfl

/-- Major opcode 23. -/
theorem major23 (w : Nat) (h : bitsAt w 25 6 = 35) :
    decodeFields w = match decodeMajor23 w with | some i => .ok i | none => .error .noFunction := by
  unfold decodeFields; generalize bitsAt w 25 6 = n at h; subst h; rfl

/-- Major opcode 24. -/
theorem major24 (w : Nat) (h : bitsAt w 25 6 = 36) :
    decodeFields w = match decodeMajor24 w with | some i => .ok i | none => .error .noFunction := by
  unfold decodeFields; generalize bitsAt w 25 6 = n at h; subst h; rfl

/-- Major opcode 25. -/
theorem major25 (w : Nat) (h : bitsAt w 25 6 = 37) :
    decodeFields w = match decodeMajor25 w with | some i => .ok i | none => .error .noFunction := by
  unfold decodeFields; generalize bitsAt w 25 6 = n at h; subst h; rfl

/-- Major opcode 26. -/
theorem major26 (w : Nat) (h : bitsAt w 25 6 = 38) :
    decodeFields w = match decodeMajor26 w with | some i => .ok i | none => .error .noFunction := by
  unfold decodeFields; generalize bitsAt w 25 6 = n at h; subst h; rfl

/-- Major opcode 27. -/
theorem major27 (w : Nat) (h : bitsAt w 25 6 = 39) :
    decodeFields w = match decodeMajor27 w with | some i => .ok i | none => .error .noFunction := by
  unfold decodeFields; generalize bitsAt w 25 6 = n at h; subst h; rfl

/-- Major opcode 28. -/
theorem major28 (w : Nat) (h : bitsAt w 25 6 = 40) :
    decodeFields w = match decodeMajor28 w with | some i => .ok i | none => .error .noFunction := by
  unfold decodeFields; generalize bitsAt w 25 6 = n at h; subst h; rfl

/-- Major opcode 29. -/
theorem major29 (w : Nat) (h : bitsAt w 25 6 = 41) :
    decodeFields w = match decodeMajor29 w with | some i => .ok i | none => .error .noFunction := by
  unfold decodeFields; generalize bitsAt w 25 6 = n at h; subst h; rfl

/-- Major opcode 2A. -/
theorem major2A (w : Nat) (h : bitsAt w 25 6 = 42) :
    decodeFields w = match decodeMajor2A w with | some i => .ok i | none => .error .noFunction := by
  unfold decodeFields; generalize bitsAt w 25 6 = n at h; subst h; rfl

/-- Major opcode 2B. -/
theorem major2B (w : Nat) (h : bitsAt w 25 6 = 43) :
    decodeFields w = match decodeMajor2B w with | some i => .ok i | none => .error .noFunction := by
  unfold decodeFields; generalize bitsAt w 25 6 = n at h; subst h; rfl

/-- Major opcode 2C. -/
theorem major2C (w : Nat) (h : bitsAt w 25 6 = 44) :
    decodeFields w = match decodeMajor2C w with | some i => .ok i | none => .error .noFunction := by
  unfold decodeFields; generalize bitsAt w 25 6 = n at h; subst h; rfl

/-- Major opcode 2D. -/
theorem major2D (w : Nat) (h : bitsAt w 25 6 = 45) :
    decodeFields w = match decodeMajor2D w with | some i => .ok i | none => .error .noFunction := by
  unfold decodeFields; generalize bitsAt w 25 6 = n at h; subst h; rfl

/-- Major opcode 2E. -/
theorem major2E (w : Nat) (h : bitsAt w 25 6 = 46) :
    decodeFields w = match decodeMajor2E w with | some i => .ok i | none => .error .noFunction := by
  unfold decodeFields; generalize bitsAt w 25 6 = n at h; subst h; rfl

/-- Major opcode 2F. -/
theorem major2F (w : Nat) (h : bitsAt w 25 6 = 47) :
    decodeFields w = match decodeMajor2F w with | some i => .ok i | none => .error .noFunction := by
  unfold decodeFields; generalize bitsAt w 25 6 = n at h; subst h; rfl

/-- Major opcode 30. -/
theorem major30 (w : Nat) (h : bitsAt w 25 6 = 48) :
    decodeFields w = match decodeMajor30 w with | some i => .ok i | none => .error .noFunction := by
  unfold decodeFields; generalize bitsAt w 25 6 = n at h; subst h; rfl

/-- Major opcode 31. -/
theorem major31 (w : Nat) (h : bitsAt w 25 6 = 49) :
    decodeFields w = match decodeMajor31 w with | some i => .ok i | none => .error .noFunction := by
  unfold decodeFields; generalize bitsAt w 25 6 = n at h; subst h; rfl

/-- Major opcode 32. -/
theorem major32 (w : Nat) (h : bitsAt w 25 6 = 50) :
    decodeFields w = match decodeMajor32 w with | some i => .ok i | none => .error .noFunction := by
  unfold decodeFields; generalize bitsAt w 25 6 = n at h; subst h; rfl

/-- Major opcode 33. -/
theorem major33 (w : Nat) (h : bitsAt w 25 6 = 51) :
    decodeFields w = match decodeMajor33 w with | some i => .ok i | none => .error .noFunction := by
  unfold decodeFields; generalize bitsAt w 25 6 = n at h; subst h; rfl

/-- Major opcode 34. -/
theorem major34 (w : Nat) (h : bitsAt w 25 6 = 52) :
    decodeFields w = match decodeMajor34 w with | some i => .ok i | none => .error .noFunction := by
  unfold decodeFields; generalize bitsAt w 25 6 = n at h; subst h; rfl

/-- Major opcode 35. -/
theorem major35 (w : Nat) (h : bitsAt w 25 6 = 53) :
    decodeFields w = match decodeMajor35 w with | some i => .ok i | none => .error .noFunction := by
  unfold decodeFields; generalize bitsAt w 25 6 = n at h; subst h; rfl

/-- Major opcode 36. -/
theorem major36 (w : Nat) (h : bitsAt w 25 6 = 54) :
    decodeFields w = match decodeMajor36 w with | some i => .ok i | none => .error .noFunction := by
  unfold decodeFields; generalize bitsAt w 25 6 = n at h; subst h; rfl

/-- Major opcode 37. -/
theorem major37 (w : Nat) (h : bitsAt w 25 6 = 55) :
    decodeFields w = match decodeMajor37 w with | some i => .ok i | none => .error .noFunction := by
  unfold decodeFields; generalize bitsAt w 25 6 = n at h; subst h; rfl

/-- Major opcode 38. -/
theorem major38 (w : Nat) (h : bitsAt w 25 6 = 56) :
    decodeFields w = match decodeMajor38 w with | some i => .ok i | none => .error .noFunction := by
  unfold decodeFields; generalize bitsAt w 25 6 = n at h; subst h; rfl

/-- Major opcode 39. -/
theorem major39 (w : Nat) (h : bitsAt w 25 6 = 57) :
    decodeFields w = match decodeMajor39 w with | some i => .ok i | none => .error .noFunction := by
  unfold decodeFields; generalize bitsAt w 25 6 = n at h; subst h; rfl

/-- Major opcode 3A. -/
theorem major3A (w : Nat) (h : bitsAt w 25 6 = 58) :
    decodeFields w = match decodeMajor3A w with | some i => .ok i | none => .error .noFunction := by
  unfold decodeFields; generalize bitsAt w 25 6 = n at h; subst h; rfl

/-- Major opcode 3B. -/
theorem major3B (w : Nat) (h : bitsAt w 25 6 = 59) :
    decodeFields w = match decodeMajor3B w with | some i => .ok i | none => .error .noFunction := by
  unfold decodeFields; generalize bitsAt w 25 6 = n at h; subst h; rfl

theorem nop : Statement (.nop) := by
  refine of_fields rfl ?_
  intro k hk w hw
  have q0 : w = 0 + 2147483648 * k := by simp only [assemble] at hw; omega
  have z0 : 0 < 2 ^ 31 := Nat.le_of_ble_eq_true rfl
  have m0 : bitsAt w 25 6 = 0 := part q0 z0 25 6 rfl (Nat.le_of_ble_eq_true rfl) rfl
  have e0 : bitsAt w 0 25 = 0 := part q0 z0 0 25 rfl (Nat.le_of_ble_eq_true rfl) rfl
  refine ⟨Nat.lt_of_lt_of_le (bound q0 z0 (Nat.lt_succ_of_le hk) rfl) (Nat.le_of_ble_eq_true rfl), (skip q0 z0 0 1 rfl rfl).trans (top hk), ?_⟩
  rw [major00 w m0]
  simp [decodeMajor00, e0]

theorem exit : Statement (.exit) := by
  refine of_fields rfl ?_
  intro k hk w hw
  have q0 : w = 524288 + 2147483648 * k := by simp only [assemble] at hw; omega
  have z0 : 524288 < 2 ^ 31 := Nat.le_of_ble_eq_true rfl
  have m0 : bitsAt w 25 6 = 0 := part q0 z0 25 6 rfl (Nat.le_of_ble_eq_true rfl) rfl
  have e0 : bitsAt w 0 25 = 524288 := part q0 z0 0 25 rfl (Nat.le_of_ble_eq_true rfl) rfl
  refine ⟨Nat.lt_of_lt_of_le (bound q0 z0 (Nat.lt_succ_of_le hk) rfl) (Nat.le_of_ble_eq_true rfl), (skip q0 z0 0 1 rfl rfl).trans (top hk), ?_⟩
  rw [major00 w m0]
  simp [decodeMajor00, e0]

theorem trap (i : BitVec 13) : Statement (.trap i) := by
  refine of_fields rfl ?_
  intro k hk w hw
  obtain ⟨r1, q1⟩ : ∃ r, r = 128 + 262144 * k := ⟨_, rfl⟩
  have q0 : w = i.toNat + 8192 * r1 := by simp only [assemble] at hw; omega
  have z1 : 128 < 2 ^ 18 := Nat.le_of_ble_eq_true rfl
  have m0 : bitsAt w 25 6 = 0 := (skip q0 i.isLt 12 6 rfl rfl).trans (part q1 z1 12 6 rfl (Nat.le_of_ble_eq_true rfl) rfl)
  have e0 : bitsAt w 13 12 = 128 := (skip q0 i.isLt 0 12 rfl rfl).trans (part q1 z1 0 12 rfl (Nat.le_of_ble_eq_true rfl) rfl)
  have n0 : ¬ bitsAt w 0 25 = 0 := differs ((skip q0 i.isLt 7 1 rfl rfl).trans (part q1 z1 7 1 rfl (Nat.le_of_ble_eq_true rfl) rfl)) 20 rfl (Nat.le_of_ble_eq_true rfl) (by decide)
  have n1 : ¬ bitsAt w 0 25 = 524288 := differs ((skip q0 i.isLt 6 1 rfl rfl).trans (part q1 z1 6 1 rfl (Nat.le_of_ble_eq_true rfl) rfl)) 19 rfl (Nat.le_of_ble_eq_true rfl) (by decide)
  have f0 : fieldAt w 0 13 = i := fieldAt_eq (low q0 i.isLt rfl)
  refine ⟨Nat.lt_of_lt_of_le (bound q0 i.isLt (bound q1 z1 (Nat.lt_succ_of_le hk) rfl) rfl) (Nat.le_of_ble_eq_true rfl), (skip q0 i.isLt 18 1 rfl rfl).trans ((skip q1 z1 0 1 rfl rfl).trans (top hk)), ?_⟩
  rw [major00 w m0]
  simp [decodeMajor00, e0, n0, n1, f0]

theorem brk (i : BitVec 13) : Statement (.brk i) := by
  refine of_fields rfl ?_
  intro k hk w hw
  obtain ⟨r1, q1⟩ : ∃ r, r = 192 + 262144 * k := ⟨_, rfl⟩
  have q0 : w = i.toNat + 8192 * r1 := by simp only [assemble] at hw; omega
  have z1 : 192 < 2 ^ 18 := Nat.le_of_ble_eq_true rfl
  have m0 : bitsAt w 25 6 = 0 := (skip q0 i.isLt 12 6 rfl rfl).trans (part q1 z1 12 6 rfl (Nat.le_of_ble_eq_true rfl) rfl)
  have e0 : bitsAt w 13 12 = 192 := (skip q0 i.isLt 0 12 rfl rfl).trans (part q1 z1 0 12 rfl (Nat.le_of_ble_eq_true rfl) rfl)
  have n0 : ¬ bitsAt w 0 25 = 0 := differs ((skip q0 i.isLt 6 1 rfl rfl).trans (part q1 z1 6 1 rfl (Nat.le_of_ble_eq_true rfl) rfl)) 19 rfl (Nat.le_of_ble_eq_true rfl) (by decide)
  have n1 : ¬ bitsAt w 0 25 = 524288 := differs ((skip q0 i.isLt 7 1 rfl rfl).trans (part q1 z1 7 1 rfl (Nat.le_of_ble_eq_true rfl) rfl)) 20 rfl (Nat.le_of_ble_eq_true rfl) (by decide)
  have f0 : fieldAt w 0 13 = i := fieldAt_eq (low q0 i.isLt rfl)
  refine ⟨Nat.lt_of_lt_of_le (bound q0 i.isLt (bound q1 z1 (Nat.lt_succ_of_le hk) rfl) rfl) (Nat.le_of_ble_eq_true rfl), (skip q0 i.isLt 18 1 rfl rfl).trans ((skip q1 z1 0 1 rfl rfl).trans (top hk)), ?_⟩
  rw [major00 w m0]
  simp [decodeMajor00, e0, n0, n1, f0]

theorem preoff (a : BitVec 6) : Statement (.preoff a) := by
  refine of_fields rfl ?_
  intro k hk w hw
  obtain ⟨r2, q2⟩ : ∃ r, r = 4 + 4096 * k := ⟨_, rfl⟩
  obtain ⟨r1, q1⟩ : ∃ r, r = a.toNat + 64 * r2 := ⟨_, rfl⟩
  have q0 : w = 0 + 8192 * r1 := by simp only [assemble] at hw; omega
  have z0 : 0 < 2 ^ 13 := Nat.le_of_ble_eq_true rfl
  have z2 : 4 < 2 ^ 12 := Nat.le_of_ble_eq_true rfl
  have m0 : bitsAt w 25 6 = 0 := (skip q0 z0 12 6 rfl rfl).trans ((skip q1 a.isLt 6 6 rfl rfl).trans (part q2 z2 6 6 rfl (Nat.le_of_ble_eq_true rfl) rfl))
  have e0 : bitsAt w 19 6 = 4 := (skip q0 z0 6 6 rfl rfl).trans ((skip q1 a.isLt 0 6 rfl rfl).trans (part q2 z2 0 6 rfl (Nat.le_of_ble_eq_true rfl) rfl))
  have e1 : bitsAt w 0 13 = 0 := low q0 z0 rfl
  have n0 : ¬ bitsAt w 0 25 = 0 := differs ((skip q0 z0 8 1 rfl rfl).trans ((skip q1 a.isLt 2 1 rfl rfl).trans (part q2 z2 2 1 rfl (Nat.le_of_ble_eq_true rfl) rfl))) 21 rfl (Nat.le_of_ble_eq_true rfl) (by decide)
  have n1 : ¬ bitsAt w 0 25 = 524288 := differs ((skip q0 z0 6 1 rfl rfl).trans ((skip q1 a.isLt 0 1 rfl rfl).trans (part q2 z2 0 1 rfl (Nat.le_of_ble_eq_true rfl) rfl))) 19 rfl (Nat.le_of_ble_eq_true rfl) (by decide)
  have n2 : ¬ bitsAt w 13 12 = 128 := differs ((skip q0 z0 7 1 rfl rfl).trans ((skip q1 a.isLt 1 1 rfl rfl).trans (part q2 z2 1 1 rfl (Nat.le_of_ble_eq_true rfl) rfl))) 7 rfl (Nat.le_of_ble_eq_true rfl) (by decide)
  have n3 : ¬ bitsAt w 13 12 = 192 := differs ((skip q0 z0 6 1 rfl rfl).trans ((skip q1 a.isLt 0 1 rfl rfl).trans (part q2 z2 0 1 rfl (Nat.le_of_ble_eq_true rfl) rfl))) 6 rfl (Nat.le_of_ble_eq_true rfl) (by decide)
  have f0 : fieldAt w 13 6 = a := fieldAt_eq ((skip q0 z0 0 6 rfl rfl).trans (low q1 a.isLt rfl))
  refine ⟨Nat.lt_of_lt_of_le (bound q0 z0 (bound q1 a.isLt (bound q2 z2 (Nat.lt_succ_of_le hk) rfl) rfl) rfl) (Nat.le_of_ble_eq_true rfl), (skip q0 z0 18 1 rfl rfl).trans ((skip q1 a.isLt 12 1 rfl rfl).trans ((skip q2 z2 0 1 rfl rfl).trans (top hk))), ?_⟩
  rw [major00 w m0]
  simp [decodeMajor00, e0, e1, n0, n1, n2, n3, f0]

theorem preon : Statement (.preon) := by
  refine of_fields rfl ?_
  intro k hk w hw
  have q0 : w = 2621440 + 2147483648 * k := by simp only [assemble] at hw; omega
  have z0 : 2621440 < 2 ^ 31 := Nat.le_of_ble_eq_true rfl
  have m0 : bitsAt w 25 6 = 0 := part q0 z0 25 6 rfl (Nat.le_of_ble_eq_true rfl) rfl
  have e0 : bitsAt w 0 25 = 2621440 := part q0 z0 0 25 rfl (Nat.le_of_ble_eq_true rfl) rfl
  have e1 : bitsAt w 13 12 = 320 := part q0 z0 13 12 rfl (Nat.le_of_ble_eq_true rfl) rfl
  have e2 : bitsAt w 19 6 = 5 := part q0 z0 19 6 rfl (Nat.le_of_ble_eq_true rfl) rfl
  have e3 : bitsAt w 0 13 = 0 := part q0 z0 0 13 rfl (Nat.le_of_ble_eq_true rfl) rfl
  refine ⟨Nat.lt_of_lt_of_le (bound q0 z0 (Nat.lt_succ_of_le hk) rfl) (Nat.le_of_ble_eq_true rfl), (skip q0 z0 0 1 rfl rfl).trans (top hk), ?_⟩
  rw [major00 w m0]
  simp [decodeMajor00, e0, e1, e2, e3]

theorem getc (d : BitVec 6) (i : BitVec 13) : Statement (.getc d i) := by
  refine of_fields rfl ?_
  intro k hk w hw
  obtain ⟨r2, q2⟩ : ∃ r, r = 6 + 4096 * k := ⟨_, rfl⟩
  obtain ⟨r1, q1⟩ : ∃ r, r = d.toNat + 64 * r2 := ⟨_, rfl⟩
  have q0 : w = i.toNat + 8192 * r1 := by simp only [assemble] at hw; omega
  have z2 : 6 < 2 ^ 12 := Nat.le_of_ble_eq_true rfl
  have m0 : bitsAt w 25 6 = 0 := (skip q0 i.isLt 12 6 rfl rfl).trans ((skip q1 d.isLt 6 6 rfl rfl).trans (part q2 z2 6 6 rfl (Nat.le_of_ble_eq_true rfl) rfl))
  have e0 : bitsAt w 19 6 = 6 := (skip q0 i.isLt 6 6 rfl rfl).trans ((skip q1 d.isLt 0 6 rfl rfl).trans (part q2 z2 0 6 rfl (Nat.le_of_ble_eq_true rfl) rfl))
  have n0 : ¬ bitsAt w 0 25 = 0 := differs ((skip q0 i.isLt 7 1 rfl rfl).trans ((skip q1 d.isLt 1 1 rfl rfl).trans (part q2 z2 1 1 rfl (Nat.le_of_ble_eq_true rfl) rfl))) 20 rfl (Nat.le_of_ble_eq_true rfl) (by decide)
  have n1 : ¬ bitsAt w 0 25 = 524288 := differs ((skip q0 i.isLt 6 1 rfl rfl).trans ((skip q1 d.isLt 0 1 rfl rfl).trans (part q2 z2 0 1 rfl (Nat.le_of_ble_eq_true rfl) rfl))) 19 rfl (Nat.le_of_ble_eq_true rfl) (by decide)
  have n2 : ¬ bitsAt w 13 12 = 128 := differs ((skip q0 i.isLt 8 1 rfl rfl).trans ((skip q1 d.isLt 2 1 rfl rfl).trans (part q2 z2 2 1 rfl (Nat.le_of_ble_eq_true rfl) rfl))) 8 rfl (Nat.le_of_ble_eq_true rfl) (by decide)
  have n3 : ¬ bitsAt w 13 12 = 192 := differs ((skip q0 i.isLt 6 1 rfl rfl).trans ((skip q1 d.isLt 0 1 rfl rfl).trans (part q2 z2 0 1 rfl (Nat.le_of_ble_eq_true rfl) rfl))) 6 rfl (Nat.le_of_ble_eq_true rfl) (by decide)
  have n4 : ¬ bitsAt w 0 25 = 2621440 := differs ((skip q0 i.isLt 6 1 rfl rfl).trans ((skip q1 d.isLt 0 1 rfl rfl).trans (part q2 z2 0 1 rfl (Nat.le_of_ble_eq_true rfl) rfl))) 19 rfl (Nat.le_of_ble_eq_true rfl) (by decide)
  have f0 : fieldAt w 13 6 = d := fieldAt_eq ((skip q0 i.isLt 0 6 rfl rfl).trans (low q1 d.isLt rfl))
  have f1 : fieldAt w 0 13 = i := fieldAt_eq (low q0 i.isLt rfl)
  refine ⟨Nat.lt_of_lt_of_le (bound q0 i.isLt (bound q1 d.isLt (bound q2 z2 (Nat.lt_succ_of_le hk) rfl) rfl) rfl) (Nat.le_of_ble_eq_true rfl), (skip q0 i.isLt 18 1 rfl rfl).trans ((skip q1 d.isLt 12 1 rfl rfl).trans ((skip q2 z2 0 1 rfl rfl).trans (top hk))), ?_⟩
  rw [major00 w m0]
  simp [decodeMajor00, e0, n0, n1, n2, n3, n4, f0, f1]

theorem setc (a : BitVec 6) (i : BitVec 13) : Statement (.setc a i) := by
  refine of_fields rfl ?_
  intro k hk w hw
  obtain ⟨r2, q2⟩ : ∃ r, r = 7 + 4096 * k := ⟨_, rfl⟩
  obtain ⟨r1, q1⟩ : ∃ r, r = a.toNat + 64 * r2 := ⟨_, rfl⟩
  have q0 : w = i.toNat + 8192 * r1 := by simp only [assemble] at hw; omega
  have z2 : 7 < 2 ^ 12 := Nat.le_of_ble_eq_true rfl
  have m0 : bitsAt w 25 6 = 0 := (skip q0 i.isLt 12 6 rfl rfl).trans ((skip q1 a.isLt 6 6 rfl rfl).trans (part q2 z2 6 6 rfl (Nat.le_of_ble_eq_true rfl) rfl))
  have e0 : bitsAt w 19 6 = 7 := (skip q0 i.isLt 6 6 rfl rfl).trans ((skip q1 a.isLt 0 6 rfl rfl).trans (part q2 z2 0 6 rfl (Nat.le_of_ble_eq_true rfl) rfl))
  have n0 : ¬ bitsAt w 0 25 = 0 := differs ((skip q0 i.isLt 6 1 rfl rfl).trans ((skip q1 a.isLt 0 1 rfl rfl).trans (part q2 z2 0 1 rfl (Nat.le_of_ble_eq_true rfl) rfl))) 19 rfl (Nat.le_of_ble_eq_true rfl) (by decide)
  have n1 : ¬ bitsAt w 0 25 = 524288 := differs ((skip q0 i.isLt 7 1 rfl rfl).trans ((skip q1 a.isLt 1 1 rfl rfl).trans (part q2 z2 1 1 rfl (Nat.le_of_ble_eq_true rfl) rfl))) 20 rfl (Nat.le_of_ble_eq_true rfl) (by decide)
  have n2 : ¬ bitsAt w 13 12 = 128 := differs ((skip q0 i.isLt 6 1 rfl rfl).trans ((skip q1 a.isLt 0 1 rfl rfl).trans (part q2 z2 0 1 rfl (Nat.le_of_ble_eq_true rfl) rfl))) 6 rfl (Nat.le_of_ble_eq_true rfl) (by decide)
  have n3 : ¬ bitsAt w 13 12 = 192 := differs ((skip q0 i.isLt 8 1 rfl rfl).trans ((skip q1 a.isLt 2 1 rfl rfl).trans (part q2 z2 2 1 rfl (Nat.le_of_ble_eq_true rfl) rfl))) 8 rfl (Nat.le_of_ble_eq_true rfl) (by decide)
  have n4 : ¬ bitsAt w 0 25 = 2621440 := differs ((skip q0 i.isLt 7 1 rfl rfl).trans ((skip q1 a.isLt 1 1 rfl rfl).trans (part q2 z2 1 1 rfl (Nat.le_of_ble_eq_true rfl) rfl))) 20 rfl (Nat.le_of_ble_eq_true rfl) (by decide)
  have f0 : fieldAt w 13 6 = a := fieldAt_eq ((skip q0 i.isLt 0 6 rfl rfl).trans (low q1 a.isLt rfl))
  have f1 : fieldAt w 0 13 = i := fieldAt_eq (low q0 i.isLt rfl)
  refine ⟨Nat.lt_of_lt_of_le (bound q0 i.isLt (bound q1 a.isLt (bound q2 z2 (Nat.lt_succ_of_le hk) rfl) rfl) rfl) (Nat.le_of_ble_eq_true rfl), (skip q0 i.isLt 18 1 rfl rfl).trans ((skip q1 a.isLt 12 1 rfl rfl).trans ((skip q2 z2 0 1 rfl rfl).trans (top hk))), ?_⟩
  rw [major00 w m0]
  simp [decodeMajor00, e0, n0, n1, n2, n3, n4, f0, f1]

theorem fence (s : BitVec 3) : Statement (.fence s) := by
  refine of_fields rfl ?_
  intro k hk w hw
  obtain ⟨r1, q1⟩ : ∃ r, r = 524288 + 268435456 * k := ⟨_, rfl⟩
  have q0 : w = s.toNat + 8 * r1 := by simp only [assemble] at hw; omega
  have z1 : 524288 < 2 ^ 28 := Nat.le_of_ble_eq_true rfl
  have m0 : bitsAt w 25 6 = 0 := (skip q0 s.isLt 22 6 rfl rfl).trans (part q1 z1 22 6 rfl (Nat.le_of_ble_eq_true rfl) rfl)
  have e0 : bitsAt w 13 12 = 512 := (skip q0 s.isLt 10 12 rfl rfl).trans (part q1 z1 10 12 rfl (Nat.le_of_ble_eq_true rfl) rfl)
  have e1 : bitsAt w 19 6 = 8 := (skip q0 s.isLt 16 6 rfl rfl).trans (part q1 z1 16 6 rfl (Nat.le_of_ble_eq_true rfl) rfl)
  have e2 : bitsAt w 3 22 = 524288 := (skip q0 s.isLt 0 22 rfl rfl).trans (part q1 z1 0 22 rfl (Nat.le_of_ble_eq_true rfl) rfl)
  have n0 : ¬ bitsAt w 0 25 = 0 := differs ((skip q0 s.isLt 19 1 rfl rfl).trans (part q1 z1 19 1 rfl (Nat.le_of_ble_eq_true rfl) rfl)) 22 rfl (Nat.le_of_ble_eq_true rfl) (by decide)
  have n1 : ¬ bitsAt w 0 25 = 524288 := differs ((skip q0 s.isLt 16 1 rfl rfl).trans (part q1 z1 16 1 rfl (Nat.le_of_ble_eq_true rfl) rfl)) 19 rfl (Nat.le_of_ble_eq_true rfl) (by decide)
  have n2 : ¬ bitsAt w 0 25 = 2621440 := differs ((skip q0 s.isLt 16 1 rfl rfl).trans (part q1 z1 16 1 rfl (Nat.le_of_ble_eq_true rfl) rfl)) 19 rfl (Nat.le_of_ble_eq_true rfl) (by decide)
  have f0 : fieldAt w 0 3 = s := fieldAt_eq (low q0 s.isLt rfl)
  refine ⟨Nat.lt_of_lt_of_le (bound q0 s.isLt (bound q1 z1 (Nat.lt_succ_of_le hk) rfl) rfl) (Nat.le_of_ble_eq_true rfl), (skip q0 s.isLt 28 1 rfl rfl).trans ((skip q1 z1 0 1 rfl rfl).trans (top hk)), ?_⟩
  rw [major00 w m0]
  simp [decodeMajor00, e0, e1, e2, n0, n1, n2, f0]

theorem acq (s : BitVec 3) : Statement (.acq s) := by
  refine of_fields rfl ?_
  intro k hk w hw
  obtain ⟨r1, q1⟩ : ∃ r, r = 589824 + 268435456 * k := ⟨_, rfl⟩
  have q0 : w = s.toNat + 8 * r1 := by simp only [assemble] at hw; omega
  have z1 : 589824 < 2 ^ 28 := Nat.le_of_ble_eq_true rfl
  have m0 : bitsAt w 25 6 = 0 := (skip q0 s.isLt 22 6 rfl rfl).trans (part q1 z1 22 6 rfl (Nat.le_of_ble_eq_true rfl) rfl)
  have e0 : bitsAt w 13 12 = 576 := (skip q0 s.isLt 10 12 rfl rfl).trans (part q1 z1 10 12 rfl (Nat.le_of_ble_eq_true rfl) rfl)
  have e1 : bitsAt w 19 6 = 9 := (skip q0 s.isLt 16 6 rfl rfl).trans (part q1 z1 16 6 rfl (Nat.le_of_ble_eq_true rfl) rfl)
  have e2 : bitsAt w 3 22 = 589824 := (skip q0 s.isLt 0 22 rfl rfl).trans (part q1 z1 0 22 rfl (Nat.le_of_ble_eq_true rfl) rfl)
  have n0 : ¬ bitsAt w 0 25 = 0 := differs ((skip q0 s.isLt 16 1 rfl rfl).trans (part q1 z1 16 1 rfl (Nat.le_of_ble_eq_true rfl) rfl)) 19 rfl (Nat.le_of_ble_eq_true rfl) (by decide)
  have n1 : ¬ bitsAt w 0 25 = 524288 := differs ((skip q0 s.isLt 19 1 rfl rfl).trans (part q1 z1 19 1 rfl (Nat.le_of_ble_eq_true rfl) rfl)) 22 rfl (Nat.le_of_ble_eq_true rfl) (by decide)
  have n2 : ¬ bitsAt w 0 25 = 2621440 := differs ((skip q0 s.isLt 18 1 rfl rfl).trans (part q1 z1 18 1 rfl (Nat.le_of_ble_eq_true rfl) rfl)) 21 rfl (Nat.le_of_ble_eq_true rfl) (by decide)
  have f0 : fieldAt w 0 3 = s := fieldAt_eq (low q0 s.isLt rfl)
  refine ⟨Nat.lt_of_lt_of_le (bound q0 s.isLt (bound q1 z1 (Nat.lt_succ_of_le hk) rfl) rfl) (Nat.le_of_ble_eq_true rfl), (skip q0 s.isLt 28 1 rfl rfl).trans ((skip q1 z1 0 1 rfl rfl).trans (top hk)), ?_⟩
  rw [major00 w m0]
  simp [decodeMajor00, e0, e1, e2, n0, n1, n2, f0]

theorem rel (s : BitVec 3) : Statement (.rel s) := by
  refine of_fields rfl ?_
  intro k hk w hw
  obtain ⟨r1, q1⟩ : ∃ r, r = 655360 + 268435456 * k := ⟨_, rfl⟩
  have q0 : w = s.toNat + 8 * r1 := by simp only [assemble] at hw; omega
  have z1 : 655360 < 2 ^ 28 := Nat.le_of_ble_eq_true rfl
  have m0 : bitsAt w 25 6 = 0 := (skip q0 s.isLt 22 6 rfl rfl).trans (part q1 z1 22 6 rfl (Nat.le_of_ble_eq_true rfl) rfl)
  have e0 : bitsAt w 13 12 = 640 := (skip q0 s.isLt 10 12 rfl rfl).trans (part q1 z1 10 12 rfl (Nat.le_of_ble_eq_true rfl) rfl)
  have e1 : bitsAt w 19 6 = 10 := (skip q0 s.isLt 16 6 rfl rfl).trans (part q1 z1 16 6 rfl (Nat.le_of_ble_eq_true rfl) rfl)
  have e2 : bitsAt w 3 22 = 655360 := (skip q0 s.isLt 0 22 rfl rfl).trans (part q1 z1 0 22 rfl (Nat.le_of_ble_eq_true rfl) rfl)
  have n0 : ¬ bitsAt w 0 25 = 0 := differs ((skip q0 s.isLt 17 1 rfl rfl).trans (part q1 z1 17 1 rfl (Nat.le_of_ble_eq_true rfl) rfl)) 20 rfl (Nat.le_of_ble_eq_true rfl) (by decide)
  have n1 : ¬ bitsAt w 0 25 = 524288 := differs ((skip q0 s.isLt 16 1 rfl rfl).trans (part q1 z1 16 1 rfl (Nat.le_of_ble_eq_true rfl) rfl)) 19 rfl (Nat.le_of_ble_eq_true rfl) (by decide)
  have n2 : ¬ bitsAt w 0 25 = 2621440 := differs ((skip q0 s.isLt 16 1 rfl rfl).trans (part q1 z1 16 1 rfl (Nat.le_of_ble_eq_true rfl) rfl)) 19 rfl (Nat.le_of_ble_eq_true rfl) (by decide)
  have f0 : fieldAt w 0 3 = s := fieldAt_eq (low q0 s.isLt rfl)
  refine ⟨Nat.lt_of_lt_of_le (bound q0 s.isLt (bound q1 z1 (Nat.lt_succ_of_le hk) rfl) rfl) (Nat.le_of_ble_eq_true rfl), (skip q0 s.isLt 28 1 rfl rfl).trans ((skip q1 z1 0 1 rfl rfl).trans (top hk)), ?_⟩
  rw [major00 w m0]
  simp [decodeMajor00, e0, e1, e2, n0, n1, n2, f0]

theorem drain (nn : BitVec 13) : Statement (.drain nn) := by
  refine of_fields rfl ?_
  intro k hk w hw
  obtain ⟨r1, q1⟩ : ∃ r, r = 704 + 262144 * k := ⟨_, rfl⟩
  have q0 : w = nn.toNat + 8192 * r1 := by simp only [assemble] at hw; omega
  have z1 : 704 < 2 ^ 18 := Nat.le_of_ble_eq_true rfl
  have m0 : bitsAt w 25 6 = 0 := (skip q0 nn.isLt 12 6 rfl rfl).trans (part q1 z1 12 6 rfl (Nat.le_of_ble_eq_true rfl) rfl)
  have e0 : bitsAt w 13 12 = 704 := (skip q0 nn.isLt 0 12 rfl rfl).trans (part q1 z1 0 12 rfl (Nat.le_of_ble_eq_true rfl) rfl)
  have e1 : bitsAt w 19 6 = 11 := (skip q0 nn.isLt 6 6 rfl rfl).trans (part q1 z1 6 6 rfl (Nat.le_of_ble_eq_true rfl) rfl)
  have n0 : ¬ bitsAt w 0 25 = 0 := differs ((skip q0 nn.isLt 6 1 rfl rfl).trans (part q1 z1 6 1 rfl (Nat.le_of_ble_eq_true rfl) rfl)) 19 rfl (Nat.le_of_ble_eq_true rfl) (by decide)
  have n1 : ¬ bitsAt w 0 25 = 524288 := differs ((skip q0 nn.isLt 7 1 rfl rfl).trans (part q1 z1 7 1 rfl (Nat.le_of_ble_eq_true rfl) rfl)) 20 rfl (Nat.le_of_ble_eq_true rfl) (by decide)
  have n2 : ¬ bitsAt w 0 25 = 2621440 := differs ((skip q0 nn.isLt 7 1 rfl rfl).trans (part q1 z1 7 1 rfl (Nat.le_of_ble_eq_true rfl) rfl)) 20 rfl (Nat.le_of_ble_eq_true rfl) (by decide)
  have n3 : ¬ bitsAt w 3 22 = 524288 := differs ((skip q0 nn.isLt 6 1 rfl rfl).trans (part q1 z1 6 1 rfl (Nat.le_of_ble_eq_true rfl) rfl)) 16 rfl (Nat.le_of_ble_eq_true rfl) (by decide)
  have n4 : ¬ bitsAt w 3 22 = 589824 := differs ((skip q0 nn.isLt 7 1 rfl rfl).trans (part q1 z1 7 1 rfl (Nat.le_of_ble_eq_true rfl) rfl)) 17 rfl (Nat.le_of_ble_eq_true rfl) (by decide)
  have n5 : ¬ bitsAt w 3 22 = 655360 := differs ((skip q0 nn.isLt 6 1 rfl rfl).trans (part q1 z1 6 1 rfl (Nat.le_of_ble_eq_true rfl) rfl)) 16 rfl (Nat.le_of_ble_eq_true rfl) (by decide)
  have f0 : fieldAt w 0 13 = nn := fieldAt_eq (low q0 nn.isLt rfl)
  refine ⟨Nat.lt_of_lt_of_le (bound q0 nn.isLt (bound q1 z1 (Nat.lt_succ_of_le hk) rfl) rfl) (Nat.le_of_ble_eq_true rfl), (skip q0 nn.isLt 18 1 rfl rfl).trans ((skip q1 z1 0 1 rfl rfl).trans (top hk)), ?_⟩
  rw [major00 w m0]
  simp [decodeMajor00, e0, e1, n0, n1, n2, n3, n4, n5, f0]

theorem rdvi (a : BitVec 6) (p : BitVec 5) : Statement (.rdvi a p) := by
  refine of_fields rfl ?_
  intro k hk w hw
  obtain ⟨r3, q3⟩ : ∃ r, r = 12 + 4096 * k := ⟨_, rfl⟩
  obtain ⟨r2, q2⟩ : ∃ r, r = a.toNat + 64 * r3 := ⟨_, rfl⟩
  obtain ⟨r1, q1⟩ : ∃ r, r = 0 + 256 * r2 := ⟨_, rfl⟩
  have q0 : w = p.toNat + 32 * r1 := by simp only [assemble] at hw; omega
  have z1 : 0 < 2 ^ 8 := Nat.le_of_ble_eq_true rfl
  have z3 : 12 < 2 ^ 12 := Nat.le_of_ble_eq_true rfl
  have m0 : bitsAt w 25 6 = 0 := (skip q0 p.isLt 20 6 rfl rfl).trans ((skip q1 z1 12 6 rfl rfl).trans ((skip q2 a.isLt 6 6 rfl rfl).trans (part q3 z3 6 6 rfl (Nat.le_of_ble_eq_true rfl) rfl)))
  have e0 : bitsAt w 19 6 = 12 := (skip q0 p.isLt 14 6 rfl rfl).trans ((skip q1 z1 6 6 rfl rfl).trans ((skip q2 a.isLt 0 6 rfl rfl).trans (part q3 z3 0 6 rfl (Nat.le_of_ble_eq_true rfl) rfl)))
  have e1 : bitsAt w 5 8 = 0 := (skip q0 p.isLt 0 8 rfl rfl).trans (low q1 z1 rfl)
  have n0 : ¬ bitsAt w 0 25 = 0 := differs ((skip q0 p.isLt 16 1 rfl rfl).trans ((skip q1 z1 8 1 rfl rfl).trans ((skip q2 a.isLt 2 1 rfl rfl).trans (part q3 z3 2 1 rfl (Nat.le_of_ble_eq_true rfl) rfl)))) 21 rfl (Nat.le_of_ble_eq_true rfl) (by decide)
  have n1 : ¬ bitsAt w 0 25 = 524288 := differs ((skip q0 p.isLt 14 1 rfl rfl).trans ((skip q1 z1 6 1 rfl rfl).trans ((skip q2 a.isLt 0 1 rfl rfl).trans (part q3 z3 0 1 rfl (Nat.le_of_ble_eq_true rfl) rfl)))) 19 rfl (Nat.le_of_ble_eq_true rfl) (by decide)
  have n2 : ¬ bitsAt w 13 12 = 128 := differs ((skip q0 p.isLt 15 1 rfl rfl).trans ((skip q1 z1 7 1 rfl rfl).trans ((skip q2 a.isLt 1 1 rfl rfl).trans (part q3 z3 1 1 rfl (Nat.le_of_ble_eq_true rfl) rfl)))) 7 rfl (Nat.le_of_ble_eq_true rfl) (by decide)
  have n3 : ¬ bitsAt w 13 12 = 192 := differs ((skip q0 p.isLt 14 1 rfl rfl).trans ((skip q1 z1 6 1 rfl rfl).trans ((skip q2 a.isLt 0 1 rfl rfl).trans (part q3 z3 0 1 rfl (Nat.le_of_ble_eq_true rfl) rfl)))) 6 rfl (Nat.le_of_ble_eq_true rfl) (by decide)
  have n4 : ¬ bitsAt w 0 25 = 2621440 := differs ((skip q0 p.isLt 14 1 rfl rfl).trans ((skip q1 z1 6 1 rfl rfl).trans ((skip q2 a.isLt 0 1 rfl rfl).trans (part q3 z3 0 1 rfl (Nat.le_of_ble_eq_true rfl) rfl)))) 19 rfl (Nat.le_of_ble_eq_true rfl) (by decide)
  have n5 : ¬ bitsAt w 3 22 = 524288 := differs ((skip q0 p.isLt 16 1 rfl rfl).trans ((skip q1 z1 8 1 rfl rfl).trans ((skip q2 a.isLt 2 1 rfl rfl).trans (part q3 z3 2 1 rfl (Nat.le_of_ble_eq_true rfl) rfl)))) 18 rfl (Nat.le_of_ble_eq_true rfl) (by decide)
  have n6 : ¬ bitsAt w 3 22 = 589824 := differs ((skip q0 p.isLt 14 1 rfl rfl).trans ((skip q1 z1 6 1 rfl rfl).trans ((skip q2 a.isLt 0 1 rfl rfl).trans (part q3 z3 0 1 rfl (Nat.le_of_ble_eq_true rfl) rfl)))) 16 rfl (Nat.le_of_ble_eq_true rfl) (by decide)
  have n7 : ¬ bitsAt w 3 22 = 655360 := differs ((skip q0 p.isLt 15 1 rfl rfl).trans ((skip q1 z1 7 1 rfl rfl).trans ((skip q2 a.isLt 1 1 rfl rfl).trans (part q3 z3 1 1 rfl (Nat.le_of_ble_eq_true rfl) rfl)))) 17 rfl (Nat.le_of_ble_eq_true rfl) (by decide)
  have n8 : ¬ bitsAt w 13 12 = 704 := differs ((skip q0 p.isLt 14 1 rfl rfl).trans ((skip q1 z1 6 1 rfl rfl).trans ((skip q2 a.isLt 0 1 rfl rfl).trans (part q3 z3 0 1 rfl (Nat.le_of_ble_eq_true rfl) rfl)))) 6 rfl (Nat.le_of_ble_eq_true rfl) (by decide)
  have f0 : fieldAt w 13 6 = a := fieldAt_eq ((skip q0 p.isLt 8 6 rfl rfl).trans ((skip q1 z1 0 6 rfl rfl).trans (low q2 a.isLt rfl)))
  have f1 : fieldAt w 0 5 = p := fieldAt_eq (low q0 p.isLt rfl)
  refine ⟨Nat.lt_of_lt_of_le (bound q0 p.isLt (bound q1 z1 (bound q2 a.isLt (bound q3 z3 (Nat.lt_succ_of_le hk) rfl) rfl) rfl) rfl) (Nat.le_of_ble_eq_true rfl), (skip q0 p.isLt 26 1 rfl rfl).trans ((skip q1 z1 18 1 rfl rfl).trans ((skip q2 a.isLt 12 1 rfl rfl).trans ((skip q3 z3 0 1 rfl rfl).trans (top hk)))), ?_⟩
  rw [major00 w m0]
  simp [decodeMajor00, e0, e1, n0, n1, n2, n3, n4, n5, n6, n7, n8, f0, f1]

theorem rdva (p : BitVec 5) : Statement (.rdva p) := by
  refine of_fields rfl ?_
  intro k hk w hw
  obtain ⟨r1, q1⟩ : ∃ r, r = 212992 + 67108864 * k := ⟨_, rfl⟩
  have q0 : w = p.toNat + 32 * r1 := by simp only [assemble] at hw; omega
  have z1 : 212992 < 2 ^ 26 := Nat.le_of_ble_eq_true rfl
  have m0 : bitsAt w 25 6 = 0 := (skip q0 p.isLt 20 6 rfl rfl).trans (part q1 z1 20 6 rfl (Nat.le_of_ble_eq_true rfl) rfl)
  have e0 : bitsAt w 13 12 = 832 := (skip q0 p.isLt 8 12 rfl rfl).trans (part q1 z1 8 12 rfl (Nat.le_of_ble_eq_true rfl) rfl)
  have e1 : bitsAt w 19 6 = 13 := (skip q0 p.isLt 14 6 rfl rfl).trans (part q1 z1 14 6 rfl (Nat.le_of_ble_eq_true rfl) rfl)
  have e2 : bitsAt w 5 8 = 0 := (skip q0 p.isLt 0 8 rfl rfl).trans (part q1 z1 0 8 rfl (Nat.le_of_ble_eq_true rfl) rfl)
  have e3 : bitsAt w 5 20 = 212992 := (skip q0 p.isLt 0 20 rfl rfl).trans (part q1 z1 0 20 rfl (Nat.le_of_ble_eq_true rfl) rfl)
  have n0 : ¬ bitsAt w 0 25 = 0 := differs ((skip q0 p.isLt 14 1 rfl rfl).trans (part q1 z1 14 1 rfl (Nat.le_of_ble_eq_true rfl) rfl)) 19 rfl (Nat.le_of_ble_eq_true rfl) (by decide)
  have n1 : ¬ bitsAt w 0 25 = 524288 := differs ((skip q0 p.isLt 16 1 rfl rfl).trans (part q1 z1 16 1 rfl (Nat.le_of_ble_eq_true rfl) rfl)) 21 rfl (Nat.le_of_ble_eq_true rfl) (by decide)
  have n2 : ¬ bitsAt w 0 25 = 2621440 := differs ((skip q0 p.isLt 17 1 rfl rfl).trans (part q1 z1 17 1 rfl (Nat.le_of_ble_eq_true rfl) rfl)) 22 rfl (Nat.le_of_ble_eq_true rfl) (by decide)
  have n3 : ¬ bitsAt w 3 22 = 524288 := differs ((skip q0 p.isLt 14 1 rfl rfl).trans (part q1 z1 14 1 rfl (Nat.le_of_ble_eq_true rfl) rfl)) 16 rfl (Nat.le_of_ble_eq_true rfl) (by decide)
  have n4 : ¬ bitsAt w 3 22 = 589824 := differs ((skip q0 p.isLt 16 1 rfl rfl).trans (part q1 z1 16 1 rfl (Nat.le_of_ble_eq_true rfl) rfl)) 18 rfl (Nat.le_of_ble_eq_true rfl) (by decide)
  have n5 : ¬ bitsAt w 3 22 = 655360 := differs ((skip q0 p.isLt 14 1 rfl rfl).trans (part q1 z1 14 1 rfl (Nat.le_of_ble_eq_true rfl) rfl)) 16 rfl (Nat.le_of_ble_eq_true rfl) (by decide)
  have f0 : fieldAt w 0 5 = p := fieldAt_eq (low q0 p.isLt rfl)
  refine ⟨Nat.lt_of_lt_of_le (bound q0 p.isLt (bound q1 z1 (Nat.lt_succ_of_le hk) rfl) rfl) (Nat.le_of_ble_eq_true rfl), (skip q0 p.isLt 26 1 rfl rfl).trans ((skip q1 z1 0 1 rfl rfl).trans (top hk)), ?_⟩
  rw [major00 w m0]
  simp [decodeMajor00, e0, e1, e2, e3, n0, n1, n2, n3, n4, n5, f0]

theorem rdvw (p : BitVec 5) : Statement (.rdvw p) := by
  refine of_fields rfl ?_
  intro k hk w hw
  obtain ⟨r1, q1⟩ : ∃ r, r = 229376 + 67108864 * k := ⟨_, rfl⟩
  have q0 : w = p.toNat + 32 * r1 := by simp only [assemble] at hw; omega
  have z1 : 229376 < 2 ^ 26 := Nat.le_of_ble_eq_true rfl
  have m0 : bitsAt w 25 6 = 0 := (skip q0 p.isLt 20 6 rfl rfl).trans (part q1 z1 20 6 rfl (Nat.le_of_ble_eq_true rfl) rfl)
  have e0 : bitsAt w 13 12 = 896 := (skip q0 p.isLt 8 12 rfl rfl).trans (part q1 z1 8 12 rfl (Nat.le_of_ble_eq_true rfl) rfl)
  have e1 : bitsAt w 19 6 = 14 := (skip q0 p.isLt 14 6 rfl rfl).trans (part q1 z1 14 6 rfl (Nat.le_of_ble_eq_true rfl) rfl)
  have e2 : bitsAt w 5 8 = 0 := (skip q0 p.isLt 0 8 rfl rfl).trans (part q1 z1 0 8 rfl (Nat.le_of_ble_eq_true rfl) rfl)
  have e3 : bitsAt w 5 20 = 229376 := (skip q0 p.isLt 0 20 rfl rfl).trans (part q1 z1 0 20 rfl (Nat.le_of_ble_eq_true rfl) rfl)
  have n0 : ¬ bitsAt w 0 25 = 0 := differs ((skip q0 p.isLt 15 1 rfl rfl).trans (part q1 z1 15 1 rfl (Nat.le_of_ble_eq_true rfl) rfl)) 20 rfl (Nat.le_of_ble_eq_true rfl) (by decide)
  have n1 : ¬ bitsAt w 0 25 = 524288 := differs ((skip q0 p.isLt 14 1 rfl rfl).trans (part q1 z1 14 1 rfl (Nat.le_of_ble_eq_true rfl) rfl)) 19 rfl (Nat.le_of_ble_eq_true rfl) (by decide)
  have n2 : ¬ bitsAt w 0 25 = 2621440 := differs ((skip q0 p.isLt 14 1 rfl rfl).trans (part q1 z1 14 1 rfl (Nat.le_of_ble_eq_true rfl) rfl)) 19 rfl (Nat.le_of_ble_eq_true rfl) (by decide)
  have n3 : ¬ bitsAt w 3 22 = 524288 := differs ((skip q0 p.isLt 15 1 rfl rfl).trans (part q1 z1 15 1 rfl (Nat.le_of_ble_eq_true rfl) rfl)) 17 rfl (Nat.le_of_ble_eq_true rfl) (by decide)
  have n4 : ¬ bitsAt w 3 22 = 589824 := differs ((skip q0 p.isLt 14 1 rfl rfl).trans (part q1 z1 14 1 rfl (Nat.le_of_ble_eq_true rfl) rfl)) 16 rfl (Nat.le_of_ble_eq_true rfl) (by decide)
  have n5 : ¬ bitsAt w 3 22 = 655360 := differs ((skip q0 p.isLt 16 1 rfl rfl).trans (part q1 z1 16 1 rfl (Nat.le_of_ble_eq_true rfl) rfl)) 18 rfl (Nat.le_of_ble_eq_true rfl) (by decide)
  have f0 : fieldAt w 0 5 = p := fieldAt_eq (low q0 p.isLt rfl)
  refine ⟨Nat.lt_of_lt_of_le (bound q0 p.isLt (bound q1 z1 (Nat.lt_succ_of_le hk) rfl) rfl) (Nat.le_of_ble_eq_true rfl), (skip q0 p.isLt 26 1 rfl rfl).trans ((skip q1 z1 0 1 rfl rfl).trans (top hk)), ?_⟩
  rw [major00 w m0]
  simp [decodeMajor00, e0, e1, e2, e3, n0, n1, n2, n3, n4, n5, f0]

theorem smap (b : BitVec 6) (p : BitVec 2) : Statement (.smap b p) := by
  refine of_fields rfl ?_
  intro k hk w hw
  obtain ⟨r2, q2⟩ : ∃ r, r = 30720 + 8388608 * k := ⟨_, rfl⟩
  obtain ⟨r1, q1⟩ : ∃ r, r = b.toNat + 64 * r2 := ⟨_, rfl⟩
  have q0 : w = p.toNat + 4 * r1 := by simp only [assemble] at hw; omega
  have z2 : 30720 < 2 ^ 23 := Nat.le_of_ble_eq_true rfl
  have m0 : bitsAt w 25 6 = 0 := (skip q0 p.isLt 23 6 rfl rfl).trans ((skip q1 b.isLt 17 6 rfl rfl).trans (part q2 z2 17 6 rfl (Nat.le_of_ble_eq_true rfl) rfl))
  have e0 : bitsAt w 13 12 = 960 := (skip q0 p.isLt 11 12 rfl rfl).trans ((skip q1 b.isLt 5 12 rfl rfl).trans (part q2 z2 5 12 rfl (Nat.le_of_ble_eq_true rfl) rfl))
  have e1 : bitsAt w 19 6 = 15 := (skip q0 p.isLt 17 6 rfl rfl).trans ((skip q1 b.isLt 11 6 rfl rfl).trans (part q2 z2 11 6 rfl (Nat.le_of_ble_eq_true rfl) rfl))
  have e2 : bitsAt w 8 17 = 30720 := (skip q0 p.isLt 6 17 rfl rfl).trans ((skip q1 b.isLt 0 17 rfl rfl).trans (part q2 z2 0 17 rfl (Nat.le_of_ble_eq_true rfl) rfl))
  have n0 : ¬ bitsAt w 0 25 = 0 := differs ((skip q0 p.isLt 17 1 rfl rfl).trans ((skip q1 b.isLt 11 1 rfl rfl).trans (part q2 z2 11 1 rfl (Nat.le_of_ble_eq_true rfl) rfl))) 19 rfl (Nat.le_of_ble_eq_true rfl) (by decide)
  have n1 : ¬ bitsAt w 0 25 = 524288 := differs ((skip q0 p.isLt 18 1 rfl rfl).trans ((skip q1 b.isLt 12 1 rfl rfl).trans (part q2 z2 12 1 rfl (Nat.le_of_ble_eq_true rfl) rfl))) 20 rfl (Nat.le_of_ble_eq_true rfl) (by decide)
  have n2 : ¬ bitsAt w 0 25 = 2621440 := differs ((skip q0 p.isLt 18 1 rfl rfl).trans ((skip q1 b.isLt 12 1 rfl rfl).trans (part q2 z2 12 1 rfl (Nat.le_of_ble_eq_true rfl) rfl))) 20 rfl (Nat.le_of_ble_eq_true rfl) (by decide)
  have n3 : ¬ bitsAt w 3 22 = 524288 := differs ((skip q0 p.isLt 17 1 rfl rfl).trans ((skip q1 b.isLt 11 1 rfl rfl).trans (part q2 z2 11 1 rfl (Nat.le_of_ble_eq_true rfl) rfl))) 16 rfl (Nat.le_of_ble_eq_true rfl) (by decide)
  have n4 : ¬ bitsAt w 3 22 = 589824 := differs ((skip q0 p.isLt 18 1 rfl rfl).trans ((skip q1 b.isLt 12 1 rfl rfl).trans (part q2 z2 12 1 rfl (Nat.le_of_ble_eq_true rfl) rfl))) 17 rfl (Nat.le_of_ble_eq_true rfl) (by decide)
  have n5 : ¬ bitsAt w 3 22 = 655360 := differs ((skip q0 p.isLt 17 1 rfl rfl).trans ((skip q1 b.isLt 11 1 rfl rfl).trans (part q2 z2 11 1 rfl (Nat.le_of_ble_eq_true rfl) rfl))) 16 rfl (Nat.le_of_ble_eq_true rfl) (by decide)
  have n6 : ¬ bitsAt w 5 20 = 212992 := differs ((skip q0 p.isLt 18 1 rfl rfl).trans ((skip q1 b.isLt 12 1 rfl rfl).trans (part q2 z2 12 1 rfl (Nat.le_of_ble_eq_true rfl) rfl))) 15 rfl (Nat.le_of_ble_eq_true rfl) (by decide)
  have n7 : ¬ bitsAt w 5 20 = 229376 := differs ((skip q0 p.isLt 17 1 rfl rfl).trans ((skip q1 b.isLt 11 1 rfl rfl).trans (part q2 z2 11 1 rfl (Nat.le_of_ble_eq_true rfl) rfl))) 14 rfl (Nat.le_of_ble_eq_true rfl) (by decide)
  have f0 : fieldAt w 2 6 = b := fieldAt_eq ((skip q0 p.isLt 0 6 rfl rfl).trans (low q1 b.isLt rfl))
  have f1 : fieldAt w 0 2 = p := fieldAt_eq (low q0 p.isLt rfl)
  refine ⟨Nat.lt_of_lt_of_le (bound q0 p.isLt (bound q1 b.isLt (bound q2 z2 (Nat.lt_succ_of_le hk) rfl) rfl) rfl) (Nat.le_of_ble_eq_true rfl), (skip q0 p.isLt 29 1 rfl rfl).trans ((skip q1 b.isLt 23 1 rfl rfl).trans ((skip q2 z2 0 1 rfl rfl).trans (top hk))), ?_⟩
  rw [major00 w m0]
  simp [decodeMajor00, e0, e1, e2, n0, n1, n2, n3, n4, n5, n6, n7, f0, f1]

theorem sunmap (p : BitVec 2) : Statement (.sunmap p) := by
  refine of_fields rfl ?_
  intro k hk w hw
  obtain ⟨r1, q1⟩ : ∃ r, r = 2097152 + 536870912 * k := ⟨_, rfl⟩
  have q0 : w = p.toNat + 4 * r1 := by simp only [assemble] at hw; omega
  have z1 : 2097152 < 2 ^ 29 := Nat.le_of_ble_eq_true rfl
  have m0 : bitsAt w 25 6 = 0 := (skip q0 p.isLt 23 6 rfl rfl).trans (part q1 z1 23 6 rfl (Nat.le_of_ble_eq_true rfl) rfl)
  have e0 : bitsAt w 13 12 = 1024 := (skip q0 p.isLt 11 12 rfl rfl).trans (part q1 z1 11 12 rfl (Nat.le_of_ble_eq_true rfl) rfl)
  have e1 : bitsAt w 19 6 = 16 := (skip q0 p.isLt 17 6 rfl rfl).trans (part q1 z1 17 6 rfl (Nat.le_of_ble_eq_true rfl) rfl)
  have e2 : bitsAt w 3 22 = 1048576 := (skip q0 p.isLt 1 22 rfl rfl).trans (part q1 z1 1 22 rfl (Nat.le_of_ble_eq_true rfl) rfl)
  have e3 : bitsAt w 5 8 = 0 := (skip q0 p.isLt 3 8 rfl rfl).trans (part q1 z1 3 8 rfl (Nat.le_of_ble_eq_true rfl) rfl)
  have e4 : bitsAt w 5 20 = 262144 := (skip q0 p.isLt 3 20 rfl rfl).trans (part q1 z1 3 20 rfl (Nat.le_of_ble_eq_true rfl) rfl)
  have e5 : bitsAt w 8 17 = 32768 := (skip q0 p.isLt 6 17 rfl rfl).trans (part q1 z1 6 17 rfl (Nat.le_of_ble_eq_true rfl) rfl)
  have e6 : bitsAt w 2 23 = 2097152 := (skip q0 p.isLt 0 23 rfl rfl).trans (part q1 z1 0 23 rfl (Nat.le_of_ble_eq_true rfl) rfl)
  have n0 : ¬ bitsAt w 0 25 = 0 := differs ((skip q0 p.isLt 21 1 rfl rfl).trans (part q1 z1 21 1 rfl (Nat.le_of_ble_eq_true rfl) rfl)) 23 rfl (Nat.le_of_ble_eq_true rfl) (by decide)
  have n1 : ¬ bitsAt w 0 25 = 524288 := differs ((skip q0 p.isLt 17 1 rfl rfl).trans (part q1 z1 17 1 rfl (Nat.le_of_ble_eq_true rfl) rfl)) 19 rfl (Nat.le_of_ble_eq_true rfl) (by decide)
  have n2 : ¬ bitsAt w 0 25 = 2621440 := differs ((skip q0 p.isLt 17 1 rfl rfl).trans (part q1 z1 17 1 rfl (Nat.le_of_ble_eq_true rfl) rfl)) 19 rfl (Nat.le_of_ble_eq_true rfl) (by decide)
  have f0 : fieldAt w 0 2 = p := fieldAt_eq (low q0 p.isLt rfl)
  refine ⟨Nat.lt_of_lt_of_le (bound q0 p.isLt (bound q1 z1 (Nat.lt_succ_of_le hk) rfl) rfl) (Nat.le_of_ble_eq_true rfl), (skip q0 p.isLt 29 1 rfl rfl).trans ((skip q1 z1 0 1 rfl rfl).trans (top hk)), ?_⟩
  rw [major00 w m0]
  simp [decodeMajor00, e0, e1, e2, e3, e4, e5, e6, n0, n1, n2, f0]

theorem mqcfg (e : BitVec 1) : Statement (.mqcfg e) := by
  refine of_fields rfl ?_
  intro k hk w hw
  obtain ⟨r1, q1⟩ : ∃ r, r = 4456448 + 1073741824 * k := ⟨_, rfl⟩
  have q0 : w = e.toNat + 2 * r1 := by simp only [assemble] at hw; omega
  have z1 : 4456448 < 2 ^ 30 := Nat.le_of_ble_eq_true rfl
  have m0 : bitsAt w 25 6 = 0 := (skip q0 e.isLt 24 6 rfl rfl).trans (part q1 z1 24 6 rfl (Nat.le_of_ble_eq_true rfl) rfl)
  have e0 : bitsAt w 13 12 = 1088 := (skip q0 e.isLt 12 12 rfl rfl).trans (part q1 z1 12 12 rfl (Nat.le_of_ble_eq_true rfl) rfl)
  have e1 : bitsAt w 19 6 = 17 := (skip q0 e.isLt 18 6 rfl rfl).trans (part q1 z1 18 6 rfl (Nat.le_of_ble_eq_true rfl) rfl)
  have e2 : bitsAt w 3 22 = 1114112 := (skip q0 e.isLt 2 22 rfl rfl).trans (part q1 z1 2 22 rfl (Nat.le_of_ble_eq_true rfl) rfl)
  have e3 : bitsAt w 5 8 = 0 := (skip q0 e.isLt 4 8 rfl rfl).trans (part q1 z1 4 8 rfl (Nat.le_of_ble_eq_true rfl) rfl)
  have e4 : bitsAt w 5 20 = 278528 := (skip q0 e.isLt 4 20 rfl rfl).trans (part q1 z1 4 20 rfl (Nat.le_of_ble_eq_true rfl) rfl)
  have e5 : bitsAt w 8 17 = 34816 := (skip q0 e.isLt 7 17 rfl rfl).trans (part q1 z1 7 17 rfl (Nat.le_of_ble_eq_true rfl) rfl)
  have e6 : bitsAt w 2 23 = 2228224 := (skip q0 e.isLt 1 23 rfl rfl).trans (part q1 z1 1 23 rfl (Nat.le_of_ble_eq_true rfl) rfl)
  have e7 : bitsAt w 1 24 = 4456448 := (skip q0 e.isLt 0 24 rfl rfl).trans (part q1 z1 0 24 rfl (Nat.le_of_ble_eq_true rfl) rfl)
  have n0 : ¬ bitsAt w 0 25 = 0 := differs ((skip q0 e.isLt 18 1 rfl rfl).trans (part q1 z1 18 1 rfl (Nat.le_of_ble_eq_true rfl) rfl)) 19 rfl (Nat.le_of_ble_eq_true rfl) (by decide)
  have n1 : ¬ bitsAt w 0 25 = 524288 := differs ((skip q0 e.isLt 22 1 rfl rfl).trans (part q1 z1 22 1 rfl (Nat.le_of_ble_eq_true rfl) rfl)) 23 rfl (Nat.le_of_ble_eq_true rfl) (by decide)
  have n2 : ¬ bitsAt w 0 25 = 2621440 := differs ((skip q0 e.isLt 20 1 rfl rfl).trans (part q1 z1 20 1 rfl (Nat.le_of_ble_eq_true rfl) rfl)) 21 rfl (Nat.le_of_ble_eq_true rfl) (by decide)
  have f0 : fieldAt w 0 1 = e := fieldAt_eq (low q0 e.isLt rfl)
  refine ⟨Nat.lt_of_lt_of_le (bound q0 e.isLt (bound q1 z1 (Nat.lt_succ_of_le hk) rfl) rfl) (Nat.le_of_ble_eq_true rfl), (skip q0 e.isLt 30 1 rfl rfl).trans ((skip q1 z1 0 1 rfl rfl).trans (top hk)), ?_⟩
  rw [major00 w m0]
  simp [decodeMajor00, e0, e1, e2, e3, e4, e5, e6, e7, n0, n1, n2, f0]

theorem tend (a : BitVec 6) : Statement (.tend a) := by
  refine of_fields rfl ?_
  intro k hk w hw
  obtain ⟨r2, q2⟩ : ∃ r, r = 18 + 4096 * k := ⟨_, rfl⟩
  obtain ⟨r1, q1⟩ : ∃ r, r = a.toNat + 64 * r2 := ⟨_, rfl⟩
  have q0 : w = 0 + 8192 * r1 := by simp only [assemble] at hw; omega
  have z0 : 0 < 2 ^ 13 := Nat.le_of_ble_eq_true rfl
  have z2 : 18 < 2 ^ 12 := Nat.le_of_ble_eq_true rfl
  have m0 : bitsAt w 25 6 = 0 := (skip q0 z0 12 6 rfl rfl).trans ((skip q1 a.isLt 6 6 rfl rfl).trans (part q2 z2 6 6 rfl (Nat.le_of_ble_eq_true rfl) rfl))
  have e0 : bitsAt w 19 6 = 18 := (skip q0 z0 6 6 rfl rfl).trans ((skip q1 a.isLt 0 6 rfl rfl).trans (part q2 z2 0 6 rfl (Nat.le_of_ble_eq_true rfl) rfl))
  have e1 : bitsAt w 0 13 = 0 := low q0 z0 rfl
  have e2 : bitsAt w 5 8 = 0 := part q0 z0 5 8 rfl (Nat.le_of_ble_eq_true rfl) rfl
  have n0 : ¬ bitsAt w 0 25 = 0 := differs ((skip q0 z0 7 1 rfl rfl).trans ((skip q1 a.isLt 1 1 rfl rfl).trans (part q2 z2 1 1 rfl (Nat.le_of_ble_eq_true rfl) rfl))) 20 rfl (Nat.le_of_ble_eq_true rfl) (by decide)
  have n1 : ¬ bitsAt w 0 25 = 524288 := differs ((skip q0 z0 6 1 rfl rfl).trans ((skip q1 a.isLt 0 1 rfl rfl).trans (part q2 z2 0 1 rfl (Nat.le_of_ble_eq_true rfl) rfl))) 19 rfl (Nat.le_of_ble_eq_true rfl) (by decide)
  have n2 : ¬ bitsAt w 13 12 = 128 := differs ((skip q0 z0 10 1 rfl rfl).trans ((skip q1 a.isLt 4 1 rfl rfl).trans (part q2 z2 4 1 rfl (Nat.le_of_ble_eq_true rfl) rfl))) 10 rfl (Nat.le_of_ble_eq_true rfl) (by decide)
  have n3 : ¬ bitsAt w 13 12 = 192 := differs ((skip q0 z0 6 1 rfl rfl).trans ((skip q1 a.isLt 0 1 rfl rfl).trans (part q2 z2 0 1 rfl (Nat.le_of_ble_eq_true rfl) rfl))) 6 rfl (Nat.le_of_ble_eq_true rfl) (by decide)
  have n4 : ¬ bitsAt w 0 25 = 2621440 := differs ((skip q0 z0 6 1 rfl rfl).trans ((skip q1 a.isLt 0 1 rfl rfl).trans (part q2 z2 0 1 rfl (Nat.le_of_ble_eq_true rfl) rfl))) 19 rfl (Nat.le_of_ble_eq_true rfl) (by decide)
  have n5 : ¬ bitsAt w 3 22 = 524288 := differs ((skip q0 z0 7 1 rfl rfl).trans ((skip q1 a.isLt 1 1 rfl rfl).trans (part q2 z2 1 1 rfl (Nat.le_of_ble_eq_true rfl) rfl))) 17 rfl (Nat.le_of_ble_eq_true rfl) (by decide)
  have n6 : ¬ bitsAt w 3 22 = 589824 := differs ((skip q0 z0 6 1 rfl rfl).trans ((skip q1 a.isLt 0 1 rfl rfl).trans (part q2 z2 0 1 rfl (Nat.le_of_ble_eq_true rfl) rfl))) 16 rfl (Nat.le_of_ble_eq_true rfl) (by decide)
  have n7 : ¬ bitsAt w 3 22 = 655360 := differs ((skip q0 z0 9 1 rfl rfl).trans ((skip q1 a.isLt 3 1 rfl rfl).trans (part q2 z2 3 1 rfl (Nat.le_of_ble_eq_true rfl) rfl))) 19 rfl (Nat.le_of_ble_eq_true rfl) (by decide)
  have n8 : ¬ bitsAt w 13 12 = 704 := differs ((skip q0 z0 6 1 rfl rfl).trans ((skip q1 a.isLt 0 1 rfl rfl).trans (part q2 z2 0 1 rfl (Nat.le_of_ble_eq_true rfl) rfl))) 6 rfl (Nat.le_of_ble_eq_true rfl) (by decide)
  have n9 : ¬ bitsAt w 5 20 = 212992 := differs ((skip q0 z0 6 1 rfl rfl).trans ((skip q1 a.isLt 0 1 rfl rfl).trans (part q2 z2 0 1 rfl (Nat.le_of_ble_eq_true rfl) rfl))) 14 rfl (Nat.le_of_ble_eq_true rfl) (by decide)
  have n10 : ¬ bitsAt w 5 20 = 229376 := differs ((skip q0 z0 8 1 rfl rfl).trans ((skip q1 a.isLt 2 1 rfl rfl).trans (part q2 z2 2 1 rfl (Nat.le_of_ble_eq_true rfl) rfl))) 16 rfl (Nat.le_of_ble_eq_true rfl) (by decide)
  have n11 : ¬ bitsAt w 8 17 = 30720 := differs ((skip q0 z0 6 1 rfl rfl).trans ((skip q1 a.isLt 0 1 rfl rfl).trans (part q2 z2 0 1 rfl (Nat.le_of_ble_eq_true rfl) rfl))) 11 rfl (Nat.le_of_ble_eq_true rfl) (by decide)
  have n12 : ¬ bitsAt w 2 23 = 2097152 := differs ((skip q0 z0 7 1 rfl rfl).trans ((skip q1 a.isLt 1 1 rfl rfl).trans (part q2 z2 1 1 rfl (Nat.le_of_ble_eq_true rfl) rfl))) 18 rfl (Nat.le_of_ble_eq_true rfl) (by decide)
  have n13 : ¬ bitsAt w 1 24 = 4456448 := differs ((skip q0 z0 6 1 rfl rfl).trans ((skip q1 a.isLt 0 1 rfl rfl).trans (part q2 z2 0 1 rfl (Nat.le_of_ble_eq_true rfl) rfl))) 18 rfl (Nat.le_of_ble_eq_true rfl) (by decide)
  have f0 : fieldAt w 13 6 = a := fieldAt_eq ((skip q0 z0 0 6 rfl rfl).trans (low q1 a.isLt rfl))
  refine ⟨Nat.lt_of_lt_of_le (bound q0 z0 (bound q1 a.isLt (bound q2 z2 (Nat.lt_succ_of_le hk) rfl) rfl) rfl) (Nat.le_of_ble_eq_true rfl), (skip q0 z0 18 1 rfl rfl).trans ((skip q1 a.isLt 12 1 rfl rfl).trans ((skip q2 z2 0 1 rfl rfl).trans (top hk))), ?_⟩
  rw [major00 w m0]
  simp [decodeMajor00, e0, e1, e2, n0, n1, n2, n3, n4, n5, n6, n7, n8, n9, n10, n11, n12, n13, f0]

theorem ptake : Statement (.ptake) := by
  refine of_fields rfl ?_
  intro k hk w hw
  have q0 : w = 9961472 + 2147483648 * k := by simp only [assemble] at hw; omega
  have z0 : 9961472 < 2 ^ 31 := Nat.le_of_ble_eq_true rfl
  have m0 : bitsAt w 25 6 = 0 := part q0 z0 25 6 rfl (Nat.le_of_ble_eq_true rfl) rfl
  have e0 : bitsAt w 0 25 = 9961472 := part q0 z0 0 25 rfl (Nat.le_of_ble_eq_true rfl) rfl
  have e1 : bitsAt w 13 12 = 1216 := part q0 z0 13 12 rfl (Nat.le_of_ble_eq_true rfl) rfl
  have e2 : bitsAt w 19 6 = 19 := part q0 z0 19 6 rfl (Nat.le_of_ble_eq_true rfl) rfl
  have e3 : bitsAt w 0 13 = 0 := part q0 z0 0 13 rfl (Nat.le_of_ble_eq_true rfl) rfl
  have e4 : bitsAt w 3 22 = 1245184 := part q0 z0 3 22 rfl (Nat.le_of_ble_eq_true rfl) rfl
  have e5 : bitsAt w 5 8 = 0 := part q0 z0 5 8 rfl (Nat.le_of_ble_eq_true rfl) rfl
  have e6 : bitsAt w 5 20 = 311296 := part q0 z0 5 20 rfl (Nat.le_of_ble_eq_true rfl) rfl
  have e7 : bitsAt w 8 17 = 38912 := part q0 z0 8 17 rfl (Nat.le_of_ble_eq_true rfl) rfl
  have e8 : bitsAt w 2 23 = 2490368 := part q0 z0 2 23 rfl (Nat.le_of_ble_eq_true rfl) rfl
  have e9 : bitsAt w 1 24 = 4980736 := part q0 z0 1 24 rfl (Nat.le_of_ble_eq_true rfl) rfl
  refine ⟨Nat.lt_of_lt_of_le (bound q0 z0 (Nat.lt_succ_of_le hk) rfl) (Nat.le_of_ble_eq_true rfl), (skip q0 z0 0 1 rfl rfl).trans (top hk), ?_⟩
  rw [major00 w m0]
  simp [decodeMajor00, e0, e1, e2, e3, e4, e5, e6, e7, e8, e9]

theorem ppass (a : BitVec 6) : Statement (.ppass a) := by
  refine of_fields rfl ?_
  intro k hk w hw
  obtain ⟨r2, q2⟩ : ∃ r, r = 20 + 4096 * k := ⟨_, rfl⟩
  obtain ⟨r1, q1⟩ : ∃ r, r = a.toNat + 64 * r2 := ⟨_, rfl⟩
  have q0 : w = 0 + 8192 * r1 := by simp only [assemble] at hw; omega
  have z0 : 0 < 2 ^ 13 := Nat.le_of_ble_eq_true rfl
  have z2 : 20 < 2 ^ 12 := Nat.le_of_ble_eq_true rfl
  have m0 : bitsAt w 25 6 = 0 := (skip q0 z0 12 6 rfl rfl).trans ((skip q1 a.isLt 6 6 rfl rfl).trans (part q2 z2 6 6 rfl (Nat.le_of_ble_eq_true rfl) rfl))
  have e0 : bitsAt w 19 6 = 20 := (skip q0 z0 6 6 rfl rfl).trans ((skip q1 a.isLt 0 6 rfl rfl).trans (part q2 z2 0 6 rfl (Nat.le_of_ble_eq_true rfl) rfl))
  have e1 : bitsAt w 0 13 = 0 := low q0 z0 rfl
  have e2 : bitsAt w 5 8 = 0 := part q0 z0 5 8 rfl (Nat.le_of_ble_eq_true rfl) rfl
  have n0 : ¬ bitsAt w 0 25 = 0 := differs ((skip q0 z0 8 1 rfl rfl).trans ((skip q1 a.isLt 2 1 rfl rfl).trans (part q2 z2 2 1 rfl (Nat.le_of_ble_eq_true rfl) rfl))) 21 rfl (Nat.le_of_ble_eq_true rfl) (by decide)
  have n1 : ¬ bitsAt w 0 25 = 524288 := differs ((skip q0 z0 6 1 rfl rfl).trans ((skip q1 a.isLt 0 1 rfl rfl).trans (part q2 z2 0 1 rfl (Nat.le_of_ble_eq_true rfl) rfl))) 19 rfl (Nat.le_of_ble_eq_true rfl) (by decide)
  have n2 : ¬ bitsAt w 13 12 = 128 := differs ((skip q0 z0 7 1 rfl rfl).trans ((skip q1 a.isLt 1 1 rfl rfl).trans (part q2 z2 1 1 rfl (Nat.le_of_ble_eq_true rfl) rfl))) 7 rfl (Nat.le_of_ble_eq_true rfl) (by decide)
  have n3 : ¬ bitsAt w 13 12 = 192 := differs ((skip q0 z0 6 1 rfl rfl).trans ((skip q1 a.isLt 0 1 rfl rfl).trans (part q2 z2 0 1 rfl (Nat.le_of_ble_eq_true rfl) rfl))) 6 rfl (Nat.le_of_ble_eq_true rfl) (by decide)
  have n4 : ¬ bitsAt w 0 25 = 2621440 := differs ((skip q0 z0 6 1 rfl rfl).trans ((skip q1 a.isLt 0 1 rfl rfl).trans (part q2 z2 0 1 rfl (Nat.le_of_ble_eq_true rfl) rfl))) 19 rfl (Nat.le_of_ble_eq_true rfl) (by decide)
  have n5 : ¬ bitsAt w 3 22 = 524288 := differs ((skip q0 z0 8 1 rfl rfl).trans ((skip q1 a.isLt 2 1 rfl rfl).trans (part q2 z2 2 1 rfl (Nat.le_of_ble_eq_true rfl) rfl))) 18 rfl (Nat.le_of_ble_eq_true rfl) (by decide)
  have n6 : ¬ bitsAt w 3 22 = 589824 := differs ((skip q0 z0 6 1 rfl rfl).trans ((skip q1 a.isLt 0 1 rfl rfl).trans (part q2 z2 0 1 rfl (Nat.le_of_ble_eq_true rfl) rfl))) 16 rfl (Nat.le_of_ble_eq_true rfl) (by decide)
  have n7 : ¬ bitsAt w 3 22 = 655360 := differs ((skip q0 z0 7 1 rfl rfl).trans ((skip q1 a.isLt 1 1 rfl rfl).trans (part q2 z2 1 1 rfl (Nat.le_of_ble_eq_true rfl) rfl))) 17 rfl (Nat.le_of_ble_eq_true rfl) (by decide)
  have n8 : ¬ bitsAt w 13 12 = 704 := differs ((skip q0 z0 6 1 rfl rfl).trans ((skip q1 a.isLt 0 1 rfl rfl).trans (part q2 z2 0 1 rfl (Nat.le_of_ble_eq_true rfl) rfl))) 6 rfl (Nat.le_of_ble_eq_true rfl) (by decide)
  have n9 : ¬ bitsAt w 5 20 = 212992 := differs ((skip q0 z0 6 1 rfl rfl).trans ((skip q1 a.isLt 0 1 rfl rfl).trans (part q2 z2 0 1 rfl (Nat.le_of_ble_eq_true rfl) rfl))) 14 rfl (Nat.le_of_ble_eq_true rfl) (by decide)
  have n10 : ¬ bitsAt w 5 20 = 229376 := differs ((skip q0 z0 7 1 rfl rfl).trans ((skip q1 a.isLt 1 1 rfl rfl).trans (part q2 z2 1 1 rfl (Nat.le_of_ble_eq_true rfl) rfl))) 15 rfl (Nat.le_of_ble_eq_true rfl) (by decide)
  have n11 : ¬ bitsAt w 8 17 = 30720 := differs ((skip q0 z0 6 1 rfl rfl).trans ((skip q1 a.isLt 0 1 rfl rfl).trans (part q2 z2 0 1 rfl (Nat.le_of_ble_eq_true rfl) rfl))) 11 rfl (Nat.le_of_ble_eq_true rfl) (by decide)
  have n12 : ¬ bitsAt w 2 23 = 2097152 := differs ((skip q0 z0 8 1 rfl rfl).trans ((skip q1 a.isLt 2 1 rfl rfl).trans (part q2 z2 2 1 rfl (Nat.le_of_ble_eq_true rfl) rfl))) 19 rfl (Nat.le_of_ble_eq_true rfl) (by decide)
  have n13 : ¬ bitsAt w 1 24 = 4456448 := differs ((skip q0 z0 6 1 rfl rfl).trans ((skip q1 a.isLt 0 1 rfl rfl).trans (part q2 z2 0 1 rfl (Nat.le_of_ble_eq_true rfl) rfl))) 18 rfl (Nat.le_of_ble_eq_true rfl) (by decide)
  have n14 : ¬ bitsAt w 0 25 = 9961472 := differs ((skip q0 z0 6 1 rfl rfl).trans ((skip q1 a.isLt 0 1 rfl rfl).trans (part q2 z2 0 1 rfl (Nat.le_of_ble_eq_true rfl) rfl))) 19 rfl (Nat.le_of_ble_eq_true rfl) (by decide)
  have f0 : fieldAt w 13 6 = a := fieldAt_eq ((skip q0 z0 0 6 rfl rfl).trans (low q1 a.isLt rfl))
  refine ⟨Nat.lt_of_lt_of_le (bound q0 z0 (bound q1 a.isLt (bound q2 z2 (Nat.lt_succ_of_le hk) rfl) rfl) rfl) (Nat.le_of_ble_eq_true rfl), (skip q0 z0 18 1 rfl rfl).trans ((skip q1 a.isLt 12 1 rfl rfl).trans ((skip q2 z2 0 1 rfl rfl).trans (top hk))), ?_⟩
  rw [major00 w m0]
  simp [decodeMajor00, e0, e1, e2, n0, n1, n2, n3, n4, n5, n6, n7, n8, n9, n10, n11, n12, n13, n14, f0]

theorem ppassFree : Statement (.ppassFree) := by
  refine of_fields rfl ?_
  intro k hk w hw
  have q0 : w = 10485761 + 2147483648 * k := by simp only [assemble] at hw; omega
  have z0 : 10485761 < 2 ^ 31 := Nat.le_of_ble_eq_true rfl
  have m0 : bitsAt w 25 6 = 0 := part q0 z0 25 6 rfl (Nat.le_of_ble_eq_true rfl) rfl
  have e0 : bitsAt w 0 25 = 10485761 := part q0 z0 0 25 rfl (Nat.le_of_ble_eq_true rfl) rfl
  have e1 : bitsAt w 13 12 = 1280 := part q0 z0 13 12 rfl (Nat.le_of_ble_eq_true rfl) rfl
  have e2 : bitsAt w 19 6 = 20 := part q0 z0 19 6 rfl (Nat.le_of_ble_eq_true rfl) rfl
  have e3 : bitsAt w 0 13 = 1 := part q0 z0 0 13 rfl (Nat.le_of_ble_eq_true rfl) rfl
  have e4 : bitsAt w 3 22 = 1310720 := part q0 z0 3 22 rfl (Nat.le_of_ble_eq_true rfl) rfl
  have e5 : bitsAt w 5 8 = 0 := part q0 z0 5 8 rfl (Nat.le_of_ble_eq_true rfl) rfl
  have e6 : bitsAt w 5 20 = 327680 := part q0 z0 5 20 rfl (Nat.le_of_ble_eq_true rfl) rfl
  have e7 : bitsAt w 8 17 = 40960 := part q0 z0 8 17 rfl (Nat.le_of_ble_eq_true rfl) rfl
  have e8 : bitsAt w 2 23 = 2621440 := part q0 z0 2 23 rfl (Nat.le_of_ble_eq_true rfl) rfl
  have e9 : bitsAt w 1 24 = 5242880 := part q0 z0 1 24 rfl (Nat.le_of_ble_eq_true rfl) rfl
  refine ⟨Nat.lt_of_lt_of_le (bound q0 z0 (Nat.lt_succ_of_le hk) rfl) (Nat.le_of_ble_eq_true rfl), (skip q0 z0 0 1 rfl rfl).trans (top hk), ?_⟩
  rw [major00 w m0]
  simp [decodeMajor00, e0, e1, e2, e3, e4, e5, e6, e7, e8, e9]

theorem ret (a : BitVec 6) : Statement (.ret a) := by
  refine of_fields rfl ?_
  intro k hk w hw
  obtain ⟨r2, q2⟩ : ∃ r, r = 21 + 4096 * k := ⟨_, rfl⟩
  obtain ⟨r1, q1⟩ : ∃ r, r = a.toNat + 64 * r2 := ⟨_, rfl⟩
  have q0 : w = 0 + 8192 * r1 := by simp only [assemble] at hw; omega
  have z0 : 0 < 2 ^ 13 := Nat.le_of_ble_eq_true rfl
  have z2 : 21 < 2 ^ 12 := Nat.le_of_ble_eq_true rfl
  have m0 : bitsAt w 25 6 = 0 := (skip q0 z0 12 6 rfl rfl).trans ((skip q1 a.isLt 6 6 rfl rfl).trans (part q2 z2 6 6 rfl (Nat.le_of_ble_eq_true rfl) rfl))
  have e0 : bitsAt w 19 6 = 21 := (skip q0 z0 6 6 rfl rfl).trans ((skip q1 a.isLt 0 6 rfl rfl).trans (part q2 z2 0 6 rfl (Nat.le_of_ble_eq_true rfl) rfl))
  have e1 : bitsAt w 0 13 = 0 := low q0 z0 rfl
  have e2 : bitsAt w 5 8 = 0 := part q0 z0 5 8 rfl (Nat.le_of_ble_eq_true rfl) rfl
  have n0 : ¬ bitsAt w 0 25 = 0 := differs ((skip q0 z0 6 1 rfl rfl).trans ((skip q1 a.isLt 0 1 rfl rfl).trans (part q2 z2 0 1 rfl (Nat.le_of_ble_eq_true rfl) rfl))) 19 rfl (Nat.le_of_ble_eq_true rfl) (by decide)
  have n1 : ¬ bitsAt w 0 25 = 524288 := differs ((skip q0 z0 8 1 rfl rfl).trans ((skip q1 a.isLt 2 1 rfl rfl).trans (part q2 z2 2 1 rfl (Nat.le_of_ble_eq_true rfl) rfl))) 21 rfl (Nat.le_of_ble_eq_true rfl) (by decide)
  have n2 : ¬ bitsAt w 13 12 = 128 := differs ((skip q0 z0 6 1 rfl rfl).trans ((skip q1 a.isLt 0 1 rfl rfl).trans (part q2 z2 0 1 rfl (Nat.le_of_ble_eq_true rfl) rfl))) 6 rfl (Nat.le_of_ble_eq_true rfl) (by decide)
  have n3 : ¬ bitsAt w 13 12 = 192 := differs ((skip q0 z0 7 1 rfl rfl).trans ((skip q1 a.isLt 1 1 rfl rfl).trans (part q2 z2 1 1 rfl (Nat.le_of_ble_eq_true rfl) rfl))) 7 rfl (Nat.le_of_ble_eq_true rfl) (by decide)
  have n4 : ¬ bitsAt w 0 25 = 2621440 := differs ((skip q0 z0 10 1 rfl rfl).trans ((skip q1 a.isLt 4 1 rfl rfl).trans (part q2 z2 4 1 rfl (Nat.le_of_ble_eq_true rfl) rfl))) 23 rfl (Nat.le_of_ble_eq_true rfl) (by decide)
  have n5 : ¬ bitsAt w 3 22 = 524288 := differs ((skip q0 z0 6 1 rfl rfl).trans ((skip q1 a.isLt 0 1 rfl rfl).trans (part q2 z2 0 1 rfl (Nat.le_of_ble_eq_true rfl) rfl))) 16 rfl (Nat.le_of_ble_eq_true rfl) (by decide)
  have n6 : ¬ bitsAt w 3 22 = 589824 := differs ((skip q0 z0 8 1 rfl rfl).trans ((skip q1 a.isLt 2 1 rfl rfl).trans (part q2 z2 2 1 rfl (Nat.le_of_ble_eq_true rfl) rfl))) 18 rfl (Nat.le_of_ble_eq_true rfl) (by decide)
  have n7 : ¬ bitsAt w 3 22 = 655360 := differs ((skip q0 z0 6 1 rfl rfl).trans ((skip q1 a.isLt 0 1 rfl rfl).trans (part q2 z2 0 1 rfl (Nat.le_of_ble_eq_true rfl) rfl))) 16 rfl (Nat.le_of_ble_eq_true rfl) (by decide)
  have n8 : ¬ bitsAt w 13 12 = 704 := differs ((skip q0 z0 7 1 rfl rfl).trans ((skip q1 a.isLt 1 1 rfl rfl).trans (part q2 z2 1 1 rfl (Nat.le_of_ble_eq_true rfl) rfl))) 7 rfl (Nat.le_of_ble_eq_true rfl) (by decide)
  have n9 : ¬ bitsAt w 5 20 = 212992 := differs ((skip q0 z0 9 1 rfl rfl).trans ((skip q1 a.isLt 3 1 rfl rfl).trans (part q2 z2 3 1 rfl (Nat.le_of_ble_eq_true rfl) rfl))) 17 rfl (Nat.le_of_ble_eq_true rfl) (by decide)
  have n10 : ¬ bitsAt w 5 20 = 229376 := differs ((skip q0 z0 6 1 rfl rfl).trans ((skip q1 a.isLt 0 1 rfl rfl).trans (part q2 z2 0 1 rfl (Nat.le_of_ble_eq_true rfl) rfl))) 14 rfl (Nat.le_of_ble_eq_true rfl) (by decide)
  have n11 : ¬ bitsAt w 8 17 = 30720 := differs ((skip q0 z0 7 1 rfl rfl).trans ((skip q1 a.isLt 1 1 rfl rfl).trans (part q2 z2 1 1 rfl (Nat.le_of_ble_eq_true rfl) rfl))) 12 rfl (Nat.le_of_ble_eq_true rfl) (by decide)
  have n12 : ¬ bitsAt w 2 23 = 2097152 := differs ((skip q0 z0 6 1 rfl rfl).trans ((skip q1 a.isLt 0 1 rfl rfl).trans (part q2 z2 0 1 rfl (Nat.le_of_ble_eq_true rfl) rfl))) 17 rfl (Nat.le_of_ble_eq_true rfl) (by decide)
  have n13 : ¬ bitsAt w 1 24 = 4456448 := differs ((skip q0 z0 8 1 rfl rfl).trans ((skip q1 a.isLt 2 1 rfl rfl).trans (part q2 z2 2 1 rfl (Nat.le_of_ble_eq_true rfl) rfl))) 20 rfl (Nat.le_of_ble_eq_true rfl) (by decide)
  have n14 : ¬ bitsAt w 0 25 = 9961472 := differs ((skip q0 z0 7 1 rfl rfl).trans ((skip q1 a.isLt 1 1 rfl rfl).trans (part q2 z2 1 1 rfl (Nat.le_of_ble_eq_true rfl) rfl))) 20 rfl (Nat.le_of_ble_eq_true rfl) (by decide)
  have n15 : ¬ bitsAt w 0 25 = 10485761 := differs (part q0 z0 0 1 rfl (Nat.le_of_ble_eq_true rfl) rfl) 0 rfl (Nat.le_of_ble_eq_true rfl) (by decide)
  have f0 : fieldAt w 13 6 = a := fieldAt_eq ((skip q0 z0 0 6 rfl rfl).trans (low q1 a.isLt rfl))
  refine ⟨Nat.lt_of_lt_of_le (bound q0 z0 (bound q1 a.isLt (bound q2 z2 (Nat.lt_succ_of_le hk) rfl) rfl) rfl) (Nat.le_of_ble_eq_true rfl), (skip q0 z0 18 1 rfl rfl).trans ((skip q1 a.isLt 12 1 rfl rfl).trans ((skip q2 z2 0 1 rfl rfl).trans (top hk))), ?_⟩
  rw [major00 w m0]
  simp [decodeMajor00, e0, e1, e2, n0, n1, n2, n3, n4, n5, n6, n7, n8, n9, n10, n11, n12, n13, n14, n15, f0]

theorem jmp (a : BitVec 6) : Statement (.jmp a) := by
  refine of_fields rfl ?_
  intro k hk w hw
  obtain ⟨r2, q2⟩ : ∃ r, r = 22 + 4096 * k := ⟨_, rfl⟩
  obtain ⟨r1, q1⟩ : ∃ r, r = a.toNat + 64 * r2 := ⟨_, rfl⟩
  have q0 : w = 0 + 8192 * r1 := by simp only [assemble] at hw; omega
  have z0 : 0 < 2 ^ 13 := Nat.le_of_ble_eq_true rfl
  have z2 : 22 < 2 ^ 12 := Nat.le_of_ble_eq_true rfl
  have m0 : bitsAt w 25 6 = 0 := (skip q0 z0 12 6 rfl rfl).trans ((skip q1 a.isLt 6 6 rfl rfl).trans (part q2 z2 6 6 rfl (Nat.le_of_ble_eq_true rfl) rfl))
  have e0 : bitsAt w 19 6 = 22 := (skip q0 z0 6 6 rfl rfl).trans ((skip q1 a.isLt 0 6 rfl rfl).trans (part q2 z2 0 6 rfl (Nat.le_of_ble_eq_true rfl) rfl))
  have e1 : bitsAt w 0 13 = 0 := low q0 z0 rfl
  have e2 : bitsAt w 5 8 = 0 := part q0 z0 5 8 rfl (Nat.le_of_ble_eq_true rfl) rfl
  have n0 : ¬ bitsAt w 0 25 = 0 := differs ((skip q0 z0 7 1 rfl rfl).trans ((skip q1 a.isLt 1 1 rfl rfl).trans (part q2 z2 1 1 rfl (Nat.le_of_ble_eq_true rfl) rfl))) 20 rfl (Nat.le_of_ble_eq_true rfl) (by decide)
  have n1 : ¬ bitsAt w 0 25 = 524288 := differs ((skip q0 z0 6 1 rfl rfl).trans ((skip q1 a.isLt 0 1 rfl rfl).trans (part q2 z2 0 1 rfl (Nat.le_of_ble_eq_true rfl) rfl))) 19 rfl (Nat.le_of_ble_eq_true rfl) (by decide)
  have n2 : ¬ bitsAt w 13 12 = 128 := differs ((skip q0 z0 8 1 rfl rfl).trans ((skip q1 a.isLt 2 1 rfl rfl).trans (part q2 z2 2 1 rfl (Nat.le_of_ble_eq_true rfl) rfl))) 8 rfl (Nat.le_of_ble_eq_true rfl) (by decide)
  have n3 : ¬ bitsAt w 13 12 = 192 := differs ((skip q0 z0 6 1 rfl rfl).trans ((skip q1 a.isLt 0 1 rfl rfl).trans (part q2 z2 0 1 rfl (Nat.le_of_ble_eq_true rfl) rfl))) 6 rfl (Nat.le_of_ble_eq_true rfl) (by decide)
  have n4 : ¬ bitsAt w 0 25 = 2621440 := differs ((skip q0 z0 6 1 rfl rfl).trans ((skip q1 a.isLt 0 1 rfl rfl).trans (part q2 z2 0 1 rfl (Nat.le_of_ble_eq_true rfl) rfl))) 19 rfl (Nat.le_of_ble_eq_true rfl) (by decide)
  have n5 : ¬ bitsAt w 3 22 = 524288 := differs ((skip q0 z0 7 1 rfl rfl).trans ((skip q1 a.isLt 1 1 rfl rfl).trans (part q2 z2 1 1 rfl (Nat.le_of_ble_eq_true rfl) rfl))) 17 rfl (Nat.le_of_ble_eq_true rfl) (by decide)
  have n6 : ¬ bitsAt w 3 22 = 589824 := differs ((skip q0 z0 6 1 rfl rfl).trans ((skip q1 a.isLt 0 1 rfl rfl).trans (part q2 z2 0 1 rfl (Nat.le_of_ble_eq_true rfl) rfl))) 16 rfl (Nat.le_of_ble_eq_true rfl) (by decide)
  have n7 : ¬ bitsAt w 3 22 = 655360 := differs ((skip q0 z0 8 1 rfl rfl).trans ((skip q1 a.isLt 2 1 rfl rfl).trans (part q2 z2 2 1 rfl (Nat.le_of_ble_eq_true rfl) rfl))) 18 rfl (Nat.le_of_ble_eq_true rfl) (by decide)
  have n8 : ¬ bitsAt w 13 12 = 704 := differs ((skip q0 z0 6 1 rfl rfl).trans ((skip q1 a.isLt 0 1 rfl rfl).trans (part q2 z2 0 1 rfl (Nat.le_of_ble_eq_true rfl) rfl))) 6 rfl (Nat.le_of_ble_eq_true rfl) (by decide)
  have n9 : ¬ bitsAt w 5 20 = 212992 := differs ((skip q0 z0 6 1 rfl rfl).trans ((skip q1 a.isLt 0 1 rfl rfl).trans (part q2 z2 0 1 rfl (Nat.le_of_ble_eq_true rfl) rfl))) 14 rfl (Nat.le_of_ble_eq_true rfl) (by decide)
  have n10 : ¬ bitsAt w 5 20 = 229376 := differs ((skip q0 z0 9 1 rfl rfl).trans ((skip q1 a.isLt 3 1 rfl rfl).trans (part q2 z2 3 1 rfl (Nat.le_of_ble_eq_true rfl) rfl))) 17 rfl (Nat.le_of_ble_eq_true rfl) (by decide)
  have n11 : ¬ bitsAt w 8 17 = 30720 := differs ((skip q0 z0 6 1 rfl rfl).trans ((skip q1 a.isLt 0 1 rfl rfl).trans (part q2 z2 0 1 rfl (Nat.le_of_ble_eq_true rfl) rfl))) 11 rfl (Nat.le_of_ble_eq_true rfl) (by decide)
  have n12 : ¬ bitsAt w 2 23 = 2097152 := differs ((skip q0 z0 7 1 rfl rfl).trans ((skip q1 a.isLt 1 1 rfl rfl).trans (part q2 z2 1 1 rfl (Nat.le_of_ble_eq_true rfl) rfl))) 18 rfl (Nat.le_of_ble_eq_true rfl) (by decide)
  have n13 : ¬ bitsAt w 1 24 = 4456448 := differs ((skip q0 z0 6 1 rfl rfl).trans ((skip q1 a.isLt 0 1 rfl rfl).trans (part q2 z2 0 1 rfl (Nat.le_of_ble_eq_true rfl) rfl))) 18 rfl (Nat.le_of_ble_eq_true rfl) (by decide)
  have n14 : ¬ bitsAt w 0 25 = 9961472 := differs ((skip q0 z0 6 1 rfl rfl).trans ((skip q1 a.isLt 0 1 rfl rfl).trans (part q2 z2 0 1 rfl (Nat.le_of_ble_eq_true rfl) rfl))) 19 rfl (Nat.le_of_ble_eq_true rfl) (by decide)
  have n15 : ¬ bitsAt w 0 25 = 10485761 := differs (part q0 z0 0 1 rfl (Nat.le_of_ble_eq_true rfl) rfl) 0 rfl (Nat.le_of_ble_eq_true rfl) (by decide)
  have f0 : fieldAt w 13 6 = a := fieldAt_eq ((skip q0 z0 0 6 rfl rfl).trans (low q1 a.isLt rfl))
  refine ⟨Nat.lt_of_lt_of_le (bound q0 z0 (bound q1 a.isLt (bound q2 z2 (Nat.lt_succ_of_le hk) rfl) rfl) rfl) (Nat.le_of_ble_eq_true rfl), (skip q0 z0 18 1 rfl rfl).trans ((skip q1 a.isLt 12 1 rfl rfl).trans ((skip q2 z2 0 1 rfl rfl).trans (top hk))), ?_⟩
  rw [major00 w m0]
  simp [decodeMajor00, e0, e1, e2, n0, n1, n2, n3, n4, n5, n6, n7, n8, n9, n10, n11, n12, n13, n14, n15, f0]

theorem merge : Statement (.merge) := by
  refine of_fields rfl ?_
  intro k hk w hw
  have q0 : w = 12058624 + 2147483648 * k := by simp only [assemble] at hw; omega
  have z0 : 12058624 < 2 ^ 31 := Nat.le_of_ble_eq_true rfl
  have m0 : bitsAt w 25 6 = 0 := part q0 z0 25 6 rfl (Nat.le_of_ble_eq_true rfl) rfl
  have e0 : bitsAt w 0 25 = 12058624 := part q0 z0 0 25 rfl (Nat.le_of_ble_eq_true rfl) rfl
  have e1 : bitsAt w 13 12 = 1472 := part q0 z0 13 12 rfl (Nat.le_of_ble_eq_true rfl) rfl
  have e2 : bitsAt w 19 6 = 23 := part q0 z0 19 6 rfl (Nat.le_of_ble_eq_true rfl) rfl
  have e3 : bitsAt w 0 13 = 0 := part q0 z0 0 13 rfl (Nat.le_of_ble_eq_true rfl) rfl
  have e4 : bitsAt w 3 22 = 1507328 := part q0 z0 3 22 rfl (Nat.le_of_ble_eq_true rfl) rfl
  have e5 : bitsAt w 5 8 = 0 := part q0 z0 5 8 rfl (Nat.le_of_ble_eq_true rfl) rfl
  have e6 : bitsAt w 5 20 = 376832 := part q0 z0 5 20 rfl (Nat.le_of_ble_eq_true rfl) rfl
  have e7 : bitsAt w 8 17 = 47104 := part q0 z0 8 17 rfl (Nat.le_of_ble_eq_true rfl) rfl
  have e8 : bitsAt w 2 23 = 3014656 := part q0 z0 2 23 rfl (Nat.le_of_ble_eq_true rfl) rfl
  have e9 : bitsAt w 1 24 = 6029312 := part q0 z0 1 24 rfl (Nat.le_of_ble_eq_true rfl) rfl
  refine ⟨Nat.lt_of_lt_of_le (bound q0 z0 (Nat.lt_succ_of_le hk) rfl) (Nat.le_of_ble_eq_true rfl), (skip q0 z0 0 1 rfl rfl).trans (top hk), ?_⟩
  rw [major00 w m0]
  simp [decodeMajor00, e0, e1, e2, e3, e4, e5, e6, e7, e8, e9]

theorem cwait (a : BitVec 6) : Statement (.cwait a) := by
  refine of_fields rfl ?_
  intro k hk w hw
  obtain ⟨r2, q2⟩ : ∃ r, r = 24 + 4096 * k := ⟨_, rfl⟩
  obtain ⟨r1, q1⟩ : ∃ r, r = a.toNat + 64 * r2 := ⟨_, rfl⟩
  have q0 : w = 0 + 8192 * r1 := by simp only [assemble] at hw; omega
  have z0 : 0 < 2 ^ 13 := Nat.le_of_ble_eq_true rfl
  have z2 : 24 < 2 ^ 12 := Nat.le_of_ble_eq_true rfl
  have m0 : bitsAt w 25 6 = 0 := (skip q0 z0 12 6 rfl rfl).trans ((skip q1 a.isLt 6 6 rfl rfl).trans (part q2 z2 6 6 rfl (Nat.le_of_ble_eq_true rfl) rfl))
  have e0 : bitsAt w 19 6 = 24 := (skip q0 z0 6 6 rfl rfl).trans ((skip q1 a.isLt 0 6 rfl rfl).trans (part q2 z2 0 6 rfl (Nat.le_of_ble_eq_true rfl) rfl))
  have e1 : bitsAt w 0 13 = 0 := low q0 z0 rfl
  have e2 : bitsAt w 5 8 = 0 := part q0 z0 5 8 rfl (Nat.le_of_ble_eq_true rfl) rfl
  have n0 : ¬ bitsAt w 0 25 = 0 := differs ((skip q0 z0 9 1 rfl rfl).trans ((skip q1 a.isLt 3 1 rfl rfl).trans (part q2 z2 3 1 rfl (Nat.le_of_ble_eq_true rfl) rfl))) 22 rfl (Nat.le_of_ble_eq_true rfl) (by decide)
  have n1 : ¬ bitsAt w 0 25 = 524288 := differs ((skip q0 z0 6 1 rfl rfl).trans ((skip q1 a.isLt 0 1 rfl rfl).trans (part q2 z2 0 1 rfl (Nat.le_of_ble_eq_true rfl) rfl))) 19 rfl (Nat.le_of_ble_eq_true rfl) (by decide)
  have n2 : ¬ bitsAt w 13 12 = 128 := differs ((skip q0 z0 7 1 rfl rfl).trans ((skip q1 a.isLt 1 1 rfl rfl).trans (part q2 z2 1 1 rfl (Nat.le_of_ble_eq_true rfl) rfl))) 7 rfl (Nat.le_of_ble_eq_true rfl) (by decide)
  have n3 : ¬ bitsAt w 13 12 = 192 := differs ((skip q0 z0 6 1 rfl rfl).trans ((skip q1 a.isLt 0 1 rfl rfl).trans (part q2 z2 0 1 rfl (Nat.le_of_ble_eq_true rfl) rfl))) 6 rfl (Nat.le_of_ble_eq_true rfl) (by decide)
  have n4 : ¬ bitsAt w 0 25 = 2621440 := differs ((skip q0 z0 6 1 rfl rfl).trans ((skip q1 a.isLt 0 1 rfl rfl).trans (part q2 z2 0 1 rfl (Nat.le_of_ble_eq_true rfl) rfl))) 19 rfl (Nat.le_of_ble_eq_true rfl) (by decide)
  have n5 : ¬ bitsAt w 3 22 = 524288 := differs ((skip q0 z0 10 1 rfl rfl).trans ((skip q1 a.isLt 4 1 rfl rfl).trans (part q2 z2 4 1 rfl (Nat.le_of_ble_eq_true rfl) rfl))) 20 rfl (Nat.le_of_ble_eq_true rfl) (by decide)
  have n6 : ¬ bitsAt w 3 22 = 589824 := differs ((skip q0 z0 6 1 rfl rfl).trans ((skip q1 a.isLt 0 1 rfl rfl).trans (part q2 z2 0 1 rfl (Nat.le_of_ble_eq_true rfl) rfl))) 16 rfl (Nat.le_of_ble_eq_true rfl) (by decide)
  have n7 : ¬ bitsAt w 3 22 = 655360 := differs ((skip q0 z0 7 1 rfl rfl).trans ((skip q1 a.isLt 1 1 rfl rfl).trans (part q2 z2 1 1 rfl (Nat.le_of_ble_eq_true rfl) rfl))) 17 rfl (Nat.le_of_ble_eq_true rfl) (by decide)
  have n8 : ¬ bitsAt w 13 12 = 704 := differs ((skip q0 z0 6 1 rfl rfl).trans ((skip q1 a.isLt 0 1 rfl rfl).trans (part q2 z2 0 1 rfl (Nat.le_of_ble_eq_true rfl) rfl))) 6 rfl (Nat.le_of_ble_eq_true rfl) (by decide)
  have n9 : ¬ bitsAt w 5 20 = 212992 := differs ((skip q0 z0 6 1 rfl rfl).trans ((skip q1 a.isLt 0 1 rfl rfl).trans (part q2 z2 0 1 rfl (Nat.le_of_ble_eq_true rfl) rfl))) 14 rfl (Nat.le_of_ble_eq_true rfl) (by decide)
  have n10 : ¬ bitsAt w 5 20 = 229376 := differs ((skip q0 z0 7 1 rfl rfl).trans ((skip q1 a.isLt 1 1 rfl rfl).trans (part q2 z2 1 1 rfl (Nat.le_of_ble_eq_true rfl) rfl))) 15 rfl (Nat.le_of_ble_eq_true rfl) (by decide)
  have n11 : ¬ bitsAt w 8 17 = 30720 := differs ((skip q0 z0 6 1 rfl rfl).trans ((skip q1 a.isLt 0 1 rfl rfl).trans (part q2 z2 0 1 rfl (Nat.le_of_ble_eq_true rfl) rfl))) 11 rfl (Nat.le_of_ble_eq_true rfl) (by decide)
  have n12 : ¬ bitsAt w 2 23 = 2097152 := differs ((skip q0 z0 9 1 rfl rfl).trans ((skip q1 a.isLt 3 1 rfl rfl).trans (part q2 z2 3 1 rfl (Nat.le_of_ble_eq_true rfl) rfl))) 20 rfl (Nat.le_of_ble_eq_true rfl) (by decide)
  have n13 : ¬ bitsAt w 1 24 = 4456448 := differs ((skip q0 z0 6 1 rfl rfl).trans ((skip q1 a.isLt 0 1 rfl rfl).trans (part q2 z2 0 1 rfl (Nat.le_of_ble_eq_true rfl) rfl))) 18 rfl (Nat.le_of_ble_eq_true rfl) (by decide)
  have n14 : ¬ bitsAt w 0 25 = 9961472 := differs ((skip q0 z0 6 1 rfl rfl).trans ((skip q1 a.isLt 0 1 rfl rfl).trans (part q2 z2 0 1 rfl (Nat.le_of_ble_eq_true rfl) rfl))) 19 rfl (Nat.le_of_ble_eq_true rfl) (by decide)
  have n15 : ¬ bitsAt w 0 25 = 10485761 := differs (part q0 z0 0 1 rfl (Nat.le_of_ble_eq_true rfl) rfl) 0 rfl (Nat.le_of_ble_eq_true rfl) (by decide)
  have n16 : ¬ bitsAt w 0 25 = 12058624 := differs ((skip q0 z0 6 1 rfl rfl).trans ((skip q1 a.isLt 0 1 rfl rfl).trans (part q2 z2 0 1 rfl (Nat.le_of_ble_eq_true rfl) rfl))) 19 rfl (Nat.le_of_ble_eq_true rfl) (by decide)
  have f0 : fieldAt w 13 6 = a := fieldAt_eq ((skip q0 z0 0 6 rfl rfl).trans (low q1 a.isLt rfl))
  refine ⟨Nat.lt_of_lt_of_le (bound q0 z0 (bound q1 a.isLt (bound q2 z2 (Nat.lt_succ_of_le hk) rfl) rfl) rfl) (Nat.le_of_ble_eq_true rfl), (skip q0 z0 18 1 rfl rfl).trans ((skip q1 a.isLt 12 1 rfl rfl).trans ((skip q2 z2 0 1 rfl rfl).trans (top hk))), ?_⟩
  rw [major00 w m0]
  simp [decodeMajor00, e0, e1, e2, n0, n1, n2, n3, n4, n5, n6, n7, n8, n9, n10, n11, n12, n13, n14, n15, n16, f0]

theorem sadd (d : BitVec 6) (a : BitVec 6) (b : BitVec 6) : Statement (.sadd d a b) := by
  refine of_fields rfl ?_
  intro k hk w hw
  obtain ⟨r4, q4⟩ : ∃ r, r = 1 + 64 * k := ⟨_, rfl⟩
  obtain ⟨r3, q3⟩ : ∃ r, r = d.toNat + 64 * r4 := ⟨_, rfl⟩
  obtain ⟨r2, q2⟩ : ∃ r, r = a.toNat + 64 * r3 := ⟨_, rfl⟩
  obtain ⟨r1, q1⟩ : ∃ r, r = b.toNat + 64 * r2 := ⟨_, rfl⟩
  have q0 : w = 0 + 128 * r1 := by simp only [assemble] at hw; omega
  have z0 : 0 < 2 ^ 7 := Nat.le_of_ble_eq_true rfl
  have z4 : 1 < 2 ^ 6 := Nat.le_of_ble_eq_true rfl
  have m0 : bitsAt w 25 6 = 1 := (skip q0 z0 18 6 rfl rfl).trans ((skip q1 b.isLt 12 6 rfl rfl).trans ((skip q2 a.isLt 6 6 rfl rfl).trans ((skip q3 d.isLt 0 6 rfl rfl).trans (low q4 z4 rfl))))
  have e0 : bitsAt w 0 7 = 0 := low q0 z0 rfl
  have f0 : fieldAt w 19 6 = d := fieldAt_eq ((skip q0 z0 12 6 rfl rfl).trans ((skip q1 b.isLt 6 6 rfl rfl).trans ((skip q2 a.isLt 0 6 rfl rfl).trans (low q3 d.isLt rfl))))
  have f1 : fieldAt w 13 6 = a := fieldAt_eq ((skip q0 z0 6 6 rfl rfl).trans ((skip q1 b.isLt 0 6 rfl rfl).trans (low q2 a.isLt rfl)))
  have f2 : fieldAt w 7 6 = b := fieldAt_eq ((skip q0 z0 0 6 rfl rfl).trans (low q1 b.isLt rfl))
  refine ⟨Nat.lt_of_lt_of_le (bound q0 z0 (bound q1 b.isLt (bound q2 a.isLt (bound q3 d.isLt (bound q4 z4 (Nat.lt_succ_of_le hk) rfl) rfl) rfl) rfl) rfl) (Nat.le_of_ble_eq_true rfl), (skip q0 z0 24 1 rfl rfl).trans ((skip q1 b.isLt 18 1 rfl rfl).trans ((skip q2 a.isLt 12 1 rfl rfl).trans ((skip q3 d.isLt 6 1 rfl rfl).trans ((skip q4 z4 0 1 rfl rfl).trans (top hk))))), ?_⟩
  rw [major01 w m0]
  simp [decodeMajor01, e0, f0, f1, f2]

theorem ssub (d : BitVec 6) (a : BitVec 6) (b : BitVec 6) : Statement (.ssub d a b) := by
  refine of_fields rfl ?_
  intro k hk w hw
  obtain ⟨r4, q4⟩ : ∃ r, r = 1 + 64 * k := ⟨_, rfl⟩
  obtain ⟨r3, q3⟩ : ∃ r, r = d.toNat + 64 * r4 := ⟨_, rfl⟩
  obtain ⟨r2, q2⟩ : ∃ r, r = a.toNat + 64 * r3 := ⟨_, rfl⟩
  obtain ⟨r1, q1⟩ : ∃ r, r = b.toNat + 64 * r2 := ⟨_, rfl⟩
  have q0 : w = 1 + 128 * r1 := by simp only [assemble] at hw; omega
  have z0 : 1 < 2 ^ 7 := Nat.le_of_ble_eq_true rfl
  have z4 : 1 < 2 ^ 6 := Nat.le_of_ble_eq_true rfl
  have m0 : bitsAt w 25 6 = 1 := (skip q0 z0 18 6 rfl rfl).trans ((skip q1 b.isLt 12 6 rfl rfl).trans ((skip q2 a.isLt 6 6 rfl rfl).trans ((skip q3 d.isLt 0 6 rfl rfl).trans (low q4 z4 rfl))))
  have e0 : bitsAt w 0 7 = 1 := low q0 z0 rfl
  have f0 : fieldAt w 19 6 = d := fieldAt_eq ((skip q0 z0 12 6 rfl rfl).trans ((skip q1 b.isLt 6 6 rfl rfl).trans ((skip q2 a.isLt 0 6 rfl rfl).trans (low q3 d.isLt rfl))))
  have f1 : fieldAt w 13 6 = a := fieldAt_eq ((skip q0 z0 6 6 rfl rfl).trans ((skip q1 b.isLt 0 6 rfl rfl).trans (low q2 a.isLt rfl)))
  have f2 : fieldAt w 7 6 = b := fieldAt_eq ((skip q0 z0 0 6 rfl rfl).trans (low q1 b.isLt rfl))
  refine ⟨Nat.lt_of_lt_of_le (bound q0 z0 (bound q1 b.isLt (bound q2 a.isLt (bound q3 d.isLt (bound q4 z4 (Nat.lt_succ_of_le hk) rfl) rfl) rfl) rfl) rfl) (Nat.le_of_ble_eq_true rfl), (skip q0 z0 24 1 rfl rfl).trans ((skip q1 b.isLt 18 1 rfl rfl).trans ((skip q2 a.isLt 12 1 rfl rfl).trans ((skip q3 d.isLt 6 1 rfl rfl).trans ((skip q4 z4 0 1 rfl rfl).trans (top hk))))), ?_⟩
  rw [major01 w m0]
  simp [decodeMajor01, e0, f0, f1, f2]

theorem smul (d : BitVec 6) (a : BitVec 6) (b : BitVec 6) : Statement (.smul d a b) := by
  refine of_fields rfl ?_
  intro k hk w hw
  obtain ⟨r4, q4⟩ : ∃ r, r = 1 + 64 * k := ⟨_, rfl⟩
  obtain ⟨r3, q3⟩ : ∃ r, r = d.toNat + 64 * r4 := ⟨_, rfl⟩
  obtain ⟨r2, q2⟩ : ∃ r, r = a.toNat + 64 * r3 := ⟨_, rfl⟩
  obtain ⟨r1, q1⟩ : ∃ r, r = b.toNat + 64 * r2 := ⟨_, rfl⟩
  have q0 : w = 2 + 128 * r1 := by simp only [assemble] at hw; omega
  have z0 : 2 < 2 ^ 7 := Nat.le_of_ble_eq_true rfl
  have z4 : 1 < 2 ^ 6 := Nat.le_of_ble_eq_true rfl
  have m0 : bitsAt w 25 6 = 1 := (skip q0 z0 18 6 rfl rfl).trans ((skip q1 b.isLt 12 6 rfl rfl).trans ((skip q2 a.isLt 6 6 rfl rfl).trans ((skip q3 d.isLt 0 6 rfl rfl).trans (low q4 z4 rfl))))
  have e0 : bitsAt w 0 7 = 2 := low q0 z0 rfl
  have f0 : fieldAt w 19 6 = d := fieldAt_eq ((skip q0 z0 12 6 rfl rfl).trans ((skip q1 b.isLt 6 6 rfl rfl).trans ((skip q2 a.isLt 0 6 rfl rfl).trans (low q3 d.isLt rfl))))
  have f1 : fieldAt w 13 6 = a := fieldAt_eq ((skip q0 z0 6 6 rfl rfl).trans ((skip q1 b.isLt 0 6 rfl rfl).trans (low q2 a.isLt rfl)))
  have f2 : fieldAt w 7 6 = b := fieldAt_eq ((skip q0 z0 0 6 rfl rfl).trans (low q1 b.isLt rfl))
  refine ⟨Nat.lt_of_lt_of_le (bound q0 z0 (bound q1 b.isLt (bound q2 a.isLt (bound q3 d.isLt (bound q4 z4 (Nat.lt_succ_of_le hk) rfl) rfl) rfl) rfl) rfl) (Nat.le_of_ble_eq_true rfl), (skip q0 z0 24 1 rfl rfl).trans ((skip q1 b.isLt 18 1 rfl rfl).trans ((skip q2 a.isLt 12 1 rfl rfl).trans ((skip q3 d.isLt 6 1 rfl rfl).trans ((skip q4 z4 0 1 rfl rfl).trans (top hk))))), ?_⟩
  rw [major01 w m0]
  simp [decodeMajor01, e0, f0, f1, f2]

theorem smulh (d : BitVec 6) (a : BitVec 6) (b : BitVec 6) (u : BitVec 1) : Statement (.smulh d a b u) := by
  refine of_fields rfl ?_
  intro k hk w hw
  obtain ⟨r6, q6⟩ : ∃ r, r = 1 + 64 * k := ⟨_, rfl⟩
  obtain ⟨r5, q5⟩ : ∃ r, r = d.toNat + 64 * r6 := ⟨_, rfl⟩
  obtain ⟨r4, q4⟩ : ∃ r, r = a.toNat + 64 * r5 := ⟨_, rfl⟩
  obtain ⟨r3, q3⟩ : ∃ r, r = b.toNat + 64 * r4 := ⟨_, rfl⟩
  obtain ⟨r2, q2⟩ : ∃ r, r = 0 + 4 * r3 := ⟨_, rfl⟩
  obtain ⟨r1, q1⟩ : ∃ r, r = u.toNat + 2 * r2 := ⟨_, rfl⟩
  have q0 : w = 3 + 16 * r1 := by simp only [assemble] at hw; omega
  have z0 : 3 < 2 ^ 4 := Nat.le_of_ble_eq_true rfl
  have z2 : 0 < 2 ^ 2 := Nat.le_of_ble_eq_true rfl
  have z6 : 1 < 2 ^ 6 := Nat.le_of_ble_eq_true rfl
  have m0 : bitsAt w 25 6 = 1 := (skip q0 z0 21 6 rfl rfl).trans ((skip q1 u.isLt 20 6 rfl rfl).trans ((skip q2 z2 18 6 rfl rfl).trans ((skip q3 b.isLt 12 6 rfl rfl).trans ((skip q4 a.isLt 6 6 rfl rfl).trans ((skip q5 d.isLt 0 6 rfl rfl).trans (low q6 z6 rfl))))))
  have e0 : bitsAt w 5 2 = 0 := (skip q0 z0 1 2 rfl rfl).trans ((skip q1 u.isLt 0 2 rfl rfl).trans (low q2 z2 rfl))
  have e1 : bitsAt w 0 4 = 3 := low q0 z0 rfl
  have n0 : ¬ bitsAt w 0 7 = 0 := differs (part q0 z0 0 1 rfl (Nat.le_of_ble_eq_true rfl) rfl) 0 rfl (Nat.le_of_ble_eq_true rfl) (by decide)
  have n1 : ¬ bitsAt w 0 7 = 1 := differs (part q0 z0 1 1 rfl (Nat.le_of_ble_eq_true rfl) rfl) 1 rfl (Nat.le_of_ble_eq_true rfl) (by decide)
  have n2 : ¬ bitsAt w 0 7 = 2 := differs (part q0 z0 0 1 rfl (Nat.le_of_ble_eq_true rfl) rfl) 0 rfl (Nat.le_of_ble_eq_true rfl) (by decide)
  have f0 : fieldAt w 19 6 = d := fieldAt_eq ((skip q0 z0 15 6 rfl rfl).trans ((skip q1 u.isLt 14 6 rfl rfl).trans ((skip q2 z2 12 6 rfl rfl).trans ((skip q3 b.isLt 6 6 rfl rfl).trans ((skip q4 a.isLt 0 6 rfl rfl).trans (low q5 d.isLt rfl))))))
  have f1 : fieldAt w 13 6 = a := fieldAt_eq ((skip q0 z0 9 6 rfl rfl).trans ((skip q1 u.isLt 8 6 rfl rfl).trans ((skip q2 z2 6 6 rfl rfl).trans ((skip q3 b.isLt 0 6 rfl rfl).trans (low q4 a.isLt rfl)))))
  have f2 : fieldAt w 7 6 = b := fieldAt_eq ((skip q0 z0 3 6 rfl rfl).trans ((skip q1 u.isLt 2 6 rfl rfl).trans ((skip q2 z2 0 6 rfl rfl).trans (low q3 b.isLt rfl))))
  have f3 : fieldAt w 4 1 = u := fieldAt_eq ((skip q0 z0 0 1 rfl rfl).trans (low q1 u.isLt rfl))
  refine ⟨Nat.lt_of_lt_of_le (bound q0 z0 (bound q1 u.isLt (bound q2 z2 (bound q3 b.isLt (bound q4 a.isLt (bound q5 d.isLt (bound q6 z6 (Nat.lt_succ_of_le hk) rfl) rfl) rfl) rfl) rfl) rfl) rfl) (Nat.le_of_ble_eq_true rfl), (skip q0 z0 27 1 rfl rfl).trans ((skip q1 u.isLt 26 1 rfl rfl).trans ((skip q2 z2 24 1 rfl rfl).trans ((skip q3 b.isLt 18 1 rfl rfl).trans ((skip q4 a.isLt 12 1 rfl rfl).trans ((skip q5 d.isLt 6 1 rfl rfl).trans ((skip q6 z6 0 1 rfl rfl).trans (top hk))))))), ?_⟩
  rw [major01 w m0]
  simp [decodeMajor01, e0, e1, n0, n1, n2, f0, f1, f2, f3]

theorem sand (d : BitVec 6) (a : BitVec 6) (b : BitVec 6) : Statement (.sand d a b) := by
  refine of_fields rfl ?_
  intro k hk w hw
  obtain ⟨r4, q4⟩ : ∃ r, r = 1 + 64 * k := ⟨_, rfl⟩
  obtain ⟨r3, q3⟩ : ∃ r, r = d.toNat + 64 * r4 := ⟨_, rfl⟩
  obtain ⟨r2, q2⟩ : ∃ r, r = a.toNat + 64 * r3 := ⟨_, rfl⟩
  obtain ⟨r1, q1⟩ : ∃ r, r = b.toNat + 64 * r2 := ⟨_, rfl⟩
  have q0 : w = 4 + 128 * r1 := by simp only [assemble] at hw; omega
  have z0 : 4 < 2 ^ 7 := Nat.le_of_ble_eq_true rfl
  have z4 : 1 < 2 ^ 6 := Nat.le_of_ble_eq_true rfl
  have m0 : bitsAt w 25 6 = 1 := (skip q0 z0 18 6 rfl rfl).trans ((skip q1 b.isLt 12 6 rfl rfl).trans ((skip q2 a.isLt 6 6 rfl rfl).trans ((skip q3 d.isLt 0 6 rfl rfl).trans (low q4 z4 rfl))))
  have e0 : bitsAt w 0 7 = 4 := low q0 z0 rfl
  have e1 : bitsAt w 5 2 = 0 := part q0 z0 5 2 rfl (Nat.le_of_ble_eq_true rfl) rfl
  have e2 : bitsAt w 0 4 = 4 := part q0 z0 0 4 rfl (Nat.le_of_ble_eq_true rfl) rfl
  have f0 : fieldAt w 19 6 = d := fieldAt_eq ((skip q0 z0 12 6 rfl rfl).trans ((skip q1 b.isLt 6 6 rfl rfl).trans ((skip q2 a.isLt 0 6 rfl rfl).trans (low q3 d.isLt rfl))))
  have f1 : fieldAt w 13 6 = a := fieldAt_eq ((skip q0 z0 6 6 rfl rfl).trans ((skip q1 b.isLt 0 6 rfl rfl).trans (low q2 a.isLt rfl)))
  have f2 : fieldAt w 7 6 = b := fieldAt_eq ((skip q0 z0 0 6 rfl rfl).trans (low q1 b.isLt rfl))
  refine ⟨Nat.lt_of_lt_of_le (bound q0 z0 (bound q1 b.isLt (bound q2 a.isLt (bound q3 d.isLt (bound q4 z4 (Nat.lt_succ_of_le hk) rfl) rfl) rfl) rfl) rfl) (Nat.le_of_ble_eq_true rfl), (skip q0 z0 24 1 rfl rfl).trans ((skip q1 b.isLt 18 1 rfl rfl).trans ((skip q2 a.isLt 12 1 rfl rfl).trans ((skip q3 d.isLt 6 1 rfl rfl).trans ((skip q4 z4 0 1 rfl rfl).trans (top hk))))), ?_⟩
  rw [major01 w m0]
  simp [decodeMajor01, e0, e1, e2, f0, f1, f2]

theorem sor (d : BitVec 6) (a : BitVec 6) (b : BitVec 6) : Statement (.sor d a b) := by
  refine of_fields rfl ?_
  intro k hk w hw
  obtain ⟨r4, q4⟩ : ∃ r, r = 1 + 64 * k := ⟨_, rfl⟩
  obtain ⟨r3, q3⟩ : ∃ r, r = d.toNat + 64 * r4 := ⟨_, rfl⟩
  obtain ⟨r2, q2⟩ : ∃ r, r = a.toNat + 64 * r3 := ⟨_, rfl⟩
  obtain ⟨r1, q1⟩ : ∃ r, r = b.toNat + 64 * r2 := ⟨_, rfl⟩
  have q0 : w = 5 + 128 * r1 := by simp only [assemble] at hw; omega
  have z0 : 5 < 2 ^ 7 := Nat.le_of_ble_eq_true rfl
  have z4 : 1 < 2 ^ 6 := Nat.le_of_ble_eq_true rfl
  have m0 : bitsAt w 25 6 = 1 := (skip q0 z0 18 6 rfl rfl).trans ((skip q1 b.isLt 12 6 rfl rfl).trans ((skip q2 a.isLt 6 6 rfl rfl).trans ((skip q3 d.isLt 0 6 rfl rfl).trans (low q4 z4 rfl))))
  have e0 : bitsAt w 0 7 = 5 := low q0 z0 rfl
  have e1 : bitsAt w 5 2 = 0 := part q0 z0 5 2 rfl (Nat.le_of_ble_eq_true rfl) rfl
  have e2 : bitsAt w 0 4 = 5 := part q0 z0 0 4 rfl (Nat.le_of_ble_eq_true rfl) rfl
  have f0 : fieldAt w 19 6 = d := fieldAt_eq ((skip q0 z0 12 6 rfl rfl).trans ((skip q1 b.isLt 6 6 rfl rfl).trans ((skip q2 a.isLt 0 6 rfl rfl).trans (low q3 d.isLt rfl))))
  have f1 : fieldAt w 13 6 = a := fieldAt_eq ((skip q0 z0 6 6 rfl rfl).trans ((skip q1 b.isLt 0 6 rfl rfl).trans (low q2 a.isLt rfl)))
  have f2 : fieldAt w 7 6 = b := fieldAt_eq ((skip q0 z0 0 6 rfl rfl).trans (low q1 b.isLt rfl))
  refine ⟨Nat.lt_of_lt_of_le (bound q0 z0 (bound q1 b.isLt (bound q2 a.isLt (bound q3 d.isLt (bound q4 z4 (Nat.lt_succ_of_le hk) rfl) rfl) rfl) rfl) rfl) (Nat.le_of_ble_eq_true rfl), (skip q0 z0 24 1 rfl rfl).trans ((skip q1 b.isLt 18 1 rfl rfl).trans ((skip q2 a.isLt 12 1 rfl rfl).trans ((skip q3 d.isLt 6 1 rfl rfl).trans ((skip q4 z4 0 1 rfl rfl).trans (top hk))))), ?_⟩
  rw [major01 w m0]
  simp [decodeMajor01, e0, e1, e2, f0, f1, f2]

theorem sxor (d : BitVec 6) (a : BitVec 6) (b : BitVec 6) : Statement (.sxor d a b) := by
  refine of_fields rfl ?_
  intro k hk w hw
  obtain ⟨r4, q4⟩ : ∃ r, r = 1 + 64 * k := ⟨_, rfl⟩
  obtain ⟨r3, q3⟩ : ∃ r, r = d.toNat + 64 * r4 := ⟨_, rfl⟩
  obtain ⟨r2, q2⟩ : ∃ r, r = a.toNat + 64 * r3 := ⟨_, rfl⟩
  obtain ⟨r1, q1⟩ : ∃ r, r = b.toNat + 64 * r2 := ⟨_, rfl⟩
  have q0 : w = 6 + 128 * r1 := by simp only [assemble] at hw; omega
  have z0 : 6 < 2 ^ 7 := Nat.le_of_ble_eq_true rfl
  have z4 : 1 < 2 ^ 6 := Nat.le_of_ble_eq_true rfl
  have m0 : bitsAt w 25 6 = 1 := (skip q0 z0 18 6 rfl rfl).trans ((skip q1 b.isLt 12 6 rfl rfl).trans ((skip q2 a.isLt 6 6 rfl rfl).trans ((skip q3 d.isLt 0 6 rfl rfl).trans (low q4 z4 rfl))))
  have e0 : bitsAt w 0 7 = 6 := low q0 z0 rfl
  have e1 : bitsAt w 5 2 = 0 := part q0 z0 5 2 rfl (Nat.le_of_ble_eq_true rfl) rfl
  have e2 : bitsAt w 0 4 = 6 := part q0 z0 0 4 rfl (Nat.le_of_ble_eq_true rfl) rfl
  have f0 : fieldAt w 19 6 = d := fieldAt_eq ((skip q0 z0 12 6 rfl rfl).trans ((skip q1 b.isLt 6 6 rfl rfl).trans ((skip q2 a.isLt 0 6 rfl rfl).trans (low q3 d.isLt rfl))))
  have f1 : fieldAt w 13 6 = a := fieldAt_eq ((skip q0 z0 6 6 rfl rfl).trans ((skip q1 b.isLt 0 6 rfl rfl).trans (low q2 a.isLt rfl)))
  have f2 : fieldAt w 7 6 = b := fieldAt_eq ((skip q0 z0 0 6 rfl rfl).trans (low q1 b.isLt rfl))
  refine ⟨Nat.lt_of_lt_of_le (bound q0 z0 (bound q1 b.isLt (bound q2 a.isLt (bound q3 d.isLt (bound q4 z4 (Nat.lt_succ_of_le hk) rfl) rfl) rfl) rfl) rfl) (Nat.le_of_ble_eq_true rfl), (skip q0 z0 24 1 rfl rfl).trans ((skip q1 b.isLt 18 1 rfl rfl).trans ((skip q2 a.isLt 12 1 rfl rfl).trans ((skip q3 d.isLt 6 1 rfl rfl).trans ((skip q4 z4 0 1 rfl rfl).trans (top hk))))), ?_⟩
  rw [major01 w m0]
  simp [decodeMajor01, e0, e1, e2, f0, f1, f2]

theorem sandn (d : BitVec 6) (a : BitVec 6) (b : BitVec 6) : Statement (.sandn d a b) := by
  refine of_fields rfl ?_
  intro k hk w hw
  obtain ⟨r4, q4⟩ : ∃ r, r = 1 + 64 * k := ⟨_, rfl⟩
  obtain ⟨r3, q3⟩ : ∃ r, r = d.toNat + 64 * r4 := ⟨_, rfl⟩
  obtain ⟨r2, q2⟩ : ∃ r, r = a.toNat + 64 * r3 := ⟨_, rfl⟩
  obtain ⟨r1, q1⟩ : ∃ r, r = b.toNat + 64 * r2 := ⟨_, rfl⟩
  have q0 : w = 7 + 128 * r1 := by simp only [assemble] at hw; omega
  have z0 : 7 < 2 ^ 7 := Nat.le_of_ble_eq_true rfl
  have z4 : 1 < 2 ^ 6 := Nat.le_of_ble_eq_true rfl
  have m0 : bitsAt w 25 6 = 1 := (skip q0 z0 18 6 rfl rfl).trans ((skip q1 b.isLt 12 6 rfl rfl).trans ((skip q2 a.isLt 6 6 rfl rfl).trans ((skip q3 d.isLt 0 6 rfl rfl).trans (low q4 z4 rfl))))
  have e0 : bitsAt w 0 7 = 7 := low q0 z0 rfl
  have e1 : bitsAt w 5 2 = 0 := part q0 z0 5 2 rfl (Nat.le_of_ble_eq_true rfl) rfl
  have e2 : bitsAt w 0 4 = 7 := part q0 z0 0 4 rfl (Nat.le_of_ble_eq_true rfl) rfl
  have f0 : fieldAt w 19 6 = d := fieldAt_eq ((skip q0 z0 12 6 rfl rfl).trans ((skip q1 b.isLt 6 6 rfl rfl).trans ((skip q2 a.isLt 0 6 rfl rfl).trans (low q3 d.isLt rfl))))
  have f1 : fieldAt w 13 6 = a := fieldAt_eq ((skip q0 z0 6 6 rfl rfl).trans ((skip q1 b.isLt 0 6 rfl rfl).trans (low q2 a.isLt rfl)))
  have f2 : fieldAt w 7 6 = b := fieldAt_eq ((skip q0 z0 0 6 rfl rfl).trans (low q1 b.isLt rfl))
  refine ⟨Nat.lt_of_lt_of_le (bound q0 z0 (bound q1 b.isLt (bound q2 a.isLt (bound q3 d.isLt (bound q4 z4 (Nat.lt_succ_of_le hk) rfl) rfl) rfl) rfl) rfl) (Nat.le_of_ble_eq_true rfl), (skip q0 z0 24 1 rfl rfl).trans ((skip q1 b.isLt 18 1 rfl rfl).trans ((skip q2 a.isLt 12 1 rfl rfl).trans ((skip q3 d.isLt 6 1 rfl rfl).trans ((skip q4 z4 0 1 rfl rfl).trans (top hk))))), ?_⟩
  rw [major01 w m0]
  simp [decodeMajor01, e0, e1, e2, f0, f1, f2]

theorem sshl (d : BitVec 6) (a : BitVec 6) (b : BitVec 6) : Statement (.sshl d a b) := by
  refine of_fields rfl ?_
  intro k hk w hw
  obtain ⟨r4, q4⟩ : ∃ r, r = 1 + 64 * k := ⟨_, rfl⟩
  obtain ⟨r3, q3⟩ : ∃ r, r = d.toNat + 64 * r4 := ⟨_, rfl⟩
  obtain ⟨r2, q2⟩ : ∃ r, r = a.toNat + 64 * r3 := ⟨_, rfl⟩
  obtain ⟨r1, q1⟩ : ∃ r, r = b.toNat + 64 * r2 := ⟨_, rfl⟩
  have q0 : w = 8 + 128 * r1 := by simp only [assemble] at hw; omega
  have z0 : 8 < 2 ^ 7 := Nat.le_of_ble_eq_true rfl
  have z4 : 1 < 2 ^ 6 := Nat.le_of_ble_eq_true rfl
  have m0 : bitsAt w 25 6 = 1 := (skip q0 z0 18 6 rfl rfl).trans ((skip q1 b.isLt 12 6 rfl rfl).trans ((skip q2 a.isLt 6 6 rfl rfl).trans ((skip q3 d.isLt 0 6 rfl rfl).trans (low q4 z4 rfl))))
  have e0 : bitsAt w 0 7 = 8 := low q0 z0 rfl
  have e1 : bitsAt w 5 2 = 0 := part q0 z0 5 2 rfl (Nat.le_of_ble_eq_true rfl) rfl
  have e2 : bitsAt w 0 4 = 8 := part q0 z0 0 4 rfl (Nat.le_of_ble_eq_true rfl) rfl
  have f0 : fieldAt w 19 6 = d := fieldAt_eq ((skip q0 z0 12 6 rfl rfl).trans ((skip q1 b.isLt 6 6 rfl rfl).trans ((skip q2 a.isLt 0 6 rfl rfl).trans (low q3 d.isLt rfl))))
  have f1 : fieldAt w 13 6 = a := fieldAt_eq ((skip q0 z0 6 6 rfl rfl).trans ((skip q1 b.isLt 0 6 rfl rfl).trans (low q2 a.isLt rfl)))
  have f2 : fieldAt w 7 6 = b := fieldAt_eq ((skip q0 z0 0 6 rfl rfl).trans (low q1 b.isLt rfl))
  refine ⟨Nat.lt_of_lt_of_le (bound q0 z0 (bound q1 b.isLt (bound q2 a.isLt (bound q3 d.isLt (bound q4 z4 (Nat.lt_succ_of_le hk) rfl) rfl) rfl) rfl) rfl) (Nat.le_of_ble_eq_true rfl), (skip q0 z0 24 1 rfl rfl).trans ((skip q1 b.isLt 18 1 rfl rfl).trans ((skip q2 a.isLt 12 1 rfl rfl).trans ((skip q3 d.isLt 6 1 rfl rfl).trans ((skip q4 z4 0 1 rfl rfl).trans (top hk))))), ?_⟩
  rw [major01 w m0]
  simp [decodeMajor01, e0, e1, e2, f0, f1, f2]

theorem sshr (d : BitVec 6) (a : BitVec 6) (b : BitVec 6) (u : BitVec 1) : Statement (.sshr d a b u) := by
  refine of_fields rfl ?_
  intro k hk w hw
  obtain ⟨r6, q6⟩ : ∃ r, r = 1 + 64 * k := ⟨_, rfl⟩
  obtain ⟨r5, q5⟩ : ∃ r, r = d.toNat + 64 * r6 := ⟨_, rfl⟩
  obtain ⟨r4, q4⟩ : ∃ r, r = a.toNat + 64 * r5 := ⟨_, rfl⟩
  obtain ⟨r3, q3⟩ : ∃ r, r = b.toNat + 64 * r4 := ⟨_, rfl⟩
  obtain ⟨r2, q2⟩ : ∃ r, r = 0 + 4 * r3 := ⟨_, rfl⟩
  obtain ⟨r1, q1⟩ : ∃ r, r = u.toNat + 2 * r2 := ⟨_, rfl⟩
  have q0 : w = 9 + 16 * r1 := by simp only [assemble] at hw; omega
  have z0 : 9 < 2 ^ 4 := Nat.le_of_ble_eq_true rfl
  have z2 : 0 < 2 ^ 2 := Nat.le_of_ble_eq_true rfl
  have z6 : 1 < 2 ^ 6 := Nat.le_of_ble_eq_true rfl
  have m0 : bitsAt w 25 6 = 1 := (skip q0 z0 21 6 rfl rfl).trans ((skip q1 u.isLt 20 6 rfl rfl).trans ((skip q2 z2 18 6 rfl rfl).trans ((skip q3 b.isLt 12 6 rfl rfl).trans ((skip q4 a.isLt 6 6 rfl rfl).trans ((skip q5 d.isLt 0 6 rfl rfl).trans (low q6 z6 rfl))))))
  have e0 : bitsAt w 5 2 = 0 := (skip q0 z0 1 2 rfl rfl).trans ((skip q1 u.isLt 0 2 rfl rfl).trans (low q2 z2 rfl))
  have e1 : bitsAt w 0 4 = 9 := low q0 z0 rfl
  have n0 : ¬ bitsAt w 0 7 = 0 := differs (part q0 z0 0 1 rfl (Nat.le_of_ble_eq_true rfl) rfl) 0 rfl (Nat.le_of_ble_eq_true rfl) (by decide)
  have n1 : ¬ bitsAt w 0 7 = 1 := differs (part q0 z0 3 1 rfl (Nat.le_of_ble_eq_true rfl) rfl) 3 rfl (Nat.le_of_ble_eq_true rfl) (by decide)
  have n2 : ¬ bitsAt w 0 7 = 2 := differs (part q0 z0 0 1 rfl (Nat.le_of_ble_eq_true rfl) rfl) 0 rfl (Nat.le_of_ble_eq_true rfl) (by decide)
  have n3 : ¬ bitsAt w 0 7 = 4 := differs (part q0 z0 0 1 rfl (Nat.le_of_ble_eq_true rfl) rfl) 0 rfl (Nat.le_of_ble_eq_true rfl) (by decide)
  have n4 : ¬ bitsAt w 0 7 = 5 := differs (part q0 z0 2 1 rfl (Nat.le_of_ble_eq_true rfl) rfl) 2 rfl (Nat.le_of_ble_eq_true rfl) (by decide)
  have n5 : ¬ bitsAt w 0 7 = 6 := differs (part q0 z0 0 1 rfl (Nat.le_of_ble_eq_true rfl) rfl) 0 rfl (Nat.le_of_ble_eq_true rfl) (by decide)
  have n6 : ¬ bitsAt w 0 7 = 7 := differs (part q0 z0 1 1 rfl (Nat.le_of_ble_eq_true rfl) rfl) 1 rfl (Nat.le_of_ble_eq_true rfl) (by decide)
  have n7 : ¬ bitsAt w 0 7 = 8 := differs (part q0 z0 0 1 rfl (Nat.le_of_ble_eq_true rfl) rfl) 0 rfl (Nat.le_of_ble_eq_true rfl) (by decide)
  have f0 : fieldAt w 19 6 = d := fieldAt_eq ((skip q0 z0 15 6 rfl rfl).trans ((skip q1 u.isLt 14 6 rfl rfl).trans ((skip q2 z2 12 6 rfl rfl).trans ((skip q3 b.isLt 6 6 rfl rfl).trans ((skip q4 a.isLt 0 6 rfl rfl).trans (low q5 d.isLt rfl))))))
  have f1 : fieldAt w 13 6 = a := fieldAt_eq ((skip q0 z0 9 6 rfl rfl).trans ((skip q1 u.isLt 8 6 rfl rfl).trans ((skip q2 z2 6 6 rfl rfl).trans ((skip q3 b.isLt 0 6 rfl rfl).trans (low q4 a.isLt rfl)))))
  have f2 : fieldAt w 7 6 = b := fieldAt_eq ((skip q0 z0 3 6 rfl rfl).trans ((skip q1 u.isLt 2 6 rfl rfl).trans ((skip q2 z2 0 6 rfl rfl).trans (low q3 b.isLt rfl))))
  have f3 : fieldAt w 4 1 = u := fieldAt_eq ((skip q0 z0 0 1 rfl rfl).trans (low q1 u.isLt rfl))
  refine ⟨Nat.lt_of_lt_of_le (bound q0 z0 (bound q1 u.isLt (bound q2 z2 (bound q3 b.isLt (bound q4 a.isLt (bound q5 d.isLt (bound q6 z6 (Nat.lt_succ_of_le hk) rfl) rfl) rfl) rfl) rfl) rfl) rfl) (Nat.le_of_ble_eq_true rfl), (skip q0 z0 27 1 rfl rfl).trans ((skip q1 u.isLt 26 1 rfl rfl).trans ((skip q2 z2 24 1 rfl rfl).trans ((skip q3 b.isLt 18 1 rfl rfl).trans ((skip q4 a.isLt 12 1 rfl rfl).trans ((skip q5 d.isLt 6 1 rfl rfl).trans ((skip q6 z6 0 1 rfl rfl).trans (top hk))))))), ?_⟩
  rw [major01 w m0]
  simp [decodeMajor01, e0, e1, n0, n1, n2, n3, n4, n5, n6, n7, f0, f1, f2, f3]

theorem ssra (d : BitVec 6) (a : BitVec 6) (b : BitVec 6) : Statement (.ssra d a b) := by
  refine of_fields rfl ?_
  intro k hk w hw
  obtain ⟨r4, q4⟩ : ∃ r, r = 1 + 64 * k := ⟨_, rfl⟩
  obtain ⟨r3, q3⟩ : ∃ r, r = d.toNat + 64 * r4 := ⟨_, rfl⟩
  obtain ⟨r2, q2⟩ : ∃ r, r = a.toNat + 64 * r3 := ⟨_, rfl⟩
  obtain ⟨r1, q1⟩ : ∃ r, r = b.toNat + 64 * r2 := ⟨_, rfl⟩
  have q0 : w = 10 + 128 * r1 := by simp only [assemble] at hw; omega
  have z0 : 10 < 2 ^ 7 := Nat.le_of_ble_eq_true rfl
  have z4 : 1 < 2 ^ 6 := Nat.le_of_ble_eq_true rfl
  have m0 : bitsAt w 25 6 = 1 := (skip q0 z0 18 6 rfl rfl).trans ((skip q1 b.isLt 12 6 rfl rfl).trans ((skip q2 a.isLt 6 6 rfl rfl).trans ((skip q3 d.isLt 0 6 rfl rfl).trans (low q4 z4 rfl))))
  have e0 : bitsAt w 0 7 = 10 := low q0 z0 rfl
  have e1 : bitsAt w 5 2 = 0 := part q0 z0 5 2 rfl (Nat.le_of_ble_eq_true rfl) rfl
  have e2 : bitsAt w 0 4 = 10 := part q0 z0 0 4 rfl (Nat.le_of_ble_eq_true rfl) rfl
  have f0 : fieldAt w 19 6 = d := fieldAt_eq ((skip q0 z0 12 6 rfl rfl).trans ((skip q1 b.isLt 6 6 rfl rfl).trans ((skip q2 a.isLt 0 6 rfl rfl).trans (low q3 d.isLt rfl))))
  have f1 : fieldAt w 13 6 = a := fieldAt_eq ((skip q0 z0 6 6 rfl rfl).trans ((skip q1 b.isLt 0 6 rfl rfl).trans (low q2 a.isLt rfl)))
  have f2 : fieldAt w 7 6 = b := fieldAt_eq ((skip q0 z0 0 6 rfl rfl).trans (low q1 b.isLt rfl))
  refine ⟨Nat.lt_of_lt_of_le (bound q0 z0 (bound q1 b.isLt (bound q2 a.isLt (bound q3 d.isLt (bound q4 z4 (Nat.lt_succ_of_le hk) rfl) rfl) rfl) rfl) rfl) (Nat.le_of_ble_eq_true rfl), (skip q0 z0 24 1 rfl rfl).trans ((skip q1 b.isLt 18 1 rfl rfl).trans ((skip q2 a.isLt 12 1 rfl rfl).trans ((skip q3 d.isLt 6 1 rfl rfl).trans ((skip q4 z4 0 1 rfl rfl).trans (top hk))))), ?_⟩
  rw [major01 w m0]
  simp [decodeMajor01, e0, e1, e2, f0, f1, f2]

theorem smin (d : BitVec 6) (a : BitVec 6) (b : BitVec 6) (u : BitVec 1) : Statement (.smin d a b u) := by
  refine of_fields rfl ?_
  intro k hk w hw
  obtain ⟨r6, q6⟩ : ∃ r, r = 1 + 64 * k := ⟨_, rfl⟩
  obtain ⟨r5, q5⟩ : ∃ r, r = d.toNat + 64 * r6 := ⟨_, rfl⟩
  obtain ⟨r4, q4⟩ : ∃ r, r = a.toNat + 64 * r5 := ⟨_, rfl⟩
  obtain ⟨r3, q3⟩ : ∃ r, r = b.toNat + 64 * r4 := ⟨_, rfl⟩
  obtain ⟨r2, q2⟩ : ∃ r, r = 0 + 4 * r3 := ⟨_, rfl⟩
  obtain ⟨r1, q1⟩ : ∃ r, r = u.toNat + 2 * r2 := ⟨_, rfl⟩
  have q0 : w = 11 + 16 * r1 := by simp only [assemble] at hw; omega
  have z0 : 11 < 2 ^ 4 := Nat.le_of_ble_eq_true rfl
  have z2 : 0 < 2 ^ 2 := Nat.le_of_ble_eq_true rfl
  have z6 : 1 < 2 ^ 6 := Nat.le_of_ble_eq_true rfl
  have m0 : bitsAt w 25 6 = 1 := (skip q0 z0 21 6 rfl rfl).trans ((skip q1 u.isLt 20 6 rfl rfl).trans ((skip q2 z2 18 6 rfl rfl).trans ((skip q3 b.isLt 12 6 rfl rfl).trans ((skip q4 a.isLt 6 6 rfl rfl).trans ((skip q5 d.isLt 0 6 rfl rfl).trans (low q6 z6 rfl))))))
  have e0 : bitsAt w 5 2 = 0 := (skip q0 z0 1 2 rfl rfl).trans ((skip q1 u.isLt 0 2 rfl rfl).trans (low q2 z2 rfl))
  have e1 : bitsAt w 0 4 = 11 := low q0 z0 rfl
  have n0 : ¬ bitsAt w 0 7 = 0 := differs (part q0 z0 0 1 rfl (Nat.le_of_ble_eq_true rfl) rfl) 0 rfl (Nat.le_of_ble_eq_true rfl) (by decide)
  have n1 : ¬ bitsAt w 0 7 = 1 := differs (part q0 z0 1 1 rfl (Nat.le_of_ble_eq_true rfl) rfl) 1 rfl (Nat.le_of_ble_eq_true rfl) (by decide)
  have n2 : ¬ bitsAt w 0 7 = 2 := differs (part q0 z0 0 1 rfl (Nat.le_of_ble_eq_true rfl) rfl) 0 rfl (Nat.le_of_ble_eq_true rfl) (by decide)
  have n3 : ¬ bitsAt w 0 7 = 4 := differs (part q0 z0 0 1 rfl (Nat.le_of_ble_eq_true rfl) rfl) 0 rfl (Nat.le_of_ble_eq_true rfl) (by decide)
  have n4 : ¬ bitsAt w 0 7 = 5 := differs (part q0 z0 1 1 rfl (Nat.le_of_ble_eq_true rfl) rfl) 1 rfl (Nat.le_of_ble_eq_true rfl) (by decide)
  have n5 : ¬ bitsAt w 0 7 = 6 := differs (part q0 z0 0 1 rfl (Nat.le_of_ble_eq_true rfl) rfl) 0 rfl (Nat.le_of_ble_eq_true rfl) (by decide)
  have n6 : ¬ bitsAt w 0 7 = 7 := differs (part q0 z0 2 1 rfl (Nat.le_of_ble_eq_true rfl) rfl) 2 rfl (Nat.le_of_ble_eq_true rfl) (by decide)
  have n7 : ¬ bitsAt w 0 7 = 8 := differs (part q0 z0 0 1 rfl (Nat.le_of_ble_eq_true rfl) rfl) 0 rfl (Nat.le_of_ble_eq_true rfl) (by decide)
  have n8 : ¬ bitsAt w 0 7 = 10 := differs (part q0 z0 0 1 rfl (Nat.le_of_ble_eq_true rfl) rfl) 0 rfl (Nat.le_of_ble_eq_true rfl) (by decide)
  have f0 : fieldAt w 19 6 = d := fieldAt_eq ((skip q0 z0 15 6 rfl rfl).trans ((skip q1 u.isLt 14 6 rfl rfl).trans ((skip q2 z2 12 6 rfl rfl).trans ((skip q3 b.isLt 6 6 rfl rfl).trans ((skip q4 a.isLt 0 6 rfl rfl).trans (low q5 d.isLt rfl))))))
  have f1 : fieldAt w 13 6 = a := fieldAt_eq ((skip q0 z0 9 6 rfl rfl).trans ((skip q1 u.isLt 8 6 rfl rfl).trans ((skip q2 z2 6 6 rfl rfl).trans ((skip q3 b.isLt 0 6 rfl rfl).trans (low q4 a.isLt rfl)))))
  have f2 : fieldAt w 7 6 = b := fieldAt_eq ((skip q0 z0 3 6 rfl rfl).trans ((skip q1 u.isLt 2 6 rfl rfl).trans ((skip q2 z2 0 6 rfl rfl).trans (low q3 b.isLt rfl))))
  have f3 : fieldAt w 4 1 = u := fieldAt_eq ((skip q0 z0 0 1 rfl rfl).trans (low q1 u.isLt rfl))
  refine ⟨Nat.lt_of_lt_of_le (bound q0 z0 (bound q1 u.isLt (bound q2 z2 (bound q3 b.isLt (bound q4 a.isLt (bound q5 d.isLt (bound q6 z6 (Nat.lt_succ_of_le hk) rfl) rfl) rfl) rfl) rfl) rfl) rfl) (Nat.le_of_ble_eq_true rfl), (skip q0 z0 27 1 rfl rfl).trans ((skip q1 u.isLt 26 1 rfl rfl).trans ((skip q2 z2 24 1 rfl rfl).trans ((skip q3 b.isLt 18 1 rfl rfl).trans ((skip q4 a.isLt 12 1 rfl rfl).trans ((skip q5 d.isLt 6 1 rfl rfl).trans ((skip q6 z6 0 1 rfl rfl).trans (top hk))))))), ?_⟩
  rw [major01 w m0]
  simp [decodeMajor01, e0, e1, n0, n1, n2, n3, n4, n5, n6, n7, n8, f0, f1, f2, f3]

theorem smax (d : BitVec 6) (a : BitVec 6) (b : BitVec 6) (u : BitVec 1) : Statement (.smax d a b u) := by
  refine of_fields rfl ?_
  intro k hk w hw
  obtain ⟨r6, q6⟩ : ∃ r, r = 1 + 64 * k := ⟨_, rfl⟩
  obtain ⟨r5, q5⟩ : ∃ r, r = d.toNat + 64 * r6 := ⟨_, rfl⟩
  obtain ⟨r4, q4⟩ : ∃ r, r = a.toNat + 64 * r5 := ⟨_, rfl⟩
  obtain ⟨r3, q3⟩ : ∃ r, r = b.toNat + 64 * r4 := ⟨_, rfl⟩
  obtain ⟨r2, q2⟩ : ∃ r, r = 0 + 4 * r3 := ⟨_, rfl⟩
  obtain ⟨r1, q1⟩ : ∃ r, r = u.toNat + 2 * r2 := ⟨_, rfl⟩
  have q0 : w = 12 + 16 * r1 := by simp only [assemble] at hw; omega
  have z0 : 12 < 2 ^ 4 := Nat.le_of_ble_eq_true rfl
  have z2 : 0 < 2 ^ 2 := Nat.le_of_ble_eq_true rfl
  have z6 : 1 < 2 ^ 6 := Nat.le_of_ble_eq_true rfl
  have m0 : bitsAt w 25 6 = 1 := (skip q0 z0 21 6 rfl rfl).trans ((skip q1 u.isLt 20 6 rfl rfl).trans ((skip q2 z2 18 6 rfl rfl).trans ((skip q3 b.isLt 12 6 rfl rfl).trans ((skip q4 a.isLt 6 6 rfl rfl).trans ((skip q5 d.isLt 0 6 rfl rfl).trans (low q6 z6 rfl))))))
  have e0 : bitsAt w 5 2 = 0 := (skip q0 z0 1 2 rfl rfl).trans ((skip q1 u.isLt 0 2 rfl rfl).trans (low q2 z2 rfl))
  have e1 : bitsAt w 0 4 = 12 := low q0 z0 rfl
  have n0 : ¬ bitsAt w 0 7 = 0 := differs (part q0 z0 2 1 rfl (Nat.le_of_ble_eq_true rfl) rfl) 2 rfl (Nat.le_of_ble_eq_true rfl) (by decide)
  have n1 : ¬ bitsAt w 0 7 = 1 := differs (part q0 z0 0 1 rfl (Nat.le_of_ble_eq_true rfl) rfl) 0 rfl (Nat.le_of_ble_eq_true rfl) (by decide)
  have n2 : ¬ bitsAt w 0 7 = 2 := differs (part q0 z0 1 1 rfl (Nat.le_of_ble_eq_true rfl) rfl) 1 rfl (Nat.le_of_ble_eq_true rfl) (by decide)
  have n3 : ¬ bitsAt w 0 7 = 4 := differs (part q0 z0 3 1 rfl (Nat.le_of_ble_eq_true rfl) rfl) 3 rfl (Nat.le_of_ble_eq_true rfl) (by decide)
  have n4 : ¬ bitsAt w 0 7 = 5 := differs (part q0 z0 0 1 rfl (Nat.le_of_ble_eq_true rfl) rfl) 0 rfl (Nat.le_of_ble_eq_true rfl) (by decide)
  have n5 : ¬ bitsAt w 0 7 = 6 := differs (part q0 z0 1 1 rfl (Nat.le_of_ble_eq_true rfl) rfl) 1 rfl (Nat.le_of_ble_eq_true rfl) (by decide)
  have n6 : ¬ bitsAt w 0 7 = 7 := differs (part q0 z0 0 1 rfl (Nat.le_of_ble_eq_true rfl) rfl) 0 rfl (Nat.le_of_ble_eq_true rfl) (by decide)
  have n7 : ¬ bitsAt w 0 7 = 8 := differs (part q0 z0 2 1 rfl (Nat.le_of_ble_eq_true rfl) rfl) 2 rfl (Nat.le_of_ble_eq_true rfl) (by decide)
  have n8 : ¬ bitsAt w 0 7 = 10 := differs (part q0 z0 1 1 rfl (Nat.le_of_ble_eq_true rfl) rfl) 1 rfl (Nat.le_of_ble_eq_true rfl) (by decide)
  have f0 : fieldAt w 19 6 = d := fieldAt_eq ((skip q0 z0 15 6 rfl rfl).trans ((skip q1 u.isLt 14 6 rfl rfl).trans ((skip q2 z2 12 6 rfl rfl).trans ((skip q3 b.isLt 6 6 rfl rfl).trans ((skip q4 a.isLt 0 6 rfl rfl).trans (low q5 d.isLt rfl))))))
  have f1 : fieldAt w 13 6 = a := fieldAt_eq ((skip q0 z0 9 6 rfl rfl).trans ((skip q1 u.isLt 8 6 rfl rfl).trans ((skip q2 z2 6 6 rfl rfl).trans ((skip q3 b.isLt 0 6 rfl rfl).trans (low q4 a.isLt rfl)))))
  have f2 : fieldAt w 7 6 = b := fieldAt_eq ((skip q0 z0 3 6 rfl rfl).trans ((skip q1 u.isLt 2 6 rfl rfl).trans ((skip q2 z2 0 6 rfl rfl).trans (low q3 b.isLt rfl))))
  have f3 : fieldAt w 4 1 = u := fieldAt_eq ((skip q0 z0 0 1 rfl rfl).trans (low q1 u.isLt rfl))
  refine ⟨Nat.lt_of_lt_of_le (bound q0 z0 (bound q1 u.isLt (bound q2 z2 (bound q3 b.isLt (bound q4 a.isLt (bound q5 d.isLt (bound q6 z6 (Nat.lt_succ_of_le hk) rfl) rfl) rfl) rfl) rfl) rfl) rfl) (Nat.le_of_ble_eq_true rfl), (skip q0 z0 27 1 rfl rfl).trans ((skip q1 u.isLt 26 1 rfl rfl).trans ((skip q2 z2 24 1 rfl rfl).trans ((skip q3 b.isLt 18 1 rfl rfl).trans ((skip q4 a.isLt 12 1 rfl rfl).trans ((skip q5 d.isLt 6 1 rfl rfl).trans ((skip q6 z6 0 1 rfl rfl).trans (top hk))))))), ?_⟩
  rw [major01 w m0]
  simp [decodeMajor01, e0, e1, n0, n1, n2, n3, n4, n5, n6, n7, n8, f0, f1, f2, f3]

theorem ssel (d : BitVec 6) (a : BitVec 6) (b : BitVec 6) : Statement (.ssel d a b) := by
  refine of_fields rfl ?_
  intro k hk w hw
  obtain ⟨r4, q4⟩ : ∃ r, r = 1 + 64 * k := ⟨_, rfl⟩
  obtain ⟨r3, q3⟩ : ∃ r, r = d.toNat + 64 * r4 := ⟨_, rfl⟩
  obtain ⟨r2, q2⟩ : ∃ r, r = a.toNat + 64 * r3 := ⟨_, rfl⟩
  obtain ⟨r1, q1⟩ : ∃ r, r = b.toNat + 64 * r2 := ⟨_, rfl⟩
  have q0 : w = 13 + 128 * r1 := by simp only [assemble] at hw; omega
  have z0 : 13 < 2 ^ 7 := Nat.le_of_ble_eq_true rfl
  have z4 : 1 < 2 ^ 6 := Nat.le_of_ble_eq_true rfl
  have m0 : bitsAt w 25 6 = 1 := (skip q0 z0 18 6 rfl rfl).trans ((skip q1 b.isLt 12 6 rfl rfl).trans ((skip q2 a.isLt 6 6 rfl rfl).trans ((skip q3 d.isLt 0 6 rfl rfl).trans (low q4 z4 rfl))))
  have e0 : bitsAt w 0 7 = 13 := low q0 z0 rfl
  have e1 : bitsAt w 5 2 = 0 := part q0 z0 5 2 rfl (Nat.le_of_ble_eq_true rfl) rfl
  have e2 : bitsAt w 0 4 = 13 := part q0 z0 0 4 rfl (Nat.le_of_ble_eq_true rfl) rfl
  have f0 : fieldAt w 19 6 = d := fieldAt_eq ((skip q0 z0 12 6 rfl rfl).trans ((skip q1 b.isLt 6 6 rfl rfl).trans ((skip q2 a.isLt 0 6 rfl rfl).trans (low q3 d.isLt rfl))))
  have f1 : fieldAt w 13 6 = a := fieldAt_eq ((skip q0 z0 6 6 rfl rfl).trans ((skip q1 b.isLt 0 6 rfl rfl).trans (low q2 a.isLt rfl)))
  have f2 : fieldAt w 7 6 = b := fieldAt_eq ((skip q0 z0 0 6 rfl rfl).trans (low q1 b.isLt rfl))
  refine ⟨Nat.lt_of_lt_of_le (bound q0 z0 (bound q1 b.isLt (bound q2 a.isLt (bound q3 d.isLt (bound q4 z4 (Nat.lt_succ_of_le hk) rfl) rfl) rfl) rfl) rfl) (Nat.le_of_ble_eq_true rfl), (skip q0 z0 24 1 rfl rfl).trans ((skip q1 b.isLt 18 1 rfl rfl).trans ((skip q2 a.isLt 12 1 rfl rfl).trans ((skip q3 d.isLt 6 1 rfl rfl).trans ((skip q4 z4 0 1 rfl rfl).trans (top hk))))), ?_⟩
  rw [major01 w m0]
  simp [decodeMajor01, e0, e1, e2, f0, f1, f2]

theorem scmp (d : BitVec 6) (a : BitVec 6) (b : BitVec 6) (kk : BitVec 3) : Statement (.scmp d a b kk) := by
  refine of_fields rfl ?_
  intro k hk w hw
  obtain ⟨r5, q5⟩ : ∃ r, r = 1 + 64 * k := ⟨_, rfl⟩
  obtain ⟨r4, q4⟩ : ∃ r, r = d.toNat + 64 * r5 := ⟨_, rfl⟩
  obtain ⟨r3, q3⟩ : ∃ r, r = a.toNat + 64 * r4 := ⟨_, rfl⟩
  obtain ⟨r2, q2⟩ : ∃ r, r = b.toNat + 64 * r3 := ⟨_, rfl⟩
  obtain ⟨r1, q1⟩ : ∃ r, r = kk.toNat + 8 * r2 := ⟨_, rfl⟩
  have q0 : w = 14 + 16 * r1 := by simp only [assemble] at hw; omega
  have z0 : 14 < 2 ^ 4 := Nat.le_of_ble_eq_true rfl
  have z5 : 1 < 2 ^ 6 := Nat.le_of_ble_eq_true rfl
  have m0 : bitsAt w 25 6 = 1 := (skip q0 z0 21 6 rfl rfl).trans ((skip q1 kk.isLt 18 6 rfl rfl).trans ((skip q2 b.isLt 12 6 rfl rfl).trans ((skip q3 a.isLt 6 6 rfl rfl).trans ((skip q4 d.isLt 0 6 rfl rfl).trans (low q5 z5 rfl)))))
  have e0 : bitsAt w 0 4 = 14 := low q0 z0 rfl
  have n0 : ¬ bitsAt w 0 7 = 0 := differs (part q0 z0 1 1 rfl (Nat.le_of_ble_eq_true rfl) rfl) 1 rfl (Nat.le_of_ble_eq_true rfl) (by decide)
  have n1 : ¬ bitsAt w 0 7 = 1 := differs (part q0 z0 0 1 rfl (Nat.le_of_ble_eq_true rfl) rfl) 0 rfl (Nat.le_of_ble_eq_true rfl) (by decide)
  have n2 : ¬ bitsAt w 0 7 = 2 := differs (part q0 z0 2 1 rfl (Nat.le_of_ble_eq_true rfl) rfl) 2 rfl (Nat.le_of_ble_eq_true rfl) (by decide)
  have n3 : ¬ bitsAt w 0 7 = 4 := differs (part q0 z0 1 1 rfl (Nat.le_of_ble_eq_true rfl) rfl) 1 rfl (Nat.le_of_ble_eq_true rfl) (by decide)
  have n4 : ¬ bitsAt w 0 7 = 5 := differs (part q0 z0 0 1 rfl (Nat.le_of_ble_eq_true rfl) rfl) 0 rfl (Nat.le_of_ble_eq_true rfl) (by decide)
  have n5 : ¬ bitsAt w 0 7 = 6 := differs (part q0 z0 3 1 rfl (Nat.le_of_ble_eq_true rfl) rfl) 3 rfl (Nat.le_of_ble_eq_true rfl) (by decide)
  have n6 : ¬ bitsAt w 0 7 = 7 := differs (part q0 z0 0 1 rfl (Nat.le_of_ble_eq_true rfl) rfl) 0 rfl (Nat.le_of_ble_eq_true rfl) (by decide)
  have n7 : ¬ bitsAt w 0 7 = 8 := differs (part q0 z0 1 1 rfl (Nat.le_of_ble_eq_true rfl) rfl) 1 rfl (Nat.le_of_ble_eq_true rfl) (by decide)
  have n8 : ¬ bitsAt w 0 7 = 10 := differs (part q0 z0 2 1 rfl (Nat.le_of_ble_eq_true rfl) rfl) 2 rfl (Nat.le_of_ble_eq_true rfl) (by decide)
  have n9 : ¬ bitsAt w 0 7 = 13 := differs (part q0 z0 0 1 rfl (Nat.le_of_ble_eq_true rfl) rfl) 0 rfl (Nat.le_of_ble_eq_true rfl) (by decide)
  have f0 : fieldAt w 19 6 = d := fieldAt_eq ((skip q0 z0 15 6 rfl rfl).trans ((skip q1 kk.isLt 12 6 rfl rfl).trans ((skip q2 b.isLt 6 6 rfl rfl).trans ((skip q3 a.isLt 0 6 rfl rfl).trans (low q4 d.isLt rfl)))))
  have f1 : fieldAt w 13 6 = a := fieldAt_eq ((skip q0 z0 9 6 rfl rfl).trans ((skip q1 kk.isLt 6 6 rfl rfl).trans ((skip q2 b.isLt 0 6 rfl rfl).trans (low q3 a.isLt rfl))))
  have f2 : fieldAt w 7 6 = b := fieldAt_eq ((skip q0 z0 3 6 rfl rfl).trans ((skip q1 kk.isLt 0 6 rfl rfl).trans (low q2 b.isLt rfl)))
  have f3 : fieldAt w 4 3 = kk := fieldAt_eq ((skip q0 z0 0 3 rfl rfl).trans (low q1 kk.isLt rfl))
  refine ⟨Nat.lt_of_lt_of_le (bound q0 z0 (bound q1 kk.isLt (bound q2 b.isLt (bound q3 a.isLt (bound q4 d.isLt (bound q5 z5 (Nat.lt_succ_of_le hk) rfl) rfl) rfl) rfl) rfl) rfl) (Nat.le_of_ble_eq_true rfl), (skip q0 z0 27 1 rfl rfl).trans ((skip q1 kk.isLt 24 1 rfl rfl).trans ((skip q2 b.isLt 18 1 rfl rfl).trans ((skip q3 a.isLt 12 1 rfl rfl).trans ((skip q4 d.isLt 6 1 rfl rfl).trans ((skip q5 z5 0 1 rfl rfl).trans (top hk)))))), ?_⟩
  rw [major01 w m0]
  simp [decodeMajor01, e0, n0, n1, n2, n3, n4, n5, n6, n7, n8, n9, f0, f1, f2, f3]

theorem sdiv (d : BitVec 6) (a : BitVec 6) (b : BitVec 6) (u : BitVec 1) (v : BitVec 1) : Statement (.sdiv d a b u v) := by
  refine of_fields rfl ?_
  intro k hk w hw
  obtain ⟨r7, q7⟩ : ∃ r, r = 1 + 64 * k := ⟨_, rfl⟩
  obtain ⟨r6, q6⟩ : ∃ r, r = d.toNat + 64 * r7 := ⟨_, rfl⟩
  obtain ⟨r5, q5⟩ : ∃ r, r = a.toNat + 64 * r6 := ⟨_, rfl⟩
  obtain ⟨r4, q4⟩ : ∃ r, r = b.toNat + 64 * r5 := ⟨_, rfl⟩
  obtain ⟨r3, q3⟩ : ∃ r, r = 0 + 2 * r4 := ⟨_, rfl⟩
  obtain ⟨r2, q2⟩ : ∃ r, r = u.toNat + 2 * r3 := ⟨_, rfl⟩
  obtain ⟨r1, q1⟩ : ∃ r, r = v.toNat + 2 * r2 := ⟨_, rfl⟩
  have q0 : w = 15 + 16 * r1 := by simp only [assemble] at hw; omega
  have z0 : 15 < 2 ^ 4 := Nat.le_of_ble_eq_true rfl
  have z3 : 0 < 2 ^ 1 := Nat.le_of_ble_eq_true rfl
  have z7 : 1 < 2 ^ 6 := Nat.le_of_ble_eq_true rfl
  have m0 : bitsAt w 25 6 = 1 := (skip q0 z0 21 6 rfl rfl).trans ((skip q1 v.isLt 20 6 rfl rfl).trans ((skip q2 u.isLt 19 6 rfl rfl).trans ((skip q3 z3 18 6 rfl rfl).trans ((skip q4 b.isLt 12 6 rfl rfl).trans ((skip q5 a.isLt 6 6 rfl rfl).trans ((skip q6 d.isLt 0 6 rfl rfl).trans (low q7 z7 rfl)))))))
  have e0 : bitsAt w 0 4 = 15 := low q0 z0 rfl
  have e1 : bitsAt w 6 1 = 0 := (skip q0 z0 2 1 rfl rfl).trans ((skip q1 v.isLt 1 1 rfl rfl).trans ((skip q2 u.isLt 0 1 rfl rfl).trans (low q3 z3 rfl)))
  have n0 : ¬ bitsAt w 0 7 = 0 := differs (part q0 z0 0 1 rfl (Nat.le_of_ble_eq_true rfl) rfl) 0 rfl (Nat.le_of_ble_eq_true rfl) (by decide)
  have n1 : ¬ bitsAt w 0 7 = 1 := differs (part q0 z0 1 1 rfl (Nat.le_of_ble_eq_true rfl) rfl) 1 rfl (Nat.le_of_ble_eq_true rfl) (by decide)
  have n2 : ¬ bitsAt w 0 7 = 2 := differs (part q0 z0 0 1 rfl (Nat.le_of_ble_eq_true rfl) rfl) 0 rfl (Nat.le_of_ble_eq_true rfl) (by decide)
  have n3 : ¬ bitsAt w 0 7 = 4 := differs (part q0 z0 0 1 rfl (Nat.le_of_ble_eq_true rfl) rfl) 0 rfl (Nat.le_of_ble_eq_true rfl) (by decide)
  have n4 : ¬ bitsAt w 0 7 = 5 := differs (part q0 z0 1 1 rfl (Nat.le_of_ble_eq_true rfl) rfl) 1 rfl (Nat.le_of_ble_eq_true rfl) (by decide)
  have n5 : ¬ bitsAt w 0 7 = 6 := differs (part q0 z0 0 1 rfl (Nat.le_of_ble_eq_true rfl) rfl) 0 rfl (Nat.le_of_ble_eq_true rfl) (by decide)
  have n6 : ¬ bitsAt w 0 7 = 7 := differs (part q0 z0 3 1 rfl (Nat.le_of_ble_eq_true rfl) rfl) 3 rfl (Nat.le_of_ble_eq_true rfl) (by decide)
  have n7 : ¬ bitsAt w 0 7 = 8 := differs (part q0 z0 0 1 rfl (Nat.le_of_ble_eq_true rfl) rfl) 0 rfl (Nat.le_of_ble_eq_true rfl) (by decide)
  have n8 : ¬ bitsAt w 0 7 = 10 := differs (part q0 z0 0 1 rfl (Nat.le_of_ble_eq_true rfl) rfl) 0 rfl (Nat.le_of_ble_eq_true rfl) (by decide)
  have n9 : ¬ bitsAt w 0 7 = 13 := differs (part q0 z0 1 1 rfl (Nat.le_of_ble_eq_true rfl) rfl) 1 rfl (Nat.le_of_ble_eq_true rfl) (by decide)
  have f0 : fieldAt w 19 6 = d := fieldAt_eq ((skip q0 z0 15 6 rfl rfl).trans ((skip q1 v.isLt 14 6 rfl rfl).trans ((skip q2 u.isLt 13 6 rfl rfl).trans ((skip q3 z3 12 6 rfl rfl).trans ((skip q4 b.isLt 6 6 rfl rfl).trans ((skip q5 a.isLt 0 6 rfl rfl).trans (low q6 d.isLt rfl)))))))
  have f1 : fieldAt w 13 6 = a := fieldAt_eq ((skip q0 z0 9 6 rfl rfl).trans ((skip q1 v.isLt 8 6 rfl rfl).trans ((skip q2 u.isLt 7 6 rfl rfl).trans ((skip q3 z3 6 6 rfl rfl).trans ((skip q4 b.isLt 0 6 rfl rfl).trans (low q5 a.isLt rfl))))))
  have f2 : fieldAt w 7 6 = b := fieldAt_eq ((skip q0 z0 3 6 rfl rfl).trans ((skip q1 v.isLt 2 6 rfl rfl).trans ((skip q2 u.isLt 1 6 rfl rfl).trans ((skip q3 z3 0 6 rfl rfl).trans (low q4 b.isLt rfl)))))
  have f3 : fieldAt w 5 1 = u := fieldAt_eq ((skip q0 z0 1 1 rfl rfl).trans ((skip q1 v.isLt 0 1 rfl rfl).trans (low q2 u.isLt rfl)))
  have f4 : fieldAt w 4 1 = v := fieldAt_eq ((skip q0 z0 0 1 rfl rfl).trans (low q1 v.isLt rfl))
  refine ⟨Nat.lt_of_lt_of_le (bound q0 z0 (bound q1 v.isLt (bound q2 u.isLt (bound q3 z3 (bound q4 b.isLt (bound q5 a.isLt (bound q6 d.isLt (bound q7 z7 (Nat.lt_succ_of_le hk) rfl) rfl) rfl) rfl) rfl) rfl) rfl) rfl) (Nat.le_of_ble_eq_true rfl), (skip q0 z0 27 1 rfl rfl).trans ((skip q1 v.isLt 26 1 rfl rfl).trans ((skip q2 u.isLt 25 1 rfl rfl).trans ((skip q3 z3 24 1 rfl rfl).trans ((skip q4 b.isLt 18 1 rfl rfl).trans ((skip q5 a.isLt 12 1 rfl rfl).trans ((skip q6 d.isLt 6 1 rfl rfl).trans ((skip q7 z7 0 1 rfl rfl).trans (top hk)))))))), ?_⟩
  rw [major01 w m0]
  simp [decodeMajor01, e0, e1, n0, n1, n2, n3, n4, n5, n6, n7, n8, n9, f0, f1, f2, f3, f4]

theorem sbfx (d : BitVec 6) (a : BitVec 6) (b : BitVec 6) (u : BitVec 1) : Statement (.sbfx d a b u) := by
  refine of_fields rfl ?_
  intro k hk w hw
  obtain ⟨r6, q6⟩ : ∃ r, r = 2 + 64 * k := ⟨_, rfl⟩
  obtain ⟨r5, q5⟩ : ∃ r, r = d.toNat + 64 * r6 := ⟨_, rfl⟩
  obtain ⟨r4, q4⟩ : ∃ r, r = a.toNat + 64 * r5 := ⟨_, rfl⟩
  obtain ⟨r3, q3⟩ : ∃ r, r = b.toNat + 64 * r4 := ⟨_, rfl⟩
  obtain ⟨r2, q2⟩ : ∃ r, r = 0 + 4 * r3 := ⟨_, rfl⟩
  obtain ⟨r1, q1⟩ : ∃ r, r = u.toNat + 2 * r2 := ⟨_, rfl⟩
  have q0 : w = 0 + 16 * r1 := by simp only [assemble] at hw; omega
  have z0 : 0 < 2 ^ 4 := Nat.le_of_ble_eq_true rfl
  have z2 : 0 < 2 ^ 2 := Nat.le_of_ble_eq_true rfl
  have z6 : 2 < 2 ^ 6 := Nat.le_of_ble_eq_true rfl
  have m0 : bitsAt w 25 6 = 2 := (skip q0 z0 21 6 rfl rfl).trans ((skip q1 u.isLt 20 6 rfl rfl).trans ((skip q2 z2 18 6 rfl rfl).trans ((skip q3 b.isLt 12 6 rfl rfl).trans ((skip q4 a.isLt 6 6 rfl rfl).trans ((skip q5 d.isLt 0 6 rfl rfl).trans (low q6 z6 rfl))))))
  have e0 : bitsAt w 5 2 = 0 := (skip q0 z0 1 2 rfl rfl).trans ((skip q1 u.isLt 0 2 rfl rfl).trans (low q2 z2 rfl))
  have e1 : bitsAt w 0 4 = 0 := low q0 z0 rfl
  have f0 : fieldAt w 19 6 = d := fieldAt_eq ((skip q0 z0 15 6 rfl rfl).trans ((skip q1 u.isLt 14 6 rfl rfl).trans ((skip q2 z2 12 6 rfl rfl).trans ((skip q3 b.isLt 6 6 rfl rfl).trans ((skip q4 a.isLt 0 6 rfl rfl).trans (low q5 d.isLt rfl))))))
  have f1 : fieldAt w 13 6 = a := fieldAt_eq ((skip q0 z0 9 6 rfl rfl).trans ((skip q1 u.isLt 8 6 rfl rfl).trans ((skip q2 z2 6 6 rfl rfl).trans ((skip q3 b.isLt 0 6 rfl rfl).trans (low q4 a.isLt rfl)))))
  have f2 : fieldAt w 7 6 = b := fieldAt_eq ((skip q0 z0 3 6 rfl rfl).trans ((skip q1 u.isLt 2 6 rfl rfl).trans ((skip q2 z2 0 6 rfl rfl).trans (low q3 b.isLt rfl))))
  have f3 : fieldAt w 4 1 = u := fieldAt_eq ((skip q0 z0 0 1 rfl rfl).trans (low q1 u.isLt rfl))
  refine ⟨Nat.lt_of_lt_of_le (bound q0 z0 (bound q1 u.isLt (bound q2 z2 (bound q3 b.isLt (bound q4 a.isLt (bound q5 d.isLt (bound q6 z6 (Nat.lt_succ_of_le hk) rfl) rfl) rfl) rfl) rfl) rfl) rfl) (Nat.le_of_ble_eq_true rfl), (skip q0 z0 27 1 rfl rfl).trans ((skip q1 u.isLt 26 1 rfl rfl).trans ((skip q2 z2 24 1 rfl rfl).trans ((skip q3 b.isLt 18 1 rfl rfl).trans ((skip q4 a.isLt 12 1 rfl rfl).trans ((skip q5 d.isLt 6 1 rfl rfl).trans ((skip q6 z6 0 1 rfl rfl).trans (top hk))))))), ?_⟩
  rw [major02 w m0]
  simp [decodeMajor02, e0, e1, f0, f1, f2, f3]

theorem sbfi (d : BitVec 6) (a : BitVec 6) (b : BitVec 6) : Statement (.sbfi d a b) := by
  refine of_fields rfl ?_
  intro k hk w hw
  obtain ⟨r4, q4⟩ : ∃ r, r = 2 + 64 * k := ⟨_, rfl⟩
  obtain ⟨r3, q3⟩ : ∃ r, r = d.toNat + 64 * r4 := ⟨_, rfl⟩
  obtain ⟨r2, q2⟩ : ∃ r, r = a.toNat + 64 * r3 := ⟨_, rfl⟩
  obtain ⟨r1, q1⟩ : ∃ r, r = b.toNat + 64 * r2 := ⟨_, rfl⟩
  have q0 : w = 1 + 128 * r1 := by simp only [assemble] at hw; omega
  have z0 : 1 < 2 ^ 7 := Nat.le_of_ble_eq_true rfl
  have z4 : 2 < 2 ^ 6 := Nat.le_of_ble_eq_true rfl
  have m0 : bitsAt w 25 6 = 2 := (skip q0 z0 18 6 rfl rfl).trans ((skip q1 b.isLt 12 6 rfl rfl).trans ((skip q2 a.isLt 6 6 rfl rfl).trans ((skip q3 d.isLt 0 6 rfl rfl).trans (low q4 z4 rfl))))
  have e0 : bitsAt w 5 2 = 0 := part q0 z0 5 2 rfl (Nat.le_of_ble_eq_true rfl) rfl
  have e1 : bitsAt w 0 4 = 1 := part q0 z0 0 4 rfl (Nat.le_of_ble_eq_true rfl) rfl
  have e2 : bitsAt w 0 7 = 1 := low q0 z0 rfl
  have f0 : fieldAt w 19 6 = d := fieldAt_eq ((skip q0 z0 12 6 rfl rfl).trans ((skip q1 b.isLt 6 6 rfl rfl).trans ((skip q2 a.isLt 0 6 rfl rfl).trans (low q3 d.isLt rfl))))
  have f1 : fieldAt w 13 6 = a := fieldAt_eq ((skip q0 z0 6 6 rfl rfl).trans ((skip q1 b.isLt 0 6 rfl rfl).trans (low q2 a.isLt rfl)))
  have f2 : fieldAt w 7 6 = b := fieldAt_eq ((skip q0 z0 0 6 rfl rfl).trans (low q1 b.isLt rfl))
  refine ⟨Nat.lt_of_lt_of_le (bound q0 z0 (bound q1 b.isLt (bound q2 a.isLt (bound q3 d.isLt (bound q4 z4 (Nat.lt_succ_of_le hk) rfl) rfl) rfl) rfl) rfl) (Nat.le_of_ble_eq_true rfl), (skip q0 z0 24 1 rfl rfl).trans ((skip q1 b.isLt 18 1 rfl rfl).trans ((skip q2 a.isLt 12 1 rfl rfl).trans ((skip q3 d.isLt 6 1 rfl rfl).trans ((skip q4 z4 0 1 rfl rfl).trans (top hk))))), ?_⟩
  rw [major02 w m0]
  simp [decodeMajor02, e0, e1, e2, f0, f1, f2]

theorem sclz (d : BitVec 6) (a : BitVec 6) : Statement (.sclz d a) := by
  refine of_fields rfl ?_
  intro k hk w hw
  obtain ⟨r3, q3⟩ : ∃ r, r = 2 + 64 * k := ⟨_, rfl⟩
  obtain ⟨r2, q2⟩ : ∃ r, r = d.toNat + 64 * r3 := ⟨_, rfl⟩
  obtain ⟨r1, q1⟩ : ∃ r, r = a.toNat + 64 * r2 := ⟨_, rfl⟩
  have q0 : w = 2 + 8192 * r1 := by simp only [assemble] at hw; omega
  have z0 : 2 < 2 ^ 13 := Nat.le_of_ble_eq_true rfl
  have z3 : 2 < 2 ^ 6 := Nat.le_of_ble_eq_true rfl
  have m0 : bitsAt w 25 6 = 2 := (skip q0 z0 12 6 rfl rfl).trans ((skip q1 a.isLt 6 6 rfl rfl).trans ((skip q2 d.isLt 0 6 rfl rfl).trans (low q3 z3 rfl)))
  have e0 : bitsAt w 5 2 = 0 := part q0 z0 5 2 rfl (Nat.le_of_ble_eq_true rfl) rfl
  have e1 : bitsAt w 0 4 = 2 := part q0 z0 0 4 rfl (Nat.le_of_ble_eq_true rfl) rfl
  have e2 : bitsAt w 0 7 = 2 := part q0 z0 0 7 rfl (Nat.le_of_ble_eq_true rfl) rfl
  have e3 : bitsAt w 0 13 = 2 := low q0 z0 rfl
  have f0 : fieldAt w 19 6 = d := fieldAt_eq ((skip q0 z0 6 6 rfl rfl).trans ((skip q1 a.isLt 0 6 rfl rfl).trans (low q2 d.isLt rfl)))
  have f1 : fieldAt w 13 6 = a := fieldAt_eq ((skip q0 z0 0 6 rfl rfl).trans (low q1 a.isLt rfl))
  refine ⟨Nat.lt_of_lt_of_le (bound q0 z0 (bound q1 a.isLt (bound q2 d.isLt (bound q3 z3 (Nat.lt_succ_of_le hk) rfl) rfl) rfl) rfl) (Nat.le_of_ble_eq_true rfl), (skip q0 z0 18 1 rfl rfl).trans ((skip q1 a.isLt 12 1 rfl rfl).trans ((skip q2 d.isLt 6 1 rfl rfl).trans ((skip q3 z3 0 1 rfl rfl).trans (top hk)))), ?_⟩
  rw [major02 w m0]
  simp [decodeMajor02, e0, e1, e2, e3, f0, f1]

theorem spopc (d : BitVec 6) (a : BitVec 6) : Statement (.spopc d a) := by
  refine of_fields rfl ?_
  intro k hk w hw
  obtain ⟨r3, q3⟩ : ∃ r, r = 2 + 64 * k := ⟨_, rfl⟩
  obtain ⟨r2, q2⟩ : ∃ r, r = d.toNat + 64 * r3 := ⟨_, rfl⟩
  obtain ⟨r1, q1⟩ : ∃ r, r = a.toNat + 64 * r2 := ⟨_, rfl⟩
  have q0 : w = 3 + 8192 * r1 := by simp only [assemble] at hw; omega
  have z0 : 3 < 2 ^ 13 := Nat.le_of_ble_eq_true rfl
  have z3 : 2 < 2 ^ 6 := Nat.le_of_ble_eq_true rfl
  have m0 : bitsAt w 25 6 = 2 := (skip q0 z0 12 6 rfl rfl).trans ((skip q1 a.isLt 6 6 rfl rfl).trans ((skip q2 d.isLt 0 6 rfl rfl).trans (low q3 z3 rfl)))
  have e0 : bitsAt w 5 2 = 0 := part q0 z0 5 2 rfl (Nat.le_of_ble_eq_true rfl) rfl
  have e1 : bitsAt w 0 4 = 3 := part q0 z0 0 4 rfl (Nat.le_of_ble_eq_true rfl) rfl
  have e2 : bitsAt w 0 7 = 3 := part q0 z0 0 7 rfl (Nat.le_of_ble_eq_true rfl) rfl
  have e3 : bitsAt w 0 13 = 3 := low q0 z0 rfl
  have f0 : fieldAt w 19 6 = d := fieldAt_eq ((skip q0 z0 6 6 rfl rfl).trans ((skip q1 a.isLt 0 6 rfl rfl).trans (low q2 d.isLt rfl)))
  have f1 : fieldAt w 13 6 = a := fieldAt_eq ((skip q0 z0 0 6 rfl rfl).trans (low q1 a.isLt rfl))
  refine ⟨Nat.lt_of_lt_of_le (bound q0 z0 (bound q1 a.isLt (bound q2 d.isLt (bound q3 z3 (Nat.lt_succ_of_le hk) rfl) rfl) rfl) rfl) (Nat.le_of_ble_eq_true rfl), (skip q0 z0 18 1 rfl rfl).trans ((skip q1 a.isLt 12 1 rfl rfl).trans ((skip q2 d.isLt 6 1 rfl rfl).trans ((skip q3 z3 0 1 rfl rfl).trans (top hk)))), ?_⟩
  rw [major02 w m0]
  simp [decodeMajor02, e0, e1, e2, e3, f0, f1]

theorem smov (d : BitVec 6) (a : BitVec 6) : Statement (.smov d a) := by
  refine of_fields rfl ?_
  intro k hk w hw
  obtain ⟨r3, q3⟩ : ∃ r, r = 2 + 64 * k := ⟨_, rfl⟩
  obtain ⟨r2, q2⟩ : ∃ r, r = d.toNat + 64 * r3 := ⟨_, rfl⟩
  obtain ⟨r1, q1⟩ : ∃ r, r = a.toNat + 64 * r2 := ⟨_, rfl⟩
  have q0 : w = 4 + 8192 * r1 := by simp only [assemble] at hw; omega
  have z0 : 4 < 2 ^ 13 := Nat.le_of_ble_eq_true rfl
  have z3 : 2 < 2 ^ 6 := Nat.le_of_ble_eq_true rfl
  have m0 : bitsAt w 25 6 = 2 := (skip q0 z0 12 6 rfl rfl).trans ((skip q1 a.isLt 6 6 rfl rfl).trans ((skip q2 d.isLt 0 6 rfl rfl).trans (low q3 z3 rfl)))
  have e0 : bitsAt w 5 2 = 0 := part q0 z0 5 2 rfl (Nat.le_of_ble_eq_true rfl) rfl
  have e1 : bitsAt w 0 4 = 4 := part q0 z0 0 4 rfl (Nat.le_of_ble_eq_true rfl) rfl
  have e2 : bitsAt w 0 7 = 4 := part q0 z0 0 7 rfl (Nat.le_of_ble_eq_true rfl) rfl
  have e3 : bitsAt w 0 13 = 4 := low q0 z0 rfl
  have f0 : fieldAt w 19 6 = d := fieldAt_eq ((skip q0 z0 6 6 rfl rfl).trans ((skip q1 a.isLt 0 6 rfl rfl).trans (low q2 d.isLt rfl)))
  have f1 : fieldAt w 13 6 = a := fieldAt_eq ((skip q0 z0 0 6 rfl rfl).trans (low q1 a.isLt rfl))
  refine ⟨Nat.lt_of_lt_of_le (bound q0 z0 (bound q1 a.isLt (bound q2 d.isLt (bound q3 z3 (Nat.lt_succ_of_le hk) rfl) rfl) rfl) rfl) (Nat.le_of_ble_eq_true rfl), (skip q0 z0 18 1 rfl rfl).trans ((skip q1 a.isLt 12 1 rfl rfl).trans ((skip q2 d.isLt 6 1 rfl rfl).trans ((skip q3 z3 0 1 rfl rfl).trans (top hk)))), ?_⟩
  rw [major02 w m0]
  simp [decodeMajor02, e0, e1, e2, e3, f0, f1]

theorem sxget (d : BitVec 6) (a : BitVec 6) : Statement (.sxget d a) := by
  refine of_fields rfl ?_
  intro k hk w hw
  obtain ⟨r3, q3⟩ : ∃ r, r = 2 + 64 * k := ⟨_, rfl⟩
  obtain ⟨r2, q2⟩ : ∃ r, r = d.toNat + 64 * r3 := ⟨_, rfl⟩
  obtain ⟨r1, q1⟩ : ∃ r, r = a.toNat + 64 * r2 := ⟨_, rfl⟩
  have q0 : w = 5 + 8192 * r1 := by simp only [assemble] at hw; omega
  have z0 : 5 < 2 ^ 13 := Nat.le_of_ble_eq_true rfl
  have z3 : 2 < 2 ^ 6 := Nat.le_of_ble_eq_true rfl
  have m0 : bitsAt w 25 6 = 2 := (skip q0 z0 12 6 rfl rfl).trans ((skip q1 a.isLt 6 6 rfl rfl).trans ((skip q2 d.isLt 0 6 rfl rfl).trans (low q3 z3 rfl)))
  have e0 : bitsAt w 5 2 = 0 := part q0 z0 5 2 rfl (Nat.le_of_ble_eq_true rfl) rfl
  have e1 : bitsAt w 0 4 = 5 := part q0 z0 0 4 rfl (Nat.le_of_ble_eq_true rfl) rfl
  have e2 : bitsAt w 0 7 = 5 := part q0 z0 0 7 rfl (Nat.le_of_ble_eq_true rfl) rfl
  have e3 : bitsAt w 0 13 = 5 := low q0 z0 rfl
  have f0 : fieldAt w 19 6 = d := fieldAt_eq ((skip q0 z0 6 6 rfl rfl).trans ((skip q1 a.isLt 0 6 rfl rfl).trans (low q2 d.isLt rfl)))
  have f1 : fieldAt w 13 6 = a := fieldAt_eq ((skip q0 z0 0 6 rfl rfl).trans (low q1 a.isLt rfl))
  refine ⟨Nat.lt_of_lt_of_le (bound q0 z0 (bound q1 a.isLt (bound q2 d.isLt (bound q3 z3 (Nat.lt_succ_of_le hk) rfl) rfl) rfl) rfl) (Nat.le_of_ble_eq_true rfl), (skip q0 z0 18 1 rfl rfl).trans ((skip q1 a.isLt 12 1 rfl rfl).trans ((skip q2 d.isLt 6 1 rfl rfl).trans ((skip q3 z3 0 1 rfl rfl).trans (top hk)))), ?_⟩
  rw [major02 w m0]
  simp [decodeMajor02, e0, e1, e2, e3, f0, f1]

theorem sxset (a : BitVec 6) (b : BitVec 6) : Statement (.sxset a b) := by
  refine of_fields rfl ?_
  intro k hk w hw
  obtain ⟨r3, q3⟩ : ∃ r, r = 128 + 4096 * k := ⟨_, rfl⟩
  obtain ⟨r2, q2⟩ : ∃ r, r = a.toNat + 64 * r3 := ⟨_, rfl⟩
  obtain ⟨r1, q1⟩ : ∃ r, r = b.toNat + 64 * r2 := ⟨_, rfl⟩
  have q0 : w = 6 + 128 * r1 := by simp only [assemble] at hw; omega
  have z0 : 6 < 2 ^ 7 := Nat.le_of_ble_eq_true rfl
  have z3 : 128 < 2 ^ 12 := Nat.le_of_ble_eq_true rfl
  have m0 : bitsAt w 25 6 = 2 := (skip q0 z0 18 6 rfl rfl).trans ((skip q1 b.isLt 12 6 rfl rfl).trans ((skip q2 a.isLt 6 6 rfl rfl).trans (part q3 z3 6 6 rfl (Nat.le_of_ble_eq_true rfl) rfl)))
  have e0 : bitsAt w 5 2 = 0 := part q0 z0 5 2 rfl (Nat.le_of_ble_eq_true rfl) rfl
  have e1 : bitsAt w 0 4 = 6 := part q0 z0 0 4 rfl (Nat.le_of_ble_eq_true rfl) rfl
  have e2 : bitsAt w 0 7 = 6 := low q0 z0 rfl
  have e3 : bitsAt w 19 6 = 0 := (skip q0 z0 12 6 rfl rfl).trans ((skip q1 b.isLt 6 6 rfl rfl).trans ((skip q2 a.isLt 0 6 rfl rfl).trans (part q3 z3 0 6 rfl (Nat.le_of_ble_eq_true rfl) rfl)))
  have n0 : ¬ bitsAt w 0 13 = 2 := differs (part q0 z0 2 1 rfl (Nat.le_of_ble_eq_true rfl) rfl) 2 rfl (Nat.le_of_ble_eq_true rfl) (by decide)
  have n1 : ¬ bitsAt w 0 13 = 3 := differs (part q0 z0 0 1 rfl (Nat.le_of_ble_eq_true rfl) rfl) 0 rfl (Nat.le_of_ble_eq_true rfl) (by decide)
  have n2 : ¬ bitsAt w 0 13 = 4 := differs (part q0 z0 1 1 rfl (Nat.le_of_ble_eq_true rfl) rfl) 1 rfl (Nat.le_of_ble_eq_true rfl) (by decide)
  have n3 : ¬ bitsAt w 0 13 = 5 := differs (part q0 z0 0 1 rfl (Nat.le_of_ble_eq_true rfl) rfl) 0 rfl (Nat.le_of_ble_eq_true rfl) (by decide)
  have f0 : fieldAt w 13 6 = a := fieldAt_eq ((skip q0 z0 6 6 rfl rfl).trans ((skip q1 b.isLt 0 6 rfl rfl).trans (low q2 a.isLt rfl)))
  have f1 : fieldAt w 7 6 = b := fieldAt_eq ((skip q0 z0 0 6 rfl rfl).trans (low q1 b.isLt rfl))
  refine ⟨Nat.lt_of_lt_of_le (bound q0 z0 (bound q1 b.isLt (bound q2 a.isLt (bound q3 z3 (Nat.lt_succ_of_le hk) rfl) rfl) rfl) rfl) (Nat.le_of_ble_eq_true rfl), (skip q0 z0 24 1 rfl rfl).trans ((skip q1 b.isLt 18 1 rfl rfl).trans ((skip q2 a.isLt 12 1 rfl rfl).trans ((skip q3 z3 0 1 rfl rfl).trans (top hk)))), ?_⟩
  rw [major02 w m0]
  simp [decodeMajor02, e0, e1, e2, e3, n0, n1, n2, n3, f0, f1]

theorem maskp (d : BitVec 6) (p : BitVec 3) : Statement (.maskp d p) := by
  refine of_fields rfl ?_
  intro k hk w hw
  obtain ⟨r4, q4⟩ : ∃ r, r = 2 + 64 * k := ⟨_, rfl⟩
  obtain ⟨r3, q3⟩ : ∃ r, r = d.toNat + 64 * r4 := ⟨_, rfl⟩
  obtain ⟨r2, q2⟩ : ∃ r, r = 0 + 8 * r3 := ⟨_, rfl⟩
  obtain ⟨r1, q1⟩ : ∃ r, r = p.toNat + 8 * r2 := ⟨_, rfl⟩
  have q0 : w = 7 + 8192 * r1 := by simp only [assemble] at hw; omega
  have z0 : 7 < 2 ^ 13 := Nat.le_of_ble_eq_true rfl
  have z2 : 0 < 2 ^ 3 := Nat.le_of_ble_eq_true rfl
  have z4 : 2 < 2 ^ 6 := Nat.le_of_ble_eq_true rfl
  have m0 : bitsAt w 25 6 = 2 := (skip q0 z0 12 6 rfl rfl).trans ((skip q1 p.isLt 9 6 rfl rfl).trans ((skip q2 z2 6 6 rfl rfl).trans ((skip q3 d.isLt 0 6 rfl rfl).trans (low q4 z4 rfl))))
  have e0 : bitsAt w 5 2 = 0 := part q0 z0 5 2 rfl (Nat.le_of_ble_eq_true rfl) rfl
  have e1 : bitsAt w 0 4 = 7 := part q0 z0 0 4 rfl (Nat.le_of_ble_eq_true rfl) rfl
  have e2 : bitsAt w 0 7 = 7 := part q0 z0 0 7 rfl (Nat.le_of_ble_eq_true rfl) rfl
  have e3 : bitsAt w 0 13 = 7 := low q0 z0 rfl
  have e4 : bitsAt w 16 3 = 0 := (skip q0 z0 3 3 rfl rfl).trans ((skip q1 p.isLt 0 3 rfl rfl).trans (low q2 z2 rfl))
  have f0 : fieldAt w 19 6 = d := fieldAt_eq ((skip q0 z0 6 6 rfl rfl).trans ((skip q1 p.isLt 3 6 rfl rfl).trans ((skip q2 z2 0 6 rfl rfl).trans (low q3 d.isLt rfl))))
  have f1 : fieldAt w 13 3 = p := fieldAt_eq ((skip q0 z0 0 3 rfl rfl).trans (low q1 p.isLt rfl))
  refine ⟨Nat.lt_of_lt_of_le (bound q0 z0 (bound q1 p.isLt (bound q2 z2 (bound q3 d.isLt (bound q4 z4 (Nat.lt_succ_of_le hk) rfl) rfl) rfl) rfl) rfl) (Nat.le_of_ble_eq_true rfl), (skip q0 z0 18 1 rfl rfl).trans ((skip q1 p.isLt 15 1 rfl rfl).trans ((skip q2 z2 12 1 rfl rfl).trans ((skip q3 d.isLt 6 1 rfl rfl).trans ((skip q4 z4 0 1 rfl rfl).trans (top hk))))), ?_⟩
  rw [major02 w m0]
  simp [decodeMajor02, e0, e1, e2, e3, e4, f0, f1]

theorem pmask (p : BitVec 3) (a : BitVec 6) : Statement (.pmask p a) := by
  refine of_fields rfl ?_
  intro k hk w hw
  obtain ⟨r3, q3⟩ : ∃ r, r = 16 + 512 * k := ⟨_, rfl⟩
  obtain ⟨r2, q2⟩ : ∃ r, r = p.toNat + 8 * r3 := ⟨_, rfl⟩
  obtain ⟨r1, q1⟩ : ∃ r, r = a.toNat + 64 * r2 := ⟨_, rfl⟩
  have q0 : w = 8 + 8192 * r1 := by simp only [assemble] at hw; omega
  have z0 : 8 < 2 ^ 13 := Nat.le_of_ble_eq_true rfl
  have z3 : 16 < 2 ^ 9 := Nat.le_of_ble_eq_true rfl
  have m0 : bitsAt w 25 6 = 2 := (skip q0 z0 12 6 rfl rfl).trans ((skip q1 a.isLt 6 6 rfl rfl).trans ((skip q2 p.isLt 3 6 rfl rfl).trans (part q3 z3 3 6 rfl (Nat.le_of_ble_eq_true rfl) rfl)))
  have e0 : bitsAt w 5 2 = 0 := part q0 z0 5 2 rfl (Nat.le_of_ble_eq_true rfl) rfl
  have e1 : bitsAt w 0 4 = 8 := part q0 z0 0 4 rfl (Nat.le_of_ble_eq_true rfl) rfl
  have e2 : bitsAt w 0 7 = 8 := part q0 z0 0 7 rfl (Nat.le_of_ble_eq_true rfl) rfl
  have e3 : bitsAt w 0 13 = 8 := low q0 z0 rfl
  have e4 : bitsAt w 22 3 = 0 := (skip q0 z0 9 3 rfl rfl).trans ((skip q1 a.isLt 3 3 rfl rfl).trans ((skip q2 p.isLt 0 3 rfl rfl).trans (part q3 z3 0 3 rfl (Nat.le_of_ble_eq_true rfl) rfl)))
  have f0 : fieldAt w 19 3 = p := fieldAt_eq ((skip q0 z0 6 3 rfl rfl).trans ((skip q1 a.isLt 0 3 rfl rfl).trans (low q2 p.isLt rfl)))
  have f1 : fieldAt w 13 6 = a := fieldAt_eq ((skip q0 z0 0 6 rfl rfl).trans (low q1 a.isLt rfl))
  refine ⟨Nat.lt_of_lt_of_le (bound q0 z0 (bound q1 a.isLt (bound q2 p.isLt (bound q3 z3 (Nat.lt_succ_of_le hk) rfl) rfl) rfl) rfl) (Nat.le_of_ble_eq_true rfl), (skip q0 z0 18 1 rfl rfl).trans ((skip q1 a.isLt 12 1 rfl rfl).trans ((skip q2 p.isLt 9 1 rfl rfl).trans ((skip q3 z3 0 1 rfl rfl).trans (top hk)))), ?_⟩
  rw [major02 w m0]
  simp [decodeMajor02, e0, e1, e2, e3, e4, f0, f1]

theorem vote (d : BitVec 6) (p : BitVec 3) (u : BitVec 2) : Statement (.vote d p u) := by
  refine of_fields rfl ?_
  intro k hk w hw
  obtain ⟨r6, q6⟩ : ∃ r, r = 2 + 64 * k := ⟨_, rfl⟩
  obtain ⟨r5, q5⟩ : ∃ r, r = d.toNat + 64 * r6 := ⟨_, rfl⟩
  obtain ⟨r4, q4⟩ : ∃ r, r = 0 + 8 * r5 := ⟨_, rfl⟩
  obtain ⟨r3, q3⟩ : ∃ r, r = p.toNat + 8 * r4 := ⟨_, rfl⟩
  obtain ⟨r2, q2⟩ : ∃ r, r = 0 + 128 * r3 := ⟨_, rfl⟩
  obtain ⟨r1, q1⟩ : ∃ r, r = u.toNat + 4 * r2 := ⟨_, rfl⟩
  have q0 : w = 9 + 16 * r1 := by simp only [assemble] at hw; omega
  have z0 : 9 < 2 ^ 4 := Nat.le_of_ble_eq_true rfl
  have z2 : 0 < 2 ^ 7 := Nat.le_of_ble_eq_true rfl
  have z4 : 0 < 2 ^ 3 := Nat.le_of_ble_eq_true rfl
  have z6 : 2 < 2 ^ 6 := Nat.le_of_ble_eq_true rfl
  have m0 : bitsAt w 25 6 = 2 := (skip q0 z0 21 6 rfl rfl).trans ((skip q1 u.isLt 19 6 rfl rfl).trans ((skip q2 z2 12 6 rfl rfl).trans ((skip q3 p.isLt 9 6 rfl rfl).trans ((skip q4 z4 6 6 rfl rfl).trans ((skip q5 d.isLt 0 6 rfl rfl).trans (low q6 z6 rfl))))))
  have e0 : bitsAt w 0 4 = 9 := low q0 z0 rfl
  have e1 : bitsAt w 16 3 = 0 := (skip q0 z0 12 3 rfl rfl).trans ((skip q1 u.isLt 10 3 rfl rfl).trans ((skip q2 z2 3 3 rfl rfl).trans ((skip q3 p.isLt 0 3 rfl rfl).trans (low q4 z4 rfl))))
  have e2 : bitsAt w 6 7 = 0 := (skip q0 z0 2 7 rfl rfl).trans ((skip q1 u.isLt 0 7 rfl rfl).trans (low q2 z2 rfl))
  have n0 : ¬ bitsAt w 0 7 = 1 := differs (part q0 z0 3 1 rfl (Nat.le_of_ble_eq_true rfl) rfl) 3 rfl (Nat.le_of_ble_eq_true rfl) (by decide)
  have n1 : ¬ bitsAt w 0 13 = 2 := differs (part q0 z0 0 1 rfl (Nat.le_of_ble_eq_true rfl) rfl) 0 rfl (Nat.le_of_ble_eq_true rfl) (by decide)
  have n2 : ¬ bitsAt w 0 13 = 3 := differs (part q0 z0 1 1 rfl (Nat.le_of_ble_eq_true rfl) rfl) 1 rfl (Nat.le_of_ble_eq_true rfl) (by decide)
  have n3 : ¬ bitsAt w 0 13 = 4 := differs (part q0 z0 0 1 rfl (Nat.le_of_ble_eq_true rfl) rfl) 0 rfl (Nat.le_of_ble_eq_true rfl) (by decide)
  have n4 : ¬ bitsAt w 0 13 = 5 := differs (part q0 z0 2 1 rfl (Nat.le_of_ble_eq_true rfl) rfl) 2 rfl (Nat.le_of_ble_eq_true rfl) (by decide)
  have n5 : ¬ bitsAt w 0 7 = 6 := differs (part q0 z0 0 1 rfl (Nat.le_of_ble_eq_true rfl) rfl) 0 rfl (Nat.le_of_ble_eq_true rfl) (by decide)
  have n6 : ¬ bitsAt w 0 13 = 7 := differs (part q0 z0 1 1 rfl (Nat.le_of_ble_eq_true rfl) rfl) 1 rfl (Nat.le_of_ble_eq_true rfl) (by decide)
  have n7 : ¬ bitsAt w 0 13 = 8 := differs (part q0 z0 0 1 rfl (Nat.le_of_ble_eq_true rfl) rfl) 0 rfl (Nat.le_of_ble_eq_true rfl) (by decide)
  have f0 : fieldAt w 19 6 = d := fieldAt_eq ((skip q0 z0 15 6 rfl rfl).trans ((skip q1 u.isLt 13 6 rfl rfl).trans ((skip q2 z2 6 6 rfl rfl).trans ((skip q3 p.isLt 3 6 rfl rfl).trans ((skip q4 z4 0 6 rfl rfl).trans (low q5 d.isLt rfl))))))
  have f1 : fieldAt w 13 3 = p := fieldAt_eq ((skip q0 z0 9 3 rfl rfl).trans ((skip q1 u.isLt 7 3 rfl rfl).trans ((skip q2 z2 0 3 rfl rfl).trans (low q3 p.isLt rfl))))
  have f2 : fieldAt w 4 2 = u := fieldAt_eq ((skip q0 z0 0 2 rfl rfl).trans (low q1 u.isLt rfl))
  refine ⟨Nat.lt_of_lt_of_le (bound q0 z0 (bound q1 u.isLt (bound q2 z2 (bound q3 p.isLt (bound q4 z4 (bound q5 d.isLt (bound q6 z6 (Nat.lt_succ_of_le hk) rfl) rfl) rfl) rfl) rfl) rfl) rfl) (Nat.le_of_ble_eq_true rfl), (skip q0 z0 27 1 rfl rfl).trans ((skip q1 u.isLt 25 1 rfl rfl).trans ((skip q2 z2 18 1 rfl rfl).trans ((skip q3 p.isLt 15 1 rfl rfl).trans ((skip q4 z4 12 1 rfl rfl).trans ((skip q5 d.isLt 6 1 rfl rfl).trans ((skip q6 z6 0 1 rfl rfl).trans (top hk))))))), ?_⟩
  rw [major02 w m0]
  simp [decodeMajor02, e0, e1, e2, n0, n1, n2, n3, n4, n5, n6, n7, f0, f1, f2]

theorem saddImm (d : BitVec 6) (a : BitVec 6) (i : BitVec 13) : Statement (.saddImm d a i) := by
  refine of_fields rfl ?_
  intro k hk w hw
  obtain ⟨r3, q3⟩ : ∃ r, r = 3 + 64 * k := ⟨_, rfl⟩
  obtain ⟨r2, q2⟩ : ∃ r, r = d.toNat + 64 * r3 := ⟨_, rfl⟩
  obtain ⟨r1, q1⟩ : ∃ r, r = a.toNat + 64 * r2 := ⟨_, rfl⟩
  have q0 : w = i.toNat + 8192 * r1 := by simp only [assemble] at hw; omega
  have z3 : 3 < 2 ^ 6 := Nat.le_of_ble_eq_true rfl
  have m0 : bitsAt w 25 6 = 3 := (skip q0 i.isLt 12 6 rfl rfl).trans ((skip q1 a.isLt 6 6 rfl rfl).trans ((skip q2 d.isLt 0 6 rfl rfl).trans (low q3 z3 rfl)))
  have f0 : fieldAt w 19 6 = d := fieldAt_eq ((skip q0 i.isLt 6 6 rfl rfl).trans ((skip q1 a.isLt 0 6 rfl rfl).trans (low q2 d.isLt rfl)))
  have f1 : fieldAt w 13 6 = a := fieldAt_eq ((skip q0 i.isLt 0 6 rfl rfl).trans (low q1 a.isLt rfl))
  have f2 : fieldAt w 0 13 = i := fieldAt_eq (low q0 i.isLt rfl)
  refine ⟨Nat.lt_of_lt_of_le (bound q0 i.isLt (bound q1 a.isLt (bound q2 d.isLt (bound q3 z3 (Nat.lt_succ_of_le hk) rfl) rfl) rfl) rfl) (Nat.le_of_ble_eq_true rfl), (skip q0 i.isLt 18 1 rfl rfl).trans ((skip q1 a.isLt 12 1 rfl rfl).trans ((skip q2 d.isLt 6 1 rfl rfl).trans ((skip q3 z3 0 1 rfl rfl).trans (top hk)))), ?_⟩
  rw [major03 w m0]
  simp [decodeMajor03, f0, f1, f2]

theorem sandImm (d : BitVec 6) (a : BitVec 6) (i : BitVec 13) : Statement (.sandImm d a i) := by
  refine of_fields rfl ?_
  intro k hk w hw
  obtain ⟨r3, q3⟩ : ∃ r, r = 4 + 64 * k := ⟨_, rfl⟩
  obtain ⟨r2, q2⟩ : ∃ r, r = d.toNat + 64 * r3 := ⟨_, rfl⟩
  obtain ⟨r1, q1⟩ : ∃ r, r = a.toNat + 64 * r2 := ⟨_, rfl⟩
  have q0 : w = i.toNat + 8192 * r1 := by simp only [assemble] at hw; omega
  have z3 : 4 < 2 ^ 6 := Nat.le_of_ble_eq_true rfl
  have m0 : bitsAt w 25 6 = 4 := (skip q0 i.isLt 12 6 rfl rfl).trans ((skip q1 a.isLt 6 6 rfl rfl).trans ((skip q2 d.isLt 0 6 rfl rfl).trans (low q3 z3 rfl)))
  have f0 : fieldAt w 19 6 = d := fieldAt_eq ((skip q0 i.isLt 6 6 rfl rfl).trans ((skip q1 a.isLt 0 6 rfl rfl).trans (low q2 d.isLt rfl)))
  have f1 : fieldAt w 13 6 = a := fieldAt_eq ((skip q0 i.isLt 0 6 rfl rfl).trans (low q1 a.isLt rfl))
  have f2 : fieldAt w 0 13 = i := fieldAt_eq (low q0 i.isLt rfl)
  refine ⟨Nat.lt_of_lt_of_le (bound q0 i.isLt (bound q1 a.isLt (bound q2 d.isLt (bound q3 z3 (Nat.lt_succ_of_le hk) rfl) rfl) rfl) rfl) (Nat.le_of_ble_eq_true rfl), (skip q0 i.isLt 18 1 rfl rfl).trans ((skip q1 a.isLt 12 1 rfl rfl).trans ((skip q2 d.isLt 6 1 rfl rfl).trans ((skip q3 z3 0 1 rfl rfl).trans (top hk)))), ?_⟩
  rw [major04 w m0]
  simp [decodeMajor04, f0, f1, f2]

theorem sorImm (d : BitVec 6) (a : BitVec 6) (i : BitVec 13) : Statement (.sorImm d a i) := by
  refine of_fields rfl ?_
  intro k hk w hw
  obtain ⟨r3, q3⟩ : ∃ r, r = 5 + 64 * k := ⟨_, rfl⟩
  obtain ⟨r2, q2⟩ : ∃ r, r = d.toNat + 64 * r3 := ⟨_, rfl⟩
  obtain ⟨r1, q1⟩ : ∃ r, r = a.toNat + 64 * r2 := ⟨_, rfl⟩
  have q0 : w = i.toNat + 8192 * r1 := by simp only [assemble] at hw; omega
  have z3 : 5 < 2 ^ 6 := Nat.le_of_ble_eq_true rfl
  have m0 : bitsAt w 25 6 = 5 := (skip q0 i.isLt 12 6 rfl rfl).trans ((skip q1 a.isLt 6 6 rfl rfl).trans ((skip q2 d.isLt 0 6 rfl rfl).trans (low q3 z3 rfl)))
  have f0 : fieldAt w 19 6 = d := fieldAt_eq ((skip q0 i.isLt 6 6 rfl rfl).trans ((skip q1 a.isLt 0 6 rfl rfl).trans (low q2 d.isLt rfl)))
  have f1 : fieldAt w 13 6 = a := fieldAt_eq ((skip q0 i.isLt 0 6 rfl rfl).trans (low q1 a.isLt rfl))
  have f2 : fieldAt w 0 13 = i := fieldAt_eq (low q0 i.isLt rfl)
  refine ⟨Nat.lt_of_lt_of_le (bound q0 i.isLt (bound q1 a.isLt (bound q2 d.isLt (bound q3 z3 (Nat.lt_succ_of_le hk) rfl) rfl) rfl) rfl) (Nat.le_of_ble_eq_true rfl), (skip q0 i.isLt 18 1 rfl rfl).trans ((skip q1 a.isLt 12 1 rfl rfl).trans ((skip q2 d.isLt 6 1 rfl rfl).trans ((skip q3 z3 0 1 rfl rfl).trans (top hk)))), ?_⟩
  rw [major05 w m0]
  simp [decodeMajor05, f0, f1, f2]

theorem sxorImm (d : BitVec 6) (a : BitVec 6) (i : BitVec 13) : Statement (.sxorImm d a i) := by
  refine of_fields rfl ?_
  intro k hk w hw
  obtain ⟨r3, q3⟩ : ∃ r, r = 6 + 64 * k := ⟨_, rfl⟩
  obtain ⟨r2, q2⟩ : ∃ r, r = d.toNat + 64 * r3 := ⟨_, rfl⟩
  obtain ⟨r1, q1⟩ : ∃ r, r = a.toNat + 64 * r2 := ⟨_, rfl⟩
  have q0 : w = i.toNat + 8192 * r1 := by simp only [assemble] at hw; omega
  have z3 : 6 < 2 ^ 6 := Nat.le_of_ble_eq_true rfl
  have m0 : bitsAt w 25 6 = 6 := (skip q0 i.isLt 12 6 rfl rfl).trans ((skip q1 a.isLt 6 6 rfl rfl).trans ((skip q2 d.isLt 0 6 rfl rfl).trans (low q3 z3 rfl)))
  have f0 : fieldAt w 19 6 = d := fieldAt_eq ((skip q0 i.isLt 6 6 rfl rfl).trans ((skip q1 a.isLt 0 6 rfl rfl).trans (low q2 d.isLt rfl)))
  have f1 : fieldAt w 13 6 = a := fieldAt_eq ((skip q0 i.isLt 0 6 rfl rfl).trans (low q1 a.isLt rfl))
  have f2 : fieldAt w 0 13 = i := fieldAt_eq (low q0 i.isLt rfl)
  refine ⟨Nat.lt_of_lt_of_le (bound q0 i.isLt (bound q1 a.isLt (bound q2 d.isLt (bound q3 z3 (Nat.lt_succ_of_le hk) rfl) rfl) rfl) rfl) (Nat.le_of_ble_eq_true rfl), (skip q0 i.isLt 18 1 rfl rfl).trans ((skip q1 a.isLt 12 1 rfl rfl).trans ((skip q2 d.isLt 6 1 rfl rfl).trans ((skip q3 z3 0 1 rfl rfl).trans (top hk)))), ?_⟩
  rw [major06 w m0]
  simp [decodeMajor06, f0, f1, f2]

theorem sshlImm (d : BitVec 6) (a : BitVec 6) (nn : BitVec 6) : Statement (.sshlImm d a nn) := by
  refine of_fields rfl ?_
  intro k hk w hw
  obtain ⟨r4, q4⟩ : ∃ r, r = 7 + 64 * k := ⟨_, rfl⟩
  obtain ⟨r3, q3⟩ : ∃ r, r = d.toNat + 64 * r4 := ⟨_, rfl⟩
  obtain ⟨r2, q2⟩ : ∃ r, r = a.toNat + 64 * r3 := ⟨_, rfl⟩
  obtain ⟨r1, q1⟩ : ∃ r, r = 0 + 128 * r2 := ⟨_, rfl⟩
  have q0 : w = nn.toNat + 64 * r1 := by simp only [assemble] at hw; omega
  have z1 : 0 < 2 ^ 7 := Nat.le_of_ble_eq_true rfl
  have z4 : 7 < 2 ^ 6 := Nat.le_of_ble_eq_true rfl
  have m0 : bitsAt w 25 6 = 7 := (skip q0 nn.isLt 19 6 rfl rfl).trans ((skip q1 z1 12 6 rfl rfl).trans ((skip q2 a.isLt 6 6 rfl rfl).trans ((skip q3 d.isLt 0 6 rfl rfl).trans (low q4 z4 rfl))))
  have e0 : bitsAt w 6 7 = 0 := (skip q0 nn.isLt 0 7 rfl rfl).trans (low q1 z1 rfl)
  have f0 : fieldAt w 19 6 = d := fieldAt_eq ((skip q0 nn.isLt 13 6 rfl rfl).trans ((skip q1 z1 6 6 rfl rfl).trans ((skip q2 a.isLt 0 6 rfl rfl).trans (low q3 d.isLt rfl))))
  have f1 : fieldAt w 13 6 = a := fieldAt_eq ((skip q0 nn.isLt 7 6 rfl rfl).trans ((skip q1 z1 0 6 rfl rfl).trans (low q2 a.isLt rfl)))
  have f2 : fieldAt w 0 6 = nn := fieldAt_eq (low q0 nn.isLt rfl)
  refine ⟨Nat.lt_of_lt_of_le (bound q0 nn.isLt (bound q1 z1 (bound q2 a.isLt (bound q3 d.isLt (bound q4 z4 (Nat.lt_succ_of_le hk) rfl) rfl) rfl) rfl) rfl) (Nat.le_of_ble_eq_true rfl), (skip q0 nn.isLt 25 1 rfl rfl).trans ((skip q1 z1 18 1 rfl rfl).trans ((skip q2 a.isLt 12 1 rfl rfl).trans ((skip q3 d.isLt 6 1 rfl rfl).trans ((skip q4 z4 0 1 rfl rfl).trans (top hk))))), ?_⟩
  rw [major07 w m0]
  simp [decodeMajor07, e0, f0, f1, f2]

theorem sshrImm (d : BitVec 6) (a : BitVec 6) (nn : BitVec 6) : Statement (.sshrImm d a nn) := by
  refine of_fields rfl ?_
  intro k hk w hw
  obtain ⟨r4, q4⟩ : ∃ r, r = 7 + 64 * k := ⟨_, rfl⟩
  obtain ⟨r3, q3⟩ : ∃ r, r = d.toNat + 64 * r4 := ⟨_, rfl⟩
  obtain ⟨r2, q2⟩ : ∃ r, r = a.toNat + 64 * r3 := ⟨_, rfl⟩
  obtain ⟨r1, q1⟩ : ∃ r, r = 32 + 128 * r2 := ⟨_, rfl⟩
  have q0 : w = nn.toNat + 64 * r1 := by simp only [assemble] at hw; omega
  have z1 : 32 < 2 ^ 7 := Nat.le_of_ble_eq_true rfl
  have z4 : 7 < 2 ^ 6 := Nat.le_of_ble_eq_true rfl
  have m0 : bitsAt w 25 6 = 7 := (skip q0 nn.isLt 19 6 rfl rfl).trans ((skip q1 z1 12 6 rfl rfl).trans ((skip q2 a.isLt 6 6 rfl rfl).trans ((skip q3 d.isLt 0 6 rfl rfl).trans (low q4 z4 rfl))))
  have e0 : bitsAt w 6 7 = 32 := (skip q0 nn.isLt 0 7 rfl rfl).trans (low q1 z1 rfl)
  have f0 : fieldAt w 19 6 = d := fieldAt_eq ((skip q0 nn.isLt 13 6 rfl rfl).trans ((skip q1 z1 6 6 rfl rfl).trans ((skip q2 a.isLt 0 6 rfl rfl).trans (low q3 d.isLt rfl))))
  have f1 : fieldAt w 13 6 = a := fieldAt_eq ((skip q0 nn.isLt 7 6 rfl rfl).trans ((skip q1 z1 0 6 rfl rfl).trans (low q2 a.isLt rfl)))
  have f2 : fieldAt w 0 6 = nn := fieldAt_eq (low q0 nn.isLt rfl)
  refine ⟨Nat.lt_of_lt_of_le (bound q0 nn.isLt (bound q1 z1 (bound q2 a.isLt (bound q3 d.isLt (bound q4 z4 (Nat.lt_succ_of_le hk) rfl) rfl) rfl) rfl) rfl) (Nat.le_of_ble_eq_true rfl), (skip q0 nn.isLt 25 1 rfl rfl).trans ((skip q1 z1 18 1 rfl rfl).trans ((skip q2 a.isLt 12 1 rfl rfl).trans ((skip q3 d.isLt 6 1 rfl rfl).trans ((skip q4 z4 0 1 rfl rfl).trans (top hk))))), ?_⟩
  rw [major07 w m0]
  simp [decodeMajor07, e0, f0, f1, f2]

theorem ssraImm (d : BitVec 6) (a : BitVec 6) (nn : BitVec 6) : Statement (.ssraImm d a nn) := by
  refine of_fields rfl ?_
  intro k hk w hw
  obtain ⟨r4, q4⟩ : ∃ r, r = 7 + 64 * k := ⟨_, rfl⟩
  obtain ⟨r3, q3⟩ : ∃ r, r = d.toNat + 64 * r4 := ⟨_, rfl⟩
  obtain ⟨r2, q2⟩ : ∃ r, r = a.toNat + 64 * r3 := ⟨_, rfl⟩
  obtain ⟨r1, q1⟩ : ∃ r, r = 64 + 128 * r2 := ⟨_, rfl⟩
  have q0 : w = nn.toNat + 64 * r1 := by simp only [assemble] at hw; omega
  have z1 : 64 < 2 ^ 7 := Nat.le_of_ble_eq_true rfl
  have z4 : 7 < 2 ^ 6 := Nat.le_of_ble_eq_true rfl
  have m0 : bitsAt w 25 6 = 7 := (skip q0 nn.isLt 19 6 rfl rfl).trans ((skip q1 z1 12 6 rfl rfl).trans ((skip q2 a.isLt 6 6 rfl rfl).trans ((skip q3 d.isLt 0 6 rfl rfl).trans (low q4 z4 rfl))))
  have e0 : bitsAt w 6 7 = 64 := (skip q0 nn.isLt 0 7 rfl rfl).trans (low q1 z1 rfl)
  have f0 : fieldAt w 19 6 = d := fieldAt_eq ((skip q0 nn.isLt 13 6 rfl rfl).trans ((skip q1 z1 6 6 rfl rfl).trans ((skip q2 a.isLt 0 6 rfl rfl).trans (low q3 d.isLt rfl))))
  have f1 : fieldAt w 13 6 = a := fieldAt_eq ((skip q0 nn.isLt 7 6 rfl rfl).trans ((skip q1 z1 0 6 rfl rfl).trans (low q2 a.isLt rfl)))
  have f2 : fieldAt w 0 6 = nn := fieldAt_eq (low q0 nn.isLt rfl)
  refine ⟨Nat.lt_of_lt_of_le (bound q0 nn.isLt (bound q1 z1 (bound q2 a.isLt (bound q3 d.isLt (bound q4 z4 (Nat.lt_succ_of_le hk) rfl) rfl) rfl) rfl) rfl) (Nat.le_of_ble_eq_true rfl), (skip q0 nn.isLt 25 1 rfl rfl).trans ((skip q1 z1 18 1 rfl rfl).trans ((skip q2 a.isLt 12 1 rfl rfl).trans ((skip q3 d.isLt 6 1 rfl rfl).trans ((skip q4 z4 0 1 rfl rfl).trans (top hk))))), ?_⟩
  rw [major07 w m0]
  simp [decodeMajor07, e0, f0, f1, f2]

theorem scmpImm (d : BitVec 6) (a : BitVec 6) (kk : BitVec 3) (i : BitVec 10) : Statement (.scmpImm d a kk i) := by
  refine of_fields rfl ?_
  intro k hk w hw
  obtain ⟨r4, q4⟩ : ∃ r, r = 8 + 64 * k := ⟨_, rfl⟩
  obtain ⟨r3, q3⟩ : ∃ r, r = d.toNat + 64 * r4 := ⟨_, rfl⟩
  obtain ⟨r2, q2⟩ : ∃ r, r = a.toNat + 64 * r3 := ⟨_, rfl⟩
  obtain ⟨r1, q1⟩ : ∃ r, r = kk.toNat + 8 * r2 := ⟨_, rfl⟩
  have q0 : w = i.toNat + 1024 * r1 := by simp only [assemble] at hw; omega
  have z4 : 8 < 2 ^ 6 := Nat.le_of_ble_eq_true rfl
  have m0 : bitsAt w 25 6 = 8 := (skip q0 i.isLt 15 6 rfl rfl).trans ((skip q1 kk.isLt 12 6 rfl rfl).trans ((skip q2 a.isLt 6 6 rfl rfl).trans ((skip q3 d.isLt 0 6 rfl rfl).trans (low q4 z4 rfl))))
  have f0 : fieldAt w 19 6 = d := fieldAt_eq ((skip q0 i.isLt 9 6 rfl rfl).trans ((skip q1 kk.isLt 6 6 rfl rfl).trans ((skip q2 a.isLt 0 6 rfl rfl).trans (low q3 d.isLt rfl))))
  have f1 : fieldAt w 13 6 = a := fieldAt_eq ((skip q0 i.isLt 3 6 rfl rfl).trans ((skip q1 kk.isLt 0 6 rfl rfl).trans (low q2 a.isLt rfl)))
  have f2 : fieldAt w 10 3 = kk := fieldAt_eq ((skip q0 i.isLt 0 3 rfl rfl).trans (low q1 kk.isLt rfl))
  have f3 : fieldAt w 0 10 = i := fieldAt_eq (low q0 i.isLt rfl)
  refine ⟨Nat.lt_of_lt_of_le (bound q0 i.isLt (bound q1 kk.isLt (bound q2 a.isLt (bound q3 d.isLt (bound q4 z4 (Nat.lt_succ_of_le hk) rfl) rfl) rfl) rfl) rfl) (Nat.le_of_ble_eq_true rfl), (skip q0 i.isLt 21 1 rfl rfl).trans ((skip q1 kk.isLt 18 1 rfl rfl).trans ((skip q2 a.isLt 12 1 rfl rfl).trans ((skip q3 d.isLt 6 1 rfl rfl).trans ((skip q4 z4 0 1 rfl rfl).trans (top hk))))), ?_⟩
  rw [major08 w m0]
  simp [decodeMajor08, f0, f1, f2, f3]

theorem smovi (d : BitVec 6) (i : BitVec 19) : Statement (.smovi d i) := by
  refine of_fields rfl ?_
  intro k hk w hw
  obtain ⟨r2, q2⟩ : ∃ r, r = 9 + 64 * k := ⟨_, rfl⟩
  obtain ⟨r1, q1⟩ : ∃ r, r = d.toNat + 64 * r2 := ⟨_, rfl⟩
  have q0 : w = i.toNat + 524288 * r1 := by simp only [assemble] at hw; omega
  have z2 : 9 < 2 ^ 6 := Nat.le_of_ble_eq_true rfl
  have m0 : bitsAt w 25 6 = 9 := (skip q0 i.isLt 6 6 rfl rfl).trans ((skip q1 d.isLt 0 6 rfl rfl).trans (low q2 z2 rfl))
  have f0 : fieldAt w 19 6 = d := fieldAt_eq ((skip q0 i.isLt 0 6 rfl rfl).trans (low q1 d.isLt rfl))
  have f1 : fieldAt w 0 19 = i := fieldAt_eq (low q0 i.isLt rfl)
  refine ⟨Nat.lt_of_lt_of_le (bound q0 i.isLt (bound q1 d.isLt (bound q2 z2 (Nat.lt_succ_of_le hk) rfl) rfl) rfl) (Nat.le_of_ble_eq_true rfl), (skip q0 i.isLt 12 1 rfl rfl).trans ((skip q1 d.isLt 6 1 rfl rfl).trans ((skip q2 z2 0 1 rfl rfl).trans (top hk))), ?_⟩
  rw [major09 w m0]
  simp [decodeMajor09, f0, f1]

theorem slih (d : BitVec 6) (i : BitVec 13) : Statement (.slih d i) := by
  refine of_fields rfl ?_
  intro k hk w hw
  obtain ⟨r3, q3⟩ : ∃ r, r = 10 + 64 * k := ⟨_, rfl⟩
  obtain ⟨r2, q2⟩ : ∃ r, r = d.toNat + 64 * r3 := ⟨_, rfl⟩
  obtain ⟨r1, q1⟩ : ∃ r, r = 0 + 64 * r2 := ⟨_, rfl⟩
  have q0 : w = i.toNat + 8192 * r1 := by simp only [assemble] at hw; omega
  have z1 : 0 < 2 ^ 6 := Nat.le_of_ble_eq_true rfl
  have z3 : 10 < 2 ^ 6 := Nat.le_of_ble_eq_true rfl
  have m0 : bitsAt w 25 6 = 10 := (skip q0 i.isLt 12 6 rfl rfl).trans ((skip q1 z1 6 6 rfl rfl).trans ((skip q2 d.isLt 0 6 rfl rfl).trans (low q3 z3 rfl)))
  have e0 : bitsAt w 13 6 = 0 := (skip q0 i.isLt 0 6 rfl rfl).trans (low q1 z1 rfl)
  have f0 : fieldAt w 19 6 = d := fieldAt_eq ((skip q0 i.isLt 6 6 rfl rfl).trans ((skip q1 z1 0 6 rfl rfl).trans (low q2 d.isLt rfl)))
  have f1 : fieldAt w 0 13 = i := fieldAt_eq (low q0 i.isLt rfl)
  refine ⟨Nat.lt_of_lt_of_le (bound q0 i.isLt (bound q1 z1 (bound q2 d.isLt (bound q3 z3 (Nat.lt_succ_of_le hk) rfl) rfl) rfl) rfl) (Nat.le_of_ble_eq_true rfl), (skip q0 i.isLt 18 1 rfl rfl).trans ((skip q1 z1 12 1 rfl rfl).trans ((skip q2 d.isLt 6 1 rfl rfl).trans ((skip q3 z3 0 1 rfl rfl).trans (top hk)))), ?_⟩
  rw [major0A w m0]
  simp [decodeMajor0A, e0, f0, f1]

theorem lds (d : BitVec 6) (a : BitVec 6) (i : BitVec 13) : Statement (.lds d a i) := by
  refine of_fields rfl ?_
  intro k hk w hw
  obtain ⟨r3, q3⟩ : ∃ r, r = 11 + 64 * k := ⟨_, rfl⟩
  obtain ⟨r2, q2⟩ : ∃ r, r = d.toNat + 64 * r3 := ⟨_, rfl⟩
  obtain ⟨r1, q1⟩ : ∃ r, r = a.toNat + 64 * r2 := ⟨_, rfl⟩
  have q0 : w = i.toNat + 8192 * r1 := by simp only [assemble] at hw; omega
  have z3 : 11 < 2 ^ 6 := Nat.le_of_ble_eq_true rfl
  have m0 : bitsAt w 25 6 = 11 := (skip q0 i.isLt 12 6 rfl rfl).trans ((skip q1 a.isLt 6 6 rfl rfl).trans ((skip q2 d.isLt 0 6 rfl rfl).trans (low q3 z3 rfl)))
  have f0 : fieldAt w 19 6 = d := fieldAt_eq ((skip q0 i.isLt 6 6 rfl rfl).trans ((skip q1 a.isLt 0 6 rfl rfl).trans (low q2 d.isLt rfl)))
  have f1 : fieldAt w 13 6 = a := fieldAt_eq ((skip q0 i.isLt 0 6 rfl rfl).trans (low q1 a.isLt rfl))
  have f2 : fieldAt w 0 13 = i := fieldAt_eq (low q0 i.isLt rfl)
  refine ⟨Nat.lt_of_lt_of_le (bound q0 i.isLt (bound q1 a.isLt (bound q2 d.isLt (bound q3 z3 (Nat.lt_succ_of_le hk) rfl) rfl) rfl) rfl) (Nat.le_of_ble_eq_true rfl), (skip q0 i.isLt 18 1 rfl rfl).trans ((skip q1 a.isLt 12 1 rfl rfl).trans ((skip q2 d.isLt 6 1 rfl rfl).trans ((skip q3 z3 0 1 rfl rfl).trans (top hk)))), ?_⟩
  rw [major0B w m0]
  simp [decodeMajor0B, f0, f1, f2]

theorem sts (d : BitVec 6) (a : BitVec 6) (i : BitVec 13) : Statement (.sts d a i) := by
  refine of_fields rfl ?_
  intro k hk w hw
  obtain ⟨r3, q3⟩ : ∃ r, r = 12 + 64 * k := ⟨_, rfl⟩
  obtain ⟨r2, q2⟩ : ∃ r, r = d.toNat + 64 * r3 := ⟨_, rfl⟩
  obtain ⟨r1, q1⟩ : ∃ r, r = a.toNat + 64 * r2 := ⟨_, rfl⟩
  have q0 : w = i.toNat + 8192 * r1 := by simp only [assemble] at hw; omega
  have z3 : 12 < 2 ^ 6 := Nat.le_of_ble_eq_true rfl
  have m0 : bitsAt w 25 6 = 12 := (skip q0 i.isLt 12 6 rfl rfl).trans ((skip q1 a.isLt 6 6 rfl rfl).trans ((skip q2 d.isLt 0 6 rfl rfl).trans (low q3 z3 rfl)))
  have f0 : fieldAt w 19 6 = d := fieldAt_eq ((skip q0 i.isLt 6 6 rfl rfl).trans ((skip q1 a.isLt 0 6 rfl rfl).trans (low q2 d.isLt rfl)))
  have f1 : fieldAt w 13 6 = a := fieldAt_eq ((skip q0 i.isLt 0 6 rfl rfl).trans (low q1 a.isLt rfl))
  have f2 : fieldAt w 0 13 = i := fieldAt_eq (low q0 i.isLt rfl)
  refine ⟨Nat.lt_of_lt_of_le (bound q0 i.isLt (bound q1 a.isLt (bound q2 d.isLt (bound q3 z3 (Nat.lt_succ_of_le hk) rfl) rfl) rfl) rfl) (Nat.le_of_ble_eq_true rfl), (skip q0 i.isLt 18 1 rfl rfl).trans ((skip q1 a.isLt 12 1 rfl rfl).trans ((skip q2 d.isLt 6 1 rfl rfl).trans ((skip q3 z3 0 1 rfl rfl).trans (top hk)))), ?_⟩
  rw [major0C w m0]
  simp [decodeMajor0C, f0, f1, f2]

theorem ldacq (d : BitVec 6) (a : BitVec 6) (s : BitVec 3) (ww : BitVec 10) : Statement (.ldacq d a s ww) := by
  refine of_fields rfl ?_
  intro k hk w hw
  obtain ⟨r4, q4⟩ : ∃ r, r = 13 + 64 * k := ⟨_, rfl⟩
  obtain ⟨r3, q3⟩ : ∃ r, r = d.toNat + 64 * r4 := ⟨_, rfl⟩
  obtain ⟨r2, q2⟩ : ∃ r, r = a.toNat + 64 * r3 := ⟨_, rfl⟩
  obtain ⟨r1, q1⟩ : ∃ r, r = s.toNat + 8 * r2 := ⟨_, rfl⟩
  have q0 : w = ww.toNat + 1024 * r1 := by simp only [assemble] at hw; omega
  have z4 : 13 < 2 ^ 6 := Nat.le_of_ble_eq_true rfl
  have m0 : bitsAt w 25 6 = 13 := (skip q0 ww.isLt 15 6 rfl rfl).trans ((skip q1 s.isLt 12 6 rfl rfl).trans ((skip q2 a.isLt 6 6 rfl rfl).trans ((skip q3 d.isLt 0 6 rfl rfl).trans (low q4 z4 rfl))))
  have f0 : fieldAt w 19 6 = d := fieldAt_eq ((skip q0 ww.isLt 9 6 rfl rfl).trans ((skip q1 s.isLt 6 6 rfl rfl).trans ((skip q2 a.isLt 0 6 rfl rfl).trans (low q3 d.isLt rfl))))
  have f1 : fieldAt w 13 6 = a := fieldAt_eq ((skip q0 ww.isLt 3 6 rfl rfl).trans ((skip q1 s.isLt 0 6 rfl rfl).trans (low q2 a.isLt rfl)))
  have f2 : fieldAt w 10 3 = s := fieldAt_eq ((skip q0 ww.isLt 0 3 rfl rfl).trans (low q1 s.isLt rfl))
  have f3 : fieldAt w 0 10 = ww := fieldAt_eq (low q0 ww.isLt rfl)
  refine ⟨Nat.lt_of_lt_of_le (bound q0 ww.isLt (bound q1 s.isLt (bound q2 a.isLt (bound q3 d.isLt (bound q4 z4 (Nat.lt_succ_of_le hk) rfl) rfl) rfl) rfl) rfl) (Nat.le_of_ble_eq_true rfl), (skip q0 ww.isLt 21 1 rfl rfl).trans ((skip q1 s.isLt 18 1 rfl rfl).trans ((skip q2 a.isLt 12 1 rfl rfl).trans ((skip q3 d.isLt 6 1 rfl rfl).trans ((skip q4 z4 0 1 rfl rfl).trans (top hk))))), ?_⟩
  rw [major0D w m0]
  simp [decodeMajor0D, f0, f1, f2, f3]

theorem strel (d : BitVec 6) (a : BitVec 6) (s : BitVec 3) (ww : BitVec 10) : Statement (.strel d a s ww) := by
  refine of_fields rfl ?_
  intro k hk w hw
  obtain ⟨r4, q4⟩ : ∃ r, r = 14 + 64 * k := ⟨_, rfl⟩
  obtain ⟨r3, q3⟩ : ∃ r, r = d.toNat + 64 * r4 := ⟨_, rfl⟩
  obtain ⟨r2, q2⟩ : ∃ r, r = a.toNat + 64 * r3 := ⟨_, rfl⟩
  obtain ⟨r1, q1⟩ : ∃ r, r = s.toNat + 8 * r2 := ⟨_, rfl⟩
  have q0 : w = ww.toNat + 1024 * r1 := by simp only [assemble] at hw; omega
  have z4 : 14 < 2 ^ 6 := Nat.le_of_ble_eq_true rfl
  have m0 : bitsAt w 25 6 = 14 := (skip q0 ww.isLt 15 6 rfl rfl).trans ((skip q1 s.isLt 12 6 rfl rfl).trans ((skip q2 a.isLt 6 6 rfl rfl).trans ((skip q3 d.isLt 0 6 rfl rfl).trans (low q4 z4 rfl))))
  have f0 : fieldAt w 19 6 = d := fieldAt_eq ((skip q0 ww.isLt 9 6 rfl rfl).trans ((skip q1 s.isLt 6 6 rfl rfl).trans ((skip q2 a.isLt 0 6 rfl rfl).trans (low q3 d.isLt rfl))))
  have f1 : fieldAt w 13 6 = a := fieldAt_eq ((skip q0 ww.isLt 3 6 rfl rfl).trans ((skip q1 s.isLt 0 6 rfl rfl).trans (low q2 a.isLt rfl)))
  have f2 : fieldAt w 10 3 = s := fieldAt_eq ((skip q0 ww.isLt 0 3 rfl rfl).trans (low q1 s.isLt rfl))
  have f3 : fieldAt w 0 10 = ww := fieldAt_eq (low q0 ww.isLt rfl)
  refine ⟨Nat.lt_of_lt_of_le (bound q0 ww.isLt (bound q1 s.isLt (bound q2 a.isLt (bound q3 d.isLt (bound q4 z4 (Nat.lt_succ_of_le hk) rfl) rfl) rfl) rfl) rfl) (Nat.le_of_ble_eq_true rfl), (skip q0 ww.isLt 21 1 rfl rfl).trans ((skip q1 s.isLt 18 1 rfl rfl).trans ((skip q2 a.isLt 12 1 rfl rfl).trans ((skip q3 d.isLt 6 1 rfl rfl).trans ((skip q4 z4 0 1 rfl rfl).trans (top hk))))), ?_⟩
  rw [major0E w m0]
  simp [decodeMajor0E, f0, f1, f2, f3]

theorem atoms (d : BitVec 6) (a : BitVec 6) (b : BitVec 6) (s : BitVec 3) (f : BitVec 4) : Statement (.atoms d a b s f) := by
  refine of_fields rfl ?_
  intro k hk w hw
  obtain ⟨r5, q5⟩ : ∃ r, r = 15 + 64 * k := ⟨_, rfl⟩
  obtain ⟨r4, q4⟩ : ∃ r, r = d.toNat + 64 * r5 := ⟨_, rfl⟩
  obtain ⟨r3, q3⟩ : ∃ r, r = a.toNat + 64 * r4 := ⟨_, rfl⟩
  obtain ⟨r2, q2⟩ : ∃ r, r = b.toNat + 64 * r3 := ⟨_, rfl⟩
  obtain ⟨r1, q1⟩ : ∃ r, r = s.toNat + 8 * r2 := ⟨_, rfl⟩
  have q0 : w = f.toNat + 16 * r1 := by simp only [assemble] at hw; omega
  have z5 : 15 < 2 ^ 6 := Nat.le_of_ble_eq_true rfl
  have m0 : bitsAt w 25 6 = 15 := (skip q0 f.isLt 21 6 rfl rfl).trans ((skip q1 s.isLt 18 6 rfl rfl).trans ((skip q2 b.isLt 12 6 rfl rfl).trans ((skip q3 a.isLt 6 6 rfl rfl).trans ((skip q4 d.isLt 0 6 rfl rfl).trans (low q5 z5 rfl)))))
  have f0 : fieldAt w 19 6 = d := fieldAt_eq ((skip q0 f.isLt 15 6 rfl rfl).trans ((skip q1 s.isLt 12 6 rfl rfl).trans ((skip q2 b.isLt 6 6 rfl rfl).trans ((skip q3 a.isLt 0 6 rfl rfl).trans (low q4 d.isLt rfl)))))
  have f1 : fieldAt w 13 6 = a := fieldAt_eq ((skip q0 f.isLt 9 6 rfl rfl).trans ((skip q1 s.isLt 6 6 rfl rfl).trans ((skip q2 b.isLt 0 6 rfl rfl).trans (low q3 a.isLt rfl))))
  have f2 : fieldAt w 7 6 = b := fieldAt_eq ((skip q0 f.isLt 3 6 rfl rfl).trans ((skip q1 s.isLt 0 6 rfl rfl).trans (low q2 b.isLt rfl)))
  have f3 : fieldAt w 4 3 = s := fieldAt_eq ((skip q0 f.isLt 0 3 rfl rfl).trans (low q1 s.isLt rfl))
  have f4 : fieldAt w 0 4 = f := fieldAt_eq (low q0 f.isLt rfl)
  refine ⟨Nat.lt_of_lt_of_le (bound q0 f.isLt (bound q1 s.isLt (bound q2 b.isLt (bound q3 a.isLt (bound q4 d.isLt (bound q5 z5 (Nat.lt_succ_of_le hk) rfl) rfl) rfl) rfl) rfl) rfl) (Nat.le_of_ble_eq_true rfl), (skip q0 f.isLt 27 1 rfl rfl).trans ((skip q1 s.isLt 24 1 rfl rfl).trans ((skip q2 b.isLt 18 1 rfl rfl).trans ((skip q3 a.isLt 12 1 rfl rfl).trans ((skip q4 d.isLt 6 1 rfl rfl).trans ((skip q5 z5 0 1 rfl rfl).trans (top hk)))))), ?_⟩
  rw [major0F w m0]
  simp [decodeMajor0F, f0, f1, f2, f3, f4]

theorem bra (o : BitVec 25) : Statement (.bra o) := by
  refine of_fields rfl ?_
  intro k hk w hw
  obtain ⟨r1, q1⟩ : ∃ r, r = 16 + 64 * k := ⟨_, rfl⟩
  have q0 : w = o.toNat + 33554432 * r1 := by simp only [assemble] at hw; omega
  have z1 : 16 < 2 ^ 6 := Nat.le_of_ble_eq_true rfl
  have m0 : bitsAt w 25 6 = 16 := (skip q0 o.isLt 0 6 rfl rfl).trans (low q1 z1 rfl)
  have f0 : fieldAt w 0 25 = o := fieldAt_eq (low q0 o.isLt rfl)
  refine ⟨Nat.lt_of_lt_of_le (bound q0 o.isLt (bound q1 z1 (Nat.lt_succ_of_le hk) rfl) rfl) (Nat.le_of_ble_eq_true rfl), (skip q0 o.isLt 6 1 rfl rfl).trans ((skip q1 z1 0 1 rfl rfl).trans (top hk)), ?_⟩
  rw [major10 w m0]
  simp [decodeMajor10, f0]

theorem call (o : BitVec 25) : Statement (.call o) := by
  refine of_fields rfl ?_
  intro k hk w hw
  obtain ⟨r1, q1⟩ : ∃ r, r = 17 + 64 * k := ⟨_, rfl⟩
  have q0 : w = o.toNat + 33554432 * r1 := by simp only [assemble] at hw; omega
  have z1 : 17 < 2 ^ 6 := Nat.le_of_ble_eq_true rfl
  have m0 : bitsAt w 25 6 = 17 := (skip q0 o.isLt 0 6 rfl rfl).trans (low q1 z1 rfl)
  have f0 : fieldAt w 0 25 = o := fieldAt_eq (low q0 o.isLt rfl)
  refine ⟨Nat.lt_of_lt_of_le (bound q0 o.isLt (bound q1 z1 (Nat.lt_succ_of_le hk) rfl) rfl) (Nat.le_of_ble_eq_true rfl), (skip q0 o.isLt 6 1 rfl rfl).trans ((skip q1 z1 0 1 rfl rfl).trans (top hk)), ?_⟩
  rw [major11 w m0]
  simp [decodeMajor11, f0]

theorem bz (a : BitVec 6) (o : BitVec 16) : Statement (.bz a o) := by
  refine of_fields rfl ?_
  intro k hk w hw
  obtain ⟨r3, q3⟩ : ∃ r, r = 18 + 64 * k := ⟨_, rfl⟩
  obtain ⟨r2, q2⟩ : ∃ r, r = a.toNat + 64 * r3 := ⟨_, rfl⟩
  obtain ⟨r1, q1⟩ : ∃ r, r = 0 + 8 * r2 := ⟨_, rfl⟩
  have q0 : w = o.toNat + 65536 * r1 := by simp only [assemble] at hw; omega
  have z1 : 0 < 2 ^ 3 := Nat.le_of_ble_eq_true rfl
  have z3 : 18 < 2 ^ 6 := Nat.le_of_ble_eq_true rfl
  have m0 : bitsAt w 25 6 = 18 := (skip q0 o.isLt 9 6 rfl rfl).trans ((skip q1 z1 6 6 rfl rfl).trans ((skip q2 a.isLt 0 6 rfl rfl).trans (low q3 z3 rfl)))
  have e0 : bitsAt w 16 3 = 0 := (skip q0 o.isLt 0 3 rfl rfl).trans (low q1 z1 rfl)
  have f0 : fieldAt w 19 6 = a := fieldAt_eq ((skip q0 o.isLt 3 6 rfl rfl).trans ((skip q1 z1 0 6 rfl rfl).trans (low q2 a.isLt rfl)))
  have f1 : fieldAt w 0 16 = o := fieldAt_eq (low q0 o.isLt rfl)
  refine ⟨Nat.lt_of_lt_of_le (bound q0 o.isLt (bound q1 z1 (bound q2 a.isLt (bound q3 z3 (Nat.lt_succ_of_le hk) rfl) rfl) rfl) rfl) (Nat.le_of_ble_eq_true rfl), (skip q0 o.isLt 15 1 rfl rfl).trans ((skip q1 z1 12 1 rfl rfl).trans ((skip q2 a.isLt 6 1 rfl rfl).trans ((skip q3 z3 0 1 rfl rfl).trans (top hk)))), ?_⟩
  rw [major12 w m0]
  simp [decodeMajor12, e0, f0, f1]

theorem bnz (a : BitVec 6) (o : BitVec 16) : Statement (.bnz a o) := by
  refine of_fields rfl ?_
  intro k hk w hw
  obtain ⟨r3, q3⟩ : ∃ r, r = 19 + 64 * k := ⟨_, rfl⟩
  obtain ⟨r2, q2⟩ : ∃ r, r = a.toNat + 64 * r3 := ⟨_, rfl⟩
  obtain ⟨r1, q1⟩ : ∃ r, r = 0 + 8 * r2 := ⟨_, rfl⟩
  have q0 : w = o.toNat + 65536 * r1 := by simp only [assemble] at hw; omega
  have z1 : 0 < 2 ^ 3 := Nat.le_of_ble_eq_true rfl
  have z3 : 19 < 2 ^ 6 := Nat.le_of_ble_eq_true rfl
  have m0 : bitsAt w 25 6 = 19 := (skip q0 o.isLt 9 6 rfl rfl).trans ((skip q1 z1 6 6 rfl rfl).trans ((skip q2 a.isLt 0 6 rfl rfl).trans (low q3 z3 rfl)))
  have e0 : bitsAt w 16 3 = 0 := (skip q0 o.isLt 0 3 rfl rfl).trans (low q1 z1 rfl)
  have f0 : fieldAt w 19 6 = a := fieldAt_eq ((skip q0 o.isLt 3 6 rfl rfl).trans ((skip q1 z1 0 6 rfl rfl).trans (low q2 a.isLt rfl)))
  have f1 : fieldAt w 0 16 = o := fieldAt_eq (low q0 o.isLt rfl)
  refine ⟨Nat.lt_of_lt_of_le (bound q0 o.isLt (bound q1 z1 (bound q2 a.isLt (bound q3 z3 (Nat.lt_succ_of_le hk) rfl) rfl) rfl) rfl) (Nat.le_of_ble_eq_true rfl), (skip q0 o.isLt 15 1 rfl rfl).trans ((skip q1 z1 12 1 rfl rfl).trans ((skip q2 a.isLt 6 1 rfl rfl).trans ((skip q3 z3 0 1 rfl rfl).trans (top hk)))), ?_⟩
  rw [major13 w m0]
  simp [decodeMajor13, e0, f0, f1]

theorem bany (p : BitVec 3) (t : BitVec 1) (o : BitVec 16) : Statement (.bany p t o) := by
  refine of_fields rfl ?_
  intro k hk w hw
  obtain ⟨r4, q4⟩ : ∃ r, r = 160 + 512 * k := ⟨_, rfl⟩
  obtain ⟨r3, q3⟩ : ∃ r, r = p.toNat + 8 * r4 := ⟨_, rfl⟩
  obtain ⟨r2, q2⟩ : ∃ r, r = 0 + 4 * r3 := ⟨_, rfl⟩
  obtain ⟨r1, q1⟩ : ∃ r, r = t.toNat + 2 * r2 := ⟨_, rfl⟩
  have q0 : w = o.toNat + 65536 * r1 := by simp only [assemble] at hw; omega
  have z2 : 0 < 2 ^ 2 := Nat.le_of_ble_eq_true rfl
  have z4 : 160 < 2 ^ 9 := Nat.le_of_ble_eq_true rfl
  have m0 : bitsAt w 25 6 = 20 := (skip q0 o.isLt 9 6 rfl rfl).trans ((skip q1 t.isLt 8 6 rfl rfl).trans ((skip q2 z2 6 6 rfl rfl).trans ((skip q3 p.isLt 3 6 rfl rfl).trans (part q4 z4 3 6 rfl (Nat.le_of_ble_eq_true rfl) rfl))))
  have e0 : bitsAt w 22 3 = 0 := (skip q0 o.isLt 6 3 rfl rfl).trans ((skip q1 t.isLt 5 3 rfl rfl).trans ((skip q2 z2 3 3 rfl rfl).trans ((skip q3 p.isLt 0 3 rfl rfl).trans (part q4 z4 0 3 rfl (Nat.le_of_ble_eq_true rfl) rfl))))
  have e1 : bitsAt w 17 2 = 0 := (skip q0 o.isLt 1 2 rfl rfl).trans ((skip q1 t.isLt 0 2 rfl rfl).trans (low q2 z2 rfl))
  have f0 : fieldAt w 19 3 = p := fieldAt_eq ((skip q0 o.isLt 3 3 rfl rfl).trans ((skip q1 t.isLt 2 3 rfl rfl).trans ((skip q2 z2 0 3 rfl rfl).trans (low q3 p.isLt rfl))))
  have f1 : fieldAt w 16 1 = t := fieldAt_eq ((skip q0 o.isLt 0 1 rfl rfl).trans (low q1 t.isLt rfl))
  have f2 : fieldAt w 0 16 = o := fieldAt_eq (low q0 o.isLt rfl)
  refine ⟨Nat.lt_of_lt_of_le (bound q0 o.isLt (bound q1 t.isLt (bound q2 z2 (bound q3 p.isLt (bound q4 z4 (Nat.lt_succ_of_le hk) rfl) rfl) rfl) rfl) rfl) (Nat.le_of_ble_eq_true rfl), (skip q0 o.isLt 15 1 rfl rfl).trans ((skip q1 t.isLt 14 1 rfl rfl).trans ((skip q2 z2 12 1 rfl rfl).trans ((skip q3 p.isLt 9 1 rfl rfl).trans ((skip q4 z4 0 1 rfl rfl).trans (top hk))))), ?_⟩
  rw [major14 w m0]
  simp [decodeMajor14, e0, e1, f0, f1, f2]

theorem ball (p : BitVec 3) (t : BitVec 1) (o : BitVec 16) : Statement (.ball p t o) := by
  refine of_fields rfl ?_
  intro k hk w hw
  obtain ⟨r4, q4⟩ : ∃ r, r = 168 + 512 * k := ⟨_, rfl⟩
  obtain ⟨r3, q3⟩ : ∃ r, r = p.toNat + 8 * r4 := ⟨_, rfl⟩
  obtain ⟨r2, q2⟩ : ∃ r, r = 0 + 4 * r3 := ⟨_, rfl⟩
  obtain ⟨r1, q1⟩ : ∃ r, r = t.toNat + 2 * r2 := ⟨_, rfl⟩
  have q0 : w = o.toNat + 65536 * r1 := by simp only [assemble] at hw; omega
  have z2 : 0 < 2 ^ 2 := Nat.le_of_ble_eq_true rfl
  have z4 : 168 < 2 ^ 9 := Nat.le_of_ble_eq_true rfl
  have m0 : bitsAt w 25 6 = 21 := (skip q0 o.isLt 9 6 rfl rfl).trans ((skip q1 t.isLt 8 6 rfl rfl).trans ((skip q2 z2 6 6 rfl rfl).trans ((skip q3 p.isLt 3 6 rfl rfl).trans (part q4 z4 3 6 rfl (Nat.le_of_ble_eq_true rfl) rfl))))
  have e0 : bitsAt w 22 3 = 0 := (skip q0 o.isLt 6 3 rfl rfl).trans ((skip q1 t.isLt 5 3 rfl rfl).trans ((skip q2 z2 3 3 rfl rfl).trans ((skip q3 p.isLt 0 3 rfl rfl).trans (part q4 z4 0 3 rfl (Nat.le_of_ble_eq_true rfl) rfl))))
  have e1 : bitsAt w 17 2 = 0 := (skip q0 o.isLt 1 2 rfl rfl).trans ((skip q1 t.isLt 0 2 rfl rfl).trans (low q2 z2 rfl))
  have f0 : fieldAt w 19 3 = p := fieldAt_eq ((skip q0 o.isLt 3 3 rfl rfl).trans ((skip q1 t.isLt 2 3 rfl rfl).trans ((skip q2 z2 0 3 rfl rfl).trans (low q3 p.isLt rfl))))
  have f1 : fieldAt w 16 1 = t := fieldAt_eq ((skip q0 o.isLt 0 1 rfl rfl).trans (low q1 t.isLt rfl))
  have f2 : fieldAt w 0 16 = o := fieldAt_eq (low q0 o.isLt rfl)
  refine ⟨Nat.lt_of_lt_of_le (bound q0 o.isLt (bound q1 t.isLt (bound q2 z2 (bound q3 p.isLt (bound q4 z4 (Nat.lt_succ_of_le hk) rfl) rfl) rfl) rfl) rfl) (Nat.le_of_ble_eq_true rfl), (skip q0 o.isLt 15 1 rfl rfl).trans ((skip q1 t.isLt 14 1 rfl rfl).trans ((skip q2 z2 12 1 rfl rfl).trans ((skip q3 p.isLt 9 1 rfl rfl).trans ((skip q4 z4 0 1 rfl rfl).trans (top hk))))), ?_⟩
  rw [major15 w m0]
  simp [decodeMajor15, e0, e1, f0, f1, f2]

theorem bnone (p : BitVec 3) (t : BitVec 1) (o : BitVec 16) : Statement (.bnone p t o) := by
  refine of_fields rfl ?_
  intro k hk w hw
  obtain ⟨r4, q4⟩ : ∃ r, r = 176 + 512 * k := ⟨_, rfl⟩
  obtain ⟨r3, q3⟩ : ∃ r, r = p.toNat + 8 * r4 := ⟨_, rfl⟩
  obtain ⟨r2, q2⟩ : ∃ r, r = 0 + 4 * r3 := ⟨_, rfl⟩
  obtain ⟨r1, q1⟩ : ∃ r, r = t.toNat + 2 * r2 := ⟨_, rfl⟩
  have q0 : w = o.toNat + 65536 * r1 := by simp only [assemble] at hw; omega
  have z2 : 0 < 2 ^ 2 := Nat.le_of_ble_eq_true rfl
  have z4 : 176 < 2 ^ 9 := Nat.le_of_ble_eq_true rfl
  have m0 : bitsAt w 25 6 = 22 := (skip q0 o.isLt 9 6 rfl rfl).trans ((skip q1 t.isLt 8 6 rfl rfl).trans ((skip q2 z2 6 6 rfl rfl).trans ((skip q3 p.isLt 3 6 rfl rfl).trans (part q4 z4 3 6 rfl (Nat.le_of_ble_eq_true rfl) rfl))))
  have e0 : bitsAt w 22 3 = 0 := (skip q0 o.isLt 6 3 rfl rfl).trans ((skip q1 t.isLt 5 3 rfl rfl).trans ((skip q2 z2 3 3 rfl rfl).trans ((skip q3 p.isLt 0 3 rfl rfl).trans (part q4 z4 0 3 rfl (Nat.le_of_ble_eq_true rfl) rfl))))
  have e1 : bitsAt w 17 2 = 0 := (skip q0 o.isLt 1 2 rfl rfl).trans ((skip q1 t.isLt 0 2 rfl rfl).trans (low q2 z2 rfl))
  have f0 : fieldAt w 19 3 = p := fieldAt_eq ((skip q0 o.isLt 3 3 rfl rfl).trans ((skip q1 t.isLt 2 3 rfl rfl).trans ((skip q2 z2 0 3 rfl rfl).trans (low q3 p.isLt rfl))))
  have f1 : fieldAt w 16 1 = t := fieldAt_eq ((skip q0 o.isLt 0 1 rfl rfl).trans (low q1 t.isLt rfl))
  have f2 : fieldAt w 0 16 = o := fieldAt_eq (low q0 o.isLt rfl)
  refine ⟨Nat.lt_of_lt_of_le (bound q0 o.isLt (bound q1 t.isLt (bound q2 z2 (bound q3 p.isLt (bound q4 z4 (Nat.lt_succ_of_le hk) rfl) rfl) rfl) rfl) rfl) (Nat.le_of_ble_eq_true rfl), (skip q0 o.isLt 15 1 rfl rfl).trans ((skip q1 t.isLt 14 1 rfl rfl).trans ((skip q2 z2 12 1 rfl rfl).trans ((skip q3 p.isLt 9 1 rfl rfl).trans ((skip q4 z4 0 1 rfl rfl).trans (top hk))))), ?_⟩
  rw [major16 w m0]
  simp [decodeMajor16, e0, e1, f0, f1, f2]

theorem split (p : BitVec 3) (o : BitVec 16) : Statement (.split p o) := by
  refine of_fields rfl ?_
  intro k hk w hw
  obtain ⟨r3, q3⟩ : ∃ r, r = 184 + 512 * k := ⟨_, rfl⟩
  obtain ⟨r2, q2⟩ : ∃ r, r = p.toNat + 8 * r3 := ⟨_, rfl⟩
  obtain ⟨r1, q1⟩ : ∃ r, r = 0 + 8 * r2 := ⟨_, rfl⟩
  have q0 : w = o.toNat + 65536 * r1 := by simp only [assemble] at hw; omega
  have z1 : 0 < 2 ^ 3 := Nat.le_of_ble_eq_true rfl
  have z3 : 184 < 2 ^ 9 := Nat.le_of_ble_eq_true rfl
  have m0 : bitsAt w 25 6 = 23 := (skip q0 o.isLt 9 6 rfl rfl).trans ((skip q1 z1 6 6 rfl rfl).trans ((skip q2 p.isLt 3 6 rfl rfl).trans (part q3 z3 3 6 rfl (Nat.le_of_ble_eq_true rfl) rfl)))
  have e0 : bitsAt w 22 3 = 0 := (skip q0 o.isLt 6 3 rfl rfl).trans ((skip q1 z1 3 3 rfl rfl).trans ((skip q2 p.isLt 0 3 rfl rfl).trans (part q3 z3 0 3 rfl (Nat.le_of_ble_eq_true rfl) rfl)))
  have e1 : bitsAt w 16 3 = 0 := (skip q0 o.isLt 0 3 rfl rfl).trans (low q1 z1 rfl)
  have f0 : fieldAt w 19 3 = p := fieldAt_eq ((skip q0 o.isLt 3 3 rfl rfl).trans ((skip q1 z1 0 3 rfl rfl).trans (low q2 p.isLt rfl)))
  have f1 : fieldAt w 0 16 = o := fieldAt_eq (low q0 o.isLt rfl)
  refine ⟨Nat.lt_of_lt_of_le (bound q0 o.isLt (bound q1 z1 (bound q2 p.isLt (bound q3 z3 (Nat.lt_succ_of_le hk) rfl) rfl) rfl) rfl) (Nat.le_of_ble_eq_true rfl), (skip q0 o.isLt 15 1 rfl rfl).trans ((skip q1 z1 12 1 rfl rfl).trans ((skip q2 p.isLt 9 1 rfl rfl).trans ((skip q3 z3 0 1 rfl rfl).trans (top hk)))), ?_⟩
  rw [major17 w m0]
  simp [decodeMajor17, e0, e1, f0, f1]

theorem switch (a : BitVec 6) (v : BitVec 6) (nn : BitVec 3) : Statement (.switch a v nn) := by
  refine of_fields rfl ?_
  intro k hk w hw
  obtain ⟨r4, q4⟩ : ∃ r, r = 24 + 64 * k := ⟨_, rfl⟩
  obtain ⟨r3, q3⟩ : ∃ r, r = a.toNat + 64 * r4 := ⟨_, rfl⟩
  obtain ⟨r2, q2⟩ : ∃ r, r = v.toNat + 64 * r3 := ⟨_, rfl⟩
  obtain ⟨r1, q1⟩ : ∃ r, r = nn.toNat + 8 * r2 := ⟨_, rfl⟩
  have q0 : w = 0 + 1024 * r1 := by simp only [assemble] at hw; omega
  have z0 : 0 < 2 ^ 10 := Nat.le_of_ble_eq_true rfl
  have z4 : 24 < 2 ^ 6 := Nat.le_of_ble_eq_true rfl
  have m0 : bitsAt w 25 6 = 24 := (skip q0 z0 15 6 rfl rfl).trans ((skip q1 nn.isLt 12 6 rfl rfl).trans ((skip q2 v.isLt 6 6 rfl rfl).trans ((skip q3 a.isLt 0 6 rfl rfl).trans (low q4 z4 rfl))))
  have e0 : bitsAt w 0 10 = 0 := low q0 z0 rfl
  have f0 : fieldAt w 19 6 = a := fieldAt_eq ((skip q0 z0 9 6 rfl rfl).trans ((skip q1 nn.isLt 6 6 rfl rfl).trans ((skip q2 v.isLt 0 6 rfl rfl).trans (low q3 a.isLt rfl))))
  have f1 : fieldAt w 13 6 = v := fieldAt_eq ((skip q0 z0 3 6 rfl rfl).trans ((skip q1 nn.isLt 0 6 rfl rfl).trans (low q2 v.isLt rfl)))
  have f2 : fieldAt w 10 3 = nn := fieldAt_eq ((skip q0 z0 0 3 rfl rfl).trans (low q1 nn.isLt rfl))
  refine ⟨Nat.lt_of_lt_of_le (bound q0 z0 (bound q1 nn.isLt (bound q2 v.isLt (bound q3 a.isLt (bound q4 z4 (Nat.lt_succ_of_le hk) rfl) rfl) rfl) rfl) rfl) (Nat.le_of_ble_eq_true rfl), (skip q0 z0 21 1 rfl rfl).trans ((skip q1 nn.isLt 18 1 rfl rfl).trans ((skip q2 v.isLt 12 1 rfl rfl).trans ((skip q3 a.isLt 6 1 rfl rfl).trans ((skip q4 z4 0 1 rfl rfl).trans (top hk))))), ?_⟩
  rw [major18 w m0]
  simp [decodeMajor18, e0, f0, f1, f2]

theorem spawnS (a : BitVec 1) : Statement (.spawnS a) := by
  refine of_fields rfl ?_
  intro k hk w hw
  obtain ⟨r2, q2⟩ : ∃ r, r = 800 + 2048 * k := ⟨_, rfl⟩
  obtain ⟨r1, q1⟩ : ∃ r, r = a.toNat + 2 * r2 := ⟨_, rfl⟩
  have q0 : w = 0 + 524288 * r1 := by simp only [assemble] at hw; omega
  have z0 : 0 < 2 ^ 19 := Nat.le_of_ble_eq_true rfl
  have z2 : 800 < 2 ^ 11 := Nat.le_of_ble_eq_true rfl
  have m0 : bitsAt w 25 6 = 25 := (skip q0 z0 6 6 rfl rfl).trans ((skip q1 a.isLt 5 6 rfl rfl).trans (part q2 z2 5 6 rfl (Nat.le_of_ble_eq_true rfl) rfl))
  have e0 : bitsAt w 20 5 = 0 := (skip q0 z0 1 5 rfl rfl).trans ((skip q1 a.isLt 0 5 rfl rfl).trans (part q2 z2 0 5 rfl (Nat.le_of_ble_eq_true rfl) rfl))
  have e1 : bitsAt w 0 19 = 0 := low q0 z0 rfl
  have f0 : fieldAt w 19 1 = a := fieldAt_eq ((skip q0 z0 0 1 rfl rfl).trans (low q1 a.isLt rfl))
  refine ⟨Nat.lt_of_lt_of_le (bound q0 z0 (bound q1 a.isLt (bound q2 z2 (Nat.lt_succ_of_le hk) rfl) rfl) rfl) (Nat.le_of_ble_eq_true rfl), (skip q0 z0 12 1 rfl rfl).trans ((skip q1 a.isLt 11 1 rfl rfl).trans ((skip q2 z2 0 1 rfl rfl).trans (top hk))), ?_⟩
  rw [major19 w m0]
  simp [decodeMajor19, e0, e1, f0]

theorem spawnL (a : BitVec 6) : Statement (.spawnL a) := by
  refine of_fields rfl ?_
  intro k hk w hw
  obtain ⟨r2, q2⟩ : ∃ r, r = 801 + 2048 * k := ⟨_, rfl⟩
  obtain ⟨r1, q1⟩ : ∃ r, r = a.toNat + 64 * r2 := ⟨_, rfl⟩
  have q0 : w = 0 + 16384 * r1 := by simp only [assemble] at hw; omega
  have z0 : 0 < 2 ^ 14 := Nat.le_of_ble_eq_true rfl
  have z2 : 801 < 2 ^ 11 := Nat.le_of_ble_eq_true rfl
  have m0 : bitsAt w 25 6 = 25 := (skip q0 z0 11 6 rfl rfl).trans ((skip q1 a.isLt 5 6 rfl rfl).trans (part q2 z2 5 6 rfl (Nat.le_of_ble_eq_true rfl) rfl))
  have e0 : bitsAt w 20 5 = 1 := (skip q0 z0 6 5 rfl rfl).trans ((skip q1 a.isLt 0 5 rfl rfl).trans (part q2 z2 0 5 rfl (Nat.le_of_ble_eq_true rfl) rfl))
  have e1 : bitsAt w 0 14 = 0 := low q0 z0 rfl
  have f0 : fieldAt w 14 6 = a := fieldAt_eq ((skip q0 z0 0 6 rfl rfl).trans (low q1 a.isLt rfl))
  refine ⟨Nat.lt_of_lt_of_le (bound q0 z0 (bound q1 a.isLt (bound q2 z2 (Nat.lt_succ_of_le hk) rfl) rfl) rfl) (Nat.le_of_ble_eq_true rfl), (skip q0 z0 17 1 rfl rfl).trans ((skip q1 a.isLt 11 1 rfl rfl).trans ((skip q2 z2 0 1 rfl rfl).trans (top hk))), ?_⟩
  rw [major19 w m0]
  simp [decodeMajor19, e0, e1, f0]

theorem fnew (a : BitVec 6) (b : BitVec 6) (u : BitVec 3) : Statement (.fnew a b u) := by
  refine of_fields rfl ?_
  intro k hk w hw
  obtain ⟨r4, q4⟩ : ∃ r, r = 1664 + 4096 * k := ⟨_, rfl⟩
  obtain ⟨r3, q3⟩ : ∃ r, r = a.toNat + 64 * r4 := ⟨_, rfl⟩
  obtain ⟨r2, q2⟩ : ∃ r, r = b.toNat + 64 * r3 := ⟨_, rfl⟩
  obtain ⟨r1, q1⟩ : ∃ r, r = u.toNat + 8 * r2 := ⟨_, rfl⟩
  have q0 : w = 0 + 16 * r1 := by simp only [assemble] at hw; omega
  have z0 : 0 < 2 ^ 4 := Nat.le_of_ble_eq_true rfl
  have z4 : 1664 < 2 ^ 12 := Nat.le_of_ble_eq_true rfl
  have m0 : bitsAt w 25 6 = 26 := (skip q0 z0 21 6 rfl rfl).trans ((skip q1 u.isLt 18 6 rfl rfl).trans ((skip q2 b.isLt 12 6 rfl rfl).trans ((skip q3 a.isLt 6 6 rfl rfl).trans (part q4 z4 6 6 rfl (Nat.le_of_ble_eq_true rfl) rfl))))
  have e0 : bitsAt w 19 6 = 0 := (skip q0 z0 15 6 rfl rfl).trans ((skip q1 u.isLt 12 6 rfl rfl).trans ((skip q2 b.isLt 6 6 rfl rfl).trans ((skip q3 a.isLt 0 6 rfl rfl).trans (part q4 z4 0 6 rfl (Nat.le_of_ble_eq_true rfl) rfl))))
  have e1 : bitsAt w 0 4 = 0 := low q0 z0 rfl
  have f0 : fieldAt w 13 6 = a := fieldAt_eq ((skip q0 z0 9 6 rfl rfl).trans ((skip q1 u.isLt 6 6 rfl rfl).trans ((skip q2 b.isLt 0 6 rfl rfl).trans (low q3 a.isLt rfl))))
  have f1 : fieldAt w 7 6 = b := fieldAt_eq ((skip q0 z0 3 6 rfl rfl).trans ((skip q1 u.isLt 0 6 rfl rfl).trans (low q2 b.isLt rfl)))
  have f2 : fieldAt w 4 3 = u := fieldAt_eq ((skip q0 z0 0 3 rfl rfl).trans (low q1 u.isLt rfl))
  refine ⟨Nat.lt_of_lt_of_le (bound q0 z0 (bound q1 u.isLt (bound q2 b.isLt (bound q3 a.isLt (bound q4 z4 (Nat.lt_succ_of_le hk) rfl) rfl) rfl) rfl) rfl) (Nat.le_of_ble_eq_true rfl), (skip q0 z0 27 1 rfl rfl).trans ((skip q1 u.isLt 24 1 rfl rfl).trans ((skip q2 b.isLt 18 1 rfl rfl).trans ((skip q3 a.isLt 12 1 rfl rfl).trans ((skip q4 z4 0 1 rfl rfl).trans (top hk))))), ?_⟩
  rw [major1A w m0]
  simp [decodeMajor1A, e0, e1, f0, f1, f2]

theorem fjoin (a : BitVec 6) (b : BitVec 6) : Statement (.fjoin a b) := by
  refine of_fields rfl ?_
  intro k hk w hw
  obtain ⟨r3, q3⟩ : ∃ r, r = 1664 + 4096 * k := ⟨_, rfl⟩
  obtain ⟨r2, q2⟩ : ∃ r, r = a.toNat + 64 * r3 := ⟨_, rfl⟩
  obtain ⟨r1, q1⟩ : ∃ r, r = b.toNat + 64 * r2 := ⟨_, rfl⟩
  have q0 : w = 1 + 128 * r1 := by simp only [assemble] at hw; omega
  have z0 : 1 < 2 ^ 7 := Nat.le_of_ble_eq_true rfl
  have z3 : 1664 < 2 ^ 12 := Nat.le_of_ble_eq_true rfl
  have m0 : bitsAt w 25 6 = 26 := (skip q0 z0 18 6 rfl rfl).trans ((skip q1 b.isLt 12 6 rfl rfl).trans ((skip q2 a.isLt 6 6 rfl rfl).trans (part q3 z3 6 6 rfl (Nat.le_of_ble_eq_true rfl) rfl)))
  have e0 : bitsAt w 19 6 = 0 := (skip q0 z0 12 6 rfl rfl).trans ((skip q1 b.isLt 6 6 rfl rfl).trans ((skip q2 a.isLt 0 6 rfl rfl).trans (part q3 z3 0 6 rfl (Nat.le_of_ble_eq_true rfl) rfl)))
  have e1 : bitsAt w 0 4 = 1 := part q0 z0 0 4 rfl (Nat.le_of_ble_eq_true rfl) rfl
  have e2 : bitsAt w 0 7 = 1 := low q0 z0 rfl
  have f0 : fieldAt w 13 6 = a := fieldAt_eq ((skip q0 z0 6 6 rfl rfl).trans ((skip q1 b.isLt 0 6 rfl rfl).trans (low q2 a.isLt rfl)))
  have f1 : fieldAt w 7 6 = b := fieldAt_eq ((skip q0 z0 0 6 rfl rfl).trans (low q1 b.isLt rfl))
  refine ⟨Nat.lt_of_lt_of_le (bound q0 z0 (bound q1 b.isLt (bound q2 a.isLt (bound q3 z3 (Nat.lt_succ_of_le hk) rfl) rfl) rfl) rfl) (Nat.le_of_ble_eq_true rfl), (skip q0 z0 24 1 rfl rfl).trans ((skip q1 b.isLt 18 1 rfl rfl).trans ((skip q2 a.isLt 12 1 rfl rfl).trans ((skip q3 z3 0 1 rfl rfl).trans (top hk)))), ?_⟩
  rw [major1A w m0]
  simp [decodeMajor1A, e0, e1, e2, f0, f1]

theorem fwait (d : BitVec 6) (a : BitVec 6) : Statement (.fwait d a) := by
  refine of_fields rfl ?_
  intro k hk w hw
  obtain ⟨r3, q3⟩ : ∃ r, r = 26 + 64 * k := ⟨_, rfl⟩
  obtain ⟨r2, q2⟩ : ∃ r, r = d.toNat + 64 * r3 := ⟨_, rfl⟩
  obtain ⟨r1, q1⟩ : ∃ r, r = a.toNat + 64 * r2 := ⟨_, rfl⟩
  have q0 : w = 2 + 8192 * r1 := by simp only [assemble] at hw; omega
  have z0 : 2 < 2 ^ 13 := Nat.le_of_ble_eq_true rfl
  have z3 : 26 < 2 ^ 6 := Nat.le_of_ble_eq_true rfl
  have m0 : bitsAt w 25 6 = 26 := (skip q0 z0 12 6 rfl rfl).trans ((skip q1 a.isLt 6 6 rfl rfl).trans ((skip q2 d.isLt 0 6 rfl rfl).trans (low q3 z3 rfl)))
  have e0 : bitsAt w 0 4 = 2 := part q0 z0 0 4 rfl (Nat.le_of_ble_eq_true rfl) rfl
  have e1 : bitsAt w 0 7 = 2 := part q0 z0 0 7 rfl (Nat.le_of_ble_eq_true rfl) rfl
  have e2 : bitsAt w 0 13 = 2 := low q0 z0 rfl
  have f0 : fieldAt w 19 6 = d := fieldAt_eq ((skip q0 z0 6 6 rfl rfl).trans ((skip q1 a.isLt 0 6 rfl rfl).trans (low q2 d.isLt rfl)))
  have f1 : fieldAt w 13 6 = a := fieldAt_eq ((skip q0 z0 0 6 rfl rfl).trans (low q1 a.isLt rfl))
  refine ⟨Nat.lt_of_lt_of_le (bound q0 z0 (bound q1 a.isLt (bound q2 d.isLt (bound q3 z3 (Nat.lt_succ_of_le hk) rfl) rfl) rfl) rfl) (Nat.le_of_ble_eq_true rfl), (skip q0 z0 18 1 rfl rfl).trans ((skip q1 a.isLt 12 1 rfl rfl).trans ((skip q2 d.isLt 6 1 rfl rfl).trans ((skip q3 z3 0 1 rfl rfl).trans (top hk)))), ?_⟩
  rw [major1A w m0]
  simp [decodeMajor1A, e0, e1, e2, f0, f1]

theorem fput (a : BitVec 6) (b : BitVec 6) : Statement (.fput a b) := by
  refine of_fields rfl ?_
  intro k hk w hw
  obtain ⟨r3, q3⟩ : ∃ r, r = 1664 + 4096 * k := ⟨_, rfl⟩
  obtain ⟨r2, q2⟩ : ∃ r, r = a.toNat + 64 * r3 := ⟨_, rfl⟩
  obtain ⟨r1, q1⟩ : ∃ r, r = b.toNat + 64 * r2 := ⟨_, rfl⟩
  have q0 : w = 3 + 128 * r1 := by simp only [assemble] at hw; omega
  have z0 : 3 < 2 ^ 7 := Nat.le_of_ble_eq_true rfl
  have z3 : 1664 < 2 ^ 12 := Nat.le_of_ble_eq_true rfl
  have m0 : bitsAt w 25 6 = 26 := (skip q0 z0 18 6 rfl rfl).trans ((skip q1 b.isLt 12 6 rfl rfl).trans ((skip q2 a.isLt 6 6 rfl rfl).trans (part q3 z3 6 6 rfl (Nat.le_of_ble_eq_true rfl) rfl)))
  have e0 : bitsAt w 19 6 = 0 := (skip q0 z0 12 6 rfl rfl).trans ((skip q1 b.isLt 6 6 rfl rfl).trans ((skip q2 a.isLt 0 6 rfl rfl).trans (part q3 z3 0 6 rfl (Nat.le_of_ble_eq_true rfl) rfl)))
  have e1 : bitsAt w 0 4 = 3 := part q0 z0 0 4 rfl (Nat.le_of_ble_eq_true rfl) rfl
  have e2 : bitsAt w 0 7 = 3 := low q0 z0 rfl
  have n0 : ¬ bitsAt w 0 13 = 2 := differs (part q0 z0 0 1 rfl (Nat.le_of_ble_eq_true rfl) rfl) 0 rfl (Nat.le_of_ble_eq_true rfl) (by decide)
  have f0 : fieldAt w 13 6 = a := fieldAt_eq ((skip q0 z0 6 6 rfl rfl).trans ((skip q1 b.isLt 0 6 rfl rfl).trans (low q2 a.isLt rfl)))
  have f1 : fieldAt w 7 6 = b := fieldAt_eq ((skip q0 z0 0 6 rfl rfl).trans (low q1 b.isLt rfl))
  refine ⟨Nat.lt_of_lt_of_le (bound q0 z0 (bound q1 b.isLt (bound q2 a.isLt (bound q3 z3 (Nat.lt_succ_of_le hk) rfl) rfl) rfl) rfl) (Nat.le_of_ble_eq_true rfl), (skip q0 z0 24 1 rfl rfl).trans ((skip q1 b.isLt 18 1 rfl rfl).trans ((skip q2 a.isLt 12 1 rfl rfl).trans ((skip q3 z3 0 1 rfl rfl).trans (top hk)))), ?_⟩
  rw [major1A w m0]
  simp [decodeMajor1A, e0, e1, e2, n0, f0, f1]

theorem copy (a : BitVec 6) : Statement (.copy a) := by
  refine of_fields rfl ?_
  intro k hk w hw
  obtain ⟨r2, q2⟩ : ∃ r, r = 864 + 2048 * k := ⟨_, rfl⟩
  obtain ⟨r1, q1⟩ : ∃ r, r = a.toNat + 64 * r2 := ⟨_, rfl⟩
  have q0 : w = 0 + 16384 * r1 := by simp only [assemble] at hw; omega
  have z0 : 0 < 2 ^ 14 := Nat.le_of_ble_eq_true rfl
  have z2 : 864 < 2 ^ 11 := Nat.le_of_ble_eq_true rfl
  have m0 : bitsAt w 25 6 = 27 := (skip q0 z0 11 6 rfl rfl).trans ((skip q1 a.isLt 5 6 rfl rfl).trans (part q2 z2 5 6 rfl (Nat.le_of_ble_eq_true rfl) rfl))
  have e0 : bitsAt w 20 5 = 0 := (skip q0 z0 6 5 rfl rfl).trans ((skip q1 a.isLt 0 5 rfl rfl).trans (part q2 z2 0 5 rfl (Nat.le_of_ble_eq_true rfl) rfl))
  have e1 : bitsAt w 0 14 = 0 := low q0 z0 rfl
  have f0 : fieldAt w 14 6 = a := fieldAt_eq ((skip q0 z0 0 6 rfl rfl).trans (low q1 a.isLt rfl))
  refine ⟨Nat.lt_of_lt_of_le (bound q0 z0 (bound q1 a.isLt (bound q2 z2 (Nat.lt_succ_of_le hk) rfl) rfl) rfl) (Nat.le_of_ble_eq_true rfl), (skip q0 z0 17 1 rfl rfl).trans ((skip q1 a.isLt 11 1 rfl rfl).trans ((skip q2 z2 0 1 rfl rfl).trans (top hk))), ?_⟩
  rw [major1B w m0]
  simp [decodeMajor1B, e0, e1, f0]

theorem copyM (a : BitVec 6) (b : BitVec 6) (l : BitVec 3) (nn : BitVec 3) : Statement (.copyM a b l nn) := by
  refine of_fields rfl ?_
  intro k hk w hw
  obtain ⟨r5, q5⟩ : ∃ r, r = 864 + 2048 * k := ⟨_, rfl⟩
  obtain ⟨r4, q4⟩ : ∃ r, r = a.toNat + 64 * r5 := ⟨_, rfl⟩
  obtain ⟨r3, q3⟩ : ∃ r, r = b.toNat + 64 * r4 := ⟨_, rfl⟩
  obtain ⟨r2, q2⟩ : ∃ r, r = l.toNat + 8 * r3 := ⟨_, rfl⟩
  obtain ⟨r1, q1⟩ : ∃ r, r = 1 + 4 * r2 := ⟨_, rfl⟩
  have q0 : w = nn.toNat + 8 * r1 := by simp only [assemble] at hw; omega
  have z1 : 1 < 2 ^ 2 := Nat.le_of_ble_eq_true rfl
  have z5 : 864 < 2 ^ 11 := Nat.le_of_ble_eq_true rfl
  have m0 : bitsAt w 25 6 = 27 := (skip q0 nn.isLt 22 6 rfl rfl).trans ((skip q1 z1 20 6 rfl rfl).trans ((skip q2 l.isLt 17 6 rfl rfl).trans ((skip q3 b.isLt 11 6 rfl rfl).trans ((skip q4 a.isLt 5 6 rfl rfl).trans (part q5 z5 5 6 rfl (Nat.le_of_ble_eq_true rfl) rfl)))))
  have e0 : bitsAt w 20 5 = 0 := (skip q0 nn.isLt 17 5 rfl rfl).trans ((skip q1 z1 15 5 rfl rfl).trans ((skip q2 l.isLt 12 5 rfl rfl).trans ((skip q3 b.isLt 6 5 rfl rfl).trans ((skip q4 a.isLt 0 5 rfl rfl).trans (part q5 z5 0 5 rfl (Nat.le_of_ble_eq_true rfl) rfl)))))
  have e1 : bitsAt w 3 2 = 1 := (skip q0 nn.isLt 0 2 rfl rfl).trans (low q1 z1 rfl)
  have n0 : ¬ bitsAt w 0 14 = 0 := differs ((skip q0 nn.isLt 0 1 rfl rfl).trans (part q1 z1 0 1 rfl (Nat.le_of_ble_eq_true rfl) rfl)) 3 rfl (Nat.le_of_ble_eq_true rfl) (by decide)
  have f0 : fieldAt w 14 6 = a := fieldAt_eq ((skip q0 nn.isLt 11 6 rfl rfl).trans ((skip q1 z1 9 6 rfl rfl).trans ((skip q2 l.isLt 6 6 rfl rfl).trans ((skip q3 b.isLt 0 6 rfl rfl).trans (low q4 a.isLt rfl)))))
  have f1 : fieldAt w 8 6 = b := fieldAt_eq ((skip q0 nn.isLt 5 6 rfl rfl).trans ((skip q1 z1 3 6 rfl rfl).trans ((skip q2 l.isLt 0 6 rfl rfl).trans (low q3 b.isLt rfl))))
  have f2 : fieldAt w 5 3 = l := fieldAt_eq ((skip q0 nn.isLt 2 3 rfl rfl).trans ((skip q1 z1 0 3 rfl rfl).trans (low q2 l.isLt rfl)))
  have f3 : fieldAt w 0 3 = nn := fieldAt_eq (low q0 nn.isLt rfl)
  refine ⟨Nat.lt_of_lt_of_le (bound q0 nn.isLt (bound q1 z1 (bound q2 l.isLt (bound q3 b.isLt (bound q4 a.isLt (bound q5 z5 (Nat.lt_succ_of_le hk) rfl) rfl) rfl) rfl) rfl) rfl) (Nat.le_of_ble_eq_true rfl), (skip q0 nn.isLt 28 1 rfl rfl).trans ((skip q1 z1 26 1 rfl rfl).trans ((skip q2 l.isLt 23 1 rfl rfl).trans ((skip q3 b.isLt 17 1 rfl rfl).trans ((skip q4 a.isLt 11 1 rfl rfl).trans ((skip q5 z5 0 1 rfl rfl).trans (top hk)))))), ?_⟩
  rw [major1B w m0]
  simp [decodeMajor1B, e0, e1, n0, f0, f1, f2, f3]

theorem mma (a : BitVec 6) (l : BitVec 3) (nn : BitVec 3) : Statement (.mma a l nn) := by
  refine of_fields rfl ?_
  intro k hk w hw
  obtain ⟨r5, q5⟩ : ∃ r, r = 868 + 2048 * k := ⟨_, rfl⟩
  obtain ⟨r4, q4⟩ : ∃ r, r = a.toNat + 64 * r5 := ⟨_, rfl⟩
  obtain ⟨r3, q3⟩ : ∃ r, r = 0 + 64 * r4 := ⟨_, rfl⟩
  obtain ⟨r2, q2⟩ : ∃ r, r = l.toNat + 8 * r3 := ⟨_, rfl⟩
  obtain ⟨r1, q1⟩ : ∃ r, r = 0 + 4 * r2 := ⟨_, rfl⟩
  have q0 : w = nn.toNat + 8 * r1 := by simp only [assemble] at hw; omega
  have z1 : 0 < 2 ^ 2 := Nat.le_of_ble_eq_true rfl
  have z3 : 0 < 2 ^ 6 := Nat.le_of_ble_eq_true rfl
  have z5 : 868 < 2 ^ 11 := Nat.le_of_ble_eq_true rfl
  have m0 : bitsAt w 25 6 = 27 := (skip q0 nn.isLt 22 6 rfl rfl).trans ((skip q1 z1 20 6 rfl rfl).trans ((skip q2 l.isLt 17 6 rfl rfl).trans ((skip q3 z3 11 6 rfl rfl).trans ((skip q4 a.isLt 5 6 rfl rfl).trans (part q5 z5 5 6 rfl (Nat.le_of_ble_eq_true rfl) rfl)))))
  have e0 : bitsAt w 20 5 = 4 := (skip q0 nn.isLt 17 5 rfl rfl).trans ((skip q1 z1 15 5 rfl rfl).trans ((skip q2 l.isLt 12 5 rfl rfl).trans ((skip q3 z3 6 5 rfl rfl).trans ((skip q4 a.isLt 0 5 rfl rfl).trans (part q5 z5 0 5 rfl (Nat.le_of_ble_eq_true rfl) rfl)))))
  have e1 : bitsAt w 3 2 = 0 := (skip q0 nn.isLt 0 2 rfl rfl).trans (low q1 z1 rfl)
  have e2 : bitsAt w 8 6 = 0 := (skip q0 nn.isLt 5 6 rfl rfl).trans ((skip q1 z1 3 6 rfl rfl).trans ((skip q2 l.isLt 0 6 rfl rfl).trans (low q3 z3 rfl)))
  have f0 : fieldAt w 14 6 = a := fieldAt_eq ((skip q0 nn.isLt 11 6 rfl rfl).trans ((skip q1 z1 9 6 rfl rfl).trans ((skip q2 l.isLt 6 6 rfl rfl).trans ((skip q3 z3 0 6 rfl rfl).trans (low q4 a.isLt rfl)))))
  have f1 : fieldAt w 5 3 = l := fieldAt_eq ((skip q0 nn.isLt 2 3 rfl rfl).trans ((skip q1 z1 0 3 rfl rfl).trans (low q2 l.isLt rfl)))
  have f2 : fieldAt w 0 3 = nn := fieldAt_eq (low q0 nn.isLt rfl)
  refine ⟨Nat.lt_of_lt_of_le (bound q0 nn.isLt (bound q1 z1 (bound q2 l.isLt (bound q3 z3 (bound q4 a.isLt (bound q5 z5 (Nat.lt_succ_of_le hk) rfl) rfl) rfl) rfl) rfl) rfl) (Nat.le_of_ble_eq_true rfl), (skip q0 nn.isLt 28 1 rfl rfl).trans ((skip q1 z1 26 1 rfl rfl).trans ((skip q2 l.isLt 23 1 rfl rfl).trans ((skip q3 z3 17 1 rfl rfl).trans ((skip q4 a.isLt 11 1 rfl rfl).trans ((skip q5 z5 0 1 rfl rfl).trans (top hk)))))), ?_⟩
  rw [major1B w m0]
  simp [decodeMajor1B, e0, e1, e2, f0, f1, f2]

theorem mmaMc (a : BitVec 6) (b : BitVec 6) (l : BitVec 3) (nn : BitVec 3) : Statement (.mmaMc a b l nn) := by
  refine of_fields rfl ?_
  intro k hk w hw
  obtain ⟨r5, q5⟩ : ∃ r, r = 868 + 2048 * k := ⟨_, rfl⟩
  obtain ⟨r4, q4⟩ : ∃ r, r = a.toNat + 64 * r5 := ⟨_, rfl⟩
  obtain ⟨r3, q3⟩ : ∃ r, r = b.toNat + 64 * r4 := ⟨_, rfl⟩
  obtain ⟨r2, q2⟩ : ∃ r, r = l.toNat + 8 * r3 := ⟨_, rfl⟩
  obtain ⟨r1, q1⟩ : ∃ r, r = 1 + 4 * r2 := ⟨_, rfl⟩
  have q0 : w = nn.toNat + 8 * r1 := by simp only [assemble] at hw; omega
  have z1 : 1 < 2 ^ 2 := Nat.le_of_ble_eq_true rfl
  have z5 : 868 < 2 ^ 11 := Nat.le_of_ble_eq_true rfl
  have m0 : bitsAt w 25 6 = 27 := (skip q0 nn.isLt 22 6 rfl rfl).trans ((skip q1 z1 20 6 rfl rfl).trans ((skip q2 l.isLt 17 6 rfl rfl).trans ((skip q3 b.isLt 11 6 rfl rfl).trans ((skip q4 a.isLt 5 6 rfl rfl).trans (part q5 z5 5 6 rfl (Nat.le_of_ble_eq_true rfl) rfl)))))
  have e0 : bitsAt w 20 5 = 4 := (skip q0 nn.isLt 17 5 rfl rfl).trans ((skip q1 z1 15 5 rfl rfl).trans ((skip q2 l.isLt 12 5 rfl rfl).trans ((skip q3 b.isLt 6 5 rfl rfl).trans ((skip q4 a.isLt 0 5 rfl rfl).trans (part q5 z5 0 5 rfl (Nat.le_of_ble_eq_true rfl) rfl)))))
  have e1 : bitsAt w 3 2 = 1 := (skip q0 nn.isLt 0 2 rfl rfl).trans (low q1 z1 rfl)
  have f0 : fieldAt w 14 6 = a := fieldAt_eq ((skip q0 nn.isLt 11 6 rfl rfl).trans ((skip q1 z1 9 6 rfl rfl).trans ((skip q2 l.isLt 6 6 rfl rfl).trans ((skip q3 b.isLt 0 6 rfl rfl).trans (low q4 a.isLt rfl)))))
  have f1 : fieldAt w 8 6 = b := fieldAt_eq ((skip q0 nn.isLt 5 6 rfl rfl).trans ((skip q1 z1 3 6 rfl rfl).trans ((skip q2 l.isLt 0 6 rfl rfl).trans (low q3 b.isLt rfl))))
  have f2 : fieldAt w 5 3 = l := fieldAt_eq ((skip q0 nn.isLt 2 3 rfl rfl).trans ((skip q1 z1 0 3 rfl rfl).trans (low q2 l.isLt rfl)))
  have f3 : fieldAt w 0 3 = nn := fieldAt_eq (low q0 nn.isLt rfl)
  refine ⟨Nat.lt_of_lt_of_le (bound q0 nn.isLt (bound q1 z1 (bound q2 l.isLt (bound q3 b.isLt (bound q4 a.isLt (bound q5 z5 (Nat.lt_succ_of_le hk) rfl) rfl) rfl) rfl) rfl) rfl) (Nat.le_of_ble_eq_true rfl), (skip q0 nn.isLt 28 1 rfl rfl).trans ((skip q1 z1 26 1 rfl rfl).trans ((skip q2 l.isLt 23 1 rfl rfl).trans ((skip q3 b.isLt 17 1 rfl rfl).trans ((skip q4 a.isLt 11 1 rfl rfl).trans ((skip q5 z5 0 1 rfl rfl).trans (top hk)))))), ?_⟩
  rw [major1B w m0]
  simp [decodeMajor1B, e0, e1, f0, f1, f2, f3]

theorem accz (nn : BitVec 3) : Statement (.accz nn) := by
  refine of_fields rfl ?_
  intro k hk w hw
  obtain ⟨r1, q1⟩ : ∃ r, r = 113901568 + 268435456 * k := ⟨_, rfl⟩
  have q0 : w = nn.toNat + 8 * r1 := by simp only [assemble] at hw; omega
  have z1 : 113901568 < 2 ^ 28 := Nat.le_of_ble_eq_true rfl
  have m0 : bitsAt w 25 6 = 27 := (skip q0 nn.isLt 22 6 rfl rfl).trans (part q1 z1 22 6 rfl (Nat.le_of_ble_eq_true rfl) rfl)
  have e0 : bitsAt w 20 5 = 5 := (skip q0 nn.isLt 17 5 rfl rfl).trans (part q1 z1 17 5 rfl (Nat.le_of_ble_eq_true rfl) rfl)
  have e1 : bitsAt w 3 2 = 0 := (skip q0 nn.isLt 0 2 rfl rfl).trans (part q1 z1 0 2 rfl (Nat.le_of_ble_eq_true rfl) rfl)
  have e2 : bitsAt w 8 6 = 0 := (skip q0 nn.isLt 5 6 rfl rfl).trans (part q1 z1 5 6 rfl (Nat.le_of_ble_eq_true rfl) rfl)
  have e3 : bitsAt w 3 22 = 655360 := (skip q0 nn.isLt 0 22 rfl rfl).trans (part q1 z1 0 22 rfl (Nat.le_of_ble_eq_true rfl) rfl)
  have f0 : fieldAt w 0 3 = nn := fieldAt_eq (low q0 nn.isLt rfl)
  refine ⟨Nat.lt_of_lt_of_le (bound q0 nn.isLt (bound q1 z1 (Nat.lt_succ_of_le hk) rfl) rfl) (Nat.le_of_ble_eq_true rfl), (skip q0 nn.isLt 28 1 rfl rfl).trans ((skip q1 z1 0 1 rfl rfl).trans (top hk)), ?_⟩
  rw [major1B w m0]
  simp [decodeMajor1B, e0, e1, e2, e3, f0]

theorem accld (a : BitVec 6) (l : BitVec 3) (nn : BitVec 3) : Statement (.accld a l nn) := by
  refine of_fields rfl ?_
  intro k hk w hw
  obtain ⟨r5, q5⟩ : ∃ r, r = 870 + 2048 * k := ⟨_, rfl⟩
  obtain ⟨r4, q4⟩ : ∃ r, r = a.toNat + 64 * r5 := ⟨_, rfl⟩
  obtain ⟨r3, q3⟩ : ∃ r, r = 0 + 64 * r4 := ⟨_, rfl⟩
  obtain ⟨r2, q2⟩ : ∃ r, r = l.toNat + 8 * r3 := ⟨_, rfl⟩
  obtain ⟨r1, q1⟩ : ∃ r, r = 0 + 4 * r2 := ⟨_, rfl⟩
  have q0 : w = nn.toNat + 8 * r1 := by simp only [assemble] at hw; omega
  have z1 : 0 < 2 ^ 2 := Nat.le_of_ble_eq_true rfl
  have z3 : 0 < 2 ^ 6 := Nat.le_of_ble_eq_true rfl
  have z5 : 870 < 2 ^ 11 := Nat.le_of_ble_eq_true rfl
  have m0 : bitsAt w 25 6 = 27 := (skip q0 nn.isLt 22 6 rfl rfl).trans ((skip q1 z1 20 6 rfl rfl).trans ((skip q2 l.isLt 17 6 rfl rfl).trans ((skip q3 z3 11 6 rfl rfl).trans ((skip q4 a.isLt 5 6 rfl rfl).trans (part q5 z5 5 6 rfl (Nat.le_of_ble_eq_true rfl) rfl)))))
  have e0 : bitsAt w 20 5 = 6 := (skip q0 nn.isLt 17 5 rfl rfl).trans ((skip q1 z1 15 5 rfl rfl).trans ((skip q2 l.isLt 12 5 rfl rfl).trans ((skip q3 z3 6 5 rfl rfl).trans ((skip q4 a.isLt 0 5 rfl rfl).trans (part q5 z5 0 5 rfl (Nat.le_of_ble_eq_true rfl) rfl)))))
  have e1 : bitsAt w 3 2 = 0 := (skip q0 nn.isLt 0 2 rfl rfl).trans (low q1 z1 rfl)
  have e2 : bitsAt w 8 6 = 0 := (skip q0 nn.isLt 5 6 rfl rfl).trans ((skip q1 z1 3 6 rfl rfl).trans ((skip q2 l.isLt 0 6 rfl rfl).trans (low q3 z3 rfl)))
  have n0 : ¬ bitsAt w 3 22 = 655360 := differs ((skip q0 nn.isLt 17 1 rfl rfl).trans ((skip q1 z1 15 1 rfl rfl).trans ((skip q2 l.isLt 12 1 rfl rfl).trans ((skip q3 z3 6 1 rfl rfl).trans ((skip q4 a.isLt 0 1 rfl rfl).trans (part q5 z5 0 1 rfl (Nat.le_of_ble_eq_true rfl) rfl)))))) 17 rfl (Nat.le_of_ble_eq_true rfl) (by decide)
  have f0 : fieldAt w 14 6 = a := fieldAt_eq ((skip q0 nn.isLt 11 6 rfl rfl).trans ((skip q1 z1 9 6 rfl rfl).trans ((skip q2 l.isLt 6 6 rfl rfl).trans ((skip q3 z3 0 6 rfl rfl).trans (low q4 a.isLt rfl)))))
  have f1 : fieldAt w 5 3 = l := fieldAt_eq ((skip q0 nn.isLt 2 3 rfl rfl).trans ((skip q1 z1 0 3 rfl rfl).trans (low q2 l.isLt rfl)))
  have f2 : fieldAt w 0 3 = nn := fieldAt_eq (low q0 nn.isLt rfl)
  refine ⟨Nat.lt_of_lt_of_le (bound q0 nn.isLt (bound q1 z1 (bound q2 l.isLt (bound q3 z3 (bound q4 a.isLt (bound q5 z5 (Nat.lt_succ_of_le hk) rfl) rfl) rfl) rfl) rfl) rfl) (Nat.le_of_ble_eq_true rfl), (skip q0 nn.isLt 28 1 rfl rfl).trans ((skip q1 z1 26 1 rfl rfl).trans ((skip q2 l.isLt 23 1 rfl rfl).trans ((skip q3 z3 17 1 rfl rfl).trans ((skip q4 a.isLt 11 1 rfl rfl).trans ((skip q5 z5 0 1 rfl rfl).trans (top hk)))))), ?_⟩
  rw [major1B w m0]
  simp [decodeMajor1B, e0, e1, e2, n0, f0, f1, f2]

theorem accst (a : BitVec 6) (l : BitVec 3) (nn : BitVec 3) : Statement (.accst a l nn) := by
  refine of_fields rfl ?_
  intro k hk w hw
  obtain ⟨r5, q5⟩ : ∃ r, r = 871 + 2048 * k := ⟨_, rfl⟩
  obtain ⟨r4, q4⟩ : ∃ r, r = a.toNat + 64 * r5 := ⟨_, rfl⟩
  obtain ⟨r3, q3⟩ : ∃ r, r = 0 + 64 * r4 := ⟨_, rfl⟩
  obtain ⟨r2, q2⟩ : ∃ r, r = l.toNat + 8 * r3 := ⟨_, rfl⟩
  obtain ⟨r1, q1⟩ : ∃ r, r = 0 + 4 * r2 := ⟨_, rfl⟩
  have q0 : w = nn.toNat + 8 * r1 := by simp only [assemble] at hw; omega
  have z1 : 0 < 2 ^ 2 := Nat.le_of_ble_eq_true rfl
  have z3 : 0 < 2 ^ 6 := Nat.le_of_ble_eq_true rfl
  have z5 : 871 < 2 ^ 11 := Nat.le_of_ble_eq_true rfl
  have m0 : bitsAt w 25 6 = 27 := (skip q0 nn.isLt 22 6 rfl rfl).trans ((skip q1 z1 20 6 rfl rfl).trans ((skip q2 l.isLt 17 6 rfl rfl).trans ((skip q3 z3 11 6 rfl rfl).trans ((skip q4 a.isLt 5 6 rfl rfl).trans (part q5 z5 5 6 rfl (Nat.le_of_ble_eq_true rfl) rfl)))))
  have e0 : bitsAt w 20 5 = 7 := (skip q0 nn.isLt 17 5 rfl rfl).trans ((skip q1 z1 15 5 rfl rfl).trans ((skip q2 l.isLt 12 5 rfl rfl).trans ((skip q3 z3 6 5 rfl rfl).trans ((skip q4 a.isLt 0 5 rfl rfl).trans (part q5 z5 0 5 rfl (Nat.le_of_ble_eq_true rfl) rfl)))))
  have e1 : bitsAt w 3 2 = 0 := (skip q0 nn.isLt 0 2 rfl rfl).trans (low q1 z1 rfl)
  have e2 : bitsAt w 8 6 = 0 := (skip q0 nn.isLt 5 6 rfl rfl).trans ((skip q1 z1 3 6 rfl rfl).trans ((skip q2 l.isLt 0 6 rfl rfl).trans (low q3 z3 rfl)))
  have n0 : ¬ bitsAt w 3 22 = 655360 := differs ((skip q0 nn.isLt 18 1 rfl rfl).trans ((skip q1 z1 16 1 rfl rfl).trans ((skip q2 l.isLt 13 1 rfl rfl).trans ((skip q3 z3 7 1 rfl rfl).trans ((skip q4 a.isLt 1 1 rfl rfl).trans (part q5 z5 1 1 rfl (Nat.le_of_ble_eq_true rfl) rfl)))))) 18 rfl (Nat.le_of_ble_eq_true rfl) (by decide)
  have f0 : fieldAt w 14 6 = a := fieldAt_eq ((skip q0 nn.isLt 11 6 rfl rfl).trans ((skip q1 z1 9 6 rfl rfl).trans ((skip q2 l.isLt 6 6 rfl rfl).trans ((skip q3 z3 0 6 rfl rfl).trans (low q4 a.isLt rfl)))))
  have f1 : fieldAt w 5 3 = l := fieldAt_eq ((skip q0 nn.isLt 2 3 rfl rfl).trans ((skip q1 z1 0 3 rfl rfl).trans (low q2 l.isLt rfl)))
  have f2 : fieldAt w 0 3 = nn := fieldAt_eq (low q0 nn.isLt rfl)
  refine ⟨Nat.lt_of_lt_of_le (bound q0 nn.isLt (bound q1 z1 (bound q2 l.isLt (bound q3 z3 (bound q4 a.isLt (bound q5 z5 (Nat.lt_succ_of_le hk) rfl) rfl) rfl) rfl) rfl) rfl) (Nat.le_of_ble_eq_true rfl), (skip q0 nn.isLt 28 1 rfl rfl).trans ((skip q1 z1 26 1 rfl rfl).trans ((skip q2 l.isLt 23 1 rfl rfl).trans ((skip q3 z3 17 1 rfl rfl).trans ((skip q4 a.isLt 11 1 rfl rfl).trans ((skip q5 z5 0 1 rfl rfl).trans (top hk)))))), ?_⟩
  rw [major1B w m0]
  simp [decodeMajor1B, e0, e1, e2, n0, f0, f1, f2]

theorem cxopenIntersect (a : BitVec 6) (b : BitVec 6) (nn : BitVec 2) : Statement (.cxopenIntersect a b nn) := by
  refine of_fields rfl ?_
  intro k hk w hw
  obtain ⟨r4, q4⟩ : ∃ r, r = 872 + 2048 * k := ⟨_, rfl⟩
  obtain ⟨r3, q3⟩ : ∃ r, r = a.toNat + 64 * r4 := ⟨_, rfl⟩
  obtain ⟨r2, q2⟩ : ∃ r, r = b.toNat + 64 * r3 := ⟨_, rfl⟩
  obtain ⟨r1, q1⟩ : ∃ r, r = 0 + 64 * r2 := ⟨_, rfl⟩
  have q0 : w = nn.toNat + 4 * r1 := by simp only [assemble] at hw; omega
  have z1 : 0 < 2 ^ 6 := Nat.le_of_ble_eq_true rfl
  have z4 : 872 < 2 ^ 11 := Nat.le_of_ble_eq_true rfl
  have m0 : bitsAt w 25 6 = 27 := (skip q0 nn.isLt 23 6 rfl rfl).trans ((skip q1 z1 17 6 rfl rfl).trans ((skip q2 b.isLt 11 6 rfl rfl).trans ((skip q3 a.isLt 5 6 rfl rfl).trans (part q4 z4 5 6 rfl (Nat.le_of_ble_eq_true rfl) rfl))))
  have e0 : bitsAt w 20 5 = 8 := (skip q0 nn.isLt 18 5 rfl rfl).trans ((skip q1 z1 12 5 rfl rfl).trans ((skip q2 b.isLt 6 5 rfl rfl).trans ((skip q3 a.isLt 0 5 rfl rfl).trans (part q4 z4 0 5 rfl (Nat.le_of_ble_eq_true rfl) rfl))))
  have e1 : bitsAt w 3 2 = 0 := (skip q0 nn.isLt 1 2 rfl rfl).trans (part q1 z1 1 2 rfl (Nat.le_of_ble_eq_true rfl) rfl)
  have e2 : bitsAt w 2 6 = 0 := (skip q0 nn.isLt 0 6 rfl rfl).trans (low q1 z1 rfl)
  have n0 : ¬ bitsAt w 3 22 = 655360 := differs ((skip q0 nn.isLt 18 1 rfl rfl).trans ((skip q1 z1 12 1 rfl rfl).trans ((skip q2 b.isLt 6 1 rfl rfl).trans ((skip q3 a.isLt 0 1 rfl rfl).trans (part q4 z4 0 1 rfl (Nat.le_of_ble_eq_true rfl) rfl))))) 17 rfl (Nat.le_of_ble_eq_true rfl) (by decide)
  have f0 : fieldAt w 14 6 = a := fieldAt_eq ((skip q0 nn.isLt 12 6 rfl rfl).trans ((skip q1 z1 6 6 rfl rfl).trans ((skip q2 b.isLt 0 6 rfl rfl).trans (low q3 a.isLt rfl))))
  have f1 : fieldAt w 8 6 = b := fieldAt_eq ((skip q0 nn.isLt 6 6 rfl rfl).trans ((skip q1 z1 0 6 rfl rfl).trans (low q2 b.isLt rfl)))
  have f2 : fieldAt w 0 2 = nn := fieldAt_eq (low q0 nn.isLt rfl)
  refine ⟨Nat.lt_of_lt_of_le (bound q0 nn.isLt (bound q1 z1 (bound q2 b.isLt (bound q3 a.isLt (bound q4 z4 (Nat.lt_succ_of_le hk) rfl) rfl) rfl) rfl) rfl) (Nat.le_of_ble_eq_true rfl), (skip q0 nn.isLt 29 1 rfl rfl).trans ((skip q1 z1 23 1 rfl rfl).trans ((skip q2 b.isLt 17 1 rfl rfl).trans ((skip q3 a.isLt 11 1 rfl rfl).trans ((skip q4 z4 0 1 rfl rfl).trans (top hk))))), ?_⟩
  rw [major1B w m0]
  simp [decodeMajor1B, e0, e1, e2, n0, f0, f1, f2]

theorem cxopenUnion (a : BitVec 6) (b : BitVec 6) (nn : BitVec 2) : Statement (.cxopenUnion a b nn) := by
  refine of_fields rfl ?_
  intro k hk w hw
  obtain ⟨r4, q4⟩ : ∃ r, r = 872 + 2048 * k := ⟨_, rfl⟩
  obtain ⟨r3, q3⟩ : ∃ r, r = a.toNat + 64 * r4 := ⟨_, rfl⟩
  obtain ⟨r2, q2⟩ : ∃ r, r = b.toNat + 64 * r3 := ⟨_, rfl⟩
  obtain ⟨r1, q1⟩ : ∃ r, r = 8 + 64 * r2 := ⟨_, rfl⟩
  have q0 : w = nn.toNat + 4 * r1 := by simp only [assemble] at hw; omega
  have z1 : 8 < 2 ^ 6 := Nat.le_of_ble_eq_true rfl
  have z4 : 872 < 2 ^ 11 := Nat.le_of_ble_eq_true rfl
  have m0 : bitsAt w 25 6 = 27 := (skip q0 nn.isLt 23 6 rfl rfl).trans ((skip q1 z1 17 6 rfl rfl).trans ((skip q2 b.isLt 11 6 rfl rfl).trans ((skip q3 a.isLt 5 6 rfl rfl).trans (part q4 z4 5 6 rfl (Nat.le_of_ble_eq_true rfl) rfl))))
  have e0 : bitsAt w 20 5 = 8 := (skip q0 nn.isLt 18 5 rfl rfl).trans ((skip q1 z1 12 5 rfl rfl).trans ((skip q2 b.isLt 6 5 rfl rfl).trans ((skip q3 a.isLt 0 5 rfl rfl).trans (part q4 z4 0 5 rfl (Nat.le_of_ble_eq_true rfl) rfl))))
  have e1 : bitsAt w 3 2 = 0 := (skip q0 nn.isLt 1 2 rfl rfl).trans (part q1 z1 1 2 rfl (Nat.le_of_ble_eq_true rfl) rfl)
  have e2 : bitsAt w 2 6 = 8 := (skip q0 nn.isLt 0 6 rfl rfl).trans (low q1 z1 rfl)
  have n0 : ¬ bitsAt w 3 22 = 655360 := differs ((skip q0 nn.isLt 3 1 rfl rfl).trans (part q1 z1 3 1 rfl (Nat.le_of_ble_eq_true rfl) rfl)) 2 rfl (Nat.le_of_ble_eq_true rfl) (by decide)
  have f0 : fieldAt w 14 6 = a := fieldAt_eq ((skip q0 nn.isLt 12 6 rfl rfl).trans ((skip q1 z1 6 6 rfl rfl).trans ((skip q2 b.isLt 0 6 rfl rfl).trans (low q3 a.isLt rfl))))
  have f1 : fieldAt w 8 6 = b := fieldAt_eq ((skip q0 nn.isLt 6 6 rfl rfl).trans ((skip q1 z1 0 6 rfl rfl).trans (low q2 b.isLt rfl)))
  have f2 : fieldAt w 0 2 = nn := fieldAt_eq (low q0 nn.isLt rfl)
  refine ⟨Nat.lt_of_lt_of_le (bound q0 nn.isLt (bound q1 z1 (bound q2 b.isLt (bound q3 a.isLt (bound q4 z4 (Nat.lt_succ_of_le hk) rfl) rfl) rfl) rfl) rfl) (Nat.le_of_ble_eq_true rfl), (skip q0 nn.isLt 29 1 rfl rfl).trans ((skip q1 z1 23 1 rfl rfl).trans ((skip q2 b.isLt 17 1 rfl rfl).trans ((skip q3 a.isLt 11 1 rfl rfl).trans ((skip q4 z4 0 1 rfl rfl).trans (top hk))))), ?_⟩
  rw [major1B w m0]
  simp [decodeMajor1B, e0, e1, e2, n0, f0, f1, f2]

theorem cxopenExpand (a : BitVec 6) (nn : BitVec 2) : Statement (.cxopenExpand a nn) := by
  refine of_fields rfl ?_
  intro k hk w hw
  obtain ⟨r3, q3⟩ : ∃ r, r = 872 + 2048 * k := ⟨_, rfl⟩
  obtain ⟨r2, q2⟩ : ∃ r, r = a.toNat + 64 * r3 := ⟨_, rfl⟩
  obtain ⟨r1, q1⟩ : ∃ r, r = 16 + 4096 * r2 := ⟨_, rfl⟩
  have q0 : w = nn.toNat + 4 * r1 := by simp only [assemble] at hw; omega
  have z1 : 16 < 2 ^ 12 := Nat.le_of_ble_eq_true rfl
  have z3 : 872 < 2 ^ 11 := Nat.le_of_ble_eq_true rfl
  have m0 : bitsAt w 25 6 = 27 := (skip q0 nn.isLt 23 6 rfl rfl).trans ((skip q1 z1 11 6 rfl rfl).trans ((skip q2 a.isLt 5 6 rfl rfl).trans (part q3 z3 5 6 rfl (Nat.le_of_ble_eq_true rfl) rfl)))
  have e0 : bitsAt w 20 5 = 8 := (skip q0 nn.isLt 18 5 rfl rfl).trans ((skip q1 z1 6 5 rfl rfl).trans ((skip q2 a.isLt 0 5 rfl rfl).trans (part q3 z3 0 5 rfl (Nat.le_of_ble_eq_true rfl) rfl)))
  have e1 : bitsAt w 3 2 = 0 := (skip q0 nn.isLt 1 2 rfl rfl).trans (part q1 z1 1 2 rfl (Nat.le_of_ble_eq_true rfl) rfl)
  have e2 : bitsAt w 8 6 = 0 := (skip q0 nn.isLt 6 6 rfl rfl).trans (part q1 z1 6 6 rfl (Nat.le_of_ble_eq_true rfl) rfl)
  have e3 : bitsAt w 2 6 = 16 := (skip q0 nn.isLt 0 6 rfl rfl).trans (part q1 z1 0 6 rfl (Nat.le_of_ble_eq_true rfl) rfl)
  have e4 : bitsAt w 2 12 = 16 := (skip q0 nn.isLt 0 12 rfl rfl).trans (low q1 z1 rfl)
  have n0 : ¬ bitsAt w 3 22 = 655360 := differs ((skip q0 nn.isLt 4 1 rfl rfl).trans (part q1 z1 4 1 rfl (Nat.le_of_ble_eq_true rfl) rfl)) 3 rfl (Nat.le_of_ble_eq_true rfl) (by decide)
  have f0 : fieldAt w 14 6 = a := fieldAt_eq ((skip q0 nn.isLt 12 6 rfl rfl).trans ((skip q1 z1 0 6 rfl rfl).trans (low q2 a.isLt rfl)))
  have f1 : fieldAt w 0 2 = nn := fieldAt_eq (low q0 nn.isLt rfl)
  refine ⟨Nat.lt_of_lt_of_le (bound q0 nn.isLt (bound q1 z1 (bound q2 a.isLt (bound q3 z3 (Nat.lt_succ_of_le hk) rfl) rfl) rfl) rfl) (Nat.le_of_ble_eq_true rfl), (skip q0 nn.isLt 29 1 rfl rfl).trans ((skip q1 z1 17 1 rfl rfl).trans ((skip q2 a.isLt 11 1 rfl rfl).trans ((skip q3 z3 0 1 rfl rfl).trans (top hk)))), ?_⟩
  rw [major1B w m0]
  simp [decodeMajor1B, e0, e1, e2, e3, e4, n0, f0, f1]

theorem cxnext (v : BitVec 6) (d : BitVec 6) (p : BitVec 3) (nn : BitVec 2) : Statement (.cxnext v d p nn) := by
  refine of_fields rfl ?_
  intro k hk w hw
  obtain ⟨r5, q5⟩ : ∃ r, r = 873 + 2048 * k := ⟨_, rfl⟩
  obtain ⟨r4, q4⟩ : ∃ r, r = v.toNat + 64 * r5 := ⟨_, rfl⟩
  obtain ⟨r3, q3⟩ : ∃ r, r = d.toNat + 64 * r4 := ⟨_, rfl⟩
  obtain ⟨r2, q2⟩ : ∃ r, r = p.toNat + 8 * r3 := ⟨_, rfl⟩
  obtain ⟨r1, q1⟩ : ∃ r, r = 0 + 8 * r2 := ⟨_, rfl⟩
  have q0 : w = nn.toNat + 4 * r1 := by simp only [assemble] at hw; omega
  have z1 : 0 < 2 ^ 3 := Nat.le_of_ble_eq_true rfl
  have z5 : 873 < 2 ^ 11 := Nat.le_of_ble_eq_true rfl
  have m0 : bitsAt w 25 6 = 27 := (skip q0 nn.isLt 23 6 rfl rfl).trans ((skip q1 z1 20 6 rfl rfl).trans ((skip q2 p.isLt 17 6 rfl rfl).trans ((skip q3 d.isLt 11 6 rfl rfl).trans ((skip q4 v.isLt 5 6 rfl rfl).trans (part q5 z5 5 6 rfl (Nat.le_of_ble_eq_true rfl) rfl)))))
  have e0 : bitsAt w 20 5 = 9 := (skip q0 nn.isLt 18 5 rfl rfl).trans ((skip q1 z1 15 5 rfl rfl).trans ((skip q2 p.isLt 12 5 rfl rfl).trans ((skip q3 d.isLt 6 5 rfl rfl).trans ((skip q4 v.isLt 0 5 rfl rfl).trans (part q5 z5 0 5 rfl (Nat.le_of_ble_eq_true rfl) rfl)))))
  have e1 : bitsAt w 3 2 = 0 := (skip q0 nn.isLt 1 2 rfl rfl).trans (part q1 z1 1 2 rfl (Nat.le_of_ble_eq_true rfl) rfl)
  have e2 : bitsAt w 2 3 = 0 := (skip q0 nn.isLt 0 3 rfl rfl).trans (low q1 z1 rfl)
  have n0 : ¬ bitsAt w 3 22 = 655360 := differs ((skip q0 nn.isLt 20 1 rfl rfl).trans ((skip q1 z1 17 1 rfl rfl).trans ((skip q2 p.isLt 14 1 rfl rfl).trans ((skip q3 d.isLt 8 1 rfl rfl).trans ((skip q4 v.isLt 2 1 rfl rfl).trans (part q5 z5 2 1 rfl (Nat.le_of_ble_eq_true rfl) rfl)))))) 19 rfl (Nat.le_of_ble_eq_true rfl) (by decide)
  have f0 : fieldAt w 14 6 = v := fieldAt_eq ((skip q0 nn.isLt 12 6 rfl rfl).trans ((skip q1 z1 9 6 rfl rfl).trans ((skip q2 p.isLt 6 6 rfl rfl).trans ((skip q3 d.isLt 0 6 rfl rfl).trans (low q4 v.isLt rfl)))))
  have f1 : fieldAt w 8 6 = d := fieldAt_eq ((skip q0 nn.isLt 6 6 rfl rfl).trans ((skip q1 z1 3 6 rfl rfl).trans ((skip q2 p.isLt 0 6 rfl rfl).trans (low q3 d.isLt rfl))))
  have f2 : fieldAt w 5 3 = p := fieldAt_eq ((skip q0 nn.isLt 3 3 rfl rfl).trans ((skip q1 z1 0 3 rfl rfl).trans (low q2 p.isLt rfl)))
  have f3 : fieldAt w 0 2 = nn := fieldAt_eq (low q0 nn.isLt rfl)
  refine ⟨Nat.lt_of_lt_of_le (bound q0 nn.isLt (bound q1 z1 (bound q2 p.isLt (bound q3 d.isLt (bound q4 v.isLt (bound q5 z5 (Nat.lt_succ_of_le hk) rfl) rfl) rfl) rfl) rfl) rfl) (Nat.le_of_ble_eq_true rfl), (skip q0 nn.isLt 29 1 rfl rfl).trans ((skip q1 z1 26 1 rfl rfl).trans ((skip q2 p.isLt 23 1 rfl rfl).trans ((skip q3 d.isLt 17 1 rfl rfl).trans ((skip q4 v.isLt 11 1 rfl rfl).trans ((skip q5 z5 0 1 rfl rfl).trans (top hk)))))), ?_⟩
  rw [major1B w m0]
  simp [decodeMajor1B, e0, e1, e2, n0, f0, f1, f2, f3]

theorem cxsplit (a : BitVec 6) (b : BitVec 6) (nn : BitVec 2) : Statement (.cxsplit a b nn) := by
  refine of_fields rfl ?_
  intro k hk w hw
  obtain ⟨r4, q4⟩ : ∃ r, r = 874 + 2048 * k := ⟨_, rfl⟩
  obtain ⟨r3, q3⟩ : ∃ r, r = a.toNat + 64 * r4 := ⟨_, rfl⟩
  obtain ⟨r2, q2⟩ : ∃ r, r = b.toNat + 64 * r3 := ⟨_, rfl⟩
  obtain ⟨r1, q1⟩ : ∃ r, r = 0 + 64 * r2 := ⟨_, rfl⟩
  have q0 : w = nn.toNat + 4 * r1 := by simp only [assemble] at hw; omega
  have z1 : 0 < 2 ^ 6 := Nat.le_of_ble_eq_true rfl
  have z4 : 874 < 2 ^ 11 := Nat.le_of_ble_eq_true rfl
  have m0 : bitsAt w 25 6 = 27 := (skip q0 nn.isLt 23 6 rfl rfl).trans ((skip q1 z1 17 6 rfl rfl).trans ((skip q2 b.isLt 11 6 rfl rfl).trans ((skip q3 a.isLt 5 6 rfl rfl).trans (part q4 z4 5 6 rfl (Nat.le_of_ble_eq_true rfl) rfl))))
  have e0 : bitsAt w 20 5 = 10 := (skip q0 nn.isLt 18 5 rfl rfl).trans ((skip q1 z1 12 5 rfl rfl).trans ((skip q2 b.isLt 6 5 rfl rfl).trans ((skip q3 a.isLt 0 5 rfl rfl).trans (part q4 z4 0 5 rfl (Nat.le_of_ble_eq_true rfl) rfl))))
  have e1 : bitsAt w 3 2 = 0 := (skip q0 nn.isLt 1 2 rfl rfl).trans (part q1 z1 1 2 rfl (Nat.le_of_ble_eq_true rfl) rfl)
  have e2 : bitsAt w 2 6 = 0 := (skip q0 nn.isLt 0 6 rfl rfl).trans (low q1 z1 rfl)
  have e3 : bitsAt w 2 3 = 0 := (skip q0 nn.isLt 0 3 rfl rfl).trans (part q1 z1 0 3 rfl (Nat.le_of_ble_eq_true rfl) rfl)
  have n0 : ¬ bitsAt w 3 22 = 655360 := differs ((skip q0 nn.isLt 18 1 rfl rfl).trans ((skip q1 z1 12 1 rfl rfl).trans ((skip q2 b.isLt 6 1 rfl rfl).trans ((skip q3 a.isLt 0 1 rfl rfl).trans (part q4 z4 0 1 rfl (Nat.le_of_ble_eq_true rfl) rfl))))) 17 rfl (Nat.le_of_ble_eq_true rfl) (by decide)
  have f0 : fieldAt w 14 6 = a := fieldAt_eq ((skip q0 nn.isLt 12 6 rfl rfl).trans ((skip q1 z1 6 6 rfl rfl).trans ((skip q2 b.isLt 0 6 rfl rfl).trans (low q3 a.isLt rfl))))
  have f1 : fieldAt w 8 6 = b := fieldAt_eq ((skip q0 nn.isLt 6 6 rfl rfl).trans ((skip q1 z1 0 6 rfl rfl).trans (low q2 b.isLt rfl)))
  have f2 : fieldAt w 0 2 = nn := fieldAt_eq (low q0 nn.isLt rfl)
  refine ⟨Nat.lt_of_lt_of_le (bound q0 nn.isLt (bound q1 z1 (bound q2 b.isLt (bound q3 a.isLt (bound q4 z4 (Nat.lt_succ_of_le hk) rfl) rfl) rfl) rfl) rfl) (Nat.le_of_ble_eq_true rfl), (skip q0 nn.isLt 29 1 rfl rfl).trans ((skip q1 z1 23 1 rfl rfl).trans ((skip q2 b.isLt 17 1 rfl rfl).trans ((skip q3 a.isLt 11 1 rfl rfl).trans ((skip q4 z4 0 1 rfl rfl).trans (top hk))))), ?_⟩
  rw [major1B w m0]
  simp [decodeMajor1B, e0, e1, e2, e3, n0, f0, f1, f2]

theorem cxsave (a : BitVec 6) (nn : BitVec 2) : Statement (.cxsave a nn) := by
  refine of_fields rfl ?_
  intro k hk w hw
  obtain ⟨r3, q3⟩ : ∃ r, r = 875 + 2048 * k := ⟨_, rfl⟩
  obtain ⟨r2, q2⟩ : ∃ r, r = a.toNat + 64 * r3 := ⟨_, rfl⟩
  obtain ⟨r1, q1⟩ : ∃ r, r = 0 + 4096 * r2 := ⟨_, rfl⟩
  have q0 : w = nn.toNat + 4 * r1 := by simp only [assemble] at hw; omega
  have z1 : 0 < 2 ^ 12 := Nat.le_of_ble_eq_true rfl
  have z3 : 875 < 2 ^ 11 := Nat.le_of_ble_eq_true rfl
  have m0 : bitsAt w 25 6 = 27 := (skip q0 nn.isLt 23 6 rfl rfl).trans ((skip q1 z1 11 6 rfl rfl).trans ((skip q2 a.isLt 5 6 rfl rfl).trans (part q3 z3 5 6 rfl (Nat.le_of_ble_eq_true rfl) rfl)))
  have e0 : bitsAt w 20 5 = 11 := (skip q0 nn.isLt 18 5 rfl rfl).trans ((skip q1 z1 6 5 rfl rfl).trans ((skip q2 a.isLt 0 5 rfl rfl).trans (part q3 z3 0 5 rfl (Nat.le_of_ble_eq_true rfl) rfl)))
  have e1 : bitsAt w 3 2 = 0 := (skip q0 nn.isLt 1 2 rfl rfl).trans (part q1 z1 1 2 rfl (Nat.le_of_ble_eq_true rfl) rfl)
  have e2 : bitsAt w 8 6 = 0 := (skip q0 nn.isLt 6 6 rfl rfl).trans (part q1 z1 6 6 rfl (Nat.le_of_ble_eq_true rfl) rfl)
  have e3 : bitsAt w 2 6 = 0 := (skip q0 nn.isLt 0 6 rfl rfl).trans (part q1 z1 0 6 rfl (Nat.le_of_ble_eq_true rfl) rfl)
  have e4 : bitsAt w 2 12 = 0 := (skip q0 nn.isLt 0 12 rfl rfl).trans (low q1 z1 rfl)
  have e5 : bitsAt w 2 3 = 0 := (skip q0 nn.isLt 0 3 rfl rfl).trans (part q1 z1 0 3 rfl (Nat.le_of_ble_eq_true rfl) rfl)
  have n0 : ¬ bitsAt w 3 22 = 655360 := differs ((skip q0 nn.isLt 19 1 rfl rfl).trans ((skip q1 z1 7 1 rfl rfl).trans ((skip q2 a.isLt 1 1 rfl rfl).trans (part q3 z3 1 1 rfl (Nat.le_of_ble_eq_true rfl) rfl)))) 18 rfl (Nat.le_of_ble_eq_true rfl) (by decide)
  have f0 : fieldAt w 14 6 = a := fieldAt_eq ((skip q0 nn.isLt 12 6 rfl rfl).trans ((skip q1 z1 0 6 rfl rfl).trans (low q2 a.isLt rfl)))
  have f1 : fieldAt w 0 2 = nn := fieldAt_eq (low q0 nn.isLt rfl)
  refine ⟨Nat.lt_of_lt_of_le (bound q0 nn.isLt (bound q1 z1 (bound q2 a.isLt (bound q3 z3 (Nat.lt_succ_of_le hk) rfl) rfl) rfl) rfl) (Nat.le_of_ble_eq_true rfl), (skip q0 nn.isLt 29 1 rfl rfl).trans ((skip q1 z1 17 1 rfl rfl).trans ((skip q2 a.isLt 11 1 rfl rfl).trans ((skip q3 z3 0 1 rfl rfl).trans (top hk)))), ?_⟩
  rw [major1B w m0]
  simp [decodeMajor1B, e0, e1, e2, e3, e4, e5, n0, f0, f1]

theorem cxload (a : BitVec 6) (nn : BitVec 2) : Statement (.cxload a nn) := by
  refine of_fields rfl ?_
  intro k hk w hw
  obtain ⟨r3, q3⟩ : ∃ r, r = 876 + 2048 * k := ⟨_, rfl⟩
  obtain ⟨r2, q2⟩ : ∃ r, r = a.toNat + 64 * r3 := ⟨_, rfl⟩
  obtain ⟨r1, q1⟩ : ∃ r, r = 0 + 4096 * r2 := ⟨_, rfl⟩
  have q0 : w = nn.toNat + 4 * r1 := by simp only [assemble] at hw; omega
  have z1 : 0 < 2 ^ 12 := Nat.le_of_ble_eq_true rfl
  have z3 : 876 < 2 ^ 11 := Nat.le_of_ble_eq_true rfl
  have m0 : bitsAt w 25 6 = 27 := (skip q0 nn.isLt 23 6 rfl rfl).trans ((skip q1 z1 11 6 rfl rfl).trans ((skip q2 a.isLt 5 6 rfl rfl).trans (part q3 z3 5 6 rfl (Nat.le_of_ble_eq_true rfl) rfl)))
  have e0 : bitsAt w 20 5 = 12 := (skip q0 nn.isLt 18 5 rfl rfl).trans ((skip q1 z1 6 5 rfl rfl).trans ((skip q2 a.isLt 0 5 rfl rfl).trans (part q3 z3 0 5 rfl (Nat.le_of_ble_eq_true rfl) rfl)))
  have e1 : bitsAt w 3 2 = 0 := (skip q0 nn.isLt 1 2 rfl rfl).trans (part q1 z1 1 2 rfl (Nat.le_of_ble_eq_true rfl) rfl)
  have e2 : bitsAt w 8 6 = 0 := (skip q0 nn.isLt 6 6 rfl rfl).trans (part q1 z1 6 6 rfl (Nat.le_of_ble_eq_true rfl) rfl)
  have e3 : bitsAt w 2 6 = 0 := (skip q0 nn.isLt 0 6 rfl rfl).trans (part q1 z1 0 6 rfl (Nat.le_of_ble_eq_true rfl) rfl)
  have e4 : bitsAt w 2 12 = 0 := (skip q0 nn.isLt 0 12 rfl rfl).trans (low q1 z1 rfl)
  have e5 : bitsAt w 2 3 = 0 := (skip q0 nn.isLt 0 3 rfl rfl).trans (part q1 z1 0 3 rfl (Nat.le_of_ble_eq_true rfl) rfl)
  have n0 : ¬ bitsAt w 3 22 = 655360 := differs ((skip q0 nn.isLt 18 1 rfl rfl).trans ((skip q1 z1 6 1 rfl rfl).trans ((skip q2 a.isLt 0 1 rfl rfl).trans (part q3 z3 0 1 rfl (Nat.le_of_ble_eq_true rfl) rfl)))) 17 rfl (Nat.le_of_ble_eq_true rfl) (by decide)
  have f0 : fieldAt w 14 6 = a := fieldAt_eq ((skip q0 nn.isLt 12 6 rfl rfl).trans ((skip q1 z1 0 6 rfl rfl).trans (low q2 a.isLt rfl)))
  have f1 : fieldAt w 0 2 = nn := fieldAt_eq (low q0 nn.isLt rfl)
  refine ⟨Nat.lt_of_lt_of_le (bound q0 nn.isLt (bound q1 z1 (bound q2 a.isLt (bound q3 z3 (Nat.lt_succ_of_le hk) rfl) rfl) rfl) rfl) (Nat.le_of_ble_eq_true rfl), (skip q0 nn.isLt 29 1 rfl rfl).trans ((skip q1 z1 17 1 rfl rfl).trans ((skip q2 a.isLt 11 1 rfl rfl).trans ((skip q3 z3 0 1 rfl rfl).trans (top hk)))), ?_⟩
  rw [major1B w m0]
  simp [decodeMajor1B, e0, e1, e2, e3, e4, e5, n0, f0, f1]

theorem cxloadS (a : BitVec 6) (nn : BitVec 2) : Statement (.cxloadS a nn) := by
  refine of_fields rfl ?_
  intro k hk w hw
  obtain ⟨r3, q3⟩ : ∃ r, r = 876 + 2048 * k := ⟨_, rfl⟩
  obtain ⟨r2, q2⟩ : ∃ r, r = a.toNat + 64 * r3 := ⟨_, rfl⟩
  obtain ⟨r1, q1⟩ : ∃ r, r = 8 + 4096 * r2 := ⟨_, rfl⟩
  have q0 : w = nn.toNat + 4 * r1 := by simp only [assemble] at hw; omega
  have z1 : 8 < 2 ^ 12 := Nat.le_of_ble_eq_true rfl
  have z3 : 876 < 2 ^ 11 := Nat.le_of_ble_eq_true rfl
  have m0 : bitsAt w 25 6 = 27 := (skip q0 nn.isLt 23 6 rfl rfl).trans ((skip q1 z1 11 6 rfl rfl).trans ((skip q2 a.isLt 5 6 rfl rfl).trans (part q3 z3 5 6 rfl (Nat.le_of_ble_eq_true rfl) rfl)))
  have e0 : bitsAt w 20 5 = 12 := (skip q0 nn.isLt 18 5 rfl rfl).trans ((skip q1 z1 6 5 rfl rfl).trans ((skip q2 a.isLt 0 5 rfl rfl).trans (part q3 z3 0 5 rfl (Nat.le_of_ble_eq_true rfl) rfl)))
  have e1 : bitsAt w 3 2 = 0 := (skip q0 nn.isLt 1 2 rfl rfl).trans (part q1 z1 1 2 rfl (Nat.le_of_ble_eq_true rfl) rfl)
  have e2 : bitsAt w 8 6 = 0 := (skip q0 nn.isLt 6 6 rfl rfl).trans (part q1 z1 6 6 rfl (Nat.le_of_ble_eq_true rfl) rfl)
  have e3 : bitsAt w 2 6 = 8 := (skip q0 nn.isLt 0 6 rfl rfl).trans (part q1 z1 0 6 rfl (Nat.le_of_ble_eq_true rfl) rfl)
  have e4 : bitsAt w 2 12 = 8 := (skip q0 nn.isLt 0 12 rfl rfl).trans (low q1 z1 rfl)
  have e5 : bitsAt w 2 3 = 0 := (skip q0 nn.isLt 0 3 rfl rfl).trans (part q1 z1 0 3 rfl (Nat.le_of_ble_eq_true rfl) rfl)
  have n0 : ¬ bitsAt w 3 22 = 655360 := differs ((skip q0 nn.isLt 3 1 rfl rfl).trans (part q1 z1 3 1 rfl (Nat.le_of_ble_eq_true rfl) rfl)) 2 rfl (Nat.le_of_ble_eq_true rfl) (by decide)
  have f0 : fieldAt w 14 6 = a := fieldAt_eq ((skip q0 nn.isLt 12 6 rfl rfl).trans ((skip q1 z1 0 6 rfl rfl).trans (low q2 a.isLt rfl)))
  have f1 : fieldAt w 0 2 = nn := fieldAt_eq (low q0 nn.isLt rfl)
  refine ⟨Nat.lt_of_lt_of_le (bound q0 nn.isLt (bound q1 z1 (bound q2 a.isLt (bound q3 z3 (Nat.lt_succ_of_le hk) rfl) rfl) rfl) rfl) (Nat.le_of_ble_eq_true rfl), (skip q0 nn.isLt 29 1 rfl rfl).trans ((skip q1 z1 17 1 rfl rfl).trans ((skip q2 a.isLt 11 1 rfl rfl).trans ((skip q3 z3 0 1 rfl rfl).trans (top hk)))), ?_⟩
  rw [major1B w m0]
  simp [decodeMajor1B, e0, e1, e2, e3, e4, e5, n0, f0, f1]

theorem cxclose (nn : BitVec 2) : Statement (.cxclose nn) := by
  refine of_fields rfl ?_
  intro k hk w hw
  obtain ⟨r1, q1⟩ : ∃ r, r = 229900288 + 536870912 * k := ⟨_, rfl⟩
  have q0 : w = nn.toNat + 4 * r1 := by simp only [assemble] at hw; omega
  have z1 : 229900288 < 2 ^ 29 := Nat.le_of_ble_eq_true rfl
  have m0 : bitsAt w 25 6 = 27 := (skip q0 nn.isLt 23 6 rfl rfl).trans (part q1 z1 23 6 rfl (Nat.le_of_ble_eq_true rfl) rfl)
  have e0 : bitsAt w 20 5 = 13 := (skip q0 nn.isLt 18 5 rfl rfl).trans (part q1 z1 18 5 rfl (Nat.le_of_ble_eq_true rfl) rfl)
  have e1 : bitsAt w 3 2 = 0 := (skip q0 nn.isLt 1 2 rfl rfl).trans (part q1 z1 1 2 rfl (Nat.le_of_ble_eq_true rfl) rfl)
  have e2 : bitsAt w 8 6 = 0 := (skip q0 nn.isLt 6 6 rfl rfl).trans (part q1 z1 6 6 rfl (Nat.le_of_ble_eq_true rfl) rfl)
  have e3 : bitsAt w 3 22 = 1703936 := (skip q0 nn.isLt 1 22 rfl rfl).trans (part q1 z1 1 22 rfl (Nat.le_of_ble_eq_true rfl) rfl)
  have e4 : bitsAt w 2 6 = 0 := (skip q0 nn.isLt 0 6 rfl rfl).trans (part q1 z1 0 6 rfl (Nat.le_of_ble_eq_true rfl) rfl)
  have e5 : bitsAt w 2 12 = 0 := (skip q0 nn.isLt 0 12 rfl rfl).trans (part q1 z1 0 12 rfl (Nat.le_of_ble_eq_true rfl) rfl)
  have e6 : bitsAt w 2 3 = 0 := (skip q0 nn.isLt 0 3 rfl rfl).trans (part q1 z1 0 3 rfl (Nat.le_of_ble_eq_true rfl) rfl)
  have e7 : bitsAt w 2 23 = 3407872 := (skip q0 nn.isLt 0 23 rfl rfl).trans (part q1 z1 0 23 rfl (Nat.le_of_ble_eq_true rfl) rfl)
  have f0 : fieldAt w 0 2 = nn := fieldAt_eq (low q0 nn.isLt rfl)
  refine ⟨Nat.lt_of_lt_of_le (bound q0 nn.isLt (bound q1 z1 (Nat.lt_succ_of_le hk) rfl) rfl) (Nat.le_of_ble_eq_true rfl), (skip q0 nn.isLt 29 1 rfl rfl).trans ((skip q1 z1 0 1 rfl rfl).trans (top hk)), ?_⟩
  rw [major1B w m0]
  simp [decodeMajor1B, e0, e1, e2, e3, e4, e5, e6, e7, f0]

theorem vadd (d : BitVec 6) (a : BitVec 6) (b : BitVec 6) (g : BitVec 3) : Statement (.vadd d a b g) := by
  refine of_fields rfl ?_
  intro k hk w hw
  obtain ⟨r5, q5⟩ : ∃ r, r = 32 + 64 * k := ⟨_, rfl⟩
  obtain ⟨r4, q4⟩ : ∃ r, r = d.toNat + 64 * r5 := ⟨_, rfl⟩
  obtain ⟨r3, q3⟩ : ∃ r, r = a.toNat + 64 * r4 := ⟨_, rfl⟩
  obtain ⟨r2, q2⟩ : ∃ r, r = b.toNat + 64 * r3 := ⟨_, rfl⟩
  obtain ⟨r1, q1⟩ : ∃ r, r = g.toNat + 8 * r2 := ⟨_, rfl⟩
  have q0 : w = 0 + 16 * r1 := by simp only [assemble] at hw; omega
  have z0 : 0 < 2 ^ 4 := Nat.le_of_ble_eq_true rfl
  have z5 : 32 < 2 ^ 6 := Nat.le_of_ble_eq_true rfl
  have m0 : bitsAt w 25 6 = 32 := (skip q0 z0 21 6 rfl rfl).trans ((skip q1 g.isLt 18 6 rfl rfl).trans ((skip q2 b.isLt 12 6 rfl rfl).trans ((skip q3 a.isLt 6 6 rfl rfl).trans ((skip q4 d.isLt 0 6 rfl rfl).trans (low q5 z5 rfl)))))
  have e0 : bitsAt w 0 4 = 0 := low q0 z0 rfl
  have f0 : fieldAt w 19 6 = d := fieldAt_eq ((skip q0 z0 15 6 rfl rfl).trans ((skip q1 g.isLt 12 6 rfl rfl).trans ((skip q2 b.isLt 6 6 rfl rfl).trans ((skip q3 a.isLt 0 6 rfl rfl).trans (low q4 d.isLt rfl)))))
  have f1 : fieldAt w 13 6 = a := fieldAt_eq ((skip q0 z0 9 6 rfl rfl).trans ((skip q1 g.isLt 6 6 rfl rfl).trans ((skip q2 b.isLt 0 6 rfl rfl).trans (low q3 a.isLt rfl))))
  have f2 : fieldAt w 7 6 = b := fieldAt_eq ((skip q0 z0 3 6 rfl rfl).trans ((skip q1 g.isLt 0 6 rfl rfl).trans (low q2 b.isLt rfl)))
  have f3 : fieldAt w 4 3 = g := fieldAt_eq ((skip q0 z0 0 3 rfl rfl).trans (low q1 g.isLt rfl))
  refine ⟨Nat.lt_of_lt_of_le (bound q0 z0 (bound q1 g.isLt (bound q2 b.isLt (bound q3 a.isLt (bound q4 d.isLt (bound q5 z5 (Nat.lt_succ_of_le hk) rfl) rfl) rfl) rfl) rfl) rfl) (Nat.le_of_ble_eq_true rfl), (skip q0 z0 27 1 rfl rfl).trans ((skip q1 g.isLt 24 1 rfl rfl).trans ((skip q2 b.isLt 18 1 rfl rfl).trans ((skip q3 a.isLt 12 1 rfl rfl).trans ((skip q4 d.isLt 6 1 rfl rfl).trans ((skip q5 z5 0 1 rfl rfl).trans (top hk)))))), ?_⟩
  rw [major20 w m0]
  simp [decodeMajor20, e0, f0, f1, f2, f3]

theorem vsub (d : BitVec 6) (a : BitVec 6) (b : BitVec 6) (g : BitVec 3) : Statement (.vsub d a b g) := by
  refine of_fields rfl ?_
  intro k hk w hw
  obtain ⟨r5, q5⟩ : ∃ r, r = 32 + 64 * k := ⟨_, rfl⟩
  obtain ⟨r4, q4⟩ : ∃ r, r = d.toNat + 64 * r5 := ⟨_, rfl⟩
  obtain ⟨r3, q3⟩ : ∃ r, r = a.toNat + 64 * r4 := ⟨_, rfl⟩
  obtain ⟨r2, q2⟩ : ∃ r, r = b.toNat + 64 * r3 := ⟨_, rfl⟩
  obtain ⟨r1, q1⟩ : ∃ r, r = g.toNat + 8 * r2 := ⟨_, rfl⟩
  have q0 : w = 1 + 16 * r1 := by simp only [assemble] at hw; omega
  have z0 : 1 < 2 ^ 4 := Nat.le_of_ble_eq_true rfl
  have z5 : 32 < 2 ^ 6 := Nat.le_of_ble_eq_true rfl
  have m0 : bitsAt w 25 6 = 32 := (skip q0 z0 21 6 rfl rfl).trans ((skip q1 g.isLt 18 6 rfl rfl).trans ((skip q2 b.isLt 12 6 rfl rfl).trans ((skip q3 a.isLt 6 6 rfl rfl).trans ((skip q4 d.isLt 0 6 rfl rfl).trans (low q5 z5 rfl)))))
  have e0 : bitsAt w 0 4 = 1 := low q0 z0 rfl
  have f0 : fieldAt w 19 6 = d := fieldAt_eq ((skip q0 z0 15 6 rfl rfl).trans ((skip q1 g.isLt 12 6 rfl rfl).trans ((skip q2 b.isLt 6 6 rfl rfl).trans ((skip q3 a.isLt 0 6 rfl rfl).trans (low q4 d.isLt rfl)))))
  have f1 : fieldAt w 13 6 = a := fieldAt_eq ((skip q0 z0 9 6 rfl rfl).trans ((skip q1 g.isLt 6 6 rfl rfl).trans ((skip q2 b.isLt 0 6 rfl rfl).trans (low q3 a.isLt rfl))))
  have f2 : fieldAt w 7 6 = b := fieldAt_eq ((skip q0 z0 3 6 rfl rfl).trans ((skip q1 g.isLt 0 6 rfl rfl).trans (low q2 b.isLt rfl)))
  have f3 : fieldAt w 4 3 = g := fieldAt_eq ((skip q0 z0 0 3 rfl rfl).trans (low q1 g.isLt rfl))
  refine ⟨Nat.lt_of_lt_of_le (bound q0 z0 (bound q1 g.isLt (bound q2 b.isLt (bound q3 a.isLt (bound q4 d.isLt (bound q5 z5 (Nat.lt_succ_of_le hk) rfl) rfl) rfl) rfl) rfl) rfl) (Nat.le_of_ble_eq_true rfl), (skip q0 z0 27 1 rfl rfl).trans ((skip q1 g.isLt 24 1 rfl rfl).trans ((skip q2 b.isLt 18 1 rfl rfl).trans ((skip q3 a.isLt 12 1 rfl rfl).trans ((skip q4 d.isLt 6 1 rfl rfl).trans ((skip q5 z5 0 1 rfl rfl).trans (top hk)))))), ?_⟩
  rw [major20 w m0]
  simp [decodeMajor20, e0, f0, f1, f2, f3]

theorem vmul (d : BitVec 6) (a : BitVec 6) (b : BitVec 6) (g : BitVec 3) : Statement (.vmul d a b g) := by
  refine of_fields rfl ?_
  intro k hk w hw
  obtain ⟨r5, q5⟩ : ∃ r, r = 32 + 64 * k := ⟨_, rfl⟩
  obtain ⟨r4, q4⟩ : ∃ r, r = d.toNat + 64 * r5 := ⟨_, rfl⟩
  obtain ⟨r3, q3⟩ : ∃ r, r = a.toNat + 64 * r4 := ⟨_, rfl⟩
  obtain ⟨r2, q2⟩ : ∃ r, r = b.toNat + 64 * r3 := ⟨_, rfl⟩
  obtain ⟨r1, q1⟩ : ∃ r, r = g.toNat + 8 * r2 := ⟨_, rfl⟩
  have q0 : w = 2 + 16 * r1 := by simp only [assemble] at hw; omega
  have z0 : 2 < 2 ^ 4 := Nat.le_of_ble_eq_true rfl
  have z5 : 32 < 2 ^ 6 := Nat.le_of_ble_eq_true rfl
  have m0 : bitsAt w 25 6 = 32 := (skip q0 z0 21 6 rfl rfl).trans ((skip q1 g.isLt 18 6 rfl rfl).trans ((skip q2 b.isLt 12 6 rfl rfl).trans ((skip q3 a.isLt 6 6 rfl rfl).trans ((skip q4 d.isLt 0 6 rfl rfl).trans (low q5 z5 rfl)))))
  have e0 : bitsAt w 0 4 = 2 := low q0 z0 rfl
  have f0 : fieldAt w 19 6 = d := fieldAt_eq ((skip q0 z0 15 6 rfl rfl).trans ((skip q1 g.isLt 12 6 rfl rfl).trans ((skip q2 b.isLt 6 6 rfl rfl).trans ((skip q3 a.isLt 0 6 rfl rfl).trans (low q4 d.isLt rfl)))))
  have f1 : fieldAt w 13 6 = a := fieldAt_eq ((skip q0 z0 9 6 rfl rfl).trans ((skip q1 g.isLt 6 6 rfl rfl).trans ((skip q2 b.isLt 0 6 rfl rfl).trans (low q3 a.isLt rfl))))
  have f2 : fieldAt w 7 6 = b := fieldAt_eq ((skip q0 z0 3 6 rfl rfl).trans ((skip q1 g.isLt 0 6 rfl rfl).trans (low q2 b.isLt rfl)))
  have f3 : fieldAt w 4 3 = g := fieldAt_eq ((skip q0 z0 0 3 rfl rfl).trans (low q1 g.isLt rfl))
  refine ⟨Nat.lt_of_lt_of_le (bound q0 z0 (bound q1 g.isLt (bound q2 b.isLt (bound q3 a.isLt (bound q4 d.isLt (bound q5 z5 (Nat.lt_succ_of_le hk) rfl) rfl) rfl) rfl) rfl) rfl) (Nat.le_of_ble_eq_true rfl), (skip q0 z0 27 1 rfl rfl).trans ((skip q1 g.isLt 24 1 rfl rfl).trans ((skip q2 b.isLt 18 1 rfl rfl).trans ((skip q3 a.isLt 12 1 rfl rfl).trans ((skip q4 d.isLt 6 1 rfl rfl).trans ((skip q5 z5 0 1 rfl rfl).trans (top hk)))))), ?_⟩
  rw [major20 w m0]
  simp [decodeMajor20, e0, f0, f1, f2, f3]

theorem vmulhI (d : BitVec 6) (a : BitVec 6) (b : BitVec 6) (g : BitVec 3) : Statement (.vmulhI d a b g) := by
  refine of_fields rfl ?_
  intro k hk w hw
  obtain ⟨r5, q5⟩ : ∃ r, r = 32 + 64 * k := ⟨_, rfl⟩
  obtain ⟨r4, q4⟩ : ∃ r, r = d.toNat + 64 * r5 := ⟨_, rfl⟩
  obtain ⟨r3, q3⟩ : ∃ r, r = a.toNat + 64 * r4 := ⟨_, rfl⟩
  obtain ⟨r2, q2⟩ : ∃ r, r = b.toNat + 64 * r3 := ⟨_, rfl⟩
  obtain ⟨r1, q1⟩ : ∃ r, r = g.toNat + 8 * r2 := ⟨_, rfl⟩
  have q0 : w = 3 + 16 * r1 := by simp only [assemble] at hw; omega
  have z0 : 3 < 2 ^ 4 := Nat.le_of_ble_eq_true rfl
  have z5 : 32 < 2 ^ 6 := Nat.le_of_ble_eq_true rfl
  have m0 : bitsAt w 25 6 = 32 := (skip q0 z0 21 6 rfl rfl).trans ((skip q1 g.isLt 18 6 rfl rfl).trans ((skip q2 b.isLt 12 6 rfl rfl).trans ((skip q3 a.isLt 6 6 rfl rfl).trans ((skip q4 d.isLt 0 6 rfl rfl).trans (low q5 z5 rfl)))))
  have e0 : bitsAt w 0 4 = 3 := low q0 z0 rfl
  have f0 : fieldAt w 19 6 = d := fieldAt_eq ((skip q0 z0 15 6 rfl rfl).trans ((skip q1 g.isLt 12 6 rfl rfl).trans ((skip q2 b.isLt 6 6 rfl rfl).trans ((skip q3 a.isLt 0 6 rfl rfl).trans (low q4 d.isLt rfl)))))
  have f1 : fieldAt w 13 6 = a := fieldAt_eq ((skip q0 z0 9 6 rfl rfl).trans ((skip q1 g.isLt 6 6 rfl rfl).trans ((skip q2 b.isLt 0 6 rfl rfl).trans (low q3 a.isLt rfl))))
  have f2 : fieldAt w 7 6 = b := fieldAt_eq ((skip q0 z0 3 6 rfl rfl).trans ((skip q1 g.isLt 0 6 rfl rfl).trans (low q2 b.isLt rfl)))
  have f3 : fieldAt w 4 3 = g := fieldAt_eq ((skip q0 z0 0 3 rfl rfl).trans (low q1 g.isLt rfl))
  refine ⟨Nat.lt_of_lt_of_le (bound q0 z0 (bound q1 g.isLt (bound q2 b.isLt (bound q3 a.isLt (bound q4 d.isLt (bound q5 z5 (Nat.lt_succ_of_le hk) rfl) rfl) rfl) rfl) rfl) rfl) (Nat.le_of_ble_eq_true rfl), (skip q0 z0 27 1 rfl rfl).trans ((skip q1 g.isLt 24 1 rfl rfl).trans ((skip q2 b.isLt 18 1 rfl rfl).trans ((skip q3 a.isLt 12 1 rfl rfl).trans ((skip q4 d.isLt 6 1 rfl rfl).trans ((skip q5 z5 0 1 rfl rfl).trans (top hk)))))), ?_⟩
  rw [major20 w m0]
  simp [decodeMajor20, e0, f0, f1, f2, f3]

theorem vand (d : BitVec 6) (a : BitVec 6) (b : BitVec 6) (g : BitVec 3) : Statement (.vand d a b g) := by
  refine of_fields rfl ?_
  intro k hk w hw
  obtain ⟨r5, q5⟩ : ∃ r, r = 32 + 64 * k := ⟨_, rfl⟩
  obtain ⟨r4, q4⟩ : ∃ r, r = d.toNat + 64 * r5 := ⟨_, rfl⟩
  obtain ⟨r3, q3⟩ : ∃ r, r = a.toNat + 64 * r4 := ⟨_, rfl⟩
  obtain ⟨r2, q2⟩ : ∃ r, r = b.toNat + 64 * r3 := ⟨_, rfl⟩
  obtain ⟨r1, q1⟩ : ∃ r, r = g.toNat + 8 * r2 := ⟨_, rfl⟩
  have q0 : w = 4 + 16 * r1 := by simp only [assemble] at hw; omega
  have z0 : 4 < 2 ^ 4 := Nat.le_of_ble_eq_true rfl
  have z5 : 32 < 2 ^ 6 := Nat.le_of_ble_eq_true rfl
  have m0 : bitsAt w 25 6 = 32 := (skip q0 z0 21 6 rfl rfl).trans ((skip q1 g.isLt 18 6 rfl rfl).trans ((skip q2 b.isLt 12 6 rfl rfl).trans ((skip q3 a.isLt 6 6 rfl rfl).trans ((skip q4 d.isLt 0 6 rfl rfl).trans (low q5 z5 rfl)))))
  have e0 : bitsAt w 0 4 = 4 := low q0 z0 rfl
  have f0 : fieldAt w 19 6 = d := fieldAt_eq ((skip q0 z0 15 6 rfl rfl).trans ((skip q1 g.isLt 12 6 rfl rfl).trans ((skip q2 b.isLt 6 6 rfl rfl).trans ((skip q3 a.isLt 0 6 rfl rfl).trans (low q4 d.isLt rfl)))))
  have f1 : fieldAt w 13 6 = a := fieldAt_eq ((skip q0 z0 9 6 rfl rfl).trans ((skip q1 g.isLt 6 6 rfl rfl).trans ((skip q2 b.isLt 0 6 rfl rfl).trans (low q3 a.isLt rfl))))
  have f2 : fieldAt w 7 6 = b := fieldAt_eq ((skip q0 z0 3 6 rfl rfl).trans ((skip q1 g.isLt 0 6 rfl rfl).trans (low q2 b.isLt rfl)))
  have f3 : fieldAt w 4 3 = g := fieldAt_eq ((skip q0 z0 0 3 rfl rfl).trans (low q1 g.isLt rfl))
  refine ⟨Nat.lt_of_lt_of_le (bound q0 z0 (bound q1 g.isLt (bound q2 b.isLt (bound q3 a.isLt (bound q4 d.isLt (bound q5 z5 (Nat.lt_succ_of_le hk) rfl) rfl) rfl) rfl) rfl) rfl) (Nat.le_of_ble_eq_true rfl), (skip q0 z0 27 1 rfl rfl).trans ((skip q1 g.isLt 24 1 rfl rfl).trans ((skip q2 b.isLt 18 1 rfl rfl).trans ((skip q3 a.isLt 12 1 rfl rfl).trans ((skip q4 d.isLt 6 1 rfl rfl).trans ((skip q5 z5 0 1 rfl rfl).trans (top hk)))))), ?_⟩
  rw [major20 w m0]
  simp [decodeMajor20, e0, f0, f1, f2, f3]

theorem vor (d : BitVec 6) (a : BitVec 6) (b : BitVec 6) (g : BitVec 3) : Statement (.vor d a b g) := by
  refine of_fields rfl ?_
  intro k hk w hw
  obtain ⟨r5, q5⟩ : ∃ r, r = 32 + 64 * k := ⟨_, rfl⟩
  obtain ⟨r4, q4⟩ : ∃ r, r = d.toNat + 64 * r5 := ⟨_, rfl⟩
  obtain ⟨r3, q3⟩ : ∃ r, r = a.toNat + 64 * r4 := ⟨_, rfl⟩
  obtain ⟨r2, q2⟩ : ∃ r, r = b.toNat + 64 * r3 := ⟨_, rfl⟩
  obtain ⟨r1, q1⟩ : ∃ r, r = g.toNat + 8 * r2 := ⟨_, rfl⟩
  have q0 : w = 5 + 16 * r1 := by simp only [assemble] at hw; omega
  have z0 : 5 < 2 ^ 4 := Nat.le_of_ble_eq_true rfl
  have z5 : 32 < 2 ^ 6 := Nat.le_of_ble_eq_true rfl
  have m0 : bitsAt w 25 6 = 32 := (skip q0 z0 21 6 rfl rfl).trans ((skip q1 g.isLt 18 6 rfl rfl).trans ((skip q2 b.isLt 12 6 rfl rfl).trans ((skip q3 a.isLt 6 6 rfl rfl).trans ((skip q4 d.isLt 0 6 rfl rfl).trans (low q5 z5 rfl)))))
  have e0 : bitsAt w 0 4 = 5 := low q0 z0 rfl
  have f0 : fieldAt w 19 6 = d := fieldAt_eq ((skip q0 z0 15 6 rfl rfl).trans ((skip q1 g.isLt 12 6 rfl rfl).trans ((skip q2 b.isLt 6 6 rfl rfl).trans ((skip q3 a.isLt 0 6 rfl rfl).trans (low q4 d.isLt rfl)))))
  have f1 : fieldAt w 13 6 = a := fieldAt_eq ((skip q0 z0 9 6 rfl rfl).trans ((skip q1 g.isLt 6 6 rfl rfl).trans ((skip q2 b.isLt 0 6 rfl rfl).trans (low q3 a.isLt rfl))))
  have f2 : fieldAt w 7 6 = b := fieldAt_eq ((skip q0 z0 3 6 rfl rfl).trans ((skip q1 g.isLt 0 6 rfl rfl).trans (low q2 b.isLt rfl)))
  have f3 : fieldAt w 4 3 = g := fieldAt_eq ((skip q0 z0 0 3 rfl rfl).trans (low q1 g.isLt rfl))
  refine ⟨Nat.lt_of_lt_of_le (bound q0 z0 (bound q1 g.isLt (bound q2 b.isLt (bound q3 a.isLt (bound q4 d.isLt (bound q5 z5 (Nat.lt_succ_of_le hk) rfl) rfl) rfl) rfl) rfl) rfl) (Nat.le_of_ble_eq_true rfl), (skip q0 z0 27 1 rfl rfl).trans ((skip q1 g.isLt 24 1 rfl rfl).trans ((skip q2 b.isLt 18 1 rfl rfl).trans ((skip q3 a.isLt 12 1 rfl rfl).trans ((skip q4 d.isLt 6 1 rfl rfl).trans ((skip q5 z5 0 1 rfl rfl).trans (top hk)))))), ?_⟩
  rw [major20 w m0]
  simp [decodeMajor20, e0, f0, f1, f2, f3]

theorem vxor (d : BitVec 6) (a : BitVec 6) (b : BitVec 6) (g : BitVec 3) : Statement (.vxor d a b g) := by
  refine of_fields rfl ?_
  intro k hk w hw
  obtain ⟨r5, q5⟩ : ∃ r, r = 32 + 64 * k := ⟨_, rfl⟩
  obtain ⟨r4, q4⟩ : ∃ r, r = d.toNat + 64 * r5 := ⟨_, rfl⟩
  obtain ⟨r3, q3⟩ : ∃ r, r = a.toNat + 64 * r4 := ⟨_, rfl⟩
  obtain ⟨r2, q2⟩ : ∃ r, r = b.toNat + 64 * r3 := ⟨_, rfl⟩
  obtain ⟨r1, q1⟩ : ∃ r, r = g.toNat + 8 * r2 := ⟨_, rfl⟩
  have q0 : w = 6 + 16 * r1 := by simp only [assemble] at hw; omega
  have z0 : 6 < 2 ^ 4 := Nat.le_of_ble_eq_true rfl
  have z5 : 32 < 2 ^ 6 := Nat.le_of_ble_eq_true rfl
  have m0 : bitsAt w 25 6 = 32 := (skip q0 z0 21 6 rfl rfl).trans ((skip q1 g.isLt 18 6 rfl rfl).trans ((skip q2 b.isLt 12 6 rfl rfl).trans ((skip q3 a.isLt 6 6 rfl rfl).trans ((skip q4 d.isLt 0 6 rfl rfl).trans (low q5 z5 rfl)))))
  have e0 : bitsAt w 0 4 = 6 := low q0 z0 rfl
  have f0 : fieldAt w 19 6 = d := fieldAt_eq ((skip q0 z0 15 6 rfl rfl).trans ((skip q1 g.isLt 12 6 rfl rfl).trans ((skip q2 b.isLt 6 6 rfl rfl).trans ((skip q3 a.isLt 0 6 rfl rfl).trans (low q4 d.isLt rfl)))))
  have f1 : fieldAt w 13 6 = a := fieldAt_eq ((skip q0 z0 9 6 rfl rfl).trans ((skip q1 g.isLt 6 6 rfl rfl).trans ((skip q2 b.isLt 0 6 rfl rfl).trans (low q3 a.isLt rfl))))
  have f2 : fieldAt w 7 6 = b := fieldAt_eq ((skip q0 z0 3 6 rfl rfl).trans ((skip q1 g.isLt 0 6 rfl rfl).trans (low q2 b.isLt rfl)))
  have f3 : fieldAt w 4 3 = g := fieldAt_eq ((skip q0 z0 0 3 rfl rfl).trans (low q1 g.isLt rfl))
  refine ⟨Nat.lt_of_lt_of_le (bound q0 z0 (bound q1 g.isLt (bound q2 b.isLt (bound q3 a.isLt (bound q4 d.isLt (bound q5 z5 (Nat.lt_succ_of_le hk) rfl) rfl) rfl) rfl) rfl) rfl) (Nat.le_of_ble_eq_true rfl), (skip q0 z0 27 1 rfl rfl).trans ((skip q1 g.isLt 24 1 rfl rfl).trans ((skip q2 b.isLt 18 1 rfl rfl).trans ((skip q3 a.isLt 12 1 rfl rfl).trans ((skip q4 d.isLt 6 1 rfl rfl).trans ((skip q5 z5 0 1 rfl rfl).trans (top hk)))))), ?_⟩
  rw [major20 w m0]
  simp [decodeMajor20, e0, f0, f1, f2, f3]

theorem vandn (d : BitVec 6) (a : BitVec 6) (b : BitVec 6) (g : BitVec 3) : Statement (.vandn d a b g) := by
  refine of_fields rfl ?_
  intro k hk w hw
  obtain ⟨r5, q5⟩ : ∃ r, r = 32 + 64 * k := ⟨_, rfl⟩
  obtain ⟨r4, q4⟩ : ∃ r, r = d.toNat + 64 * r5 := ⟨_, rfl⟩
  obtain ⟨r3, q3⟩ : ∃ r, r = a.toNat + 64 * r4 := ⟨_, rfl⟩
  obtain ⟨r2, q2⟩ : ∃ r, r = b.toNat + 64 * r3 := ⟨_, rfl⟩
  obtain ⟨r1, q1⟩ : ∃ r, r = g.toNat + 8 * r2 := ⟨_, rfl⟩
  have q0 : w = 7 + 16 * r1 := by simp only [assemble] at hw; omega
  have z0 : 7 < 2 ^ 4 := Nat.le_of_ble_eq_true rfl
  have z5 : 32 < 2 ^ 6 := Nat.le_of_ble_eq_true rfl
  have m0 : bitsAt w 25 6 = 32 := (skip q0 z0 21 6 rfl rfl).trans ((skip q1 g.isLt 18 6 rfl rfl).trans ((skip q2 b.isLt 12 6 rfl rfl).trans ((skip q3 a.isLt 6 6 rfl rfl).trans ((skip q4 d.isLt 0 6 rfl rfl).trans (low q5 z5 rfl)))))
  have e0 : bitsAt w 0 4 = 7 := low q0 z0 rfl
  have f0 : fieldAt w 19 6 = d := fieldAt_eq ((skip q0 z0 15 6 rfl rfl).trans ((skip q1 g.isLt 12 6 rfl rfl).trans ((skip q2 b.isLt 6 6 rfl rfl).trans ((skip q3 a.isLt 0 6 rfl rfl).trans (low q4 d.isLt rfl)))))
  have f1 : fieldAt w 13 6 = a := fieldAt_eq ((skip q0 z0 9 6 rfl rfl).trans ((skip q1 g.isLt 6 6 rfl rfl).trans ((skip q2 b.isLt 0 6 rfl rfl).trans (low q3 a.isLt rfl))))
  have f2 : fieldAt w 7 6 = b := fieldAt_eq ((skip q0 z0 3 6 rfl rfl).trans ((skip q1 g.isLt 0 6 rfl rfl).trans (low q2 b.isLt rfl)))
  have f3 : fieldAt w 4 3 = g := fieldAt_eq ((skip q0 z0 0 3 rfl rfl).trans (low q1 g.isLt rfl))
  refine ⟨Nat.lt_of_lt_of_le (bound q0 z0 (bound q1 g.isLt (bound q2 b.isLt (bound q3 a.isLt (bound q4 d.isLt (bound q5 z5 (Nat.lt_succ_of_le hk) rfl) rfl) rfl) rfl) rfl) rfl) (Nat.le_of_ble_eq_true rfl), (skip q0 z0 27 1 rfl rfl).trans ((skip q1 g.isLt 24 1 rfl rfl).trans ((skip q2 b.isLt 18 1 rfl rfl).trans ((skip q3 a.isLt 12 1 rfl rfl).trans ((skip q4 d.isLt 6 1 rfl rfl).trans ((skip q5 z5 0 1 rfl rfl).trans (top hk)))))), ?_⟩
  rw [major20 w m0]
  simp [decodeMajor20, e0, f0, f1, f2, f3]

theorem vshl (d : BitVec 6) (a : BitVec 6) (b : BitVec 6) (g : BitVec 3) : Statement (.vshl d a b g) := by
  refine of_fields rfl ?_
  intro k hk w hw
  obtain ⟨r5, q5⟩ : ∃ r, r = 32 + 64 * k := ⟨_, rfl⟩
  obtain ⟨r4, q4⟩ : ∃ r, r = d.toNat + 64 * r5 := ⟨_, rfl⟩
  obtain ⟨r3, q3⟩ : ∃ r, r = a.toNat + 64 * r4 := ⟨_, rfl⟩
  obtain ⟨r2, q2⟩ : ∃ r, r = b.toNat + 64 * r3 := ⟨_, rfl⟩
  obtain ⟨r1, q1⟩ : ∃ r, r = g.toNat + 8 * r2 := ⟨_, rfl⟩
  have q0 : w = 8 + 16 * r1 := by simp only [assemble] at hw; omega
  have z0 : 8 < 2 ^ 4 := Nat.le_of_ble_eq_true rfl
  have z5 : 32 < 2 ^ 6 := Nat.le_of_ble_eq_true rfl
  have m0 : bitsAt w 25 6 = 32 := (skip q0 z0 21 6 rfl rfl).trans ((skip q1 g.isLt 18 6 rfl rfl).trans ((skip q2 b.isLt 12 6 rfl rfl).trans ((skip q3 a.isLt 6 6 rfl rfl).trans ((skip q4 d.isLt 0 6 rfl rfl).trans (low q5 z5 rfl)))))
  have e0 : bitsAt w 0 4 = 8 := low q0 z0 rfl
  have f0 : fieldAt w 19 6 = d := fieldAt_eq ((skip q0 z0 15 6 rfl rfl).trans ((skip q1 g.isLt 12 6 rfl rfl).trans ((skip q2 b.isLt 6 6 rfl rfl).trans ((skip q3 a.isLt 0 6 rfl rfl).trans (low q4 d.isLt rfl)))))
  have f1 : fieldAt w 13 6 = a := fieldAt_eq ((skip q0 z0 9 6 rfl rfl).trans ((skip q1 g.isLt 6 6 rfl rfl).trans ((skip q2 b.isLt 0 6 rfl rfl).trans (low q3 a.isLt rfl))))
  have f2 : fieldAt w 7 6 = b := fieldAt_eq ((skip q0 z0 3 6 rfl rfl).trans ((skip q1 g.isLt 0 6 rfl rfl).trans (low q2 b.isLt rfl)))
  have f3 : fieldAt w 4 3 = g := fieldAt_eq ((skip q0 z0 0 3 rfl rfl).trans (low q1 g.isLt rfl))
  refine ⟨Nat.lt_of_lt_of_le (bound q0 z0 (bound q1 g.isLt (bound q2 b.isLt (bound q3 a.isLt (bound q4 d.isLt (bound q5 z5 (Nat.lt_succ_of_le hk) rfl) rfl) rfl) rfl) rfl) rfl) (Nat.le_of_ble_eq_true rfl), (skip q0 z0 27 1 rfl rfl).trans ((skip q1 g.isLt 24 1 rfl rfl).trans ((skip q2 b.isLt 18 1 rfl rfl).trans ((skip q3 a.isLt 12 1 rfl rfl).trans ((skip q4 d.isLt 6 1 rfl rfl).trans ((skip q5 z5 0 1 rfl rfl).trans (top hk)))))), ?_⟩
  rw [major20 w m0]
  simp [decodeMajor20, e0, f0, f1, f2, f3]

theorem vshr (d : BitVec 6) (a : BitVec 6) (b : BitVec 6) (g : BitVec 3) : Statement (.vshr d a b g) := by
  refine of_fields rfl ?_
  intro k hk w hw
  obtain ⟨r5, q5⟩ : ∃ r, r = 32 + 64 * k := ⟨_, rfl⟩
  obtain ⟨r4, q4⟩ : ∃ r, r = d.toNat + 64 * r5 := ⟨_, rfl⟩
  obtain ⟨r3, q3⟩ : ∃ r, r = a.toNat + 64 * r4 := ⟨_, rfl⟩
  obtain ⟨r2, q2⟩ : ∃ r, r = b.toNat + 64 * r3 := ⟨_, rfl⟩
  obtain ⟨r1, q1⟩ : ∃ r, r = g.toNat + 8 * r2 := ⟨_, rfl⟩
  have q0 : w = 9 + 16 * r1 := by simp only [assemble] at hw; omega
  have z0 : 9 < 2 ^ 4 := Nat.le_of_ble_eq_true rfl
  have z5 : 32 < 2 ^ 6 := Nat.le_of_ble_eq_true rfl
  have m0 : bitsAt w 25 6 = 32 := (skip q0 z0 21 6 rfl rfl).trans ((skip q1 g.isLt 18 6 rfl rfl).trans ((skip q2 b.isLt 12 6 rfl rfl).trans ((skip q3 a.isLt 6 6 rfl rfl).trans ((skip q4 d.isLt 0 6 rfl rfl).trans (low q5 z5 rfl)))))
  have e0 : bitsAt w 0 4 = 9 := low q0 z0 rfl
  have f0 : fieldAt w 19 6 = d := fieldAt_eq ((skip q0 z0 15 6 rfl rfl).trans ((skip q1 g.isLt 12 6 rfl rfl).trans ((skip q2 b.isLt 6 6 rfl rfl).trans ((skip q3 a.isLt 0 6 rfl rfl).trans (low q4 d.isLt rfl)))))
  have f1 : fieldAt w 13 6 = a := fieldAt_eq ((skip q0 z0 9 6 rfl rfl).trans ((skip q1 g.isLt 6 6 rfl rfl).trans ((skip q2 b.isLt 0 6 rfl rfl).trans (low q3 a.isLt rfl))))
  have f2 : fieldAt w 7 6 = b := fieldAt_eq ((skip q0 z0 3 6 rfl rfl).trans ((skip q1 g.isLt 0 6 rfl rfl).trans (low q2 b.isLt rfl)))
  have f3 : fieldAt w 4 3 = g := fieldAt_eq ((skip q0 z0 0 3 rfl rfl).trans (low q1 g.isLt rfl))
  refine ⟨Nat.lt_of_lt_of_le (bound q0 z0 (bound q1 g.isLt (bound q2 b.isLt (bound q3 a.isLt (bound q4 d.isLt (bound q5 z5 (Nat.lt_succ_of_le hk) rfl) rfl) rfl) rfl) rfl) rfl) (Nat.le_of_ble_eq_true rfl), (skip q0 z0 27 1 rfl rfl).trans ((skip q1 g.isLt 24 1 rfl rfl).trans ((skip q2 b.isLt 18 1 rfl rfl).trans ((skip q3 a.isLt 12 1 rfl rfl).trans ((skip q4 d.isLt 6 1 rfl rfl).trans ((skip q5 z5 0 1 rfl rfl).trans (top hk)))))), ?_⟩
  rw [major20 w m0]
  simp [decodeMajor20, e0, f0, f1, f2, f3]

theorem vsra (d : BitVec 6) (a : BitVec 6) (b : BitVec 6) (g : BitVec 3) : Statement (.vsra d a b g) := by
  refine of_fields rfl ?_
  intro k hk w hw
  obtain ⟨r5, q5⟩ : ∃ r, r = 32 + 64 * k := ⟨_, rfl⟩
  obtain ⟨r4, q4⟩ : ∃ r, r = d.toNat + 64 * r5 := ⟨_, rfl⟩
  obtain ⟨r3, q3⟩ : ∃ r, r = a.toNat + 64 * r4 := ⟨_, rfl⟩
  obtain ⟨r2, q2⟩ : ∃ r, r = b.toNat + 64 * r3 := ⟨_, rfl⟩
  obtain ⟨r1, q1⟩ : ∃ r, r = g.toNat + 8 * r2 := ⟨_, rfl⟩
  have q0 : w = 10 + 16 * r1 := by simp only [assemble] at hw; omega
  have z0 : 10 < 2 ^ 4 := Nat.le_of_ble_eq_true rfl
  have z5 : 32 < 2 ^ 6 := Nat.le_of_ble_eq_true rfl
  have m0 : bitsAt w 25 6 = 32 := (skip q0 z0 21 6 rfl rfl).trans ((skip q1 g.isLt 18 6 rfl rfl).trans ((skip q2 b.isLt 12 6 rfl rfl).trans ((skip q3 a.isLt 6 6 rfl rfl).trans ((skip q4 d.isLt 0 6 rfl rfl).trans (low q5 z5 rfl)))))
  have e0 : bitsAt w 0 4 = 10 := low q0 z0 rfl
  have f0 : fieldAt w 19 6 = d := fieldAt_eq ((skip q0 z0 15 6 rfl rfl).trans ((skip q1 g.isLt 12 6 rfl rfl).trans ((skip q2 b.isLt 6 6 rfl rfl).trans ((skip q3 a.isLt 0 6 rfl rfl).trans (low q4 d.isLt rfl)))))
  have f1 : fieldAt w 13 6 = a := fieldAt_eq ((skip q0 z0 9 6 rfl rfl).trans ((skip q1 g.isLt 6 6 rfl rfl).trans ((skip q2 b.isLt 0 6 rfl rfl).trans (low q3 a.isLt rfl))))
  have f2 : fieldAt w 7 6 = b := fieldAt_eq ((skip q0 z0 3 6 rfl rfl).trans ((skip q1 g.isLt 0 6 rfl rfl).trans (low q2 b.isLt rfl)))
  have f3 : fieldAt w 4 3 = g := fieldAt_eq ((skip q0 z0 0 3 rfl rfl).trans (low q1 g.isLt rfl))
  refine ⟨Nat.lt_of_lt_of_le (bound q0 z0 (bound q1 g.isLt (bound q2 b.isLt (bound q3 a.isLt (bound q4 d.isLt (bound q5 z5 (Nat.lt_succ_of_le hk) rfl) rfl) rfl) rfl) rfl) rfl) (Nat.le_of_ble_eq_true rfl), (skip q0 z0 27 1 rfl rfl).trans ((skip q1 g.isLt 24 1 rfl rfl).trans ((skip q2 b.isLt 18 1 rfl rfl).trans ((skip q3 a.isLt 12 1 rfl rfl).trans ((skip q4 d.isLt 6 1 rfl rfl).trans ((skip q5 z5 0 1 rfl rfl).trans (top hk)))))), ?_⟩
  rw [major20 w m0]
  simp [decodeMajor20, e0, f0, f1, f2, f3]

theorem vminI (d : BitVec 6) (a : BitVec 6) (b : BitVec 6) (g : BitVec 3) : Statement (.vminI d a b g) := by
  refine of_fields rfl ?_
  intro k hk w hw
  obtain ⟨r5, q5⟩ : ∃ r, r = 32 + 64 * k := ⟨_, rfl⟩
  obtain ⟨r4, q4⟩ : ∃ r, r = d.toNat + 64 * r5 := ⟨_, rfl⟩
  obtain ⟨r3, q3⟩ : ∃ r, r = a.toNat + 64 * r4 := ⟨_, rfl⟩
  obtain ⟨r2, q2⟩ : ∃ r, r = b.toNat + 64 * r3 := ⟨_, rfl⟩
  obtain ⟨r1, q1⟩ : ∃ r, r = g.toNat + 8 * r2 := ⟨_, rfl⟩
  have q0 : w = 11 + 16 * r1 := by simp only [assemble] at hw; omega
  have z0 : 11 < 2 ^ 4 := Nat.le_of_ble_eq_true rfl
  have z5 : 32 < 2 ^ 6 := Nat.le_of_ble_eq_true rfl
  have m0 : bitsAt w 25 6 = 32 := (skip q0 z0 21 6 rfl rfl).trans ((skip q1 g.isLt 18 6 rfl rfl).trans ((skip q2 b.isLt 12 6 rfl rfl).trans ((skip q3 a.isLt 6 6 rfl rfl).trans ((skip q4 d.isLt 0 6 rfl rfl).trans (low q5 z5 rfl)))))
  have e0 : bitsAt w 0 4 = 11 := low q0 z0 rfl
  have f0 : fieldAt w 19 6 = d := fieldAt_eq ((skip q0 z0 15 6 rfl rfl).trans ((skip q1 g.isLt 12 6 rfl rfl).trans ((skip q2 b.isLt 6 6 rfl rfl).trans ((skip q3 a.isLt 0 6 rfl rfl).trans (low q4 d.isLt rfl)))))
  have f1 : fieldAt w 13 6 = a := fieldAt_eq ((skip q0 z0 9 6 rfl rfl).trans ((skip q1 g.isLt 6 6 rfl rfl).trans ((skip q2 b.isLt 0 6 rfl rfl).trans (low q3 a.isLt rfl))))
  have f2 : fieldAt w 7 6 = b := fieldAt_eq ((skip q0 z0 3 6 rfl rfl).trans ((skip q1 g.isLt 0 6 rfl rfl).trans (low q2 b.isLt rfl)))
  have f3 : fieldAt w 4 3 = g := fieldAt_eq ((skip q0 z0 0 3 rfl rfl).trans (low q1 g.isLt rfl))
  refine ⟨Nat.lt_of_lt_of_le (bound q0 z0 (bound q1 g.isLt (bound q2 b.isLt (bound q3 a.isLt (bound q4 d.isLt (bound q5 z5 (Nat.lt_succ_of_le hk) rfl) rfl) rfl) rfl) rfl) rfl) (Nat.le_of_ble_eq_true rfl), (skip q0 z0 27 1 rfl rfl).trans ((skip q1 g.isLt 24 1 rfl rfl).trans ((skip q2 b.isLt 18 1 rfl rfl).trans ((skip q3 a.isLt 12 1 rfl rfl).trans ((skip q4 d.isLt 6 1 rfl rfl).trans ((skip q5 z5 0 1 rfl rfl).trans (top hk)))))), ?_⟩
  rw [major20 w m0]
  simp [decodeMajor20, e0, f0, f1, f2, f3]

theorem vmaxI (d : BitVec 6) (a : BitVec 6) (b : BitVec 6) (g : BitVec 3) : Statement (.vmaxI d a b g) := by
  refine of_fields rfl ?_
  intro k hk w hw
  obtain ⟨r5, q5⟩ : ∃ r, r = 32 + 64 * k := ⟨_, rfl⟩
  obtain ⟨r4, q4⟩ : ∃ r, r = d.toNat + 64 * r5 := ⟨_, rfl⟩
  obtain ⟨r3, q3⟩ : ∃ r, r = a.toNat + 64 * r4 := ⟨_, rfl⟩
  obtain ⟨r2, q2⟩ : ∃ r, r = b.toNat + 64 * r3 := ⟨_, rfl⟩
  obtain ⟨r1, q1⟩ : ∃ r, r = g.toNat + 8 * r2 := ⟨_, rfl⟩
  have q0 : w = 12 + 16 * r1 := by simp only [assemble] at hw; omega
  have z0 : 12 < 2 ^ 4 := Nat.le_of_ble_eq_true rfl
  have z5 : 32 < 2 ^ 6 := Nat.le_of_ble_eq_true rfl
  have m0 : bitsAt w 25 6 = 32 := (skip q0 z0 21 6 rfl rfl).trans ((skip q1 g.isLt 18 6 rfl rfl).trans ((skip q2 b.isLt 12 6 rfl rfl).trans ((skip q3 a.isLt 6 6 rfl rfl).trans ((skip q4 d.isLt 0 6 rfl rfl).trans (low q5 z5 rfl)))))
  have e0 : bitsAt w 0 4 = 12 := low q0 z0 rfl
  have f0 : fieldAt w 19 6 = d := fieldAt_eq ((skip q0 z0 15 6 rfl rfl).trans ((skip q1 g.isLt 12 6 rfl rfl).trans ((skip q2 b.isLt 6 6 rfl rfl).trans ((skip q3 a.isLt 0 6 rfl rfl).trans (low q4 d.isLt rfl)))))
  have f1 : fieldAt w 13 6 = a := fieldAt_eq ((skip q0 z0 9 6 rfl rfl).trans ((skip q1 g.isLt 6 6 rfl rfl).trans ((skip q2 b.isLt 0 6 rfl rfl).trans (low q3 a.isLt rfl))))
  have f2 : fieldAt w 7 6 = b := fieldAt_eq ((skip q0 z0 3 6 rfl rfl).trans ((skip q1 g.isLt 0 6 rfl rfl).trans (low q2 b.isLt rfl)))
  have f3 : fieldAt w 4 3 = g := fieldAt_eq ((skip q0 z0 0 3 rfl rfl).trans (low q1 g.isLt rfl))
  refine ⟨Nat.lt_of_lt_of_le (bound q0 z0 (bound q1 g.isLt (bound q2 b.isLt (bound q3 a.isLt (bound q4 d.isLt (bound q5 z5 (Nat.lt_succ_of_le hk) rfl) rfl) rfl) rfl) rfl) rfl) (Nat.le_of_ble_eq_true rfl), (skip q0 z0 27 1 rfl rfl).trans ((skip q1 g.isLt 24 1 rfl rfl).trans ((skip q2 b.isLt 18 1 rfl rfl).trans ((skip q3 a.isLt 12 1 rfl rfl).trans ((skip q4 d.isLt 6 1 rfl rfl).trans ((skip q5 z5 0 1 rfl rfl).trans (top hk)))))), ?_⟩
  rw [major20 w m0]
  simp [decodeMajor20, e0, f0, f1, f2, f3]

theorem vsel (d : BitVec 6) (a : BitVec 6) (b : BitVec 6) (q : BitVec 3) : Statement (.vsel d a b q) := by
  refine of_fields rfl ?_
  intro k hk w hw
  obtain ⟨r5, q5⟩ : ∃ r, r = 32 + 64 * k := ⟨_, rfl⟩
  obtain ⟨r4, q4⟩ : ∃ r, r = d.toNat + 64 * r5 := ⟨_, rfl⟩
  obtain ⟨r3, q3⟩ : ∃ r, r = a.toNat + 64 * r4 := ⟨_, rfl⟩
  obtain ⟨r2, q2⟩ : ∃ r, r = b.toNat + 64 * r3 := ⟨_, rfl⟩
  obtain ⟨r1, q1⟩ : ∃ r, r = q.toNat + 8 * r2 := ⟨_, rfl⟩
  have q0 : w = 13 + 16 * r1 := by simp only [assemble] at hw; omega
  have z0 : 13 < 2 ^ 4 := Nat.le_of_ble_eq_true rfl
  have z5 : 32 < 2 ^ 6 := Nat.le_of_ble_eq_true rfl
  have m0 : bitsAt w 25 6 = 32 := (skip q0 z0 21 6 rfl rfl).trans ((skip q1 q.isLt 18 6 rfl rfl).trans ((skip q2 b.isLt 12 6 rfl rfl).trans ((skip q3 a.isLt 6 6 rfl rfl).trans ((skip q4 d.isLt 0 6 rfl rfl).trans (low q5 z5 rfl)))))
  have e0 : bitsAt w 0 4 = 13 := low q0 z0 rfl
  have f0 : fieldAt w 19 6 = d := fieldAt_eq ((skip q0 z0 15 6 rfl rfl).trans ((skip q1 q.isLt 12 6 rfl rfl).trans ((skip q2 b.isLt 6 6 rfl rfl).trans ((skip q3 a.isLt 0 6 rfl rfl).trans (low q4 d.isLt rfl)))))
  have f1 : fieldAt w 13 6 = a := fieldAt_eq ((skip q0 z0 9 6 rfl rfl).trans ((skip q1 q.isLt 6 6 rfl rfl).trans ((skip q2 b.isLt 0 6 rfl rfl).trans (low q3 a.isLt rfl))))
  have f2 : fieldAt w 7 6 = b := fieldAt_eq ((skip q0 z0 3 6 rfl rfl).trans ((skip q1 q.isLt 0 6 rfl rfl).trans (low q2 b.isLt rfl)))
  have f3 : fieldAt w 4 3 = q := fieldAt_eq ((skip q0 z0 0 3 rfl rfl).trans (low q1 q.isLt rfl))
  refine ⟨Nat.lt_of_lt_of_le (bound q0 z0 (bound q1 q.isLt (bound q2 b.isLt (bound q3 a.isLt (bound q4 d.isLt (bound q5 z5 (Nat.lt_succ_of_le hk) rfl) rfl) rfl) rfl) rfl) rfl) (Nat.le_of_ble_eq_true rfl), (skip q0 z0 27 1 rfl rfl).trans ((skip q1 q.isLt 24 1 rfl rfl).trans ((skip q2 b.isLt 18 1 rfl rfl).trans ((skip q3 a.isLt 12 1 rfl rfl).trans ((skip q4 d.isLt 6 1 rfl rfl).trans ((skip q5 z5 0 1 rfl rfl).trans (top hk)))))), ?_⟩
  rw [major20 w m0]
  simp [decodeMajor20, e0, f0, f1, f2, f3]

theorem vmov (d : BitVec 6) (a : BitVec 6) (g : BitVec 3) : Statement (.vmov d a g) := by
  refine of_fields rfl ?_
  intro k hk w hw
  obtain ⟨r5, q5⟩ : ∃ r, r = 32 + 64 * k := ⟨_, rfl⟩
  obtain ⟨r4, q4⟩ : ∃ r, r = d.toNat + 64 * r5 := ⟨_, rfl⟩
  obtain ⟨r3, q3⟩ : ∃ r, r = a.toNat + 64 * r4 := ⟨_, rfl⟩
  obtain ⟨r2, q2⟩ : ∃ r, r = 0 + 64 * r3 := ⟨_, rfl⟩
  obtain ⟨r1, q1⟩ : ∃ r, r = g.toNat + 8 * r2 := ⟨_, rfl⟩
  have q0 : w = 14 + 16 * r1 := by simp only [assemble] at hw; omega
  have z0 : 14 < 2 ^ 4 := Nat.le_of_ble_eq_true rfl
  have z2 : 0 < 2 ^ 6 := Nat.le_of_ble_eq_true rfl
  have z5 : 32 < 2 ^ 6 := Nat.le_of_ble_eq_true rfl
  have m0 : bitsAt w 25 6 = 32 := (skip q0 z0 21 6 rfl rfl).trans ((skip q1 g.isLt 18 6 rfl rfl).trans ((skip q2 z2 12 6 rfl rfl).trans ((skip q3 a.isLt 6 6 rfl rfl).trans ((skip q4 d.isLt 0 6 rfl rfl).trans (low q5 z5 rfl)))))
  have e0 : bitsAt w 0 4 = 14 := low q0 z0 rfl
  have e1 : bitsAt w 7 6 = 0 := (skip q0 z0 3 6 rfl rfl).trans ((skip q1 g.isLt 0 6 rfl rfl).trans (low q2 z2 rfl))
  have f0 : fieldAt w 19 6 = d := fieldAt_eq ((skip q0 z0 15 6 rfl rfl).trans ((skip q1 g.isLt 12 6 rfl rfl).trans ((skip q2 z2 6 6 rfl rfl).trans ((skip q3 a.isLt 0 6 rfl rfl).trans (low q4 d.isLt rfl)))))
  have f1 : fieldAt w 13 6 = a := fieldAt_eq ((skip q0 z0 9 6 rfl rfl).trans ((skip q1 g.isLt 6 6 rfl rfl).trans ((skip q2 z2 0 6 rfl rfl).trans (low q3 a.isLt rfl))))
  have f2 : fieldAt w 4 3 = g := fieldAt_eq ((skip q0 z0 0 3 rfl rfl).trans (low q1 g.isLt rfl))
  refine ⟨Nat.lt_of_lt_of_le (bound q0 z0 (bound q1 g.isLt (bound q2 z2 (bound q3 a.isLt (bound q4 d.isLt (bound q5 z5 (Nat.lt_succ_of_le hk) rfl) rfl) rfl) rfl) rfl) rfl) (Nat.le_of_ble_eq_true rfl), (skip q0 z0 27 1 rfl rfl).trans ((skip q1 g.isLt 24 1 rfl rfl).trans ((skip q2 z2 18 1 rfl rfl).trans ((skip q3 a.isLt 12 1 rfl rfl).trans ((skip q4 d.isLt 6 1 rfl rfl).trans ((skip q5 z5 0 1 rfl rfl).trans (top hk)))))), ?_⟩
  rw [major20 w m0]
  simp [decodeMajor20, e0, e1, f0, f1, f2]

theorem vbcast (d : BitVec 6) (a : BitVec 6) (g : BitVec 3) : Statement (.vbcast d a g) := by
  refine of_fields rfl ?_
  intro k hk w hw
  obtain ⟨r5, q5⟩ : ∃ r, r = 32 + 64 * k := ⟨_, rfl⟩
  obtain ⟨r4, q4⟩ : ∃ r, r = d.toNat + 64 * r5 := ⟨_, rfl⟩
  obtain ⟨r3, q3⟩ : ∃ r, r = a.toNat + 64 * r4 := ⟨_, rfl⟩
  obtain ⟨r2, q2⟩ : ∃ r, r = 0 + 64 * r3 := ⟨_, rfl⟩
  obtain ⟨r1, q1⟩ : ∃ r, r = g.toNat + 8 * r2 := ⟨_, rfl⟩
  have q0 : w = 15 + 16 * r1 := by simp only [assemble] at hw; omega
  have z0 : 15 < 2 ^ 4 := Nat.le_of_ble_eq_true rfl
  have z2 : 0 < 2 ^ 6 := Nat.le_of_ble_eq_true rfl
  have z5 : 32 < 2 ^ 6 := Nat.le_of_ble_eq_true rfl
  have m0 : bitsAt w 25 6 = 32 := (skip q0 z0 21 6 rfl rfl).trans ((skip q1 g.isLt 18 6 rfl rfl).trans ((skip q2 z2 12 6 rfl rfl).trans ((skip q3 a.isLt 6 6 rfl rfl).trans ((skip q4 d.isLt 0 6 rfl rfl).trans (low q5 z5 rfl)))))
  have e0 : bitsAt w 0 4 = 15 := low q0 z0 rfl
  have e1 : bitsAt w 7 6 = 0 := (skip q0 z0 3 6 rfl rfl).trans ((skip q1 g.isLt 0 6 rfl rfl).trans (low q2 z2 rfl))
  have f0 : fieldAt w 19 6 = d := fieldAt_eq ((skip q0 z0 15 6 rfl rfl).trans ((skip q1 g.isLt 12 6 rfl rfl).trans ((skip q2 z2 6 6 rfl rfl).trans ((skip q3 a.isLt 0 6 rfl rfl).trans (low q4 d.isLt rfl)))))
  have f1 : fieldAt w 13 6 = a := fieldAt_eq ((skip q0 z0 9 6 rfl rfl).trans ((skip q1 g.isLt 6 6 rfl rfl).trans ((skip q2 z2 0 6 rfl rfl).trans (low q3 a.isLt rfl))))
  have f2 : fieldAt w 4 3 = g := fieldAt_eq ((skip q0 z0 0 3 rfl rfl).trans (low q1 g.isLt rfl))
  refine ⟨Nat.lt_of_lt_of_le (bound q0 z0 (bound q1 g.isLt (bound q2 z2 (bound q3 a.isLt (bound q4 d.isLt (bound q5 z5 (Nat.lt_succ_of_le hk) rfl) rfl) rfl) rfl) rfl) rfl) (Nat.le_of_ble_eq_true rfl), (skip q0 z0 27 1 rfl rfl).trans ((skip q1 g.isLt 24 1 rfl rfl).trans ((skip q2 z2 18 1 rfl rfl).trans ((skip q3 a.isLt 12 1 rfl rfl).trans ((skip q4 d.isLt 6 1 rfl rfl).trans ((skip q5 z5 0 1 rfl rfl).trans (top hk)))))), ?_⟩
  rw [major20 w m0]
  simp [decodeMajor20, e0, e1, f0, f1, f2]

theorem vminN (d : BitVec 6) (a : BitVec 6) (b : BitVec 6) (g : BitVec 3) : Statement (.vminN d a b g) := by
  refine of_fields rfl ?_
  intro k hk w hw
  obtain ⟨r5, q5⟩ : ∃ r, r = 33 + 64 * k := ⟨_, rfl⟩
  obtain ⟨r4, q4⟩ : ∃ r, r = d.toNat + 64 * r5 := ⟨_, rfl⟩
  obtain ⟨r3, q3⟩ : ∃ r, r = a.toNat + 64 * r4 := ⟨_, rfl⟩
  obtain ⟨r2, q2⟩ : ∃ r, r = b.toNat + 64 * r3 := ⟨_, rfl⟩
  obtain ⟨r1, q1⟩ : ∃ r, r = g.toNat + 8 * r2 := ⟨_, rfl⟩
  have q0 : w = 0 + 16 * r1 := by simp only [assemble] at hw; omega
  have z0 : 0 < 2 ^ 4 := Nat.le_of_ble_eq_true rfl
  have z5 : 33 < 2 ^ 6 := Nat.le_of_ble_eq_true rfl
  have m0 : bitsAt w 25 6 = 33 := (skip q0 z0 21 6 rfl rfl).trans ((skip q1 g.isLt 18 6 rfl rfl).trans ((skip q2 b.isLt 12 6 rfl rfl).trans ((skip q3 a.isLt 6 6 rfl rfl).trans ((skip q4 d.isLt 0 6 rfl rfl).trans (low q5 z5 rfl)))))
  have e0 : bitsAt w 0 4 = 0 := low q0 z0 rfl
  have f0 : fieldAt w 19 6 = d := fieldAt_eq ((skip q0 z0 15 6 rfl rfl).trans ((skip q1 g.isLt 12 6 rfl rfl).trans ((skip q2 b.isLt 6 6 rfl rfl).trans ((skip q3 a.isLt 0 6 rfl rfl).trans (low q4 d.isLt rfl)))))
  have f1 : fieldAt w 13 6 = a := fieldAt_eq ((skip q0 z0 9 6 rfl rfl).trans ((skip q1 g.isLt 6 6 rfl rfl).trans ((skip q2 b.isLt 0 6 rfl rfl).trans (low q3 a.isLt rfl))))
  have f2 : fieldAt w 7 6 = b := fieldAt_eq ((skip q0 z0 3 6 rfl rfl).trans ((skip q1 g.isLt 0 6 rfl rfl).trans (low q2 b.isLt rfl)))
  have f3 : fieldAt w 4 3 = g := fieldAt_eq ((skip q0 z0 0 3 rfl rfl).trans (low q1 g.isLt rfl))
  refine ⟨Nat.lt_of_lt_of_le (bound q0 z0 (bound q1 g.isLt (bound q2 b.isLt (bound q3 a.isLt (bound q4 d.isLt (bound q5 z5 (Nat.lt_succ_of_le hk) rfl) rfl) rfl) rfl) rfl) rfl) (Nat.le_of_ble_eq_true rfl), (skip q0 z0 27 1 rfl rfl).trans ((skip q1 g.isLt 24 1 rfl rfl).trans ((skip q2 b.isLt 18 1 rfl rfl).trans ((skip q3 a.isLt 12 1 rfl rfl).trans ((skip q4 d.isLt 6 1 rfl rfl).trans ((skip q5 z5 0 1 rfl rfl).trans (top hk)))))), ?_⟩
  rw [major21 w m0]
  simp [decodeMajor21, e0, f0, f1, f2, f3]

theorem vmaxN (d : BitVec 6) (a : BitVec 6) (b : BitVec 6) (g : BitVec 3) : Statement (.vmaxN d a b g) := by
  refine of_fields rfl ?_
  intro k hk w hw
  obtain ⟨r5, q5⟩ : ∃ r, r = 33 + 64 * k := ⟨_, rfl⟩
  obtain ⟨r4, q4⟩ : ∃ r, r = d.toNat + 64 * r5 := ⟨_, rfl⟩
  obtain ⟨r3, q3⟩ : ∃ r, r = a.toNat + 64 * r4 := ⟨_, rfl⟩
  obtain ⟨r2, q2⟩ : ∃ r, r = b.toNat + 64 * r3 := ⟨_, rfl⟩
  obtain ⟨r1, q1⟩ : ∃ r, r = g.toNat + 8 * r2 := ⟨_, rfl⟩
  have q0 : w = 1 + 16 * r1 := by simp only [assemble] at hw; omega
  have z0 : 1 < 2 ^ 4 := Nat.le_of_ble_eq_true rfl
  have z5 : 33 < 2 ^ 6 := Nat.le_of_ble_eq_true rfl
  have m0 : bitsAt w 25 6 = 33 := (skip q0 z0 21 6 rfl rfl).trans ((skip q1 g.isLt 18 6 rfl rfl).trans ((skip q2 b.isLt 12 6 rfl rfl).trans ((skip q3 a.isLt 6 6 rfl rfl).trans ((skip q4 d.isLt 0 6 rfl rfl).trans (low q5 z5 rfl)))))
  have e0 : bitsAt w 0 4 = 1 := low q0 z0 rfl
  have f0 : fieldAt w 19 6 = d := fieldAt_eq ((skip q0 z0 15 6 rfl rfl).trans ((skip q1 g.isLt 12 6 rfl rfl).trans ((skip q2 b.isLt 6 6 rfl rfl).trans ((skip q3 a.isLt 0 6 rfl rfl).trans (low q4 d.isLt rfl)))))
  have f1 : fieldAt w 13 6 = a := fieldAt_eq ((skip q0 z0 9 6 rfl rfl).trans ((skip q1 g.isLt 6 6 rfl rfl).trans ((skip q2 b.isLt 0 6 rfl rfl).trans (low q3 a.isLt rfl))))
  have f2 : fieldAt w 7 6 = b := fieldAt_eq ((skip q0 z0 3 6 rfl rfl).trans ((skip q1 g.isLt 0 6 rfl rfl).trans (low q2 b.isLt rfl)))
  have f3 : fieldAt w 4 3 = g := fieldAt_eq ((skip q0 z0 0 3 rfl rfl).trans (low q1 g.isLt rfl))
  refine ⟨Nat.lt_of_lt_of_le (bound q0 z0 (bound q1 g.isLt (bound q2 b.isLt (bound q3 a.isLt (bound q4 d.isLt (bound q5 z5 (Nat.lt_succ_of_le hk) rfl) rfl) rfl) rfl) rfl) rfl) (Nat.le_of_ble_eq_true rfl), (skip q0 z0 27 1 rfl rfl).trans ((skip q1 g.isLt 24 1 rfl rfl).trans ((skip q2 b.isLt 18 1 rfl rfl).trans ((skip q3 a.isLt 12 1 rfl rfl).trans ((skip q4 d.isLt 6 1 rfl rfl).trans ((skip q5 z5 0 1 rfl rfl).trans (top hk)))))), ?_⟩
  rw [major21 w m0]
  simp [decodeMajor21, e0, f0, f1, f2, f3]

theorem vmulhN (d : BitVec 6) (a : BitVec 6) (b : BitVec 6) (g : BitVec 3) : Statement (.vmulhN d a b g) := by
  refine of_fields rfl ?_
  intro k hk w hw
  obtain ⟨r5, q5⟩ : ∃ r, r = 33 + 64 * k := ⟨_, rfl⟩
  obtain ⟨r4, q4⟩ : ∃ r, r = d.toNat + 64 * r5 := ⟨_, rfl⟩
  obtain ⟨r3, q3⟩ : ∃ r, r = a.toNat + 64 * r4 := ⟨_, rfl⟩
  obtain ⟨r2, q2⟩ : ∃ r, r = b.toNat + 64 * r3 := ⟨_, rfl⟩
  obtain ⟨r1, q1⟩ : ∃ r, r = g.toNat + 8 * r2 := ⟨_, rfl⟩
  have q0 : w = 2 + 16 * r1 := by simp only [assemble] at hw; omega
  have z0 : 2 < 2 ^ 4 := Nat.le_of_ble_eq_true rfl
  have z5 : 33 < 2 ^ 6 := Nat.le_of_ble_eq_true rfl
  have m0 : bitsAt w 25 6 = 33 := (skip q0 z0 21 6 rfl rfl).trans ((skip q1 g.isLt 18 6 rfl rfl).trans ((skip q2 b.isLt 12 6 rfl rfl).trans ((skip q3 a.isLt 6 6 rfl rfl).trans ((skip q4 d.isLt 0 6 rfl rfl).trans (low q5 z5 rfl)))))
  have e0 : bitsAt w 0 4 = 2 := low q0 z0 rfl
  have f0 : fieldAt w 19 6 = d := fieldAt_eq ((skip q0 z0 15 6 rfl rfl).trans ((skip q1 g.isLt 12 6 rfl rfl).trans ((skip q2 b.isLt 6 6 rfl rfl).trans ((skip q3 a.isLt 0 6 rfl rfl).trans (low q4 d.isLt rfl)))))
  have f1 : fieldAt w 13 6 = a := fieldAt_eq ((skip q0 z0 9 6 rfl rfl).trans ((skip q1 g.isLt 6 6 rfl rfl).trans ((skip q2 b.isLt 0 6 rfl rfl).trans (low q3 a.isLt rfl))))
  have f2 : fieldAt w 7 6 = b := fieldAt_eq ((skip q0 z0 3 6 rfl rfl).trans ((skip q1 g.isLt 0 6 rfl rfl).trans (low q2 b.isLt rfl)))
  have f3 : fieldAt w 4 3 = g := fieldAt_eq ((skip q0 z0 0 3 rfl rfl).trans (low q1 g.isLt rfl))
  refine ⟨Nat.lt_of_lt_of_le (bound q0 z0 (bound q1 g.isLt (bound q2 b.isLt (bound q3 a.isLt (bound q4 d.isLt (bound q5 z5 (Nat.lt_succ_of_le hk) rfl) rfl) rfl) rfl) rfl) rfl) (Nat.le_of_ble_eq_true rfl), (skip q0 z0 27 1 rfl rfl).trans ((skip q1 g.isLt 24 1 rfl rfl).trans ((skip q2 b.isLt 18 1 rfl rfl).trans ((skip q3 a.isLt 12 1 rfl rfl).trans ((skip q4 d.isLt 6 1 rfl rfl).trans ((skip q5 z5 0 1 rfl rfl).trans (top hk)))))), ?_⟩
  rw [major21 w m0]
  simp [decodeMajor21, e0, f0, f1, f2, f3]

theorem vbfxI (d : BitVec 6) (a : BitVec 6) (b : BitVec 6) (g : BitVec 3) : Statement (.vbfxI d a b g) := by
  refine of_fields rfl ?_
  intro k hk w hw
  obtain ⟨r5, q5⟩ : ∃ r, r = 33 + 64 * k := ⟨_, rfl⟩
  obtain ⟨r4, q4⟩ : ∃ r, r = d.toNat + 64 * r5 := ⟨_, rfl⟩
  obtain ⟨r3, q3⟩ : ∃ r, r = a.toNat + 64 * r4 := ⟨_, rfl⟩
  obtain ⟨r2, q2⟩ : ∃ r, r = b.toNat + 64 * r3 := ⟨_, rfl⟩
  obtain ⟨r1, q1⟩ : ∃ r, r = g.toNat + 8 * r2 := ⟨_, rfl⟩
  have q0 : w = 3 + 16 * r1 := by simp only [assemble] at hw; omega
  have z0 : 3 < 2 ^ 4 := Nat.le_of_ble_eq_true rfl
  have z5 : 33 < 2 ^ 6 := Nat.le_of_ble_eq_true rfl
  have m0 : bitsAt w 25 6 = 33 := (skip q0 z0 21 6 rfl rfl).trans ((skip q1 g.isLt 18 6 rfl rfl).trans ((skip q2 b.isLt 12 6 rfl rfl).trans ((skip q3 a.isLt 6 6 rfl rfl).trans ((skip q4 d.isLt 0 6 rfl rfl).trans (low q5 z5 rfl)))))
  have e0 : bitsAt w 0 4 = 3 := low q0 z0 rfl
  have f0 : fieldAt w 19 6 = d := fieldAt_eq ((skip q0 z0 15 6 rfl rfl).trans ((skip q1 g.isLt 12 6 rfl rfl).trans ((skip q2 b.isLt 6 6 rfl rfl).trans ((skip q3 a.isLt 0 6 rfl rfl).trans (low q4 d.isLt rfl)))))
  have f1 : fieldAt w 13 6 = a := fieldAt_eq ((skip q0 z0 9 6 rfl rfl).trans ((skip q1 g.isLt 6 6 rfl rfl).trans ((skip q2 b.isLt 0 6 rfl rfl).trans (low q3 a.isLt rfl))))
  have f2 : fieldAt w 7 6 = b := fieldAt_eq ((skip q0 z0 3 6 rfl rfl).trans ((skip q1 g.isLt 0 6 rfl rfl).trans (low q2 b.isLt rfl)))
  have f3 : fieldAt w 4 3 = g := fieldAt_eq ((skip q0 z0 0 3 rfl rfl).trans (low q1 g.isLt rfl))
  refine ⟨Nat.lt_of_lt_of_le (bound q0 z0 (bound q1 g.isLt (bound q2 b.isLt (bound q3 a.isLt (bound q4 d.isLt (bound q5 z5 (Nat.lt_succ_of_le hk) rfl) rfl) rfl) rfl) rfl) rfl) (Nat.le_of_ble_eq_true rfl), (skip q0 z0 27 1 rfl rfl).trans ((skip q1 g.isLt 24 1 rfl rfl).trans ((skip q2 b.isLt 18 1 rfl rfl).trans ((skip q3 a.isLt 12 1 rfl rfl).trans ((skip q4 d.isLt 6 1 rfl rfl).trans ((skip q5 z5 0 1 rfl rfl).trans (top hk)))))), ?_⟩
  rw [major21 w m0]
  simp [decodeMajor21, e0, f0, f1, f2, f3]

theorem vbfxN (d : BitVec 6) (a : BitVec 6) (b : BitVec 6) (g : BitVec 3) : Statement (.vbfxN d a b g) := by
  refine of_fields rfl ?_
  intro k hk w hw
  obtain ⟨r5, q5⟩ : ∃ r, r = 33 + 64 * k := ⟨_, rfl⟩
  obtain ⟨r4, q4⟩ : ∃ r, r = d.toNat + 64 * r5 := ⟨_, rfl⟩
  obtain ⟨r3, q3⟩ : ∃ r, r = a.toNat + 64 * r4 := ⟨_, rfl⟩
  obtain ⟨r2, q2⟩ : ∃ r, r = b.toNat + 64 * r3 := ⟨_, rfl⟩
  obtain ⟨r1, q1⟩ : ∃ r, r = g.toNat + 8 * r2 := ⟨_, rfl⟩
  have q0 : w = 4 + 16 * r1 := by simp only [assemble] at hw; omega
  have z0 : 4 < 2 ^ 4 := Nat.le_of_ble_eq_true rfl
  have z5 : 33 < 2 ^ 6 := Nat.le_of_ble_eq_true rfl
  have m0 : bitsAt w 25 6 = 33 := (skip q0 z0 21 6 rfl rfl).trans ((skip q1 g.isLt 18 6 rfl rfl).trans ((skip q2 b.isLt 12 6 rfl rfl).trans ((skip q3 a.isLt 6 6 rfl rfl).trans ((skip q4 d.isLt 0 6 rfl rfl).trans (low q5 z5 rfl)))))
  have e0 : bitsAt w 0 4 = 4 := low q0 z0 rfl
  have f0 : fieldAt w 19 6 = d := fieldAt_eq ((skip q0 z0 15 6 rfl rfl).trans ((skip q1 g.isLt 12 6 rfl rfl).trans ((skip q2 b.isLt 6 6 rfl rfl).trans ((skip q3 a.isLt 0 6 rfl rfl).trans (low q4 d.isLt rfl)))))
  have f1 : fieldAt w 13 6 = a := fieldAt_eq ((skip q0 z0 9 6 rfl rfl).trans ((skip q1 g.isLt 6 6 rfl rfl).trans ((skip q2 b.isLt 0 6 rfl rfl).trans (low q3 a.isLt rfl))))
  have f2 : fieldAt w 7 6 = b := fieldAt_eq ((skip q0 z0 3 6 rfl rfl).trans ((skip q1 g.isLt 0 6 rfl rfl).trans (low q2 b.isLt rfl)))
  have f3 : fieldAt w 4 3 = g := fieldAt_eq ((skip q0 z0 0 3 rfl rfl).trans (low q1 g.isLt rfl))
  refine ⟨Nat.lt_of_lt_of_le (bound q0 z0 (bound q1 g.isLt (bound q2 b.isLt (bound q3 a.isLt (bound q4 d.isLt (bound q5 z5 (Nat.lt_succ_of_le hk) rfl) rfl) rfl) rfl) rfl) rfl) (Nat.le_of_ble_eq_true rfl), (skip q0 z0 27 1 rfl rfl).trans ((skip q1 g.isLt 24 1 rfl rfl).trans ((skip q2 b.isLt 18 1 rfl rfl).trans ((skip q3 a.isLt 12 1 rfl rfl).trans ((skip q4 d.isLt 6 1 rfl rfl).trans ((skip q5 z5 0 1 rfl rfl).trans (top hk)))))), ?_⟩
  rw [major21 w m0]
  simp [decodeMajor21, e0, f0, f1, f2, f3]

theorem vbfi (d : BitVec 6) (a : BitVec 6) (b : BitVec 6) (g : BitVec 3) : Statement (.vbfi d a b g) := by
  refine of_fields rfl ?_
  intro k hk w hw
  obtain ⟨r5, q5⟩ : ∃ r, r = 33 + 64 * k := ⟨_, rfl⟩
  obtain ⟨r4, q4⟩ : ∃ r, r = d.toNat + 64 * r5 := ⟨_, rfl⟩
  obtain ⟨r3, q3⟩ : ∃ r, r = a.toNat + 64 * r4 := ⟨_, rfl⟩
  obtain ⟨r2, q2⟩ : ∃ r, r = b.toNat + 64 * r3 := ⟨_, rfl⟩
  obtain ⟨r1, q1⟩ : ∃ r, r = g.toNat + 8 * r2 := ⟨_, rfl⟩
  have q0 : w = 5 + 16 * r1 := by simp only [assemble] at hw; omega
  have z0 : 5 < 2 ^ 4 := Nat.le_of_ble_eq_true rfl
  have z5 : 33 < 2 ^ 6 := Nat.le_of_ble_eq_true rfl
  have m0 : bitsAt w 25 6 = 33 := (skip q0 z0 21 6 rfl rfl).trans ((skip q1 g.isLt 18 6 rfl rfl).trans ((skip q2 b.isLt 12 6 rfl rfl).trans ((skip q3 a.isLt 6 6 rfl rfl).trans ((skip q4 d.isLt 0 6 rfl rfl).trans (low q5 z5 rfl)))))
  have e0 : bitsAt w 0 4 = 5 := low q0 z0 rfl
  have f0 : fieldAt w 19 6 = d := fieldAt_eq ((skip q0 z0 15 6 rfl rfl).trans ((skip q1 g.isLt 12 6 rfl rfl).trans ((skip q2 b.isLt 6 6 rfl rfl).trans ((skip q3 a.isLt 0 6 rfl rfl).trans (low q4 d.isLt rfl)))))
  have f1 : fieldAt w 13 6 = a := fieldAt_eq ((skip q0 z0 9 6 rfl rfl).trans ((skip q1 g.isLt 6 6 rfl rfl).trans ((skip q2 b.isLt 0 6 rfl rfl).trans (low q3 a.isLt rfl))))
  have f2 : fieldAt w 7 6 = b := fieldAt_eq ((skip q0 z0 3 6 rfl rfl).trans ((skip q1 g.isLt 0 6 rfl rfl).trans (low q2 b.isLt rfl)))
  have f3 : fieldAt w 4 3 = g := fieldAt_eq ((skip q0 z0 0 3 rfl rfl).trans (low q1 g.isLt rfl))
  refine ⟨Nat.lt_of_lt_of_le (bound q0 z0 (bound q1 g.isLt (bound q2 b.isLt (bound q3 a.isLt (bound q4 d.isLt (bound q5 z5 (Nat.lt_succ_of_le hk) rfl) rfl) rfl) rfl) rfl) rfl) (Nat.le_of_ble_eq_true rfl), (skip q0 z0 27 1 rfl rfl).trans ((skip q1 g.isLt 24 1 rfl rfl).trans ((skip q2 b.isLt 18 1 rfl rfl).trans ((skip q3 a.isLt 12 1 rfl rfl).trans ((skip q4 d.isLt 6 1 rfl rfl).trans ((skip q5 z5 0 1 rfl rfl).trans (top hk)))))), ?_⟩
  rw [major21 w m0]
  simp [decodeMajor21, e0, f0, f1, f2, f3]

theorem vclz (d : BitVec 6) (a : BitVec 6) (g : BitVec 3) : Statement (.vclz d a g) := by
  refine of_fields rfl ?_
  intro k hk w hw
  obtain ⟨r5, q5⟩ : ∃ r, r = 33 + 64 * k := ⟨_, rfl⟩
  obtain ⟨r4, q4⟩ : ∃ r, r = d.toNat + 64 * r5 := ⟨_, rfl⟩
  obtain ⟨r3, q3⟩ : ∃ r, r = a.toNat + 64 * r4 := ⟨_, rfl⟩
  obtain ⟨r2, q2⟩ : ∃ r, r = 0 + 64 * r3 := ⟨_, rfl⟩
  obtain ⟨r1, q1⟩ : ∃ r, r = g.toNat + 8 * r2 := ⟨_, rfl⟩
  have q0 : w = 6 + 16 * r1 := by simp only [assemble] at hw; omega
  have z0 : 6 < 2 ^ 4 := Nat.le_of_ble_eq_true rfl
  have z2 : 0 < 2 ^ 6 := Nat.le_of_ble_eq_true rfl
  have z5 : 33 < 2 ^ 6 := Nat.le_of_ble_eq_true rfl
  have m0 : bitsAt w 25 6 = 33 := (skip q0 z0 21 6 rfl rfl).trans ((skip q1 g.isLt 18 6 rfl rfl).trans ((skip q2 z2 12 6 rfl rfl).trans ((skip q3 a.isLt 6 6 rfl rfl).trans ((skip q4 d.isLt 0 6 rfl rfl).trans (low q5 z5 rfl)))))
  have e0 : bitsAt w 0 4 = 6 := low q0 z0 rfl
  have e1 : bitsAt w 7 6 = 0 := (skip q0 z0 3 6 rfl rfl).trans ((skip q1 g.isLt 0 6 rfl rfl).trans (low q2 z2 rfl))
  have f0 : fieldAt w 19 6 = d := fieldAt_eq ((skip q0 z0 15 6 rfl rfl).trans ((skip q1 g.isLt 12 6 rfl rfl).trans ((skip q2 z2 6 6 rfl rfl).trans ((skip q3 a.isLt 0 6 rfl rfl).trans (low q4 d.isLt rfl)))))
  have f1 : fieldAt w 13 6 = a := fieldAt_eq ((skip q0 z0 9 6 rfl rfl).trans ((skip q1 g.isLt 6 6 rfl rfl).trans ((skip q2 z2 0 6 rfl rfl).trans (low q3 a.isLt rfl))))
  have f2 : fieldAt w 4 3 = g := fieldAt_eq ((skip q0 z0 0 3 rfl rfl).trans (low q1 g.isLt rfl))
  refine ⟨Nat.lt_of_lt_of_le (bound q0 z0 (bound q1 g.isLt (bound q2 z2 (bound q3 a.isLt (bound q4 d.isLt (bound q5 z5 (Nat.lt_succ_of_le hk) rfl) rfl) rfl) rfl) rfl) rfl) (Nat.le_of_ble_eq_true rfl), (skip q0 z0 27 1 rfl rfl).trans ((skip q1 g.isLt 24 1 rfl rfl).trans ((skip q2 z2 18 1 rfl rfl).trans ((skip q3 a.isLt 12 1 rfl rfl).trans ((skip q4 d.isLt 6 1 rfl rfl).trans ((skip q5 z5 0 1 rfl rfl).trans (top hk)))))), ?_⟩
  rw [major21 w m0]
  simp [decodeMajor21, e0, e1, f0, f1, f2]

theorem vpopc (d : BitVec 6) (a : BitVec 6) (g : BitVec 3) : Statement (.vpopc d a g) := by
  refine of_fields rfl ?_
  intro k hk w hw
  obtain ⟨r5, q5⟩ : ∃ r, r = 33 + 64 * k := ⟨_, rfl⟩
  obtain ⟨r4, q4⟩ : ∃ r, r = d.toNat + 64 * r5 := ⟨_, rfl⟩
  obtain ⟨r3, q3⟩ : ∃ r, r = a.toNat + 64 * r4 := ⟨_, rfl⟩
  obtain ⟨r2, q2⟩ : ∃ r, r = 0 + 64 * r3 := ⟨_, rfl⟩
  obtain ⟨r1, q1⟩ : ∃ r, r = g.toNat + 8 * r2 := ⟨_, rfl⟩
  have q0 : w = 7 + 16 * r1 := by simp only [assemble] at hw; omega
  have z0 : 7 < 2 ^ 4 := Nat.le_of_ble_eq_true rfl
  have z2 : 0 < 2 ^ 6 := Nat.le_of_ble_eq_true rfl
  have z5 : 33 < 2 ^ 6 := Nat.le_of_ble_eq_true rfl
  have m0 : bitsAt w 25 6 = 33 := (skip q0 z0 21 6 rfl rfl).trans ((skip q1 g.isLt 18 6 rfl rfl).trans ((skip q2 z2 12 6 rfl rfl).trans ((skip q3 a.isLt 6 6 rfl rfl).trans ((skip q4 d.isLt 0 6 rfl rfl).trans (low q5 z5 rfl)))))
  have e0 : bitsAt w 0 4 = 7 := low q0 z0 rfl
  have e1 : bitsAt w 7 6 = 0 := (skip q0 z0 3 6 rfl rfl).trans ((skip q1 g.isLt 0 6 rfl rfl).trans (low q2 z2 rfl))
  have f0 : fieldAt w 19 6 = d := fieldAt_eq ((skip q0 z0 15 6 rfl rfl).trans ((skip q1 g.isLt 12 6 rfl rfl).trans ((skip q2 z2 6 6 rfl rfl).trans ((skip q3 a.isLt 0 6 rfl rfl).trans (low q4 d.isLt rfl)))))
  have f1 : fieldAt w 13 6 = a := fieldAt_eq ((skip q0 z0 9 6 rfl rfl).trans ((skip q1 g.isLt 6 6 rfl rfl).trans ((skip q2 z2 0 6 rfl rfl).trans (low q3 a.isLt rfl))))
  have f2 : fieldAt w 4 3 = g := fieldAt_eq ((skip q0 z0 0 3 rfl rfl).trans (low q1 g.isLt rfl))
  refine ⟨Nat.lt_of_lt_of_le (bound q0 z0 (bound q1 g.isLt (bound q2 z2 (bound q3 a.isLt (bound q4 d.isLt (bound q5 z5 (Nat.lt_succ_of_le hk) rfl) rfl) rfl) rfl) rfl) rfl) (Nat.le_of_ble_eq_true rfl), (skip q0 z0 27 1 rfl rfl).trans ((skip q1 g.isLt 24 1 rfl rfl).trans ((skip q2 z2 18 1 rfl rfl).trans ((skip q3 a.isLt 12 1 rfl rfl).trans ((skip q4 d.isLt 6 1 rfl rfl).trans ((skip q5 z5 0 1 rfl rfl).trans (top hk)))))), ?_⟩
  rw [major21 w m0]
  simp [decodeMajor21, e0, e1, f0, f1, f2]

theorem vbrev (d : BitVec 6) (a : BitVec 6) (g : BitVec 3) : Statement (.vbrev d a g) := by
  refine of_fields rfl ?_
  intro k hk w hw
  obtain ⟨r5, q5⟩ : ∃ r, r = 33 + 64 * k := ⟨_, rfl⟩
  obtain ⟨r4, q4⟩ : ∃ r, r = d.toNat + 64 * r5 := ⟨_, rfl⟩
  obtain ⟨r3, q3⟩ : ∃ r, r = a.toNat + 64 * r4 := ⟨_, rfl⟩
  obtain ⟨r2, q2⟩ : ∃ r, r = 0 + 64 * r3 := ⟨_, rfl⟩
  obtain ⟨r1, q1⟩ : ∃ r, r = g.toNat + 8 * r2 := ⟨_, rfl⟩
  have q0 : w = 8 + 16 * r1 := by simp only [assemble] at hw; omega
  have z0 : 8 < 2 ^ 4 := Nat.le_of_ble_eq_true rfl
  have z2 : 0 < 2 ^ 6 := Nat.le_of_ble_eq_true rfl
  have z5 : 33 < 2 ^ 6 := Nat.le_of_ble_eq_true rfl
  have m0 : bitsAt w 25 6 = 33 := (skip q0 z0 21 6 rfl rfl).trans ((skip q1 g.isLt 18 6 rfl rfl).trans ((skip q2 z2 12 6 rfl rfl).trans ((skip q3 a.isLt 6 6 rfl rfl).trans ((skip q4 d.isLt 0 6 rfl rfl).trans (low q5 z5 rfl)))))
  have e0 : bitsAt w 0 4 = 8 := low q0 z0 rfl
  have e1 : bitsAt w 7 6 = 0 := (skip q0 z0 3 6 rfl rfl).trans ((skip q1 g.isLt 0 6 rfl rfl).trans (low q2 z2 rfl))
  have f0 : fieldAt w 19 6 = d := fieldAt_eq ((skip q0 z0 15 6 rfl rfl).trans ((skip q1 g.isLt 12 6 rfl rfl).trans ((skip q2 z2 6 6 rfl rfl).trans ((skip q3 a.isLt 0 6 rfl rfl).trans (low q4 d.isLt rfl)))))
  have f1 : fieldAt w 13 6 = a := fieldAt_eq ((skip q0 z0 9 6 rfl rfl).trans ((skip q1 g.isLt 6 6 rfl rfl).trans ((skip q2 z2 0 6 rfl rfl).trans (low q3 a.isLt rfl))))
  have f2 : fieldAt w 4 3 = g := fieldAt_eq ((skip q0 z0 0 3 rfl rfl).trans (low q1 g.isLt rfl))
  refine ⟨Nat.lt_of_lt_of_le (bound q0 z0 (bound q1 g.isLt (bound q2 z2 (bound q3 a.isLt (bound q4 d.isLt (bound q5 z5 (Nat.lt_succ_of_le hk) rfl) rfl) rfl) rfl) rfl) rfl) (Nat.le_of_ble_eq_true rfl), (skip q0 z0 27 1 rfl rfl).trans ((skip q1 g.isLt 24 1 rfl rfl).trans ((skip q2 z2 18 1 rfl rfl).trans ((skip q3 a.isLt 12 1 rfl rfl).trans ((skip q4 d.isLt 6 1 rfl rfl).trans ((skip q5 z5 0 1 rfl rfl).trans (top hk)))))), ?_⟩
  rw [major21 w m0]
  simp [decodeMajor21, e0, e1, f0, f1, f2]

theorem vlaneid (d : BitVec 6) (g : BitVec 3) : Statement (.vlaneid d g) := by
  refine of_fields rfl ?_
  intro k hk w hw
  obtain ⟨r4, q4⟩ : ∃ r, r = 33 + 64 * k := ⟨_, rfl⟩
  obtain ⟨r3, q3⟩ : ∃ r, r = d.toNat + 64 * r4 := ⟨_, rfl⟩
  obtain ⟨r2, q2⟩ : ∃ r, r = 0 + 4096 * r3 := ⟨_, rfl⟩
  obtain ⟨r1, q1⟩ : ∃ r, r = g.toNat + 8 * r2 := ⟨_, rfl⟩
  have q0 : w = 9 + 16 * r1 := by simp only [assemble] at hw; omega
  have z0 : 9 < 2 ^ 4 := Nat.le_of_ble_eq_true rfl
  have z2 : 0 < 2 ^ 12 := Nat.le_of_ble_eq_true rfl
  have z4 : 33 < 2 ^ 6 := Nat.le_of_ble_eq_true rfl
  have m0 : bitsAt w 25 6 = 33 := (skip q0 z0 21 6 rfl rfl).trans ((skip q1 g.isLt 18 6 rfl rfl).trans ((skip q2 z2 6 6 rfl rfl).trans ((skip q3 d.isLt 0 6 rfl rfl).trans (low q4 z4 rfl))))
  have e0 : bitsAt w 0 4 = 9 := low q0 z0 rfl
  have e1 : bitsAt w 7 6 = 0 := (skip q0 z0 3 6 rfl rfl).trans ((skip q1 g.isLt 0 6 rfl rfl).trans (part q2 z2 0 6 rfl (Nat.le_of_ble_eq_true rfl) rfl))
  have e2 : bitsAt w 7 12 = 0 := (skip q0 z0 3 12 rfl rfl).trans ((skip q1 g.isLt 0 12 rfl rfl).trans (low q2 z2 rfl))
  have f0 : fieldAt w 19 6 = d := fieldAt_eq ((skip q0 z0 15 6 rfl rfl).trans ((skip q1 g.isLt 12 6 rfl rfl).trans ((skip q2 z2 0 6 rfl rfl).trans (low q3 d.isLt rfl))))
  have f1 : fieldAt w 4 3 = g := fieldAt_eq ((skip q0 z0 0 3 rfl rfl).trans (low q1 g.isLt rfl))
  refine ⟨Nat.lt_of_lt_of_le (bound q0 z0 (bound q1 g.isLt (bound q2 z2 (bound q3 d.isLt (bound q4 z4 (Nat.lt_succ_of_le hk) rfl) rfl) rfl) rfl) rfl) (Nat.le_of_ble_eq_true rfl), (skip q0 z0 27 1 rfl rfl).trans ((skip q1 g.isLt 24 1 rfl rfl).trans ((skip q2 z2 12 1 rfl rfl).trans ((skip q3 d.isLt 6 1 rfl rfl).trans ((skip q4 z4 0 1 rfl rfl).trans (top hk))))), ?_⟩
  rw [major21 w m0]
  simp [decodeMajor21, e0, e1, e2, f0, f1]

theorem vmad (d : BitVec 6) (a : BitVec 6) (b : BitVec 6) (e : BitVec 6) (nn : BitVec 1) : Statement (.vmad d a b e nn) := by
  refine of_fields rfl ?_
  intro k hk w hw
  obtain ⟨r5, q5⟩ : ∃ r, r = 34 + 64 * k := ⟨_, rfl⟩
  obtain ⟨r4, q4⟩ : ∃ r, r = d.toNat + 64 * r5 := ⟨_, rfl⟩
  obtain ⟨r3, q3⟩ : ∃ r, r = a.toNat + 64 * r4 := ⟨_, rfl⟩
  obtain ⟨r2, q2⟩ : ∃ r, r = b.toNat + 64 * r3 := ⟨_, rfl⟩
  obtain ⟨r1, q1⟩ : ∃ r, r = e.toNat + 64 * r2 := ⟨_, rfl⟩
  have q0 : w = nn.toNat + 2 * r1 := by simp only [assemble] at hw; omega
  have z5 : 34 < 2 ^ 6 := Nat.le_of_ble_eq_true rfl
  have m0 : bitsAt w 25 6 = 34 := (skip q0 nn.isLt 24 6 rfl rfl).trans ((skip q1 e.isLt 18 6 rfl rfl).trans ((skip q2 b.isLt 12 6 rfl rfl).trans ((skip q3 a.isLt 6 6 rfl rfl).trans ((skip q4 d.isLt 0 6 rfl rfl).trans (low q5 z5 rfl)))))
  have f0 : fieldAt w 19 6 = d := fieldAt_eq ((skip q0 nn.isLt 18 6 rfl rfl).trans ((skip q1 e.isLt 12 6 rfl rfl).trans ((skip q2 b.isLt 6 6 rfl rfl).trans ((skip q3 a.isLt 0 6 rfl rfl).trans (low q4 d.isLt rfl)))))
  have f1 : fieldAt w 13 6 = a := fieldAt_eq ((skip q0 nn.isLt 12 6 rfl rfl).trans ((skip q1 e.isLt 6 6 rfl rfl).trans ((skip q2 b.isLt 0 6 rfl rfl).trans (low q3 a.isLt rfl))))
  have f2 : fieldAt w 7 6 = b := fieldAt_eq ((skip q0 nn.isLt 6 6 rfl rfl).trans ((skip q1 e.isLt 0 6 rfl rfl).trans (low q2 b.isLt rfl)))
  have f3 : fieldAt w 1 6 = e := fieldAt_eq ((skip q0 nn.isLt 0 6 rfl rfl).trans (low q1 e.isLt rfl))
  have f4 : fieldAt w 0 1 = nn := fieldAt_eq (low q0 nn.isLt rfl)
  refine ⟨Nat.lt_of_lt_of_le (bound q0 nn.isLt (bound q1 e.isLt (bound q2 b.isLt (bound q3 a.isLt (bound q4 d.isLt (bound q5 z5 (Nat.lt_succ_of_le hk) rfl) rfl) rfl) rfl) rfl) rfl) (Nat.le_of_ble_eq_true rfl), (skip q0 nn.isLt 30 1 rfl rfl).trans ((skip q1 e.isLt 24 1 rfl rfl).trans ((skip q2 b.isLt 18 1 rfl rfl).trans ((skip q3 a.isLt 12 1 rfl rfl).trans ((skip q4 d.isLt 6 1 rfl rfl).trans ((skip q5 z5 0 1 rfl rfl).trans (top hk)))))), ?_⟩
  rw [major22 w m0]
  simp [decodeMajor22, f0, f1, f2, f3, f4]

theorem vaddImm (d : BitVec 6) (a : BitVec 6) (i : BitVec 13) : Statement (.vaddImm d a i) := by
  refine of_fields rfl ?_
  intro k hk w hw
  obtain ⟨r3, q3⟩ : ∃ r, r = 35 + 64 * k := ⟨_, rfl⟩
  obtain ⟨r2, q2⟩ : ∃ r, r = d.toNat + 64 * r3 := ⟨_, rfl⟩
  obtain ⟨r1, q1⟩ : ∃ r, r = a.toNat + 64 * r2 := ⟨_, rfl⟩
  have q0 : w = i.toNat + 8192 * r1 := by simp only [assemble] at hw; omega
  have z3 : 35 < 2 ^ 6 := Nat.le_of_ble_eq_true rfl
  have m0 : bitsAt w 25 6 = 35 := (skip q0 i.isLt 12 6 rfl rfl).trans ((skip q1 a.isLt 6 6 rfl rfl).trans ((skip q2 d.isLt 0 6 rfl rfl).trans (low q3 z3 rfl)))
  have f0 : fieldAt w 19 6 = d := fieldAt_eq ((skip q0 i.isLt 6 6 rfl rfl).trans ((skip q1 a.isLt 0 6 rfl rfl).trans (low q2 d.isLt rfl)))
  have f1 : fieldAt w 13 6 = a := fieldAt_eq ((skip q0 i.isLt 0 6 rfl rfl).trans (low q1 a.isLt rfl))
  have f2 : fieldAt w 0 13 = i := fieldAt_eq (low q0 i.isLt rfl)
  refine ⟨Nat.lt_of_lt_of_le (bound q0 i.isLt (bound q1 a.isLt (bound q2 d.isLt (bound q3 z3 (Nat.lt_succ_of_le hk) rfl) rfl) rfl) rfl) (Nat.le_of_ble_eq_true rfl), (skip q0 i.isLt 18 1 rfl rfl).trans ((skip q1 a.isLt 12 1 rfl rfl).trans ((skip q2 d.isLt 6 1 rfl rfl).trans ((skip q3 z3 0 1 rfl rfl).trans (top hk)))), ?_⟩
  rw [major23 w m0]
  simp [decodeMajor23, f0, f1, f2]

theorem vandImm (d : BitVec 6) (a : BitVec 6) (i : BitVec 13) : Statement (.vandImm d a i) := by
  refine of_fields rfl ?_
  intro k hk w hw
  obtain ⟨r3, q3⟩ : ∃ r, r = 36 + 64 * k := ⟨_, rfl⟩
  obtain ⟨r2, q2⟩ : ∃ r, r = d.toNat + 64 * r3 := ⟨_, rfl⟩
  obtain ⟨r1, q1⟩ : ∃ r, r = a.toNat + 64 * r2 := ⟨_, rfl⟩
  have q0 : w = i.toNat + 8192 * r1 := by simp only [assemble] at hw; omega
  have z3 : 36 < 2 ^ 6 := Nat.le_of_ble_eq_true rfl
  have m0 : bitsAt w 25 6 = 36 := (skip q0 i.isLt 12 6 rfl rfl).trans ((skip q1 a.isLt 6 6 rfl rfl).trans ((skip q2 d.isLt 0 6 rfl rfl).trans (low q3 z3 rfl)))
  have f0 : fieldAt w 19 6 = d := fieldAt_eq ((skip q0 i.isLt 6 6 rfl rfl).trans ((skip q1 a.isLt 0 6 rfl rfl).trans (low q2 d.isLt rfl)))
  have f1 : fieldAt w 13 6 = a := fieldAt_eq ((skip q0 i.isLt 0 6 rfl rfl).trans (low q1 a.isLt rfl))
  have f2 : fieldAt w 0 13 = i := fieldAt_eq (low q0 i.isLt rfl)
  refine ⟨Nat.lt_of_lt_of_le (bound q0 i.isLt (bound q1 a.isLt (bound q2 d.isLt (bound q3 z3 (Nat.lt_succ_of_le hk) rfl) rfl) rfl) rfl) (Nat.le_of_ble_eq_true rfl), (skip q0 i.isLt 18 1 rfl rfl).trans ((skip q1 a.isLt 12 1 rfl rfl).trans ((skip q2 d.isLt 6 1 rfl rfl).trans ((skip q3 z3 0 1 rfl rfl).trans (top hk)))), ?_⟩
  rw [major24 w m0]
  simp [decodeMajor24, f0, f1, f2]

theorem vorImm (d : BitVec 6) (a : BitVec 6) (i : BitVec 13) : Statement (.vorImm d a i) := by
  refine of_fields rfl ?_
  intro k hk w hw
  obtain ⟨r3, q3⟩ : ∃ r, r = 37 + 64 * k := ⟨_, rfl⟩
  obtain ⟨r2, q2⟩ : ∃ r, r = d.toNat + 64 * r3 := ⟨_, rfl⟩
  obtain ⟨r1, q1⟩ : ∃ r, r = a.toNat + 64 * r2 := ⟨_, rfl⟩
  have q0 : w = i.toNat + 8192 * r1 := by simp only [assemble] at hw; omega
  have z3 : 37 < 2 ^ 6 := Nat.le_of_ble_eq_true rfl
  have m0 : bitsAt w 25 6 = 37 := (skip q0 i.isLt 12 6 rfl rfl).trans ((skip q1 a.isLt 6 6 rfl rfl).trans ((skip q2 d.isLt 0 6 rfl rfl).trans (low q3 z3 rfl)))
  have f0 : fieldAt w 19 6 = d := fieldAt_eq ((skip q0 i.isLt 6 6 rfl rfl).trans ((skip q1 a.isLt 0 6 rfl rfl).trans (low q2 d.isLt rfl)))
  have f1 : fieldAt w 13 6 = a := fieldAt_eq ((skip q0 i.isLt 0 6 rfl rfl).trans (low q1 a.isLt rfl))
  have f2 : fieldAt w 0 13 = i := fieldAt_eq (low q0 i.isLt rfl)
  refine ⟨Nat.lt_of_lt_of_le (bound q0 i.isLt (bound q1 a.isLt (bound q2 d.isLt (bound q3 z3 (Nat.lt_succ_of_le hk) rfl) rfl) rfl) rfl) (Nat.le_of_ble_eq_true rfl), (skip q0 i.isLt 18 1 rfl rfl).trans ((skip q1 a.isLt 12 1 rfl rfl).trans ((skip q2 d.isLt 6 1 rfl rfl).trans ((skip q3 z3 0 1 rfl rfl).trans (top hk)))), ?_⟩
  rw [major25 w m0]
  simp [decodeMajor25, f0, f1, f2]

theorem vxorImm (d : BitVec 6) (a : BitVec 6) (i : BitVec 13) : Statement (.vxorImm d a i) := by
  refine of_fields rfl ?_
  intro k hk w hw
  obtain ⟨r3, q3⟩ : ∃ r, r = 38 + 64 * k := ⟨_, rfl⟩
  obtain ⟨r2, q2⟩ : ∃ r, r = d.toNat + 64 * r3 := ⟨_, rfl⟩
  obtain ⟨r1, q1⟩ : ∃ r, r = a.toNat + 64 * r2 := ⟨_, rfl⟩
  have q0 : w = i.toNat + 8192 * r1 := by simp only [assemble] at hw; omega
  have z3 : 38 < 2 ^ 6 := Nat.le_of_ble_eq_true rfl
  have m0 : bitsAt w 25 6 = 38 := (skip q0 i.isLt 12 6 rfl rfl).trans ((skip q1 a.isLt 6 6 rfl rfl).trans ((skip q2 d.isLt 0 6 rfl rfl).trans (low q3 z3 rfl)))
  have f0 : fieldAt w 19 6 = d := fieldAt_eq ((skip q0 i.isLt 6 6 rfl rfl).trans ((skip q1 a.isLt 0 6 rfl rfl).trans (low q2 d.isLt rfl)))
  have f1 : fieldAt w 13 6 = a := fieldAt_eq ((skip q0 i.isLt 0 6 rfl rfl).trans (low q1 a.isLt rfl))
  have f2 : fieldAt w 0 13 = i := fieldAt_eq (low q0 i.isLt rfl)
  refine ⟨Nat.lt_of_lt_of_le (bound q0 i.isLt (bound q1 a.isLt (bound q2 d.isLt (bound q3 z3 (Nat.lt_succ_of_le hk) rfl) rfl) rfl) rfl) (Nat.le_of_ble_eq_true rfl), (skip q0 i.isLt 18 1 rfl rfl).trans ((skip q1 a.isLt 12 1 rfl rfl).trans ((skip q2 d.isLt 6 1 rfl rfl).trans ((skip q3 z3 0 1 rfl rfl).trans (top hk)))), ?_⟩
  rw [major26 w m0]
  simp [decodeMajor26, f0, f1, f2]

theorem vshlImm (d : BitVec 6) (a : BitVec 6) (nn : BitVec 6) : Statement (.vshlImm d a nn) := by
  refine of_fields rfl ?_
  intro k hk w hw
  obtain ⟨r4, q4⟩ : ∃ r, r = 39 + 64 * k := ⟨_, rfl⟩
  obtain ⟨r3, q3⟩ : ∃ r, r = d.toNat + 64 * r4 := ⟨_, rfl⟩
  obtain ⟨r2, q2⟩ : ∃ r, r = a.toNat + 64 * r3 := ⟨_, rfl⟩
  obtain ⟨r1, q1⟩ : ∃ r, r = 0 + 128 * r2 := ⟨_, rfl⟩
  have q0 : w = nn.toNat + 64 * r1 := by simp only [assemble] at hw; omega
  have z1 : 0 < 2 ^ 7 := Nat.le_of_ble_eq_true rfl
  have z4 : 39 < 2 ^ 6 := Nat.le_of_ble_eq_true rfl
  have m0 : bitsAt w 25 6 = 39 := (skip q0 nn.isLt 19 6 rfl rfl).trans ((skip q1 z1 12 6 rfl rfl).trans ((skip q2 a.isLt 6 6 rfl rfl).trans ((skip q3 d.isLt 0 6 rfl rfl).trans (low q4 z4 rfl))))
  have e0 : bitsAt w 6 7 = 0 := (skip q0 nn.isLt 0 7 rfl rfl).trans (low q1 z1 rfl)
  have f0 : fieldAt w 19 6 = d := fieldAt_eq ((skip q0 nn.isLt 13 6 rfl rfl).trans ((skip q1 z1 6 6 rfl rfl).trans ((skip q2 a.isLt 0 6 rfl rfl).trans (low q3 d.isLt rfl))))
  have f1 : fieldAt w 13 6 = a := fieldAt_eq ((skip q0 nn.isLt 7 6 rfl rfl).trans ((skip q1 z1 0 6 rfl rfl).trans (low q2 a.isLt rfl)))
  have f2 : fieldAt w 0 6 = nn := fieldAt_eq (low q0 nn.isLt rfl)
  refine ⟨Nat.lt_of_lt_of_le (bound q0 nn.isLt (bound q1 z1 (bound q2 a.isLt (bound q3 d.isLt (bound q4 z4 (Nat.lt_succ_of_le hk) rfl) rfl) rfl) rfl) rfl) (Nat.le_of_ble_eq_true rfl), (skip q0 nn.isLt 25 1 rfl rfl).trans ((skip q1 z1 18 1 rfl rfl).trans ((skip q2 a.isLt 12 1 rfl rfl).trans ((skip q3 d.isLt 6 1 rfl rfl).trans ((skip q4 z4 0 1 rfl rfl).trans (top hk))))), ?_⟩
  rw [major27 w m0]
  simp [decodeMajor27, e0, f0, f1, f2]

theorem vshrImm (d : BitVec 6) (a : BitVec 6) (nn : BitVec 6) : Statement (.vshrImm d a nn) := by
  refine of_fields rfl ?_
  intro k hk w hw
  obtain ⟨r4, q4⟩ : ∃ r, r = 39 + 64 * k := ⟨_, rfl⟩
  obtain ⟨r3, q3⟩ : ∃ r, r = d.toNat + 64 * r4 := ⟨_, rfl⟩
  obtain ⟨r2, q2⟩ : ∃ r, r = a.toNat + 64 * r3 := ⟨_, rfl⟩
  obtain ⟨r1, q1⟩ : ∃ r, r = 32 + 128 * r2 := ⟨_, rfl⟩
  have q0 : w = nn.toNat + 64 * r1 := by simp only [assemble] at hw; omega
  have z1 : 32 < 2 ^ 7 := Nat.le_of_ble_eq_true rfl
  have z4 : 39 < 2 ^ 6 := Nat.le_of_ble_eq_true rfl
  have m0 : bitsAt w 25 6 = 39 := (skip q0 nn.isLt 19 6 rfl rfl).trans ((skip q1 z1 12 6 rfl rfl).trans ((skip q2 a.isLt 6 6 rfl rfl).trans ((skip q3 d.isLt 0 6 rfl rfl).trans (low q4 z4 rfl))))
  have e0 : bitsAt w 6 7 = 32 := (skip q0 nn.isLt 0 7 rfl rfl).trans (low q1 z1 rfl)
  have f0 : fieldAt w 19 6 = d := fieldAt_eq ((skip q0 nn.isLt 13 6 rfl rfl).trans ((skip q1 z1 6 6 rfl rfl).trans ((skip q2 a.isLt 0 6 rfl rfl).trans (low q3 d.isLt rfl))))
  have f1 : fieldAt w 13 6 = a := fieldAt_eq ((skip q0 nn.isLt 7 6 rfl rfl).trans ((skip q1 z1 0 6 rfl rfl).trans (low q2 a.isLt rfl)))
  have f2 : fieldAt w 0 6 = nn := fieldAt_eq (low q0 nn.isLt rfl)
  refine ⟨Nat.lt_of_lt_of_le (bound q0 nn.isLt (bound q1 z1 (bound q2 a.isLt (bound q3 d.isLt (bound q4 z4 (Nat.lt_succ_of_le hk) rfl) rfl) rfl) rfl) rfl) (Nat.le_of_ble_eq_true rfl), (skip q0 nn.isLt 25 1 rfl rfl).trans ((skip q1 z1 18 1 rfl rfl).trans ((skip q2 a.isLt 12 1 rfl rfl).trans ((skip q3 d.isLt 6 1 rfl rfl).trans ((skip q4 z4 0 1 rfl rfl).trans (top hk))))), ?_⟩
  rw [major27 w m0]
  simp [decodeMajor27, e0, f0, f1, f2]

theorem vsraImm (d : BitVec 6) (a : BitVec 6) (nn : BitVec 6) : Statement (.vsraImm d a nn) := by
  refine of_fields rfl ?_
  intro k hk w hw
  obtain ⟨r4, q4⟩ : ∃ r, r = 39 + 64 * k := ⟨_, rfl⟩
  obtain ⟨r3, q3⟩ : ∃ r, r = d.toNat + 64 * r4 := ⟨_, rfl⟩
  obtain ⟨r2, q2⟩ : ∃ r, r = a.toNat + 64 * r3 := ⟨_, rfl⟩
  obtain ⟨r1, q1⟩ : ∃ r, r = 64 + 128 * r2 := ⟨_, rfl⟩
  have q0 : w = nn.toNat + 64 * r1 := by simp only [assemble] at hw; omega
  have z1 : 64 < 2 ^ 7 := Nat.le_of_ble_eq_true rfl
  have z4 : 39 < 2 ^ 6 := Nat.le_of_ble_eq_true rfl
  have m0 : bitsAt w 25 6 = 39 := (skip q0 nn.isLt 19 6 rfl rfl).trans ((skip q1 z1 12 6 rfl rfl).trans ((skip q2 a.isLt 6 6 rfl rfl).trans ((skip q3 d.isLt 0 6 rfl rfl).trans (low q4 z4 rfl))))
  have e0 : bitsAt w 6 7 = 64 := (skip q0 nn.isLt 0 7 rfl rfl).trans (low q1 z1 rfl)
  have f0 : fieldAt w 19 6 = d := fieldAt_eq ((skip q0 nn.isLt 13 6 rfl rfl).trans ((skip q1 z1 6 6 rfl rfl).trans ((skip q2 a.isLt 0 6 rfl rfl).trans (low q3 d.isLt rfl))))
  have f1 : fieldAt w 13 6 = a := fieldAt_eq ((skip q0 nn.isLt 7 6 rfl rfl).trans ((skip q1 z1 0 6 rfl rfl).trans (low q2 a.isLt rfl)))
  have f2 : fieldAt w 0 6 = nn := fieldAt_eq (low q0 nn.isLt rfl)
  refine ⟨Nat.lt_of_lt_of_le (bound q0 nn.isLt (bound q1 z1 (bound q2 a.isLt (bound q3 d.isLt (bound q4 z4 (Nat.lt_succ_of_le hk) rfl) rfl) rfl) rfl) rfl) (Nat.le_of_ble_eq_true rfl), (skip q0 nn.isLt 25 1 rfl rfl).trans ((skip q1 z1 18 1 rfl rfl).trans ((skip q2 a.isLt 12 1 rfl rfl).trans ((skip q3 d.isLt 6 1 rfl rfl).trans ((skip q4 z4 0 1 rfl rfl).trans (top hk))))), ?_⟩
  rw [major27 w m0]
  simp [decodeMajor27, e0, f0, f1, f2]

theorem vmovImm (d : BitVec 6) (i : BitVec 13) : Statement (.vmovImm d i) := by
  refine of_fields rfl ?_
  intro k hk w hw
  obtain ⟨r3, q3⟩ : ∃ r, r = 40 + 64 * k := ⟨_, rfl⟩
  obtain ⟨r2, q2⟩ : ∃ r, r = d.toNat + 64 * r3 := ⟨_, rfl⟩
  obtain ⟨r1, q1⟩ : ∃ r, r = 0 + 64 * r2 := ⟨_, rfl⟩
  have q0 : w = i.toNat + 8192 * r1 := by simp only [assemble] at hw; omega
  have z1 : 0 < 2 ^ 6 := Nat.le_of_ble_eq_true rfl
  have z3 : 40 < 2 ^ 6 := Nat.le_of_ble_eq_true rfl
  have m0 : bitsAt w 25 6 = 40 := (skip q0 i.isLt 12 6 rfl rfl).trans ((skip q1 z1 6 6 rfl rfl).trans ((skip q2 d.isLt 0 6 rfl rfl).trans (low q3 z3 rfl)))
  have e0 : bitsAt w 13 6 = 0 := (skip q0 i.isLt 0 6 rfl rfl).trans (low q1 z1 rfl)
  have f0 : fieldAt w 19 6 = d := fieldAt_eq ((skip q0 i.isLt 6 6 rfl rfl).trans ((skip q1 z1 0 6 rfl rfl).trans (low q2 d.isLt rfl)))
  have f1 : fieldAt w 0 13 = i := fieldAt_eq (low q0 i.isLt rfl)
  refine ⟨Nat.lt_of_lt_of_le (bound q0 i.isLt (bound q1 z1 (bound q2 d.isLt (bound q3 z3 (Nat.lt_succ_of_le hk) rfl) rfl) rfl) rfl) (Nat.le_of_ble_eq_true rfl), (skip q0 i.isLt 18 1 rfl rfl).trans ((skip q1 z1 12 1 rfl rfl).trans ((skip q2 d.isLt 6 1 rfl rfl).trans ((skip q3 z3 0 1 rfl rfl).trans (top hk)))), ?_⟩
  rw [major28 w m0]
  simp [decodeMajor28, e0, f0, f1]

theorem vcmpInt (p : BitVec 3) (q : BitVec 3) (a : BitVec 6) (b : BitVec 6) (t : BitVec 3) (kk : BitVec 4) : Statement (.vcmpInt p q a b t kk) := by
  refine of_fields rfl ?_
  intro k hk w hw
  obtain ⟨r6, q6⟩ : ∃ r, r = 41 + 64 * k := ⟨_, rfl⟩
  obtain ⟨r5, q5⟩ : ∃ r, r = p.toNat + 8 * r6 := ⟨_, rfl⟩
  obtain ⟨r4, q4⟩ : ∃ r, r = q.toNat + 8 * r5 := ⟨_, rfl⟩
  obtain ⟨r3, q3⟩ : ∃ r, r = a.toNat + 64 * r4 := ⟨_, rfl⟩
  obtain ⟨r2, q2⟩ : ∃ r, r = b.toNat + 64 * r3 := ⟨_, rfl⟩
  obtain ⟨r1, q1⟩ : ∃ r, r = t.toNat + 8 * r2 := ⟨_, rfl⟩
  have q0 : w = kk.toNat + 16 * r1 := by simp only [assemble] at hw; omega
  have z6 : 41 < 2 ^ 6 := Nat.le_of_ble_eq_true rfl
  have m0 : bitsAt w 25 6 = 41 := (skip q0 kk.isLt 21 6 rfl rfl).trans ((skip q1 t.isLt 18 6 rfl rfl).trans ((skip q2 b.isLt 12 6 rfl rfl).trans ((skip q3 a.isLt 6 6 rfl rfl).trans ((skip q4 q.isLt 3 6 rfl rfl).trans ((skip q5 p.isLt 0 6 rfl rfl).trans (low q6 z6 rfl))))))
  have f0 : fieldAt w 22 3 = p := fieldAt_eq ((skip q0 kk.isLt 18 3 rfl rfl).trans ((skip q1 t.isLt 15 3 rfl rfl).trans ((skip q2 b.isLt 9 3 rfl rfl).trans ((skip q3 a.isLt 3 3 rfl rfl).trans ((skip q4 q.isLt 0 3 rfl rfl).trans (low q5 p.isLt rfl))))))
  have f1 : fieldAt w 19 3 = q := fieldAt_eq ((skip q0 kk.isLt 15 3 rfl rfl).trans ((skip q1 t.isLt 12 3 rfl rfl).trans ((skip q2 b.isLt 6 3 rfl rfl).trans ((skip q3 a.isLt 0 3 rfl rfl).trans (low q4 q.isLt rfl)))))
  have f2 : fieldAt w 13 6 = a := fieldAt_eq ((skip q0 kk.isLt 9 6 rfl rfl).trans ((skip q1 t.isLt 6 6 rfl rfl).trans ((skip q2 b.isLt 0 6 rfl rfl).trans (low q3 a.isLt rfl))))
  have f3 : fieldAt w 7 6 = b := fieldAt_eq ((skip q0 kk.isLt 3 6 rfl rfl).trans ((skip q1 t.isLt 0 6 rfl rfl).trans (low q2 b.isLt rfl)))
  have f4 : fieldAt w 4 3 = t := fieldAt_eq ((skip q0 kk.isLt 0 3 rfl rfl).trans (low q1 t.isLt rfl))
  have f5 : fieldAt w 0 4 = kk := fieldAt_eq (low q0 kk.isLt rfl)
  refine ⟨Nat.lt_of_lt_of_le (bound q0 kk.isLt (bound q1 t.isLt (bound q2 b.isLt (bound q3 a.isLt (bound q4 q.isLt (bound q5 p.isLt (bound q6 z6 (Nat.lt_succ_of_le hk) rfl) rfl) rfl) rfl) rfl) rfl) rfl) (Nat.le_of_ble_eq_true rfl), (skip q0 kk.isLt 27 1 rfl rfl).trans ((skip q1 t.isLt 24 1 rfl rfl).trans ((skip q2 b.isLt 18 1 rfl rfl).trans ((skip q3 a.isLt 12 1 rfl rfl).trans ((skip q4 q.isLt 9 1 rfl rfl).trans ((skip q5 p.isLt 6 1 rfl rfl).trans ((skip q6 z6 0 1 rfl rfl).trans (top hk))))))), ?_⟩
  rw [major29 w m0]
  simp [decodeMajor29, f0, f1, f2, f3, f4, f5]

theorem vcmpImm (p : BitVec 3) (q : BitVec 3) (a : BitVec 6) (i : BitVec 6) (t : BitVec 3) (kk : BitVec 4) : Statement (.vcmpImm p q a i t kk) := by
  refine of_fields rfl ?_
  intro k hk w hw
  obtain ⟨r6, q6⟩ : ∃ r, r = 42 + 64 * k := ⟨_, rfl⟩
  obtain ⟨r5, q5⟩ : ∃ r, r = p.toNat + 8 * r6 := ⟨_, rfl⟩
  obtain ⟨r4, q4⟩ : ∃ r, r = q.toNat + 8 * r5 := ⟨_, rfl⟩
  obtain ⟨r3, q3⟩ : ∃ r, r = a.toNat + 64 * r4 := ⟨_, rfl⟩
  obtain ⟨r2, q2⟩ : ∃ r, r = i.toNat + 64 * r3 := ⟨_, rfl⟩
  obtain ⟨r1, q1⟩ : ∃ r, r = t.toNat + 8 * r2 := ⟨_, rfl⟩
  have q0 : w = kk.toNat + 16 * r1 := by simp only [assemble] at hw; omega
  have z6 : 42 < 2 ^ 6 := Nat.le_of_ble_eq_true rfl
  have m0 : bitsAt w 25 6 = 42 := (skip q0 kk.isLt 21 6 rfl rfl).trans ((skip q1 t.isLt 18 6 rfl rfl).trans ((skip q2 i.isLt 12 6 rfl rfl).trans ((skip q3 a.isLt 6 6 rfl rfl).trans ((skip q4 q.isLt 3 6 rfl rfl).trans ((skip q5 p.isLt 0 6 rfl rfl).trans (low q6 z6 rfl))))))
  have f0 : fieldAt w 22 3 = p := fieldAt_eq ((skip q0 kk.isLt 18 3 rfl rfl).trans ((skip q1 t.isLt 15 3 rfl rfl).trans ((skip q2 i.isLt 9 3 rfl rfl).trans ((skip q3 a.isLt 3 3 rfl rfl).trans ((skip q4 q.isLt 0 3 rfl rfl).trans (low q5 p.isLt rfl))))))
  have f1 : fieldAt w 19 3 = q := fieldAt_eq ((skip q0 kk.isLt 15 3 rfl rfl).trans ((skip q1 t.isLt 12 3 rfl rfl).trans ((skip q2 i.isLt 6 3 rfl rfl).trans ((skip q3 a.isLt 0 3 rfl rfl).trans (low q4 q.isLt rfl)))))
  have f2 : fieldAt w 13 6 = a := fieldAt_eq ((skip q0 kk.isLt 9 6 rfl rfl).trans ((skip q1 t.isLt 6 6 rfl rfl).trans ((skip q2 i.isLt 0 6 rfl rfl).trans (low q3 a.isLt rfl))))
  have f3 : fieldAt w 7 6 = i := fieldAt_eq ((skip q0 kk.isLt 3 6 rfl rfl).trans ((skip q1 t.isLt 0 6 rfl rfl).trans (low q2 i.isLt rfl)))
  have f4 : fieldAt w 4 3 = t := fieldAt_eq ((skip q0 kk.isLt 0 3 rfl rfl).trans (low q1 t.isLt rfl))
  have f5 : fieldAt w 0 4 = kk := fieldAt_eq (low q0 kk.isLt rfl)
  refine ⟨Nat.lt_of_lt_of_le (bound q0 kk.isLt (bound q1 t.isLt (bound q2 i.isLt (bound q3 a.isLt (bound q4 q.isLt (bound q5 p.isLt (bound q6 z6 (Nat.lt_succ_of_le hk) rfl) rfl) rfl) rfl) rfl) rfl) rfl) (Nat.le_of_ble_eq_true rfl), (skip q0 kk.isLt 27 1 rfl rfl).trans ((skip q1 t.isLt 24 1 rfl rfl).trans ((skip q2 i.isLt 18 1 rfl rfl).trans ((skip q3 a.isLt 12 1 rfl rfl).trans ((skip q4 q.isLt 9 1 rfl rfl).trans ((skip q5 p.isLt 6 1 rfl rfl).trans ((skip q6 z6 0 1 rfl rfl).trans (top hk))))))), ?_⟩
  rw [major2A w m0]
  simp [decodeMajor2A, f0, f1, f2, f3, f4, f5]

theorem vcmpF32 (p : BitVec 3) (q : BitVec 3) (a : BitVec 6) (b : BitVec 6) (t : BitVec 3) (kk : BitVec 4) : Statement (.vcmpF32 p q a b t kk) := by
  refine of_fields rfl ?_
  intro k hk w hw
  obtain ⟨r6, q6⟩ : ∃ r, r = 43 + 64 * k := ⟨_, rfl⟩
  obtain ⟨r5, q5⟩ : ∃ r, r = p.toNat + 8 * r6 := ⟨_, rfl⟩
  obtain ⟨r4, q4⟩ : ∃ r, r = q.toNat + 8 * r5 := ⟨_, rfl⟩
  obtain ⟨r3, q3⟩ : ∃ r, r = a.toNat + 64 * r4 := ⟨_, rfl⟩
  obtain ⟨r2, q2⟩ : ∃ r, r = b.toNat + 64 * r3 := ⟨_, rfl⟩
  obtain ⟨r1, q1⟩ : ∃ r, r = t.toNat + 8 * r2 := ⟨_, rfl⟩
  have q0 : w = kk.toNat + 16 * r1 := by simp only [assemble] at hw; omega
  have z6 : 43 < 2 ^ 6 := Nat.le_of_ble_eq_true rfl
  have m0 : bitsAt w 25 6 = 43 := (skip q0 kk.isLt 21 6 rfl rfl).trans ((skip q1 t.isLt 18 6 rfl rfl).trans ((skip q2 b.isLt 12 6 rfl rfl).trans ((skip q3 a.isLt 6 6 rfl rfl).trans ((skip q4 q.isLt 3 6 rfl rfl).trans ((skip q5 p.isLt 0 6 rfl rfl).trans (low q6 z6 rfl))))))
  have f0 : fieldAt w 22 3 = p := fieldAt_eq ((skip q0 kk.isLt 18 3 rfl rfl).trans ((skip q1 t.isLt 15 3 rfl rfl).trans ((skip q2 b.isLt 9 3 rfl rfl).trans ((skip q3 a.isLt 3 3 rfl rfl).trans ((skip q4 q.isLt 0 3 rfl rfl).trans (low q5 p.isLt rfl))))))
  have f1 : fieldAt w 19 3 = q := fieldAt_eq ((skip q0 kk.isLt 15 3 rfl rfl).trans ((skip q1 t.isLt 12 3 rfl rfl).trans ((skip q2 b.isLt 6 3 rfl rfl).trans ((skip q3 a.isLt 0 3 rfl rfl).trans (low q4 q.isLt rfl)))))
  have f2 : fieldAt w 13 6 = a := fieldAt_eq ((skip q0 kk.isLt 9 6 rfl rfl).trans ((skip q1 t.isLt 6 6 rfl rfl).trans ((skip q2 b.isLt 0 6 rfl rfl).trans (low q3 a.isLt rfl))))
  have f3 : fieldAt w 7 6 = b := fieldAt_eq ((skip q0 kk.isLt 3 6 rfl rfl).trans ((skip q1 t.isLt 0 6 rfl rfl).trans (low q2 b.isLt rfl)))
  have f4 : fieldAt w 4 3 = t := fieldAt_eq ((skip q0 kk.isLt 0 3 rfl rfl).trans (low q1 t.isLt rfl))
  have f5 : fieldAt w 0 4 = kk := fieldAt_eq (low q0 kk.isLt rfl)
  refine ⟨Nat.lt_of_lt_of_le (bound q0 kk.isLt (bound q1 t.isLt (bound q2 b.isLt (bound q3 a.isLt (bound q4 q.isLt (bound q5 p.isLt (bound q6 z6 (Nat.lt_succ_of_le hk) rfl) rfl) rfl) rfl) rfl) rfl) rfl) (Nat.le_of_ble_eq_true rfl), (skip q0 kk.isLt 27 1 rfl rfl).trans ((skip q1 t.isLt 24 1 rfl rfl).trans ((skip q2 b.isLt 18 1 rfl rfl).trans ((skip q3 a.isLt 12 1 rfl rfl).trans ((skip q4 q.isLt 9 1 rfl rfl).trans ((skip q5 p.isLt 6 1 rfl rfl).trans ((skip q6 z6 0 1 rfl rfl).trans (top hk))))))), ?_⟩
  rw [major2B w m0]
  simp [decodeMajor2B, f0, f1, f2, f3, f4, f5]

theorem vfaddF32 (d : BitVec 6) (a : BitVec 6) (b : BitVec 6) (g : BitVec 3) : Statement (.vfaddF32 d a b g) := by
  refine of_fields rfl ?_
  intro k hk w hw
  obtain ⟨r5, q5⟩ : ∃ r, r = 44 + 64 * k := ⟨_, rfl⟩
  obtain ⟨r4, q4⟩ : ∃ r, r = d.toNat + 64 * r5 := ⟨_, rfl⟩
  obtain ⟨r3, q3⟩ : ∃ r, r = a.toNat + 64 * r4 := ⟨_, rfl⟩
  obtain ⟨r2, q2⟩ : ∃ r, r = b.toNat + 64 * r3 := ⟨_, rfl⟩
  obtain ⟨r1, q1⟩ : ∃ r, r = g.toNat + 8 * r2 := ⟨_, rfl⟩
  have q0 : w = 0 + 16 * r1 := by simp only [assemble] at hw; omega
  have z0 : 0 < 2 ^ 4 := Nat.le_of_ble_eq_true rfl
  have z5 : 44 < 2 ^ 6 := Nat.le_of_ble_eq_true rfl
  have m0 : bitsAt w 25 6 = 44 := (skip q0 z0 21 6 rfl rfl).trans ((skip q1 g.isLt 18 6 rfl rfl).trans ((skip q2 b.isLt 12 6 rfl rfl).trans ((skip q3 a.isLt 6 6 rfl rfl).trans ((skip q4 d.isLt 0 6 rfl rfl).trans (low q5 z5 rfl)))))
  have e0 : bitsAt w 0 4 = 0 := low q0 z0 rfl
  have f0 : fieldAt w 19 6 = d := fieldAt_eq ((skip q0 z0 15 6 rfl rfl).trans ((skip q1 g.isLt 12 6 rfl rfl).trans ((skip q2 b.isLt 6 6 rfl rfl).trans ((skip q3 a.isLt 0 6 rfl rfl).trans (low q4 d.isLt rfl)))))
  have f1 : fieldAt w 13 6 = a := fieldAt_eq ((skip q0 z0 9 6 rfl rfl).trans ((skip q1 g.isLt 6 6 rfl rfl).trans ((skip q2 b.isLt 0 6 rfl rfl).trans (low q3 a.isLt rfl))))
  have f2 : fieldAt w 7 6 = b := fieldAt_eq ((skip q0 z0 3 6 rfl rfl).trans ((skip q1 g.isLt 0 6 rfl rfl).trans (low q2 b.isLt rfl)))
  have f3 : fieldAt w 4 3 = g := fieldAt_eq ((skip q0 z0 0 3 rfl rfl).trans (low q1 g.isLt rfl))
  refine ⟨Nat.lt_of_lt_of_le (bound q0 z0 (bound q1 g.isLt (bound q2 b.isLt (bound q3 a.isLt (bound q4 d.isLt (bound q5 z5 (Nat.lt_succ_of_le hk) rfl) rfl) rfl) rfl) rfl) rfl) (Nat.le_of_ble_eq_true rfl), (skip q0 z0 27 1 rfl rfl).trans ((skip q1 g.isLt 24 1 rfl rfl).trans ((skip q2 b.isLt 18 1 rfl rfl).trans ((skip q3 a.isLt 12 1 rfl rfl).trans ((skip q4 d.isLt 6 1 rfl rfl).trans ((skip q5 z5 0 1 rfl rfl).trans (top hk)))))), ?_⟩
  rw [major2C w m0]
  simp [decodeMajor2C, e0, f0, f1, f2, f3]

theorem vfsubF32 (d : BitVec 6) (a : BitVec 6) (b : BitVec 6) (g : BitVec 3) : Statement (.vfsubF32 d a b g) := by
  refine of_fields rfl ?_
  intro k hk w hw
  obtain ⟨r5, q5⟩ : ∃ r, r = 44 + 64 * k := ⟨_, rfl⟩
  obtain ⟨r4, q4⟩ : ∃ r, r = d.toNat + 64 * r5 := ⟨_, rfl⟩
  obtain ⟨r3, q3⟩ : ∃ r, r = a.toNat + 64 * r4 := ⟨_, rfl⟩
  obtain ⟨r2, q2⟩ : ∃ r, r = b.toNat + 64 * r3 := ⟨_, rfl⟩
  obtain ⟨r1, q1⟩ : ∃ r, r = g.toNat + 8 * r2 := ⟨_, rfl⟩
  have q0 : w = 1 + 16 * r1 := by simp only [assemble] at hw; omega
  have z0 : 1 < 2 ^ 4 := Nat.le_of_ble_eq_true rfl
  have z5 : 44 < 2 ^ 6 := Nat.le_of_ble_eq_true rfl
  have m0 : bitsAt w 25 6 = 44 := (skip q0 z0 21 6 rfl rfl).trans ((skip q1 g.isLt 18 6 rfl rfl).trans ((skip q2 b.isLt 12 6 rfl rfl).trans ((skip q3 a.isLt 6 6 rfl rfl).trans ((skip q4 d.isLt 0 6 rfl rfl).trans (low q5 z5 rfl)))))
  have e0 : bitsAt w 0 4 = 1 := low q0 z0 rfl
  have f0 : fieldAt w 19 6 = d := fieldAt_eq ((skip q0 z0 15 6 rfl rfl).trans ((skip q1 g.isLt 12 6 rfl rfl).trans ((skip q2 b.isLt 6 6 rfl rfl).trans ((skip q3 a.isLt 0 6 rfl rfl).trans (low q4 d.isLt rfl)))))
  have f1 : fieldAt w 13 6 = a := fieldAt_eq ((skip q0 z0 9 6 rfl rfl).trans ((skip q1 g.isLt 6 6 rfl rfl).trans ((skip q2 b.isLt 0 6 rfl rfl).trans (low q3 a.isLt rfl))))
  have f2 : fieldAt w 7 6 = b := fieldAt_eq ((skip q0 z0 3 6 rfl rfl).trans ((skip q1 g.isLt 0 6 rfl rfl).trans (low q2 b.isLt rfl)))
  have f3 : fieldAt w 4 3 = g := fieldAt_eq ((skip q0 z0 0 3 rfl rfl).trans (low q1 g.isLt rfl))
  refine ⟨Nat.lt_of_lt_of_le (bound q0 z0 (bound q1 g.isLt (bound q2 b.isLt (bound q3 a.isLt (bound q4 d.isLt (bound q5 z5 (Nat.lt_succ_of_le hk) rfl) rfl) rfl) rfl) rfl) rfl) (Nat.le_of_ble_eq_true rfl), (skip q0 z0 27 1 rfl rfl).trans ((skip q1 g.isLt 24 1 rfl rfl).trans ((skip q2 b.isLt 18 1 rfl rfl).trans ((skip q3 a.isLt 12 1 rfl rfl).trans ((skip q4 d.isLt 6 1 rfl rfl).trans ((skip q5 z5 0 1 rfl rfl).trans (top hk)))))), ?_⟩
  rw [major2C w m0]
  simp [decodeMajor2C, e0, f0, f1, f2, f3]

theorem vfmulF32 (d : BitVec 6) (a : BitVec 6) (b : BitVec 6) (g : BitVec 3) : Statement (.vfmulF32 d a b g) := by
  refine of_fields rfl ?_
  intro k hk w hw
  obtain ⟨r5, q5⟩ : ∃ r, r = 44 + 64 * k := ⟨_, rfl⟩
  obtain ⟨r4, q4⟩ : ∃ r, r = d.toNat + 64 * r5 := ⟨_, rfl⟩
  obtain ⟨r3, q3⟩ : ∃ r, r = a.toNat + 64 * r4 := ⟨_, rfl⟩
  obtain ⟨r2, q2⟩ : ∃ r, r = b.toNat + 64 * r3 := ⟨_, rfl⟩
  obtain ⟨r1, q1⟩ : ∃ r, r = g.toNat + 8 * r2 := ⟨_, rfl⟩
  have q0 : w = 2 + 16 * r1 := by simp only [assemble] at hw; omega
  have z0 : 2 < 2 ^ 4 := Nat.le_of_ble_eq_true rfl
  have z5 : 44 < 2 ^ 6 := Nat.le_of_ble_eq_true rfl
  have m0 : bitsAt w 25 6 = 44 := (skip q0 z0 21 6 rfl rfl).trans ((skip q1 g.isLt 18 6 rfl rfl).trans ((skip q2 b.isLt 12 6 rfl rfl).trans ((skip q3 a.isLt 6 6 rfl rfl).trans ((skip q4 d.isLt 0 6 rfl rfl).trans (low q5 z5 rfl)))))
  have e0 : bitsAt w 0 4 = 2 := low q0 z0 rfl
  have f0 : fieldAt w 19 6 = d := fieldAt_eq ((skip q0 z0 15 6 rfl rfl).trans ((skip q1 g.isLt 12 6 rfl rfl).trans ((skip q2 b.isLt 6 6 rfl rfl).trans ((skip q3 a.isLt 0 6 rfl rfl).trans (low q4 d.isLt rfl)))))
  have f1 : fieldAt w 13 6 = a := fieldAt_eq ((skip q0 z0 9 6 rfl rfl).trans ((skip q1 g.isLt 6 6 rfl rfl).trans ((skip q2 b.isLt 0 6 rfl rfl).trans (low q3 a.isLt rfl))))
  have f2 : fieldAt w 7 6 = b := fieldAt_eq ((skip q0 z0 3 6 rfl rfl).trans ((skip q1 g.isLt 0 6 rfl rfl).trans (low q2 b.isLt rfl)))
  have f3 : fieldAt w 4 3 = g := fieldAt_eq ((skip q0 z0 0 3 rfl rfl).trans (low q1 g.isLt rfl))
  refine ⟨Nat.lt_of_lt_of_le (bound q0 z0 (bound q1 g.isLt (bound q2 b.isLt (bound q3 a.isLt (bound q4 d.isLt (bound q5 z5 (Nat.lt_succ_of_le hk) rfl) rfl) rfl) rfl) rfl) rfl) (Nat.le_of_ble_eq_true rfl), (skip q0 z0 27 1 rfl rfl).trans ((skip q1 g.isLt 24 1 rfl rfl).trans ((skip q2 b.isLt 18 1 rfl rfl).trans ((skip q3 a.isLt 12 1 rfl rfl).trans ((skip q4 d.isLt 6 1 rfl rfl).trans ((skip q5 z5 0 1 rfl rfl).trans (top hk)))))), ?_⟩
  rw [major2C w m0]
  simp [decodeMajor2C, e0, f0, f1, f2, f3]

theorem vfminF32 (d : BitVec 6) (a : BitVec 6) (b : BitVec 6) (g : BitVec 3) : Statement (.vfminF32 d a b g) := by
  refine of_fields rfl ?_
  intro k hk w hw
  obtain ⟨r5, q5⟩ : ∃ r, r = 44 + 64 * k := ⟨_, rfl⟩
  obtain ⟨r4, q4⟩ : ∃ r, r = d.toNat + 64 * r5 := ⟨_, rfl⟩
  obtain ⟨r3, q3⟩ : ∃ r, r = a.toNat + 64 * r4 := ⟨_, rfl⟩
  obtain ⟨r2, q2⟩ : ∃ r, r = b.toNat + 64 * r3 := ⟨_, rfl⟩
  obtain ⟨r1, q1⟩ : ∃ r, r = g.toNat + 8 * r2 := ⟨_, rfl⟩
  have q0 : w = 3 + 16 * r1 := by simp only [assemble] at hw; omega
  have z0 : 3 < 2 ^ 4 := Nat.le_of_ble_eq_true rfl
  have z5 : 44 < 2 ^ 6 := Nat.le_of_ble_eq_true rfl
  have m0 : bitsAt w 25 6 = 44 := (skip q0 z0 21 6 rfl rfl).trans ((skip q1 g.isLt 18 6 rfl rfl).trans ((skip q2 b.isLt 12 6 rfl rfl).trans ((skip q3 a.isLt 6 6 rfl rfl).trans ((skip q4 d.isLt 0 6 rfl rfl).trans (low q5 z5 rfl)))))
  have e0 : bitsAt w 0 4 = 3 := low q0 z0 rfl
  have f0 : fieldAt w 19 6 = d := fieldAt_eq ((skip q0 z0 15 6 rfl rfl).trans ((skip q1 g.isLt 12 6 rfl rfl).trans ((skip q2 b.isLt 6 6 rfl rfl).trans ((skip q3 a.isLt 0 6 rfl rfl).trans (low q4 d.isLt rfl)))))
  have f1 : fieldAt w 13 6 = a := fieldAt_eq ((skip q0 z0 9 6 rfl rfl).trans ((skip q1 g.isLt 6 6 rfl rfl).trans ((skip q2 b.isLt 0 6 rfl rfl).trans (low q3 a.isLt rfl))))
  have f2 : fieldAt w 7 6 = b := fieldAt_eq ((skip q0 z0 3 6 rfl rfl).trans ((skip q1 g.isLt 0 6 rfl rfl).trans (low q2 b.isLt rfl)))
  have f3 : fieldAt w 4 3 = g := fieldAt_eq ((skip q0 z0 0 3 rfl rfl).trans (low q1 g.isLt rfl))
  refine ⟨Nat.lt_of_lt_of_le (bound q0 z0 (bound q1 g.isLt (bound q2 b.isLt (bound q3 a.isLt (bound q4 d.isLt (bound q5 z5 (Nat.lt_succ_of_le hk) rfl) rfl) rfl) rfl) rfl) rfl) (Nat.le_of_ble_eq_true rfl), (skip q0 z0 27 1 rfl rfl).trans ((skip q1 g.isLt 24 1 rfl rfl).trans ((skip q2 b.isLt 18 1 rfl rfl).trans ((skip q3 a.isLt 12 1 rfl rfl).trans ((skip q4 d.isLt 6 1 rfl rfl).trans ((skip q5 z5 0 1 rfl rfl).trans (top hk)))))), ?_⟩
  rw [major2C w m0]
  simp [decodeMajor2C, e0, f0, f1, f2, f3]

theorem vfmaxF32 (d : BitVec 6) (a : BitVec 6) (b : BitVec 6) (g : BitVec 3) : Statement (.vfmaxF32 d a b g) := by
  refine of_fields rfl ?_
  intro k hk w hw
  obtain ⟨r5, q5⟩ : ∃ r, r = 44 + 64 * k := ⟨_, rfl⟩
  obtain ⟨r4, q4⟩ : ∃ r, r = d.toNat + 64 * r5 := ⟨_, rfl⟩
  obtain ⟨r3, q3⟩ : ∃ r, r = a.toNat + 64 * r4 := ⟨_, rfl⟩
  obtain ⟨r2, q2⟩ : ∃ r, r = b.toNat + 64 * r3 := ⟨_, rfl⟩
  obtain ⟨r1, q1⟩ : ∃ r, r = g.toNat + 8 * r2 := ⟨_, rfl⟩
  have q0 : w = 4 + 16 * r1 := by simp only [assemble] at hw; omega
  have z0 : 4 < 2 ^ 4 := Nat.le_of_ble_eq_true rfl
  have z5 : 44 < 2 ^ 6 := Nat.le_of_ble_eq_true rfl
  have m0 : bitsAt w 25 6 = 44 := (skip q0 z0 21 6 rfl rfl).trans ((skip q1 g.isLt 18 6 rfl rfl).trans ((skip q2 b.isLt 12 6 rfl rfl).trans ((skip q3 a.isLt 6 6 rfl rfl).trans ((skip q4 d.isLt 0 6 rfl rfl).trans (low q5 z5 rfl)))))
  have e0 : bitsAt w 0 4 = 4 := low q0 z0 rfl
  have f0 : fieldAt w 19 6 = d := fieldAt_eq ((skip q0 z0 15 6 rfl rfl).trans ((skip q1 g.isLt 12 6 rfl rfl).trans ((skip q2 b.isLt 6 6 rfl rfl).trans ((skip q3 a.isLt 0 6 rfl rfl).trans (low q4 d.isLt rfl)))))
  have f1 : fieldAt w 13 6 = a := fieldAt_eq ((skip q0 z0 9 6 rfl rfl).trans ((skip q1 g.isLt 6 6 rfl rfl).trans ((skip q2 b.isLt 0 6 rfl rfl).trans (low q3 a.isLt rfl))))
  have f2 : fieldAt w 7 6 = b := fieldAt_eq ((skip q0 z0 3 6 rfl rfl).trans ((skip q1 g.isLt 0 6 rfl rfl).trans (low q2 b.isLt rfl)))
  have f3 : fieldAt w 4 3 = g := fieldAt_eq ((skip q0 z0 0 3 rfl rfl).trans (low q1 g.isLt rfl))
  refine ⟨Nat.lt_of_lt_of_le (bound q0 z0 (bound q1 g.isLt (bound q2 b.isLt (bound q3 a.isLt (bound q4 d.isLt (bound q5 z5 (Nat.lt_succ_of_le hk) rfl) rfl) rfl) rfl) rfl) rfl) (Nat.le_of_ble_eq_true rfl), (skip q0 z0 27 1 rfl rfl).trans ((skip q1 g.isLt 24 1 rfl rfl).trans ((skip q2 b.isLt 18 1 rfl rfl).trans ((skip q3 a.isLt 12 1 rfl rfl).trans ((skip q4 d.isLt 6 1 rfl rfl).trans ((skip q5 z5 0 1 rfl rfl).trans (top hk)))))), ?_⟩
  rw [major2C w m0]
  simp [decodeMajor2C, e0, f0, f1, f2, f3]

theorem vfdiv (d : BitVec 6) (a : BitVec 6) (b : BitVec 6) (g : BitVec 3) : Statement (.vfdiv d a b g) := by
  refine of_fields rfl ?_
  intro k hk w hw
  obtain ⟨r5, q5⟩ : ∃ r, r = 44 + 64 * k := ⟨_, rfl⟩
  obtain ⟨r4, q4⟩ : ∃ r, r = d.toNat + 64 * r5 := ⟨_, rfl⟩
  obtain ⟨r3, q3⟩ : ∃ r, r = a.toNat + 64 * r4 := ⟨_, rfl⟩
  obtain ⟨r2, q2⟩ : ∃ r, r = b.toNat + 64 * r3 := ⟨_, rfl⟩
  obtain ⟨r1, q1⟩ : ∃ r, r = g.toNat + 8 * r2 := ⟨_, rfl⟩
  have q0 : w = 5 + 16 * r1 := by simp only [assemble] at hw; omega
  have z0 : 5 < 2 ^ 4 := Nat.le_of_ble_eq_true rfl
  have z5 : 44 < 2 ^ 6 := Nat.le_of_ble_eq_true rfl
  have m0 : bitsAt w 25 6 = 44 := (skip q0 z0 21 6 rfl rfl).trans ((skip q1 g.isLt 18 6 rfl rfl).trans ((skip q2 b.isLt 12 6 rfl rfl).trans ((skip q3 a.isLt 6 6 rfl rfl).trans ((skip q4 d.isLt 0 6 rfl rfl).trans (low q5 z5 rfl)))))
  have e0 : bitsAt w 0 4 = 5 := low q0 z0 rfl
  have f0 : fieldAt w 19 6 = d := fieldAt_eq ((skip q0 z0 15 6 rfl rfl).trans ((skip q1 g.isLt 12 6 rfl rfl).trans ((skip q2 b.isLt 6 6 rfl rfl).trans ((skip q3 a.isLt 0 6 rfl rfl).trans (low q4 d.isLt rfl)))))
  have f1 : fieldAt w 13 6 = a := fieldAt_eq ((skip q0 z0 9 6 rfl rfl).trans ((skip q1 g.isLt 6 6 rfl rfl).trans ((skip q2 b.isLt 0 6 rfl rfl).trans (low q3 a.isLt rfl))))
  have f2 : fieldAt w 7 6 = b := fieldAt_eq ((skip q0 z0 3 6 rfl rfl).trans ((skip q1 g.isLt 0 6 rfl rfl).trans (low q2 b.isLt rfl)))
  have f3 : fieldAt w 4 3 = g := fieldAt_eq ((skip q0 z0 0 3 rfl rfl).trans (low q1 g.isLt rfl))
  refine ⟨Nat.lt_of_lt_of_le (bound q0 z0 (bound q1 g.isLt (bound q2 b.isLt (bound q3 a.isLt (bound q4 d.isLt (bound q5 z5 (Nat.lt_succ_of_le hk) rfl) rfl) rfl) rfl) rfl) rfl) (Nat.le_of_ble_eq_true rfl), (skip q0 z0 27 1 rfl rfl).trans ((skip q1 g.isLt 24 1 rfl rfl).trans ((skip q2 b.isLt 18 1 rfl rfl).trans ((skip q3 a.isLt 12 1 rfl rfl).trans ((skip q4 d.isLt 6 1 rfl rfl).trans ((skip q5 z5 0 1 rfl rfl).trans (top hk)))))), ?_⟩
  rw [major2C w m0]
  simp [decodeMajor2C, e0, f0, f1, f2, f3]

theorem vfsqrt (d : BitVec 6) (a : BitVec 6) (g : BitVec 3) : Statement (.vfsqrt d a g) := by
  refine of_fields rfl ?_
  intro k hk w hw
  obtain ⟨r5, q5⟩ : ∃ r, r = 44 + 64 * k := ⟨_, rfl⟩
  obtain ⟨r4, q4⟩ : ∃ r, r = d.toNat + 64 * r5 := ⟨_, rfl⟩
  obtain ⟨r3, q3⟩ : ∃ r, r = a.toNat + 64 * r4 := ⟨_, rfl⟩
  obtain ⟨r2, q2⟩ : ∃ r, r = 0 + 64 * r3 := ⟨_, rfl⟩
  obtain ⟨r1, q1⟩ : ∃ r, r = g.toNat + 8 * r2 := ⟨_, rfl⟩
  have q0 : w = 6 + 16 * r1 := by simp only [assemble] at hw; omega
  have z0 : 6 < 2 ^ 4 := Nat.le_of_ble_eq_true rfl
  have z2 : 0 < 2 ^ 6 := Nat.le_of_ble_eq_true rfl
  have z5 : 44 < 2 ^ 6 := Nat.le_of_ble_eq_true rfl
  have m0 : bitsAt w 25 6 = 44 := (skip q0 z0 21 6 rfl rfl).trans ((skip q1 g.isLt 18 6 rfl rfl).trans ((skip q2 z2 12 6 rfl rfl).trans ((skip q3 a.isLt 6 6 rfl rfl).trans ((skip q4 d.isLt 0 6 rfl rfl).trans (low q5 z5 rfl)))))
  have e0 : bitsAt w 0 4 = 6 := low q0 z0 rfl
  have e1 : bitsAt w 7 6 = 0 := (skip q0 z0 3 6 rfl rfl).trans ((skip q1 g.isLt 0 6 rfl rfl).trans (low q2 z2 rfl))
  have f0 : fieldAt w 19 6 = d := fieldAt_eq ((skip q0 z0 15 6 rfl rfl).trans ((skip q1 g.isLt 12 6 rfl rfl).trans ((skip q2 z2 6 6 rfl rfl).trans ((skip q3 a.isLt 0 6 rfl rfl).trans (low q4 d.isLt rfl)))))
  have f1 : fieldAt w 13 6 = a := fieldAt_eq ((skip q0 z0 9 6 rfl rfl).trans ((skip q1 g.isLt 6 6 rfl rfl).trans ((skip q2 z2 0 6 rfl rfl).trans (low q3 a.isLt rfl))))
  have f2 : fieldAt w 4 3 = g := fieldAt_eq ((skip q0 z0 0 3 rfl rfl).trans (low q1 g.isLt rfl))
  refine ⟨Nat.lt_of_lt_of_le (bound q0 z0 (bound q1 g.isLt (bound q2 z2 (bound q3 a.isLt (bound q4 d.isLt (bound q5 z5 (Nat.lt_succ_of_le hk) rfl) rfl) rfl) rfl) rfl) rfl) (Nat.le_of_ble_eq_true rfl), (skip q0 z0 27 1 rfl rfl).trans ((skip q1 g.isLt 24 1 rfl rfl).trans ((skip q2 z2 18 1 rfl rfl).trans ((skip q3 a.isLt 12 1 rfl rfl).trans ((skip q4 d.isLt 6 1 rfl rfl).trans ((skip q5 z5 0 1 rfl rfl).trans (top hk)))))), ?_⟩
  rw [major2C w m0]
  simp [decodeMajor2C, e0, e1, f0, f1, f2]

theorem vrcp (d : BitVec 6) (a : BitVec 6) (g : BitVec 3) : Statement (.vrcp d a g) := by
  refine of_fields rfl ?_
  intro k hk w hw
  obtain ⟨r5, q5⟩ : ∃ r, r = 44 + 64 * k := ⟨_, rfl⟩
  obtain ⟨r4, q4⟩ : ∃ r, r = d.toNat + 64 * r5 := ⟨_, rfl⟩
  obtain ⟨r3, q3⟩ : ∃ r, r = a.toNat + 64 * r4 := ⟨_, rfl⟩
  obtain ⟨r2, q2⟩ : ∃ r, r = 0 + 64 * r3 := ⟨_, rfl⟩
  obtain ⟨r1, q1⟩ : ∃ r, r = g.toNat + 8 * r2 := ⟨_, rfl⟩
  have q0 : w = 7 + 16 * r1 := by simp only [assemble] at hw; omega
  have z0 : 7 < 2 ^ 4 := Nat.le_of_ble_eq_true rfl
  have z2 : 0 < 2 ^ 6 := Nat.le_of_ble_eq_true rfl
  have z5 : 44 < 2 ^ 6 := Nat.le_of_ble_eq_true rfl
  have m0 : bitsAt w 25 6 = 44 := (skip q0 z0 21 6 rfl rfl).trans ((skip q1 g.isLt 18 6 rfl rfl).trans ((skip q2 z2 12 6 rfl rfl).trans ((skip q3 a.isLt 6 6 rfl rfl).trans ((skip q4 d.isLt 0 6 rfl rfl).trans (low q5 z5 rfl)))))
  have e0 : bitsAt w 0 4 = 7 := low q0 z0 rfl
  have e1 : bitsAt w 7 6 = 0 := (skip q0 z0 3 6 rfl rfl).trans ((skip q1 g.isLt 0 6 rfl rfl).trans (low q2 z2 rfl))
  have f0 : fieldAt w 19 6 = d := fieldAt_eq ((skip q0 z0 15 6 rfl rfl).trans ((skip q1 g.isLt 12 6 rfl rfl).trans ((skip q2 z2 6 6 rfl rfl).trans ((skip q3 a.isLt 0 6 rfl rfl).trans (low q4 d.isLt rfl)))))
  have f1 : fieldAt w 13 6 = a := fieldAt_eq ((skip q0 z0 9 6 rfl rfl).trans ((skip q1 g.isLt 6 6 rfl rfl).trans ((skip q2 z2 0 6 rfl rfl).trans (low q3 a.isLt rfl))))
  have f2 : fieldAt w 4 3 = g := fieldAt_eq ((skip q0 z0 0 3 rfl rfl).trans (low q1 g.isLt rfl))
  refine ⟨Nat.lt_of_lt_of_le (bound q0 z0 (bound q1 g.isLt (bound q2 z2 (bound q3 a.isLt (bound q4 d.isLt (bound q5 z5 (Nat.lt_succ_of_le hk) rfl) rfl) rfl) rfl) rfl) rfl) (Nat.le_of_ble_eq_true rfl), (skip q0 z0 27 1 rfl rfl).trans ((skip q1 g.isLt 24 1 rfl rfl).trans ((skip q2 z2 18 1 rfl rfl).trans ((skip q3 a.isLt 12 1 rfl rfl).trans ((skip q4 d.isLt 6 1 rfl rfl).trans ((skip q5 z5 0 1 rfl rfl).trans (top hk)))))), ?_⟩
  rw [major2C w m0]
  simp [decodeMajor2C, e0, e1, f0, f1, f2]

theorem vrsq (d : BitVec 6) (a : BitVec 6) (g : BitVec 3) : Statement (.vrsq d a g) := by
  refine of_fields rfl ?_
  intro k hk w hw
  obtain ⟨r5, q5⟩ : ∃ r, r = 44 + 64 * k := ⟨_, rfl⟩
  obtain ⟨r4, q4⟩ : ∃ r, r = d.toNat + 64 * r5 := ⟨_, rfl⟩
  obtain ⟨r3, q3⟩ : ∃ r, r = a.toNat + 64 * r4 := ⟨_, rfl⟩
  obtain ⟨r2, q2⟩ : ∃ r, r = 0 + 64 * r3 := ⟨_, rfl⟩
  obtain ⟨r1, q1⟩ : ∃ r, r = g.toNat + 8 * r2 := ⟨_, rfl⟩
  have q0 : w = 8 + 16 * r1 := by simp only [assemble] at hw; omega
  have z0 : 8 < 2 ^ 4 := Nat.le_of_ble_eq_true rfl
  have z2 : 0 < 2 ^ 6 := Nat.le_of_ble_eq_true rfl
  have z5 : 44 < 2 ^ 6 := Nat.le_of_ble_eq_true rfl
  have m0 : bitsAt w 25 6 = 44 := (skip q0 z0 21 6 rfl rfl).trans ((skip q1 g.isLt 18 6 rfl rfl).trans ((skip q2 z2 12 6 rfl rfl).trans ((skip q3 a.isLt 6 6 rfl rfl).trans ((skip q4 d.isLt 0 6 rfl rfl).trans (low q5 z5 rfl)))))
  have e0 : bitsAt w 0 4 = 8 := low q0 z0 rfl
  have e1 : bitsAt w 7 6 = 0 := (skip q0 z0 3 6 rfl rfl).trans ((skip q1 g.isLt 0 6 rfl rfl).trans (low q2 z2 rfl))
  have f0 : fieldAt w 19 6 = d := fieldAt_eq ((skip q0 z0 15 6 rfl rfl).trans ((skip q1 g.isLt 12 6 rfl rfl).trans ((skip q2 z2 6 6 rfl rfl).trans ((skip q3 a.isLt 0 6 rfl rfl).trans (low q4 d.isLt rfl)))))
  have f1 : fieldAt w 13 6 = a := fieldAt_eq ((skip q0 z0 9 6 rfl rfl).trans ((skip q1 g.isLt 6 6 rfl rfl).trans ((skip q2 z2 0 6 rfl rfl).trans (low q3 a.isLt rfl))))
  have f2 : fieldAt w 4 3 = g := fieldAt_eq ((skip q0 z0 0 3 rfl rfl).trans (low q1 g.isLt rfl))
  refine ⟨Nat.lt_of_lt_of_le (bound q0 z0 (bound q1 g.isLt (bound q2 z2 (bound q3 a.isLt (bound q4 d.isLt (bound q5 z5 (Nat.lt_succ_of_le hk) rfl) rfl) rfl) rfl) rfl) rfl) (Nat.le_of_ble_eq_true rfl), (skip q0 z0 27 1 rfl rfl).trans ((skip q1 g.isLt 24 1 rfl rfl).trans ((skip q2 z2 18 1 rfl rfl).trans ((skip q3 a.isLt 12 1 rfl rfl).trans ((skip q4 d.isLt 6 1 rfl rfl).trans ((skip q5 z5 0 1 rfl rfl).trans (top hk)))))), ?_⟩
  rw [major2C w m0]
  simp [decodeMajor2C, e0, e1, f0, f1, f2]

theorem vexp2 (d : BitVec 6) (a : BitVec 6) (g : BitVec 3) : Statement (.vexp2 d a g) := by
  refine of_fields rfl ?_
  intro k hk w hw
  obtain ⟨r5, q5⟩ : ∃ r, r = 44 + 64 * k := ⟨_, rfl⟩
  obtain ⟨r4, q4⟩ : ∃ r, r = d.toNat + 64 * r5 := ⟨_, rfl⟩
  obtain ⟨r3, q3⟩ : ∃ r, r = a.toNat + 64 * r4 := ⟨_, rfl⟩
  obtain ⟨r2, q2⟩ : ∃ r, r = 0 + 64 * r3 := ⟨_, rfl⟩
  obtain ⟨r1, q1⟩ : ∃ r, r = g.toNat + 8 * r2 := ⟨_, rfl⟩
  have q0 : w = 9 + 16 * r1 := by simp only [assemble] at hw; omega
  have z0 : 9 < 2 ^ 4 := Nat.le_of_ble_eq_true rfl
  have z2 : 0 < 2 ^ 6 := Nat.le_of_ble_eq_true rfl
  have z5 : 44 < 2 ^ 6 := Nat.le_of_ble_eq_true rfl
  have m0 : bitsAt w 25 6 = 44 := (skip q0 z0 21 6 rfl rfl).trans ((skip q1 g.isLt 18 6 rfl rfl).trans ((skip q2 z2 12 6 rfl rfl).trans ((skip q3 a.isLt 6 6 rfl rfl).trans ((skip q4 d.isLt 0 6 rfl rfl).trans (low q5 z5 rfl)))))
  have e0 : bitsAt w 0 4 = 9 := low q0 z0 rfl
  have e1 : bitsAt w 7 6 = 0 := (skip q0 z0 3 6 rfl rfl).trans ((skip q1 g.isLt 0 6 rfl rfl).trans (low q2 z2 rfl))
  have f0 : fieldAt w 19 6 = d := fieldAt_eq ((skip q0 z0 15 6 rfl rfl).trans ((skip q1 g.isLt 12 6 rfl rfl).trans ((skip q2 z2 6 6 rfl rfl).trans ((skip q3 a.isLt 0 6 rfl rfl).trans (low q4 d.isLt rfl)))))
  have f1 : fieldAt w 13 6 = a := fieldAt_eq ((skip q0 z0 9 6 rfl rfl).trans ((skip q1 g.isLt 6 6 rfl rfl).trans ((skip q2 z2 0 6 rfl rfl).trans (low q3 a.isLt rfl))))
  have f2 : fieldAt w 4 3 = g := fieldAt_eq ((skip q0 z0 0 3 rfl rfl).trans (low q1 g.isLt rfl))
  refine ⟨Nat.lt_of_lt_of_le (bound q0 z0 (bound q1 g.isLt (bound q2 z2 (bound q3 a.isLt (bound q4 d.isLt (bound q5 z5 (Nat.lt_succ_of_le hk) rfl) rfl) rfl) rfl) rfl) rfl) (Nat.le_of_ble_eq_true rfl), (skip q0 z0 27 1 rfl rfl).trans ((skip q1 g.isLt 24 1 rfl rfl).trans ((skip q2 z2 18 1 rfl rfl).trans ((skip q3 a.isLt 12 1 rfl rfl).trans ((skip q4 d.isLt 6 1 rfl rfl).trans ((skip q5 z5 0 1 rfl rfl).trans (top hk)))))), ?_⟩
  rw [major2C w m0]
  simp [decodeMajor2C, e0, e1, f0, f1, f2]

theorem vlog2 (d : BitVec 6) (a : BitVec 6) (g : BitVec 3) : Statement (.vlog2 d a g) := by
  refine of_fields rfl ?_
  intro k hk w hw
  obtain ⟨r5, q5⟩ : ∃ r, r = 44 + 64 * k := ⟨_, rfl⟩
  obtain ⟨r4, q4⟩ : ∃ r, r = d.toNat + 64 * r5 := ⟨_, rfl⟩
  obtain ⟨r3, q3⟩ : ∃ r, r = a.toNat + 64 * r4 := ⟨_, rfl⟩
  obtain ⟨r2, q2⟩ : ∃ r, r = 0 + 64 * r3 := ⟨_, rfl⟩
  obtain ⟨r1, q1⟩ : ∃ r, r = g.toNat + 8 * r2 := ⟨_, rfl⟩
  have q0 : w = 10 + 16 * r1 := by simp only [assemble] at hw; omega
  have z0 : 10 < 2 ^ 4 := Nat.le_of_ble_eq_true rfl
  have z2 : 0 < 2 ^ 6 := Nat.le_of_ble_eq_true rfl
  have z5 : 44 < 2 ^ 6 := Nat.le_of_ble_eq_true rfl
  have m0 : bitsAt w 25 6 = 44 := (skip q0 z0 21 6 rfl rfl).trans ((skip q1 g.isLt 18 6 rfl rfl).trans ((skip q2 z2 12 6 rfl rfl).trans ((skip q3 a.isLt 6 6 rfl rfl).trans ((skip q4 d.isLt 0 6 rfl rfl).trans (low q5 z5 rfl)))))
  have e0 : bitsAt w 0 4 = 10 := low q0 z0 rfl
  have e1 : bitsAt w 7 6 = 0 := (skip q0 z0 3 6 rfl rfl).trans ((skip q1 g.isLt 0 6 rfl rfl).trans (low q2 z2 rfl))
  have f0 : fieldAt w 19 6 = d := fieldAt_eq ((skip q0 z0 15 6 rfl rfl).trans ((skip q1 g.isLt 12 6 rfl rfl).trans ((skip q2 z2 6 6 rfl rfl).trans ((skip q3 a.isLt 0 6 rfl rfl).trans (low q4 d.isLt rfl)))))
  have f1 : fieldAt w 13 6 = a := fieldAt_eq ((skip q0 z0 9 6 rfl rfl).trans ((skip q1 g.isLt 6 6 rfl rfl).trans ((skip q2 z2 0 6 rfl rfl).trans (low q3 a.isLt rfl))))
  have f2 : fieldAt w 4 3 = g := fieldAt_eq ((skip q0 z0 0 3 rfl rfl).trans (low q1 g.isLt rfl))
  refine ⟨Nat.lt_of_lt_of_le (bound q0 z0 (bound q1 g.isLt (bound q2 z2 (bound q3 a.isLt (bound q4 d.isLt (bound q5 z5 (Nat.lt_succ_of_le hk) rfl) rfl) rfl) rfl) rfl) rfl) (Nat.le_of_ble_eq_true rfl), (skip q0 z0 27 1 rfl rfl).trans ((skip q1 g.isLt 24 1 rfl rfl).trans ((skip q2 z2 18 1 rfl rfl).trans ((skip q3 a.isLt 12 1 rfl rfl).trans ((skip q4 d.isLt 6 1 rfl rfl).trans ((skip q5 z5 0 1 rfl rfl).trans (top hk)))))), ?_⟩
  rw [major2C w m0]
  simp [decodeMajor2C, e0, e1, f0, f1, f2]

theorem vsin (d : BitVec 6) (a : BitVec 6) (g : BitVec 3) : Statement (.vsin d a g) := by
  refine of_fields rfl ?_
  intro k hk w hw
  obtain ⟨r5, q5⟩ : ∃ r, r = 44 + 64 * k := ⟨_, rfl⟩
  obtain ⟨r4, q4⟩ : ∃ r, r = d.toNat + 64 * r5 := ⟨_, rfl⟩
  obtain ⟨r3, q3⟩ : ∃ r, r = a.toNat + 64 * r4 := ⟨_, rfl⟩
  obtain ⟨r2, q2⟩ : ∃ r, r = 0 + 64 * r3 := ⟨_, rfl⟩
  obtain ⟨r1, q1⟩ : ∃ r, r = g.toNat + 8 * r2 := ⟨_, rfl⟩
  have q0 : w = 11 + 16 * r1 := by simp only [assemble] at hw; omega
  have z0 : 11 < 2 ^ 4 := Nat.le_of_ble_eq_true rfl
  have z2 : 0 < 2 ^ 6 := Nat.le_of_ble_eq_true rfl
  have z5 : 44 < 2 ^ 6 := Nat.le_of_ble_eq_true rfl
  have m0 : bitsAt w 25 6 = 44 := (skip q0 z0 21 6 rfl rfl).trans ((skip q1 g.isLt 18 6 rfl rfl).trans ((skip q2 z2 12 6 rfl rfl).trans ((skip q3 a.isLt 6 6 rfl rfl).trans ((skip q4 d.isLt 0 6 rfl rfl).trans (low q5 z5 rfl)))))
  have e0 : bitsAt w 0 4 = 11 := low q0 z0 rfl
  have e1 : bitsAt w 7 6 = 0 := (skip q0 z0 3 6 rfl rfl).trans ((skip q1 g.isLt 0 6 rfl rfl).trans (low q2 z2 rfl))
  have f0 : fieldAt w 19 6 = d := fieldAt_eq ((skip q0 z0 15 6 rfl rfl).trans ((skip q1 g.isLt 12 6 rfl rfl).trans ((skip q2 z2 6 6 rfl rfl).trans ((skip q3 a.isLt 0 6 rfl rfl).trans (low q4 d.isLt rfl)))))
  have f1 : fieldAt w 13 6 = a := fieldAt_eq ((skip q0 z0 9 6 rfl rfl).trans ((skip q1 g.isLt 6 6 rfl rfl).trans ((skip q2 z2 0 6 rfl rfl).trans (low q3 a.isLt rfl))))
  have f2 : fieldAt w 4 3 = g := fieldAt_eq ((skip q0 z0 0 3 rfl rfl).trans (low q1 g.isLt rfl))
  refine ⟨Nat.lt_of_lt_of_le (bound q0 z0 (bound q1 g.isLt (bound q2 z2 (bound q3 a.isLt (bound q4 d.isLt (bound q5 z5 (Nat.lt_succ_of_le hk) rfl) rfl) rfl) rfl) rfl) rfl) (Nat.le_of_ble_eq_true rfl), (skip q0 z0 27 1 rfl rfl).trans ((skip q1 g.isLt 24 1 rfl rfl).trans ((skip q2 z2 18 1 rfl rfl).trans ((skip q3 a.isLt 12 1 rfl rfl).trans ((skip q4 d.isLt 6 1 rfl rfl).trans ((skip q5 z5 0 1 rfl rfl).trans (top hk)))))), ?_⟩
  rw [major2C w m0]
  simp [decodeMajor2C, e0, e1, f0, f1, f2]

theorem vcos (d : BitVec 6) (a : BitVec 6) (g : BitVec 3) : Statement (.vcos d a g) := by
  refine of_fields rfl ?_
  intro k hk w hw
  obtain ⟨r5, q5⟩ : ∃ r, r = 44 + 64 * k := ⟨_, rfl⟩
  obtain ⟨r4, q4⟩ : ∃ r, r = d.toNat + 64 * r5 := ⟨_, rfl⟩
  obtain ⟨r3, q3⟩ : ∃ r, r = a.toNat + 64 * r4 := ⟨_, rfl⟩
  obtain ⟨r2, q2⟩ : ∃ r, r = 0 + 64 * r3 := ⟨_, rfl⟩
  obtain ⟨r1, q1⟩ : ∃ r, r = g.toNat + 8 * r2 := ⟨_, rfl⟩
  have q0 : w = 12 + 16 * r1 := by simp only [assemble] at hw; omega
  have z0 : 12 < 2 ^ 4 := Nat.le_of_ble_eq_true rfl
  have z2 : 0 < 2 ^ 6 := Nat.le_of_ble_eq_true rfl
  have z5 : 44 < 2 ^ 6 := Nat.le_of_ble_eq_true rfl
  have m0 : bitsAt w 25 6 = 44 := (skip q0 z0 21 6 rfl rfl).trans ((skip q1 g.isLt 18 6 rfl rfl).trans ((skip q2 z2 12 6 rfl rfl).trans ((skip q3 a.isLt 6 6 rfl rfl).trans ((skip q4 d.isLt 0 6 rfl rfl).trans (low q5 z5 rfl)))))
  have e0 : bitsAt w 0 4 = 12 := low q0 z0 rfl
  have e1 : bitsAt w 7 6 = 0 := (skip q0 z0 3 6 rfl rfl).trans ((skip q1 g.isLt 0 6 rfl rfl).trans (low q2 z2 rfl))
  have f0 : fieldAt w 19 6 = d := fieldAt_eq ((skip q0 z0 15 6 rfl rfl).trans ((skip q1 g.isLt 12 6 rfl rfl).trans ((skip q2 z2 6 6 rfl rfl).trans ((skip q3 a.isLt 0 6 rfl rfl).trans (low q4 d.isLt rfl)))))
  have f1 : fieldAt w 13 6 = a := fieldAt_eq ((skip q0 z0 9 6 rfl rfl).trans ((skip q1 g.isLt 6 6 rfl rfl).trans ((skip q2 z2 0 6 rfl rfl).trans (low q3 a.isLt rfl))))
  have f2 : fieldAt w 4 3 = g := fieldAt_eq ((skip q0 z0 0 3 rfl rfl).trans (low q1 g.isLt rfl))
  refine ⟨Nat.lt_of_lt_of_le (bound q0 z0 (bound q1 g.isLt (bound q2 z2 (bound q3 a.isLt (bound q4 d.isLt (bound q5 z5 (Nat.lt_succ_of_le hk) rfl) rfl) rfl) rfl) rfl) rfl) (Nat.le_of_ble_eq_true rfl), (skip q0 z0 27 1 rfl rfl).trans ((skip q1 g.isLt 24 1 rfl rfl).trans ((skip q2 z2 18 1 rfl rfl).trans ((skip q3 a.isLt 12 1 rfl rfl).trans ((skip q4 d.isLt 6 1 rfl rfl).trans ((skip q5 z5 0 1 rfl rfl).trans (top hk)))))), ?_⟩
  rw [major2C w m0]
  simp [decodeMajor2C, e0, e1, f0, f1, f2]

theorem vtanh (d : BitVec 6) (a : BitVec 6) (g : BitVec 3) : Statement (.vtanh d a g) := by
  refine of_fields rfl ?_
  intro k hk w hw
  obtain ⟨r5, q5⟩ : ∃ r, r = 44 + 64 * k := ⟨_, rfl⟩
  obtain ⟨r4, q4⟩ : ∃ r, r = d.toNat + 64 * r5 := ⟨_, rfl⟩
  obtain ⟨r3, q3⟩ : ∃ r, r = a.toNat + 64 * r4 := ⟨_, rfl⟩
  obtain ⟨r2, q2⟩ : ∃ r, r = 0 + 64 * r3 := ⟨_, rfl⟩
  obtain ⟨r1, q1⟩ : ∃ r, r = g.toNat + 8 * r2 := ⟨_, rfl⟩
  have q0 : w = 13 + 16 * r1 := by simp only [assemble] at hw; omega
  have z0 : 13 < 2 ^ 4 := Nat.le_of_ble_eq_true rfl
  have z2 : 0 < 2 ^ 6 := Nat.le_of_ble_eq_true rfl
  have z5 : 44 < 2 ^ 6 := Nat.le_of_ble_eq_true rfl
  have m0 : bitsAt w 25 6 = 44 := (skip q0 z0 21 6 rfl rfl).trans ((skip q1 g.isLt 18 6 rfl rfl).trans ((skip q2 z2 12 6 rfl rfl).trans ((skip q3 a.isLt 6 6 rfl rfl).trans ((skip q4 d.isLt 0 6 rfl rfl).trans (low q5 z5 rfl)))))
  have e0 : bitsAt w 0 4 = 13 := low q0 z0 rfl
  have e1 : bitsAt w 7 6 = 0 := (skip q0 z0 3 6 rfl rfl).trans ((skip q1 g.isLt 0 6 rfl rfl).trans (low q2 z2 rfl))
  have f0 : fieldAt w 19 6 = d := fieldAt_eq ((skip q0 z0 15 6 rfl rfl).trans ((skip q1 g.isLt 12 6 rfl rfl).trans ((skip q2 z2 6 6 rfl rfl).trans ((skip q3 a.isLt 0 6 rfl rfl).trans (low q4 d.isLt rfl)))))
  have f1 : fieldAt w 13 6 = a := fieldAt_eq ((skip q0 z0 9 6 rfl rfl).trans ((skip q1 g.isLt 6 6 rfl rfl).trans ((skip q2 z2 0 6 rfl rfl).trans (low q3 a.isLt rfl))))
  have f2 : fieldAt w 4 3 = g := fieldAt_eq ((skip q0 z0 0 3 rfl rfl).trans (low q1 g.isLt rfl))
  refine ⟨Nat.lt_of_lt_of_le (bound q0 z0 (bound q1 g.isLt (bound q2 z2 (bound q3 a.isLt (bound q4 d.isLt (bound q5 z5 (Nat.lt_succ_of_le hk) rfl) rfl) rfl) rfl) rfl) rfl) (Nat.le_of_ble_eq_true rfl), (skip q0 z0 27 1 rfl rfl).trans ((skip q1 g.isLt 24 1 rfl rfl).trans ((skip q2 z2 18 1 rfl rfl).trans ((skip q3 a.isLt 12 1 rfl rfl).trans ((skip q4 d.isLt 6 1 rfl rfl).trans ((skip q5 z5 0 1 rfl rfl).trans (top hk)))))), ?_⟩
  rw [major2C w m0]
  simp [decodeMajor2C, e0, e1, f0, f1, f2]

theorem vfclassF32 (d : BitVec 6) (a : BitVec 6) (g : BitVec 3) : Statement (.vfclassF32 d a g) := by
  refine of_fields rfl ?_
  intro k hk w hw
  obtain ⟨r5, q5⟩ : ∃ r, r = 44 + 64 * k := ⟨_, rfl⟩
  obtain ⟨r4, q4⟩ : ∃ r, r = d.toNat + 64 * r5 := ⟨_, rfl⟩
  obtain ⟨r3, q3⟩ : ∃ r, r = a.toNat + 64 * r4 := ⟨_, rfl⟩
  obtain ⟨r2, q2⟩ : ∃ r, r = 0 + 64 * r3 := ⟨_, rfl⟩
  obtain ⟨r1, q1⟩ : ∃ r, r = g.toNat + 8 * r2 := ⟨_, rfl⟩
  have q0 : w = 14 + 16 * r1 := by simp only [assemble] at hw; omega
  have z0 : 14 < 2 ^ 4 := Nat.le_of_ble_eq_true rfl
  have z2 : 0 < 2 ^ 6 := Nat.le_of_ble_eq_true rfl
  have z5 : 44 < 2 ^ 6 := Nat.le_of_ble_eq_true rfl
  have m0 : bitsAt w 25 6 = 44 := (skip q0 z0 21 6 rfl rfl).trans ((skip q1 g.isLt 18 6 rfl rfl).trans ((skip q2 z2 12 6 rfl rfl).trans ((skip q3 a.isLt 6 6 rfl rfl).trans ((skip q4 d.isLt 0 6 rfl rfl).trans (low q5 z5 rfl)))))
  have e0 : bitsAt w 0 4 = 14 := low q0 z0 rfl
  have e1 : bitsAt w 7 6 = 0 := (skip q0 z0 3 6 rfl rfl).trans ((skip q1 g.isLt 0 6 rfl rfl).trans (low q2 z2 rfl))
  have f0 : fieldAt w 19 6 = d := fieldAt_eq ((skip q0 z0 15 6 rfl rfl).trans ((skip q1 g.isLt 12 6 rfl rfl).trans ((skip q2 z2 6 6 rfl rfl).trans ((skip q3 a.isLt 0 6 rfl rfl).trans (low q4 d.isLt rfl)))))
  have f1 : fieldAt w 13 6 = a := fieldAt_eq ((skip q0 z0 9 6 rfl rfl).trans ((skip q1 g.isLt 6 6 rfl rfl).trans ((skip q2 z2 0 6 rfl rfl).trans (low q3 a.isLt rfl))))
  have f2 : fieldAt w 4 3 = g := fieldAt_eq ((skip q0 z0 0 3 rfl rfl).trans (low q1 g.isLt rfl))
  refine ⟨Nat.lt_of_lt_of_le (bound q0 z0 (bound q1 g.isLt (bound q2 z2 (bound q3 a.isLt (bound q4 d.isLt (bound q5 z5 (Nat.lt_succ_of_le hk) rfl) rfl) rfl) rfl) rfl) rfl) (Nat.le_of_ble_eq_true rfl), (skip q0 z0 27 1 rfl rfl).trans ((skip q1 g.isLt 24 1 rfl rfl).trans ((skip q2 z2 18 1 rfl rfl).trans ((skip q3 a.isLt 12 1 rfl rfl).trans ((skip q4 d.isLt 6 1 rfl rfl).trans ((skip q5 z5 0 1 rfl rfl).trans (top hk)))))), ?_⟩
  rw [major2C w m0]
  simp [decodeMajor2C, e0, e1, f0, f1, f2]

theorem vfcvtF32 (d : BitVec 6) (a : BitVec 6) (kk : BitVec 6) (g : BitVec 3) : Statement (.vfcvtF32 d a kk g) := by
  refine of_fields rfl ?_
  intro k hk w hw
  obtain ⟨r5, q5⟩ : ∃ r, r = 44 + 64 * k := ⟨_, rfl⟩
  obtain ⟨r4, q4⟩ : ∃ r, r = d.toNat + 64 * r5 := ⟨_, rfl⟩
  obtain ⟨r3, q3⟩ : ∃ r, r = a.toNat + 64 * r4 := ⟨_, rfl⟩
  obtain ⟨r2, q2⟩ : ∃ r, r = kk.toNat + 64 * r3 := ⟨_, rfl⟩
  obtain ⟨r1, q1⟩ : ∃ r, r = g.toNat + 8 * r2 := ⟨_, rfl⟩
  have q0 : w = 15 + 16 * r1 := by simp only [assemble] at hw; omega
  have z0 : 15 < 2 ^ 4 := Nat.le_of_ble_eq_true rfl
  have z5 : 44 < 2 ^ 6 := Nat.le_of_ble_eq_true rfl
  have m0 : bitsAt w 25 6 = 44 := (skip q0 z0 21 6 rfl rfl).trans ((skip q1 g.isLt 18 6 rfl rfl).trans ((skip q2 kk.isLt 12 6 rfl rfl).trans ((skip q3 a.isLt 6 6 rfl rfl).trans ((skip q4 d.isLt 0 6 rfl rfl).trans (low q5 z5 rfl)))))
  have e0 : bitsAt w 0 4 = 15 := low q0 z0 rfl
  have f0 : fieldAt w 19 6 = d := fieldAt_eq ((skip q0 z0 15 6 rfl rfl).trans ((skip q1 g.isLt 12 6 rfl rfl).trans ((skip q2 kk.isLt 6 6 rfl rfl).trans ((skip q3 a.isLt 0 6 rfl rfl).trans (low q4 d.isLt rfl)))))
  have f1 : fieldAt w 13 6 = a := fieldAt_eq ((skip q0 z0 9 6 rfl rfl).trans ((skip q1 g.isLt 6 6 rfl rfl).trans ((skip q2 kk.isLt 0 6 rfl rfl).trans (low q3 a.isLt rfl))))
  have f2 : fieldAt w 7 6 = kk := fieldAt_eq ((skip q0 z0 3 6 rfl rfl).trans ((skip q1 g.isLt 0 6 rfl rfl).trans (low q2 kk.isLt rfl)))
  have f3 : fieldAt w 4 3 = g := fieldAt_eq ((skip q0 z0 0 3 rfl rfl).trans (low q1 g.isLt rfl))
  refine ⟨Nat.lt_of_lt_of_le (bound q0 z0 (bound q1 g.isLt (bound q2 kk.isLt (bound q3 a.isLt (bound q4 d.isLt (bound q5 z5 (Nat.lt_succ_of_le hk) rfl) rfl) rfl) rfl) rfl) rfl) (Nat.le_of_ble_eq_true rfl), (skip q0 z0 27 1 rfl rfl).trans ((skip q1 g.isLt 24 1 rfl rfl).trans ((skip q2 kk.isLt 18 1 rfl rfl).trans ((skip q3 a.isLt 12 1 rfl rfl).trans ((skip q4 d.isLt 6 1 rfl rfl).trans ((skip q5 z5 0 1 rfl rfl).trans (top hk)))))), ?_⟩
  rw [major2C w m0]
  simp [decodeMajor2C, e0, f0, f1, f2, f3]

theorem vfaddF16x2 (d : BitVec 6) (a : BitVec 6) (b : BitVec 6) (g : BitVec 3) : Statement (.vfaddF16x2 d a b g) := by
  refine of_fields rfl ?_
  intro k hk w hw
  obtain ⟨r5, q5⟩ : ∃ r, r = 45 + 64 * k := ⟨_, rfl⟩
  obtain ⟨r4, q4⟩ : ∃ r, r = d.toNat + 64 * r5 := ⟨_, rfl⟩
  obtain ⟨r3, q3⟩ : ∃ r, r = a.toNat + 64 * r4 := ⟨_, rfl⟩
  obtain ⟨r2, q2⟩ : ∃ r, r = b.toNat + 64 * r3 := ⟨_, rfl⟩
  obtain ⟨r1, q1⟩ : ∃ r, r = g.toNat + 8 * r2 := ⟨_, rfl⟩
  have q0 : w = 0 + 16 * r1 := by simp only [assemble] at hw; omega
  have z0 : 0 < 2 ^ 4 := Nat.le_of_ble_eq_true rfl
  have z5 : 45 < 2 ^ 6 := Nat.le_of_ble_eq_true rfl
  have m0 : bitsAt w 25 6 = 45 := (skip q0 z0 21 6 rfl rfl).trans ((skip q1 g.isLt 18 6 rfl rfl).trans ((skip q2 b.isLt 12 6 rfl rfl).trans ((skip q3 a.isLt 6 6 rfl rfl).trans ((skip q4 d.isLt 0 6 rfl rfl).trans (low q5 z5 rfl)))))
  have e0 : bitsAt w 0 4 = 0 := low q0 z0 rfl
  have f0 : fieldAt w 19 6 = d := fieldAt_eq ((skip q0 z0 15 6 rfl rfl).trans ((skip q1 g.isLt 12 6 rfl rfl).trans ((skip q2 b.isLt 6 6 rfl rfl).trans ((skip q3 a.isLt 0 6 rfl rfl).trans (low q4 d.isLt rfl)))))
  have f1 : fieldAt w 13 6 = a := fieldAt_eq ((skip q0 z0 9 6 rfl rfl).trans ((skip q1 g.isLt 6 6 rfl rfl).trans ((skip q2 b.isLt 0 6 rfl rfl).trans (low q3 a.isLt rfl))))
  have f2 : fieldAt w 7 6 = b := fieldAt_eq ((skip q0 z0 3 6 rfl rfl).trans ((skip q1 g.isLt 0 6 rfl rfl).trans (low q2 b.isLt rfl)))
  have f3 : fieldAt w 4 3 = g := fieldAt_eq ((skip q0 z0 0 3 rfl rfl).trans (low q1 g.isLt rfl))
  refine ⟨Nat.lt_of_lt_of_le (bound q0 z0 (bound q1 g.isLt (bound q2 b.isLt (bound q3 a.isLt (bound q4 d.isLt (bound q5 z5 (Nat.lt_succ_of_le hk) rfl) rfl) rfl) rfl) rfl) rfl) (Nat.le_of_ble_eq_true rfl), (skip q0 z0 27 1 rfl rfl).trans ((skip q1 g.isLt 24 1 rfl rfl).trans ((skip q2 b.isLt 18 1 rfl rfl).trans ((skip q3 a.isLt 12 1 rfl rfl).trans ((skip q4 d.isLt 6 1 rfl rfl).trans ((skip q5 z5 0 1 rfl rfl).trans (top hk)))))), ?_⟩
  rw [major2D w m0]
  simp [decodeMajor2D, e0, f0, f1, f2, f3]

theorem vfsubF16x2 (d : BitVec 6) (a : BitVec 6) (b : BitVec 6) (g : BitVec 3) : Statement (.vfsubF16x2 d a b g) := by
  refine of_fields rfl ?_
  intro k hk w hw
  obtain ⟨r5, q5⟩ : ∃ r, r = 45 + 64 * k := ⟨_, rfl⟩
  obtain ⟨r4, q4⟩ : ∃ r, r = d.toNat + 64 * r5 := ⟨_, rfl⟩
  obtain ⟨r3, q3⟩ : ∃ r, r = a.toNat + 64 * r4 := ⟨_, rfl⟩
  obtain ⟨r2, q2⟩ : ∃ r, r = b.toNat + 64 * r3 := ⟨_, rfl⟩
  obtain ⟨r1, q1⟩ : ∃ r, r = g.toNat + 8 * r2 := ⟨_, rfl⟩
  have q0 : w = 1 + 16 * r1 := by simp only [assemble] at hw; omega
  have z0 : 1 < 2 ^ 4 := Nat.le_of_ble_eq_true rfl
  have z5 : 45 < 2 ^ 6 := Nat.le_of_ble_eq_true rfl
  have m0 : bitsAt w 25 6 = 45 := (skip q0 z0 21 6 rfl rfl).trans ((skip q1 g.isLt 18 6 rfl rfl).trans ((skip q2 b.isLt 12 6 rfl rfl).trans ((skip q3 a.isLt 6 6 rfl rfl).trans ((skip q4 d.isLt 0 6 rfl rfl).trans (low q5 z5 rfl)))))
  have e0 : bitsAt w 0 4 = 1 := low q0 z0 rfl
  have f0 : fieldAt w 19 6 = d := fieldAt_eq ((skip q0 z0 15 6 rfl rfl).trans ((skip q1 g.isLt 12 6 rfl rfl).trans ((skip q2 b.isLt 6 6 rfl rfl).trans ((skip q3 a.isLt 0 6 rfl rfl).trans (low q4 d.isLt rfl)))))
  have f1 : fieldAt w 13 6 = a := fieldAt_eq ((skip q0 z0 9 6 rfl rfl).trans ((skip q1 g.isLt 6 6 rfl rfl).trans ((skip q2 b.isLt 0 6 rfl rfl).trans (low q3 a.isLt rfl))))
  have f2 : fieldAt w 7 6 = b := fieldAt_eq ((skip q0 z0 3 6 rfl rfl).trans ((skip q1 g.isLt 0 6 rfl rfl).trans (low q2 b.isLt rfl)))
  have f3 : fieldAt w 4 3 = g := fieldAt_eq ((skip q0 z0 0 3 rfl rfl).trans (low q1 g.isLt rfl))
  refine ⟨Nat.lt_of_lt_of_le (bound q0 z0 (bound q1 g.isLt (bound q2 b.isLt (bound q3 a.isLt (bound q4 d.isLt (bound q5 z5 (Nat.lt_succ_of_le hk) rfl) rfl) rfl) rfl) rfl) rfl) (Nat.le_of_ble_eq_true rfl), (skip q0 z0 27 1 rfl rfl).trans ((skip q1 g.isLt 24 1 rfl rfl).trans ((skip q2 b.isLt 18 1 rfl rfl).trans ((skip q3 a.isLt 12 1 rfl rfl).trans ((skip q4 d.isLt 6 1 rfl rfl).trans ((skip q5 z5 0 1 rfl rfl).trans (top hk)))))), ?_⟩
  rw [major2D w m0]
  simp [decodeMajor2D, e0, f0, f1, f2, f3]

theorem vfmulF16x2 (d : BitVec 6) (a : BitVec 6) (b : BitVec 6) (g : BitVec 3) : Statement (.vfmulF16x2 d a b g) := by
  refine of_fields rfl ?_
  intro k hk w hw
  obtain ⟨r5, q5⟩ : ∃ r, r = 45 + 64 * k := ⟨_, rfl⟩
  obtain ⟨r4, q4⟩ : ∃ r, r = d.toNat + 64 * r5 := ⟨_, rfl⟩
  obtain ⟨r3, q3⟩ : ∃ r, r = a.toNat + 64 * r4 := ⟨_, rfl⟩
  obtain ⟨r2, q2⟩ : ∃ r, r = b.toNat + 64 * r3 := ⟨_, rfl⟩
  obtain ⟨r1, q1⟩ : ∃ r, r = g.toNat + 8 * r2 := ⟨_, rfl⟩
  have q0 : w = 2 + 16 * r1 := by simp only [assemble] at hw; omega
  have z0 : 2 < 2 ^ 4 := Nat.le_of_ble_eq_true rfl
  have z5 : 45 < 2 ^ 6 := Nat.le_of_ble_eq_true rfl
  have m0 : bitsAt w 25 6 = 45 := (skip q0 z0 21 6 rfl rfl).trans ((skip q1 g.isLt 18 6 rfl rfl).trans ((skip q2 b.isLt 12 6 rfl rfl).trans ((skip q3 a.isLt 6 6 rfl rfl).trans ((skip q4 d.isLt 0 6 rfl rfl).trans (low q5 z5 rfl)))))
  have e0 : bitsAt w 0 4 = 2 := low q0 z0 rfl
  have f0 : fieldAt w 19 6 = d := fieldAt_eq ((skip q0 z0 15 6 rfl rfl).trans ((skip q1 g.isLt 12 6 rfl rfl).trans ((skip q2 b.isLt 6 6 rfl rfl).trans ((skip q3 a.isLt 0 6 rfl rfl).trans (low q4 d.isLt rfl)))))
  have f1 : fieldAt w 13 6 = a := fieldAt_eq ((skip q0 z0 9 6 rfl rfl).trans ((skip q1 g.isLt 6 6 rfl rfl).trans ((skip q2 b.isLt 0 6 rfl rfl).trans (low q3 a.isLt rfl))))
  have f2 : fieldAt w 7 6 = b := fieldAt_eq ((skip q0 z0 3 6 rfl rfl).trans ((skip q1 g.isLt 0 6 rfl rfl).trans (low q2 b.isLt rfl)))
  have f3 : fieldAt w 4 3 = g := fieldAt_eq ((skip q0 z0 0 3 rfl rfl).trans (low q1 g.isLt rfl))
  refine ⟨Nat.lt_of_lt_of_le (bound q0 z0 (bound q1 g.isLt (bound q2 b.isLt (bound q3 a.isLt (bound q4 d.isLt (bound q5 z5 (Nat.lt_succ_of_le hk) rfl) rfl) rfl) rfl) rfl) rfl) (Nat.le_of_ble_eq_true rfl), (skip q0 z0 27 1 rfl rfl).trans ((skip q1 g.isLt 24 1 rfl rfl).trans ((skip q2 b.isLt 18 1 rfl rfl).trans ((skip q3 a.isLt 12 1 rfl rfl).trans ((skip q4 d.isLt 6 1 rfl rfl).trans ((skip q5 z5 0 1 rfl rfl).trans (top hk)))))), ?_⟩
  rw [major2D w m0]
  simp [decodeMajor2D, e0, f0, f1, f2, f3]

theorem vfminF16x2 (d : BitVec 6) (a : BitVec 6) (b : BitVec 6) (g : BitVec 3) : Statement (.vfminF16x2 d a b g) := by
  refine of_fields rfl ?_
  intro k hk w hw
  obtain ⟨r5, q5⟩ : ∃ r, r = 45 + 64 * k := ⟨_, rfl⟩
  obtain ⟨r4, q4⟩ : ∃ r, r = d.toNat + 64 * r5 := ⟨_, rfl⟩
  obtain ⟨r3, q3⟩ : ∃ r, r = a.toNat + 64 * r4 := ⟨_, rfl⟩
  obtain ⟨r2, q2⟩ : ∃ r, r = b.toNat + 64 * r3 := ⟨_, rfl⟩
  obtain ⟨r1, q1⟩ : ∃ r, r = g.toNat + 8 * r2 := ⟨_, rfl⟩
  have q0 : w = 3 + 16 * r1 := by simp only [assemble] at hw; omega
  have z0 : 3 < 2 ^ 4 := Nat.le_of_ble_eq_true rfl
  have z5 : 45 < 2 ^ 6 := Nat.le_of_ble_eq_true rfl
  have m0 : bitsAt w 25 6 = 45 := (skip q0 z0 21 6 rfl rfl).trans ((skip q1 g.isLt 18 6 rfl rfl).trans ((skip q2 b.isLt 12 6 rfl rfl).trans ((skip q3 a.isLt 6 6 rfl rfl).trans ((skip q4 d.isLt 0 6 rfl rfl).trans (low q5 z5 rfl)))))
  have e0 : bitsAt w 0 4 = 3 := low q0 z0 rfl
  have f0 : fieldAt w 19 6 = d := fieldAt_eq ((skip q0 z0 15 6 rfl rfl).trans ((skip q1 g.isLt 12 6 rfl rfl).trans ((skip q2 b.isLt 6 6 rfl rfl).trans ((skip q3 a.isLt 0 6 rfl rfl).trans (low q4 d.isLt rfl)))))
  have f1 : fieldAt w 13 6 = a := fieldAt_eq ((skip q0 z0 9 6 rfl rfl).trans ((skip q1 g.isLt 6 6 rfl rfl).trans ((skip q2 b.isLt 0 6 rfl rfl).trans (low q3 a.isLt rfl))))
  have f2 : fieldAt w 7 6 = b := fieldAt_eq ((skip q0 z0 3 6 rfl rfl).trans ((skip q1 g.isLt 0 6 rfl rfl).trans (low q2 b.isLt rfl)))
  have f3 : fieldAt w 4 3 = g := fieldAt_eq ((skip q0 z0 0 3 rfl rfl).trans (low q1 g.isLt rfl))
  refine ⟨Nat.lt_of_lt_of_le (bound q0 z0 (bound q1 g.isLt (bound q2 b.isLt (bound q3 a.isLt (bound q4 d.isLt (bound q5 z5 (Nat.lt_succ_of_le hk) rfl) rfl) rfl) rfl) rfl) rfl) (Nat.le_of_ble_eq_true rfl), (skip q0 z0 27 1 rfl rfl).trans ((skip q1 g.isLt 24 1 rfl rfl).trans ((skip q2 b.isLt 18 1 rfl rfl).trans ((skip q3 a.isLt 12 1 rfl rfl).trans ((skip q4 d.isLt 6 1 rfl rfl).trans ((skip q5 z5 0 1 rfl rfl).trans (top hk)))))), ?_⟩
  rw [major2D w m0]
  simp [decodeMajor2D, e0, f0, f1, f2, f3]

theorem vfmaxF16x2 (d : BitVec 6) (a : BitVec 6) (b : BitVec 6) (g : BitVec 3) : Statement (.vfmaxF16x2 d a b g) := by
  refine of_fields rfl ?_
  intro k hk w hw
  obtain ⟨r5, q5⟩ : ∃ r, r = 45 + 64 * k := ⟨_, rfl⟩
  obtain ⟨r4, q4⟩ : ∃ r, r = d.toNat + 64 * r5 := ⟨_, rfl⟩
  obtain ⟨r3, q3⟩ : ∃ r, r = a.toNat + 64 * r4 := ⟨_, rfl⟩
  obtain ⟨r2, q2⟩ : ∃ r, r = b.toNat + 64 * r3 := ⟨_, rfl⟩
  obtain ⟨r1, q1⟩ : ∃ r, r = g.toNat + 8 * r2 := ⟨_, rfl⟩
  have q0 : w = 4 + 16 * r1 := by simp only [assemble] at hw; omega
  have z0 : 4 < 2 ^ 4 := Nat.le_of_ble_eq_true rfl
  have z5 : 45 < 2 ^ 6 := Nat.le_of_ble_eq_true rfl
  have m0 : bitsAt w 25 6 = 45 := (skip q0 z0 21 6 rfl rfl).trans ((skip q1 g.isLt 18 6 rfl rfl).trans ((skip q2 b.isLt 12 6 rfl rfl).trans ((skip q3 a.isLt 6 6 rfl rfl).trans ((skip q4 d.isLt 0 6 rfl rfl).trans (low q5 z5 rfl)))))
  have e0 : bitsAt w 0 4 = 4 := low q0 z0 rfl
  have f0 : fieldAt w 19 6 = d := fieldAt_eq ((skip q0 z0 15 6 rfl rfl).trans ((skip q1 g.isLt 12 6 rfl rfl).trans ((skip q2 b.isLt 6 6 rfl rfl).trans ((skip q3 a.isLt 0 6 rfl rfl).trans (low q4 d.isLt rfl)))))
  have f1 : fieldAt w 13 6 = a := fieldAt_eq ((skip q0 z0 9 6 rfl rfl).trans ((skip q1 g.isLt 6 6 rfl rfl).trans ((skip q2 b.isLt 0 6 rfl rfl).trans (low q3 a.isLt rfl))))
  have f2 : fieldAt w 7 6 = b := fieldAt_eq ((skip q0 z0 3 6 rfl rfl).trans ((skip q1 g.isLt 0 6 rfl rfl).trans (low q2 b.isLt rfl)))
  have f3 : fieldAt w 4 3 = g := fieldAt_eq ((skip q0 z0 0 3 rfl rfl).trans (low q1 g.isLt rfl))
  refine ⟨Nat.lt_of_lt_of_le (bound q0 z0 (bound q1 g.isLt (bound q2 b.isLt (bound q3 a.isLt (bound q4 d.isLt (bound q5 z5 (Nat.lt_succ_of_le hk) rfl) rfl) rfl) rfl) rfl) rfl) (Nat.le_of_ble_eq_true rfl), (skip q0 z0 27 1 rfl rfl).trans ((skip q1 g.isLt 24 1 rfl rfl).trans ((skip q2 b.isLt 18 1 rfl rfl).trans ((skip q3 a.isLt 12 1 rfl rfl).trans ((skip q4 d.isLt 6 1 rfl rfl).trans ((skip q5 z5 0 1 rfl rfl).trans (top hk)))))), ?_⟩
  rw [major2D w m0]
  simp [decodeMajor2D, e0, f0, f1, f2, f3]

theorem vfclassF16x2 (d : BitVec 6) (a : BitVec 6) (g : BitVec 3) : Statement (.vfclassF16x2 d a g) := by
  refine of_fields rfl ?_
  intro k hk w hw
  obtain ⟨r5, q5⟩ : ∃ r, r = 45 + 64 * k := ⟨_, rfl⟩
  obtain ⟨r4, q4⟩ : ∃ r, r = d.toNat + 64 * r5 := ⟨_, rfl⟩
  obtain ⟨r3, q3⟩ : ∃ r, r = a.toNat + 64 * r4 := ⟨_, rfl⟩
  obtain ⟨r2, q2⟩ : ∃ r, r = 0 + 64 * r3 := ⟨_, rfl⟩
  obtain ⟨r1, q1⟩ : ∃ r, r = g.toNat + 8 * r2 := ⟨_, rfl⟩
  have q0 : w = 14 + 16 * r1 := by simp only [assemble] at hw; omega
  have z0 : 14 < 2 ^ 4 := Nat.le_of_ble_eq_true rfl
  have z2 : 0 < 2 ^ 6 := Nat.le_of_ble_eq_true rfl
  have z5 : 45 < 2 ^ 6 := Nat.le_of_ble_eq_true rfl
  have m0 : bitsAt w 25 6 = 45 := (skip q0 z0 21 6 rfl rfl).trans ((skip q1 g.isLt 18 6 rfl rfl).trans ((skip q2 z2 12 6 rfl rfl).trans ((skip q3 a.isLt 6 6 rfl rfl).trans ((skip q4 d.isLt 0 6 rfl rfl).trans (low q5 z5 rfl)))))
  have e0 : bitsAt w 0 4 = 14 := low q0 z0 rfl
  have e1 : bitsAt w 7 6 = 0 := (skip q0 z0 3 6 rfl rfl).trans ((skip q1 g.isLt 0 6 rfl rfl).trans (low q2 z2 rfl))
  have f0 : fieldAt w 19 6 = d := fieldAt_eq ((skip q0 z0 15 6 rfl rfl).trans ((skip q1 g.isLt 12 6 rfl rfl).trans ((skip q2 z2 6 6 rfl rfl).trans ((skip q3 a.isLt 0 6 rfl rfl).trans (low q4 d.isLt rfl)))))
  have f1 : fieldAt w 13 6 = a := fieldAt_eq ((skip q0 z0 9 6 rfl rfl).trans ((skip q1 g.isLt 6 6 rfl rfl).trans ((skip q2 z2 0 6 rfl rfl).trans (low q3 a.isLt rfl))))
  have f2 : fieldAt w 4 3 = g := fieldAt_eq ((skip q0 z0 0 3 rfl rfl).trans (low q1 g.isLt rfl))
  refine ⟨Nat.lt_of_lt_of_le (bound q0 z0 (bound q1 g.isLt (bound q2 z2 (bound q3 a.isLt (bound q4 d.isLt (bound q5 z5 (Nat.lt_succ_of_le hk) rfl) rfl) rfl) rfl) rfl) rfl) (Nat.le_of_ble_eq_true rfl), (skip q0 z0 27 1 rfl rfl).trans ((skip q1 g.isLt 24 1 rfl rfl).trans ((skip q2 z2 18 1 rfl rfl).trans ((skip q3 a.isLt 12 1 rfl rfl).trans ((skip q4 d.isLt 6 1 rfl rfl).trans ((skip q5 z5 0 1 rfl rfl).trans (top hk)))))), ?_⟩
  rw [major2D w m0]
  simp [decodeMajor2D, e0, e1, f0, f1, f2]

theorem vfcvtF16x2 (d : BitVec 6) (a : BitVec 6) (kk : BitVec 6) (g : BitVec 3) : Statement (.vfcvtF16x2 d a kk g) := by
  refine of_fields rfl ?_
  intro k hk w hw
  obtain ⟨r5, q5⟩ : ∃ r, r = 45 + 64 * k := ⟨_, rfl⟩
  obtain ⟨r4, q4⟩ : ∃ r, r = d.toNat + 64 * r5 := ⟨_, rfl⟩
  obtain ⟨r3, q3⟩ : ∃ r, r = a.toNat + 64 * r4 := ⟨_, rfl⟩
  obtain ⟨r2, q2⟩ : ∃ r, r = kk.toNat + 64 * r3 := ⟨_, rfl⟩
  obtain ⟨r1, q1⟩ : ∃ r, r = g.toNat + 8 * r2 := ⟨_, rfl⟩
  have q0 : w = 15 + 16 * r1 := by simp only [assemble] at hw; omega
  have z0 : 15 < 2 ^ 4 := Nat.le_of_ble_eq_true rfl
  have z5 : 45 < 2 ^ 6 := Nat.le_of_ble_eq_true rfl
  have m0 : bitsAt w 25 6 = 45 := (skip q0 z0 21 6 rfl rfl).trans ((skip q1 g.isLt 18 6 rfl rfl).trans ((skip q2 kk.isLt 12 6 rfl rfl).trans ((skip q3 a.isLt 6 6 rfl rfl).trans ((skip q4 d.isLt 0 6 rfl rfl).trans (low q5 z5 rfl)))))
  have e0 : bitsAt w 0 4 = 15 := low q0 z0 rfl
  have f0 : fieldAt w 19 6 = d := fieldAt_eq ((skip q0 z0 15 6 rfl rfl).trans ((skip q1 g.isLt 12 6 rfl rfl).trans ((skip q2 kk.isLt 6 6 rfl rfl).trans ((skip q3 a.isLt 0 6 rfl rfl).trans (low q4 d.isLt rfl)))))
  have f1 : fieldAt w 13 6 = a := fieldAt_eq ((skip q0 z0 9 6 rfl rfl).trans ((skip q1 g.isLt 6 6 rfl rfl).trans ((skip q2 kk.isLt 0 6 rfl rfl).trans (low q3 a.isLt rfl))))
  have f2 : fieldAt w 7 6 = kk := fieldAt_eq ((skip q0 z0 3 6 rfl rfl).trans ((skip q1 g.isLt 0 6 rfl rfl).trans (low q2 kk.isLt rfl)))
  have f3 : fieldAt w 4 3 = g := fieldAt_eq ((skip q0 z0 0 3 rfl rfl).trans (low q1 g.isLt rfl))
  refine ⟨Nat.lt_of_lt_of_le (bound q0 z0 (bound q1 g.isLt (bound q2 kk.isLt (bound q3 a.isLt (bound q4 d.isLt (bound q5 z5 (Nat.lt_succ_of_le hk) rfl) rfl) rfl) rfl) rfl) rfl) (Nat.le_of_ble_eq_true rfl), (skip q0 z0 27 1 rfl rfl).trans ((skip q1 g.isLt 24 1 rfl rfl).trans ((skip q2 kk.isLt 18 1 rfl rfl).trans ((skip q3 a.isLt 12 1 rfl rfl).trans ((skip q4 d.isLt 6 1 rfl rfl).trans ((skip q5 z5 0 1 rfl rfl).trans (top hk)))))), ?_⟩
  rw [major2D w m0]
  simp [decodeMajor2D, e0, f0, f1, f2, f3]

theorem vfaddBf16x2 (d : BitVec 6) (a : BitVec 6) (b : BitVec 6) (g : BitVec 3) : Statement (.vfaddBf16x2 d a b g) := by
  refine of_fields rfl ?_
  intro k hk w hw
  obtain ⟨r5, q5⟩ : ∃ r, r = 46 + 64 * k := ⟨_, rfl⟩
  obtain ⟨r4, q4⟩ : ∃ r, r = d.toNat + 64 * r5 := ⟨_, rfl⟩
  obtain ⟨r3, q3⟩ : ∃ r, r = a.toNat + 64 * r4 := ⟨_, rfl⟩
  obtain ⟨r2, q2⟩ : ∃ r, r = b.toNat + 64 * r3 := ⟨_, rfl⟩
  obtain ⟨r1, q1⟩ : ∃ r, r = g.toNat + 8 * r2 := ⟨_, rfl⟩
  have q0 : w = 0 + 16 * r1 := by simp only [assemble] at hw; omega
  have z0 : 0 < 2 ^ 4 := Nat.le_of_ble_eq_true rfl
  have z5 : 46 < 2 ^ 6 := Nat.le_of_ble_eq_true rfl
  have m0 : bitsAt w 25 6 = 46 := (skip q0 z0 21 6 rfl rfl).trans ((skip q1 g.isLt 18 6 rfl rfl).trans ((skip q2 b.isLt 12 6 rfl rfl).trans ((skip q3 a.isLt 6 6 rfl rfl).trans ((skip q4 d.isLt 0 6 rfl rfl).trans (low q5 z5 rfl)))))
  have e0 : bitsAt w 0 4 = 0 := low q0 z0 rfl
  have f0 : fieldAt w 19 6 = d := fieldAt_eq ((skip q0 z0 15 6 rfl rfl).trans ((skip q1 g.isLt 12 6 rfl rfl).trans ((skip q2 b.isLt 6 6 rfl rfl).trans ((skip q3 a.isLt 0 6 rfl rfl).trans (low q4 d.isLt rfl)))))
  have f1 : fieldAt w 13 6 = a := fieldAt_eq ((skip q0 z0 9 6 rfl rfl).trans ((skip q1 g.isLt 6 6 rfl rfl).trans ((skip q2 b.isLt 0 6 rfl rfl).trans (low q3 a.isLt rfl))))
  have f2 : fieldAt w 7 6 = b := fieldAt_eq ((skip q0 z0 3 6 rfl rfl).trans ((skip q1 g.isLt 0 6 rfl rfl).trans (low q2 b.isLt rfl)))
  have f3 : fieldAt w 4 3 = g := fieldAt_eq ((skip q0 z0 0 3 rfl rfl).trans (low q1 g.isLt rfl))
  refine ⟨Nat.lt_of_lt_of_le (bound q0 z0 (bound q1 g.isLt (bound q2 b.isLt (bound q3 a.isLt (bound q4 d.isLt (bound q5 z5 (Nat.lt_succ_of_le hk) rfl) rfl) rfl) rfl) rfl) rfl) (Nat.le_of_ble_eq_true rfl), (skip q0 z0 27 1 rfl rfl).trans ((skip q1 g.isLt 24 1 rfl rfl).trans ((skip q2 b.isLt 18 1 rfl rfl).trans ((skip q3 a.isLt 12 1 rfl rfl).trans ((skip q4 d.isLt 6 1 rfl rfl).trans ((skip q5 z5 0 1 rfl rfl).trans (top hk)))))), ?_⟩
  rw [major2E w m0]
  simp [decodeMajor2E, e0, f0, f1, f2, f3]

theorem vfsubBf16x2 (d : BitVec 6) (a : BitVec 6) (b : BitVec 6) (g : BitVec 3) : Statement (.vfsubBf16x2 d a b g) := by
  refine of_fields rfl ?_
  intro k hk w hw
  obtain ⟨r5, q5⟩ : ∃ r, r = 46 + 64 * k := ⟨_, rfl⟩
  obtain ⟨r4, q4⟩ : ∃ r, r = d.toNat + 64 * r5 := ⟨_, rfl⟩
  obtain ⟨r3, q3⟩ : ∃ r, r = a.toNat + 64 * r4 := ⟨_, rfl⟩
  obtain ⟨r2, q2⟩ : ∃ r, r = b.toNat + 64 * r3 := ⟨_, rfl⟩
  obtain ⟨r1, q1⟩ : ∃ r, r = g.toNat + 8 * r2 := ⟨_, rfl⟩
  have q0 : w = 1 + 16 * r1 := by simp only [assemble] at hw; omega
  have z0 : 1 < 2 ^ 4 := Nat.le_of_ble_eq_true rfl
  have z5 : 46 < 2 ^ 6 := Nat.le_of_ble_eq_true rfl
  have m0 : bitsAt w 25 6 = 46 := (skip q0 z0 21 6 rfl rfl).trans ((skip q1 g.isLt 18 6 rfl rfl).trans ((skip q2 b.isLt 12 6 rfl rfl).trans ((skip q3 a.isLt 6 6 rfl rfl).trans ((skip q4 d.isLt 0 6 rfl rfl).trans (low q5 z5 rfl)))))
  have e0 : bitsAt w 0 4 = 1 := low q0 z0 rfl
  have f0 : fieldAt w 19 6 = d := fieldAt_eq ((skip q0 z0 15 6 rfl rfl).trans ((skip q1 g.isLt 12 6 rfl rfl).trans ((skip q2 b.isLt 6 6 rfl rfl).trans ((skip q3 a.isLt 0 6 rfl rfl).trans (low q4 d.isLt rfl)))))
  have f1 : fieldAt w 13 6 = a := fieldAt_eq ((skip q0 z0 9 6 rfl rfl).trans ((skip q1 g.isLt 6 6 rfl rfl).trans ((skip q2 b.isLt 0 6 rfl rfl).trans (low q3 a.isLt rfl))))
  have f2 : fieldAt w 7 6 = b := fieldAt_eq ((skip q0 z0 3 6 rfl rfl).trans ((skip q1 g.isLt 0 6 rfl rfl).trans (low q2 b.isLt rfl)))
  have f3 : fieldAt w 4 3 = g := fieldAt_eq ((skip q0 z0 0 3 rfl rfl).trans (low q1 g.isLt rfl))
  refine ⟨Nat.lt_of_lt_of_le (bound q0 z0 (bound q1 g.isLt (bound q2 b.isLt (bound q3 a.isLt (bound q4 d.isLt (bound q5 z5 (Nat.lt_succ_of_le hk) rfl) rfl) rfl) rfl) rfl) rfl) (Nat.le_of_ble_eq_true rfl), (skip q0 z0 27 1 rfl rfl).trans ((skip q1 g.isLt 24 1 rfl rfl).trans ((skip q2 b.isLt 18 1 rfl rfl).trans ((skip q3 a.isLt 12 1 rfl rfl).trans ((skip q4 d.isLt 6 1 rfl rfl).trans ((skip q5 z5 0 1 rfl rfl).trans (top hk)))))), ?_⟩
  rw [major2E w m0]
  simp [decodeMajor2E, e0, f0, f1, f2, f3]

theorem vfmulBf16x2 (d : BitVec 6) (a : BitVec 6) (b : BitVec 6) (g : BitVec 3) : Statement (.vfmulBf16x2 d a b g) := by
  refine of_fields rfl ?_
  intro k hk w hw
  obtain ⟨r5, q5⟩ : ∃ r, r = 46 + 64 * k := ⟨_, rfl⟩
  obtain ⟨r4, q4⟩ : ∃ r, r = d.toNat + 64 * r5 := ⟨_, rfl⟩
  obtain ⟨r3, q3⟩ : ∃ r, r = a.toNat + 64 * r4 := ⟨_, rfl⟩
  obtain ⟨r2, q2⟩ : ∃ r, r = b.toNat + 64 * r3 := ⟨_, rfl⟩
  obtain ⟨r1, q1⟩ : ∃ r, r = g.toNat + 8 * r2 := ⟨_, rfl⟩
  have q0 : w = 2 + 16 * r1 := by simp only [assemble] at hw; omega
  have z0 : 2 < 2 ^ 4 := Nat.le_of_ble_eq_true rfl
  have z5 : 46 < 2 ^ 6 := Nat.le_of_ble_eq_true rfl
  have m0 : bitsAt w 25 6 = 46 := (skip q0 z0 21 6 rfl rfl).trans ((skip q1 g.isLt 18 6 rfl rfl).trans ((skip q2 b.isLt 12 6 rfl rfl).trans ((skip q3 a.isLt 6 6 rfl rfl).trans ((skip q4 d.isLt 0 6 rfl rfl).trans (low q5 z5 rfl)))))
  have e0 : bitsAt w 0 4 = 2 := low q0 z0 rfl
  have f0 : fieldAt w 19 6 = d := fieldAt_eq ((skip q0 z0 15 6 rfl rfl).trans ((skip q1 g.isLt 12 6 rfl rfl).trans ((skip q2 b.isLt 6 6 rfl rfl).trans ((skip q3 a.isLt 0 6 rfl rfl).trans (low q4 d.isLt rfl)))))
  have f1 : fieldAt w 13 6 = a := fieldAt_eq ((skip q0 z0 9 6 rfl rfl).trans ((skip q1 g.isLt 6 6 rfl rfl).trans ((skip q2 b.isLt 0 6 rfl rfl).trans (low q3 a.isLt rfl))))
  have f2 : fieldAt w 7 6 = b := fieldAt_eq ((skip q0 z0 3 6 rfl rfl).trans ((skip q1 g.isLt 0 6 rfl rfl).trans (low q2 b.isLt rfl)))
  have f3 : fieldAt w 4 3 = g := fieldAt_eq ((skip q0 z0 0 3 rfl rfl).trans (low q1 g.isLt rfl))
  refine ⟨Nat.lt_of_lt_of_le (bound q0 z0 (bound q1 g.isLt (bound q2 b.isLt (bound q3 a.isLt (bound q4 d.isLt (bound q5 z5 (Nat.lt_succ_of_le hk) rfl) rfl) rfl) rfl) rfl) rfl) (Nat.le_of_ble_eq_true rfl), (skip q0 z0 27 1 rfl rfl).trans ((skip q1 g.isLt 24 1 rfl rfl).trans ((skip q2 b.isLt 18 1 rfl rfl).trans ((skip q3 a.isLt 12 1 rfl rfl).trans ((skip q4 d.isLt 6 1 rfl rfl).trans ((skip q5 z5 0 1 rfl rfl).trans (top hk)))))), ?_⟩
  rw [major2E w m0]
  simp [decodeMajor2E, e0, f0, f1, f2, f3]

theorem vfminBf16x2 (d : BitVec 6) (a : BitVec 6) (b : BitVec 6) (g : BitVec 3) : Statement (.vfminBf16x2 d a b g) := by
  refine of_fields rfl ?_
  intro k hk w hw
  obtain ⟨r5, q5⟩ : ∃ r, r = 46 + 64 * k := ⟨_, rfl⟩
  obtain ⟨r4, q4⟩ : ∃ r, r = d.toNat + 64 * r5 := ⟨_, rfl⟩
  obtain ⟨r3, q3⟩ : ∃ r, r = a.toNat + 64 * r4 := ⟨_, rfl⟩
  obtain ⟨r2, q2⟩ : ∃ r, r = b.toNat + 64 * r3 := ⟨_, rfl⟩
  obtain ⟨r1, q1⟩ : ∃ r, r = g.toNat + 8 * r2 := ⟨_, rfl⟩
  have q0 : w = 3 + 16 * r1 := by simp only [assemble] at hw; omega
  have z0 : 3 < 2 ^ 4 := Nat.le_of_ble_eq_true rfl
  have z5 : 46 < 2 ^ 6 := Nat.le_of_ble_eq_true rfl
  have m0 : bitsAt w 25 6 = 46 := (skip q0 z0 21 6 rfl rfl).trans ((skip q1 g.isLt 18 6 rfl rfl).trans ((skip q2 b.isLt 12 6 rfl rfl).trans ((skip q3 a.isLt 6 6 rfl rfl).trans ((skip q4 d.isLt 0 6 rfl rfl).trans (low q5 z5 rfl)))))
  have e0 : bitsAt w 0 4 = 3 := low q0 z0 rfl
  have f0 : fieldAt w 19 6 = d := fieldAt_eq ((skip q0 z0 15 6 rfl rfl).trans ((skip q1 g.isLt 12 6 rfl rfl).trans ((skip q2 b.isLt 6 6 rfl rfl).trans ((skip q3 a.isLt 0 6 rfl rfl).trans (low q4 d.isLt rfl)))))
  have f1 : fieldAt w 13 6 = a := fieldAt_eq ((skip q0 z0 9 6 rfl rfl).trans ((skip q1 g.isLt 6 6 rfl rfl).trans ((skip q2 b.isLt 0 6 rfl rfl).trans (low q3 a.isLt rfl))))
  have f2 : fieldAt w 7 6 = b := fieldAt_eq ((skip q0 z0 3 6 rfl rfl).trans ((skip q1 g.isLt 0 6 rfl rfl).trans (low q2 b.isLt rfl)))
  have f3 : fieldAt w 4 3 = g := fieldAt_eq ((skip q0 z0 0 3 rfl rfl).trans (low q1 g.isLt rfl))
  refine ⟨Nat.lt_of_lt_of_le (bound q0 z0 (bound q1 g.isLt (bound q2 b.isLt (bound q3 a.isLt (bound q4 d.isLt (bound q5 z5 (Nat.lt_succ_of_le hk) rfl) rfl) rfl) rfl) rfl) rfl) (Nat.le_of_ble_eq_true rfl), (skip q0 z0 27 1 rfl rfl).trans ((skip q1 g.isLt 24 1 rfl rfl).trans ((skip q2 b.isLt 18 1 rfl rfl).trans ((skip q3 a.isLt 12 1 rfl rfl).trans ((skip q4 d.isLt 6 1 rfl rfl).trans ((skip q5 z5 0 1 rfl rfl).trans (top hk)))))), ?_⟩
  rw [major2E w m0]
  simp [decodeMajor2E, e0, f0, f1, f2, f3]

theorem vfmaxBf16x2 (d : BitVec 6) (a : BitVec 6) (b : BitVec 6) (g : BitVec 3) : Statement (.vfmaxBf16x2 d a b g) := by
  refine of_fields rfl ?_
  intro k hk w hw
  obtain ⟨r5, q5⟩ : ∃ r, r = 46 + 64 * k := ⟨_, rfl⟩
  obtain ⟨r4, q4⟩ : ∃ r, r = d.toNat + 64 * r5 := ⟨_, rfl⟩
  obtain ⟨r3, q3⟩ : ∃ r, r = a.toNat + 64 * r4 := ⟨_, rfl⟩
  obtain ⟨r2, q2⟩ : ∃ r, r = b.toNat + 64 * r3 := ⟨_, rfl⟩
  obtain ⟨r1, q1⟩ : ∃ r, r = g.toNat + 8 * r2 := ⟨_, rfl⟩
  have q0 : w = 4 + 16 * r1 := by simp only [assemble] at hw; omega
  have z0 : 4 < 2 ^ 4 := Nat.le_of_ble_eq_true rfl
  have z5 : 46 < 2 ^ 6 := Nat.le_of_ble_eq_true rfl
  have m0 : bitsAt w 25 6 = 46 := (skip q0 z0 21 6 rfl rfl).trans ((skip q1 g.isLt 18 6 rfl rfl).trans ((skip q2 b.isLt 12 6 rfl rfl).trans ((skip q3 a.isLt 6 6 rfl rfl).trans ((skip q4 d.isLt 0 6 rfl rfl).trans (low q5 z5 rfl)))))
  have e0 : bitsAt w 0 4 = 4 := low q0 z0 rfl
  have f0 : fieldAt w 19 6 = d := fieldAt_eq ((skip q0 z0 15 6 rfl rfl).trans ((skip q1 g.isLt 12 6 rfl rfl).trans ((skip q2 b.isLt 6 6 rfl rfl).trans ((skip q3 a.isLt 0 6 rfl rfl).trans (low q4 d.isLt rfl)))))
  have f1 : fieldAt w 13 6 = a := fieldAt_eq ((skip q0 z0 9 6 rfl rfl).trans ((skip q1 g.isLt 6 6 rfl rfl).trans ((skip q2 b.isLt 0 6 rfl rfl).trans (low q3 a.isLt rfl))))
  have f2 : fieldAt w 7 6 = b := fieldAt_eq ((skip q0 z0 3 6 rfl rfl).trans ((skip q1 g.isLt 0 6 rfl rfl).trans (low q2 b.isLt rfl)))
  have f3 : fieldAt w 4 3 = g := fieldAt_eq ((skip q0 z0 0 3 rfl rfl).trans (low q1 g.isLt rfl))
  refine ⟨Nat.lt_of_lt_of_le (bound q0 z0 (bound q1 g.isLt (bound q2 b.isLt (bound q3 a.isLt (bound q4 d.isLt (bound q5 z5 (Nat.lt_succ_of_le hk) rfl) rfl) rfl) rfl) rfl) rfl) (Nat.le_of_ble_eq_true rfl), (skip q0 z0 27 1 rfl rfl).trans ((skip q1 g.isLt 24 1 rfl rfl).trans ((skip q2 b.isLt 18 1 rfl rfl).trans ((skip q3 a.isLt 12 1 rfl rfl).trans ((skip q4 d.isLt 6 1 rfl rfl).trans ((skip q5 z5 0 1 rfl rfl).trans (top hk)))))), ?_⟩
  rw [major2E w m0]
  simp [decodeMajor2E, e0, f0, f1, f2, f3]

theorem vfclassBf16x2 (d : BitVec 6) (a : BitVec 6) (g : BitVec 3) : Statement (.vfclassBf16x2 d a g) := by
  refine of_fields rfl ?_
  intro k hk w hw
  obtain ⟨r5, q5⟩ : ∃ r, r = 46 + 64 * k := ⟨_, rfl⟩
  obtain ⟨r4, q4⟩ : ∃ r, r = d.toNat + 64 * r5 := ⟨_, rfl⟩
  obtain ⟨r3, q3⟩ : ∃ r, r = a.toNat + 64 * r4 := ⟨_, rfl⟩
  obtain ⟨r2, q2⟩ : ∃ r, r = 0 + 64 * r3 := ⟨_, rfl⟩
  obtain ⟨r1, q1⟩ : ∃ r, r = g.toNat + 8 * r2 := ⟨_, rfl⟩
  have q0 : w = 14 + 16 * r1 := by simp only [assemble] at hw; omega
  have z0 : 14 < 2 ^ 4 := Nat.le_of_ble_eq_true rfl
  have z2 : 0 < 2 ^ 6 := Nat.le_of_ble_eq_true rfl
  have z5 : 46 < 2 ^ 6 := Nat.le_of_ble_eq_true rfl
  have m0 : bitsAt w 25 6 = 46 := (skip q0 z0 21 6 rfl rfl).trans ((skip q1 g.isLt 18 6 rfl rfl).trans ((skip q2 z2 12 6 rfl rfl).trans ((skip q3 a.isLt 6 6 rfl rfl).trans ((skip q4 d.isLt 0 6 rfl rfl).trans (low q5 z5 rfl)))))
  have e0 : bitsAt w 0 4 = 14 := low q0 z0 rfl
  have e1 : bitsAt w 7 6 = 0 := (skip q0 z0 3 6 rfl rfl).trans ((skip q1 g.isLt 0 6 rfl rfl).trans (low q2 z2 rfl))
  have f0 : fieldAt w 19 6 = d := fieldAt_eq ((skip q0 z0 15 6 rfl rfl).trans ((skip q1 g.isLt 12 6 rfl rfl).trans ((skip q2 z2 6 6 rfl rfl).trans ((skip q3 a.isLt 0 6 rfl rfl).trans (low q4 d.isLt rfl)))))
  have f1 : fieldAt w 13 6 = a := fieldAt_eq ((skip q0 z0 9 6 rfl rfl).trans ((skip q1 g.isLt 6 6 rfl rfl).trans ((skip q2 z2 0 6 rfl rfl).trans (low q3 a.isLt rfl))))
  have f2 : fieldAt w 4 3 = g := fieldAt_eq ((skip q0 z0 0 3 rfl rfl).trans (low q1 g.isLt rfl))
  refine ⟨Nat.lt_of_lt_of_le (bound q0 z0 (bound q1 g.isLt (bound q2 z2 (bound q3 a.isLt (bound q4 d.isLt (bound q5 z5 (Nat.lt_succ_of_le hk) rfl) rfl) rfl) rfl) rfl) rfl) (Nat.le_of_ble_eq_true rfl), (skip q0 z0 27 1 rfl rfl).trans ((skip q1 g.isLt 24 1 rfl rfl).trans ((skip q2 z2 18 1 rfl rfl).trans ((skip q3 a.isLt 12 1 rfl rfl).trans ((skip q4 d.isLt 6 1 rfl rfl).trans ((skip q5 z5 0 1 rfl rfl).trans (top hk)))))), ?_⟩
  rw [major2E w m0]
  simp [decodeMajor2E, e0, e1, f0, f1, f2]

theorem vfcvtBf16x2 (d : BitVec 6) (a : BitVec 6) (kk : BitVec 6) (g : BitVec 3) : Statement (.vfcvtBf16x2 d a kk g) := by
  refine of_fields rfl ?_
  intro k hk w hw
  obtain ⟨r5, q5⟩ : ∃ r, r = 46 + 64 * k := ⟨_, rfl⟩
  obtain ⟨r4, q4⟩ : ∃ r, r = d.toNat + 64 * r5 := ⟨_, rfl⟩
  obtain ⟨r3, q3⟩ : ∃ r, r = a.toNat + 64 * r4 := ⟨_, rfl⟩
  obtain ⟨r2, q2⟩ : ∃ r, r = kk.toNat + 64 * r3 := ⟨_, rfl⟩
  obtain ⟨r1, q1⟩ : ∃ r, r = g.toNat + 8 * r2 := ⟨_, rfl⟩
  have q0 : w = 15 + 16 * r1 := by simp only [assemble] at hw; omega
  have z0 : 15 < 2 ^ 4 := Nat.le_of_ble_eq_true rfl
  have z5 : 46 < 2 ^ 6 := Nat.le_of_ble_eq_true rfl
  have m0 : bitsAt w 25 6 = 46 := (skip q0 z0 21 6 rfl rfl).trans ((skip q1 g.isLt 18 6 rfl rfl).trans ((skip q2 kk.isLt 12 6 rfl rfl).trans ((skip q3 a.isLt 6 6 rfl rfl).trans ((skip q4 d.isLt 0 6 rfl rfl).trans (low q5 z5 rfl)))))
  have e0 : bitsAt w 0 4 = 15 := low q0 z0 rfl
  have f0 : fieldAt w 19 6 = d := fieldAt_eq ((skip q0 z0 15 6 rfl rfl).trans ((skip q1 g.isLt 12 6 rfl rfl).trans ((skip q2 kk.isLt 6 6 rfl rfl).trans ((skip q3 a.isLt 0 6 rfl rfl).trans (low q4 d.isLt rfl)))))
  have f1 : fieldAt w 13 6 = a := fieldAt_eq ((skip q0 z0 9 6 rfl rfl).trans ((skip q1 g.isLt 6 6 rfl rfl).trans ((skip q2 kk.isLt 0 6 rfl rfl).trans (low q3 a.isLt rfl))))
  have f2 : fieldAt w 7 6 = kk := fieldAt_eq ((skip q0 z0 3 6 rfl rfl).trans ((skip q1 g.isLt 0 6 rfl rfl).trans (low q2 kk.isLt rfl)))
  have f3 : fieldAt w 4 3 = g := fieldAt_eq ((skip q0 z0 0 3 rfl rfl).trans (low q1 g.isLt rfl))
  refine ⟨Nat.lt_of_lt_of_le (bound q0 z0 (bound q1 g.isLt (bound q2 kk.isLt (bound q3 a.isLt (bound q4 d.isLt (bound q5 z5 (Nat.lt_succ_of_le hk) rfl) rfl) rfl) rfl) rfl) rfl) (Nat.le_of_ble_eq_true rfl), (skip q0 z0 27 1 rfl rfl).trans ((skip q1 g.isLt 24 1 rfl rfl).trans ((skip q2 kk.isLt 18 1 rfl rfl).trans ((skip q3 a.isLt 12 1 rfl rfl).trans ((skip q4 d.isLt 6 1 rfl rfl).trans ((skip q5 z5 0 1 rfl rfl).trans (top hk)))))), ?_⟩
  rw [major2E w m0]
  simp [decodeMajor2E, e0, f0, f1, f2, f3]

theorem vfmaF32 (d : BitVec 6) (a : BitVec 6) (b : BitVec 6) (e : BitVec 6) (nn : BitVec 1) : Statement (.vfmaF32 d a b e nn) := by
  refine of_fields rfl ?_
  intro k hk w hw
  obtain ⟨r5, q5⟩ : ∃ r, r = 47 + 64 * k := ⟨_, rfl⟩
  obtain ⟨r4, q4⟩ : ∃ r, r = d.toNat + 64 * r5 := ⟨_, rfl⟩
  obtain ⟨r3, q3⟩ : ∃ r, r = a.toNat + 64 * r4 := ⟨_, rfl⟩
  obtain ⟨r2, q2⟩ : ∃ r, r = b.toNat + 64 * r3 := ⟨_, rfl⟩
  obtain ⟨r1, q1⟩ : ∃ r, r = e.toNat + 64 * r2 := ⟨_, rfl⟩
  have q0 : w = nn.toNat + 2 * r1 := by simp only [assemble] at hw; omega
  have z5 : 47 < 2 ^ 6 := Nat.le_of_ble_eq_true rfl
  have m0 : bitsAt w 25 6 = 47 := (skip q0 nn.isLt 24 6 rfl rfl).trans ((skip q1 e.isLt 18 6 rfl rfl).trans ((skip q2 b.isLt 12 6 rfl rfl).trans ((skip q3 a.isLt 6 6 rfl rfl).trans ((skip q4 d.isLt 0 6 rfl rfl).trans (low q5 z5 rfl)))))
  have f0 : fieldAt w 19 6 = d := fieldAt_eq ((skip q0 nn.isLt 18 6 rfl rfl).trans ((skip q1 e.isLt 12 6 rfl rfl).trans ((skip q2 b.isLt 6 6 rfl rfl).trans ((skip q3 a.isLt 0 6 rfl rfl).trans (low q4 d.isLt rfl)))))
  have f1 : fieldAt w 13 6 = a := fieldAt_eq ((skip q0 nn.isLt 12 6 rfl rfl).trans ((skip q1 e.isLt 6 6 rfl rfl).trans ((skip q2 b.isLt 0 6 rfl rfl).trans (low q3 a.isLt rfl))))
  have f2 : fieldAt w 7 6 = b := fieldAt_eq ((skip q0 nn.isLt 6 6 rfl rfl).trans ((skip q1 e.isLt 0 6 rfl rfl).trans (low q2 b.isLt rfl)))
  have f3 : fieldAt w 1 6 = e := fieldAt_eq ((skip q0 nn.isLt 0 6 rfl rfl).trans (low q1 e.isLt rfl))
  have f4 : fieldAt w 0 1 = nn := fieldAt_eq (low q0 nn.isLt rfl)
  refine ⟨Nat.lt_of_lt_of_le (bound q0 nn.isLt (bound q1 e.isLt (bound q2 b.isLt (bound q3 a.isLt (bound q4 d.isLt (bound q5 z5 (Nat.lt_succ_of_le hk) rfl) rfl) rfl) rfl) rfl) rfl) (Nat.le_of_ble_eq_true rfl), (skip q0 nn.isLt 30 1 rfl rfl).trans ((skip q1 e.isLt 24 1 rfl rfl).trans ((skip q2 b.isLt 18 1 rfl rfl).trans ((skip q3 a.isLt 12 1 rfl rfl).trans ((skip q4 d.isLt 6 1 rfl rfl).trans ((skip q5 z5 0 1 rfl rfl).trans (top hk)))))), ?_⟩
  rw [major2F w m0]
  simp [decodeMajor2F, f0, f1, f2, f3, f4]

theorem vfmaF16x2 (d : BitVec 6) (a : BitVec 6) (b : BitVec 6) (e : BitVec 6) (nn : BitVec 1) : Statement (.vfmaF16x2 d a b e nn) := by
  refine of_fields rfl ?_
  intro k hk w hw
  obtain ⟨r5, q5⟩ : ∃ r, r = 48 + 64 * k := ⟨_, rfl⟩
  obtain ⟨r4, q4⟩ : ∃ r, r = d.toNat + 64 * r5 := ⟨_, rfl⟩
  obtain ⟨r3, q3⟩ : ∃ r, r = a.toNat + 64 * r4 := ⟨_, rfl⟩
  obtain ⟨r2, q2⟩ : ∃ r, r = b.toNat + 64 * r3 := ⟨_, rfl⟩
  obtain ⟨r1, q1⟩ : ∃ r, r = e.toNat + 64 * r2 := ⟨_, rfl⟩
  have q0 : w = nn.toNat + 2 * r1 := by simp only [assemble] at hw; omega
  have z5 : 48 < 2 ^ 6 := Nat.le_of_ble_eq_true rfl
  have m0 : bitsAt w 25 6 = 48 := (skip q0 nn.isLt 24 6 rfl rfl).trans ((skip q1 e.isLt 18 6 rfl rfl).trans ((skip q2 b.isLt 12 6 rfl rfl).trans ((skip q3 a.isLt 6 6 rfl rfl).trans ((skip q4 d.isLt 0 6 rfl rfl).trans (low q5 z5 rfl)))))
  have f0 : fieldAt w 19 6 = d := fieldAt_eq ((skip q0 nn.isLt 18 6 rfl rfl).trans ((skip q1 e.isLt 12 6 rfl rfl).trans ((skip q2 b.isLt 6 6 rfl rfl).trans ((skip q3 a.isLt 0 6 rfl rfl).trans (low q4 d.isLt rfl)))))
  have f1 : fieldAt w 13 6 = a := fieldAt_eq ((skip q0 nn.isLt 12 6 rfl rfl).trans ((skip q1 e.isLt 6 6 rfl rfl).trans ((skip q2 b.isLt 0 6 rfl rfl).trans (low q3 a.isLt rfl))))
  have f2 : fieldAt w 7 6 = b := fieldAt_eq ((skip q0 nn.isLt 6 6 rfl rfl).trans ((skip q1 e.isLt 0 6 rfl rfl).trans (low q2 b.isLt rfl)))
  have f3 : fieldAt w 1 6 = e := fieldAt_eq ((skip q0 nn.isLt 0 6 rfl rfl).trans (low q1 e.isLt rfl))
  have f4 : fieldAt w 0 1 = nn := fieldAt_eq (low q0 nn.isLt rfl)
  refine ⟨Nat.lt_of_lt_of_le (bound q0 nn.isLt (bound q1 e.isLt (bound q2 b.isLt (bound q3 a.isLt (bound q4 d.isLt (bound q5 z5 (Nat.lt_succ_of_le hk) rfl) rfl) rfl) rfl) rfl) rfl) (Nat.le_of_ble_eq_true rfl), (skip q0 nn.isLt 30 1 rfl rfl).trans ((skip q1 e.isLt 24 1 rfl rfl).trans ((skip q2 b.isLt 18 1 rfl rfl).trans ((skip q3 a.isLt 12 1 rfl rfl).trans ((skip q4 d.isLt 6 1 rfl rfl).trans ((skip q5 z5 0 1 rfl rfl).trans (top hk)))))), ?_⟩
  rw [major30 w m0]
  simp [decodeMajor30, f0, f1, f2, f3, f4]

theorem vfmaBf16x2 (d : BitVec 6) (a : BitVec 6) (b : BitVec 6) (e : BitVec 6) (nn : BitVec 1) : Statement (.vfmaBf16x2 d a b e nn) := by
  refine of_fields rfl ?_
  intro k hk w hw
  obtain ⟨r5, q5⟩ : ∃ r, r = 49 + 64 * k := ⟨_, rfl⟩
  obtain ⟨r4, q4⟩ : ∃ r, r = d.toNat + 64 * r5 := ⟨_, rfl⟩
  obtain ⟨r3, q3⟩ : ∃ r, r = a.toNat + 64 * r4 := ⟨_, rfl⟩
  obtain ⟨r2, q2⟩ : ∃ r, r = b.toNat + 64 * r3 := ⟨_, rfl⟩
  obtain ⟨r1, q1⟩ : ∃ r, r = e.toNat + 64 * r2 := ⟨_, rfl⟩
  have q0 : w = nn.toNat + 2 * r1 := by simp only [assemble] at hw; omega
  have z5 : 49 < 2 ^ 6 := Nat.le_of_ble_eq_true rfl
  have m0 : bitsAt w 25 6 = 49 := (skip q0 nn.isLt 24 6 rfl rfl).trans ((skip q1 e.isLt 18 6 rfl rfl).trans ((skip q2 b.isLt 12 6 rfl rfl).trans ((skip q3 a.isLt 6 6 rfl rfl).trans ((skip q4 d.isLt 0 6 rfl rfl).trans (low q5 z5 rfl)))))
  have f0 : fieldAt w 19 6 = d := fieldAt_eq ((skip q0 nn.isLt 18 6 rfl rfl).trans ((skip q1 e.isLt 12 6 rfl rfl).trans ((skip q2 b.isLt 6 6 rfl rfl).trans ((skip q3 a.isLt 0 6 rfl rfl).trans (low q4 d.isLt rfl)))))
  have f1 : fieldAt w 13 6 = a := fieldAt_eq ((skip q0 nn.isLt 12 6 rfl rfl).trans ((skip q1 e.isLt 6 6 rfl rfl).trans ((skip q2 b.isLt 0 6 rfl rfl).trans (low q3 a.isLt rfl))))
  have f2 : fieldAt w 7 6 = b := fieldAt_eq ((skip q0 nn.isLt 6 6 rfl rfl).trans ((skip q1 e.isLt 0 6 rfl rfl).trans (low q2 b.isLt rfl)))
  have f3 : fieldAt w 1 6 = e := fieldAt_eq ((skip q0 nn.isLt 0 6 rfl rfl).trans (low q1 e.isLt rfl))
  have f4 : fieldAt w 0 1 = nn := fieldAt_eq (low q0 nn.isLt rfl)
  refine ⟨Nat.lt_of_lt_of_le (bound q0 nn.isLt (bound q1 e.isLt (bound q2 b.isLt (bound q3 a.isLt (bound q4 d.isLt (bound q5 z5 (Nat.lt_succ_of_le hk) rfl) rfl) rfl) rfl) rfl) rfl) (Nat.le_of_ble_eq_true rfl), (skip q0 nn.isLt 30 1 rfl rfl).trans ((skip q1 e.isLt 24 1 rfl rfl).trans ((skip q2 b.isLt 18 1 rfl rfl).trans ((skip q3 a.isLt 12 1 rfl rfl).trans ((skip q4 d.isLt 6 1 rfl rfl).trans ((skip q5 z5 0 1 rfl rfl).trans (top hk)))))), ?_⟩
  rw [major31 w m0]
  simp [decodeMajor31, f0, f1, f2, f3, f4]

theorem pand (d : BitVec 3) (a : BitVec 3) (b : BitVec 3) (g : BitVec 3) : Statement (.pand d a b g) := by
  refine of_fields rfl ?_
  intro k hk w hw
  obtain ⟨r7, q7⟩ : ∃ r, r = 400 + 512 * k := ⟨_, rfl⟩
  obtain ⟨r6, q6⟩ : ∃ r, r = d.toNat + 8 * r7 := ⟨_, rfl⟩
  obtain ⟨r5, q5⟩ : ∃ r, r = 0 + 8 * r6 := ⟨_, rfl⟩
  obtain ⟨r4, q4⟩ : ∃ r, r = a.toNat + 8 * r5 := ⟨_, rfl⟩
  obtain ⟨r3, q3⟩ : ∃ r, r = 0 + 8 * r4 := ⟨_, rfl⟩
  obtain ⟨r2, q2⟩ : ∃ r, r = b.toNat + 8 * r3 := ⟨_, rfl⟩
  obtain ⟨r1, q1⟩ : ∃ r, r = g.toNat + 8 * r2 := ⟨_, rfl⟩
  have q0 : w = 0 + 16 * r1 := by simp only [assemble] at hw; omega
  have z0 : 0 < 2 ^ 4 := Nat.le_of_ble_eq_true rfl
  have z3 : 0 < 2 ^ 3 := Nat.le_of_ble_eq_true rfl
  have z5 : 0 < 2 ^ 3 := Nat.le_of_ble_eq_true rfl
  have z7 : 400 < 2 ^ 9 := Nat.le_of_ble_eq_true rfl
  have m0 : bitsAt w 25 6 = 50 := (skip q0 z0 21 6 rfl rfl).trans ((skip q1 g.isLt 18 6 rfl rfl).trans ((skip q2 b.isLt 15 6 rfl rfl).trans ((skip q3 z3 12 6 rfl rfl).trans ((skip q4 a.isLt 9 6 rfl rfl).trans ((skip q5 z5 6 6 rfl rfl).trans ((skip q6 d.isLt 3 6 rfl rfl).trans (part q7 z7 3 6 rfl (Nat.le_of_ble_eq_true rfl) rfl)))))))
  have e0 : bitsAt w 22 3 = 0 := (skip q0 z0 18 3 rfl rfl).trans ((skip q1 g.isLt 15 3 rfl rfl).trans ((skip q2 b.isLt 12 3 rfl rfl).trans ((skip q3 z3 9 3 rfl rfl).trans ((skip q4 a.isLt 6 3 rfl rfl).trans ((skip q5 z5 3 3 rfl rfl).trans ((skip q6 d.isLt 0 3 rfl rfl).trans (part q7 z7 0 3 rfl (Nat.le_of_ble_eq_true rfl) rfl)))))))
  have e1 : bitsAt w 16 3 = 0 := (skip q0 z0 12 3 rfl rfl).trans ((skip q1 g.isLt 9 3 rfl rfl).trans ((skip q2 b.isLt 6 3 rfl rfl).trans ((skip q3 z3 3 3 rfl rfl).trans ((skip q4 a.isLt 0 3 rfl rfl).trans (low q5 z5 rfl)))))
  have e2 : bitsAt w 10 3 = 0 := (skip q0 z0 6 3 rfl rfl).trans ((skip q1 g.isLt 3 3 rfl rfl).trans ((skip q2 b.isLt 0 3 rfl rfl).trans (low q3 z3 rfl)))
  have e3 : bitsAt w 0 4 = 0 := low q0 z0 rfl
  have f0 : fieldAt w 19 3 = d := fieldAt_eq ((skip q0 z0 15 3 rfl rfl).trans ((skip q1 g.isLt 12 3 rfl rfl).trans ((skip q2 b.isLt 9 3 rfl rfl).trans ((skip q3 z3 6 3 rfl rfl).trans ((skip q4 a.isLt 3 3 rfl rfl).trans ((skip q5 z5 0 3 rfl rfl).trans (low q6 d.isLt rfl)))))))
  have f1 : fieldAt w 13 3 = a := fieldAt_eq ((skip q0 z0 9 3 rfl rfl).trans ((skip q1 g.isLt 6 3 rfl rfl).trans ((skip q2 b.isLt 3 3 rfl rfl).trans ((skip q3 z3 0 3 rfl rfl).trans (low q4 a.isLt rfl)))))
  have f2 : fieldAt w 7 3 = b := fieldAt_eq ((skip q0 z0 3 3 rfl rfl).trans ((skip q1 g.isLt 0 3 rfl rfl).trans (low q2 b.isLt rfl)))
  have f3 : fieldAt w 4 3 = g := fieldAt_eq ((skip q0 z0 0 3 rfl rfl).trans (low q1 g.isLt rfl))
  refine ⟨Nat.lt_of_lt_of_le (bound q0 z0 (bound q1 g.isLt (bound q2 b.isLt (bound q3 z3 (bound q4 a.isLt (bound q5 z5 (bound q6 d.isLt (bound q7 z7 (Nat.lt_succ_of_le hk) rfl) rfl) rfl) rfl) rfl) rfl) rfl) rfl) (Nat.le_of_ble_eq_true rfl), (skip q0 z0 27 1 rfl rfl).trans ((skip q1 g.isLt 24 1 rfl rfl).trans ((skip q2 b.isLt 21 1 rfl rfl).trans ((skip q3 z3 18 1 rfl rfl).trans ((skip q4 a.isLt 15 1 rfl rfl).trans ((skip q5 z5 12 1 rfl rfl).trans ((skip q6 d.isLt 9 1 rfl rfl).trans ((skip q7 z7 0 1 rfl rfl).trans (top hk)))))))), ?_⟩
  rw [major32 w m0]
  simp [decodeMajor32, e0, e1, e2, e3, f0, f1, f2, f3]

theorem por (d : BitVec 3) (a : BitVec 3) (b : BitVec 3) (g : BitVec 3) : Statement (.por d a b g) := by
  refine of_fields rfl ?_
  intro k hk w hw
  obtain ⟨r7, q7⟩ : ∃ r, r = 400 + 512 * k := ⟨_, rfl⟩
  obtain ⟨r6, q6⟩ : ∃ r, r = d.toNat + 8 * r7 := ⟨_, rfl⟩
  obtain ⟨r5, q5⟩ : ∃ r, r = 0 + 8 * r6 := ⟨_, rfl⟩
  obtain ⟨r4, q4⟩ : ∃ r, r = a.toNat + 8 * r5 := ⟨_, rfl⟩
  obtain ⟨r3, q3⟩ : ∃ r, r = 0 + 8 * r4 := ⟨_, rfl⟩
  obtain ⟨r2, q2⟩ : ∃ r, r = b.toNat + 8 * r3 := ⟨_, rfl⟩
  obtain ⟨r1, q1⟩ : ∃ r, r = g.toNat + 8 * r2 := ⟨_, rfl⟩
  have q0 : w = 1 + 16 * r1 := by simp only [assemble] at hw; omega
  have z0 : 1 < 2 ^ 4 := Nat.le_of_ble_eq_true rfl
  have z3 : 0 < 2 ^ 3 := Nat.le_of_ble_eq_true rfl
  have z5 : 0 < 2 ^ 3 := Nat.le_of_ble_eq_true rfl
  have z7 : 400 < 2 ^ 9 := Nat.le_of_ble_eq_true rfl
  have m0 : bitsAt w 25 6 = 50 := (skip q0 z0 21 6 rfl rfl).trans ((skip q1 g.isLt 18 6 rfl rfl).trans ((skip q2 b.isLt 15 6 rfl rfl).trans ((skip q3 z3 12 6 rfl rfl).trans ((skip q4 a.isLt 9 6 rfl rfl).trans ((skip q5 z5 6 6 rfl rfl).trans ((skip q6 d.isLt 3 6 rfl rfl).trans (part q7 z7 3 6 rfl (Nat.le_of_ble_eq_true rfl) rfl)))))))
  have e0 : bitsAt w 22 3 = 0 := (skip q0 z0 18 3 rfl rfl).trans ((skip q1 g.isLt 15 3 rfl rfl).trans ((skip q2 b.isLt 12 3 rfl rfl).trans ((skip q3 z3 9 3 rfl rfl).trans ((skip q4 a.isLt 6 3 rfl rfl).trans ((skip q5 z5 3 3 rfl rfl).trans ((skip q6 d.isLt 0 3 rfl rfl).trans (part q7 z7 0 3 rfl (Nat.le_of_ble_eq_true rfl) rfl)))))))
  have e1 : bitsAt w 16 3 = 0 := (skip q0 z0 12 3 rfl rfl).trans ((skip q1 g.isLt 9 3 rfl rfl).trans ((skip q2 b.isLt 6 3 rfl rfl).trans ((skip q3 z3 3 3 rfl rfl).trans ((skip q4 a.isLt 0 3 rfl rfl).trans (low q5 z5 rfl)))))
  have e2 : bitsAt w 10 3 = 0 := (skip q0 z0 6 3 rfl rfl).trans ((skip q1 g.isLt 3 3 rfl rfl).trans ((skip q2 b.isLt 0 3 rfl rfl).trans (low q3 z3 rfl)))
  have e3 : bitsAt w 0 4 = 1 := low q0 z0 rfl
  have f0 : fieldAt w 19 3 = d := fieldAt_eq ((skip q0 z0 15 3 rfl rfl).trans ((skip q1 g.isLt 12 3 rfl rfl).trans ((skip q2 b.isLt 9 3 rfl rfl).trans ((skip q3 z3 6 3 rfl rfl).trans ((skip q4 a.isLt 3 3 rfl rfl).trans ((skip q5 z5 0 3 rfl rfl).trans (low q6 d.isLt rfl)))))))
  have f1 : fieldAt w 13 3 = a := fieldAt_eq ((skip q0 z0 9 3 rfl rfl).trans ((skip q1 g.isLt 6 3 rfl rfl).trans ((skip q2 b.isLt 3 3 rfl rfl).trans ((skip q3 z3 0 3 rfl rfl).trans (low q4 a.isLt rfl)))))
  have f2 : fieldAt w 7 3 = b := fieldAt_eq ((skip q0 z0 3 3 rfl rfl).trans ((skip q1 g.isLt 0 3 rfl rfl).trans (low q2 b.isLt rfl)))
  have f3 : fieldAt w 4 3 = g := fieldAt_eq ((skip q0 z0 0 3 rfl rfl).trans (low q1 g.isLt rfl))
  refine ⟨Nat.lt_of_lt_of_le (bound q0 z0 (bound q1 g.isLt (bound q2 b.isLt (bound q3 z3 (bound q4 a.isLt (bound q5 z5 (bound q6 d.isLt (bound q7 z7 (Nat.lt_succ_of_le hk) rfl) rfl) rfl) rfl) rfl) rfl) rfl) rfl) (Nat.le_of_ble_eq_true rfl), (skip q0 z0 27 1 rfl rfl).trans ((skip q1 g.isLt 24 1 rfl rfl).trans ((skip q2 b.isLt 21 1 rfl rfl).trans ((skip q3 z3 18 1 rfl rfl).trans ((skip q4 a.isLt 15 1 rfl rfl).trans ((skip q5 z5 12 1 rfl rfl).trans ((skip q6 d.isLt 9 1 rfl rfl).trans ((skip q7 z7 0 1 rfl rfl).trans (top hk)))))))), ?_⟩
  rw [major32 w m0]
  simp [decodeMajor32, e0, e1, e2, e3, f0, f1, f2, f3]

theorem pxor (d : BitVec 3) (a : BitVec 3) (b : BitVec 3) (g : BitVec 3) : Statement (.pxor d a b g) := by
  refine of_fields rfl ?_
  intro k hk w hw
  obtain ⟨r7, q7⟩ : ∃ r, r = 400 + 512 * k := ⟨_, rfl⟩
  obtain ⟨r6, q6⟩ : ∃ r, r = d.toNat + 8 * r7 := ⟨_, rfl⟩
  obtain ⟨r5, q5⟩ : ∃ r, r = 0 + 8 * r6 := ⟨_, rfl⟩
  obtain ⟨r4, q4⟩ : ∃ r, r = a.toNat + 8 * r5 := ⟨_, rfl⟩
  obtain ⟨r3, q3⟩ : ∃ r, r = 0 + 8 * r4 := ⟨_, rfl⟩
  obtain ⟨r2, q2⟩ : ∃ r, r = b.toNat + 8 * r3 := ⟨_, rfl⟩
  obtain ⟨r1, q1⟩ : ∃ r, r = g.toNat + 8 * r2 := ⟨_, rfl⟩
  have q0 : w = 2 + 16 * r1 := by simp only [assemble] at hw; omega
  have z0 : 2 < 2 ^ 4 := Nat.le_of_ble_eq_true rfl
  have z3 : 0 < 2 ^ 3 := Nat.le_of_ble_eq_true rfl
  have z5 : 0 < 2 ^ 3 := Nat.le_of_ble_eq_true rfl
  have z7 : 400 < 2 ^ 9 := Nat.le_of_ble_eq_true rfl
  have m0 : bitsAt w 25 6 = 50 := (skip q0 z0 21 6 rfl rfl).trans ((skip q1 g.isLt 18 6 rfl rfl).trans ((skip q2 b.isLt 15 6 rfl rfl).trans ((skip q3 z3 12 6 rfl rfl).trans ((skip q4 a.isLt 9 6 rfl rfl).trans ((skip q5 z5 6 6 rfl rfl).trans ((skip q6 d.isLt 3 6 rfl rfl).trans (part q7 z7 3 6 rfl (Nat.le_of_ble_eq_true rfl) rfl)))))))
  have e0 : bitsAt w 22 3 = 0 := (skip q0 z0 18 3 rfl rfl).trans ((skip q1 g.isLt 15 3 rfl rfl).trans ((skip q2 b.isLt 12 3 rfl rfl).trans ((skip q3 z3 9 3 rfl rfl).trans ((skip q4 a.isLt 6 3 rfl rfl).trans ((skip q5 z5 3 3 rfl rfl).trans ((skip q6 d.isLt 0 3 rfl rfl).trans (part q7 z7 0 3 rfl (Nat.le_of_ble_eq_true rfl) rfl)))))))
  have e1 : bitsAt w 16 3 = 0 := (skip q0 z0 12 3 rfl rfl).trans ((skip q1 g.isLt 9 3 rfl rfl).trans ((skip q2 b.isLt 6 3 rfl rfl).trans ((skip q3 z3 3 3 rfl rfl).trans ((skip q4 a.isLt 0 3 rfl rfl).trans (low q5 z5 rfl)))))
  have e2 : bitsAt w 10 3 = 0 := (skip q0 z0 6 3 rfl rfl).trans ((skip q1 g.isLt 3 3 rfl rfl).trans ((skip q2 b.isLt 0 3 rfl rfl).trans (low q3 z3 rfl)))
  have e3 : bitsAt w 0 4 = 2 := low q0 z0 rfl
  have f0 : fieldAt w 19 3 = d := fieldAt_eq ((skip q0 z0 15 3 rfl rfl).trans ((skip q1 g.isLt 12 3 rfl rfl).trans ((skip q2 b.isLt 9 3 rfl rfl).trans ((skip q3 z3 6 3 rfl rfl).trans ((skip q4 a.isLt 3 3 rfl rfl).trans ((skip q5 z5 0 3 rfl rfl).trans (low q6 d.isLt rfl)))))))
  have f1 : fieldAt w 13 3 = a := fieldAt_eq ((skip q0 z0 9 3 rfl rfl).trans ((skip q1 g.isLt 6 3 rfl rfl).trans ((skip q2 b.isLt 3 3 rfl rfl).trans ((skip q3 z3 0 3 rfl rfl).trans (low q4 a.isLt rfl)))))
  have f2 : fieldAt w 7 3 = b := fieldAt_eq ((skip q0 z0 3 3 rfl rfl).trans ((skip q1 g.isLt 0 3 rfl rfl).trans (low q2 b.isLt rfl)))
  have f3 : fieldAt w 4 3 = g := fieldAt_eq ((skip q0 z0 0 3 rfl rfl).trans (low q1 g.isLt rfl))
  refine ⟨Nat.lt_of_lt_of_le (bound q0 z0 (bound q1 g.isLt (bound q2 b.isLt (bound q3 z3 (bound q4 a.isLt (bound q5 z5 (bound q6 d.isLt (bound q7 z7 (Nat.lt_succ_of_le hk) rfl) rfl) rfl) rfl) rfl) rfl) rfl) rfl) (Nat.le_of_ble_eq_true rfl), (skip q0 z0 27 1 rfl rfl).trans ((skip q1 g.isLt 24 1 rfl rfl).trans ((skip q2 b.isLt 21 1 rfl rfl).trans ((skip q3 z3 18 1 rfl rfl).trans ((skip q4 a.isLt 15 1 rfl rfl).trans ((skip q5 z5 12 1 rfl rfl).trans ((skip q6 d.isLt 9 1 rfl rfl).trans ((skip q7 z7 0 1 rfl rfl).trans (top hk)))))))), ?_⟩
  rw [major32 w m0]
  simp [decodeMajor32, e0, e1, e2, e3, f0, f1, f2, f3]

theorem pnot (d : BitVec 3) (a : BitVec 3) (g : BitVec 3) : Statement (.pnot d a g) := by
  refine of_fields rfl ?_
  intro k hk w hw
  obtain ⟨r6, q6⟩ : ∃ r, r = 400 + 512 * k := ⟨_, rfl⟩
  obtain ⟨r5, q5⟩ : ∃ r, r = d.toNat + 8 * r6 := ⟨_, rfl⟩
  obtain ⟨r4, q4⟩ : ∃ r, r = 0 + 8 * r5 := ⟨_, rfl⟩
  obtain ⟨r3, q3⟩ : ∃ r, r = a.toNat + 8 * r4 := ⟨_, rfl⟩
  obtain ⟨r2, q2⟩ : ∃ r, r = 0 + 64 * r3 := ⟨_, rfl⟩
  obtain ⟨r1, q1⟩ : ∃ r, r = g.toNat + 8 * r2 := ⟨_, rfl⟩
  have q0 : w = 3 + 16 * r1 := by simp only [assemble] at hw; omega
  have z0 : 3 < 2 ^ 4 := Nat.le_of_ble_eq_true rfl
  have z2 : 0 < 2 ^ 6 := Nat.le_of_ble_eq_true rfl
  have z4 : 0 < 2 ^ 3 := Nat.le_of_ble_eq_true rfl
  have z6 : 400 < 2 ^ 9 := Nat.le_of_ble_eq_true rfl
  have m0 : bitsAt w 25 6 = 50 := (skip q0 z0 21 6 rfl rfl).trans ((skip q1 g.isLt 18 6 rfl rfl).trans ((skip q2 z2 12 6 rfl rfl).trans ((skip q3 a.isLt 9 6 rfl rfl).trans ((skip q4 z4 6 6 rfl rfl).trans ((skip q5 d.isLt 3 6 rfl rfl).trans (part q6 z6 3 6 rfl (Nat.le_of_ble_eq_true rfl) rfl))))))
  have e0 : bitsAt w 22 3 = 0 := (skip q0 z0 18 3 rfl rfl).trans ((skip q1 g.isLt 15 3 rfl rfl).trans ((skip q2 z2 9 3 rfl rfl).trans ((skip q3 a.isLt 6 3 rfl rfl).trans ((skip q4 z4 3 3 rfl rfl).trans ((skip q5 d.isLt 0 3 rfl rfl).trans (part q6 z6 0 3 rfl (Nat.le_of_ble_eq_true rfl) rfl))))))
  have e1 : bitsAt w 16 3 = 0 := (skip q0 z0 12 3 rfl rfl).trans ((skip q1 g.isLt 9 3 rfl rfl).trans ((skip q2 z2 3 3 rfl rfl).trans ((skip q3 a.isLt 0 3 rfl rfl).trans (low q4 z4 rfl))))
  have e2 : bitsAt w 10 3 = 0 := (skip q0 z0 6 3 rfl rfl).trans ((skip q1 g.isLt 3 3 rfl rfl).trans (part q2 z2 3 3 rfl (Nat.le_of_ble_eq_true rfl) rfl))
  have e3 : bitsAt w 0 4 = 3 := low q0 z0 rfl
  have e4 : bitsAt w 7 6 = 0 := (skip q0 z0 3 6 rfl rfl).trans ((skip q1 g.isLt 0 6 rfl rfl).trans (low q2 z2 rfl))
  have f0 : fieldAt w 19 3 = d := fieldAt_eq ((skip q0 z0 15 3 rfl rfl).trans ((skip q1 g.isLt 12 3 rfl rfl).trans ((skip q2 z2 6 3 rfl rfl).trans ((skip q3 a.isLt 3 3 rfl rfl).trans ((skip q4 z4 0 3 rfl rfl).trans (low q5 d.isLt rfl))))))
  have f1 : fieldAt w 13 3 = a := fieldAt_eq ((skip q0 z0 9 3 rfl rfl).trans ((skip q1 g.isLt 6 3 rfl rfl).trans ((skip q2 z2 0 3 rfl rfl).trans (low q3 a.isLt rfl))))
  have f2 : fieldAt w 4 3 = g := fieldAt_eq ((skip q0 z0 0 3 rfl rfl).trans (low q1 g.isLt rfl))
  refine ⟨Nat.lt_of_lt_of_le (bound q0 z0 (bound q1 g.isLt (bound q2 z2 (bound q3 a.isLt (bound q4 z4 (bound q5 d.isLt (bound q6 z6 (Nat.lt_succ_of_le hk) rfl) rfl) rfl) rfl) rfl) rfl) rfl) (Nat.le_of_ble_eq_true rfl), (skip q0 z0 27 1 rfl rfl).trans ((skip q1 g.isLt 24 1 rfl rfl).trans ((skip q2 z2 18 1 rfl rfl).trans ((skip q3 a.isLt 15 1 rfl rfl).trans ((skip q4 z4 12 1 rfl rfl).trans ((skip q5 d.isLt 9 1 rfl rfl).trans ((skip q6 z6 0 1 rfl rfl).trans (top hk))))))), ?_⟩
  rw [major32 w m0]
  simp [decodeMajor32, e0, e1, e2, e3, e4, f0, f1, f2]

theorem shflIdx (d : BitVec 6) (a : BitVec 6) (b : BitVec 6) (g : BitVec 3) : Statement (.shflIdx d a b g) := by
  refine of_fields rfl ?_
  intro k hk w hw
  obtain ⟨r5, q5⟩ : ∃ r, r = 51 + 64 * k := ⟨_, rfl⟩
  obtain ⟨r4, q4⟩ : ∃ r, r = d.toNat + 64 * r5 := ⟨_, rfl⟩
  obtain ⟨r3, q3⟩ : ∃ r, r = a.toNat + 64 * r4 := ⟨_, rfl⟩
  obtain ⟨r2, q2⟩ : ∃ r, r = b.toNat + 64 * r3 := ⟨_, rfl⟩
  obtain ⟨r1, q1⟩ : ∃ r, r = g.toNat + 8 * r2 := ⟨_, rfl⟩
  have q0 : w = 0 + 16 * r1 := by simp only [assemble] at hw; omega
  have z0 : 0 < 2 ^ 4 := Nat.le_of_ble_eq_true rfl
  have z5 : 51 < 2 ^ 6 := Nat.le_of_ble_eq_true rfl
  have m0 : bitsAt w 25 6 = 51 := (skip q0 z0 21 6 rfl rfl).trans ((skip q1 g.isLt 18 6 rfl rfl).trans ((skip q2 b.isLt 12 6 rfl rfl).trans ((skip q3 a.isLt 6 6 rfl rfl).trans ((skip q4 d.isLt 0 6 rfl rfl).trans (low q5 z5 rfl)))))
  have e0 : bitsAt w 0 4 = 0 := low q0 z0 rfl
  have f0 : fieldAt w 19 6 = d := fieldAt_eq ((skip q0 z0 15 6 rfl rfl).trans ((skip q1 g.isLt 12 6 rfl rfl).trans ((skip q2 b.isLt 6 6 rfl rfl).trans ((skip q3 a.isLt 0 6 rfl rfl).trans (low q4 d.isLt rfl)))))
  have f1 : fieldAt w 13 6 = a := fieldAt_eq ((skip q0 z0 9 6 rfl rfl).trans ((skip q1 g.isLt 6 6 rfl rfl).trans ((skip q2 b.isLt 0 6 rfl rfl).trans (low q3 a.isLt rfl))))
  have f2 : fieldAt w 7 6 = b := fieldAt_eq ((skip q0 z0 3 6 rfl rfl).trans ((skip q1 g.isLt 0 6 rfl rfl).trans (low q2 b.isLt rfl)))
  have f3 : fieldAt w 4 3 = g := fieldAt_eq ((skip q0 z0 0 3 rfl rfl).trans (low q1 g.isLt rfl))
  refine ⟨Nat.lt_of_lt_of_le (bound q0 z0 (bound q1 g.isLt (bound q2 b.isLt (bound q3 a.isLt (bound q4 d.isLt (bound q5 z5 (Nat.lt_succ_of_le hk) rfl) rfl) rfl) rfl) rfl) rfl) (Nat.le_of_ble_eq_true rfl), (skip q0 z0 27 1 rfl rfl).trans ((skip q1 g.isLt 24 1 rfl rfl).trans ((skip q2 b.isLt 18 1 rfl rfl).trans ((skip q3 a.isLt 12 1 rfl rfl).trans ((skip q4 d.isLt 6 1 rfl rfl).trans ((skip q5 z5 0 1 rfl rfl).trans (top hk)))))), ?_⟩
  rw [major33 w m0]
  simp [decodeMajor33, e0, f0, f1, f2, f3]

theorem shflUp (d : BitVec 6) (a : BitVec 6) (b : BitVec 6) (g : BitVec 3) : Statement (.shflUp d a b g) := by
  refine of_fields rfl ?_
  intro k hk w hw
  obtain ⟨r5, q5⟩ : ∃ r, r = 51 + 64 * k := ⟨_, rfl⟩
  obtain ⟨r4, q4⟩ : ∃ r, r = d.toNat + 64 * r5 := ⟨_, rfl⟩
  obtain ⟨r3, q3⟩ : ∃ r, r = a.toNat + 64 * r4 := ⟨_, rfl⟩
  obtain ⟨r2, q2⟩ : ∃ r, r = b.toNat + 64 * r3 := ⟨_, rfl⟩
  obtain ⟨r1, q1⟩ : ∃ r, r = g.toNat + 8 * r2 := ⟨_, rfl⟩
  have q0 : w = 1 + 16 * r1 := by simp only [assemble] at hw; omega
  have z0 : 1 < 2 ^ 4 := Nat.le_of_ble_eq_true rfl
  have z5 : 51 < 2 ^ 6 := Nat.le_of_ble_eq_true rfl
  have m0 : bitsAt w 25 6 = 51 := (skip q0 z0 21 6 rfl rfl).trans ((skip q1 g.isLt 18 6 rfl rfl).trans ((skip q2 b.isLt 12 6 rfl rfl).trans ((skip q3 a.isLt 6 6 rfl rfl).trans ((skip q4 d.isLt 0 6 rfl rfl).trans (low q5 z5 rfl)))))
  have e0 : bitsAt w 0 4 = 1 := low q0 z0 rfl
  have f0 : fieldAt w 19 6 = d := fieldAt_eq ((skip q0 z0 15 6 rfl rfl).trans ((skip q1 g.isLt 12 6 rfl rfl).trans ((skip q2 b.isLt 6 6 rfl rfl).trans ((skip q3 a.isLt 0 6 rfl rfl).trans (low q4 d.isLt rfl)))))
  have f1 : fieldAt w 13 6 = a := fieldAt_eq ((skip q0 z0 9 6 rfl rfl).trans ((skip q1 g.isLt 6 6 rfl rfl).trans ((skip q2 b.isLt 0 6 rfl rfl).trans (low q3 a.isLt rfl))))
  have f2 : fieldAt w 7 6 = b := fieldAt_eq ((skip q0 z0 3 6 rfl rfl).trans ((skip q1 g.isLt 0 6 rfl rfl).trans (low q2 b.isLt rfl)))
  have f3 : fieldAt w 4 3 = g := fieldAt_eq ((skip q0 z0 0 3 rfl rfl).trans (low q1 g.isLt rfl))
  refine ⟨Nat.lt_of_lt_of_le (bound q0 z0 (bound q1 g.isLt (bound q2 b.isLt (bound q3 a.isLt (bound q4 d.isLt (bound q5 z5 (Nat.lt_succ_of_le hk) rfl) rfl) rfl) rfl) rfl) rfl) (Nat.le_of_ble_eq_true rfl), (skip q0 z0 27 1 rfl rfl).trans ((skip q1 g.isLt 24 1 rfl rfl).trans ((skip q2 b.isLt 18 1 rfl rfl).trans ((skip q3 a.isLt 12 1 rfl rfl).trans ((skip q4 d.isLt 6 1 rfl rfl).trans ((skip q5 z5 0 1 rfl rfl).trans (top hk)))))), ?_⟩
  rw [major33 w m0]
  simp [decodeMajor33, e0, f0, f1, f2, f3]

theorem shflDown (d : BitVec 6) (a : BitVec 6) (b : BitVec 6) (g : BitVec 3) : Statement (.shflDown d a b g) := by
  refine of_fields rfl ?_
  intro k hk w hw
  obtain ⟨r5, q5⟩ : ∃ r, r = 51 + 64 * k := ⟨_, rfl⟩
  obtain ⟨r4, q4⟩ : ∃ r, r = d.toNat + 64 * r5 := ⟨_, rfl⟩
  obtain ⟨r3, q3⟩ : ∃ r, r = a.toNat + 64 * r4 := ⟨_, rfl⟩
  obtain ⟨r2, q2⟩ : ∃ r, r = b.toNat + 64 * r3 := ⟨_, rfl⟩
  obtain ⟨r1, q1⟩ : ∃ r, r = g.toNat + 8 * r2 := ⟨_, rfl⟩
  have q0 : w = 2 + 16 * r1 := by simp only [assemble] at hw; omega
  have z0 : 2 < 2 ^ 4 := Nat.le_of_ble_eq_true rfl
  have z5 : 51 < 2 ^ 6 := Nat.le_of_ble_eq_true rfl
  have m0 : bitsAt w 25 6 = 51 := (skip q0 z0 21 6 rfl rfl).trans ((skip q1 g.isLt 18 6 rfl rfl).trans ((skip q2 b.isLt 12 6 rfl rfl).trans ((skip q3 a.isLt 6 6 rfl rfl).trans ((skip q4 d.isLt 0 6 rfl rfl).trans (low q5 z5 rfl)))))
  have e0 : bitsAt w 0 4 = 2 := low q0 z0 rfl
  have f0 : fieldAt w 19 6 = d := fieldAt_eq ((skip q0 z0 15 6 rfl rfl).trans ((skip q1 g.isLt 12 6 rfl rfl).trans ((skip q2 b.isLt 6 6 rfl rfl).trans ((skip q3 a.isLt 0 6 rfl rfl).trans (low q4 d.isLt rfl)))))
  have f1 : fieldAt w 13 6 = a := fieldAt_eq ((skip q0 z0 9 6 rfl rfl).trans ((skip q1 g.isLt 6 6 rfl rfl).trans ((skip q2 b.isLt 0 6 rfl rfl).trans (low q3 a.isLt rfl))))
  have f2 : fieldAt w 7 6 = b := fieldAt_eq ((skip q0 z0 3 6 rfl rfl).trans ((skip q1 g.isLt 0 6 rfl rfl).trans (low q2 b.isLt rfl)))
  have f3 : fieldAt w 4 3 = g := fieldAt_eq ((skip q0 z0 0 3 rfl rfl).trans (low q1 g.isLt rfl))
  refine ⟨Nat.lt_of_lt_of_le (bound q0 z0 (bound q1 g.isLt (bound q2 b.isLt (bound q3 a.isLt (bound q4 d.isLt (bound q5 z5 (Nat.lt_succ_of_le hk) rfl) rfl) rfl) rfl) rfl) rfl) (Nat.le_of_ble_eq_true rfl), (skip q0 z0 27 1 rfl rfl).trans ((skip q1 g.isLt 24 1 rfl rfl).trans ((skip q2 b.isLt 18 1 rfl rfl).trans ((skip q3 a.isLt 12 1 rfl rfl).trans ((skip q4 d.isLt 6 1 rfl rfl).trans ((skip q5 z5 0 1 rfl rfl).trans (top hk)))))), ?_⟩
  rw [major33 w m0]
  simp [decodeMajor33, e0, f0, f1, f2, f3]

theorem shflXor (d : BitVec 6) (a : BitVec 6) (b : BitVec 6) (g : BitVec 3) : Statement (.shflXor d a b g) := by
  refine of_fields rfl ?_
  intro k hk w hw
  obtain ⟨r5, q5⟩ : ∃ r, r = 51 + 64 * k := ⟨_, rfl⟩
  obtain ⟨r4, q4⟩ : ∃ r, r = d.toNat + 64 * r5 := ⟨_, rfl⟩
  obtain ⟨r3, q3⟩ : ∃ r, r = a.toNat + 64 * r4 := ⟨_, rfl⟩
  obtain ⟨r2, q2⟩ : ∃ r, r = b.toNat + 64 * r3 := ⟨_, rfl⟩
  obtain ⟨r1, q1⟩ : ∃ r, r = g.toNat + 8 * r2 := ⟨_, rfl⟩
  have q0 : w = 3 + 16 * r1 := by simp only [assemble] at hw; omega
  have z0 : 3 < 2 ^ 4 := Nat.le_of_ble_eq_true rfl
  have z5 : 51 < 2 ^ 6 := Nat.le_of_ble_eq_true rfl
  have m0 : bitsAt w 25 6 = 51 := (skip q0 z0 21 6 rfl rfl).trans ((skip q1 g.isLt 18 6 rfl rfl).trans ((skip q2 b.isLt 12 6 rfl rfl).trans ((skip q3 a.isLt 6 6 rfl rfl).trans ((skip q4 d.isLt 0 6 rfl rfl).trans (low q5 z5 rfl)))))
  have e0 : bitsAt w 0 4 = 3 := low q0 z0 rfl
  have f0 : fieldAt w 19 6 = d := fieldAt_eq ((skip q0 z0 15 6 rfl rfl).trans ((skip q1 g.isLt 12 6 rfl rfl).trans ((skip q2 b.isLt 6 6 rfl rfl).trans ((skip q3 a.isLt 0 6 rfl rfl).trans (low q4 d.isLt rfl)))))
  have f1 : fieldAt w 13 6 = a := fieldAt_eq ((skip q0 z0 9 6 rfl rfl).trans ((skip q1 g.isLt 6 6 rfl rfl).trans ((skip q2 b.isLt 0 6 rfl rfl).trans (low q3 a.isLt rfl))))
  have f2 : fieldAt w 7 6 = b := fieldAt_eq ((skip q0 z0 3 6 rfl rfl).trans ((skip q1 g.isLt 0 6 rfl rfl).trans (low q2 b.isLt rfl)))
  have f3 : fieldAt w 4 3 = g := fieldAt_eq ((skip q0 z0 0 3 rfl rfl).trans (low q1 g.isLt rfl))
  refine ⟨Nat.lt_of_lt_of_le (bound q0 z0 (bound q1 g.isLt (bound q2 b.isLt (bound q3 a.isLt (bound q4 d.isLt (bound q5 z5 (Nat.lt_succ_of_le hk) rfl) rfl) rfl) rfl) rfl) rfl) (Nat.le_of_ble_eq_true rfl), (skip q0 z0 27 1 rfl rfl).trans ((skip q1 g.isLt 24 1 rfl rfl).trans ((skip q2 b.isLt 18 1 rfl rfl).trans ((skip q3 a.isLt 12 1 rfl rfl).trans ((skip q4 d.isLt 6 1 rfl rfl).trans ((skip q5 z5 0 1 rfl rfl).trans (top hk)))))), ?_⟩
  rw [major33 w m0]
  simp [decodeMajor33, e0, f0, f1, f2, f3]

theorem shflBcast (d : BitVec 6) (a : BitVec 6) (b : BitVec 6) (g : BitVec 3) : Statement (.shflBcast d a b g) := by
  refine of_fields rfl ?_
  intro k hk w hw
  obtain ⟨r5, q5⟩ : ∃ r, r = 51 + 64 * k := ⟨_, rfl⟩
  obtain ⟨r4, q4⟩ : ∃ r, r = d.toNat + 64 * r5 := ⟨_, rfl⟩
  obtain ⟨r3, q3⟩ : ∃ r, r = a.toNat + 64 * r4 := ⟨_, rfl⟩
  obtain ⟨r2, q2⟩ : ∃ r, r = b.toNat + 64 * r3 := ⟨_, rfl⟩
  obtain ⟨r1, q1⟩ : ∃ r, r = g.toNat + 8 * r2 := ⟨_, rfl⟩
  have q0 : w = 4 + 16 * r1 := by simp only [assemble] at hw; omega
  have z0 : 4 < 2 ^ 4 := Nat.le_of_ble_eq_true rfl
  have z5 : 51 < 2 ^ 6 := Nat.le_of_ble_eq_true rfl
  have m0 : bitsAt w 25 6 = 51 := (skip q0 z0 21 6 rfl rfl).trans ((skip q1 g.isLt 18 6 rfl rfl).trans ((skip q2 b.isLt 12 6 rfl rfl).trans ((skip q3 a.isLt 6 6 rfl rfl).trans ((skip q4 d.isLt 0 6 rfl rfl).trans (low q5 z5 rfl)))))
  have e0 : bitsAt w 0 4 = 4 := low q0 z0 rfl
  have f0 : fieldAt w 19 6 = d := fieldAt_eq ((skip q0 z0 15 6 rfl rfl).trans ((skip q1 g.isLt 12 6 rfl rfl).trans ((skip q2 b.isLt 6 6 rfl rfl).trans ((skip q3 a.isLt 0 6 rfl rfl).trans (low q4 d.isLt rfl)))))
  have f1 : fieldAt w 13 6 = a := fieldAt_eq ((skip q0 z0 9 6 rfl rfl).trans ((skip q1 g.isLt 6 6 rfl rfl).trans ((skip q2 b.isLt 0 6 rfl rfl).trans (low q3 a.isLt rfl))))
  have f2 : fieldAt w 7 6 = b := fieldAt_eq ((skip q0 z0 3 6 rfl rfl).trans ((skip q1 g.isLt 0 6 rfl rfl).trans (low q2 b.isLt rfl)))
  have f3 : fieldAt w 4 3 = g := fieldAt_eq ((skip q0 z0 0 3 rfl rfl).trans (low q1 g.isLt rfl))
  refine ⟨Nat.lt_of_lt_of_le (bound q0 z0 (bound q1 g.isLt (bound q2 b.isLt (bound q3 a.isLt (bound q4 d.isLt (bound q5 z5 (Nat.lt_succ_of_le hk) rfl) rfl) rfl) rfl) rfl) rfl) (Nat.le_of_ble_eq_true rfl), (skip q0 z0 27 1 rfl rfl).trans ((skip q1 g.isLt 24 1 rfl rfl).trans ((skip q2 b.isLt 18 1 rfl rfl).trans ((skip q3 a.isLt 12 1 rfl rfl).trans ((skip q4 d.isLt 6 1 rfl rfl).trans ((skip q5 z5 0 1 rfl rfl).trans (top hk)))))), ?_⟩
  rw [major33 w m0]
  simp [decodeMajor33, e0, f0, f1, f2, f3]

theorem vred (d : BitVec 6) (a : BitVec 6) (g : BitVec 3) (f : BitVec 3) : Statement (.vred d a g f) := by
  refine of_fields rfl ?_
  intro k hk w hw
  obtain ⟨r6, q6⟩ : ∃ r, r = 52 + 64 * k := ⟨_, rfl⟩
  obtain ⟨r5, q5⟩ : ∃ r, r = d.toNat + 64 * r6 := ⟨_, rfl⟩
  obtain ⟨r4, q4⟩ : ∃ r, r = a.toNat + 64 * r5 := ⟨_, rfl⟩
  obtain ⟨r3, q3⟩ : ∃ r, r = 0 + 64 * r4 := ⟨_, rfl⟩
  obtain ⟨r2, q2⟩ : ∃ r, r = g.toNat + 8 * r3 := ⟨_, rfl⟩
  obtain ⟨r1, q1⟩ : ∃ r, r = 0 + 2 * r2 := ⟨_, rfl⟩
  have q0 : w = f.toNat + 8 * r1 := by simp only [assemble] at hw; omega
  have z1 : 0 < 2 ^ 1 := Nat.le_of_ble_eq_true rfl
  have z3 : 0 < 2 ^ 6 := Nat.le_of_ble_eq_true rfl
  have z6 : 52 < 2 ^ 6 := Nat.le_of_ble_eq_true rfl
  have m0 : bitsAt w 25 6 = 52 := (skip q0 f.isLt 22 6 rfl rfl).trans ((skip q1 z1 21 6 rfl rfl).trans ((skip q2 g.isLt 18 6 rfl rfl).trans ((skip q3 z3 12 6 rfl rfl).trans ((skip q4 a.isLt 6 6 rfl rfl).trans ((skip q5 d.isLt 0 6 rfl rfl).trans (low q6 z6 rfl))))))
  have e0 : bitsAt w 7 6 = 0 := (skip q0 f.isLt 4 6 rfl rfl).trans ((skip q1 z1 3 6 rfl rfl).trans ((skip q2 g.isLt 0 6 rfl rfl).trans (low q3 z3 rfl)))
  have e1 : bitsAt w 3 1 = 0 := (skip q0 f.isLt 0 1 rfl rfl).trans (low q1 z1 rfl)
  have f0 : fieldAt w 19 6 = d := fieldAt_eq ((skip q0 f.isLt 16 6 rfl rfl).trans ((skip q1 z1 15 6 rfl rfl).trans ((skip q2 g.isLt 12 6 rfl rfl).trans ((skip q3 z3 6 6 rfl rfl).trans ((skip q4 a.isLt 0 6 rfl rfl).trans (low q5 d.isLt rfl))))))
  have f1 : fieldAt w 13 6 = a := fieldAt_eq ((skip q0 f.isLt 10 6 rfl rfl).trans ((skip q1 z1 9 6 rfl rfl).trans ((skip q2 g.isLt 6 6 rfl rfl).trans ((skip q3 z3 0 6 rfl rfl).trans (low q4 a.isLt rfl)))))
  have f2 : fieldAt w 4 3 = g := fieldAt_eq ((skip q0 f.isLt 1 3 rfl rfl).trans ((skip q1 z1 0 3 rfl rfl).trans (low q2 g.isLt rfl)))
  have f3 : fieldAt w 0 3 = f := fieldAt_eq (low q0 f.isLt rfl)
  refine ⟨Nat.lt_of_lt_of_le (bound q0 f.isLt (bound q1 z1 (bound q2 g.isLt (bound q3 z3 (bound q4 a.isLt (bound q5 d.isLt (bound q6 z6 (Nat.lt_succ_of_le hk) rfl) rfl) rfl) rfl) rfl) rfl) rfl) (Nat.le_of_ble_eq_true rfl), (skip q0 f.isLt 28 1 rfl rfl).trans ((skip q1 z1 27 1 rfl rfl).trans ((skip q2 g.isLt 24 1 rfl rfl).trans ((skip q3 z3 18 1 rfl rfl).trans ((skip q4 a.isLt 12 1 rfl rfl).trans ((skip q5 d.isLt 6 1 rfl rfl).trans ((skip q6 z6 0 1 rfl rfl).trans (top hk))))))), ?_⟩
  rw [major34 w m0]
  simp [decodeMajor34, e0, e1, f0, f1, f2, f3]

theorem vscan (d : BitVec 6) (a : BitVec 6) (kk : BitVec 1) (f : BitVec 3) : Statement (.vscan d a kk f) := by
  refine of_fields rfl ?_
  intro k hk w hw
  obtain ⟨r6, q6⟩ : ∃ r, r = 52 + 64 * k := ⟨_, rfl⟩
  obtain ⟨r5, q5⟩ : ∃ r, r = d.toNat + 64 * r6 := ⟨_, rfl⟩
  obtain ⟨r4, q4⟩ : ∃ r, r = a.toNat + 64 * r5 := ⟨_, rfl⟩
  obtain ⟨r3, q3⟩ : ∃ r, r = 0 + 256 * r4 := ⟨_, rfl⟩
  obtain ⟨r2, q2⟩ : ∃ r, r = kk.toNat + 2 * r3 := ⟨_, rfl⟩
  obtain ⟨r1, q1⟩ : ∃ r, r = 1 + 2 * r2 := ⟨_, rfl⟩
  have q0 : w = f.toNat + 8 * r1 := by simp only [assemble] at hw; omega
  have z1 : 1 < 2 ^ 1 := Nat.le_of_ble_eq_true rfl
  have z3 : 0 < 2 ^ 8 := Nat.le_of_ble_eq_true rfl
  have z6 : 52 < 2 ^ 6 := Nat.le_of_ble_eq_true rfl
  have m0 : bitsAt w 25 6 = 52 := (skip q0 f.isLt 22 6 rfl rfl).trans ((skip q1 z1 21 6 rfl rfl).trans ((skip q2 kk.isLt 20 6 rfl rfl).trans ((skip q3 z3 12 6 rfl rfl).trans ((skip q4 a.isLt 6 6 rfl rfl).trans ((skip q5 d.isLt 0 6 rfl rfl).trans (low q6 z6 rfl))))))
  have e0 : bitsAt w 7 6 = 0 := (skip q0 f.isLt 4 6 rfl rfl).trans ((skip q1 z1 3 6 rfl rfl).trans ((skip q2 kk.isLt 2 6 rfl rfl).trans (part q3 z3 2 6 rfl (Nat.le_of_ble_eq_true rfl) rfl)))
  have e1 : bitsAt w 3 1 = 1 := (skip q0 f.isLt 0 1 rfl rfl).trans (low q1 z1 rfl)
  have e2 : bitsAt w 5 8 = 0 := (skip q0 f.isLt 2 8 rfl rfl).trans ((skip q1 z1 1 8 rfl rfl).trans ((skip q2 kk.isLt 0 8 rfl rfl).trans (low q3 z3 rfl)))
  have f0 : fieldAt w 19 6 = d := fieldAt_eq ((skip q0 f.isLt 16 6 rfl rfl).trans ((skip q1 z1 15 6 rfl rfl).trans ((skip q2 kk.isLt 14 6 rfl rfl).trans ((skip q3 z3 6 6 rfl rfl).trans ((skip q4 a.isLt 0 6 rfl rfl).trans (low q5 d.isLt rfl))))))
  have f1 : fieldAt w 13 6 = a := fieldAt_eq ((skip q0 f.isLt 10 6 rfl rfl).trans ((skip q1 z1 9 6 rfl rfl).trans ((skip q2 kk.isLt 8 6 rfl rfl).trans ((skip q3 z3 0 6 rfl rfl).trans (low q4 a.isLt rfl)))))
  have f2 : fieldAt w 4 1 = kk := fieldAt_eq ((skip q0 f.isLt 1 1 rfl rfl).trans ((skip q1 z1 0 1 rfl rfl).trans (low q2 kk.isLt rfl)))
  have f3 : fieldAt w 0 3 = f := fieldAt_eq (low q0 f.isLt rfl)
  refine ⟨Nat.lt_of_lt_of_le (bound q0 f.isLt (bound q1 z1 (bound q2 kk.isLt (bound q3 z3 (bound q4 a.isLt (bound q5 d.isLt (bound q6 z6 (Nat.lt_succ_of_le hk) rfl) rfl) rfl) rfl) rfl) rfl) rfl) (Nat.le_of_ble_eq_true rfl), (skip q0 f.isLt 28 1 rfl rfl).trans ((skip q1 z1 27 1 rfl rfl).trans ((skip q2 kk.isLt 26 1 rfl rfl).trans ((skip q3 z3 18 1 rfl rfl).trans ((skip q4 a.isLt 12 1 rfl rfl).trans ((skip q5 d.isLt 6 1 rfl rfl).trans ((skip q6 z6 0 1 rfl rfl).trans (top hk))))))), ?_⟩
  rw [major34 w m0]
  simp [decodeMajor34, e0, e1, e2, f0, f1, f2, f3]

theorem ld (d : BitVec 6) (a : BitVec 6) (b : BitVec 6) (g : BitVec 3) (nn : BitVec 1) (z : BitVec 3) : Statement (.ld d a b g nn z) := by
  refine of_fields rfl ?_
  intro k hk w hw
  obtain ⟨r6, q6⟩ : ∃ r, r = 53 + 64 * k := ⟨_, rfl⟩
  obtain ⟨r5, q5⟩ : ∃ r, r = d.toNat + 64 * r6 := ⟨_, rfl⟩
  obtain ⟨r4, q4⟩ : ∃ r, r = a.toNat + 64 * r5 := ⟨_, rfl⟩
  obtain ⟨r3, q3⟩ : ∃ r, r = b.toNat + 64 * r4 := ⟨_, rfl⟩
  obtain ⟨r2, q2⟩ : ∃ r, r = g.toNat + 8 * r3 := ⟨_, rfl⟩
  obtain ⟨r1, q1⟩ : ∃ r, r = nn.toNat + 2 * r2 := ⟨_, rfl⟩
  have q0 : w = z.toNat + 8 * r1 := by simp only [assemble] at hw; omega
  have z6 : 53 < 2 ^ 6 := Nat.le_of_ble_eq_true rfl
  have m0 : bitsAt w 25 6 = 53 := (skip q0 z.isLt 22 6 rfl rfl).trans ((skip q1 nn.isLt 21 6 rfl rfl).trans ((skip q2 g.isLt 18 6 rfl rfl).trans ((skip q3 b.isLt 12 6 rfl rfl).trans ((skip q4 a.isLt 6 6 rfl rfl).trans ((skip q5 d.isLt 0 6 rfl rfl).trans (low q6 z6 rfl))))))
  have f0 : fieldAt w 19 6 = d := fieldAt_eq ((skip q0 z.isLt 16 6 rfl rfl).trans ((skip q1 nn.isLt 15 6 rfl rfl).trans ((skip q2 g.isLt 12 6 rfl rfl).trans ((skip q3 b.isLt 6 6 rfl rfl).trans ((skip q4 a.isLt 0 6 rfl rfl).trans (low q5 d.isLt rfl))))))
  have f1 : fieldAt w 13 6 = a := fieldAt_eq ((skip q0 z.isLt 10 6 rfl rfl).trans ((skip q1 nn.isLt 9 6 rfl rfl).trans ((skip q2 g.isLt 6 6 rfl rfl).trans ((skip q3 b.isLt 0 6 rfl rfl).trans (low q4 a.isLt rfl)))))
  have f2 : fieldAt w 7 6 = b := fieldAt_eq ((skip q0 z.isLt 4 6 rfl rfl).trans ((skip q1 nn.isLt 3 6 rfl rfl).trans ((skip q2 g.isLt 0 6 rfl rfl).trans (low q3 b.isLt rfl))))
  have f3 : fieldAt w 4 3 = g := fieldAt_eq ((skip q0 z.isLt 1 3 rfl rfl).trans ((skip q1 nn.isLt 0 3 rfl rfl).trans (low q2 g.isLt rfl)))
  have f4 : fieldAt w 3 1 = nn := fieldAt_eq ((skip q0 z.isLt 0 1 rfl rfl).trans (low q1 nn.isLt rfl))
  have f5 : fieldAt w 0 3 = z := fieldAt_eq (low q0 z.isLt rfl)
  refine ⟨Nat.lt_of_lt_of_le (bound q0 z.isLt (bound q1 nn.isLt (bound q2 g.isLt (bound q3 b.isLt (bound q4 a.isLt (bound q5 d.isLt (bound q6 z6 (Nat.lt_succ_of_le hk) rfl) rfl) rfl) rfl) rfl) rfl) rfl) (Nat.le_of_ble_eq_true rfl), (skip q0 z.isLt 28 1 rfl rfl).trans ((skip q1 nn.isLt 27 1 rfl rfl).trans ((skip q2 g.isLt 24 1 rfl rfl).trans ((skip q3 b.isLt 18 1 rfl rfl).trans ((skip q4 a.isLt 12 1 rfl rfl).trans ((skip q5 d.isLt 6 1 rfl rfl).trans ((skip q6 z6 0 1 rfl rfl).trans (top hk))))))), ?_⟩
  rw [major35 w m0]
  simp [decodeMajor35, f0, f1, f2, f3, f4, f5]

theorem st (d : BitVec 6) (a : BitVec 6) (b : BitVec 6) (g : BitVec 3) (nn : BitVec 1) (z : BitVec 3) : Statement (.st d a b g nn z) := by
  refine of_fields rfl ?_
  intro k hk w hw
  obtain ⟨r6, q6⟩ : ∃ r, r = 54 + 64 * k := ⟨_, rfl⟩
  obtain ⟨r5, q5⟩ : ∃ r, r = d.toNat + 64 * r6 := ⟨_, rfl⟩
  obtain ⟨r4, q4⟩ : ∃ r, r = a.toNat + 64 * r5 := ⟨_, rfl⟩
  obtain ⟨r3, q3⟩ : ∃ r, r = b.toNat + 64 * r4 := ⟨_, rfl⟩
  obtain ⟨r2, q2⟩ : ∃ r, r = g.toNat + 8 * r3 := ⟨_, rfl⟩
  obtain ⟨r1, q1⟩ : ∃ r, r = nn.toNat + 2 * r2 := ⟨_, rfl⟩
  have q0 : w = z.toNat + 8 * r1 := by simp only [assemble] at hw; omega
  have z6 : 54 < 2 ^ 6 := Nat.le_of_ble_eq_true rfl
  have m0 : bitsAt w 25 6 = 54 := (skip q0 z.isLt 22 6 rfl rfl).trans ((skip q1 nn.isLt 21 6 rfl rfl).trans ((skip q2 g.isLt 18 6 rfl rfl).trans ((skip q3 b.isLt 12 6 rfl rfl).trans ((skip q4 a.isLt 6 6 rfl rfl).trans ((skip q5 d.isLt 0 6 rfl rfl).trans (low q6 z6 rfl))))))
  have f0 : fieldAt w 19 6 = d := fieldAt_eq ((skip q0 z.isLt 16 6 rfl rfl).trans ((skip q1 nn.isLt 15 6 rfl rfl).trans ((skip q2 g.isLt 12 6 rfl rfl).trans ((skip q3 b.isLt 6 6 rfl rfl).trans ((skip q4 a.isLt 0 6 rfl rfl).trans (low q5 d.isLt rfl))))))
  have f1 : fieldAt w 13 6 = a := fieldAt_eq ((skip q0 z.isLt 10 6 rfl rfl).trans ((skip q1 nn.isLt 9 6 rfl rfl).trans ((skip q2 g.isLt 6 6 rfl rfl).trans ((skip q3 b.isLt 0 6 rfl rfl).trans (low q4 a.isLt rfl)))))
  have f2 : fieldAt w 7 6 = b := fieldAt_eq ((skip q0 z.isLt 4 6 rfl rfl).trans ((skip q1 nn.isLt 3 6 rfl rfl).trans ((skip q2 g.isLt 0 6 rfl rfl).trans (low q3 b.isLt rfl))))
  have f3 : fieldAt w 4 3 = g := fieldAt_eq ((skip q0 z.isLt 1 3 rfl rfl).trans ((skip q1 nn.isLt 0 3 rfl rfl).trans (low q2 g.isLt rfl)))
  have f4 : fieldAt w 3 1 = nn := fieldAt_eq ((skip q0 z.isLt 0 1 rfl rfl).trans (low q1 nn.isLt rfl))
  have f5 : fieldAt w 0 3 = z := fieldAt_eq (low q0 z.isLt rfl)
  refine ⟨Nat.lt_of_lt_of_le (bound q0 z.isLt (bound q1 nn.isLt (bound q2 g.isLt (bound q3 b.isLt (bound q4 a.isLt (bound q5 d.isLt (bound q6 z6 (Nat.lt_succ_of_le hk) rfl) rfl) rfl) rfl) rfl) rfl) rfl) (Nat.le_of_ble_eq_true rfl), (skip q0 z.isLt 28 1 rfl rfl).trans ((skip q1 nn.isLt 27 1 rfl rfl).trans ((skip q2 g.isLt 24 1 rfl rfl).trans ((skip q3 b.isLt 18 1 rfl rfl).trans ((skip q4 a.isLt 12 1 rfl rfl).trans ((skip q5 d.isLt 6 1 rfl rfl).trans ((skip q6 z6 0 1 rfl rfl).trans (top hk))))))), ?_⟩
  rw [major36 w m0]
  simp [decodeMajor36, f0, f1, f2, f3, f4, f5]

theorem ldl (d : BitVec 6) (a : BitVec 6) (b : BitVec 6) (g : BitVec 3) (z : BitVec 3) : Statement (.ldl d a b g z) := by
  refine of_fields rfl ?_
  intro k hk w hw
  obtain ⟨r6, q6⟩ : ∃ r, r = 55 + 64 * k := ⟨_, rfl⟩
  obtain ⟨r5, q5⟩ : ∃ r, r = d.toNat + 64 * r6 := ⟨_, rfl⟩
  obtain ⟨r4, q4⟩ : ∃ r, r = a.toNat + 64 * r5 := ⟨_, rfl⟩
  obtain ⟨r3, q3⟩ : ∃ r, r = b.toNat + 64 * r4 := ⟨_, rfl⟩
  obtain ⟨r2, q2⟩ : ∃ r, r = g.toNat + 8 * r3 := ⟨_, rfl⟩
  obtain ⟨r1, q1⟩ : ∃ r, r = 0 + 2 * r2 := ⟨_, rfl⟩
  have q0 : w = z.toNat + 8 * r1 := by simp only [assemble] at hw; omega
  have z1 : 0 < 2 ^ 1 := Nat.le_of_ble_eq_true rfl
  have z6 : 55 < 2 ^ 6 := Nat.le_of_ble_eq_true rfl
  have m0 : bitsAt w 25 6 = 55 := (skip q0 z.isLt 22 6 rfl rfl).trans ((skip q1 z1 21 6 rfl rfl).trans ((skip q2 g.isLt 18 6 rfl rfl).trans ((skip q3 b.isLt 12 6 rfl rfl).trans ((skip q4 a.isLt 6 6 rfl rfl).trans ((skip q5 d.isLt 0 6 rfl rfl).trans (low q6 z6 rfl))))))
  have e0 : bitsAt w 3 1 = 0 := (skip q0 z.isLt 0 1 rfl rfl).trans (low q1 z1 rfl)
  have f0 : fieldAt w 19 6 = d := fieldAt_eq ((skip q0 z.isLt 16 6 rfl rfl).trans ((skip q1 z1 15 6 rfl rfl).trans ((skip q2 g.isLt 12 6 rfl rfl).trans ((skip q3 b.isLt 6 6 rfl rfl).trans ((skip q4 a.isLt 0 6 rfl rfl).trans (low q5 d.isLt rfl))))))
  have f1 : fieldAt w 13 6 = a := fieldAt_eq ((skip q0 z.isLt 10 6 rfl rfl).trans ((skip q1 z1 9 6 rfl rfl).trans ((skip q2 g.isLt 6 6 rfl rfl).trans ((skip q3 b.isLt 0 6 rfl rfl).trans (low q4 a.isLt rfl)))))
  have f2 : fieldAt w 7 6 = b := fieldAt_eq ((skip q0 z.isLt 4 6 rfl rfl).trans ((skip q1 z1 3 6 rfl rfl).trans ((skip q2 g.isLt 0 6 rfl rfl).trans (low q3 b.isLt rfl))))
  have f3 : fieldAt w 4 3 = g := fieldAt_eq ((skip q0 z.isLt 1 3 rfl rfl).trans ((skip q1 z1 0 3 rfl rfl).trans (low q2 g.isLt rfl)))
  have f4 : fieldAt w 0 3 = z := fieldAt_eq (low q0 z.isLt rfl)
  refine ⟨Nat.lt_of_lt_of_le (bound q0 z.isLt (bound q1 z1 (bound q2 g.isLt (bound q3 b.isLt (bound q4 a.isLt (bound q5 d.isLt (bound q6 z6 (Nat.lt_succ_of_le hk) rfl) rfl) rfl) rfl) rfl) rfl) rfl) (Nat.le_of_ble_eq_true rfl), (skip q0 z.isLt 28 1 rfl rfl).trans ((skip q1 z1 27 1 rfl rfl).trans ((skip q2 g.isLt 24 1 rfl rfl).trans ((skip q3 b.isLt 18 1 rfl rfl).trans ((skip q4 a.isLt 12 1 rfl rfl).trans ((skip q5 d.isLt 6 1 rfl rfl).trans ((skip q6 z6 0 1 rfl rfl).trans (top hk))))))), ?_⟩
  rw [major37 w m0]
  simp [decodeMajor37, e0, f0, f1, f2, f3, f4]

theorem ldlW (d : BitVec 6) (a : BitVec 6) (b : BitVec 6) (g : BitVec 3) (z : BitVec 1) : Statement (.ldlW d a b g z) := by
  refine of_fields rfl ?_
  intro k hk w hw
  obtain ⟨r7, q7⟩ : ∃ r, r = 55 + 64 * k := ⟨_, rfl⟩
  obtain ⟨r6, q6⟩ : ∃ r, r = d.toNat + 64 * r7 := ⟨_, rfl⟩
  obtain ⟨r5, q5⟩ : ∃ r, r = a.toNat + 64 * r6 := ⟨_, rfl⟩
  obtain ⟨r4, q4⟩ : ∃ r, r = b.toNat + 64 * r5 := ⟨_, rfl⟩
  obtain ⟨r3, q3⟩ : ∃ r, r = g.toNat + 8 * r4 := ⟨_, rfl⟩
  obtain ⟨r2, q2⟩ : ∃ r, r = 2 + 4 * r3 := ⟨_, rfl⟩
  obtain ⟨r1, q1⟩ : ∃ r, r = z.toNat + 2 * r2 := ⟨_, rfl⟩
  have q0 : w = 0 + 2 * r1 := by simp only [assemble] at hw; omega
  have z0 : 0 < 2 ^ 1 := Nat.le_of_ble_eq_true rfl
  have z2 : 2 < 2 ^ 2 := Nat.le_of_ble_eq_true rfl
  have z7 : 55 < 2 ^ 6 := Nat.le_of_ble_eq_true rfl
  have m0 : bitsAt w 25 6 = 55 := (skip q0 z0 24 6 rfl rfl).trans ((skip q1 z.isLt 23 6 rfl rfl).trans ((skip q2 z2 21 6 rfl rfl).trans ((skip q3 g.isLt 18 6 rfl rfl).trans ((skip q4 b.isLt 12 6 rfl rfl).trans ((skip q5 a.isLt 6 6 rfl rfl).trans ((skip q6 d.isLt 0 6 rfl rfl).trans (low q7 z7 rfl)))))))
  have e0 : bitsAt w 3 1 = 1 := (skip q0 z0 2 1 rfl rfl).trans ((skip q1 z.isLt 1 1 rfl rfl).trans (part q2 z2 1 1 rfl (Nat.le_of_ble_eq_true rfl) rfl))
  have e1 : bitsAt w 2 2 = 2 := (skip q0 z0 1 2 rfl rfl).trans ((skip q1 z.isLt 0 2 rfl rfl).trans (low q2 z2 rfl))
  have e2 : bitsAt w 0 1 = 0 := low q0 z0 rfl
  have f0 : fieldAt w 19 6 = d := fieldAt_eq ((skip q0 z0 18 6 rfl rfl).trans ((skip q1 z.isLt 17 6 rfl rfl).trans ((skip q2 z2 15 6 rfl rfl).trans ((skip q3 g.isLt 12 6 rfl rfl).trans ((skip q4 b.isLt 6 6 rfl rfl).trans ((skip q5 a.isLt 0 6 rfl rfl).trans (low q6 d.isLt rfl)))))))
  have f1 : fieldAt w 13 6 = a := fieldAt_eq ((skip q0 z0 12 6 rfl rfl).trans ((skip q1 z.isLt 11 6 rfl rfl).trans ((skip q2 z2 9 6 rfl rfl).trans ((skip q3 g.isLt 6 6 rfl rfl).trans ((skip q4 b.isLt 0 6 rfl rfl).trans (low q5 a.isLt rfl))))))
  have f2 : fieldAt w 7 6 = b := fieldAt_eq ((skip q0 z0 6 6 rfl rfl).trans ((skip q1 z.isLt 5 6 rfl rfl).trans ((skip q2 z2 3 6 rfl rfl).trans ((skip q3 g.isLt 0 6 rfl rfl).trans (low q4 b.isLt rfl)))))
  have f3 : fieldAt w 4 3 = g := fieldAt_eq ((skip q0 z0 3 3 rfl rfl).trans ((skip q1 z.isLt 2 3 rfl rfl).trans ((skip q2 z2 0 3 rfl rfl).trans (low q3 g.isLt rfl))))
  have f4 : fieldAt w 1 1 = z := fieldAt_eq ((skip q0 z0 0 1 rfl rfl).trans (low q1 z.isLt rfl))
  refine ⟨Nat.lt_of_lt_of_le (bound q0 z0 (bound q1 z.isLt (bound q2 z2 (bound q3 g.isLt (bound q4 b.isLt (bound q5 a.isLt (bound q6 d.isLt (bound q7 z7 (Nat.lt_succ_of_le hk) rfl) rfl) rfl) rfl) rfl) rfl) rfl) rfl) (Nat.le_of_ble_eq_true rfl), (skip q0 z0 30 1 rfl rfl).trans ((skip q1 z.isLt 29 1 rfl rfl).trans ((skip q2 z2 27 1 rfl rfl).trans ((skip q3 g.isLt 24 1 rfl rfl).trans ((skip q4 b.isLt 18 1 rfl rfl).trans ((skip q5 a.isLt 12 1 rfl rfl).trans ((skip q6 d.isLt 6 1 rfl rfl).trans ((skip q7 z7 0 1 rfl rfl).trans (top hk)))))))), ?_⟩
  rw [major37 w m0]
  simp [decodeMajor37, e0, e1, e2, f0, f1, f2, f3, f4]

theorem ldlWc (d : BitVec 6) (a : BitVec 6) (b : BitVec 6) (g : BitVec 3) (z : BitVec 1) : Statement (.ldlWc d a b g z) := by
  refine of_fields rfl ?_
  intro k hk w hw
  obtain ⟨r7, q7⟩ : ∃ r, r = 55 + 64 * k := ⟨_, rfl⟩
  obtain ⟨r6, q6⟩ : ∃ r, r = d.toNat + 64 * r7 := ⟨_, rfl⟩
  obtain ⟨r5, q5⟩ : ∃ r, r = a.toNat + 64 * r6 := ⟨_, rfl⟩
  obtain ⟨r4, q4⟩ : ∃ r, r = b.toNat + 64 * r5 := ⟨_, rfl⟩
  obtain ⟨r3, q3⟩ : ∃ r, r = g.toNat + 8 * r4 := ⟨_, rfl⟩
  obtain ⟨r2, q2⟩ : ∃ r, r = 2 + 4 * r3 := ⟨_, rfl⟩
  obtain ⟨r1, q1⟩ : ∃ r, r = z.toNat + 2 * r2 := ⟨_, rfl⟩
  have q0 : w = 1 + 2 * r1 := by simp only [assemble] at hw; omega
  have z0 : 1 < 2 ^ 1 := Nat.le_of_ble_eq_true rfl
  have z2 : 2 < 2 ^ 2 := Nat.le_of_ble_eq_true rfl
  have z7 : 55 < 2 ^ 6 := Nat.le_of_ble_eq_true rfl
  have m0 : bitsAt w 25 6 = 55 := (skip q0 z0 24 6 rfl rfl).trans ((skip q1 z.isLt 23 6 rfl rfl).trans ((skip q2 z2 21 6 rfl rfl).trans ((skip q3 g.isLt 18 6 rfl rfl).trans ((skip q4 b.isLt 12 6 rfl rfl).trans ((skip q5 a.isLt 6 6 rfl rfl).trans ((skip q6 d.isLt 0 6 rfl rfl).trans (low q7 z7 rfl)))))))
  have e0 : bitsAt w 3 1 = 1 := (skip q0 z0 2 1 rfl rfl).trans ((skip q1 z.isLt 1 1 rfl rfl).trans (part q2 z2 1 1 rfl (Nat.le_of_ble_eq_true rfl) rfl))
  have e1 : bitsAt w 2 2 = 2 := (skip q0 z0 1 2 rfl rfl).trans ((skip q1 z.isLt 0 2 rfl rfl).trans (low q2 z2 rfl))
  have e2 : bitsAt w 0 1 = 1 := low q0 z0 rfl
  have f0 : fieldAt w 19 6 = d := fieldAt_eq ((skip q0 z0 18 6 rfl rfl).trans ((skip q1 z.isLt 17 6 rfl rfl).trans ((skip q2 z2 15 6 rfl rfl).trans ((skip q3 g.isLt 12 6 rfl rfl).trans ((skip q4 b.isLt 6 6 rfl rfl).trans ((skip q5 a.isLt 0 6 rfl rfl).trans (low q6 d.isLt rfl)))))))
  have f1 : fieldAt w 13 6 = a := fieldAt_eq ((skip q0 z0 12 6 rfl rfl).trans ((skip q1 z.isLt 11 6 rfl rfl).trans ((skip q2 z2 9 6 rfl rfl).trans ((skip q3 g.isLt 6 6 rfl rfl).trans ((skip q4 b.isLt 0 6 rfl rfl).trans (low q5 a.isLt rfl))))))
  have f2 : fieldAt w 7 6 = b := fieldAt_eq ((skip q0 z0 6 6 rfl rfl).trans ((skip q1 z.isLt 5 6 rfl rfl).trans ((skip q2 z2 3 6 rfl rfl).trans ((skip q3 g.isLt 0 6 rfl rfl).trans (low q4 b.isLt rfl)))))
  have f3 : fieldAt w 4 3 = g := fieldAt_eq ((skip q0 z0 3 3 rfl rfl).trans ((skip q1 z.isLt 2 3 rfl rfl).trans ((skip q2 z2 0 3 rfl rfl).trans (low q3 g.isLt rfl))))
  have f4 : fieldAt w 1 1 = z := fieldAt_eq ((skip q0 z0 0 1 rfl rfl).trans (low q1 z.isLt rfl))
  refine ⟨Nat.lt_of_lt_of_le (bound q0 z0 (bound q1 z.isLt (bound q2 z2 (bound q3 g.isLt (bound q4 b.isLt (bound q5 a.isLt (bound q6 d.isLt (bound q7 z7 (Nat.lt_succ_of_le hk) rfl) rfl) rfl) rfl) rfl) rfl) rfl) rfl) (Nat.le_of_ble_eq_true rfl), (skip q0 z0 30 1 rfl rfl).trans ((skip q1 z.isLt 29 1 rfl rfl).trans ((skip q2 z2 27 1 rfl rfl).trans ((skip q3 g.isLt 24 1 rfl rfl).trans ((skip q4 b.isLt 18 1 rfl rfl).trans ((skip q5 a.isLt 12 1 rfl rfl).trans ((skip q6 d.isLt 6 1 rfl rfl).trans ((skip q7 z7 0 1 rfl rfl).trans (top hk)))))))), ?_⟩
  rw [major37 w m0]
  simp [decodeMajor37, e0, e1, e2, f0, f1, f2, f3, f4]

theorem stl (d : BitVec 6) (a : BitVec 6) (b : BitVec 6) (g : BitVec 3) (z : BitVec 3) : Statement (.stl d a b g z) := by
  refine of_fields rfl ?_
  intro k hk w hw
  obtain ⟨r6, q6⟩ : ∃ r, r = 56 + 64 * k := ⟨_, rfl⟩
  obtain ⟨r5, q5⟩ : ∃ r, r = d.toNat + 64 * r6 := ⟨_, rfl⟩
  obtain ⟨r4, q4⟩ : ∃ r, r = a.toNat + 64 * r5 := ⟨_, rfl⟩
  obtain ⟨r3, q3⟩ : ∃ r, r = b.toNat + 64 * r4 := ⟨_, rfl⟩
  obtain ⟨r2, q2⟩ : ∃ r, r = g.toNat + 8 * r3 := ⟨_, rfl⟩
  obtain ⟨r1, q1⟩ : ∃ r, r = 0 + 2 * r2 := ⟨_, rfl⟩
  have q0 : w = z.toNat + 8 * r1 := by simp only [assemble] at hw; omega
  have z1 : 0 < 2 ^ 1 := Nat.le_of_ble_eq_true rfl
  have z6 : 56 < 2 ^ 6 := Nat.le_of_ble_eq_true rfl
  have m0 : bitsAt w 25 6 = 56 := (skip q0 z.isLt 22 6 rfl rfl).trans ((skip q1 z1 21 6 rfl rfl).trans ((skip q2 g.isLt 18 6 rfl rfl).trans ((skip q3 b.isLt 12 6 rfl rfl).trans ((skip q4 a.isLt 6 6 rfl rfl).trans ((skip q5 d.isLt 0 6 rfl rfl).trans (low q6 z6 rfl))))))
  have e0 : bitsAt w 3 1 = 0 := (skip q0 z.isLt 0 1 rfl rfl).trans (low q1 z1 rfl)
  have f0 : fieldAt w 19 6 = d := fieldAt_eq ((skip q0 z.isLt 16 6 rfl rfl).trans ((skip q1 z1 15 6 rfl rfl).trans ((skip q2 g.isLt 12 6 rfl rfl).trans ((skip q3 b.isLt 6 6 rfl rfl).trans ((skip q4 a.isLt 0 6 rfl rfl).trans (low q5 d.isLt rfl))))))
  have f1 : fieldAt w 13 6 = a := fieldAt_eq ((skip q0 z.isLt 10 6 rfl rfl).trans ((skip q1 z1 9 6 rfl rfl).trans ((skip q2 g.isLt 6 6 rfl rfl).trans ((skip q3 b.isLt 0 6 rfl rfl).trans (low q4 a.isLt rfl)))))
  have f2 : fieldAt w 7 6 = b := fieldAt_eq ((skip q0 z.isLt 4 6 rfl rfl).trans ((skip q1 z1 3 6 rfl rfl).trans ((skip q2 g.isLt 0 6 rfl rfl).trans (low q3 b.isLt rfl))))
  have f3 : fieldAt w 4 3 = g := fieldAt_eq ((skip q0 z.isLt 1 3 rfl rfl).trans ((skip q1 z1 0 3 rfl rfl).trans (low q2 g.isLt rfl)))
  have f4 : fieldAt w 0 3 = z := fieldAt_eq (low q0 z.isLt rfl)
  refine ⟨Nat.lt_of_lt_of_le (bound q0 z.isLt (bound q1 z1 (bound q2 g.isLt (bound q3 b.isLt (bound q4 a.isLt (bound q5 d.isLt (bound q6 z6 (Nat.lt_succ_of_le hk) rfl) rfl) rfl) rfl) rfl) rfl) rfl) (Nat.le_of_ble_eq_true rfl), (skip q0 z.isLt 28 1 rfl rfl).trans ((skip q1 z1 27 1 rfl rfl).trans ((skip q2 g.isLt 24 1 rfl rfl).trans ((skip q3 b.isLt 18 1 rfl rfl).trans ((skip q4 a.isLt 12 1 rfl rfl).trans ((skip q5 d.isLt 6 1 rfl rfl).trans ((skip q6 z6 0 1 rfl rfl).trans (top hk))))))), ?_⟩
  rw [major38 w m0]
  simp [decodeMajor38, e0, f0, f1, f2, f3, f4]

theorem stlFill (d : BitVec 6) (a : BitVec 6) (b : BitVec 6) (g : BitVec 3) (z : BitVec 1) : Statement (.stlFill d a b g z) := by
  refine of_fields rfl ?_
  intro k hk w hw
  obtain ⟨r7, q7⟩ : ∃ r, r = 56 + 64 * k := ⟨_, rfl⟩
  obtain ⟨r6, q6⟩ : ∃ r, r = d.toNat + 64 * r7 := ⟨_, rfl⟩
  obtain ⟨r5, q5⟩ : ∃ r, r = a.toNat + 64 * r6 := ⟨_, rfl⟩
  obtain ⟨r4, q4⟩ : ∃ r, r = b.toNat + 64 * r5 := ⟨_, rfl⟩
  obtain ⟨r3, q3⟩ : ∃ r, r = g.toNat + 8 * r4 := ⟨_, rfl⟩
  obtain ⟨r2, q2⟩ : ∃ r, r = 2 + 4 * r3 := ⟨_, rfl⟩
  obtain ⟨r1, q1⟩ : ∃ r, r = z.toNat + 2 * r2 := ⟨_, rfl⟩
  have q0 : w = 0 + 2 * r1 := by simp only [assemble] at hw; omega
  have z0 : 0 < 2 ^ 1 := Nat.le_of_ble_eq_true rfl
  have z2 : 2 < 2 ^ 2 := Nat.le_of_ble_eq_true rfl
  have z7 : 56 < 2 ^ 6 := Nat.le_of_ble_eq_true rfl
  have m0 : bitsAt w 25 6 = 56 := (skip q0 z0 24 6 rfl rfl).trans ((skip q1 z.isLt 23 6 rfl rfl).trans ((skip q2 z2 21 6 rfl rfl).trans ((skip q3 g.isLt 18 6 rfl rfl).trans ((skip q4 b.isLt 12 6 rfl rfl).trans ((skip q5 a.isLt 6 6 rfl rfl).trans ((skip q6 d.isLt 0 6 rfl rfl).trans (low q7 z7 rfl)))))))
  have e0 : bitsAt w 3 1 = 1 := (skip q0 z0 2 1 rfl rfl).trans ((skip q1 z.isLt 1 1 rfl rfl).trans (part q2 z2 1 1 rfl (Nat.le_of_ble_eq_true rfl) rfl))
  have e1 : bitsAt w 2 2 = 2 := (skip q0 z0 1 2 rfl rfl).trans ((skip q1 z.isLt 0 2 rfl rfl).trans (low q2 z2 rfl))
  have e2 : bitsAt w 0 1 = 0 := low q0 z0 rfl
  have f0 : fieldAt w 19 6 = d := fieldAt_eq ((skip q0 z0 18 6 rfl rfl).trans ((skip q1 z.isLt 17 6 rfl rfl).trans ((skip q2 z2 15 6 rfl rfl).trans ((skip q3 g.isLt 12 6 rfl rfl).trans ((skip q4 b.isLt 6 6 rfl rfl).trans ((skip q5 a.isLt 0 6 rfl rfl).trans (low q6 d.isLt rfl)))))))
  have f1 : fieldAt w 13 6 = a := fieldAt_eq ((skip q0 z0 12 6 rfl rfl).trans ((skip q1 z.isLt 11 6 rfl rfl).trans ((skip q2 z2 9 6 rfl rfl).trans ((skip q3 g.isLt 6 6 rfl rfl).trans ((skip q4 b.isLt 0 6 rfl rfl).trans (low q5 a.isLt rfl))))))
  have f2 : fieldAt w 7 6 = b := fieldAt_eq ((skip q0 z0 6 6 rfl rfl).trans ((skip q1 z.isLt 5 6 rfl rfl).trans ((skip q2 z2 3 6 rfl rfl).trans ((skip q3 g.isLt 0 6 rfl rfl).trans (low q4 b.isLt rfl)))))
  have f3 : fieldAt w 4 3 = g := fieldAt_eq ((skip q0 z0 3 3 rfl rfl).trans ((skip q1 z.isLt 2 3 rfl rfl).trans ((skip q2 z2 0 3 rfl rfl).trans (low q3 g.isLt rfl))))
  have f4 : fieldAt w 1 1 = z := fieldAt_eq ((skip q0 z0 0 1 rfl rfl).trans (low q1 z.isLt rfl))
  refine ⟨Nat.lt_of_lt_of_le (bound q0 z0 (bound q1 z.isLt (bound q2 z2 (bound q3 g.isLt (bound q4 b.isLt (bound q5 a.isLt (bound q6 d.isLt (bound q7 z7 (Nat.lt_succ_of_le hk) rfl) rfl) rfl) rfl) rfl) rfl) rfl) rfl) (Nat.le_of_ble_eq_true rfl), (skip q0 z0 30 1 rfl rfl).trans ((skip q1 z.isLt 29 1 rfl rfl).trans ((skip q2 z2 27 1 rfl rfl).trans ((skip q3 g.isLt 24 1 rfl rfl).trans ((skip q4 b.isLt 18 1 rfl rfl).trans ((skip q5 a.isLt 12 1 rfl rfl).trans ((skip q6 d.isLt 6 1 rfl rfl).trans ((skip q7 z7 0 1 rfl rfl).trans (top hk)))))))), ?_⟩
  rw [major38 w m0]
  simp [decodeMajor38, e0, e1, e2, f0, f1, f2, f3, f4]

theorem atom (d : BitVec 6) (a : BitVec 6) (b : BitVec 6) (g : BitVec 3) (f : BitVec 4) : Statement (.atom d a b g f) := by
  refine of_fields rfl ?_
  intro k hk w hw
  obtain ⟨r5, q5⟩ : ∃ r, r = 57 + 64 * k := ⟨_, rfl⟩
  obtain ⟨r4, q4⟩ : ∃ r, r = d.toNat + 64 * r5 := ⟨_, rfl⟩
  obtain ⟨r3, q3⟩ : ∃ r, r = a.toNat + 64 * r4 := ⟨_, rfl⟩
  obtain ⟨r2, q2⟩ : ∃ r, r = b.toNat + 64 * r3 := ⟨_, rfl⟩
  obtain ⟨r1, q1⟩ : ∃ r, r = g.toNat + 8 * r2 := ⟨_, rfl⟩
  have q0 : w = f.toNat + 16 * r1 := by simp only [assemble] at hw; omega
  have z5 : 57 < 2 ^ 6 := Nat.le_of_ble_eq_true rfl
  have m0 : bitsAt w 25 6 = 57 := (skip q0 f.isLt 21 6 rfl rfl).trans ((skip q1 g.isLt 18 6 rfl rfl).trans ((skip q2 b.isLt 12 6 rfl rfl).trans ((skip q3 a.isLt 6 6 rfl rfl).trans ((skip q4 d.isLt 0 6 rfl rfl).trans (low q5 z5 rfl)))))
  have f0 : fieldAt w 19 6 = d := fieldAt_eq ((skip q0 f.isLt 15 6 rfl rfl).trans ((skip q1 g.isLt 12 6 rfl rfl).trans ((skip q2 b.isLt 6 6 rfl rfl).trans ((skip q3 a.isLt 0 6 rfl rfl).trans (low q4 d.isLt rfl)))))
  have f1 : fieldAt w 13 6 = a := fieldAt_eq ((skip q0 f.isLt 9 6 rfl rfl).trans ((skip q1 g.isLt 6 6 rfl rfl).trans ((skip q2 b.isLt 0 6 rfl rfl).trans (low q3 a.isLt rfl))))
  have f2 : fieldAt w 7 6 = b := fieldAt_eq ((skip q0 f.isLt 3 6 rfl rfl).trans ((skip q1 g.isLt 0 6 rfl rfl).trans (low q2 b.isLt rfl)))
  have f3 : fieldAt w 4 3 = g := fieldAt_eq ((skip q0 f.isLt 0 3 rfl rfl).trans (low q1 g.isLt rfl))
  have f4 : fieldAt w 0 4 = f := fieldAt_eq (low q0 f.isLt rfl)
  refine ⟨Nat.lt_of_lt_of_le (bound q0 f.isLt (bound q1 g.isLt (bound q2 b.isLt (bound q3 a.isLt (bound q4 d.isLt (bound q5 z5 (Nat.lt_succ_of_le hk) rfl) rfl) rfl) rfl) rfl) rfl) (Nat.le_of_ble_eq_true rfl), (skip q0 f.isLt 27 1 rfl rfl).trans ((skip q1 g.isLt 24 1 rfl rfl).trans ((skip q2 b.isLt 18 1 rfl rfl).trans ((skip q3 a.isLt 12 1 rfl rfl).trans ((skip q4 d.isLt 6 1 rfl rfl).trans ((skip q5 z5 0 1 rfl rfl).trans (top hk)))))), ?_⟩
  rw [major39 w m0]
  simp [decodeMajor39, f0, f1, f2, f3, f4]

theorem atoml (d : BitVec 6) (a : BitVec 6) (b : BitVec 6) (g : BitVec 3) (f : BitVec 4) : Statement (.atoml d a b g f) := by
  refine of_fields rfl ?_
  intro k hk w hw
  obtain ⟨r5, q5⟩ : ∃ r, r = 58 + 64 * k := ⟨_, rfl⟩
  obtain ⟨r4, q4⟩ : ∃ r, r = d.toNat + 64 * r5 := ⟨_, rfl⟩
  obtain ⟨r3, q3⟩ : ∃ r, r = a.toNat + 64 * r4 := ⟨_, rfl⟩
  obtain ⟨r2, q2⟩ : ∃ r, r = b.toNat + 64 * r3 := ⟨_, rfl⟩
  obtain ⟨r1, q1⟩ : ∃ r, r = g.toNat + 8 * r2 := ⟨_, rfl⟩
  have q0 : w = f.toNat + 16 * r1 := by simp only [assemble] at hw; omega
  have z5 : 58 < 2 ^ 6 := Nat.le_of_ble_eq_true rfl
  have m0 : bitsAt w 25 6 = 58 := (skip q0 f.isLt 21 6 rfl rfl).trans ((skip q1 g.isLt 18 6 rfl rfl).trans ((skip q2 b.isLt 12 6 rfl rfl).trans ((skip q3 a.isLt 6 6 rfl rfl).trans ((skip q4 d.isLt 0 6 rfl rfl).trans (low q5 z5 rfl)))))
  have f0 : fieldAt w 19 6 = d := fieldAt_eq ((skip q0 f.isLt 15 6 rfl rfl).trans ((skip q1 g.isLt 12 6 rfl rfl).trans ((skip q2 b.isLt 6 6 rfl rfl).trans ((skip q3 a.isLt 0 6 rfl rfl).trans (low q4 d.isLt rfl)))))
  have f1 : fieldAt w 13 6 = a := fieldAt_eq ((skip q0 f.isLt 9 6 rfl rfl).trans ((skip q1 g.isLt 6 6 rfl rfl).trans ((skip q2 b.isLt 0 6 rfl rfl).trans (low q3 a.isLt rfl))))
  have f2 : fieldAt w 7 6 = b := fieldAt_eq ((skip q0 f.isLt 3 6 rfl rfl).trans ((skip q1 g.isLt 0 6 rfl rfl).trans (low q2 b.isLt rfl)))
  have f3 : fieldAt w 4 3 = g := fieldAt_eq ((skip q0 f.isLt 0 3 rfl rfl).trans (low q1 g.isLt rfl))
  have f4 : fieldAt w 0 4 = f := fieldAt_eq (low q0 f.isLt rfl)
  refine ⟨Nat.lt_of_lt_of_le (bound q0 f.isLt (bound q1 g.isLt (bound q2 b.isLt (bound q3 a.isLt (bound q4 d.isLt (bound q5 z5 (Nat.lt_succ_of_le hk) rfl) rfl) rfl) rfl) rfl) rfl) (Nat.le_of_ble_eq_true rfl), (skip q0 f.isLt 27 1 rfl rfl).trans ((skip q1 g.isLt 24 1 rfl rfl).trans ((skip q2 b.isLt 18 1 rfl rfl).trans ((skip q3 a.isLt 12 1 rfl rfl).trans ((skip q4 d.isLt 6 1 rfl rfl).trans ((skip q5 z5 0 1 rfl rfl).trans (top hk)))))), ?_⟩
  rw [major3A w m0]
  simp [decodeMajor3A, f0, f1, f2, f3, f4]

theorem pref (a : BitVec 6) (b : BitVec 6) (g : BitVec 3) (f : BitVec 2) : Statement (.pref a b g f) := by
  refine of_fields rfl ?_
  intro k hk w hw
  obtain ⟨r5, q5⟩ : ∃ r, r = 3776 + 4096 * k := ⟨_, rfl⟩
  obtain ⟨r4, q4⟩ : ∃ r, r = a.toNat + 64 * r5 := ⟨_, rfl⟩
  obtain ⟨r3, q3⟩ : ∃ r, r = b.toNat + 64 * r4 := ⟨_, rfl⟩
  obtain ⟨r2, q2⟩ : ∃ r, r = g.toNat + 8 * r3 := ⟨_, rfl⟩
  obtain ⟨r1, q1⟩ : ∃ r, r = 0 + 4 * r2 := ⟨_, rfl⟩
  have q0 : w = f.toNat + 4 * r1 := by simp only [assemble] at hw; omega
  have z1 : 0 < 2 ^ 2 := Nat.le_of_ble_eq_true rfl
  have z5 : 3776 < 2 ^ 12 := Nat.le_of_ble_eq_true rfl
  have m0 : bitsAt w 25 6 = 59 := (skip q0 f.isLt 23 6 rfl rfl).trans ((skip q1 z1 21 6 rfl rfl).trans ((skip q2 g.isLt 18 6 rfl rfl).trans ((skip q3 b.isLt 12 6 rfl rfl).trans ((skip q4 a.isLt 6 6 rfl rfl).trans (part q5 z5 6 6 rfl (Nat.le_of_ble_eq_true rfl) rfl)))))
  have e0 : bitsAt w 19 6 = 0 := (skip q0 f.isLt 17 6 rfl rfl).trans ((skip q1 z1 15 6 rfl rfl).trans ((skip q2 g.isLt 12 6 rfl rfl).trans ((skip q3 b.isLt 6 6 rfl rfl).trans ((skip q4 a.isLt 0 6 rfl rfl).trans (part q5 z5 0 6 rfl (Nat.le_of_ble_eq_true rfl) rfl)))))
  have e1 : bitsAt w 2 2 = 0 := (skip q0 f.isLt 0 2 rfl rfl).trans (low q1 z1 rfl)
  have f0 : fieldAt w 13 6 = a := fieldAt_eq ((skip q0 f.isLt 11 6 rfl rfl).trans ((skip q1 z1 9 6 rfl rfl).trans ((skip q2 g.isLt 6 6 rfl rfl).trans ((skip q3 b.isLt 0 6 rfl rfl).trans (low q4 a.isLt rfl)))))
  have f1 : fieldAt w 7 6 = b := fieldAt_eq ((skip q0 f.isLt 5 6 rfl rfl).trans ((skip q1 z1 3 6 rfl rfl).trans ((skip q2 g.isLt 0 6 rfl rfl).trans (low q3 b.isLt rfl))))
  have f2 : fieldAt w 4 3 = g := fieldAt_eq ((skip q0 f.isLt 2 3 rfl rfl).trans ((skip q1 z1 0 3 rfl rfl).trans (low q2 g.isLt rfl)))
  have f3 : fieldAt w 0 2 = f := fieldAt_eq (low q0 f.isLt rfl)
  refine ⟨Nat.lt_of_lt_of_le (bound q0 f.isLt (bound q1 z1 (bound q2 g.isLt (bound q3 b.isLt (bound q4 a.isLt (bound q5 z5 (Nat.lt_succ_of_le hk) rfl) rfl) rfl) rfl) rfl) rfl) (Nat.le_of_ble_eq_true rfl), (skip q0 f.isLt 29 1 rfl rfl).trans ((skip q1 z1 27 1 rfl rfl).trans ((skip q2 g.isLt 24 1 rfl rfl).trans ((skip q3 b.isLt 18 1 rfl rfl).trans ((skip q4 a.isLt 12 1 rfl rfl).trans ((skip q5 z5 0 1 rfl rfl).trans (top hk)))))), ?_⟩
  rw [major3B w m0]
  simp [decodeMajor3B, e0, e1, f0, f1, f2, f3]

theorem eventWrite (vi : Nat) : Statement (.eventWrite vi) := no_word rfl

theorem resultArrival (core slot id : Nat) : Statement (.resultArrival core slot id) := no_word rfl

theorem missStatusRetry (core : Nat) : Statement (.missStatusRetry core) := no_word rfl

theorem futureDelivery : Statement (.futureDelivery) := no_word rfl

theorem errorDelivery : Statement (.errorDelivery) := no_word rfl

theorem messageArrival (src dst : Nat) : Statement (.messageArrival src dst) := no_word rfl

theorem taskDispatch (core : Nat) : Statement (.taskDispatch core) := no_word rfl

theorem steal (core : Nat) : Statement (.steal core) := no_word rfl

theorem stagingStart (cluster : Nat) : Statement (.stagingStart cluster) := no_word rfl

theorem stagingComplete (cluster : Nat) : Statement (.stagingComplete cluster) := no_word rfl

theorem tileWritebackComplete (core slot : Nat) : Statement (.tileWritebackComplete core slot) := no_word rfl

theorem copyStart (core : Nat) : Statement (.copyStart core) := no_word rfl

theorem copyCompletion (core : Nat) : Statement (.copyCompletion core) := no_word rfl

theorem matrixOpStart (core : Nat) : Statement (.matrixOpStart core) := no_word rfl

theorem matrixOpEnd (core : Nat) : Statement (.matrixOpEnd core) := no_word rfl

theorem brambleOpStart (core : Nat) : Statement (.brambleOpStart core) := no_word rfl

theorem mmaMcWindowLapse (core : Nat) : Statement (.mmaMcWindowLapse core) := no_word rfl

theorem teamPlacement (cluster : Nat) : Statement (.teamPlacement cluster) := no_word rfl

theorem rootClosurePush (core : Nat) : Statement (.rootClosurePush core) := no_word rfl

theorem switchOut (core slot : Nat) : Statement (.switchOut core slot) := no_word rfl

theorem switchIn (unit : Nat) (cores : List Nat) : Statement (.switchIn unit cores) := no_word rfl

theorem preoffWindowExpiry (core slot : Nat) : Statement (.preoffWindowExpiry core slot) := no_word rfl

theorem periodStart (cid : Nat) : Statement (.periodStart cid) := no_word rfl

theorem budgetExhausted (cid : Nat) : Statement (.budgetExhausted cid) := no_word rfl

theorem jobEnd (jid : Nat) : Statement (.jobEnd jid) := no_word rfl

theorem sweepVisit (stack : Nat) : Statement (.sweepVisit stack) := no_word rfl

theorem sweepTest (core : Nat) : Statement (.sweepTest core) := no_word rfl

theorem testResult (core : Nat) (failing : BitVec 64) : Statement (.testResult core failing) := no_word rfl

theorem drainmaxExpiry (stack : Nat) : Statement (.drainmaxExpiry stack) := no_word rfl

theorem coreGated (core : Nat) : Statement (.coreGated core) := no_word rfl

theorem launch (vi : Nat) : Statement (.launch vi) := no_word rfl

theorem createContract (vi : Nat) : Statement (.createContract vi) := no_word rfl

theorem destroyContract (vi : Nat) : Statement (.destroyContract vi) := no_word rfl

theorem drainJob (vi : Nat) : Statement (.drainJob vi) := no_word rfl

theorem cmdUndefined (vi : Nat) : Statement (.cmdUndefined vi) := no_word rfl

theorem graftRead (vi : Nat) : Statement (.graftRead vi) := no_word rfl

theorem regraft (vi : Nat) : Statement (.regraft vi) := no_word rfl

theorem capRead (vi : Nat) : Statement (.capRead vi) := no_word rfl

theorem capFence (vi : Nat) : Statement (.capFence vi) := no_word rfl

theorem capRetest (vi : Nat) : Statement (.capRetest vi) := no_word rfl

theorem sweepSet (vi : Nat) : Statement (.sweepSet vi) := no_word rfl

theorem migrate (vi : Nat) : Statement (.migrate vi) := no_word rfl

theorem migrateEnd (id : Nat) : Statement (.migrateEnd id) := no_word rfl

theorem groupSet (vi : Nat) : Statement (.groupSet vi) := no_word rfl

theorem powerSetClockStep (vi : Nat) : Statement (.powerSetClockStep vi) := no_word rfl

theorem powerSetGate (vi : Nat) : Statement (.powerSetGate vi) := no_word rfl

theorem powerSetHbmRefresh (vi : Nat) : Statement (.powerSetHbmRefresh vi) := no_word rfl

theorem alarmSet (vi : Nat) : Statement (.alarmSet vi) := no_word rfl

theorem viSet (vi : Nat) : Statement (.viSet vi) := no_word rfl

theorem attest (vi : Nat) : Statement (.attest vi) := no_word rfl

theorem retransmit (dest tag : Nat) : Statement (.retransmit dest tag) := no_word rfl

theorem illegalInstruction (w : Word) : Statement (.illegalInstruction w) := no_word rfl

theorem brambleOpEnd (core : Nat) : Statement (.brambleOpEnd core) := no_word rfl

theorem sqdbWrite (vi : Nat) (v : Word) : Statement (.sqdbWrite vi v) := no_word rfl

theorem sqblWrite (vi : Nat) (v : Word) : Statement (.sqblWrite vi v) := no_word rfl

theorem eqblWrite (vi : Nat) (v : Word) : Statement (.eqblWrite vi v) := no_word rfl

theorem vipasWrite (vi : Nat) (v : Word) : Statement (.vipasWrite vi v) := no_word rfl

theorem registerWrite (vi offset : Nat) (v : Word) : Statement (.registerWrite vi offset v) := no_word rfl

theorem moduleReset (v : Word) : Statement (.moduleReset v) := no_word rfl

theorem stackReset (v : Word) : Statement (.stackReset v) := no_word rfl

theorem clusterReset (v : Word) : Statement (.clusterReset v) := no_word rfl

theorem mevtClear (v : Word) : Statement (.mevtClear v) := no_word rfl

theorem inventory : Statement (.inventory) := no_word rfl

theorem sensors : Statement (.sensors) := no_word rfl

theorem i3cPower (kind : Byte) (target : BitVec 16) (value : Byte) : Statement (.i3cPower kind target value) := no_word rfl

theorem i3cAttest (nonce : List Byte) : Statement (.i3cAttest nonce) := no_word rfl

theorem status : Statement (.status) := no_word rfl

theorem i3cReset : Statement (.i3cReset) := no_word rfl

theorem fwWrite (offset : Word) (image : List Byte) : Statement (.fwWrite offset image) := no_word rfl

theorem fwCommit (length : Word) : Statement (.fwCommit length) := no_word rfl

theorem i3cUnknownCommand (bytes : List Byte) : Statement (.i3cUnknownCommand bytes) := no_word rfl

theorem translationCompletion (pasid page : Nat) (write : Bool) (answer : XAnswer) : Statement (.translationCompletion pasid page write answer) := no_word rfl

theorem pageResponse (pasid page : Nat) (write : Bool) (answer : PageAnswer) : Statement (.pageResponse pasid page write answer) := no_word rfl

theorem invalidateRequest (pasid va size : Nat) : Statement (.invalidateRequest pasid va size) := no_word rfl

theorem peerRequest (src tag : Nat) (op : PeerOp) : Statement (.peerRequest src tag op) := no_word rfl

theorem linkAck (dest tag : Nat) (reply : List Byte) : Statement (.linkAck dest tag reply) := no_word rfl

theorem currentAlarmHigh (stack : Nat) : Statement (.currentAlarmHigh stack) := no_word rfl

theorem currentAlarmLow (stack : Nat) : Statement (.currentAlarmLow stack) := no_word rfl

theorem lineEviction (level : CacheLevel) (unit line : Nat) : Statement (.lineEviction level unit line) := no_word rfl

theorem numvfsWrite (n : Nat) : Statement (.numvfsWrite n) := no_word rfl

theorem dynamicAddressAssignment (addr : Nat) : Statement (.dynamicAddressAssignment addr) := no_word rfl

end Sys2Proof.Laws.Coded
end

