-- ==== Sys2Proof/Laws/Touch.lean ====
section
/-!
SUPPORT. What a read at a home slice changes (R171, R172): the tags of the L2 slices, and nothing else of the module.
-/

set_option Elab.async false

namespace Sys2Proof.Machine

/-- Two states differ at most in the tags of the L2 slices and in the count of free values. -/
def State.Tagged (s t : State) : Prop := ∃ l n, t = { s with l2 := l, freeCtr := n }

theorem State.Tagged.same (s : State) : s.Tagged s := ⟨s.l2, s.freeCtr, rfl⟩

theorem State.Tagged.trans {s t u : State} (h : s.Tagged t) (g : t.Tagged u) : s.Tagged u := by
  obtain ⟨l, n, rfl⟩ := h
  obtain ⟨k, m, rfl⟩ := g
  exact ⟨k, m, rfl⟩

theorem State.Tagged.foldl {α : Type} {f : State → α → State} (hf : ∀ (s : State) a, s.Tagged (f s a)) (l : List α) (s : State) :
    s.Tagged (l.foldl f s) := by
  induction l generalizing s with
  | nil => exact .same _
  | cons a l ih => exact (hf s a).trans (ih _)

/-- What tags leave alone: every part of the state that an instruction or a step reads. -/
theorem State.Tagged.frame {s t : State} (h : s.Tagged t) :
    t.cores = s.cores ∧ t.clusters = s.clusters ∧ t.stk = s.stk ∧ t.mem = s.mem ∧ t.hostMem = s.hostMem ∧ t.poison = s.poison ∧
      t.jobs = s.jobs ∧ t.teams = s.teams ∧ t.allocs = s.allocs ∧ t.units = s.units ∧ t.contracts = s.contracts ∧ t.vis = s.vis ∧
      t.msix = s.msix ∧ t.ioAtc = s.ioAtc ∧ t.refusals = s.refusals ∧ t.xreqs = s.xreqs := by
  obtain ⟨l, n, rfl⟩ := h
  exact ⟨rfl, rfl, rfl, rfl, rfl, rfl, rfl, rfl, rfl, rfl, rfl, rfl, rfl, rfl, rfl, rfl⟩

theorem State.l2Touch_tagged (s : State) (p la : Nat) (ks : List Nat) (w : Bool) : s.Tagged (s.l2Touch p la ks w) := by
  have h : s.Tagged (s.l2Line p la).1 := by
    unfold State.l2Line
    split
    · split <;> exact .same _
    · simp only
      split
      · exact .same _
      · exact ⟨_, _, rfl⟩
  exact h.trans ⟨_, (s.l2Line p la).1.freeCtr, rfl⟩

theorem State.l2Bytes_tagged (s : State) (p : Nat) (w : Bool) (as : List Nat) : s.Tagged (s.l2Bytes p w as) :=
  .foldl (fun s k => s.l2Touch_tagged p (k / 4) [k % 4] w) _ s

/-- A read of bytes at a target tags lines, and nothing else (R171, R172). -/
theorem State.touchHome_tagged (s : State) (p : Nat) (t : Target) (n : Nat) : s.Tagged (s.touchHome p t n) := by
  unfold State.touchHome
  split
  · exact s.l2Bytes_tagged _ _ _
  · exact .same _

theorem State.touchParts_tagged (s : State) (p : Nat) (ps : List (Target × Nat)) : s.Tagged (s.touchParts p ps) :=
  .foldl (f := fun s (q : Target × Nat) => s.touchHome p q.1 q.2) (fun s q => s.touchHome_tagged p q.1 q.2) ps s

/-- The read of a submission entry tags its lines, and nothing else (R172, R254). -/
theorem State.touchEntry_tagged (s : State) (vi : Nat) : s.Tagged (s.touchEntry vi) := by
  unfold State.touchEntry
  split
  · exact s.touchHome_tagged _ _ _
  · exact .same _

/-- Where an address leads for the I/O die does not depend on tags (R471). -/
theorem State.Tagged.ioPlace {s t : State} (h : s.Tagged t) (p va : Nat) (w : Bool) : t.ioPlace p va w = s.ioPlace p va w := by
  obtain ⟨l, n, rfl⟩ := h
  rfl

end Sys2Proof.Machine
end

