-- ==== Sys2Proof/Tests/Slice0.lean ====
section
/-!
SUPPORT. The model's own tests: words of the specification's encodings, terms that are not well formed, one step on small states with
results worked out from the specification, and for every statement a state and operands that meet its hypotheses.
-/

set_option Elab.async false

open Sys2Proof Sys2Proof.Machine

namespace Sys2Proof.Tests

/-! ### Helpers -/

/-- The state after reset with one wave of a team job on core 0 (assumption 24), its arm 0 about to issue. -/
def demo : State := { State.reset.withWave with cur := some ⟨0, 0, 0⟩ }

/-- The same with changes of its wave, its job, its team, its core. -/
def withW (s : State) (f : Wave → Wave) : State := s.modWave 0 0 f
def withJ (s : State) (f : Job → Job) : State := s.modJob 1 f
def withT (s : State) (f : Team → Team) : State := s.modTeam 1 f
def withC (s : State) (f : Core → Core) : State := s.modCore 0 f

/-- The same with scalar registers set. -/
def regs (l : List (Nat × Word)) : State := withW demo (fun w => w.setSs l)

/-- A mask or value in every lane. -/
def splat (x : Word) : LaneVec := LaneVec.ofFn (fun _ => x)

/-- The context in which the demonstration arm issues a word. -/
def ctxOf (s : State) (i : Instr) : Ctx :=
  (s.ctx? i).getD { r := ⟨0, 0, 0⟩, wave := placedWave, arm := { }, team := placedTeam, job := placedJob, lanes := 0#32 }

/-- A test of the state after an instruction. -/
def after (i : Instr) (s : State) (f : State → Bool) : Bool :=
  match exec i s with
  | .next t => f t
  | _ => false

/-- A test of the wave in slot 0 of core 0 after an instruction. -/
def afterW (i : Instr) (s : State) (f : Wave → Bool) : Bool := after i s (fun t => (t.wave? 0 0).any f)

/-- Whether a word executes in a state. -/
def ok (s : State) (i : Instr) : Bool :=
  (s.ctx? i).any (fun c => decide (c.arm.cap = none) && decide (c.arm.also = none) && decide (c.check (s.core c.r.core) i = .go) &&
    (classOf i).all (fun k => (s.classFault c.r.core c.job k).isNone))

theorem ready_of {s : State} {i : Instr} (h : ok s i = true) : Ready s i (ctxOf s i) := by
  unfold ok at h
  cases hc : s.ctx? i with
  | none => rw [hc] at h; cases h
  | some c =>
    have e : ctxOf s i = c := by unfold ctxOf; rw [hc]; rfl
    rw [hc] at h
    simp only [Option.any_some, Bool.and_eq_true, decide_eq_true_eq] at h
    rw [e]
    refine ⟨hc, h.1.1.1, h.1.1.2, h.1.2, ?_⟩
    intro k hk
    have h2 := h.2
    rw [hk] at h2
    simpa using h2

/-- Room in the run log, as a test. -/
def room (s : State) (i : Instr) : Bool :=
  (classOf i).all (fun k => (s.core (ctxOf s i).r.core).runLog.contains ((ctxOf s i).job.jid, k) ||
    decide ((s.core (ctxOf s i).r.core).runLog.length < 256))

theorem room_of {s : State} {i : Instr} (h : room s i = true) : s.logRoom (ctxOf s i) i := by
  intro k hk
  unfold room at h
  rw [hk] at h
  simpa using h

theorem test_decode_major_00_a :
    decodeWord 0x00000000 = .ok (.nop) ∧
    decodeWord 0x00080000 = .ok (.exit) ∧
    decodeWord 0x001014B5 = .ok (.trap 5301) ∧
    decodeWord 0x001814B5 = .ok (.brk 5301) ∧
    decodeWord 0x00210000 = .ok (.preoff 8) ∧
    decodeWord 0x00280000 = .ok (.preon) ∧
    decodeWord 0x003114B5 = .ok (.getc 8 5301) ∧
    decodeWord 0x003914B5 = .ok (.setc 8 5301) ∧
    decodeWord 0x00400002 = .ok (.fence 2) ∧
    decodeWord 0x00480002 = .ok (.acq 2) ∧
    decodeWord 0x00500002 = .ok (.rel 2) ∧
    decodeWord 0x005814B5 = .ok (.drain 5301) := by decide +kernel

theorem test_decode_major_00_b :
    decodeWord 0x00610009 = .ok (.rdvi 8 9) ∧
    decodeWord 0x00680009 = .ok (.rdva 9) ∧
    decodeWord 0x00700009 = .ok (.rdvw 9) ∧
    decodeWord 0x00780022 = .ok (.smap 8 2) ∧
    decodeWord 0x00800002 = .ok (.sunmap 2) ∧
    decodeWord 0x00880001 = .ok (.mqcfg 1) ∧
    decodeWord 0x00910000 = .ok (.tend 8) ∧
    decodeWord 0x00980000 = .ok (.ptake) ∧
    decodeWord 0x00A10000 = .ok (.ppass 8) ∧
    decodeWord 0x00A00001 = .ok (.ppassFree) ∧
    decodeWord 0x00A90000 = .ok (.ret 8) ∧
    decodeWord 0x00B10000 = .ok (.jmp 8) := by decide +kernel

theorem test_decode_major_00_c :
    decodeWord 0x00B80000 = .ok (.merge) ∧
    decodeWord 0x00C10000 = .ok (.cwait 8) ∧
    decodeWord 0x02420C00 = .ok (.sadd 8 16 24) ∧
    decodeWord 0x02420C01 = .ok (.ssub 8 16 24) ∧
    decodeWord 0x02420C02 = .ok (.smul 8 16 24) ∧
    decodeWord 0x02420C13 = .ok (.smulh 8 16 24 1) ∧
    decodeWord 0x02420C04 = .ok (.sand 8 16 24) ∧
    decodeWord 0x02420C05 = .ok (.sor 8 16 24) ∧
    decodeWord 0x02420C06 = .ok (.sxor 8 16 24) ∧
    decodeWord 0x02420C07 = .ok (.sandn 8 16 24) ∧
    decodeWord 0x02420C08 = .ok (.sshl 8 16 24) ∧
    decodeWord 0x02420C19 = .ok (.sshr 8 16 24 1) := by decide +kernel

theorem test_decode_major_00_d :
    decodeWord 0x02420C0A = .ok (.ssra 8 16 24) ∧
    decodeWord 0x02420C1B = .ok (.smin 8 16 24 1) ∧
    decodeWord 0x02420C1C = .ok (.smax 8 16 24 1) ∧
    decodeWord 0x02420C0D = .ok (.ssel 8 16 24) ∧
    decodeWord 0x02420C6E = .ok (.scmp 8 16 24 6) ∧
    decodeWord 0x02420C3F = .ok (.sdiv 8 16 24 1 1) ∧
    decodeWord 0x04420C10 = .ok (.sbfx 8 16 24 1) ∧
    decodeWord 0x04420C01 = .ok (.sbfi 8 16 24) ∧
    decodeWord 0x04420002 = .ok (.sclz 8 16) ∧
    decodeWord 0x04420003 = .ok (.spopc 8 16) ∧
    decodeWord 0x04420004 = .ok (.smov 8 16) ∧
    decodeWord 0x04420005 = .ok (.sxget 8 16) := by decide +kernel

theorem test_decode_major_00_e :
    decodeWord 0x04010806 = .ok (.sxset 8 16) ∧
    decodeWord 0x0440A007 = .ok (.maskp 8 5) ∧
    decodeWord 0x041A0008 = .ok (.pmask 3 16) ∧
    decodeWord 0x0440A029 = .ok (.vote 8 5 2) ∧
    decodeWord 0x064214B5 = .ok (.saddImm 8 16 5301) := by decide +kernel

theorem test_decode_major_04 :
    decodeWord 0x084214B5 = .ok (.sandImm 8 16 5301) ∧
    decodeWord 0x0A4214B5 = .ok (.sorImm 8 16 5301) ∧
    decodeWord 0x0C4214B5 = .ok (.sxorImm 8 16 5301) ∧
    decodeWord 0x0E420018 = .ok (.sshlImm 8 16 24) ∧
    decodeWord 0x0E420818 = .ok (.sshrImm 8 16 24) ∧
    decodeWord 0x0E421018 = .ok (.ssraImm 8 16 24) := by decide +kernel

theorem test_decode_major_08 :
    decodeWord 0x10420AB5 = .ok (.scmpImm 8 16 2 693) ∧
    decodeWord 0x1244B4B5 = .ok (.smovi 8 308405) ∧
    decodeWord 0x144014B5 = .ok (.slih 8 5301) ∧
    decodeWord 0x164214B5 = .ok (.lds 8 16 5301) := by decide +kernel

theorem test_decode_major_0c :
    decodeWord 0x184214B5 = .ok (.sts 8 16 5301) ∧
    decodeWord 0x1A420AB5 = .ok (.ldacq 8 16 2 693) ∧
    decodeWord 0x1C420AB5 = .ok (.strel 8 16 2 693) ∧
    decodeWord 0x1E420C23 = .ok (.atoms 8 16 24 2 3) := by decide +kernel

theorem test_decode_major_10 :
    decodeWord 0x21B4B4B5 = .ok (.bra 28619957) ∧
    decodeWord 0x23B4B4B5 = .ok (.call 28619957) ∧
    decodeWord 0x2440B4B5 = .ok (.bz 8 46261) ∧
    decodeWord 0x2640B4B5 = .ok (.bnz 8 46261) := by decide +kernel

theorem test_decode_major_14 :
    decodeWord 0x2819B4B5 = .ok (.bany 3 1 46261) ∧
    decodeWord 0x2A19B4B5 = .ok (.ball 3 1 46261) ∧
    decodeWord 0x2C19B4B5 = .ok (.bnone 3 1 46261) ∧
    decodeWord 0x2E18B4B5 = .ok (.split 3 46261) := by decide +kernel

theorem test_decode_major_18_a :
    decodeWord 0x30420800 = .ok (.switch 8 16 2) ∧
    decodeWord 0x32080000 = .ok (.spawnS 1) ∧
    decodeWord 0x32120000 = .ok (.spawnL 8) ∧
    decodeWord 0x34010820 = .ok (.fnew 8 16 2) ∧
    decodeWord 0x34010801 = .ok (.fjoin 8 16) ∧
    decodeWord 0x34420002 = .ok (.fwait 8 16) ∧
    decodeWord 0x34010803 = .ok (.fput 8 16) ∧
    decodeWord 0x36020000 = .ok (.copy 8) ∧
    decodeWord 0x3602104E = .ok (.copyM 8 16 2 6) ∧
    decodeWord 0x364200A2 = .ok (.mma 8 5 2) ∧
    decodeWord 0x3642104E = .ok (.mmaMc 8 16 2 6) ∧
    decodeWord 0x36500003 = .ok (.accz 3) := by decide +kernel

theorem test_decode_major_18_b :
    decodeWord 0x366200A2 = .ok (.accld 8 5 2) ∧
    decodeWord 0x367200A2 = .ok (.accst 8 5 2) ∧
    decodeWord 0x36821002 = .ok (.cxopenIntersect 8 16 2) ∧
    decodeWord 0x36821022 = .ok (.cxopenUnion 8 16 2) ∧
    decodeWord 0x36820042 = .ok (.cxopenExpand 8 2) ∧
    decodeWord 0x36921042 = .ok (.cxnext 8 16 2 2) ∧
    decodeWord 0x36A21002 = .ok (.cxsplit 8 16 2) ∧
    decodeWord 0x36B20002 = .ok (.cxsave 8 2) ∧
    decodeWord 0x36C20002 = .ok (.cxload 8 2) ∧
    decodeWord 0x36C20022 = .ok (.cxloadS 8 2) ∧
    decodeWord 0x36D00002 = .ok (.cxclose 2) := by decide +kernel

theorem test_decode_major_20_a :
    decodeWord 0x40420C50 = .ok (.vadd 8 16 24 5) ∧
    decodeWord 0x40420C51 = .ok (.vsub 8 16 24 5) ∧
    decodeWord 0x40420C52 = .ok (.vmul 8 16 24 5) ∧
    decodeWord 0x40420C53 = .ok (.vmulhI 8 16 24 5) ∧
    decodeWord 0x40420C54 = .ok (.vand 8 16 24 5) ∧
    decodeWord 0x40420C55 = .ok (.vor 8 16 24 5) ∧
    decodeWord 0x40420C56 = .ok (.vxor 8 16 24 5) ∧
    decodeWord 0x40420C57 = .ok (.vandn 8 16 24 5) ∧
    decodeWord 0x40420C58 = .ok (.vshl 8 16 24 5) ∧
    decodeWord 0x40420C59 = .ok (.vshr 8 16 24 5) ∧
    decodeWord 0x40420C5A = .ok (.vsra 8 16 24 5) ∧
    decodeWord 0x40420C5B = .ok (.vminI 8 16 24 5) := by decide +kernel

theorem test_decode_major_20_b :
    decodeWord 0x40420C5C = .ok (.vmaxI 8 16 24 5) ∧
    decodeWord 0x40420C6D = .ok (.vsel 8 16 24 6) ∧
    decodeWord 0x4042005E = .ok (.vmov 8 16 5) ∧
    decodeWord 0x4042005F = .ok (.vbcast 8 16 5) ∧
    decodeWord 0x42420C50 = .ok (.vminN 8 16 24 5) ∧
    decodeWord 0x42420C51 = .ok (.vmaxN 8 16 24 5) ∧
    decodeWord 0x42420C52 = .ok (.vmulhN 8 16 24 5) ∧
    decodeWord 0x42420C53 = .ok (.vbfxI 8 16 24 5) ∧
    decodeWord 0x42420C54 = .ok (.vbfxN 8 16 24 5) ∧
    decodeWord 0x42420C55 = .ok (.vbfi 8 16 24 5) ∧
    decodeWord 0x42420056 = .ok (.vclz 8 16 5) ∧
    decodeWord 0x42420057 = .ok (.vpopc 8 16 5) := by decide +kernel

theorem test_decode_major_20_c :
    decodeWord 0x42420058 = .ok (.vbrev 8 16 5) ∧
    decodeWord 0x42400059 = .ok (.vlaneid 8 5) ∧
    decodeWord 0x44420C49 = .ok (.vmad 8 16 24 36 1) ∧
    decodeWord 0x464214B5 = .ok (.vaddImm 8 16 5301) := by decide +kernel

theorem test_decode_major_24 :
    decodeWord 0x484214B5 = .ok (.vandImm 8 16 5301) ∧
    decodeWord 0x4A4214B5 = .ok (.vorImm 8 16 5301) ∧
    decodeWord 0x4C4214B5 = .ok (.vxorImm 8 16 5301) ∧
    decodeWord 0x4E420018 = .ok (.vshlImm 8 16 24) ∧
    decodeWord 0x4E420818 = .ok (.vshrImm 8 16 24) ∧
    decodeWord 0x4E421018 = .ok (.vsraImm 8 16 24) := by decide +kernel

theorem test_decode_major_28 :
    decodeWord 0x504014B5 = .ok (.vmovImm 8 5301) ∧
    decodeWord 0x52EB1233 = .ok (.vcmpInt 3 5 24 36 3 3) ∧
    decodeWord 0x54EB1233 = .ok (.vcmpImm 3 5 24 36 3 3) ∧
    decodeWord 0x56EB1233 = .ok (.vcmpF32 3 5 24 36 3 3) := by decide +kernel

theorem test_decode_major_2c_a :
    decodeWord 0x58420C50 = .ok (.vfaddF32 8 16 24 5) ∧
    decodeWord 0x58420C51 = .ok (.vfsubF32 8 16 24 5) ∧
    decodeWord 0x58420C52 = .ok (.vfmulF32 8 16 24 5) ∧
    decodeWord 0x58420C53 = .ok (.vfminF32 8 16 24 5) ∧
    decodeWord 0x58420C54 = .ok (.vfmaxF32 8 16 24 5) ∧
    decodeWord 0x58420C55 = .ok (.vfdiv 8 16 24 5) ∧
    decodeWord 0x58420056 = .ok (.vfsqrt 8 16 5) ∧
    decodeWord 0x58420057 = .ok (.vrcp 8 16 5) ∧
    decodeWord 0x58420058 = .ok (.vrsq 8 16 5) ∧
    decodeWord 0x58420059 = .ok (.vexp2 8 16 5) ∧
    decodeWord 0x5842005A = .ok (.vlog2 8 16 5) ∧
    decodeWord 0x5842005B = .ok (.vsin 8 16 5) := by decide +kernel

theorem test_decode_major_2c_b :
    decodeWord 0x5842005C = .ok (.vcos 8 16 5) ∧
    decodeWord 0x5842005D = .ok (.vtanh 8 16 5) ∧
    decodeWord 0x5842005E = .ok (.vfclassF32 8 16 5) ∧
    decodeWord 0x584201DF = .ok (.vfcvtF32 8 16 3 5) ∧
    decodeWord 0x5A420C50 = .ok (.vfaddF16x2 8 16 24 5) ∧
    decodeWord 0x5A420C51 = .ok (.vfsubF16x2 8 16 24 5) ∧
    decodeWord 0x5A420C52 = .ok (.vfmulF16x2 8 16 24 5) ∧
    decodeWord 0x5A420C53 = .ok (.vfminF16x2 8 16 24 5) ∧
    decodeWord 0x5A420C54 = .ok (.vfmaxF16x2 8 16 24 5) ∧
    decodeWord 0x5A42005E = .ok (.vfclassF16x2 8 16 5) ∧
    decodeWord 0x5A4201DF = .ok (.vfcvtF16x2 8 16 3 5) ∧
    decodeWord 0x5C420C50 = .ok (.vfaddBf16x2 8 16 24 5) := by decide +kernel

theorem test_decode_major_2c_c :
    decodeWord 0x5C420C51 = .ok (.vfsubBf16x2 8 16 24 5) ∧
    decodeWord 0x5C420C52 = .ok (.vfmulBf16x2 8 16 24 5) ∧
    decodeWord 0x5C420C53 = .ok (.vfminBf16x2 8 16 24 5) ∧
    decodeWord 0x5C420C54 = .ok (.vfmaxBf16x2 8 16 24 5) ∧
    decodeWord 0x5C42005E = .ok (.vfclassBf16x2 8 16 5) ∧
    decodeWord 0x5C4201DF = .ok (.vfcvtBf16x2 8 16 3 5) ∧
    decodeWord 0x5E420C49 = .ok (.vfmaF32 8 16 24 36 1) := by decide +kernel

theorem test_decode_major_30 :
    decodeWord 0x60420C49 = .ok (.vfmaF16x2 8 16 24 36 1) ∧
    decodeWord 0x62420C49 = .ok (.vfmaBf16x2 8 16 24 36 1) ∧
    decodeWord 0x6418A150 = .ok (.pand 3 5 2 5) ∧
    decodeWord 0x6418A151 = .ok (.por 3 5 2 5) ∧
    decodeWord 0x6418A152 = .ok (.pxor 3 5 2 5) ∧
    decodeWord 0x6418A053 = .ok (.pnot 3 5 5) ∧
    decodeWord 0x66420C50 = .ok (.shflIdx 8 16 24 5) ∧
    decodeWord 0x66420C51 = .ok (.shflUp 8 16 24 5) ∧
    decodeWord 0x66420C52 = .ok (.shflDown 8 16 24 5) ∧
    decodeWord 0x66420C53 = .ok (.shflXor 8 16 24 5) ∧
    decodeWord 0x66420C54 = .ok (.shflBcast 8 16 24 5) := by decide +kernel

theorem test_decode_major_34 :
    decodeWord 0x68420056 = .ok (.vred 8 16 5 6) ∧
    decodeWord 0x6842001E = .ok (.vscan 8 16 1 6) ∧
    decodeWord 0x6A420C5A = .ok (.ld 8 16 24 5 1 2) ∧
    decodeWord 0x6C420C5A = .ok (.st 8 16 24 5 1 2) ∧
    decodeWord 0x6E420C52 = .ok (.ldl 8 16 24 5 2) ∧
    decodeWord 0x6E420C5A = .ok (.ldlW 8 16 24 5 1) ∧
    decodeWord 0x6E420C5B = .ok (.ldlWc 8 16 24 5 1) := by decide +kernel

theorem test_decode_major_38 :
    decodeWord 0x70420C52 = .ok (.stl 8 16 24 5 2) ∧
    decodeWord 0x70420C5A = .ok (.stlFill 8 16 24 5 1) ∧
    decodeWord 0x72420C53 = .ok (.atom 8 16 24 5 3) ∧
    decodeWord 0x74420C53 = .ok (.atoml 8 16 24 5 3) ∧
    decodeWord 0x76010852 = .ok (.pref 8 16 5 2) := by decide +kernel


/-! ### Terms that are not well formed, one for each check -/

theorem test_wf_scope : ([.fence 7, .acq 7, .rel 7, .ldacq 0 0 7 0, .strel 0 0 7 0, .atoms 0 0 0 7 0] : List Instr).all
    (fun i => !i.wf) = true := by decide
theorem test_wf_point : ([.rdvi 0 24, .rdva 24, .rdvw 31] : List Instr).all (fun i => !i.wf) = true := by decide
theorem test_wf_pair : ([.tend 1, .ret 3, .jmp 5, .lds 0 1 0, .sts 0 1 0, .ldacq 0 1 1 0, .strel 0 1 1 0, .atoms 0 1 0 1 0, .fnew 1 0 0,
    .fjoin 1 0, .fjoin 0 1, .fwait 1 0, .fwait 0 1, .fput 1 0, .fput 0 1, .ld 0 1 0 0 0 0, .st 0 1 0 0 0 0, .atom 0 1 0 0 0,
    .pref 1 0 0 0] : List Instr).all (fun i => !i.wf) = true := by decide
theorem test_wf_size : ([.ld 0 0 0 0 0 7, .st 0 0 0 0 0 7, .ldl 0 0 0 0 7, .stl 0 0 0 0 7, .ld 1 0 0 0 0 5, .st 1 0 0 0 0 5,
    .ldl 1 0 0 0 5, .stl 1 0 0 0 5, .ld 2 0 0 0 0 6, .st 2 0 0 0 0 6, .ldl 2 0 0 0 6, .stl 2 0 0 0 6, .ldlW 2 0 0 0 1, .ldlWc 2 0 0 0 1,
    .stlFill 2 0 0 0 1] : List Instr).all (fun i => !i.wf) = true := by decide
theorem test_wf_group : ([.copy 57, .copyM 57 0 0 0, .copyM 0 57 0 0, .mma 57 0 0, .mmaMc 57 0 0 0, .accld 61 0 0, .accst 61 0 0,
    .cxopenIntersect 57 0 0, .cxopenIntersect 0 57 0, .cxopenUnion 57 0 0, .cxopenUnion 0 57 0, .cxopenExpand 57 0, .cxnext 62 0 0 0,
    .cxloadS 49 0, .switch 63 0 1] : List Instr).all (fun i => !i.wf) = true := by decide
theorem test_wf_atomic : ([.atoms 0 0 0 0 11, .atoms 0 0 1 0 10, .atom 0 0 0 0 15, .atom 1 0 0 0 10, .atoml 0 0 0 0 11,
    .atoml 1 0 0 0 10] : List Instr).all (fun i => !i.wf) = true := by decide
theorem test_wf_codes : ([.fnew 0 0 7, .pref 0 0 0 3, .vcmpInt 1 1 0 0 0 0, .vcmpInt 1 2 0 0 0 12, .vcmpImm 2 2 0 0 0 0,
    .vcmpImm 1 2 0 0 0 15, .vcmpF32 3 3 0 0 0 0, .vcmpF32 1 2 0 0 0 14, .vfcvtF32 0 0 7 0, .vfcvtF32 0 0 48 0, .vfcvtF16x2 0 0 5 0,
    .vfcvtBf16x2 0 0 63 0] : List Instr).all (fun i => !i.wf) = true := by decide
/-- The values next to these that the specification admits. -/
theorem test_wf_admitted : ([.fence 6, .rdvi 0 23, .tend 62, .ld 62 0 0 0 0 5, .ld 60 0 0 0 0 6, .copy 56, .accld 60 0 0, .cxnext 61 0 0 0,
    .cxloadS 48 0, .switch 60 0 3, .atoms 0 0 0 6 10, .atom 2 0 0 0 10, .fnew 0 0 6, .pref 0 0 0 2, .vcmpInt 0 0 0 0 0 11,
    .vcmpF32 1 2 0 0 0 13, .vfcvtF32 0 0 47 0, .vfcvtF16x2 0 0 4 0] : List Instr).all Instr.wf = true := by decide

/-! ### Words that are no instruction (R106 to R113) -/

theorem test_decode_reserved_major : decodeWord 0x38000000 = .error .reservedMajor ∧ decodeWord 0x7E000000 = .error .reservedMajor := by
  decide +kernel
/-- Major 0x00 has no function 0x19, and NOP takes no operand. -/
theorem test_decode_no_function : decodeWord 0x00C80000 = .error .noFunction ∧ decodeWord 0x00000001 = .error .noFunction := by
  decide +kernel
/-- FENCE of scope 7, RDVA of point 24, LD of size 7, TEND of an odd register. -/
theorem test_decode_reserved_operand : decodeWord 0x00400007 = .error .reservedOperand ∧
    decodeWord 0x00680018 = .error .reservedOperand ∧ decodeWord 0x6A420C5F = .error .reservedOperand ∧
    decodeWord 0x00902000 = .error .reservedOperand := by decide +kernel
/-- The chain bit belongs to no operand (R107). -/
theorem test_decode_chain_bit : decodeWord 0x82420C00 = .ok (.sadd 8 16 24) ∧ chainBit 0x82420C00 = true ∧
    chainBit 0x02420C00 = false := by decide +kernel

/-- Instructions that issue in the demonstration state: part 1. -/
def ready1 : List Instr :=
  [.nop, .exit, .trap 5301, .brk 5301, .preoff 8, .preon, .getc 8 5301, .setc 8 5301, .fence 2, .acq 2, .rel 2, .drain
   5301, .rdvi 8 9, .rdva 9, .rdvw 9, .smap 8 2, .sunmap 2, .mqcfg 1, .tend 8, .ptake, .ppass 8, .ppassFree, .ret 8,
   .jmp 8, .merge, .cwait 8, .sadd 8 16 24, .ssub 8 16 24, .smul 8 16 24, .smulh 8 16 24 1, .sand 8 16 24, .sor 8 16 24,
   .sxor 8 16 24, .sandn 8 16 24, .sshl 8 16 24, .sshr 8 16 24 1, .ssra 8 16 24, .smin 8 16 24 1, .smax 8 16 24 1, .ssel
   8 16 24, .scmp 8 16 24 6, .sdiv 8 16 24 1 1, .sbfx 8 16 24 1, .sbfi 8 16 24, .sclz 8 16, .spopc 8 16, .smov 8 16,
   .sxget 8 16, .sxset 8 16, .maskp 8 5, .pmask 3 16, .vote 8 5 2, .saddImm 8 16 5301, .sandImm 8 16 5301, .sorImm 8 16
   5301, .sxorImm 8 16 5301, .sshlImm 8 16 24, .sshrImm 8 16 24, .ssraImm 8 16 24, .scmpImm 8 16 2 693, .smovi 8 308405,
   .slih 8 5301, .lds 8 16 5301, .sts 8 16 5301]

/-- Instructions that issue in the demonstration state: part 2. -/
def ready2 : List Instr :=
  [.ldacq 8 16 2 693, .strel 8 16 2 693, .atoms 8 16 24 2 3, .bra 28619957, .call 28619957, .bz 8 46261, .bnz 8 46261,
   .bany 3 1 46261, .ball 3 1 46261, .bnone 3 1 46261, .split 3 46261, .switch 8 16 2, .spawnS 1, .spawnL 8, .fnew 8 16
   2, .fjoin 8 16, .fwait 8 16, .fput 8 16, .copy 8, .copyM 8 16 2 6, .mma 8 5 2, .mmaMc 8 16 2 6, .accz 3, .accld 8 5
   2, .accst 8 5 2, .cxopenIntersect 8 16 2, .cxopenUnion 8 16 2, .cxopenExpand 8 2, .cxnext 8 16 2 2, .cxsplit 8 16 2,
   .cxsave 8 2, .cxload 8 2, .cxloadS 8 2, .cxclose 2, .vadd 8 16 24 5, .vsub 8 16 24 5, .vmul 8 16 24 5, .vmulhI 8 16
   24 5, .vand 8 16 24 5, .vor 8 16 24 5, .vxor 8 16 24 5, .vandn 8 16 24 5, .vshl 8 16 24 5, .vshr 8 16 24 5, .vsra 8
   16 24 5, .vminI 8 16 24 5, .vmaxI 8 16 24 5, .vsel 8 16 24 6, .vmov 8 16 5, .vbcast 8 16 5, .vminN 8 16 24 5, .vmaxN
   8 16 24 5, .vmulhN 8 16 24 5, .vbfxI 8 16 24 5, .vbfxN 8 16 24 5, .vbfi 8 16 24 5, .vclz 8 16 5, .vpopc 8 16 5,
   .vbrev 8 16 5, .vlaneid 8 5, .vmad 8 16 24 36 1, .vaddImm 8 16 5301, .vandImm 8 16 5301, .vorImm 8 16 5301]

/-- Instructions that issue in the demonstration state: part 3. -/
def ready3 : List Instr :=
  [.vxorImm 8 16 5301, .vshlImm 8 16 24, .vshrImm 8 16 24, .vsraImm 8 16 24, .vmovImm 8 5301, .vcmpInt 3 5 24 36 3 3,
   .vcmpImm 3 5 24 36 3 3, .vcmpF32 3 5 24 36 3 3, .vfaddF32 8 16 24 5, .vfsubF32 8 16 24 5, .vfmulF32 8 16 24 5,
   .vfminF32 8 16 24 5, .vfmaxF32 8 16 24 5, .vfdiv 8 16 24 5, .vfsqrt 8 16 5, .vrcp 8 16 5, .vrsq 8 16 5, .vexp2 8 16
   5, .vlog2 8 16 5, .vsin 8 16 5, .vcos 8 16 5, .vtanh 8 16 5, .vfclassF32 8 16 5, .vfcvtF32 8 16 3 5, .vfaddF16x2 8 16
   24 5, .vfsubF16x2 8 16 24 5, .vfmulF16x2 8 16 24 5, .vfminF16x2 8 16 24 5, .vfmaxF16x2 8 16 24 5, .vfclassF16x2 8 16
   5, .vfcvtF16x2 8 16 3 5, .vfaddBf16x2 8 16 24 5, .vfsubBf16x2 8 16 24 5, .vfmulBf16x2 8 16 24 5, .vfminBf16x2 8 16 24
   5, .vfmaxBf16x2 8 16 24 5, .vfclassBf16x2 8 16 5, .vfcvtBf16x2 8 16 3 5, .vfmaF32 8 16 24 36 1, .vfmaF16x2 8 16 24 36
   1, .vfmaBf16x2 8 16 24 36 1, .pand 3 5 2 5, .por 3 5 2 5, .pxor 3 5 2 5, .pnot 3 5 5, .shflIdx 8 16 24 5, .shflUp 8
   16 24 5, .shflDown 8 16 24 5, .shflXor 8 16 24 5, .shflBcast 8 16 24 5, .vred 8 16 5 6, .vscan 8 16 1 6, .ld 8 16 24
   5 1 2, .st 8 16 24 5 1 2, .ldl 8 16 24 5 2, .ldlW 8 16 24 5 1, .ldlWc 8 16 24 5 1, .stl 8 16 24 5 2, .stlFill 8 16 24
   5 1, .atom 8 16 24 5 3, .atoml 8 16 24 5 3, .pref 8 16 5 2]


/-- Every instruction word, with these operands, issues in the demonstration state. -/
theorem test_every_word_ready_1 : ready1.all (ok demo) = true := by decide +kernel
theorem test_every_word_ready_2 : ready2.all (ok demo) = true := by decide +kernel
theorem test_every_word_ready_3 : ready3.all (ok demo) = true := by decide +kernel
theorem test_every_word_has_room : (ready1 ++ ready2 ++ ready3).all (room demo) = true := by decide +kernel

/-! ### States and operands that meet the hypotheses of the statements -/

/-- A word issues in a state, and its core's run log has room for its class: the hypotheses that most statements share. -/
def Issues (s : State) (i : Instr) : Prop := Ready s i (ctxOf s i) ∧ s.logRoom (ctxOf s i) i

theorem issues {s : State} {i : Instr} (h : (ok s i && room s i) = true) : Issues s i := by
  rw [Bool.and_eq_true] at h
  exact ⟨ready_of h.1, room_of h.2⟩

/-- The state that an instruction answers. -/
def nextOf (i : Instr) (s : State) : State := match exec i s with | .next t => t | _ => s

theorem next_of {i : Instr} {s : State} (h : after i s (fun _ => true) = true) : exec i s = .next (nextOf i s) := by
  unfold after at h
  unfold nextOf
  cases he : exec i s <;> simp_all

theorem ctx_of {s : State} {i : Instr} (h : (s.ctx? i).isSome = true) : s.ctx? i = some (ctxOf s i) := by
  unfold ctxOf
  cases hc : s.ctx? i with
  | none => rw [hc] at h; cases h
  | some c => rfl

/-- Every statement about a word that issues is about words that do: each word of the table issues in the demonstration state. -/
theorem witness_ready_every_word : ∀ i, i ∈ ready1 ++ ready2 ++ ready3 → Issues demo i := by
  intro i hi
  apply issues
  rw [Bool.and_eq_true]
  refine ⟨?_, List.all_eq_true.1 test_every_word_has_room i hi⟩
  rw [List.append_assoc, List.mem_append, List.mem_append] at hi
  rcases hi with h | h | h
  · exact List.all_eq_true.1 test_every_word_ready_1 i h
  · exact List.all_eq_true.1 test_every_word_ready_2 i h
  · exact List.all_eq_true.1 test_every_word_ready_3 i h

/-- The state in which the next step fetches SADD, and one in which it fetches a chained pair. -/
def fetched : State := State.reset.withFetchWord 32 0x02420C00
def chained (x y : Nat) : State := (State.reset.withFetchWord 32 x).putPacket 0 1 0 (natBytes 12 (x + 2 ^ 32 * y))
/-- Its wave, and the states in which its words issue. -/
def waveOf (s : State) : Wave := (s.wave? 0 0).getD placedWave
def asked (s : State) : State := { s with agenda := [] }
def issuing (s : State) : State := { (asked s).touchCode 0 placedJob 0 with cur := some ⟨0, 0, 0⟩ }
def pairIn (s : State) : State := { (asked s).touchPair 0 placedJob { } with cur := some ⟨0, 0, 0⟩ }
def armOf (s : State) : Arm := (s.arm? ⟨0, 0, 0⟩).getD { }
def held1 (i : Instr) (s : State) : State := { (nextOf i s).modArm ⟨0, 0, 0⟩ (fun a => { a.advance with cap := none }) with cur := some ⟨0, 0, 0⟩ }

/-- The arm is the partition's next choice. -/
def chosenB (s : State) : Bool :=
  decide (s.agenda = [.issue 0 0]) && decide (((asked s).core 0).turns 0 < 2) &&
    decide (((asked s).candidates 0 0).head? = some (⟨0, 0, 0⟩, waveOf s, { })) && decide ((asked s).wave? 0 0 = some (waveOf s)) &&
    decide (NMap.get? (waveOf s).arms 0 = some { })
theorem chooses_of {s : State} (h : chosenB s = true) : Claims.Chooses s (asked s) 0 0 ⟨0, 0, 0⟩ (waveOf s) { } := by
  unfold chosenB at h
  simp only [Bool.and_eq_true, decide_eq_true_eq] at h
  exact ⟨⟨[], h.1.1.1.1, rfl⟩, h.1.1.1.2, h.1.1.2, h.1.2, h.2, ⟨rfl, rfl⟩, rfl⟩

/-- The words of its packet, of which the first is `i`. -/
def wordsB (s : State) (i : Instr) (chain : Bool) (x : Nat → Nat) : Bool :=
  (List.range 3).all (fun k => decide ((asked s).codeWord 0 placedJob 0 k = .word (x k) false)) && decide (decodeWord (x 0) = .ok i) &&
    decide (chainBit (x 0) = chain) && !packetEnding i && !(waveOf s).lacks i
theorem fetches_of {s : State} {i : Instr} {chain : Bool} {x : Nat → Nat} (h : wordsB s i chain x = true) :
    Claims.Fetches (asked s) 0 (waveOf s) placedJob { } i chain x := by
  unfold wordsB at h
  simp only [Bool.and_eq_true, decide_eq_true_eq, List.all_eq_true, Bool.not_eq_true'] at h
  exact ⟨⟨by decide, by decide⟩, fun k hk => ⟨false, h.1.1.1.1 k (List.mem_range.2 hk), fun _ => rfl⟩, h.1.1.1.2, h.1.1.2,
    fun he => (Bool.false_ne_true (h.1.2.symm.trans he)).elim, h.2⟩

/-- Both arms of a split wave stand at a MERGE, of which arm 1 has gone longer without issuing. -/
def merging : State := (State.reset.withFetchWord 32 0x00B80000).modWave 0 0 (fun w =>
  { w with groups := [{ id := 1, parentGrp := 0, remaining := 2, lanes := 0xFFFFFFFF#32, empty := [] }]
           arms := [(0, { exm := 0x0000FFFF#32, entry := 0x0000FFFF#32, grp := 1, last := 5 }),
                    (1, { exm := 0xFFFF0000#32, entry := 0xFFFF0000#32, grp := 1 })] })
def try1 (o : Option (ArmRef × Arm × Host.Outcome State Fault Refusal)) : ArmRef × Arm × Host.Outcome State Fault Refusal :=
  o.getD (⟨0, 0, 0⟩, { }, .next State.reset)
def counted (o : Host.Outcome State Fault Refusal) : State := match o with | .next t => t | _ => State.reset
def isNext (o : Host.Outcome State Fault Refusal) : Bool := match o with | .next _ => true | _ => false
theorem counted_of {o : Host.Outcome State Fault Refusal} (h : isNext o = true) : o = .next (counted o) := by
  cases o <;> simp_all [counted, isNext]
theorem try_of {o : Option (ArmRef × Arm × Host.Outcome State Fault Refusal)} (h : o.isSome = true) : o = some (try1 o) := by
  cases o <;> simp_all [try1]

/-- A result of the demonstration wave in flight: of a load. -/
def loadPending : Pending :=
  { id := 7, arm := 0, pc := 0, word := 0, exm := 0xFFFFFFFF#32, lanes := 0xFFFFFFFF#32, vdst := [], sdst := [(9, 3#32)], pdst := [],
    flags := 0#32, push := [], left := 0, lines := 0, load := none, isMem := true, hasFlags := false }
def sadd1 : Instr := .sadd 8 16 24
theorem two_of {x y n : Nat} (h1 : ({ } : Arm).word + 1 < n) (h2 : n < 3) : (if n = 0 then x else if n = 1 then y else 0) = 0 := by
  have h : n = 2 := by
    have : ({ } : Arm).word = 0 := rfl
    omega
  rw [h]; rfl
theorem cap_of {o : Option Capture} (h : o.any (fun q => storesOrAtomic q.ins) = true) : ∃ q, o = some q ∧ storesOrAtomic q.ins = true := by
  cases o with
  | none => cases h
  | some q => exact ⟨q, rfl, h⟩
/-- SADD alone; SADD and FENCE.cluster; LDS of a page without a translation and VADD; STREL behind a load and EXIT or MERGE; SADD whose partner waits for
s10. -/
theorem witness_StepRunsDecoded :
    (let s := fetched
     Claims.Chooses s (asked s) 0 0 ⟨0, 0, 0⟩ (waveOf s) { } ∧
     Claims.Fetches (asked s) 0 (waveOf s) placedJob { } sadd1 false (fun k => if k = 0 then 0x02420C00 else 0) ∧
     (asked s).job ((asked s).team (waveOf s).tid).job = placedJob ∧ (asked s).pipeFree 0 0 (pipe sadd1) = true ∧
     exec sadd1 (issuing s) = .next (nextOf sadd1 (issuing s)) ∧
     (asked s).waits ⟨0, 0, 0⟩ { nextOf sadd1 (issuing s) with cur := none } = false) ∧
    (let s := chained 0x82420C00 0x00400002
     let x := fun k => if k = 0 then 0x82420C00 else if k = 1 then 0x00400002 else 0
     let t := nextOf sadd1 (pairIn s)
     let u := nextOf (.fence 2) { t with cur := some ⟨0, 0, 0⟩ }
     (Claims.Chooses s (asked s) 0 0 ⟨0, 0, 0⟩ (waveOf s) { } ∧ Claims.Fetches (asked s) 0 (waveOf s) placedJob { } sadd1 true x ∧
       Claims.Chained (asked s) 0 (waveOf s) placedJob { } sadd1 (.fence 2) x (fun _ => 0)) ∧
     (asked s).pipeFree 0 0 (pipe sadd1) = true ∧ (asked s).pipeFree 0 0 (pipe (.fence 2)) = true ∧
     (pairIn s).ctx? sadd1 = some (ctxOf (pairIn s) sadd1) ∧ (pairIn s).ctx? (.fence 2) = some (ctxOf (pairIn s) (.fence 2)) ∧
     (ctxOf (pairIn s) sadd1).check ((pairIn s).core 0) sadd1 = .go ∧ (ctxOf (pairIn s) (.fence 2)).check ((pairIn s).core 0) (.fence 2) = .go ∧
     exec sadd1 (pairIn s) = .next t ∧ t.arm? ⟨0, 0, 0⟩ = some (armOf t) ∧ (armOf t).hold = .none ∧
     exec (.fence 2) { t with cur := some ⟨0, 0, 0⟩ } = .next u ∧
     ({ t with cur := none } : State).waits ⟨0, 0, 0⟩ { u with cur := none } = false ∧
     (asked s).waits ⟨0, 0, 0⟩ { u with cur := none } = false) ∧
    (let s := (chained 0x96188000 0x40206300).modWave 0 0 (fun w => w.setSs [(4, 0x800000#32)])
     let x := fun k => if k = 0 then 0x96188000 else if k = 1 then 0x40206300 else 0
     let i : Instr := .lds 3 4 0
     let k : Instr := .vadd 4 3 6 0
     let t := nextOf i (pairIn s)
     (Claims.Chooses s (asked s) 0 0 ⟨0, 0, 0⟩ (waveOf s) { } ∧ Claims.Fetches (asked s) 0 (waveOf s) placedJob { } i true x ∧
       Claims.Chained (asked s) 0 (waveOf s) placedJob { } i k x (fun _ => 0)) ∧
     (asked s).pipeFree 0 0 (pipe i) = true ∧ (asked s).pipeFree 0 0 (pipe k) = true ∧
     (ctxOf (pairIn s) i).check ((pairIn s).core 0) i = .go ∧ (ctxOf (pairIn s) k).check ((pairIn s).core 0) k = .go ∧
     exec i (pairIn s) = .next t ∧ (armOf t).hold ≠ .none ∧ (armOf t).cap.isSome = true ∧
     exec k (held1 i (pairIn s)) = .next (nextOf k (held1 i (pairIn s))) ∧ (armOf (nextOf k (held1 i (pairIn s)))).hold = .none) ∧
    ((∀ e, e ∈ [(0x00080000, Instr.exit), (0x00B80000, .merge)] →
      let s := (chained 0x9C188802 e.1).modWave 0 0 (fun w => { w.setSs [(4, 0x800000#32)] with inflight := [{ loadPending with id := 0 }] })
      let x := fun k => if k = 0 then 0x9C188802 else if k = 1 then e.1 else 0
      let i : Instr := .strel 3 4 2 2
      (Claims.Chooses s (asked s) 0 0 ⟨0, 0, 0⟩ (waveOf s) { } ∧ Claims.Fetches (asked s) 0 (waveOf s) placedJob { } i true x ∧
        Claims.Chained (asked s) 0 (waveOf s) placedJob { } i e.2 x (fun _ => 0)) ∧
      (asked s).pipeFree 0 0 (pipe i) = true ∧ (asked s).pipeFree 0 0 (pipe e.2) = true ∧
      (ctxOf (pairIn s) i).check ((pairIn s).core 0) i = .go ∧ (ctxOf (pairIn s) e.2).check ((pairIn s).core 0) e.2 = .go ∧
      exec i (pairIn s) = .next (nextOf i (pairIn s)) ∧ (armOf (nextOf i (pairIn s))).hold ≠ .none ∧
      ∃ q, (armOf (nextOf i (pairIn s))).cap = some q ∧ storesOrAtomic q.ins = true)) ∧
    (let s := (chained 0x82420C00 0x00400002).modWave 0 0 (fun w => { w with sEmpty := [(8, 7)] })
     Claims.Chooses s (asked s) 0 0 ⟨0, 0, 0⟩ (waveOf s) { } ∧ (ctxOf (pairIn s) sadd1).check ((pairIn s).core 0) sadd1 = .wait .empty) ∧
    (let s := merging
     let s1 := asked s
     let x := try1 (s1.tryArms (s1.candidates 0 0))
     let mates := (s1.partArms 0 0).filter (fun e => e.1.slot == x.1.slot)
     let t := counted (State.countTurn 0 x)
     let y := try1 (t.tryArms (t.candidates 0 0))
     s.agenda = [.issue 0 0] ∧ (s1.core 0).turns 0 = 0 ∧ s1.tryArms (s1.candidates 0 0) = some x ∧ x.1.arm = 1 ∧ mates.length = 2 ∧
     mates.all (fun e => s1.mergesNext e) = true ∧ State.countTurn 0 x = .next t ∧ t.tryArms (t.candidates 0 0) = some y ∧
     y.1 = { x.1 with arm := 0 } ∧
     s1.tryArms (mates.filter (fun e => e.1.arm == 0)) = some (try1 (s1.tryArms (mates.filter (fun e => e.1.arm == 0))))) := by
  refine ⟨⟨chooses_of (by decide +kernel), fetches_of (by decide +kernel), by decide +kernel, by decide +kernel, next_of (by decide +kernel),
      by decide +kernel⟩, ⟨⟨chooses_of (by decide +kernel), fetches_of (by decide +kernel), ?_⟩, by decide +kernel, by decide +kernel,
      ctx_of (by decide +kernel), ctx_of (by decide +kernel), by decide +kernel, by decide +kernel, next_of (by decide +kernel), by decide +kernel,
      by decide +kernel, next_of (by decide +kernel), by decide +kernel, by decide +kernel⟩,
    ⟨⟨chooses_of (by decide +kernel), fetches_of (by decide +kernel), ?_⟩, by decide +kernel, by decide +kernel, by decide +kernel,
      by decide +kernel, next_of (by decide +kernel), by decide +kernel, by decide +kernel, next_of (by decide +kernel), by decide +kernel⟩,
    ?_,
    ⟨chooses_of (by decide +kernel), by decide +kernel⟩, by decide +kernel, by decide +kernel, try_of (by decide +kernel), by decide +kernel,
    by decide +kernel, by decide +kernel, counted_of (by decide +kernel), try_of (by decide +kernel), by decide +kernel, try_of (by decide +kernel)⟩
  · exact ⟨.inl ⟨by decide, by decide +kernel, by decide +kernel, fun h => absurd h (by decide)⟩, by decide +kernel, by decide +kernel,
      by decide +kernel⟩
  · exact ⟨.inl ⟨by decide, by decide +kernel, by decide +kernel, fun h => absurd h (by decide)⟩, by decide +kernel, by decide +kernel,
      by decide +kernel⟩
  · intro e he
    rcases List.mem_cons.1 he with rfl | he
    · exact ⟨⟨chooses_of (by decide +kernel), fetches_of (by decide +kernel), ⟨.inl ⟨by decide, by decide +kernel, by decide +kernel,
        fun _ n h1 h2 => two_of h1 h2⟩, by decide +kernel, by decide +kernel, by decide +kernel⟩⟩, by decide +kernel, by decide +kernel, by decide +kernel,
        by decide +kernel, next_of (by decide +kernel), by decide +kernel, cap_of (by decide +kernel)⟩
    · rcases List.mem_singleton.1 he with rfl
      exact ⟨⟨chooses_of (by decide +kernel), fetches_of (by decide +kernel), ⟨.inl ⟨by decide, by decide +kernel, by decide +kernel,
        fun _ n h1 h2 => two_of h1 h2⟩, by decide +kernel, by decide +kernel, by decide +kernel⟩⟩, by decide +kernel, by decide +kernel, by decide +kernel,
        by decide +kernel, next_of (by decide +kernel), by decide +kernel, cap_of (by decide +kernel)⟩
theorem witness_DecodeEncode : (Instr.switch 60 63 3).wf = true ∧ (encode true (.switch 60 63 3)).isSome = true := by decide +kernel

/-- A state with bytes in device memory, in SCRATCH, in host memory and in staging, from which a step is taken. -/
theorem witness_StepInvariant : Claims.Inv { fetched with hostMem := [(5, 1#8)], numVfs := 511 } ∧
    ∃ t, step { fetched with hostMem := [(5, 1#8)], numVfs := 511 } = .next t := by
  refine ⟨⟨by decide +kernel, by decide +kernel, by decide +kernel, ?_, by decide +kernel⟩, ?_⟩
  · have h : ∀ e, e ∈ ({ fetched with hostMem := [(5, 1#8)], numVfs := 511 } : State).allocs → Memory.wf e.2.cells = true := by
      decide +kernel
    exact h
  · have h : (match step { fetched with hostMem := [(5, 1#8)], numVfs := 511 } with | .next _ => true | _ => false) = true := by
      decide +kernel
    cases hs : step { fetched with hostMem := [(5, 1#8)], numVfs := 511 } with
    | next t => exact ⟨t, rfl⟩
    | fault f => rw [hs] at h; cases h
    | refused f => rw [hs] at h; cases h

theorem witness_MemoryLaws : Memory.wf [(0, 1#8), (2 ^ 40 - 1, 255#8)] = true ∧
    (∀ a, Memory.read [(0, 1#8), (2 ^ 40 - 1, 255#8)] a = Memory.read [(0, 1#8), (2 ^ 40 - 1, 255#8)] a) :=
  ⟨by decide +kernel, fun _ => rfl⟩

theorem witness_EveryInstructionAnswers : (encodeFields (.sadd 8 16 24)).isSome = true ∧ (∃ c, demo.ctx? .nop = some c) ∧
    (encodeFields (.taskDispatch 0)).isSome = false :=
  ⟨by decide +kernel, ⟨ctxOf demo .nop, (issues (s := demo) (i := .nop) (by decide +kernel)).1.ctx⟩, by decide +kernel⟩

/-- A wave of eight vector registers, and VADD of v8. -/
theorem witness_IllegalFaults :
    (let s := withW demo (fun w => { w with vregN := 8 })
     let i : Instr := .vadd 0 8 0 0
     (encodeFields i).isSome = true ∧ s.ctx? i = some (ctxOf s i) ∧ (ctxOf s i).arm.cap = none ∧ (s.core 0).engineFull i = false ∧
     (ctxOf s i).wave.lacks i = true) ∧
    (let s := withC demo (fun k => { k with matQ := List.replicate 8 { id := 3, kind := .accz, slot := 0, uid := 1, tid := 1, aid := 1, arm := ⟨0, 0#32⟩, acc := 0, fmt := { }, a := { }, b := { } } })
     s.ctx? (.accz 7) = some (ctxOf s (.accz 7)) ∧ (ctxOf s (.accz 7)).arm.cap = none ∧ (s.core 0).engineFull (.accz 7) = true) ∧
    demo.ctx? .nop = some (ctxOf demo .nop) := by
  refine ⟨⟨by decide +kernel, ctx_of (by decide +kernel), by decide +kernel⟩, ⟨ctx_of (by decide +kernel), by decide +kernel⟩,
    ctx_of (by decide +kernel)⟩

/-- States in which one register is empty: in the view of the arm, or of the wave. -/
def emptyV (r : Nat) : State := withW demo (fun w => w.modArm 0 (fun a => { a with empty := [(r, 7)] }))
def emptyS (r : Nat) : State := withW demo (fun w => { w with sEmpty := [(r, 7)] })

/-- Each of the four kinds of empty register, and the trap of position 2 of VADD's third source. -/
theorem witness_EmptyOperands :
    (∀ e, e ∈ ([(emptyV 16, .vadd 8 16 24 0), (emptyS 16, .sadd 8 16 24), (emptyV 8, .vadd 8 16 24 0), (emptyS 8, .sadd 8 16 24)] :
        List (State × Instr)) →
      (encodeFields e.2).isSome = true ∧ e.1.ctx? e.2 = some (ctxOf e.1 e.2) ∧ (ctxOf e.1 e.2).arm.cap = none ∧
      (e.1.core 0).engineFull e.2 = false ∧ (ctxOf e.1 e.2).wave.lacks e.2 = false ∧
      (ctxOf e.1 e.2).trapSource (uses e.2) = none ∧
      ((∃ r, r ∈ (uses e.2).vs ∧ (ctxOf e.1 e.2).vEmpty r.1 = true) ∨ (∃ r, r ∈ (uses e.2).ss ∧ (ctxOf e.1 e.2).sEmpty r.1 = true) ∨
        (∃ r, r ∈ (uses e.2).vd ∧ (ctxOf e.1 e.2).vEmpty r = true) ∨ (∃ r, r ∈ (uses e.2).sd ∧ (ctxOf e.1 e.2).sEmpty r = true))) ∧
    (let s := withJ (withW (emptyV 36) (fun w => { w with etrap := 4#32 })) (fun j => { j with tent := 15 })
     let i : Instr := .vmad 8 16 24 36 0
     (encodeFields i).isSome = true ∧ s.ctx? i = some (ctxOf s i) ∧ (ctxOf s i).arm.cap = none ∧ (s.core 0).engineFull i = false ∧
     (ctxOf s i).wave.lacks i = false ∧ (ctxOf s i).trapSource (uses i) = some (2, 36) ∧ (ctxOf s i).job.tent ≠ 0xFFFFFFFF) := by
  decide +kernel

/-- SMAP, of class 26, by a job without the class, and on a core without it; a run log with one place left. -/
theorem witness_Capabilities :
    (let s := withJ demo (fun j => { j with oum := 0x03FFFFFF#64 })
     let i : Instr := .smap 0 3
     s.ctx? i = some (ctxOf s i) ∧ (ctxOf s i).arm.cap = none ∧ (ctxOf s i).check (s.core 0) i = .go ∧ (encodeFields i).isSome = true ∧ classOf i = some 26 ∧
     (ctxOf s i).job.oum.getLsbD 26 = false) ∧
    (let s := withC demo (fun k => { k with mask := 0x03FFFFFF#64 })
     let i : Instr := .smap 0 3
     s.ctx? i = some (ctxOf s i) ∧ (ctxOf s i).arm.cap = none ∧ (ctxOf s i).check (s.core 0) i = .go ∧ (encodeFields i).isSome = true ∧ classOf i = some 26 ∧
     (ctxOf s i).job.oum.getLsbD 26 = true ∧ (s.capMask 0).getLsbD 26 = false) ∧
    ((withC demo (fun k => { k with runLog := List.replicate 255 (1, 0) })).core 0).runLog.length < 256 := by
  decide +kernel

theorem witness_FaultHalt : (List.replicate 16 0#32).length ≤ 16 ∧ demo.wave? 0 0 = some placedWave := by decide +kernel

/-- TRAP and BRK with a trap entry and without one. -/
theorem witness_TrapsEnter :
    (let s := withJ demo (fun j => { j with tent := 15 })
     Issues s (.trap 8191) ∧ Issues s (.brk 0) ∧ (ctxOf s (.trap 8191)).job.tent ≠ 0xFFFFFFFF) ∧
    Issues demo (.trap 0) ∧ Issues demo (.brk 8191) ∧ (ctxOf demo (.brk 8191)).job.tent = 0xFFFFFFFF :=
  ⟨⟨issues (by decide +kernel), issues (by decide +kernel), by decide +kernel⟩, issues (by decide +kernel), issues (by decide +kernel),
    by decide +kernel⟩

/-! #### Scalar instructions -/

theorem witness_ScalarTable : Issues demo (.sadd 8 8 63) ∧
    Claims.scalarRule (ctxOf demo (.sadd 8 8 63)) (.sadd 8 8 63) = some (8, 0#32) ∧
    exec (.sadd 8 8 63) demo = .next (nextOf (.sadd 8 8 63) demo) :=
  ⟨issues (by decide +kernel), by decide +kernel, next_of (by decide +kernel)⟩

/-- Amounts of 31 and 32, from registers and lanes. -/
theorem witness_ShiftAmounts :
    (let s := regs [(16, 0x80000001#32), (24, 32#32)]
     let i : Instr := .sshr 8 16 24 1
     Issues s i ∧ Claims.scalarShift (ctxOf s i) i = some (8, 0x80000001#32, 32, 2)) ∧
    (let s := withW demo (fun w => { w with v := [(24, splat 31#32)] })
     let i : Instr := .vshl 8 16 24 0
     Issues s i ∧ (Claims.vectorShift (s.begun (ctxOf s i) i).1 i).map (fun e => (e.1, e.2.2.1 31, e.2.2.2)) = some (8, 31, 0)) :=
  ⟨⟨issues (by decide +kernel), by decide +kernel⟩, issues (by decide +kernel), by decide +kernel⟩

theorem witness_DivideResult : Issues (regs [(16, 0x80000000#32), (24, 0xFFFFFFFF#32)]) (.sdiv 8 16 24 0 1) :=
  issues (by decide +kernel)

theorem witness_BitFields : Issues (regs [(24, 0x201F#32)]) (.sbfx 8 16 24 1) ∧ Issues (regs [(24, 0x3F3F#32)]) (.sbfi 8 16 24) ∧
    Issues demo (.vbfi 8 8 8 0) ∧
    (Claims.vectorField (demo.begun (ctxOf demo (.vbfi 8 8 8 0)) (.vbfi 8 8 8 0)).1 (.vbfi 8 8 8 0)).isSome = true :=
  ⟨issues (by decide +kernel), issues (by decide +kernel), issues (by decide +kernel), by decide +kernel⟩

theorem witness_PredicateWrites : Issues demo (.pmask 0 16) ∧ Issues demo (.pmask 7 16) ∧ Issues demo (.pand 1 1 2 3) ∧
    (∀ l, (fun l => ((ctxOf demo (.pand 1 1 2 3)).wave.preg 1).getLsbD l && ((ctxOf demo (.pand 1 1 2 3)).wave.preg 2).getLsbD l) l =
      (((ctxOf demo (.pand 1 1 2 3)).wave.preg 1).getLsbD l && ((ctxOf demo (.pand 1 1 2 3)).wave.preg 2).getLsbD l)) ∧
    Issues demo (.por 1 1 2 3) ∧ Issues demo (.pxor 0 1 2 3) ∧ Issues demo (.pnot 7 7 0) :=
  ⟨issues (by decide +kernel), issues (by decide +kernel), issues (by decide +kernel), fun _ => rfl, issues (by decide +kernel),
    issues (by decide +kernel), issues (by decide +kernel)⟩

/-- Index 511, the last declared one, full and empty; 512, the first beyond; the message ports s504 to s506 of the owner. -/
def portsOn (l : List (Nat × Word)) : State := withC (regs l) (fun k => { k with port := some 0 })
def message : Msg := { payload := 7#32, job := 1, src := 1, sslot := 0, suid := 9, dst := 0 }
theorem witness_ScalarIndex :
    (∀ i, i ∈ ([.sxget 8 16, .sxset 16 8] : List Instr) →
      (let s := regs [(16, 511#32)]
       Issues s i ∧ (ctxOf s i).isPort (s.noted (ctxOf s i) i) 511 = false ∧ 511 < (ctxOf s i).wave.sregN ∧ (ctxOf s i).sEmpty 511 = false) ∧
      (let s := withW (emptyS 511) (fun w => w.setSs [(16, 511#32)])
       Issues s i ∧ (ctxOf s i).isPort (s.noted (ctxOf s i) i) 511 = false ∧ 511 < (ctxOf s i).wave.sregN ∧ (ctxOf s i).sEmpty 511 = true) ∧
      (let s := regs [(16, 512#32)]
       Issues s i ∧ (ctxOf s i).isPort (s.noted (ctxOf s i) i) 512 = false ∧ (ctxOf s i).wave.sregN ≤ 512) ∧
      (∀ q, q ∈ [504#32, 505#32, 506#32] → (let s := portsOn [(16, q)]
       Issues s i ∧ (ctxOf s i).isPort (s.noted (ctxOf s i) i) q.toNat = true ∧ ((s.core 0).pDest).toNat < 1024 ∧
        (s.core 0).txq.length < 16 ∧ (s.core 0).rxq = [])) ∧
      (let s := withC (portsOn [(16, 506#32)]) (fun k => { k with rxq := [message] })
       Issues s i ∧ (ctxOf s i).isPort (s.noted (ctxOf s i) i) 506 = true ∧ ((s.noted (ctxOf s i) i).core 0).rxq = [message])) ∧
    (let s := withC (portsOn [(16, 505#32)]) (fun k => { k with txq := List.replicate 16 message, pDest := 0x400#32 })
     Issues s (.sxset 16 8) ∧ (ctxOf s (.sxset 16 8)).isPort s 505 = true ∧ 16 ≤ (s.core 0).txq.length) ∧
    (let s := withC (portsOn [(16, 505#32)]) (fun k => { k with txq := List.replicate 15 message, pDest := 0x400#32 })
     Issues s (.sxset 16 8) ∧ (ctxOf s (.sxset 16 8)).isPort s 505 = true ∧ (s.core 0).txq.length < 16 ∧ 1024 ≤ (s.core 0).pDest.toNat) := by
  refine ⟨?_, ⟨issues (by decide +kernel), by decide +kernel⟩, issues (by decide +kernel), by decide +kernel⟩
  intro i hi
  rw [List.mem_cons, List.mem_singleton] at hi
  rcases hi with rfl | rfl
  all_goals
    refine ⟨⟨issues (by decide +kernel), by decide +kernel⟩, ⟨issues (by decide +kernel), by decide +kernel⟩,
      ⟨issues (by decide +kernel), by decide +kernel⟩, ?_, issues (by decide +kernel), by decide +kernel⟩
    intro q hq
    simp only [List.mem_cons, List.not_mem_nil, or_false] at hq
    rcases hq with rfl | rfl | rfl <;> exact ⟨issues (by decide +kernel), by decide +kernel⟩

/-- A result of the demonstration wave in flight that delivers FLAGS. -/
def flagging : State := withW demo (fun w => { w with inflight := [{ loadPending with hasFlags := true }] })
/-- GETC of every assigned index and of 28; SETC at the last value of each register and the first reserved one. -/
theorem witness_ControlRegisters :
    (∀ n, n ∈ List.range 28 → Issues demo (.getc 8 (BitVec.ofNat 13 n)) ∧ (BitVec.ofNat 13 n).toNat < 28) ∧
    Issues demo (.getc 8 28) ∧ (ctxOf demo (.getc 8 1)).wave.inflight.all (fun p => !p.hasFlags) = true ∧
    (Issues flagging (.getc 8 1) ∧ ∃ p, p ∈ (ctxOf flagging (.getc 8 1)).wave.inflight ∧ p.hasFlags = true) ∧
    (∀ e, e ∈ ([(0, 3), (0, 4), (1, 31), (1, 32), (2, 4), (2, 5), (3, 7), (3, 8), (4, 0), (5, 0), (11, 0), (12, 1), (13, 1), (14, 0),
        (24, 0), (25, 0x80FFFFFF), (25, 0x01000000), (26, 0), (8191, 0)] : List (Nat × Nat)) →
      Issues (regs [(8, BitVec.ofNat 32 e.2)]) (.setc 8 (BitVec.ofNat 13 e.1))) := by
  refine ⟨?_, issues (by decide +kernel), by decide +kernel, ⟨issues (by decide +kernel), by decide +kernel⟩, ?_⟩
  · have h : (List.range 28).all (fun n => ok demo (.getc 8 (BitVec.ofNat 13 n)) && room demo (.getc 8 (BitVec.ofNat 13 n)) &&
        decide ((BitVec.ofNat 13 n).toNat < 28)) = true := by decide +kernel
    intro n hn
    have := List.all_eq_true.1 h n hn
    rw [Bool.and_eq_true, decide_eq_true_eq] at this
    exact ⟨issues this.1, this.2⟩
  have h : ([(0, 3), (0, 4), (1, 31), (1, 32), (2, 4), (2, 5), (3, 7), (3, 8), (4, 0), (5, 0), (11, 0), (12, 1), (13, 1), (14, 0),
        (24, 0), (25, 0x80FFFFFF), (25, 0x01000000), (26, 0), (8191, 0)] : List (Nat × Nat)).all (fun e =>
      ok (regs [(8, BitVec.ofNat 32 e.2)]) (.setc 8 (BitVec.ofNat 13 e.1)) &&
        room (regs [(8, BitVec.ofNat 32 e.2)]) (.setc 8 (BitVec.ofNat 13 e.1))) = true := by decide +kernel
  intro e he
  exact issues (List.all_eq_true.1 h e he)
/-! #### Vector instructions -/

theorem witness_VectorTable :
    (let i : Instr := .vadd 8 8 63 0
     Issues demo i ∧ (demo.begun (ctxOf demo i) i).1.popped = false ∧
     Claims.pipeRule (demo.begun (ctxOf demo i) i).1 i = some { vdst := [(8, splat 0#32)] } ∧
     Claims.pipeRule (ctxOf demo i) i = some { vdst := [(8, splat 0#32)] } ∧ (ctxOf demo i).wave.portBank 8 = none ∧
     exec i demo = .next (nextOf i demo)) ∧
    (let i : Instr := .vfaddF32 8 16 24 0
     Issues demo i ∧ (Claims.pipeRule (demo.begun (ctxOf demo i) i).1 i).isSome = true) :=
  ⟨⟨issues (by decide +kernel), by decide +kernel, by decide +kernel, by decide +kernel, by decide +kernel, next_of (by decide +kernel)⟩,
    issues (by decide +kernel), by decide +kernel⟩

/-- Port 0 of the wave is mapped to FIFO bank 0, whose ring holds some elements. -/
def ported (es : List Elem) : State :=
  withT (withW demo (fun w => { w with ports := [(0, 0)] })) (fun t => { t with rings := [(0, es)] })
def elem7 : Elem := { data := splat 7#32, filled := true, res := 0 }

theorem witness_StreamPorts :
    (let s := ported []
     let i : Instr := .vadd 60 16 24 0
     Issues s i ∧ (s.begun (ctxOf s i) i).1.popped = false ∧ Claims.pipeRule (ctxOf s i) i = some { vdst := [(60, splat 0#32)] } ∧
     (ctxOf s i).wave.portBank 60 = some 0 ∧ (ctxOf s i).lanes ≠ 0#32 ∧ NMap.get? s.teams 1 = some (ctxOf s i).team ∧
     exec i s = .next (nextOf i s)) ∧
    (let s := ported [elem7]
     let i : Instr := .vadd 8 60 60 0
     Issues s i ∧ (ctxOf s i).lanes ≠ 0#32 ∧ (ctxOf s i).wave.portsOf ((uses i).vs.map (fun y => y.1)) = [(60, 0)] ∧
     NMap.at (ctxOf s i).team.rings 0 [] = elem7 :: [] ∧ NMap.get? s.teams 1 = some (ctxOf s i).team ∧
     Claims.pipeRule (s.begun (ctxOf s i) i).1 i = some { vdst := [(8, splat 14#32)] } ∧ (ctxOf s i).wave.portBank 8 = none ∧
     exec i s = .next (nextOf i s)) :=
  ⟨⟨issues (by decide +kernel), by decide +kernel, by decide +kernel, by decide +kernel, by decide +kernel, by decide +kernel,
      next_of (by decide +kernel)⟩,
    issues (by decide +kernel), by decide +kernel, by decide +kernel, by decide +kernel, by decide +kernel, by decide +kernel,
    by decide +kernel, next_of (by decide +kernel)⟩

/-- A producer of a vector and a scalar; the SFU with every lane and with none. -/
theorem witness_Producers :
    (demo.ctx? .nop = some (ctxOf demo .nop) ∧ (ctxOf demo .nop).wave.portBank 59 = none) ∧
    (let i : Instr := .vfsqrt 8 16 0
     Issues demo i ∧ (Claims.sfuRule (demo.begun (ctxOf demo i) i).1 i).isSome = true ∧ (ctxOf demo i).lanes ≠ 0#32) ∧
    (let i : Instr := .vsin 8 16 1
     Issues demo i ∧ (Claims.sfuRule (demo.begun (ctxOf demo i) i).1 i).isSome = true ∧ (ctxOf demo i).lanes = 0#32) :=
  ⟨⟨ctx_of (by decide +kernel), by decide +kernel⟩, ⟨issues (by decide +kernel), by decide +kernel, by decide +kernel⟩,
    issues (by decide +kernel), by decide +kernel, by decide +kernel⟩

theorem witness_ReduceAndScan : Issues demo (.vred 8 16 0 7) ∧ Issues demo (.vscan 8 16 1 0) ∧
    (demo.begun (ctxOf demo (.vred 8 16 0 7)) (.vred 8 16 0 7)).1.lanes.getLsbD 31 = true :=
  ⟨issues (by decide +kernel), issues (by decide +kernel), by decide +kernel⟩

theorem witness_VectorCompare :
    (∀ i, i ∈ ([.vcmpInt 1 2 24 36 7 11, .vcmpImm 0 0 24 63 0 0, .vcmpF32 7 6 24 36 5 13] : List Instr) → Issues demo i ∧ i.wf = true) ∧
    (∃ r : Nat → Bool, ∀ l, r l = condVector 11 ((demo.begun (ctxOf demo (.vcmpInt 1 2 24 36 7 11)) (.vcmpInt 1 2 24 36 7 11)).1.vl 24 l)
      ((demo.begun (ctxOf demo (.vcmpInt 1 2 24 36 7 11)) (.vcmpInt 1 2 24 36 7 11)).1.vl 36 l)) := by
  refine ⟨?_, fun _ => _, fun _ => rfl⟩
  intro i hi
  simp only [List.mem_cons, List.not_mem_nil, or_false] at hi
  rcases hi with rfl | rfl | rfl <;> exact ⟨issues (by decide +kernel), by decide +kernel⟩

theorem witness_PredicateZero :
    (let x : Result := { sdst := [(3, 5#32)], vdst := [(4, splat 6#32)], pdst := [(0, 0xFFFFFFFF#32, 0#32)] }
     ((3, 5#32) : Nat × Word) ∈ x.sdst ∧ (∀ e, e ∈ x.sdst → e.1 = 3 → e.2 = 5#32) ∧ ((4, splat 6#32) : Nat × LaneVec) ∈ x.vdst ∧
     (∀ e, e ∈ x.vdst → e.1 = 4 → e.2 = splat 6#32) ∧ x.pdst = [(0, 0xFFFFFFFF#32, 0#32)]) := by
  decide +kernel

/-- A quiet and a signalling NaN, and a number. -/
theorem witness_FloatSpecials :
    ([0x7FC00000#32, 0x7F800001#32, 0xFFFFFFFF#32] : List Word).all (fun x => x.extractLsb' 23 8 == 0xFF#8 && x.extractLsb' 0 23 != 0#23) = true ∧
    (0x7F800001#32).getLsbD 22 = false ∧ (0x7FC00000#32).getLsbD 22 = true ∧
    ¬ ((0x7F800000#32).extractLsb' 23 8 = 0xFF#8 ∧ (0x7F800000#32).extractLsb' 0 23 ≠ 0#23) := by
  decide +kernel

/-! #### Transfers of control and arms -/

/-- The arm of the demonstration wave stands at another packet of its 16. -/
def atPc (n : Nat) : State := withW demo (fun w => w.modArm 0 (fun a => { a with pc := n }))

theorem witness_TransfersOfControl :
    (let s := regs [(8, 1#32)]
     Issues s (.bz 8 1) ∧ Claims.branch (ctxOf s (.bz 8 1)) (.bz 8 1) = some ((ctxOf s (.bz 8 1)).wave.sreg 8 = 0#32, 1) ∧
     ¬ (ctxOf s (.bz 8 1)).wave.sreg 8 = 0#32) ∧
    (Issues (atPc 15) (.bra (-15)) ∧ Claims.branch (ctxOf (atPc 15) (.bra (-15))) (.bra (-15)) = some (True, -15) ∧
      (0 : Int) ≤ (ctxOf (atPc 15) (.bra (-15))).arm.pc + (-15)) ∧
    (Issues (atPc 15) (.bra 1) ∧ Claims.branch (ctxOf (atPc 15) (.bra 1)) (.bra 1) = some (True, 1) ∧
      ((ctxOf (atPc 15) (.bra 1)).job.npkt : Int) ≤ (ctxOf (atPc 15) (.bra 1)).arm.pc + 1) ∧
    (Issues demo (.bany 0 1 3) ∧ Claims.tilesHold (ctxOf demo (.bany 0 1 3)) 1 (fun l => ((ctxOf demo (.bany 0 1 3)).wave.preg 0).getLsbD l = true) True) ∧
    (Issues demo (.bnone 1 0 3) ∧ Claims.tilesHold (ctxOf demo (.bnone 1 0 3)) 0 (fun l => ((ctxOf demo (.bnone 1 0 3)).wave.preg 1).getLsbD l = true) False) ∧
    Issues demo (.call 15) ∧ (0 : Int) ≤ (ctxOf demo (.call 15)).arm.pc + (15 : BitVec 25).toInt ∧
    (ctxOf demo (.call 15)).arm.pc + (15 : BitVec 25).toInt < (ctxOf demo (.call 15)).job.npkt ∧
    Issues demo (.call (-1)) ∧ (ctxOf demo (.call (-1))).arm.pc + (-1 : BitVec 25).toInt < 0 ∧
    (let s := regs [(8, 180#32)]
     Issues s (.jmp 8) ∧ pair ((ctxOf s (.jmp 8)).wave.sreg 8) ((ctxOf s (.jmp 8)).wave.sreg 9) = (ctxOf s (.jmp 8)).job.cbase + 12 * 15 ∧
     15 < (ctxOf s (.jmp 8)).job.npkt) ∧
    (∀ x, x ∈ [(8, 181#32), (8, 192#32)] → Issues (regs [x]) (.ret 8) ∧ ∀ n, n < (ctxOf (regs [x]) (.ret 8)).job.npkt →
      pair ((ctxOf (regs [x]) (.ret 8)).wave.sreg 8) ((ctxOf (regs [x]) (.ret 8)).wave.sreg 9) ≠ (ctxOf (regs [x]) (.ret 8)).job.cbase + 12 * n) := by
  refine ⟨⟨issues (by decide +kernel), rfl, by decide +kernel⟩, ⟨issues (by decide +kernel), rfl, by decide +kernel⟩,
    ⟨issues (by decide +kernel), rfl, by decide +kernel⟩, ⟨issues (by decide +kernel), ?_, ?_⟩, ⟨issues (by decide +kernel), ?_, ?_⟩,
    issues (by decide +kernel), by decide +kernel, by decide +kernel, issues (by decide +kernel), by decide +kernel,
    ⟨issues (by decide +kernel), by decide +kernel, by decide +kernel⟩, ?_⟩
  · decide +kernel
  · have h : ∀ l, l < 32 → ((ctxOf demo (.bany 0 1 3)).wave.preg 0).getLsbD l = true := by decide +kernel
    rintro g ⟨l, hl, hg, hx⟩
    exact ⟨fun _ => trivial, fun _ => ⟨l, hl, hg, hx, h l hl⟩⟩
  · decide +kernel
  · have h : ∀ l, l < 32 → ((ctxOf demo (.bnone 1 0 3)).wave.preg 1).getLsbD l = false := by decide +kernel
    rintro g _
    refine ⟨?_, False.elim⟩
    rintro ⟨l, hl, _, _, hx⟩
    exact absurd (hx.symm.trans (h l hl)) (by decide)
  · intro x hx
    simp only [List.mem_cons, List.not_mem_nil, or_false] at hx
    rcases hx with rfl | rfl <;> exact ⟨issues (by decide +kernel), by decide +kernel⟩

/-- Parts of a split: a state with one arm split off, another part on the stack. -/
def part (n : Nat) : Part := { pc := n, lanes := 0x0000FFFF#32, grp := 1, empty := [] }
def grouped1 (rem : Nat) : Group := { id := 1, parentGrp := 0, remaining := rem, lanes := 0xFFFFFFFF#32, empty := [(3, 9)] }
def splitState (rem : Nat) (st : List Part) : State :=
  withW demo (fun w => { w with groups := [grouped1 rem], stack := st, arms := [(0, { grp := 1 })] })

theorem witness_SplitsTheWave :
    Issues demo (.split 3 15) ∧ (0 : Int) ≤ (ctxOf demo (.split 3 15)).arm.pc + (15 : BitVec 16).toInt ∧
    (ctxOf demo (.split 3 15)).arm.pc + (15 : BitVec 16).toInt < (ctxOf demo (.split 3 15)).job.npkt ∧
    Issues demo (.split 3 16) ∧ ((ctxOf demo (.split 3 16)).job.npkt : Int) ≤ (ctxOf demo (.split 3 16)).arm.pc + (16 : BitVec 16).toInt ∧
    Issues (atPc 10) (.switch 60 63 3) ∧ (ctxOf (atPc 10) (.switch 60 63 3)).arm.pc + 1 + 4 < (ctxOf (atPc 10) (.switch 60 63 3)).job.npkt ∧
    Issues (atPc 11) (.switch 60 63 3) ∧ (ctxOf (atPc 11) (.switch 60 63 3)).job.npkt ≤ (ctxOf (atPc 11) (.switch 60 63 3)).arm.pc + 1 + 4 ∧
    (demo.wave? 0 0 = some (ctxOf demo .nop).wave ∧ NMap.get? (ctxOf demo .nop).wave.arms 0 = some (ctxOf demo .nop).arm ∧
      (ctxOf demo .nop).wave.groups = [] ∧
      ([⟨0#32, 1⟩] : List PartAt).filter (fun p => p.lanes != 0#32) = [] ∧
      ([⟨0#32, 1⟩, ⟨1#32, 2⟩] : List PartAt).filter (fun p => p.lanes != 0#32) = [⟨1#32, 2⟩] ∧
      ([⟨1#32, 1⟩, ⟨2#32, 2⟩] : List PartAt).filter (fun p => p.lanes != 0#32) = ⟨1#32, 1⟩ :: ⟨2#32, 2⟩ :: []) ∧
    (let s := splitState 2 (List.replicate 16 (part 1))
     s.wave? 0 0 = some (ctxOf s .nop).wave ∧ NMap.get? (ctxOf s .nop).wave.arms 0 = some (ctxOf s .nop).arm ∧
     (ctxOf s .nop).wave.stack.length ≤ 16 ∧
     ¬ (2 - 1 + (ctxOf s .nop).wave.stack.length ≤ 16 ∧ (ctxOf s .nop).wave.groups.length ≠ 31)) ∧
    (let s := splitState 2 (List.replicate 15 (part 1))
     (ctxOf s .nop).wave.groups ≠ [] ∧ 2 - 1 + (ctxOf s .nop).wave.stack.length ≤ 16 ∧ (ctxOf s .nop).wave.groups.length ≠ 31) :=
  ⟨issues (by decide +kernel), by decide +kernel, by decide +kernel, issues (by decide +kernel), by decide +kernel,
    issues (by decide +kernel), by decide +kernel, issues (by decide +kernel), by decide +kernel, by decide +kernel, by decide +kernel,
    by decide +kernel⟩

theorem witness_MergeJoins :
    (Issues demo .merge ∧ (ctxOf demo .merge).wave.groups = []) ∧
    (let s := splitState 2 [part 4, part 5]
     Issues s .merge ∧ (ctxOf s .merge).wave.groups.find? (fun x => x.id == (ctxOf s .merge).arm.grp) = some (grouped1 2) ∧
     (ctxOf s .merge).wave.stack = part 4 :: [part 5]) ∧
    (let s := splitState 2 []
     Issues s .merge ∧ (ctxOf s .merge).wave.groups.find? (fun x => x.id == (ctxOf s .merge).arm.grp) = some (grouped1 2) ∧
     (ctxOf s .merge).wave.stack = []) ∧
    (let s := splitState 1 []
     Issues s .merge ∧ (ctxOf s .merge).wave.groups.find? (fun x => x.id == (ctxOf s .merge).arm.grp) = some (grouped1 1)) :=
  ⟨⟨issues (by decide +kernel), by decide +kernel⟩, ⟨issues (by decide +kernel), by decide +kernel, by decide +kernel⟩,
    ⟨issues (by decide +kernel), by decide +kernel, by decide +kernel⟩, issues (by decide +kernel), by decide +kernel⟩
/-! #### The system group -/

/-- A store of the demonstration wave that waits in the side log; the wave with its load in flight. -/
def sideEntry : SideEntry :=
  { slot := 0, uid := 1, arm := ⟨0, 0xFFFFFFFF#32⟩, exm := 0xFFFFFFFF#32, tid := 1, job := 1, pasid := 1, page := 64, va0 := 64 * 4096, lanes := 0#32,
    parts := [(0, 64 * 4096, [9#8])], whole := [], nt := false, atom := none, pc := 0, word := 0, ins := 0 }
def logged : State := withC demo (fun k => { k with sideLog := [sideEntry] })
def loading : State := withW demo (fun w => { w with inflight := [loadPending], sEmpty := [(9, 7)] })

theorem witness_WaveEndsAndWaits :
    Issues demo .nop ∧ Issues demo .preon ∧
    Issues (regs [(8, 0#32)]) (.preoff 8) ∧ Issues (regs [(8, 65537#32)]) (.preoff 8) ∧
    (let s := regs [(8, 65536#32)]
     Issues s (.preoff 8) ∧ (ctxOf s (.preoff 8)).job.plim = 65536 ∧ (ctxOf s (.preoff 8)).wave.pres = 0#32 ∧
     (ctxOf s (.preoff 8)).team.switching = false) ∧
    (let s := withT (regs [(8, 1#32)]) (fun t => { t with switching := true })
     Issues s (.preoff 8) ∧ (ctxOf s (.preoff 8)).team.switching = true) ∧
    (Issues demo (.drain 0) ∧ (demo.noted (ctxOf demo (.drain 0)) (.drain 0)).outstanding 0 (ctxOf demo (.drain 0)).wave demo.handles = 0) ∧
    (Issues logged (.drain 0) ∧ 0 < (logged.noted (ctxOf logged (.drain 0)) (.drain 0)).outstanding 0 (ctxOf logged (.drain 0)).wave logged.handles) ∧
    (Issues (regs [(8, 1#32)]) (.cwait 8) ∧ 1 % 16 ≠ 0) ∧
    (let s := regs [(8, 131072#32)]
     Issues s (.cwait 8) ∧ 131072 % 16 = 0 ∧ ((s.noted (ctxOf s (.cwait 8)) (.cwait 8)).alloc 1).bytes < 131072 + 16) ∧
    (let s := (regs [(8, 131056#32)]).modAlloc 1 (fun a => { a with pois := [131056 / 32] })
     Issues s (.cwait 8) ∧ 131056 + 16 ≤ ((s.noted (ctxOf s (.cwait 8)) (.cwait 8)).alloc 1).bytes ∧
     131056 / 32 ∈ ((s.noted (ctxOf s (.cwait 8)) (.cwait 8)).alloc 1).pois) ∧
    (let s := regs [(8, 131056#32)]
     Issues s (.cwait 8) ∧ 131056 / 32 ∉ ((s.noted (ctxOf s (.cwait 8)) (.cwait 8)).alloc 1).pois ∧
     ∀ k, k < 4 → ((s.noted (ctxOf s (.cwait 8)) (.cwait 8)).alloc 1).cells.read (131056 + k) = 0#8) ∧
    (let s := (regs [(8, 131056#32)]).modAlloc 1 (fun a => { a with cells := [(131059, 1#8)] })
     Issues s (.cwait 8) ∧ ¬ ∀ k, k < 4 → ((s.noted (ctxOf s (.cwait 8)) (.cwait 8)).alloc 1).cells.read (131056 + k) = 0#8) ∧
    (Issues demo .exit ∧ pair (ctxOf demo .exit).wave.tfutl (ctxOf demo .exit).wave.tfuth = 0) ∧
    (let s := withW demo (fun w => { w with tfutl := 32#32 })
     Issues s .exit ∧ pair (ctxOf s .exit).wave.tfutl (ctxOf s .exit).wave.tfuth ≠ 0) := by
  refine ⟨?_, ?_, ?_, ?_, ⟨?_, ?_⟩, ⟨?_, ?_⟩, ⟨?_, ?_⟩, ⟨?_, ?_⟩, ⟨?_, ?_⟩, ⟨?_, ?_⟩, ⟨?_, ?_⟩, ⟨?_, ?_⟩, ⟨?_, ?_⟩, ⟨?_, ?_⟩, ?_, ?_⟩ <;>
    first | exact issues (by decide +kernel) | decide +kernel

/-- A request of the core to a peer that is not acknowledged. -/
def linkReq : LinkReq :=
  { tag := 5, op := .write 4096 [1#8] [], sends := 1, core := 0, slot := 0, uid := 1, pend := 3, lane := 0, job := 1, wave := 0#32,
    team := 0#32, lanes := 0#32, va := 0, ret := false }
def linked : State := { demo with links := [(3, { next := 6, open_ := [linkReq] })] }

theorem witness_FencesComplete :
    (∀ i, i ∈ ([.fence 6, .rel 6] : List Instr) →
      (Issues demo i ∧ (demo.noted (ctxOf demo i) i).unperformed 0 (ctxOf demo i).wave demo.handles = false) ∧
      (Issues logged i ∧ (logged.noted (ctxOf logged i) i).unperformed 0 (ctxOf logged i).wave logged.handles = true)) ∧
    (let s := linked
     Issues s (.rel 6) ∧ ∃ d, d ∈ (s.noted (ctxOf s (.rel 6)) (.rel 6)).links ∧ ∃ q, q ∈ d.2.open_ ∧ q.core = 0) ∧
    (Issues demo (.acq 2) ∧ (ctxOf demo (.acq 2)).wave.loadsBelow (demo.noted (ctxOf demo (.acq 2)) (.acq 2)).handles = false) ∧
    (let s := { loading with handles := 8 }
     Issues s (.acq 2) ∧ (ctxOf s (.acq 2)).wave.loadsBelow (s.noted (ctxOf s (.acq 2)) (.acq 2)).handles = true) := by
  refine ⟨?_, ⟨?_, ?_⟩, ⟨?_, ?_⟩, ?_, ?_⟩
  · intro i hi
    simp only [List.mem_cons, List.not_mem_nil, or_false] at hi
    rcases hi with rfl | rfl <;>
      exact ⟨⟨issues (by decide +kernel), by decide +kernel⟩, issues (by decide +kernel), by decide +kernel⟩
  all_goals first | exact issues (by decide +kernel) | decide +kernel

/-- A core with a dirty line in its L1, whose cluster cache holds one that the core's signature matches, and the two sides of the scopes at
which a release and an acquire begin to act and reach the cluster cache. -/
def dirtyLine : CLine := { pasid := 1, bytes := [(0, ⟨5#8, true⟩), (1, ⟨6#8, false⟩)] }
def dirtyState : State := withC demo (fun k => { k with l1 := [(9, dirtyLine)] })
theorem dirty_tidy : Claims.Tidy dirtyState 0 := ⟨by decide +kernel, by decide +kernel, by decide +kernel⟩
def ccState : State := (withC dirtyState (fun k => { k with sigS := sigAdd 0#2048 9 })).modCluster 0 (fun k => { k with cc := [(9, dirtyLine)] })
theorem witness_ReleaseAndAcquire :
    (Claims.Tidy ccState 0 ∧ (3 : Nat) ≤ 3 ∧ NMap.get? (ccState.cluster (clusterOf 0)).cc 9 = some dirtyLine ∧
      sigMatch (ccState.core 0).sigS 9 = true ∧ NMap.get? dirtyLine.bytes 0 = some ⟨5#8, true⟩ ∧
      ((9, dirtyLine) : Nat × CLine) ∈ (ccState.cluster (clusterOf 0)).cc ∧ dirtyLine.dirty ≠ []) ∧
    (1 : Nat) < 2 ∧ (2 : Nat) ≤ 2 ∧ Claims.Tidy dirtyState 0 ∧
    NMap.get? (dirtyState.core 0).l1 9 = some dirtyLine ∧ dirtyLine.dirty ≠ [] ∧ ((9, dirtyLine) : Nat × CLine) ∈ (dirtyState.core 0).l1 := by
  exact ⟨⟨⟨by decide +kernel, by decide +kernel, by decide +kernel⟩, by decide, by decide +kernel, by decide +kernel, by decide +kernel,
    by decide +kernel, by decide +kernel⟩, by decide, by decide, dirty_tidy, by decide +kernel⟩

/-- A team with a point of its own, and its wave. -/
def pointed (p : Nat) (x : Point) (l : List (Nat × Word)) : State := withT (regs l) (fun t => { t with points := [(p, x)] })
/-- An arm that waits for the end of a phase of point 0, which is in phase 5, of a team that is abandoned or not. -/
def rdvArm (phase : Nat) : Arm := { hold := .rendezvous 0 phase }
def waitingAt (phase : Nat) (gone : Bool) : State :=
  withW (withT (pointed 0 ⟨some 2, 0, 5⟩ []) (fun t => { t with abandoned := gone })) (fun w => { w with arms := [(0, rdvArm phase)] })
theorem witness_Rendezvous :
    NMap.get? demo.teams 1 = some (ctxOf demo .nop).team ∧
    (∀ i, i ∈ ([.rdvi 8 23, .rdva 23, .rdvw 23] : List Instr) →
      Issues (splitState 2 []) i ∧ (ctxOf (splitState 2 []) i).wave.groups ≠ [] ∧
      Issues demo i ∧ (ctxOf demo i).wave.groups = [] ∧ ((ctxOf demo i).team.point 23).e = none) ∧
    (∀ n, n ∈ [0, 1, 4095, 4096] → Issues (regs [(8, BitVec.ofNat 32 n)]) (.rdvi 8 0)) ∧
    (let s := pointed 0 ⟨some 4095, 3, 2⟩ [(8, 4094#32)]
     Issues s (.rdvi 8 0) ∧ ((ctxOf s (.rdvi 8 0)).team.point 0).e ≠ some 4094 ∧ ((ctxOf s (.rdvi 8 0)).team.point 0).e ≠ none) ∧
    (let s := pointed 0 ⟨some 4095, 3, 2⟩ [(8, 4095#32)]
     Issues s (.rdvi 8 0) ∧ ((ctxOf s (.rdvi 8 0)).team.point 0).e = some 4095) ∧
    (∀ x, x ∈ [(⟨some 2, 0, 5⟩ : Point), ⟨some 2, 1, 5⟩] → (let s := pointed 0 x []
      Issues s (.rdva 0) ∧ ((ctxOf s (.rdva 0)).team.point 0).e = some 2 ∧ s.unperformed 0 (ctxOf s (.rdva 0)).wave s.handles = false)) ∧
    (let s := withW (pointed 0 ⟨some 2, 0, 5⟩ []) (fun w => { w with arrived := [(0, 4)] })
     Issues s (.rdvw 0) ∧ (NMap.get? (ctxOf s (.rdvw 0)).wave.arrived 0).getD 5 < 5) ∧
    (let s := withT (pointed 0 ⟨some 2, 0, 5⟩ []) (fun t => { t with abandoned := true })
     Issues s (.rdvw 0) ∧ 5 ≤ (NMap.get? (ctxOf s (.rdvw 0)).wave.arrived 0).getD 5 ∧ (ctxOf s (.rdvw 0)).team.abandoned = true ∧
     (ctxOf s (.rdvw 0)).team.abandoning = false) ∧
    (let s := withT (pointed 0 ⟨some 2, 0, 5⟩ []) (fun t => { t with abandoned := true, abandoning := true })
     Issues s (.rdvw 0) ∧ (ctxOf s (.rdvw 0)).team.abandoning = true) ∧
    (let s := pointed 0 ⟨some 2, 0, 5⟩ []
     Issues s (.rdvw 0) ∧ 5 ≤ (NMap.get? (ctxOf s (.rdvw 0)).wave.arrived 0).getD 5 ∧ (ctxOf s (.rdvw 0)).team.abandoned = false) ∧
    ([(4, false), (5, false), (5, true), (4, true)].all (fun e => let s := waitingAt e.1 e.2
      decide ((⟨0, 0, 0⟩, waveOf s, rdvArm e.1) ∈ s.arms ∧ (s.arms.map (fun e => e.1)).Nodup ∧ s.wave? 0 0 = some (waveOf s) ∧
        (waveOf s).arms = [(0, rdvArm e.1)] ∧ (waveOf s).loading = false ∧ ((s.team 1).point 0).phase = 5 ∧ (s.team 1).abandoned = e.2))) = true := by
  refine ⟨by decide +kernel, ?_, ?_, ⟨?_, ?_⟩, ⟨?_, ?_⟩, ?_, ⟨?_, ?_⟩, ⟨?_, ?_, ?_⟩, ⟨?_, ?_⟩, ⟨?_, ?_⟩, ?_⟩
  · intro i hi
    simp only [List.mem_cons, List.not_mem_nil, or_false] at hi
    rcases hi with rfl | rfl | rfl <;>
      exact ⟨issues (by decide +kernel), by decide +kernel, issues (by decide +kernel), by decide +kernel, by decide +kernel⟩
  · intro n hn
    simp only [List.mem_cons, List.not_mem_nil, or_false] at hn
    rcases hn with rfl | rfl | rfl | rfl <;> exact issues (by decide +kernel)
  rotate_left 4
  · intro x hx
    simp only [List.mem_cons, List.not_mem_nil, or_false] at hx
    rcases hx with rfl | rfl <;> exact ⟨issues (by decide +kernel), by decide +kernel⟩
  all_goals first | exact issues (by decide +kernel) | decide +kernel

theorem witness_PortsAreMapped :
    (Issues demo (.smap 1 3) ∧ (ctxOf demo (.smap 1 3)).team.fifoN ≤ 1) ∧
    (let s := emptyV 63
     Issues s (.smap 0 3) ∧ 0 < (ctxOf s (.smap 0 3)).team.fifoN ∧ (ctxOf s (.smap 0 3)).wave.emptyAnywhere 63 = true) ∧
    (Issues demo (.smap 0 3) ∧ (ctxOf demo (.smap 0 3)).wave.emptyAnywhere 63 = false) ∧
    (Issues demo (.sunmap 3) ∧ NMap.get? (ctxOf demo (.sunmap 3)).wave.ports 3 = none) ∧
    (let s := ported []
     Issues s (.sunmap 0) ∧ NMap.get? (ctxOf s (.sunmap 0)).wave.ports 0 ≠ none ∧
     ((ctxOf s (.sunmap 0)).wave.inflight.any (fun q => q.push.any (fun e => e.1 == 60)) ||
       (ctxOf s (.sunmap 0)).otherNames (s.noted (ctxOf s (.sunmap 0)) (.sunmap 0)) 60) = false) ∧
    (let s := withW (ported []) (fun w => { w with inflight := [{ loadPending with push := [(60, 0, 1)] }] })
     Issues s (.sunmap 0) ∧ NMap.get? (ctxOf s (.sunmap 0)).wave.ports 0 ≠ none ∧
     ((ctxOf s (.sunmap 0)).wave.inflight.any (fun q => q.push.any (fun e => e.1 == 60)) ||
       (ctxOf s (.sunmap 0)).otherNames (s.noted (ctxOf s (.sunmap 0)) (.sunmap 0)) 60) = true) ∧
    (∀ o, o ∈ [none, some 0, some 1] → ∀ e, e ∈ [0#1, 1#1] →
      Issues (withC demo (fun k => { k with port := o, rxq := [message] })) (.mqcfg e)) ∧
    (ctxOf demo (.mqcfg 0)).otherInjects demo = false := by
  refine ⟨⟨?_, ?_⟩, ⟨?_, ?_⟩, ⟨?_, ?_⟩, ⟨?_, ?_⟩, ⟨?_, ?_⟩, ⟨?_, ?_⟩, ?_, ?_⟩
  rotate_left 12
  · intro o ho e he
    simp only [List.mem_cons, List.not_mem_nil, or_false] at ho he
    rcases ho with rfl | rfl | rfl <;> rcases he with rfl | rfl <;> exact issues (by decide +kernel)
  all_goals first | exact issues (by decide +kernel) | decide +kernel

/-- The pennant free, held by the wave, held by slot 5; a second wave of the same job, of another job, one that has ended. -/
def held (h : Option Nat) : State := withC demo (fun k => { k with holder := h, acc := [(0, 1#32)] })
def second (f : Wave → Wave) : State :=
  withC (withW (held (some 0)) (fun w => w.setSs [(8, 63#32)]))
    (fun k => { k with slots := NMap.put k.slots 63 (f { placedWave with uid := 2, idx := 1 }) })
theorem witness_PennantMoves :
    (Issues (held none) .ptake ∧ ((held none).core 0).holder = none ∧ (ctxOf (held none) .ptake).arm.hold ≠ .pennant) ∧
    (Issues (held (some 0)) .ptake ∧ ((held (some 0)).core 0).holder = some 0) ∧
    (Issues (held (some 63)) .ptake ∧ ((held (some 63)).core 0).holder = some 63) ∧
    (∀ i, i ∈ ([.ppassFree, .ppass 8] : List Instr) → Issues (held none) i ∧ ((held none).core 0).holder ≠ some 0 ∧
      ((ctxOf (held none) i).wave.sreg 8).toNat < 64) ∧
    (let s := held (some 0)
     Issues s .ppassFree ∧ (s.core 0).holder = some 0 ∧ (s.core 0).matrixBusy (ctxOf s .ppassFree).wave.uid = false ∧
     (ctxOf s .ppassFree).wave.ended = false ∧
     (∀ e, e ∈ (ctxOf s .ppassFree).wave.arms → e.2.heldBy Hold.isPassing = false)) ∧
    (Issues (regs [(8, 64#32)]) (.ppass 8) ∧ 64 ≤ ((ctxOf (regs [(8, 64#32)]) (.ppass 8)).wave.sreg 8).toNat) ∧
    (let s := withW (held (some 0)) (fun w => w.setSs [(8, 63#32)])
     Issues s (.ppass 8) ∧ (s.core 0).holder = some 0 ∧ s.wave? 0 63 = none) ∧
    (let s := second (fun w => { w with ended := true })
     Issues s (.ppass 8) ∧ (s.core 0).holder = some 0 ∧ s.wave? 0 63 = some { placedWave with uid := 2, idx := 1, ended := true }) ∧
    (let s := second id
     Issues s (.ppass 8) ∧ (s.core 0).holder = some 0 ∧ s.wave? 0 63 = some { placedWave with uid := 2, idx := 1 } ∧
     (s.team 1).job = (ctxOf s (.ppass 8)).job.jid ∧ (ctxOf s (.ppass 8)).wave.ended = false ∧
     (s.core 0).matrixBusy (ctxOf s (.ppass 8)).wave.uid = false ∧
     (∀ e, e ∈ (ctxOf s (.ppass 8)).wave.arms → e.2.heldBy Hold.isPassing = false)) := by
  refine ⟨⟨?_, ?_⟩, ⟨?_, ?_⟩, ⟨?_, ?_⟩, ?_, ⟨?_, ?_, ?_, ?_, ?_⟩, ⟨?_, ?_⟩, ⟨?_, ?_⟩, ⟨?_, ?_⟩, ⟨?_, ?_, ?_, ?_, ?_, ?_, ?_⟩⟩
  rotate_left 6
  · intro i hi
    simp only [List.mem_cons, List.not_mem_nil, or_false] at hi
    rcases hi with rfl | rfl <;> exact ⟨issues (by decide +kernel), by decide +kernel⟩
  all_goals first | exact issues (by decide +kernel) | decide +kernel
/-! #### Memory -/

/-- Virtual page 0x10000 of PASID 1 lies at device address 0x20000. -/
def mapped : State := withC demo (fun k => { k with tlb := [⟨1, 0x10000, 4096, .dpa 0x20000, true, true⟩] })
def mappedR (l : List (Nat × Word)) : State := withW mapped (fun w => w.setSs l)
/-- The base address in s16:s17, and 4 × lane in v24. -/
def mappedV : State := withW (mappedR [(16, 0x10000#32)]) (fun w => { w with v := [(24, LaneVec.ofFn (fun l => BitVec.ofNat 32 (4 * l)))] })

def hits (s : State) (c : Ctx) (write : Bool) (va x : Nat) : Bool :=
  decide (va < 2 ^ 57) && (s.core c.r.core).sideLog.all (fun e => e.pasid != c.job.pasid || e.page != va / 4096) &&
    decide (s.xlate c.r.core c.job.pasid va write = .hit (.dpa x)) &&
    decide (write = true → va + 16 ≤ c.job.cbase ∨ c.job.cbase + 12 * c.job.npkt ≤ va)

theorem hits_of {s : State} {c : Ctx} {write : Bool} {va x : Nat} (h : hits s c write va x = true) : Claims.Hits s c write va x := by
  unfold hits at h
  simp only [Bool.and_eq_true, decide_eq_true_eq, List.all_eq_true, Bool.or_eq_true, bne_iff_ne] at h
  exact ⟨h.1.1.1, h.1.1.2, h.1.2, h.2⟩

/-- A core whose caches hold nothing. -/
def cold (s : State) (core : Nat) : Bool := (s.core core).l1.isEmpty && (s.cluster (clusterOf core)).cc.isEmpty

theorem alone_of {s : State} {core pasid : Nat} (h : cold s core = true) : Claims.Alone s core pasid := by
  unfold cold at h
  simp only [Bool.and_eq_true, List.isEmpty_iff] at h
  refine ⟨?_, ?_, fun _ => h.2⟩
  · intro la l hl; rw [h.1] at hl; cases hl
  · intro la l hl; rw [h.2] at hl; cases hl

/-- Room for lines, as a test. -/
def space (s : State) (core : Nat) (lines : List Nat) : Bool :=
  decide ((s.core core).l1.length + (Claims.absent (s.core core).l1 lines).length ≤ 2048) &&
    (Claims.absent (s.cluster (clusterOf core)).cc lines).all (fun la =>
      decide ((s.ccSet (clusterOf core) la).length +
        ((Claims.absent (s.cluster (clusterOf core)).cc lines).filter (fun k => k % 1024 == la % 1024)).length ≤ s.cacheBanks (clusterOf core)))

theorem space_of {s : State} {core : Nat} {lines : List Nat} (h : space s core lines = true) : Claims.Room s core lines := by
  unfold space at h
  simp only [Bool.and_eq_true, decide_eq_true_eq, List.all_eq_true] at h
  exact ⟨.inr h.1, fun la _ hla => h.2 la hla⟩

theorem unpoisoned_of {s : State} {core x : Nat} (h : (cold s core && s.poison.isEmpty) = true) : Claims.Unpoisoned s core x := by
  unfold cold at h
  simp only [Bool.and_eq_true, List.isEmpty_iff] at h
  refine ⟨by rw [h.2]; exact List.not_mem_nil, ?_, ?_⟩
  · intro l hl; rw [h.1.1] at hl; cases hl
  · intro l hl; rw [h.1.2] at hl; cases hl

theorem uncached_of {s : State} {core x : Nat} (h : cold s core = true) : Claims.Uncached s core x := by
  unfold cold at h
  simp only [Bool.and_eq_true, List.isEmpty_iff] at h
  exact ⟨by rw [h.1]; rfl, by rw [h.2]; rfl⟩

/-- A core whose L1 holds a line of its own address space, beside a cold one. -/
theorem dirty_alone : Claims.Alone dirtyState 0 1 := by
  refine ⟨?_, ?_, by decide +kernel⟩
  · intro la l hl
    have h : (dirtyState.core 0).l1 = [(9, dirtyLine)] := by decide +kernel
    rw [h] at hl
    unfold NMap.get? at hl
    split at hl
    · cases hl; rfl
    · cases hl
  · intro la l hl
    have h : (dirtyState.cluster (clusterOf 0)).cc = [] := by decide +kernel
    rw [h] at hl
    cases hl
theorem dirty_unpoisoned : Claims.Unpoisoned dirtyState 0 1152 := by
  refine ⟨by decide +kernel, ?_, ?_⟩
  · intro l hl
    have h : NMap.get? (dirtyState.core 0).l1 (1152 / 128) = some dirtyLine := by decide +kernel
    rw [h] at hl
    cases hl
    decide
  · intro l hl
    have h : (dirtyState.cluster (clusterOf 0)).cc = [] := by decide +kernel
    rw [h] at hl
    cases hl
/-- Where an access at a level may take place: the word is dirty in the core's L1. -/
theorem witness_levels : Claims.Alone dirtyState 0 1 ∧ Claims.Tidy dirtyState 0 ∧ Claims.Room dirtyState 0 [1152 / 128] ∧ 1152 % 4 = 0 ∧
    Claims.Unpoisoned dirtyState 0 1152 ∧ ([1, 2, 3].all (fun sc => (dirtyState.atomScope 0 1 sc (.dpa 1152) 0 1#32 0#32).2.isSome)) = true :=
  ⟨dirty_alone, dirty_tidy, space_of (by decide +kernel), by decide, dirty_unpoisoned, by decide +kernel⟩

theorem witness_CachesTransparent :
    Claims.Alone dirtyState 0 1 ∧ Claims.Room dirtyState 0 ((sectorsOf 1150 4).map (fun e => e.1)) ∧
    Claims.Room dirtyState 0 (([(1152, 3#8), (1280, 4#8)] : List (Nat × Byte)).map (fun e => e.1 / 128)) ∧
    Issues demo (.pref 8 16 0 2) ∧ Claims.Alone demo 0 1 ∧ Claims.Room demo 0 [0x400, 0x401] := by
  refine ⟨dirty_alone, space_of (by decide +kernel), space_of (by decide +kernel), issues (by decide +kernel),
    alone_of (by decide +kernel), space_of (by decide +kernel)⟩

/-- For a vector access: every enabled lane reaches its own place. -/
theorem lanes_of {s : State} {c : Ctx} {write : Bool} {a b : Reg} {size : Nat} {x : Nat → Nat}
    (h : (List.range 32).all (fun l => hits s c write (Claims.laneVA c a b l / size * size) (x l) && decide (x l % size = 0) &&
      decide (Claims.laneVA c a b l < 2 ^ 57)) = true) :
    ∀ l, l < 32 → c.lanes.getLsbD l = true → Claims.Hits s c write (Claims.laneVA c a b l / size * size) (x l) ∧ x l % size = 0 ∧
      Claims.laneVA c a b l < 2 ^ 57 := by
  intro l hl _
  have := List.all_eq_true.1 h l (List.mem_range.2 hl)
  simp only [Bool.and_eq_true, decide_eq_true_eq] at this
  exact ⟨hits_of this.1.1, this.1.2, this.2⟩

theorem witness_GlobalLoads :
    (Issues demo (.ld 8 16 24 1 0 4) ∧ (demo.begun (ctxOf demo (.ld 8 16 24 1 0 4)) (.ld 8 16 24 1 0 4)).1.lanes = 0#32) ∧
    (let s := regs [(17, 0x2000000#32)]
     let i : Instr := .ld 8 16 24 0 0 4
     Issues s i ∧ (s.begun (ctxOf s i) i).1.lanes.getLsbD 0 = true ∧ 2 ^ 57 ≤ Claims.laneVA (s.begun (ctxOf s i) i).1 16 24 0 ∧
     ∀ m, m < 0 → (s.begun (ctxOf s i) i).1.lanes.getLsbD m = true → Claims.laneVA (s.begun (ctxOf s i) i).1 16 24 m < 2 ^ 57) ∧
    (let s := mappedV
     let i : Instr := .ld 8 16 24 0 0 4
     let e := s.begun (ctxOf s i) i
     Issues s i ∧ e.1.lanes ≠ 0#32 ∧ Claims.Alone e.2 0 1 ∧ Claims.EntriesFree e.2 0 ∧
     Claims.Room e.2 0 (((List.range 32).filter (fun l => e.1.lanes.getLsbD l)).map (fun l => (0x20000 + 4 * l) / 128)) ∧
     (∀ l, l < 32 → e.1.lanes.getLsbD l = true → Claims.Hits e.2 e.1 false (Claims.laneVA e.1 16 24 l / 4 * 4) (0x20000 + 4 * l) ∧
       (0x20000 + 4 * l) % 4 = 0 ∧ Claims.laneVA e.1 16 24 l < 2 ^ 57) ∧
     ∀ x, Claims.Unpoisoned e.2 0 x) ∧
    (let s := regs [(16, 0xFFFFFFFF#32), (17, 0x1FFFFFF#32)]
     Issues s (.lds 8 16 1) ∧ 2 ^ 57 ≤ (((pair ((ctxOf s (.lds 8 16 1)).wave.sreg 16) ((ctxOf s (.lds 8 16 1)).wave.sreg 17) : Int) + 1) % 2 ^ 64).toNat) ∧
    (let s := mappedR [(16, 0x10FFF#32)]
     let i : Instr := .lds 8 16 0
     Issues s i ∧ Claims.Alone (s.noted (ctxOf s i) i) 0 1 ∧ Claims.EntriesFree (s.noted (ctxOf s i) i) 0 ∧
     Claims.Room (s.noted (ctxOf s i) i) 0 [0x20FFC / 128] ∧
     Claims.Hits (s.noted (ctxOf s i) i) (ctxOf s i) false (0x10FFF / 4 * 4) 0x20FFC ∧ Claims.Unpoisoned (s.noted (ctxOf s i) i) 0 0x20FFC) ∧
    (let s := mappedR [(16, 0x10000#32)]
     let i : Instr := .ldacq 8 16 6 1023
     Issues s i ∧ Claims.Hits (s.noted (ctxOf s i) i) (ctxOf s i) false (0x10FFC / 4 * 4) 0x20FFC ∧
     Claims.EntriesFree (s.noted (ctxOf s i) i) 0 ∧ (ctxOf s i).wave.loading = false ∧
     ((s.noted (ctxOf s i) i).readLevel 0 1 6 (.dpa 0x20FFC)).2.2 = false) := by
  refine ⟨⟨?_, ?_⟩, ⟨?_, ?_, ?_, ?_⟩, ⟨?_, ?_, ?_, ?_, ?_, ?_, ?_⟩, ⟨?_, ?_⟩, ⟨?_, ?_, ?_, ?_, ?_, ?_⟩, ?_, ?_, ?_, ?_, ?_⟩
  rotate_left 3
  · decide +kernel
  · decide +kernel
  all_goals
    first | exact issues (by decide +kernel) | exact alone_of (by decide +kernel) | exact space_of (by decide +kernel) | exact hits_of (by decide +kernel)
          | exact fun x => unpoisoned_of (by decide +kernel) | exact unpoisoned_of (by decide +kernel) | exact lanes_of (by decide +kernel) | exact ⟨by decide +kernel, by decide +kernel⟩
          | decide +kernel

theorem witness_GlobalStores :
    (Issues demo (.st 8 16 24 1 0 4) ∧ (demo.begun (ctxOf demo (.st 8 16 24 1 0 4)) (.st 8 16 24 1 0 4)).1.lanes = 0#32) ∧
    (let s := mappedV
     let i : Instr := .st 8 16 24 0 1 4
     let e := s.begun (ctxOf s i) i
     Issues s i ∧ (4 : BitVec 3) ≠ 7#3 ∧ e.1.lanes ≠ 0#32 ∧ Claims.Alone e.2 0 1 ∧ Claims.EntriesFree e.2 0 ∧
     Claims.Room e.2 0 (((List.range 32).filter (fun l => e.1.lanes.getLsbD l)).map (fun l => (0x20000 + 4 * l) / 128)) ∧ (s.core 0).sideLog.length ≤ 1024 ∧
     (∀ l, l < 32 → e.1.lanes.getLsbD l = true → Claims.Hits e.2 e.1 true (Claims.laneVA e.1 16 24 l / 4 * 4) (0x20000 + 4 * l) ∧
       (0x20000 + 4 * l) % 4 = 0 ∧ Claims.laneVA e.1 16 24 l < 2 ^ 57)) ∧
    (let s := regs [(17, 0x2000000#32)]
     Issues s (.sts 8 16 0) ∧ 2 ^ 57 ≤ (((pair ((ctxOf s (.sts 8 16 0)).wave.sreg 16) ((ctxOf s (.sts 8 16 0)).wave.sreg 17) : Int) + 0) % 2 ^ 64).toNat) ∧
    (let s := mappedR [(16, 0x10FFF#32)]
     let i : Instr := .sts 8 16 0
     Issues s i ∧ Claims.Alone (s.noted (ctxOf s i) i) 0 1 ∧ Claims.Room (s.noted (ctxOf s i) i) 0 [0x20FFC / 128] ∧ (s.core 0).sideLog.length ≤ 1024 ∧
     Claims.Hits (s.noted (ctxOf s i) i) (ctxOf s i) true (0x10FFF / 4 * 4) 0x20FFC) ∧
    (let s := mappedR [(16, 0x11000#32)]
     let i : Instr := .sts 8 16 0
     Issues s i ∧ (0x11000 / 4 * 4 + 16 ≤ (ctxOf s i).job.cbase ∨ (ctxOf s i).job.cbase + 12 * (ctxOf s i).job.npkt ≤ 0x11000 / 4 * 4) ∧
     (s.noted (ctxOf s i) i).xlate 0 1 0x11000 true = .miss ∧ (s.core 0).sideLog.length < 1024) ∧
    (let s := mappedR [(16, 0x10000#32)]
     let i : Instr := .strel 8 16 6 1023
     Issues s i ∧ Claims.Hits (s.noted (ctxOf s i) i) (ctxOf s i) true (0x10FFC / 4 * 4) 0x20FFC ∧
     (s.noted (ctxOf s i) i).unperformed 0 (ctxOf s i).wave s.handles = false ∧ (s.noted (ctxOf s i) i).fabricOpen 0 6 = false) := by
  refine ⟨⟨?_, ?_⟩, ⟨?_, ?_, ?_, ?_, ?_, ?_, ?_, ?_⟩, ⟨?_, ?_⟩, ⟨?_, ?_, ?_, ?_, ?_⟩, ⟨?_, ?_, ?_, ?_⟩, ?_, ?_, ?_, ?_⟩
  all_goals
    first | exact issues (by decide +kernel) | exact alone_of (by decide +kernel) | exact space_of (by decide +kernel) | exact hits_of (by decide +kernel)
          | exact lanes_of (by decide +kernel) | exact ⟨by decide +kernel, by decide +kernel⟩ | decide +kernel

/-- The lanes of a vector access for an atomic, whose places need no alignment of their own. -/
theorem atom_lanes_of {s : State} {c : Ctx} {a b : Reg} {x : Nat → Nat}
    (h : (List.range 32).all (fun l => hits s c true (Claims.laneVA c a b l / 4 * 4) (x l) && decide (Claims.laneVA c a b l < 2 ^ 57)) = true) :
    ∀ l, l < 32 → c.lanes.getLsbD l = true → Claims.Hits s c true (Claims.laneVA c a b l / 4 * 4) (x l) ∧
      Claims.laneVA c a b l < 2 ^ 57 := by
  intro l hl _
  have := List.all_eq_true.1 h l (List.mem_range.2 hl)
  simp only [Bool.and_eq_true, decide_eq_true_eq] at this
  exact ⟨hits_of this.1, this.2⟩

theorem witness_Atomics :
    (0x20000 % 4 = 0 ∧ NMap.get? (demo.core 0).l1 (0x20000 / 128) = none ∧ NMap.get? (demo.cluster (clusterOf 0)).cc (0x20000 / 128) = none ∧
      0x20000 / 32 ∉ demo.poison) ∧
    (let s := mappedR [(16, 0x10FFF#32)]
     (∀ i, i ∈ ([.atoms 0 16 24 6 10, .atoms 8 16 24 1 0] : List Instr) → Issues s i ∧
       Claims.Hits (s.noted (ctxOf s i) i) (ctxOf s i) true (0x10FFF / 4 * 4) 0x20FFC ∧ Claims.EntriesFree (s.noted (ctxOf s i) i) 0 ∧
       (∃ old, ((s.noted (ctxOf s i) i).atomScope 0 1 (match i with | .atoms _ _ _ sc _ => sc.toNat | _ => 0) (.dpa 0x20FFC)
         (match i with | .atoms _ _ _ _ f => f.toNat | _ => 0) 0#32 0#32).2 = some old))) ∧
    (let s := { mappedR [(16, 0x10FFF#32)] with poison := [0x20FFC / 32] }
     let i : Instr := .atoms 8 16 24 6 10
     Issues s i ∧ Claims.Hits (s.noted (ctxOf s i) i) (ctxOf s i) true (0x10FFF / 4 * 4) 0x20FFC ∧
     ((s.noted (ctxOf s i) i).atomScope 0 1 6 (.dpa 0x20FFC) 10 0#32 0#32).2 = none) ∧
    (let s := mappedV
     let i : Instr := .atom 8 16 24 0 10
     let e := s.begun (ctxOf s i) i
     Issues s i ∧ e.1.lanes ≠ 0#32 ∧ Claims.EntriesFree e.2 0 ∧
     (∀ l, l < 32 → e.1.lanes.getLsbD l = true → Claims.Hits e.2 e.1 true (Claims.laneVA e.1 16 24 l / 4 * 4) (0x20000 + 4 * l) ∧
       Claims.laneVA e.1 16 24 l < 2 ^ 57) ∧
     (e.2.atomLanes 0 1 10 (e.1.wave.vreg 8).lane (e.1.wave.vreg 9).lane
       (((List.range 32).filter (fun l => e.1.lanes.getLsbD l)).map (fun l => (l, Claims.laneVA e.1 16 24 l / 4 * 4, Target.dpa (0x20000 + 4 * l))))).2.2 = []) ∧
    (Issues demo (.atom 8 16 24 1 0) ∧ (demo.begun (ctxOf demo (.atom 8 16 24 1 0)) (.atom 8 16 24 1 0)).1.lanes = 0#32) ∧
    (Issues demo (.atoml 8 16 24 1 0) ∧ (demo.begun (ctxOf demo (.atoml 8 16 24 1 0)) (.atoml 8 16 24 1 0)).1.lanes = 0#32) ∧
    (let s := withW mappedV (fun w => w.setSs [(16, 131071#32 - 124#32)])
     let i : Instr := .atoml 8 16 24 0 10
     let e := s.begun (ctxOf s i) i
     Issues s i ∧ e.1.lanes ≠ 0#32 ∧ (e.2.alloc 1).pois = [] ∧
     ∀ l, l < 32 → e.1.lanes.getLsbD l = true → Claims.laneLA e.1 16 24 l < (e.2.alloc 1).bytes) := by
  refine ⟨?_, ?_, ⟨?_, ?_, ?_⟩, ⟨?_, ?_, ?_, ?_, ?_⟩, ⟨?_, ?_⟩, ⟨?_, ?_⟩, ?_, ?_, ?_, ?_⟩
  rotate_left 1
  · intro s i hi
    simp only [List.mem_cons, List.not_mem_nil, or_false] at hi
    rcases hi with rfl | rfl <;>
      exact ⟨issues (by decide +kernel), hits_of (by decide +kernel), ⟨by decide +kernel, by decide +kernel⟩, 0#32, by decide +kernel⟩
  all_goals
    first | exact issues (by decide +kernel) | exact hits_of (by decide +kernel) | exact atom_lanes_of (by decide +kernel)
          | exact ⟨by decide +kernel, by decide +kernel⟩ | decide +kernel

/-- Local addresses 16 × lane from 0, from the last granule of the allocation, and past its end. -/
def localV (a : Nat) (f : Alloc → Alloc) : State :=
  (withW demo (fun w => { w.setSs [(16, BitVec.ofNat 32 a)] with v := [(24, LaneVec.ofFn (fun l => BitVec.ofNat 32 (16 * l)))] })).modAlloc 1 f

theorem witness_LocalMemory :
    (∀ i, i ∈ ([.ldl 8 16 24 0 6, .stl 8 16 24 0 0, .stlFill 8 16 24 0 1, .ldlW 8 16 24 0 0, .ldlWc 8 16 24 0 1] : List Instr) →
      (let s := localV 130560 (fun a => { a with full := [8160], cells := [(130560, 1#8)] })
       Issues s i ∧ (s.begun (ctxOf s i) i).1.lanes ≠ 0#32 ∧ ((s.begun (ctxOf s i) i).2.alloc 1).pois = [] ∧
       ∀ l, l < 32 → (s.begun (ctxOf s i) i).1.lanes.getLsbD l = true →
         Claims.laneLA (s.begun (ctxOf s i) i).1 16 24 l < ((s.begun (ctxOf s i) i).2.alloc 1).bytes)) ∧
    (∀ i, i ∈ ([.ldl 8 16 24 0 6, .stl 8 16 24 0 0, .stlFill 8 16 24 0 1] : List Instr) →
      (let s := localV 130576 id
       Issues s i ∧ (s.begun (ctxOf s i) i).1.lanes.getLsbD 31 = true ∧
       ((s.begun (ctxOf s i) i).2.alloc 1).bytes ≤ Claims.laneLA (s.begun (ctxOf s i) i).1 16 24 31 ∧
       ∀ m, m < 31 → (s.begun (ctxOf s i) i).1.lanes.getLsbD m = true →
         Claims.laneLA (s.begun (ctxOf s i) i).1 16 24 m < ((s.begun (ctxOf s i) i).2.alloc 1).bytes)) ∧
    (∀ i, i ∈ ([.ldl 8 16 24 1 6, .stl 8 16 24 1 0, .stlFill 8 16 24 1 1, .ldlW 8 16 24 1 0, .ldlWc 8 16 24 1 1] : List Instr) →
      Issues demo i ∧ (demo.begun (ctxOf demo i) i).1.lanes = 0#32) := by
  refine ⟨?_, ?_, ?_⟩ <;>
  · intro i hi
    simp only [List.mem_cons, List.not_mem_nil, or_false] at hi
    rcases hi with rfl | rfl | rfl | rfl | rfl <;>
      exact ⟨issues (by decide +kernel), by decide +kernel⟩
/-! #### Engines -/

/-- The wave holds the pennant; format slots f32, f16 × f16 and f8e4 × f8e5. -/
def engineR (l : List (Nat × Word)) : State :=
  withC (withJ (regs l) (fun j => { j with slots := [{ mf := 1 }, { af := 2, bf := 2, mf := 1 }] })) (fun k => { k with holder := some 0 })
/-- Shape records: A of 128 × 64 at 0 and B of 64 × 64 in s8:s15; an accumulator of 128 × 64 of f32 in s16:s19, ending the allocation. -/
def shapes : List (Nat × Word) :=
  [(8, 0#32), (9, 0x00800040#32), (10, 128#32), (12, 16384#32), (13, 0x00400040#32), (14, 128#32), (16, 98304#32), (17, 0x00800040#32),
   (18, 256#32), (20, 3#32)]

theorem witness_matrix_checks :
    (∀ k, k ∈ [1, 2] → Claims.MmaFits (engineR shapes) (ctxOf (engineR shapes) (.mma 8 1 7)) 131072 8 1) ∧
    Claims.AccMove (engineR shapes) (ctxOf (engineR shapes) (.accld 16 0 7)) 131072 16 0 := by
  refine ⟨fun k _ => ⟨⟨15, by decide +kernel, by decide +kernel, by decide +kernel⟩, by decide +kernel, by decide +kernel, by decide +kernel⟩, ?_⟩
  exact ⟨⟨21, by decide +kernel, by decide +kernel, by decide +kernel⟩, by decide +kernel⟩

def matOp : MatOp :=
  { id := 3, kind := .mma, slot := 0, uid := 1, tid := 1, aid := 1, arm := ⟨0, 0xFFFFFFFF#32⟩, acc := 7, fmt := { af := 2, bf := 2, mf := 1 },
    a := { rows := 128, cols := 64, pitch := 128 }, b := { laddr := 16384, rows := 64, cols := 128, pitch := 256 } }
def matrixState (o : MatOp) : State := withC demo (fun k => { k with matQ := [o] })

theorem witness_MatrixEngine :
    (Issues demo (.accz 7) ∧ (demo.core 0).holder ≠ some 0) ∧
    (∀ i, i ∈ ([.accz 7, .accld 16 0 7, .accst 16 0 7, .mma 8 1 7, .mmaMc 8 20 1 7] : List Instr) →
      Issues (engineR shapes) i ∧ ((engineR shapes).core 0).holder = some 0 ∧
      ((engineR shapes).alloc (ctxOf (engineR shapes) i).team.alloc).bytes = 131072) ∧
    (Claims.MmaFits (engineR shapes) (ctxOf (engineR shapes) (.mmaMc 8 20 1 7)) 131072 8 1 ∧
      Claims.HasClass (engineR shapes) (ctxOf (engineR shapes) (.mmaMc 8 20 1 7)) 24 ∧
      (engineR shapes).mcMask 0 ((ctxOf (engineR shapes) (.mmaMc 8 20 1 7)).wave.sreg 20) = true) ∧
    (let s := matrixState matOp
     (s.core 0).matQ = matOp :: [] ∧ matOp.started = false ∧ matOp.waits = false ∧ matOp.served = true ∧
     s.forkReady 0 matOp.slot matOp.uid matOp.id = true) ∧
    (let o := { matOp with started := true }
     (((matrixState o).core 0).matQ = o :: []) ∧ o.started = true ∧ o.kdone < o.a.cols / 64 ∧ o.b.cols ≤ 128) ∧
    (let o := { matOp with started := true, kind := .accst, a := { rows := 128, cols := 128, pitch := 512 } }
     let s := matrixState o
     (s.core 0).matQ = o :: [] ∧ o.kind = .accst ∧ NMap.get? (s.core 0).accPois o.acc = none ∧ (s.alloc o.aid).pois = [] ∧
     NMap.get? s.allocs o.aid ≠ none ∧ (∀ e, e ∈ (s.core 0).slots → e.2.ended = false) ∧ o.a.cols * elemBytes o.fmt.mf ≤ o.a.pitch) ∧
    (let o := { matOp with started := true, kind := .accld, a := { rows := 128, cols := 128, pitch := 512 } }
     let s := (withC (matrixState o) (fun k => { k with holder := some 0 })).modAlloc 1 (fun a => { a with pois := [2047] })
     (s.core 0).matQ = o :: [] ∧ o.kind = .accld ∧ (s.core 0).holder = some o.slot ∧ s.wave? 0 o.slot = some (waveOf s) ∧ (waveOf s).ended = false ∧
     (∀ e, e ∈ (waveOf s).arms → e.2.heldBy Hold.isPassing = false) ∧ o.a.rows ≤ 128 ∧ 1 ≤ o.a.cols ∧ o.a.cols ≤ 128 ∧ 1 ≤ elemBytes o.fmt.mf) ∧
    (let o := { matOp with started := true, kind := .accst, a := { rows := 128, cols := 128, pitch := 512 } }
     let s := withC (matrixState o) (fun k => { k with accPois := [(7, 0)] })
     (s.core 0).matQ = o :: [] ∧ NMap.get? (s.core 0).accPois o.acc = some 0 ∧ s.wave? 0 o.slot = some (waveOf s)) ∧
    (let o := { matOp with served := false, mc := 3 }
     let s := ({ matrixState o with stk := NMap.put demo.stk 0 { demo.stack 0 with ck := 65 } } : State)
     (s.core 0).openMc = some o ∧ (∀ e, e ∈ s.mcGroup 0 o → e.2.at_ + 64 < (s.stack 0).ck) ∧ o.at_ + 64 < (s.stack (stackOf 0)).ck) := by
  refine ⟨⟨?_, ?_⟩, ?_, ⟨?_, ?_, ?_⟩, ?_, ?_, ?_, ?_, ?_, ?_⟩
  rotate_left 2
  · intro i hi
    simp only [List.mem_cons, List.not_mem_nil, or_false] at hi
    rcases hi with rfl | rfl | rfl | rfl | rfl <;> exact ⟨issues (by decide +kernel), by decide +kernel⟩
  all_goals
    first | exact issues (by decide +kernel)
          | exact ⟨⟨15, by decide +kernel, by decide +kernel, by decide +kernel⟩, by decide +kernel, by decide +kernel, by decide +kernel⟩
          | exact ⟨by decide +kernel, by decide +kernel⟩ | decide +kernel

/-- Descriptors in s8:s15: one row of 64 bytes from 0 to the place before the completion object, within SCRATCH. -/
def copyShapes : List (Nat × Word) :=
  [(8, 0#32), (10, 8128#32), (12, 0x00010040#32), (15, 0x00400311#32), (16, 0#32), (17, 0x00800040#32), (18, 128#32), (20, 16384#32),
   (21, 0x00400040#32), (22, 128#32)]
def copyOp : CopyOp :=
  { id := 3, slot := 0, uid := 1, tid := 1, aid := 1, desc := [0#32, 0#32, 8128#32, 0#32, 0x00010040#32, 0#32, 0#32, 0x00400311#32], total := 64 }
def copyState (o : CopyOp) : State := withC demo (fun k => { k with copyQ := [o] })

theorem witness_CopyEngine :
    (Issues demo (.copy 8) ∧ copyBadWord (Claims.regs (ctxOf demo (.copy 8)) 8 8) = some 4) ∧
    (∀ i, i ∈ ([.copy 8, .copyM 8 16 1 7] : List Instr) → (let s := engineR copyShapes
      let d := Claims.regs (ctxOf s i) 8 8
      Issues s i ∧ copyBadWord d = none ∧ copyKind (copyDesc d).sf (copyDesc d).df = some .raw ∧ (copyDesc d).bad .raw = false ∧
      Claims.HasClass s (ctxOf s i) 11 ∧ (ctxOf s i).copyBeyond s (copyDesc d) .raw = none ∧ (s.alloc 1).pois = [] ∧
      NMap.get? s.allocs 1 = some (s.alloc 1) ∧ Claims.MmaFits s (ctxOf s i) (s.alloc 1).bytes 16 1 ∧ (s.core 0).holder = some 0)) ∧
    (let s := copyState copyOp
     (s.core 0).copyQ = copyOp :: [] ∧ copyOp.started = false ∧ s.forkReady 0 copyOp.slot copyOp.uid copyOp.id = true) ∧
    (let o := { copyOp with started := true }
     let s := copyState o
     let d := copyDesc o.desc
     (s.core 0).copyQ = o :: [] ∧ o.started = true ∧ o.done = 0 ∧ o.owed = 0 ∧ o.kept = [] ∧ o.psn = [] ∧ o.bad = false ∧ o.follow = none ∧ d.sf = d.df ∧ d.sf < 9 ∧ d.sk = true ∧ d.dk = true ∧
     d.rows = 1 ∧ o.total = d.rb ∧ (s.alloc o.aid).pois = [] ∧ NMap.get? s.allocs o.aid ≠ none ∧
     (∀ e, e ∈ (s.core 0).slots → e.2.ended = false) ∧ (d.co + 16 ≤ d.dst ∨ d.dst + d.rb ≤ d.co) ∧
     (d.co + 16 ≤ d.src ∨ d.src + d.rb ≤ d.co) ∧ (d.src + d.rb ≤ d.dst ∨ d.dst + d.rb ≤ d.src)) := by
  refine ⟨⟨issues (by decide +kernel), by decide +kernel⟩, ?_, by decide +kernel, by decide +kernel⟩
  intro i hi
  simp only [List.mem_cons, List.not_mem_nil, or_false] at hi
  rcases hi with rfl | rfl <;>
    exact ⟨issues (by decide +kernel), by decide +kernel, by decide +kernel, by decide +kernel, ⟨by decide +kernel, by decide +kernel⟩,
      by decide +kernel, by decide +kernel, by decide +kernel,
      ⟨⟨15, by decide +kernel, by decide +kernel, by decide +kernel⟩, by decide +kernel, by decide +kernel, by decide +kernel⟩, by decide +kernel⟩

/-- Cursor 3 of the wave, of mode `m`, or of another wave. -/
def cursorState (uid m : Nat) (l : List (Nat × Word)) : State :=
  withC (regs l) (fun k => { k with cx := [(3, { slot := 0, uid := uid, img := [BitVec.ofNat 32 (m * 2 ^ 30)] })] })
def brOp (kind : BrKind) (started : Bool) : BrOp :=
  { id := 3, kind := kind, slot := 0, uid := 1, arm := 0, aid := 1, cx := 3, ops := [131008#32], lanes := 0#32, started := started }
def brState (o : BrOp) : State := withC (cursorState 1 0 []) (fun k => { k with brQ := [o] })

theorem cursor_free {s : State} {c : Ctx} {n : BitVec 2}
    (h : (match (s.core c.r.core).cxView n.toNat with | none => true | some v => v.uid == c.wave.uid) = true) : Claims.CursorFree s c n := by
  intro v hv
  rw [hv] at h
  simpa using h

theorem witness_Bramble :
    (∀ i, i ∈ ([.cxopenIntersect 8 16 3, .cxopenUnion 8 16 3, .cxopenExpand 8 3, .cxload 8 3, .cxclose 3] : List Instr) →
      Issues (regs [(8, 0#32)]) i ∧ Claims.CursorFree (regs [(8, 0#32)]) (ctxOf (regs [(8, 0#32)]) i) 3 ∧
      (Claims.brambleRule (regs [(8, 0#32)]) (ctxOf (regs [(8, 0#32)]) i) 131072 i).isSome = true) ∧
    (let c := ctxOf (regs [(8, 0#32)]) (.cxopenExpand 8 3)
     descriptorFault false (Claims.regs c 8 8) = none ∧ descriptorBeyond false 131072 (Claims.regs c 8 8) = none ∧
     descriptorFault true (Claims.regs c 8 8) = none ∧ descriptorBeyond true 131072 (Claims.regs c 8 8) = none) ∧
    (let s := cursorState 1 0 [(8, 128#32), (16, 16#32)]
     Issues s (.cxsplit 8 16 3) ∧ Claims.CursorOwn s (ctxOf s (.cxsplit 8 16 3)) 3 ∧ Issues s (.cxsave 8 3) ∧
     Claims.CursorOwn s (ctxOf s (.cxsave 8 3)) 3) ∧
    (let s := regs [(21, 1#32)]
     Issues s (.cxloadS 8 3) ∧ Claims.CursorFree s (ctxOf s (.cxloadS 8 3)) 3 ∧ imageFault (Claims.regs (ctxOf s (.cxloadS 8 3)) 8 16) = none ∧
     imageBeyond 131072 (Claims.regs (ctxOf s (.cxloadS 8 3)) 8 16) = none) ∧
    (∀ m, m ∈ [0, 1, 2] → (let s := cursorState 1 m []
      let i : Instr := .cxnext 61 8 5 3
      Issues s i ∧ (s.core 0).cxView 3 = some ⟨1, some m⟩ ∧ (ctxOf s i).wave.uid = 1 ∧ (ctxOf s i).wave.pHeld = [] ∧ (ctxOf s i).lanes ≠ 0#32)) ∧
    (let s := withW (cursorState 1 1 []) (fun w => w.modArm 0 (fun a => { a with exm := 0#32 }))
     Issues s (.cxnext 61 8 5 3) ∧ (ctxOf s (.cxnext 61 8 5 3)).lanes = 0#32) ∧
    (∀ k, k ∈ [BrKind.openTwo, .loadS, .close, .save] → (let s := brState (brOp k false)
      (s.core 0).brQ = brOp k false :: [] ∧ s.forkReady 0 0 1 3 = true ∧
      ∃ c, NMap.get? (s.core 0).cx (brOp k false).cx = some c ∧ c.uid = (brOp k false).uid)) ∧
    (let o := { brOp .save true with lands := [(131008, List.replicate 64 1#8)] }
     let s := brState o
     (s.core 0).brQ = o :: [] ∧ 131008 % 16 = 0 ∧ (List.replicate 64 1#8).length = 64 ∧ (s.alloc o.aid).pois = [] ∧
     NMap.get? s.allocs o.aid ≠ none ∧ (∀ e, e ∈ (s.core 0).slots → e.2.ended = false)) := by
  refine ⟨?_, by decide +kernel, ⟨?_, ?_, ?_, ?_⟩, ⟨?_, ?_, ?_, ?_⟩, ?_, ⟨?_, ?_⟩, ?_, by decide +kernel⟩
  rotate_left 9
  · intro m hm
    simp only [List.mem_cons, List.not_mem_nil, or_false] at hm
    rcases hm with rfl | rfl | rfl <;> exact ⟨issues (by decide +kernel), by decide +kernel⟩
  · exact issues (by decide +kernel)
  · decide +kernel
  · intro k hk
    simp only [List.mem_cons, List.not_mem_nil, or_false] at hk
    rcases hk with rfl | rfl | rfl | rfl <;>
      exact ⟨by decide +kernel, by decide +kernel, ⟨0, 1, [0#32]⟩, by decide +kernel, by decide +kernel⟩
  · intro i hi
    simp only [List.mem_cons, List.not_mem_nil, or_false] at hi
    rcases hi with rfl | rfl | rfl | rfl | rfl <;> exact ⟨issues (by decide +kernel), cursor_free (by decide +kernel), by rfl⟩
  all_goals
    first | exact issues (by decide +kernel) | exact cursor_free (by decide +kernel) | exact ⟨⟨1, some 0⟩, by decide +kernel, by decide +kernel⟩
          | decide +kernel

/-- SCRATCH with six indices at 0x1000, row pointers 0, 2, 2 and 5 at 0x3000, and an image with a part count at 0x80. -/
def brCells : Memory :=
  let m := Memory.writeBytes (Memory.writeBytes [] 0xB4 [1#8]) 0x1000 (wordsBytes [2#32, 5#32, 9#32, 14#32, 20#32, 31#32])
  Memory.writeBytes m 0x3000 (wordsBytes [0#32, 2#32, 2#32, 5#32])
def brScratch (s : State) : State := s.modAlloc 1 (fun a => { a with cells := brCells })
def idxDesc : List Word := [0x1000#32, 0#32, 6#32, 0x2C0#32, 0#32, 0#32, 0#32, 0#32]
def rowDesc (n : Word) : List Word := [0x1000#32, 0#32, n, 0xA00#32, 0#32, 0#32, 0x3000#32, 0#32]
/-- Two streams of the same six indices, the first of which has been read in B; the rows of the row pointers. -/
def twoCur : Cur :=
  let c := openCur 1 idxDesc idxDesc
  { c with b := { c.b with pos := 1, off := 4, last := 2, has := true } }
def rowsCur : Cur :=
  let c := openCur 2 (rowDesc 3#32) []
  { c with a := { c.a with fin := 5 }, b := { c.b with off := 2 } }
def runState (o : BrOp) (c : Cur) : State := brScratch (withW (withC (brState o) (fun k =>
  { k with cx := [(3, { slot := 0, uid := 1, img := c.image })] })) (fun w => { w with inflight := [{ loadPending with left := 1 }] }))
def isFilled (r : Except CurStop (Cur × List Filled × Option (Nat × Nat))) : Bool := match r with | .ok (_, _, none) => true | _ => false
theorem filled_of {r : Except CurStop (Cur × List Filled × Option (Nat × Nat))} (h : isFilled r = true) : ∃ d fs, r = .ok (d, fs, none) := by
  cases r with
  | error z => cases h
  | ok x =>
    obtain ⟨d, fs, z⟩ := x
    cases z with
    | none => exact ⟨d, fs, rfl⟩
    | some z => cases h
def isSplit (r : Except CurStop (List Cur)) : Bool := match r with | .ok _ => true | _ => false
theorem split_of {r : Except CurStop (List Cur)} (h : isSplit r = true) : ∃ ps, r = .ok ps := by
  cases r with
  | error z => cases h
  | ok x => exact ⟨x, rfl⟩

def isOk (r : BrResult) : Bool := match r with | .ok _ => true | _ => false
theorem ok_of {r : BrResult} (h : isOk r = true) : ∃ u, r = .ok u := by
  cases r <;> simp_all [isOk]
/-- CXOPEN.expand of so many rows at the head of the queue, its arm held. -/
def rowsOp (n : Word) : BrOp := { brOp .openExpand false with ops := rowDesc n }
def rowsState (n : Word) : State := brScratch (withW (brState (rowsOp n)) (fun w => { w with arms := [(0, { hold := .bramble })] }))
def rowsAlloc : Alloc := (rowsState 3#32).alloc 1
theorem witness_BrambleRuns :
    (∀ k, k ∈ [BrKind.openTwo, .loadS, .close, .save] → (let s := brState (brOp k false)
      (brOp k false).started = false ∧ s.forkReady 0 0 1 3 = true ∧
      ∃ u, (if k = .load ∨ k = .loadS ∨ k = .close then s else s.fork 0).brRun 0 (brOp k false) = .ok u)) ∧
    (let o := { brOp .load false with ops := [0x80#32] }
     let s := brScratch (brState o)
     let img := bytesWords 16 ((s.alloc 1).bytesAt 0x80 64)
     (s.core 0).brQ = [o] ∧ s.forkReady 0 0 1 3 = true ∧ (s.alloc 1).pois = [] ∧ imageFault img = none ∧ imageBeyond 131072 img = none) ∧
    (((rowsState 3#32).core 0).brQ = [rowsOp 3#32] ∧ (rowsState 3#32).forkReady 0 0 1 3 = true ∧ rowsAlloc.pois = [] ∧
      (openCur 2 (rowsOp 3#32).ops []).b.fin = 3 ∧ (openCur 2 (rowsOp 3#32).ops []).b.loc = true ∧
      (Claims.rowPtr rowsAlloc (openCur 2 (rowsOp 3#32).ops []) 0, Claims.rowPtr rowsAlloc (openCur 2 (rowsOp 3#32).ops []) 1,
        Claims.rowPtr rowsAlloc (openCur 2 (rowsOp 3#32).ops []) 3) = (0, 2, 5) ∧
      streamBeyond (openCur 2 (rowsOp 3#32).ops []).a.loc rowsAlloc.bytes ((openCur 2 (rowsOp 3#32).ops []).a.base + 4 * 0) (4 * (5 - 0)) = none ∧
      (rowsState 3#32).wave? 0 0 = some (waveOf (rowsState 3#32)) ∧ NMap.get? (waveOf (rowsState 3#32)).arms 0 = some { hold := .bramble }) ∧
    (((rowsState 0#32).core 0).brQ = [rowsOp 0#32] ∧ (openCur 2 (rowsOp 0#32).ops []).b.fin = 0) ∧
    (∀ c, c ∈ [twoCur, rowsCur] → (let o := { brOp .next false with lanes := 0x80000007#32, v := 8, d := 5, p := 1, pend := 7 }
      let s := runState o c
      (s.core 0).brQ = [o] ∧ s.forkReady 0 0 1 3 = true ∧ NMap.get? (s.core 0).cx 3 = some { slot := 0, uid := 1, img := c.image } ∧
      s.wave? 0 0 = some (waveOf s) ∧ { loadPending with left := 1 } ∈ (waveOf s).inflight ∧ loadPending.id = o.pend ∧ curOf c.image = c ∧
      ∃ d fs, ((s.fork 0).brEnv 0 o).fill (maskLanes o.lanes) (curOf c.image) 0 0 = .ok (d, fs, none))) ∧
    (∀ c, c ∈ [twoCur, rowsCur] → (let o := { brOp .split false with ops := [0x4000#32, 2#32] }
      let s := runState o c
      (s.core 0).brQ = [o] ∧ s.forkReady 0 0 1 3 = true ∧ NMap.get? (s.core 0).cx 3 = some { slot := 0, uid := 1, img := c.image } ∧
      (s.alloc 1).pois = [] ∧ ∃ ps, ((s.fork 0).brEnv 0 o).split (curOf c.image) 2 = .ok ps)) ∧
    (let al := (runState (brOp .next false) twoCur).alloc 1
     Claims.Indices al twoCur.a [2, 5, 9, 14, 20, 31] ∧ Claims.Indices al twoCur.b [5, 9, 14, 20, 31] ∧ twoCur.mode < 2) ∧
    (let al := (runState (brOp .next false) rowsCur).alloc 1
     Claims.Expands al rowsCur ∧ rowsCur.a.fin < rowsCur.a.pos + 256 ∧ rowsCur.b.fin < rowsCur.b.pos + 256) := by
  refine ⟨?_, by decide +kernel, by decide +kernel, by decide +kernel, ?_, ?_, ⟨⟨by decide, by decide, by decide +kernel, by decide +kernel, by decide +kernel⟩,
    ⟨by decide, by decide, by decide +kernel, by decide +kernel, by decide +kernel⟩, by decide⟩,
    ⟨by decide, by decide, by decide +kernel, by decide +kernel, ?_⟩, by decide, by decide⟩
  · intro k hk
    simp only [List.mem_cons, List.not_mem_nil, or_false] at hk
    rcases hk with rfl | rfl | rfl | rfl <;> exact ⟨by decide, by decide +kernel, ok_of (by decide +kernel)⟩
  · intro c hc
    simp only [List.mem_cons, List.not_mem_nil, or_false] at hc
    rcases hc with rfl | rfl <;>
      exact ⟨by decide +kernel, by decide +kernel, by decide +kernel, by decide +kernel, by decide +kernel, by decide, by decide +kernel,
        filled_of (by decide +kernel)⟩
  · intro c hc
    simp only [List.mem_cons, List.not_mem_nil, or_false] at hc
    rcases hc with rfl | rfl <;>
      exact ⟨by decide +kernel, by decide +kernel, by decide +kernel, by decide +kernel, split_of (by decide +kernel)⟩
  · have h : ∀ k, k < 3 → Claims.rowPtr ((runState (brOp .next false) rowsCur).alloc 1) rowsCur k ≤
        Claims.rowPtr ((runState (brOp .next false) rowsCur).alloc 1) rowsCur (k + 1) := by decide +kernel
    exact fun k _ hk => h k hk
/-! #### Tasks and futures -/

/-- A closure header: VB 1, packet 0; the same with an S bit and no operand, which R74 refuses at word 0. -/
def header : Word := 0x00010000#32
def spawnState (w0 : Word) (f : Core → Core) (g : Job → Job) : State :=
  withJ (withC ((regs [(0, w0), (40, 130944#32)]).modAlloc 1 (fun a => { a with cells := Memory.writeBytes [] 130944 (natBytes 4 w0.toNat) })) f) g
def task1 : Entry := { uid := 9, w := [header, 15#32], job := 1, pasid := 1, ready := true }

theorem deque_full : 33280 ≤ ((spawnState header (fun k => { k with ext := List.replicate 33280 task1 }) (fun j => j)).core 0).deque.length := by
  have h : ((spawnState header (fun k => { k with ext := List.replicate 33280 task1 }) (fun j => j)).core 0).deque =
      List.replicate 33280 task1 ++ [] := rfl
  rw [h, List.append_nil, List.length_replicate]

theorem witness_SpawnPushes :
    (∀ i, i ∈ ([.spawnS 0, .spawnL 40] : List Instr) →
      (Issues (spawnState header id id) i ∧ (spawnState header id id).unperformed 0 (ctxOf (spawnState header id id) i).wave (spawnState header id id).handles = false) ∧
      Issues (spawnState 0#32 id id) i ∧
      Issues (spawnState header (fun k => { k with ext := List.replicate 33280 task1 }) (fun j => j)) i ∧
      Issues (spawnState header id (fun j => { j with drained := true })) i) ∧
    (let s := spawnState header id id
     let c := ctxOf s (.spawnL 40)
     let ws := (List.range 32).map (fun k => c.wave.sreg (32 * 0 + k))
     let vs := (List.range 32).map (fun k => Claims.cell (s.alloc 1).cells (c.wave.sreg 40).toNat k)
     (c.wave.sreg 40).toNat % 128 = 0 ∧ (c.wave.sreg 40).toNat + 128 ≤ (s.alloc 1).bytes ∧ (s.alloc 1).pois = [] ∧
     headerFault c.job.npkt ws = none ∧ headerFault c.job.npkt vs = none ∧ (s.job 1).drained = false ∧ c.job.drained = false ∧
     (s.core 0).deque.length < 33280) ∧
    (let s := spawnState 0#32 id id
     headerFault 16 ((List.range 32).map (fun k => (ctxOf s (.spawnS 0)).wave.sreg (32 * 0 + k))) = some 0) ∧
    (let s := spawnState header id (fun j => { j with drained := true })
     (s.job 1).drained = true ∧ (ctxOf s (.spawnS 0)).job.drained = true) := by
  refine ⟨?_, by decide +kernel, by decide +kernel, by decide +kernel⟩
  intro i hi
  simp only [List.mem_cons, List.not_mem_nil, or_false] at hi
  rcases hi with rfl | rfl <;>
    exact ⟨⟨issues (by decide +kernel), by decide +kernel⟩, issues (by decide +kernel), issues (by decide +kernel), issues (by decide +kernel)⟩

/-- A cell at virtual address 0x10020 with some words, and a closure line at 0x10080, both in device memory. -/
def cellState (ws : List Word) : State :=
  { mappedR [(16, 0x10020#32), (24, 0x10080#32)] with
    mem := Memory.writeBytes (Memory.writeBytes [] 0x20020 (wordsBytes ws)) 0x20080 (wordsBytes [header, 15#32]) }

theorem cell_of {s : State} {c : Ctx} {write : Bool} {h x : Nat}
    (hh : (hits s c write h x && decide (h % 32 = 0) && decide (c.job.inCode h = false)) = true) : Claims.CellAt s c write h x := by
  simp only [Bool.and_eq_true, decide_eq_true_eq] at hh
  obtain ⟨⟨h1, h2⟩, h3⟩ := hh
  have := hits_of h1
  exact ⟨h2, this.ok, h3, this.quiet, this.target⟩

/-- A wave that has parked on the cell. -/
def parkedAt : State := withW (cellState [1#32]) (fun w => { w with arms := [(0, { hold := .parked 0x10020 (.dpa 0x20020) 8 })] })
theorem witness_FutureCells :
    (0x20020 % 32 = 0 ∧ Claims.Uncached (cellState [1#32]) 0 0x20020 ∧ Claims.cell (cellState [1#32]).mem 0x20020 0 = 1#32 ∧
      (Claims.cell (cellState [1#32]).mem 0x20020 1).getLsbD 9 = false ∧ parkedAt.parkedCores (.dpa 0x20020) = [0] ∧ Claims.Uncached parkedAt 0 0x20020) ∧
    (Issues (cellState []) (.fnew 16 8 7) ∧ Issues (cellState []) (.fnew 16 8 6) ∧
      Claims.CellAt ((cellState []).noted (ctxOf (cellState []) (.fnew 16 8 6)) (.fnew 16 8 6)) (ctxOf (cellState []) (.fnew 16 8 6)) true
        ((ctxOf (cellState []) (.fnew 16 8 6)).wave.spair 16) 0x20020) ∧
    (∀ ws, ws ∈ [[0#32, 6#32], [0#32, 7#32], [5#32, 0#32]] → (let s := cellState ws
      let i : Instr := .fwait 8 16
      Issues s i ∧ Claims.CellAt (s.noted (ctxOf s i) i) (ctxOf s i) false ((ctxOf s i).wave.spair 16) 0x20020 ∧
      Claims.Uncached (s.noted (ctxOf s i) i) 0 0x20020 ∧ Claims.EntriesFree (s.noted (ctxOf s i) i) 0 ∧ 0x20020 / 32 ∉ (s.noted (ctxOf s i) i).poison ∧
      (ctxOf s i).wave.parkedArm = false ∧ (s.noted (ctxOf s i) i).parkedSlots 0 < 48)) ∧
    (let s := withC (cellState [5#32, 0#32]) (fun k => { k with slots := k.slots ++ (List.range 48).map (fun n =>
        (n + 1, { placedWave with uid := n + 2, arms := [(0, { hold := .parked 32 (.dpa 32) 0 })] })) })
     let i : Instr := .fwait 8 16
     Issues s i ∧ (ctxOf s i).wave.parkedArm = false ∧ 48 ≤ (s.noted (ctxOf s i) i).parkedSlots 0) ∧
    (let s := cellState [1#32, 6#32]
     let i : Instr := .fput 16 8
     let r := ((s.noted (ctxOf s i) i).release 0 4).homeSector 0 (.dpa 0x20020)
     Issues s i ∧ Claims.CellAt (s.noted (ctxOf s i) i) (ctxOf s i) true ((ctxOf s i).wave.spair 16) 0x20020 ∧
     (s.noted (ctxOf s i) i).unperformed 0 (ctxOf s i).wave s.handles = false ∧ (r.cellWords (.dpa 0x20020)).2 = false ∧
     cellOp ((r.cellWords (.dpa 0x20020)).1.getD 1 0#32) ≤ 6 ∧ Claims.EntriesFree (s.noted (ctxOf s i) i) 0) ∧
    (let s := cellState [1#32, 7#32]
     let i : Instr := .fput 16 8
     let r := (((s.noted (ctxOf s i) i).release 0 4).homeSector 0 (.dpa 0x20020)).touchHome 1 (.dpa 0x20020) 32
     Issues s i ∧ (r.cellWords (.dpa 0x20020)).2 = false ∧ cellOp ((r.cellWords (.dpa 0x20020)).1.getD 1 0#32) = 7 ∧
     (Claims.cell ((s.noted (ctxOf s (.fjoin 16 24)) (.fjoin 16 24)).release 0 4).mem 0x20020 1).toNat % 16 = 7) ∧
    (let s := cellState [1#32, 6#32]
     let i : Instr := .fjoin 16 24
     let n := s.noted (ctxOf s i) i
     let r := n.release 0 4
     Issues s i ∧ Claims.CellAt n (ctxOf s i) true ((ctxOf s i).wave.spair 16) 0x20020 ∧ (ctxOf s i).wave.spair 24 = 0x10080 ∧
     n.xlate 0 1 0x10080 false = .hit (.dpa 0x20080) ∧ (n.core 0).sideLog = [] ∧ n.unperformed 0 (ctxOf s i).wave s.handles = false ∧
     Claims.Uncached r 0 0x20020 ∧ Claims.Uncached r 0 0x20080 ∧ r.poison = [] ∧
     headerFault 16 ((List.range 32).map (fun k => Claims.cell r.mem 0x20080 k)) = none ∧
     (Claims.cell r.mem 0x20020 1).toNat % 16 ≤ 6 ∧ (Claims.cell r.mem 0x20020 1).getLsbD 9 = false) := by
  refine ⟨⟨?_, ?_, ?_, ?_, ?_, ?_⟩, ⟨?_, ?_, ?_⟩, ?_, ⟨?_, ?_, ?_⟩, ⟨?_, ?_, ?_, ?_, ?_, ?_⟩, ⟨?_, ?_⟩, ?_, ?_, ?_, ?_, ?_, ?_, ?_, ?_, ?_, ?_, ?_, ?_⟩
  rotate_left 9
  · intro ws hw
    simp only [List.mem_cons, List.not_mem_nil, or_false] at hw
    rcases hw with rfl | rfl | rfl <;>
      exact ⟨issues (by decide +kernel), cell_of (by decide +kernel), uncached_of (by decide +kernel), ⟨by decide +kernel, by decide +kernel⟩,
        by decide +kernel⟩
  all_goals
    first | exact issues (by decide +kernel) | exact cell_of (by decide +kernel) | exact uncached_of (by decide +kernel)
          | exact ⟨by decide +kernel, by decide +kernel⟩ | decide +kernel

/-- The demonstration wave as a task: its future, its tile. -/
def tendState (fut : Nat) (ts : List Tile) : State := withW (cellState [1#32, 0#32]) (fun w =>
  { w with isTask := true, tfutl := BitVec.ofNat 32 fut, tiles := ts })
def tile1 : Tile := { base := 65536, va := 0x10200, rows := 2, rb := 16, pitch := 64, wb := true }
def backState (fut : Nat) : State := withW (tendState fut [tile1]) (fun w => w.modArm 0 (fun a => { a with hold := .tiles fut 7 0 }))
def delivery (err : Bool) : Delivery :=
  { err := err, handle := 0x10020, value := 7#64, core := 0, job := 1, pasid := 1, tag := 0, wave := 0#32, team := 1#32, dropped := false,
    fromWave := true }
/-- Where byte `i` of the tile goes. -/
def tileAt (i : Nat) : Nat := 0x20200 + i / 16 * 64 + i % 16
theorem back_cold : ∀ k j e, e ∉ ((backState 0).core k).l1 ++ ((backState 0).cluster j).cc := by
  intro k j e he
  have h1 : ∀ x, x ∈ (backState 0).cores → x.2.l1 = [] := by decide +kernel
  have h2 : ∀ x, x ∈ (backState 0).clusters → x.2.cc = [] := by decide +kernel
  have g : ∀ {β : Type} (m : NMap β) (n : Nat) (d : β), NMap.at m n d = d ∨ ∃ x, x ∈ m ∧ NMap.at m n d = x.2 := by
    intro β m n d
    induction m with
    | nil => exact .inl rfl
    | cons y ys ih =>
      by_cases e : y.1 = n
      · exact .inr ⟨y, List.mem_cons_self .., by simp [NMap.at, NMap.get?, e]⟩
      · have g : NMap.at (y :: ys) n d = NMap.at ys n d := by simp [NMap.at, NMap.get?, e]
        rw [g]
        exact ih.imp_right fun ⟨x, hx, h⟩ => ⟨x, List.mem_cons_of_mem _ hx, h⟩
  have c1 : ((backState 0).core k).l1 = [] := by
    rcases g (backState 0).cores k _ with h | ⟨x, hx, h⟩
    · exact (congrArg Core.l1 h).trans rfl
    · exact (congrArg Core.l1 h).trans (h1 x hx)
  have c2 : ((backState 0).cluster j).cc = [] := by
    rcases g (backState 0).clusters j _ with h | ⟨x, hx, h⟩
    · exact (congrArg Cluster.cc h).trans rfl
    · exact (congrArg Cluster.cc h).trans (h2 x hx)
  rw [c1, c2] at he
  cases he
theorem witness_TaskEnds :
    (let s := tendState 0 []
     Issues s (.tend 8) ∧ pair (ctxOf s (.tend 8)).wave.tfutl (ctxOf s (.tend 8)).wave.tfuth = 0 ∧ (ctxOf s (.tend 8)).wave.tiles = []) ∧
    (∀ f, f ∈ [0, 0x10020] → (let s := tendState f [tile1]
      Issues s (.tend 8) ∧ tile1 ∈ (ctxOf s (.tend 8)).wave.tiles ∧ tile1.wb = true ∧
      (s.noted (ctxOf s (.tend 8)) (.tend 8)).unperformed 0 (ctxOf s (.tend 8)).wave s.handles = false ∧
      (f ≠ 0 → Claims.CellAt (s.noted (ctxOf s (.tend 8)) (.tend 8)) (ctxOf s (.tend 8)) true f 0x20020))) ∧
    (let s := tendState 0x10020 []
     let n := s.noted (ctxOf s (.tend 8)) (.tend 8)
     let r := (n.release 0 4).homeSector 0 (.dpa 0x20020)
     Issues s (.tend 8) ∧ Claims.CellAt n (ctxOf s (.tend 8)) true 0x10020 0x20020 ∧ n.unperformed 0 (ctxOf s (.tend 8)).wave s.handles = false ∧
     (r.cellWords (.dpa 0x20020)).2 = false ∧ cellOp ((r.cellWords (.dpa 0x20020)).1.getD 1 0#32) ≤ 6) ∧
    demo.wave? 0 0 = some placedWave ∧
    (∀ f, f ∈ [0, 0x10020] → (let s := backState f
      ∃ c, s.tendCtx 0 0 = some (c, f, 7, 0) ∧ s.deliveryOf 0 0 = false ∧ s.peerOwes c.wave.uid = false ∧
        (∀ t, t ∈ c.wave.backTiles → ∀ i, i < t.rows → ∀ k, k < t.rb → t.va + i * t.pitch + k < 2 ^ 57 ∧
          c.job.inCode (t.va + i * t.pitch + k) = false ∧
          s.xlate 0 c.job.pasid (t.va + i * t.pitch + k) true = .hit (.dpa (t.va + i * t.pitch + k + 0x10000))) ∧
        c.wave.backTiles = [tile1] ∧ tile1.rows * tile1.rb = 32)) ∧
    (∀ i, i < 32 → ∀ j, j < 32 → tileAt i = tileAt j → i = j) ∧
    (∀ i, i < 32 → (backState 0).xlate 0 1 (tile1.va + i / tile1.rb * tile1.pitch + i % tile1.rb) true = .hit (.dpa (tileAt i))) ∧
    (∀ k j e, e ∉ ((backState 0).core k).l1 ++ ((backState 0).cluster j).cc) ∧
    (let s := { backState 0x10020 with deliveries := [delivery true, delivery false] }
     s.deliveries.find? (fun d => !d.err) = some (delivery false) ∧ (s.tendCtx 0 (wbits (delivery false).wave 21 16)).isSome = true ∧
     s.checkHandle 0 1 0x10020 true = .at (.dpa 0x20020) ∧
     (let u := ({ s with deliveries := dropFirst false s.deliveries } : State).homeSector 0 (.dpa 0x20020)
      (u.cellWords (.dpa 0x20020)).2 = false ∧ cellOp ((u.cellWords (.dpa 0x20020)).1.getD 1 0#32) ≤ 6) ∧
     s.deliveries = delivery true :: [delivery false] ∧ (delivery true).err = true ∧
     (let u := ({ s with deliveries := [delivery false] } : State).homeSector 0 (.dpa 0x20020)
      (u.cellWords (.dpa 0x20020)).2 = false ∧ cellOp ((u.cellWords (.dpa 0x20020)).1.getD 1 0#32) ≤ 6)) := by
  refine ⟨⟨?_, ?_, ?_⟩, ?_, ⟨?_, ?_, ?_, ?_, ?_⟩, ?_, ?_, ?_, ?_, back_cold, ?_⟩
  rotate_left 3
  · intro f hf
    simp only [List.mem_cons, List.not_mem_nil, or_false] at hf
    rcases hf with rfl | rfl
    · exact ⟨issues (by decide +kernel), by decide +kernel, by decide +kernel, by decide +kernel, fun h => absurd rfl h⟩
    · exact ⟨issues (by decide +kernel), by decide +kernel, by decide +kernel, by decide +kernel, fun _ => cell_of (by decide +kernel)⟩
  rotate_left 6
  · intro f hf
    simp only [List.mem_cons, List.not_mem_nil, or_false] at hf
    rcases hf with rfl | rfl
    · exact ⟨{ ctxOf (backState 0) .nop with lanes := 0#32 }, by decide +kernel, by decide +kernel, by decide +kernel, by decide +kernel, by decide +kernel, by decide +kernel⟩
    · exact ⟨{ ctxOf (backState 0x10020) .nop with lanes := 0#32 }, by decide +kernel, by decide +kernel, by decide +kernel, by decide +kernel, by decide +kernel, by decide +kernel⟩
  all_goals
    first | exact issues (by decide +kernel) | exact cell_of (by decide +kernel) | decide +kernel
/-! #### Steps of the device and of the host -/

/-- The I/O die and core 0 have translations of 2 MiB at virtual address 0x200000 for PASID 5: device address 0x400000; and of a page
of host memory at 0x800000. -/
def xlates5 : List Xlate := [⟨5, 0x200000, 0x200000, .dpa 0x400000, true, true⟩, ⟨5, 0x800000, 4096, .host 0x9000, true, true⟩]
/-- An entry: CMD, TAG, pointer 0x202000, record address, operands from byte 24. -/
def entryBytes (cmd rva : Nat) (ops : List Byte) : List Byte :=
  natBytes 4 cmd ++ natBytes 4 77 ++ natBytes 8 0x202000 ++ natBytes 8 rva ++ ops ++ List.replicate (40 - ops.length) 0#8
def page5 : Iface := { sqbl := 0x200000#32, sqsz := 16#32, sqdb := 1#32, vipas := 0x80000005#32, contract := true, eqbl := 0x210000#32, eqsz := 16#32 }
def queued (vi : Nat) (bs : List Byte) : State :=
  { State.reset with mem := Memory.writeBytes [] 0x400000 bs, ioAtc := xlates5, vis := [(vi, page5)], numVfs := 3 }
def entry5 (vi : Nat) (bs : List Byte) : Submission := { vi := vi, pasid := 5, bytes := bs }

def commandB (s : State) (vi n : Nat) (e : Submission) (x : Target) : Bool :=
  decide (s.nextEntry vi = .entry e) && e.cmd == n && decide (16 ≤ n → vi = 0) && decide (e.pasid < noPasid) &&
    decide (s.ioPlace e.pasid e.rva true = .at x)

theorem command_of {s : State} {vi n : Nat} {e : Submission} {x : Target} (h : commandB s vi n e x = true) : Claims.Command s vi n e x := by
  unfold commandB at h
  simp only [Bool.and_eq_true, decide_eq_true_eq, beq_iff_eq] at h
  exact ⟨h.1.1.1.1, h.1.1.1.2, h.1.1.2, h.1.2, h.2⟩

def job5 : Job := { placedJob with pasid := 5, rva := 0x201000 }
def event1 : Event := List.replicate 32 3#32

theorem witness_Reports :
    (0 : Nat) < 3 ∧ ([4, 5, 6] : List Nat) = [4, 5, 6] ∧ ({ tag := 1#32, out := 1 } : RecordFields).bytes.length = 64 ∧
    (let s := { queued 0 [] with jobs := [(1, job5)] }
     NMap.get? s.jobs 1 = some job5 ∧ s.jobDone 1 = true ∧ job5.steals.length = 3 ∧ s.ioPlace job5.pasid job5.rva true = .at (.dpa 0x401000)) ∧
    (let s := { queued 0 [] with vis := [(0, { page5 with held := [event1], eqtl := 15#32, eqhd := 1#32 })] }
     (s.iface 0).held = event1 :: [] ∧ event1.length = 32 ∧ (s.iface 0).eqsz ≠ 0#32 ∧
     ((s.iface 0).eqtl.toNat + 1) % (s.iface 0).eqsz.toNat ≠ (s.iface 0).eqhd.toNat ∧
     s.ioPlace (s.viPasid 0) (pair (s.iface 0).eqbl (s.iface 0).eqbh + 128 * (s.iface 0).eqtl.toNat) true = .at (.dpa 0x410780)) ∧
    (let s := { queued 0 [] with vis := [(0, { page5 with held := [event1], eqtl := 15#32 })] }
     (s.iface 0).held = event1 :: [] ∧ ((s.iface 0).eqtl.toNat + 1) % (s.iface 0).eqsz.toNat = (s.iface 0).eqhd.toNat) := by
  decide +kernel

theorem witness_CoreEvents :
    (loading.wave? 0 0 = some { placedWave with inflight := [loadPending], sEmpty := [(9, 7)] } ∧
      ([loadPending] : List Pending).find? (fun q => q.id == 7 && q.left == 0) = some loadPending ∧ loadPending.push = []) ∧
    (let s := withW loading (fun w => { w with arms := [(0, { hold := .acquire 2 8 none })] })
     (waveOf s).arms = [(0, { hold := .acquire 2 8 none })] ∧ ∀ q, q ∈ (waveOf s).inflight → q.id ≠ 7 → q.isMem = true → 8 ≤ q.id) ∧
    ((withC demo (fun k => { k with claim := some ⟨0, 0, 0⟩ })).core 0).claim = some ⟨0, 0, 0⟩ ∧
    (((withC demo (fun k => { k with rejects := [(⟨0, 0, 0⟩, 3)] })).core 0).claim = none ∧
      ((withC demo (fun k => { k with rejects := [(⟨0, 0, 0⟩, 3)] })).core 0).rejects = (⟨0, 0, 0⟩, 3) :: []) ∧
    (let s := withC (demo.modCore 1 (fun k => { k with txq := [message] })) (fun k => { k with port := some 0, rxq := List.replicate 255 message })
     (1 : Nat) < 1024 ∧ (0 : Nat) < 2 ^ 33 ∧ (s.core 1).txq.find? (fun m => m.dst == 0) = some message ∧ message.src = 1 ∧ s.takesMessages 0 message.job = true ∧
     (s.core 0).rxq.length < 256) ∧
    (let s := withC (demo.modCore 1 (fun k => { k with txq := [message] })) (fun k => { k with port := some 0, rxq := List.replicate 256 message })
     s.takesMessages 0 message.job = true ∧ 256 ≤ (s.core 0).rxq.length) ∧
    (demo.modCore 1 (fun k => { k with txq := [message] })).takesMessages 0 message.job = false ∧
    (withW demo (fun w => { w with pres := 1#32 })).wave? 0 0 = some { placedWave with pres := 1#32 } ∧
    (demo.cacheBanks (clusterOf 0) ≠ 0 ∧ NMap.get? (demo.cluster (clusterOf 0)).cc 9 = none ∧ NMap.sorted dirtyLine.bytes = true) ∧
    Claims.Alone demo 0 1 ∧ Claims.Room demo 0 [9] := by
  refine ⟨by decide +kernel, by decide +kernel, by decide +kernel, by decide +kernel, by decide +kernel, by decide +kernel, by decide +kernel,
    by decide +kernel, by decide +kernel, alone_of (by decide +kernel), space_of (by decide +kernel)⟩

/-- Two task entries of the job, the hotter of the higher priority; a thief's view of them. -/
def taskJob : Job := { placedJob with task := true, rootPushed := true, loct := 1, scr := 0 }
def task2 : Entry := { task1 with uid := 10, w := [0x80030000#32, 14#32] }
def taskState (es : List Entry) : State :=
  { State.reset.modCore 1 (fun k => { k with sram := es }) with jobs := [(1, taskJob)] }

theorem witness_TasksStart :
    (taskState [task1, task2]).popChoice 1 (((taskState [task1, task2]).core 1).deque.filter (fun e => (taskState [task1, task2]).eligible 1 e)) =
      some (task2, [task1]) ∧
    (taskState [{ task1 with byp := 8 }, task2]).popChoice 1 [{ task1 with byp := 8 }, task2] = some ({ task1 with byp := 8 }, []) ∧
    ((taskState [task1, task2]).core 1).freeSlots = 0 :: (List.range 63).map (fun n => n + 1) ∧ task2.scause = none ∧ task2.tiles = [] ∧
    task2.pois = false ∧ (taskState [task1, task2]).reserverFits (clusterOf 1) = false ∧
    ((taskState [task1]).stealChoice 0 = some (1, 1, task1) ∧ ((taskState [task1]).core 0).freeSlots = 0 :: (List.range 63).map (fun n => n + 1) ∧
      (taskState [task1]).hasWork 0 = false ∧ (task1.w.getD 0 0#32).getLsbD 30 = false ∧ NMap.get? (taskState [task1]).jobs 1 = some taskJob ∧
      taskJob.steals.length = 3 ∧ task1.pois = false ∧ (taskState [task1]).reserverFits (clusterOf 0) = false) ∧
    (taskState [task1]).stealChoice 9 = some (2, 1, task1) ∧ (taskState [task2]).stealChoice 128 = some (3, 1, task2) ∧
    (let s (h : Option Nat) := { taskState [task1] with jobs := [(1, { taskJob with sole := true, home := h })] }
     (s (some 1)).stealChoice 9 = some (2, 1, task1) ∧ ((s (some 1)).job 1).sole = true ∧ (s none).stealChoice 0 = some (1, 1, task1)) := by
  decide +kernel

def stageEntry : Entry := { uid := 9, w := [0x41010000#32, 0#32, 0#32, 0#32, 0x10000#32, 0#32, 0x00020010#32, 64#32], job := 1, pasid := 1, ready := false }
def stageState (active : Bool) (ts : List Tile) : State :=
  { (mapped.modCore 0 (fun k => { k with sram := [stageEntry] })).modCluster 0 (fun k => { k with stageQ := [⟨9, 0, 1, active, ts⟩] }) with
    jobs := [(1, { taskJob with stgb := 131040, scr := 131072 })], allocs := [(1, { aid := 1, job := 1, cluster := 0, bytes := 131072 })] }
def tile2 : Tile := { base := 131040, va := 0x10000, rows := 2, rb := 16, pitch := 64, wb := false }

theorem witness_Staging :
    ([(false, []), (true, [tile2])] : List (Bool × List Tile)).all (fun p => let s := stageState p.1 p.2
      (s.cluster 0).stageQ == [⟨9, 0, 1, p.1, p.2⟩] && (s.core 0).deque.find? (fun e => e.uid == 9) == some stageEntry &&
      s.jobAlloc 1 0 == some 1 && (NMap.get? s.allocs 1).map (fun al => (al.aid, al.staged.length, al.waits.length)) == some (1, 0, 0)) = true ∧
    (stageEntry.w.getD 0 0#32).toNat / 2 ^ 24 % 4 = 1 ∧
    131040 + (stageEntry.w.getD 6 0#32).toNat / 2 ^ 16 * ((stageEntry.w.getD 6 0#32).toNat % 2 ^ 16) ≤ 131072 ∧
    ((stageState true [tile2]).job 1).stgb = 131040 ∧
    (∀ va, va ∈ tile2.side.marks 32 → va < 2 ^ 57) ∧ (stageState true [tile2]).stageNeed ⟨9, 0, 1, true, [tile2]⟩ = none := by
  decide +kernel

/-- A job that waits for its teams, a task job that waits for its root; a unit that a switch has saved. -/
def waitingState (j : Job) : State := { State.reset with jobs := [(1, j)] }
def teamJob : Job := { placedJob with started := 0, w := 3, c := 2, g := 1 }
def rootJob : Job := { taskJob with rootPushed := false, args := [header] }
def savedUnit : Saved :=
  { uid := 1, job := 1, tid := 1, cluster := 0, cores := [3], waves := [{ core := 0, slot := 5, wave := placedWave, cursors := [] }], accs := [],
    ports := [], copies := [], mats := [], logs := [], waits := [] }
def switching : State := withT demo (fun t => { t with switching := true })
def savedState : State :=
  { State.reset with
    jobs := [(1, placedJob)], teams := [(1, placedTeam)], units := [(1, savedUnit)]
    allocs := [(1, { aid := 1, job := 1, cluster := 0, bytes := 131072, ofTeam := true })] }

theorem witness_UnitsMove :
    ((waitingState teamJob).nextJob = some 1 ∧ ((waitingState teamJob).job 1).task = false ∧
      (((waitingState teamJob).teamFit 0 1).map (fun e => e.2)) = some [0, 1] ∧ NMap.get? (waitingState teamJob).jobs 1 ≠ none ∧
      1 ≤ ((waitingState teamJob).job 1).c ∧ 1 ≤ ((waitingState teamJob).job 1).w) ∧
    ((waitingState rootJob).nextJob = some 1 ∧ ((waitingState rootJob).job 1).task = true ∧
      ((waitingState rootJob).rootFit 7 1).isSome = true ∧ NMap.get? (waitingState rootJob).jobs 1 ≠ none ∧
      ((waitingState rootJob).job 1).jid = 1 ∧ ((waitingState rootJob).job 1).drained = false) ∧
    (switching.wave? 0 0 = some placedWave ∧ NMap.get? switching.teams 1 = some { placedTeam with switching := true } ∧
      (∀ e, e ∈ switching.teamWaves 1 → switching.waveMaySwitch e.1 e.2.1 e.2.2 = true ∧ e.2.2.inflight = []) ∧ switching.waves.map (fun e => e.1) = [0] ∧
      (∀ c, c ∈ placedTeam.cores → (switching.core c).sideLog = [])) ∧
    (NMap.get? savedState.units 1 = some savedUnit ∧ savedUnit.cores = [3] ∧ savedState.unitFits savedUnit [7] = true ∧
      (savedState.core 7).freeSlots = 0 :: (List.range 63).map (fun n => n + 1) ∧ savedState.waves = [] ∧
      savedUnit.logs = [] ∧ savedUnit.waits = [] ∧ placedWave.inflight = [] ∧ placedWave.ended = false) := by
  decide +kernel
/-- A descriptor of a contract: period 65,536, budget 2,701, stack 7, no bank, no tolerance, core set {127}. -/
def contractBytes (budget : Nat) : List Byte :=
  natBytes 8 65536 ++ natBytes 8 budget ++ [7#8, 0#8, 0#8, 0#8] ++ natBytes 4 0 ++ natBytes 16 (2 ^ 127) ++ List.replicate 24 0#8
def contract1 : Contract :=
  { cid := 1, vi := 0, stack := 7, period := 65536, budget := 30000, tol := 0, cores := BitVec.ofNat 128 (2 ^ 127), sbanks := 0, fbanks := 0, c0 := 0 }
def contracted (c : Contract) : State := { State.reset with contracts := [(1, c)], jobs := [(1, { placedJob with cid := 1 })] }
def described (budget : Nat) : State :=
  let s := queued 0 (entryBytes 2 0x201000 [])
  { s with mem := Memory.writeBytes s.mem 0x402000 (contractBytes budget) }

theorem witness_ContractsAndTime :
    (NMap.get? (contracted contract1).contracts 1 = some contract1 ∧
      contract1.c0 + contract1.n * contract1.period ≤ ((contracted contract1).stack contract1.stack).ck ∧ contract1.ending = false ∧
      contract1.left = 0) ∧
    (NMap.get? (contracted { contract1 with ending := true, n := 1 }).contracts 1 = some { contract1 with ending := true, n := 1 }) ∧
    (∀ b, b ∈ [2700, 2701] →
      Claims.Command (described b) 0 2 (entry5 0 (entryBytes 2 0x201000 [])) (.dpa 0x401000) ∧
      (described b).span 5 0x202000 64 false = .ok [(.dpa 0x402000, 64)] ∧
      (described b).readParts [(.dpa 0x402000, 64)] = (contractBytes b, false) ∧
      (described b).contractErr 0 (contractBytes b) (descContract 0 (contractBytes b)) = (if b = 2700 then 9 else 0) ∧
      (described b).loadFits (descContract 0 (contractBytes b)) = true) ∧
    (let s := queued 0 (entryBytes 3 0x201000 (natBytes 4 1))
     let e := entry5 0 (entryBytes 3 0x201000 (natBytes 4 1))
     Claims.Command s 0 3 e (.dpa 0x401000) ∧ NMap.get? s.contracts (fieldOf e.bytes 24 4) = none ∧
     Claims.Command { s with contracts := [(1, contract1)] } 0 3 e (.dpa 0x401000) ∧ contract1.cid = fieldOf e.bytes 24 4 ∧ contract1.vi = 0) := by
  refine ⟨by decide +kernel, by decide +kernel, ?_, command_of (by decide +kernel), by decide +kernel, command_of (by decide +kernel), by decide +kernel⟩
  intro b hb
  simp only [List.mem_cons, List.not_mem_nil, or_false] at hb
  rcases hb with rfl | rfl <;>
    exact ⟨command_of (by decide +kernel), by decide +kernel, by decide +kernel, by decide +kernel, by decide +kernel⟩

/-- A test that a command asked for runs on a core: a retest of class 3, a new entry that fits and one that does not. -/
def request (r : Option (Nat × Word)) : TestReq :=
  { regraft := r, classes := 8#64, record := { vi := 0, pasid := 5, rva := 0x201000, fields := { tag := 1#32, out := 1 } }, began := true }
def tested (core : Nat) (r : Option (Nat × Word)) : State :=
  (queued 0 []).modCore core (fun k => { k with testing := true, testReqs := [request r] })
def visit1 : Visit := { core := 5, start := 0, began := false }
theorem witness_SweepAndTests :
    (State.reset.pf.rcv = false ∧ (State.reset.stack 7).sweepOn = true ∧ (State.reset.stack 7).visit = none ∧
      State.reset.nextVisit 7 = some 896 ∧ State.reset.contractBusy 896 = false) ∧
    (∀ d, d ∈ [false, true] → (let s := State.reset.modCore 5 (fun k => { k with skips := 3, draining := d })
      (s.core 5).testing = false ∧ s.testWanted 5 = true ∧ s.contractBusy 5 = false ∧ (s.stack (stackOf 5)).sweepOn = true ∧
      (s.core 5).draining = d ∧ (s.core 5).slots = [] ∧ s.sitesDrained 5 = true)) ∧
    (let s := { State.reset.modCore 5 (fun k => { k with testing := true, runLog := [(1, 26)] }) with jobs := [(1, placedJob)] }
     (s.core 5).testing = true ∧ (s.core 5).testReqs = [] ∧ s.isGanged 5 = false ∧ NMap.sorted s.jobs = true ∧
     (1, 26) ∈ (s.core 5).runLog ∧ (BitVec.ofNat 64 (2 ^ 26)).getLsbD 26 = true ∧ NMap.get? s.jobs 1 ≠ none) ∧
    (let s := (State.reset.modCore 5 (fun k => { k with slots := [(0, placedWave)], skips := 2 })).modStack 0
        (fun k => { k with visit := some visit1, ck := 4000000 })
     (s.stack 0).visit = some visit1 ∧ visit1.began = false ∧ visit1.start + (s.stack 0).drainMax ≤ (s.stack 0).ck ∧
     (s.core visit1.core).slots ≠ [] ∧ (s.core visit1.core).testReqs = [] ∧ (s.core visit1.core).skips = 2) ∧
    ([(5, none), (1023, some (7, 0x8F8FFF10#32)), (1023, some (7, 0x9090FF10#32)), (1022, some (11, 0x8E8E8F10#32))].all (fun e =>
      let s := tested e.1 e.2
      decide ((s.core e.1).testing = true ∧ (s.core e.1).testReqs = [request e.2] ∧ (request e.2).began = true ∧ s.isGanged e.1 = false ∧
        s.ioPlace 5 0x201000 true = .at (.dpa 0x401000) ∧ (request e.2).record.fields.steals.length = 3 ∧ s.jobs = []))) = true ∧
    ((tested 1023 none).regraftFits 127 7 0x8F8FFF10#32 = true ∧ (tested 1023 none).regraftFits 127 7 0x9090FF10#32 = false ∧
      (tested 1022 none).regraftFits 127 11 0x8E8E8F10#32 = true ∧ 1023 = 8 * clusterOf 1023 + 7 ∧ 1022 = 8 * clusterOf 1022 + 2 * (11 - 8)) ∧
    (let s := (queued 0 []).modCore 5 (fun k => { k with gate := .draining, gateRecs := [(request none).record] })
     (s.core 5).gate = .draining ∧ (s.core 5).slots = [] ∧ (s.core 5).gateRecs = [(request none).record] ∧
     s.ioPlace 5 0x201000 true = .at (.dpa 0x401000) ∧ (request none).record.fields.steals.length = 3) ∧
    ((State.reset.stack 7).narrow = false ∧ ((State.reset.modStack 7 (fun k => { k with narrow := true })).stack 7).narrow = true) := by
  decide +kernel

/-- A launch record of one team of one wave, 16 packets at 384; `ver` is its version. -/
def launchBytes (ver : Nat) : List Byte :=
  natBytes 2 ver ++ [0#8, 0#8] ++ natBytes 4 16 ++ natBytes 8 384 ++ natBytes 4 15 ++ natBytes 4 0xFFFFFFFF ++ natBytes 4 0xFFFFFFFF ++
    natBytes 2 1 ++ natBytes 2 1 ++ natBytes 4 1 ++ [8#8, 8#8, 1#8, 3#8] ++ natBytes 4 0 ++ natBytes 4 0 ++ natBytes 8 0x07FFFFFF ++
    natBytes 4 0 ++ [0#8, 0#8] ++ natBytes 2 0 ++ natBytes 4 1024 ++ List.replicate 316 0#8
def launchState (ver : Nat) : State :=
  let s := queued 2 (entryBytes 1 0x201000 [])
  { s with mem := Memory.writeBytes s.mem 0x402000 (launchBytes ver) }

theorem witness_Commands :
    (∀ v, v ∈ [1, 2] → (Claims.Command (launchState v) 2 1 (entry5 2 (entryBytes 1 0x201000 [])) (.dpa 0x401000) ∧
      (launchState v).span 5 0x202000 384 false = .ok [(.dpa 0x402000, 384)] ∧
      (launchState v).readParts [(.dpa 0x402000, 384)] = (launchBytes v, false) ∧
      (launchState v).launchErr (launchBytes v) (launchJob (entry5 2 (entryBytes 1 0x201000 [])) (launchBytes v)) = v - 1)) ∧
    (let s := { launchState 1 with refusals := [(5, 0x202, false)] }
     Claims.Command s 2 1 (entry5 2 (entryBytes 1 0x201000 [])) (.dpa 0x401000) ∧ s.span 5 0x202000 384 false = .bad) ∧
    (let bs := entryBytes 4 0x201000 (natBytes 4 1)
     let s := { queued 2 bs with jobs := [(1, { placedJob with vi := 2 })] }
     Claims.Command s 2 4 (entry5 2 bs) (.dpa 0x401000) ∧
     s.jobs.find? (fun y => y.2.vi == 2 && !y.2.ended && y.2.num == fieldOf (entry5 2 bs).bytes 24 4) = some (1, { placedJob with vi := 2 }) ∧
     Claims.Command (queued 2 bs) 2 4 (entry5 2 bs) (.dpa 0x401000) ∧ (queued 2 bs).jobs = []) ∧
    (let bs := entryBytes 16 0x201000 []
     let s := queued 1 bs
     Claims.commandOf (.graftRead 1) = some (1, 16) ∧ s.nextEntry 1 = .entry (entry5 1 bs) ∧ (entry5 1 bs).cmd = 16 ∧
     s.ioPlace 5 0x201000 true = .at (.dpa 0x401000)) ∧
    (let bs := entryBytes 1 0x201000 []
     let e : Submission := { vi := 1, pasid := noPasid + 1, bytes := bs }
     let s := { queued 1 bs with vis := [(1, { page5 with vipas := 0#32 })], ioAtc := xlates5.map (fun (x : Xlate) => { x with pasid := noPasid + 1 }) }
     s.nextEntry 1 = .entry e ∧ e.cmd = 1 ∧ 2 ^ 20 ≤ e.pasid ∧ s.ioPlace e.pasid e.rva true = .at (.dpa 0x401000)) ∧
    (∀ n, n ∈ [0, 5, 15, 28, 255] → (let bs := entryBytes n 0x201000 []
      (queued 1 bs).nextEntry 1 = .entry (entry5 1 bs) ∧ (entry5 1 bs).cmd = n ∧ (queued 1 bs).ioPlace 5 0x201000 true = .at (.dpa 0x401000))) ∧
    (queued 1 (entryBytes 1 0x201020 [])).nextEntry 1 = .broken := by
  refine ⟨?_, ⟨command_of (by decide +kernel), by decide +kernel⟩, ⟨command_of (by decide +kernel), by decide +kernel,
    command_of (by decide +kernel), by decide +kernel⟩, by decide +kernel, by decide +kernel, by decide +kernel, by decide +kernel⟩
  intro v hv
  simp only [List.mem_cons, List.not_mem_nil, or_false] at hv
  rcases hv with rfl | rfl <;>
    exact ⟨command_of (by decide +kernel), by decide +kernel, by decide +kernel, by decide +kernel⟩

/-- The operands that the commands of the PF are given, from byte 24: values at the end of their ranges, and beyond. -/
def operands : List (Nat × List Byte) :=
  [(16, []), (17, [7#8, 15#8, 7#8, 143#8, 143#8, 255#8]), (17, [8#8]), (18, []), (19, natBytes 4 1023 ++ natBytes 8 0x1000000000008),
   (20, natBytes 4 1023 ++ natBytes 8 1), (21, [7#8, 1#8, 0#8, 0#8] ++ natBytes 4 65536), (21, [7#8, 1#8, 0#8, 0#8] ++ natBytes 4 65535),
   (22, natBytes 4 1 ++ natBytes 8 4096 ++ natBytes 8 8192 ++ natBytes 8 4096 ++ natBytes 8 4096), (23, [127#8, 1#8]),
   (24, [0#8] ++ natBytes 2 7 ++ [2#8]), (24, [0#8] ++ natBytes 2 8 ++ [0#8]), (24, [1#8] ++ natBytes 2 1023 ++ [1#8]),
   (24, [1#8] ++ natBytes 2 1023 ++ [0#8]), (24, [2#8] ++ natBytes 2 15 ++ [1#8]),
   (25, [7#8, 0#8, 0#8, 0#8] ++ natBytes 4 40000 ++ natBytes 4 39999), (25, [7#8, 0#8, 0#8, 0#8] ++ natBytes 4 40001 ++ natBytes 4 0),
   (26, natBytes 2 3 ++ natBytes 2 3 ++ natBytes 4 0xFFFFF), (27, List.replicate 32 9#8),
   (19, natBytes 4 1024), (19, natBytes 4 0 ++ natBytes 8 0x8000000), (20, natBytes 4 1024), (22, natBytes 4 0x100000), (22, natBytes 4 1 ++ natBytes 8 1),
   (22, natBytes 4 1 ++ natBytes 8 0 ++ natBytes 8 0 ++ natBytes 8 4096 ++ natBytes 8 8192), (23, [128#8, 0#8]), (23, [0#8, 2#8]),
   (24, [1#8] ++ natBytes 2 1024), (24, [2#8] ++ natBytes 2 15 ++ [2#8]), (24, [3#8]), (26, natBytes 2 0), (26, natBytes 2 3 ++ natBytes 2 4)]
def migration1 : Migration :=
  { id := 4, record := { vi := 0, pasid := 5, rva := 0x800000, fields := { tag := 1#32, out := 1 } }, pasid := 5, src := 0x203000,
    dst := 0x205000, len := 4096, off := 0, lo := 0 }

theorem length_natBytes (n x : Nat) : (natBytes n x).length = n := by
  induction n generalizing x with
  | zero => rfl
  | succ n ih => rw [natBytes, List.length_cons, ih]
theorem length_graftResult (s : State) : s.graftResult.length = 7296 := by
  simp [State.graftResult, List.length_flatMap, length_natBytes, allClusters]

theorem witness_ManagementCommands :
    (operands.all (fun p => commandB (queued 0 (entryBytes p.1 0x201000 p.2)) 0 p.1 (entry5 0 (entryBytes p.1 0x201000 p.2)) (.dpa 0x401000))) = true ∧
    (let s := queued 0 (entryBytes 16 0x201000 [])
     let e := entry5 0 (entryBytes 16 0x201000 [])
     Claims.Buffer s e s.graftResult.length [(.dpa 0x402000, 4096), (.dpa 0x403000, 3200)] ∧
     Claims.Buffer s e 8192 [(.dpa 0x402000, 4096), (.dpa 0x403000, 4096)]) ∧
    (State.reset.regraftFits 127 7 0x8F8FFF10#32 = true ∧ State.reset.regraftFits 127 7 0x9090FF10#32 = false) ∧
    (State.reset.isGanged 1023 = false ∧ BitVec.ofNat 64 0x1000000000008 &&& ~~~0x1000007FFFFFF#64 = 0#64 ∧ (State.reset.core 1023).runLog = [] ∧
      (State.reset.core 1023).gate ≠ .gated ∧ (State.reset.core 1023).gateRecs = []) ∧
    (let s := { queued 0 [] with migrations := [migration1] }
     s.migrations.find? (fun y => y.id == 4) = some migration1 ∧ migration1.failed = false ∧ migration1.len = migration1.off + 4096 ∧
     s.migratePlace 5 (0x203000 + 0) false = .at (.dpa 0x403000) ∧ s.migratePlace 5 (0x205000 + 0) true = .at (.dpa 0x405000) ∧
     s.ioPlace 5 0x800000 true = .at (.host 0x9000) ∧ migration1.kept = [] ∧ 0x405000 % 128 = 0 ∧ s.migratePlace 5 0x205000 false ≠ .miss ∧
     (∀ va, va ∈ [0x203000, 0x205000] → s.peerNeeds 4 ioQuiet 5 (pageSectors va) = []) ∧ s.peerOwes 4 = false) ∧
    (let m : Migration := { migration1 with dst := 0x204000, len := 8192, off := 4096 }
     let s := { queued 0 [] with migrations := [m] }
     s.migrations.find? (fun y => y.id == 4) = some m ∧ m.len = m.off + 4096 ∧ m.src + m.lo ≤ m.dst + m.off ∧ ¬ m.dst + m.off < m.src + m.len ∧
     ({ m with lo := 0, src := 0x204000 } : Migration).dst + 4096 < 0x204000 + 8192) ∧
    commandB (queued 0 (entryBytes 23 0x800000 [127#8, 1#8])) 0 23 (entry5 0 (entryBytes 23 0x800000 [127#8, 1#8])) (.host 0x9000) = true ∧
    ((queued 0 []).viBusy 3 = false ∧ 3 ≤ (queued 0 []).numVfs ∧ { queued 0 [] with jobs := [(1, placedJob)] }.viBusy 0 = true) ∧
    (let s := queued 0 (entryBytes 27 0x201000 [])
     ∃ n ps, Claims.Buffer s (entry5 0 (entryBytes 27 0x201000 [])) n ps) := by
  refine ⟨by decide +kernel, ⟨?_, ?_⟩, by decide +kernel, by decide +kernel, by decide +kernel, by decide +kernel, by decide +kernel, by decide +kernel, 8192,
    [(.dpa 0x402000, 4096), (.dpa 0x403000, 4096)], ?_⟩
  · show State.span _ _ _ _ _ = _; rw [length_graftResult]; decide +kernel
  · show State.span _ _ _ _ _ = _; decide +kernel
  · show State.span _ _ _ _ _ = _; decide +kernel

theorem witness_HostRegisters :
    (let s := queued 3 []
     s.pf.rcv = false ∧ 3 ≤ s.numVfs ∧ (s.iface 3).sqsz.toNat ≤ (16#32).toNat ∧ (15#32).toNat < (s.iface 3).sqsz.toNat ∧
     (0xFFFFF000#32).toNat % 4096 = 0 ∧ (({ s with vis := [(3, { page5 with sqhd := 1#32 })] } : State).iface 3).sqhd = 1#32) ∧
    ((2048#32 : Word) = BitVec.ofNat 32 (2 ^ 11) ∧ State.reset.viBusy 0 = false) ∧
    ((0xA5000001#32).toNat / 2 ^ 24 = 0xA5 ∧ (0xA5000001#32).toNat % 16 = 1 ∧
     (0xA5070002#32).toNat / 2 ^ 16 % 2 ^ 8 = 7 ∧ (0xA5080002#32).toNat / 2 ^ 16 % 2 ^ 8 = 8 ∧ (0xA57F0003#32).toNat / 2 ^ 16 % 2 ^ 8 = 127 ∧
     (0xA5800003#32).toNat / 2 ^ 16 % 2 ^ 8 = 128 ∧ (∀ j, j < 16 → State.reset.clusterEmpty (16 * 7 + j) = true) ∧
     demo.clusterEmpty 0 = false ∧ State.reset.clusterEmpty 127 = true) := by
  decide +kernel

theorem witness_ManagementPort :
    (let s := { State.reset with i3c := { addr := some 8 } }
     s.i3c.addr = some 8 ∧ s.pf.rcv = false ∧ ({ s with pf := { s.pf with rcv := true } } : State).pf.rcv = true ∧ (s.core 1023).gate = .open) ∧
    (List.replicate 32 1#8).length = 32 ∧ (List.replicate 64 1#8).length = 64 ∧ (16777152#32).toNat + 64 ≤ 16777216 ∧
    16777216 < (16777153#32).toNat + 64 ∧ (16777216#32).toNat ≤ 16777216 ∧ portListed [0xEE#8] = false := by
  decide +kernel

/-- A page that an access of the wave waits for, with its request in some phase. -/
def xreq (p : XPhase) : XReq := { pasid := 1, page := 16, write := false, phase := p, who := [0] }
def pageArm : Arm := { hold := .page false [(0, 0x10004)] }
def pageState (p : XPhase) : State := { withW demo (fun w => { w with arms := [(0, pageArm)] }) with xreqs := [xreq p] }

theorem witness_Translation :
    (∀ p, p ∈ [XPhase.asked, .retry] → (let s := pageState p
      s.findX 1 16 false [.asked, .retry] = some (xreq p) ∧ (s.core 0).sideLog = [] ∧ s.conts = [] ∧
      (∀ e, e ∈ (s.core 0).slots → e.2.inflight = [] ∧ e.2.ended = false) ∧ s.units = [] ∧
      (s.core 0).slots = [(0, { placedWave with arms := [(0, pageArm)] })] ∧ pageArm.hold = .page false [(0, 0x10004)] ∧ pageArm.cap = none ∧ pageArm.also = none ∧ 0x10004 / 4096 = 16 ∧
      (s.job 1).pasid = 1 ∧ (s.job 1).fent = 0xFFFFFFFF ∧ (s.iface 0).held.length < 256)) ∧
    grantFits 16 0x10000 4096 = true ∧ grantFits 16 0 0x40000000 = true ∧ (2 ^ 40 - 4096) + 4096 ≤ 2 ^ 40 ∧
    (pageState .paged).findX 1 16 false [.paged] = some (xreq .paged) := by
  decide +kernel

theorem witness_Link :
    (linked.openReq 3 5 = some linkReq ∧ linked.conts = [] ∧ (∀ e, e ∈ linked.cores → e.2.sideLog = []) ∧ (∀ e, e ∈ (linked.core 0).slots → e.2.ended = false) ∧ linkReq.ret = false ∧ linkReq.sends < 16) ∧
    (let q : LinkReq := { linkReq with op := .read 4096 4, ret := true, lane := scalarLane, pend := 7 }
     let s := { withW demo (fun w => { w with inflight := [{ loadPending with left := 1 }] }) with links := [(3, { next := 6, open_ := [q] })] }
     s.openReq 3 5 = some q ∧ s.wave? q.core q.slot = some { placedWave with inflight := [{ loadPending with left := 1 }] } ∧
     placedWave.uid = q.uid ∧ q.uid ≠ 0 ∧ loadPending.id = q.pend ∧ q.lane = scalarLane ∧ (List.replicate 4 1#8).length = 4) ∧
    (let q : LinkReq := { linkReq with sends := 16 }
     let s := { demo with links := [(3, { next := 6, open_ := [q] })] }
     s.openReq 3 5 = some q ∧ 16 ≤ q.sends ∧ (NMap.at s.links 3 { }).open_ = [q] ∧ q.ret = false ∧ (s.iface (s.job q.job).vi).held.length < 256 ∧ s.conts = [] ∧
     (∀ e, e ∈ s.cores → e.2.sideLog = [])) ∧
    (let s := { State.reset with filters := [(3, [(7, [1#8])])] }
     (∀ e, e ∈ NMap.at s.filters 3 [] → e.1 ≠ 8) ∧ (7, [1#8]) ∈ NMap.at s.filters 3 [] ∧ (2 ^ 40 - 4) + 4 ≤ 2 ^ 40 ∧ s.poison = [] ∧ s.pf.rcv = false) := by
  decide +kernel

/-! ### Behaviour: the worked examples of the specification, and cases worked out from its rules by hand -/

theorem test_core_numbers : stackOf 683 = 5 ∧ clusterOf 683 = 85 := by decide
/-- The placements of teams of 20 waves on 3 cores and of 5 on 4 (the examples after R33). -/
theorem test_team_distribution : (List.range 3).map (wavesOnCore 20 3) = [7, 7, 6] ∧ (List.range 4).map (wavesOnCore 5 4) = [2, 2, 1, 0] := by
  decide
/-- The examples after R164. -/
theorem test_dpa_places : dpaPlace 0#128 0x1234567C80 = (3, 9 * 2 ^ 29 + 0xD159 * 1024 + 0x80) ∧
    (homeSlice 0#128 0x1234567C80).1 = 1 ∧ (homeSlice 0#128 0x1234567C80).2.1 = 0 ∧
    (dpaPlace (BitVec.ofNat 128 (2 ^ 9)) 0x1234567C80).1 = 1 ∧ (homeSlice (BitVec.ofNat 128 (2 ^ 9)) 0x1234567C80).1 = 0 := by decide +kernel
/-- The example after R193: bits of the line at DPA 0x1234567C80. -/
theorem test_signature_bits : sigBits (0x1234567C80 / 128) = (0x17D, 0x496, 0x3CE) := by decide +kernel
/-- The example after R187: from cluster 5 to slice 38. -/
theorem test_turn_list : turnList 5 (.slice 38) = [15, 15, 2, 1, 3] ∧ turnWord (turnList 5 (.slice 38)) = 0x0312FF ∧
    leads (fun _ p => p) 5 (turnList 5 (.slice 38)) = some (.slice 38) := by decide +kernel

/-! #### Scalars and fields -/

theorem test_sadd_wraps : afterW (.sadd 8 8 9) (regs [(8, 0xFFFFFFFF#32), (9, 2#32)]) (fun w => w.sreg 8 == 1#32) = true := by decide +kernel
theorem test_ssub_order : afterW (.ssub 8 9 10) (regs [(9, 3#32), (10, 5#32)]) (fun w => w.sreg 8 == 0xFFFFFFFE#32) = true := by decide +kernel
theorem test_smulh_signs : afterW (.smulh 8 9 10 0) (regs [(9, 0xFFFFFFFF#32), (10, 2#32)]) (fun w => w.sreg 8 == 0xFFFFFFFF#32) = true ∧
    afterW (.smulh 8 9 10 1) (regs [(9, 0xFFFFFFFF#32), (10, 2#32)]) (fun w => w.sreg 8 == 1#32) = true := by decide +kernel
theorem test_shift_amounts : afterW (.sshl 8 9 10) (regs [(9, 1#32), (10, 33#32)]) (fun w => w.sreg 8 == 2#32) = true ∧
    afterW (.ssraImm 8 9 31) (regs [(9, 0x80000000#32)]) (fun w => w.sreg 8 == 0xFFFFFFFF#32) = true := by decide +kernel
/-- Quotient and remainder of −7 by 2, of 7 by 0 and of the one overflow (R128). -/
theorem test_sdiv : afterW (.sdiv 8 9 10 0 1) (regs [(9, 0xFFFFFFF9#32), (10, 2#32)]) (fun w => w.sreg 8 == 0xFFFFFFFF#32) = true ∧
    afterW (.sdiv 8 9 10 0 0) (regs [(9, 0xFFFFFFF9#32), (10, 2#32)]) (fun w => w.sreg 8 == 0xFFFFFFFD#32) = true ∧
    afterW (.sdiv 8 9 10 0 0) (regs [(9, 7#32)]) (fun w => w.sreg 8 == 0xFFFFFFFF#32) = true ∧
    afterW (.sdiv 8 9 10 0 0) (regs [(9, 0x80000000#32), (10, 0xFFFFFFFF#32)]) (fun w => w.sreg 8 == 0x80000000#32) = true := by decide +kernel
/-- The examples after R129. -/
theorem test_sbfx : ([(0x0800, 0xA5, 0xFFFFFFA5), (0x081C, 0xF, 0xFFFFFFFF), (0x0420, 0, 0), (0x0004, 0, 0)] : List (Nat × Nat × Nat)).all (fun e =>
    afterW (.sbfx 8 9 10 0) (regs [(9, 0xF00000A5#32), (10, BitVec.ofNat 32 e.1)]) (fun w => (w.sreg 8).toNat == e.2.1) &&
    afterW (.sbfx 8 9 10 1) (regs [(9, 0xF00000A5#32), (10, BitVec.ofNat 32 e.1)]) (fun w => (w.sreg 8).toNat == e.2.2)) = true := by decide +kernel
theorem test_sbfi : afterW (.sbfi 8 9 10) (regs [(8, 0x12345678#32), (9, 0xFF#32), (10, 0x081C#32)]) (fun w => w.sreg 8 == 0xF2345678#32) = true := by
  decide +kernel
theorem test_slih : afterW (.slih 8 0x246) (regs [(8, 0xFFF45678#32)]) (fun w => w.sreg 8 == 0x12345678#32) = true := by
  decide +kernel

/-! #### Vectors -/

/-- Lane l of v8 holds l; v9 holds 100. -/
def vecs (f : Wave → Wave) : State :=
  withW demo (fun w => f { w with v := [(8, LaneVec.ofFn (fun l => BitVec.ofNat 32 l)), (9, splat 100#32)] })
def laneIs (d l : Nat) (x : Word) (w : Wave) : Bool := (w.vreg d).lane l == x

theorem test_vadd_guarded : afterW (.vadd 9 8 9 1) (vecs (fun w => { w with p := [(1, 0x80000000#32)] }))
    (fun w => laneIs 9 31 131#32 w && laneIs 9 30 100#32 w) = true := by decide +kernel
theorem test_vsel : afterW (.vsel 10 8 9 1) (vecs (fun w => { w with p := [(1, 1#32)] })) (fun w => laneIs 10 0 0#32 w && laneIs 10 1 100#32 w) = true := by
  decide +kernel
theorem test_vred_tiles : afterW (.vred 10 8 0 0) (vecs (fun w => { w with ltile := 2#32 })) (fun w => laneIs 10 0 28#32 w && laneIs 10 15 92#32 w) = true := by
  decide +kernel
theorem test_vscan : afterW (.vscan 10 8 0 0) (vecs id) (fun w => laneIs 10 31 496#32 w) = true ∧
    afterW (.vscan 10 8 1 0) (vecs id) (fun w => laneIs 10 31 465#32 w && laneIs 10 0 0#32 w) = true := by decide +kernel
theorem test_shfl_up : afterW (.shflUp 10 8 16 0) (withW (vecs (fun w => { w with ltile := 2#32 })) (fun w => w.setSs [(16, 2#32)]))
    (fun w => laneIs 10 8 8#32 w && laneIs 10 10 8#32 w) = true := by decide +kernel
/-- The example after R135: 1.0 + 2^-24 and its negation in the four modes, each of which sets NX. -/
theorem test_vfadd_modes : ([(0, 0x3F800000, 0xBF800000), (1, 0x3F800000, 0xBF800000), (2, 0x3F800000, 0xBF800001), (3, 0x3F800001, 0xBF800000)] :
    List (Nat × Nat × Nat)).all (fun e =>
      afterW (.vfaddF32 10 8 9 0) (withW demo (fun w => { w with mode := BitVec.ofNat 32 e.1, v := [(8, splat 0x3F800000#32), (9, splat 0x33800000#32)] }))
        (fun w => laneIs 10 31 (BitVec.ofNat 32 e.2.1) w && w.flags == 0x10#32) &&
      afterW (.vfaddF32 10 8 9 0) (withW demo (fun w => { w with mode := BitVec.ofNat 32 e.1, v := [(8, splat 0xBF800000#32), (9, splat 0xB3800000#32)] }))
        (fun w => laneIs 10 31 (BitVec.ofNat 32 e.2.2) w && w.flags == 0x10#32)) = true := by decide +kernel
/-- The examples after R144: 460.0, 470.0, 1,000.0 and 470.0 to f8e4; 500.0 and 100,000.0 to f8e5; without and with .sat. -/
theorem test_convert_f8 : (convFloat Fmt.f32 Fmt.f8e4 .rne false 0x43E60000).1 = 0x7E ∧ convFloat Fmt.f32 Fmt.f8e4 .rtz false 0x43EB0000 = (0x7E, 0x10#32) ∧
    (convFloat Fmt.f32 Fmt.f8e4 .rtz true 0x447A0000) = (0x7E, 0x14#32) ∧ (convFloat Fmt.f32 Fmt.f8e4 .rne false 0x43EB0000).1 = 0x7F ∧
    (convFloat Fmt.f32 Fmt.f8e4 .rne true 0x43EB0000).1 = 0x7E ∧ (convFloat Fmt.f32 Fmt.f8e5 .rne false 0x43FA0000).1 = 0x60 ∧
    (convFloat Fmt.f32 Fmt.f8e5 .rne false 0x47C35000).1 = 0x7C ∧ (convFloat Fmt.f32 Fmt.f8e5 .rne true 0x47C35000).1 = 0x7B := by decide +kernel

/-! #### Control -/

/-- The example after R102: BRA and CALL at packet 40 of a segment at 0x3_0000_0000. -/
def farState : State := withJ (atPc 40) (fun j => { j with cbase := 0x300000000, npkt := 64 })
theorem test_bra : afterW (.bra (-10)) farState (fun w => (NMap.get? w.arms 0).map (fun a => (a.pc, a.word)) == some (30, 0)) = true := by decide +kernel
theorem test_call : afterW (.call 5) farState (fun w => w.sreg 62 == 0x1EC#32 && w.sreg 63 == 3#32 && (NMap.get? w.arms 0).map (fun a => a.pc) == some 45) = true := by
  decide +kernel
/-- The example after R63: BANY in tiles of 8 lanes, with lane 27 active and without. -/
def tileState (exm : Mask) : State :=
  withW demo (fun w => { (w.modArm 0 (fun a => { a with exm := exm })) with ltile := 2#32, p := [(3, 0x08040201#32)] })
theorem test_bany_tiles : afterW (.bany 3 1 5) (tileState 0xFFFFFFFF#32) (fun w => (NMap.get? w.arms 0).map (fun a => a.pc) == some 5) = true ∧
    afterW (.bany 3 1 5) (tileState 0xF7FFFFFF#32) (fun w => (NMap.get? w.arms 0).map (fun a => a.pc) == some 1) = true ∧
    afterW (.bany 3 0 5) (tileState 0xF7FFFFFF#32) (fun w => (NMap.get? w.arms 0).map (fun a => a.pc) == some 5) = true := by decide +kernel
/-- Steps 1 and 3 of the example after R61. -/
theorem test_split : afterW (.split 1 10) (withW (withJ (atPc 10) (fun j => { j with npkt := 32 })) (fun w => { w with p := [(1, 0xFFF#32)] }))
    (fun w => w.spld == 0x60#32 && (w.arms.map (fun e => (e.1, e.2.pc, e.2.exm))) == [(0, 11, 0xFFFFF000#32), (1, 20, 0xFFF#32)]) = true := by decide +kernel
theorem test_merge_pops : afterW .merge (withW (withJ (atPc 15) (fun j => { j with npkt := 32 })) (fun w =>
      { w with groups := [⟨2, 1, 2, 0xFFFFF000#32, [], 0xF0000#32⟩, ⟨1, 0, 2, 0xFFFFFFFF#32, [], 0xFFF#32⟩], stack := [⟨14, 0xF000#32, 2, []⟩], nextGrp := 3,
               arms := [(0, { pc := 15, exm := 0xFFFF0000#32, entry := 0xFFFF0000#32, grp := 2 }), (1, { pc := 20, exm := 0xFFF#32, entry := 0xFFF#32, grp := 1 })] }))
    (fun w => w.spld == 0xA0#32 && (NMap.get? w.arms 0).map (fun a => (a.pc, a.exm)) == some (14, 0xF000#32)) = true := by decide +kernel
/-- The example after R53: VADD of an empty v8 under ETRAP 0b011. -/
theorem test_etrap : afterW (.vadd 9 8 8 0) (withJ (withW (emptyV 8) (fun w => { w with etrap := 3#32 })) (fun j => { j with tent := 7 }))
    (fun w => w.faddl == 8#32 && w.fcause == fcauseWord true 0 0 3 && (NMap.get? w.arms 0).map (fun a => a.pc) == some 7) = true := by decide +kernel
/-- PREOFF keeps an open window (the example after R274). -/
theorem test_preoff_keeps_window : afterW (.preoff 8) (withW (regs [(8, 3000#32)]) (fun w => { w with pres := 600#32 })) (fun w => w.pres == 600#32) = true := by
  decide +kernel

/-! #### Memory -/

theorem test_sts_then_line : after (.sts 9 16 2) (mappedR [(16, 0x10001#32), (9, 0xAABBCCDD#32)]) (fun t =>
    (NMap.get? (t.core 0).l1 (0x20000 / 128)).map (fun l => (l.bytes.map (fun e => (e.1, e.2.val)), l.dirty.length)) ==
      some ([(0, 0xDD#8), (1, 0xCC#8), (2, 0xBB#8), (3, 0xAA#8)], 4) && t.mem == []) = true := by decide +kernel
/-- Higher lanes win (R160). -/
theorem test_stl_order : after (.stl 8 16 24 0 4) (withW (vecs id) (fun w => w.setSs [(16, 64#32)])) (fun t =>
    (t.alloc 1).bytesAt 64 4 == [31#8, 0#8, 0#8, 0#8]) = true := by decide +kernel
/-- The example after R331: three lanes of ATOM.add.i on a word that holds 10. -/
def atomTest : State × List (Nat × Word) × List (Nat × Nat) :=
  ({ demo with mem := [(64, 10#8)] } : State).atomLanes 0 1 0 (fun l => BitVec.ofNat 32 (l + 1)) (fun _ => 0#32)
    [(0, 64, .dpa 64), (1, 64, .dpa 64), (2, 64, .dpa 64)]
theorem test_atom_lanes : atomTest.2.1 = [(0, 10#32), (1, 11#32), (2, 13#32)] ∧ atomTest.1.mem = [(64, 16#8)] := by decide +kernel
/-- The example after R169: .w of A, .wc of B and C wait; a fill of 5 lets A and B go on, empties the granule, and C still waits. -/
theorem test_fill_order : after (.stlFill 9 16 24 1 0)
      ((withW demo (fun w => { w with v := [(9, splat 5#32)], p := [(1, 1#32)], inflight := [11, 12, 13].map (fun n => { loadPending with id := n, left := 1 }) })).modAlloc 1
        (fun a => { a with waits := [⟨0, 0, 11, false, 0, 4, [(0, 0)]⟩, ⟨0, 0, 12, true, 0, 4, [(0, 0)]⟩, ⟨0, 0, 13, true, 0, 4, [(0, 0)]⟩] }))
    (fun t => (t.alloc 1).full == [] && ((t.alloc 1).waits.map (fun q => q.id)) == [13] &&
      ((t.wave? 0 0).map (fun w => w.inflight.map (fun p => (p.id, p.left)))) == some [(11, 0), (12, 0), (13, 1)]) = true := by decide +kernel
/-- The example after R93: 9.0 delivered to an add.f32 cell that holds 7.0 with a count of 2. -/
theorem test_delivery : (let t := (cellState [2#32, 2#32, 0x40E00000#32]).deliver 0 1 (.dpa 0x20020) 0x41100000 false
    decide (Claims.cell t.mem 0x20020 0 = 1#32) && decide (Claims.cell t.mem 0x20020 2 = 0x41800000#32)) = true := by decide +kernel

/-! #### Engines -/

/-- The example after R155: one group of 16 products. -/
theorem test_group_sum : accumulate 0#32 (groupSum (Fmt.f32.num 0x4B800000 :: List.replicate 15 (Fmt.f32.num 0x3F800000))) = 0x4B800008#32 := by decide +kernel
/-- The example after R150: scale code, codes and values of a block. -/
theorem test_nq4 : (let d (x : Nat) : Dy := (Fmt.f32.num x).dy
    decide (scaleCode (d 0x3F400000) (d 0x40000000) = 95) && decide (nearestCode (d 0x3F400000) (d 0xBF400000) = 0) &&
    decide (nearestCode (d 0x3F400000) (d 0x3E99999A) = 12) && decide (nearestCode (d 0x3F400000) (d 0x3EF6C000) = 14) &&
    decide (nearestCode (d 0x3F400000) (d 0) = 7) && decide (scaleCode (d 0x40000000) (d 0x40000000) = 255)) = true := by decide +kernel
theorem test_dequantise : [0, 12, 14, 7].map (fun c => dequantise Fmt.f32 c 95 0x40000000) = [0xBF400000, 0x3EA98000, 0x3F0AC000, 0] := by decide +kernel
/-- The example after R226: the first K block of its two rows. -/
def nq4Alloc : Alloc :=
  { aid := 1, job := 1, cluster := 0, bytes := 131072,
    cells := (List.range 128).map (fun k => (0x400 + k, if k < 64 then 0xDD#8 else 0x88#8)) ++
      (List.range 128).flatMap (fun k => [(0x800 + 16 * k, 0x80#8), (0x801 + 16 * k, 0x3F#8)]) ++
      [(0x1002, 0x80#8), (0x1003, 0x40#8), (0x1006, 0x80#8), (0x1007, 0x3F#8), (0x1008, 63#8), (0x1009, 127#8), (0x100A, 255#8), (0x100B, 255#8)] }
def nq4Op : MatOp :=
  { matOp with fmt := { af := 7, bf := 3 }, a := { laddr := 0x400, rows := 2, cols := 128, pitch := 64, scale := 0x1000 },
               b := { laddr := 0x800, rows := 128, cols := 1, pitch := 16 } }
theorem test_mma_nq4 : nq4Op.blockElem nq4Alloc 1 0 0 (nq4Op.blockElem nq4Alloc 0 0 0 0#32) = 0x42D80000#32 ∧
    nq4Op.blockElem nq4Alloc 1 1 0 (nq4Op.blockElem nq4Alloc 0 1 0 0#32) = 0x41230000#32 := by decide +kernel
/-- The example after R322: what ACCST writes, by format. -/
theorem test_narrow : [0x43FA0000#32, 0xBA83126F#32, 0x7F800000#32, 0x7FC00000#32, 0x40200000#32].map (narrow 4) = [0x7E, 0x81, 0x7E, 0x7F, 0x42] ∧
    [0x43FA0000#32, 0xBA83126F#32, 0x7F800000#32, 0x7FC00000#32, 0x40200000#32].map (narrow 5) = [0x60, 0x94, 0x7B, 0x7E, 0x41] ∧
    [0x43FA0000#32, 0xBA83126F#32, 0x7F800000#32, 0x7FC00000#32, 0x40200000#32].map (narrow 8) = [500, 0, 0x7FFFFFFF, 0, 2] := by decide +kernel
/-- The example after R342: f32 to bf16 in a copy. -/
theorem test_copy_convert : [0x3F808000, 0x7F7FFFFF, 1, 0xFFC01234].map (fun x => (convFloat Fmt.f32 Fmt.bf16 .rne false x).1) =
    [0x3F80, 0x7F80, 0, 0xFFC0] := by decide +kernel

/-- The streams of the example after R242, in SCRATCH: IDX32 at 0x1000, DLT8 at 0x2000. -/
def streams (dlt : List Byte) : CurEnv :=
  let m := Memory.writeBytes (Memory.writeBytes [] 0x1000 (wordsBytes [2#32, 5#32, 9#32, 14#32, 20#32, 31#32])) 0x2000 dlt
  { s := demo.modAlloc 1 (fun a => { a with cells := m }), core := 0, pasid := 1, aid := 1 }
def dltBytes : List Byte := [5#8, 4#8, 1#8, 10#8, 11#8, 0xFF#8, 0x28#8, 0#8, 0#8, 0#8]
def cursor1 (len : Nat) : Cur :=
  openCur 0 [0x1000#32, 0#32, 6#32, 0x2C0#32, 0#32, 0#32, 0#32, 0#32] [0x2000#32, 0#32, BitVec.ofNat 32 len, 0x201#32, 0#32, 0#32, 0#32, 0#32]
/-- Index and the two value offsets of the lanes that a fill gives. -/
def filled (r : Except CurStop (Cur × List Filled × Option (Nat × Nat))) : List (Nat × Nat × Nat) :=
  match r with | .ok (_, l, _) => l.map (fun f => (f.idx, f.v1, f.v2)) | .error _ => []
theorem test_intersect : filled ((streams dltBytes).fill [0, 1, 2] (cursor1 10) 0 0) = [(5, 4, 0), (9, 8, 1), (20, 16, 3)] ∧
    filled ((streams dltBytes).fill [0, 1, 2, 3] (cursor1 10) 0 0) = [(5, 4, 0), (9, 8, 1), (20, 16, 3), (31, 20, 4)] := by decide +kernel
/-- The example after R247: words w3 to w6 and w9 to w13 of the two images of a CXSPLIT. -/
theorem test_cxsplit : ((match (streams dltBytes).split (cursor1 10) 2 with
      | .ok l => l.map (fun c => ((c.image.drop 3).take 4 ++ (c.image.drop 9).take 5).map (fun w => w.toNat)) | .error _ => []) ==
    [[0, 0, 12, 0, 0, 0, 3, 0, 2], [3, 12, 24, 9, 3, 3, 10, 10, 0x10002]]) = true := by decide +kernel
/-- The example after R248: the escape to 7 behind 9 stops the fill in front of it. -/
theorem test_unsorted : ((match (streams [5#8, 4#8, 0xFF#8, 7#8, 0#8, 0#8, 0#8, 11#8]).fill (List.range 32) (cursor1 8) 0 0 with
      | .ok (c, l, d) => decide ((l.map (fun f => f.idx), d, (c.image.drop 9).take 4) = ([5, 9], some (1, 1), [2#32, 2#32, 8#32, 9#32])) | .error _ => false)) =
    true := by decide +kernel

/-! #### The machine's own moves -/

/-- An uncorrectable sector of an HBM4E stack poisons its line and sets MEVT[4] (R22, R310). -/
theorem test_ecc : (match State.perform State.reset (.ecc (.home 5)) with
    | .next t => t.poison == [5] && t.pf.mevt.getLsbD 4
    | _ => false) = true := by decide +kernel

/-- Within the cycle of a SETC MODE the mode before it is in force (R133), and a shuffle reads what the other arm has overwritten in this cycle
as it was (R416). -/
theorem test_mode_of_the_cycle : afterW (.vfaddF32 10 8 9 0) (withW demo (fun w =>
      { w with mode := 3#32, mode0 := some 2#32, v := [(8, splat 0xBF800000#32), (9, splat 0xB3800000#32)] }))
    (fun w => laneIs 10 31 0xBF800001#32 w) = true := by decide +kernel
theorem test_shfl_old_lanes : afterW (.shflBcast 10 8 16 0) (vecs (fun w => { w with old := [(1, 8, 0x1#32, splat 77#32)] }))
    (fun w => laneIs 10 31 77#32 w) = true := by decide +kernel
end Sys2Proof.Tests
end

section
/-! ## Every step keeps the canonical form of the memories

`Claims.Inv` speaks of the stores alone: device memory, host memory, firmware staging, the bytes of the SCRATCH allocations, and
NumVFs. One lemma per operation of the model, named after it, says that the operation keeps the invariant; its proof follows the
operation's own branches and composes the lemmas of the operations that it calls. Only five rules touch the stores: `update` for an
operation that leaves them alone, and `updateMem`, `updateHost`, `updateStaging` and `updateAllocs` for one that writes one of them
through `Memory.write` or `Memory.writeBytes`. -/
set_option Elab.async false

open Sys2Proof Sys2Proof.Machine

namespace Sys2Proof.Claims

/-- Every state that an outcome answers meets the invariant. -/
def Kept (o : Host.Outcome State Fault Refusal) : Prop := ∀ t, o = .next t → Inv t

theorem Kept.fault {r : Fault} : Kept (.fault r) := fun _ e => by cases e

theorem Kept.ite {p : Prop} {_ : Decidable p} {o q : Host.Outcome State Fault Refusal} (ho : Kept o) (hq : Kept q) :
    Kept (if p then o else q) := by
  split
  · exact ho
  · exact hq

/-- The same of an operation of the Bramble. -/
def KeptBr (r : BrResult) : Prop := ∀ t, r = .ok t → Inv t

end Sys2Proof.Claims

namespace Sys2Proof.Claims.Inv

variable {s t : State} {c : Ctx}

/-! ### General rules -/

/-- A change of the state outside the stores keeps the invariant. -/
theorem update (h : Inv s) (hm : t.mem = s.mem := by rfl) (hh : t.hostMem = s.hostMem := by rfl)
    (hs : t.secure.store = s.secure.store := by rfl) (ha : t.allocs = s.allocs := by rfl)
    (hv : t.numVfs = s.numVfs := by rfl) : Inv t :=
  ⟨hm ▸ h.mem, hh ▸ h.host, hs ▸ h.staging, ha ▸ h.scratch, hv ▸ h.vfs⟩

/-- A change of device memory keeps the invariant when it keeps the memory's form. -/
theorem updateMem (h : Inv s) (hm : Memory.wf s.mem = true → Memory.wf t.mem = true) (hh : t.hostMem = s.hostMem := by rfl)
    (hs : t.secure.store = s.secure.store := by rfl) (ha : t.allocs = s.allocs := by rfl)
    (hv : t.numVfs = s.numVfs := by rfl) : Inv t :=
  ⟨hm h.mem, hh ▸ h.host, hs ▸ h.staging, ha ▸ h.scratch, hv ▸ h.vfs⟩

/-- A change of host memory keeps the invariant when it keeps the memory's form. -/
theorem updateHost (h : Inv s) (hh : Memory.wf s.hostMem = true → Memory.wf t.hostMem = true) (hm : t.mem = s.mem := by rfl)
    (hs : t.secure.store = s.secure.store := by rfl) (ha : t.allocs = s.allocs := by rfl)
    (hv : t.numVfs = s.numVfs := by rfl) : Inv t :=
  ⟨hm ▸ h.mem, hh h.host, hs ▸ h.staging, ha ▸ h.scratch, hv ▸ h.vfs⟩

/-- A change of the firmware staging keeps the invariant when it keeps the memory's form. -/
theorem updateStaging (h : Inv s) (hs : Memory.wf s.secure.store = true → Memory.wf t.secure.store = true)
    (hm : t.mem = s.mem := by rfl) (hh : t.hostMem = s.hostMem := by rfl) (ha : t.allocs = s.allocs := by rfl)
    (hv : t.numVfs = s.numVfs := by rfl) : Inv t :=
  ⟨hm ▸ h.mem, hh ▸ h.host, hs h.staging, ha ▸ h.scratch, hv ▸ h.vfs⟩

/-- A change of the SCRATCH allocations keeps the invariant when it keeps the form of their bytes. -/
theorem updateAllocs (h : Inv s)
    (ha : (∀ e, e ∈ s.allocs → Memory.wf e.2.cells = true) → ∀ e, e ∈ t.allocs → Memory.wf e.2.cells = true)
    (hm : t.mem = s.mem := by rfl) (hh : t.hostMem = s.hostMem := by rfl) (hs : t.secure.store = s.secure.store := by rfl)
    (hv : t.numVfs = s.numVfs := by rfl) : Inv t :=
  ⟨hm ▸ h.mem, hh ▸ h.host, hs ▸ h.staging, ha h.scratch, hv ▸ h.vfs⟩

/-- Byte after byte written keeps the form of a memory. -/
theorem wf_foldl_write {α : Type} {f : α → Nat} {g : α → Byte} {l : List α} {m : Memory} (h : Memory.wf m = true) :
    Memory.wf (l.foldl (fun m e => Memory.write m (f e) (g e)) m) = true := by
  induction l generalizing m with
  | nil => exact h
  | cons a l ih => exact ih (Memory.wf_write m _ _ h)

theorem forall_put {m : NMap Alloc} {k : Nat} {x : Alloc} (hx : Memory.wf x.cells = true)
    (h : ∀ e, e ∈ m → Memory.wf e.2.cells = true) (e : Nat × Alloc) (he : e ∈ NMap.put m k x) : Memory.wf e.2.cells = true := by
  rcases NMap.mem_put m k x e he with rfl | he
  · exact hx
  · exact h e he

/-- A state that meets the invariant, answered. -/
theorem kept (h : Inv s) : Kept (.next s) := fun _ e => by cases e; exact h

theorem ite {p : Prop} {_ : Decidable p} (hs : Inv s) (ht : Inv t) : Inv (if p then s else t) := by
  split
  · exact hs
  · exact ht

theorem fst {α : Type} {p : State × α} {a : α} (h : Inv p.1) (e : p = (t, a)) : Inv t := by
  subst e; exact h

theorem snd {α : Type} {p : α × State} {a : α} (h : Inv p.2) (e : p = (a, t)) : Inv t := by
  subst e; exact h

/-- A loop over the state keeps the invariant when each turn keeps it. -/
theorem foldl {α : Type} {f : State → α → State} {l : List α} (h : Inv s) (hf : ∀ s a, Inv s → Inv (f s a)) :
    Inv (l.foldl f s) := by
  induction l generalizing s with
  | nil => exact h
  | cons a l ih => exact ih (hf s a h)

theorem mem_of_get? {α : Type} {m : NMap α} {k : Nat} {a : α} (e : NMap.get? m k = some a) : (k, a) ∈ m := by
  induction m with
  | nil => cases e
  | cons x m ih =>
    obtain ⟨j, b⟩ := x
    unfold NMap.get? at e
    split at e
    · cases e; subst_vars; exact List.mem_cons_self
    · exact List.mem_cons_of_mem _ (ih e)

theorem forall_del {m : NMap Alloc} {k : Nat} (h : ∀ e, e ∈ m → Memory.wf e.2.cells = true)
    (e : Nat × Alloc) (he : e ∈ NMap.del m k) : Memory.wf e.2.cells = true :=
  h e (List.mem_of_mem_filter he)

theorem getD {o : Option State} (h : Inv s) (ho : ∀ t, o = some t → Inv t) : Inv (o.getD s) := by
  cases o with
  | none => exact h
  | some t => exact ho t rfl

theorem forall_map {m : NMap Alloc} {f : Nat × Alloc → Nat × Alloc} (hf : ∀ e, (f e).2.cells = e.2.cells)
    (h : ∀ e, e ∈ m → Memory.wf e.2.cells = true) (e : Nat × Alloc) (he : e ∈ m.map f) : Memory.wf e.2.cells = true := by
  obtain ⟨d, hd, rfl⟩ := List.mem_map.1 he
  exact (hf d).symm ▸ h d hd

theorem thd {α β : Type} {p : α × β × State} {a : α} {b : β} (h : Inv p.2.2) (e : p = (a, b, t)) : Inv t := by
  subst e; exact h

theorem placeTiles_cells {al al' : Alloc} {owner stgb : Nat} {ts l : List Tile} (e :
    al.placeTiles owner stgb ts = some (l, al')) :
    al'.cells = al.cells := by
  induction ts generalizing al l with
  | nil => cases e; rfl
  | cons t ts ih =>
    unfold Alloc.placeTiles at e
    split at e
    · cases e
    · split at e
      · cases e
      next e' =>
        cases e
        have hc := ih e'
        exact hc

theorem alloc {a : Nat} (h : Inv s) : Memory.wf (s.alloc a).cells = true := by
  unfold State.alloc NMap.at
  cases e : NMap.get? s.allocs a with
  | none => rfl
  | some x => exact h.scratch _ (mem_of_get? e)

theorem stageHead {cl : Nat} {q : StageReq} {e : Entry} {al : Alloc} (h : Inv s) (hq : s.stageHead cl = some (q, e, al)) :
    Memory.wf al.cells = true := by
  unfold State.stageHead at hq
  split at hq
  · cases hq
  · split at hq
    · cases hq; exact h.alloc
    · cases hq

theorem wf_atomLanes {al : Alloc} {fn x n l} (h : Memory.wf al.cells = true) :
    Memory.wf (al.atomLanes fn x n l).1.cells = true := by
  induction l generalizing al with
  | nil => exact h
  | cons e l ih =>
    unfold Alloc.atomLanes
    split
    · exact ih h
    · exact ih (Memory.wf_writeBytes _ _ _ h)

/-! ### Cores, caches, teams, halts and traps -/

theorem setCore {c k} (h : Inv s) : Inv (s.setCore c k) :=
  h.update

theorem modCore {c f} (h : Inv s) : Inv (s.modCore c f) :=
  h.setCore

theorem modWave {c slot f} (h : Inv s) : Inv (s.modWave c slot f) := by
  unfold State.modWave
  split
  · exact h.modCore
  · exact h

theorem modIface {v f} (h : Inv s) : Inv (s.modIface v f) :=
  h.update

theorem postEvent {vi e} (h : Inv s) : Inv (s.postEvent vi e) :=
  h.modIface

theorem logViolation {vi line} (h : Inv s) : Inv (s.logViolation vi line) :=
  h.postEvent.postEvent

theorem modJob {j f} (h : Inv s) : Inv (s.modJob j f) := by
  unfold State.modJob
  split
  · exact h.update
  · exact h

theorem freeStage {owner} (h : Inv s) : Inv (s.freeStage owner) :=
  h.updateAllocs (forall_map fun _ => rfl)

theorem unstage {uid} (h : Inv s) : Inv (s.unstage uid) :=
  h.freeStage.update

theorem discardClosure {core j ws} (h : Inv s) : Inv (s.discardClosure core j ws) :=
  ite h h.update

theorem drainJob {jid} (h : Inv s) : Inv (s.drainJob jid) := by
  unfold State.drainJob
  extract_lets _ _ _ s1
  have h1 : Inv s1 := h.modJob.foldl fun _ _ h => h.discardClosure.unstage
  exact ite h h1.update

theorem modCluster {c f} (h : Inv s) : Inv (s.modCluster c f) :=
  h.update

theorem freeBank {cl p} (h : Inv s) : Inv (s.freeBank cl p) :=
  h.modCluster

theorem l2Line {pasid la} (h : Inv s) : Inv (s.l2Line pasid la).1 := by
  unfold State.l2Line
  split
  · split
    · exact h
    · exact h
  · extract_lets
    split
    · exact h
    · exact h.update

theorem l2Touch {pasid la secs write} (h : Inv s) : Inv (s.l2Touch pasid la secs write) := by
  unfold State.l2Touch
  split
  next e =>
    exact (h.l2Line.fst e).update

theorem lineHome {la l} (h : Inv s) : Inv (s.lineHome la l) := by
  unfold State.lineHome
  extract_lets _ s1
  have h1 : Inv s1 := ite h h.l2Touch
  exact h1.updateMem wf_foldl_write

theorem evictCC {cl la} (h : Inv s) : Inv (s.evictCC cl la) := by
  unfold State.evictCC
  split
  · exact h.lineHome.modCluster
  · exact h

theorem flushWays {cl bs} (h : Inv s) : Inv (s.flushWays cl bs) :=
  h.foldl fun _ _ h => h.evictCC

/-- A change of one SCRATCH allocation has to keep the form of its bytes, which it does by default when it leaves them alone. -/
theorem modAlloc {a f} (h : Inv s) (hf :
    ∀ al, Memory.wf al.cells = true → Memory.wf (f al).cells = true := by exact fun _ h => h) :
    Inv (s.modAlloc a f) := by
  unfold State.modAlloc
  split
  next x e => exact h.updateAllocs fun ha => forall_put (hf x (ha _ (mem_of_get? e))) ha
  next => exact h

theorem takeBanks {cl n o} (h : Inv s) : Inv (s.takeBanks cl n o) := by
  unfold State.takeBanks
  split
  · exact h
  · extract_lets
    split
    · exact h.flushWays.modCluster.modAlloc
    · exact h.flushWays.modCluster

theorem rebank {cl} (h : Inv s) : Inv (s.rebank cl) :=
  h.freeBank.foldl fun _ _ h => h.takeBanks

theorem leaveCluster {jid cl} (h : Inv s) : Inv (s.leaveCluster jid cl) := by
  unfold State.leaveCluster
  split
  · exact h
  · split
    · exact h
    next aid _ =>
      have h1 : Inv (s.freeBank cl (fun o => o == BankOwner.alloc aid)) := h.freeBank
      exact (h1.updateAllocs forall_del).rebank

theorem drain {jid} (h : Inv s) : Inv (s.drain jid) :=
  h.drainJob.foldl fun _ _ h => h.leaveCluster

theorem endedHalt {core slot w x kind cause addr tail} (h : Inv s) :
    Inv (s.endedHalt core slot w x kind cause addr tail) := by
  unfold State.endedHalt
  extract_lets _ _ _ s1
  have h1 : Inv s1 := ite h.postEvent.logViolation h.postEvent
  exact ite h1.modJob.drain h1.modJob

theorem givePennant {core slot} (h : Inv s) : Inv (s.givePennant core slot) :=
  h.modCore.modWave

theorem handover {core target} (h : Inv s) : Inv (s.handover core target) := by
  unfold State.handover
  extract_lets old s1 found
  have h1 : Inv s1 := by
    unfold s1 old
    split
    · exact h.modWave
    · exact h
  clear_value found
  split
  · exact h1.givePennant
  · split
    · exact h1.givePennant
    · exact h1.modCore

theorem settlePennant {core} (h : Inv s) : Inv (s.settlePennant core) := by
  unfold State.settlePennant
  extract_lets
  split
  · exact h
  · split
    · exact h.handover
    · split
      · exact h
      · split
        · exact h.handover
        · split
          · exact h.handover
          · exact h

theorem modTeam {t f} (h : Inv s) : Inv (s.modTeam t f) := by
  unfold State.modTeam
  split
  · exact h.update
  · exact h

theorem setL1 {c la l} (h : Inv s) : Inv (s.setL1 c la l) :=
  h.modCore

theorem evictOther {cl pasid la} (h : Inv s) : Inv (s.evictOther cl pasid la) := by
  unfold State.evictOther
  split
  · exact ite h h.evictCC
  · exact h

theorem setCC {cl la l} (h : Inv s) : Inv (s.setCC cl la l) :=
  h.modCluster

theorem ccWay {cl la} (h : Inv s) : Inv (s.ccWay cl la).1 := by
  unfold State.ccWay
  extract_lets
  split
  · exact h
  · split
    · exact h.evictCC.update
    · exact h

theorem ccLine {cl pasid la} (h : Inv s) : Inv (s.ccLine cl pasid la).1 := by
  unfold State.ccLine
  split
  · split
    · exact h
    · exact h.lineHome.setCC
  · split
    next e =>
      exact h.ccWay.fst e

theorem lineOut {cl la l home} (h : Inv s) : Inv (s.lineOut cl la l home) := by
  unfold State.lineOut
  split
  · extract_lets
    split
    · exact h.evictOther.lineHome.setCC
    · exact h.evictOther.lineHome
  · split
    next e =>
      exact (h.ccLine.fst e).setCC

theorem writeBackL1 {c home} (h : Inv s) : Inv (s.writeBackL1 c home) :=
  h.foldl fun _ _ h => ite h h.lineOut.setL1

theorem writeBackCC {cl g} (h : Inv s) : Inv (s.writeBackCC cl g) :=
  h.foldl fun _ _ h => ite h h.lineHome.setCC

theorem modStack {k f} (h : Inv s) : Inv (s.modStack k f) :=
  h.update

theorem publishTo {c scope g} (h : Inv s) : Inv (Machine.publishTo s c scope g) := by
  unfold Machine.publishTo
  extract_lets _ s1
  have h1 : Inv s1 := ite h.modCluster.modStack h.modCluster
  exact ite h1.update h1

theorem release {c scope} (h : Inv s) : Inv (s.release c scope) := by
  unfold State.release
  split
  · exact h
  · exact ((ite h.writeBackL1.writeBackCC h.writeBackL1).publishTo).modCore

theorem endTeam {tid} (h : Inv s) : Inv (s.endTeam tid) := by
  unfold State.endTeam
  extract_lets _ _ s1 s2
  have h1 : Inv s1 := ite (h.foldl fun _ _ h => h.release) h
  have h2 : Inv s2 := h1.freeBank
  split
  · exact h1.update.leaveCluster
  · exact (h2.updateAllocs forall_del).rebank

theorem freeSlot {core slot w} (h : Inv s) : Inv (s.freeSlot core slot w) :=
  ite h.modCore.modTeam.endTeam h.modCore.modTeam

theorem settle {core} (h : Inv s) : Inv (s.settle core) :=
  h.settlePennant.modCore.foldl fun _ _ h => ite h.freeSlot h

theorem abandonTeam {tid} (h : Inv s) : Inv (s.abandonTeam tid) :=
  h.modTeam

theorem queueError {core slot w} (h : Inv s) : Inv (s.queueError core slot w) :=
  ite h h.update

theorem fresh (h : Inv s) : Inv s.fresh.2 :=
  h.update

theorem fork {c} (h : Inv s) : Inv (s.fork c) :=
  h.writeBackL1.writeBackCC

theorem pushEntry {core e} (h : Inv s) : Inv (s.pushEntry core e) := by
  unfold State.pushEntry
  extract_lets
  split
  · exact h.discardClosure
  · exact ite h.modCore.fork.modCluster h.modCore

theorem placeRecord {core jid handler cause line} (h : Inv s) : Inv (s.placeRecord core jid handler cause line) := by
  unfold State.placeRecord
  extract_lets _ s1
  have h1 : Inv s1 := by
    unfold s1
    split
    · exact h.postEvent
    · split
      next e =>
        exact (h.fresh.snd e).pushEntry
  exact ite h1.logViolation h1

theorem afterHalt {core slot w line cause err} (h : Inv s) : Inv (s.afterHalt core slot w line cause err) := by
  unfold State.afterHalt
  extract_lets _ _ s1
  have h1 : Inv s1 := ite h.abandonTeam.queueError h.abandonTeam
  exact ite h1.placeRecord.modJob.drain h1.placeRecord.modJob

theorem freeWords {jid n} (h : Inv s) : Inv (s.freeWords jid n).2 :=
  h.modJob

theorem freeLanes {jid} (h : Inv s) : Inv (s.freeLanes jid).2 :=
  h.freeWords

theorem modRing {tid bank f} (h : Inv s) : Inv (s.modRing tid bank f) :=
  h.modTeam

theorem fillReserved {w} (h : Inv s) : Inv (s.fillReserved w) := by
  unfold State.fillReserved
  refine h.foldl fun _ _ h => ?_
  refine h.foldl fun _ _ h => ?_
  split
  next e =>
    exact (h.freeLanes.snd e).modRing

theorem releaseWave {core slot w exits} (h : Inv s) : Inv (s.releaseWave core slot w exits) := by
  unfold State.releaseWave
  extract_lets _ s1 s2
  have h1 : Inv s1 := h.fillReserved.modCore
  have h2 : Inv s2 := h1.updateAllocs (forall_map fun _ => rfl)
  exact h2.modWave.freeStage

theorem haltWave {core slot x cause addr tail err} (h : Inv s) : Inv (s.haltWave core slot x cause addr tail err) := by
  unfold State.haltWave
  split
  · exact h
  · exact ite h h.releaseWave.afterHalt.settle

theorem halt {cause addr tail} (h : Inv s) : Inv (c.halt cause addr tail s) :=
  ite h.endedHalt h.haltWave

theorem fault {code det addr} (h : Inv s) : Inv (c.fault code det addr s) :=
  h.halt

theorem setPoison {a p} (h : Inv s) : Inv (s.setPoison a p) :=
  h.update

theorem homeWrite {a bs} (h : Inv s) : Inv (s.homeWrite a bs) :=
  h.updateMem (Memory.wf_writeBytes _ _ _)

theorem l2Bytes {pasid write as} (h : Inv s) : Inv (s.l2Bytes pasid write as) :=
  h.foldl fun _ _ h => h.l2Touch

theorem outsideWrite {pasid t bs} (h : Inv s) : Inv (s.outsideWrite pasid t bs) := by
  unfold State.outsideWrite
  split
  · exact h.l2Bytes.homeWrite.foldl fun _ _ h => h.setPoison
  · exact h.updateHost (Memory.wf_writeBytes _ _ _)
  · exact h

theorem askX {unit pasid va write} (h : Inv s) : Inv (s.askX unit pasid va write) := by
  unfold State.askX
  extract_lets _ s1
  have h1 : Inv s1 := ite h.update h.modCore.modStack
  exact ite h1.update h1.update

theorem rewriteRecord {jid} (h : Inv s) : Inv (s.rewriteRecord jid) := by
  unfold State.rewriteRecord
  extract_lets
  split
  · exact h.outsideWrite.outsideWrite.update
  · exact h.askX.update

theorem suspect {jid classes} (h : Inv s) : Inv (s.suspect jid classes) :=
  ite h.modJob.rewriteRecord h.modJob

theorem noteClass {core jid cls} (h : Inv s) : Inv (s.noteClass core jid cls) := by
  unfold State.noteClass
  extract_lets
  split
  · exact h
  · split
    · exact h.modCore.modJob
    · exact h.modCore.foldl fun _ _ h => h.suspect

theorem withClass {cls k} (h : Inv s) (hk : ∀ s, Inv s → Inv (k s)) : Inv (c.withClass cls s k) := by
  unfold Ctx.withClass
  split
  · exact h.fault
  · exact hk _ h.noteClass

theorem withClassOf {i k} (h : Inv s) (hk : ∀ s, Inv s → Inv (k s)) : Inv (c.withClassOf i s k) := by
  unfold Ctx.withClassOf
  split
  · exact h.withClass hk
  · exact hk _ h

theorem illegal (h : Inv s) : Inv (c.illegal s) :=
  h.fault

theorem enterTrap {r x code arg addr resume} (h : Inv s) : Inv (s.enterTrap r x code arg addr resume) := by
  unfold State.enterTrap
  split
  · exact h
  · exact ite h.haltWave h.modWave

theorem emptyTrap {pos reg} (h : Inv s) : Inv (c.emptyTrap pos reg s) :=
  h.enterTrap

theorem modArm {r f} (h : Inv s) : Inv (s.modArm r f) :=
  h.modWave

theorem hold {r w} (h : Inv s) : Inv (s.hold r w) :=
  h.modArm

theorem pop {u} (h : Inv s) : Inv (c.pop u s).2 := by
  unfold Ctx.pop
  split
  · exact h
  · split
    · exact h.modTeam
    · exact h

/-- The front of every word: the checks, the traps and the waits before its own effect. -/
theorem begin {i k} (h : Inv s) (hk : ∀ c s, Inv s → Inv (k c s)) : Inv (c.begin i k s) := by
  unfold Ctx.begin
  split
  · exact h.illegal
  · exact h.emptyTrap
  · exact h.hold
  · refine h.withClassOf fun _ h => ?_
    split
    next e =>
      exact hk _ _ (h.pop.snd e)

theorem unhold {r tid p} (h : Inv s) : Inv (s.unhold r tid p) := by
  unfold State.unhold
  extract_lets s1
  have h1 : Inv s1 := by
    unfold s1
    refine h.foldl fun _ _ h => ?_
    split
    next e =>
      exact (h.freeLanes.snd e).modRing
  exact h1.modWave

theorem unheld {held} (h : Inv t) : Inv (t.unheld c held) := by
  unfold State.unheld
  split
  · exact ite h h.unhold
  · exact h

theorem reissue {q k} (h : Inv s) (hk : ∀ c s, Inv s → Inv (k c s)) : Inv (c.reissue q k s) := by
  unfold Ctx.reissue
  extract_lets _ _ _ _ _ t1 t2
  have h1 : Inv t1 := h.modWave
  have h2 : Inv t2 := ite (h1.withClassOf (hk _)) (h1.begin hk)
  split
  · split
    · exact h.hold
    · exact h2.unheld
  · exact h2.unheld

theorem rerun {q k} (h : Inv s) (hk : ∀ c s, Inv s → Inv (k c s)) : Inv (c.rerun q k s) :=
  (hk _ _ h.modWave).unheld

/-- A word with its front and its own effect. -/
theorem run {i k} (h : Inv s) (hk : ∀ c s, Inv s → Inv (k c s)) : Kept (s.run i k) := by
  unfold State.run
  split
  · exact Kept.fault
  · refine kept ?_
    split
    · exact ite (h.reissue hk) (h.rerun hk)
    · exact h.begin hk

/-! ### Instruction words -/

theorem done (h : Inv s) : Inv (c.done s) :=
  h.modArm

theorem endWave {core slot err} (h : Inv s) : Inv (s.endWave core slot err) := by
  unfold State.endWave
  split
  · exact h
  · exact ((ite h.queueError h).releaseWave).settle

theorem askedTrap {code i} (h : Inv s) : Inv (c.askedTrap code i s) :=
  h.enterTrap

theorem mark {x f} (h : Inv s) : Inv (c.mark x f s).2 := by
  unfold Ctx.mark
  split
  · exact h.modWave
  · split
    next e =>
      exact ((h.fresh.snd e).foldl fun _ _ h => h.modRing).modWave

theorem modPending {core slot id f} (h : Inv s) : Inv (s.modPending core slot id f) :=
  h.modWave

theorem holdFor {x mem} (h : Inv s) : Inv (c.holdFor x mem s) := by
  unfold Ctx.holdFor
  split
  · exact h.modWave
  · extract_lets
    split
    next e =>
      exact ((h.mark.snd e).modPending).modArm

theorem wait {w} (h : Inv s) : Inv (c.wait w s) :=
  ite h.holdFor h.hold

theorem execGetc {d i} (h : Inv s) : Kept (Machine.execGetc d i s) := by
  unfold Machine.execGetc
  refine h.run fun _ _ h => ?_
  split
  · exact h.illegal
  · exact ite h.wait h.modWave

theorem execSetc {a i} (h : Inv s) : Kept (Machine.execSetc a i s) := by
  unfold Machine.execSetc
  refine h.run fun _ _ h => ?_
  extract_lets
  split
  · exact h.modArm
  · split
    · exact h.illegal
    · exact ite h.wait h.modWave

theorem afterAccesses {k mem} (h : Inv s) (hk : ∀ s, Inv s → Inv (k s)) : Inv (c.afterAccesses s k mem) :=
  ite h.holdFor (hk _ h)

theorem fenceAt {c scope} (h : Inv s) : Inv (s.fenceAt c scope) :=
  ite h (ite h.writeBackL1.writeBackCC h.writeBackL1)

theorem acquire {c scope} (h : Inv s) : Inv (s.acquire c scope) :=
  ite h (ite h.modCore.modCluster h.modCore)

theorem acquireAfter {r scope below d} (h : Inv s) : Inv (s.acquireAfter r scope below d) := by
  unfold State.acquireAfter
  split
  · exact h
  · exact ite h.modArm h.acquire.modArm

theorem finishAcquire {r scope} (h : Inv s) : Inv (s.finishAcquire r scope) :=
  h.acquireAfter

theorem rendezvous {k} (h : Inv s) (hk : ∀ s, Inv s → Inv (k s)) : Inv (c.rendezvous s k) :=
  ite h.fault (hk _ h)

theorem execRdvi {a p} (h : Inv s) : Kept (Machine.execRdvi a p s) := by
  unfold Machine.execRdvi
  refine h.run fun _ _ h => ?_
  refine h.rendezvous fun _ h => ?_
  extract_lets
  split
  · exact h.fault
  · split
    · exact ite h.done h.illegal
    · exact h.modTeam.done

theorem arrive {p e} (h : Inv s) : Inv (c.arrive p e s) :=
  h.modWave.modTeam

theorem execRdva {p} (h : Inv s) : Kept (Machine.execRdva p s) := by
  unfold Machine.execRdva
  refine h.run fun _ _ h => ?_
  refine h.rendezvous fun _ h => ?_
  split
  · exact h.illegal
  · exact h.afterAccesses fun _ h => h.release.arrive

theorem abandonArm {r pt} (h : Inv s) : Inv (s.abandonArm r pt) :=
  h.modWave.finishAcquire

theorem execRdvw {p} (h : Inv s) : Kept (Machine.execRdvw p s) := by
  unfold Machine.execRdvw
  refine h.run fun _ _ h => ?_
  refine h.rendezvous fun _ h => ?_
  extract_lets
  split
  · exact h.illegal
  · exact ite h.finishAcquire (ite h.abandonArm h.modArm)

theorem execMqcfg {e} (h : Inv s) : Kept (Machine.execMqcfg e s) := by
  unfold Machine.execMqcfg
  refine h.run fun _ _ h => ?_
  extract_lets
  split
  · exact ite h.done (ite h.wait h.modCore.done)
  · exact ite h.done (ite h.wait h.modCore.done)

theorem startBack {x v} (h : Inv s) : Inv (c.startBack x v s) :=
  h.afterAccesses fun _ h => h.fork.modArm

theorem faultWord {cause addr err} (h : Inv s) : Inv (c.faultWord cause addr err s) :=
  h.haltWave

theorem reject (h : Inv s) : Inv (c.reject s) :=
  h.modCore.holdFor

theorem withEntries {need k} (h : Inv s) (hk : ∀ s, Inv s → Inv (k s)) : Inv (c.withEntries need s k) :=
  ite h.reject (ite (hk _ h.modCore) (hk _ h))

theorem onCell {x write err lines k} (h : Inv s) (hk : ∀ x0 s, Inv s → Inv (k x0 s)) :
    Inv (c.onCell x write err lines s k) := by
  unfold Ctx.onCell
  split
  · exact h.faultWord
  · split
    · exact h.faultWord
    · exact h.askX.holdFor
    · exact ite h.holdFor (h.withEntries fun _ h => hk _ _ h)

theorem releaseAt {scope k} (h : Inv s) (hk : ∀ s, Inv s → Inv (k s)) : Inv (c.releaseAt scope s k) :=
  ite (hk _ h) (h.afterAccesses fun _ h => hk _ h.release)

theorem touchHome {pasid t n} (h : Inv s) : Inv (s.touchHome pasid t n) := by
  unfold State.touchHome
  split
  · exact h.l2Bytes
  · exact h

theorem flushCC {cl a} (h : Inv s) : Inv (s.flushCC cl a) := by
  unfold State.flushCC
  split
  · exact h.lineHome.setCC
  · exact h

theorem flushSector {c a home} (h : Inv s) : Inv (s.flushSector c a home) := by
  unfold State.flushSector
  split
  · exact h.lineOut.setL1
  · exact h

theorem homeSector {core t} (h : Inv s) : Inv (s.homeSector core t) := by
  unfold State.homeSector
  split
  · exact h.flushSector.flushCC
  · exact h

theorem readCell {t x err k} (h : Inv s) (hk : ∀ x0 s, Inv s → Inv (k x0 s)) : Inv (c.readCell t x err s k) := by
  unfold Ctx.readCell
  extract_lets
  split
  · split
    · exact h.homeSector.touchHome.faultWord
    · split
      · exact h.homeSector.touchHome.faultWord
      · exact hk _ _ h.homeSector.touchHome

theorem dropParked {t} (h : Inv s) : Inv (s.dropParked t) :=
  h.foldl fun _ _ h => h.homeSector

theorem writeThrough {c pasid ws} (h : Inv s) : Inv (s.writeThrough c pasid ws) := by
  refine (h.foldl fun _ _ h => h.evictOther).l2Bytes.foldl fun s e h => ?_
  extract_lets s1
  have h1 : Inv s1 := h.updateMem (Memory.wf_write _ _ _)
  split
  · exact ite h1.setCC h1
  · exact h1

theorem writeT {c pasid t bs} (h : Inv s) : Inv (s.writeT c pasid t bs) := by
  unfold State.writeT
  split
  · exact h.writeThrough
  · exact h.updateHost (Memory.wf_writeBytes _ _ _)
  · exact h

theorem cellPut {core pasid t k ws} (h : Inv s) : Inv (s.cellPut core pasid t k ws) := by
  unfold State.cellPut
  extract_lets
  split
  · exact h.writeT.modCore
  · exact h.writeT

theorem wakeArm {t lo hi r} (h : Inv s) : Inv (s.wakeArm t lo hi r) := by
  unfold State.wakeArm
  split
  · split
    · exact ite h.modArm.modWave.finishAcquire h
    · exact h
  · exact h

theorem wakeCell {t lo hi} (h : Inv s) : Inv (s.wakeCell t lo hi) :=
  h.foldl fun _ _ h => h.wakeArm

theorem dropContinuation {jid cause va} (h : Inv s) : Inv (s.dropContinuation jid cause va) :=
  h.modJob.postEvent

theorem forgetFetched {owner} (h : Inv s) : Inv (s.forgetFetched owner) :=
  ite h h.update

theorem homeLine {core t} (h : Inv s) : Inv (s.homeLine core t) :=
  h.foldl fun _ _ h => h.homeSector

theorem pushLine {k t} (h : Inv s) : Inv (s.pushLine k t) := by
  unfold State.pushLine
  extract_lets
  split
  · extract_lets
    split
    · exact h.homeLine.touchHome.dropContinuation
    · split
      · exact h.homeLine.touchHome.dropContinuation
      · split
        · exact h.homeLine.touchHome.discardClosure.modJob
        · split
          · exact h.homeLine.touchHome.dropContinuation
          · split
            next e =>
              exact (h.homeLine.touchHome.fresh.snd e).pushEntry

theorem sendPeer {module q} (h : Inv s) : Inv (s.sendPeer module q) := by
  unfold State.sendPeer
  split
  · exact h.update

theorem askSectors {owner core jid ns pasid} (h : Inv s) : Inv (s.askSectors owner core jid ns pasid) := by
  unfold State.askSectors
  refine h.foldl fun _ _ h => ?_
  split
  · exact ite h h.sendPeer
  · exact h

theorem resumeCont {k} (h : Inv s) : Inv (s.resumeCont k) := by
  unfold State.resumeCont
  extract_lets
  split
  · exact h.askX
  · split
    · exact h.update.pushLine.forgetFetched
    · exact h.askSectors

theorem pushContinuation {core jid va w12 w13 w14} (h : Inv s) : Inv (s.pushContinuation core jid va w12 w13 w14) := by
  unfold State.pushContinuation
  split
  · exact h.dropContinuation
  · split
    next e =>
      exact ((h.fresh.snd e).update).resumeCont

theorem unregister {t} (h : Inv s) : Inv (s.unregister t) :=
  h.update

theorem deliver {core jid t d err} (h : Inv s) : Inv (s.deliver core jid t d err) := by
  unfold State.deliver
  extract_lets s1
  have h1 : Inv s1 := h.homeSector.dropParked.touchHome
  split
  · exact h1.cellPut
  · split
    · split
      · exact h1.cellPut.wakeCell.unregister.pushContinuation
      · exact h1.cellPut.wakeCell
    · exact h1.cellPut

theorem tendDeliver {t x v} (h : Inv s) : Inv (c.tendDeliver t x v s) :=
  h.readCell fun _ _ h => h.deliver.endWave

theorem execTend {a} (h : Inv s) : Kept (Machine.execTend a s) := by
  unfold Machine.execTend
  refine h.run fun _ _ h => ?_
  extract_lets
  split
  · exact ite h.startBack (h.onCell fun _ _ h => h.startBack)
  · split
    · exact h.endWave
    · exact h.onCell fun _ _ h => h.releaseAt fun _ h => h.tendDeliver

theorem execPtake (h : Inv s) : Kept (Machine.execPtake s) := by
  unfold Machine.execPtake
  refine h.run fun _ _ h => ?_
  split
  · exact h.givePennant.done
  · exact ite h.done h.modCore.modArm

theorem pennantFault (h : Inv s) : Inv (c.pennantFault s) :=
  h.fault

theorem pass {target} (h : Inv s) : Inv (c.pass target s) :=
  h.modArm.settlePennant

theorem execPpass {a} (h : Inv s) : Kept (Machine.execPpass a s) := by
  unfold Machine.execPpass
  refine h.run fun _ _ h => ?_
  extract_lets
  split
  · exact h.fault
  · split
    · exact h.pennantFault
    · split
      · exact h.pennantFault
      · exact ite h.pennantFault h.pass

theorem jump {va} (h : Inv s) : Inv (c.jump va s) :=
  ite h.modArm h.fault

theorem next (h : Inv s) : Inv (c.next s) :=
  h.modArm

theorem execMerge (h : Inv s) : Kept (Machine.execMerge s) := by
  unfold Machine.execMerge
  refine h.run fun _ _ h => ?_
  split
  · exact h.next
  · exact h.modWave

theorem execCwait {a} (h : Inv s) : Kept (Machine.execCwait a s) := by
  unfold Machine.execCwait
  refine h.run fun _ _ h => ?_
  extract_lets
  split
  · exact h.fault
  · split
    · exact h.fault
    · split
      · exact h.fault
      · exact ite h.finishAcquire h.holdFor

theorem scalar {d x} (h : Inv s) : Inv (c.scalar d x s) :=
  h.modWave

theorem launch {x f} (h : Inv s) : Inv (c.launch x f s).2 := by
  unfold Ctx.launch
  split
  next e =>
    exact (h.mark.snd e).modArm

theorem popMessage {d} (h : Inv s) : Inv (c.popMessage d s) := by
  unfold Ctx.popMessage
  split
  · exact h.holdFor
  · exact h.modCore.launch

theorem execSxget {d a} (h : Inv s) : Kept (Machine.execSxget d a s) := by
  unfold Machine.execSxget
  refine h.run fun _ _ h => ?_
  extract_lets
  split
  · exact ite h.scalar (ite h.scalar (ite h.popMessage h.scalar))
  · exact ite h.fault (ite h.wait h.scalar)

theorem sendMessage {x} (h : Inv s) : Inv (c.sendMessage x s) :=
  ite h.wait (ite h.fault h.modCore.done)

theorem execSxset {a b} (h : Inv s) : Kept (Machine.execSxset a b s) := by
  unfold Machine.execSxset
  refine h.run fun _ _ h => ?_
  extract_lets
  split
  · split
    · exact h.modCore.done
    · exact ite h.sendMessage (ite h.illegal h.modCore.done)
  · exact ite h.fault (ite h.wait h.modWave)

theorem faultLanes {code det addr m} (h : Inv s) : Inv (c.faultLanes code det addr m s) :=
  h.halt

theorem askPages {core pasid write lanes} (h : Inv s) : Inv (s.askPages core pasid write lanes) :=
  h.foldl fun _ _ h => ite h.askX h

theorem holdPages {write e es} (h : Inv s) : Inv (c.holdPages s write e es) :=
  h.askPages.holdFor

theorem evictL1 {c la} (h : Inv s) : Inv (s.evictL1 c la) := by
  unfold State.evictL1
  split
  · exact (ite h h.lineOut).modCore
  · exact h

theorem expelOther {c pasid la} (h : Inv s) : Inv (s.expelOther c pasid la) := by
  unfold State.expelOther
  extract_lets s1
  have h1 : Inv s1 := by
    unfold s1
    split
    · exact ite h h.evictL1
    · exact h
  exact h1.evictOther

theorem readNt {c pasid a n} (h : Inv s) : Inv (s.readNt c pasid a n).1 :=
  ite h.expelOther h.expelOther.l2Bytes

theorem roomL1 {c} (h : Inv s) : Inv (s.roomL1 c) := by
  unfold State.roomL1
  extract_lets
  split
  · exact h
  · split
    · exact h.evictL1.update
    · exact h

theorem l1Line {c pasid la} (h : Inv s) : Inv (s.l1Line c pasid la).1 := by
  unfold State.l1Line
  split
  · split
    · exact h
    · exact h.lineOut.setL1
  · exact h.roomL1

theorem ccSector {cl pasid la sec} (h : Inv s) : Inv (s.ccSector cl pasid la sec) := by
  unfold State.ccSector
  split
  next e =>
    exact ite (h.ccLine.fst e) (((h.ccLine.fst e).l2Touch).setCC)

theorem l1Sector {c pasid la sec} (h : Inv s) : Inv (s.l1Sector c pasid la sec) := by
  unfold State.l1Sector
  split
  next e =>
    split
    · exact h.l1Line.fst e
    · extract_lets _ s1
      have h1 : Inv s1 := (h.l1Line.fst e).ccSector
      exact ite h1.setL1 (((h.l1Line.fst e).l2Touch).setL1)

theorem readL1 {c pasid a n} (h : Inv s) : Inv (s.readL1 c pasid a n).1 :=
  h.foldl fun _ _ h => h.l1Sector

theorem readPlain {core pasid nt t n} (h : Inv s) : Inv (s.readPlain core pasid nt t n).1 := by
  unfold State.readPlain
  split
  · split
    · exact h.readNt
    · exact h.readL1
  · exact h

theorem readLanes {core pasid nt n l} (h : Inv s) : Inv (s.readLanes core pasid nt n l).1 := by
  induction l generalizing s with
  | nil => exact h
  | cons e l ih => exact ih h.readPlain

theorem poisonLanes {bad} (h : Inv s) : Inv (c.poisonLanes bad s) :=
  h.faultLanes

theorem askPeers {pend n lanes} (h : Inv s) : Inv (c.askPeers pend n lanes s) := by
  unfold Ctx.askPeers
  refine h.foldl fun _ _ h => ?_
  split
  · exact h.sendPeer
  · exact h

theorem loadGo {nt z lanes req res} (h : Inv s) : Inv (c.loadGo nt z lanes req res s) := by
  unfold Ctx.loadGo
  extract_lets
  refine h.withEntries fun _ h => ?_
  split
  · exact h.holdFor
  · split
    next e =>
      extract_lets
      split
      · exact (h.readLanes.fst e).poisonLanes
      · split
        next e1 =>
          exact (((h.readLanes.fst e).launch).snd e1).askPeers

theorem load {nt z lanes req res} (h : Inv s) : Inv (c.load nt z lanes req res s) := by
  unfold Ctx.load
  split
  · exact h.faultLanes
  · extract_lets
    split
    · exact h.holdPages
    · exact h.loadGo

theorem storeL1 {c pasid ws} (h : Inv s) : Inv (s.storeL1 c pasid ws) := by
  unfold State.storeL1
  refine h.foldl fun _ _ h => ?_
  split
  next e =>
    exact ((h.l1Line.fst e).setL1).modCore

theorem storeNt {c pasid ws} (h : Inv s) : Inv (s.storeNt c pasid ws) := by
  unfold State.storeNt
  refine h.foldl fun _ _ h => ?_
  extract_lets
  split
  · exact h.expelOther.storeL1
  · exact h.expelOther.writeThrough.modCore

theorem wholeL1 {c pasid secs} (h : Inv s) : Inv (s.wholeL1 c pasid secs) := by
  unfold State.wholeL1
  refine h.foldl fun _ _ h => ?_
  split
  next e =>
    exact (h.l1Line.fst e).setL1

theorem markSector {cl p sec} (h : Inv s) : Inv (s.markSector cl p sec) := by
  unfold State.markSector
  extract_lets
  split
  · exact h.setPoison.setCC
  · exact h.setPoison

theorem storePlain {core pasid nt ws} (h : Inv s) : Inv (s.storePlain core pasid nt ws) := by
  unfold State.storePlain
  extract_lets
  split
  · exact h.storeNt.wholeL1.foldl fun _ _ h => h.markSector
  · exact h.foldl fun _ _ h => h.storeL1.wholeL1

theorem sendWrites {ins nt ws} (h : Inv s) : Inv (c.sendWrites ins nt ws s) := by
  induction ws generalizing s with
  | nil => exact h
  | cons w ws ih => exact ih h.sendPeer

theorem writePeers {ins nt lanes} (h : Inv s) : Inv (c.writePeers ins nt lanes s) :=
  h.sendWrites

theorem storeHits {ins nt lanes} (h : Inv s) : Inv (c.storeHits ins nt lanes s) := by
  refine (h.storePlain.foldl fun _ _ h => ?_).writePeers
  split
  · exact h.updateHost (Memory.wf_writeBytes _ _ _)
  · exact h

theorem doneLines {lines} (h : Inv s) : Inv (c.doneLines lines s) :=
  ite h.done h.launch

theorem store {nt n lanes data} (h : Inv s) : Inv (c.store nt n lanes data s) := by
  unfold Ctx.store
  split
  · exact h.faultLanes
  · extract_lets
    split
    next e =>
      extract_lets
      split
      · exact (h.fresh.snd e).holdFor
      · split
        · exact (h.fresh.snd e).holdFor
        · exact (h.fresh.snd e).withEntries fun _ h => h.storeHits.askPages.modCore.doneLines

theorem readCC {cl pasid a n} (h : Inv s) : Inv (s.readCC cl pasid a n).1 := by
  unfold State.readCC
  split
  · exact h.foldl fun _ _ h => h.ccSector
  · exact h.l2Bytes

theorem readAt {pasid t n} (h : Inv s) : Inv (s.readAt pasid t n).1 :=
  h.touchHome

theorem readLevel {core pasid scope t} (h : Inv s) : Inv (s.readLevel core pasid scope t).1 := by
  unfold State.readLevel
  split
  · split
    · exact h.readL1
    · split
      · exact h.flushSector.readCC
      · exact h.homeSector.readAt
  · exact h

theorem acquireAt {d scope lines al t} (h : Inv s) : Inv (c.acquireAt d scope lines al t s) := by
  unfold Ctx.acquireAt
  split
  next e =>
    split
    · exact (h.readLevel.fst e).fault
    · extract_lets
      split
      next e1 =>
        exact ((((h.readLevel.fst e).mark).snd e1).askPeers).modArm

theorem execLdacq {d a sc w} (h : Inv s) : Kept (Machine.execLdacq d a sc w s) := by
  unfold Machine.execLdacq
  refine h.run fun _ _ h => ?_
  extract_lets
  split
  · exact h.fault
  · split
    · exact h.holdPages
    · split
      · exact h.holdFor
      · exact ite h.holdFor (h.withEntries fun _ h => h.acquireAt)

theorem writeLevel {core pasid scope t bs} (h : Inv s) : Inv (s.writeLevel core pasid scope t bs) := by
  unfold State.writeLevel
  split
  · split
    · exact h.storeL1
    · split
      · extract_lets
        split
        next e =>
          exact ((h.flushSector.ccLine.fst e).setCC).modCore
      · exact h.homeSector.cellPut
  · exact h.writeT

theorem execStrel {d a sc w} (h : Inv s) : Kept (Machine.execStrel d a sc w s) := by
  unfold Machine.execStrel
  refine h.run fun _ _ h => ?_
  extract_lets
  split
  · exact h.fault
  · split
    · exact h.holdPages
    · refine h.afterAccesses fun _ h => ?_
      split
      · exact h.holdFor
      · split
        · exact h.holdFor
        · extract_lets
          split
          next e =>
            exact (((h.release.fresh.snd e).writeLevel).writePeers).done

theorem logAtom {al fn d n scope} (h : Inv s) : Inv (c.logAtom al fn d n scope s) := by
  unfold Ctx.logAtom
  split
  next e =>
    extract_lets _ s1
    have h1 : Inv s1 := (h.fresh.snd e).askPages
    exact ite ((h.fresh.snd e).holdFor) h1.modCore.done

theorem atomHome {core pasid t fn d n} (h : Inv s) : Inv (s.atomHome core pasid t fn d n).1 := by
  unfold State.atomHome
  split
  next e =>
    split
    · exact h.homeSector.readAt.fst e
    · exact (h.homeSector.readAt.fst e).cellPut

theorem atomScope {core pasid scope t fn d n} (h : Inv s) : Inv (s.atomScope core pasid scope t fn d n).1 := by
  unfold State.atomScope
  split
  · split
    · split
      next e =>
        split
        · exact h.readL1.fst e
        · exact (h.readL1.fst e).storeL1
    · split
      · extract_lets
        split
        next e =>
          have h1 := h.flushSector.readCC.fst e
          split
          · exact h1
          · extract_lets
            dsimp only
            exact h1.setCC.modCore
      · exact h.atomHome
  · exact h.atomHome

theorem atomsAt {d sc fn lines al t x n} (h : Inv s) : Inv (c.atomsAt d sc fn lines al t x n s) := by
  unfold Ctx.atomsAt
  split
  · split
    · split
      next e =>
        exact ((h.fresh.snd e).sendPeer).done
    · split
      next e =>
        exact (h.launch.snd e).sendPeer
  · split
    next e =>
      exact (h.atomScope.fst e).fault
    next e =>
      split
      · exact (h.atomScope.fst e).doneLines
      · exact (h.atomScope.fst e).launch

theorem execAtoms {d a b sc f} (h : Inv s) : Kept (Machine.execAtoms d a b sc f s) := by
  unfold Machine.execAtoms
  refine h.run fun _ _ h => ?_
  extract_lets
  split
  · exact h.fault
  · split
    · exact ite h.logAtom h.holdPages
    · split
      · exact h.fault
      · exact ite h.holdFor (h.withEntries fun _ h => h.atomsAt)

theorem transfer {target w} (h : Inv s) : Inv (c.transfer target w s) :=
  ite h.modWave h.fault

theorem branch {n} {off : BitVec n} (h : Inv s) : Inv (c.branch off s) :=
  h.transfer

theorem unpop (h : Inv s) : Inv (c.unpop s) :=
  ite h.modTeam h

theorem splitInto {parts alone} (h : Inv s) : Inv (c.splitInto parts alone s) := by
  unfold Ctx.splitInto
  split
  · exact h.modArm
  · exact h.modArm
  · exact ite h.unpop.fault h.modWave

theorem spawn {ws} (h : Inv s) : Inv (c.spawn ws s) := by
  unfold Ctx.spawn
  split
  · exact h.fault
  · split
    · exact h.fault
    · split
      next e =>
        exact ((h.fresh.snd e).pushEntry).done

theorem execSpawnL {a} (h : Inv s) : Kept (Machine.execSpawnL a s) := by
  unfold Machine.execSpawnL
  refine h.run fun _ _ h => ?_
  refine h.afterAccesses fun _ h => ?_
  extract_lets
  split
  · exact h.fault
  · split
    · exact h.fault
    · split
      · exact h.fault
      · exact h.spawn

theorem cleanCell {core t} (h : Inv s) : Inv (s.cleanCell core t) := by
  unfold State.cleanCell
  split
  · exact h.markSector
  · exact h

theorem newCell {core pasid t count op} (h : Inv s) : Inv (s.newCell core pasid t count op) := by
  unfold State.newCell
  extract_lets _ _ s1
  have h1 : Inv s1 := h.homeSector.dropParked.cellPut
  split
  · exact h1.cleanCell.unregister.wakeCell
  · exact h1.cleanCell.unregister

theorem onLine {va k} (h : Inv s) (hk : ∀ x0 s, Inv s → Inv (k x0 s)) : Inv (c.onLine va s k) := by
  unfold Ctx.onLine
  split
  · exact h.fault
  · split
    · exact h.fault
    · split
      · exact ite h.holdFor (hk _ _ h)
      · exact h.askX.holdFor

theorem holdReleased (h : Inv s) : Inv (c.holdReleased s) :=
  h.holdFor.modArm

theorem lineThere {va t k} (h : Inv s) (hk : ∀ s, Inv s → Inv (k s)) : Inv (c.lineThere va t s k) := by
  unfold Ctx.lineThere
  split
  · exact hk _ h
  · split
    · exact h.holdReleased
    · split
      · exact hk _ h
      · exact h.askSectors.holdReleased

theorem join {t x va} (h : Inv s) : Inv (c.join t x va s) := by
  unfold Ctx.join
  refine h.readCell fun _ _ h => ?_
  extract_lets
  split
  · exact h.fault
  · split
    · exact h.cellPut.cellPut.done.pushContinuation
    · exact h.cellPut.cellPut.done.modJob

theorem joinLine {t line x va} (h : Inv s) : Inv (c.joinLine t line x va s) := by
  unfold Ctx.joinLine
  extract_lets _ s1
  have h1 : Inv s1 := h.homeLine.touchHome.forgetFetched
  split
  · split
    · exact h1.fault
    · split
      · exact h1.fault
      · exact h1.join

theorem park {t x d} (h : Inv s) : Inv (c.park t x d s) :=
  ite h.fault h.modArm

theorem copyRows {d k} (h : Inv s) (hk : ∀ x0 s, Inv s → Inv (k x0 s)) : Inv (c.copyRows d s k) := by
  unfold Ctx.copyRows
  split
  · exact h.fault
  · split
    · exact h.fault
    · exact ite h.illegal (hk _ _ h)

theorem poisonWait {q sector} (h : Inv s) : Inv (s.poisonWait q sector) := by
  unfold State.poisonWait
  split
  · exact h.haltWave
  · exact h

theorem serveWait {aid q} (h : Inv s) : Inv (s.serveWait aid q) := by
  unfold State.serveWait
  extract_lets
  split
  · exact h.poisonWait
  · exact h.modPending

theorem fillGranule {aid g} (h : Inv s) : Inv (s.fillGranule aid g) :=
  h.modAlloc.foldl fun _ _ h => h.serveWait

theorem scratchPart {aid ws clean full} (h : Inv s) : Inv (s.scratchPart aid ws clean full) :=
  (h.modAlloc fun _ => wf_foldl_write).foldl fun _ _ h => h.fillGranule

theorem engineScratch {aid ws} (h : Inv s) : Inv (s.engineScratch aid ws) :=
  h.scratchPart

theorem putObject {aid co ws} (h : Inv s) : Inv (s.putObject aid co ws) :=
  h.engineScratch

theorem addRem {aid co total} (h : Inv s) : Inv (s.addRem aid co total) :=
  h.putObject

theorem queueCopy {d k follow} (h : Inv s) : Inv (c.queueCopy d k follow s) := by
  unfold Ctx.queueCopy
  extract_lets
  split
  next e =>
    exact ((h.fresh.snd e).addRem).modCore

theorem execCopy {a} (h : Inv s) : Kept (Machine.execCopy a s) := by
  unfold Machine.execCopy
  refine h.run fun _ _ h => ?_
  extract_lets
  refine h.copyRows fun _ _ h => ?_
  refine h.withClass fun _ h => ?_
  split
  · exact h.fault
  · exact h.queueCopy.done

theorem mmaFormats {l k} (h : Inv s) (hk : ∀ x0 s, Inv s → Inv (k x0 s)) : Inv (c.mmaFormats l s k) := by
  unfold Ctx.mmaFormats
  extract_lets
  split
  · exact h.fault
  · exact ite h.illegal (hk _ _ h)

theorem ownPennant {k} (h : Inv s) (hk : ∀ s, Inv s → Inv (k s)) : Inv (c.ownPennant s k) :=
  ite (hk _ h) h.pennantFault

theorem mmaShapes {base l k} (h : Inv s) (hk : ∀ s, Inv s → Inv (k s)) : Inv (c.mmaShapes base l s k) := by
  unfold Ctx.mmaShapes
  extract_lets
  split
  · exact h.fault
  · split
    · exact h.fault
    · exact hk _ h

theorem queueMat {f kind acc} (h : Inv s) : Inv (c.queueMat f kind acc s) := by
  unfold Ctx.queueMat
  split
  next e =>
    exact (h.fresh.snd e).modCore

theorem execCopyM {a b l n} (h : Inv s) : Kept (Machine.execCopyM a b l n s) := by
  unfold Machine.execCopyM
  refine h.run fun _ _ h => ?_
  extract_lets
  refine h.copyRows fun _ _ h => ?_
  refine h.mmaFormats fun _ _ h => ?_
  refine h.withClass fun _ h => ?_
  refine h.withClass fun _ h => ?_
  refine h.ownPennant fun _ h => ?_
  split
  · exact h.fault
  · exact h.mmaShapes fun _ h => h.queueMat.queueCopy.done

theorem serve {core id} (h : Inv s) : Inv (s.serve core id) :=
  h.modCore

theorem mcMatch {core} (h : Inv s) : Inv (s.mcMatch core) := by
  unfold State.mcMatch
  split
  · exact h
  · exact ite (h.foldl fun _ _ h => h.serve) h

theorem execMmaMc {a b l n} (h : Inv s) : Kept (Machine.execMmaMc a b l n s) := by
  unfold Machine.execMmaMc
  refine h.run fun _ _ h => ?_
  refine h.mmaFormats fun _ _ h => ?_
  extract_lets
  split
  · exact h.fault
  · exact h.withClass fun _ h => h.withClass fun _ h => h.ownPennant fun _ h => h.mmaShapes fun _ h => h.queueMat.done.mcMatch

theorem accMove {a l n kind} (h : Inv s) : Inv (c.accMove a l n kind s) := by
  unfold Ctx.accMove
  extract_lets
  split
  · exact h.fault
  · refine h.withClass fun _ h => ?_
    refine h.ownPennant fun _ h => ?_
    split
    · exact h.fault
    · split
      · exact h.fault
      · exact h.queueMat.done

theorem cxFree {n k} (h : Inv s) (hk : ∀ s, Inv s → Inv (k s)) : Inv (c.cxFree n s k) := by
  unfold Ctx.cxFree
  split
  · exact ite (hk _ h) h.fault
  · exact hk _ h

theorem descriptorIllegal {word stream} (h : Inv s) : Inv (c.descriptorIllegal word stream s) :=
  h.fault

theorem queueBr {kind n ops f} (h : Inv s) : Inv (c.queueBr kind n ops f s) := by
  unfold Ctx.queueBr
  split
  next e =>
    exact (h.fresh.snd e).modCore

theorem openTwo {a b n union} (h : Inv s) : Inv (c.openTwo a b n union s) := by
  unfold Ctx.openTwo
  refine h.cxFree fun _ h => ?_
  extract_lets
  split
  · exact h.descriptorIllegal
  · exact h.descriptorIllegal
  · split
    · exact h.fault
    · exact h.queueBr.done

theorem execCxopenExpand {a n} (h : Inv s) : Kept (Machine.execCxopenExpand a n s) := by
  unfold Machine.execCxopenExpand
  refine h.run fun _ _ h => ?_
  refine h.cxFree fun _ h => ?_
  extract_lets
  split
  · exact h.descriptorIllegal
  · split
    · exact h.fault
    · exact h.queueBr.modArm

theorem cxOwn {n k} (h : Inv s) (hk : ∀ x0 s, Inv s → Inv (k x0 s)) : Inv (c.cxOwn n s k) := by
  unfold Ctx.cxOwn
  split
  · exact ite (hk _ _ h) h.fault
  · exact h.illegal

theorem execCxnext {v d p n} (h : Inv s) : Kept (Machine.execCxnext v d p n s) := by
  unfold Machine.execCxnext
  refine h.run fun _ _ h => ?_
  refine h.cxOwn fun _ _ h => ?_
  split
  · exact h.wait
  · extract_lets
    split
    · exact h.illegal
    · split
      · exact h.wait
      · split
        · exact h.done
        · split
          next e =>
            exact (h.launch.snd e).queueBr

theorem emptyGranules {aid a bytes} (h : Inv s) : Inv (s.emptyGranules aid a bytes) :=
  h.modAlloc

theorem execCxsplit {a b n} (h : Inv s) : Kept (Machine.execCxsplit a b n s) := by
  unfold Machine.execCxsplit
  refine h.run fun _ _ h => ?_
  refine h.cxOwn fun _ _ h => ?_
  extract_lets _ _ s1
  have h1 : Inv s1 := h.foldl fun _ _ h => h.emptyGranules
  exact ite h.illegal (ite h.fault h1.queueBr.modArm)

theorem imagePlace {a k} (h : Inv s) (hk : ∀ x0 s, Inv s → Inv (k x0 s)) : Inv (c.imagePlace a s k) :=
  ite h.illegal (ite h.fault (hk _ _ h))

theorem execCxloadS {a n} (h : Inv s) : Kept (Machine.execCxloadS a n s) := by
  unfold Machine.execCxloadS
  refine h.run fun _ _ h => ?_
  refine h.cxFree fun _ h => ?_
  extract_lets
  split
  · exact h.fault
  · split
    · exact h.fault
    · exact h.queueBr.done

theorem pushData {jid lanes v} (h : Inv s) : Inv (s.pushData jid lanes v).2 := by
  unfold State.pushData
  split
  next e =>
    exact h.freeLanes.snd e

theorem retireNow {x} (h : Inv s) : Inv (c.retireNow x s) := by
  unfold Ctx.retireNow
  extract_lets s1
  have h1 : Inv s1 := by
    unfold s1
    split
    · exact h
    · refine h.foldl fun _ _ h => ?_
      split
      next e =>
        exact (h.pushData.snd e).modRing
  exact h1.modWave

theorem retire {x} (h : Inv s) : Inv (c.retire x s) :=
  ite h.modWave.launch h.retireNow

theorem vector {d f} (h : Inv s) : Inv (c.vector d f s) :=
  h.retire

theorem compare {p q t r} (h : Inv s) : Inv (c.compare p q t r s) :=
  h.retire

theorem float {d f} (h : Inv s) : Inv (c.float d f s) :=
  h.retire

theorem retireSfu {x} (h : Inv s) : Inv (c.retireSfu x s) :=
  ite h.retireNow h.launch

theorem sfu {d f} (h : Inv s) : Inv (c.sfu d f s) :=
  h.retireSfu

theorem predicate {d v} (h : Inv s) : Inv (c.predicate d v s) :=
  h.retire

theorem shuffle {d a j} (h : Inv s) : Inv (c.shuffle d a j s) :=
  h.vector

theorem inAlloc {n lanes k} (h : Inv s) (hk : ∀ x0 s, Inv s → Inv (k x0 s)) : Inv (c.inAlloc n lanes s k) := by
  unfold Ctx.inAlloc
  extract_lets
  split
  · exact h.faultLanes
  · exact hk _ _ h

theorem execLdl {d a b g z} (h : Inv s) : Kept (Machine.execLdl d a b g z s) := by
  unfold Machine.execLdl
  refine h.run fun _ _ h => ?_
  split
  · exact h.done
  · extract_lets
    refine h.inAlloc fun _ _ h => ?_
    extract_lets
    split
    · exact h.faultLanes
    · exact h.launch

theorem arriveWait {aid q} (h : Inv s) : Inv (s.arriveWait aid q) :=
  ite ((ite h.modAlloc h).serveWait) h.modAlloc

theorem waitingLoad {d a b z clear} (h : Inv s) : Inv (c.waitingLoad d a b z clear s) := by
  unfold Ctx.waitingLoad
  split
  · exact h.done
  · extract_lets
    refine h.inAlloc fun _ _ h => ?_
    extract_lets
    split
    next e =>
      exact (h.launch.snd e).foldl fun _ _ h => ite h.arriveWait h

theorem localStore {data lanes} (h : Inv s) : Inv (c.localStore data lanes s) :=
  h.modAlloc fun _ => wf_foldl_write

theorem execStlFill {d a b g z} (h : Inv s) : Kept (Machine.execStlFill d a b g z s) := by
  unfold Machine.execStlFill
  refine h.run fun _ _ h => ?_
  split
  · exact h.done
  · exact h.inAlloc fun _ _ h => h.localStore.done.foldl fun _ _ h => h.fillGranule

theorem atomLanes {core pasid fn x n l} (h : Inv s) : Inv (s.atomLanes core pasid fn x n l).1 := by
  induction l generalizing s with
  | nil => exact h
  | cons e l ih =>
    unfold State.atomLanes
    split
    · exact ih h
    · split
      next e => exact ih (h.atomHome.fst e)
      next e => exact ih (h.atomHome.fst e)

theorem atomPeers {id fn x n lanes} (h : Inv s) : Inv (c.atomPeers id fn x n lanes s) := by
  unfold Ctx.atomPeers
  refine h.foldl fun _ _ h => ?_
  split
  · exact h.sendPeer
  · exact h

theorem atomGo {d fn lanes} (h : Inv s) : Inv (c.atomGo d fn lanes s) := by
  unfold Ctx.atomGo
  extract_lets
  split
  · exact h.faultLanes
  · split
    · exact h.holdFor
    · refine h.withEntries fun _ h => ?_
      split
      next e =>
        split
        · exact (h.atomLanes.fst e).poisonLanes
        · split
          next e1 =>
            exact (((h.atomLanes.fst e).launch).snd e1).atomPeers

theorem execAtom {d a b g f} (h : Inv s) : Kept (Machine.execAtom d a b g f s) := by
  unfold Machine.execAtom
  refine h.run fun _ _ h => ?_
  split
  · exact h.done
  · extract_lets
    split
    · exact h.faultLanes
    · split
      · exact h.holdPages
      · exact h.atomGo

theorem execAtoml {d a b g f} (h : Inv s) : Kept (Machine.execAtoml d a b g f s) := by
  unfold Machine.execAtoml
  refine h.run fun _ _ h => ?_
  split
  · exact h.done
  · refine h.inAlloc fun lanes s h => ?_
    extract_lets
    split
    next e =>
      have ha := congrArg Prod.fst e ▸ wf_atomLanes h.alloc
      extract_lets s1
      have h1 : Inv s1 := h.modAlloc fun _ _ => ha
      split
      · exact h1.faultLanes
      · exact h1.launch

theorem prefetchLine {core pasid level la} (h : Inv s) : Inv (s.prefetchLine core pasid level la) := by
  unfold State.prefetchLine
  split
  · exact h.foldl fun _ _ h => h.l1Sector
  · exact ite (h.foldl fun _ _ h => h.ccSector) h.l2Touch

/-! ### Results, futures, messages and deliveries -/

theorem dropEvent {vi} (h : Inv s) : Inv (s.dropEvent vi) :=
  h.modIface

theorem forget {pasid va write} (h : Inv s) : Inv (s.forget pasid va write) :=
  h.update

theorem writeEvent {vi t e} (h : Inv s) : Inv (s.writeEvent vi t e) := by
  unfold State.writeEvent
  extract_lets _ s1 s2
  have h2 : Inv s2 := h.outsideWrite.modIface
  exact h2.update

theorem execEventWrite {vi} (h : Inv s) : Kept (Machine.execEventWrite vi s) := by
  unfold Machine.execEventWrite
  refine kept ?_
  split
  · exact h
  · extract_lets
    split
    · exact h.dropEvent
    · split
      · exact h.askX
      · exact h.forget.dropEvent
      · exact h.writeEvent

theorem resumeAcquires {core slot} (h : Inv s) : Inv (s.resumeAcquires core slot) := by
  unfold State.resumeAcquires
  split
  · exact h
  · refine h.foldl fun _ _ h => ?_
    split
    · exact h.modArm.acquireAfter
    · exact h

theorem fillPushes {w p} (h : Inv s) : Inv (s.fillPushes w p) := by
  unfold State.fillPushes
  refine h.foldl fun _ _ h => ?_
  split
  next e =>
    exact (h.pushData.snd e).modRing

theorem execResultArrival {core slot id} (h : Inv s) : Kept (Machine.execResultArrival core slot id s) := by
  unfold Machine.execResultArrival
  refine kept ?_
  split
  · exact h
  · split
    · exact h
    · exact h.fillPushes.modWave.resumeAcquires

theorem replayRead {core slot p q left l} (h : Inv s) : Inv (s.replayRead core slot p q left l) :=
  ite h.haltWave h.modPending

theorem replayLater {core slot p} (h : Inv s) : Inv (s.replayLater core slot p) :=
  h.modPending

theorem replayGlobal {core slot p q} (h : Inv s) : Inv (s.replayGlobal core slot c p q) := by
  unfold State.replayGlobal
  split
  · exact h.askPages.replayLater
  · extract_lets
    split
    · exact h.modCore.replayLater
    · split
      · exact h.modCore.replayLater
      · split
        next e =>
          exact (((h.modCore.readLanes.fst e).modPending).replayRead).askPeers

theorem replayLoad {core slot w p} (h : Inv s) : Inv (s.replayLoad core slot w p) := by
  unfold State.replayLoad
  split
  · exact h
  · exact ite h.replayRead h.replayGlobal

theorem retryReplays {core which} (h : Inv s) : Inv (s.retryReplays core which) :=
  h.foldl fun _ _ h => h.replayLoad

theorem releasePage {core pasid page} (h : Inv s) : Inv (s.releasePage core pasid page) :=
  h.modCore

theorem releaseLogged {core pasid page} (h : Inv s) : Inv (s.releaseLogged core pasid page) :=
  ite h h.releasePage.retryReplays

theorem lateHalt {core slot arm x kind cause addr tail} (h : Inv s) :
    Inv (s.lateHalt core slot arm x kind cause addr tail) := by
  unfold State.lateHalt
  split
  · exact h
  · exact ite h.haltWave h.endedHalt

theorem entryFault {core e cause va} (h : Inv s) : Inv (s.entryFault core e cause va) :=
  h.lateHalt

theorem replayEntry {core e} (h : Inv s) : Inv (s.replayEntry core e) := by
  unfold State.replayEntry
  extract_lets c
  split
  · split
    · exact h.sendPeer
    · split
      · exact h.atomScope
      · exact h.entryFault
    · split
      next e => exact (h.atomScope.fst e).entryFault
      next e => exact h.atomScope.fst e
    · exact h
  · split
    · exact h.writePeers
    · exact h.updateHost wf_foldl_write
    · exact h.storePlain
    · exact h

theorem holdLines {core e lines} (h : Inv s) : Inv (s.holdLines core e lines) := by
  unfold State.holdLines
  split
  · exact h
  · split
    next e =>
      exact (h.fresh.snd e).modWave

theorem replayEntries {core l} (h : Inv s) : Inv (State.replayEntries core l s) := by
  induction l generalizing s with
  | nil => exact h
  | cons e l ih => exact ite (ih h.modCore.holdLines.replayEntry) h

theorem replayPage {core pasid page} (h : Inv s) : Inv (s.replayPage core pasid page) :=
  h.replayEntries

theorem drainLog {core} (h : Inv s) : Inv (s.drainLog core) :=
  h.foldl fun _ _ h => ite h h.replayPage.releaseLogged

theorem execMissStatusRetry {core} (h : Inv s) : Kept (Machine.execMissStatusRetry core s) := by
  unfold Machine.execMissStatusRetry
  refine kept ?_
  split
  · exact ite h.modArm h.retryReplays
  · exact h.drainLog

theorem execFutureDelivery (h : Inv s) : Kept (Machine.execFutureDelivery s) := by
  unfold Machine.execFutureDelivery
  refine kept ?_
  split
  · exact h
  · split
    · exact h.update
    · split
      · exact h.askX
      · exact h.update.faultWord
      · exact h.update.tendDeliver

theorem deliveryFailed {d cause} (h : Inv s) : Inv (s.deliveryFailed d cause) :=
  h.postEvent

theorem deliverError {d t} (h : Inv s) : Inv (s.deliverError d t) := by
  unfold State.deliverError
  extract_lets
  split
  · split
    · exact h.homeSector.touchHome.deliveryFailed
    · split
      · exact h.homeSector.touchHome.deliveryFailed
      · exact h.homeSector.touchHome.deliver

theorem execErrorDelivery (h : Inv s) : Kept (Machine.execErrorDelivery s) := by
  unfold Machine.execErrorDelivery
  refine kept ?_
  split
  · extract_lets
    split
    · exact h.update.deliverError
    · exact h.update.deliveryFailed
    · exact h.update
  · exact h.foldl fun _ _ h => h.askX

theorem dropMark {uid} (h : Inv s) : Inv (s.dropMark uid) :=
  h.update

theorem leaveTx {m} (h : Inv s) : Inv (s.leaveTx m) :=
  h.modCore

theorem execMessageArrival {src dst} (h : Inv s) : Kept (Machine.execMessageArrival src dst s) := by
  unfold Machine.execMessageArrival
  refine kept ?_
  split
  · exact h
  · exact ite h (ite h.leaveTx.dropMark (ite h h.leaveTx.modCore))

/-! ### Tasks, steals and staging -/

theorem bindSlabs {c} (h : Inv s) : Inv (s.bindSlabs c) := by
  unfold State.bindSlabs
  exact h.modStack.modCore

theorem unbindSlabs {c} (h : Inv s) : Inv (s.unbindSlabs c) := by
  unfold State.unbindSlabs
  exact h.modStack.modCore

theorem rebound {cl f} (h : Inv s) (hf : ∀ s, Inv s → Inv (f s)) : Inv (s.rebound cl f) :=
  (hf _ (h.foldl fun _ _ h => h.unbindSlabs)).foldl fun _ _ h => h.bindSlabs

theorem configured {cl j} (h : Inv s) (e : s.configured cl j = some t) : Inv t := by
  unfold State.configured at e
  split at e
  · cases e; exact h
  · split at e
    · cases e; exact h.rebound fun _ h => h.modCluster
    · cases e

theorem teamRoom {cl jid free cs} (h : Inv s) (e : s.teamRoom cl jid free = some (t, cs)) : Inv t := by
  simp only [State.teamRoom, Option.ite_none_left_eq_some, Option.bind_eq_some_iff, Option.map_eq_some_iff,
    Prod.mk.injEq] at e
  obtain ⟨-, u, hu, _, -, rfl, -⟩ := e
  exact h.configured hu

theorem rootRoom {core jid} (h : Inv s) (e : s.rootRoom core jid = some t) : Inv t := by
  simp only [State.rootRoom, Option.ite_none_left_eq_some, Option.bind_eq_some_iff, Option.ite_none_right_eq_some,
    Option.some.injEq] at e
  obtain ⟨-, u, hu, -, rfl⟩ := e
  exact h.configured hu

theorem teamFit {cl jid cs} (h : Inv s) (e : s.teamFit cl jid = some (t, cs)) : Inv t :=
  h.teamRoom e

theorem bump {core es} (h : Inv s) : Inv (s.bump core es) := by
  unfold State.bump
  split
  next e =>
    exact (h.fresh.snd e).foldl fun _ _ h => h.modCore

theorem giveBanks {cl j aid tid fifo} (h : Inv s) : Inv (s.giveBanks cl j aid tid fifo) :=
  (((ite h h.freeBank).takeBanks).takeBanks).rebank

theorem enterCluster {jid cl} (h : Inv s) : Inv (s.enterCluster jid cl).2 := by
  unfold State.enterCluster
  split
  · exact h
  · exact (h.fresh.updateAllocs (forall_put rfl)).giveBanks

theorem startTask {core slot e} (h : Inv s) : Inv (s.startTask core slot e) := by
  unfold State.startTask
  extract_lets _ _ s1
  have h1 : Inv s1 := getD h fun _ e => h.configured e
  split
  next e1 =>
    split
    next e2 =>
      have h2 := (h1.enterCluster.snd e1).fresh.snd e2
      extract_lets _ s3 s4 s5
      have h5 : Inv s5 := h2.update.modJob.modCore.acquire.foldl fun _ _ h => h.acquire
      split
      · exact h5.haltWave
      · exact ite h5.haltWave h5

theorem execTaskDispatch {core} (h : Inv s) : Kept (Machine.execTaskDispatch core s) := by
  unfold Machine.execTaskDispatch
  refine kept ?_
  split
  · exact h
  · split
    · exact h
    · split
      · exact h
      · exact ((ite h h.bump).modCore).startTask

theorem takeStolen {thief victim level e} (h : Inv s) : Inv (s.takeStolen thief victim level e) :=
  h.release.modCore.unstage.modJob.leaveCluster

theorem restage {thief e} (h : Inv s) : Inv (s.restage thief e) := by
  unfold State.restage
  exact h.enterCluster.modCore.modCluster

theorem execSteal {core} (h : Inv s) : Kept (Machine.execSteal core s) := by
  unfold Machine.execSteal
  refine kept ?_
  split
  · exact h
  · split
    · exact h
    · split
      · exact h
      · exact ite h.takeStolen.startTask h.takeStolen.restage

theorem stageEnter {cl} (h : Inv s) : Inv (s.stageEnter cl) := by
  unfold State.stageEnter
  split
  · exact h
  · exact ite h.enterCluster h

theorem modStage {cl f} (h : Inv s) : Inv (s.modStage cl f) :=
  h.modCluster

theorem startStage {cluster q e al} (h : Inv s) (ha : Memory.wf al.cells = true) : Inv (s.startStage cluster q e al) := by
  unfold State.startStage
  split
  · exact h
  next e => exact (h.updateAllocs (forall_put (placeTiles_cells e ▸ ha))).modStage

theorem execStagingStart {cluster} (h : Inv s) : Kept (Machine.execStagingStart cluster s) := by
  unfold Machine.execStagingStart
  extract_lets s1
  have h1 : Inv s1 := ite h h.stageEnter
  refine kept ?_
  split
  · exact h1
  next e => exact ite h1 (h1.startStage (h1.stageHead e))

theorem logStaging {core jid closure cause addr} (h : Inv s) : Inv (s.logStaging core jid closure cause addr) :=
  h.logViolation

theorem endStage {cl q err} (h : Inv s) : Inv (s.endStage cl q err) :=
  h.modCore.modStage

theorem refuseStage {cl q cause va} (h : Inv s) : Inv (s.refuseStage cl q cause va) :=
  (ite h.logStaging h).endStage

theorem supply {owner unit jid x} (h : Inv s) : Inv (s.supply owner unit jid x) := by
  unfold State.supply
  split
  · exact h.askX
  · exact h.askSectors

theorem engineTouch {unit pasid vas} (h : Inv s) : Inv (s.engineTouch unit pasid vas) := by
  unfold State.engineTouch
  refine h.foldl fun _ _ h => ?_
  split
  · exact h.l2Touch
  · exact h

theorem execStagingComplete {cluster} (h : Inv s) : Kept (Machine.execStagingComplete cluster s) := by
  unfold Machine.execStagingComplete
  refine kept ?_
  split
  · exact h
  · split
    · exact h
    · split
      · exact h.refuseStage
      · split
        · exact h.supply
        · exact ((h.engineTouch.foldl fun _ _ h => h.engineScratch).forgetFetched).endStage

/-! ### The engines -/

theorem backDone {x v} (h : Inv s) : Inv (c.backDone x v s) :=
  ite h.endWave h.release.update

theorem engineDpa {core pasid ws clean} (h : Inv s) : Inv (s.engineDpa core pasid ws clean) :=
  (h.writeThrough.foldl fun _ _ h => h.markSector).foldl fun _ _ h => h.markSector

theorem enginePublish {c lines} (h : Inv s) : Inv (s.enginePublish c lines) :=
  h.publishTo

theorem enginePart {o ws clean} (h : Inv s) : Inv (s.enginePart o ws clean) := by
  refine ((h.engineDpa.updateHost wf_foldl_write).foldl fun _ _ h => ?_).enginePublish
  split
  · exact h.sendPeer
  · exact h

theorem backWrite {x v done t i n} (h : Inv s) : Inv (c.backWrite x v done t i n s) := by
  unfold Ctx.backWrite
  split
  · exact ite h h.enginePart.modArm

theorem tileRun {core slot} (h : Inv s) : Inv (s.tileRun core slot) := by
  unfold State.tileRun
  split
  · exact h
  · split
    · exact h
    · split
      · exact ite h h.backDone
      · split
        · split
          · exact h.faultWord
          · split
            · exact h.faultWord
            · split
              · exact h.supply
              · exact h.backWrite

theorem tileRuns {core slot n} (h : Inv s) : Inv (State.tileRuns core slot n s) := by
  induction n generalizing s with
  | zero => exact h
  | succ n ih => exact ite h.tileRun (ih h.tileRun)

theorem execTileWritebackComplete {core slot} (h : Inv s) : Kept (Machine.execTileWritebackComplete core slot s) := by
  unfold Machine.execTileWritebackComplete
  refine kept ?_
  split
  · exact h
  · exact h.tileRuns

theorem execCopyStart {core} (h : Inv s) : Kept (Machine.execCopyStart core s) := by
  unfold Machine.execCopyStart
  refine kept ?_
  split
  · exact h
  · exact ite h h.fork.modCore

theorem follow {core o ok} (h : Inv s) : Inv (s.follow core o ok) := by
  unfold State.follow
  split
  · exact h
  · exact h.modCore

theorem dropCopy {core o} (h : Inv s) : Inv (s.dropCopy core o) :=
  h.modCore.forgetFetched.settle

theorem endObject {o left err off} (h : Inv s) : Inv (s.endObject o left err off) :=
  h.putObject

theorem finishCopy {core o k err} (h : Inv s) : Inv (s.finishCopy core o k err) :=
  h.follow.endObject.dropCopy

theorem modCopy {core f} (h : Inv s) : Inv (s.modCopy core f) :=
  h.modCore

theorem subRem {o n} (h : Inv s) : Inv (s.subRem o n) :=
  ite h h.putObject

theorem keepSource {core o k ws} (h : Inv s) : Inv (s.keepSource core o k ws).2.2 := by
  unfold State.keepSource
  extract_lets
  split
  · exact h
  · split
    next e =>
      exact h.freeWords.snd e

theorem landRun {core o k ws} (h : Inv s) : Inv (s.landRun core o k ws) :=
  ite h.scratchPart h.enginePart

theorem copyGo {core o k ws big bad} (h : Inv s) : Inv (s.copyGo core o k ws big bad) := by
  unfold State.copyGo
  extract_lets
  split
  · exact h
  · split
    next e =>
      have h1 := thd h.keepSource e
      extract_lets s2
      have h2 : Inv s2 := h1.landRun
      split
      · exact h2.modCopy
      · exact ite h2.finishCopy h2.subRem.modCopy

theorem copyTouch {core o k} (h : Inv s) : Inv (s.copyTouch core o k) :=
  ite h h.engineTouch

theorem copyRun {core} (h : Inv s) : Inv (s.copyRun core) := by
  unfold State.copyRun
  split
  · exact h
  · split
    · exact h
    · split
      · exact ite h (ite h.finishCopy h.subRem.modCopy)
      · split
        · exact h.supply
        · exact h.finishCopy
        · exact h.copyTouch.copyGo

theorem copyRuns {core n} (h : Inv s) : Inv (State.copyRuns core n s) := by
  induction n generalizing s with
  | zero => exact h
  | succ n ih => exact ite h.copyRun (ih h.copyRun)

theorem execCopyCompletion {core} (h : Inv s) : Kept (Machine.execCopyCompletion core s) := by
  unfold Machine.execCopyCompletion
  refine kept ?_
  split
  · exact h
  · exact h.copyRuns

theorem modMat {core f} (h : Inv s) : Inv (s.modMat core f) :=
  h.modCore

theorem execMatrixOpStart {core} (h : Inv s) : Kept (Machine.execMatrixOpStart core s) := by
  unfold Machine.execMatrixOpStart
  refine kept ?_
  split
  · exact h
  · exact ite h h.fork.modMat.modCore

theorem endAccld {core o} (h : Inv s) : Inv (s.endAccld core o) := by
  unfold State.endAccld
  exact h.modCore

theorem endAccst {core o} (h : Inv s) : Inv (s.endAccst core o) := by
  unfold State.endAccst
  split
  · exact h.lateHalt
  · exact h.engineScratch

theorem blockDone {core} (h : Inv s) : Inv (s.blockDone core) := by
  unfold State.blockDone
  split
  · exact h
  · exact ite h h.modCore.modMat

theorem endMma {core o} (h : Inv s) : Inv (s.endMma core o) := by
  unfold State.endMma
  exact (h.foldl fun _ _ h => h.blockDone).modCore

theorem finishMat {core o} (h : Inv s) : Inv (s.finishMat core o) := by
  unfold State.finishMat
  split
  · exact h.modCore
  · exact h.endAccld
  · exact h.endAccst
  · exact h.endMma

theorem execMatrixOpEnd {core} (h : Inv s) : Kept (Machine.execMatrixOpEnd core s) := by
  unfold Machine.execMatrixOpEnd
  refine kept ?_
  split
  · exact h
  · exact ite h h.finishMat.modCore.settle

theorem brStarted {core id lands} (h : Inv s) : Inv (s.brStarted core id lands) :=
  h.modCore

theorem setCur {core o c} (h : Inv s) : Inv (s.setCur core o c) :=
  h.modCore

theorem brRelease {core o} (h : Inv s) : Inv (s.brRelease core o) :=
  h.modArm

theorem brTouch {core o vas} (h : Inv s) : Inv (s.brTouch core o vas) :=
  h.engineTouch

theorem brSupply {core o va} (h : Inv s) : Inv (s.brSupply core o va) := by
  unfold State.brSupply
  split
  · exact h.supply
  · exact h

theorem dropBr {core o} (h : Inv s) : Inv (s.dropBr core o) :=
  h.modCore.forgetFetched

theorem logEngine {core slot jid x cause addr} (h : Inv s) : Inv (s.logEngine core slot jid x cause addr) := by
  unfold State.logEngine
  split
  · exact ite h.logViolation h
  · exact h

theorem haltBr {core o cause addr tail} (h : Inv s) : Inv (s.haltBr core o cause addr tail) := by
  unfold State.haltBr
  extract_lets
  split
  · split
    · exact (ite h.dropBr.logEngine h.dropBr).settle
    · exact h.dropBr.haltWave
  · exact h.dropBr

theorem halted {cause addr tail} : KeptBr (.halt cause addr tail) := fun _ e => by cases e

theorem missed {va} : KeptBr (.miss va) := fun _ e => by cases e

theorem ok (h : Inv s) : KeptBr (.ok s) := fun _ e => by cases e; exact h

theorem stopped {z : CurStop} {cx} : KeptBr (z.result cx) := by
  cases z with
  | miss va => exact missed
  | poison a => exact halted
  | bad d k c => exact halted

theorem brExpand {core o} (h : Inv s) : KeptBr (s.brExpand core o) := by
  unfold State.brExpand
  split
  · exact stopped
  · extract_lets
    split
    · exact halted
    · exact h.brTouch.setCur.brStarted.brRelease.ok

theorem brNext {core o c} (h : Inv s) : KeptBr (s.brNext core o c) := by
  unfold State.brNext
  split
  · exact stopped
  · exact halted
  · exact h.brTouch.setCur.modPending.brStarted.ok

theorem brSplit {core o c} (h : Inv s) : KeptBr (s.brSplit core o c) := by
  unfold State.brSplit
  split
  · exact stopped
  · exact h.brTouch.brStarted.brRelease.ok

theorem brLoad {core o} (h : Inv s) : KeptBr (s.brLoad core o) := by
  unfold State.brLoad
  extract_lets
  split
  · exact halted
  · split
    · exact halted
    · split
      · exact halted
      · exact h.setCur.brStarted.ok

theorem brRun {core o} (h : Inv s) : KeptBr (s.brRun core o) := by
  unfold State.brRun
  split
  · exact h.setCur.brStarted.ok
  · exact h.brExpand
  · split
    · exact h.brNext
    · exact h.brStarted.ok
  · split
    · exact h.brSplit
    · exact h.brStarted.ok
  · split
    · exact h.brStarted.ok
    · exact h.brStarted.ok
  · exact h.brLoad
  · exact h.setCur.brStarted.ok
  · exact h.modCore.brStarted.ok

theorem execBrambleOpStart {core} (h : Inv s) : Kept (Machine.execBrambleOpStart core s) := by
  unfold Machine.execBrambleOpStart
  refine kept ?_
  split
  · exact h
  · split
    · exact h
    · extract_lets s1
      have h1 : Inv s1 := ite h.fork h
      split
      next e => exact h1.brRun _ e
      · exact h1.brSupply
      · exact h1.haltBr

theorem execMmaMcWindowLapse {core} (h : Inv s) : Kept (Machine.execMmaMcWindowLapse core s) := by
  unfold Machine.execMmaMcWindowLapse
  refine kept ?_
  split
  · exact h
  · exact ite h.serve h

/-! ### Placement, contracts, the sweep and the commands -/

theorem rootFit {core jid} (h : Inv s) (e : s.rootFit core jid = some t) : Inv t := by
  unfold State.rootFit at e
  split at e
  · cases e
  · exact h.rootRoom e

theorem served {j} (h : Inv s) : Inv (s.served j) :=
  h.update

theorem startWave {j tid idx core} (h : Inv s) : Inv (s.startWave j tid idx core) := by
  unfold State.startWave
  split
  · exact h
  · split
    next e =>
      exact (h.fresh.snd e).modCore

theorem placeTeam {cl jid cs} (h : Inv s) : Inv (s.placeTeam cl jid cs) := by
  unfold State.placeTeam
  extract_lets j
  split
  next e1 =>
    split
    next s2 e2 =>
      have h2 : Inv (s2.served j) := ((h.fresh.snd e1).fresh.snd e2).served
      exact ((h2.updateAllocs (forall_put rfl)).giveBanks.modJob).foldl fun _ _ h => h.startWave

theorem execTeamPlacement {cluster} (h : Inv s) : Kept (Machine.execTeamPlacement cluster s) := by
  unfold Machine.execTeamPlacement
  refine kept ?_
  split
  · exact h
  · split
    · exact h
    · split
      · split
        next e =>
          exact (h.teamFit e).placeTeam
        · exact h
      · split
        · exact h.modCluster
        · exact h

theorem pushRoot {core jid} (h : Inv s) : Inv (s.pushRoot core jid) := by
  unfold State.pushRoot
  extract_lets
  split
  next e =>
    split
    next e1 =>
      exact (((((h.enterCluster.snd e).fresh).snd e1).modJob).pushEntry).served

theorem execRootClosurePush {core} (h : Inv s) : Kept (Machine.execRootClosurePush core s) := by
  unfold Machine.execRootClosurePush
  refine kept ?_
  split
  · exact h
  · split
    · exact h
    · split
      next e =>
        exact (h.rootFit e).pushRoot
      · exact h

theorem requestSwitches (h : Inv s) : Inv s.requestSwitches :=
  h.foldl fun _ _ h => h.foldl fun _ _ h => h.modTeam

theorem completeAll {core slot w} (h : Inv s) : Inv (s.completeAll core slot w) :=
  h.foldl fun _ _ h => h.fillPushes.modWave.resumeAcquires

theorem forgetReads {t} (h : Inv s) : Inv (s.forgetReads t) :=
  h.update

theorem switchOut {t} (h : Inv s) : Inv (s.switchOut t) := by
  unfold State.switchOut
  extract_lets s1 s2
  have h2 : Inv s2 := (h.foldl fun _ _ h => h.completeAll).foldl fun _ _ h => h.release
  split
  next e =>
    extract_lets _ s3 s4
    have h3 : Inv s3 := (h2.fresh.snd e).forgetReads
    have h4 : Inv s4 := h3.updateAllocs (forall_map fun _ => rfl)
    exact ((h4.foldl fun _ _ h => h.modCore.settlePennant).foldl fun _ _ h => h.releaseLogged).modTeam

theorem execSwitchOut {core slot} (h : Inv s) : Kept (Machine.execSwitchOut core slot s) := by
  unfold Machine.execSwitchOut
  extract_lets
  refine kept ?_
  split
  · exact h.requestSwitches
  · exact ite h.requestSwitches.switchOut h.requestSwitches

theorem restoreWaits {u cores places} (h : Inv s) : Inv (s.restoreWaits u cores places) :=
  h.foldl fun _ _ h => ite h.arriveWait h

theorem noteReplays {u} (h : Inv s) : Inv (s.noteReplays u) :=
  h.foldl fun _ _ h => h.foldl fun _ _ h => h.noteClass

theorem switchIn {u cores} (h : Inv s) : Inv (s.switchIn u cores) := by
  unfold State.switchIn
  extract_lets _ s1 s2 s3 s4 s5 s6 s7 s8 s9
  have h1 : Inv s1 := getD h fun _ e => h.configured e
  have h2 : Inv s2 := h1.update
  have h4 : Inv s4 := ite h2.modTeam.modJob h2.modTeam
  have h7 : Inv s7 := ((h4.foldl fun _ _ h => h.modCore).foldl fun _ _ h => h.acquire).foldl fun _ _ h => h.replayPage
  have h9 : Inv s9 := h7.noteReplays.restoreWaits.foldl fun _ _ h => h.foldl fun _ _ h => h.replayLoad
  exact h9.foldl fun _ _ h => h.settle

theorem execSwitchIn {unit cores} (h : Inv s) : Kept (Machine.execSwitchIn unit cores s) := by
  unfold Machine.execSwitchIn
  refine kept ?_
  split
  · exact h
  · split
    · exact h
    · split
      · exact h.askX
      · exact h.switchIn

theorem endContract {cid} (h : Inv s) : Inv (s.endContract cid) :=
  h.update.foldl fun _ _ h => h.rebank

theorem suspendTest {core} (h : Inv s) : Inv (s.suspendTest core) :=
  ite h.modCore h

theorem execPeriodStart {cid} (h : Inv s) : Kept (Machine.execPeriodStart cid s) := by
  unfold Machine.execPeriodStart
  refine kept ?_
  split
  · exact h
  · split
    · exact h
    · split
      · exact h.endContract
      · exact (h.update.foldl fun _ _ h => h.suspendTest).requestSwitches

theorem execBudgetExhausted {cid} (h : Inv s) : Kept (Machine.execBudgetExhausted cid s) := by
  unfold Machine.execBudgetExhausted
  refine kept ?_
  split
  · exact h
  · exact ite h.requestSwitches h

theorem closeJob {jid} (h : Inv s) : Inv (s.closeJob jid) :=
  h.modJob

theorem putRecord {vi t r} (h : Inv s) : Inv (s.putRecord vi t r) :=
  h.outsideWrite.update

theorem execJobEnd {jid} (h : Inv s) : Kept (Machine.execJobEnd jid s) := by
  unfold Machine.execJobEnd
  refine kept ?_
  split
  · exact h
  · extract_lets
    split
    · exact h.askX
    · exact h.forget.closeJob
    · exact h.putRecord.closeJob

theorem execSweepVisit {stack} (h : Inv s) : Kept (Machine.execSweepVisit stack s) := by
  unfold Machine.execSweepVisit
  refine kept ?_
  extract_lets
  split
  · exact h
  · split
    · exact h
    · exact ite h h.modCore.modStack

theorem execSweepTest {core} (h : Inv s) : Kept (Machine.execSweepTest core s) := by
  unfold Machine.execSweepTest
  refine kept ?_
  extract_lets
  split
  · exact h.suspendTest
  · exact ite h (ite h.modCore (ite h h.modCore.modStack))

theorem endTest {core} (h : Inv s) : Inv (s.endTest core) :=
  h.modCore.modStack

theorem putOrWait {w} (h : Inv s) : Inv (s.putOrWait w) := by
  unfold State.putOrWait
  split
  · exact h.putRecord
  · exact h.forget
  · exact h.askX.update

theorem setGraft {cl e w} (h : Inv s) : Inv (s.setGraft cl e w) := by
  unfold State.setGraft
  extract_lets s1
  have h1 : Inv s1 := h.rebound fun _ h => h.modCluster
  exact h1.update

theorem applyReq {core f q} (h : Inv s) : Inv (s.applyReq core f q) := by
  unfold State.applyReq
  split
  · exact h.setGraft.modCore
  · exact ite h.modCore.setGraft h.modCore

theorem passPairs {core f} (h : Inv s) : Inv (s.passPairs core f) := by
  unfold State.passPairs
  exact (h.foldl fun _ _ h => h.modJob).modCore

theorem mgmtEvent {bit stack} (h : Inv s) : Inv (s.mgmtEvent bit stack) :=
  h.update

theorem condemn {core ganged f} (h : Inv s) : Inv (s.condemn core ganged f) :=
  ite h h.modStack.setGraft.modCore.mgmtEvent

theorem failClasses {core ganged f} (h : Inv s) : Inv (s.failClasses core ganged f) :=
  ((ite h.modCore h.modCore.mgmtEvent).foldl fun _ _ h => h.suspect).condemn

theorem confirm (h : Inv s) : Inv s.confirm :=
  h.foldl fun _ _ h => ite h.modJob.rewriteRecord h

theorem execTestResult {core failing} (h : Inv s) : Kept (Machine.execTestResult core failing s) := by
  unfold Machine.execTestResult
  refine kept ?_
  extract_lets _ req _ _ s1 s2 s3 s4 s5
  clear_value req
  have h1 : Inv s1 := h.writeBackL1.modCore
  have h2 : Inv s2 := by
    unfold s2
    split
    · exact h1.applyReq
    · exact h1
  have h4 : Inv s4 := h2.failClasses.passPairs.endTest
  have h5 : Inv s5 := by
    unfold s5
    split
    · exact h4.putOrWait
    · exact h4
  split
  · exact h
  · split
    · cases req with
      | none => exact h1.endTest
      | some _ => exact h1.endTest.putOrWait
    · exact h5.confirm

theorem execDrainmaxExpiry {stack} (h : Inv s) : Kept (Machine.execDrainmaxExpiry stack s) := by
  unfold Machine.execDrainmaxExpiry
  refine kept ?_
  extract_lets
  split
  · exact h
  · split
    · exact h
    · exact ite h.modCore.modStack.mgmtEvent h.modCore.modStack

theorem touchEntry {vi} (h : Inv s) : Inv (s.touchEntry vi) := by
  unfold State.touchEntry
  split
  · exact h.touchHome
  · exact h

theorem consume {e} (h : Inv s) : Inv (s.consume e) :=
  h.forget.forget.modIface

theorem answer {e r} (h : Inv s) : Inv (s.answer e r) :=
  h.putOrWait.consume

theorem refuse {e err} (h : Inv s) : Inv (s.refuse e err) :=
  h.answer

theorem command {vi mine act} (h : Inv s) (hact : ∀ x0 s, Inv s → Inv (act x0 s)) : Inv (s.command vi mine act) := by
  unfold State.command
  split
  · exact h
  · exact h.askX
  · exact h.touchEntry.forget.modIface
  · split
    · exact h
    · extract_lets
      split
      · exact h.touchEntry.askX
      · split
        · exact h.touchEntry.refuse
        · exact ite h.touchEntry.refuse (hact _ _ h.touchEntry)

theorem forgetSpan {pasid va n write} (h : Inv s) : Inv (s.forgetSpan pasid va n write) :=
  h.foldl fun _ _ h => h.forget

theorem touchParts {pasid ps} (h : Inv s) : Inv (s.touchParts pasid ps) :=
  h.foldl fun _ _ h => h.touchHome

theorem withBytes {e n act} (h : Inv s) (hact : ∀ x0 s, Inv s → Inv (act x0 s)) : Inv (s.withBytes e n act) := by
  unfold State.withBytes
  split
  · exact h.askX
  · exact h.forgetSpan.refuse
  · split
    · exact hact _ _ h.touchParts
    · exact h.touchParts.refuse

theorem addJob {j} (h : Inv s) : Inv (s.addJob j) := by
  unfold State.addJob
  split
  next e =>
    exact (h.fresh.snd e).update

theorem execLaunch {vi} (h : Inv s) : Kept (Machine.execLaunch vi s) := by
  unfold Machine.execLaunch
  refine kept ?_
  refine h.command fun _ _ h => ?_
  refine h.withBytes fun _ _ h => ?_
  extract_lets
  split
  · exact h.addJob.consume
  · exact h.refuse

theorem takeIn {c} (h : Inv s) : Inv (s.takeIn c).2.2 :=
  h.update.foldl fun _ _ h => h.rebank

theorem execCreateContract {vi} (h : Inv s) : Kept (Machine.execCreateContract vi s) := by
  unfold Machine.execCreateContract
  refine kept ?_
  refine h.command fun _ _ h => ?_
  refine h.withBytes fun _ _ h => ?_
  extract_lets
  split
  · split
    next e => exact (thd h.takeIn e).answer
  · exact h.refuse

theorem accept {e} (h : Inv s) : Inv (s.accept e) :=
  h.answer

theorem execDestroyContract {vi} (h : Inv s) : Kept (Machine.execDestroyContract vi s) := by
  unfold Machine.execDestroyContract
  refine kept ?_
  refine h.command fun _ _ h => ?_
  split
  · exact ite h.update.accept h.refuse
  · exact h.refuse

theorem execDrainJob {vi} (h : Inv s) : Kept (Machine.execDrainJob vi s) := by
  unfold Machine.execDrainJob
  refine kept ?_
  refine h.command fun _ _ h => ?_
  split
  · exact h.drain.answer
  · exact h.refuse

theorem execCmdUndefined {vi} (h : Inv s) : Kept (Machine.execCmdUndefined vi s) := by
  unfold Machine.execCmdUndefined
  refine kept ?_
  split
  · split
    · exact h
    · extract_lets
      split
      · exact h.touchEntry.askX
      · exact h.touchEntry.refuse
  · exact h.command fun _ _ h => h

theorem manage {vi cmd ok act} (h : Inv s) (hact : ∀ x0 s, Inv s → Inv (act x0 s)) : Inv (s.manage vi cmd ok act) :=
  h.command fun _ _ h => ite (hact _ _ h) h.refuse

theorem writeParts {pasid ps bs} (h : Inv s) : Inv (s.writeParts pasid ps bs) := by
  induction ps generalizing s bs with
  | nil => exact h
  | cons p ps ih => exact ih h.outsideWrite

theorem withResult {e bs} (h : Inv s) : Inv (s.withResult e bs) := by
  unfold State.withResult
  split
  · exact h.askX
  · exact h.forgetSpan.refuse
  · exact h.writeParts.accept

theorem execRegraft {vi} (h : Inv s) : Kept (Machine.execRegraft vi s) := by
  unfold Machine.execRegraft
  refine kept ?_
  refine h.manage fun _ _ h => ?_
  split
  · exact h.modCore.consume

theorem execCapFence {vi} (h : Inv s) : Kept (Machine.execCapFence vi s) := by
  unfold Machine.execCapFence
  refine kept ?_
  refine h.manage fun _ _ h => ?_
  split
  · exact h.failClasses.accept

theorem clearSites {core m} (h : Inv s) : Inv (s.clearSites core m) := by
  unfold State.clearSites
  exact h.modStack

theorem execCapRetest {vi} (h : Inv s) : Kept (Machine.execCapRetest vi s) := by
  unfold Machine.execCapRetest
  refine kept ?_
  refine h.manage fun _ _ h => ?_
  split
  · exact h.clearSites.modCore.consume

theorem pauseSweep {stack} (h : Inv s) : Inv (s.pauseSweep stack) := by
  unfold State.pauseSweep
  split
  · exact ite h h.modCore.modStack
  · exact h

theorem execMigrate {vi} (h : Inv s) : Kept (Machine.execMigrate vi s) := by
  unfold Machine.execMigrate
  refine kept ?_
  refine h.manage fun _ _ h => ?_
  split
  next e =>
    exact ((h.fresh.snd e).update).consume

theorem landPage {m to_ bs} (h : Inv s) : Inv (s.landPage m to_ bs) := by
  unfold State.landPage
  extract_lets
  split
  · exact (h.writeT.foldl fun _ _ h => h.markSector).enginePublish
  · exact h.writeT
  · exact h.foldl fun _ _ h => h.sendPeer

theorem migrateOne {m from_ to_} (h : Inv s) : Inv (s.migrateOne m from_ to_).1 :=
  h.touchHome.landPage.forgetFetched

theorem migratePages {m n} (h : Inv s) : Inv (s.migratePages m n).1 := by
  induction n generalizing s m with
  | zero => exact h
  | succ n ih =>
    unfold State.migratePages
    split
    · exact h
    · split
      · exact h
      · exact h
      · exact h
      · exact h
      · split
        · exact h
        · split
          · exact ih h.migrateOne
          · exact h
          · exact h.askSectors

theorem execMigrateEnd {id} (h : Inv s) : Kept (Machine.execMigrateEnd id s) := by
  unfold Machine.execMigrateEnd
  refine kept ?_
  split
  · exact h
  · split
    next e =>
      exact ((h.migratePages.fst e).askX).update
    next e =>
      exact (h.migratePages.fst e).update
    next e =>
      exact ((h.migratePages.fst e).update).putOrWait

theorem dropGroup {g} (h : Inv s) : Inv (s.dropGroup g) :=
  h.update

theorem setGroup {g loc} (h : Inv s) : Inv (s.setGroup g loc) :=
  h.dropGroup.updateMem (Memory.wf_clear _ _ _)

theorem powerSet {vi mine act} (h : Inv s) (hact : ∀ x0 s, Inv s → Inv (act x0 s)) : Inv (s.powerSet vi mine act) := by
  unfold State.powerSet
  refine h.command fun _ _ h => ?_
  split
  · exact ite h (ite (hact _ _ h) h.refuse)

theorem clockStep {stack value} (h : Inv s) : Inv (s.clockStep stack value) :=
  h.modStack

theorem gateSet {core value line} (h : Inv s) : Inv (s.gateSet core value line) := by
  unfold State.gateSet
  extract_lets
  split
  · exact ite (h.foldl fun _ _ h => h.putOrWait) h.modCore
  · exact h.modCore.foldl fun _ _ h => h.putOrWait

theorem refreshSet {hbm value} (h : Inv s) : Inv (s.refreshSet hbm value) :=
  h.update

theorem completeInvals (h : Inv s) : Inv s.completeInvals :=
  h.update

theorem windowFree (h : Inv s) : Inv s.windowFree :=
  ((h.foldl fun _ _ h => h.drainLog).foldl fun _ _ h => h.retryReplays).foldl fun _ _ h => h.resumeCont

theorem closeReq {dest tag} (h : Inv s) : Inv (s.closeReq dest tag) :=
  h.update

theorem takeFetched {q bytes pois} (h : Inv s) : Inv (s.takeFetched q bytes pois) :=
  ite (h.update.foldl fun _ _ h => h.resumeCont) h

theorem replied {q f} (h : Inv s) : Inv (s.replied q f) := by
  unfold State.replied
  extract_lets
  split
  · exact ite h.modPending.haltWave h.modPending
  · exact h.modPending

theorem poisonReply {q} (h : Inv s) : Inv (s.poisonReply q) :=
  ite h.takeFetched h.replied

theorem linkFailure {dest q} (h : Inv s) : Inv (s.linkFailure dest q) :=
  h.postEvent

theorem failReq {dest q} (h : Inv s) : Inv (s.failReq dest q) :=
  (ite h.closeReq.poisonReply h.closeReq.linkFailure).settle

theorem execRetransmit {dest tag} (h : Inv s) : Kept (Machine.execRetransmit dest tag s) := by
  unfold Machine.execRetransmit
  refine kept ?_
  split
  · exact h
  · split
    · exact h.update
    · exact ((h.mgmtEvent.foldl fun _ _ h => h.failReq).windowFree).completeInvals

theorem execIllegalInstruction (h : Inv s) (w) : Kept (Machine.execIllegalInstruction w s) := by
  unfold Machine.execIllegalInstruction
  split
  · exact h.illegal.kept
  · exact Kept.fault

theorem execBrambleOpEnd {core} (h : Inv s) : Kept (Machine.execBrambleOpEnd core s) := by
  unfold Machine.execBrambleOpEnd
  refine kept ?_
  split
  · exact h
  · split
    · exact h
    · extract_lets s1
      have h1 : Inv s1 := h.foldl fun _ _ h => h.engineScratch
      exact ((ite h1.modPending h1).dropBr).settle

theorem writeReg {vi f} (h : Inv s) : Kept (s.writeReg vi f) :=
  (ite h.modIface h).kept

theorem execRegisterWrite {vi offset v} (h : Inv s) : Kept (Machine.execRegisterWrite vi offset v s) := by
  unfold Machine.execRegisterWrite
  split
  · exact (ite h.update h).kept
  · exact h.writeReg

theorem applyGrafts (h : Inv s) : Inv s.applyGrafts :=
  h.foldl fun _ _ h => h.modCluster

theorem bringUp {n core ganged} (h : Inv s) : Inv (s.bringUp n core ganged) := by
  unfold State.bringUp
  extract_lets
  split
  · exact h.modCore
  · exact (ite h.modCore h.modCore.mgmtEvent).condemn

/-- The reset of the module clears device memory and the allocations. -/
theorem moduleReset (h : Inv s) : Inv s.moduleReset := by
  unfold State.moduleReset
  extract_lets _ _ _ r1 r2
  have h1 : Inv r1 := {
    mem := rfl
    host := h.host
    staging := h.staging
    scratch := fun _ he => absurd he List.not_mem_nil
    vfs := Nat.zero_le _ }
  have h2 : Inv r2 := h1.applyGrafts
  split
  · exact h2.foldl fun _ _ h => ite h.bringUp.bringUp h.bringUp
  · exact h2

theorem grantReset (h : Inv s) : Inv s.grantReset :=
  h.update

theorem refuseReset (h : Inv s) : Inv s.refuseReset :=
  h.update

theorem execStackReset {v} (h : Inv s) : Kept (Machine.execStackReset v s) := by
  unfold Machine.execStackReset
  refine kept ?_
  split
  · exact h
  · split
    · exact h
    · exact ite h.modStack.grantReset h.refuseReset

theorem execClusterReset {v} (h : Inv s) : Kept (Machine.execClusterReset v s) := by
  unfold Machine.execClusterReset
  refine kept ?_
  split
  · exact h
  · split
    · exact h
    · exact ite h.modCluster.grantReset h.refuseReset

/-! ### The management port -/

theorem respond {bs} (h : Inv s) : Inv (s.respond bs) :=
  h.update

theorem portCommand {b f} (h : Inv s) (hf : ∀ s, Inv s → Inv (f s)) : Kept (s.portCommand b f) :=
  (ite h (ite h.respond (hf _ h))).kept

theorem execSensors (h : Inv s) : Kept (Machine.execSensors s) := by
  unfold Machine.execSensors
  refine h.portCommand fun s h => ?_
  have h1 : Inv { s with freeCtr := s.freeCtr + 35 } := h.update
  exact h1.respond

theorem execI3cPower {kind target value} (h : Inv s) : Kept (Machine.execI3cPower kind target value s) := by
  unfold Machine.execI3cPower
  refine h.portCommand fun _ h => ?_
  split
  · exact h.respond
  · exact (ite h.clockStep (ite h.gateSet h.refreshSet)).respond

theorem execFwWrite {offset image} (h : Inv s) : Kept (Machine.execFwWrite offset image s) := by
  unfold Machine.execFwWrite
  refine h.portCommand fun s h => ?_
  split
  · exact h.respond
  · split
    · exact h.respond
    · exact (h.updateStaging (Memory.wf_writeBytes _ _ _)).respond

theorem execFwCommit {length} (h : Inv s) : Kept (Machine.execFwCommit length s) := by
  unfold Machine.execFwCommit
  refine h.portCommand fun s h => ?_
  split
  · exact h.respond
  · extract_lets image
    have h' : Inv { s with secure := { s.secure with committed := some image } } := h.update
    exact ite h'.respond h.respond

/-! ### Translations and the links -/

theorem endSaved {u x} (h : Inv s) : Inv (s.endSaved u x) := by
  unfold State.endSaved
  extract_lets s1 _ s2 s3
  have h2 : Inv s2 := by
    have h1 : Inv s1 := h.fillReserved.freeStage
    exact h1.update
  have h3 : Inv s3 := h2.modTeam
  split
  · exact h2
  · exact ite h3.update.endTeam h3

theorem haltSaved {u x e cause} (h : Inv s) : Inv (s.haltSaved u x e cause) :=
  h.endSaved.afterHalt

theorem refuseUnit {u q cause} (h : Inv s) : Inv (s.refuseUnit u q cause) := by
  unfold State.refuseUnit
  extract_lets
  refine h.update.foldl fun _ _ h => ?_
  split
  · split
    · exact ite h.endedHalt h.haltSaved
    · exact h
  · exact h

theorem refuseSaved {q cause} (h : Inv s) : Inv (s.refuseSaved q cause) :=
  ite (h.foldl fun _ _ h => h.refuseUnit) h

theorem refuseQuiet {q} (h : Inv s) : Inv (s.refuseQuiet q) :=
  h.update

theorem retryRecords (h : Inv s) : Inv s.retryRecords :=
  (h.update.foldl fun _ _ h => h.putOrWait).foldl fun _ _ h => h.rewriteRecord

theorem refuseIo {q} (h : Inv s) : Inv (s.refuseIo q) :=
  h.update.retryRecords

theorem refuseLog {core q cause} (h : Inv s) : Inv (s.refuseLog core q cause) :=
  ite h (h.modCore.foldl fun _ _ h => h.entryFault)

theorem refuseArms {core q cause} (h : Inv s) : Inv (s.refuseArms core q cause) := by
  unfold State.refuseArms
  refine h.foldl fun _ _ h => ?_
  split
  · exact h
  · split
    · exact ite h.endedHalt.modWave.settle h.haltWave
    · exact h

theorem refuseReplays {core q cause} (h : Inv s) : Inv (s.refuseReplays core q cause) := by
  unfold State.refuseReplays
  split
  · exact h
  · refine h.foldl fun _ _ h => ?_
    split
    · exact h.haltWave
    · exact h

theorem refuseConts {core q cause} (h : Inv s) : Inv (s.refuseConts core q cause) :=
  ite h (h.foldl fun _ _ h => h.update.dropContinuation)

theorem refuseDeliveries {core q cause} (h : Inv s) : Inv (s.refuseDeliveries core q cause) := by
  unfold State.refuseDeliveries
  split
  · exact h
  · refine h.foldl fun _ _ h => ?_
    extract_lets
    split
    · exact h.update.deliveryFailed
    · split
      · exact h.update.faultWord
      · exact h.update

theorem refuseCopy {core o va cause} (h : Inv s) : Inv (s.refuseCopy core o va cause) :=
  (ite h.logEngine h).finishCopy

theorem refuseCopies {core q cause} (h : Inv s) : Inv (s.refuseCopies core q cause) := by
  unfold State.refuseCopies
  split
  · split
    · exact ite h.refuseCopy h
    · exact h
  · exact h

theorem refuseStaging {core q cause} (h : Inv s) : Inv (s.refuseStaging core q cause) := by
  unfold State.refuseStaging
  split
  · split
    · exact ite h.refuseStage h
    · exact h
  · exact h

theorem refuseTiles {core q cause} (h : Inv s) : Inv (s.refuseTiles core q cause) := by
  unfold State.refuseTiles
  split
  · exact h
  · refine h.foldl fun _ _ h => ?_
    split
    · exact ite h (ite h.faultWord h)
    · exact h

theorem refuseBr {core cause addr} (h : Inv s) : Inv (s.refuseBr core cause addr) := by
  unfold State.refuseBr
  split
  · exact h
  · exact h.haltBr

theorem refuseBramble {core q cause} (h : Inv s) : Inv (s.refuseBramble core q cause) := by
  unfold State.refuseBramble
  split
  · split
    · exact ite h.refuseBr h
    · exact h
  · exact h

theorem refuseCore {core q cause} (h : Inv s) : Inv (s.refuseCore core q cause) := by
  unfold State.refuseCore
  extract_lets _ _ s1 _ s2 _ s3 _ s4
  have h1 : Inv s1 := by
    unfold s1
    split
    · exact h.refuseLog.refuseArms.releaseLogged
    · exact h.refuseLog.refuseArms
  have h2 : Inv s2 := h1.refuseReplays.refuseConts
  have h3 : Inv s3 := h2.refuseDeliveries.refuseCopies
  have h4 : Inv s4 := h3.refuseStaging.refuseTiles
  exact h4.refuseBramble

theorem refusePage {q cause} (h : Inv s) : Inv (s.refusePage q cause) :=
  h.refuseSaved.foldl fun _ _ h => ite h.refuseQuiet (ite h.refuseIo h.refuseCore)

theorem dropX {q} (h : Inv s) : Inv (s.dropX q) :=
  h.update

theorem sendQueued (h : Inv s) : Inv s.sendQueued :=
  h.update

theorem setX {q f} (h : Inv s) : Inv (s.setX q f) :=
  h.update

theorem denied {q} (h : Inv s) : Inv (s.denied q) := by
  unfold State.denied
  split
  · exact h.dropX.refusePage
  · extract_lets _ _ s1
    have h1 : Inv s1 := (ite h.refuseQuiet h).setX
    exact ite ((ite h.refuseQuiet h).dropX) h1.update.sendQueued

theorem arriveCore {core pasid page} (h : Inv s) : Inv (s.arriveCore core pasid page) :=
  ((((ite h h.replayPage).releasePage).retryReplays).foldl fun _ _ h => h.resumeCont).settle

theorem stArrive {q} (h : Inv s) : Inv (s.arrive q) :=
  h.foldl fun _ _ h => ite h.retryRecords h.arriveCore

theorem fillX {x u} (h : Inv s) : Inv (s.fillX x u) :=
  ite h.update h.modCore.modStack

theorem execTranslationCompletion {pasid page write answer} (h : Inv s) :
    Kept (Machine.execTranslationCompletion pasid page write answer s) := by
  unfold Machine.execTranslationCompletion
  split
  · exact h.kept
  · split
    · exact h.dropX.refusePage.kept
    · exact h.denied.kept
    · split
      · exact h.kept
      · split
        · exact Kept.fault
        · exact h.denied.kept.ite ((h.foldl fun _ _ h => h.fillX).dropX.stArrive).kept

theorem execPageResponse {pasid page write answer} (h : Inv s) :
    Kept (Machine.execPageResponse pasid page write answer s) := by
  unfold Machine.execPageResponse
  refine kept ?_
  split
  · exact h
  · split
    · exact h.setX.sendQueued
    · exact h.dropX.refusePage.sendQueued
    · exact h.dropX.refusePage.sendQueued

theorem askAgain {pasid va size} (h : Inv s) : Inv (s.askAgain pasid va size) :=
  h.foldl fun _ _ h => h.foldl fun _ _ h => h.askX

theorem execInvalidateRequest {pasid va size} (h : Inv s) : Kept (Machine.execInvalidateRequest pasid va size s) := by
  unfold Machine.execInvalidateRequest
  split
  · exact h.kept
  · exact h.update.askAgain.completeInvals.kept

theorem peerOp {op} (h : Inv s) : Inv (s.peerOp op).1 := by
  unfold State.peerOp
  split
  · split
    next e =>
      exact h.readAt.fst e
    next e =>
      exact h.readAt.fst e
  · exact h.outsideWrite.foldl fun _ _ h => h.setPoison
  · split
    next e =>
      exact ((h.readAt.fst e).l2Bytes).homeWrite
    next e =>
      exact h.readAt.fst e

theorem execPeerRequest {src tag op} (h : Inv s) : Kept (Machine.execPeerRequest src tag op s) := by
  unfold Machine.execPeerRequest
  split
  · exact h.kept
  · split
    · exact Kept.fault
    · extract_lets
      split
      · exact h.kept
      · split
        next e =>
          exact ((h.peerOp.fst e).update).kept

theorem takeReply {q reply} (h : Inv s) : Inv (s.takeReply q reply) :=
  ite h.poisonReply (ite h.takeFetched h.replied)

theorem execLinkAck {dest tag reply} (h : Inv s) : Kept (Machine.execLinkAck dest tag reply s) := by
  unfold Machine.execLinkAck
  refine kept ?_
  split
  · exact h
  · exact (((ite h.closeReq.takeReply h.closeReq).settle).windowFree).completeInvals

theorem execLineEviction {level unit line} (h : Inv s) : Kept (Machine.execLineEviction level unit line s) := by
  unfold Machine.execLineEviction
  refine kept ?_
  split
  · exact h.evictL1
  · split
    · exact h.evictL1.foldl fun _ _ h => h.l1Sector
    · exact h
  · exact h.evictCC
  · split
    · exact h.evictCC.foldl fun _ _ h => h.ccSector
    · exact h
  · exact h.modCore

theorem execNumvfsWrite {n} (h : Inv s) : Kept (Machine.execNumvfsWrite n s) := by
  unfold Machine.execNumvfsWrite
  refine kept ?_
  split
  next hn => exact ⟨h.mem, h.host, h.staging, h.scratch, hn.1⟩
  · exact h

/-! ### Every instruction and step -/

/-- The invariant over every instruction word and every step of the device and the host. -/
theorem exec {i} (h : Inv s) : Kept (Machine.exec i s) := by
  cases i with
  | nop => exact h.run fun _ _ h => h.done
  | exit => exact h.run fun _ _ h => h.endWave
  | trap | brk => exact h.run fun _ _ h => h.askedTrap
  | preoff => exact h.run fun _ _ h => ite h.fault (ite h.modWave h.done)
  | preon | pmask => exact h.run fun _ _ h => h.modWave
  | getc => exact h.execGetc
  | setc => exact h.execSetc
  | fence => exact h.run fun _ _ h => h.afterAccesses fun _ h => h.fenceAt.done
  | acq => exact h.run fun _ _ h => h.finishAcquire
  | rel => exact h.run fun _ _ h => h.afterAccesses fun _ h => ite h.holdFor h.release.done
  | drain => exact h.run fun _ _ h => ite h.done h.holdFor
  | rdvi => exact h.execRdvi
  | rdva => exact h.execRdva
  | rdvw => exact h.execRdvw
  | smap => exact h.run fun _ _ h => ite h.illegal (ite h.wait h.modWave)
  | sunmap => exact h.run fun _ _ h => ite h.done (ite h.wait h.modWave)
  | mqcfg => exact h.execMqcfg
  | tend => exact h.execTend
  | ptake => exact h.execPtake
  | ppass => exact h.execPpass
  | ppassFree => exact h.run fun _ _ h => ite h.pennantFault h.pass
  | ret | jmp => exact h.run fun _ _ h => h.jump
  | merge => exact h.execMerge
  | cwait => exact h.execCwait
  | sadd | ssub | smul | smulh | sand | sor | sxor | sandn | sshl | sshr | ssra | smin | smax | ssel | scmp | sdiv
  | sbfx | sbfi | sclz | spopc | smov | maskp | vote | saddImm | sandImm | sorImm | sxorImm | sshlImm | sshrImm
  | ssraImm | scmpImm | smovi | slih => exact h.run fun _ _ h => h.scalar
  | sxget => exact h.execSxget
  | sxset => exact h.execSxset
  | lds => exact h.run fun _ _ h => h.load
  | sts => exact h.run fun _ _ h => h.store
  | ldacq => exact h.execLdacq
  | strel => exact h.execStrel
  | atoms => exact h.execAtoms
  | bra => exact h.run fun _ _ h => h.branch
  | call => exact h.run fun _ _ h => h.transfer
  | bz | bany | ball | bnone => exact h.run fun _ _ h => ite h.branch h.next
  | bnz => exact h.run fun _ _ h => ite h.next h.branch
  | split => exact h.run fun _ _ h => ite h.splitInto h.transfer
  | switch => exact h.run fun _ _ h => ite h.splitInto h.unpop.transfer
  | spawnS => exact h.run fun _ _ h => h.afterAccesses fun _ h => h.spawn
  | spawnL => exact h.execSpawnL
  | fnew => exact h.run fun _ _ h => ite h.illegal (h.onCell fun _ _ h => h.newCell.done)
  | fjoin =>
    exact h.run fun _ _ h => h.onCell fun _ _ h => h.onLine fun _ _ h => h.releaseAt fun _ h => h.lineThere fun _ h => h.joinLine
  | fwait => exact h.run fun _ _ h => h.onCell fun _ _ h => h.readCell fun _ _ h => ite h.modWave.finishAcquire h.park
  | fput => exact h.run fun _ _ h => h.onCell fun _ _ h => h.releaseAt fun _ h => h.readCell fun _ _ h => h.deliver.done
  | copy => exact h.execCopy
  | copyM => exact h.execCopyM
  | mma =>
    exact h.run fun _ _ h => h.mmaFormats fun _ _ h => h.withClass fun _ h => h.ownPennant fun _ h => h.mmaShapes fun _ h => h.queueMat.done
  | mmaMc => exact h.execMmaMc
  | accz => exact h.run fun _ _ h => h.ownPennant fun _ h => h.queueMat.done
  | accld | accst => exact h.run fun _ _ h => h.accMove
  | cxopenIntersect | cxopenUnion => exact h.run fun _ _ h => h.openTwo
  | cxopenExpand => exact h.execCxopenExpand
  | cxnext => exact h.execCxnext
  | cxsplit => exact h.execCxsplit
  | cxsave => exact h.run fun _ _ h => h.cxOwn fun _ _ h => h.imagePlace fun _ _ h => h.emptyGranules.queueBr.done
  | cxload => exact h.run fun _ _ h => h.cxFree fun _ h => h.imagePlace fun _ _ h => h.queueBr.done
  | cxloadS => exact h.execCxloadS
  | cxclose => exact h.run fun _ _ h => h.cxFree fun _ h => h.queueBr.done
  | vadd | vsub | vmul | vmulhI | vand | vor | vxor | vandn | vshl | vshr | vsra | vminI | vmaxI | vsel | vmov | vbcast
  | vminN | vmaxN | vmulhN | vbfxI | vbfxN | vbfi | vclz | vpopc | vbrev | vlaneid | vmad | vaddImm | vandImm | vorImm
  | vxorImm | vshlImm | vshrImm | vsraImm | vmovImm => exact h.run fun _ _ h => h.vector
  | vcmpInt | vcmpImm | vcmpF32 => exact h.run fun _ _ h => h.compare
  | vfaddF32 | vfsubF32 | vfmulF32 | vfminF32 | vfmaxF32 | vfclassF32 | vfcvtF32 | vfaddF16x2 | vfsubF16x2 | vfmulF16x2
  | vfminF16x2 | vfmaxF16x2 | vfclassF16x2 | vfcvtF16x2 | vfaddBf16x2 | vfsubBf16x2 | vfmulBf16x2 | vfminBf16x2
  | vfmaxBf16x2 | vfclassBf16x2 | vfcvtBf16x2 | vfmaF32 | vfmaF16x2 | vfmaBf16x2 => exact h.run fun _ _ h => h.float
  | vfdiv | vfsqrt | vrcp | vrsq | vexp2 | vlog2 | vsin | vcos | vtanh => exact h.run fun _ _ h => h.sfu
  | pand | por | pxor | pnot => exact h.run fun _ _ h => h.predicate
  | shflIdx | shflUp | shflDown | shflXor | shflBcast => exact h.run fun _ _ h => h.shuffle
  | vred | vscan => exact h.run fun _ _ h => h.retire
  | ld => exact h.run fun _ _ h => ite h.done h.load
  | st => exact h.run fun _ _ h => ite h.done h.store
  | ldl => exact h.execLdl
  | ldlW | ldlWc => exact h.run fun _ _ h => h.waitingLoad
  | stl => exact h.run fun _ _ h => ite h.done (h.inAlloc fun _ _ h => h.localStore.done)
  | stlFill => exact h.execStlFill
  | atom => exact h.execAtom
  | atoml => exact h.execAtoml
  | pref => exact h.run fun _ _ h => (h.foldl fun _ _ h => h.prefetchLine).doneLines
  | eventWrite => exact h.execEventWrite
  | resultArrival => exact h.execResultArrival
  | missStatusRetry => exact h.execMissStatusRetry
  | futureDelivery => exact h.execFutureDelivery
  | errorDelivery => exact h.execErrorDelivery
  | messageArrival => exact h.execMessageArrival
  | taskDispatch => exact h.execTaskDispatch
  | steal => exact h.execSteal
  | stagingStart => exact h.execStagingStart
  | stagingComplete => exact h.execStagingComplete
  | tileWritebackComplete => exact h.execTileWritebackComplete
  | copyStart => exact h.execCopyStart
  | copyCompletion => exact h.execCopyCompletion
  | matrixOpStart => exact h.execMatrixOpStart
  | matrixOpEnd => exact h.execMatrixOpEnd
  | brambleOpStart => exact h.execBrambleOpStart
  | mmaMcWindowLapse => exact h.execMmaMcWindowLapse
  | teamPlacement => exact h.execTeamPlacement
  | rootClosurePush => exact h.execRootClosurePush
  | switchOut => exact h.execSwitchOut
  | switchIn => exact h.execSwitchIn
  | preoffWindowExpiry => exact h.modWave.kept
  | periodStart => exact h.execPeriodStart
  | budgetExhausted => exact h.execBudgetExhausted
  | jobEnd => exact h.execJobEnd
  | sweepVisit => exact h.execSweepVisit
  | sweepTest => exact h.execSweepTest
  | testResult => exact h.execTestResult
  | drainmaxExpiry => exact h.execDrainmaxExpiry
  | coreGated => exact (ite (ite (h.modCore.foldl fun _ _ h => h.putOrWait) h) h).kept
  | launch => exact h.execLaunch
  | createContract => exact h.execCreateContract
  | destroyContract => exact h.execDestroyContract
  | drainJob => exact h.execDrainJob
  | cmdUndefined => exact h.execCmdUndefined
  | graftRead | capRead | attest => exact (h.manage fun _ _ h => h.withResult).kept
  | regraft => exact h.execRegraft
  | capFence => exact h.execCapFence
  | capRetest => exact h.execCapRetest
  | sweepSet => exact (h.manage fun _ _ h => ((ite h h.pauseSweep).modStack).accept).kept
  | migrate => exact h.execMigrate
  | migrateEnd => exact h.execMigrateEnd
  | groupSet => exact (h.manage fun _ _ h => h.setGroup.accept).kept
  | powerSetClockStep => exact (h.powerSet fun _ _ h => h.clockStep.accept).kept
  | powerSetGate => exact (h.powerSet fun _ _ h => h.gateSet.consume).kept
  | powerSetHbmRefresh => exact (h.powerSet fun _ _ h => h.refreshSet.accept).kept
  | alarmSet => exact (h.manage fun _ _ h => h.modStack.accept).kept
  | viSet => exact (h.command fun _ _ h => ite h.refuse (ite h.refuse h.modIface.accept)).kept
  | retransmit => exact h.execRetransmit
  | illegalInstruction w => exact h.execIllegalInstruction w
  | brambleOpEnd => exact h.execBrambleOpEnd
  | sqdbWrite | sqblWrite | eqblWrite | vipasWrite => exact h.writeReg
  | registerWrite => exact h.execRegisterWrite
  | moduleReset => exact (ite h.moduleReset h).kept
  | stackReset => exact h.execStackReset
  | clusterReset => exact h.execClusterReset
  | mevtClear => exact (ite h.update h).kept
  | inventory | i3cAttest | status => exact h.portCommand fun _ h => h.respond
  | sensors => exact h.execSensors
  | i3cPower => exact h.execI3cPower
  | i3cReset => exact h.portCommand fun _ h => h.moduleReset.respond
  | fwWrite => exact h.execFwWrite
  | fwCommit => exact h.execFwCommit
  | i3cUnknownCommand => exact h.portCommand fun _ h => ite h h.respond
  | translationCompletion => exact h.execTranslationCompletion
  | pageResponse => exact h.execPageResponse
  | invalidateRequest => exact h.execInvalidateRequest
  | peerRequest => exact h.execPeerRequest
  | linkAck => exact h.execLinkAck
  | currentAlarmHigh => exact (ite h h.modStack.mgmtEvent).kept
  | currentAlarmLow => exact (ite h h.modStack).kept
  | lineEviction => exact h.execLineEviction
  | numvfsWrite => exact h.execNumvfsWrite
  | dynamicAddressAssignment => exact h.update.kept

/-! ### Issue and the cycle -/

theorem countTurn {core x} (hx : Kept x.2.2) : Kept (State.countTurn core x) := by
  unfold State.countTurn
  split
  next e => exact (ite (hx _ e) (hx _ e).modCore).kept
  · exact hx

theorem reap {r} (h : Inv s) : Inv (s.reap r) := by
  unfold State.reap
  split
  · exact ite h.modWave.settle h
  · exact h

theorem runWord {r i} (h : Inv s) : Kept (s.runWord r i) := by
  unfold State.runWord
  split
  next e => exact (h.update.exec _ e).update.kept
  · exact h.update.exec

theorem issueCaptured {r q} (h : Inv s) : Kept (s.issueCaptured r q) := by
  unfold State.issueCaptured
  extract_lets reaped s1
  have hr (o) (ho : Kept o) : Kept (reaped o) := by
    unfold reaped
    split
    · exact (ho _ rfl).reap.kept
    · exact ho
  have h1 : Inv s1 := h.modArm
  split
  next e =>
    have ht := h1.runWord _ e
    split
    · exact ht.reap.kept
    · split
      · exact (hr _ h1.modArm.runWord).ite ht.kept
      · exact ht.kept
  · exact h1.runWord

theorem holdPage {r pasid va} (h : Inv s) : Inv (s.holdPage r pasid va) :=
  h.askX.modArm

theorem touchLine {core pasid va} (h : Inv s) : Inv (s.touchLine core pasid va) := by
  unfold State.touchLine
  split
  · exact (ite h h.l2Touch).modCore
  · exact h

theorem touchCode {core j pc} (h : Inv s) : Inv (s.touchCode core j pc) :=
  ite h.touchLine h.touchLine.touchLine

theorem touchPair {core j a} (h : Inv s) : Inv (s.touchPair core j a) :=
  ite h.touchCode.touchCode h.touchCode

theorem touchFetched {core j a} (h : Inv s) : Inv (s.touchFetched core j a) :=
  ite h.touchPair h.touchCode

theorem noteIssue {r} (h : Inv s) : Inv (s.noteIssue r) :=
  h.modArm

theorem takePipe {core part i} (h : Inv s) : Inv (s.takePipe core part i) :=
  ite h h.modCore

theorem issued {r is o} (ho : Kept o) : Kept (s.issued r is o) := by
  unfold State.issued
  split
  · have h := ho _ rfl
    exact (ite h (h.foldl fun _ _ h => h.takePipe).noteIssue).kept
  · exact ho

theorem secondOf {r w x d j} (h : Inv s) (ht : Inv t) : Kept (s.secondOf t r w x d j) := by
  unfold State.secondOf
  extract_lets _ both t1 y
  have hb (w y u) (hu : Inv u) : Inv (both w y u) := hu.modArm
  have h1 : Inv t1 := ht.modArm
  split
  · exact (hb _ _ _ h1).kept
  · split
    next e =>
      have hu := h1.runWord _ e
      split
      · exact hu.kept
      · split
        · exact hu.modArm.kept
        · exact h.hold.kept
        · exact (hb _ _ _ hu).kept
    · exact h1.runWord

theorem issuePair {r i j} (h : Inv s) : Kept (s.issuePair r i j) := by
  unfold State.issuePair
  extract_lets
  split
  · split
    · exact h.emptyTrap.kept
    · exact h.hold.kept
    · exact h.emptyTrap.kept
    · exact h.hold.kept
    · split
      next e =>
        have ht := h.runWord _ e
        split
        · exact ht.kept
        · split
          · exact ht.kept
          · split
            · split
              next e => exact (ite h.hold (ht.runWord _ e)).kept
              · exact ht.runWord
            · exact h.secondOf ht
      · exact h.runWord
  · exact h.kept

theorem issueFetched {r j a f} (h : Inv s) : Kept (s.issueFetched r j a f) := by
  unfold State.issueFetched
  extract_lets halt
  have hh (t pc word cause addr) (ht : Inv t) : Kept (halt t pc word cause addr) := ht.haltWave.kept
  split
  · exact h.holdPage.kept
  · exact hh _ _ _ _ _ h.touchCode
  · exact hh _ _ _ _ _ (ite h.touchCode h.touchPair)
  · exact hh _ _ _ _ _ h.touchFetched
  · exact h.hold.kept.ite h.touchFetched.modArm.runWord
  · exact (issued h.touchCode.runWord).ite h.hold.kept
  · exact (issued h.touchPair.issuePair).ite h.hold.kept

theorem issueArm {r} (h : Inv s) : Kept (s.issueArm r) := by
  unfold State.issueArm
  split
  · exact h.kept
  · split
    · exact h.kept
    · extract_lets
      split
      · exact h.kept
      · split
        · exact h.issueCaptured
        · split
          · exact h.haltWave.kept
          · exact h.issueFetched

theorem tryArms {l x} (h : Inv s) (e : s.tryArms l = some x) : Kept x.2.2 := by
  induction l with
  | nil => cases e
  | cons a l ih =>
    unfold State.tryArms at e
    split at e
    next e' =>
      split at e
      · exact ih e
      · cases e; exact (h.issueArm _ e').kept
    · cases e; exact h.issueArm

theorem mergeFirst {core part x} (h : Inv s) (hx : Kept x.2.2) : Kept (s.mergeFirst core part x).2.2 := by
  unfold State.mergeFirst
  extract_lets mates
  split
  · split
    · split
      · cases e : s.tryArms (mates.filter (fun e => e.1.arm == 0)) with
        | none => exact hx
        | some y => exact h.tryArms e
      · exact hx
    · exact hx
  · exact hx

theorem choice {core part o} (h : Inv s) (e : s.choice core part = some o) : Kept o := by
  unfold State.choice at e
  split at e
  · cases e
  · obtain ⟨x, hx, rfl⟩ := Option.map_eq_some_iff.1 e
    exact countTurn (h.mergeFirst (h.tryArms hx))

theorem issue {core part} (h : Inv s) : Kept (s.issue core part) := by
  unfold State.issue
  cases e : s.choice core part with
  | none => exact h.kept
  | some o => exact h.choice e

theorem returnRdvw {e} (h : Inv s) : Inv (s.returnRdvw e) := by
  unfold State.returnRdvw
  split
  · exact ite h.modArm.finishAcquire h.modArm.abandonArm
  · exact h

theorem endCycle {stack} (h : Inv s) : Inv (s.endCycle stack) := by
  unfold State.endCycle
  extract_lets s1
  have h1 : Inv s1 := h.foldl fun _ _ h => h.returnRdvw
  exact ite h1.update h1

theorem stPass {stack n} (h : Inv s) : Inv (s.pass stack n) :=
  h.update.update.modStack.endCycle

theorem dispatches {core n} (h : Inv s) : Inv (State.dispatches core n s) := by
  induction n generalizing s with
  | zero => exact h
  | succ n ih =>
    unfold State.dispatches
    split
    next e => exact ite (ih (h.exec _ e)) h
    · exact h

theorem choices {core part n} (h : Inv s) : Inv (State.choices core part n s) := by
  induction n generalizing s with
  | zero => exact h
  | succ n ih =>
    unfold State.choices
    split
    next e => exact ih (h.choice e _ rfl)
    · exact h

theorem fillCycle {stack} (h : Inv s) : Inv (s.fillCycle stack) :=
  (h.foldl fun _ _ h => h.dispatches).foldl fun _ _ h => h.choices

theorem cycles {stack n} (h : Inv s) : Inv (State.cycles stack n s) := by
  induction n generalizing s with
  | zero => exact h
  | succ n ih => exact ite h.stPass (ih h.fillCycle.stPass)

theorem kblock {core} (h : Inv s) : Inv (s.kblock core) := by
  unfold State.kblock
  split
  · exact ite h.blockDone.modCore h
  · exact h

theorem eccError {p} (h : Inv s) : Inv (s.eccError p) := by
  unfold State.eccError
  split
  · exact h.setPoison.mgmtEvent
  · exact h.setPoison
  · exact h.modCore
  · exact h.modCluster
  · split
    · split
      · exact h.modAlloc
      · exact h
    · exact h
  · exact h.modCore
  · exact h.modRing

theorem perform {m} (h : Inv s) : Kept (s.perform m) := by
  unfold State.perform
  split
  · exact h.update.exec
  · exact h.issue
  · exact h.cycles.kept
  · exact h.kblock.kept
  · exact h.copyRun.kept
  · exact h.tileRun.kept
  · exact h.eccError.kept
  · exact (ite h h.update.sendQueued).kept
  · exact (ite h h.update).kept

theorem defaultMove (h : Inv s) : Kept s.defaultMove := by
  unfold State.defaultMove
  split
  · exact h.update.exec
  · split
    next e =>
      obtain ⟨_, _, e⟩ := List.exists_of_findSome?_eq_some e
      exact h.choice e
    · exact (h.foldl fun _ _ h => h.stPass).kept

/-- The invariant over a step of the whole machine. -/
theorem step (h : Inv s) : Kept (Machine.step s) := by
  unfold Machine.step
  split
  · exact h.update.perform
  · exact h.defaultMove

end Sys2Proof.Claims.Inv

namespace Sys2Proof

/-- Settles O6, from the invariant of every operation that a step of the machine calls. -/
theorem stepInvariant : Obligations.StepInvariant := by
  unfold Obligations.StepInvariant
  exact fun s t h e => h.step t e

/-- Settles O5: every store is empty at reset, and there is no virtual function. -/
theorem resetInvariant : Obligations.ResetInvariant := by
  unfold Obligations.ResetInvariant
  exact {
    mem := rfl
    host := rfl
    staging := rfl
    scratch := fun _ he => absurd he List.not_mem_nil
    vfs := Nat.zero_le _ }

end Sys2Proof
end

section
/-! ## The laws of memory and of the bytes of a value -/
set_option Elab.async false

open Sys2Proof Sys2Proof.Machine

namespace Sys2Proof.Claims

/-- Memories in the canonical form that read the same are equal data. -/
theorem memory_ext {m n : Memory} (hm : Memory.wf m = true) (hn : Memory.wf n = true)
    (h : ∀ a, Memory.read m a = Memory.read n a) : m = n :=
  NMap.ext_get? m n ((Memory.wf_iff m).1 hm).1 ((Memory.wf_iff n).1 hn).1 fun a => by
    rw [Memory.get?_of_read m hm, Memory.get?_of_read n hn, h]

theorem natBytes_length (n x : Nat) : (natBytes n x).length = n := by
  induction n generalizing x with
  | zero => rfl
  | succ n ih => rw [natBytes, List.length_cons, ih]

/-- The bytes of a value give the value back, as far as they reach. -/
theorem bytesNat_natBytes (n x : Nat) : bytesNat (natBytes n x) = x % 256 ^ n := by
  induction n generalizing x with
  | zero => rw [Nat.pow_zero, Nat.mod_one]; rfl
  | succ n ih => rw [natBytes, bytesNat, ih, BitVec.toNat_ofNat, pow_succ' 256 n, Nat.mod_mul]

/-- The byte at place `k` holds the bits of the value from `8 * k` on. -/
theorem natBytes_getD {n k : Nat} (x : Nat) (h : k < n) :
    (natBytes n x).getD k 0#8 = BitVec.ofNat 8 (x / 256 ^ k) := by
  induction n generalizing x k with
  | zero => exact absurd h (Nat.not_lt_zero k)
  | succ n ih =>
    cases k with
    | zero => rw [natBytes, List.getD_cons_zero, Nat.pow_zero, Nat.div_one]
    | succ k =>
      rw [natBytes, List.getD_cons_succ, ih _ (Nat.lt_of_succ_lt_succ h), Nat.div_div_eq_div_mul, Nat.pow_succ']

end Sys2Proof.Claims

namespace Sys2Proof

/-- Settles O7, from the laws of `Memory` and inductions on the number of bytes. -/
theorem memoryLaws : Obligations.MemoryLaws := by
  unfold Obligations.MemoryLaws
  refine ⟨fun m a bs => ⟨?_, fun b hb => ?_, ?_⟩, fun m n => Claims.memory_ext, fun n x => ⟨?_, ?_, fun k hk => ?_⟩⟩
  · exact Memory.readBytes_writeBytes m a bs
  · exact Memory.read_writeBytes_out m a b bs hb
  · exact Memory.wf_writeBytes m a bs
  · exact Claims.natBytes_length n x
  · exact Claims.bytesNat_natBytes n x
  · exact Claims.natBytes_getD x hk

end Sys2Proof
end

section
/-! ## Every instruction and step answers

A word answers as soon as its arm is live (`State.run_next`), and a step of the device or the host is total, but for the two stops of
assumption 10, which a hypothesis rules out. -/
set_option Elab.async false

open Sys2Proof Sys2Proof.Machine

namespace Sys2Proof.Claims

/-- Whether an arm is live does not depend on the word that it issues. -/
theorem ctx_of_nop {s : State} {c : Ctx} (h : s.ctx? .nop = some c) (i : Instr) :
    s.ctx? i = some { c with lanes := c.arm.exm &&& c.wave.preg (guardOf i), ins := i } := by
  unfold State.ctx? at h ⊢
  split at h
  · cases h
  · split at h
    · cases h
    · obtain ⟨a, ha, rfl⟩ := Option.map_eq_some_iff.1 h
      rw [ha]
      rfl

theorem ite_answers {p : Prop} {_ : Decidable p} {o q : Host.Outcome State Fault Refusal} (ho : ∃ t, o = .next t)
    (hq : ∃ t, q = .next t) : ∃ t, (if p then o else q) = .next t := by
  split
  · exact ho
  · exact hq

theorem run_answers {s : State} (h : ∃ c, s.ctx? .nop = some c) (i : Instr) (k : Ctx → State → State) :
    ∃ t, s.run i k = .next t :=
  let ⟨_, hc⟩ := h
  State.run_next (ctx_of_nop hc i) k

theorem illegalInstruction_answers {s : State} {w : Word} (h : ∃ c, s.ctx? .nop = some c) :
    ∃ t, execIllegalInstruction w s = .next t := by
  obtain ⟨c, hc⟩ := h
  unfold execIllegalInstruction
  rw [hc]
  exact ⟨_, rfl⟩

theorem registerWrite_answers {vi offset : Nat} {v : Word} {s : State} :
    ∃ t, execRegisterWrite vi offset v s = .next t := by
  unfold execRegisterWrite
  exact ite_answers ⟨_, rfl⟩ ⟨_, rfl⟩

theorem invalidateRequest_answers {pasid va size : Nat} {s : State} :
    ∃ t, execInvalidateRequest pasid va size s = .next t := by
  unfold execInvalidateRequest
  exact ite_answers ⟨_, rfl⟩ ⟨_, rfl⟩

/-- A completion answers unless it grants bytes past the end of device memory. -/
theorem translationCompletion_answers {pasid page : Nat} {write : Bool} {answer : XAnswer} {s : State}
    (h : ∀ base size a r w, answer = .grant base size (.dpa a) r w → a + size ≤ 2 ^ 40) :
    ∃ t, execTranslationCompletion pasid page write answer s = .next t := by
  unfold execTranslationCompletion
  split
  · exact ⟨_, rfl⟩
  · split
    · exact ⟨_, rfl⟩
    · exact ⟨_, rfl⟩
    next base size target r w =>
      have hfits : beyondDevice target size = false := by
        cases target with
        | dpa a => exact decide_eq_false (Nat.not_lt.2 (h base size a r w rfl))
        | _ => rfl
      rw [hfits, if_neg Bool.false_ne_true]
      exact ite_answers ⟨_, rfl⟩ (ite_answers ⟨_, rfl⟩ ⟨_, rfl⟩)

/-- A peer's request answers unless its bytes reach past the end of device memory. -/
theorem peerRequest_answers {src tag : Nat} {op : PeerOp} {s : State} (h : peerAddr op + peerSize op ≤ 2 ^ 40) :
    ∃ t, execPeerRequest src tag op s = .next t := by
  unfold execPeerRequest
  rw [if_neg (Nat.not_lt.2 h)]
  exact ite_answers ⟨_, rfl⟩ (ite_answers ⟨_, rfl⟩ ⟨_, rfl⟩)

theorem exec_answers {i : Instr} {s : State}
    (h : (encodeFields i).isSome = true ∨ (∃ w, i = .illegalInstruction w) → ∃ c, s.ctx? .nop = some c)
    (hgrant : ∀ pasid page write base size a r w,
      i = .translationCompletion pasid page write (.grant base size (.dpa a) r w) → a + size ≤ 2 ^ 40)
    (hpeer : ∀ src tag op, i = .peerRequest src tag op → peerAddr op + peerSize op ≤ 2 ^ 40) : ∃ t, exec i s = .next t := by
  cases i with
  | nop | exit | trap | brk | preoff | preon | getc | setc | fence | acq | rel | drain | rdvi | rdva | rdvw
  | smap | sunmap | mqcfg | tend | ptake | ppass | ppassFree | ret | jmp | merge | cwait | sadd | ssub | smul
  | smulh | sand | sor | sxor | sandn | sshl | sshr | ssra | smin | smax | ssel | scmp | sdiv | sbfx | sbfi
  | sclz | spopc | smov | sxget | sxset | maskp | pmask | vote | saddImm | sandImm | sorImm | sxorImm | sshlImm
  | sshrImm | ssraImm | scmpImm | smovi | slih | lds | sts | ldacq | strel | atoms | bra | call | bz | bnz
  | bany | ball | bnone | split | switch | spawnS | spawnL | fnew | fjoin | fwait | fput | copy | copyM | mma
  | mmaMc | accz | accld | accst | cxopenIntersect | cxopenUnion | cxopenExpand | cxnext | cxsplit | cxsave
  | cxload | cxloadS | cxclose | vadd | vsub | vmul | vmulhI | vand | vor | vxor | vandn | vshl | vshr | vsra
  | vminI | vmaxI | vsel | vmov | vbcast | vminN | vmaxN | vmulhN | vbfxI | vbfxN | vbfi | vclz | vpopc | vbrev
  | vlaneid | vmad | vaddImm | vandImm | vorImm | vxorImm | vshlImm | vshrImm | vsraImm | vmovImm | vcmpInt
  | vcmpImm | vcmpF32 | vfaddF32 | vfsubF32 | vfmulF32 | vfminF32 | vfmaxF32 | vfdiv | vfsqrt | vrcp | vrsq
  | vexp2 | vlog2 | vsin | vcos | vtanh | vfclassF32 | vfcvtF32 | vfaddF16x2 | vfsubF16x2 | vfmulF16x2
  | vfminF16x2 | vfmaxF16x2 | vfclassF16x2 | vfcvtF16x2 | vfaddBf16x2 | vfsubBf16x2 | vfmulBf16x2 | vfminBf16x2
  | vfmaxBf16x2 | vfclassBf16x2 | vfcvtBf16x2 | vfmaF32 | vfmaF16x2 | vfmaBf16x2 | pand | por | pxor | pnot
  | shflIdx | shflUp | shflDown | shflXor | shflBcast | vred | vscan | ld | st | ldl | ldlW | ldlWc | stl
  | stlFill | atom | atoml | pref =>
    exact run_answers (h (.inl rfl)) _ _
  | eventWrite | resultArrival | missStatusRetry | futureDelivery | errorDelivery | messageArrival
  | taskDispatch | steal | stagingStart | stagingComplete | tileWritebackComplete | copyStart | copyCompletion
  | matrixOpStart | matrixOpEnd | brambleOpStart | mmaMcWindowLapse | teamPlacement | rootClosurePush
  | switchOut | switchIn | preoffWindowExpiry | periodStart | budgetExhausted | jobEnd | sweepVisit | sweepTest
  | testResult | drainmaxExpiry | coreGated | launch | createContract | destroyContract | drainJob
  | cmdUndefined | graftRead | regraft | capRead | capFence | capRetest | sweepSet | migrate | migrateEnd
  | groupSet | powerSetClockStep | powerSetGate | powerSetHbmRefresh | alarmSet | viSet | attest | retransmit
  | brambleOpEnd | sqdbWrite | sqblWrite | eqblWrite | vipasWrite | moduleReset | stackReset | clusterReset
  | mevtClear | inventory | sensors | i3cPower | i3cAttest | status | i3cReset | fwWrite | fwCommit
  | i3cUnknownCommand | pageResponse | linkAck | currentAlarmHigh | currentAlarmLow | lineEviction
  | numvfsWrite | dynamicAddressAssignment =>
    exact ⟨_, rfl⟩
  | illegalInstruction w => exact illegalInstruction_answers (w := w) (h (.inr ⟨w, rfl⟩))
  | registerWrite => exact registerWrite_answers
  | translationCompletion => exact translationCompletion_answers fun _ _ a _ _ e => hgrant _ _ _ _ _ a _ _ (congrArg _ e)
  | invalidateRequest => exact invalidateRequest_answers
  | peerRequest => exact peerRequest_answers (hpeer _ _ _ rfl)

end Sys2Proof.Claims

namespace Sys2Proof

/-- Settles O8, word by word and step by step. -/
theorem everyInstructionAnswers : Obligations.EveryInstructionAnswers := by
  unfold Obligations.EveryInstructionAnswers
  exact fun i s => Claims.exec_answers

end Sys2Proof
end

section
/-! ## A cache line that holds a byte twice

`Obligations.CachesTransparent` speaks of every state, also of one that no run of the machine reaches. Of a line that lists the
byte at one offset twice, a clean copy before a dirty one, `Claims.seen` finds the clean copy, which does not stand for its sector; a
store into the sector drops the clean bytes of the sector (`CLine.settled`), and the dirty copy comes to light. -/
set_option Elab.async false

open Sys2Proof Sys2Proof.Machine

namespace Sys2Proof.Claims

/-- A line that lists the byte at offset 0 twice, clean as 1 and dirty as 2. -/
def twiceLine : CLine := { pasid := 0, bytes := [(0, ⟨1#8, false⟩), (0, ⟨2#8, true⟩)] }

/-- The state at reset, but that core 0 holds line 0 in that form. -/
def twiceState : State := State.reset.modCore 0 (fun k => { k with l1 := [(0, twiceLine)] })

theorem twiceState_l1 : (twiceState.core 0).l1 = [(0, twiceLine)] := by decide +kernel

theorem twiceState_cc : (twiceState.cluster (clusterOf 0)).cc = [] := by decide +kernel

theorem twiceState_alone : Alone twiceState 0 0 where
  l1 la l e := by
    rw [twiceState_l1] at e
    by_cases h : 0 = la
    · simp only [NMap.get?, h, if_true, Option.some.injEq] at e
      rw [← e, twiceLine]
    · simp only [NMap.get?, h, if_false, reduceCtorEq] at e
  cc la l e := by
    rw [twiceState_cc] at e
    cases e
  empty _ := twiceState_cc

theorem twiceState_room : Room twiceState 0 [0] where
  l1 := .inl (by decide +kernel)
  cc := by
    have h : absent (twiceState.cluster (clusterOf 0)).cc [0] = [0] := by decide +kernel
    intro la _ hla
    rw [h] at hla ⊢
    rw [List.mem_singleton.1 hla]
    decide +kernel

/-- The core sees the 0 at home at address 0, beside its clean copy. -/
theorem seen_twiceState : seen twiceState 0 0 0 = 0#8 := by decide +kernel

/-- Once it has stored a byte at address 1, it sees the dirty copy. -/
theorem seen_storePlain_twiceState : seen (twiceState.storePlain 0 0 false [(1, 3#8)]) 0 0 0 = 2#8 := by decide +kernel

end Sys2Proof.Claims

namespace Sys2Proof

/-- Refutes O37: a store at address 1 changes the byte that the core sees at address 0, when its L1 line lists that byte twice. The
statement lacks the hypothesis `Claims.Tidy`, that the bytes of every line stand in order, each once. -/
theorem not_cachesTransparent : ¬ Obligations.CachesTransparent := by
  unfold Obligations.CachesTransparent
  intro ⟨h, _⟩
  obtain ⟨_, hstore⟩ := h Claims.twiceState 0 0 0 0 [(1, 3#8)] Claims.twiceState_alone
  obtain ⟨hseen, _⟩ := hstore Claims.twiceState_room
  have h0 : Claims.seen (Claims.twiceState.storePlain 0 0 false [(1, 3#8)]) 0 0 0 = Claims.seen Claims.twiceState 0 0 0 :=
    hseen false 0
  rw [Claims.seen_storePlain_twiceState, Claims.seen_twiceState] at h0
  exact absurd h0 (by decide)

end Sys2Proof
end

section
/-! ## What operations of the device leave alone

A function that blanks a part of the state says which part an operation may change: the operation leaves the rest alone when the
blanked states before and after it are equal. A fact that does not read the part is then the same before and after. -/
set_option Elab.async false

open Sys2Proof Sys2Proof.Machine

namespace Sys2Proof.Machine

/-- What each turn of a loop leaves alone, the loop leaves alone. -/
theorem foldl_keeps {α β : Type} {g : State → β} {f : State → α → State} (h : ∀ s a, g (f s a) = g s) (l : List α)
    (s : State) : g (l.foldl f s) = g s := by
  induction l generalizing s with
  | nil => rfl
  | cons a l ih => exact (ih _).trans (h s a)

/-! ### Reads at home: the lines of the L2 slices -/

/-- A state without the lines of its L2 slices (R171). -/
def State.offL2 (s : State) : State := { s with l2 := [], freeCtr := 0 }

theorem State.l2Line_offL2 (s : State) (p la : Nat) : (s.l2Line p la).1.offL2 = s.offL2 := by
  unfold State.l2Line
  split
  · split <;> rfl
  · extract_lets
    split <;> rfl

theorem State.l2Touch_offL2 (s : State) (p la : Nat) (secs : List Nat) (w : Bool) : (s.l2Touch p la secs w).offL2 = s.offL2 :=
  s.l2Line_offL2 p la

theorem State.l2Bytes_offL2 (s : State) (p : Nat) (w : Bool) (as : List Nat) : (s.l2Bytes p w as).offL2 = s.offL2 :=
  foldl_keeps (fun s _ => s.l2Touch_offL2 _ _ _ _) _ s

theorem State.touchHome_offL2 (s : State) (p : Nat) (t : Target) (n : Nat) : (s.touchHome p t n).offL2 = s.offL2 := by
  cases t with
  | dpa a => exact s.l2Bytes_offL2 _ _ _
  | host a => rfl
  | peer m a => rfl

theorem State.touchParts_offL2 (s : State) (p : Nat) (ps : List (Target × Nat)) : (s.touchParts p ps).offL2 = s.offL2 :=
  foldl_keeps (fun s _ => s.touchHome_offL2 _ _ _) ps s

theorem State.touchEntry_offL2 (s : State) (vi : Nat) : (s.touchEntry vi).offL2 = s.offL2 := by
  unfold State.touchEntry
  split
  · exact s.touchHome_offL2 _ _ _
  · rfl

/-! ### Banks that change hands -/

/-- A state without its clusters, device memory and L2 lines: what write-backs and bank changes may touch (R165, R167). -/
def State.offBanks (s : State) : State := { s with clusters := [], mem := [], poison := [], l2 := [], freeCtr := 0 }

theorem State.l2Touch_offBanks (s : State) (p la : Nat) (secs : List Nat) (w : Bool) : (s.l2Touch p la secs w).offBanks = s.offBanks :=
  congrArg (fun t => t.offBanks) (s.l2Touch_offL2 p la secs w)

theorem State.lineHome_offBanks (s : State) (la : Nat) (l : CLine) : (s.lineHome la l).offBanks = s.offBanks := by
  unfold State.lineHome
  extract_lets d t
  show t.offBanks = s.offBanks
  unfold t
  split
  · rfl
  · exact s.l2Touch_offBanks _ _ _ _

theorem State.evictCC_offBanks (s : State) (cl la : Nat) : (s.evictCC cl la).offBanks = s.offBanks := by
  unfold State.evictCC
  split
  · exact s.lineHome_offBanks _ _
  · rfl

theorem State.takeBanks_offBanks (s : State) (cl n cid : Nat) : (s.takeBanks cl n (.contract cid)).offBanks = s.offBanks := by
  unfold State.takeBanks
  split
  · rfl
  · exact foldl_keeps (g := State.offBanks) (fun s _ => s.evictCC_offBanks _ _) _ s

theorem State.rebank_offBanks (s : State) (cl : Nat) : (s.rebank cl).offBanks = s.offBanks :=
  foldl_keeps (g := State.offBanks) (fun s _ => s.takeBanks_offBanks _ _ _) _ _

/-! ### Waves, cores and teams -/

/-- A state without its cores, clusters and teams. -/
def State.offUnits (s : State) : State := { s with cores := [], clusters := [], teams := [] }

theorem State.modWave_offUnits (s : State) (c k : Nat) (f : Wave → Wave) : (s.modWave c k f).offUnits = s.offUnits := by
  unfold State.modWave
  split <;> rfl

theorem State.modArm_offUnits (s : State) (r : ArmRef) (f : Arm → Arm) : (s.modArm r f).offUnits = s.offUnits :=
  s.modWave_offUnits _ _ _

theorem State.modTeam_offUnits (s : State) (t : Nat) (f : Team → Team) : (s.modTeam t f).offUnits = s.offUnits := by
  unfold State.modTeam
  split <;> rfl

theorem State.acquire_offUnits (s : State) (c scope : Nat) : (s.acquire c scope).offUnits = s.offUnits := by
  unfold State.acquire
  split
  · rfl
  · extract_lets
    split <;> rfl

theorem State.finishAcquire_offUnits (s : State) (r : ArmRef) (scope : Nat) : (s.finishAcquire r scope).offUnits = s.offUnits := by
  unfold State.finishAcquire State.acquireAfter
  split
  · rfl
  · split
    · exact s.modArm_offUnits _ _
    · exact (State.modArm_offUnits _ _ _).trans (s.acquire_offUnits _ _)

theorem State.abandonArm_offUnits (s : State) (r : ArmRef) (pt : Nat) : (s.abandonArm r pt).offUnits = s.offUnits :=
  (State.finishAcquire_offUnits _ _ _).trans (s.modWave_offUnits _ _ _)

theorem State.returnRdvw_offUnits (s : State) (e : ArmRef × Wave × Arm) : (s.returnRdvw e).offUnits = s.offUnits := by
  unfold State.returnRdvw
  split
  · extract_lets t
    have ht : t.offUnits = s.offUnits := s.modArm_offUnits _ _
    split
    · exact (t.finishAcquire_offUnits _ _).trans ht
    · exact (t.abandonArm_offUnits _ _).trans ht
  · rfl

theorem State.endCycle_offUnits (s : State) (k : Nat) : (s.endCycle k).offUnits = s.offUnits := by
  unfold State.endCycle
  extract_lets t
  have ht : t.offUnits = s.offUnits := foldl_keeps (fun s e => s.returnRdvw_offUnits e) _ s
  split
  · exact ht
  · exact ht

theorem State.suspendTest_offUnits (s : State) (core : Nat) : (s.suspendTest core).offUnits = s.offUnits := by
  unfold State.suspendTest
  split <;> rfl

theorem State.requestSwitches_offUnits (s : State) : s.requestSwitches.offUnits = s.offUnits :=
  foldl_keeps (fun _ _ => foldl_keeps (fun s _ => s.modTeam_offUnits _ _) _ _) _ s

end Sys2Proof.Machine
end

section
/-! ## Submission entries whose pages are at hand

How a command goes on that `Claims.Command` describes: nothing of it waits, and its record is written at once. -/
set_option Elab.async false

open Sys2Proof Sys2Proof.Machine

namespace Sys2Proof.Machine

/-- A command acts on its entry once the entry has been read. -/
theorem State.command_of {s : State} {vi n : Nat} {e : Submission} {x : Target} (h : Claims.Command s vi n e x) {mine : Nat → Bool}
    (hm : mine n = true) (act : Submission → State → State) : s.command vi mine act = act e (s.touchEntry vi) := by
  have hplace : (s.touchEntry vi).ioPlace e.pasid e.rva true = .at x :=
    (congrArg (fun t => t.ioPlace e.pasid e.rva true) (s.touchEntry_offL2 vi)).trans h.place
  have hpf : ¬ (16 ≤ e.cmd ∧ vi ≠ 0) := fun ⟨h16, hvi⟩ => hvi (h.pf (h.cmd ▸ h16))
  unfold State.command
  simp only [h.entry, h.cmd, hm, hplace]
  rw [← h.cmd, if_neg hpf, if_neg (Nat.not_le.2 h.pasid)]
  rfl

/-- A command goes on with the bytes that its entry names, once they have been read. -/
theorem State.withBytes_of {s : State} {e : Submission} {n : Nat} {ps : List (Target × Nat)} {bs : List Byte}
    (hs : s.span e.pasid e.ptr n false = .ok ps) (hr : s.readParts ps = (bs, false)) (act : List Byte → State → State) :
    s.withBytes e n act = act bs (s.touchParts e.pasid ps) := by
  unfold State.withBytes
  simp only [hs, hr]

/-- A command whose entry names bytes acts on them once the entry and the bytes have been read. -/
theorem State.command_withBytes_of {s : State} {vi cmd n : Nat} {e : Submission} {x : Target} {ps : List (Target × Nat)}
    {bs : List Byte} (h : Claims.Command s vi cmd e x) (hs : s.span e.pasid e.ptr n false = .ok ps)
    (hr : s.readParts ps = (bs, false)) {mine : Nat → Bool} (hm : mine cmd = true)
    (act : Submission → List Byte → State → State) :
    s.command vi mine (fun e s => s.withBytes e n (act e)) = act e bs ((s.touchEntry vi).touchParts e.pasid ps) := by
  have hspan : (s.touchEntry vi).span e.pasid e.ptr n false = .ok ps :=
    (congrArg (fun t => t.span e.pasid e.ptr n false) (s.touchEntry_offL2 vi)).trans hs
  have hread : (s.touchEntry vi).readParts ps = (bs, false) :=
    (congrArg (fun t => t.readParts ps) (s.touchEntry_offL2 vi)).trans hr
  rw [State.command_of h hm, State.withBytes_of hspan hread]

/-- A record whose page is at hand stands there, and the entry is consumed. -/
theorem State.answer_of {s : State} {e : Submission} {x : Target} (h : s.ioPlace e.pasid e.rva true = .at x) (r : RecordFields) :
    s.answer e r = Claims.answered s e x r := by
  unfold State.answer State.putOrWait Submission.record
  simp only [h]
  rfl

theorem State.accept_of {s : State} {e : Submission} {x : Target} (h : s.ioPlace e.pasid e.rva true = .at x) :
    s.accept e = Claims.answered s e x (Claims.plain e) :=
  State.answer_of h _

theorem State.refuse_of {s : State} {e : Submission} {x : Target} (h : s.ioPlace e.pasid e.rva true = .at x) (err : Nat) :
    s.refuse e err = Claims.answered s e x (Claims.refused e err) :=
  State.answer_of h _

end Sys2Proof.Machine
end

section
/-! ## Contracts and time

The count of a stack and the budgets of contracts, the start of a period, and the commands that create and destroy a contract
(R25, R267 to R270). -/
set_option Elab.async false

open Sys2Proof Sys2Proof.Machine

namespace Sys2Proof.Machine

/-! ### Maps and free numbers -/

theorem NMap.get?_map {α β : Type} (f : α → β) (m : NMap α) (k : Nat) :
    NMap.get? (m.map (fun e => (e.1, f e.2))) k = (NMap.get? m k).map f := by
  induction m with
  | nil => rfl
  | cons e m ih =>
    simp only [List.map_cons, NMap.get?]
    split
    · rfl
    · exact ih

theorem NMap.get?_eq_none_of_notMem {α : Type} {m : NMap α} {k : Nat} (h : k ∉ m.map (fun e => e.1)) : NMap.get? m k = none := by
  cases hk : NMap.get? m k with
  | none => rfl
  | some a => exact absurd (List.mem_map.2 ⟨_, Claims.Inv.mem_of_get? hk, rfl⟩) h

theorem le_firstFree (used : List Nat) (fuel n : Nat) : n ≤ firstFree used fuel n := by
  induction fuel generalizing n with
  | zero => exact Nat.le_refl n
  | succ fuel ih =>
    unfold firstFree
    split
    · exact Nat.le_of_succ_le (ih (n + 1))
    · exact Nat.le_refl n

/-- The search ends on a number in use only when it met nothing but numbers in use. -/
theorem mem_of_firstFree_mem {used : List Nat} {fuel n : Nat} (h : firstFree used fuel n ∈ used) :
    ∀ k, k ∈ List.range' n (fuel + 1) → k ∈ used := by
  induction fuel generalizing n with
  | zero => simpa [firstFree] using h
  | succ fuel ih =>
    unfold firstFree at h
    rw [List.range'_succ, List.forall_mem_cons]
    split at h
    next hn => exact ⟨List.contains_iff_mem.1 hn, ih h⟩
    next hn => exact absurd (List.contains_iff_mem.2 h) hn

/-- With as many tries as there are numbers in use, the search finds a free one. -/
theorem firstFree_notMem (used : List Nat) (n : Nat) : firstFree used used.length n ∉ used := by
  intro h
  have hlen : (List.range' n (used.length + 1)).length ≤ used.length :=
    (List.subperm_of_subset List.nodup_range' (mem_of_firstFree_mem h)).length_le
  rw [List.length_range'] at hlen
  omega

/-! ### Cycles -/

theorem State.stack_pass (s : State) (k n m : Nat) :
    (s.pass k n).stack m = if m = k then { s.stack k with ck := ((s.stack k).ck + n) % 2 ^ 64 } else s.stack m := by
  have hp : (s.pass k n).stack m = (s.modStack k (fun x => { x with ck := (x.ck + n) % 2 ^ 64 })).stack m :=
    congrArg (fun t => t.stack m) (State.endCycle_offUnits _ k)
  rw [hp, State.stack_modStack]

theorem State.mem_pass (s : State) (k n : Nat) : (s.pass k n).mem = s.mem :=
  congrArg (fun t => t.mem) (State.endCycle_offUnits _ k)

/-- What `n` cycles of stack `k` leave of a contract's budget (R267). -/
def State.spend (s : State) (k n : Nat) (c : Contract) : Contract :=
  if c.stack = k then { c with left := c.left - n * s.contractCores c } else c

theorem State.contracts_pass (s : State) (k n : Nat) :
    (s.pass k n).contracts = s.contracts.map (fun e => (e.1, s.spend k n e.2)) := by
  have hp : (s.pass k n).contracts = s.contracts.map (fun e =>
      if e.2.stack = k then (e.1, { e.2 with left := e.2.left - n * s.contractCores e.2 }) else e) :=
    congrArg (fun t => t.contracts) (State.endCycle_offUnits _ k)
  rw [hp]
  refine List.map_congr_left fun e _ => ?_
  unfold State.spend
  split <;> rfl

/-! ### Rank -/

/-- Work of a contract ranks first while its budget lasts, and then by its class (R261, R270). -/
theorem State.rank_of_contract {s : State} {j : Job} {c : Contract} (h : NMap.get? s.contracts j.cid = some c) :
    s.rank j = if j.cid ≠ 0 ∧ 0 < c.left then 4 else j.prio := by
  unfold State.rank
  simp only [h, Option.any_some, decide_eq_true_eq]

/-! ### Periods -/

/-- The state with a contract's next period begun: the whole budget is there (R267). -/
def State.newPeriod (s : State) (cid : Nat) (c : Contract) : State :=
  { s with contracts := NMap.put s.contracts cid { c with left := c.budget, n := c.n + 1 } }

/-- Neither the tests that a period suspends nor the switches that it requests touch contracts or memory (R270). -/
theorem State.suspendTests_requestSwitches_offUnits (l : List Nat) (s : State) :
    (l.foldl State.suspendTest s).requestSwitches.offUnits = s.offUnits :=
  (State.requestSwitches_offUnits _).trans (foldl_keeps State.suspendTest_offUnits l s)

theorem periodStart_begins {s : State} {cid : Nat} {c : Contract} (h : NMap.get? s.contracts cid = some c)
    (hck : c.periodEnd ≤ (s.stack c.stack).ck) (he : c.ending = false) : ∃ t, exec (.periodStart cid) s = .next t ∧
      NMap.get? t.contracts cid = some { c with left := c.budget, n := c.n + 1 } ∧ t.mem = s.mem := by
  let t := (c.coreList.foldl State.suspendTest (s.newPeriod cid c)).requestSwitches
  have ht : t.offUnits = (s.newPeriod cid c).offUnits := State.suspendTests_requestSwitches_offUnits _ _
  have hcon : t.contracts = (s.newPeriod cid c).contracts := congrArg (fun t => t.contracts) ht
  refine ⟨t, ?_, ?_, congrArg (fun t => t.mem) ht⟩
  · show execPeriodStart cid s = _
    unfold execPeriodStart
    simp only [h]
    rw [if_neg (Nat.not_lt.2 hck), if_neg (he ▸ Bool.false_ne_true)]
    rfl
  · rw [hcon, State.newPeriod, NMap.get?_put, if_pos rfl]

theorem State.contracts_endContract (s : State) (cid : Nat) : (s.endContract cid).contracts = NMap.del s.contracts cid :=
  congrArg (fun t => t.contracts) (foldl_keeps (g := State.offBanks) (fun s _ => s.rebank_offBanks _) _ _)

theorem periodStart_ends {s : State} {cid : Nat} {c : Contract} (h : NMap.get? s.contracts cid = some c)
    (hck : c.periodEnd ≤ (s.stack c.stack).ck) (he : c.ending = true) :
    exec (.periodStart cid) s = .next (s.endContract cid) := by
  show execPeriodStart cid s = _
  unfold execPeriodStart
  simp only [h, he, if_neg (Nat.not_lt.2 hck), if_true]

theorem budgetExhausted_requests {s : State} {cid : Nat} {c : Contract} (h : NMap.get? s.contracts cid = some c)
    (hl : c.left = 0) (hn : 0 < c.n) : exec (.budgetExhausted cid) s = .next s.requestSwitches := by
  show execBudgetExhausted cid s = _
  unfold execBudgetExhausted
  simp only [h, if_pos (And.intro hl hn)]

/-! ### CREATE CONTRACT -/

theorem State.takeIn_offBanks (s : State) (c : Contract) :
    (s.takeIn c).2.2.offBanks =
      { s with contracts := NMap.put s.contracts (s.takeIn c).1 { c with cid := (s.takeIn c).1, c0 := (s.takeIn c).2.1 } }.offBanks :=
  foldl_keeps (g := State.offBanks) (fun s _ => s.rebank_offBanks _) _ _

theorem State.takeIn_fresh (s : State) (c : Contract) : 1 ≤ (s.takeIn c).1 ∧ NMap.get? s.contracts (s.takeIn c).1 = none :=
  ⟨le_firstFree _ _ 1, NMap.get?_eq_none_of_notMem (firstFree_notMem _ 1)⟩

/-- The first period begins at the multiple of 1,024 at or after the stack's count (R267). -/
theorem State.takeIn_start (s : State) (c : Contract) :
    (s.takeIn c).2.1 % 1024 = 0 ∧ (s.stack c.stack).ck ≤ (s.takeIn c).2.1 ∧ (s.takeIn c).2.1 < (s.stack c.stack).ck + 1024 := by
  have h : (s.takeIn c).2.1 = 1024 * (((s.stack c.stack).ck + 1023) / 1024) := rfl
  omega

theorem State.takeIn_contracts (s : State) (c : Contract) : (s.takeIn c).2.2.contracts =
    NMap.put s.contracts (s.takeIn c).1 { c with cid := (s.takeIn c).1, c0 := (s.takeIn c).2.1 } :=
  congrArg (fun t => t.contracts) (s.takeIn_offBanks c)

theorem State.takeIn_cores (s : State) (c : Contract) : (s.takeIn c).2.2.cores = s.cores :=
  congrArg (fun t => t.cores) (s.takeIn_offBanks c)

/-- R269 makes the test of the budget second. -/
theorem State.contractErr_budget {s : State} {c : Contract} (vi : Nat) (bs : List Byte) (hload : s.loadFits c = true)
    (hb : c.budget ≤ 2700 + c.tol) : s.contractErr vi bs c = 9 := by
  unfold State.contractErr
  rw [hload, if_neg (by decide), if_pos hb]

/-- A descriptor of a contract that has been read: the command admits its contract, or refuses it. -/
theorem createContract_of {s : State} {vi : Nat} {e : Submission} {x : Target} {ps : List (Target × Nat)} {bs : List Byte}
    (h : Claims.Command s vi 2 e x) (hs : s.span e.pasid e.ptr 64 false = .ok ps) (hr : s.readParts ps = (bs, false)) :
    let c := descContract vi bs
    let t := (s.touchEntry vi).touchParts e.pasid ps
    (s.contractErr vi bs c = 0 → exec (.createContract vi) s = .next (Claims.answered (t.takeIn c).2.2 e x
      { tag := e.tag, out := 1, cid := (t.takeIn c).1, at48 := (t.takeIn c).2.1 })) ∧
    (s.contractErr vi bs c ≠ 0 → exec (.createContract vi) s =
      .next (Claims.answered t e x (Claims.refused e (s.contractErr vi bs c)))) := by
  intro c t
  have ht : t.offL2 = s.offL2 := ((s.touchEntry vi).touchParts_offL2 e.pasid ps).trans (s.touchEntry_offL2 vi)
  have herr : t.contractErr vi bs c = s.contractErr vi bs c := congrArg (fun u => u.contractErr vi bs c) ht
  have hplace : t.ioPlace e.pasid e.rva true = .at x := (congrArg (fun u => u.ioPlace e.pasid e.rva true) ht).trans h.place
  have hin : (t.takeIn c).2.2.ioPlace e.pasid e.rva true = .at x :=
    (congrArg (fun u => u.ioPlace e.pasid e.rva true) (t.takeIn_offBanks c)).trans hplace
  rw [← State.refuse_of hplace, ← State.answer_of hin, ← herr]
  show (_ → execCreateContract vi s = _) ∧ (_ → execCreateContract vi s = _)
  unfold execCreateContract
  rw [State.command_withBytes_of h hs hr rfl]
  extract_lets
  split
  next h0 => exact ⟨fun _ => rfl, fun hne => absurd h0 hne⟩
  next hne => exact ⟨fun h0 => absurd h0 hne, fun _ => rfl⟩

theorem createContract_admits {s : State} {vi : Nat} {e : Submission} {x : Target} {ps : List (Target × Nat)} {bs : List Byte}
    (h : Claims.Command s vi 2 e x) (hs : s.span e.pasid e.ptr 64 false = .ok ps) (hr : s.readParts ps = (bs, false))
    {c : Contract} (hc : c = descContract vi bs) (h0 : s.contractErr vi bs c = 0) : ∃ u cid c0, exec (.createContract vi) s =
        .next (Claims.answered u e x { tag := e.tag, out := 1, cid := cid, at48 := c0 }) ∧
      c0 % 1024 = 0 ∧ (s.stack c.stack).ck ≤ c0 ∧ c0 < (s.stack c.stack).ck + 1024 ∧ 1 ≤ cid ∧ NMap.get? s.contracts cid = none ∧
      NMap.get? u.contracts cid = some { c with cid := cid, c0 := c0 } ∧ u.cores = s.cores := by
  subst hc
  have ht := ((s.touchEntry vi).touchParts_offL2 e.pasid ps).trans (s.touchEntry_offL2 vi)
  have hx := (createContract_of h hs hr).1 h0
  generalize (s.touchEntry vi).touchParts e.pasid ps = t at ht hx
  generalize descContract vi bs = c at hx
  have hcon : t.contracts = s.contracts := congrArg (fun t => t.contracts) ht
  have hstk : t.stack c.stack = s.stack c.stack := congrArg (fun t => t.stack c.stack) ht
  have hcores : t.cores = s.cores := congrArg (fun t => t.cores) ht
  obtain ⟨hone, hnone⟩ := t.takeIn_fresh c
  obtain ⟨hmod, hlo, hhi⟩ := t.takeIn_start c
  refine ⟨_, _, _, hx, hmod, hstk ▸ hlo, hstk ▸ hhi, hone, hcon ▸ hnone, ?_, (t.takeIn_cores c).trans hcores⟩
  rw [State.takeIn_contracts, NMap.get?_put, if_pos rfl]

/-! ### DESTROY CONTRACT -/

theorem destroyContract_own {s : State} {vi : Nat} {e : Submission} {x : Target} {c : Contract} (h : Claims.Command s vi 3 e x)
    (hc : NMap.get? s.contracts (e.operand 0 4) = some c) (hvi : c.vi = vi) : exec (.destroyContract vi) s =
      .next (Claims.answered { s.touchEntry vi with contracts := NMap.put s.contracts c.cid { c with ending := true } } e x
        (Claims.plain e)) := by
  have hcon : (s.touchEntry vi).contracts = s.contracts := congrArg (fun t => t.contracts) (s.touchEntry_offL2 vi)
  have hplace : ({ s.touchEntry vi with contracts := NMap.put s.contracts c.cid { c with ending := true } } : State).ioPlace
      e.pasid e.rva true = .at x := (congrArg (fun t => t.ioPlace e.pasid e.rva true) (s.touchEntry_offL2 vi)).trans h.place
  rw [← State.accept_of hplace]
  show execDestroyContract vi s = _
  unfold execDestroyContract
  rw [State.command_of h rfl]
  simp only [hcon, hc, if_pos hvi]

theorem destroyContract_none {s : State} {vi : Nat} {e : Submission} {x : Target} (h : Claims.Command s vi 3 e x)
    (hc : NMap.get? s.contracts (e.operand 0 4) = none) :
    exec (.destroyContract vi) s = .next (Claims.answered (s.touchEntry vi) e x (Claims.refused e 18)) := by
  have hcon : (s.touchEntry vi).contracts = s.contracts := congrArg (fun t => t.contracts) (s.touchEntry_offL2 vi)
  have hplace : (s.touchEntry vi).ioPlace e.pasid e.rva true = .at x :=
    (congrArg (fun t => t.ioPlace e.pasid e.rva true) (s.touchEntry_offL2 vi)).trans h.place
  rw [← State.refuse_of hplace]
  show execDestroyContract vi s = _
  unfold execDestroyContract
  rw [State.command_of h rfl]
  simp only [hcon, hc]

end Sys2Proof.Machine

namespace Sys2Proof

/-- Settles O53: a step is taken apart into what it changes, which its own rule gives, and the rest, which it leaves alone. -/
theorem contractsAndTime : Obligations.ContractsAndTime := by
  unfold Obligations.ContractsAndTime
  refine ⟨fun s k n => ⟨?_, fun m hm => ?_, s.mem_pass k n, fun cid c hc => ?_⟩,
    fun s cid c hc => ⟨fun hck => ⟨fun he => ?_, fun he => ⟨_, periodStart_ends hc hck he, ?_⟩⟩,
      fun hl hn => ⟨budgetExhausted_requests hc hl hn, fun j hj => ?_⟩, fun hl j hj h0 => ?_⟩,
    fun s vi e x ps bs h hs hr => ⟨?_, fun h0 => ?_, fun hne => ?_, fun hb hload => ?_⟩,
    fun s vi e x h => ⟨fun c hc _ hvi => ?_, fun hc => ?_⟩⟩
  · rw [State.stack_pass, if_pos rfl]
  · rw [State.stack_pass, if_neg hm]
  · rw [State.contracts_pass, NMap.get?_map, hc]
    rfl
  · exact periodStart_begins hc hck he
  · rw [State.contracts_endContract, NMap.get?_del, if_pos rfl]
  · rw [State.rank_of_contract (hj ▸ hc), if_neg fun h => (Nat.pos_iff_ne_zero.1 h.2) hl]
  · rw [State.rank_of_contract (hj ▸ hc), if_pos ⟨hj ▸ h0, hl⟩]
  · exact ⟨rfl, rfl, rfl, rfl, rfl, rfl, BitVec.toNat_ofNat _ _⟩
  · exact createContract_admits h hs hr rfl h0
  · exact (createContract_of h hs hr).2 hne
  · exact State.contractErr_budget vi bs hload hb
  · exact destroyContract_own h hc hvi
  · exact destroyContract_none h hc

end Sys2Proof
end

section
/-! ## The module right after reset

Only the capability masks take an argument: they depend on the fused graft tables, in which no normal entry is out of service. -/
set_option Elab.async false

open Sys2Proof Sys2Proof.Machine

namespace Sys2Proof.Machine

/-- The fields of a graft entry leave its bit 3 to OUT (R291, R293). -/
theorem graftOut_graftWord_false (fes sla slb : Nat) : graftOut (Config.graftWord fes sla slb false) = false := by
  unfold graftOut Config.graftWord
  rw [BitVec.getLsbD_ofNat, Nat.testBit_eq_decide_div_mod_eq]
  simp only [Bool.false_eq_true, if_false, Bool.and_eq_false_iff, decide_eq_false_iff_not]
  omega

/-- No normal entry of the fused tables is out of service: assumption 22. -/
theorem graftOut_fusedGraft {cl e : Nat} (h : e < 8) : graftOut (Config.fusedGraft cl e) = false := by
  unfold Config.fusedGraft
  rw [if_pos h]
  exact graftOut_graftWord_false _ _ _

theorem State.isOut_reset (c : Nat) : State.reset.isOut c = false :=
  graftOut_fusedGraft (Nat.mod_lt c (by decide))

theorem State.capMask_reset (c : Nat) : State.reset.capMask c = 0x07FFFFFF#64 := by
  unfold State.capMask
  rw [State.isOut_reset]
  rfl

end Sys2Proof.Machine

namespace Sys2Proof

/-- Settles O1: every map of the reset state is empty and reads as its default, and no core's graft entry is out of service. -/
theorem resetState : Obligations.ResetState := by
  unfold Obligations.ResetState
  exact ⟨rfl, rfl, rfl, rfl, fun c => ⟨rfl, rfl, rfl, rfl, rfl, rfl, rfl, rfl⟩, fun c _ => State.capMask_reset c,
    fun cl => ⟨rfl, rfl, rfl⟩, fun k => ⟨rfl, rfl, rfl⟩, rfl, fun a => ⟨rfl, rfl⟩, rfl, rfl, rfl, rfl, rfl, fun v => rfl⟩

end Sys2Proof
end
section
/-! ## What keeps a word from issuing, and how a fault leaves its wave

The wrapper of every instruction word (R42, R52, R53, R113, R215), the fault record (R280), and a wave that halts or ends (R278). -/
set_option Elab.async false

open Sys2Proof Sys2Proof.Machine

namespace Sys2Proof.Machine

/-- The meaning of an instruction word is an effect in the wrapper. -/
theorem exec_eq_run {i : Instr} (h : (encodeFields i).isSome = true) : ∃ k, ∀ s, exec i s = s.run i k := by
  cases i with
  | nop | exit | trap | brk | preoff | preon | getc | setc | fence | acq | rel | drain | rdvi | rdva | rdvw
  | smap | sunmap | mqcfg | tend | ptake | ppass | ppassFree | ret | jmp | merge | cwait | sadd | ssub | smul
  | smulh | sand | sor | sxor | sandn | sshl | sshr | ssra | smin | smax | ssel | scmp | sdiv | sbfx | sbfi
  | sclz | spopc | smov | sxget | sxset | maskp | pmask | vote | saddImm | sandImm | sorImm | sxorImm | sshlImm
  | sshrImm | ssraImm | scmpImm | smovi | slih | lds | sts | ldacq | strel | atoms | bra | call | bz | bnz
  | bany | ball | bnone | split | switch | spawnS | spawnL | fnew | fjoin | fwait | fput | copy | copyM | mma
  | mmaMc | accz | accld | accst | cxopenIntersect | cxopenUnion | cxopenExpand | cxnext | cxsplit | cxsave
  | cxload | cxloadS | cxclose | vadd | vsub | vmul | vmulhI | vand | vor | vxor | vandn | vshl | vshr | vsra
  | vminI | vmaxI | vsel | vmov | vbcast | vminN | vmaxN | vmulhN | vbfxI | vbfxN | vbfi | vclz | vpopc | vbrev
  | vlaneid | vmad | vaddImm | vandImm | vorImm | vxorImm | vshlImm | vshrImm | vsraImm | vmovImm | vcmpInt
  | vcmpImm | vcmpF32 | vfaddF32 | vfsubF32 | vfmulF32 | vfminF32 | vfmaxF32 | vfdiv | vfsqrt | vrcp | vrsq
  | vexp2 | vlog2 | vsin | vcos | vtanh | vfclassF32 | vfcvtF32 | vfaddF16x2 | vfsubF16x2 | vfmulF16x2
  | vfminF16x2 | vfmaxF16x2 | vfclassF16x2 | vfcvtF16x2 | vfaddBf16x2 | vfsubBf16x2 | vfmulBf16x2 | vfminBf16x2
  | vfmaxBf16x2 | vfclassBf16x2 | vfcvtBf16x2 | vfmaF32 | vfmaF16x2 | vfmaBf16x2 | pand | por | pxor | pnot
  | shflIdx | shflUp | shflDown | shflXor | shflBcast | vred | vscan | ld | st | ldl | ldlW | ldlWc | stl
  | stlFill | atom | atoml | pref =>
    exact ⟨_, fun _ => rfl⟩
  | eventWrite | resultArrival | missStatusRetry | futureDelivery | errorDelivery | messageArrival
  | taskDispatch | steal | stagingStart | stagingComplete | tileWritebackComplete | copyStart | copyCompletion
  | matrixOpStart | matrixOpEnd | brambleOpStart | mmaMcWindowLapse | teamPlacement | rootClosurePush
  | switchOut | switchIn | preoffWindowExpiry | periodStart | budgetExhausted | jobEnd | sweepVisit | sweepTest
  | testResult | drainmaxExpiry | coreGated | launch | createContract | destroyContract | drainJob
  | cmdUndefined | graftRead | regraft | capRead | capFence | capRetest | sweepSet | migrate | migrateEnd
  | groupSet | powerSetClockStep | powerSetGate | powerSetHbmRefresh | alarmSet | viSet | attest | retransmit
  | brambleOpEnd | sqdbWrite | sqblWrite | eqblWrite | vipasWrite | moduleReset | stackReset | clusterReset
  | mevtClear | inventory | sensors | i3cPower | i3cAttest | status | i3cReset | fwWrite | fwCommit
  | i3cUnknownCommand | pageResponse | linkAck | currentAlarmHigh | currentAlarmLow | lineEviction
  | numvfsWrite | dynamicAddressAssignment
  | illegalInstruction | registerWrite | translationCompletion | invalidateRequest | peerRequest =>
    exact absurd h Bool.false_ne_true

theorem Ctx.check_of_engineFull {c : Ctx} {k : Core} {i : Instr} (h : k.engineFull i = true) : c.check k i = .wait .engineQueue := by
  unfold Ctx.check
  rw [if_pos h]

theorem Ctx.check_of_lacks {c : Ctx} {k : Core} {i : Instr} (hq : k.engineFull i = false) (h : c.wave.lacks i = true) :
    c.check k i = .illegal := by
  unfold Ctx.check
  rw [hq, if_neg Bool.false_ne_true, if_pos h]

theorem Ctx.check_of_trapSource {c : Ctx} {k : Core} {i : Instr} {p r : Nat} (hq : k.engineFull i = false)
    (hl : c.wave.lacks i = false) (h : c.trapSource (uses i) = some (p, r)) : c.check k i = .trap p r := by
  unfold Ctx.check
  rw [hq, hl, if_neg Bool.false_ne_true, if_neg Bool.false_ne_true, h]

/-- The registers that a word names include an empty one, as a source or as a destination (R51, R52). -/
def Ctx.namesEmpty (c : Ctx) (i : Instr) : Prop :=
  (∃ e, e ∈ (uses i).vs ∧ c.vEmpty e.1 = true) ∨ (∃ e, e ∈ (uses i).ss ∧ c.sEmpty e.1 = true) ∨
    (∃ r, r ∈ (uses i).vd ∧ c.vEmpty r = true) ∨ (∃ r, r ∈ (uses i).sd ∧ c.sEmpty r = true)

theorem Ctx.check_of_namesEmpty {c : Ctx} {k : Core} {i : Instr} (hq : k.engineFull i = false) (hl : c.wave.lacks i = false)
    (ht : c.trapSource (uses i) = none) (h : c.namesEmpty i) : c.check k i = .wait .empty := by
  have hany : ((uses i).vs.any (fun e => c.vEmpty e.1) || (uses i).ss.any (fun e => c.sEmpty e.1) || (uses i).vd.any c.vEmpty ||
      (uses i).sd.any c.sEmpty) = true := by
    simpa [Ctx.namesEmpty, or_assoc] using h
  unfold Ctx.check
  rw [hq, hl, if_neg Bool.false_ne_true, if_neg Bool.false_ne_true, ht]
  exact if_pos hany

/-- A trap goes to the job's trap entry, where it has one (R276). -/
theorem Ctx.emptyTrap_of_entry {s : State} {i : Instr} {c : Ctx} (h : s.ctx? i = some c) (ht : c.job.tent ≠ 0xFFFFFFFF) (p r : Nat) :
    c.emptyTrap p r s = s.modWave c.r.core c.r.slot (fun w =>
      { (w.setS 60 (lo32 (c.job.cbase + 12 * c.arm.pc))).setS 61 (hi32 (c.job.cbase + 12 * c.arm.pc)) with
        fcause := fcauseWord true p 0 3, faddl := lo32 r, faddh := hi32 r,
        sEmpty := w.sEmpty.filter (fun e => e.1 != 60 && e.1 != 61),
        inflight := w.inflight.map (fun (q : Pending) => { q with sdst := q.sdst.filter (fun e => e.1 != 60 && e.1 != 61) }) }.modArm c.r.arm (fun a => a.goto c.job.tent)) := by
  obtain ⟨-, hw, -, hteam, hjob, -, -⟩ := State.ctx?_some h
  rw [hteam] at hjob
  unfold Ctx.emptyTrap State.enterTrap
  simp only [hw, ← hjob, if_neg ht, Job.packetVA]

end Sys2Proof.Machine

namespace Sys2Proof

/-- Settles O9, from the order of the checks that the wrapper makes. -/
theorem illegalFaults : Obligations.IllegalFaults := by
  unfold Obligations.IllegalFaults
  refine ⟨fun i s c hi hc hn => ?_, fun w s c hc => ?_⟩
  · obtain ⟨k, hk⟩ := exec_eq_run hi
    rw [hk]
    exact ⟨fun hq hl => State.run_illegal hc hn (Ctx.check_of_lacks hq hl) k,
      fun hq => State.run_wait hc hn (Ctx.check_of_engineFull hq) k⟩
  · show execIllegalInstruction w s = _
    unfold execIllegalInstruction
    rw [hc]
    rfl

/-- Settles O10, from the order of the checks that the wrapper makes and from the entry of a trap. -/
theorem emptyOperands : Obligations.EmptyOperands := by
  unfold Obligations.EmptyOperands
  refine ⟨fun i s c hi hc hn hq hl ht he => ?_, fun i s c p r hi hc hn hq hl ht hj => ?_⟩
  · obtain ⟨k, hk⟩ := exec_eq_run hi
    rw [hk]
    exact State.run_wait hc hn (Ctx.check_of_namesEmpty hq hl ht he) k
  · obtain ⟨k, hk⟩ := exec_eq_run hi
    rw [hk, State.run_trap hc hn (Ctx.check_of_trapSource hq hl ht) k, Ctx.emptyTrap_of_entry hc hj]

end Sys2Proof
end
section
/-! ## Words that write registers

What a word that executes leaves alone besides its results: its class is noted, and its wave is written (R45, R305). -/
set_option Elab.async false

open Sys2Proof Sys2Proof.Machine

namespace Sys2Proof.Machine

/-! ### The bytes of memories and allocations -/

theorem State.sameMemory.of_eq {s t : State} (hm : t.mem = s.mem) (hh : t.hostMem = s.hostMem) (hp : t.poison = s.poison) :
    s.sameMemory t :=
  ⟨fun a => by rw [hm], fun a => by rw [hh], hp⟩

theorem State.sameMemory.trans {s t u : State} (h : s.sameMemory t) (g : t.sameMemory u) : s.sameMemory u :=
  ⟨fun a => (g.1 a).trans (h.1 a), fun a => (g.2.1 a).trans (h.2.1 a), g.2.2.trans h.2.2⟩

theorem State.sameScratch.of_eq {s t : State} (h : t.allocs = s.allocs) : s.sameScratch t := fun a => by
  have ha : t.alloc a = s.alloc a := by unfold State.alloc; rw [h]
  rw [ha]
  exact ⟨fun _ => rfl, rfl, rfl⟩

theorem State.sameScratch.trans {s t u : State} (h : s.sameScratch t) (g : t.sameScratch u) : s.sameScratch u := fun a => by
  obtain ⟨hc, hf, hp⟩ := h a
  obtain ⟨gc, gf, gp⟩ := g a
  exact ⟨fun k => (gc k).trans (hc k), gf.trans hf, gp.trans hp⟩

/-! ### The note of a word's class -/

theorem State.noted_wave? (s : State) (c : Ctx) (i : Instr) (d k : Nat) : (s.noted c i).wave? d k = s.wave? d k := by
  unfold State.noted
  split
  · exact s.wave?_noteClass _ _ _ _ _
  · rfl

theorem State.noted_core (s : State) (c : Ctx) (i : Instr) (d : Nat) :
    ∃ l o, (s.noted c i).core d = { s.core d with runLog := l, overflow := o } := by
  unfold State.noted
  split
  · exact s.core_noteClass _ _ _ _
  · exact ⟨_, _, rfl⟩

theorem State.noted_hardware (s : State) (c : Ctx) (i : Instr) :
    (s.noted c i).clusters = s.clusters ∧ (s.noted c i).stk = s.stk ∧ (s.noted c i).teams = s.teams ∧
      (s.noted c i).allocs = s.allocs := by
  unfold State.noted
  split
  · exact s.noteClass_hardware _ _ _
  · exact ⟨rfl, rfl, rfl, rfl⟩

theorem State.noted_team (s : State) (c : Ctx) (i : Instr) (t : Nat) : (s.noted c i).team t = s.team t := by
  obtain ⟨-, -, h, -⟩ := s.noted_hardware c i
  unfold State.team
  rw [h]

theorem State.noted_alloc (s : State) (c : Ctx) (i : Instr) (a : Nat) : (s.noted c i).alloc a = s.alloc a := by
  obtain ⟨-, -, -, h⟩ := s.noted_hardware c i
  unfold State.alloc
  rw [h]

theorem State.sameScratch_noted (s : State) (c : Ctx) (i : Instr) : s.sameScratch (s.noted c i) :=
  .of_eq (s.noted_hardware c i).2.2.2

/-- A state without its cores and jobs, the parts that the note of a class in a log with room changes (R305). -/
def State.offLog (s : State) : State := { s with cores := [], jobs := [] }

theorem State.noted_offLog {s : State} {c : Ctx} {i : Instr} (h : s.logRoom c i) : (s.noted c i).offLog = s.offLog := by
  unfold State.noted
  split
  · next k hk =>
    rcases State.noteClass_of_room (h k hk) with e | e
    · rw [e]
    · rw [e]
      unfold State.modJob
      split <;> rfl
  · rfl

theorem State.sameMemory_noted {s : State} {c : Ctx} {i : Instr} (h : s.logRoom c i) : s.sameMemory (s.noted c i) :=
  have e := State.noted_offLog h
  .of_eq (congrArg State.mem e :) (congrArg State.hostMem e :) (congrArg State.poison e :)

/-! ### Updates of the issuing wave -/

/-- A core without its waves. -/
def Core.offSlots (k : Core) : Core := { k with slots := [] }

theorem State.offSlots_modWave (s : State) (c k d : Nat) (f : Wave → Wave) :
    ((s.modWave c k f).core d).offSlots = (s.core d).offSlots := by
  rw [State.core_modWave]
  rfl

theorem State.sameMemory_modWave (s : State) (c k : Nat) (f : Wave → Wave) : s.sameMemory (s.modWave c k f) :=
  .of_eq (State.modWave_mem ..) (State.modWave_hostMem ..) (State.modWave_poison ..)

theorem State.sameScratch_modWave (s : State) (c k : Nat) (f : Wave → Wave) : s.sameScratch (s.modWave c k f) :=
  .of_eq (State.modWave_allocs ..)

/-- The wave of a word's context stands in its slot. -/
theorem Ctx.wave?_self {s : State} {i : Instr} {c : Ctx} (h : s.ctx? i = some c) : s.wave? c.r.core c.r.slot = some c.wave :=
  (State.ctx?_some h).2.1

/-- The arm of a word's context is one of its wave. -/
theorem Ctx.get?_self {s : State} {i : Instr} {c : Ctx} (h : s.ctx? i = some c) : NMap.get? c.wave.arms c.r.arm = some c.arm :=
  (State.ctx?_some h).2.2.1

/-- The issuing wave after an update of it. -/
theorem State.wave?_modWave_self {s : State} {c k : Nat} {w : Wave} (h : s.wave? c k = some w) (f : Wave → Wave) :
    (s.modWave c k f).wave? c k = some (f w) := by
  rw [State.wave?_modWave, if_pos ⟨rfl, rfl⟩, h, Option.map_some]

theorem State.wave?_modWave_other {s : State} {c k d j : Nat} (h : d ≠ c ∨ j ≠ k) (f : Wave → Wave) :
    (s.modWave c k f).wave? d j = s.wave? d j := by
  rw [State.wave?_modWave, if_neg (fun e => h.elim (· e.1) (· e.2))]

theorem wrote_wave? {s : State} {i j : Instr} {c : Ctx} (h : s.ctx? j = some c) (f : Wave → Wave) :
    (Claims.wrote s c i f).wave? c.r.core c.r.slot = some ((f c.wave).modArm c.r.arm Arm.advance) :=
  State.wave?_modWave_self (((s.noted_wave? c i _ _)).trans (Ctx.wave?_self h)) _

theorem wrote_wave?_other {s : State} {c : Ctx} {d j : Nat} (h : d ≠ c.r.core ∨ j ≠ c.r.slot) (i : Instr) (f : Wave → Wave) :
    (Claims.wrote s c i f).wave? d j = s.wave? d j :=
  (State.wave?_modWave_other h _).trans (s.noted_wave? c i d j)

theorem sameMemory_wrote {s : State} {i : Instr} {c : Ctx} (h : s.logRoom c i) (f : Wave → Wave) : s.sameMemory (Claims.wrote s c i f) :=
  (State.sameMemory_noted h).trans (State.sameMemory_modWave _ _ _ _)

theorem sameScratch_wrote (s : State) (i : Instr) (c : Ctx) (f : Wave → Wave) : s.sameScratch (Claims.wrote s c i f) :=
  (s.sameScratch_noted c i).trans (State.sameScratch_modWave _ _ _ _)

/-- The effect of a word on its wave leaves its core alone but for its slots and its run log. -/
theorem wrote_core (s : State) (c : Ctx) (i : Instr) (f : Wave → Wave) (d : Nat) :
    ∃ m l o, (Claims.wrote s c i f).core d = { s.core d with slots := m, runLog := l, overflow := o } := by
  obtain ⟨l, o, h⟩ := s.noted_core c i d
  refine ⟨((Claims.wrote s c i f).core d).slots, l, o, (State.core_modWave (s.noted c i) _ _ _ _).trans ?_⟩
  rw [h]
  rfl

/-! ### Results that reach registers -/

/-- A wave without its general registers, its predicates, its flags and the notes of a split wave's writes. -/
def Wave.offRegs (w : Wave) : Wave := { w with s := [], v := [], p := [], flags := 0#32, old := [] }

theorem Wave.setP_offRegs (w : Wave) (n : Nat) (x : Mask) : (w.setP n x).offRegs = w.offRegs := by
  unfold Wave.setP
  split <;> rfl

/-- What each turn of a loop over a wave leaves alone, the loop leaves alone. -/
theorem Wave.foldl_keeps {α β : Type} {g : Wave → β} {f : Wave → α → Wave} (h : ∀ w a, g (f w a) = g w) (l : List α) (w : Wave) :
    g (l.foldl f w) = g w := by
  induction l generalizing w with
  | nil => rfl
  | cons a l ih => exact (ih _).trans (h w a)

theorem Wave.setSs_offRegs (w : Wave) (l : List (Nat × Word)) : (w.setSs l).offRegs = w.offRegs :=
  Wave.foldl_keeps (g := Wave.offRegs) (f := fun (w : Wave) (e : Nat × Word) => w.setS e.1 e.2) (fun _ _ => rfl) l w

theorem Wave.noteOld_offRegs (w : Wave) (a : Nat) (m : Mask) (x : Result) : (w.noteOld a m x).offRegs = w.offRegs := by
  unfold Wave.noteOld
  split <;> rfl

theorem Wave.noteOld_regs (w : Wave) (a : Nat) (m : Mask) (x : Result) :
    (w.noteOld a m x).s = w.s ∧ (w.noteOld a m x).v = w.v ∧ (w.noteOld a m x).p = w.p ∧ (w.noteOld a m x).flags = w.flags := by
  unfold Wave.noteOld
  split <;> exact ⟨rfl, rfl, rfl, rfl⟩

/-- The vector results of a write. -/
def Wave.writeV (w : Wave) (m : Mask) (l : List (Nat × LaneVec)) : Wave :=
  l.foldl (fun w e => w.setV e.1 (mergeLanes m (w.vreg e.1) e.2.lane)) w

/-- The predicate results of a write. -/
def Wave.writeP (w : Wave) (l : List (Nat × Mask × Mask)) : Wave :=
  l.foldl (fun w e => w.setP e.1 (mergeMask e.2.1 (w.preg e.1) e.2.2)) w

theorem Wave.write_eq (w : Wave) (m : Mask) (x : Result) : w.write m x =
    { ((w.writeV m x.vdst).setSs x.sdst).writeP x.pdst with
      flags := (((w.writeV m x.vdst).setSs x.sdst).writeP x.pdst).flags ||| x.flags } := rfl

theorem Wave.writeV_keeps {β : Type} {g : Wave → β} (h : ∀ w n x, g (Wave.setV w n x) = g w) (w : Wave) (m : Mask)
    (l : List (Nat × LaneVec)) : g (w.writeV m l) = g w :=
  Wave.foldl_keeps (fun w _ => h w _ _) l w

theorem Wave.setSs_keeps {β : Type} {g : Wave → β} (h : ∀ w n x, g (Wave.setS w n x) = g w) (w : Wave) (l : List (Nat × Word)) :
    g (w.setSs l) = g w :=
  Wave.foldl_keeps (fun w _ => h w _ _) l w

theorem Wave.writeP_keeps {β : Type} {g : Wave → β} (h : ∀ w n x, g (Wave.setP w n x) = g w) (w : Wave)
    (l : List (Nat × Mask × Mask)) : g (w.writeP l) = g w :=
  Wave.foldl_keeps (fun w _ => h w _ _) l w

theorem Wave.write_offRegs (w : Wave) (m : Mask) (x : Result) : (w.write m x).offRegs = w.offRegs :=
  calc (w.write m x).offRegs = (((w.writeV m x.vdst).setSs x.sdst).writeP x.pdst).offRegs := rfl
    _ = ((w.writeV m x.vdst).setSs x.sdst).offRegs := Wave.writeP_keeps Wave.setP_offRegs _ _
    _ = (w.writeV m x.vdst).offRegs := Wave.setSs_offRegs _ _
    _ = w.offRegs := Wave.writeV_keeps (g := Wave.offRegs) (fun _ _ _ => rfl) _ _ _

theorem Wave.flags_write (w : Wave) (m : Mask) (x : Result) : (w.write m x).flags = w.flags ||| x.flags := by
  have h : (((w.writeV m x.vdst).setSs x.sdst).writeP x.pdst).flags = w.flags :=
    (Wave.writeP_keeps Wave.setP_flags _ _).trans
      ((Wave.setSs_keeps Wave.setS_flags _ _).trans (Wave.writeV_keeps Wave.setV_flags _ _ _))
  rw [Wave.write_eq, h]

theorem Wave.vreg_write (w : Wave) (m : Mask) (x : Result) (n : Nat) : (w.write m x).vreg n = (w.writeV m x.vdst).vreg n :=
  (Wave.writeP_keeps (g := fun w => w.vreg n) (fun w k v => w.vreg_setP k n v) _ _).trans
    (Wave.setSs_keeps (g := fun w => w.vreg n) (fun w k v => w.vreg_setS k n v) _ _)

theorem Wave.sreg_write (w : Wave) (m : Mask) (x : Result) (n : Nat) : (w.write m x).sreg n = (w.setSs x.sdst).sreg n := by
  have h : (w.writeV m x.vdst).s = w.s := Wave.writeV_keeps Wave.setV_s w m _
  have hs : ∀ (l : List (Nat × Word)) (u v : Wave), u.s = v.s → (u.setSs l).s = (v.setSs l).s := by
    intro l
    induction l with
    | nil => exact fun _ _ e => e
    | cons e l ih => exact fun u v e' => ih _ _ (congrArg (fun m => NMap.put m e.1 e.2) e')
  have hp : (w.write m x).s = ((w.writeV m x.vdst).setSs x.sdst).s := Wave.writeP_keeps Wave.setP_s _ _
  unfold Wave.sreg
  rw [hp, hs x.sdst _ _ h]

/-- A register that no result names keeps its value. -/
theorem Wave.vreg_writeV_of_notMem {l : List (Nat × LaneVec)} {n : Nat} (h : ∀ e, e ∈ l → e.1 ≠ n) (w : Wave) (m : Mask) :
    (w.writeV m l).vreg n = w.vreg n := by
  induction l generalizing w with
  | nil => rfl
  | cons e l ih =>
    refine (ih (fun f hf => h f (List.mem_cons_of_mem _ hf)) _).trans ?_
    rw [Wave.vreg_setV, if_neg (Ne.symm (h e List.mem_cons_self))]

theorem mergeLanes_idem (m : Mask) (old : LaneVec) (f : Nat → Word) : mergeLanes m (mergeLanes m old f) f = mergeLanes m old f := by
  unfold mergeLanes LaneVec.ofFn
  refine List.map_congr_left (fun l hl => ?_)
  have h32 : l < 32 := List.mem_range.1 hl
  split
  · rfl
  · next h => exact (LaneVec.lane_ofFn _ l h32).trans (if_neg h)

/-- A register that some results name, all with one value, takes that value in the lanes of the mask. -/
theorem Wave.vreg_writeV_of_mem {l : List (Nat × LaneVec)} {n : Nat} {v : LaneVec} (h : (n, v) ∈ l)
    (hu : ∀ e, e ∈ l → e.1 = n → e.2 = v) (w : Wave) (m : Mask) : (w.writeV m l).vreg n = mergeLanes m (w.vreg n) v.lane := by
  induction l generalizing w with
  | nil => exact absurd h List.not_mem_nil
  | cons e l ih =>
    have hset : (w.setV e.1 (mergeLanes m (w.vreg e.1) e.2.lane)).vreg n =
        if n = e.1 then mergeLanes m (w.vreg e.1) e.2.lane else w.vreg n := w.vreg_setV _ _ _
    have hu' : ∀ f, f ∈ l → f.1 = n → f.2 = v := fun f hf => hu f (List.mem_cons_of_mem _ hf)
    by_cases hl : (n, v) ∈ l
    · refine (ih hl hu' _).trans ?_
      rw [hset]
      split
      · next he => rw [he, ← he, hu e List.mem_cons_self he.symm, mergeLanes_idem]
      · rfl
    · obtain rfl : (n, v) = e := (List.mem_cons.1 h).resolve_right hl
      refine (Wave.vreg_writeV_of_notMem (l := l) (fun f hf hfn => hl ?_) _ m).trans ?_
      · have hv := hu' f hf hfn
        rwa [← hfn, ← hv]
      · rw [hset, if_pos rfl]

theorem Wave.sreg_setSs_of_notMem {l : List (Nat × Word)} {n : Nat} (h : ∀ e, e ∈ l → e.1 ≠ n) (w : Wave) :
    (w.setSs l).sreg n = w.sreg n := by
  induction l generalizing w with
  | nil => rfl
  | cons e l ih =>
    refine (ih (fun f hf => h f (List.mem_cons_of_mem _ hf)) _).trans ?_
    rw [Wave.sreg_setS, if_neg (Ne.symm (h e List.mem_cons_self))]

theorem Wave.sreg_setSs_of_mem {l : List (Nat × Word)} {n : Nat} {v : Word} (h : (n, v) ∈ l)
    (hu : ∀ e, e ∈ l → e.1 = n → e.2 = v) (w : Wave) : (w.setSs l).sreg n = v := by
  induction l generalizing w with
  | nil => exact absurd h List.not_mem_nil
  | cons e l ih =>
    by_cases hl : (n, v) ∈ l
    · exact ih hl (fun f hf => hu f (List.mem_cons_of_mem _ hf)) _
    · obtain rfl : (n, v) = e := (List.mem_cons.1 h).resolve_right hl
      refine (Wave.sreg_setSs_of_notMem (l := l) (fun f hf hfn => hl ?_) _).trans ?_
      · have hv := hu f (List.mem_cons_of_mem _ hf) hfn
        rwa [← hfn, ← hv]
      · rw [Wave.sreg_setS, if_pos rfl]

theorem Wave.preg_write (w : Wave) (m : Mask) (x : Result) (n : Nat) : (w.write m x).preg n = (w.writeP x.pdst).preg n := by
  have hp : ((w.writeV m x.vdst).setSs x.sdst).p = w.p :=
    (Wave.setSs_keeps Wave.setS_p _ _).trans (Wave.writeV_keeps Wave.setV_p _ _ _)
  have hs : ∀ (l : List (Nat × Mask × Mask)) (u v : Wave), u.p = v.p → (u.writeP l).p = (v.writeP l).p := by
    intro l
    induction l with
    | nil => exact fun _ _ e => e
    | cons e l ih =>
      refine fun u v h => ih _ _ ?_
      have hpreg : u.preg e.1 = v.preg e.1 := by unfold Wave.preg; rw [h]
      show (u.setP e.1 (mergeMask e.2.1 (u.preg e.1) e.2.2)).p = (v.setP e.1 (mergeMask e.2.1 (v.preg e.1) e.2.2)).p
      rw [hpreg]
      unfold Wave.setP
      split
      · exact h
      · exact congrArg (fun m => NMap.put m e.1 _) h
  show (((w.writeV m x.vdst).setSs x.sdst).writeP x.pdst).preg n = _
  unfold Wave.preg
  rw [hs x.pdst _ _ hp]

theorem Wave.preg_writeP_of_notMem {l : List (Nat × Mask × Mask)} {n : Nat} (h : ∀ e, e ∈ l → e.1 ≠ n) (w : Wave) :
    (w.writeP l).preg n = w.preg n := by
  induction l generalizing w with
  | nil => rfl
  | cons e l ih =>
    refine (ih (fun f hf => h f (List.mem_cons_of_mem _ hf)) _).trans ?_
    rw [Wave.preg_setP, if_neg (fun hn => h e List.mem_cons_self hn.1.symm)]

/-- A write to p0 is discarded (R44). -/
theorem Wave.preg_setP_zero (w : Wave) (n : Nat) (x : Mask) : (w.setP 0 x).preg n = w.preg n := by
  rw [Wave.preg_setP, if_neg (fun h => h.2 rfl)]

theorem Wave.preg_zero (w : Wave) : w.preg 0 = 0xFFFFFFFF#32 := rfl

theorem getLsbD_mergeMask (m old new : Mask) {l : Nat} (h : l < 32) :
    (mergeMask m old new).getLsbD l = if m.getLsbD l then new.getLsbD l else old.getLsbD l := by
  unfold mergeMask
  rw [BitVec.getLsbD_or, BitVec.getLsbD_and, BitVec.getLsbD_and, BitVec.getLsbD_not]
  cases m.getLsbD l <;> simp [h]

theorem lane_mergeLanes (m : Mask) (old : LaneVec) (f : Nat → Word) {l : Nat} (h : l < 32) :
    (mergeLanes m old f).lane l = if m.getLsbD l then f l else old.lane l :=
  LaneVec.lane_ofFn _ l h

/-- A result that goes to no stream port is written at once into the wave's own registers (R45). -/
theorem Ctx.retireNow_of_own {c : Ctx} {x : Result} (h : ∀ e, e ∈ x.vdst → c.wave.portBank e.1 = none) (s : State) :
    c.retireNow x s = s.modWave c.r.core c.r.slot (fun w =>
      ((w.noteOld c.r.arm c.lanes x).write c.lanes x).modArm c.r.arm Arm.advance) := by
  have hp : c.pushes x = [] := List.filterMap_eq_nil_iff.2 (fun e he => by rw [h e he]; rfl)
  have ho : c.ownDst x = x := by
    unfold Ctx.ownDst
    rw [List.filter_eq_self.2 (fun e he => by rw [h e he]; rfl)]
  unfold Ctx.retireNow
  rw [hp, ho]
  split <;> rfl

/-- An instruction that pops no stream delivers its results at once. -/
theorem Ctx.retire_of_unpopped {c : Ctx} (h : c.popped = false) (x : Result) (s : State) : c.retire x s = c.retireNow x s := by
  unfold Ctx.retire
  rw [h, Bool.false_and, if_neg Bool.false_ne_true]

end Sys2Proof.Machine
end
section
/-! ## The fault record, and what a wave keeps that halts or ends -/
set_option Elab.async false

open Sys2Proof Sys2Proof.Machine

namespace Sys2Proof.Machine

/-! ### What a release of a wave leaves alone -/

/-- A state without its teams and jobs: the rings and the counts of undefined words stand there (R4, R181). -/
def State.offRings (s : State) : State := { s with teams := [], jobs := [] }

theorem State.modTeam_offRings (s : State) (t : Nat) (f : Team → Team) : (s.modTeam t f).offRings = s.offRings := by
  unfold State.modTeam
  split <;> rfl

theorem State.modJob_offRings (s : State) (j : Nat) (f : Job → Job) : (s.modJob j f).offRings = s.offRings := by
  unfold State.modJob
  split <;> rfl

theorem State.freeLanes_offRings (s : State) (jid : Nat) : (s.freeLanes jid).2.offRings = s.offRings :=
  s.modJob_offRings _ _

theorem State.fillReserved_offRings (s : State) (w : Wave) : (s.fillReserved w).offRings = s.offRings :=
  foldl_keeps (g := State.offRings) (fun _ _ => foldl_keeps (g := State.offRings)
    (fun s _ => (State.modTeam_offRings _ _ _).trans (s.freeLanes_offRings _)) _ _) _ s

theorem Core.unclaim_slots (k : Core) (p : ArmRef → Bool) : (k.unclaim p).slots = k.slots := by
  unfold Core.unclaim
  extract_lets k'
  split
  · split <;> rfl
  · rfl

theorem Core.unclaim_port (k : Core) (p : ArmRef → Bool) : (k.unclaim p).port = k.port := by
  unfold Core.unclaim
  extract_lets k'
  split
  · split <;> rfl
  · rfl

theorem Core.unclaim_queue (k : Core) (p : ArmRef → Bool) : (k.unclaim p).queue = k.queue := by
  unfold Core.unclaim
  extract_lets k'
  split
  · split <;> rfl
  · rfl

/-- A wave is in its slot whatever becomes of the rest of its core. -/
theorem State.wave?_modCore_of_slots {s : State} {c : Nat} {f : Core → Core} (h : (f (s.core c)).slots = (s.core c).slots) (d k : Nat) :
    (s.modCore c f).wave? d k = s.wave? d k := by
  unfold State.wave?
  rw [State.core_modCore]
  split
  · next e => rw [e, h]
  · rfl

/-- The core of a wave that halts or ends, before its wave is told (R47, R278). -/
def Core.released (k : Core) (slot : Nat) (v : Wave) : Core :=
  Core.unclaim { k with port := if k.port = some slot then none else k.port, queue := k.queue.filter (fun r => r.slot != slot) }
    (fun r => r.slot == slot && (NMap.get? v.arms r.arm).isNone)

/-- A release works in four parts: the rings, the core, the allocations, the wave. -/
theorem State.releaseWave_core (s : State) (core slot : Nat) (w : Wave) (x : Bool) : ∃ as bs,
    s.releaseWave core slot w x = { ({ (s.fillReserved w).modCore core (fun k => k.released slot (w.halted x)) with
      allocs := as }.modWave core slot (fun w => w.halted x)) with allocs := bs } :=
  ⟨_, _, rfl⟩

/-- A release touches no wave but its own. -/
theorem State.wave?_releaseWave (s : State) (core slot : Nat) (w : Wave) (x : Bool) (d k : Nat) :
    (s.releaseWave core slot w x).wave? d k =
      if d = core ∧ k = slot then (s.wave? core slot).map (fun w => w.halted x) else s.wave? d k := by
  obtain ⟨as, bs, h⟩ := s.releaseWave_core core slot w x
  have hslots (d k : Nat) : ((s.fillReserved w).modCore core (fun k => k.released slot (w.halted x))).wave? d k = s.wave? d k :=
    (State.wave?_modCore_of_slots (Core.unclaim_slots _ _) d k).trans
      (congrArg (fun t => t.wave? d k) (s.fillReserved_offRings w) :)
  rw [h]
  refine (State.wave?_modWave _ core slot d k _).trans ?_
  exact ite_congr rfl (fun _ => congrArg (Option.map _) (hslots core slot)) (fun _ => hslots d k)

/-- A core after a release of one of its waves: the ports and the pennant queue are without the wave (R47, R278). -/
theorem State.core_releaseWave (s : State) (core slot : Nat) (w : Wave) (x : Bool) :
    ((s.releaseWave core slot w x).core core).offSlots = ((s.core core).released slot (w.halted x)).offSlots := by
  obtain ⟨as, bs, h⟩ := s.releaseWave_core core slot w x
  have hf : (s.fillReserved w).core core = s.core core := (congrArg (fun t => t.core core) (s.fillReserved_offRings w) :)
  rw [h]
  refine (State.offSlots_modWave _ core slot core _).trans ?_
  have hc := (s.fillReserved w).core_modCore core core (fun k => k.released slot (w.halted x))
  rw [if_pos rfl, hf] at hc
  exact congrArg Core.offSlots hc

theorem State.sameMemory_releaseWave (s : State) (core slot : Nat) (w : Wave) (x : Bool) :
    s.sameMemory (s.releaseWave core slot w x) := by
  obtain ⟨as, bs, h⟩ := s.releaseWave_core core slot w x
  have hf := s.fillReserved_offRings w
  rw [h]
  exact .of_eq ((State.modWave_mem ..).trans (congrArg State.mem hf :))
    ((State.modWave_hostMem ..).trans (congrArg State.hostMem hf :)) ((State.modWave_poison ..).trans (congrArg State.poison hf :))

/-! ### The arms that a wave keeps -/

/-- What an arm keeps of its captured instructions is a store or an atomic (R357). -/
theorem Arm.cap_of_storing {a b : Arm} (h : a.storing = some b) : ∃ q, b.cap = some q ∧ storesOrAtomic q.ins = true := by
  unfold Arm.storing Arm.only at h
  split at h
  · next k q rest e =>
    obtain rfl := Option.some.inj h
    have hq := (List.mem_filter.1 (e ▸ List.mem_cons_self : (k, q) ∈ _)).2
    exact ⟨q, rfl, (Bool.and_eq_true_iff.1 hq).1⟩
  · cases h

theorem Arm.storing_of_uncaptured {a : Arm} (hc : a.cap = none) (ha : a.also = none) : a.storing = none := by
  unfold Arm.storing Arm.only
  rw [hc, ha]
  rfl

theorem Wave.arms_halted (w : Wave) (x : Bool) : (w.halted x).arms =
    if x then w.arms.filterMap (fun (e : Nat × Arm) => e.2.storing.map (fun a => (e.1, a))) else [] := rfl

theorem Wave.storing_of_mem_halted {w : Wave} {x : Bool} {e : Nat × Arm} (h : e ∈ (w.halted x).arms) :
    ∃ a, (e.1, a) ∈ w.arms ∧ a.storing = some e.2 := by
  rw [Wave.arms_halted] at h
  split at h
  · obtain ⟨⟨n, a⟩, hf, he⟩ := List.mem_filterMap.1 h
    obtain ⟨b, hb, rfl⟩ := Option.map_eq_some_iff.1 he
    exact ⟨a, hf, hb⟩
  · cases h

/-- A wave that halts, or that ends with nothing captured, has no arm and nothing in flight (R278, R357). -/
theorem Wave.halted_still {w : Wave} {x : Bool} (h : x = false ∨ ∀ e, e ∈ w.arms → e.2.cap = none ∧ e.2.also = none) :
    (w.halted x).arms = [] ∧ (w.halted x).inflight = [] := by
  have harms : (w.halted x).arms = [] := by
    refine List.eq_nil_iff_forall_not_mem.2 (fun e he => ?_)
    rcases h with rfl | h
    · cases he
    · obtain ⟨a, ha, hs⟩ := Wave.storing_of_mem_halted he
      obtain ⟨hc, hn⟩ := h _ ha
      rw [Arm.storing_of_uncaptured hc hn] at hs
      cases hs
  refine ⟨harms, ?_⟩
  have hin : (w.halted x).inflight = (w.inflight.filter (fun p => p.held &&
      (w.halted x).arms.any (fun e => e.2.captures.any (fun q => q.id == p.id)))).map (fun (p : Pending) => { p with push := [] }) := rfl
  rw [hin, harms]
  simp

/-! ### The fault record -/

/-- The words of the cause end the record, and zeros fill it up (R280). -/
theorem getD_append_replicate (l : List Word) (n k : Nat) : (l ++ List.replicate n 0#32).getD k 0#32 = l.getD k 0#32 := by
  rcases Nat.lt_or_ge k l.length with h | h
  · exact List.getD_append _ _ _ _ h
  · rw [List.getD_append_right _ _ _ _ h, List.getD_eq_default l _ h, List.getD_eq_getElem?_getD,
      List.getElem?_replicate]
    split <;> rfl

end Sys2Proof.Machine

namespace Sys2Proof

/-- Settles O12: the record is a list of known words, and a release tells the core and the wave what they keep. -/
theorem faultHalt : Obligations.FaultHalt := by
  unfold Obligations.FaultHalt
  refine ⟨fun s core slot w h cause addr tail ht => ?_, fun s core slot w x hw => ?_⟩
  · refine ⟨?_, rfl, rfl, rfl, rfl, rfl, rfl, rfl, rfl, rfl, rfl, rfl, rfl, rfl, rfl, rfl, rfl, fun k _ => ?_⟩
    · simp [State.faultRecord]
      omega
    · unfold State.faultRecord
      rw [List.getD_append_right _ _ _ _ (Nat.le_add_right 16 k)]
      show (tail ++ List.replicate (16 - tail.length) 0#32).getD (16 + k - 16) 0#32 = _
      rw [Nat.add_sub_cancel_left, getD_append_replicate]
  · have hcore := s.core_releaseWave core slot w x
    refine ⟨w.halted x, ?_, rfl, rfl, rfl, rfl, rfl, Wave.halted_still, fun e he => ?_, fun _ => rfl, fun _ => rfl, fun _ => rfl, rfl,
      rfl, rfl, rfl, ?_, ?_, s.sameMemory_releaseWave core slot w x⟩
    · rw [State.wave?_releaseWave, if_pos ⟨rfl, rfl⟩, hw, Option.map_some]
    · obtain ⟨a, ha, hs⟩ := Wave.storing_of_mem_halted he
      obtain ⟨q, hq, hst⟩ := Arm.cap_of_storing hs
      exact ⟨q, a, hq, hst, ha⟩
    · have hport : ((s.releaseWave core slot w x).core core).port = ((s.core core).released slot (w.halted x)).port :=
        (congrArg Core.port hcore :)
      rw [hport]
      unfold Core.released
      rw [Core.unclaim_port]
      show (if (s.core core).port = some slot then none else (s.core core).port) ≠ some slot
      split
      · exact (Option.some_ne_none slot).symm
      · assumption
    · have hqueue : ((s.releaseWave core slot w x).core core).queue = ((s.core core).released slot (w.halted x)).queue :=
        (congrArg Core.queue hcore :)
      rw [hqueue]
      unfold Core.released
      rw [Core.unclaim_queue]
      exact fun r hr => bne_iff_ne.1 (List.mem_filter.1 hr).2

end Sys2Proof
end
section
/-! ## Scalars and predicates

The words of the scalar tables, and the words that write predicates in the lanes of a mask (R44, R45, R125, R394, R396). -/
set_option Elab.async false

open Sys2Proof Sys2Proof.Machine

namespace Sys2Proof.Machine

/-- A word of the scalar table writes the value of the table. -/
theorem exec_scalarRule {s : State} {i : Instr} {c : Ctx} {d : Reg} {x : Word} (h : Ready s i c)
    (hr : Claims.scalarRule c i = some (d, x)) : exec i s = .next (Claims.wrote s c i (fun w => w.setS d.toNat x)) := by
  cases i with
  | sadd | ssub | smul | smulh | sand | sor | sxor | sandn | smin | smax | scmp | sclz | spopc | smov | saddImm | sandImm | sorImm
  | sxorImm | scmpImm | smovi | slih | maskp | vote =>
    cases hr
    exact State.run_scalar h rfl _
  | ssel d a b =>
    cases hr
    refine (State.run_scalar h rfl _).trans ?_
    rw [ite_not]
    rfl
  | _ => cases hr

theorem controls_setS (w : Wave) (n : Nat) (x : Word) : (w.setS n x).controls = w.controls := rfl

theorem controls_modArm (w : Wave) (n : Nat) (g : Arm → Arm) : (w.modArm n g).controls = w.controls := by
  unfold Wave.controls
  simp only [Wave.modArm_mode, Wave.modArm_flags, Wave.modArm_ltile, Wave.modArm_etrap, Wave.modArm_tfutl, Wave.modArm_tfuth,
    Wave.modArm_fcause, Wave.modArm_faddl, Wave.modArm_faddh, Wave.modArm_pres, Wave.modArm_aband]

theorem controls_setP (w : Wave) (n : Nat) (x : Mask) : (w.setP n x).controls = w.controls := by
  unfold Wave.setP
  split <;> rfl

/-- A wave's control registers but for FLAGS do not stand among the general registers. -/
theorem controls_of_offRegs {u w : Wave} (h : u.offRegs = w.offRegs) (hf : u.flags = w.flags) : u.controls = w.controls := by
  have e : u.offRegs.controls.set 1 u.flags = w.offRegs.controls.set 1 w.flags := by rw [h, hf]
  exact e

/-- PMASK writes the lanes of the arm's EXM (R396). -/
theorem exec_pmask {s : State} {c : Ctx} {p : PReg} {a : Reg} (h : Ready s (.pmask p a) c) :
    exec (.pmask p a) s = .next (Claims.wrote s c (.pmask p a)
      (fun w => w.setP p.toNat (mergeMask c.arm.exm (w.preg p.toNat) (c.wave.sreg a.toNat)))) :=
  State.run_scalar h rfl _

/-- A predicate after a masked write, lane by lane; p0 reads true (R44). -/
theorem getLsbD_preg_setP_mergeMask (w : Wave) (d : PReg) (m v : Mask) {l : Nat} (hl : l < 32) :
    ((w.setP d.toNat (mergeMask m (w.preg d.toNat) v)).preg d.toNat).getLsbD l =
      if d = 0#3 then true else if m.getLsbD l then v.getLsbD l else (w.preg d.toNat).getLsbD l := by
  rw [Wave.preg_setP]
  by_cases hd : d = 0#3
  · subst hd
    rw [if_neg (fun e => e.2 rfl), if_pos rfl]
    show (0xFFFFFFFF#32).getLsbD l = true
    rw [show (0xFFFFFFFF#32) = BitVec.allOnes 32 from rfl, BitVec.getLsbD_allOnes]
    exact decide_eq_true hl
  · have hn : d.toNat ≠ 0 := fun e => hd (BitVec.eq_of_toNat_eq e)
    rw [if_pos ⟨rfl, hn⟩, if_neg hd, getLsbD_mergeMask _ _ _ hl]

/-- A result that is one predicate in the enabled lanes. -/
def predResult (c : Ctx) (d : PReg) (v : Mask) : Result := { pdst := [(d.toNat, c.lanes, v)] }

/-- The words of predicate logic write the enabled lanes of one predicate (R394). -/
theorem exec_predicate {s : State} {i : Instr} {c : Ctx} (h : Ready s i c) (hv : (uses i).vs = []) {d : PReg} {v : Mask}
    {k : Ctx → State → State} (hi : exec i s = s.run i k) (hk : k c = c.predicate d v) :
    exec i s = .next (Claims.wrote s c i (fun w => (w.noteOld c.r.arm c.lanes (predResult c d v)).write c.lanes (predResult c d v))) := by
  have hp : c.popped = false := (State.ctx?_some h.ctx).2.2.2.2.2.2
  rw [hi, State.run_scalar h hv, hk]
  unfold Ctx.predicate
  rw [Ctx.retire_of_unpopped hp, Ctx.retireNow_of_own (fun e he => absurd he List.not_mem_nil)]
  rfl

theorem Wave.preg_noteOld (w : Wave) (a : Nat) (m : Mask) (x : Result) (n : Nat) : (w.noteOld a m x).preg n = w.preg n := by
  unfold Wave.preg
  rw [(w.noteOld_regs a m x).2.2.1]

/-- A wave after the write of one predicate in the enabled lanes. -/
structure PredWritten (c : Ctx) (d : PReg) (v : Mask) (w u : Wave) : Prop where
  lanes : ∀ l, l < 32 → (u.preg d.toNat).getLsbD l =
    if d = 0#3 then true else if c.lanes.getLsbD l then v.getLsbD l else (w.preg d.toNat).getLsbD l
  preds : ∀ n, n ≠ d.toNat → u.preg n = w.preg n
  scalars : ∀ n, u.sreg n = w.sreg n
  vectors : ∀ n, u.vreg n = w.vreg n
  controls : u.controls = w.controls

theorem Wave.predWritten (c : Ctx) (d : PReg) (v : Mask) (w : Wave) :
    PredWritten c d v w ((w.noteOld c.r.arm c.lanes (predResult c d v)).write c.lanes (predResult c d v)) := by
  obtain ⟨hs, hv, hp, hf⟩ := w.noteOld_regs c.r.arm c.lanes (predResult c d v)
  have hpreg (n : Nat) : ((w.noteOld c.r.arm c.lanes (predResult c d v)).write c.lanes (predResult c d v)).preg n =
      (w.setP d.toNat (mergeMask c.lanes (w.preg d.toNat) v)).preg n := by
    rw [Wave.preg_write]
    show ((w.noteOld c.r.arm c.lanes (predResult c d v)).setP d.toNat (mergeMask c.lanes (Wave.preg _ d.toNat) v)).preg n = _
    rw [Wave.preg_setP, Wave.preg_setP, Wave.preg_noteOld, Wave.preg_noteOld]
  refine ⟨fun l hl => ?_, fun n hn => ?_, fun n => ?_, fun n => ?_, controls_of_offRegs ?_ ?_⟩
  · rw [hpreg, getLsbD_preg_setP_mergeMask _ _ _ _ hl]
  · rw [hpreg, Wave.preg_setP, if_neg (fun e => hn e.1)]
  · rw [Wave.sreg_write]
    exact congrArg (fun m => NMap.at m n 0#32) hs
  · rw [Wave.vreg_write]
    exact congrArg (fun m => NMap.at m n []) hv
  · rw [Wave.write_offRegs, Wave.noteOld_offRegs]
  · rw [Wave.flags_write, hf]
    exact BitVec.or_zero

end Sys2Proof.Machine

namespace Sys2Proof

/-- Settles O14: the effect of a word of the table is a write of its scalar register. -/
theorem scalarTable : Obligations.ScalarTable := by
  unfold Obligations.ScalarTable
  refine ⟨fun s c i d x h hr => exec_scalarRule h hr, fun s t c i d x h hl hr ht => ?_⟩
  obtain rfl : Claims.wrote s c i (fun w => w.setS d.toNat x) = t := Host.Outcome.next.inj ((exec_scalarRule h hr).symm.trans ht)
  refine ⟨_, wrote_wave? h.ctx _, ?_, fun n hn => ?_, fun n => ?_, fun n => ?_, ?_, fun k j hkj => ?_, fun k => ?_, sameMemory_wrote hl _,
    sameScratch_wrote _ _ _ _⟩
  · rw [Wave.sreg_modArm, Wave.sreg_setS, if_pos rfl]
  · rw [Wave.sreg_modArm, Wave.sreg_setS, if_neg hn]
  · rw [Wave.vreg_modArm, Wave.vreg_setS]
  · rw [Wave.preg_modArm, Wave.preg_setS]
  · rw [controls_modArm, controls_setS]
  · exact wrote_wave?_other hkj i _
  · obtain ⟨m, l, o, hk⟩ := wrote_core s c i (fun w => w.setS d.toNat x) k
    rw [hk]
    exact ⟨rfl, rfl, rfl⟩

/-- Settles O18: PMASK and the predicate logic write one predicate in the lanes of a mask. -/
theorem predicateWrites : Obligations.PredicateWrites := by
  unfold Obligations.PredicateWrites
  refine ⟨fun s c p a h hl => ?_, fun s c i d f h hl hi => ?_⟩
  · refine ⟨_, _, exec_pmask h, wrote_wave? h.ctx _, fun l hl => ?_, fun q hq => ?_, fun n => ?_, fun n => ?_, ?_, sameMemory_wrote hl _⟩
    · rw [Wave.preg_modArm, getLsbD_preg_setP_mergeMask _ _ _ _ hl]
    · rw [Wave.preg_modArm, Wave.preg_setP, if_neg (fun e => hq e.1)]
    · rw [Wave.sreg_modArm, Wave.sreg_setP]
    · rw [Wave.vreg_modArm, Wave.vreg_setP]
    · rw [controls_modArm, controls_setP]
  · obtain ⟨v, hv, hx⟩ : ∃ v : Mask, (∀ l, l < 32 → v.getLsbD l = f l) ∧ exec i s = .next (Claims.wrote s c i
        (fun w => (w.noteOld c.r.arm c.lanes (predResult c d v)).write c.lanes (predResult c d v))) := by
      rcases hi with ⟨a, b, g, rfl, hf⟩ | ⟨a, b, g, rfl, hf⟩ | ⟨a, b, g, rfl, hf⟩ | ⟨a, g, rfl, hf⟩
      · exact ⟨_, fun l _ => by rw [BitVec.getLsbD_and, hf], exec_predicate h rfl rfl rfl⟩
      · exact ⟨_, fun l _ => by rw [BitVec.getLsbD_or, hf], exec_predicate h rfl rfl rfl⟩
      · exact ⟨_, fun l _ => by rw [BitVec.getLsbD_xor, hf], exec_predicate h rfl rfl rfl⟩
      · exact ⟨_, fun l hl => by rw [BitVec.getLsbD_not, hf, decide_eq_true hl, Bool.true_and], exec_predicate h rfl rfl rfl⟩
    have hw := c.wave.predWritten c d v
    refine ⟨_, _, hx, wrote_wave? h.ctx _, fun l hl => ?_, fun n hn => ?_, fun n => ?_, fun n => ?_, ?_, sameMemory_wrote hl _,
      sameScratch_wrote _ _ _ _⟩
    · rw [Wave.preg_modArm, hw.lanes l hl, hv l hl]
    · rw [Wave.preg_modArm, hw.preds n hn]
    · rw [Wave.sreg_modArm, hw.scalars]
    · rw [Wave.vreg_modArm, hw.vectors]
    · rw [controls_modArm, hw.controls]

/-- Settles O26, from what a write makes of each register file. -/
theorem predicateZero : Obligations.PredicateZero := by
  unfold Obligations.PredicateZero
  refine fun w m x => ⟨rfl, rfl, fun n v h hu => ?_, fun n v h hu => ?_, fun n k v h => ?_⟩
  · rw [Wave.sreg_write, Wave.sreg_setSs_of_mem h hu]
  · rw [Wave.vreg_write, Wave.vreg_writeV_of_mem h hu]
  · rw [Wave.preg_write, h]
    exact Wave.preg_setP_zero w n (mergeMask k (w.preg 0) v)

end Sys2Proof
end
section
/-! ## Control registers, indexed registers and message ports

GETC and SETC (R69 to R72), SXGET and SXSET (R183, R435, R436), and a word that has issued and waits. -/
set_option Elab.async false

open Sys2Proof Sys2Proof.Machine

namespace Sys2Proof.Machine

/-! ### Words whose operands are captured -/

/-- The context of a word in a state that its class and its core's own data may have changed, but not its wave. -/
structure Ctx.Stands (c : Ctx) (s : State) (i : Instr) : Prop where
  wave : s.wave? c.r.core c.r.slot = some c.wave
  arm : NMap.get? c.wave.arms c.r.arm = some c.arm
  ins : c.ins = i
  free : c.held = none
  popped : c.popped = false

theorem Ctx.stands {s : State} {i : Instr} {c : Ctx} (h : s.ctx? i = some c) : c.Stands s i := by
  obtain ⟨-, hw, ha, -, -, -, hp⟩ := State.ctx?_some h
  have hc : c.ins = i ∧ c.held = none := by
    unfold State.ctx? at h
    split at h
    · cases h
    · split at h
      · cases h
      · obtain ⟨a, -, rfl⟩ := Option.map_eq_some_iff.1 h
        exact ⟨rfl, rfl⟩
  exact ⟨hw, ha, hc.1, hc.2, hp⟩

theorem Ctx.Stands.of_wave? {c : Ctx} {s t : State} {i : Instr} (h : c.Stands s i)
    (ht : t.wave? c.r.core c.r.slot = s.wave? c.r.core c.r.slot) : c.Stands t i :=
  { h with wave := ht.trans h.wave }

theorem Ready.stands {s : State} {i : Instr} {c : Ctx} (h : Ready s i c) : c.Stands (s.noted c i) i :=
  (Ctx.stands h.ctx).of_wave? (s.noted_wave? c i _ _)

/-- A wave with the marks of a producer that reserves no stream element (R50). -/
def Ctx.marked (c : Ctx) (x : Result) (f : Flight) (id : Nat) (w : Wave) : Wave :=
  { w with sEmpty := w.sEmpty ++ x.sdst.map (fun (e : Nat × Word) => (e.1, id)),
           pHeld := w.pHeld ++ f.holdsPreds.map (fun (q : Nat) => (q, id)),
           inflight := w.inflight ++ [c.flight x f id []] }.modArm c.r.arm
    (fun a => { a with empty := a.empty ++ (c.ownDst x).vdst.map (fun (e : Nat × LaneVec) => (e.1, id)) })

theorem Ctx.mark_of_own {c : Ctx} {x : Result} (hh : c.held = none) (hp : c.pushes x = []) (f : Flight) (s : State) :
    c.mark x f s = (s.handles, ({ s with handles := s.handles + 1 } : State).modWave c.r.core c.r.slot (c.marked x f s.handles)) := by
  unfold Ctx.mark
  simp only [hh, hp, List.map_nil, ite_self]
  rfl

theorem Ctx.marked_arm {c : Ctx} {w : Wave} {a : Arm} (h : NMap.get? w.arms c.r.arm = some a) (x : Result) (f : Flight) (id : Nat) :
    NMap.get? (c.marked x f id w).arms c.r.arm =
      some { a with empty := a.empty ++ (c.ownDst x).vdst.map (fun (e : Nat × LaneVec) => (e.1, id)) } := by
  unfold Ctx.marked
  rw [Wave.get?_modArm, if_pos rfl]
  exact congrArg (Option.map _) h

/-- A wave without its arms, its producers in flight and what they mark. -/
def Wave.offMarks (w : Wave) : Wave := { w with arms := [], sEmpty := [], pHeld := [], inflight := [] }

theorem Wave.modArm_offMarks (w : Wave) (n : Nat) (g : Arm → Arm) : (w.modArm n g).offMarks = w.offMarks := by
  unfold Wave.modArm
  split <;> rfl

theorem Ctx.marked_offMarks (c : Ctx) (x : Result) (f : Flight) (id : Nat) (w : Wave) : (c.marked x f id w).offMarks = w.offMarks :=
  Wave.modArm_offMarks _ _ _

/-- A producer that stands for an instruction which waits. -/
def Pending.holdAt (id : Nat) (p : Pending) : Pending := if p.id = id then { p with held := true } else p

theorem Pending.holdAt_isMem (id : Nat) (p : Pending) : (p.holdAt id).isMem = p.isMem := by
  unfold Pending.holdAt
  split <;> rfl

/-- What a wave is whose arm is held by an instruction that has issued (R50): its registers are as they were, and the scalars that the
instruction is to write are empty. -/
structure HeldFor (s : State) (c : Ctx) (i : Instr) (h : Hold) (mem : Bool) (t : State) (w : Wave) : Prop where
  wave : t.wave? c.r.core c.r.slot = some w
  arm : NMap.get? w.arms c.r.arm = some { c.arm with hold := h, cap := some (c.capture s.handles) }
  rest : w.offMarks = c.wave.offMarks
  empties : w.sEmpty = c.wave.sEmpty ++ (heldDst i).2.map (fun r => (r, s.handles))
  loading : w.loading = (c.wave.loading || mem)
  core : ∀ d, (t.core d).offSlots = (s.core d).offSlots
  memory : s.sameMemory t
  scratch : s.sameScratch t

/-- What the instruction that is held is to write, before it has any result. -/
def heldResult (i : Instr) : Result := { sdst := (heldDst i).2.map (fun r => (r, 0#32)) }

theorem Ctx.Stands.holdFor_eq {c : Ctx} {s : State} {i : Instr} (hs : c.Stands s i) (hc : c.arm.cap = none) (hv : (heldDst i).1 = [])
    (h : Hold) (mem : Bool) : c.holdFor h mem s =
      (((({ s with handles := s.handles + 1 } : State).modWave c.r.core c.r.slot
        (c.marked (heldResult i) { isMem := mem, left := 1 } s.handles)).modWave c.r.core c.r.slot
        (fun w => { w with inflight := w.inflight.map (Pending.holdAt s.handles) })).modArm c.r
        (fun a => { a with hold := h, cap := some (c.capture s.handles) })) := by
  have hm := Ctx.mark_of_own (x := heldResult i) hs.free rfl { isMem := mem, left := 1 } s
  have hx : (⟨(heldDst i).1.map (fun r => (r, [])), (heldDst i).2.map (fun r => (r, 0#32)), [], 0#32⟩ : Result) = heldResult i := by
    rw [hv]
    rfl
  unfold Ctx.holdFor
  rw [hc, hs.ins]
  simp only [hx, hm]
  rfl

/-- A word that is to write no vector register captures its operands and holds its arm. -/
theorem Ctx.Stands.holdFor {c : Ctx} {s : State} {i : Instr} (hs : c.Stands s i) (hc : c.arm.cap = none) (hv : (heldDst i).1 = [])
    (h : Hold) (mem : Bool) : ∃ w, HeldFor s c i h mem (c.holdFor h mem s) w := by
  have h1 := State.wave?_modWave_self (s := { s with handles := s.handles + 1 }) hs.wave
    (c.marked (heldResult i) { isMem := mem, left := 1 } s.handles)
  have h2 := State.wave?_modWave_self h1 (fun w => { w with inflight := w.inflight.map (Pending.holdAt s.handles) })
  have h3 := State.wave?_modWave_self h2 (fun w => w.modArm c.r.arm (fun a => { a with hold := h, cap := some (c.capture s.handles) }))
  rw [hs.holdFor_eq hc hv h mem]
  refine ⟨_, h3, ?_, ?_, ?_, ?_, fun d => ?_, ?_, ?_⟩
  · rw [Wave.get?_modArm, if_pos rfl]
    refine (congrArg (Option.map _) (Ctx.marked_arm hs.arm _ _ _)).trans ?_
    simp [heldResult, Ctx.ownDst]
  · exact (Wave.modArm_offMarks _ _ _).trans (c.marked_offMarks (heldResult i) { isMem := mem, left := 1 } s.handles c.wave)
  · rw [Wave.modArm_sEmpty]
    show (c.marked (heldResult i) _ s.handles c.wave).sEmpty = _
    unfold Ctx.marked
    rw [Wave.modArm_sEmpty, heldResult, List.map_map]
    rfl
  · unfold Wave.loading
    rw [Wave.modArm_inflight, List.any_map]
    show (c.marked (heldResult i) _ s.handles c.wave).inflight.any _ = _
    unfold Ctx.marked
    rw [Wave.modArm_inflight, List.any_append]
    simp [Function.comp_def, Pending.holdAt_isMem, Ctx.flight]
  · exact (State.offSlots_modWave _ _ _ _ _).trans ((State.offSlots_modWave _ _ _ _ _).trans (State.offSlots_modWave _ _ _ _ _))
  · exact ((State.sameMemory_modWave { s with handles := s.handles + 1 } _ _ _).trans (State.sameMemory_modWave _ _ _ _)).trans
      (State.sameMemory_modWave _ _ _ _)
  · exact ((State.sameScratch_modWave { s with handles := s.handles + 1 } _ _ _).trans (State.sameScratch_modWave _ _ _ _)).trans
      (State.sameScratch_modWave _ _ _ _)

/-- A word without destinations that has issued holds its arm, and nothing else of its wave changes. -/
theorem Ctx.Stands.held {c : Ctx} {s : State} {i : Instr} (hs : c.Stands s i) (hc : c.arm.cap = none) (hd : heldDst i = ([], []))
    (h : Hold) : Claims.Held s c i h (c.holdFor h false s) := by
  obtain ⟨w, hw⟩ := hs.holdFor hc (congrArg Prod.fst hd) h false
  have hr := hw.rest
  refine ⟨w, _, _, hw.wave, hw.arm, rfl, rfl, hs.ins, rfl, rfl, rfl, rfl, rfl, ?_, rfl, rfl, rfl, rfl, (congrArg Wave.s hr :),
    (congrArg Wave.v hr :), (congrArg Wave.p hr :), ?_, (congrArg Wave.controls hr :), ?_, hw.memory, hw.scratch⟩
  · show (uses c.ins).ss.map _ = _
    rw [hs.ins]
  · rw [hw.empties, hd]
    exact List.append_nil _
  · rw [hw.loading, Bool.or_false]

end Sys2Proof.Machine
end
section
/-! ## GETC, SETC, SXGET and SXSET -/
set_option Elab.async false

open Sys2Proof Sys2Proof.Machine

namespace Sys2Proof.Machine

/-! ### What a control register reads -/

theorem Wave.spld_eq (w : Wave) :
    w.spld = BitVec.ofNat 32 (w.groups.length * 2 ^ 6 + (if w.groups = [] then 0 else 2 ^ 5) + w.stack.length) := by
  unfold Wave.spld Wave.isSplit
  cases h : w.groups with
  | nil => simp
  | cons g l =>
    simp only [List.isEmpty_cons, Bool.not_false, if_true, reduceCtorEq, if_false]
    congr 1
    omega

theorem waveWord_eq (t : Team) (slot : Nat) (w : Wave) :
    waveWord t slot w = BitVec.ofNat 32 ((t.size - 1) * 2 ^ 22 + slot * 2 ^ 16 + (if w.isTask then 2 ^ 15 else 0) + w.idx) := by
  unfold waveWord
  congr 1
  omega

theorem State.mstat_eq (s : State) (core : Nat) : s.mstat core = BitVec.ofNat 32
    ((if (s.cluster (core / 8)).ganged then 2 ^ 2 else 0) + (if (s.core core).matrixBusyBit then 2 else 0) +
      (if (s.core core).narrow then 1 else 0)) := by
  refine congrArg (BitVec.ofNat 32) ?_
  rw [Nat.add_comm, Nat.add_comm (ite ((s.core core).narrow = true) _ _), Nat.add_assoc]
  rfl

theorem Core.penn_eq (k : Core) (slot : Nat) : k.penn slot = match k.holder with
    | some h => BitVec.ofNat 32 ((if h = slot then 2 ^ 9 else 0) + 2 ^ 8 + h)
    | none => 0#32 := by
  unfold Core.penn
  cases k.holder with
  | none => rfl
  | some h =>
    show BitVec.ofNat 32 _ = BitVec.ofNat 32 _
    congr 1
    omega

theorem Core.dqdep_eq (k : Core) : k.dqdep = BitVec.ofNat 32 ((k.ext.length + 63) / 64 * 2 ^ 16 + k.sram.length) := by
  unfold Core.dqdep
  rw [Nat.add_comm]

theorem hi32_toNat (x : DWord) : hi32 x.toNat = x.extractLsb' 32 32 := by
  unfold hi32 BitVec.extractLsb'
  rw [Nat.shiftRight_eq_div_pow]

/-- GETC reads the value of each of the 28 registers of R71. -/
theorem Ctx.control_eq (c : Ctx) (s : State) {n : Nat} (h : n < 28) : c.control s n = some (Claims.controlValue s c n) := by
  unfold Ctx.control Claims.controlValue
  simp only [Wave.spld_eq, waveWord_eq, State.mstat_eq, Core.penn_eq, Core.dqdep_eq, hi32_toNat]
  interval_cases n <;> rfl

theorem Ctx.control_none (c : Ctx) (s : State) {n : Nat} (h : 28 ≤ n) : c.control s n = none := by
  obtain ⟨m, rfl⟩ := Nat.exists_eq_add_of_le' h
  rfl

theorem Ctx.control_noted (c : Ctx) (s : State) (i : Instr) (n : Nat) : c.control (s.noted c i) n = c.control s n := by
  unfold State.noted
  split
  · exact c.control_noteClass ..
  · rfl

theorem Wave.flagsPending_of_all {w : Wave} (h : w.inflight.all (fun p => !p.hasFlags) = true) : w.flagsPending = false := by
  unfold Wave.flagsPending
  rw [← Bool.not_eq_true, List.any_eq_true]
  rintro ⟨p, hp, hf⟩
  have := List.all_eq_true.1 h p hp
  rw [hf] at this
  cases this

/-- A write that R71 does not allow. -/
theorem setControl_none {n : Nat} {v : Word} (h : (n = 0 ∧ 4 ≤ v.toNat) ∨ (n = 1 ∧ 32 ≤ v.toNat) ∨ (n = 2 ∧ 5 ≤ v.toNat) ∨
    (n = 3 ∧ 8 ≤ v.toNat) ∨ (5 ≤ n ∧ n ≤ 11) ∨ (14 ≤ n ∧ n ≤ 24) ∨ (n = 25 ∧ v &&& 0x7F000000#32 ≠ 0#32) ∨ 26 ≤ n) :
    n ≠ 4 ∧ setControl n v = none := by
  obtain ⟨rfl, h⟩ | ⟨rfl, h⟩ | ⟨rfl, h⟩ | ⟨rfl, h⟩ | ⟨h, g⟩ | ⟨h, g⟩ | ⟨rfl, h⟩ | h := h
  · exact ⟨by decide, if_neg (Nat.not_lt.2 h)⟩
  · exact ⟨by decide, if_neg (Nat.not_lt.2 h)⟩
  · exact ⟨by decide, if_neg (Nat.not_lt.2 h)⟩
  · exact ⟨by decide, if_neg (Nat.not_lt.2 h)⟩
  · interval_cases n <;> exact ⟨by decide, rfl⟩
  · interval_cases n <;> exact ⟨by decide, rfl⟩
  · exact ⟨by decide, if_neg h⟩
  · obtain ⟨m, rfl⟩ := Nat.exists_eq_add_of_le' h
    exact ⟨by omega, rfl⟩

section
variable {s : State} {c : Ctx}

theorem exec_getc {d : Reg} {n : BitVec 13} (h : Ready s (.getc d n) c) :
    exec (.getc d n) s = .next (match c.control s n.toNat with
      | none => c.illegal (s.noted c (.getc d n))
      | some v => if n.toNat = 1 ∧ c.wave.flagsPending then (s.noted c (.getc d n)).hold c.r .flags
        else Claims.wrote s c (.getc d n) (fun w =>
          { w with cycCap := if n.toNat = 16 then some (s.stack (c.r.core / 128)).ck else w.cycCap }.setS d.toNat v)) := by
  refine (State.run_scalar h rfl _).trans ?_
  have hk : ∀ k, (s.noted c (.getc d n)).stack k = s.stack k := fun k => by
    unfold State.stack; rw [(s.noted_hardware c (.getc d n)).2.1]
  simp only [Ctx.control_noted, hk, Ctx.wait, h.fresh, Option.isSome_none, Bool.false_eq_true, if_false]
  rfl

/-- SETC of a register that is written in the wave. -/
theorem exec_setc_some {a : Reg} {n : BitVec 13} {f : Wave → Wave} (h : Ready s (.setc a n) c) (hn : n.toNat ≠ 4)
    (hf : setControl n.toNat (c.wave.sreg a.toNat) = some f) (hp : n.toNat = 1 → c.wave.flagsPending = false) :
    exec (.setc a n) s = .next (Claims.wrote s c (.setc a n) f) := by
  refine (State.run_scalar h rfl _).trans ?_
  have hw : ¬ (n.toNat = 1 ∧ c.wave.flagsPending = true) := fun ⟨h1, h2⟩ => by rw [hp h1] at h2; cases h2
  simp only [if_neg hn, hf, if_neg hw]
  rfl

theorem exec_setc_none {a : Reg} {n : BitVec 13} (h : Ready s (.setc a n) c) (hn : n.toNat ≠ 4)
    (hf : setControl n.toNat (c.wave.sreg a.toNat) = none) :
    exec (.setc a n) s = .next (c.illegal (s.noted c (.setc a n))) := by
  refine (State.run_scalar h rfl _).trans ?_
  simp only [if_neg hn, hf]

theorem exec_setc_exm {a : Reg} {n : BitVec 13} (h : Ready s (.setc a n) c) (hn : n.toNat = 4) :
    exec (.setc a n) s = .next ((s.noted c (.setc a n)).modArm c.r
      (fun x => { x.advance with exm := c.wave.sreg a.toNat &&& x.entry })) := by
  refine (State.run_scalar h rfl _).trans ?_
  simp only [if_pos hn]

end
theorem Ctx.isPort_noted (c : Ctx) (s : State) (i : Instr) (q : Nat) : c.isPort (s.noted c i) q = c.isPort s q := by
  obtain ⟨l, o, h⟩ := s.noted_core c i c.r.core
  unfold Ctx.isPort
  rw [h]

section
variable {s : State} {c : Ctx}

theorem exec_sxget {d a : Reg} (h : Ready s (.sxget d a) c) : exec (.sxget d a) s = .next (
    let q := (c.wave.sreg a.toNat).toNat
    let n := s.noted c (.sxget d a)
    if c.isPort s q then
      if q = 504 then Claims.wrote s c (.sxget d a) (fun w => w.setS d.toNat ((s.core c.r.core).pDest &&& 0x3FF#32))
      else if q = 505 then Claims.wrote s c (.sxget d a) (fun w => w.setS d.toNat 0#32)
      else if q = 506 then c.popMessage d n
      else Claims.wrote s c (.sxget d a) (fun w => w.setS d.toNat (s.core c.r.core).portStatus)
    else if c.wave.sregN ≤ q then c.fault 0x10 0 q n
    else if c.sEmpty q then n.modArm c.r (fun x => { x with hold := .wait .empty })
    else Claims.wrote s c (.sxget d a) (fun w => w.setS d.toNat (c.wave.sreg q))) := by
  refine (State.run_scalar h rfl _).trans ?_
  obtain ⟨l, o, hk⟩ := s.noted_core c (.sxget d a) c.r.core
  simp only [Ctx.isPort_noted, hk, h.stands.free, Ctx.wait, h.fresh, Option.isNone_none, true_and, Option.isSome_none,
    Bool.false_eq_true, if_false]
  rfl

theorem exec_sxset {a b : Reg} (h : Ready s (.sxset a b) c) : exec (.sxset a b) s = .next (
    let q := (c.wave.sreg a.toNat).toNat
    let x := c.wave.sreg b.toNat
    let n := s.noted c (.sxset a b)
    if c.isPort s q then
      if q = 504 then (n.modCore c.r.core (fun k => { k with pDest := x })).modArm c.r Arm.advance
      else if q = 505 then c.sendMessage x n
      else if q = 506 then c.illegal n
      else (n.modCore c.r.core (fun k => { k with pDrop := k.pDrop && x.getLsbD 31 })).modArm c.r Arm.advance
    else if c.wave.sregN ≤ q then c.fault 0x10 0 q n
    else if c.sEmpty q then n.modArm c.r (fun x => { x with hold := .wait .empty })
    else Claims.wrote s c (.sxset a b) (fun w => w.setS q x)) := by
  refine (State.run_scalar h rfl _).trans ?_
  simp only [Ctx.isPort_noted, Ctx.wait, h.fresh, Option.isSome_none, Bool.false_eq_true, if_false]
  rfl

/-- One message is sent once the injection buffer has room (R183, R184). -/
theorem sendMessage_noted (hf : c.arm.cap = none) (x : Word) (i : Instr) : c.sendMessage x (s.noted c i) =
    if 16 ≤ (s.core c.r.core).txq.length then (s.noted c i).modArm c.r (fun y => { y with hold := .wait .inject })
    else if 1024 ≤ (s.core c.r.core).pDest.toNat then c.fault 0x10 0 (s.core c.r.core).pDest.toNat (s.noted c i)
    else ((s.noted c i).modCore c.r.core (fun k => { k with txq := k.txq ++
      [{ payload := x, job := c.job.jid, src := c.r.core, sslot := c.r.slot, suid := c.wave.uid,
         dst := (s.core c.r.core).pDest.toNat }] })).modArm c.r Arm.advance := by
  obtain ⟨l, o, hk⟩ := s.noted_core c i c.r.core
  unfold Ctx.sendMessage Ctx.wait
  simp only [State.modCore, hk, hf, Option.isSome_none, Bool.false_eq_true, if_false]
  rfl

/-- A read of s506 without a message waits with its destination empty (R183). -/
theorem popMessage_empty {d a : Reg} (h : Ready s (.sxget d a) c) (hq : (s.core c.r.core).rxq = []) :
    ∃ w x, (c.popMessage d (s.noted c (.sxget d a))).wave? c.r.core c.r.slot = some w ∧ NMap.get? w.arms c.r.arm = some x ∧
      x.hold = .wait .port ∧ x.pc = c.arm.pc ∧ x.word = c.arm.word ∧ (∃ e, e ∈ w.sEmpty ∧ e.1 = d.toNat) ∧
      (∀ k, w.sreg k = c.wave.sreg k) ∧ (∀ k, w.vreg k = c.wave.vreg k) ∧ (∀ k, w.preg k = c.wave.preg k) ∧
      ((c.popMessage d (s.noted c (.sxget d a))).core c.r.core).rxq = [] := by
  have hn : ((s.noted c (.sxget d a)).core c.r.core).rxq = [] := by
    obtain ⟨l, o, hk⟩ := s.noted_core c (.sxget d a) c.r.core
    rw [hk]
    exact hq
  have he : c.popMessage d (s.noted c (.sxget d a)) = c.holdFor (.wait .port) false (s.noted c (.sxget d a)) := by
    unfold Ctx.popMessage
    rw [hn]
  obtain ⟨w, hw⟩ := h.stands.holdFor h.fresh rfl (.wait .port) false
  have hr := hw.rest
  rw [he]
  refine ⟨w, _, hw.wave, hw.arm, rfl, rfl, rfl, ?_, fun k => ?_, fun k => ?_, fun k => ?_, ?_⟩
  · rw [hw.empties]
    exact ⟨_, List.mem_append_right _ (List.mem_singleton_self _), rfl⟩
  · exact (congrArg (fun v : Wave => v.sreg k) hr :)
  · exact (congrArg (fun v : Wave => v.vreg k) hr :)
  · exact (congrArg (fun v : Wave => v.preg k) hr :)
  · exact (congrArg Core.rxq (hw.core c.r.core) :).trans hn

end

end Sys2Proof.Machine

namespace Sys2Proof
open Machine

/-- Settles O20, register by register: the value of each index, and the write that each index allows. -/
theorem controlRegisters : Obligations.ControlRegisters := by
  unfold Obligations.ControlRegisters
  refine ⟨⟨fun s c d n h hn hp => ?_, fun s c d n h hn => ?_, fun s c d h ⟨p, hp, hf⟩ => ?_⟩, fun s c a n h hp => ?_⟩
  · have hw : ¬ (n.toNat = 1 ∧ c.wave.flagsPending = true) := fun ⟨h1, h2⟩ => by
      rw [Wave.flagsPending_of_all (hp h1)] at h2; cases h2
    rw [exec_getc h, Ctx.control_eq c s hn]
    simp only [if_neg hw]
  · rw [exec_getc h, Ctx.control_none c s hn]
    rfl
  · have hw : c.wave.flagsPending = true := List.any_eq_true.2 ⟨p, hp, hf⟩
    rw [exec_getc h, Ctx.control_eq c s (by decide)]
    exact congrArg Host.Outcome.next (if_pos ⟨rfl, hw⟩)
  · have hq : n.toNat = 1 → c.wave.flagsPending = false := fun h1 => Wave.flagsPending_of_all (hp h1)
    refine ⟨fun hn hv => ?_, fun hn hv => ?_, fun hn hv => ?_, fun hn hv => ?_, exec_setc_exm h, fun hn => ?_, fun hn => ?_,
      fun hn hv => ?_, fun hn => ?_⟩
    · exact exec_setc_some h (by omega) (by rw [hn]; exact if_pos hv) hq
    · exact exec_setc_some h (by omega) (by rw [hn]; exact if_pos hv) hq
    · exact exec_setc_some h (by omega) (by rw [hn]; exact if_pos hv) hq
    · exact exec_setc_some h (by omega) (by rw [hn]; exact if_pos hv) hq
    · exact exec_setc_some h (by omega) (by rw [hn]; rfl) hq
    · exact exec_setc_some h (by omega) (by rw [hn]; rfl) hq
    · exact exec_setc_some h (by omega) (by rw [hn]; exact if_pos hv) hq
    · obtain ⟨h4, hs⟩ := setControl_none hn
      exact exec_setc_none h h4 hs

/-- Settles O19, index by index: below the count, above it, an empty register, and each of the four ports. -/
theorem scalarIndex : Obligations.ScalarIndex := by
  unfold Obligations.ScalarIndex
  refine ⟨fun s c d a b => ⟨fun h hp => ?_, fun h hp => ?_⟩, fun s c d a b => ⟨fun h hp => ?_, fun h hp => ?_⟩⟩
  · rw [exec_sxget h]
    simp only [hp, Bool.false_eq_true, if_false]
    refine ⟨fun hq he => ?_, fun hq => ?_, fun hq he => ?_⟩
    · simp only [if_neg (Nat.not_le.2 hq), he, Bool.false_eq_true, if_false]
    · rw [if_pos hq]
    · simp only [if_neg (Nat.not_le.2 hq), he, if_true]
  · rw [exec_sxset h]
    simp only [hp, Bool.false_eq_true, if_false]
    refine ⟨fun hq he => ?_, fun hq => ?_, fun hq he => ?_⟩
    · simp only [if_neg (Nat.not_le.2 hq), he, Bool.false_eq_true, if_false]
    · rw [if_pos hq]
    · simp only [if_neg (Nat.not_le.2 hq), he, if_true]
  · rw [exec_sxget h]
    simp only [hp, if_true]
    refine ⟨fun hq => ?_, fun hq => ?_, fun hq => ?_, fun hq m ms hm => ?_, fun hq hm => ?_⟩
    · rw [if_pos hq]
    · rw [if_neg (by omega), if_neg (by omega), if_neg (by omega)]
      rfl
    · rw [if_neg (by omega), if_pos hq]
    · obtain ⟨l, o, hk⟩ := s.noted_core c (.sxget d a) c.r.core
      rw [if_neg (by omega), if_neg (by omega), if_pos hq]
      unfold Ctx.popMessage
      simp only [hk, hm]
    · rw [if_neg (by omega), if_neg (by omega), if_pos hq]
      obtain ⟨w, x, hw⟩ := popMessage_empty h hm
      exact ⟨_, w, x, rfl, hw⟩
  · rw [exec_sxset h]
    simp only [hp, if_true]
    refine ⟨fun hq => ?_, fun hq => ?_, fun hq ht => ?_, fun hq ht hd => ?_, fun hq hd ht => ?_, fun hq => ?_⟩
    · rw [if_pos hq]
    · rw [if_neg (by omega), if_neg (by omega), if_neg (by omega)]
    · rw [if_neg (by omega), if_pos hq, sendMessage_noted h.fresh, if_pos ht]
    · rw [if_neg (by omega), if_pos hq, sendMessage_noted h.fresh, if_neg (Nat.not_le.2 ht), if_pos hd]
    · rw [if_neg (by omega), if_pos hq, sendMessage_noted h.fresh, if_neg (Nat.not_le.2 ht), if_neg (Nat.not_le.2 hd)]
    · rw [if_neg (by omega), if_neg (by omega), if_pos hq]
      rfl

end Sys2Proof
end
section
/-! ## The vector pipe: compares, results, streams and producers

What the stream ports that a word reads leave (R181), VCMP (R448), results at once (R45) and in flight (R50). -/
set_option Elab.async false

open Sys2Proof Sys2Proof.Machine

namespace Sys2Proof.Machine

/-! ### The context in which a word's own effect takes place -/

/-- A wave without its vector registers. -/
def Wave.offVectors (w : Wave) : Wave := { w with v := [] }

/-- What the pops of a word leave alone (R181): of the context all but the wave's vector registers, of the state all but the rings of
the wave's team. -/
structure Popped (c b : Ctx) (s t : State) : Prop where
  ref : b.r = c.r
  arm : b.arm = c.arm
  lanes : b.lanes = c.lanes
  job : b.job = c.job
  held : b.held = c.held
  wave : b.wave.offVectors = c.wave.offVectors
  place : ∀ d k, t.wave? d k = s.wave? d k
  allocs : t.allocs = s.allocs
  mem : t.mem = s.mem
  host : t.hostMem = s.hostMem
  poison : t.poison = s.poison

theorem Popped.refl (c : Ctx) (s : State) : Popped c c s s :=
  ⟨rfl, rfl, rfl, rfl, rfl, rfl, fun _ _ => rfl, rfl, rfl, rfl, rfl⟩

theorem Popped.sameMemory {c b : Ctx} {s t : State} (h : Popped c b s t) : s.sameMemory t := .of_eq h.mem h.host h.poison

theorem Popped.portBank {c b : Ctx} {s t : State} (h : Popped c b s t) (n : Nat) : b.wave.portBank n = c.wave.portBank n :=
  (congrArg (fun w : Wave => w.portBank n) h.wave :)

/-- The context of a word whose ports have been read. -/
def Ctx.withPops (c : Ctx) (es : List (Nat × LaneVec)) : Ctx :=
  { c with wave := es.foldl (fun w x => w.setV x.1 x.2) c.wave, popped := true }

/-- A state whose team holds other rings. -/
def State.withRings (s : State) (tid : Nat) (rings : NMap (List Elem)) : State := s.modTeam tid (fun t => { t with rings := rings })

theorem State.begun_of_popAll {s : State} {c : Ctx} {i : Instr} {rings : NMap (List Elem)} {e : Nat × LaneVec} {es : List (Nat × LaneVec)}
    (hl : c.lanes ≠ 0#32) (h : popAll c.team.rings (c.wave.portsOf ((uses i).vs.map (fun y => y.1))) = some (rings, e :: es)) :
    s.begun c i = (c.withPops (e :: es), (s.noted c i).withRings c.wave.tid rings) := by
  unfold State.begun Ctx.pop
  rw [if_neg hl, h]
  rfl

/-- A word begins with its pops made, or as it was. -/
theorem State.begun_cases (s : State) (c : Ctx) (i : Instr) : s.begun c i = (c, s.noted c i) ∨
    ∃ rings e es, c.lanes ≠ 0#32 ∧ s.begun c i = (c.withPops (e :: es), (s.noted c i).withRings c.wave.tid rings) := by
  by_cases hl : c.lanes = 0#32
  · refine .inl ?_
    unfold State.begun Ctx.pop
    rw [if_pos hl]
  · match h : popAll c.team.rings (c.wave.portsOf ((uses i).vs.map (fun y => y.1))) with
    | some (rings, e :: es) => exact .inr ⟨rings, e, es, hl, State.begun_of_popAll hl h⟩
    | some (rings, []) =>
      refine .inl ?_
      unfold State.begun Ctx.pop
      rw [if_neg hl, h]
    | none =>
      refine .inl ?_
      unfold State.begun Ctx.pop
      rw [if_neg hl, h]

theorem State.begun_of_unpopped {s : State} {c : Ctx} {i : Instr} (h : (s.begun c i).1.popped = false) :
    s.begun c i = (c, s.noted c i) := by
  obtain hb | ⟨rings, e, es, -, hb⟩ := s.begun_cases c i
  · exact hb
  · rw [hb] at h
    exact Bool.noConfusion (h : true = false)

theorem State.begun_of_no_lane {s : State} {c : Ctx} {i : Instr} (h : c.lanes = 0#32) : s.begun c i = (c, s.noted c i) := by
  obtain hb | ⟨-, -, -, hl, -⟩ := s.begun_cases c i
  · exact hb
  · exact absurd h hl

theorem Popped.withRings (c : Ctx) (es : List (Nat × LaneVec)) (s : State) (rings : NMap (List Elem)) :
    Popped c (c.withPops es) s (s.withRings c.wave.tid rings) := by
  refine ⟨rfl, rfl, rfl, rfl, rfl, ?_, fun d k => State.wave?_modTeam _ _ _ _ _, ?_, ?_, ?_, ?_⟩
  · exact Wave.foldl_keeps (g := Wave.offVectors) (f := fun (w : Wave) (x : Nat × LaneVec) => w.setV x.1 x.2) (fun _ _ => rfl) es c.wave
  · simp [State.withRings]
  · simp [State.withRings]
  · simp [State.withRings]
  · simp [State.withRings]

theorem State.begun_popped (s : State) (c : Ctx) (i : Instr) : Popped c (s.begun c i).1 (s.noted c i) (s.begun c i).2 := by
  obtain hb | ⟨rings, e, es, -, hb⟩ := s.begun_cases c i
  · rw [hb]
    exact Popped.refl _ _
  · rw [hb]
    exact Popped.withRings c _ _ rings

theorem State.begun_wave? {s : State} {i : Instr} {c : Ctx} (h : s.ctx? i = some c) :
    (s.begun c i).2.wave? (s.begun c i).1.r.core (s.begun c i).1.r.slot = some c.wave := by
  have hp := s.begun_popped c i
  rw [hp.ref, hp.place, State.noted_wave?]
  exact Ctx.wave?_self h

theorem State.sameMemory_begun {s : State} {i : Instr} {c : Ctx} (h : s.logRoom c i) : s.sameMemory (s.begun c i).2 :=
  (State.sameMemory_noted h).trans (s.begun_popped c i).sameMemory

theorem State.sameScratch_begun (s : State) (i : Instr) (c : Ctx) : s.sameScratch (s.begun c i).2 :=
  (s.sameScratch_noted c i).trans (.of_eq (s.begun_popped c i).allocs)

/-! ### Masks of lanes that pass a test -/

theorem getLsbD_twoPow (n l : Nat) (h : l < 32) : (BitVec.ofNat 32 (2 ^ n)).getLsbD l = decide (n = l) := by
  rw [BitVec.getLsbD_ofNat, Nat.testBit_two_pow, decide_eq_true h, Bool.true_and]

theorem getLsbD_foldl_lanes (f : Nat → Bool) (l : Nat) (h : l < 32) (ls : List Nat) (m : Mask) :
    (ls.foldl (fun (m : Mask) n => if f n then m ||| BitVec.ofNat 32 (2 ^ n) else m) m).getLsbD l =
      (m.getLsbD l || decide (l ∈ ls) && f l) := by
  induction ls generalizing m with
  | nil => simp
  | cons n ls ih =>
    rw [List.foldl_cons, ih]
    by_cases hn : n = l
    · subst hn
      cases hf : f n with
      | false => simp
      | true =>
        rw [if_pos rfl, BitVec.getLsbD_or, getLsbD_twoPow n n h]
        simp
    · have hx : (if f n then m ||| BitVec.ofNat 32 (2 ^ n) else m).getLsbD l = m.getLsbD l := by
        split
        · rw [BitVec.getLsbD_or, getLsbD_twoPow n l h, decide_eq_false hn, Bool.or_false]
        · rfl
      rw [hx]
      simp [List.mem_cons, Ne.symm hn]

theorem getLsbD_maskOf (f : Nat → Bool) {l : Nat} (h : l < 32) : (maskOf f).getLsbD l = f l := by
  unfold maskOf
  rw [getLsbD_foldl_lanes f l h]
  simp [allLanes, h]

/-! ### VCMP -/

/-- What VCMP delivers: two predicates, and the flags of its lanes (R448). -/
def Ctx.compared (c : Ctx) (p q m : Nat) (r : Nat → Bool × Word) : Result :=
  { pdst := [(p, c.cmpLanes m, c.cmpBits (fun l => (mergeBits m (laneSet (c.wave.preg p) l) (laneSet (c.wave.preg q) l) (r l).1).1)),
      (q, c.cmpLanes m, c.cmpBits (fun l => (mergeBits m (laneSet (c.wave.preg p) l) (laneSet (c.wave.preg q) l) (r l).1).2))],
    flags := (maskLanes c.arm.exm).foldl (fun f l => f ||| (r l).2) 0#32 }

theorem Ctx.compare_eq (c : Ctx) (p q m : Nat) (r : Nat → Bool × Word) (s : State) : c.compare p q m r s =
    s.modWave c.r.core c.r.slot (fun w => ((w.noteOld c.r.arm c.lanes (c.compared p q m r)).write c.lanes (c.compared p q m r)).modArm
      c.r.arm Arm.advance) := by
  have h : c.retire (c.compared p q m r) s = c.retireNow (c.compared p q m r) s := by
    unfold Ctx.retire
    rw [if_neg]
    rw [show ((c.compared p q m r).vdst.isEmpty && (c.compared p q m r).sdst.isEmpty) = true from rfl, Bool.not_true, Bool.and_false]
    exact Bool.false_ne_true
  exact h.trans (Ctx.retireNow_of_own (fun e he => absurd he List.not_mem_nil) s)

theorem Ctx.getLsbD_cmpLanes (c : Ctx) (m : BitVec 3) (l : Nat) :
    (c.cmpLanes m.toNat).getLsbD l = (c.arm.exm.getLsbD l || m.getLsbD 2 && c.arm.entry.getLsbD l) := by
  have hm : ∀ m : BitVec 3, m.getLsbD 2 = decide (4 ≤ m.toNat) := by decide
  unfold Ctx.cmpLanes
  rw [hm]
  split
  · next h => rw [BitVec.getLsbD_or, decide_eq_true h, Bool.true_and]
  · next h => rw [decide_eq_false h, Bool.false_and, Bool.or_false]

/-- A lane of a predicate that VCMP writes: merged under EXM, cleared outside it under .z, else as it was (R448). -/
theorem Ctx.getLsbD_compared (c : Ctx) (m : BitVec 3) (old : Mask) (f : Nat → Bool) {l : Nat} (h : l < 32) :
    (mergeMask (c.cmpLanes m.toNat) old (c.cmpBits f)).getLsbD l =
      if c.arm.exm.getLsbD l then f l else old.getLsbD l && !(m.getLsbD 2 && c.arm.entry.getLsbD l) := by
  unfold Ctx.cmpBits
  rw [getLsbD_mergeMask _ _ _ h, Ctx.getLsbD_cmpLanes, getLsbD_maskOf _ h]
  unfold laneSet
  cases c.arm.exm.getLsbD l <;> cases m.getLsbD 2 && c.arm.entry.getLsbD l <;> simp

theorem mergeBits_fst (m : Nat) (x y r : Bool) :
    (mergeBits m x y r).1 = if m % 4 = 0 then r else if m % 4 = 1 then x && r else x || r := by
  have h : m % 4 < 4 := Nat.mod_lt _ (by decide)
  unfold mergeBits
  generalize m % 4 = n at h
  interval_cases n <;> rfl

theorem mergeBits_snd (m : Nat) (x y r : Bool) :
    (mergeBits m x y r).2 = if m % 4 = 0 then !r else if m % 4 = 2 then y || !r else y && !r := by
  have h : m % 4 < 4 := Nat.mod_lt _ (by decide)
  unfold mergeBits
  generalize m % 4 = n at h
  interval_cases n <;> rfl

/-- A wave after the write of two predicates. -/
theorem Wave.preg_writeP_pair (w : Wave) (p q n : Nat) (k j a b : Mask) (h : p ≠ q ∨ p = 0) :
    (w.writeP [(p, k, a), (q, j, b)]).preg n =
      if n = 0 then 0xFFFFFFFF#32 else if n = q then mergeMask j (w.preg n) b else if n = p then mergeMask k (w.preg n) a else w.preg n := by
  show ((w.setP p (mergeMask k (w.preg p) a)).setP q (mergeMask j ((w.setP p (mergeMask k (w.preg p) a)).preg q) b)).preg n = _
  simp only [Wave.preg_setP]
  by_cases hn : n = 0
  · subst hn
    simp [Wave.preg_zero, eq_comm]
  · by_cases hq : n = q
    · subst hq
      have hp : ¬ (n = p ∧ p ≠ 0) := fun e => h.elim (fun g => g e.1.symm) e.2
      simp [hn, hp]
    · by_cases hp : n = p
      · subst hp
        simp [hn, hq]
      · simp [hn, hq, hp]

/-- VCMP's words compare the lanes of their sources (R447). -/
theorem exec_compare {s : State} {i : Instr} {c : Ctx} {p q m : Nat} {r : Ctx → Nat → Bool × Word} (h : Ready s i c)
    (hi : exec i s = s.run i (fun c s => c.compare p q m (r c) s)) : exec i s = .next ((s.begun c i).2.modWave c.r.core c.r.slot
      (fun w => ((w.noteOld c.r.arm c.lanes ((s.begun c i).1.compared p q m (r (s.begun c i).1))).write c.lanes
        ((s.begun c i).1.compared p q m (r (s.begun c i).1))).modArm c.r.arm Arm.advance)) := by
  have hp := s.begun_popped c i
  rw [hi, State.run_ready h, Ctx.compare_eq, hp.ref, hp.lanes]

/-- A compare without flags leaves FLAGS. -/
theorem Ctx.compared_flags (c : Ctx) (p q m : Nat) (f : Nat → Bool) : (c.compared p q m (fun l => (f l, 0#32))).flags = 0#32 := by
  have h : ∀ ls : List Nat, ls.foldl (fun (f : Word) _ => f ||| 0#32) 0#32 = 0#32 := by
    intro ls
    induction ls with
    | nil => rfl
    | cons l ls ih => exact ih
  exact h _

/-- The predicates of a wave after VCMP. -/
theorem Ctx.preg_compared (c : Ctx) {p q : Nat} (h : p ≠ q ∨ p = 0) (m : Nat) (x : Nat → Bool × Word) (w : Wave) (a : Nat) (k : Mask) (n : Nat) :
    ((w.noteOld a k (c.compared p q m x)).write k (c.compared p q m x)).preg n =
      if n = 0 then 0xFFFFFFFF#32
      else if n = q then mergeMask (c.cmpLanes m) (w.preg n)
        (c.cmpBits (fun l => (mergeBits m (laneSet (c.wave.preg p) l) (laneSet (c.wave.preg q) l) (x l).1).2))
      else if n = p then mergeMask (c.cmpLanes m) (w.preg n)
        (c.cmpBits (fun l => (mergeBits m (laneSet (c.wave.preg p) l) (laneSet (c.wave.preg q) l) (x l).1).1))
      else w.preg n := by
  rw [Wave.preg_write]
  refine (Wave.preg_writeP_pair _ p q n _ _ _ _ h).trans ?_
  rw [Wave.preg_noteOld]

theorem wave?_modWave_popped {s t : State} {c : Ctx} {i : Instr} (h : s.ctx? i = some c) (hp : Popped c (s.begun c i).1 t (s.begun c i).2)
    (ht : ∀ d k, t.wave? d k = s.wave? d k) (f : Wave → Wave) :
    ((s.begun c i).2.modWave c.r.core c.r.slot f).wave? c.r.core c.r.slot = some (f c.wave) :=
  State.wave?_modWave_self ((hp.place _ _).trans ((ht _ _).trans (Ctx.wave?_self h))) f

end Sys2Proof.Machine

namespace Sys2Proof
open Machine

/-- Settles O25: VCMP writes two predicates, whose lanes are the merges of the lanes before it. -/
theorem vectorCompare : Obligations.VectorCompare := by
  unfold Obligations.VectorCompare
  intro s c i p q m r h hl hwf hi
  have hpq : p.toNat ≠ q.toNat ∨ p.toNat = 0 := by
    have hpair : predPair p q = true := by
      obtain ⟨a, b, k, ⟨rfl, -⟩ | ⟨rfl, -⟩ | ⟨rfl, -⟩⟩ := hi
      all_goals exact (Bool.and_eq_true_iff.1 hwf).1
    obtain hne | hz := Bool.or_eq_true_iff.1 hpair
    · exact .inl (fun e => bne_iff_ne.1 hne (BitVec.eq_of_toNat_eq e))
    · exact .inr (beq_iff_eq.1 hz)
  have hpop := s.begun_popped c i
  obtain ⟨x, hx, hr, hf⟩ : ∃ x : Nat → Bool × Word, exec i s = .next ((s.begun c i).2.modWave c.r.core c.r.slot
      (fun w => ((w.noteOld c.r.arm c.lanes ((s.begun c i).1.compared p.toNat q.toNat m.toNat x)).write c.lanes
        ((s.begun c i).1.compared p.toNat q.toNat m.toNat x)).modArm c.r.arm Arm.advance)) ∧ (∀ l, (x l).1 = r l) ∧
      ((∀ a b k, i ≠ .vcmpF32 p q a b m k) → ((s.begun c i).1.compared p.toNat q.toNat m.toNat x).flags = 0#32) := by
    obtain ⟨a, b, k, ⟨rfl, hr⟩ | ⟨rfl, hr⟩ | ⟨rfl, hr⟩⟩ := hi
    · exact ⟨_, exec_compare h rfl, fun l => (hr l).symm, fun _ => Ctx.compared_flags _ _ _ _ _⟩
    · exact ⟨_, exec_compare h rfl, fun l => (hr l).symm, fun _ => Ctx.compared_flags _ _ _ _ _⟩
    · exact ⟨_, exec_compare h rfl, fun l => (hr l).symm, fun hn => absurd rfl (hn a b k)⟩
  have hwave := wave?_modWave_popped h.ctx hpop (fun d k => s.noted_wave? c i d k)
    (fun w => ((w.noteOld c.r.arm c.lanes ((s.begun c i).1.compared p.toNat q.toNat m.toNat x)).write c.lanes
        ((s.begun c i).1.compared p.toNat q.toNat m.toNat x)).modArm c.r.arm Arm.advance)
  have hpreg : ∀ n, (s.begun c i).1.wave.preg n = c.wave.preg n := fun n => (congrArg (fun w : Wave => w.preg n) hpop.wave :)
  obtain ⟨hs, hv, -, hflags⟩ := c.wave.noteOld_regs c.r.arm c.lanes ((s.begun c i).1.compared p.toNat q.toNat m.toNat x)
  refine ⟨_, _, hx, hwave, fun l hl32 => ⟨fun hp0 => ?_, fun hq0 => ?_⟩, fun n hnp hnq => ?_, fun n => ?_, fun n => ?_,
    (State.sameMemory_begun hl).trans (State.sameMemory_modWave _ _ _ _),
    (s.sameScratch_begun i c).trans (State.sameScratch_modWave _ _ _ _), fun hn => ?_⟩
  · have h0 : p.toNat ≠ 0 := fun e => hp0 (BitVec.eq_of_toNat_eq e)
    rw [Wave.preg_modArm, Ctx.preg_compared _ hpq, if_neg h0, if_neg (hpq.resolve_right h0), if_pos rfl, Ctx.getLsbD_compared _ _ _ _ hl32,
      hpop.arm, mergeBits_fst, hpreg, hr]
    rfl
  · have h0 : q.toNat ≠ 0 := fun e => hq0 (BitVec.eq_of_toNat_eq e)
    rw [Wave.preg_modArm, Ctx.preg_compared _ hpq, if_neg h0, if_pos rfl, Ctx.getLsbD_compared _ _ _ _ hl32, hpop.arm, mergeBits_snd,
      hpreg, hr]
    rfl
  · rw [Wave.preg_modArm, Ctx.preg_compared _ hpq, if_neg hnq, if_neg hnp]
    split
    · next h0 => rw [h0, Wave.preg_zero]
    · rfl
  · rw [Wave.sreg_modArm, Wave.sreg_write]
    exact congrArg (fun m => NMap.at m n 0#32) hs
  · rw [Wave.vreg_modArm, Wave.vreg_write]
    exact congrArg (fun m => NMap.at m n []) hv
  · rw [controls_modArm]
    refine controls_of_offRegs ?_ ?_
    · rw [Wave.write_offRegs, Wave.noteOld_offRegs]
    · rw [Wave.flags_write, hflags, hf hn]
      exact BitVec.or_zero

end Sys2Proof
end
section
/-! ## The vector pipe and the special-function unit: results -/
set_option Elab.async false

open Sys2Proof Sys2Proof.Machine

namespace Sys2Proof.Machine

/-- A shuffle reads a lane as it stood before the other arm's writes of this cycle (R416). -/
theorem Ctx.vOld_eq_before (c : Ctx) (a : Reg) (l : Nat) : c.vOld a l = Claims.before c a l := by
  unfold Ctx.vOld Claims.before laneSet
  cases c.wave.old.find? (fun e => e.1 != c.r.arm && e.2.1 == a.toNat && e.2.2.1.getLsbD l) <;> rfl

/-- The words of the integer table deliver its lanes. -/
theorem exec_vectorRule {s : State} {i : Instr} {c : Ctx} {d : Reg} {f : Nat → Word} (h : Ready s i c)
    (hr : Claims.vectorRule (s.begun c i).1 i = some (d, f)) :
    exec i s = .next ((s.begun c i).1.retire { vdst := [(d.toNat, LaneVec.ofFn f)] } (s.begun c i).2) := by
  cases i with
  | vadd | vsub | vmul | vmulhI | vmulhN | vand | vor | vxor | vandn | vminI | vmaxI | vminN | vmaxN | vsel | vmov | vbcast | vclz | vpopc
  | vbrev | vlaneid | vaddImm | vandImm | vorImm | vxorImm | vmovImm =>
    cases hr
    exact State.run_ready h _
  | vmad d a b e n =>
    cases hr
    refine (State.run_ready h _).trans ?_
    unfold Ctx.vector mad
    simp only [beq_iff_eq]
  | shflIdx | shflUp | shflDown | shflXor | shflBcast =>
    cases hr
    refine (State.run_ready h _).trans ?_
    unfold Ctx.shuffle Ctx.vector
    simp only [Ctx.vOld_eq_before]
    rfl
  | _ => cases hr

/-- The words of the floating-point table deliver its lanes and their flags. -/
theorem exec_floatRule {s : State} {i : Instr} {c : Ctx} {d : Reg} {f : Nat → Nat × Word} (h : Ready s i c)
    (hr : Claims.floatRule (s.begun c i).1 i = some (d, f)) :
    exec i s = .next ((s.begun c i).1.retire ((s.begun c i).1.floatResult d f) (s.begun c i).2) := by
  cases i with
  | vfaddF32 | vfsubF32 | vfmulF32 | vfminF32 | vfmaxF32 | vfclassF32 | vfcvtF32 | vfmaF32 | vfaddF16x2 | vfsubF16x2 | vfmulF16x2
  | vfminF16x2 | vfmaxF16x2 | vfclassF16x2 | vfcvtF16x2 | vfmaF16x2 | vfaddBf16x2 | vfsubBf16x2 | vfmulBf16x2 | vfminBf16x2 | vfmaxBf16x2
  | vfclassBf16x2 | vfcvtBf16x2 | vfmaBf16x2 =>
    cases hr
    exact State.run_ready h _
  | _ => cases hr

/-- The words of the special-function table are producers of its lanes. -/
theorem exec_sfuRule {s : State} {i : Instr} {c : Ctx} {d : Reg} {f : Nat → Nat × Word} (h : Ready s i c)
    (hr : Claims.sfuRule (s.begun c i).1 i = some (d, f)) :
    exec i s = .next ((s.begun c i).1.retireSfu ((s.begun c i).1.floatResult d f) (s.begun c i).2) := by
  cases i with
  | vfdiv | vfsqrt | vrcp | vrsq | vexp2 | vlog2 | vsin | vcos | vtanh =>
    cases hr
    exact State.run_ready h _
  | _ => cases hr

/-- What the vector pipe delivers is one vector register and flags. -/
theorem pipeRule_cases {c : Ctx} {i : Instr} {x : Result} (h : Claims.pipeRule c i = some x) :
    (∃ d f, Claims.vectorRule c i = some (d, f) ∧ x = { vdst := [(d.toNat, LaneVec.ofFn f)] }) ∨
    (∃ d f, Claims.floatRule c i = some (d, f) ∧ x = c.floatResult d f) := by
  unfold Claims.pipeRule at h
  split at h
  · next d f hv => exact .inl ⟨d, f, hv, (Option.some.inj h).symm⟩
  · next d f _ hf => exact .inr ⟨d, f, hf, (Option.some.inj h).symm⟩
  · cases h

theorem pipeRule_own {c : Ctx} {i : Instr} {x : Result} (h : Claims.pipeRule c i = some x) :
    x.vdst ≠ [] ∧ x.sdst = [] ∧ x.pdst = [] := by
  obtain ⟨d, f, -, rfl⟩ | ⟨d, f, -, rfl⟩ := pipeRule_cases h
  · exact ⟨List.cons_ne_nil _ _, rfl, rfl⟩
  · exact ⟨List.cons_ne_nil _ _, rfl, rfl⟩

theorem exec_pipeRule {s : State} {i : Instr} {c : Ctx} {x : Result} (h : Ready s i c) (hr : Claims.pipeRule (s.begun c i).1 i = some x) :
    exec i s = .next ((s.begun c i).1.retire x (s.begun c i).2) := by
  obtain ⟨d, f, hf, rfl⟩ | ⟨d, f, hf, rfl⟩ := pipeRule_cases hr
  · exact exec_vectorRule h hf
  · exact exec_floatRule h hf

/-! ### Results at once -/

/-- A word of the vector pipe that reads no stream port delivers its results at once. -/
theorem exec_pipe_unpopped {s : State} {i : Instr} {c : Ctx} {x : Result} (h : Ready s i c) (hu : (s.begun c i).1.popped = false)
    (hr : Claims.pipeRule c i = some x) : exec i s = .next (c.retireNow x (s.noted c i)) := by
  have hb := State.begun_of_unpopped hu
  have hp : c.popped = false := (Ctx.stands h.ctx).popped
  have he := exec_pipeRule (x := x) h (by rw [hb]; exact hr)
  rw [he, hb, Ctx.retire_of_unpopped hp]

/-- A vector result in the wave's own register (R45). -/
theorem Wave.lane_vreg_write {w : Wave} {m : Mask} {x : Result} {d l : Nat} {v : LaneVec} (hx : x.vdst = [(d, v)]) (hl : l < 32) :
    ((w.write m x).vreg d).lane l = if m.getLsbD l then v.lane l else (w.vreg d).lane l := by
  rw [Wave.vreg_write, hx]
  refine (congrArg (fun y : LaneVec => y.lane l) (Wave.vreg_writeV_of_mem (v := v) (List.mem_singleton_self _) ?_ w m)).trans
    (lane_mergeLanes _ _ _ hl)
  intro e he _
  rw [List.mem_singleton.1 he]

theorem Wave.vreg_write_of_ne {w : Wave} {m : Mask} {x : Result} {d n : Nat} {v : LaneVec} (hx : x.vdst = [(d, v)]) (hn : n ≠ d) :
    (w.write m x).vreg n = w.vreg n := by
  rw [Wave.vreg_write, hx]
  refine Wave.vreg_writeV_of_notMem (fun e he => ?_) w m
  rw [List.mem_singleton.1 he]
  exact hn.symm

/-! ### Pushes -/

theorem State.team_modTeam_self {s : State} {t : Nat} {x : Team} (h : NMap.get? s.teams t = some x) (f : Team → Team) :
    (s.modTeam t f).team t = f x := by
  unfold State.modTeam State.team
  simp only [h]
  rw [NMap.at_put, if_pos rfl]

theorem State.at_rings_modRing {s : State} {t : Nat} {x : Team} (h : NMap.get? s.teams t = some x) (b : Nat) (f : List Elem → List Elem) :
    NMap.at ((s.modRing t b f).team t).rings b [] = f (NMap.at x.rings b []) := by
  unfold State.modRing
  rw [State.team_modTeam_self h]
  exact (NMap.at_put _ _ _ _ _).trans (if_pos rfl)

/-- The element that a word pushes onto a stream port, and the state that its undefined words come from. -/
def Ctx.pushed (c : Ctx) (b : Nat) (v : LaneVec) (s : State) : State :=
  (s.pushData c.job.jid c.lanes v).2.modRing c.wave.tid b (fun es => es ++ [⟨(s.pushData c.job.jid c.lanes v).1, true, 0, false⟩])

/-- One result for a stream port is pushed, and no register is written (R49, R181). -/
theorem Ctx.retireNow_of_port {c : Ctx} {x : Result} {d b : Nat} {v : LaneVec} (hx : x.vdst = [(d, v)]) (hb : c.wave.portBank d = some b)
    (hl : c.lanes ≠ 0#32) (s : State) : c.retireNow x s = (c.pushed b v s).modWave c.r.core c.r.slot (fun w =>
      ((w.noteOld c.r.arm c.lanes { x with vdst := [] }).write c.lanes { x with vdst := [] }).modArm c.r.arm Arm.advance) := by
  have hp : c.pushes x = [(d, b, v)] := by
    unfold Ctx.pushes
    rw [hx]
    simp [hb]
  have ho : c.ownDst x = { x with vdst := [] } := by
    unfold Ctx.ownDst
    rw [hx]
    simp [hb]
  unfold Ctx.retireNow
  rw [if_neg hl, hp, ho]
  rfl

theorem Ctx.pushed_wave? (c : Ctx) (b : Nat) (v : LaneVec) (s : State) (d k : Nat) : (c.pushed b v s).wave? d k = s.wave? d k :=
  (State.wave?_modTeam _ _ _ _ _).trans (State.wave?_modJob _ _ _ _ _)

theorem Ctx.sameMemory_pushed (c : Ctx) (b : Nat) (v : LaneVec) (s : State) : s.sameMemory (c.pushed b v s) := by
  refine .of_eq ?_ ?_ ?_
  · exact (State.modTeam_mem _ _ _).trans (State.modJob_mem _ _ _)
  · exact (State.modTeam_hostMem _ _ _).trans (State.modJob_hostMem _ _ _)
  · exact (State.modTeam_poison _ _ _).trans (State.modJob_poison _ _ _)

/-! ### Pops -/

/-- A word that issues has its stream elements (R182). -/
theorem Ctx.ringsReady_of_go {c : Ctx} {k : Core} {i : Instr} (h : c.check k i = .go) : c.ringsReady (uses i) = true := by
  unfold Ctx.check at h
  cases hr : c.ringsReady (uses i) with
  | true => rfl
  | false =>
    simp only [hr, Bool.not_false, if_true] at h
    repeat' split at h
    all_goals cases h

/-- A word that reads one port pops the oldest element of its ring (R181). -/
theorem popAll_of_one {s : State} {i : Instr} {c : Ctx} {r k : Nat} {e : Elem} {es : List Elem} (h : Ready s i c) (hl : c.lanes ≠ 0#32)
    (hp : c.wave.portsOf ((uses i).vs.map (fun y => y.1)) = [(r, k)]) (hr : NMap.at c.team.rings k [] = e :: es) :
    popAll c.team.rings (c.wave.portsOf ((uses i).vs.map (fun y => y.1))) = some (NMap.put c.team.rings k es, [(r, e.data)]) := by
  have hg := Ctx.ringsReady_of_go h.go
  unfold Ctx.ringsReady at hg
  rw [if_neg (by rw [(Ctx.stands h.ctx).free]; simpa using hl), hp] at hg
  rw [hp]
  unfold popAll at hg ⊢
  rw [hr] at hg ⊢
  cases hf : e.filled with
  | true => simp [popAll, hf]
  | false => simp [hf] at hg

/-! ### Results in flight -/

/-- A producer that issues is in flight in its wave, whose arm moves on (R50). -/
theorem Ctx.launch_wave? {c : Ctx} {t : State} {w : Wave} {x : Result} (hh : c.held = none) (hp : c.pushes x = [])
    (hw : t.wave? c.r.core c.r.slot = some w) (f : Flight) :
    (c.launch x f t).2.wave? c.r.core c.r.slot = some ((c.marked x f t.handles w).modArm c.r.arm Arm.advance) := by
  unfold Ctx.launch
  rw [Ctx.mark_of_own hh hp]
  have h1 := State.wave?_modWave_self (s := { t with handles := t.handles + 1 }) hw (c.marked x f t.handles)
  exact State.wave?_modWave_self h1 _

theorem Ctx.sameMemory_launch {c : Ctx} {x : Result} (hh : c.held = none) (hp : c.pushes x = []) (f : Flight) (t : State) :
    t.sameMemory (c.launch x f t).2 := by
  unfold Ctx.launch
  rw [Ctx.mark_of_own hh hp]
  exact (State.sameMemory_modWave { t with handles := t.handles + 1 } _ _ _).trans (State.sameMemory_modWave _ _ _ _)

theorem Ctx.launch_teams {c : Ctx} {x : Result} (hh : c.held = none) (hp : c.pushes x = []) (f : Flight) (t : State) :
    (c.launch x f t).2.teams = t.teams := by
  unfold Ctx.launch
  rw [Ctx.mark_of_own hh hp]
  exact (State.modWave_teams _ _ _ _).trans (State.modWave_teams _ _ _ _)

theorem Ctx.launched_inflight (c : Ctx) (x : Result) (f : Flight) (id : Nat) (w : Wave) :
    ((c.marked x f id w).modArm c.r.arm Arm.advance).inflight = w.inflight ++ [c.flight x f id []] := by
  rw [Wave.modArm_inflight]
  exact Wave.modArm_inflight _ _ _

theorem Ctx.launched_sEmpty (c : Ctx) (x : Result) (f : Flight) (id : Nat) (w : Wave) :
    ((c.marked x f id w).modArm c.r.arm Arm.advance).sEmpty = w.sEmpty ++ x.sdst.map (fun e => (e.1, id)) := by
  rw [Wave.modArm_sEmpty]
  exact Wave.modArm_sEmpty _ _ _

theorem Ctx.launched_offMarks (c : Ctx) (x : Result) (f : Flight) (id : Nat) (w : Wave) :
    ((c.marked x f id w).modArm c.r.arm Arm.advance).offMarks = w.offMarks :=
  (Wave.modArm_offMarks _ _ _).trans (c.marked_offMarks x f id w)

/-- Where an arm goes does not depend on what its view has empty. -/
theorem Arm.advance_withEmpty (a : Arm) (e : List (Nat × Nat)) : { a with empty := e }.advance = { a.advance with empty := e } := by
  obtain ⟨pc, word, exm, entry, grp, m, hold, last, cap, paired, also, refetch⟩ := a
  cases also with
  | some h => rfl
  | none =>
    cases paired with
    | true => rfl
    | false =>
      by_cases hw : word < 2
      · simp [Arm.advance, hw]
      · simp [Arm.advance, hw]

theorem Ctx.pushes_eq_nil {c : Ctx} {x : Result} (h : ∀ e, e ∈ x.vdst → c.wave.portBank e.1 = none) : c.pushes x = [] :=
  List.filterMap_eq_nil_iff.2 (fun e he => by rw [h e he]; rfl)

theorem Ctx.ownDst_eq {c : Ctx} {x : Result} (h : ∀ e, e ∈ x.vdst → c.wave.portBank e.1 = none) : c.ownDst x = x := by
  unfold Ctx.ownDst
  rw [List.filter_eq_self.2 (fun e he => by rw [h e he]; rfl)]

/-- The results of a word that has read a stream port are long-latency (R50). -/
theorem Ctx.retire_of_popped {c : Ctx} {x : Result} (hp : c.popped = true) (hv : x.vdst ≠ []) (hd : x.pdst = []) (s : State) :
    c.retire x s = (c.launch x { hasFlags := x.flags != 0#32 } (s.modWave c.r.core c.r.slot (fun w => w.write c.lanes { }))).2 := by
  obtain ⟨vd, sd, pd, fl⟩ := x
  subst hd
  cases vd with
  | nil => exact absurd rfl hv
  | cons e es =>
    unfold Ctx.retire
    rw [hp]
    rfl

/-- A write of no result. -/
theorem Wave.write_empty (w : Wave) (m : Mask) : w.write m { } = w := by
  have h : w.flags ||| 0#32 = w.flags := BitVec.or_zero
  rw [Wave.write_eq]
  show { w with flags := w.flags ||| 0#32 } = w
  rw [h]

theorem Wave.noteOld_empty (w : Wave) (a : Nat) (m : Mask) : w.noteOld a m { } = w := by
  unfold Wave.noteOld
  split <;> rfl

end Sys2Proof.Machine

namespace Sys2Proof
open Machine

/-- Settles O21: the words of the two tables, and the write of one vector register in the enabled lanes. -/
theorem vectorTable : Obligations.VectorTable := by
  unfold Obligations.VectorTable
  refine ⟨fun s c i x h hr => exec_pipeRule h hr, fun s t c i x d v h hl hu hr hx hd ht => ?_⟩
  have hown : ∀ e, e ∈ x.vdst → c.wave.portBank e.1 = none := fun e he => by
    rw [hx] at he
    rw [List.mem_singleton.1 he]
    exact hd
  have hn := exec_pipe_unpopped h hu hr
  rw [Ctx.retireNow_of_own hown] at hn
  obtain rfl : Claims.wrote s c i (fun w => (w.noteOld c.r.arm c.lanes x).write c.lanes x) = t :=
    Host.Outcome.next.inj (hn.symm.trans ht)
  obtain ⟨-, hs0, hp0⟩ := pipeRule_own hr
  obtain ⟨hs, hv, hp, hf⟩ := c.wave.noteOld_regs c.r.arm c.lanes x
  have hvreg : ∀ n, (c.wave.noteOld c.r.arm c.lanes x).vreg n = c.wave.vreg n := fun n => congrArg (fun m => NMap.at m n []) hv
  have hoff := (Wave.write_offRegs (c.wave.noteOld c.r.arm c.lanes x) c.lanes x).trans (Wave.noteOld_offRegs _ _ _ _)
  refine ⟨_, wrote_wave? h.ctx _, fun l hl32 => ?_, fun n hnd => ?_, fun n => ?_, fun n => ?_, ?_, ?_, ?_, ?_,
    fun k j hkj => wrote_wave?_other hkj i _, ?_, sameMemory_wrote hl _, sameScratch_wrote _ _ _ _⟩
  · rw [Wave.vreg_modArm, Wave.lane_vreg_write hx hl32, hvreg]
  · rw [Wave.vreg_modArm, Wave.vreg_write_of_ne hx hnd, hvreg]
  · rw [Wave.sreg_modArm, Wave.sreg_write, hs0]
    exact congrArg (fun m => NMap.at m n 0#32) hs
  · rw [Wave.preg_modArm, Wave.preg_write, hp0]
    exact Wave.preg_noteOld _ _ _ _ n
  · rw [Wave.modArm_flags, Wave.flags_write, hf]
  · rw [Wave.modArm_mode]
    exact (congrArg Wave.mode hoff :)
  · rw [Wave.modArm_ltile]
    exact (congrArg Wave.ltile hoff :)
  · rw [Wave.modArm_etrap]
    exact (congrArg Wave.etrap hoff :)
  · exact (State.modWave_teams _ _ _ _).trans (s.noted_hardware c i).2.2.1

/-- Settles O22: the push of a result, and the pop of one port with its results in flight. -/
theorem streamPorts : Obligations.StreamPorts := by
  unfold Obligations.StreamPorts
  refine ⟨fun s t c i x d b v h hl hu hr hx hb hlanes hteam ht => ?_, fun s t c i x r k e es h hl hlanes hports hring hteam hr hown ht => ?_⟩
  · have hn := exec_pipe_unpopped h hu hr
    rw [Ctx.retireNow_of_port hx hb hlanes] at hn
    obtain rfl := Host.Outcome.next.inj (hn.symm.trans ht)
    have hteam' : NMap.get? ((s.noted c i).pushData c.job.jid c.lanes v).2.teams c.wave.tid = some c.team :=
      (congrArg (fun m => NMap.get? m c.wave.tid) ((State.modJob_teams _ _ _).trans (s.noted_hardware c i).2.2.1)).trans hteam
    refine ⟨⟨⟨((s.noted c i).pushData c.job.jid c.lanes v).1, true, 0, false⟩, ?_, rfl, fun l hl32 hlane => ?_⟩, ⟨_, State.wave?_modWave_self (w := c.wave) ?_ _, fun n => ?_⟩, ?_⟩
    · rw [State.team_modWave]
      exact State.at_rings_modRing hteam' b _
    · unfold State.pushData
      refine (LaneVec.lane_ofFn (fun l => if laneSet c.lanes l then v.lane l else _) l hl32).trans ?_
      exact if_pos hlane
    · rw [Ctx.pushed_wave?, State.noted_wave?]
      exact Ctx.wave?_self h.ctx
    · rw [Wave.vreg_modArm, Wave.vreg_write]
      exact congrArg (fun m => NMap.at m n []) (c.wave.noteOld_regs _ _ _).2.1
    · exact ((State.sameMemory_noted hl).trans (c.sameMemory_pushed b v _)).trans (State.sameMemory_modWave _ _ _ _)
  · have hb := State.begun_of_popAll (s := s) hlanes (popAll_of_one h hlanes hports hring)
    have hpop := s.begun_popped c i
    have hh : (s.begun c i).1.held = none := hpop.held.trans (Ctx.stands h.ctx).free
    obtain ⟨hv, -, hd⟩ := pipeRule_own hr
    have hn := exec_pipeRule h hr
    rw [Ctx.retire_of_popped (by rw [hb]; rfl) hv hd] at hn
    obtain rfl := Host.Outcome.next.inj (hn.symm.trans ht)
    have hpush : (s.begun c i).1.pushes x = [] := Ctx.pushes_eq_nil (fun y hy => (hpop.portBank _).trans (hown y hy))
    have hw := Ctx.launch_wave? hh hpush (State.wave?_modWave_self (s.begun_wave? h.ctx) (fun w => w.write (s.begun c i).1.lanes { }))
      { hasFlags := x.flags != 0#32 }
    rw [Wave.write_empty] at hw
    have hrest := (s.begun c i).1.launched_offMarks x { hasFlags := x.flags != 0#32 }
      ((s.begun c i).2.modWave (s.begun c i).1.r.core (s.begun c i).1.r.slot (fun w => w.write (s.begun c i).1.lanes { })).handles c.wave
    refine ⟨?_, ?_, _, _, hpop.ref ▸ hw, Ctx.launched_inflight _ _ _ _ _, rfl, rfl, hpop.lanes,
      fun n => (congrArg (fun w : Wave => w.vreg n) hrest :), ?_⟩
    · rw [hb]
      exact (NMap.at_put _ _ _ _ _).trans (if_pos rfl)
    · have hteam' : NMap.get? (s.noted c i).teams c.wave.tid = some c.team := by
        rw [(s.noted_hardware c i).2.2.1]
        exact hteam
      have ht : (s.begun c i).2.team c.wave.tid = { c.team with rings := NMap.put c.team.rings k es } := by
        rw [hb]
        exact State.team_modTeam_self hteam' _
      unfold State.team at ht ⊢
      rw [Ctx.launch_teams hh hpush, State.modWave_teams, ht]
      exact (NMap.at_put _ _ _ _ _).trans (if_pos rfl)
    · exact ((State.sameMemory_begun hl).trans (State.sameMemory_modWave _ _ _ _)).trans (Ctx.sameMemory_launch hh hpush _ _)

/-- Settles O23: what the issue of a producer marks, and the words of the special-function table. -/
theorem producers : Obligations.Producers := by
  unfold Obligations.Producers
  refine ⟨fun s c i x f hc hown => ?_, fun s c i d f h hr => ⟨fun hl => ?_, fun hl => ?_⟩⟩
  · have hh := (Ctx.stands hc).free
    have hp := Ctx.pushes_eq_nil hown
    have hrest := c.launched_offMarks x f s.handles c.wave
    have harm : NMap.get? ((c.marked x f s.handles c.wave).modArm c.r.arm Arm.advance).arms c.r.arm =
        some ({ c.arm with empty := c.arm.empty ++ (c.ownDst x).vdst.map (fun (e : Nat × LaneVec) => (e.1, s.handles)) } : Arm).advance := by
      rw [Wave.get?_modArm, if_pos rfl, Ctx.marked_arm (Ctx.get?_self hc)]
      rfl
    have hid : (c.launch x f s).1 = s.handles := by
      unfold Ctx.launch
      rw [Ctx.mark_of_own hh hp]
    refine ⟨_, _, _, Ctx.launch_wave? hh hp (Ctx.wave?_self hc) f, harm, c.launched_inflight x f s.handles c.wave, rfl, rfl, rfl, rfl,
      hid.symm, ?_, c.launched_sEmpty x f s.handles c.wave, (congrArg Arm.pc (Arm.advance_withEmpty c.arm _) :), (congrArg Arm.word (Arm.advance_withEmpty c.arm _) :), fun n => ?_, fun n => ?_,
      fun n => ?_, (congrArg Wave.controls hrest :), Ctx.sameMemory_launch hh hp f s⟩
    · rw [Arm.advance_empty, Ctx.ownDst_eq hown]
      rfl
    · exact (congrArg (fun w : Wave => w.sreg n) hrest :)
    · exact (congrArg (fun w : Wave => w.vreg n) hrest :)
    · exact (congrArg (fun w : Wave => w.preg n) hrest :)
  · have hb := (s.begun_popped c i).lanes
    rw [exec_sfuRule h hr]
    unfold Ctx.retireSfu
    rw [if_neg (hb ▸ hl)]
    rfl
  · rw [exec_sfuRule h hr, State.begun_of_no_lane hl]
    unfold Ctx.retireSfu
    rw [if_pos hl, Ctx.retireNow_of_own (fun e he => absurd he List.not_mem_nil)]
    simp only [Wave.noteOld_empty, Wave.write_empty]
    rfl

end Sys2Proof
end
section
/-! ## SPLIT, SWITCH and MERGE

The parts of a split, the group that they open, and its end (R54 to R58). -/
set_option Elab.async false

open Sys2Proof Sys2Proof.Machine

namespace Sys2Proof.Machine

/-- Two updates of an arm that agree on it have one effect. -/
theorem Wave.modArm_congr {w : Wave} {n : Nat} {a : Arm} {f g : Arm → Arm} (h : NMap.get? w.arms n = some a) (e : f a = g a) :
    w.modArm n f = w.modArm n g := by
  unfold Wave.modArm
  rw [h]
  simp only [e]

theorem State.modWave_congr {s : State} {c k : Nat} {w : Wave} {f g : Wave → Wave} (h : s.wave? c k = some w) (e : f w = g w) :
    s.modWave c k f = s.modWave c k g := by
  unfold State.modWave
  rw [h]
  simp only [e]

theorem State.modArm_congr {s : State} {r : ArmRef} {w : Wave} {a : Arm} {f g : Arm → Arm} (hw : s.wave? r.core r.slot = some w)
    (ha : NMap.get? w.arms r.arm = some a) (e : f a = g a) : s.modArm r f = s.modArm r g :=
  State.modWave_congr hw (Wave.modArm_congr ha e)

/-! ### The parts of a split -/

theorem Ctx.splitInto_nil {c : Ctx} {ps : List PartAt} (h : ps.filter (fun p => p.lanes != 0#32) = []) (alone : Nat) (s : State) :
    c.splitInto ps alone s = s.modArm c.r (fun a => a.goto alone) := by
  unfold Ctx.splitInto
  rw [h]

theorem Ctx.splitInto_one {c : Ctx} {ps : List PartAt} {p : PartAt} (h : ps.filter (fun p => p.lanes != 0#32) = [p]) (alone : Nat)
    (s : State) : c.splitInto ps alone s = s.modArm c.r (fun a => a.goto p.pc) := by
  unfold Ctx.splitInto
  rw [h]

/-- The entries of the stack that a split needs (R56). -/
def Wave.splitNeed (w : Wave) (n : Nat) : Nat := if w.isSplit then n + 1 else n

theorem Ctx.splitInto_more {c : Ctx} {ps rest : List PartAt} {p q : PartAt} (h : ps.filter (fun p => p.lanes != 0#32) = p :: q :: rest)
    (alone : Nat) (s : State) : c.splitInto ps alone s =
      if 16 - c.wave.stack.length < c.wave.splitNeed rest.length ∨ c.wave.groups.length = 31 then
        c.fault 0x1A 0 (c.wave.stack.length + 2 ^ 32 * c.wave.groups.length) (c.unpop s)
      else s.modWave c.r.core c.r.slot (fun w => w.openParts c.r.arm c.arm p q rest) := by
  unfold Ctx.splitInto
  rw [h]
  rfl

theorem Wave.isSplit_iff (w : Wave) : w.isSplit = true ↔ w.groups ≠ [] := by
  unfold Wave.isSplit
  cases w.groups <;> simp

/-- The parts fit: the stack has room for those that wait, and a group is free. -/
theorem splitNeed_fits {w : Wave} {n : Nat} (hs : w.stack.length ≤ 16) :
    (16 - w.stack.length < w.splitNeed n ∨ w.groups.length = 31) ↔
      ¬ ((if w.groups = [] then n + 2 - 2 else n + 2 - 1) + w.stack.length ≤ 16 ∧ w.groups.length ≠ 31) := by
  unfold Wave.splitNeed
  by_cases hg : w.groups = []
  · rw [if_pos hg, if_neg (fun e => w.isSplit_iff.1 e hg)]
    omega
  · rw [if_neg hg, if_pos (w.isSplit_iff.2 hg)]
    omega

/-! ### The group that opens -/

/-- The lanes of all the parts of a group. -/
theorem getLsbD_foldl_or (ps : List PartAt) (m : Mask) (l : Nat) :
    (ps.foldl (fun m x => m ||| x.lanes) m).getLsbD l = true ↔ m.getLsbD l = true ∨ ∃ e, e ∈ ps ∧ e.lanes.getLsbD l = true := by
  induction ps generalizing m with
  | nil => simp
  | cons p ps ih =>
    rw [List.foldl_cons, ih, BitVec.getLsbD_or, Bool.or_eq_true]
    simp [or_assoc]

/-- The part that waits on the stack of an arm that splits. -/
def Arm.stacked (a : Arm) (g : Nat) (e : PartAt) : Part := { pc := e.pc, lanes := e.lanes, grp := g, empty := a.empty }

/-- What a split opens in a wave (R56). -/
structure Opened (w u : Wave) (arm : Nat) (a : Arm) (p q : PartAt) (ps : List PartAt) (g : Group) : Prop where
  groups : u.groups = g :: w.groups
  parent : g.parentGrp = a.grp
  remaining : g.remaining = ps.length + 2
  lanes : ∀ l, g.lanes.getLsbD l = true ↔ ∃ e, e ∈ p :: q :: ps ∧ e.lanes.getLsbD l = true
  regs : u.s = w.s ∧ u.v = w.v ∧ u.p = w.p ∧ u.controls = w.controls
  unsplit : w.groups = [] → u.arms = [(0, a.part g.id p), (1, a.part g.id q)] ∧ u.stack = ps.map (a.stacked g.id) ++ w.stack
  split : w.groups ≠ [] → NMap.get? u.arms arm = some (a.part g.id p) ∧ u.stack = (q :: ps).map (a.stacked g.id) ++ w.stack

theorem Wave.openParts_opened (w : Wave) (arm : Nat) (a : Arm) (p q : PartAt) (ps : List PartAt) :
    ∃ g, Opened w (w.openParts arm a p q ps) arm a p q ps g := by
  have hl : ∀ l, ((p :: q :: ps).foldl (fun m (x : PartAt) => m ||| x.lanes) 0#32).getLsbD l = true ↔
      ∃ e, e ∈ p :: q :: ps ∧ e.lanes.getLsbD l = true := fun l => by
    rw [getLsbD_foldl_or]
    simp
  by_cases hg : w.groups = []
  · have hs : ¬ w.isSplit = true := fun e => w.isSplit_iff.1 e hg
    unfold Wave.openParts
    simp only [if_neg hs]
    exact ⟨_, by rw [hg], rfl, rfl, hl, ⟨rfl, rfl, rfl, rfl⟩, fun _ => ⟨rfl, rfl⟩, fun h => absurd hg h⟩
  · have hs : w.isSplit = true := w.isSplit_iff.2 hg
    unfold Wave.openParts
    simp only [if_pos hs]
    exact ⟨_, rfl, rfl, rfl, hl, ⟨rfl, rfl, rfl, rfl⟩, fun h => absurd h hg, fun _ => ⟨(NMap.get?_put _ _ _ _).trans (if_pos rfl), rfl⟩⟩

/-! ### SWITCH -/

/-- The lanes of entry `j` of a table: those that match it and nothing before it; after the last entry, those that match nothing. -/
theorem getLsbD_switchLanes (exm : Mask) (v : LaneVec) (f : Nat → Word) (k j : Nat) (hj : j ≤ k) {l : Nat} (hl : l < 32) :
    (switchLanes exm v ((List.range k).map f) j).getLsbD l = true ↔
      exm.getLsbD l = true ∧ (j < k → f j = v.lane l) ∧ ∀ e, e < j → f e ≠ v.lane l := by
  unfold switchLanes laneSet
  rw [getLsbD_maskOf _ hl, Bool.and_eq_true, beq_iff_eq]
  refine and_congr_right (fun _ => ?_)
  have hlen : ((List.range k).map f).length = k := by simp
  obtain hlt | rfl := Nat.lt_or_eq_of_le hj
  · rw [List.findIdx_eq (by rw [hlen]; exact hlt)]
    simp [hlt]
  · have hx : List.findIdx (fun x => x == v.lane l) ((List.range j).map f) = j ↔
        ∀ x, x ∈ (List.range j).map f → (x == v.lane l) = false := by
      conv_lhs => rhs; rw [← hlen]
      exact List.findIdx_eq_length
    rw [hx]
    simp

/-- The parts of SWITCH, in order. -/
def switchParts (exm : Mask) (v : LaneVec) (table : List Word) (pc k : Nat) : List PartAt :=
  (List.range (k + 1)).map (fun j => ⟨switchLanes exm v table j, pc + 1 + j⟩)

/-- Rings that a word has popped from are given back. -/
theorem State.team_withRings_back (s : State) (tid : Nat) (rings : NMap (List Elem)) :
    ((s.withRings tid rings).withRings tid (s.team tid).rings).team tid = s.team tid := by
  cases h : NMap.get? s.teams tid with
  | some x =>
    have hx : s.team tid = x := by
      unfold State.team NMap.at
      rw [h]
      rfl
    have h1 : NMap.get? (s.withRings tid rings).teams tid = some { x with rings := rings } := by
      unfold State.withRings State.modTeam
      rw [h]
      exact (NMap.get?_put _ _ _ _).trans (if_pos rfl)
    rw [hx]
    exact State.team_modTeam_self h1 _
  | none =>
    have h1 : ∀ r, s.withRings tid r = s := fun r => by
      unfold State.withRings State.modTeam
      rw [h]
    rw [h1, h1]

theorem Ctx.unpop_of_popped {c : Ctx} (h : c.popped = true) (s : State) : c.unpop s = s.withRings c.wave.tid c.team.rings := if_pos h

theorem Ctx.unpop_of_unpopped {c : Ctx} (h : c.popped = false) (s : State) : c.unpop s = s :=
  if_neg (by rw [h]; exact Bool.false_ne_true)

/-- A word that faults before it reads its sources gives its stream elements back (R433). -/
theorem Ctx.rings_unpop {s : State} {i : Instr} {c : Ctx} (h : s.ctx? i = some c) :
    (((s.begun c i).1.unpop (s.begun c i).2).team c.wave.tid).rings = c.team.rings := by
  obtain ⟨-, -, -, hteam, -, -, hp⟩ := State.ctx?_some h
  have hn : (s.noted c i).team c.wave.tid = c.team := (s.noted_team c i _).trans hteam.symm
  obtain hb | ⟨rings, e, es, -, hb⟩ := s.begun_cases c i
  · rw [hb, Ctx.unpop_of_unpopped hp, hn]
  · have htid : (c.withPops (e :: es)).wave.tid = c.wave.tid := (congrArg Wave.tid (Popped.withRings c (e :: es) s rings).wave :)
    rw [hb, Ctx.unpop_of_popped rfl, htid]
    have hback := (s.noted c i).team_withRings_back c.wave.tid rings
    rw [hn] at hback
    exact congrArg Team.rings hback

/-- SWITCH with its targets in the job (R433). -/
theorem exec_switch {s : State} {c : Ctx} {a v : Reg} {n : BitVec 3} (h : Ready s (.switch a v n) c) :
    exec (.switch a v n) s = .next (
      let b := s.begun c (.switch a v n)
      let k := n.toNat + 1
      if c.arm.pc + 1 + k < c.job.npkt then b.1.splitInto (switchParts c.arm.exm (b.1.wave.vreg v.toNat)
        ((List.range k).map (fun j => b.1.wave.sreg (a.toNat + j))) c.arm.pc k) (c.arm.pc + 1 + k) b.2
      else b.1.transfer (c.arm.pc + 1 + k) id (b.1.unpop b.2)) := by
  have hp := s.begun_popped c (.switch a v n)
  refine (State.run_ready h _).trans ?_
  unfold group switchParts
  simp only [List.map_map, hp.arm, hp.job]
  rfl

/-- A transfer past the last packet faults at its target (R102). -/
theorem Ctx.transfer_past {c : Ctx} {k : Nat} (h : c.job.npkt ≤ k) (f : Wave → Wave) (s : State) :
    c.transfer (k : Int) f s = c.fault 0x10 0 ((c.job.cbase + 12 * k) % 2 ^ 64) s := by
  unfold Ctx.transfer
  rw [if_neg (by omega)]
  rfl

/-! ### MERGE -/

/-- The view of a group that one of its arms joins (R51). -/
def Group.joined (g : Group) (a : Arm) : List (Nat × Nat) := (g.empty ++ a.empty).dedup

theorem Group.mem_joined (g : Group) (a : Arm) (e : Nat × Nat) : e ∈ g.joined a ↔ e ∈ g.empty ∨ e ∈ a.empty := by
  unfold Group.joined
  rw [List.mem_dedup, List.mem_append]

/-- A wave one of whose arms has ended, but not the last of its group. -/
def Wave.countedDown (w : Wave) (a : Arm) (g : Group) : Wave :=
  { w with groups := w.groups.map (fun x => if x.id = g.id then { x with remaining := x.remaining - 1, empty := g.joined a } else x) }

theorem Wave.merge_of_more {g : Group} (h : 1 < g.remaining) (w : Wave) (n : Nat) (a : Arm) :
    w.merge n a g = (w.countedDown a g).popPart n a := by
  unfold Wave.merge
  exact if_pos h

/-- The arm of the parent that resumes after the MERGE (R57). -/
def Arm.parent (a : Arm) (g : Group) : Arm :=
  { a with pc := a.pc + 1, word := 0, exm := g.lanes, entry := g.lanes, grp := g.parentGrp, empty := g.joined a, hold := .none,
           cap := none, paired := false, also := none }

theorem Wave.merge_of_last {g : Group} (h : g.remaining ≤ 1) (w : Wave) (n : Nat) (a : Arm) : w.merge n a g =
    { w with groups := w.groups.filter (fun x => x.id != g.id), arms := NMap.put w.arms n (a.parent g) } := by
  unfold Wave.merge
  exact if_neg (Nat.not_lt.2 h)

/-- The arm that a part of the stack becomes in the place of one that has ended (R57). -/
def Arm.popped (a : Arm) (p : Part) : Arm :=
  { a with pc := p.pc, word := 0, exm := p.lanes, entry := p.lanes, grp := p.grp, empty := p.empty, hold := .none,
           cap := none, paired := false, also := none }

theorem Wave.popPart_cons {w : Wave} {p : Part} {ps : List Part} (h : w.stack = p :: ps) (n : Nat) (a : Arm) :
    w.popPart n a = { w with stack := ps, arms := NMap.put w.arms n (a.popped p) } := by
  unfold Wave.popPart
  rw [h]
  rfl

theorem Wave.popPart_nil {w : Wave} (h : w.stack = []) (n : Nat) (a : Arm) : w.popPart n a = { w with arms := NMap.del w.arms n } := by
  unfold Wave.popPart
  rw [h]

/-- What a MERGE of an arm that is not the last of its group leaves. -/
theorem Wave.popPart_groups (w : Wave) (n : Nat) (a : Arm) : (w.popPart n a).groups = w.groups := by
  unfold Wave.popPart
  split <;> rfl

/-- A wave without its arms, its stack and its groups. -/
def Wave.offArms (w : Wave) : Wave := { w with arms := [], stack := [], groups := [] }

theorem Wave.popPart_offArms (w : Wave) (n : Nat) (a : Arm) : (w.popPart n a).offArms = w.offArms := by
  unfold Wave.popPart
  split <;> rfl

theorem Wave.merge_offArms (w : Wave) (n : Nat) (a : Arm) (g : Group) : (w.merge n a g).offArms = w.offArms := by
  by_cases h : 1 < g.remaining
  · rw [Wave.merge_of_more h, Wave.popPart_offArms]
    rfl
  · rw [Wave.merge_of_last (Nat.not_lt.1 h)]
    rfl

theorem exec_merge_none {s : State} {c : Ctx} (h : Ready s .merge c) (hg : c.wave.groups.find? (fun x => x.id == c.arm.grp) = none) :
    exec .merge s = .next (Claims.moved s c .merge (c.arm.pc + 1)) := by
  refine (State.run_scalar h rfl _).trans ?_
  simp only [hg]
  exact congrArg Host.Outcome.next (State.modArm_congr h.stands.wave h.stands.arm rfl)

theorem exec_merge_some {s : State} {c : Ctx} {g : Group} (h : Ready s .merge c)
    (hg : c.wave.groups.find? (fun x => x.id == c.arm.grp) = some g) :
    exec .merge s = .next ((s.noted c .merge).modWave c.r.core c.r.slot (fun w => w.merge c.r.arm c.arm g)) := by
  refine (State.run_scalar h rfl _).trans ?_
  simp only [hg]

end Sys2Proof.Machine

namespace Sys2Proof
open Machine

/-- Settles O29: the parts of SPLIT and of SWITCH, then the rule on parts that have lanes. -/
theorem splitsTheWave : Obligations.SplitsTheWave := by
  unfold Obligations.SplitsTheWave
  refine ⟨⟨fun s c p o h => ⟨fun h0 hn => ?_, fun hd => ?_⟩, fun s c a v n h => ⟨fun hn => ?_, fun hn => ⟨?_, Ctx.rings_unpop h.ctx⟩⟩⟩,
    fun s c ps alone hw ha => ?_⟩
  · refine ⟨c.arm.exm &&& ~~~(c.wave.preg p.toNat), c.arm.exm &&& c.wave.preg p.toNat, ?_, fun l hl => ⟨?_, BitVec.getLsbD_and⟩⟩
    · refine (State.run_scalar h rfl _).trans ?_
      simp only [if_pos (And.intro h0 hn)]
    · rw [BitVec.getLsbD_and, BitVec.getLsbD_not, decide_eq_true hl, Bool.true_and]
  · refine (State.run_scalar h rfl _).trans ?_
    have hno : ¬ (0 ≤ (c.arm.pc + o.toInt : Int) ∧ (c.arm.pc + o.toInt : Int) < c.job.npkt) := by omega
    simp only [if_neg hno, Ctx.transfer]
  · rw [exec_switch h]
    simp only [if_pos hn]
    refine ⟨_, rfl, by simp [switchParts], fun j hj => ?_⟩
    have hget : ∀ (x : Mask) (y : LaneVec) (ws : List Word), (switchParts x y ws c.arm.pc (n.toNat + 1))[j]? =
        some ⟨switchLanes x y ws j, c.arm.pc + 1 + j⟩ := fun x y ws => by
      simp [switchParts, Nat.lt_succ_of_le hj]
    exact ⟨_, hget _ _ _, fun l hl => getLsbD_switchLanes _ _ _ _ _ hj hl⟩
  · rw [exec_switch h]
    simp only [if_neg (Nat.not_lt.2 hn)]
    have hj : (s.begun c (.switch a v n)).1.job = c.job := (s.begun_popped c _).job
    have ht := Ctx.transfer_past (c := (s.begun c (.switch a v n)).1) (k := c.arm.pc + 1 + (n.toNat + 1)) (hj ▸ hn) id
    rw [hj] at ht
    exact congrArg Host.Outcome.next (ht _)
  · refine ⟨fun h => Ctx.splitInto_nil h alone s, fun p h => Ctx.splitInto_one h alone s, fun h2 hs hf => ?_, fun p q rest hlive hs hf => ?_⟩
    · obtain ⟨p, q, rest, hlive⟩ : ∃ p q rest, ps.filter (fun p => p.lanes != 0#32) = p :: q :: rest := by
        match hps : ps.filter (fun p => p.lanes != 0#32) with
        | [] => exact absurd h2 (by rw [hps]; decide)
        | [p] => exact absurd h2 (by rw [hps]; simp)
        | p :: q :: rest => exact ⟨p, q, rest, hps⟩
      rw [hlive] at hf
      rw [Ctx.splitInto_more hlive, if_pos ((splitNeed_fits hs).2 hf)]
    · rw [hlive] at hf
      rw [Ctx.splitInto_more hlive, if_neg (fun e => (splitNeed_fits hs).1 e hf)]
      obtain ⟨g, hg⟩ := c.wave.openParts_opened c.r.arm c.arm p q rest
      obtain ⟨hS, hV, hP, hC⟩ := hg.regs
      refine ⟨_, g, State.wave?_modWave_self hw _, hg.groups, hg.parent, ?_, fun l _ => ?_, hS, hV, hP, hC, hg.unsplit, hg.split⟩
      · rw [hlive]
        exact hg.remaining
      · rw [hlive]
        exact hg.lanes l

/-- Settles O30: a MERGE outside every group, of an arm that is not the last of its group, and of the last. -/
theorem mergeJoins : Obligations.MergeJoins := by
  unfold Obligations.MergeJoins
  refine fun s c h => ⟨fun hg => exec_merge_none h (by rw [hg]; rfl), fun g hg => exec_merge_some h hg, fun g hl hg => ?_⟩
  have hoff := c.wave.merge_offArms c.r.arm c.arm g
  refine ⟨_, _, exec_merge_some h hg, State.wave?_modWave_self h.stands.wave _, (congrArg Wave.s hoff :), (congrArg Wave.v hoff :),
    (congrArg Wave.p hoff :), (congrArg Wave.controls hoff :), (State.sameMemory_noted hl).trans (State.sameMemory_modWave _ _ _ _),
    (s.sameScratch_noted c .merge).trans (State.sameScratch_modWave _ _ _ _), fun hr => ?_, fun hr => ?_⟩
  · rw [Wave.merge_of_more hr]
    refine ⟨⟨g.joined c.arm, Wave.popPart_groups _ _ _, g.mem_joined c.arm⟩, fun e es he => ?_, fun he => ?_⟩
    · rw [Wave.popPart_cons (w := c.wave.countedDown c.arm g) he]
      exact ⟨rfl, c.arm.popped e, (NMap.get?_put _ _ _ _).trans (if_pos rfl), rfl, rfl, rfl, rfl, rfl, rfl⟩
    · rw [Wave.popPart_nil (w := c.wave.countedDown c.arm g) he]
      exact ⟨he, rfl⟩
  · rw [Wave.merge_of_last hr]
    exact ⟨rfl, rfl, c.arm.parent g, (NMap.get?_put _ _ _ _).trans (if_pos rfl), rfl, rfl, rfl, rfl, rfl, g.mem_joined c.arm⟩

end Sys2Proof
end
section
/-! ## What the caches, the pennant and the end of a wave leave alone

Write-backs, acquires and bank changes touch copies of memory only (R165, R171, R194, R195); the pennant wakes arms (R227); the end of a
wave frees slots (R357). -/
set_option Elab.async false

open Sys2Proof Sys2Proof.Machine

namespace Sys2Proof.Machine

/-! ### Caches -/

/-- A core without its L1, its write signatures and what it last saw of the boards. -/
def Core.offL1 (k : Core) : Core :=
  { k with l1 := [], sigC := 0#2048, sigS := 0#2048, sigD := 0#2048, lastC := 0, lastS := 0, lastD := 0 }

/-- A state without what its caches hold, its memory at home and the boards; its cores stand beside it, each without its L1. -/
def State.offCaches (s : State) : State × (Nat → Core) :=
  ({ s with cores := [], clusters := [], stk := [], board := {}, mem := [], poison := [], l2 := [], freeCtr := 0 }, fun d => (s.core d).offL1)

theorem State.offCaches_of_offBanks {s t : State} (h : t.offBanks = s.offBanks) : t.offCaches = s.offCaches :=
  have e : ∀ s : State, s.offBanks.offCaches = s.offCaches := fun _ => rfl
  (e t).symm.trans ((congrArg State.offCaches h).trans (e s))

theorem State.offCaches_modCore {s : State} {c : Nat} {f : Core → Core} (h : ∀ k, (f k).offL1 = k.offL1) :
    (s.modCore c f).offCaches = s.offCaches := by
  refine Prod.ext rfl (funext fun d => ?_)
  show ((s.modCore c f).core d).offL1 = _
  rw [State.core_modCore]
  split
  · next e => rw [e, h]; rfl
  · rfl

theorem State.evictOther_offBanks (s : State) (cl pasid la : Nat) : (s.evictOther cl pasid la).offBanks = s.offBanks := by
  unfold State.evictOther
  split
  · split
    · rfl
    · exact s.evictCC_offBanks _ _
  · rfl

theorem State.ccWay_offBanks (s : State) (cl la : Nat) : (s.ccWay cl la).1.offBanks = s.offBanks := by
  unfold State.ccWay
  extract_lets
  split
  · rfl
  · split
    · exact s.evictCC_offBanks _ _
    · rfl

theorem State.ccLine_offBanks (s : State) (cl pasid la : Nat) : (s.ccLine cl pasid la).1.offBanks = s.offBanks := by
  unfold State.ccLine
  split
  · split
    · rfl
    · exact s.lineHome_offBanks _ _
  · exact s.ccWay_offBanks _ _

theorem State.lineOut_offBanks (s : State) (cl la : Nat) (l : CLine) (home : Bool) : (s.lineOut cl la l home).offBanks = s.offBanks := by
  unfold State.lineOut
  split
  · extract_lets t
    have ht : t.offBanks = s.offBanks := (State.lineHome_offBanks _ _ _).trans (s.evictOther_offBanks _ _ _)
    split
    · exact ht
    · exact ht
  · exact s.ccLine_offBanks _ _ _

theorem State.setL1_offCaches (s : State) (c la : Nat) (l : CLine) : (s.setL1 c la l).offCaches = s.offCaches :=
  State.offCaches_modCore (fun _ => rfl)

theorem State.writeBackL1_offCaches (s : State) (c : Nat) (home : Bool) : (s.writeBackL1 c home).offCaches = s.offCaches := by
  refine foldl_keeps (g := State.offCaches) (fun s e => ?_) _ s
  show (if e.2.dirty.isEmpty then s else (s.lineOut (clusterOf c) e.1 e.2 home).setL1 c e.1 e.2.clean).offCaches = _
  split
  · rfl
  · exact (State.setL1_offCaches _ _ _ _).trans (State.offCaches_of_offBanks (s.lineOut_offBanks _ _ _ _))

theorem State.writeBackCC_offCaches (s : State) (cl : Nat) (g : BitVec 2048) : (s.writeBackCC cl g).offCaches = s.offCaches := by
  refine foldl_keeps (g := State.offCaches) (fun s e => ?_) _ s
  show (if e.2.dirty.isEmpty || !sigMatch g e.1 then s else (s.lineHome e.1 e.2).setCC cl e.1 e.2.clean).offCaches = _
  split
  · rfl
  · exact State.offCaches_of_offBanks (s.lineHome_offBanks e.1 e.2)

theorem State.publishTo_offCaches (s : State) (c scope : Nat) (g : BitVec 2048) : (publishTo s c scope g).offCaches = s.offCaches := by
  unfold publishTo
  extract_lets t u
  have hu : u.offCaches = s.offCaches := by
    unfold u
    split <;> rfl
  split <;> exact hu

theorem State.release_offCaches (s : State) (c scope : Nat) : (s.release c scope).offCaches = s.offCaches := by
  unfold State.release
  split
  · rfl
  · extract_lets g t u
    have ht : t.offCaches = s.offCaches := s.writeBackL1_offCaches _ _
    have hu : u.offCaches = s.offCaches := by
      unfold u
      split
      · exact (State.writeBackCC_offCaches _ _ _).trans ht
      · exact ht
    refine Eq.trans (State.offCaches_modCore ?_) ((State.publishTo_offCaches _ _ _ _).trans hu)
    exact fun _ => rfl

theorem State.acquire_offCaches (s : State) (c scope : Nat) : (s.acquire c scope).offCaches = s.offCaches := by
  unfold State.acquire
  split
  · rfl
  · extract_lets k b last g every t
    have ht : t.offCaches = s.offCaches := State.offCaches_modCore (fun _ => rfl)
    split
    · exact ht
    · exact ht

theorem State.wave?_of_offCaches {s t : State} (h : t.offCaches = s.offCaches) (d k : Nat) : t.wave? d k = s.wave? d k :=
  (congrArg (fun v => NMap.get? (v.2 d).slots k) h :)

theorem State.core_of_offCaches {s t : State} (h : t.offCaches = s.offCaches) (d : Nat) : (t.core d).offL1 = (s.core d).offL1 :=
  congrFun (congrArg Prod.snd h) d

theorem State.rest_of_offCaches {s t : State} (h : t.offCaches = s.offCaches) : t.teams = s.teams ∧ t.deliveries = s.deliveries :=
  ⟨(congrArg (fun v => v.1.teams) h :), (congrArg (fun v => v.1.deliveries) h :)⟩

/-! ### The pennant -/

/-- A wave whose arms that are held as `p` asks go on. -/
def Wave.woken (p : Hold → Bool) (w : Wave) : Wave := { w with arms := w.arms.map (fun (e : Nat × Arm) => (e.1, e.2.wake p)) }

/-- A state without its cores. -/
def State.offCores (s : State) : State := { s with cores := [] }

theorem State.modWave_offCores (s : State) (c k : Nat) (f : Wave → Wave) : (s.modWave c k f).offCores = s.offCores := by
  unfold State.modWave
  split <;> rfl

theorem State.givePennant_offCores (s : State) (core slot : Nat) : (s.givePennant core slot).offCores = s.offCores :=
  State.modWave_offCores _ _ _ _

/-- The wave that held the pennant goes on from its PPASS. -/
def State.letGo (s : State) (core : Nat) (old : Option Nat) : State :=
  match old with
  | some h => s.modWave core h (Wave.woken Hold.isPassing)
  | none => s

/-- The pennant goes to a wave that was found, else to the head of the queue, else it is free (R227). -/
def State.passTo (s : State) (core : Nat) (found : Option (Nat × Wave)) : State :=
  match found with
  | some e => s.givePennant core e.1
  | none =>
    match (s.core core).queue with
    | r :: _ => s.givePennant core r.slot
    | [] => s.modCore core (fun k => { k with holder := none })

/-- The wave of a number that has not ended, of one core. -/
def State.heir (s : State) (core : Nat) (target : Option Nat) : Option (Nat × Wave) :=
  target.bind (fun u => (s.core core).slots.find? (fun e => e.2.uid == u && !e.2.ended))

theorem State.handover_eq (s : State) (core : Nat) (target : Option Nat) : s.handover core target =
    (s.letGo core (s.core core).holder).passTo core ((s.letGo core (s.core core).holder).heir core target) := by
  unfold State.handover
  rfl

theorem State.letGo_offCores (s : State) (core : Nat) (old : Option Nat) : (s.letGo core old).offCores = s.offCores := by
  cases old with
  | none => rfl
  | some h => exact s.modWave_offCores _ _ _

theorem State.passTo_offCores (s : State) (core : Nat) (found : Option (Nat × Wave)) : (s.passTo core found).offCores = s.offCores := by
  unfold State.passTo
  split
  · exact s.givePennant_offCores _ _
  · split
    · exact s.givePennant_offCores _ _
    · rfl

theorem State.handover_offCores (s : State) (core : Nat) (target : Option Nat) : (s.handover core target).offCores = s.offCores := by
  rw [State.handover_eq, State.passTo_offCores, State.letGo_offCores]

theorem State.settlePennant_offCores (s : State) (core : Nat) : (s.settlePennant core).offCores = s.offCores := by
  unfold State.settlePennant
  extract_lets k
  split
  · rfl
  · split
    · exact s.handover_offCores _ _
    · split
      · rfl
      · split
        · exact s.handover_offCores _ _
        · split
          · exact s.handover_offCores _ _
          · rfl

/-- A wave that takes the pennant: its PTAKE instructions complete, and no other wave changes (R48, R227). -/
theorem State.wave?_givePennant (s : State) (core slot d k : Nat) : (s.givePennant core slot).wave? d k =
    if d = core ∧ k = slot then (s.wave? core slot).map (Wave.woken Hold.isPennant) else s.wave? d k := by
  unfold State.givePennant
  extract_lets job t
  have ht : ∀ d k, t.wave? d k = s.wave? d k := State.wave?_modCore_of_slots rfl
  rw [State.wave?_modWave, ht, ht]
  rfl

/-- A wave that is given nothing. -/
theorem State.wave?_givePennant_other (s : State) {core slot d k : Nat} (h : d ≠ core ∨ k ≠ slot) :
    (s.givePennant core slot).wave? d k = s.wave? d k := by
  rw [State.wave?_givePennant, if_neg (fun e => h.elim (· e.1) (· e.2))]

/-- A wave as it was, or with some arms woken, once. -/
def Wave.wokenOnce (w u : Wave) : Prop := u = w ∨ ∃ p, u = w.woken p

theorem State.queue_letGo (s : State) (core : Nat) (old : Option Nat) (d : Nat) :
    ((s.letGo core old).core d).queue = (s.core d).queue := by
  cases old with
  | none => rfl
  | some h => exact (congrArg Core.queue (s.offSlots_modWave core h d _) :)

/-- The pennant reaches a wave that does not queue only where the wave was found. -/
theorem State.wave?_passTo_none {s : State} {core slot : Nat} (hq : ∀ r, r ∈ (s.core core).queue → r.slot ≠ slot) :
    (s.passTo core none).wave? core slot = s.wave? core slot := by
  unfold State.passTo
  cases hr : (s.core core).queue with
  | nil => exact State.wave?_modCore_of_slots rfl _ _
  | cons r rs => exact s.wave?_givePennant_other (.inr (fun e => hq r (by rw [hr]; exact List.mem_cons_self) e.symm))

theorem State.wave?_passTo {s : State} {core slot : Nat} {w : Wave} (hw : s.wave? core slot = some w)
    (hq : ∀ r, r ∈ (s.core core).queue → r.slot ≠ slot) (found : Option (Nat × Wave)) :
    ∃ u, (s.passTo core found).wave? core slot = some u ∧ w.wokenOnce u := by
  cases found with
  | none => exact ⟨w, (State.wave?_passTo_none hq).trans hw, .inl rfl⟩
  | some e =>
    show ∃ u, (s.givePennant core e.1).wave? core slot = some u ∧ w.wokenOnce u
    by_cases he : slot = e.1
    · rw [State.wave?_givePennant, if_pos ⟨rfl, he⟩, ← he, hw]
      exact ⟨_, rfl, .inr ⟨_, rfl⟩⟩
    · rw [State.wave?_givePennant_other s (.inr he), hw]
      exact ⟨w, rfl, .inl rfl⟩

/-- The hand-over wakes arms of the wave that held the pennant, and of the one that takes it (R227); a wave that does not queue is not both
where it hands the pennant to the queue. -/
theorem State.wave?_handover {s : State} {core slot : Nat} {w : Wave} {target : Option Nat} (hw : s.wave? core slot = some w)
    (hq : ∀ r, r ∈ (s.core core).queue → r.slot ≠ slot) (ht : (s.core core).holder = some slot → target = none) :
    ∃ u, (s.handover core target).wave? core slot = some u ∧ w.wokenOnce u := by
  rw [State.handover_eq]
  have hq' : ∀ r, r ∈ ((s.letGo core (s.core core).holder).core core).queue → r.slot ≠ slot := fun r hr =>
    hq r (s.queue_letGo core _ core ▸ hr)
  by_cases hh : (s.core core).holder = some slot
  · have htw : (s.letGo core (s.core core).holder).wave? core slot = some (w.woken Hold.isPassing) := by
      rw [hh]
      exact State.wave?_modWave_self hw _
    rw [ht hh]
    exact ⟨_, (State.wave?_passTo_none hq').trans htw, .inr ⟨_, rfl⟩⟩
  · have htw : (s.letGo core (s.core core).holder).wave? core slot = some w := by
      cases ho : (s.core core).holder with
      | none => exact hw
      | some h => exact (State.wave?_modWave_other (.inr (fun e => hh (by rw [ho, e]))) _).trans hw
    exact State.wave?_passTo htw hq' _

/-- What becomes of an ended wave, which does not queue for the pennant, when its core comes to rest. -/
theorem State.wave?_settlePennant {s : State} {core slot : Nat} {w : Wave} (hw : s.wave? core slot = some w) (he : w.ended = true)
    (hq : ∀ r, r ∈ (s.core core).queue → r.slot ≠ slot) :
    ∃ u, (s.settlePennant core).wave? core slot = some u ∧ w.wokenOnce u := by
  have same : ∃ u, s.wave? core slot = some u ∧ w.wokenOnce u := ⟨w, hw, .inl rfl⟩
  unfold State.settlePennant
  extract_lets k
  split
  · exact same
  · next h hh =>
    split
    · exact State.wave?_handover hw hq (fun _ => rfl)
    · next v hv =>
      have hne : v.ended ≠ true → h ≠ slot := fun hv' e => hv' (by
        have : some v = some w := hv.symm.trans (e ▸ hw)
        rw [Option.some.inj this, he])
      split
      · exact same
      · split
        · exact State.wave?_handover hw hq (fun _ => rfl)
        · next hv' =>
          split
          · exact State.wave?_handover hw hq (fun e => absurd (Option.some.inj (hh.symm.trans e)) (hne hv'))
          · exact same

/-! ### Slots that become free -/

theorem State.team_modTeam_keeps {β : Type} {g : Team → β} {f : Team → Team} (h : ∀ x, g (f x) = g x) (s : State) (t k : Nat) :
    g ((s.modTeam t f).team k) = g (s.team k) := by
  unfold State.modTeam
  split
  · next x hx =>
    unfold State.team
    show g (NMap.at (NMap.put s.teams t (f x)) k Team.empty) = _
    rw [NMap.at_put]
    split
    · next e =>
      rw [h, e]
      unfold NMap.at
      rw [hx]
      rfl
    · rfl
  · rfl

/-- Of the waves of a state some are gone, the others as they were; no delivery is made, and no team abandoned. -/
structure Frees (s t : State) : Prop where
  waves : ∀ d k, t.wave? d k = none ∨ t.wave? d k = s.wave? d k
  deliveries : t.deliveries = s.deliveries
  abandoned : ∀ k, (t.team k).abandoned = true → (s.team k).abandoned = true

theorem Frees.refl (s : State) : Frees s s := ⟨fun _ _ => .inr rfl, rfl, fun _ h => h⟩

theorem Frees.trans {s t u : State} (h : Frees s t) (g : Frees t u) : Frees s u where
  waves d k := (g.waves d k).elim .inl (fun e => (h.waves d k).imp (e.trans ·) (e.trans ·))
  deliveries := g.deliveries.trans h.deliveries
  abandoned k hk := h.abandoned k (g.abandoned k hk)

theorem Frees.foldl {α : Type} {f : State → α → State} (h : ∀ s a, Frees s (f s a)) (l : List α) (s : State) : Frees s (l.foldl f s) := by
  induction l generalizing s with
  | nil => exact .refl s
  | cons a l ih => exact (h s a).trans (ih _)

theorem Frees.of_offCaches {s t : State} (h : t.offCaches = s.offCaches) : Frees s t := by
  obtain ⟨ht, hd⟩ := State.rest_of_offCaches h
  refine ⟨fun d k => .inr (State.wave?_of_offCaches h d k), hd, fun k hk => ?_⟩
  unfold State.team at hk ⊢
  rwa [ht] at hk

/-- A state that differs in parts that hold no wave, no delivery and no team. -/
theorem Frees.of_parts {s t : State} (hc : t.cores = s.cores) (hd : t.deliveries = s.deliveries) (ht : t.teams = s.teams) : Frees s t := by
  refine ⟨fun d k => .inr ?_, hd, fun k hk => ?_⟩
  · unfold State.wave? State.core
    rw [hc]
  · unfold State.team at hk ⊢
    rwa [ht] at hk

theorem Frees.delTeam (s : State) (tid : Nat) : Frees s { s with teams := NMap.del s.teams tid } := by
  refine ⟨fun _ _ => .inr rfl, rfl, fun k hk => ?_⟩
  unfold State.team NMap.at at hk ⊢
  rw [show NMap.get? (NMap.del s.teams tid) k = _ from NMap.get?_del s.teams tid k] at hk
  split at hk
  · cases hk
  · exact hk

theorem Frees.rebank (s : State) (cl : Nat) : Frees s (s.rebank cl) := .of_offCaches (State.offCaches_of_offBanks (s.rebank_offBanks cl))

theorem Frees.leaveCluster (s : State) (jid cl : Nat) : Frees s (s.leaveCluster jid cl) := by
  unfold State.leaveCluster
  split
  · exact .refl s
  · split
    · exact .refl s
    · next aid _ =>
      refine Frees.trans (t := { s.freeBank cl (fun o => o == BankOwner.alloc aid) with allocs := NMap.del s.allocs aid }) ?_ (.rebank _ _)
      exact .of_parts rfl rfl rfl

theorem Frees.endTeam (s : State) (tid : Nat) : Frees s (s.endTeam tid) := by
  unfold State.endTeam
  extract_lets t last u v
  have hu : Frees s u := by
    unfold u
    split
    · exact Frees.foldl (fun s c => .of_offCaches (s.release_offCaches c 5)) _ s
    · exact .refl s
  split
  · exact (hu.trans (.delTeam u tid)).trans (.leaveCluster _ _ _)
  · have hv : Frees u v := .of_parts rfl rfl rfl
    refine ((hu.trans hv).trans (.delTeam v tid)).trans (Frees.trans (t := { v with teams := NMap.del v.teams tid, allocs := NMap.del v.allocs t.alloc }) ?_ (.rebank _ _))
    exact .of_parts rfl rfl rfl

theorem Frees.delSlot (s : State) (core slot : Nat) : Frees s (s.modCore core (fun k => { k with slots := NMap.del k.slots slot })) := by
  refine ⟨fun d k => ?_, rfl, fun k hk => hk⟩
  unfold State.wave?
  rw [State.core_modCore]
  split
  · next e =>
    subst e
    show NMap.get? (NMap.del (s.core d).slots slot) k = none ∨ _
    rw [NMap.get?_del]
    split
    · exact .inl rfl
    · exact .inr rfl
  · exact .inr rfl

theorem Frees.modTeam {s : State} {f : Team → Team} (h : ∀ x, (f x).abandoned = x.abandoned) (t : Nat) : Frees s (s.modTeam t f) :=
  ⟨fun _ _ => .inr (State.wave?_modTeam _ _ _ _ _), State.modTeam_deliveries _ _ _,
    fun k hk => (State.team_modTeam_keeps (g := Team.abandoned) h s t k).symm.trans hk⟩

theorem Frees.freeSlot (s : State) (core slot : Nat) (w : Wave) : Frees s (s.freeSlot core slot w) := by
  unfold State.freeSlot
  extract_lets t u
  have hu : Frees s u := (Frees.delSlot s core slot).trans
    (.modTeam (f := fun t => { t with alive := t.alive - 1 }) (fun _ => rfl) w.tid)
  split
  · exact hu.trans (.endTeam u w.tid)
  · exact hu

theorem Core.closeCursors_slots (k : Core) : k.closeCursors.slots = k.slots := by
  unfold Core.closeCursors
  split <;> rfl

/-- A core that comes to rest: its pennant moves on, and slots of ended waves become free. -/
theorem State.settle_frees (s : State) (core : Nat) : Frees (s.settlePennant core) (s.settle core) := by
  unfold State.settle
  extract_lets t
  have ht : Frees (s.settlePennant core) t :=
    ⟨fun d k => .inr (State.wave?_modCore_of_slots (Core.closeCursors_slots _) d k), rfl, fun _ h => h⟩
  refine ht.trans (Frees.foldl (fun s e => ?_) _ t)
  show Frees s (if e.2.ended && !s.waveBusy core e.2 then s.freeSlot core e.1 e.2 else s)
  split
  · exact .freeSlot s core e.1 e.2
  · exact .refl s

end Sys2Proof.Machine
end
section
/-! ## NOP, PREON, PREOFF, DRAIN, CWAIT and EXIT -/
set_option Elab.async false

open Sys2Proof Sys2Proof.Machine

namespace Sys2Proof.Machine

/-! ### An arm that keeps stores only -/

/-- The captured instructions of an arm are stores and atomics, the first of them at hand. -/
structure Arm.StoresOnly (a : Arm) : Prop where
  cap : ∃ q, a.cap = some q ∧ storesOrAtomic q.ins = true
  also : ∀ e, a.also = some e → storesOrAtomic e.2.ins = true
  single : a.paired = false

theorem Arm.storesOnly_of_storing {a b : Arm} (h : a.storing = some b) : b.StoresOnly := by
  unfold Arm.storing Arm.only at h
  split at h
  · next k q rest e =>
    obtain rfl := Option.some.inj h
    have hall : ∀ x, x ∈ (k, q) :: rest → storesOrAtomic x.2.ins = true := fun x hx => by
      rw [← e] at hx
      exact (Bool.and_eq_true_iff.1 (List.mem_filter.1 hx).2).1
    exact ⟨⟨q, rfl, hall _ List.mem_cons_self⟩, fun x hx => hall x (List.mem_cons_of_mem _ (List.mem_of_mem_head? hx)), rfl⟩
  · cases h

/-- An arm that keeps stores, and whose place in the pennant's queue is gone, still has a store. -/
theorem Arm.StoresOnly.cap_wake {a : Arm} (h : a.StoresOnly) (p : Hold → Bool) : ∃ q, (a.wake p).cap = some q ∧ storesOrAtomic q.ins = true := by
  obtain ⟨q, hq, hs⟩ := h.cap
  have hadv : ∀ b : Arm, b.paired = false → (∃ q, b.cap = some q ∧ storesOrAtomic q.ins = true) →
      (∀ e, b.also = some e → storesOrAtomic e.2.ins = true) → ∃ q, b.advance.cap = some q ∧ storesOrAtomic q.ins = true := by
    intro b hb ⟨k, hk, hks⟩ ha
    unfold Arm.advance
    split
    · next x k' hx => exact ⟨k', rfl, ha _ hx⟩
    · rw [hb, if_neg Bool.false_ne_true]
      split
      · exact ⟨k, hk, hks⟩
      · exact ⟨k, hk, hks⟩
  unfold Arm.wake
  split
  · unfold Arm.facing
    split
    · unfold Arm.swap
      split
      · next _ k q' x ha hx =>
        obtain rfl := Option.some.inj (hx.symm.trans hq)
        exact hadv _ h.single ⟨q', rfl, h.also _ ha⟩ (fun e he => by
          obtain rfl := Option.some.inj he
          exact hs)
      · exact hadv a h.single h.cap h.also
    · exact hadv a h.single h.cap h.also
  · exact h.cap

/-! ### CWAIT's word -/

/-- The four bytes of a word lie in one sector. -/
theorem sectorsOf_word {x : Nat} (h : x % 16 = 0) : sectorsOf x 4 = [(x / 32 / 4, x / 32 % 4)] := by
  have h1 : (x + 4 - 1) / 32 + 1 - x / 32 = 1 := by omega
  unfold sectorsOf
  rw [h1]
  rfl

theorem Alloc.poisonIn_word (al : Alloc) {x : Nat} (h : x % 16 = 0) :
    al.poisonIn x 4 = if x / 32 ∈ al.pois then some (x / 32 * 32) else none := by
  have h1 : 4 * (x / 32 / 4) + x / 32 % 4 = x / 32 := Nat.div_add_mod _ _
  unfold Alloc.poisonIn
  rw [sectorsOf_word h]
  by_cases hp : x / 32 ∈ al.pois
  · simp [h1, hp, Nat.mul_comm]
  · simp [h1, hp]

theorem bytesNat_eq_zero (l : List Byte) : bytesNat l = 0 ↔ ∀ b, b ∈ l → b = 0#8 := by
  induction l with
  | nil => simp [bytesNat]
  | cons b l ih =>
    have hb : b.toNat = 0 ↔ b = 0#8 := ⟨fun e => BitVec.eq_of_toNat_eq e, fun e => by rw [e]; rfl⟩
    have hm : bytesNat (b :: l) = 0 ↔ b.toNat = 0 ∧ bytesNat l = 0 := by
      show b.toNat + 256 * bytesNat l = 0 ↔ _
      omega
    rw [hm, hb, ih, List.forall_mem_cons]

theorem mem_readBytes (m : Memory) (b : Byte) (a n : Nat) : b ∈ m.readBytes a n ↔ ∃ k, k < n ∧ b = m.read (a + k) := by
  induction n generalizing a with
  | zero => simp [Memory.readBytes]
  | succ n ih =>
    unfold Memory.readBytes
    rw [List.mem_cons, ih]
    constructor
    · rintro (rfl | ⟨k, hk, rfl⟩)
      · exact ⟨0, Nat.succ_pos _, rfl⟩
      · exact ⟨k + 1, Nat.succ_lt_succ hk, by rw [Nat.add_assoc, Nat.add_comm 1]⟩
    · rintro ⟨k, hk, rfl⟩
      cases k with
      | zero => exact .inl rfl
      | succ k => exact .inr ⟨k, Nat.lt_of_succ_lt_succ hk, by rw [Nat.add_assoc, Nat.add_comm 1]⟩

theorem Alloc.bytesAt_zero (al : Alloc) (x n : Nat) : bytesNat (al.bytesAt x n) = 0 ↔ ∀ k, k < n → al.cells.read (x + k) = 0#8 := by
  rw [bytesNat_eq_zero]
  exact ⟨fun h k hk => h _ ((mem_readBytes _ _ _ _).2 ⟨k, hk, rfl⟩), fun h b hb => by
    obtain ⟨k, hk, rfl⟩ := (mem_readBytes _ _ _ _).1 hb
    exact h k hk⟩

section
variable {s : State} {c : Ctx}

theorem exec_cwait {a : Reg} (h : Ready s (.cwait a) c) : exec (.cwait a) s = .next (
    let n := s.noted c (.cwait a)
    let x := (c.wave.sreg a.toNat).toNat
    let al := n.alloc c.team.alloc
    if x % 16 ≠ 0 then c.fault 0x10 0 x n
    else if al.bytes < x + 16 then c.fault 0x12 2 x n
    else match al.poisonIn x 4 with
      | some sector => c.fault 0x13 0 sector n
      | none => if bytesNat (al.bytesAt x 4) = 0 then n.finishAcquire c.r 2 else c.holdFor (.wait .completion) false n) :=
  State.run_scalar h rfl _

theorem exec_drain {n : BitVec 13} (h : Ready s (.drain n) c) : exec (.drain n) s = .next (
    if (s.noted c (.drain n)).outstanding c.r.core c.wave (s.noted c (.drain n)).handles ≤ n.toNat then Claims.passed s c (.drain n)
    else c.holdFor (.wait .earlier) false (s.noted c (.drain n))) := by
  refine (State.run_scalar h rfl _).trans ?_
  simp only [Ctx.before, h.stands.free]
  rfl

theorem exec_preoff {a : Reg} (h : Ready s (.preoff a) c) : exec (.preoff a) s = .next (
    let n := c.wave.sreg a.toNat
    if n.toNat = 0 ∨ c.job.plim < n.toNat then c.fault 0x10 0 n.toNat (s.noted c (.preoff a))
    else if c.wave.pres = 0#32 ∧ c.team.switching = false then
      Claims.wrote s c (.preoff a) (fun w => { w with pres := n, opened := true })
    else Claims.passed s c (.preoff a)) :=
  State.run_scalar h rfl _

end

/-- A state without what a log that overflows may rewrite: the records of jobs, with what their writes touch (R305, R308). -/
def State.offRecords (s : State) : State :=
  { s with cores := [], jobs := [], mem := [], poison := [], l2 := [], freeCtr := 0, hostMem := [], ioAtc := [], xreqs := [], rewrites := [] }

theorem State.modJob_offRecords (s : State) (j : Nat) (f : Job → Job) : (s.modJob j f).offRecords = s.offRecords := by
  unfold State.modJob
  split <;> rfl

theorem State.outsideWrite_offRecords (s : State) (p : Nat) (t : Target) (bs : List Byte) :
    (s.outsideWrite p t bs).offRecords = s.offRecords := by
  cases t with
  | dpa a =>
    refine (foldl_keeps (g := State.offRecords) (f := fun s k => s.setPoison (32 * k) false) (fun _ _ => rfl) _ _).trans ?_
    have h : (s.l2Bytes p true (List.range' a bs.length)).offRecords = s.offRecords :=
      (congrArg (fun t => t.offRecords) (s.l2Bytes_offL2 p true (List.range' a bs.length)) :)
    exact h
  | host a => rfl
  | peer m a => rfl

theorem State.askX_offRecords {s : State} {u : Nat} (h : ioUnit ≤ u) (p va : Nat) (w : Bool) : (s.askX u p va w).offRecords = s.offRecords := by
  unfold State.askX
  simp only [h, if_true]
  split <;> rfl

theorem State.rewriteRecord_offRecords (s : State) (jid : Nat) : (s.rewriteRecord jid).offRecords = s.offRecords := by
  unfold State.rewriteRecord
  extract_lets j
  split
  · exact (State.outsideWrite_offRecords _ _ _ _).trans (s.outsideWrite_offRecords _ _ _)
  · have h : (s.askX ioQuiet j.pasid j.rva true).offRecords = s.offRecords := State.askX_offRecords (by decide) _ _ _
    exact h

theorem State.noteClass_offRecords (s : State) (core jid cls : Nat) : (s.noteClass core jid cls).offRecords = s.offRecords := by
  unfold State.noteClass
  extract_lets k t
  split
  · rfl
  · split
    · exact State.modJob_offRecords _ _ _
    · refine foldl_keeps (g := State.offRecords) (fun s j => ?_) _ t
      unfold State.suspect
      extract_lets u
      have hu : u.offRecords = s.offRecords := s.modJob_offRecords _ _
      split
      · exact (u.rewriteRecord_offRecords j).trans hu
      · exact hu

/-- The note of a class leaves all but records alone, whether or not the log has room. -/
theorem State.noted_offRecords (s : State) (c : Ctx) (i : Instr) : (s.noted c i).offRecords = s.offRecords := by
  unfold State.noted
  split
  · exact s.noteClass_offRecords _ _ _
  · rfl

theorem State.noted_handles (s : State) (c : Ctx) (i : Instr) : (s.noted c i).handles = s.handles :=
  (congrArg State.handles (s.noted_offRecords c i) :)

theorem State.noted_deliveries (s : State) (c : Ctx) (i : Instr) : (s.noted c i).deliveries = s.deliveries :=
  (congrArg State.deliveries (s.noted_offRecords c i) :)

/-! ### EXIT -/

/-- The error delivery of a wave that exits with a future to resolve (R93). -/
theorem State.queueError_cases (s : State) (core slot : Nat) (w : Wave) :
    (pair w.tfutl w.tfuth = 0 ∧ s.queueError core slot w = s) ∨
    (pair w.tfutl w.tfuth ≠ 0 ∧ ∃ d, s.queueError core slot w = { s with deliveries := s.deliveries ++ [d] } ∧ d.err = true ∧
      d.handle = pair w.tfutl w.tfuth ∧ d.value = 0#64 ∧ d.core = core) := by
  unfold State.queueError
  extract_lets h t j
  by_cases hz : h = 0
  · exact .inl ⟨hz, if_pos hz⟩
  · exact .inr ⟨hz, _, if_neg hz, rfl, rfl, rfl, rfl⟩

theorem State.fillReserved_abandoned (s : State) (w : Wave) (k : Nat) : ((s.fillReserved w).team k).abandoned = (s.team k).abandoned := by
  refine foldl_keeps (g := fun s : State => (s.team k).abandoned) (fun s p => ?_) _ s
  refine foldl_keeps (g := fun s : State => (s.team k).abandoned) (fun s e => ?_) _ s
  refine (State.team_modTeam_keeps (g := Team.abandoned)
    (f := fun t => { t with rings := NMap.alter t.rings [] e.2.1 (fillElem e.2.2 (s.freeLanes (s.team w.tid).job).1) })
    (fun _ => rfl) _ w.tid k).trans ?_
  exact congrArg (fun m => (NMap.at m k Team.empty).abandoned) (State.modJob_teams _ _ _)

/-- A release of a wave makes no delivery, and abandons no team. -/
theorem State.releaseWave_teams (s : State) (core slot : Nat) (w : Wave) (x : Bool) :
    (s.releaseWave core slot w x).deliveries = s.deliveries ∧
      ∀ k, ((s.releaseWave core slot w x).team k).abandoned = (s.team k).abandoned := by
  obtain ⟨as, bs, h⟩ := s.releaseWave_core core slot w x
  rw [h]
  refine ⟨(State.modWave_deliveries ..).trans (congrArg State.deliveries (s.fillReserved_offRings w) :), fun k => ?_⟩
  refine Eq.trans ?_ (s.fillReserved_abandoned w k)
  exact congrArg (fun m => (NMap.at m k Team.empty).abandoned) (State.modWave_teams ..)

/-- A wave that ends: its slot is free, or it has ended with stores alone. -/
theorem State.wave?_endWave {s : State} {core slot : Nat} {w : Wave} (hw : s.wave? core slot = some w) :
    ((s.releaseWave core slot w true).settle core).wave? core slot = none ∨
    ∃ u, ((s.releaseWave core slot w true).settle core).wave? core slot = some u ∧ u.ended = true ∧
      ∀ e, e ∈ u.arms → ∃ q, e.2.cap = some q ∧ storesOrAtomic q.ins = true := by
  have hr : (s.releaseWave core slot w true).wave? core slot = some (w.halted true) := by
    rw [State.wave?_releaseWave, if_pos ⟨rfl, rfl⟩, hw]
    rfl
  have hq : ∀ r, r ∈ ((s.releaseWave core slot w true).core core).queue → r.slot ≠ slot := by
    have h := (congrArg Core.queue (s.core_releaseWave core slot w true) :)
    rw [show ((s.releaseWave core slot w true).core core).queue = _ from h]
    show ∀ r, r ∈ ((s.core core).released slot (w.halted true)).queue → r.slot ≠ slot
    unfold Core.released
    rw [Core.unclaim_queue]
    exact fun r hr => bne_iff_ne.1 (List.mem_filter.1 hr).2
  obtain ⟨u, hu, ho⟩ := State.wave?_settlePennant hr rfl hq
  have hstores : ∀ e, e ∈ (w.halted true).arms → e.2.StoresOnly := fun e he => by
    obtain ⟨a, -, ha⟩ := Wave.storing_of_mem_halted he
    exact Arm.storesOnly_of_storing ha
  refine ((State.settle_frees (s.releaseWave core slot w true) core).waves core slot).imp id (fun h => ⟨u, h.trans hu, ?_, ?_⟩)
  · obtain rfl | ⟨p, rfl⟩ := ho <;> rfl
  · obtain rfl | ⟨p, rfl⟩ := ho
    · exact fun e he => (hstores e he).cap
    · intro e he
      obtain ⟨x, hx, rfl⟩ := List.mem_map.1 he
      exact (hstores x hx).cap_wake p

/-- What ends with a wave makes no delivery, and abandons no team. -/
theorem State.endWave_frees (s : State) (core slot : Nat) (w : Wave) :
    ((s.releaseWave core slot w true).settle core).deliveries = s.deliveries ∧
      ∀ k, (((s.releaseWave core slot w true).settle core).team k).abandoned = true → (s.team k).abandoned = true := by
  obtain ⟨hd, ht⟩ := s.releaseWave_teams core slot w true
  have hp := (s.releaseWave core slot w true).settlePennant_offCores core
  have hf := State.settle_frees (s.releaseWave core slot w true) core
  refine ⟨hf.deliveries.trans ((congrArg State.deliveries hp :).trans hd), fun k hk => ?_⟩
  have h := hf.abandoned k hk
  rw [show ((s.releaseWave core slot w true).settlePennant core).team k = (s.releaseWave core slot w true).team k from
    (congrArg (fun t => t.team k) hp :), ht] at h
  exact h

theorem exec_exit {s : State} {c : Ctx} (h : Ready s .exit c) : exec .exit s = .next
    ((((s.noted c .exit).queueError c.r.core c.r.slot c.wave).releaseWave c.r.core c.r.slot c.wave true).settle c.r.core) := by
  refine (State.run_scalar h rfl _).trans ?_
  unfold State.endWave
  rw [h.stands.wave]
  rfl

end Sys2Proof.Machine

namespace Sys2Proof
open Machine

/-- Settles O31: the words that wait, word by word, then EXIT by what a release and a settled core leave. -/
theorem waveEndsAndWaits : Obligations.WaveEndsAndWaits := by
  unfold Obligations.WaveEndsAndWaits
  refine ⟨⟨fun s c h => State.run_scalar h rfl _, fun s c h => State.run_scalar h rfl _, fun s c a h => ?_, fun s c n h => ?_,
    fun s c a h => ?_⟩, fun s c h _ => ?_⟩
  · rw [exec_preoff h]
    refine ⟨fun hn => ?_, fun h0 hp hw hs => ?_, fun h0 hp hw => ?_⟩
    · exact congrArg Host.Outcome.next (if_pos (hn.imp (fun e => by rw [e]; rfl) id))
    all_goals
      have hno : ¬ ((c.wave.sreg a.toNat).toNat = 0 ∨ c.job.plim < (c.wave.sreg a.toNat).toNat) := fun e =>
        e.elim (fun e => h0 (BitVec.eq_of_toNat_eq e)) (fun e => Nat.not_lt.2 hp e)
      simp only [if_neg hno]
    · rw [if_pos ⟨hw, hs⟩]
    · rw [if_neg (fun e => hw.elim (· e.1) (fun hs => by rw [e.2] at hs; cases hs))]
  · have hh := s.noted_handles c (.drain n)
    rw [exec_drain h, hh]
    refine ⟨fun ho => ?_, fun ho => ⟨_, congrArg Host.Outcome.next (if_neg (Nat.not_le.2 ho)), h.stands.held h.fresh rfl _⟩⟩
    exact congrArg Host.Outcome.next (if_pos ho)
  · rw [exec_cwait h]
    refine ⟨fun hx => ?_, fun hx hb => ?_, fun hx hb hp => ?_, fun hx hb hp => ⟨fun hz => ?_, fun hz => ⟨_, ?_, h.stands.held h.fresh rfl _⟩⟩⟩
    · exact congrArg Host.Outcome.next (if_pos hx)
    · simp only [if_neg (not_not.2 hx), if_pos hb]
    all_goals simp only [if_neg (not_not.2 hx), if_neg (Nat.not_lt.2 hb), Alloc.poisonIn_word _ hx]
    · simp only [if_pos hp]
    · simp only [if_neg hp]
      exact congrArg Host.Outcome.next (if_pos ((Alloc.bytesAt_zero _ _ _).2 hz))
    · simp only [if_neg hp]
      exact congrArg Host.Outcome.next (if_neg (fun e => hz ((Alloc.bytesAt_zero _ _ _).1 e)))
  · obtain ⟨u, hu, hdel, hteam, hwave⟩ : ∃ u, (s.noted c .exit).queueError c.r.core c.r.slot c.wave = u ∧
        ((pair c.wave.tfutl c.wave.tfuth = 0 ∧ u.deliveries = s.deliveries) ∨ (pair c.wave.tfutl c.wave.tfuth ≠ 0 ∧
          ∃ d, u.deliveries = s.deliveries ++ [d] ∧ d.err = true ∧ d.handle = pair c.wave.tfutl c.wave.tfuth ∧ d.value = 0#64 ∧
            d.core = c.r.core)) ∧
        (∀ k, u.team k = s.team k) ∧ u.wave? c.r.core c.r.slot = some c.wave := by
      have hn := s.noted_deliveries c .exit
      obtain ⟨hz, he⟩ | ⟨hz, d, he, hd⟩ := (s.noted c .exit).queueError_cases c.r.core c.r.slot c.wave
      · exact ⟨_, he, .inl ⟨hz, hn⟩, s.noted_team c .exit, h.stands.wave⟩
      · exact ⟨_, he, .inr ⟨hz, d, congrArg (· ++ [d]) hn, hd⟩, s.noted_team c .exit, h.stands.wave⟩
    obtain ⟨hd, ht⟩ := u.endWave_frees c.r.core c.r.slot c.wave
    rw [exec_exit h, hu]
    refine ⟨_, rfl, State.wave?_endWave hwave, fun hz => ?_, fun hz => ?_, fun k hk => hteam k ▸ ht k hk⟩
    · exact hd.trans (hdel.elim (·.2) (fun e => absurd hz e.1))
    · obtain ⟨d, he, hr⟩ := hdel.elim (fun e => absurd e.1 hz) (·.2)
      exact ⟨d, hd.trans he, hr⟩

end Sys2Proof
end
section
/-! ## A rendezvous in a state that lists a slot twice

The list of live arms names the arms of every entry of a core's slots, and what an RDVW that returns changes is found by its slot (R66,
R67). Where two entries stand for one slot, the second one's RDVW changes the first one's wave. -/
set_option Elab.async false

open Sys2Proof Sys2Proof.Machine

namespace Sys2Proof.Machine

/-- A wave of a team with one arm, which waits in RDVW at a point for the end of phase 0. -/
def waitingWave (tid arm pt : Nat) : Wave :=
  { uid := tid, tid := tid, idx := 0, isTask := false, handler := false, vregN := 16, sregN := 16,
    arms := [(arm, { hold := .rendezvous pt 0 })] }

/-- A team of one wave. -/
def lonelyTeam (tid : Nat) (abandoned : Bool) : Team :=
  { tid := tid, job := 0, num := 0, cluster := 0, cores := [0], size := 1, alive := 1, abandoned := abandoned }

/-- Slot 0 of core 0 stands twice: for a wave of team 0, and for one of team 1, which is abandoned. -/
def doubledSlot : State :=
  { State.reset with
    cores := [(0, { slots := [(0, waitingWave 0 0 0), (0, waitingWave 1 1 3)] })]
    teams := [(0, lonelyTeam 0 false), (1, lonelyTeam 1 true)] }

/-- The wave of team 0, whose phase has not completed and whose team goes on, gets the ABAND of the other. -/
theorem doubledSlot_endCycle : ((doubledSlot.endCycle 0).wave? 0 0).map Wave.aband = some 0x80000008#32 := rfl

end Sys2Proof.Machine

namespace Sys2Proof
open Machine

/-- Refutes O34 in its last clause: it asks that no two entries of the list of arms have one name, but not that no two entries of a core
have one slot. -/
theorem not_rendezvous : ¬ Obligations.Rendezvous := by
  unfold Obligations.Rendezvous
  intro h
  obtain ⟨-, -, -, -, hend⟩ := h doubledSlot
    { r := ⟨0, 0, 0⟩, wave := waitingWave 0 0 0, arm := { }, team := lonelyTeam 0 false, job := doubledSlot.job 0, lanes := 0#32 }
    0 0 (by decide) rfl
  obtain ⟨v, y, hv, -, -, -, hab⟩ := hend doubledSlot ⟨0, 0, 0⟩ (waitingWave 0 0 0) { hold := .rendezvous 0 0 } 0 0 (by decide)
    (by decide) rfl rfl rfl rfl rfl
  have hx := doubledSlot_endCycle
  rw [show (doubledSlot.endCycle 0).wave? 0 0 = some v from hv, Option.map_some, hab] at hx
  exact absurd hx (by decide)

end Sys2Proof
end
section
/-! ## SMAP, SUNMAP, MQCFG and the pennant -/
set_option Elab.async false

open Sys2Proof Sys2Proof.Machine

namespace Sys2Proof.Machine

section
variable {s : State} {c : Ctx}

theorem exec_smap {b : BitVec 6} {p : BitVec 2} (h : Ready s (.smap b p) c) : exec (.smap b p) s = .next (
    if c.team.fifoN ≤ b.toNat then c.illegal (s.noted c (.smap b p))
    else if c.wave.emptyAnywhere (60 + p.toNat) then (s.noted c (.smap b p)).modArm c.r (fun x => { x with hold := .wait .empty })
    else Claims.wrote s c (.smap b p) (fun w => { w with ports := NMap.put w.ports p.toNat b.toNat })) := by
  refine (State.run_scalar h rfl _).trans ?_
  simp only [Ctx.wait, h.fresh, Option.isSome_none, Bool.false_eq_true, if_false]
  rfl

theorem Wave.portBank_port (w : Wave) (p : Nat) : w.portBank (60 + p) = NMap.get? w.ports p := by
  unfold Wave.portBank
  rw [if_pos (Nat.le_add_right 60 p), Nat.add_sub_cancel_left]

theorem exec_sunmap {p : BitVec 2} (h : Ready s (.sunmap p) c) : exec (.sunmap p) s = .next (
    if (NMap.get? c.wave.ports p.toNat).isNone then Claims.passed s c (.sunmap p)
    else if c.wave.inflight.any (fun q => q.push.any (fun e => e.1 == 60 + p.toNat)) || c.otherNames (s.noted c (.sunmap p)) (60 + p.toNat)
      then (s.noted c (.sunmap p)).modArm c.r (fun x => { x with hold := .wait .ring })
    else Claims.wrote s c (.sunmap p) (fun w => { w with ports := NMap.del w.ports p.toNat })) := by
  refine (State.run_scalar h rfl _).trans ?_
  simp only [Wave.portBank_port, Ctx.wait, h.fresh, Option.isSome_none, Bool.false_eq_true, if_false]
  rfl

/-- A core whose message ports a wave takes: s504 and DROP are zero, and messages of another job are gone (R390). -/
def Core.portTaken (k : Core) (slot jid : Nat) : Core :=
  { k with port := some slot, pDest := 0#32, pDrop := false, rxq := if k.rxq.any (fun m => m.job != jid) then [] else k.rxq }

theorem Core.rxq_portTaken (k : Core) (slot jid : Nat) :
    (k.portTaken slot jid).rxq = if ∃ m, m ∈ k.rxq ∧ m.job ≠ jid then [] else k.rxq := by
  show (if k.rxq.any (fun m => m.job != jid) then [] else k.rxq) = _
  simp [List.any_eq_true]

theorem exec_mqcfg {e : BitVec 1} (h : Ready s (.mqcfg e) c) : exec (.mqcfg e) s = .next (
    let n := s.noted c (.mqcfg e)
    if e = 1#1 then
      if (n.core c.r.core).port == some c.r.slot then Claims.passed s c (.mqcfg e)
      else if (n.core c.r.core).port.isSome then n.modArm c.r (fun x => { x with hold := .wait .port })
      else (n.modCore c.r.core (fun k => k.portTaken c.r.slot c.job.jid)).modArm c.r Arm.advance
    else if !((n.core c.r.core).port == some c.r.slot) then Claims.passed s c (.mqcfg e)
    else if c.otherInjects n then n.modArm c.r (fun x => { x with hold := .wait .inject })
    else (n.modCore c.r.core (fun k => { k with port := none })).modArm c.r Arm.advance) := by
  refine (State.run_scalar h rfl _).trans ?_
  simp only [Ctx.wait, h.fresh, Option.isSome_none, Bool.false_eq_true, if_false]
  rfl

end

/-- A core after an update of it and the move of an arm. -/
theorem State.offSlots_modCore_modArm (s : State) (r : ArmRef) (core : Nat) (f : Core → Core) (g : Arm → Arm) :
    (((s.modCore core f).modArm r g).core core).offSlots = (f (s.core core)).offSlots := by
  refine (State.offSlots_modWave _ _ _ _ _).trans ?_
  rw [State.core_modCore, if_pos rfl]

end Sys2Proof.Machine

namespace Sys2Proof
open Machine

/-- Settles O35, from one equation for each of the three words. -/
theorem portsAreMapped : Obligations.PortsAreMapped := by
  unfold Obligations.PortsAreMapped
  refine ⟨fun s c b p h => ?_, fun s c p h => ?_, fun s c e h => ?_⟩
  · rw [exec_smap h]
    refine ⟨fun hn => ?_, fun hn he => ?_, fun hn he => ?_⟩
    · rw [if_pos hn]
      rfl
    · rw [if_neg (Nat.not_le.2 hn), if_pos he]
    · rw [if_neg (Nat.not_le.2 hn), if_neg (by rw [he]; exact Bool.false_ne_true)]
  · rw [exec_sunmap h]
    refine ⟨fun hn => ?_, fun hn hp => ?_, fun hn hp => ?_⟩
    · rw [if_pos (by rw [hn]; rfl)]
    all_goals rw [if_neg (fun e => hn (Option.isNone_iff_eq_none.1 e))]
    · exact congrArg Host.Outcome.next (if_neg (fun e => Bool.false_ne_true (hp.symm.trans e)))
    · exact congrArg Host.Outcome.next (if_pos hp)
  · rw [exec_mqcfg h]
    refine ⟨fun he ho => ?_, fun he ho => ?_, fun he ho hs => ?_, fun he ho => ?_, fun he ho hi => ?_⟩
    · simp only [if_pos he, ho]
      have hc := (s.noted c (.mqcfg e)).offSlots_modCore_modArm c.r c.r.core (fun k => k.portTaken c.r.slot c.job.jid) Arm.advance
      refine ⟨_, rfl, (congrArg Core.port hc :), (congrArg Core.pDest hc :), (congrArg Core.pDrop hc :),
        (congrArg Core.rxq hc :).trans (Core.rxq_portTaken _ c.r.slot _)⟩
    · simp only [if_pos he, ho, beq_self_eq_true, if_true]
    · have hne : ¬ ((((s.noted c (.mqcfg e)).core c.r.core).port == some c.r.slot) = true) := fun x => hs (beq_iff_eq.1 x)
      simp only [if_pos he, if_neg hne, if_pos (Option.isSome_iff_ne_none.2 ho)]
    all_goals
      have h1 : ¬ e = 1#1 := by rw [he]; decide
      simp only [if_neg h1]
    · have hne : (!((s.noted c (.mqcfg e)).core c.r.core).port == some c.r.slot) = true := by
        rw [Bool.not_eq_true', beq_eq_false_iff_ne]
        exact ho
      rw [if_pos hne]
    · have hc := (s.noted c (.mqcfg e)).offSlots_modCore_modArm c.r c.r.core (fun k => { k with port := none }) Arm.advance
      rw [if_neg (by rw [ho]; simp), if_neg (by rw [hi]; exact Bool.false_ne_true)]
      exact ⟨_, rfl, (congrArg Core.port hc :), (congrArg Core.rxq hc :)⟩

end Sys2Proof
end
section
/-! ## PTAKE, PPASS and PPASS.free -/
set_option Elab.async false

open Sys2Proof Sys2Proof.Machine

namespace Sys2Proof.Machine

/-! ### Entries of a map after one is set -/

theorem NMap.mem_of_get? {α : Type} {m : NMap α} {k : Nat} {a : α} (h : NMap.get? m k = some a) : (k, a) ∈ m := by
  induction m with
  | nil => cases h
  | cons e m ih =>
    obtain ⟨j, b⟩ := e
    unfold NMap.get? at h
    split at h
    · next hj =>
      obtain rfl := Option.some.inj h
      rw [hj]
      exact List.mem_cons_self
    · exact List.mem_cons_of_mem _ (ih h)

/-- An entry stays when another is set, or it is the one that is set. -/
theorem NMap.mem_put_of_mem {α : Type} {m : NMap α} {e : Nat × α} (h : e ∈ m) (k : Nat) (v : α) :
    e ∈ NMap.put m k v ∨ NMap.get? m k = some e.2 ∧ (k, v) ∈ NMap.put m k v ∧ e.1 = k := by
  induction m with
  | nil => cases h
  | cons f m ih =>
    obtain ⟨j, b⟩ := f
    unfold NMap.put NMap.get?
    by_cases hlt : k < j
    · rw [if_pos hlt]
      exact .inl (List.mem_cons_of_mem _ h)
    · rw [if_neg hlt]
      by_cases hj : k = j
      · rw [if_pos hj, if_pos hj.symm]
        obtain rfl | hm := List.mem_cons.1 h
        · exact .inr ⟨rfl, List.mem_cons_self, hj.symm⟩
        · exact .inl (List.mem_cons_of_mem _ hm)
      · rw [if_neg hj, if_neg (Ne.symm hj)]
        obtain rfl | hm := List.mem_cons.1 h
        · exact .inl List.mem_cons_self
        · exact (ih hm).imp (List.mem_cons_of_mem _) (fun x => ⟨x.1, List.mem_cons_of_mem _ x.2.1, x.2.2⟩)

/-! ### Arms that wake -/

theorem Arm.wake_of_not {a : Arm} {p : Hold → Bool} (h : a.heldBy p = false) : a.wake p = a := by
  unfold Arm.wake
  rw [h, if_neg Bool.false_ne_true]

/-- An arm that waits as `p` asks, with no other word, goes on. -/
theorem Arm.wake_of_hold {a : Arm} {p : Hold → Bool} (h : p a.hold = true) (ha : a.also = none) : a.wake p = a.advance := by
  unfold Arm.wake Arm.heldBy Arm.facing
  rw [h, ha]
  rfl

theorem Arm.heldBy_of_single {a : Arm} (h : a.also = none) (p : Hold → Bool) : a.heldBy p = p a.hold := by
  unfold Arm.heldBy
  rw [h, Option.any_none, Bool.or_false]

/-- Where an arm with one word goes does not depend on what it waits for. -/
theorem Arm.advance_withHold {a : Arm} (h : a.also = none) (x : Hold) : { a with hold := x }.advance = a.advance := by
  obtain ⟨pc, word, exm, entry, grp, m, hold, last, cap, paired, also, refetch⟩ := a
  obtain rfl : also = none := h
  cases paired with
  | true => rfl
  | false =>
    by_cases hw : word < 2
    · simp [Arm.advance, hw]
    · simp [Arm.advance, hw]

theorem Arm.also_advance {a : Arm} (h : a.also = none) : a.advance.also = none := by
  unfold Arm.advance
  split
  · rfl
  · split
    · exact h
    · split <;> exact h

theorem Arm.heldBy_advance {a : Arm} (h : a.also = none) {p : Hold → Bool} (hp : p .none = false) : a.advance.heldBy p = false := by
  rw [Arm.heldBy_of_single (Arm.also_advance h), Arm.advance_hold a h, hp]

theorem Wave.get?_woken {w : Wave} {n : Nat} {a : Arm} (h : NMap.get? w.arms n = some a) (p : Hold → Bool) :
    NMap.get? (w.woken p).arms n = some (a.wake p) := by
  unfold Wave.woken
  rw [NMap.get?_map, h]
  rfl

/-! ### The pennant's holder and queue -/

/-- A core that gives the pennant to a slot (R48, R227). -/
def Core.pennantTo (k : Core) (slot job : Nat) : Core :=
  { k with holder := some slot, queue := k.queue.filter (fun r => r.slot != slot), pjob := some job,
           acc := if k.pjob = some job then k.acc else [], accPois := if k.pjob = some job then k.accPois else [] }

theorem State.core_givePennant (s : State) (core slot : Nat) : ((s.givePennant core slot).core core).offSlots =
    ((s.core core).pennantTo slot (((s.wave? core slot).map (fun w => (s.team w.tid).job)).getD 0)).offSlots := by
  unfold State.givePennant
  extract_lets job t
  refine (State.offSlots_modWave _ _ _ _ _).trans ?_
  refine congrArg Core.offSlots ((State.core_modCore _ _ _ _).trans (if_pos rfl))

theorem State.holder_givePennant (s : State) (core slot : Nat) : ((s.givePennant core slot).core core).holder = some slot :=
  (congrArg Core.holder (s.core_givePennant core slot) :)

theorem State.holder_passTo_none (s : State) (core : Nat) :
    ((s.passTo core none).core core).holder = ((s.core core).queue.head?).map (fun r => r.slot) := by
  unfold State.passTo
  cases (s.core core).queue with
  | nil =>
    show ((s.modCore core (fun k => { k with holder := none })).core core).holder = none
    rw [State.core_modCore, if_pos rfl]
  | cons r rs => exact s.holder_givePennant core r.slot

/-- An arm that does not wait for the pennant stays as it is when the pennant moves. -/
theorem State.arm_passTo {s : State} {core slot n : Nat} {w : Wave} {a : Arm} (hw : s.wave? core slot = some w)
    (ha : NMap.get? w.arms n = some a) (hh : a.heldBy Hold.isPennant = false) (found : Option (Nat × Wave)) :
    ∃ v, (s.passTo core found).wave? core slot = some v ∧ NMap.get? v.arms n = some a := by
  have give : ∀ k, ∃ v, (s.givePennant core k).wave? core slot = some v ∧ NMap.get? v.arms n = some a := fun k => by
    rw [State.wave?_givePennant]
    split
    · next e =>
      rw [← e.2, hw]
      refine ⟨_, rfl, ?_⟩
      rw [Wave.get?_woken ha, Arm.wake_of_not hh]
    · exact ⟨w, hw, ha⟩
  unfold State.passTo
  cases found with
  | some e => exact give e.1
  | none =>
    cases (s.core core).queue with
    | cons r rs => exact give r.slot
    | nil => exact ⟨w, (State.wave?_modCore_of_slots rfl _ _).trans hw, ha⟩

theorem State.sameMemory_of_offCores {s t : State} (h : t.offCores = s.offCores) : s.sameMemory t :=
  .of_eq (congrArg State.mem h :) (congrArg State.hostMem h :) (congrArg State.poison h :)

theorem State.sameScratch_of_offCores {s t : State} (h : t.offCores = s.offCores) : s.sameScratch t := .of_eq (congrArg State.allocs h :)

theorem Hold.isPennant_of_ne {x : Hold} (h : x ≠ .pennant) : x.isPennant = false := by
  cases x with
  | pennant => exact absurd rfl h
  | _ => rfl

/-! ### PTAKE -/

section
variable {s : State} {c : Ctx}

theorem State.holder_noted (s : State) (c : Ctx) (i : Instr) (d : Nat) : ((s.noted c i).core d).holder = (s.core d).holder := by
  obtain ⟨l, o, h⟩ := s.noted_core c i d
  rw [h]

/-- A core with an arm in its pennant queue, once. -/
def Core.queuing (k : Core) (r : ArmRef) : Core := { k with queue := if k.queue.contains r then k.queue else k.queue ++ [r] }

theorem Core.queue_queuing (k : Core) (r : ArmRef) : (k.queuing r).queue = if r ∈ k.queue then k.queue else k.queue ++ [r] :=
  ite_congr (propext List.contains_iff_mem) (fun _ => rfl) (fun _ => rfl)

theorem exec_ptake (h : Ready s .ptake c) : exec .ptake s = .next (match (s.core c.r.core).holder with
    | none => ((s.noted c .ptake).givePennant c.r.core c.r.slot).modArm c.r Arm.advance
    | some k =>
      if k = c.r.slot then Claims.passed s c .ptake
      else ((s.noted c .ptake).modCore c.r.core (fun k => k.queuing c.r)).modArm
        c.r (fun a => { a with hold := .pennant })) := by
  refine (State.run_scalar h rfl _).trans ?_
  simp only [State.holder_noted]
  rfl

theorem pennantFault_noted (i : Instr) :
    c.pennantFault (s.noted c i) = c.fault 0x1C 0 ((s.core c.r.core).penn c.r.slot).toNat (s.noted c i) := by
  have hp : ((s.noted c i).core c.r.core).penn c.r.slot = (s.core c.r.core).penn c.r.slot := by
    unfold Core.penn
    rw [State.holder_noted]
  unfold Ctx.pennantFault
  rw [hp]

theorem exec_ppassFree (h : Ready s .ppassFree c) : exec .ppassFree s = .next (
    if (s.core c.r.core).holder ≠ some c.r.slot then c.fault 0x1C 0 ((s.core c.r.core).penn c.r.slot).toNat (s.noted c .ppassFree)
    else c.pass none (s.noted c .ppassFree)) := by
  refine (State.run_scalar h rfl _).trans ?_
  simp only [State.holder_noted, pennantFault_noted]

theorem exec_ppass {a : Reg} (h : Ready s (.ppass a) c) : exec (.ppass a) s = .next (
    let v := (c.wave.sreg a.toNat).toNat
    let fault := c.fault 0x1C 0 ((s.core c.r.core).penn c.r.slot).toNat (s.noted c (.ppass a))
    if 64 ≤ v then c.fault 0x10 0 v (s.noted c (.ppass a))
    else if (s.core c.r.core).holder ≠ some c.r.slot then fault
    else match s.wave? c.r.core v with
      | none => fault
      | some w => if w.ended ∨ (s.team w.tid).job ≠ c.job.jid then fault else c.pass (some w.uid) (s.noted c (.ppass a))) := by
  refine (State.run_scalar h rfl _).trans ?_
  simp only [State.holder_noted, pennantFault_noted, State.noted_wave?, State.noted_team] <;> rfl

end
/-! ### A pass -/

/-- What an arm passes the pennant to, if it waits to pass it. -/
def Arm.passes (a : Arm) : Option (Option Nat) := a.holds.findSome? (fun h => match h with | .passing t => some t | _ => none)

/-- The pennant's holder, which waits to pass it and has no matrix operation to wait for, hands it over. -/
theorem State.settlePennant_of_passing {s : State} {core slot : Nat} {w : Wave} {t : Option Nat} (hh : (s.core core).holder = some slot)
    (hw : s.wave? core slot = some w) (hb : (s.core core).matrixBusy w.uid = false) (he : w.ended = false)
    (ht : w.arms.findSome? (fun e => e.2.passes) = some t) : s.settlePennant core = s.handover core t := by
  unfold State.settlePennant
  have hw' : NMap.get? (s.core core).slots slot = some w := hw
  simp only [hh, hw', hb, he, Bool.false_eq_true, if_false]
  split
  · next u hu => rw [Option.some.inj (hu.symm.trans ht)]
  · next hu => cases hu.symm.trans ht

theorem Arm.passes_none {a : Arm} (h : a.heldBy Hold.isPassing = false) : a.passes = none := by
  have hn : ∀ x : Hold, x.isPassing = false → (match x with | .passing t => some t | _ => none : Option (Option Nat)) = none := by
    intro x hx
    cases x with
    | passing t => cases hx
    | _ => rfl
  unfold Arm.heldBy at h
  obtain ⟨h1, h2⟩ := Bool.or_eq_false_iff.1 h
  unfold Arm.passes Arm.holds
  rw [List.findSome?_cons, hn _ h1]
  cases ha : a.also with
  | none => rfl
  | some e =>
    rw [ha] at h2
    rw [Option.toList_some, List.map_cons, List.findSome?_cons, hn _ h2]
    rfl

/-- The wave in which one arm waits to pass the pennant, and no other does, passes it where that arm asks. -/
theorem Wave.findSome?_passes {w : Wave} {n : Nat} {a : Arm} (hn : NMap.get? w.arms n = some a)
    (h : ∀ e, e ∈ w.arms → e.2.heldBy Hold.isPassing = false) (t : Option Nat) :
    (w.modArm n (fun a => { a with hold := .passing t })).arms.findSome? (fun e => e.2.passes) = some t := by
  have harms : (w.modArm n (fun a => { a with hold := .passing t })).arms = NMap.put w.arms n { a with hold := .passing t } := by
    unfold Wave.modArm
    rw [hn]
  have hp : ({ a with hold := .passing t } : Arm).passes = some t := rfl
  have hmem : (n, ({ a with hold := .passing t } : Arm)) ∈ NMap.put w.arms n { a with hold := .passing t } :=
    NMap.mem_of_get? ((NMap.get?_put _ _ _ _).trans (if_pos rfl))
  rw [harms]
  cases hf : (NMap.put w.arms n { a with hold := .passing t }).findSome? (fun e => e.2.passes) with
  | none => exact absurd (List.findSome?_eq_none_iff.1 hf _ hmem) (by rw [hp]; exact Option.some_ne_none t)
  | some u =>
    obtain ⟨e, he, hu⟩ := List.exists_of_findSome?_eq_some hf
    obtain rfl | hm := NMap.mem_put _ _ _ _ he
    · exact hu.symm.trans hp
    · rw [Arm.passes_none (h e hm)] at hu
      cases hu

/-- What a pass leaves of its wave and of the holder: the arm goes on, and the pennant is where the hand-over takes it. -/
theorem Ctx.pass_eq {s : State} {c : Ctx} {i : Instr} (h : Ready s i c) (hh : (s.core c.r.core).holder = some c.r.slot)
    (hb : (s.core c.r.core).matrixBusy c.wave.uid = false) (he : c.wave.ended = false)
    (hp : ∀ e, e ∈ c.wave.arms → e.2.heldBy Hold.isPassing = false) (t : Option Nat) :
    c.pass t (s.noted c i) = ((s.noted c i).modArm c.r (fun a => { a with hold := .passing t })).handover c.r.core t := by
  have hc : ∀ {β : Type} (g : Core → β), (∀ k l o, g { k with runLog := l, overflow := o } = g k) → (∀ k m, g { k with slots := m } = g k) →
      g (((s.noted c i).modArm c.r (fun a => { a with hold := .passing t })).core c.r.core) = g (s.core c.r.core) := by
    intro β g hl hs
    obtain ⟨l, o, hn⟩ := s.noted_core c i c.r.core
    have hm := State.core_modWave (s.noted c i) c.r.core c.r.slot c.r.core (fun w => w.modArm c.r.arm (fun a => { a with hold := .passing t }))
    rw [show ((s.noted c i).modArm c.r (fun a => { a with hold := .passing t })).core c.r.core = _ from hm, hs, hn, hl]
  have hw := State.wave?_modWave_self h.stands.wave (fun w => w.modArm c.r.arm (fun a => { a with hold := .passing t }))
  unfold Ctx.pass
  refine State.settlePennant_of_passing (w := c.wave.modArm c.r.arm (fun a => { a with hold := .passing t })) ?_ hw ?_ ?_ ?_
  · exact (hc Core.holder (fun _ _ _ => rfl) (fun _ _ => rfl)).trans hh
  · rw [Wave.modArm_uid]
    exact (hc (fun k => k.matrixBusy c.wave.uid) (fun _ _ _ => rfl) (fun _ _ => rfl)).trans hb
  · rw [Wave.modArm_ended]
    exact he
  · exact Wave.findSome?_passes h.stands.arm hp t

/-- The wave in a slot keeps its number when a wave of its core is updated, also where its slot is not the first of that number. -/
theorem State.mem_slots_modWave {s : State} {core : Nat} {e : Nat × Wave} (he : e ∈ (s.core core).slots) (slot : Nat) {f : Wave → Wave}
    (hf : ∀ w, (f w).uid = w.uid) : ∃ x, (e.1, x) ∈ ((s.modWave core slot f).core core).slots ∧ x.uid = e.2.uid := by
  unfold State.modWave
  cases hw : s.wave? core slot with
  | none => exact ⟨e.2, he, rfl⟩
  | some w =>
    show ∃ x, (e.1, x) ∈ ((s.modCore core (fun k => { k with slots := NMap.put k.slots slot (f w) })).core core).slots ∧ x.uid = e.2.uid
    rw [State.core_modCore, if_pos rfl]
    obtain h | ⟨h, hm, hk⟩ := NMap.mem_put_of_mem he slot (f w)
    · exact ⟨e.2, h, rfl⟩
    · have hx : w = e.2 := Option.some.inj (hw.symm.trans h)
      exact ⟨f w, hk ▸ hm, by rw [hf, hx]⟩

theorem State.mem_slots_givePennant {s : State} {core : Nat} {e : Nat × Wave} (he : e ∈ (s.core core).slots) (slot : Nat) :
    ∃ x, (e.1, x) ∈ ((s.givePennant core slot).core core).slots ∧ x.uid = e.2.uid := by
  unfold State.givePennant
  extract_lets job t
  have ht : e ∈ (t.core core).slots := by
    rw [show t.core core = _ from State.core_modCore s core core _, if_pos rfl]
    exact he
  exact State.mem_slots_modWave ht slot (fun _ => rfl)

/-- A pass that is made at once (R227). -/
structure Passed (s : State) (c : Ctx) (t : Option Nat) (u : State) : Prop where
  made : u = ((s.modArm c.r (fun a => { a with hold := .passing t })).letGo c.r.core (some c.r.slot)).passTo c.r.core
    (((s.modArm c.r (fun a => { a with hold := .passing t })).letGo c.r.core (some c.r.slot)).heir c.r.core t)
  queue : (((s.modArm c.r (fun a => { a with hold := .passing t })).letGo c.r.core (some c.r.slot)).core c.r.core).queue =
    (s.core c.r.core).queue
  arm : ∃ w, u.wave? c.r.core c.r.slot = some w ∧ NMap.get? w.arms c.r.arm = some c.arm.advance
  self : ((s.modArm c.r (fun a => { a with hold := .passing t })).letGo c.r.core (some c.r.slot)).wave? c.r.core c.r.slot =
    some ((c.wave.modArm c.r.arm (fun a => { a with hold := .passing t })).woken Hold.isPassing)
  other : ∀ n, n ≠ c.r.slot → ((s.modArm c.r (fun a => { a with hold := .passing t })).letGo c.r.core (some c.r.slot)).wave? c.r.core n =
    s.wave? c.r.core n

theorem Ctx.passed {s : State} {c : Ctx} {i : Instr} (h : Ready s i c) (hh : (s.core c.r.core).holder = some c.r.slot)
    (hb : (s.core c.r.core).matrixBusy c.wave.uid = false) (he : c.wave.ended = false)
    (hp : ∀ e, e ∈ c.wave.arms → e.2.heldBy Hold.isPassing = false) (t : Option Nat) : Passed (s.noted c i) c t (c.pass t (s.noted c i)) := by
  have hu := State.wave?_modWave_self h.stands.wave (fun w => w.modArm c.r.arm (fun a => { a with hold := .passing t }))
  have hself := State.wave?_modWave_self hu (Wave.woken Hold.isPassing)
  have harm : NMap.get? ((c.wave.modArm c.r.arm (fun a => { a with hold := .passing t })).woken Hold.isPassing).arms c.r.arm =
      some c.arm.advance := by
    have h1 : NMap.get? (c.wave.modArm c.r.arm (fun a => { a with hold := .passing t })).arms c.r.arm = some { c.arm with hold := .passing t } := by
      rw [Wave.get?_modArm, if_pos rfl, h.stands.arm]
      rfl
    rw [Wave.get?_woken h1]
    exact congrArg some ((Arm.wake_of_hold (a := { c.arm with hold := .passing t }) rfl h.single).trans (Arm.advance_withHold h.single _))
  have hoff := (s.noted c i).offSlots_modWave c.r.core c.r.slot c.r.core (fun w => w.modArm c.r.arm (fun a => { a with hold := .passing t }))
  have hhold : (((s.noted c i).modArm c.r (fun a => { a with hold := .passing t })).core c.r.core).holder = some c.r.slot :=
    (congrArg Core.holder hoff :).trans ((State.holder_noted _ _ _ _).trans hh)
  have hmade : c.pass t (s.noted c i) = _ := (Ctx.pass_eq h hh hb he hp t).trans ((State.handover_eq _ _ _).trans (by rw [hhold]))
  refine ⟨hmade, ?_, ?_, hself, fun n hn => ?_⟩
  · exact (State.queue_letGo _ _ _ _).trans (congrArg Core.queue hoff :)
  · rw [hmade]
    exact State.arm_passTo hself harm (Arm.heldBy_advance h.single rfl) _
  · exact (State.wave?_modWave_other (.inr hn) _).trans (State.wave?_modWave_other (.inr hn) _)

end Sys2Proof.Machine

namespace Sys2Proof
open Machine

/-- Settles O36: the pennant that is taken, waited for, refused, and passed. -/
theorem pennantMoves : Obligations.PennantMoves := by
  unfold Obligations.PennantMoves
  refine ⟨fun s c h hl => ⟨fun hh => ?_, fun hh => ?_, fun k hh hk => ?_⟩, fun s c i h hl hi hh => ?_, fun s c h hl hh hb he hp => ?_,
    fun s c a v h hl => ⟨fun hn => ?_, fun hn hh => ⟨fun hv => ?_, fun hv he hj hw hb hp => ?_⟩⟩⟩
  · obtain ⟨l, o, hn⟩ := s.noted_core c .ptake c.r.core
    have hoff := State.modWave_offCores ((s.noted c .ptake).givePennant c.r.core c.r.slot) c.r.core c.r.slot
      (fun w => w.modArm c.r.arm Arm.advance)
    have hall := hoff.trans ((s.noted c .ptake).givePennant_offCores c.r.core c.r.slot)
    have hcore := (State.offSlots_modWave ((s.noted c .ptake).givePennant c.r.core c.r.slot) c.r.core c.r.slot c.r.core
      (fun w => w.modArm c.r.arm Arm.advance)).trans ((s.noted c .ptake).core_givePennant c.r.core c.r.slot)
    have hjob : (((s.noted c .ptake).wave? c.r.core c.r.slot).map (fun w => ((s.noted c .ptake).team w.tid).job)).getD 0 = c.team.job := by
      obtain ⟨-, -, -, ht, -⟩ := State.ctx?_some h.ctx
      rw [h.stands.wave, ht]
      exact congrArg Team.job (s.noted_team c .ptake c.wave.tid)
    have hwave : ((s.noted c .ptake).givePennant c.r.core c.r.slot).wave? c.r.core c.r.slot = some (c.wave.woken Hold.isPennant) := by
      rw [State.wave?_givePennant, if_pos ⟨rfl, rfl⟩, h.stands.wave]
      rfl
    have harm : NMap.get? ((c.wave.woken Hold.isPennant).modArm c.r.arm Arm.advance).arms c.r.arm =
        some (c.arm.wake Hold.isPennant).advance := by
      rw [Wave.get?_modArm, if_pos rfl, Wave.get?_woken h.stands.arm]
      rfl
    rw [hjob, hn] at hcore
    rw [exec_ptake h, hh]
    refine ⟨_, _, _, rfl, (congrArg Core.holder hcore :), (congrArg Core.acc hcore :), fun r => ?_, State.wave?_modWave_self hwave _, harm,
      fun hne => ?_, (State.sameMemory_noted hl).trans (State.sameMemory_of_offCores hall),
      (s.sameScratch_noted c .ptake).trans (State.sameScratch_of_offCores hall)⟩
    · exact (iff_of_eq (congrArg (fun k : Core => r ∈ k.queue) hcore :)).trans
        (List.mem_filter.trans (and_congr_right (fun _ => bne_iff_ne)))
    · rw [Arm.wake_of_not ((Arm.heldBy_of_single h.single _).trans (Hold.isPennant_of_ne hne))]
  · rw [exec_ptake h, hh]
    exact congrArg Host.Outcome.next (if_pos rfl)
  · obtain ⟨l, o, hn⟩ := s.noted_core c .ptake c.r.core
    have hcore := (s.noted c .ptake).offSlots_modCore_modArm c.r c.r.core
      (fun k => k.queuing c.r) (fun a => { a with hold := .pennant })
    have hwave : ((s.noted c .ptake).modCore c.r.core
        (fun k => k.queuing c.r)).wave? c.r.core c.r.slot = some c.wave :=
      (State.wave?_modCore_of_slots rfl _ _).trans h.stands.wave
    have harm : NMap.get? (c.wave.modArm c.r.arm (fun a => { a with hold := .pennant })).arms c.r.arm =
        some { c.arm with hold := .pennant } := by
      rw [Wave.get?_modArm, if_pos rfl, h.stands.arm]
      rfl
    rw [hn] at hcore
    rw [exec_ptake h, hh]
    simp only [if_neg hk]
    exact ⟨_, _, _, rfl, (congrArg Core.holder hcore :).trans hh, (congrArg Core.queue hcore :).trans (Core.queue_queuing _ _),
      State.wave?_modWave_self hwave _, harm, rfl⟩
  · obtain rfl | ⟨a, rfl, hn⟩ := hi
    · rw [exec_ppassFree h, if_pos hh]
    · rw [exec_ppass h]
      simp only [if_neg (Nat.not_le.2 hn), if_pos hh]
  · have hpass := Ctx.passed h hh hb he hp none
    obtain ⟨w, hw, ha⟩ := hpass.arm
    rw [exec_ppassFree h, if_neg (not_not.2 hh)]
    refine ⟨_, w, rfl, ?_, hw, ha⟩
    have hq : ((s.noted c .ppassFree).core c.r.core).queue = (s.core c.r.core).queue := by
      obtain ⟨l, o, hn⟩ := s.noted_core c .ppassFree c.r.core
      rw [hn]
    rw [hpass.made]
    exact (State.holder_passTo_none _ _).trans (by rw [hpass.queue, hq])
  · rw [exec_ppass h]
    exact congrArg Host.Outcome.next (if_pos hn)
  · rw [exec_ppass h]
    simp only [if_neg (Nat.not_le.2 hn), if_neg (not_not.2 hh)]
    obtain hv | ⟨hv, hx⟩ := hv
    · simp only [hv]
    · simp only [hv, if_pos hx]
  · have hpass := Ctx.passed h hh hb hw hp (some v.uid)
    obtain ⟨w, hws, ha⟩ := hpass.arm
    have hmade := hpass.made
    generalize hm : ((s.noted c (.ppass a)).modArm c.r (fun a => { a with hold := .passing (some v.uid) })).letGo c.r.core
      (some c.r.slot) = m at hmade
    obtain ⟨y, hy, hyu, hye⟩ : ∃ y, m.wave? c.r.core (c.wave.sreg a.toNat).toNat = some y ∧ y.uid = v.uid ∧ y.ended = false := by
      by_cases hs : (c.wave.sreg a.toNat).toNat = c.r.slot
      · have hvw : v = c.wave := Option.some.inj ((hs ▸ hv.symm :).trans (Ctx.wave?_self h.ctx))
        refine ⟨_, by rw [hs, ← hm]; exact hpass.self, ?_, ?_⟩
        · rw [hvw]
          exact Wave.modArm_uid _ _ _
        · exact (Wave.modArm_ended _ _ _).trans hw
      · refine ⟨v, ?_, rfl, he⟩
        rw [← hm, hpass.other _ hs, State.noted_wave?]
        exact hv
    obtain ⟨e, hfind⟩ : ∃ e, m.heir c.r.core (some v.uid) = some e := by
      refine Option.isSome_iff_exists.1 (List.find?_isSome.2 ⟨_, NMap.mem_of_get? hy, ?_⟩)
      simp [hyu, hye]
    have heu : e.2.uid = v.uid := by
      have := List.find?_some hfind
      exact beq_iff_eq.1 (Bool.and_eq_true_iff.1 this).1
    obtain ⟨x, hx, hxu⟩ := State.mem_slots_givePennant (List.mem_of_find?_eq_some hfind) e.1
    rw [hfind] at hmade
    rw [exec_ppass h]
    simp only [if_neg (Nat.not_le.2 hn), if_neg (not_not.2 hh), hv, he, hj, Bool.false_eq_true, ne_eq, not_true_eq_false, or_self, if_false]
    exact ⟨_, w, e.1, x, rfl, hmade ▸ m.holder_givePennant c.r.core e.1, hmade ▸ hx, hxu.trans heu, hws, ha⟩

end Sys2Proof
end
section
/-! ## The choice of a partition, and the step that runs it

What an arm that is chosen runs, once its packet is at hand, and what the step leaves (R38, R99 to R106, R384). -/
set_option Elab.async false

open Sys2Proof Sys2Proof.Machine

namespace Sys2Proof.Machine

/-! ### Two updates of one place -/

theorem NMap.put_put {α : Type} (m : NMap α) (k : Nat) (a b : α) : NMap.put (NMap.put m k a) k b = NMap.put m k b := by
  induction m with
  | nil => simp [NMap.put]
  | cons e m ih =>
    unfold NMap.put
    by_cases h1 : k < e.1
    · simp [h1, NMap.put]
    · by_cases h2 : k = e.1
      · simp [h2, NMap.put]
      · simp [h1, h2, NMap.put, ih]

theorem State.modCore_modCore (s : State) (c : Nat) (f g : Core → Core) : (s.modCore c f).modCore c g = s.modCore c (fun k => g (f k)) := by
  show ({ s with cores := NMap.put (s.modCore c f).cores c (g ((s.modCore c f).core c)) } : State) = _
  rw [State.core_modCore, if_pos rfl]
  exact congrArg (fun m => ({ s with cores := m } : State)) (NMap.put_put _ _ _ _)

theorem State.modWave_modWave (s : State) (c k : Nat) (f g : Wave → Wave) :
    (s.modWave c k f).modWave c k g = s.modWave c k (fun w => g (f w)) := by
  cases hw : s.wave? c k with
  | none =>
    have h (x : Wave → Wave) : s.modWave c k x = s := by unfold State.modWave; rw [hw]
    rw [h, h, h]
  | some w =>
    have h (x : Wave → Wave) : s.modWave c k x = s.modCore c (fun y => { y with slots := NMap.put y.slots k (x w) }) := by
      unfold State.modWave; rw [hw]
    have h2 : (s.modWave c k f).modWave c k g =
        (s.modWave c k f).modCore c (fun y => { y with slots := NMap.put y.slots k (g (f w)) }) := by
      rw [State.modWave, State.wave?_modWave_self hw]
    rw [h2, h, h, State.modCore_modCore]
    simp only [NMap.put_put]

theorem Wave.modArm_modArm (w : Wave) (n : Nat) (f g : Arm → Arm) : (w.modArm n f).modArm n g = w.modArm n (fun a => g (f a)) := by
  cases ha : NMap.get? w.arms n with
  | none =>
    have h (x : Arm → Arm) : w.modArm n x = w := by unfold Wave.modArm; rw [ha]
    rw [h, h, h]
  | some a =>
    have h (x : Arm → Arm) : w.modArm n x = { w with arms := NMap.put w.arms n (x a) } := by unfold Wave.modArm; rw [ha]
    rw [h (fun a => g (f a)), h f]
    show Wave.modArm _ n g = _
    unfold Wave.modArm
    simp only [NMap.get?_put, if_pos, NMap.put_put]

theorem State.modArm_modArm (s : State) (r : ArmRef) (f g : Arm → Arm) : (s.modArm r f).modArm r g = s.modArm r (fun a => g (f a)) :=
  (State.modWave_modWave _ _ _ _ _).trans (congrArg (s.modWave r.core r.slot) (funext (fun w => w.modArm_modArm r.arm f g)))

/-! ### An arm by its name -/

theorem State.arm?_eq {s : State} {r : ArmRef} {w : Wave} {a : Arm} (hw : s.wave? r.core r.slot = some w)
    (ha : NMap.get? w.arms r.arm = some a) : s.arm? r = some a := by
  unfold State.arm?
  rw [hw]
  exact ha

theorem State.arm?_of_wave? {s t : State} {r : ArmRef} (h : t.wave? r.core r.slot = s.wave? r.core r.slot) : t.arm? r = s.arm? r := by
  unfold State.arm?
  rw [h]

theorem State.arm?_modArm (s : State) (r : ArmRef) (f : Arm → Arm) : (s.modArm r f).arm? r = (s.arm? r).map f := by
  unfold State.arm? State.modArm
  rw [State.wave?_modWave, if_pos ⟨rfl, rfl⟩]
  cases s.wave? r.core r.slot with
  | none => rfl
  | some w => exact (Wave.get?_modArm w _ _ f).trans (if_pos rfl)

theorem State.arm?_modArm_other (s : State) {r q : ArmRef} (hc : r.core = q.core) (hs : r.slot = q.slot) (h : r.arm ≠ q.arm)
    (f : Arm → Arm) : (s.modArm q f).arm? r = s.arm? r := by
  unfold State.arm? State.modArm
  rw [State.wave?_modWave, hc, hs, if_pos ⟨rfl, rfl⟩]
  cases s.wave? q.core q.slot with
  | none => rfl
  | some w => exact (Wave.get?_modArm w _ _ f).trans (if_neg h)

theorem State.waits_of_none {t : State} {r : ArmRef} {b : Arm} (hb : t.arm? r = some b) (h : b.hold = .none) (s : State) :
    s.waits r t = false := by
  unfold State.waits
  rw [hb]
  cases s.arm? r with
  | none => rfl
  | some a => simp only [h]

/-- A word that has issued and waits has not kept its arm waiting (R38): the arm had captured nothing before. -/
theorem State.waits_of_cap {s t : State} {r : ArmRef} {a b : Arm} (ha : s.arm? r = some a) (hc : a.cap = none)
    (hb : t.arm? r = some b) (h : b.cap.isSome = true) : s.waits r t = false := by
  have hn : b.cap.isNone = false := by cases hb : b.cap <;> simp_all
  unfold State.waits
  rw [ha, hb]
  simp only [hn, hc]
  split <;> rfl

theorem State.waits_congr {s t u : State} {r : ArmRef} {f : Arm → Arm} (h : u.arm? r = (t.arm? r).map f)
    (hf : ∀ a, (f a).hold = a.hold ∧ (f a).cap = a.cap ∧ (f a).also = a.also) : s.waits r u = s.waits r t := by
  unfold State.waits
  rw [h]
  cases s.arm? r with
  | none => rfl
  | some a =>
    cases t.arm? r with
    | none => rfl
    | some b =>
      obtain ⟨h1, h2, h3⟩ := hf b
      simp only [Option.map_some, h1, h2, Arm.waiting, h3] <;> rfl

/-! ### What follows a word that has issued -/

theorem State.takePipe_wave? (s : State) (core part : Nat) (i : Instr) (d k : Nat) : (s.takePipe core part i).wave? d k = s.wave? d k := by
  unfold State.takePipe
  split
  · rfl
  · exact State.wave?_modCore_of_slots rfl _ _

theorem State.takePipes_wave? (is : List Instr) (s : State) (core part d k : Nat) :
    (is.foldl (fun t i => t.takePipe core part i) s).wave? d k = s.wave? d k :=
  foldl_keeps (g := fun t : State => t.wave? d k) (fun s i => s.takePipe_wave? core part i d k) is s

/-- That an arm's words go to their pipes, and that the time is noted, does not make it wait. -/
theorem State.waits_noteIssue (s t : State) (core part : Nat) (r : ArmRef) (is : List Instr) :
    s.waits r ((is.foldl (fun t i => t.takePipe core part i) t).noteIssue r) = s.waits r t := by
  refine State.waits_congr ((State.arm?_modArm _ _ _).trans (congrArg (Option.map _) (State.arm?_of_wave? ?_))) (fun _ => ⟨rfl, rfl, rfl⟩)
  exact State.takePipes_wave? is t core part _ _

theorem State.touchLine_wave? (s : State) (core p va d k : Nat) : (s.touchLine core p va).wave? d k = s.wave? d k := by
  unfold State.touchLine
  split
  next a _ =>
    refine (State.wave?_modCore_of_slots rfl _ _).trans ?_
    split
    · rfl
    · exact congrArg (fun t => t.wave? d k) (s.l2Touch_offL2 p (a / 128) (List.range 4) false)
  · rfl

theorem State.touchCode_wave? (s : State) (core : Nat) (j : Job) (pc d k : Nat) : (s.touchCode core j pc).wave? d k = s.wave? d k := by
  unfold State.touchCode
  extract_lets va t
  split
  · exact s.touchLine_wave? _ _ _ _ _
  · exact (t.touchLine_wave? _ _ _ _ _).trans (s.touchLine_wave? _ _ _ _ _)

theorem State.touchPair_wave? (s : State) (core : Nat) (j : Job) (a : Arm) (d k : Nat) : (s.touchPair core j a).wave? d k = s.wave? d k := by
  unfold State.touchPair
  extract_lets t
  split
  · exact (t.touchCode_wave? _ _ _ _ _).trans (s.touchCode_wave? _ _ _ _ _)
  · exact s.touchCode_wave? _ _ _ _ _

/-! ### The words of a packet -/

theorem getD_three (x : Nat → Nat) {n : Nat} (h : n < 3) : [x 0, x 1, x 2].getD n 0 = x n := by
  rcases n with _ | _ | _ | n
  · rfl
  · rfl
  · rfl
  · omega

theorem zeroFrom_three {x : Nat → Nat} {n : Nat} (h : ∀ k, n ≤ k → k < 3 → x k = 0) : zeroFrom [x 0, x 1, x 2] n = true := by
  rcases n with _ | _ | _ | n
  · simp [zeroFrom, h 0, h 1, h 2]
  · simp [zeroFrom, h 1, h 2]
  · simp [zeroFrom, h 2]
  · simp [zeroFrom]

theorem State.packetWords_ok {s : State} {core pc : Nat} {j : Job} {x : Nat → Nat} {fresh : Prop}
    (h : ∀ k, k < 3 → ∃ p, s.codeWord core j pc k = .word (x k) p ∧ (fresh → p = false)) :
    ∃ pois, s.packetWords core j pc = .ok ([x 0, x 1, x 2], pois) ∧ (fresh → pois = none) := by
  obtain ⟨p, hp, hp'⟩ := h 0 (by omega)
  obtain ⟨q, hq, hq'⟩ := h 1 (by omega)
  obtain ⟨r, hr, hr'⟩ := h 2 (by omega)
  unfold State.packetWords
  rw [hp, hq, hr]
  exact ⟨_, rfl, fun hf => by simp [hp' hf, hq' hf, hr' hf]⟩

/-- A packet at hand is what its arm chooses from (R99 to R102). -/
theorem State.fetch_choose {s : State} {core : Nat} {w : Wave} {j : Job} {a : Arm} {i : Instr} {chained : Bool} {x : Nat → Nat}
    {next : List Nat} (h : Claims.Fetches s core w j a i chained x) (hn : s.nextPacket core j a (x a.word) = .ok next) :
    s.fetch core w j a = w.choose (s.core core) j a [x 0, x 1, x 2] next := by
  obtain ⟨pois, hok, hp⟩ := State.packetWords_ok h.words
  unfold State.fetch
  rw [hok]
  have hf : (pois.isSome && (a.word == 0 || a.refetch)) = false := by
    by_cases hr : a.word = 0 ∨ a.refetch = true
    · simp [hp hr]
    · simp only [not_or, Bool.not_eq_true] at hr
      simp [hr.1, hr.2]
  simp only [hf, getD_three x h.room.2, hn, Bool.false_eq_true, if_false]

theorem State.fetch_one {s : State} {core : Nat} {w : Wave} {j : Job} {a : Arm} {i : Instr} {x : Nat → Nat}
    (h : Claims.Fetches s core w j a i false x) : s.fetch core w j a = .one i := by
  rw [State.fetch_choose h (next := []) (by unfold State.nextPacket; simp [h.chain])]
  have hz : (packetEnding i && !zeroFrom [x 0, x 1, x 2] (a.word + 1)) = false := by
    cases hi : packetEnding i with
    | false => rfl
    | true => simp [zeroFrom_three (x := x) (n := a.word + 1) (fun k h1 h2 => (h.ending hi).2 k (by omega) h2)]
  unfold Wave.choose
  simp only [getD_three x h.room.2, h.decodes, hz, h.has, h.chain, Bool.or_self, Bool.false_eq_true, if_false, Bool.not_false, if_true]

theorem samePipe_eq_false {i k : Instr} (h : pipe i ≠ pipe k ∨ pipe i = .none) : samePipe i k = false := by
  unfold samePipe
  rcases h with h | h <;> simp [h]

/-- The second word of a pair that keeps R103. -/
theorem Wave.pairWith_two {w : Wave} {c : Core} {i k : Instr} {pc n : Nat} {y : Nat → Nat} (hn : n < 3) (hd : decodeWord (y n) = .ok k)
    (hc : chainBit (y n) = false) (he : packetEnding k = true → ∀ m, n < m → m < 3 → y m = 0) (hp : pipe i ≠ pipe k ∨ pipe i = .none)
    (ha : conflicts (w.usesNow c i) (w.usesNow c k) = false) (hl : w.lacks k = false) :
    w.pairWith c i pc n [y 0, y 1, y 2] = .two i k := by
  have hz : (packetEnding k && !zeroFrom [y 0, y 1, y 2] (n + 1)) = false := by
    cases hk : packetEnding k with
    | false => rfl
    | true => simp [zeroFrom_three (x := y) (n := n + 1) (fun m h1 h2 => he hk m (by omega) h2)]
  unfold Wave.pairWith
  simp only [getD_three y hn, hc, hd, hz, hl, ha, samePipe_eq_false hp, Bool.or_self, Bool.false_eq_true, if_false]

theorem State.fetch_two {s : State} {core : Nat} {w : Wave} {j : Job} {a : Arm} {i k : Instr} {x y : Nat → Nat}
    (h : Claims.Fetches s core w j a i true x) (g : Claims.Chained s core w j a i k x y) : s.fetch core w j a = .two i k := by
  have hi : packetEnding i = false := by
    cases hi : packetEnding i with
    | false => rfl
    | true => exact absurd (h.ending hi).1 (by simp)
  obtain ⟨hroom, hword⟩ := h.room
  rcases g.behind with ⟨hlt, hd, hc, he⟩ | ⟨heq, hnext, hwords, hd, hc, he⟩
  · have hne : (a.word == 2) = false := by simp; omega
    rw [State.fetch_choose h (next := []) (by unfold State.nextPacket; simp [hne])]
    unfold Wave.choose
    simp only [getD_three x hword, h.decodes, hi, h.has, h.chain, hne, hlt, Bool.false_and, Bool.or_self, Bool.false_eq_true, if_false,
      Bool.not_true, if_true]
    exact Wave.pairWith_two (by omega) hd hc he g.pipes g.apart g.has
  · obtain ⟨pois, hok, hp⟩ := State.packetWords_ok (s := s) (core := core) (pc := a.pc + 1) (j := j) (x := y) (fresh := True)
      (fun n hn => ⟨false, hwords n hn, fun _ => rfl⟩)
    have hx : chainBit (x 2) = true := heq ▸ h.chain
    rw [State.fetch_choose h (next := [y 0, y 1, y 2]) (by unfold State.nextPacket; simp [hx, heq, hnext, hok, hp trivial])]
    have hle : decide (j.npkt ≤ a.pc + 1) = false := by simp; omega
    unfold Wave.choose
    simp only [getD_three x hword, h.decodes, hi, h.has, h.chain, hle, Bool.false_and, Bool.and_false, Bool.or_self,
      Bool.false_eq_true, if_false, Bool.not_true, if_neg (show ¬ a.word < 2 by omega)]
    exact Wave.pairWith_two (by omega) hd hc (fun hk m h1 h2 => by
      obtain ⟨hy1, hy2⟩ := he hk
      obtain rfl | rfl : m = 1 ∨ m = 2 := by omega
      · exact hy1
      · exact hy2) g.pipes g.apart g.has

/-! ### The arm that is chosen -/

/-- What keeps R384 from putting another MERGE before the one of an arm that is chosen. -/
def State.goesFirst (s : State) (core part : Nat) (r : ArmRef) : Prop :=
  r.arm = 0 ∨ (s.core core).turns part ≠ 0 ∨ ∃ e, e ∈ s.partArms core part ∧ e.1.slot = r.slot ∧ s.mergesNext e = false

theorem Arm.facing_of_cap {a : Arm} (h : a.cap = none) (p : Hold → Bool) : a.facing p = a := by
  unfold Arm.facing Arm.swap
  rw [h]
  split
  · split <;> simp_all
  · rfl

theorem State.mergesNext_one {s : State} {e : ArmRef × Wave × Arm} {i : Instr}
    (hf : s.fetch e.1.core e.2.1 (s.job (s.team e.2.1.tid).job) e.2.2 = .one i) (hi : i ≠ .merge) : s.mergesNext e = false := by
  unfold State.mergesNext
  rw [hf, Bool.and_eq_false_iff]
  right
  split
  next h => exact absurd (Fetched.one.inj h) hi
  next h => cases h
  next => rfl

theorem State.mergesNext_two {s : State} {e : ArmRef × Wave × Arm} {i k : Instr}
    (hf : s.fetch e.1.core e.2.1 (s.job (s.team e.2.1.tid).job) e.2.2 = .two i k) (hk : k ≠ .merge) : s.mergesNext e = false := by
  unfold State.mergesNext
  rw [hf, Bool.and_eq_false_iff]
  right
  split
  next h => cases h
  next h => exact absurd (Fetched.two.inj h).2 hk
  next => rfl

section
variable {s s1 : State} {core part : Nat} {r : ArmRef} {w : Wave} {a : Arm} (h : Claims.Chooses s s1 core part r w a)
include h

theorem Chooses.candidates : ∃ es, s1.candidates core part = (r, w, a) :: es := by
  have hf := h.first
  cases hc : s1.candidates core part with
  | nil => rw [hc] at hf; cases hf
  | cons e es => rw [hc] at hf; exact ⟨es, by cases hf; rfl⟩

theorem Chooses.mem : (r, w, a) ∈ s1.partArms core part ∧ a.heldBy Hold.free = true := by
  obtain ⟨es, hc⟩ := Chooses.candidates h
  have hm : (r, w, a) ∈ s1.candidates core part := hc ▸ List.mem_cons_self
  obtain ⟨hm, hp⟩ := List.mem_filter.1 hm
  simp only [Bool.and_eq_true] at hp
  exact ⟨hm, hp.1.1⟩

/-- The arm that is chosen issues what its fetch finds (R101 to R106). -/
theorem Chooses.issueArm {j : Job} (hj : j = s1.job (s1.team w.tid).job) (hpc : a.pc < j.npkt) :
    s1.issueArm r = s1.issueFetched r j a (s1.fetch core w j a) := by
  obtain ⟨rfl, -⟩ := h.place
  unfold State.issueArm
  simp only [h.wave, h.arm, (Chooses.mem h).2, Arm.facing_of_cap h.fresh, h.fresh, ← hj, if_neg (Nat.not_le.2 hpc), Bool.not_true,
    Bool.false_eq_true, if_false]

theorem Chooses.step_eq : step s = s1.issue core part := by
  obtain ⟨rest, hag, rfl⟩ := h.agenda
  unfold step
  rw [hag]
  rfl

/-- A choice that does not wait is the partition's, and is counted (R38). -/
theorem Chooses.step_of_issueArm {t : State} (hi : s1.issueArm r = .next t) (hw : s1.waits r t = false) (hm : s1.goesFirst core part r) :
    step s = .next (t.modCore core (fun k => { k with chosen := k.chosen ++ [r] })) := by
  obtain ⟨es, hc⟩ := Chooses.candidates h
  have ht : s1.tryArms (s1.candidates core part) = some (r, a, .next t) := by
    rw [hc, State.tryArms]
    simp only [hi, hw, Bool.false_eq_true, if_false]
  have hf : s1.mergeFirst core part (r, a, .next t) = (r, a, .next t) := by
    unfold State.mergeFirst
    refine if_neg (fun hx => ?_)
    obtain ⟨h1, h2, -, h4⟩ := hx
    rcases hm with hm | hm | ⟨e, he, hs, hn⟩
    · rw [show r.arm = 1 from h1] at hm
      cases hm
    · exact hm h2
    · rw [List.all_eq_true.1 h4 e (List.mem_filter.2 ⟨he, by simpa using hs⟩)] at hn
      cases hn
  rw [Chooses.step_eq h]
  unfold State.issue State.choice
  rw [if_neg (Nat.not_le.2 h.turn), ht, Option.map_some, hf]
  unfold State.countTurn
  simp [h.fresh]

/-- An arm whose next word is no MERGE keeps its place (R384). -/
theorem Chooses.goesFirst (hm : s1.mergesNext (r, w, a) = false) : s1.goesFirst core part r :=
  .inr (.inr ⟨(r, w, a), (Chooses.mem h).1, rfl, hm⟩)

/-- Words that an arm has issued go to their pipes, the time is noted, and the choice is counted. -/
theorem Chooses.step_of_issued {t : State} {is : List Instr} (hi : s1.issueArm r = s1.issued r is (.next t))
    (hw : s1.waits r t = false) (hm : s1.goesFirst core part r) : step s = .next (Claims.chosen t core part r is) := by
  obtain ⟨rfl, rfl⟩ := h.place
  refine Chooses.step_of_issueArm h (hi.trans ?_) ((State.waits_noteIssue _ _ _ _ _ _).trans hw) hm
  unfold State.issued
  simp only [hw, Bool.false_eq_true, if_false]

theorem Chooses.issueArm_one {i : Instr} {x : Nat → Nat} (hf : Claims.Fetches s1 core w (s1.job (s1.team w.tid).job) a i false x)
    (hp : s1.pipeFree core part (pipe i) = true) :
    s1.issueArm r = s1.issued r [i] ((s1.touchCode core (s1.job (s1.team w.tid).job) a.pc).runWord r i) := by
  obtain ⟨rfl, rfl⟩ := h.place
  rw [Chooses.issueArm h rfl hf.room.1, State.fetch_one hf]
  exact if_pos hp

theorem Chooses.issueArm_two {i k : Instr} {x y : Nat → Nat} (hf : Claims.Fetches s1 core w (s1.job (s1.team w.tid).job) a i true x)
    (hc : Claims.Chained s1 core w (s1.job (s1.team w.tid).job) a i k x y) (hp : s1.pipeFree core part (pipe i) = true)
    (hq : s1.pipeFree core part (pipe k) = true) :
    s1.issueArm r = s1.issued r [i, k] ((s1.touchPair core (s1.job (s1.team w.tid).job) a).issuePair r i k) := by
  obtain ⟨rfl, rfl⟩ := h.place
  rw [Chooses.issueArm h rfl hf.room.1, State.fetch_two hf hc]
  exact if_pos (by rw [hp, hq]; rfl)

end

theorem State.runWord_next {s t : State} {r : ArmRef} {i : Instr} (h : exec i { s with cur := some r } = .next t) :
    s.runWord r i = .next { t with cur := none } := by
  unfold State.runWord
  rw [h]

/-! ### A chained pair -/

section
variable {s : State} {r : ArmRef} {i k : Instr} {c d : Ctx} (hc : ({ s with cur := some r } : State).ctx? i = some c)
  (hd : ({ s with cur := some r } : State).ctx? k = some d)
include hc hd

/-- A pair of which one word must wait issues neither (R103). -/
theorem State.issuePair_wait {v : Wait} (h : c.check (s.core r.core) i = .wait v ∨
    c.check (s.core r.core) i = .go ∧ d.check (s.core r.core) k = .wait v) :
    s.issuePair r i k = .next (s.modArm r (fun a => { a with hold := .wait v })) := by
  unfold State.issuePair
  rcases h with h | ⟨h, g⟩
  · simp only [hc, hd, h]
    rfl
  · simp only [hc, hd, h, g]
    rfl

variable {t : State} {b : Arm} (h : c.check (s.core r.core) i = .go) (g : d.check (s.core r.core) k = .go)
  (ht : exec i { s with cur := some r } = .next t) (hb : t.arm? r = some b)
include h g ht hb

/-- The second word runs in the state that the first has left (R103). -/
theorem State.issuePair_done {u : State} (hh : b.hold = .none) (hu : exec k { t with cur := some r } = .next u)
    (hw : ({ t with cur := none } : State).waits r { u with cur := none } = false) :
    s.issuePair r i k = .next { u with cur := none } := by
  have hb' : ({ t with cur := none } : State).arm? r = some b := hb
  have hs : s.waits r { t with cur := none } = false := State.waits_of_none hb' hh s
  unfold State.issuePair
  simp only [hc, hd, h, g, State.runWord_next ht, hb', hs, hh, if_true, Bool.false_eq_true, if_false]
  rw [State.runWord_next (s := { t with cur := none }) hu]
  simp only [hw, Bool.false_eq_true, if_false]

/-- The first word has issued and waits, and the second runs beside it (R103). -/
theorem State.issuePair_second {a : Arm} {q : Capture} (ha : s.arm? r = some a) (hcap : a.cap = none) (hh : b.hold ≠ .none)
    (hq : b.cap = some q) : s.issuePair r i k = s.secondOf { t with cur := none } r b.hold q d k := by
  have hb' : ({ t with cur := none } : State).arm? r = some b := hb
  have hs : s.waits r { t with cur := none } = false := State.waits_of_cap ha hcap hb' (by rw [hq]; rfl)
  unfold State.issuePair
  simp only [hc, hd, h, g, State.runWord_next ht, hb', hs, hh, hq, Bool.false_eq_true, if_false]
  rfl

end

/-- A second word that is done leaves the arm held at the first, which part 1 holds where the second has split the wave (R56, R103). -/
theorem State.secondOf_done {s t u : State} {r : ArmRef} {x : Hold} {q : Capture} {d : Ctx} {k : Instr} {e : Arm} (hm : k ≠ .merge)
    (he : k = .exit → storesOrAtomic q.ins = false)
    (hu : exec k { t.modArm r (fun a => { a.advance with cap := none }) with cur := some r } = .next u) (ha : u.arm? r = some e)
    (hh : e.hold = .none) : s.secondOf { t with cur := none } r x q d k =
      .next (({ u with cur := none } : State).modArm (Claims.holder t u r) (fun a => { a with hold := x, cap := some q, paired := true })) := by
  have hcur : (({ t with cur := none } : State).modArm r (fun a => { a.advance with cap := none })) =
      { t.modArm r (fun a => { a.advance with cap := none }) with cur := none } := by
    unfold State.modArm State.modWave
    show (match t.wave? r.core r.slot with | some w => _ | none => _) = _
    cases t.wave? r.core r.slot <;> rfl
  have hn : ¬ (k = .merge ∨ k = .exit ∧ storesOrAtomic q.ins = true) := by
    rintro (hx | ⟨hx, hy⟩)
    · exact hm hx
    · rw [he hx] at hy; cases hy
  have ha' : ({ u with cur := none } : State).arm? r = some e := ha
  unfold State.secondOf
  simp only [hcur, hn, if_false]
  rw [State.runWord_next (s := { t.modArm r (fun a => { a.advance with cap := none }) with cur := none }) hu]
  simp only [ha', hh]
  rfl

theorem State.ctx?_ins {s : State} {i : Instr} {c : Ctx} (h : s.ctx? i = some c) : c.ins = i := by
  unfold State.ctx? at h
  split at h
  · cases h
  · split at h
    · cases h
    · obtain ⟨a, -, rfl⟩ := Option.map_eq_some_iff.1 h
      rfl

/-- A MERGE, or an EXIT behind a store or an atomic, waits with the first word. -/
theorem State.secondOf_both {s t : State} {r : ArmRef} {x : Hold} {q : Capture} {d : Ctx} {k : Instr}
    (hm : k = .merge ∨ k = .exit ∧ storesOrAtomic q.ins = true) (hd : d.ins = k) :
    ∃ y : Capture, y.ins = k ∧ s.secondOf t r x q d k = .next (t.modArm r (fun a =>
      { ({ a.advance with cap := none, also := none, paired := false } : Arm).advance with
        hold := x, cap := some q, also := some (.wait .earlier, y), paired := true })) := by
  unfold State.secondOf
  simp only [hm, if_true, State.modArm_modArm]
  exact ⟨_, hd, rfl⟩

/-- The arm does not wait for having tried: it has issued, and the arm that holds the first word has captured it. -/
theorem State.waits_holder {s t u : State} {r : ArmRef} {a e : Arm} {x : Hold} {q : Capture} (ha : s.arm? r = some a) (hc : a.cap = none)
    (hu : u.arm? r = some e) (hh : e.hold = .none) :
    s.waits r (u.modArm (Claims.holder t u r) (fun a => { a with hold := x, cap := some q, paired := true })) = false := by
  have same : s.waits r (u.modArm r (fun a => { a with hold := x, cap := some q, paired := true })) = false :=
    State.waits_of_cap ha hc ((State.arm?_modArm _ _ _).trans (congrArg (Option.map _) hu)) rfl
  unfold Claims.holder
  split
  · by_cases h0 : r.arm = 0
    · rw [← h0]
      exact same
    · exact State.waits_of_none ((State.arm?_modArm_other u (r := r) (q := { r with arm := 0 }) rfl rfl h0 _).trans hu) hh s
  · exact same

end Sys2Proof.Machine

namespace Sys2Proof
open Machine

/-- Settles O2, by what the fetch of the arm finds, what the pair leaves, and the order of the MERGEs. -/
theorem stepRunsDecoded : Obligations.StepRunsDecoded := by
  unfold Obligations.StepRunsDecoded
  refine ⟨?_, ?_, ?_⟩
  · rintro s s1 t core part r w a j x i h rfl hf hm hp ht hw
    refine Chooses.step_of_issued h ((Chooses.issueArm_one h hf hp).trans (congrArg _ (State.runWord_next ht))) hw ?_
    obtain ⟨rfl, -⟩ := h.place
    by_cases hi : i = .merge
    · exact hm hi
    · exact Chooses.goesFirst h (State.mergesNext_one (e := (r, w, a)) (State.fetch_one hf) hi)
  · rintro s s1 s2 core part r w a j x y i k c d h rfl hf hch hp hq hm rfl hc hd
    obtain ⟨rfl, -⟩ := h.place
    have hi := Chooses.issueArm_two h hf hch hp hq
    have ha : s1.arm? r = some a := State.arm?_eq h.wave h.arm
    have ha' : (s1.touchPair r.core (s1.job (s1.team w.tid).job) a).arm? r = some a :=
      (State.arm?_of_wave? (s1.touchPair_wave? _ _ _ _ _)).trans ha
    have hg : s1.goesFirst r.core part r := by
      by_cases hk : k = .merge
      · exact hm hk
      · exact Chooses.goesFirst h (State.mergesNext_two (e := (r, w, a)) (State.fetch_two hf hch) hk)
    refine ⟨fun v hv => State.issuePair_wait hc hd hv, fun t u b hgo hgo' ht hb => ⟨?_, ?_, ?_⟩⟩
    · intro hh hu hw hw'
      exact Chooses.step_of_issued h (hi.trans (congrArg _ (State.issuePair_done hc hd hgo hgo' ht hb hh hu hw))) hw' hg
    · intro q e hh hcap hmerge hexit hu he hhe
      refine Chooses.step_of_issued h (hi.trans (congrArg _ ((State.issuePair_second hc hd hgo hgo' ht hb ha' h.fresh hh hcap).trans
        (State.secondOf_done hmerge hexit hu he hhe)))) ?_ hg
      exact State.waits_holder (t := t) (u := { u with cur := none }) ha h.fresh he hhe
    · intro q hh hcap hk
      obtain ⟨y, hy, hs⟩ := State.secondOf_both (s := s1.touchPair r.core (s1.job (s1.team w.tid).job) a)
        (t := { t with cur := none }) (r := r) (x := b.hold) hk (State.ctx?_ins hd)
      refine ⟨y, hy, Chooses.step_of_issued h (hi.trans (congrArg _
        ((State.issuePair_second hc hd hgo hgo' ht hb ha' h.fresh hh hcap).trans hs))) ?_ hg⟩
      exact State.waits_of_cap ha h.fresh ((State.arm?_modArm _ _ _).trans (congrArg (Option.map _) hb)) rfl
  · rintro s s1 t rest core part x y z mates hag rfl hturn hx harm rfl hlen hall ht hy hyx hz
    have hf : State.mergeFirst { s with agenda := rest } core part x = z := by
      unfold State.mergeFirst
      simp only [harm, hturn, hlen, List.all_eq_true.2 hall, and_self, if_true, ht, hy, Option.any_some, hyx, beq_self_eq_true, hz,
        Option.getD_some]
    have hst : step s = State.issue { s with agenda := rest } core part := by
      unfold step
      rw [hag]
      rfl
    rw [hst]
    unfold State.issue State.choice
    rw [hturn, if_neg (by decide), hx, Option.map_some, hf]
    rfl

end Sys2Proof
end
section
/-! ## What a place of work leaves alone

A cluster takes the configuration of a job and gives it banks (R18, R165), which moves slabs between cores and copies of memory, and
nothing else of waves, deques, jobs and teams. -/
set_option Elab.async false

open Sys2Proof Sys2Proof.Machine

namespace Sys2Proof.Machine

/-- A core without its L1 and its accumulators. -/
def Core.offSlabs (k : Core) : Core := { k.offL1 with acc := [], accPois := [], pjob := none }

/-- A state without its memory and caches, slabs, banks, allocations and the number of the next thing it makes; its cores stand beside it,
each without its L1 and its accumulators. -/
def State.offPlaces (s : State) : State × (Nat → Core) :=
  ({ s with cores := [], clusters := [], stk := [], board := {}, mem := [], poison := [], l2 := [], freeCtr := 0, allocs := [], handles := 0 },
    fun d => (s.core d).offSlabs)

theorem State.offPlaces_of_offCaches {s t : State} (h : t.offCaches = s.offCaches) : t.offPlaces = s.offPlaces :=
  (congrArg (fun v : State × (Nat → Core) => (({ v.1 with allocs := [], handles := 0 } : State),
    fun d => ({ v.2 d with acc := [], accPois := [], pjob := none } : Core))) h :)

theorem State.offPlaces_of_offBanks {s t : State} (h : t.offBanks = s.offBanks) : t.offPlaces = s.offPlaces :=
  State.offPlaces_of_offCaches (State.offCaches_of_offBanks h)

theorem State.offPlaces_modCore {s : State} {c : Nat} {f : Core → Core} (h : ∀ k, (f k).offSlabs = k.offSlabs) :
    (s.modCore c f).offPlaces = s.offPlaces := by
  refine Prod.ext rfl (funext fun d => ?_)
  show ((s.modCore c f).core d).offSlabs = _
  rw [State.core_modCore]
  split
  · next e => rw [e, h]; rfl
  · rfl

theorem State.wave?_of_offPlaces {s t : State} (h : t.offPlaces = s.offPlaces) (d k : Nat) : t.wave? d k = s.wave? d k :=
  (congrArg (fun v => NMap.get? (v.2 d).slots k) h :)

theorem State.slots_of_offPlaces {s t : State} (h : t.offPlaces = s.offPlaces) (d : Nat) : (t.core d).slots = (s.core d).slots :=
  (congrArg (fun v => (v.2 d).slots) h :)

theorem State.deque_of_offPlaces {s t : State} (h : t.offPlaces = s.offPlaces) (d : Nat) : (t.core d).deque = (s.core d).deque :=
  (congrArg (fun v => (v.2 d).deque) h :)

theorem State.job_of_offPlaces {s t : State} (h : t.offPlaces = s.offPlaces) (j : Nat) : t.job j = s.job j :=
  (congrArg (fun v => v.1.job j) h :)

theorem State.rank_of_offPlaces {s t : State} (h : t.offPlaces = s.offPlaces) (j : Job) : t.rank j = s.rank j :=
  (congrArg (fun v => v.1.rank j) h :)

/-! ### Banks -/

theorem State.modAlloc_offPlaces (s : State) (a : Nat) (f : Alloc → Alloc) : (s.modAlloc a f).offPlaces = s.offPlaces := by
  unfold State.modAlloc
  split <;> rfl

theorem State.flushWays_offBanks (s : State) (cl : Nat) (bs : List Nat) : (s.flushWays cl bs).offBanks = s.offBanks :=
  foldl_keeps (g := State.offBanks) (fun s (e : Nat × CLine) => s.evictCC_offBanks cl e.1) _ s

theorem State.takeBanks_offPlaces (s : State) (cl n : Nat) (o : BankOwner) : (s.takeBanks cl n o).offPlaces = s.offPlaces := by
  unfold State.takeBanks
  split
  · rfl
  · extract_lets bs t
    have ht : t.offPlaces = s.offPlaces := State.offPlaces_of_offBanks (s.flushWays_offBanks cl bs)
    cases o with
    | alloc aid => exact (State.modAlloc_offPlaces _ _ _).trans ht
    | fifo tid => exact ht
    | contract cid => exact ht

theorem State.giveBanks_offPlaces (s : State) (cl : Nat) (j : Job) (aid tid fifo : Nat) :
    (s.giveBanks cl j aid tid fifo).offPlaces = s.offPlaces := by
  unfold State.giveBanks
  extract_lets t
  have ht : t.offPlaces = s.offPlaces := by
    unfold t
    split <;> rfl
  exact (State.offPlaces_of_offBanks (State.rebank_offBanks _ _)).trans
    ((State.takeBanks_offPlaces _ _ _ _).trans ((State.takeBanks_offPlaces _ _ _ _).trans ht))

theorem State.enterCluster_offPlaces (s : State) (jid cl : Nat) : (s.enterCluster jid cl).2.offPlaces = s.offPlaces := by
  unfold State.enterCluster
  split
  · rfl
  · exact State.giveBanks_offPlaces _ _ _ _ _ _

theorem State.leaveCluster_offPlaces (s : State) (jid cl : Nat) : (s.leaveCluster jid cl).offPlaces = s.offPlaces := by
  unfold State.leaveCluster
  split
  · rfl
  · split
    · rfl
    · exact (State.offPlaces_of_offBanks (State.rebank_offBanks _ _)).trans rfl

/-! ### Configurations -/

theorem State.rebound_offPlaces (s : State) (cl : Nat) {f : State → State} (hf : ∀ s, (f s).offPlaces = s.offPlaces) :
    (s.rebound cl f).offPlaces = s.offPlaces :=
  (foldl_keeps (g := State.offPlaces) (f := State.bindSlabs) (fun _ _ => State.offPlaces_modCore (fun _ => rfl)) _ _).trans ((hf _).trans
    (foldl_keeps (g := State.offPlaces) (f := State.unbindSlabs) (fun _ _ => State.offPlaces_modCore (fun _ => rfl)) _ _))

theorem State.configured_offPlaces {s t : State} {cl : Nat} {j : Job} (h : s.configured cl j = some t) : t.offPlaces = s.offPlaces := by
  unfold State.configured at h
  split at h
  · exact congrArg State.offPlaces (Option.some.inj h).symm
  · split at h
    · exact (congrArg State.offPlaces (Option.some.inj h).symm).trans (State.rebound_offPlaces _ _ (fun _ => rfl))
    · cases h

/-! ### The deque of a core -/

theorem Core.deque_pushHot (k : Core) (e : Entry) : (k.pushHot e).deque = k.deque ++ [e] := by
  unfold Core.pushHot Core.deque
  split
  · simp only [List.append_assoc]
    rw [← List.append_assoc (k.sram.take 64), List.take_append_drop]
  · simp

theorem Core.deque_refill (k : Core) : k.refill.deque = k.deque := by
  unfold Core.refill
  split
  · unfold Core.deque
    simp only
    rw [← List.append_assoc, List.take_append_drop]
  · rfl

theorem Core.mem_deque_takeEntry (k : Core) (uid : Nat) (x : Entry) : x ∈ (k.takeEntry uid).deque ↔ x ∈ k.deque ∧ x.uid ≠ uid := by
  unfold Core.takeEntry
  rw [Core.deque_refill]
  simp only [Core.deque, List.mem_append, List.mem_filter, bne_iff_ne]
  tauto

theorem Core.offDeque_takeEntry (k : Core) (uid : Nat) : { k.takeEntry uid with sram := [], ext := [] } = { k with sram := [], ext := [] } := by
  unfold Core.takeEntry Core.refill
  split <;> rfl

/-- The registers that a wave starts with: the numbers below a bound, each with its value. -/
theorem NMap.get?_range {α : Type} (f : Nat → α) (n k : Nat) :
    NMap.get? ((List.range n).map (fun i => (i, f i))) k = if k < n then some (f k) else none := by
  have h (m : Nat) (l : List Nat) : NMap.get? (l.map (fun i => (i, f i))) m = if m ∈ l then some (f m) else none := by
    induction l with
    | nil => rfl
    | cons i l ih =>
      by_cases hi : i = m
      · simp [NMap.get?, hi]
      · simp only [List.map_cons, NMap.get?, if_neg hi, ih, List.mem_cons, Ne.symm hi, false_or]
  simpa using h k (List.range n)

end Sys2Proof.Machine
end
section
/-! ## Tasks

What a pop and a thief choose, and the wave of the task that starts (R81, R82, R94, R95). -/
set_option Elab.async false

open Sys2Proof Sys2Proof.Machine

namespace Sys2Proof.Machine

/-! ### The choice of a pop and of a thief -/

/-- The entry that claims the next dispatch is ready, and has been passed over 8 times (R81). -/
theorem claimed_some {es : List Entry} {e : Entry} (h : claimed es = some e) : e ∈ es ∧ e.ready = true ∧ 8 ≤ e.byp := by
  have held (f : Option Entry → Entry → Option Entry) (hf : ∀ b x y, f b x = some y → y = x ∨ b = some y) (l : List Entry)
      (b : Option Entry) (h : l.foldl f b = some e) : e ∈ l ∨ b = some e := by
    induction l generalizing b with
    | nil => exact .inr h
    | cons x l ih =>
      rcases ih _ h with h | h
      · exact .inl (List.mem_cons_of_mem _ h)
      · rcases hf _ _ _ h with h | h
        · exact .inl (h ▸ List.mem_cons_self)
        · exact .inr h
  have hm : e ∈ es.filter (fun e => e.ready && decide (8 ≤ e.byp)) := by
    refine (held _ (fun b x y hy => ?_) _ none h).resolve_right (fun hx => by cases hx)
    cases b with
    | none => exact .inl (Option.some.inj hy).symm
    | some z =>
      by_cases hz : x.bypAt < z.bypAt
      · exact .inl (Option.some.inj ((if_pos hz).symm.trans hy)).symm
      · exact .inr ((if_neg hz).symm.trans hy)
  simpa [List.mem_filter] using hm

theorem State.popChoice_some {s : State} {core : Nat} {es ps : List Entry} {e : Entry} (h : s.popChoice core es = some (e, ps)) :
    e ∈ es ∧ e.ready = true ∧ (8 ≤ e.byp ∧ ps = [] ∨ e ∈ es.reverse.take 4 ∧
      (∀ x, x ∈ es.reverse.take 4 → x.ready = true → hdrPri (x.w.getD 0 0#32) ≤ hdrPri (e.w.getD 0 0#32)) ∧
      ∀ x, x ∈ ps ↔ x ∈ es.reverse.take 4 ∧ x.ready = true ∧ x.uid ≠ e.uid) := by
  unfold State.popChoice at h
  split at h
  next x hx =>
    cases h
    obtain ⟨hm, hr, hb⟩ := claimed_some hx
    exact ⟨hm, hr, .inl ⟨hb, rfl⟩⟩
  next =>
    extract_lets ready top cand at h
    split at h
    next x hx =>
      cases h
      have hc : e ∈ cand := by
        cases hf : cand.find? (fun e => s.lineResident core e) with
        | some y =>
          rw [hf] at hx
          cases hx
          exact List.mem_of_find?_eq_some hf
        | none =>
          rw [hf, Option.none_or] at hx
          exact List.mem_of_head? hx
      obtain ⟨hready, htop⟩ := List.mem_filter.1 hc
      obtain ⟨h4, hr⟩ := List.mem_filter.1 hready
      refine ⟨List.mem_reverse.1 (List.mem_of_mem_take h4), hr, .inr ⟨h4, fun x hx hxr => ?_, fun x => ?_⟩⟩
      · rw [beq_iff_eq.1 htop]
        exact List.le_max?_getD_of_mem (List.mem_map_of_mem (List.mem_filter.2 ⟨hx, hxr⟩))
      · simp only [List.mem_filter, bne_iff_ne, ready, and_assoc]
    next => cases h

theorem mem_victims_one {thief v : Nat} (h : v ∈ victims thief 1) : clusterOf v = clusterOf thief ∧ v ≠ thief := by
  obtain ⟨k, hk, rfl⟩ := List.mem_map.1 h
  rw [List.mem_range] at hk
  unfold clusterOf
  omega

theorem mem_clusterCores {cl v : Nat} (h : v ∈ clusterCores cl) : clusterOf v = cl := by
  obtain ⟨k, hk, rfl⟩ := List.mem_map.1 h
  rw [List.mem_range] at hk
  unfold clusterOf
  omega

theorem mem_victims_two {thief v : Nat} (h : v ∈ victims thief 2) : clusterOf v ≠ clusterOf thief ∧ stackOf v = stackOf thief := by
  obtain ⟨k, hk, hv⟩ := List.mem_flatMap.1 h
  have hv := mem_clusterCores hv
  rw [List.mem_range] at hk
  unfold clusterOf at hv ⊢
  unfold stackOf
  omega

theorem mem_victims_three {thief v : Nat} (h : v ∈ victims thief 3) : stackOf v ≠ stackOf thief := by
  obtain ⟨k, hk, hv⟩ := List.mem_flatMap.1 h
  obtain ⟨m, hm, hv⟩ := List.mem_flatMap.1 hv
  have hv := mem_clusterCores hv
  rw [List.mem_range] at hk hm
  unfold clusterOf at hv
  unfold stackOf
  omega

/-- What a thief takes qualifies at its level, and nothing goes before it on the thief's core (R94, R270). -/
theorem State.stealChoice_some {s : State} {thief level victim : Nat} {e : Entry} (h : s.stealChoice thief = some (level, victim, e)) :
    (level = 1 ∨ level = 2 ∨ level = 3) ∧ victim ∈ victims thief level ∧ e ∈ (s.core victim).deque.take 8 ∧
      s.qualifies thief victim level e = true ∧ s.takes thief e = true := by
  obtain ⟨l, hl, h⟩ := List.exists_of_findSome?_eq_some h
  obtain ⟨v, hv, h⟩ := List.exists_of_findSome?_eq_some h
  obtain ⟨x, hx, h⟩ := Option.map_eq_some_iff.1 h
  cases h
  have hp := List.find?_some hx
  rw [Bool.and_eq_true] at hp
  exact ⟨by simpa using hl, hv, List.mem_of_find?_eq_some hx, hp.1, hp.2⟩

/-! ### Jobs -/

theorem State.get?_modJob (s : State) (j k : Nat) (f : Job → Job) :
    NMap.get? (s.modJob j f).jobs k = if k = j then (NMap.get? s.jobs j).map f else NMap.get? s.jobs k := by
  unfold State.modJob
  split
  next x hx =>
    rw [hx]
    exact NMap.get?_put _ _ _ _
  next hx =>
    split
    next hk => rw [hk, hx]; rfl
    next => rfl

theorem State.job_modJob_keeps {β : Type} {g : Job → β} {f : Job → Job} (h : ∀ x, g (f x) = g x) (s : State) (j k : Nat) :
    g ((s.modJob j f).job k) = g (s.job k) := by
  unfold State.job NMap.at
  rw [State.get?_modJob]
  split
  next hk =>
    rw [hk]
    cases NMap.get? s.jobs j with
    | none => rfl
    | some x => exact h x
  next => rfl

/-! ### The wave of a task -/

/-- The team of one that a task is. -/
def taskTeam (core tid aid jid : Nat) : Team :=
  { tid := tid, job := jid, num := 0, cluster := clusterOf core, cores := [core], size := 1, alive := 1, alloc := aid, isTask := true,
    placed := tid }

/-- A state with a task's team and its wave in a slot. -/
def State.withTask (s : State) (core slot tid aid : Nat) (j : Job) (e : Entry) : State :=
  (({ s with teams := NMap.put s.teams tid (taskTeam core tid aid e.job) }).modJob e.job (fun j => { j with cores := setInsert j.cores core })).modCore
    core (fun k => { k with slots := NMap.put k.slots slot (taskWave j tid e) })

/-- A task whose entry has neither a staging error nor poison starts in the cluster's configuration, after its acquires (R82, R95). -/
theorem State.startTask_eq {e : Entry} (hc : e.scause = none) (hp : e.pois = false) (s : State) (core slot : Nat) :
    ∃ (u : State) (tid aid : Nat), u.offPlaces = s.offPlaces ∧
      (s.startTask core slot e).offCaches = (u.withTask core slot tid aid (s.job e.job) e).offCaches := by
  unfold State.startTask
  extract_lets cl j t
  have ht : t.offPlaces = s.offPlaces := by
    cases hx : s.configured cl j with
    | none => simp only [t, hx, Option.getD_none]
    | some v => simpa only [t, hx, Option.getD_some] using State.configured_offPlaces hx
  refine ⟨{ (t.enterCluster e.job cl).2 with handles := (t.enterCluster e.job cl).2.handles + 1 }, (t.enterCluster e.job cl).2.handles,
    (t.enterCluster e.job cl).1, (State.enterCluster_offPlaces t _ _).trans ht, ?_⟩
  rw [hc, hp]
  exact (foldl_keeps (g := State.offCaches) (f := fun s scope => s.acquire core scope) (fun s scope => s.acquire_offCaches core scope) _ _).trans
    (State.acquire_offCaches _ _ _)

/-- The task's wave is in its slot, with its team; deques and the counts of steals are as before. -/
theorem State.startTask_runs {e : Entry} (hc : e.scause = none) (hp : e.pois = false) (s : State) (core slot : Nat) :
    ∃ tid, (s.startTask core slot e).wave? core slot = some (taskWave (s.job e.job) tid e) ∧
      (((s.startTask core slot e).team tid).job = e.job ∧ ((s.startTask core slot e).team tid).size = 1 ∧
        ((s.startTask core slot e).team tid).cores = [core]) ∧
      (∀ d, ((s.startTask core slot e).core d).deque = (s.core d).deque) ∧
      ∀ k, ((s.startTask core slot e).job k).steals = (s.job k).steals := by
  obtain ⟨u, tid, aid, hu, ht⟩ := State.startTask_eq hc hp s core slot
  refine ⟨tid, ?_, ?_, fun d => ?_, fun k => ?_⟩
  · rw [State.wave?_of_offCaches ht]
    unfold State.withTask State.wave?
    rw [State.core_modCore, if_pos rfl]
    exact (NMap.get?_put _ _ _ _).trans (if_pos rfl)
  · have hteam : (s.startTask core slot e).team tid = taskTeam core tid aid e.job := by
      have h1 : (s.startTask core slot e).team tid = (u.withTask core slot tid aid (s.job e.job) e).team tid :=
        (congrArg (fun v => v.1.team tid) ht :)
      rw [h1]
      unfold State.withTask State.team
      rw [State.modCore_teams, State.modJob_teams]
      exact (NMap.at_put _ _ _ _ _).trans (if_pos rfl)
    rw [hteam]
    exact ⟨rfl, rfl, rfl⟩
  · refine (congrArg (fun v => (v.2 d).deque) ht :).trans (Eq.trans ?_ (State.deque_of_offPlaces hu d))
    show ((u.withTask core slot tid aid (s.job e.job) e).core d).deque = _
    unfold State.withTask
    rw [State.core_modCore]
    split
    next h => rw [h, State.core_modJob]; rfl
    next => rw [State.core_modJob]; rfl
  · refine (congrArg (fun v => (v.1.job k).steals) ht :).trans (Eq.trans ?_ (congrArg Job.steals (State.job_of_offPlaces hu k)))
    exact State.job_modJob_keeps (g := Job.steals) (f := fun j => { j with cores := setInsert j.cores core }) (fun _ => rfl)
      { u with teams := NMap.put u.teams tid (taskTeam core tid aid e.job) } e.job k

/-- The scalar registers of a task are its closure, and zeros above (R82). -/
theorem sreg_taskWave {e : Entry} (h : e.tiles = []) (j : Job) (tid k : Nat) :
    (taskWave j tid e).sreg k = if k < 32 then e.w.getD k 0#32 else 0#32 := by
  have hr : e.registers = e.w := by unfold Entry.registers; rw [h]; rfl
  unfold taskWave Wave.sreg NMap.at
  rw [hr, NMap.get?_range (fun k => e.w.getD k 0#32)]
  split <;> rfl

/-! ### Dispatches and steals -/

theorem State.bump_jobs (s : State) (core : Nat) (es : List Entry) : (s.bump core es).jobs = s.jobs := by
  refine foldl_keeps (g := State.jobs) ?_ es s.fresh.2
  exact fun _ _ => rfl

theorem State.takeStolen_deque (s : State) (thief victim level : Nat) (e x : Entry)
    (h : x ∈ ((s.takeStolen thief victim level e).core victim).deque) : x.uid ≠ e.uid := by
  unfold State.takeStolen at h
  rw [State.deque_of_offPlaces (State.leaveCluster_offPlaces _ _ _), State.core_modJob] at h
  have h : x ∈ (((s.release victim (commonScope thief victim)).modCore victim (fun k => k.takeEntry e.uid)).core victim).deque := h
  rw [State.core_modCore, if_pos rfl, Core.mem_deque_takeEntry] at h
  exact h.2

theorem State.takeStolen_job {s : State} {e : Entry} {j : Job} (h : NMap.get? s.jobs e.job = some j) (thief victim level : Nat) :
    (s.takeStolen thief victim level e).job e.job = j.countSteal level := by
  unfold State.takeStolen
  rw [State.job_of_offPlaces (State.leaveCluster_offPlaces _ _ _)]
  have hj : (s.release victim (commonScope thief victim)).jobs = s.jobs :=
    (congrArg (fun v => v.1.jobs) (s.release_offCaches victim (commonScope thief victim)) :)
  unfold State.job NMap.at
  rw [State.get?_modJob, if_pos rfl]
  show ((NMap.get? (s.release victim (commonScope thief victim)).jobs e.job).map _).getD _ = _
  rw [hj, h]
  rfl

/-- A steal counts at its own level (R97). -/
theorem Job.steals_countSteal {j : Job} {level : Nat} (hl : level = 1 ∨ level = 2 ∨ level = 3) (hn : j.steals.length = 3) {k : Nat}
    (hk : k < 3) : (j.countSteal level).steals.getD k 0 = j.steals.getD k 0 + (if k + 1 = level then 1 else 0) := by
  unfold Job.countSteal
  simp only [List.getD_eq_getElem?_getD, List.getElem?_set]
  by_cases h : k + 1 = level
  · have hx : level - 1 = k := by omega
    simp [hx, h, hn, hk]
  · rw [if_neg (by omega), if_neg h, Nat.add_zero]

end Sys2Proof.Machine

namespace Sys2Proof
open Machine

/-- Settles O50, by the choice of the entry, then by the wave that its task starts with. -/
theorem tasksStart : Obligations.TasksStart := by
  unfold Obligations.TasksStart
  refine ⟨fun s core es ps e h => State.popChoice_some h, ?_, ?_, ?_⟩
  · intro s core slot sl e ps hslot hres hpop hc hp ht
    have hx : exec (.taskDispatch core) s = .next (((if ps.isEmpty then s else s.bump core ps).modCore core
        (fun k => k.takeEntry e.uid)).startTask core slot e) := by
      show execTaskDispatch core s = _
      unfold execTaskDispatch
      rw [hslot]
      simp only [hres, hpop, Bool.false_eq_true, if_false]
    generalize hu : ((if ps.isEmpty then s else s.bump core ps).modCore core (fun k => k.takeEntry e.uid)) = u at hx
    obtain ⟨tid, hw, hteam, hd, -⟩ := State.startTask_runs hc hp u core slot
    have hj : u.job e.job = s.job e.job := by
      subst hu
      unfold State.job
      rw [State.modCore_jobs]
      split
      · rfl
      · rw [State.bump_jobs]
    refine ⟨_, _, hx, hw, rfl, rfl, rfl, fun k hk => (sreg_taskWave ht _ _ k).trans (if_pos hk),
      fun k hk => (sreg_taskWave ht _ _ k).trans (if_neg (by omega)), rfl, rfl, rfl, rfl, rfl, rfl, rfl, rfl, ?_, rfl, ?_⟩
    · show 64 * (u.job e.job).srb = _
      rw [hj]
    · obtain ⟨h1, h2, h3⟩ := hteam
      refine ⟨h1, h2, h3, fun x hx => ?_⟩
      rw [hd, ← hu, State.core_modCore, if_pos rfl, Core.mem_deque_takeEntry] at hx
      exact hx.2
  · intro s thief level victim e h
    obtain ⟨hl, hv, hm, hq, ht⟩ := State.stealChoice_some h
    unfold State.takes at ht
    unfold State.qualifies at hq
    simp only [Bool.and_eq_true, Bool.or_eq_true, Bool.not_eq_true', beq_iff_eq, bne_iff_ne, decide_eq_true_eq] at ht hq
    obtain ⟨⟨helig, hsole⟩, h3⟩ := hq
    refine ⟨hm, helig, ht.2, ?_, fun hs => ?_⟩
    · rcases hl with rfl | rfl | rfl
      · exact .inl ⟨rfl, mem_victims_one hv⟩
      · exact .inr (.inl ⟨rfl, mem_victims_two hv⟩)
      · obtain ⟨⟨h1, h2⟩, h4⟩ := h3.resolve_left (fun h => h rfl)
        exact .inr (.inr ⟨rfl, fun _ => mem_victims_three hv, h1, h2, h4⟩)
    · rcases hsole with (h | h) | h
      · rw [hs] at h; cases h
      · exact .inl h
      · exact .inr h
  · intro s core slot level victim sl e j hslot hwork hres hst hs hp hj hn hne
    have hready : (e.stolen (commonScope core victim)).ready = true := by
      show (!hdrS _) = true
      unfold hdrS
      rw [hs]
      rfl
    have hx : exec (.steal core) s = .next ((s.takeStolen core victim level e).startTask core slot (e.stolen (commonScope core victim))) := by
      show execSteal core s = _
      unfold execSteal
      rw [hslot]
      simp only [hwork, hres, hst, Bool.or_self, Bool.false_eq_true, if_false, hready, if_true]
    obtain ⟨tid, hw, hteam, hd, hjs⟩ := State.startTask_runs (e := e.stolen (commonScope core victim)) rfl hp
      (s.takeStolen core victim level e) core slot
    refine ⟨_, _, hx, hw, rfl, rfl, rfl, fun k hk => (sreg_taskWave rfl _ _ k).trans (if_pos hk), hteam.1, fun x hx => ?_, fun k hk => ?_⟩
    · rw [hd] at hx
      exact s.takeStolen_deque core victim level e x hx
    · rw [hjs, State.takeStolen_job hj]
      exact Job.steals_countSteal (State.stealChoice_some hst).1 hn hk

end Sys2Proof
end
section
/-! ## Teams and root closures take their places

The cores that a team takes have room for its waves, one after the other (R33 to R35, R46), and a root closure goes to the hot end of a
deque (R75, R261). -/
set_option Elab.async false

open Sys2Proof Sys2Proof.Machine

namespace Sys2Proof.Machine

/-! ### Root closures -/

theorem State.fork_offCaches (s : State) (core : Nat) : (s.fork core).offCaches = s.offCaches :=
  (State.writeBackCC_offCaches _ _ _).trans (State.writeBackL1_offCaches _ _ _)

/-- An entry of a job that is not drained is at the hot end of the deque (R78). -/
theorem State.pushEntry_offCaches {s : State} {e : Entry} (h : (s.job e.job).drained = false) (core : Nat) :
    (s.pushEntry core e).offCaches = (s.modCore core (fun k => k.pushHot e)).offCaches := by
  unfold State.pushEntry
  extract_lets j t
  rw [if_neg (by rw [show j.drained = false from h]; exact Bool.false_ne_true)]
  split
  · exact t.fork_offCaches core
  · rfl

/-- The state from which a root closure is pushed: its job runs in the cluster, and its root has been pushed. -/
def State.rooted (s : State) (core jid : Nat) : State :=
  (s.enterCluster jid (clusterOf core)).2.fresh.2.modJob jid (fun k =>
    { k with rootPushed := true, started := 1, home := if k.sole then some (clusterOf core) else none })

/-- The root closure of a job (R75, R261). -/
def State.rootEntry (s : State) (core jid : Nat) : Entry :=
  newEntry (s.enterCluster jid (clusterOf core)).2.handles (s.job jid) (migratable (s.job jid) (s.job jid).args)

theorem State.pushRoot_eq (s : State) (core jid : Nat) :
    s.pushRoot core jid = ((s.rooted core jid).pushEntry core (s.rootEntry core jid)).served (s.job jid) := rfl

theorem State.job_rooted (s : State) (core jid : Nat) : (s.rooted core jid).job jid = ((NMap.get? s.jobs jid).map (fun k =>
    { k with rootPushed := true, started := 1, home := if k.sole then some (clusterOf core) else none })).getD Job.empty := by
  unfold State.rooted State.job NMap.at
  rw [State.get?_modJob, if_pos rfl]
  have h : (s.enterCluster jid (clusterOf core)).2.fresh.2.jobs = s.jobs :=
    (congrArg (fun v => v.1.jobs) (s.enterCluster_offPlaces jid (clusterOf core)) :)
  rw [h]

/-- The words of a root closure: those of the job, with M set where the job's tasks migrate (R75). -/
theorem getD_migratable (j : Job) (ws : List Word) (k : Nat) : (migratable j ws).getD k 0#32 =
    if j.migrate ∧ k = 0 then ws.getD 0 0#32 ||| (if ws = [] then 0#32 else 0x80000000#32) else ws.getD k 0#32 := by
  unfold migratable
  cases ws with
  | nil => cases j.migrate <;> simp
  | cons w ws =>
    cases j.migrate with
    | false => simp
    | true => cases k <;> simp

theorem State.rootFit_offPlaces {s u : State} {core jid : Nat} (h : s.rootFit core jid = some u) : u.offPlaces = s.offPlaces := by
  unfold State.rootFit at h
  split at h
  · cases h
  · unfold State.rootRoom at h
    extract_lets j cl at h
    split at h
    · cases h
    · obtain ⟨v, hv, h⟩ := Option.bind_eq_some_iff.1 h
      split at h
      · exact (congrArg State.offPlaces (Option.some.inj h).symm).trans (State.configured_offPlaces hv)
      · cases h

/-! ### The cores of a team -/

theorem mem_chooseCores {u : State} {j : Job} {l cs : List Nat} {i : Nat} (h : State.chooseCores u j l i = some cs) (hi : i ≤ j.c) :
    cs.length + i = j.c ∧ cs.Sublist l ∧
      ∀ k, k < cs.length → wavesOnCore j.w j.c (i + k) ≤ (u.core (cs.getD k 0)).freeSlots.length := by
  have none_left : some [] = some cs → i = j.c → cs.length + i = j.c ∧ cs.Sublist l ∧
      ∀ k, k < cs.length → wavesOnCore j.w j.c (i + k) ≤ (u.core (cs.getD k 0)).freeSlots.length := by
    intro h hi
    cases h
    exact ⟨by simpa using hi, List.nil_sublist _, fun k hk => absurd hk (Nat.not_lt_zero k)⟩
  induction l generalizing i cs with
  | nil =>
    unfold State.chooseCores at h
    split at h
    · exact none_left h ‹_›
    · cases h
  | cons c l ih =>
    unfold State.chooseCores at h
    split at h
    · exact none_left h ‹_›
    next hne =>
      split at h
      next hm =>
        obtain ⟨ds, hds, rfl⟩ := Option.map_eq_some_iff.1 h
        obtain ⟨hlen, hsub, hroom⟩ := ih hds (by omega) (fun h hi => by
          cases h
          exact ⟨by simpa using hi, List.nil_sublist _, fun k hk => absurd hk (Nat.not_lt_zero k)⟩)
        refine ⟨by rw [List.length_cons]; omega, hsub.cons_cons c, fun k hk => ?_⟩
        rw [Bool.and_eq_true, decide_eq_true_eq] at hm
        cases k with
        | zero => exact hm.2
        | succ k =>
          rw [List.length_cons] at hk
          rw [List.getD_cons_succ, show i + (k + 1) = i + 1 + k by omega]
          exact hroom k (by omega)
      next =>
        obtain ⟨hlen, hsub, hroom⟩ := ih h hi (fun h hi => by
          cases h
          exact ⟨by simpa using hi, List.nil_sublist _, fun k hk => absurd hk (Nat.not_lt_zero k)⟩)
        exact ⟨hlen, hsub.cons c, hroom⟩

theorem nodup_clusterCores (cl : Nat) : (clusterCores cl).Nodup :=
  List.Nodup.map (fun a b h => by simpa using h) List.nodup_range

/-- The cores that a team takes: as many as it has, distinct, of the cluster, each with room for its waves (R33). -/
theorem State.teamFit_some {s u : State} {cl jid : Nat} {cs : List Nat} (h : s.teamFit cl jid = some (u, cs)) :
    u.offPlaces = s.offPlaces ∧ cs.length = (s.job jid).c ∧ cs.Nodup ∧ (∀ c, c ∈ cs → clusterOf c = cl) ∧
      ∀ k, k < cs.length → wavesOnCore (s.job jid).w (s.job jid).c k ≤ (u.core (cs.getD k 0)).freeSlots.length := by
  unfold State.teamFit State.teamRoom at h
  extract_lets j at h
  split at h
  · cases h
  · obtain ⟨v, hv, h⟩ := Option.bind_eq_some_iff.1 h
    obtain ⟨ds, hds, h⟩ := Option.map_eq_some_iff.1 h
    obtain ⟨rfl, rfl⟩ := Prod.mk.inj h
    obtain ⟨hlen, hsub, hroom⟩ := mem_chooseCores hds (Nat.zero_le _)
    have hsub := hsub.trans List.filter_sublist
    refine ⟨State.configured_offPlaces hv, by simpa using hlen, hsub.nodup (nodup_clusterCores cl),
      fun c hc => mem_clusterCores (hsub.subset hc), fun k hk => by simpa using hroom k hk⟩

/-! ### The waves of a team -/

theorem Core.mem_freeSlots {k : Core} {slot : Nat} (h : slot ∈ k.freeSlots) : NMap.get? k.slots slot = none := by
  have := (List.mem_filter.1 h).2
  rwa [Option.isNone_iff_eq_none] at this

/-- A slot that is taken is free no more, and no other changes (R41). -/
theorem Core.freeSlots_put {k : Core} {slot : Nat} {sl : List Nat} (h : k.freeSlots = slot :: sl) (w : Wave) :
    ({ k with slots := NMap.put k.slots slot w } : Core).freeSlots = sl := by
  have hf : ({ k with slots := NMap.put k.slots slot w } : Core).freeSlots = k.freeSlots.filter (fun j => j != slot) := by
    unfold Core.freeSlots
    rw [List.filter_filter]
    refine List.filter_congr (fun j _ => ?_)
    show (NMap.get? (NMap.put k.slots slot w) j).isNone = _
    rw [NMap.get?_put]
    by_cases hj : j = slot <;> simp [hj]
  have hn : k.freeSlots.Nodup := List.nodup_range.filter _
  rw [h, List.nodup_cons] at hn
  rw [hf, h, List.filter_cons_of_neg (by simp)]
  exact List.filter_eq_self.2 (fun j hj => by simpa using fun e : j = slot => hn.1 (e ▸ hj))

theorem State.startWave_eq {s : State} {core slot : Nat} {sl : List Nat} (h : (s.core core).freeSlots = slot :: sl) (j : Job)
    (tid idx : Nat) : s.startWave j tid idx core =
      s.fresh.2.modCore core (fun k => { k with slots := NMap.put k.slots slot (teamWave j s.handles tid idx) }) := by
  unfold State.startWave
  rw [h]
  rfl

theorem State.wave?_startWave_self {s : State} {core slot : Nat} {sl : List Nat} (h : (s.core core).freeSlots = slot :: sl) (j : Job)
    (tid idx : Nat) : (s.startWave j tid idx core).wave? core slot = some (teamWave j s.handles tid idx) := by
  rw [State.startWave_eq h]
  unfold State.wave?
  rw [State.core_modCore, if_pos rfl]
  exact (NMap.get?_put _ _ _ _).trans (if_pos rfl)

theorem State.freeSlots_startWave {s : State} {core slot : Nat} {sl : List Nat} (h : (s.core core).freeSlots = slot :: sl) (j : Job)
    (tid idx d : Nat) : ((s.startWave j tid idx core).core d).freeSlots = if d = core then sl else (s.core d).freeSlots := by
  rw [State.startWave_eq h, State.core_modCore]
  split
  · exact Core.freeSlots_put h _
  · rfl

/-- A wave that starts takes no slot of another. -/
theorem State.wave?_startWave_of_some {s : State} {d k : Nat} {w : Wave} (hw : s.wave? d k = some w) (j : Job) (tid idx core : Nat) :
    (s.startWave j tid idx core).wave? d k = some w := by
  cases h : (s.core core).freeSlots with
  | nil => unfold State.startWave; rw [h]; exact hw
  | cons slot sl =>
    rw [State.startWave_eq h]
    unfold State.wave? at hw ⊢
    rw [State.core_modCore]
    split
    next hd =>
      subst hd
      have hn : NMap.get? (s.core d).slots slot = none := Core.mem_freeSlots (h ▸ List.mem_cons_self)
      refine (NMap.get?_put _ _ _ _).trans ((if_neg (fun e : k = slot => ?_)).trans hw)
      rw [← e, hw] at hn
      cases hn
    next => exact hw

/-- A state without its cores and the number of the next thing it makes. -/
def State.offStart (s : State) : State := { s with cores := [], handles := 0 }

theorem State.startWave_offStart (s : State) (j : Job) (tid idx core : Nat) : (s.startWave j tid idx core).offStart = s.offStart := by
  unfold State.startWave
  split <;> rfl

/-- The first waves of a team in their slots: `n` of them, `q` to a core. -/
def State.startWaves (s : State) (j : Job) (tid q : Nat) (cs : List Nat) (n : Nat) : State :=
  (List.range n).foldl (fun s idx => s.startWave j tid idx (cs.getD (idx / q) 0)) s

theorem State.startWaves_succ (s : State) (j : Job) (tid q : Nat) (cs : List Nat) (n : Nat) :
    s.startWaves j tid q cs (n + 1) = (s.startWaves j tid q cs n).startWave j tid n (cs.getD (n / q) 0) := by
  unfold State.startWaves
  rw [List.range_succ, List.foldl_append]
  rfl

/-- How many of the first `n` waves, `q` to a core, are on core `i`. -/
theorem wavesOn_succ {q n i : Nat} (hq : 0 < q) : min q (n + 1 - i * q) = min q (n - i * q) + (if n / q = i then 1 else 0) := by
  have h := Nat.div_add_mod n q
  have hm := Nat.mod_lt n hq
  rw [Nat.mul_comm] at h
  split
  next e => rw [e] at h; omega
  next e =>
    rcases Nat.lt_or_gt_of_ne e with e | e
    · have : (n / q + 1) * q ≤ i * q := Nat.mul_le_mul_right q e
      rw [Nat.add_mul, Nat.one_mul] at this
      omega
    · have : (i + 1) * q ≤ n / q * q := Nat.mul_le_mul_right q e
      rw [Nat.add_mul, Nat.one_mul] at this
      omega

theorem getD_inj {cs : List Nat} (hn : cs.Nodup) {i k : Nat} (hi : i < cs.length) (hk : k < cs.length)
    (h : cs.getD i 0 = cs.getD k 0) : i = k := by
  rw [List.getD_eq_getElem?_getD, List.getD_eq_getElem?_getD, List.getElem?_eq_getElem hi, List.getElem?_eq_getElem hk] at h
  exact (hn.getElem_inj_iff).1 h

section
variable {s : State} {j : Job} {tid q : Nat} {cs : List Nat} (hq : 0 < q) (hn : cs.Nodup) (hw : ∀ k, k < j.w → k / q < cs.length)
  (hroom : ∀ i, i < cs.length → min q (j.w - i * q) ≤ (s.core (cs.getD i 0)).freeSlots.length)
include hq hn hw hroom

/-- The free slots of each core are fewer by the waves that have started there. -/
theorem State.freeSlots_startWaves {n : Nat} (hle : n ≤ j.w) : ∀ i, i < cs.length →
    ((s.startWaves j tid q cs n).core (cs.getD i 0)).freeSlots.length + min q (n - i * q) = (s.core (cs.getD i 0)).freeSlots.length := by
  induction n with
  | zero => intro i _; simp [State.startWaves]
  | succ n ih =>
    intro i hi
    have hx := ih (by omega) (n / q) (hw n (by omega))
    have hr := hroom (n / q) (hw n (by omega))
    have hd := Nat.div_add_mod n q
    have hm := Nat.mod_lt n hq
    rw [Nat.mul_comm] at hd
    rw [State.startWaves_succ, wavesOn_succ hq]
    cases hf : ((s.startWaves j tid q cs n).core (cs.getD (n / q) 0)).freeSlots with
    | nil => rw [hf] at hx; simp only [List.length_nil] at hx; omega
    | cons slot sl =>
      rw [State.freeSlots_startWave hf]
      have hi' := ih (by omega) i hi
      split
      next e =>
        obtain rfl := getD_inj hn hi (hw n (by omega)) e
        rw [hf, List.length_cons] at hi'
        rw [if_pos rfl]
        omega
      next e =>
        rw [if_neg (fun h : n / q = i => e (by rw [h]))]
        exact hi'

/-- Each wave that has started stands on its core (R34). -/
theorem State.wave?_startWaves {n : Nat} (hle : n ≤ j.w) : ∀ k, k < n →
    ∃ slot uid, (s.startWaves j tid q cs n).wave? (cs.getD (k / q) 0) slot = some (teamWave j uid tid k) := by
  induction n with
  | zero => intro k hk; omega
  | succ n ih =>
    intro k hk
    rw [State.startWaves_succ]
    by_cases hkn : k < n
    · obtain ⟨slot, uid, h⟩ := ih (by omega) k hkn
      exact ⟨slot, uid, State.wave?_startWave_of_some h _ _ _ _⟩
    · obtain rfl : k = n := by omega
      have hx := State.freeSlots_startWaves (tid := tid) hq hn hw hroom (n := k) (by omega) (k / q) (hw k (by omega))
      have hr := hroom (k / q) (hw k (by omega))
      have hd := Nat.div_add_mod k q
      have hm := Nat.mod_lt k hq
      rw [Nat.mul_comm] at hd
      cases hf : ((s.startWaves j tid q cs k).core (cs.getD (k / q) 0)).freeSlots with
      | nil => rw [hf] at hx; simp only [List.length_nil] at hx; omega
      | cons slot sl => exact ⟨slot, _, State.wave?_startWave_self hf _ _ _⟩

end

end Sys2Proof.Machine
end
section
/-! ## Units that are placed, leave and come back

What the pennant's moves leave of waves and slots (R227), what a switch saves and what it gives back (R272). -/
set_option Elab.async false

open Sys2Proof Sys2Proof.Machine

namespace Sys2Proof.Machine

/-! ### Waves whose arms alone may change -/

/-- A wave without its arms. -/
def Wave.offLive (w : Wave) : Wave := { w with arms := [] }

theorem Wave.tid_of_offLive {u w : Wave} (h : u.offLive = w.offLive) : u.tid = w.tid :=
  (congrArg Wave.tid h :)

/-- Of every wave only the arms may have changed, and no slot holds a wave that it did not hold. -/
structure State.Rearmed (s t : State) : Prop where
  waves : ∀ d k w, s.wave? d k = some w → ∃ u, t.wave? d k = some u ∧ u.offLive = w.offLive
  slots : ∀ d e, e ∈ (t.core d).slots → ∃ x, (e.1, x) ∈ (s.core d).slots ∧ x.offLive = e.2.offLive

theorem State.Rearmed.of_slots {s t : State} (h : ∀ d, (t.core d).slots = (s.core d).slots) : s.Rearmed t := by
  refine ⟨fun d k w hw => ⟨w, ?_, rfl⟩, fun d e he => ⟨e.2, h d ▸ he, rfl⟩⟩
  unfold State.wave? at hw ⊢
  rw [h, hw]

theorem State.Rearmed.trans {s t u : State} (h : s.Rearmed t) (g : t.Rearmed u) : s.Rearmed u where
  waves d k w hw := by
    obtain ⟨v, hv, e⟩ := h.waves d k w hw
    obtain ⟨x, hx, f⟩ := g.waves d k v hv
    exact ⟨x, hx, f.trans e⟩
  slots d e he := by
    obtain ⟨x, hx, f⟩ := g.slots d e he
    obtain ⟨y, hy, h⟩ := h.slots d (e.1, x) hx
    exact ⟨y, hy, h.trans f⟩

theorem State.modWave_rearmed (s : State) (c k : Nat) {f : Wave → Wave} (hf : ∀ w, (f w).offLive = w.offLive) :
    s.Rearmed (s.modWave c k f) := by
  refine ⟨fun d j w hw => ?_, fun d e he => ?_⟩
  · rw [State.wave?_modWave]
    split
    next h =>
      rw [← h.1, ← h.2, hw]
      exact ⟨_, rfl, hf w⟩
    next => exact ⟨w, hw, rfl⟩
  · unfold State.modWave at he
    cases hw : s.wave? c k with
    | none => rw [hw] at he; exact ⟨e.2, he, rfl⟩
    | some w =>
      rw [hw] at he
      have he : e ∈ ((s.modCore c (fun y => { y with slots := NMap.put y.slots k (f w) })).core d).slots := he
      rw [State.core_modCore] at he
      split at he
      next hd =>
        subst hd
        rcases NMap.mem_put _ _ _ _ he with rfl | he
        · exact ⟨w, NMap.mem_of_get? hw, (hf w).symm⟩
        · exact ⟨e.2, he, rfl⟩
      next => exact ⟨e.2, he, rfl⟩

theorem State.modCore_rearmed (s : State) {c : Nat} {f : Core → Core} (h : ∀ k, (f k).slots = k.slots) : s.Rearmed (s.modCore c f) := by
  refine .of_slots (fun d => ?_)
  rw [State.core_modCore]
  split
  next e => rw [e, h]
  next => rfl

theorem State.givePennant_rearmed (s : State) (core slot : Nat) : s.Rearmed (s.givePennant core slot) := by
  unfold State.givePennant
  extract_lets job t
  exact State.Rearmed.trans (t := t) (s.modCore_rearmed (fun _ => rfl)) (t.modWave_rearmed _ _ (fun _ => rfl))

theorem State.handover_rearmed (s : State) (core : Nat) (target : Option Nat) : s.Rearmed (s.handover core target) := by
  rw [State.handover_eq]
  have h : s.Rearmed (s.letGo core (s.core core).holder) := by
    unfold State.letGo
    split
    · exact s.modWave_rearmed _ _ (fun _ => rfl)
    · exact .of_slots (fun _ => rfl)
  refine h.trans ?_
  unfold State.passTo
  split
  · exact State.givePennant_rearmed _ _ _
  · split
    · exact State.givePennant_rearmed _ _ _
    · exact State.modCore_rearmed _ (fun _ => rfl)

theorem State.settlePennant_rearmed (s : State) (core : Nat) : s.Rearmed (s.settlePennant core) := by
  have same : s.Rearmed s := .of_slots (fun _ => rfl)
  unfold State.settlePennant
  extract_lets k
  split
  · exact same
  · split
    · exact s.handover_rearmed _ _
    · split
      · exact same
      · split
        · exact s.handover_rearmed _ _
        · split
          · exact s.handover_rearmed _ _
          · exact same

/-! ### Other cores -/

theorem State.core_modWave_other (s : State) {c d : Nat} (h : d ≠ c) (k : Nat) (f : Wave → Wave) : (s.modWave c k f).core d = s.core d := by
  unfold State.modWave
  split
  · rw [State.core_modCore, if_neg h]
  · rfl

theorem State.core_givePennant_other (s : State) {core d : Nat} (h : d ≠ core) (slot : Nat) :
    (s.givePennant core slot).core d = s.core d := by
  unfold State.givePennant
  extract_lets job t
  exact (t.core_modWave_other h _ _).trans ((State.core_modCore s core d _).trans (if_neg h))

theorem State.core_handover_other (s : State) {core d : Nat} (h : d ≠ core) (target : Option Nat) :
    (s.handover core target).core d = s.core d := by
  rw [State.handover_eq]
  have hl : (s.letGo core (s.core core).holder).core d = s.core d := by
    unfold State.letGo
    split
    · exact s.core_modWave_other h _ _
    · rfl
  refine Eq.trans ?_ hl
  unfold State.passTo
  split
  · exact State.core_givePennant_other _ h _
  · split
    · exact State.core_givePennant_other _ h _
    · exact (State.core_modCore _ _ _ _).trans (if_neg h)

theorem State.core_settlePennant_other (s : State) {core d : Nat} (h : d ≠ core) : (s.settlePennant core).core d = s.core d := by
  unfold State.settlePennant
  extract_lets k
  split
  · rfl
  · split
    · exact s.core_handover_other h _
    · split
      · rfl
      · split
        · exact s.core_handover_other h _
        · split
          · exact s.core_handover_other h _
          · rfl

/-! ### A unit that leaves its cores -/

theorem NMap.get?_filter {α : Type} {m : NMap α} {k : Nat} {a : α} {p : Nat × α → Bool} (h : NMap.get? m k = some a) (hp : p (k, a) = true) :
    NMap.get? (m.filter p) k = some a := by
  induction m with
  | nil => cases h
  | cons e m ih =>
    unfold NMap.get? at h
    by_cases he : e.1 = k
    · rw [if_pos he] at h
      obtain rfl : e.2 = a := Option.some.inj h
      rw [List.filter_cons_of_pos (by rw [← hp, ← he])]
      exact if_pos he
    · rw [if_neg he] at h
      by_cases hq : p e = true
      · rw [List.filter_cons_of_pos hq]
        exact (if_neg he).trans (ih h)
      · rw [List.filter_cons_of_neg hq]
        exact ih h

/-- A unit is gone from some cores, one after the other, each of whose pennants moves on. -/
def State.leaves (s : State) (t : Team) (cs : List Nat) : State :=
  cs.foldl (fun s c => (s.modCore c (fun k => k.without t)).settlePennant c) s

theorem State.leaves_offCores (s : State) (t : Team) (cs : List Nat) : (s.leaves t cs).offCores = s.offCores :=
  foldl_keeps (g := State.offCores) (fun s c => State.settlePennant_offCores (s.modCore c (fun k => k.without t)) c) cs s

theorem Core.slots_without (k : Core) (t : Team) : (k.without t).slots = k.slots.filter (fun x => x.2.tid != t.tid) := by
  unfold Core.without
  exact congrArg (List.filter _) (Core.unclaim_slots _ _)

/-- A wave of another unit stays in its slot. -/
theorem State.wave?_leaves {s : State} {t : Team} {d k : Nat} {w : Wave} (hw : s.wave? d k = some w) (ht : w.tid ≠ t.tid) (cs : List Nat) :
    ∃ u, (s.leaves t cs).wave? d k = some u ∧ u.offLive = w.offLive := by
  induction cs generalizing s w with
  | nil => exact ⟨w, hw, rfl⟩
  | cons c cs ih =>
    have h : (s.modCore c (fun k => k.without t)).wave? d k = some w := by
      unfold State.wave? at hw ⊢
      rw [State.core_modCore]
      split
      next e =>
        rw [Core.slots_without, ← e]
        exact NMap.get?_filter hw (by simpa using ht)
      next => exact hw
    obtain ⟨v, hv, e⟩ := (State.settlePennant_rearmed _ c).waves d k w h
    obtain ⟨u, hu, f⟩ := ih hv (Wave.tid_of_offLive e ▸ ht)
    exact ⟨u, hu, f.trans e⟩

/-- No slot of a core that the unit has left holds a wave of it. -/
theorem State.tid_leaves {s : State} {t : Team} {d : Nat} {e : Nat × Wave} {cs : List Nat} (he : e ∈ ((s.leaves t cs).core d).slots)
    (h : d ∈ cs ∨ ∀ x, x ∈ (s.core d).slots → x.2.tid ≠ t.tid) : e.2.tid ≠ t.tid := by
  induction cs generalizing s with
  | nil => exact h.resolve_left (fun h => nomatch h) e he
  | cons c cs ih =>
    refine ih he (Or.elim (List.mem_cons.1 |> fun f => h.imp_left f) (fun h => h.symm.imp id ?_) (fun h => .inr ?_))
    · rintro rfl x hx
      obtain ⟨y, hy, e⟩ := (State.settlePennant_rearmed _ d).slots d x hx
      rw [State.core_modCore, if_pos rfl, Core.slots_without] at hy
      have := (List.mem_filter.1 hy).2
      rw [← Wave.tid_of_offLive e]
      simpa using this
    · intro x hx
      obtain ⟨y, hy, e⟩ := (State.settlePennant_rearmed _ c).slots d x hx
      rw [← Wave.tid_of_offLive e]
      rw [State.core_modCore] at hy
      split at hy
      next hd =>
        rw [Core.slots_without] at hy
        exact h _ (hd ▸ (List.mem_filter.1 hy).1)
      next => exact h _ hy

theorem State.core_leaves_other (s : State) (t : Team) {d : Nat} {cs : List Nat} (h : d ∉ cs) : (s.leaves t cs).core d = s.core d := by
  induction cs generalizing s with
  | nil => rfl
  | cons c cs ih =>
    rw [List.mem_cons, not_or] at h
    obtain ⟨hc, hcs⟩ := h
    exact (ih _ hcs).trans ((State.core_settlePennant_other _ hc).trans ((State.core_modCore _ _ _ _).trans (if_neg hc)))

/-! ### What a switch saves -/

theorem Wave.saved_regs (w : Wave) : w.saved.uid = w.uid ∧ w.saved.s = w.s ∧ w.saved.v = w.v ∧ w.saved.p = w.p ∧
    w.saved.controls = w.controls := by
  have h {β : Type} (g : Wave → β) (hg : ∀ (x : Wave) n, g (x.unmark n) = g x) :=
    Wave.foldl_keeps (g := g) (f := fun x (p : Pending) => x.unmark p.id) (fun x p => hg x p.id) (w.inflight.filter w.abandons)
      { w with arms := w.arms.map (fun (e : Nat × Arm) => (e.1, w.savedArm e.2)), mode0 := none, ltile0 := none, old := [],
               inflight := (w.inflight.filter (fun p => !w.abandons p)).map (fun (p : Pending) =>
                 if p.load.isSome then { p with left := 1, bad := [], lines := 0 } else p) }
  exact ⟨h Wave.uid (fun _ _ => rfl), h Wave.s (fun _ _ => rfl), h Wave.v (fun _ _ => rfl), h Wave.p (fun _ _ => rfl),
    h Wave.controls (fun _ _ => rfl)⟩

theorem State.mem_waves {s : State} {c k : Nat} {w : Wave} (h : s.wave? c k = some w) : (c, k, w) ∈ s.waves := by
  unfold State.wave? State.core NMap.at at h
  cases hc : NMap.get? s.cores c with
  | none => rw [hc] at h; cases h
  | some x =>
    rw [hc] at h
    exact List.mem_flatMap.2 ⟨(c, x), NMap.mem_of_get? hc, List.mem_map.2 ⟨(k, w), NMap.mem_of_get? h, rfl⟩⟩

theorem State.mem_teamWaves {s : State} {c k : Nat} {w : Wave} (h : s.wave? c k = some w) : (c, k, w) ∈ s.teamWaves w.tid :=
  List.mem_filter.2 ⟨State.mem_waves h, by simp⟩

/-- Every wave of the unit is among the saved ones, with its registers (R272). -/
theorem State.mem_saveWaves {s : State} {t : Team} {c k : Nat} {w : Wave} (h : s.wave? c k = some w) (ht : w.tid = t.tid) :
    ∃ y, y ∈ s.saveWaves t ∧ y.core = t.cores.idxOf c ∧ y.slot = k ∧ y.wave = w.saved :=
  ⟨_, List.mem_map_of_mem (ht ▸ State.mem_teamWaves h), rfl, rfl, rfl⟩

theorem State.completeAll_of_idle {w : Wave} (h : w.inflight = []) (s : State) (c k : Nat) : s.completeAll c k w = s := by
  unfold State.completeAll
  rw [h]
  rfl

theorem foldl_fixed {α β : Type} {f : β → α → β} {b : β} {l : List α} (h : ∀ a, a ∈ l → f b a = b) : l.foldl f b = b := by
  induction l with
  | nil => rfl
  | cons a l ih =>
    rw [List.foldl_cons, h a List.mem_cons_self]
    exact ih (fun x hx => h x (List.mem_cons_of_mem _ hx))

/-- The state from which a unit leaves its cores: it is saved, and nothing waits for it. -/
def State.unitSaved (s : State) (uid : Nat) (t : Team) (u : Saved) : State :=
  { s.forgetReads t with
    units := NMap.put s.units uid u
    allocs := s.allocs.map (fun (a : Nat × Alloc) =>
      (a.1, { a.2 with waits := a.2.waits.filter (fun (q : BankWait) => !(s.wave? q.core q.slot).any (fun (w : Wave) => w.tid == t.tid)) })) }

/-- A unit that has released what it wrote is saved and leaves (R272). -/
def State.departs (s : State) (t : Team) : State :=
  ((logPages t.cores (s.fresh.2.saveUnit s.handles t).logs).foldl (fun s e => s.releaseLogged e.1 e.2.1 e.2.2)
    ((s.fresh.2.unitSaved s.handles t (s.fresh.2.saveUnit s.handles t)).leaves t t.cores)).modTeam t.tid (fun t => { t with switching := false })

theorem State.switchOut_eq {s : State} {t : Team} (hw : ∀ e, e ∈ s.teamWaves t.tid → e.2.2.inflight = []) :
    s.switchOut t = (t.cores.foldl (fun s c => s.release c 4) s).departs t := by
  have h : s.switchOut t = (t.cores.foldl (fun s c => s.release c 4)
    ((s.teamWaves t.tid).foldl (fun s e => s.completeAll e.1 e.2.1 e.2.2) s)).departs t := rfl
  rw [h, foldl_fixed (fun e he => State.completeAll_of_idle (hw e he) s e.1 e.2.1)]

theorem State.departs_eq {s : State} {t : Team} (hl : ∀ c, c ∈ t.cores → (s.core c).sideLog = []) : s.departs t =
    ((s.fresh.2.unitSaved s.handles t (s.fresh.2.saveUnit s.handles t)).leaves t t.cores).modTeam t.tid (fun t => { t with switching := false }) := by
  have h : (s.fresh.2.saveUnit s.handles t).logs = [] := List.flatMap_eq_nil_iff.2 (fun c hc => by
    show (((s.core c).sideLog.filter _).map _ : List (Nat × SideEntry)) = []
    rw [hl c hc]
    rfl)
  unfold State.departs
  rw [h]
  rfl

/-- What a unit that departs leaves: its own waves are saved and gone, the others stay. -/
theorem State.departs_spec {s : State} {t : Team} (hl : ∀ c, c ∈ t.cores → (s.core c).sideLog = [])
    (hon : ∀ c k w, s.wave? c k = some w → w.tid = t.tid → c ∈ t.cores) :
    ∃ uid u, NMap.get? (s.departs t).units uid = some u ∧ u.tid = t.tid ∧ u.job = t.job ∧ u.cores = t.cores ∧
      (∀ c k w, (s.departs t).wave? c k = some w → w.tid ≠ t.tid) ∧
      (∀ c k w, s.wave? c k = some w → w.tid = t.tid → ∃ y, y ∈ u.waves ∧ y.core = t.cores.idxOf c ∧ y.slot = k ∧ y.wave = w.saved) ∧
      ∀ c k w, s.wave? c k = some w → w.tid ≠ t.tid → ∃ y, (s.departs t).wave? c k = some y ∧ y.offLive = w.offLive := by
  rw [State.departs_eq hl]
  refine ⟨s.handles, s.fresh.2.saveUnit s.handles t, ?_, rfl, rfl, rfl, fun c k w hw => ?_,
    fun c k w hw ht => State.mem_saveWaves (s := s.fresh.2) hw ht, fun c k w hw ht => ?_⟩
  · rw [State.modTeam_units]
    refine (congrArg (fun v => NMap.get? v.units s.handles) (State.leaves_offCores _ t t.cores) :).trans ?_
    exact (NMap.get?_put _ _ _ _).trans (if_pos rfl)
  · rw [State.wave?_modTeam] at hw
    by_cases hc : c ∈ t.cores
    · exact State.tid_leaves (NMap.mem_of_get? hw) (.inl hc)
    · unfold State.wave? at hw
      rw [State.core_leaves_other _ _ hc] at hw
      exact fun ht => hc (hon c k w hw ht)
  · rw [State.wave?_modTeam]
    exact State.wave?_leaves (s := s.fresh.2.unitSaved s.handles t (s.fresh.2.saveUnit s.handles t)) hw ht t.cores

/-! ### The switches that are requested -/

/-- A state without its teams. -/
def State.offTeams (s : State) : State := { s with teams := [] }

theorem State.requestSwitches_keeps {β : Type} {g : State → β}
    (h : ∀ s t, g (s.modTeam t (fun t => { t with switching := true })) = g s) (s : State) : g s.requestSwitches = g s :=
  foldl_keeps (g := g) (fun _ _ => foldl_keeps (g := g) (fun s t => h s t) _ _) _ s

theorem State.modTeam_offTeams (s : State) (t : Nat) (f : Team → Team) : (s.modTeam t f).offTeams = s.offTeams := by
  unfold State.modTeam
  split <;> rfl

theorem State.requestSwitches_offTeams (s : State) : s.requestSwitches.offTeams = s.offTeams :=
  State.requestSwitches_keeps (fun s t => s.modTeam_offTeams t _) s

theorem State.requestSwitches_size (s : State) (k : Nat) : (s.requestSwitches.team k).size = (s.team k).size :=
  State.requestSwitches_keeps (g := fun s => (s.team k).size)
    (fun s t => State.team_modTeam_keeps (g := Team.size) (f := fun t => { t with switching := true }) (fun _ => rfl) s t k) s

/-- A team whose switch has been requested stays as it is. -/
theorem State.requestSwitches_team {s : State} {k : Nat} {m : Team} (h : NMap.get? s.teams k = some m) (hm : m.switching = true) :
    NMap.get? s.requestSwitches.teams k = some m := by
  have keeps (s : State) (t : Nat) (h : NMap.get? s.teams k = some m) :
      NMap.get? (s.modTeam t (fun t => { t with switching := true })).teams k = some m := by
    unfold State.modTeam
    split
    next x hx =>
      refine (NMap.get?_put _ _ _ _).trans ?_
      split
      next e =>
        rw [← e, h] at hx
        rw [← Option.some.inj hx, ← hm]
      next => exact h
    next => exact h
  have all {α : Type} {f : State → α → State} (hf : ∀ s a, NMap.get? s.teams k = some m → NMap.get? (f s a).teams k = some m)
      (l : List α) (s : State) (h : NMap.get? s.teams k = some m) : NMap.get? (l.foldl f s).teams k = some m := by
    induction l generalizing s with
    | nil => exact h
    | cons a l ih => exact ih _ (hf s a h)
  exact all (fun s c h => all keeps _ s h) _ s h

theorem State.requestSwitches_maySwitch (s : State) (core slot : Nat) (w : Wave) :
    s.requestSwitches.waveMaySwitch core slot w = s.waveMaySwitch core slot w := by
  have h1 : s.requestSwitches.core core = s.core core := (congrArg (fun t => t.core core) s.requestSwitches_offTeams :)
  have h2 : s.requestSwitches.abandonable = s.abandonable := (congrArg (fun t => t.abandonable) s.requestSwitches_offTeams :)
  have h3 : s.requestSwitches.deliveries = s.deliveries := (congrArg (fun t => t.deliveries) s.requestSwitches_offTeams :)
  have h4 : waveWord (s.requestSwitches.team w.tid) slot w = waveWord (s.team w.tid) slot w := by
    unfold waveWord
    rw [State.requestSwitches_size]
  unfold State.waveMaySwitch
  rw [h1, h2, h3, h4]

/-- A unit whose switch has been requested, and whose waves let it, is switched out (R270, R272). -/
theorem exec_switchOut {s : State} {core slot : Nat} {w : Wave} {m : Team} (hw : s.wave? core slot = some w)
    (hm : NMap.get? s.teams w.tid = some m) (ht : m.tid = w.tid) (hs : m.switching = true)
    (hmay : ∀ e, e ∈ s.teamWaves w.tid → s.waveMaySwitch e.1 e.2.1 e.2.2 = true) :
    exec (.switchOut core slot) s = .next (s.requestSwitches.switchOut m) := by
  have hteam : s.requestSwitches.team w.tid = m := by
    unfold State.team NMap.at
    rw [State.requestSwitches_team hm hs]
    rfl
  have hw' : s.requestSwitches.wave? core slot = some w :=
    (congrArg (fun t => t.wave? core slot) s.requestSwitches_offTeams :).trans hw
  have hwaves : s.requestSwitches.teamWaves w.tid = s.teamWaves w.tid :=
    (congrArg (fun t => t.teamWaves w.tid) s.requestSwitches_offTeams :)
  have hall : (s.requestSwitches.teamWaves m.tid).all (fun e => s.requestSwitches.waveMaySwitch e.1 e.2.1 e.2.2) = true := by
    rw [ht, hwaves, List.all_eq_true]
    exact fun e he => (s.requestSwitches_maySwitch _ _ _).trans (hmay e he)
  show execSwitchOut core slot s = _
  unfold execSwitchOut
  simp only [hw', hteam, hs, hall, Bool.and_self, if_true]

end Sys2Proof.Machine
end
section
/-! ## A unit that comes back, and what its waves find

A saved wave resumes in a free slot as it was (R272): nothing that follows touches it but the pennant, which may wake its arms. -/
set_option Elab.async false

open Sys2Proof Sys2Proof.Machine

namespace Sys2Proof.Machine

/-! ### Every wave of a state -/

/-- Every wave of a state, whether or not its slot shows it, is as `P` says. -/
def State.Houses (P : Wave → Prop) (s : State) : Prop := ∀ e, e ∈ s.waves → P e.2.2

theorem State.Houses.of_cores {P : Wave → Prop} {s t : State} (h : s.Houses P) (e : t.cores = s.cores) : t.Houses P := by
  unfold State.Houses State.waves at h ⊢
  rwa [e]

theorem State.Houses.slots {P : Wave → Prop} {s : State} (h : s.Houses P) {c : Nat} {e : Nat × Wave} (he : e ∈ (s.core c).slots) : P e.2 := by
  unfold State.core NMap.at at he
  cases hc : NMap.get? s.cores c with
  | none => rw [hc] at he; cases he
  | some k =>
    rw [hc] at he
    exact h (c, e.1, e.2) (List.mem_flatMap.2 ⟨(c, k), NMap.mem_of_get? hc, List.mem_map.2 ⟨e, he, rfl⟩⟩)

theorem State.Houses.modCore {P : Wave → Prop} {s : State} (h : s.Houses P) {c : Nat} {f : Core → Core}
    (hf : ∀ e, e ∈ (f (s.core c)).slots → P e.2) : (s.modCore c f).Houses P := by
  intro e he
  obtain ⟨x, hx, he⟩ := List.mem_flatMap.1 he
  obtain ⟨y, hy, rfl⟩ := List.mem_map.1 he
  rcases NMap.mem_put _ _ _ _ hx with rfl | hx
  · exact hf y hy
  · exact h (x.1, y.1, y.2) (List.mem_flatMap.2 ⟨x, hx, List.mem_map.2 ⟨y, hy, rfl⟩⟩)

theorem State.Houses.modCore_of_slots {P : Wave → Prop} {s : State} (h : s.Houses P) {c : Nat} {f : Core → Core}
    (hf : ∀ k, (f k).slots = k.slots) : (s.modCore c f).Houses P :=
  h.modCore (fun _ he => h.slots (c := c) (hf (s.core c) ▸ he))

theorem State.Houses.foldl {P : Wave → Prop} {α : Type} {f : State → α → State} (hf : ∀ s a, s.Houses P → (f s a).Houses P) (l : List α)
    {s : State} (h : s.Houses P) : (l.foldl f s).Houses P := by
  induction l generalizing s with
  | nil => exact h
  | cons a l ih => exact ih (hf s a h)

theorem State.Houses.configured {P : Wave → Prop} {s t : State} (h : s.Houses P) {cl : Nat} {j : Job} (ht : s.configured cl j = some t) :
    t.Houses P := by
  unfold State.configured at ht
  split at ht
  · exact Option.some.inj ht ▸ h
  · split at ht
    · refine Option.some.inj ht ▸ Houses.foldl (f := State.bindSlabs) (fun s c h => Houses.modCore_of_slots ?_ ?_) _
        (Houses.of_cores (Houses.foldl (f := State.unbindSlabs) (fun s c h => Houses.modCore_of_slots ?_ ?_) _ h) rfl)
      · exact h.of_cores rfl
      · exact fun _ => rfl
      · exact h.of_cores rfl
      · exact fun _ => rfl
    · cases ht

theorem State.Houses.acquire {P : Wave → Prop} {s : State} (h : s.Houses P) (c scope : Nat) : (s.acquire c scope).Houses P := by
  unfold State.acquire
  split
  · exact h
  · extract_lets k b last g every t
    have ht : t.Houses P := h.modCore_of_slots (fun _ => rfl)
    split
    · exact ht.of_cores rfl
    · exact ht

theorem State.Houses.noteClass {P : Wave → Prop} {s : State} (h : s.Houses P) (core jid cls : Nat) : (s.noteClass core jid cls).Houses P := by
  unfold State.noteClass
  extract_lets k t
  split
  · exact h
  · split
    · exact (h.modCore_of_slots (c := core) (f := fun k => { k with runLog := k.runLog ++ [(jid, cls)] }) (fun _ => rfl)).of_cores
        (State.modJob_cores _ _ _)
    · have ht : t.Houses P := h.modCore_of_slots (fun _ => rfl)
      exact ht.of_cores (State.suspects_hardware _ t).cores

/-! ### What is noted of the loads that a unit replays -/

theorem State.noteClass_slots (s : State) (core jid cls d : Nat) : ((s.noteClass core jid cls).core d).slots = (s.core d).slots := by
  obtain ⟨l, o, h⟩ := s.core_noteClass core jid cls d
  rw [h]

theorem State.noteReplays_keeps {β : Type} {g : State → β} (h : ∀ s core jid cls, g (s.noteClass core jid cls) = g s) (s : State) (u : Saved) :
    g (s.noteReplays u) = g s :=
  foldl_keeps (g := g) (fun s (e : Nat × Nat × Wave) => foldl_keeps (g := g) (fun s c => h s e.1 u.job c) _ s) _ s

theorem State.Houses.noteReplays {P : Wave → Prop} {s : State} (h : s.Houses P) (u : Saved) : (s.noteReplays u).Houses P :=
  Houses.foldl (fun _ _ h => Houses.foldl (fun _ _ h => h.noteClass _ _ _) _ h) _ h

/-! ### A core that comes to rest -/

theorem State.endTeam_slots (s : State) (tid d : Nat) : ((s.endTeam tid).core d).slots = (s.core d).slots := by
  unfold State.endTeam
  extract_lets t last u v
  have hu : (u.core d).slots = (s.core d).slots := by
    unfold u
    split
    · exact foldl_keeps (g := fun s : State => (s.core d).slots) (f := fun s c => s.release c 5)
        (fun s c => (congrArg Core.slots (State.core_of_offCaches (s.release_offCaches c 5) d) :)) _ s
    · rfl
  split
  · exact (State.slots_of_offPlaces (State.leaveCluster_offPlaces _ _ _) d).trans hu
  · exact (State.slots_of_offPlaces (State.offPlaces_of_offBanks (State.rebank_offBanks _ _)) d).trans hu

theorem State.endTeam_units (s : State) (tid : Nat) : (s.endTeam tid).units = s.units := by
  unfold State.endTeam
  extract_lets t last u v
  have hu : u.units = s.units := by
    unfold u
    split
    · exact foldl_keeps (g := State.units) (f := fun s c => s.release c 5)
        (fun s c => (congrArg (fun v => v.1.units) (s.release_offCaches c 5) :)) _ s
    · rfl
  split
  · exact (congrArg (fun v => v.1.units) (State.leaveCluster_offPlaces _ _ _) :).trans hu
  · exact (congrArg State.units (State.rebank_offBanks _ _) :).trans hu

theorem State.freeSlot_units (s : State) (core slot : Nat) (w : Wave) : (s.freeSlot core slot w).units = s.units := by
  unfold State.freeSlot
  extract_lets t u
  have hu : u.units = s.units := State.modTeam_units _ _ _
  split
  · exact (u.endTeam_units _).trans hu
  · exact hu

theorem State.settle_units (s : State) (core : Nat) : (s.settle core).units = s.units := by
  unfold State.settle
  extract_lets t
  refine Eq.trans (foldl_keeps (g := State.units) (fun s (e : Nat × Wave) => ?_) _ t) (congrArg State.units (s.settlePennant_offCores core) :)
  show (if e.2.ended && !s.waveBusy core e.2 then s.freeSlot core e.1 e.2 else s).units = _
  split
  · exact s.freeSlot_units _ _ _
  · rfl

theorem State.wave?_freeSlot_other (s : State) {core slot k : Nat} (h : k ≠ slot) (w : Wave) :
    (s.freeSlot core slot w).wave? core k = s.wave? core k := by
  unfold State.freeSlot
  extract_lets t u
  have hu : u.wave? core k = s.wave? core k := by
    refine (State.wave?_modTeam _ _ _ _ _).trans ?_
    unfold State.wave?
    rw [State.core_modCore, if_pos rfl]
    exact (NMap.get?_del _ _ _).trans (if_neg h)
  split
  · refine Eq.trans ?_ hu
    unfold State.wave?
    rw [State.endTeam_slots]
  · exact hu

/-- A wave that has not ended keeps its slot when its core comes to rest, where no ended one is listed in that slot. -/
theorem State.wave?_settle {s : State} {core slot : Nat} {w : Wave} (hw : s.wave? core slot = some w)
    (hl : ∀ e, e ∈ (s.core core).slots → e.1 = slot → e.2.ended = false) :
    ∃ u, (s.settle core).wave? core slot = some u ∧ u.offLive = w.offLive := by
  have hr := s.settlePennant_rearmed core
  obtain ⟨u, hu, e⟩ := hr.waves core slot w hw
  refine ⟨u, ?_, e⟩
  unfold State.settle
  extract_lets t
  have ht : t.wave? core slot = some u := (State.wave?_modCore_of_slots (Core.closeCursors_slots _) core slot).trans hu
  have hlt : ∀ e, e ∈ (t.core core).slots → e.1 = slot → e.2.ended = false := by
    intro e he hs
    have he : e ∈ (((s.settlePennant core).modCore core Core.closeCursors).core core).slots := he
    rw [State.core_modCore, if_pos rfl, Core.closeCursors_slots] at he
    obtain ⟨x, hx, f⟩ := hr.slots core e he
    have hen : x.ended = e.2.ended := (congrArg Wave.ended f :)
    rw [← hen]
    exact hl _ hx hs
  generalize (t.core core).slots = l at hlt
  clear_value t
  induction l generalizing t with
  | nil => exact ht
  | cons x l ih =>
    refine ih _ ?_ (fun e he => hlt e (List.mem_cons_of_mem _ he))
    show (if x.2.ended && !t.waveBusy core x.2 then t.freeSlot core x.1 x.2 else t).wave? core slot = some u
    split
    next hx =>
      rw [Bool.and_eq_true] at hx
      refine (State.wave?_freeSlot_other t (fun e => ?_) _).trans ht
      rw [hlt x List.mem_cons_self e.symm] at hx
      cases hx.1
    next => exact ht

/-! ### A unit of one wave that resumes -/

theorem NMap.notMem_of_get?_none {α : Type} {m : NMap α} {k : Nat} (h : NMap.get? m k = none) {e : Nat × α} (he : e ∈ m) : e.1 ≠ k := by
  induction m with
  | nil => cases he
  | cons x m ih =>
    unfold NMap.get? at h
    by_cases hx : x.1 = k
    · rw [if_pos hx] at h; cases h
    · rw [if_neg hx] at h
      rcases List.mem_cons.1 he with rfl | he
      · exact hx
      · exact ih h he

section
variable {s : State} {c old slot : Nat} {sl : List Nat} {u : Saved} {x : SavedWave} (hu : u.waves = [x]) (hx : x.core = 0)
  (hf : (s.core c).freeSlots = slot :: sl)
include hu hx

theorem Core.slots_withUnit (k : Core) (core : Nat) (places : List (Nat × Nat × Nat)) :
    (k.withUnit u core 0 places).slots = NMap.put k.slots (newSlot places 0 x.slot) x.wave := by
  have hw : u.waves.filter (fun w => w.core == 0) = [x] := by rw [hu]; simp [hx]
  unfold Core.withUnit
  simp only [hw, List.foldl_cons, List.foldl_nil]
  split <;> split <;> rfl

include hf

theorem State.unitSlots_one : s.unitSlots u [c] = [(0, x.slot, slot)] := by
  have hw : u.waves.filter (fun w => w.core == 0) = [x] := by rw [hu]; simp [hx]
  unfold State.unitSlots
  simp [hw, hf, List.range_succ]

end

/-- The state in which a unit is back in its cluster's configuration, but not yet on its cores. -/
def State.unitBack (s : State) (u : Saved) (cores : List Nat) : State :=
  let s := (s.configured u.cluster (s.job u.job)).getD s
  let s := { s with units := NMap.del s.units u.uid }
  let s := s.modTeam u.tid (fun t => { t with cores := cores })
  if (s.team u.tid).isTask then s.modJob u.job (fun j => { j with cores := cores.foldl setInsert j.cores }) else s

/-- The loads of a unit are replayed. -/
def State.replayUnit (s : State) (u : Saved) : State :=
  (s.teamWaves u.tid).foldl (fun s e => (e.2.2.inflight.filter (fun p => p.load.isSome)).foldl (fun s p =>
    s.replayLoad e.1 e.2.1 e.2.2 p) s) s

/-- What a unit does once it is on its cores. -/
def State.unitGoesOn (s : State) (u : Saved) (cores : List Nat) (places : List (Nat × Nat × Nat)) : State :=
  let s := cores.foldl (fun s c => s.acquire c 4) s
  let s := (logPages cores u.logs).foldl (fun s e => s.replayPage e.1 e.2.1 e.2.2) s
  let s := ((s.noteReplays u).restoreWaits u cores places).replayUnit u
  cores.foldl (fun s c => s.settle c) s

theorem State.switchIn_stages (s : State) (u : Saved) (cores : List Nat) : s.switchIn u cores =
    ((List.range cores.length).foldl (fun t rel => t.modCore (cores.getD rel 0) (fun k => k.withUnit u (cores.getD rel 0) rel (s.unitSlots u cores)))
      (s.unitBack u cores)).unitGoesOn u cores (s.unitSlots u cores) := rfl

theorem State.unitGoesOn_of_idle {u : Saved} (hl : u.logs = []) (hw : u.waits = []) (s : State) (c : Nat) (places : List (Nat × Nat × Nat)) :
    s.unitGoesOn u [c] places = (((s.acquire c 4).noteReplays u).replayUnit u).settle c := by
  unfold State.unitGoesOn State.restoreWaits
  rw [hl, hw]
  rfl

theorem State.switchIn_eq {u : Saved} (hl : u.logs = []) (hw : u.waits = []) (s : State) (c : Nat) : s.switchIn u [c] =
    (((((s.unitBack u [c]).modCore c (fun k => k.withUnit u c 0 (s.unitSlots u [c]))).acquire c 4).noteReplays u).replayUnit u).settle c :=
  (s.switchIn_stages u [c]).trans (State.unitGoesOn_of_idle hl hw _ c _)

theorem State.replayUnit_of_idle {s : State} {u : Saved} (h : s.Houses (fun w => w.tid = u.tid → w.inflight = [])) : s.replayUnit u = s := by
  refine foldl_fixed (fun e he => ?_)
  obtain ⟨he, ht⟩ := List.mem_filter.1 he
  rw [h e he (by simpa using ht)]
  rfl

theorem State.unitBack_spec (s : State) (u : Saved) (cores : List Nat) :
    (∀ d, ((s.unitBack u cores).core d).slots = (s.core d).slots) ∧ (s.unitBack u cores).units = NMap.del s.units u.uid ∧
      ∀ P, s.Houses P → (s.unitBack u cores).Houses P := by
  unfold State.unitBack
  extract_lets s1 s2 s3
  have h1 : s1.offPlaces = s.offPlaces ∧ ∀ P, s.Houses P → s1.Houses P := by
    cases hx : s.configured u.cluster (s.job u.job) with
    | none => simp only [s1, hx, Option.getD_none]; exact ⟨trivial, fun _ h => h⟩
    | some v =>
      simp only [s1, hx, Option.getD_some]
      exact ⟨State.configured_offPlaces hx, fun P h => h.configured hx⟩
  obtain ⟨hp, hh⟩ := h1
  have hc3 : s3.cores = s1.cores := State.modTeam_cores _ _ _
  have hu3 : s3.units = NMap.del s.units u.uid :=
    (State.modTeam_units _ _ _).trans (congrArg (fun v => NMap.del v.1.units u.uid) hp :)
  have h4 {t : State} (hc : t.cores = s1.cores) (hu : t.units = NMap.del s.units u.uid) :
      (∀ d, (t.core d).slots = (s.core d).slots) ∧ t.units = NMap.del s.units u.uid ∧ ∀ P, s.Houses P → t.Houses P := by
    refine ⟨fun d => ?_, hu, fun P h => (hh P h).of_cores hc⟩
    unfold State.core
    rw [hc]
    exact State.slots_of_offPlaces hp d
  split
  · exact h4 ((State.modJob_cores _ _ _).trans hc3) ((State.modJob_units _ _ _).trans hu3)
  · exact h4 hc3 hu3

/-- A saved wave resumes in the lowest free slot, with all that it had (R272). -/
theorem State.switchIn_runs {s : State} {c slot : Nat} {sl : List Nat} {u : Saved} {x : SavedWave} (hu : u.waves = [x]) (hx : x.core = 0)
    (hf : (s.core c).freeSlots = slot :: sl) (hl : u.logs = []) (hw : u.waits = []) (hi : x.wave.inflight = []) (he : x.wave.ended = false)
    (hn : ∀ e, e ∈ s.waves → e.2.2.tid ≠ u.tid) :
    NMap.get? (s.switchIn u [c]).units u.uid = none ∧ ∃ w, (s.switchIn u [c]).wave? c slot = some w ∧ w.offLive = x.wave.offLive := by
  obtain ⟨hslots, hunits, hhouses⟩ := s.unitBack_spec u [c]
  have hnew : newSlot (s.unitSlots u [c]) 0 x.slot = slot := by
    rw [State.unitSlots_one hu hx hf]
    unfold newSlot
    simp
  rw [State.switchIn_eq hl hw]
  generalize s.unitBack u [c] = t at hslots hunits hhouses
  generalize hr : t.modCore c (fun k => k.withUnit u c 0 (s.unitSlots u [c])) = r
  have hrslots : (r.core c).slots = NMap.put (s.core c).slots slot x.wave := by
    rw [← hr, State.core_modCore, if_pos rfl, Core.slots_withUnit hu hx, hnew, hslots]
  have hrunits : r.units = NMap.del s.units u.uid := by
    rw [← hr]
    exact hunits
  have hP : r.Houses (fun w => w.tid = u.tid → w.inflight = []) := by
    rw [← hr]
    have hs : s.Houses (fun w => w.tid = u.tid → w.inflight = []) := fun e he ht => absurd ht (hn e he)
    refine (hhouses _ hs).modCore (fun e he => ?_)
    rw [Core.slots_withUnit hu hx, hslots] at he
    rcases NMap.mem_put _ _ _ _ he with rfl | he
    · exact fun _ => hi
    · exact hs.slots he
  have hm := (hP.acquire c 4).noteReplays u
  have hmslots : (((r.acquire c 4).noteReplays u).core c).slots = NMap.put (s.core c).slots slot x.wave :=
    (State.noteReplays_keeps (g := fun s : State => (s.core c).slots) (fun s _ _ _ => s.noteClass_slots _ _ _ c) _ u).trans
      ((congrArg Core.slots (State.core_of_offCaches (r.acquire_offCaches c 4) c) :).trans hrslots)
  have hmunits : ((r.acquire c 4).noteReplays u).units = NMap.del s.units u.uid :=
    (State.noteReplays_keeps (g := State.units) (fun s a b d => (congrArg State.units (s.noteClass_offRecords a b d) :)) _ u).trans
      ((congrArg (fun v => v.1.units) (r.acquire_offCaches c 4) :).trans hrunits)
  rw [State.replayUnit_of_idle hm]
  generalize (r.acquire c 4).noteReplays u = m at hmslots hmunits
  have hfree : NMap.get? (s.core c).slots slot = none := Core.mem_freeSlots (hf ▸ List.mem_cons_self)
  refine ⟨?_, State.wave?_settle ?_ (fun e he' hs => ?_)⟩
  · rw [State.settle_units, hmunits]
    exact (NMap.get?_del _ _ _).trans (if_pos rfl)
  · unfold State.wave?
    rw [hmslots]
    exact (NMap.get?_put _ _ _ _).trans (if_pos rfl)
  · rw [hmslots] at he'
    rcases NMap.mem_put _ _ _ _ he' with rfl | he'
    · exact he
    · exact absurd hs (NMap.notMem_of_get?_none hfree he')

end Sys2Proof.Machine
end
section
/-! ## TEAM_PLACEMENT, ROOT_CLOSURE_PUSH, SWITCH_OUT and SWITCH_IN

The four steps by which units of work take and leave their cores (R33, R261, R272). -/
set_option Elab.async false

open Sys2Proof Sys2Proof.Machine

namespace Sys2Proof.Machine

/-! ### A team -/

/-- The next team of a job, on cores of a cluster. -/
def State.nextTeam (s : State) (cl jid : Nat) (cs : List Nat) : Team :=
  { tid := s.handles, job := jid, num := (s.job jid).started, cluster := cl, cores := cs, size := (s.job jid).w, alive := (s.job jid).w,
    fifoN := (s.job jid).fifo, alloc := s.handles + 1, placed := s.handles }

/-- The state in which a team has its allocation, before its banks. -/
def State.teamSeated (s : State) (cl jid : Nat) (cs : List Nat) : State :=
  { ({ s with handles := s.handles + 1 + 1 } : State).served (s.job jid) with
    teams := NMap.put s.teams s.handles (s.nextTeam cl jid cs)
    allocs := NMap.put s.allocs (s.handles + 1) { aid := s.handles + 1, job := jid, cluster := cl, bytes := (s.job jid).scr, ofTeam := true }
    clusters := s.clusters.map (fun (e : Nat × Cluster) => (e.1, if e.2.reserve = some jid then { e.2 with reserve := none } else e.2)) }

/-- The state in which a team has its banks, before its waves start. -/
def State.teamStands (s : State) (cl jid : Nat) (cs : List Nat) : State :=
  ((s.teamSeated cl jid cs).giveBanks cl (s.job jid) (s.handles + 1) s.handles (s.job jid).fifo).modJob jid
    (fun j => { j with started := j.started + 1 })

theorem State.placeTeam_eq (s : State) (cl jid : Nat) (cs : List Nat) : s.placeTeam cl jid cs =
    (s.teamStands cl jid cs).startWaves (s.job jid) s.handles (((s.job jid).w + (s.job jid).c - 1) / (s.job jid).c) cs (s.job jid).w := rfl

/-- A team stands in its cluster: its slots are as they were, its job has started one more, and the turn of its rank has moved (R261). -/
theorem State.teamStands_spec {s : State} {jid : Nat} {j : Job} (hj : NMap.get? s.jobs jid = some j) (cl : Nat) (cs : List Nat) :
    (∀ d, ((s.teamStands cl jid cs).core d).freeSlots = (s.core d).freeSlots) ∧
      ((s.teamStands cl jid cs).team s.handles).job = jid ∧ ((s.teamStands cl jid cs).team s.handles).num = j.started ∧
      ((s.teamStands cl jid cs).team s.handles).cores = cs ∧ ((s.teamStands cl jid cs).team s.handles).size = j.w ∧
      ((s.teamStands cl jid cs).job jid).started = j.started + 1 ∧
      NMap.get? (s.teamStands cl jid cs).rr (s.rank j) = some ((j.vi + 1) % 512) := by
  have hjob : s.job jid = j := by unfold State.job NMap.at; rw [hj]; rfl
  have hg : ((s.teamSeated cl jid cs).giveBanks cl j (s.handles + 1) s.handles j.fifo).offPlaces = (s.teamSeated cl jid cs).offPlaces :=
    State.giveBanks_offPlaces _ _ _ _ _ _
  have hst : s.teamStands cl jid cs = ((s.teamSeated cl jid cs).giveBanks cl j (s.handles + 1) s.handles j.fifo).modJob jid
      (fun j => { j with started := j.started + 1 }) := by
    unfold State.teamStands
    rw [hjob]
  generalize (s.teamSeated cl jid cs).giveBanks cl j (s.handles + 1) s.handles j.fifo = t at hg hst
  have hteam : (s.teamStands cl jid cs).team s.handles = s.nextTeam cl jid cs := by
    rw [hst]
    unfold State.team
    rw [State.modJob_teams]
    exact (congrArg (fun v => v.1.team s.handles) hg :).trans ((NMap.at_put _ _ _ _ _).trans (if_pos rfl))
  rw [hteam]
  refine ⟨fun d => ?_, rfl, congrArg Job.started hjob, rfl, congrArg Job.w hjob, ?_, ?_⟩
  · unfold Core.freeSlots
    rw [hst, State.core_modJob, State.slots_of_offPlaces hg]
    rfl
  · have hx : NMap.get? t.jobs jid = some j := (congrArg (fun v => NMap.get? v.1.jobs jid) hg :).trans hj
    rw [hst]
    unfold State.job NMap.at
    rw [State.get?_modJob, if_pos rfl, hx]
    rfl
  · rw [hst, State.modJob_rr]
    refine (congrArg (fun v => NMap.get? v.1.rr (s.rank j)) hg :).trans ?_
    unfold State.offPlaces State.teamSeated State.served
    rw [hjob]
    exact (NMap.get?_put _ _ _ _).trans (if_pos rfl)

theorem State.placeable_of_teamFit {s u : State} {cl jid : Nat} {cs : List Nat} (ht : (s.job jid).task = false) (hcl : cl < 128)
    (h : s.teamFit cl jid = some (u, cs)) : s.placeable jid = true := by
  unfold State.placeable
  rw [ht, if_neg Bool.false_ne_true, List.any_eq_true]
  exact ⟨cl, List.mem_range.2 hcl, by rw [h]; rfl⟩

theorem exec_teamPlacement {s u : State} {cl jid : Nat} {cs : List Nat} (hn : s.nextJob = some jid) (ht : (s.job jid).task = false)
    (hcl : cl < 128) (h : s.teamFit cl jid = some (u, cs)) : exec (.teamPlacement cl) s = .next (u.placeTeam cl jid cs) := by
  show execTeamPlacement cl s = _
  unfold execTeamPlacement
  simp only [hn, ht, State.placeable_of_teamFit ht hcl h, h, Bool.false_eq_true, if_false, if_true]

/-- The waves of a team, each on its core (R33, R46). -/
theorem State.wave?_placeTeam {s : State} {jid : Nat} {j : Job} (hj : NMap.get? s.jobs jid = some j) {cs : List Nat} (hc : 1 ≤ j.c)
    (hw : 1 ≤ j.w) (hlen : cs.length = j.c) (hn : cs.Nodup)
    (hroom : ∀ k, k < cs.length → wavesOnCore j.w j.c k ≤ (s.core (cs.getD k 0)).freeSlots.length) (cl : Nat) {k : Nat} (hk : k < j.w) :
    ∃ slot uid, (s.placeTeam cl jid cs).wave? (cs.getD (k / ((j.w + j.c - 1) / j.c)) 0) slot = some (teamWave j uid s.handles k) := by
  have hjob : s.job jid = j := by unfold State.job NMap.at; rw [hj]; rfl
  obtain ⟨hfree, -⟩ := State.teamStands_spec hj cl cs
  have hd := Nat.div_add_mod (j.w + j.c - 1) j.c
  have hm := Nat.mod_lt (j.w + j.c - 1) hc
  rw [State.placeTeam_eq, hjob]
  refine State.wave?_startWaves (Nat.div_pos (by omega) hc) hn (fun n hn => ?_) (fun i hi => ?_) (Nat.le_refl _) k hk
  · rw [hlen]
    exact Nat.div_lt_of_lt_mul (by rw [Nat.mul_comm]; omega)
  · rw [hfree]
    exact hroom i hi

theorem sreg_teamWave (j : Job) (uid tid idx : Nat) {r : Nat} (h : r < 32) : (teamWave j uid tid idx).sreg r = j.args.getD r 0#32 := by
  unfold teamWave Wave.sreg NMap.at
  rw [NMap.get?_range (fun k => j.args.getD k 0#32), if_pos h]
  rfl

/-! ### A root closure -/

theorem exec_rootClosurePush {s u : State} {core jid : Nat} (hn : s.nextJob = some jid) (ht : (s.job jid).task = true)
    (h : s.rootFit core jid = some u) : exec (.rootClosurePush core) s = .next (u.pushRoot core jid) := by
  show execRootClosurePush core s = _
  unfold execRootClosurePush
  simp only [hn, ht, h, Bool.not_true, Bool.false_eq_true, if_false]

theorem State.rank_congr {s t : State} (h : t.contracts = s.contracts) (j : Job) : t.rank j = s.rank j := by
  unfold State.rank
  rw [h]

theorem State.deque_rooted (s : State) (core jid : Nat) : ((s.rooted core jid).core core).deque = (s.core core).deque := by
  unfold State.rooted
  rw [State.core_modJob]
  exact State.deque_of_offPlaces (s.enterCluster_offPlaces jid (clusterOf core)) core

theorem State.rank_rooted (s : State) (core jid : Nat) (j : Job) : (s.rooted core jid).rank j = s.rank j := by
  refine State.rank_congr ((State.modJob_contracts _ _ _).trans ?_) j
  exact (congrArg (fun v => v.1.contracts) (s.enterCluster_offPlaces jid (clusterOf core)) :)

/-- A closure that is pushed is at the hot end of the deque, and its job is as it was (R75). -/
theorem State.pushEntry_spec {s : State} {e : Entry} (h : (s.job e.job).drained = false) (core : Nat) :
    ((s.pushEntry core e).core core).deque = (s.core core).deque ++ [e] ∧ (∀ k, (s.pushEntry core e).job k = s.job k) ∧
      ∀ j, (s.pushEntry core e).rank j = s.rank j := by
  have hp := State.pushEntry_offCaches h core
  generalize s.pushEntry core e = t at hp
  refine ⟨?_, fun k => (congrArg (fun v => v.1.job k) hp :), fun j => State.rank_congr (congrArg (fun v => v.1.contracts) hp :) j⟩
  have hd : (t.core core).deque = ((s.modCore core (fun k => k.pushHot e)).core core).deque := (congrArg (fun v => (v.2 core).deque) hp :)
  rw [hd, State.core_modCore, if_pos rfl, Core.deque_pushHot]

/-- The root closure is at the hot end of the deque, and the job's root has been pushed (R75, R261). -/
theorem State.pushRoot_spec {s : State} {core jid : Nat} {j : Job} (hj : NMap.get? s.jobs jid = some j) (hid : j.jid = jid)
    (hd : j.drained = false) :
    ((s.pushRoot core jid).core core).deque = (s.core core).deque ++ [s.rootEntry core jid] ∧
      ((s.pushRoot core jid).job jid).rootPushed = true ∧ NMap.get? (s.pushRoot core jid).rr (s.rank j) = some ((j.vi + 1) % 512) := by
  have hjob : s.job jid = j := by unfold State.job NMap.at; rw [hj]; rfl
  have hr := s.job_rooted core jid
  rw [hj, Option.map_some, Option.getD_some] at hr
  have he : (s.rootEntry core jid).job = jid := by unfold State.rootEntry; rw [hjob]; exact hid
  obtain ⟨h1, h2, h3⟩ := State.pushEntry_spec (s := s.rooted core jid) (e := s.rootEntry core jid) (by rw [he, hr]; exact hd) core
  rw [State.pushRoot_eq, hjob]
  generalize (s.rooted core jid).pushEntry core (s.rootEntry core jid) = t at h1 h2 h3
  refine ⟨h1.trans (congrArg (· ++ _) (s.deque_rooted core jid)), ?_, ?_⟩
  · show (t.job jid).rootPushed = true
    rw [h2, hr]
  · unfold State.served
    rw [h3, State.rank_rooted]
    exact (NMap.get?_put _ _ _ _).trans (if_pos rfl)

/-! ### A unit that resumes -/

theorem exec_switchIn {s : State} {u : Saved} {cores : List Nat} (h : NMap.get? s.units u.uid = some u) (hf : s.unitFits u cores = true)
    (hl : u.logs = []) : exec (.switchIn u.uid cores) s = .next (s.switchIn u cores) := by
  have hm : s.unitMiss u cores = none := by unfold State.unitMiss; rw [hl]; rfl
  show execSwitchIn u.uid cores s = _
  unfold execSwitchIn
  rw [h]
  dsimp only
  rw [hf, hm]
  rfl

end Sys2Proof.Machine

namespace Sys2Proof
open Machine

/-- Settles O52, by the room that each core of a team has, the hot end of the deque, and the waves that a switch saves and gives back. -/
theorem unitsMove : Obligations.UnitsMove := by
  unfold Obligations.UnitsMove
  refine ⟨?_, ?_, ?_, ?_⟩
  · intro s u cl jid cs hn ht hcl hfit hex hc hw
    obtain ⟨hu, hlen, hnd, hcs, hroom⟩ := State.teamFit_some hfit
    obtain ⟨j, hj⟩ := Option.ne_none_iff_exists'.1 hex
    have hjob : s.job jid = j := by unfold State.job NMap.at; rw [hj]; rfl
    have hju : NMap.get? u.jobs jid = some j := (congrArg (fun v => NMap.get? v.1.jobs jid) hu :).trans hj
    have hjobu : u.job jid = j := (State.job_of_offPlaces hu jid).trans hjob
    rw [hjob] at hc hw hlen hroom
    obtain ⟨-, h1, h2, h3, h4, h5, h6⟩ := State.teamStands_spec hju cl cs
    have hstart : (u.placeTeam cl jid cs).offStart = (u.teamStands cl jid cs).offStart :=
      foldl_keeps (g := State.offStart) (fun s idx => s.startWave_offStart _ _ _ _) _ _
    have hteam : (u.placeTeam cl jid cs).team u.handles = (u.teamStands cl jid cs).team u.handles :=
      (congrArg (fun v => v.team u.handles) hstart :)
    simp only [hjob]
    refine ⟨_, u.handles, exec_teamPlacement hn (hjob ▸ ht) hcl hfit, hlen, hcs, hteam ▸ h1, hteam ▸ h2, hteam ▸ h3, hteam ▸ h4,
      (congrArg (fun v => (v.job jid).started) hstart :).trans h5, ?_, fun k hk => ?_⟩
    · rw [← State.rank_of_offPlaces hu]
      exact (congrArg (fun v => NMap.get? v.rr (u.rank j)) hstart :).trans h6
    · obtain ⟨slot, uid, h⟩ := State.wave?_placeTeam hju hc hw hlen hnd hroom cl hk
      exact ⟨slot, _, h, rfl, rfl, rfl, fun r hr => sreg_teamWave j uid _ k hr, rfl, rfl⟩
  · intro s u core jid hn ht hfit hex hid hd
    have hu := State.rootFit_offPlaces hfit
    obtain ⟨j, hj⟩ := Option.ne_none_iff_exists'.1 hex
    have hjob : s.job jid = j := by unfold State.job NMap.at; rw [hj]; rfl
    have hju : NMap.get? u.jobs jid = some j := (congrArg (fun v => NMap.get? v.1.jobs jid) hu :).trans hj
    have hjobu : u.job jid = j := (State.job_of_offPlaces hu jid).trans hjob
    rw [hjob] at hid hd
    obtain ⟨h1, h2, h3⟩ := State.pushRoot_spec (core := core) hju hid hd
    have he : u.rootEntry core jid = newEntry (u.enterCluster jid (clusterOf core)).2.handles j (migratable j j.args) := by
      unfold State.rootEntry
      rw [hjobu]
    simp only [hjob]
    refine ⟨_, u.rootEntry core jid, exec_rootClosurePush hn ht hfit, h1.trans (congrArg (· ++ _) (State.deque_of_offPlaces hu core)), ?_, ?_, ?_,
      fun k hk => ?_, ?_, h2, ?_⟩
    · rw [he]; exact hid
    · rw [he]; rfl
    · rw [he]
      refine (getD_migratable j j.args 0).trans ?_
      simp only [and_true]
    · rw [he]
      exact (getD_migratable j j.args k).trans (if_neg (fun h => by omega))
    · rw [he]; rfl
    · rw [← State.rank_of_offPlaces hu]
      exact h3
  · intro s core slot w m hw hm ht hs hmay hon hlog
    have hoff := s.requestSwitches_offTeams
    have hwave (c k : Nat) : s.requestSwitches.wave? c k = s.wave? c k := (congrArg (fun t => t.wave? c k) hoff :)
    have hrel : (m.cores.foldl (fun s c => s.release c 4) s.requestSwitches).offCaches = s.requestSwitches.offCaches :=
      foldl_keeps (g := State.offCaches) (fun s c => s.release_offCaches c 4) _ _
    have hout : s.requestSwitches.switchOut m = (m.cores.foldl (fun s c => s.release c 4) s.requestSwitches).departs m :=
      State.switchOut_eq (fun e he => (hmay e (by
        rw [ht, show s.requestSwitches.teamWaves w.tid = s.teamWaves w.tid from (congrArg (fun t => t.teamWaves w.tid) hoff :)] at he
        exact he)).2)
    generalize m.cores.foldl (fun s c => s.release c 4) s.requestSwitches = v at hrel hout
    have hv (c k : Nat) : v.wave? c k = s.wave? c k := (State.wave?_of_offCaches hrel c k).trans (hwave c k)
    have hvlog : ∀ c, c ∈ m.cores → (v.core c).sideLog = [] := fun c hc =>
      ((congrArg (fun x => (x.2 c).sideLog) hrel :).trans (congrArg (fun t => (t.core c).sideLog) hoff :)).trans (hlog c hc)
    obtain ⟨uid, u, h1, h2, h3, h4, h5, h6, h7⟩ := State.departs_spec hvlog (fun c k x hx hxt => hon c k x ((hv c k).symm.trans hx) (hxt.trans ht))
    rw [ht] at h2 h5 h6 h7
    refine ⟨_, uid, u, (exec_switchOut hw hm ht hs (fun e he => (hmay e he).1)).trans (congrArg _ hout), h1, h2, h3, h4, h5,
      fun c k x hx hxt => ?_, fun c k x hx hxt => ?_⟩
    · obtain ⟨y, hy, hyc, hyk, hyw⟩ := h6 c k x ((hv c k).trans hx) hxt
      obtain ⟨g1, g2, g3, g4, g5⟩ := x.saved_regs
      rw [← hyw] at g1 g2 g3 g4 g5
      exact ⟨y, hy, hyc, hyk, g1, g2, g3, g4, g5⟩
    · obtain ⟨y, hy, e⟩ := h7 c k x ((hv c k).trans hx) hxt
      exact ⟨y, hy, (congrArg Wave.s e :), (congrArg Wave.v e :), (congrArg Wave.p e :), (congrArg Wave.controls e :)⟩
  · intro s c old slot sl u x hunit hu _ hx hfits hf hl hwt hi he hn
    obtain ⟨hnone, w, hw, e⟩ := State.switchIn_runs hu hx hf hl hwt hi he hn
    exact ⟨_, w, exec_switchIn hunit hfits hl, hnone, hw, (congrArg Wave.uid e :), (congrArg Wave.s e :), (congrArg Wave.v e :),
      (congrArg Wave.p e :), (congrArg Wave.stack e :), (congrArg Wave.groups e :), (congrArg Wave.controls e :)⟩

end Sys2Proof
end
section
/-! ## Routes through the network

A turn list leads from any leaf of a stack to any endpoint of it, whichever up ports it takes, and two bridges join two stacks (R186 to
R188). -/
set_option Elab.async false

open Sys2Proof Sys2Proof.Machine

namespace Sys2Proof.Machine

theorem leastQueued_mem (flits : Nat → Nat) (ps : List Nat) (h : ps ≠ []) : ∃ q, leastQueued flits ps = some q ∧ q ∈ ps := by
  induction ps with
  | nil => exact absurd rfl h
  | cons p ps ih =>
    unfold leastQueued
    cases hl : leastQueued flits ps with
    | none => exact ⟨p, rfl, List.mem_cons_self⟩
    | some q =>
      have hq : q ∈ ps := by
        cases ps with
        | nil => cases hl
        | cons a as =>
          obtain ⟨x, hx, hm⟩ := ih (by simp)
          rw [hl] at hx
          exact Option.some.inj hx ▸ hm
      show ∃ x, (if flits q < flits p then some q else some p) = some x ∧ x ∈ p :: ps
      split
      · exact ⟨q, rfl, List.mem_cons_of_mem _ hq⟩
      · exact ⟨p, rfl, List.mem_cons_self⟩

theorem Router.turn_of_ne {t : Nat} (h : t ≠ 15) (r : Router) (flits : Router → Nat → Nat) : r.turn flits t = some t := if_neg h

/-- A turn up from a leaf, to whichever middle router of its pod (R187). -/
theorem Router.turn_leaf {t : Nat} (h : t = 15 ∨ 8 ≤ t ∧ t ≤ 11) (flits : Router → Nat → Nat) (l : Nat) :
    ∃ p m, (Router.leaf l).turn flits t = some p ∧ (Router.leaf l).port p = some (.to_ (.middle (l / 4) m)) := by
  have up {p : Nat} (hp : 8 ≤ p ∧ p ≤ 11) : (Router.leaf l).port p = some (.to_ (.middle (l / 4) (p - 8))) := by
    unfold Router.port
    simp only
    rw [if_neg (by omega), if_neg (by omega), if_neg (by omega), if_pos hp]
  by_cases ht : t = 15
  · obtain ⟨q, hq, hm⟩ := leastQueued_mem (flits (.leaf l)) [8, 9, 10, 11] (by simp)
    refine ⟨q, q - 8, (if_pos ht).trans hq, up ?_⟩
    simp only [List.mem_cons, List.not_mem_nil, or_false] at hm
    omega
  · exact ⟨t, t - 8, Router.turn_of_ne ht _ _, up (h.resolve_left ht)⟩

/-- A turn up from a middle router, to whichever spine router of its plane (R187). -/
theorem Router.turn_middle {t : Nat} (h : t = 15 ∨ 4 ≤ t ∧ t ≤ 7) (flits : Router → Nat → Nat) (pod m : Nat) :
    ∃ p k, (Router.middle pod m).turn flits t = some p ∧ (Router.middle pod m).port p = some (.to_ (.spine m k)) := by
  have up {p : Nat} (hp : 4 ≤ p ∧ p ≤ 7) : (Router.middle pod m).port p = some (.to_ (.spine m (p - 4))) := by
    unfold Router.port
    simp only
    rw [if_neg (by omega), if_pos (by omega)]
  by_cases ht : t = 15
  · obtain ⟨q, hq, hm⟩ := leastQueued_mem (flits (.middle pod m)) [4, 5, 6, 7] (by simp)
    refine ⟨q, q - 4, (if_pos ht).trans hq, up ?_⟩
    simp only [List.mem_cons, List.not_mem_nil, or_false] at hm
    omega
  · exact ⟨t, t - 4, Router.turn_of_ne ht _ _, up (h.resolve_left ht)⟩

section
variable {flits : Router → Nat → Nat} {fuel : Nat} {r next : Router} {t p : Nat} {ts : List Nat}

/-- A turn that leads to a router: the walk goes on there with the rest of the list. -/
theorem Router.walk_to (ht : t < 16) (hp : r.turn flits t = some p) (hn : r.port p = some (.to_ next)) :
    (Router.walk flits (fuel + 1) r (turnWord (t :: ts))).2 = (Router.walk flits fuel next (turnWord ts)).2 := by
  have h1 : turnWord (t :: ts) % 16 = t := by unfold turnWord; omega
  have h2 : turnWord (t :: ts) / 16 = turnWord ts := by rw [turnWord]; omega
  rw [Router.walk, h1, h2, hp, Option.bind_some, hn]

/-- A turn that leads to an endpoint ends the walk. -/
theorem Router.walk_end {e : Endpoint} (ht : t < 15) (hn : r.port t = some (.end_ e)) :
    (Router.walk flits (fuel + 1) r (turnWord [t])).2 = some e := by
  have h1 : turnWord [t] % 16 = t := by unfold turnWord; simp only [turnWord]; omega
  rw [Router.walk, h1, Router.turn_of_ne (by omega), Option.bind_some, hn]

end

/-- The endpoints of a stack (R186). -/
def Endpoint.exists_ : Endpoint → Prop
  | .cluster c => c < 16
  | .slice n => n < 64
  | .bridge b => b < 4

/-- An endpoint stands at its port of its leaf (R186). -/
theorem Endpoint.port_place {e : Endpoint} (h : e.exists_) :
    e.place.1 < 16 ∧ e.place.2 < 15 ∧ (Router.leaf e.place.1).port e.place.2 = some (.end_ e) := by
  cases e with
  | cluster c => exact ⟨h, by show 0 < 15; omega, rfl⟩
  | slice n =>
    have h : n < 64 := h
    refine ⟨by show n / 4 < 16; omega, by show 1 + n % 4 < 15; omega, ?_⟩
    show (Router.leaf (n / 4)).port (1 + n % 4) = _
    unfold Router.port
    simp only
    rw [if_neg (by omega), if_pos (by omega), show 4 * (n / 4) + (1 + n % 4) - 1 = n by omega]
  | bridge b =>
    have h : b < 4 := h
    refine ⟨by show 4 * b < 16; omega, by show 5 < 15; omega, ?_⟩
    show (Router.leaf (4 * b)).port 5 = _
    unfold Router.port
    simp only
    rw [if_neg (by omega), if_neg (by omega), if_pos (by simp), show 4 * b / 4 = b by omega]

/-- The route from a leaf to an endpoint whose turns up are `a` and `b` (R187). -/
def route (a b srcLeaf : Nat) (e : Endpoint) : List Nat :=
  if srcLeaf = e.place.1 then [e.place.2]
  else if srcLeaf / 4 = e.place.1 / 4 then [a, e.place.1 % 4, e.place.2]
  else [a, b, e.place.1 / 4, e.place.1 % 4, e.place.2]

theorem turnList_eq (srcLeaf : Nat) (e : Endpoint) : turnList srcLeaf e = route 15 15 srcLeaf e := rfl

theorem messageTurns_eq (src dst srcLeaf : Nat) (e : Endpoint) :
    messageTurns src dst srcLeaf e = route (8 + dst % 4) (4 + src % 4) srcLeaf e := rfl

/-- A route leads where it should, whichever up ports it takes. -/
theorem leads_route {a b srcLeaf : Nat} {e : Endpoint} (ha : a = 15 ∨ 8 ≤ a ∧ a ≤ 11) (hb : b = 15 ∨ 4 ≤ b ∧ b ≤ 7) (he : e.exists_)
    (flits : Router → Nat → Nat) : leads flits srcLeaf (route a b srcLeaf e) = some e := by
  obtain ⟨hleaf, hport, hend⟩ := Endpoint.port_place he
  generalize hx : e.place = x at hleaf hport hend
  obtain ⟨leaf, port⟩ := x
  have down (pod m : Nat) (hp : pod = leaf / 4) : (Router.middle pod m).port (leaf % 4) = some (.to_ (.leaf leaf)) := by
    unfold Router.port
    simp only
    rw [if_pos (by omega), show 4 * pod + leaf % 4 = leaf by omega]
  obtain ⟨p, m, hp, hpm⟩ := Router.turn_leaf ha flits srcLeaf
  unfold leads route
  rw [hx]
  simp only
  split
  next h => rw [h]; exact Router.walk_end hport hend
  next =>
    split
    next h =>
      rw [Router.walk_to (by omega) hp hpm, Router.walk_to (by omega) (Router.turn_of_ne (by omega) _ _) (down _ m h)]
      exact Router.walk_end hport hend
    next =>
      obtain ⟨q, k, hq, hqk⟩ := Router.turn_middle hb flits (srcLeaf / 4) m
      have hspine : (Router.spine m k).port (leaf / 4) = some (.to_ (.middle (leaf / 4) m)) := if_pos (by omega)
      rw [Router.walk_to (by omega) hp hpm, Router.walk_to (by omega) hq hqk,
        Router.walk_to (by omega) (Router.turn_of_ne (by omega) _ _) hspine,
        Router.walk_to (by omega) (Router.turn_of_ne (by omega) _ _) (down _ m rfl)]
      exact Router.walk_end hport hend

/-- Two bridges join two stacks (R188). -/
theorem arrives_route {a b : Nat} {turns : Nat → Endpoint → List Nat} (ht : ∀ l e, turns l e = route a b l e)
    (ha : a = 15 ∨ 8 ≤ a ∧ a ≤ 11) (hb : b = 15 ∨ 4 ≤ b ∧ b ≤ 7) (flits : Router → Nat → Nat) (src dst srcLeaf : Nat) {e : Endpoint}
    (he : e.exists_) : arrives flits turns src dst srcLeaf e = some e := by
  unfold arrives bridges
  simp only [ht]
  split
  · exact leads_route ha hb he flits
  · rw [leads_route ha hb (e := .bridge (dst % 4)) (by show dst % 4 < 4; omega) flits]
    exact leads_route ha hb he flits

theorem messageArrives_true {src dst : Nat} : messageArrives src dst = true := by
  unfold messageArrives
  rw [arrives_route (messageTurns_eq src dst) (.inr (by omega)) (.inr (by omega)) _ _ _ _ (e := .cluster (clusterOf dst % 16))
    (by show clusterOf dst % 16 < 16; omega)]
  exact beq_self_eq_true _

theorem xor_lt_64 {a b c : Nat} (ha : a < 64) (hb : b < 64) (hc : c < 64) : a ^^^ b ^^^ c < 64 :=
  Nat.xor_lt_two_pow (n := 6) (Nat.xor_lt_two_pow (n := 6) ha hb) hc

/-- Every line is reached at the slice of its home (R163). -/
theorem State.homeArrival_eq (s : State) (flits : Router → Nat → Nat) (core la : Nat) :
    s.homeArrival flits core la = some (.slice (homeSlice s.groups (128 * la)).2.1) := by
  unfold State.homeArrival
  refine arrives_route turnList_eq (.inl rfl) (.inl rfl) flits _ _ _ ?_
  exact xor_lt_64 (Nat.mod_lt _ (by decide)) (Nat.mod_lt _ (by decide)) (Nat.mod_lt _ (by decide))

end Sys2Proof.Machine
end
section
/-! ## Results, messages and evictions

What the results of a producer leave of its wave (R50, R195), where messages go (R184), and what a core sees once a line has left its L1
(R171, R191). -/
set_option Elab.async false

open Sys2Proof Sys2Proof.Machine

namespace Sys2Proof.Machine

/-! ### Results that arrive -/

/-- No arm of a wave sees a destination of a producer as empty. -/
def Wave.clearOf (w : Wave) (id : Nat) : Prop := ∀ k a, NMap.get? w.arms k = some a → ∀ e, e ∈ a.empty → e.2 ≠ id

/-- A wave has its registers, and sees nothing of a producer as empty; its arms may have gone on. -/
def State.received (s : State) (core slot : Nat) (w : Wave) (id : Nat) : Prop :=
  ∃ u, s.wave? core slot = some u ∧ u.offLive = w.offLive ∧ u.clearOf id

theorem Arm.empty_advance (a : Arm) : a.advance.empty = a.empty := by
  unfold Arm.advance
  split
  · rfl
  · split
    · rfl
    · split <;> rfl

theorem Arm.empty_facing (p : Hold → Bool) (a : Arm) : (a.facing p).empty = a.empty := by
  unfold Arm.facing Arm.swap
  split
  · split <;> rfl
  · rfl

theorem Wave.modArm_offLive (w : Wave) (n : Nat) (f : Arm → Arm) : (w.modArm n f).offLive = w.offLive := by
  unfold Wave.modArm
  split <;> rfl

section
variable {core slot id : Nat} {w : Wave}

theorem State.received.modArm {s : State} (h : s.received core slot w id) (n : Nat) {f : Arm → Arm} (hf : ∀ a, (f a).empty = a.empty) :
    (s.modArm ⟨core, slot, n⟩ f).received core slot w id := by
  obtain ⟨u, hu, ho, hc⟩ := h
  refine ⟨u.modArm n f, State.wave?_modWave_self hu _, (u.modArm_offLive n f).trans ho, fun k a ha => ?_⟩
  rw [Wave.get?_modArm] at ha
  split at ha
  next hk =>
    obtain ⟨b, hb, rfl⟩ := Option.map_eq_some_iff.1 ha
    rw [hf]
    exact hc n b hb
  next => exact hc k a ha

theorem State.received.acquireAfter {s : State} (h : s.received core slot w id) (n scope below : Nat) (d : Option Nat) :
    (s.acquireAfter ⟨core, slot, n⟩ scope below d).received core slot w id := by
  unfold State.acquireAfter
  split
  · exact h
  · split
    · exact h.modArm n (fun _ => rfl)
    · refine State.received.modArm ?_ n Arm.empty_advance
      obtain ⟨u, hu, ho⟩ := h
      exact ⟨u, (State.wave?_of_offCaches (s.acquire_offCaches core scope) core slot).trans hu, ho⟩

/-- Acquires that go on change arms only (R195). -/
theorem State.received.resumeAcquires {s : State} (h : s.received core slot w id) : (s.resumeAcquires core slot).received core slot w id := by
  unfold State.resumeAcquires
  split
  · exact h
  next v hv =>
    clear hv
    generalize v.arms = l
    induction l generalizing s with
    | nil => exact h
    | cons e l ih =>
      refine ih ?_
      dsimp only
      split
      · exact (h.modArm e.1 (Arm.empty_facing _)).acquireAfter _ _ _ _
      · exact h

end

/-- An arm that waits for the loads before its acquire goes on once they have returned (R195). -/
theorem State.resumeAcquires_single {s : State} {core slot k sc below : Nat} {d : Option Nat} {w : Wave} {a : Arm}
    (hw : s.wave? core slot = some w) (ha : w.arms = [(k, a)]) (hh : a.hold = .acquire sc below d) (hl : w.loadsBelow below = false) :
    (s.resumeAcquires core slot).wave? core slot = some { w with arms := [(k, a.advance)] } := by
  have hf : a.facing Hold.isAcquire = a := by
    unfold Arm.facing
    rw [hh]
    rfl
  have hmod (f : Arm → Arm) : w.modArm k f = { w with arms := [(k, f a)] } := by
    unfold Wave.modArm
    rw [ha]
    simp [NMap.get?, NMap.put]
  have hw1 : (s.modArm ⟨core, slot, k⟩ (Arm.facing Hold.isAcquire)).wave? core slot = some w := by
    refine (State.wave?_modWave_self hw _).trans ?_
    rw [hmod, hf, ← ha]
  unfold State.resumeAcquires
  rw [hw]
  dsimp only
  rw [ha]
  simp only [List.foldl_cons, List.foldl_nil, hf, hh]
  unfold State.acquireAfter
  simp only [hw1, hl, Bool.false_eq_true, if_false]
  refine (State.wave?_modWave_self ((State.wave?_of_offCaches (State.acquire_offCaches _ _ _) _ _).trans hw1) _).trans ?_
  rw [hmod]

/-- The results of a producer that go to no stream port (R50). -/
def Pending.result (p : Pending) : Result := { vdst := p.vdst, sdst := p.sdst, pdst := p.pdst, flags := p.flags }

theorem Wave.receive_eq {p : Pending} (h : p.push = []) (w : Wave) : w.receive p =
    { (w.write p.lanes p.result).unmark p.id with inflight := w.inflight.filter (fun q => q.id != p.id) } := by
  have hi : (w.write p.lanes p.result).inflight = w.inflight := (congrArg Wave.inflight (w.write_offRegs p.lanes p.result) :)
  unfold Wave.receive
  rw [h]
  simp only [List.any_nil, Bool.not_false, List.filter_true]
  show ({ (w.write p.lanes p.result).unmark p.id with
    inflight := (w.write p.lanes p.result).inflight.filter (fun q => q.id != p.id) } : Wave) = _
  rw [hi]

theorem mem_unmark {id : Nat} {l : List (Nat × Nat)} {e : Nat × Nat} : e ∈ unmark id l ↔ e ∈ l ∧ e.2 ≠ id := by
  unfold unmark
  rw [List.mem_filter, bne_iff_ne]

/-- An arm that sees nothing of a producer as empty. -/
def Arm.unmarked (id : Nat) (a : Arm) : Arm := { a with empty := Machine.unmark id a.empty }

theorem Wave.arms_receive {p : Pending} (h : p.push = []) (w : Wave) :
    (w.receive p).arms = w.arms.map (fun (e : Nat × Arm) => (e.1, e.2.unmarked p.id)) := by
  have ha : (w.write p.lanes p.result).arms = w.arms := (congrArg Wave.arms (w.write_offRegs p.lanes p.result) :)
  rw [Wave.receive_eq h, ← ha]
  rfl

theorem Wave.clearOf_receive {p : Pending} (h : p.push = []) (w : Wave) : (w.receive p).clearOf p.id := by
  intro k a ha e he
  rw [Wave.arms_receive h, NMap.get?_map (Arm.unmarked p.id)] at ha
  obtain ⟨b, -, rfl⟩ := Option.map_eq_some_iff.1 ha
  exact (mem_unmark.1 he).2

theorem exec_resultArrival {s : State} {core slot id : Nat} {w : Wave} {p : Pending} (hw : s.wave? core slot = some w)
    (hp : w.inflight.find? (fun q => q.id == id && q.left == 0) = some p) (h : p.push = []) :
    exec (.resultArrival core slot id) s = .next ((s.modWave core slot (fun w => w.receive p)).resumeAcquires core slot) := by
  have hf : s.fillPushes w p = s := by unfold State.fillPushes; rw [h]; rfl
  show execResultArrival core slot id s = _
  unfold execResultArrival
  rw [hw]
  dsimp only
  rw [hp]
  dsimp only
  rw [hf]

/-! ### Messages -/

/-- A core whose port's owner is the wave of a number has DROP set (R185). -/
def Core.dropped (uid : Nat) (k : Core) : Core :=
  if k.port.any (fun p => k.slots.any (fun w => w.1 == p && w.2.uid == uid)) then { k with pDrop := true } else k

theorem State.core_dropMark (s : State) (uid c : Nat) : (s.dropMark uid).core c = (s.core c).dropped uid := by
  have h : (s.dropMark uid).core c = ((NMap.get? s.cores c).map (Core.dropped uid)).getD {} :=
    congrArg (fun o : Option Core => o.getD {}) (NMap.get?_map (Core.dropped uid) s.cores c)
  rw [h]
  unfold State.core NMap.at
  cases NMap.get? s.cores c with
  | none => rfl
  | some k => rfl

theorem State.core_leaveTx (s : State) (m : Msg) (c : Nat) :
    (s.leaveTx m).core c = if c = m.src then { s.core m.src with txq := (s.core m.src).txq.erase m } else s.core c :=
  State.core_modCore _ _ _ _

theorem exec_messageArrival {s : State} {src dst : Nat} {m : Msg} (h : (s.core src).txq.find? (fun m => m.dst == dst) = some m) :
    exec (.messageArrival src dst) s = .next (
      if s.takesMessages dst m.job = false then (s.leaveTx m).dropMark m.suid
      else if 256 ≤ (s.core dst).rxq.length then s
      else (s.leaveTx m).modCore dst (fun k => { k with rxq := k.rxq ++ [m] })) := by
  show execMessageArrival src dst s = _
  unfold execMessageArrival
  rw [h]
  dsimp only
  rw [messageArrives_true]
  cases s.takesMessages dst m.job <;> rfl

/-! ### A line that leaves an L1 -/

/-- The dirty bytes of a line whose bytes stand in order, as they arrive at another. -/
theorem CLine.get?_dirty {l : CLine} (h : NMap.sorted l.bytes = true) (o : Nat) :
    NMap.get? (l.dirty.foldl (fun m e => NMap.put m e.1 ⟨e.2, true⟩) ([] : NMap CByte)) o =
      (NMap.get? l.bytes o).filter (fun b => b.dirty) := by
  have all (b : NMap CByte) (hb : NMap.sorted b = true) (m : NMap CByte) :
      NMap.get? ((b.filterMap (fun e => if e.2.dirty then some (e.1, e.2.val) else none)).foldl (fun m e => NMap.put m e.1 ⟨e.2, true⟩) m) o =
        ((NMap.get? b o).filter (fun b => b.dirty)).or (NMap.get? m o) := by
    induction b generalizing m with
    | nil => rfl
    | cons e b ih =>
      obtain ⟨hlt, hb'⟩ := (NMap.sorted_cons e b).1 hb
      by_cases hd : e.2.dirty = true
      · rw [List.filterMap_cons]
        simp only [hd, if_true, List.foldl_cons]
        rw [ih hb']
        by_cases ho : e.1 = o
        · have hn : NMap.get? b o = none := NMap.get?_eq_none_of_lt b o (fun f hf => ho ▸ hlt f hf)
          have he : NMap.get? (e :: b) o = some e.2 := if_pos ho
          rw [hn, he, NMap.get?_put, if_pos ho.symm, Option.filter_some, if_pos hd]
          show some _ = some e.2
          rw [← hd]
        · have he : NMap.get? (e :: b) o = NMap.get? b o := if_neg ho
          rw [he, NMap.get?_put, if_neg (Ne.symm ho)]
      · rw [List.filterMap_cons]
        simp only [hd, Bool.false_eq_true, if_false]
        rw [ih hb']
        by_cases ho : e.1 = o
        · have hn : NMap.get? b o = none := NMap.get?_eq_none_of_lt b o (fun f hf => ho ▸ hlt f hf)
          have he : NMap.get? (e :: b) o = some e.2 := if_pos ho
          rw [hn, he, Option.filter_some, if_neg hd]
          rfl
        · have he : NMap.get? (e :: b) o = NMap.get? b o := if_neg ho
          rw [he]
  exact (all l.bytes h []).trans (Option.or_none)

/-- Where the set of a line has room, a bank of the cluster cache takes it, and no line leaves (R167). -/
theorem State.ccWay_of_room {s : State} {cl la : Nat} (h : (s.ccSet cl la).length < s.cacheBanks cl) : (s.ccWay cl la).1 = s := by
  have hfind : ∃ b, (List.range Config.bankCount).find? (fun b =>
      (NMap.get? (s.cluster cl).banks b).isNone && !(s.ccSet cl la).any (fun e => e.2.way == b)) = some b := by
    rw [← Option.isSome_iff_exists, List.find?_isSome]
    by_contra hnone
    have hall : ∀ b, b ∈ List.range Config.bankCount →
        b ∈ (s.cluster cl).banks.map Prod.fst ++ (s.ccSet cl la).map (fun e => e.2.way) := by
      intro b hb
      by_contra hm
      rw [List.mem_append, not_or] at hm
      refine hnone ⟨b, hb, ?_⟩
      rw [NMap.get?_eq_none_of_notMem hm.1]
      simp only [Option.isNone_none, Bool.true_and, Bool.not_eq_true', List.any_eq_false, beq_iff_eq]
      exact fun e he hx => hm.2 (List.mem_map.2 ⟨e, he, hx⟩)
    have hlen := (List.nodup_range.subperm hall).length_le
    rw [List.length_range, List.length_append, List.length_map, List.length_map] at hlen
    unfold State.cacheBanks at h
    omega
  obtain ⟨b, hb⟩ := hfind
  unfold State.ccWay
  extract_lets set
  rw [show (List.range Config.bankCount).find? (fun b =>
    (NMap.get? (s.cluster cl).banks b).isNone && !set.any (fun e => e.2.way == b)) = some b from hb]

theorem CLine.fresh_none {l : CLine} {o : Nat} (h : NMap.get? l.bytes o = none) : l.fresh o = none := by
  unfold CLine.fresh
  rw [h]

theorem CLine.fresh_dirty {l : CLine} {o : Nat} {b : CByte} (h : NMap.get? l.bytes o = some b) (hd : b.dirty = true) :
    l.fresh o = some b.val := by
  unfold CLine.fresh
  rw [h]
  simp only [hd, Bool.true_or, if_true]

end Sys2Proof.Machine
end
section
/-! ## Steps of a core: results, retries, routes, messages, windows and evictions -/
set_option Elab.async false

open Sys2Proof Sys2Proof.Machine

namespace Sys2Proof.Machine

/-- The byte of a line that stands for its sector, where the line is of an address space. -/
def ownByte (pasid o : Nat) (l : Option CLine) : Option Byte := l.bind (fun l => if l.pasid = pasid then l.fresh o else none)

theorem seen_eq (s : State) (core pasid a : Nat) : Claims.seen s core pasid a =
    (ownByte pasid (a % 128) (NMap.get? (s.core core).l1 (a / 128))).getD (if s.cacheBanks (clusterOf core) = 0 then s.mem.read a
      else (ownByte pasid (a % 128) (NMap.get? (s.cluster (clusterOf core)).cc (a / 128))).getD (s.mem.read a)) := by
  unfold Claims.seen
  extract_lets own
  show (match ownByte pasid (a % 128) (NMap.get? (s.core core).l1 (a / 128)) with
    | some b => b
    | none => if s.cacheBanks (clusterOf core) = 0 then s.mem.read a
      else match ownByte pasid (a % 128) (NMap.get? (s.cluster (clusterOf core)).cc (a / 128)) with
        | some b => b
        | none => s.mem.read a) = _
  cases ownByte pasid (a % 128) (NMap.get? (s.core core).l1 (a / 128)) with
  | some b => rfl
  | none => cases ownByte pasid (a % 128) (NMap.get? (s.cluster (clusterOf core)).cc (a / 128)) <;> rfl

/-- Dirty bytes of a line that leaves an L1 go into a line of the cluster cache, which is new and takes no other's place (R171). -/
theorem State.lineOut_of_room {s : State} {cl la : Nat} {l : CLine} (_hb : s.cacheBanks cl ≠ 0) (hn : NMap.get? (s.cluster cl).cc la = none)
    (hr : (s.ccSet cl la).length < s.cacheBanks cl) : ∃ k : CLine, s.lineOut cl la l false = s.setCC cl la k ∧ k.pasid = l.pasid ∧
      k.bytes = l.dirty.foldl (fun m e => NMap.put m e.1 ⟨e.2, true⟩) [] := by
  have hcc : s.hasCC cl = true := by unfold State.hasCC; simp; omega
  have hline : s.ccLine cl l.pasid la = (s, { pasid := l.pasid, way := (s.ccWay cl la).2 }) := by
    unfold State.ccLine
    rw [hn]
    exact Prod.ext (State.ccWay_of_room hr) rfl
  unfold State.lineOut
  rw [hcc, hline]
  exact ⟨_, rfl, rfl, rfl⟩

theorem State.cluster_setCC (s : State) (cl la : Nat) (k : CLine) : (s.setCC cl la k).cluster cl =
    { s.cluster cl with cc := if k.bytes.isEmpty then NMap.del (s.cluster cl).cc la else NMap.put (s.cluster cl).cc la k } :=
  (State.cluster_modCluster _ _ _ _).trans (if_pos rfl)

/-- What a cluster cache holds of a line once it has been changed: a line without bytes shows nothing. -/
theorem State.ownByte_setCC (s : State) (cl la : Nat) (k : CLine) (x pasid o : Nat) :
    ownByte pasid o (NMap.get? ((s.setCC cl la k).cluster cl).cc x) =
      if x = la then ownByte pasid o (some k) else ownByte pasid o (NMap.get? (s.cluster cl).cc x) := by
  rw [State.cluster_setCC]
  by_cases hk : k.bytes.isEmpty = true
  · rw [show NMap.get? _ x = NMap.get? (NMap.del (s.cluster cl).cc la) x from congrArg (fun m => NMap.get? m x) (if_pos hk), NMap.get?_del]
    split
    · have hf : k.fresh o = none := CLine.fresh_none (by rw [List.isEmpty_iff.1 hk]; rfl)
      unfold ownByte
      rw [Option.bind_none, Option.bind_some, hf, ite_self]
    · rfl
  · rw [show NMap.get? _ x = NMap.get? (NMap.put (s.cluster cl).cc la k) x from congrArg (fun m => NMap.get? m x) (if_neg hk), NMap.get?_put]
    split <;> rfl

theorem State.ccSet_of_room {s : State} {core line : Nat} (hb : s.cacheBanks (clusterOf core) ≠ 0) (h : Claims.Room s core [line])
    (hn : NMap.get? (s.cluster (clusterOf core)).cc line = none) : (s.ccSet (clusterOf core) line).length < s.cacheBanks (clusterOf core) := by
  have ha : Claims.absent (s.cluster (clusterOf core)).cc [line] = [line] := by
    unfold Claims.absent
    rw [List.dedup_eq_self.2 (List.nodup_singleton line)]
    simp [hn]
  have := h.cc line hb (by rw [ha]; exact List.mem_singleton_self _)
  rw [ha] at this
  simp at this
  omega

/-- The byte that a line gives at an offset, where its clean bytes are those at home. -/
theorem getD_ownByte {pasid o : Nat} {l : CLine} {home : Byte} (hp : l.pasid = pasid)
    (hc : ∀ b, NMap.get? l.bytes o = some b → b.dirty = false → home = b.val) :
    (ownByte pasid o (some l)).getD home = (((NMap.get? l.bytes o).filter (fun b => b.dirty)).map CByte.val).getD home := by
  unfold ownByte CLine.fresh
  rw [Option.bind_some, if_pos hp]
  cases hb : NMap.get? l.bytes o with
  | none => rfl
  | some b =>
    cases hd : b.dirty with
    | true => simp [hd, Option.filter_some]
    | false =>
      rw [hc b hb hd, Option.filter_some]
      cases l.hasSector (o / 32) <;> simp [hd]

/-- What a core sees does not change when a line leaves its L1 (R171, R191). -/
theorem seen_evictL1 {s : State} {core line pasid : Nat} (halone : Claims.Alone s core pasid) (hb : s.cacheBanks (clusterOf core) ≠ 0)
    (hn : NMap.get? (s.cluster (clusterOf core)).cc line = none) (hroom : Claims.Room s core [line])
    (hsorted : ∀ l, NMap.get? (s.core core).l1 line = some l → NMap.sorted l.bytes = true)
    (hclean : ∀ l k b, NMap.get? (s.core core).l1 line = some l → NMap.get? l.bytes k = some b → b.dirty = false →
      s.mem.read (128 * line + k) = b.val) (x : Nat) : Claims.seen (s.evictL1 core line) core pasid x = Claims.seen s core pasid x := by
  cases hl : NMap.get? (s.core core).l1 line with
  | none =>
    have h : s.evictL1 core line = s := by unfold State.evictL1; rw [hl]
    rw [h]
  | some l =>
    have hev : s.evictL1 core line = (if l.dirty.isEmpty then s else s.lineOut (clusterOf core) line l false).modCore core
        (fun k => { k with l1 := NMap.del k.l1 line }) := by
      unfold State.evictL1
      rw [hl]
    have hp := halone.l1 line l hl
    have hdirty := CLine.get?_dirty (hsorted l hl)
    -- the state before the line is gone from the L1: its dirty bytes stand in the cluster cache
    have hout : ∃ t : State, s.evictL1 core line = t.modCore core (fun k => { k with l1 := NMap.del k.l1 line }) ∧
        (t.core core).l1 = (s.core core).l1 ∧ t.mem = s.mem ∧ t.cacheBanks (clusterOf core) = s.cacheBanks (clusterOf core) ∧
        ∀ y, ownByte pasid (x % 128) (NMap.get? (t.cluster (clusterOf core)).cc y) = if y = line then
          ((NMap.get? l.bytes (x % 128)).filter (fun b => b.dirty)).map CByte.val
          else ownByte pasid (x % 128) (NMap.get? (s.cluster (clusterOf core)).cc y) := by
      by_cases hd : l.dirty.isEmpty = true
      · refine ⟨s, hev.trans (by rw [if_pos hd]), rfl, rfl, rfl, fun y => ?_⟩
        split
        next hy =>
          rw [hy, hn, ← hdirty, List.isEmpty_iff.1 hd]
          rfl
        next => rfl
      · obtain ⟨k, hk, hkp, hkb⟩ := State.lineOut_of_room (l := l) hb hn (State.ccSet_of_room hb hroom hn)
        refine ⟨s.setCC (clusterOf core) line k, hev.trans (by rw [if_neg hd, hk]), rfl, rfl, ?_, fun y => ?_⟩
        · unfold State.cacheBanks
          rw [State.cluster_setCC]
        · rw [State.ownByte_setCC]
          split
          next =>
            unfold ownByte CLine.fresh
            rw [Option.bind_some, if_pos (hkp.trans hp), hkb, hdirty]
            cases hb : NMap.get? l.bytes (x % 128) with
            | none => rfl
            | some b =>
              rw [Option.filter_some]
              cases hd : b.dirty <;> simp [hd]
          next => rfl
    obtain ⟨t, ht, hl1, hmem, hbanks, hcc⟩ := hout
    have hcore : ((t.modCore core (fun k => { k with l1 := NMap.del k.l1 line })).core core).l1 = NMap.del (s.core core).l1 line := by
      rw [State.core_modCore, if_pos rfl, hl1]
    rw [ht, seen_eq, seen_eq, hcore, NMap.get?_del]
    show (ownByte pasid (x % 128) _).getD (if t.cacheBanks (clusterOf core) = 0 then t.mem.read x
      else (ownByte pasid (x % 128) (NMap.get? (t.cluster (clusterOf core)).cc (x / 128))).getD (t.mem.read x)) = _
    rw [hbanks, hmem, hcc, if_neg hb, if_neg hb]
    by_cases hx : x / 128 = line
    · have haddr : 128 * line + x % 128 = x := by omega
      rw [if_pos hx, if_pos hx, hx, hl, hn]
      exact (getD_ownByte hp (fun b hb hd => haddr ▸ hclean l _ b hl hb hd)).symm
    · rw [if_neg hx, if_neg hx]

/-! ### What a message's leaving its sender changes of a core, and DROP -/

theorem State.txq_leaveTx (s : State) (m : Msg) : ((s.leaveTx m).core m.src).txq = (s.core m.src).txq.erase m := by
  rw [State.core_leaveTx, if_pos rfl]

theorem State.rxq_leaveTx (s : State) (m : Msg) (c : Nat) : ((s.leaveTx m).core c).rxq = (s.core c).rxq := by
  rw [State.core_leaveTx]
  split
  next h => rw [h]
  next => rfl

theorem State.port_leaveTx (s : State) (m : Msg) (c : Nat) : ((s.leaveTx m).core c).port = (s.core c).port := by
  rw [State.core_leaveTx]
  split
  next h => rw [h]
  next => rfl

theorem State.slots_leaveTx (s : State) (m : Msg) (c : Nat) : ((s.leaveTx m).core c).slots = (s.core c).slots := by
  rw [State.core_leaveTx]
  split
  next h => rw [h]
  next => rfl

theorem Core.txq_dropped (k : Core) (uid : Nat) : (k.dropped uid).txq = k.txq := by
  unfold Core.dropped
  split <;> rfl

theorem Core.rxq_dropped (k : Core) (uid : Nat) : (k.dropped uid).rxq = k.rxq := by
  unfold Core.dropped
  split <;> rfl

theorem Core.pDrop_dropped {k : Core} {p uid : Nat} {w : Wave} (hp : k.port = some p) (hw : NMap.get? k.slots p = some w) (hu : w.uid = uid) :
    (k.dropped uid).pDrop = true := by
  unfold Core.dropped
  rw [if_pos]
  rw [hp, Option.any_some, List.any_eq_true]
  exact ⟨(p, w), NMap.mem_of_get? hw, by simp [hu]⟩

theorem State.l1_evictL1 (s : State) (core line : Nat) : NMap.get? ((s.evictL1 core line).core core).l1 line = none := by
  unfold State.evictL1
  split
  · rw [State.core_modCore, if_pos rfl]
    exact (NMap.get?_del _ _ _).trans (if_pos rfl)
  next h => exact h

theorem State.cc_evictCC (s : State) (cl line : Nat) : NMap.get? ((s.evictCC cl line).cluster cl).cc line = none := by
  unfold State.evictCC
  split
  · rw [State.cluster_modCluster, if_pos rfl]
    exact (NMap.get?_del _ _ _).trans (if_pos rfl)
  next h => exact h

end Sys2Proof.Machine

namespace Sys2Proof
open Machine

/-- Settles O49, by the registers that results reach, the routes, and the bytes that a line takes along. -/
theorem coreEvents : Obligations.CoreEvents := by
  unfold Obligations.CoreEvents
  refine ⟨?_, ?_, fun _ _ _ _ => messageArrives_true, fun s flits core la _ _ => s.homeArrival_eq flits core la, ?_, ?_, ?_⟩
  · intro s core slot id w p hw hp hpush
    have hw1 : (s.modWave core slot (fun w => w.receive p)).wave? core slot = some (w.receive p) := State.wave?_modWave_self hw _
    have hrec : (s.modWave core slot (fun w => w.receive p)).received core slot (w.receive p) p.id :=
      ⟨_, hw1, rfl, Wave.clearOf_receive hpush w⟩
    obtain ⟨u, hu, ho, hclear⟩ := hrec.resumeAcquires
    have heq := Wave.receive_eq hpush w
    have hV (d : Nat) : u.vreg d = (w.write p.lanes p.result).vreg d :=
      (congrArg (fun x => x.vreg d) ho :).trans (congrArg (fun x => x.vreg d) heq :)
    have hS (d : Nat) : u.sreg d = (w.write p.lanes p.result).sreg d :=
      (congrArg (fun x => x.sreg d) ho :).trans (congrArg (fun x => x.sreg d) heq :)
    have hP (d : Nat) : u.preg d = (w.write p.lanes p.result).preg d :=
      (congrArg (fun x => x.preg d) ho :).trans (congrArg (fun x => x.preg d) heq :)
    have hoff := w.write_offRegs p.lanes p.result
    have hE : u.sEmpty = Machine.unmark p.id w.sEmpty :=
      ((congrArg Wave.sEmpty ho :).trans (congrArg Wave.sEmpty heq :)).trans (congrArg (fun x => Machine.unmark p.id x.sEmpty) hoff :)
    have hH : u.pHeld = Machine.unmark p.id w.pHeld :=
      ((congrArg Wave.pHeld ho :).trans (congrArg Wave.pHeld heq :)).trans (congrArg (fun x => Machine.unmark p.id x.pHeld) hoff :)
    have hI : u.inflight = w.inflight.filter (fun q => q.id != p.id) := (congrArg Wave.inflight ho :).trans (congrArg Wave.inflight heq :)
    refine ⟨_, u, exec_resultArrival hw hp hpush, hu, ?_, ?_, ?_, ?_, ?_, ?_, ?_, ?_, ?_, hclear, ?_, ?_⟩
    · intro d x hd l hl
      rw [hV, Wave.vreg_write, Wave.vreg_writeV_of_mem (v := x) (show (d, x) ∈ p.result.vdst from (show p.result.vdst = [(d, x)] from hd) ▸ List.mem_singleton_self _)
        (fun e he _ => by rw [show p.result.vdst = [(d, x)] from hd, List.mem_singleton] at he; rw [he])]
      exact lane_mergeLanes _ _ _ hl
    · intro d hd
      rw [hV, Wave.vreg_write, Wave.vreg_writeV_of_notMem (l := p.result.vdst) hd]
    · intro d x hd
      rw [hS, Wave.sreg_write, Wave.sreg_setSs_of_mem (v := x) (show (d, x) ∈ p.result.sdst from (show p.result.sdst = [(d, x)] from hd) ▸ List.mem_singleton_self _)
        (fun e he _ => by rw [show p.result.sdst = [(d, x)] from hd, List.mem_singleton] at he; rw [he])]
    · intro d hd
      rw [hS, Wave.sreg_write, Wave.sreg_setSs_of_notMem (l := p.result.sdst) hd]
    · intro d m x hd h0
      rw [hP, Wave.preg_write, show p.result.pdst = [(d, m, x)] from hd]
      exact (Wave.preg_setP _ _ _ _).trans (if_pos ⟨rfl, h0⟩)
    · intro d hd
      rw [hP, Wave.preg_write, Wave.preg_writeP_of_notMem (l := p.result.pdst) hd]
    · exact ((congrArg Wave.flags ho :).trans (congrArg Wave.flags heq :)).trans (w.flags_write p.lanes p.result)
    · exact fun e => by rw [hE]; exact mem_unmark
    · exact fun e => by rw [hH]; exact mem_unmark
    · exact fun q => by rw [hI, List.mem_filter, bne_iff_ne]
    · intro k a sc below d harms hhold halso hbelow
      have ha : (w.receive p).arms = [(k, a.unmarked p.id)] := by rw [Wave.arms_receive hpush, harms]; rfl
      have hl : (w.receive p).loadsBelow below = false := by
        refine List.any_eq_false.2 (fun q hq => ?_)
        rw [heq] at hq
        obtain ⟨hq, hne⟩ := List.mem_filter.1 hq
        cases hm : q.isMem with
        | false => simp
        | true =>
          have := hbelow q hq (by simpa using hne) hm
          simp
          omega
      have hx := State.resumeAcquires_single hw1 ha hhold hl
      rw [Option.some.inj (hu.symm.trans hx)]
      rfl
  · intro s core r h hr
    have hc : (s.core core).claim.or (((s.core core).rejects.head?).map (fun e => e.1)) = some r := by
      rcases h with h | ⟨h, n, l, hl⟩
      · rw [h]; rfl
      · rw [h, hl]; rfl
    show execMissStatusRetry core s = _
    unfold execMissStatusRetry
    rw [hc]
    exact congrArg _ (if_pos hr)
  · intro s src dst m _ _ hm hsrc
    subst hsrc
    have hx := exec_messageArrival hm
    refine ⟨fun ht hr => ?_, fun ht hr => ?_, fun ht => ?_⟩
    · rw [if_neg (by simp [ht]), if_neg (Nat.not_le.2 hr)] at hx
      refine ⟨_, hx, ?_, ?_, fun c k => ?_⟩
      · rw [State.core_modCore, if_pos rfl]
        exact congrArg (· ++ [m]) (State.rxq_leaveTx s m dst)
      · rw [State.core_modCore]
        split
        next h => exact h ▸ State.txq_leaveTx s m
        next => exact State.txq_leaveTx s m
      · exact (State.wave?_modCore_of_slots rfl _ _).trans (State.wave?_modCore_of_slots rfl _ _)
    · rw [if_neg (by simp [ht]), if_pos hr] at hx
      exact hx
    · rw [if_pos ht] at hx
      refine ⟨_, hx, ?_, fun c => ?_, fun c p w hp hw hu => ?_⟩
      · rw [State.core_dropMark]
        exact (Core.txq_dropped _ _).trans (State.txq_leaveTx s m)
      · rw [State.core_dropMark]
        exact (Core.rxq_dropped _ _).trans (State.rxq_leaveTx s m c)
      · rw [State.core_dropMark]
        exact Core.pDrop_dropped ((State.port_leaveTx s m c).trans hp) ((congrArg (fun x => NMap.get? x p) (State.slots_leaveTx s m c)).trans hw) hu
  · intro s core slot w hw hp ho
    refine ⟨_, rfl, (State.wave?_modWave_self hw _).trans ?_, fun c k h => State.wave?_modWave_other h _, fun k => ?_, State.modWave_mem _ _ _ _⟩
    · rw [hp, ho]
      rfl
    · unfold State.stack
      rw [State.modWave_stk]
  · intro s level unit line
    refine ⟨_, rfl, ?_, ?_, ?_, ?_⟩
    · rintro rfl
      exact s.l1_evictL1 unit line
    · rintro rfl
      exact s.cc_evictCC unit line
    · rintro rfl
      show line ∉ ((s.modCore unit (fun k => { k with icache := k.icache.filter (fun x => x != line) })).core unit).icache
      rw [State.core_modCore, if_pos rfl]
      simp
    · rintro core pasid x rfl rfl halone hb hn hroom hbytes hclean
      exact seen_evictL1 halone hb hn hroom (fun l hl => (hbytes l hl).1) hclean x

end Sys2Proof
end
section
/-! ## SPAWN.s and SPAWN.l -/
set_option Elab.async false

open Sys2Proof Sys2Proof.Machine

namespace Sys2Proof.Machine

/-! ### What the note of a class and the wait for earlier accesses leave alone -/

/-- The note of a word's class changes no access of a wave (R194, R305). -/
theorem State.unperformed_noted (s : State) (c : Ctx) (i : Instr) (d : Nat) (w : Wave) (n : Nat) :
    (s.noted c i).unperformed d w n = s.unperformed d w n := by
  obtain ⟨l, o, hc⟩ := s.noted_core c i d
  have hl : (s.noted c i).links = s.links := (congrArg State.links (s.noted_offRecords c i) :)
  unfold State.unperformed State.peerOpen
  rw [hc, hl]

theorem State.deque_noted (s : State) (c : Ctx) (i : Instr) (d : Nat) : ((s.noted c i).core d).deque = (s.core d).deque := by
  obtain ⟨l, o, h⟩ := s.noted_core c i d
  rw [h]
  rfl

/-- The note of a class drains no job: it lists the core and the class in the job's pairs (R305). -/
theorem State.drained_noted {s : State} {c : Ctx} {i : Instr} (h : s.logRoom c i) (j : Nat) :
    ((s.noted c i).job j).drained = (s.job j).drained := by
  unfold State.noted
  split
  · next k hk =>
    rcases State.noteClass_of_room (h k hk) with e | e
    · rw [e]
    · rw [e]
      exact State.job_modJob_keeps (g := Job.drained) (by intro; rfl) _ _ _
  · rfl

/-- A word with no earlier access in flight goes on (R194). -/
theorem Ctx.afterAccesses_of {c : Ctx} {s : State} (hh : c.held = none) (hu : s.unperformed c.r.core c.wave s.handles = false)
    (k : State → State) (m : Bool) : c.afterAccesses s k m = k s := by
  unfold Ctx.afterAccesses Ctx.before
  rw [hh]
  exact if_neg (by rw [show (none.map fun p : Pending => p.id).getD s.handles = s.handles from rfl, hu]; exact Bool.false_ne_true)

/-- A word that only moves its arm on moves no byte. -/
theorem Ctx.sameBytes_done (c : Ctx) (s : State) : s.sameMemory (c.done s) ∧ s.sameScratch (c.done s) :=
  ⟨State.sameMemory_modWave _ _ _ _, State.sameScratch_modWave _ _ _ _⟩

/-! ### The words of a line -/

theorem Memory.readBytes_add (m : Memory) (a p q : Nat) : m.readBytes a (p + q) = m.readBytes a p ++ m.readBytes (a + p) q := by
  induction p generalizing a with
  | zero => rw [Nat.zero_add]; rfl
  | succ p ih =>
    rw [Nat.succ_add_eq_add_succ, Nat.add_succ, Memory.readBytes, ih, Memory.readBytes, List.cons_append]
    rw [Nat.add_assoc a 1 p, Nat.add_comm 1 p]

/-- The words of the bytes of a memory are those that stand at every fourth address (R2). -/
theorem bytesWords_readBytes (m : Memory) (a n : Nat) :
    bytesWords n (m.readBytes a (4 * n)) = (List.range n).map (fun k => Claims.cell m a k) := by
  induction n generalizing a with
  | zero => rfl
  | succ n ih =>
    have hs : m.readBytes a (4 * (n + 1)) = m.readBytes a 4 ++ m.readBytes (a + 4) (4 * n) := by
      rw [Nat.mul_succ, Nat.add_comm, Memory.readBytes_add]
    have hl := Memory.length_readBytes m a 4
    rw [bytesWords, hs, List.drop_left' hl, ih, List.range_succ_eq_map, List.map_cons, List.map_map]
    refine congrArg (List.cons _) (List.map_congr_left (fun k _ => ?_))
    unfold Claims.cell
    rw [show a + 4 + 4 * k = a + 4 * (k + 1) by omega]
    rfl

/-! ### The closure that a SPAWN pushes -/

/-- SPAWN.s pushes 32 registers, SPAWN.l the 128 bytes at a multiple of 128 in SCRATCH (R80, R422). -/
def Spawns (s : State) (c : Ctx) (i : Instr) (ws : List Word) : Prop :=
  (∃ a : BitVec 1, i = .spawnS a ∧ ws = (List.range 32).map (fun k => c.wave.sreg (32 * a.toNat + k))) ∨
    (∃ a, i = .spawnL a ∧ (c.wave.sreg a.toNat).toNat % 128 = 0 ∧
      (c.wave.sreg a.toNat).toNat + 128 ≤ (s.alloc c.team.alloc).bytes ∧ (s.alloc c.team.alloc).pois = [] ∧
      ws = (List.range 32).map (fun k => Claims.cell (s.alloc c.team.alloc).cells (c.wave.sreg a.toNat).toNat k))

theorem Spawns.length {s : State} {c : Ctx} {i : Instr} {ws : List Word} (h : Spawns s c i ws) : ws.length = 32 := by
  rcases h with ⟨a, -, rfl⟩ | ⟨a, -, -, -, -, rfl⟩ <;> rw [List.length_map, List.length_range]

theorem Alloc.poisonIn_clean {al : Alloc} (h : al.pois = []) (a n : Nat) : al.poisonIn a n = none := by
  unfold Alloc.poisonIn
  rw [h]
  simp

/-- Once its wave's earlier accesses are performed, a SPAWN pushes its closure (R80). -/
theorem Spawns.exec {s : State} {c : Ctx} {i : Instr} {ws : List Word} (h : Spawns s c i ws) (hr : Ready s i c)
    (hu : s.unperformed c.r.core c.wave s.handles = false) : Machine.exec i s = .next (c.spawn ws (s.noted c i)) := by
  have hgo (k : State → State) : c.afterAccesses (s.noted c i) k = k (s.noted c i) :=
    Ctx.afterAccesses_of hr.stands.free (by rw [State.noted_handles, State.unperformed_noted, hu]) k _
  rcases h with ⟨a, rfl, rfl⟩ | ⟨a, rfl, hm, hb, hp, rfl⟩
  · refine (State.run_scalar hr rfl _).trans (congrArg Host.Outcome.next ((hgo _).trans ?_))
    unfold group
    rw [List.map_map]
    rfl
  · refine (State.run_scalar hr rfl _).trans (congrArg Host.Outcome.next ((hgo _).trans ?_))
    simp only [State.noted_alloc, hm, Nat.not_lt.2 hb, Alloc.poisonIn_clean hp, ne_eq, not_true_eq_false, if_false]
    exact congrArg (fun l => c.spawn l _) (bytesWords_readBytes _ _ 32)

/-! ### What becomes of a closure -/

theorem Ctx.spawn_of_bad {c : Ctx} {ws : List Word} {k : Nat} (h : headerFault c.job.npkt ws = some k) (s : State) :
    c.spawn ws s = c.fault 0x10 0 k s := by
  unfold Ctx.spawn
  rw [h]

theorem Ctx.spawn_of_full {c : Ctx} {s : State} {ws : List Word} (h : headerFault c.job.npkt ws = none) (hd : c.job.drained = false)
    (hf : 33280 ≤ (s.core c.r.core).deque.length) : c.spawn ws s = c.fault 0x1E 0 0 s := by
  unfold Ctx.spawn
  rw [h, hd]
  exact if_pos (decide_eq_true hf)

/-- The entry of a closure that a wave pushes (R75, R77). -/
def Ctx.closureEntry (c : Ctx) (ws : List Word) (s : State) : Entry := newEntry s.handles c.job (migratable c.job ws)

theorem Ctx.spawn_of_room {c : Ctx} {s : State} {ws : List Word} (h : headerFault c.job.npkt ws = none)
    (hf : c.job.drained = true ∨ (s.core c.r.core).deque.length < 33280) :
    c.spawn ws s = c.done (s.fresh.2.pushEntry c.r.core (c.closureEntry ws s)) := by
  have hn : (!c.job.drained && (s.core c.r.core).dequeFull) = false := by
    rcases hf with hd | hl
    · rw [hd]; rfl
    · rw [show (s.core c.r.core).dequeFull = false from decide_eq_false (Nat.not_le.2 hl), Bool.and_false]
  unfold Ctx.spawn
  rw [h]
  exact if_neg (by rw [hn]; exact Bool.false_ne_true)

theorem getLsbD_30_or_bit31 (x : Word) : (x ||| 0x80000000#32).getLsbD 30 = x.getLsbD 30 := by
  rw [BitVec.getLsbD_or]
  simp

/-- The words of the entry: the closure's, with M set in a default-migratable job (R75). -/
theorem Ctx.closureEntry_word (c : Ctx) {ws : List Word} (hl : ws ≠ []) (s : State) (k : Nat) :
    (c.closureEntry ws s).w.getD k 0#32 =
      if c.job.migrate ∧ k = 0 then ws.getD 0 0#32 ||| 0x80000000#32 else ws.getD k 0#32 := by
  have h := getD_migratable c.job ws k
  rw [if_neg hl] at h
  exact h

/-- The entry waits for its staging where the closure's S bit is set (R77, R83). -/
theorem Ctx.closureEntry_staged (c : Ctx) {ws : List Word} (hl : ws ≠ []) (s : State) :
    hdrS ((c.closureEntry ws s).w.getD 0 0#32) = (ws.getD 0 0#32).getLsbD 30 := by
  rw [c.closureEntry_word hl]
  unfold hdrS
  split
  · exact getLsbD_30_or_bit31 _
  · rfl

/-- A discarded closure queues an error for its future, if it has one (R263, R469). -/
theorem State.discardClosure_cases (s : State) (core : Nat) (j : Job) (ws : List Word) :
    (pair (ws.getD 2 0#32) (ws.getD 3 0#32) = 0 ∧ s.discardClosure core j ws = s) ∨
      (pair (ws.getD 2 0#32) (ws.getD 3 0#32) ≠ 0 ∧ ∃ d : Delivery,
        s.discardClosure core j ws = { s with deliveries := s.deliveries ++ [d] } ∧ d.err = true ∧
        d.handle = pair (ws.getD 2 0#32) (ws.getD 3 0#32)) := by
  unfold State.discardClosure
  extract_lets h
  split
  · next hz => exact .inl ⟨hz, rfl⟩
  · next hz => exact .inr ⟨hz, _, rfl, rfl, rfl⟩

theorem State.pushEntry_of_drained {s : State} {e : Entry} (h : (s.job e.job).drained = true) (core : Nat) :
    s.pushEntry core e = s.discardClosure core (s.job e.job) e.w :=
  if_pos h

/-- A push of an entry that is not to be staged moves no byte (R78). -/
theorem State.sameMemory_pushEntry {s : State} {core : Nat} {e : Entry} (h : hdrS (e.w.getD 0 0#32) = false) :
    s.sameMemory (s.pushEntry core e) := by
  unfold State.pushEntry
  extract_lets j t
  split
  · rcases s.discardClosure_cases core j e.w with ⟨-, e⟩ | ⟨-, d, e, -⟩ <;> rw [e] <;> exact .of_eq rfl rfl rfl
  · rw [h]
    exact .of_eq rfl rfl rfl

theorem State.pushEntry_allocs (s : State) (core : Nat) (e : Entry) : (s.pushEntry core e).allocs = s.allocs := by
  unfold State.pushEntry
  extract_lets j t
  split
  · rcases s.discardClosure_cases core j e.w with ⟨-, e⟩ | ⟨-, d, e, -⟩ <;> rw [e]
  · split
    · exact (congrArg (fun v => v.1.allocs) (t.fork_offCaches core) :)
    · rfl

/-! ### A push, and a discard -/

theorem State.fresh_core (s : State) (d : Nat) : s.fresh.2.core d = s.core d := rfl

/-- Entries of a job that is not drained are pushed: what the core and the wave are then (R78, R80). -/
theorem Ctx.spawn_pushed {c : Ctx} {s : State} {e : Entry} (hd : (s.job e.job).drained = false)
    (hw : s.wave? c.r.core c.r.slot = some c.wave) :
    ((c.done (s.pushEntry c.r.core e)).core c.r.core).deque = (s.core c.r.core).deque ++ [e] ∧
      (c.done (s.pushEntry c.r.core e)).wave? c.r.core c.r.slot = some (c.wave.modArm c.r.arm Arm.advance) := by
  have hp := State.pushEntry_offCaches hd c.r.core
  have hslots : ((s.core c.r.core).pushHot e).slots = (s.core c.r.core).slots := by
    unfold Core.pushHot
    split <;> rfl
  constructor
  · refine (congrArg Core.deque (State.offSlots_modWave _ _ _ _ _) :).trans ?_
    refine (congrArg Core.deque (State.core_of_offCaches hp c.r.core) :).trans ?_
    rw [State.core_modCore, if_pos rfl]
    exact Core.deque_pushHot _ _
  · refine State.wave?_modWave_self ?_ _
    rw [State.wave?_of_offCaches hp, State.wave?_modCore_of_slots hslots, hw]

end Sys2Proof.Machine

namespace Sys2Proof
open Machine

/-- Settles O45: the SPAWN comes to `Ctx.spawn` with its closure, whose cases are a bad header, a full deque, a push and a discard. -/
theorem spawnPushes : Obligations.SpawnPushes := by
  unfold Obligations.SpawnPushes
  intro s c i ws hr hlog hu hs
  have hx := Spawns.exec hs hr hu
  have hlen := Spawns.length hs
  have hne : ws ≠ [] := fun h => by rw [h] at hlen; cases hlen
  have hq := s.deque_noted c i c.r.core
  have hdr := State.drained_noted hlog c.job.jid
  have hword := c.closureEntry_word hne (s.noted c i)
  refine ⟨fun k hk => ?_, fun hh hc hf => ?_, fun hh hj hc hl => ?_, fun hh hj hc => ?_⟩
  · rw [hx, Ctx.spawn_of_bad hk]
  · rw [hx, Ctx.spawn_of_full hh hc (by rw [hq]; exact hf)]
  · obtain ⟨hdeque, hwave⟩ := Ctx.spawn_pushed (c := c) (s := (s.noted c i).fresh.2) (e := c.closureEntry ws (s.noted c i))
      (hdr.trans hj) hr.stands.wave
    refine ⟨_, c.closureEntry ws (s.noted c i), hx.trans (congrArg _ (Ctx.spawn_of_room hh (.inr (by rw [hq]; exact hl)))),
      hdeque.trans (by rw [State.fresh_core, hq]), rfl, rfl, rfl, rfl, ?_, fun k hk => ?_, ?_, hwave, fun hs0 => ?_, ?_⟩
    · rw [hword]
      cases c.job.migrate <;> rfl
    · rw [hword, if_neg (fun h => Nat.ne_of_gt hk h.2)]
    · exact congrArg not (c.closureEntry_staged hne (s.noted c i))
    · have hm := State.sameMemory_pushEntry (s := (s.noted c i).fresh.2) (core := c.r.core)
        ((c.closureEntry_staged hne (s.noted c i)).trans hs0)
      exact (State.sameMemory_noted hlog).trans (hm.trans (c.sameBytes_done _).1)
    · have hp := State.sameScratch.of_eq (s := s.noted c i)
        ((s.noted c i).fresh.2.pushEntry_allocs c.r.core (c.closureEntry ws (s.noted c i)))
      exact (s.sameScratch_noted c i).trans (hp.trans (c.sameBytes_done _).2)
  · have hp := State.pushEntry_of_drained (s := (s.noted c i).fresh.2) (e := c.closureEntry ws (s.noted c i)) (hdr.trans hj) c.r.core
    refine ⟨_, hx.trans (congrArg _ (Ctx.spawn_of_room hh (.inl hc))), ?_⟩
    have h2 := (hword 2).trans (if_neg (fun h => absurd h.2 (by decide)))
    have h3 := (hword 3).trans (if_neg (fun h => absurd h.2 (by decide)))
    have hn := s.noted_deliveries c i
    have hdone (t : State) : (c.done t).deliveries = t.deliveries := State.modWave_deliveries _ _ _ _
    have hcore (t : State) : ((c.done t).core c.r.core).deque = (t.core c.r.core).deque :=
      (congrArg Core.deque (State.offSlots_modWave _ _ _ _ _) :)
    rw [hcore, hdone, hp, ← h2, ← h3]
    rcases State.discardClosure_cases (s.noted c i).fresh.2 c.r.core ((s.noted c i).fresh.2.job c.job.jid)
      (c.closureEntry ws (s.noted c i)).w with ⟨hz, e⟩ | ⟨hz, d, e, herr, hh⟩
    · exact ⟨(congrArg (fun t : State => (t.core c.r.core).deque) e).trans hq, fun _ => (congrArg State.deliveries e).trans hn,
        fun h => absurd hz h⟩
    · refine ⟨(congrArg (fun t : State => (t.core c.r.core).deque) e).trans hq, fun h => absurd h hz, fun _ => ⟨d, ?_, herr, hh⟩⟩
      exact (congrArg State.deliveries e).trans (congrArg (· ++ [d]) hn)

end Sys2Proof
end
section
/-! ## STAGING_START and STAGING_COMPLETE -/
set_option Elab.async false

open Sys2Proof Sys2Proof.Machine

namespace Sys2Proof.Machine

/-! ### The place of a tile -/

/-- An empty staging area gives a tile its base, where the tile fits (assumption 14). -/
theorem Alloc.stagePlace_of_empty {al : Alloc} {b n : Nat} (h : al.staged = []) (hb : b + n ≤ al.bytes) : al.stagePlace b n = some b := by
  unfold Alloc.stagePlace Alloc.stageFree
  rw [h]
  simp [hb]

/-- The allocation with one tile in its staging area. -/
def Alloc.staging (al : Alloc) (owner b n : Nat) : Alloc := { al with staged := [(owner, b, n)] }

theorem Alloc.placeTiles_single {al : Alloc} {b : Nat} {x : Tile} (h : al.staged = []) (hb : b + x.rows * x.rb ≤ al.bytes) (owner : Nat) :
    al.placeTiles owner b [x] = some ([{ x with base := b }], al.staging owner b (x.rows * x.rb)) := by
  unfold Alloc.placeTiles
  rw [Alloc.stagePlace_of_empty h hb, h]
  rfl

theorem toNat_div_lt (w : Word) : w.toNat / 2 ^ 16 < 2 ^ 16 := Nat.div_lt_of_lt_mul w.isLt

/-- The first tile operand of a closure, from its words 4 to 7 (R73). -/
theorem tileOf_zero (ws : List Word) : tileOf ws 0 =
    { base := 0, va := pair (ws.getD 4 0#32) (ws.getD 5 0#32), rows := (ws.getD 6 0#32).toNat / 2 ^ 16,
      rb := (ws.getD 6 0#32).toNat % 2 ^ 16, pitch := (ws.getD 7 0#32).toNat, wb := (ws.getD 0 0#32).getLsbD 26 } := by
  unfold tileOf wbits hdrWr
  simp only [Nat.pow_zero, Nat.div_one]
  rw [Nat.mod_eq_of_lt (toNat_div_lt _)]

/-! ### The head of a staging queue -/

theorem State.alloc_of_get? {s : State} {aid : Nat} {al : Alloc} (h : NMap.get? s.allocs aid = some al) : s.alloc aid = al := by
  unfold State.alloc NMap.at
  rw [h]
  rfl

theorem State.stageHead_of {s : State} {cl aid : Nat} {q : StageReq} {qs : List StageReq} {e : Entry} {al : Alloc}
    (hq : (s.cluster cl).stageQ = q :: qs) (he : (s.core q.core).deque.find? (fun e => e.uid == q.entry) = some e)
    (ha : s.jobAlloc q.job cl = some aid) (hal : NMap.get? s.allocs aid = some al) : s.stageHead cl = some (q, e, al) := by
  unfold State.stageHead
  rw [hq]
  simp only [he, ha, State.alloc_of_get? hal]

theorem State.stageQ_modStage {s : State} {cl : Nat} {q : StageReq} {qs : List StageReq} (h : (s.cluster cl).stageQ = q :: qs)
    (f : StageReq → List StageReq) : ((s.modStage cl f).cluster cl).stageQ = f q ++ qs := by
  unfold State.modStage
  rw [State.cluster_modCluster, if_pos rfl, h]

/-- A staging whose operand fits at the base of an empty area begins there (R83). -/
theorem State.startStage_of {s : State} {q : StageReq} {e : Entry} {al : Alloc} (h : al.staged = [])
    (hn : (e.w.getD 0 0#32).toNat / 2 ^ 24 % 4 = 1)
    (hb : (s.job q.job).stgb + (tileOf e.w 0).rows * (tileOf e.w 0).rb ≤ al.bytes) (cl : Nat) :
    s.startStage cl q e al =
      ({ s with allocs := NMap.put s.allocs al.aid (al.staging e.uid (s.job q.job).stgb ((tileOf e.w 0).rows * (tileOf e.w 0).rb)) } : State).modStage
        cl (fun r => [{ r with active := true, tiles := [{ tileOf e.w 0 with base := (s.job q.job).stgb }] }]) := by
  have hone : (List.range (hdrNop (e.w.getD 0 0#32))).map (tileOf e.w) = [tileOf e.w 0] := by
    rw [show hdrNop (e.w.getD 0 0#32) = 1 from hn]
    rfl
  unfold State.startStage
  rw [hone, Alloc.placeTiles_single h hb]


/-! ### Bytes that land in SCRATCH -/

/-- Bytes written in order at consecutive addresses. -/
theorem Memory.read_write_range (m : Memory) (b : Nat) (f : Nat → Byte) (n a : Nat) :
    Memory.read (((List.range n).map (fun j => (b + j, f j))).foldl (fun m e => Memory.write m e.1 e.2) m) a =
      if b ≤ a ∧ a < b + n then f (a - b) else m.read a := by
  induction n with
  | zero => rw [if_neg (by omega)]; rfl
  | succ n ih =>
    rw [List.range_succ, List.map_append, List.foldl_append]
    refine (Memory.read_write _ _ _ _).trans ?_
    rw [ih]
    by_cases h : a = b + n
    · rw [if_pos h, if_pos (by omega), h, Nat.add_sub_cancel_left]
    · rw [if_neg h]
      by_cases hb : b ≤ a ∧ a < b + n
      · rw [if_pos hb, if_pos (by omega)]
      · rw [if_neg hb, if_neg (by omega)]

/-- A state without its allocations. -/
def State.offAllocs (s : State) : State := { s with allocs := [] }

theorem State.modAlloc_offAllocs (s : State) (a : Nat) (f : Alloc → Alloc) : (s.modAlloc a f).offAllocs = s.offAllocs := by
  unfold State.modAlloc
  split <;> rfl

theorem State.get?_modAlloc {s : State} {a : Nat} {al : Alloc} (h : NMap.get? s.allocs a = some al) (f : Alloc → Alloc) :
    NMap.get? (s.modAlloc a f).allocs a = some (f al) := by
  unfold State.modAlloc
  rw [h]
  exact (NMap.get?_put _ _ _ _).trans (if_pos rfl)

/-- An allocation stands with some bytes, and nothing waits at its granules. -/
def State.Holds (s : State) (aid : Nat) (cells : Memory) : Prop :=
  ∃ al, NMap.get? s.allocs aid = some al ∧ al.cells = cells ∧ al.waits = []

/-- A granule at which nothing waits fills, and no byte changes (R168, R169). -/
theorem State.fillGranule_idle {s : State} {aid : Nat} {cells : Memory} (h : s.Holds aid cells) (g : Nat) :
    (s.fillGranule aid g).offAllocs = s.offAllocs ∧ (s.fillGranule aid g).Holds aid cells := by
  obtain ⟨al, hal, hc, hw⟩ := h
  have hs : s.alloc aid = al := State.alloc_of_get? hal
  have hserved : servedBy ((s.alloc aid).waits.filter (fun q => q.gran == g)) = [] := by rw [hs, hw]; rfl
  unfold State.fillGranule
  extract_lets a served emptied t
  have hnone : served = [] := hserved
  rw [hnone]
  exact ⟨s.modAlloc_offAllocs _ _, _, State.get?_modAlloc hal _, hc, by rw [hw]; rfl⟩

theorem State.fillGranules_idle {s : State} {aid : Nat} {cells : Memory} (h : s.Holds aid cells) (gs : List Nat) :
    (gs.foldl (fun s g => s.fillGranule aid g) s).offAllocs = s.offAllocs ∧ (gs.foldl (fun s g => s.fillGranule aid g) s).Holds aid cells := by
  induction gs generalizing s with
  | nil => exact ⟨rfl, h⟩
  | cons g gs ih =>
    obtain ⟨hoff, hg⟩ := State.fillGranule_idle h g
    obtain ⟨hoffs, hgs⟩ := ih hg
    exact ⟨hoffs.trans hoff, hgs⟩

/-- An engine's write to an allocation where nothing waits: its bytes stand there, and nothing outside the allocations changes. -/
theorem State.engineScratch_idle {s : State} {aid : Nat} {al : Alloc} (h : NMap.get? s.allocs aid = some al) (hw : al.waits = [])
    (ws : List EByte) : (s.engineScratch aid ws).offAllocs = s.offAllocs ∧
      (s.engineScratch aid ws).Holds aid ((ws.map (fun w => (w.addr, w.val))).foldl (fun m e => Memory.write m e.1 e.2) al.cells) := by
  unfold State.engineScratch State.scratchPart
  extract_lets t
  obtain ⟨hoff, hg⟩ := State.fillGranules_idle (s := t) (aid := aid) ⟨_, State.get?_modAlloc h _, rfl, hw⟩
    (granulesOf (ws.map (fun w => w.addr)))
  exact ⟨hoff.trans (s.modAlloc_offAllocs _ _), hg⟩

/-! ### A staging that lands -/

theorem State.engineTouch_tagged (s : State) (unit pasid : Nat) (vas : List Nat) : s.Tagged (s.engineTouch unit pasid vas) := by
  unfold State.engineTouch
  refine State.Tagged.foldl (fun s k => ?_) _ s
  split
  · exact s.l2Touch_tagged _ _ _ _
  · exact State.Tagged.same s

theorem State.Tagged.engineRead {s t : State} (h : s.Tagged t) (owner unit pasid va : Nat) :
    t.engineRead owner unit pasid va = s.engineRead owner unit pasid va := by
  obtain ⟨l, n, rfl⟩ := h
  rfl

/-- Byte `k` of row `i` is byte `i * rb + k` of the tile (R73). -/
theorem Tile.side_at {x : Tile} {i k : Nat} (hk : k < x.rb) : x.side.at (i * x.rb + k) = x.va + i * x.pitch + k := by
  have hd : (i * x.rb + k) / x.rb = i := by
    rw [Nat.mul_comm, Nat.mul_add_div (by omega), Nat.div_eq_of_lt hk, Nat.add_zero]
  have hm : (i * x.rb + k) % x.rb = k := by
    rw [Nat.mul_comm, Nat.mul_add_mod, Nat.mod_eq_of_lt hk]
  unfold Tile.side Rows.at rowAddr
  rw [hd, hm]

theorem Tile.row_lt {x : Tile} {i k : Nat} (hi : i < x.rows) (hk : k < x.rb) : i * x.rb + k < x.rows * x.rb :=
  calc i * x.rb + k < i * x.rb + x.rb := Nat.add_lt_add_left hk _
    _ = (i + 1) * x.rb := (Nat.succ_mul _ _).symm
    _ ≤ x.rows * x.rb := Nat.mul_le_mul_right _ hi

/-- The bytes of a staging's tile land in SCRATCH, and what was fetched for it is needed no more (R83). -/
def State.landTile (s : State) (q : StageReq) (aid : Nat) (x : Tile) : State :=
  (s.engineScratch aid (s.stageBytes q.entry q.core (s.job q.job).pasid x)).forgetFetched q.entry

/-- The state when the bytes of a staging's tile have been read at home and have landed. -/
def State.landed (s : State) (q : StageReq) (aid : Nat) (x : Tile) : State :=
  (s.engineTouch q.core (s.job q.job).pasid (x.side.marks 32)).landTile q aid x

theorem State.forgetFetched_allocs (s : State) (owner : Nat) :
    (s.forgetFetched owner).allocs = s.allocs ∧ (s.forgetFetched owner).cores = s.cores ∧ (s.forgetFetched owner).clusters = s.clusters ∧
      s.sameMemory (s.forgetFetched owner) := by
  unfold State.forgetFetched
  split <;> exact ⟨rfl, rfl, rfl, .of_eq rfl rfl rfl⟩

/-- What a tile's landing changes: the bytes of its place in SCRATCH. -/
theorem State.landed_spec {s : State} {q : StageReq} {aid : Nat} {al : Alloc} {x : Tile} (hal : NMap.get? s.allocs aid = some al)
    (hw : al.waits = []) :
    (s.landed q aid x).cores = s.cores ∧ (s.landed q aid x).clusters = s.clusters ∧ s.sameMemory (s.landed q aid x) ∧
      ∀ i k, i < x.rows → k < x.rb → ((s.landed q aid x).alloc aid).cells.read (x.base + i * x.rb + k) =
        (s.engineRead q.entry q.core (s.job q.job).pasid (x.va + i * x.pitch + k)).1 := by
  have ht := s.engineTouch_tagged q.core (s.job q.job).pasid (x.side.marks 32)
  unfold State.landed
  generalize s.engineTouch q.core (s.job q.job).pasid (x.side.marks 32) = t at ht ⊢
  obtain ⟨hcores, hclusters, -, hmem, hhost, hpois, hjobs, -, hallocs, -⟩ := ht.frame
  have hjob : t.job q.job = s.job q.job := by unfold State.job; rw [hjobs]
  unfold State.landTile
  rw [hjob]
  obtain ⟨hoff, ⟨al', hal', hcells, -⟩⟩ := State.engineScratch_idle (s := t) (hallocs ▸ hal) hw
    (t.stageBytes q.entry q.core (s.job q.job).pasid x)
  obtain ⟨hfa, hfc, hfk, hfm⟩ := State.forgetFetched_allocs
    (t.engineScratch aid (t.stageBytes q.entry q.core (s.job q.job).pasid x)) q.entry
  refine ⟨hfc.trans ((congrArg State.cores hoff :).trans hcores), hfk.trans ((congrArg State.clusters hoff :).trans hclusters),
    .trans (.of_eq ((congrArg State.mem hoff :).trans hmem) ((congrArg State.hostMem hoff :).trans hhost)
      ((congrArg State.poison hoff :).trans hpois)) hfm, fun i k hi hk => ?_⟩
  rw [State.alloc_of_get? (hfa ▸ hal'), hcells]
  unfold State.stageBytes
  rw [List.map_map]
  refine (Memory.read_write_range al.cells x.base
    (fun j => (t.engineRead q.entry q.core (s.job q.job).pasid (x.side.at j)).1) x.side.bytes _).trans ?_
  have hlt : i * x.rb + k < x.side.bytes := Tile.row_lt hi hk
  rw [if_pos (by omega), show x.base + i * x.rb + k - x.base = i * x.rb + k by omega, Tile.side_at hk, ht.engineRead]

/-- STAGING_COMPLETE with every page at hand (R83). -/
theorem exec_stagingComplete {s : State} {cl : Nat} {q : StageReq} {e : Entry} {al : Alloc} {x : Tile} (hh : s.stageHead cl = some (q, e, al))
    (ha : q.active = true) (ht : q.tiles = [x]) (hva : ∀ va, va ∈ x.side.marks 32 → va < 2 ^ 57) (hn : s.stageNeed q = none) :
    exec (.stagingComplete cl) s = .next ((s.landed q al.aid x).endStage cl q none) := by
  have hm : q.tiles.flatMap (fun t => t.side.marks 32) = x.side.marks 32 := by rw [ht]; exact List.append_nil _
  have hok : (x.side.marks 32).find? (fun va => !vaOk va) = none :=
    List.find?_eq_none.2 (fun va h => by unfold vaOk; rw [decide_eq_true (hva va h)]; exact Bool.false_ne_true)
  refine congrArg Host.Outcome.next ?_
  rw [hh]
  simp only [ha, hm, hok, hn, Bool.not_true, Bool.false_eq_true, if_false]
  rw [ht]
  rfl

/-- An entry whose staging has ended is ready, with its tiles (R82, R83). -/
theorem State.endStage_spec {s : State} {cl : Nat} {q : StageReq} {qs : List StageReq} (h : (s.cluster cl).stageQ = q :: qs) :
    ((s.endStage cl q none).cluster cl).stageQ = qs ∧
      (∀ y, y ∈ ((s.endStage cl q none).core q.core).deque → y.uid = q.entry → y.ready = true ∧ y.tiles = q.tiles ∧ y.scause = none) := by
  constructor
  · exact State.stageQ_modStage (s := s.modCore q.core _) h _
  · intro y hy hu
    have hy' : y ∈ ((s.core q.core).modEntry q.entry (fun e =>
        { e with ready := true, tiles := q.tiles, scause := none, saddr := 0 })).deque := by
      have hc := s.core_modCore q.core q.core (fun k => k.modEntry q.entry (fun e =>
        { e with ready := true, tiles := q.tiles, scause := none, saddr := 0 }))
      rw [if_pos rfl] at hc
      rw [← hc]
      exact hy
    unfold Core.modEntry Core.deque at hy'
    rw [← List.map_append] at hy'
    obtain ⟨z, -, hz⟩ := List.mem_map.1 hy'
    by_cases he : z.uid = q.entry
    · rw [if_pos he] at hz
      subst hz
      exact ⟨rfl, rfl, rfl⟩
    · rw [if_neg he] at hz
      exact absurd (hz ▸ hu) he

end Sys2Proof.Machine

namespace Sys2Proof
open Machine

/-- Settles O51: the operand of the head of the queue takes the base of the empty area, and lands there byte by byte. -/
theorem staging : Obligations.Staging := by
  unfold Obligations.Staging
  intro s cl aid q qs e al hq he ha hal hid
  have hh := State.stageHead_of hq he ha hal
  subst hid
  constructor
  · rintro b n hact hnop hst rfl rfl hfit
    have ht := tileOf_zero e.w
    have hx := State.startStage_of (s := s) (q := q) hst hnop (by rw [ht]; exact hfit) cl
    refine ⟨_, congrArg Host.Outcome.next (?_ : _ = s.startStage cl q e al), ?_, ?_⟩
    · simp only [hh, hact, Option.isSome_some, if_true]
      rfl
    · rw [hx, ht]
      exact State.stageQ_modStage hq _
    · rw [hx, ht]
      refine congrArg Alloc.staged (State.alloc_of_get? ?_ : _ = al.staging _ _ _)
      exact (NMap.get?_put _ _ _ _).trans (if_pos rfl)
  · intro x hact htiles hva hneed hw
    obtain ⟨hcores, hclusters, hmem, hcells⟩ := State.landed_spec (q := q) (x := x) hal hw
    have hqueue : ((s.landed q al.aid x).cluster cl).stageQ = q :: qs := by
      unfold State.cluster at hq ⊢
      rw [hclusters, hq]
    obtain ⟨hrest, hready⟩ := State.endStage_spec hqueue
    rw [htiles] at hready
    exact ⟨_, exec_stagingComplete hh hact htiles hva hneed, hrest, hready, hcells, hmem.trans (.of_eq rfl rfl rfl)⟩

end Sys2Proof
end
section
/-! ## A cell that a cluster cache overwrites from a line beside it

`Claims.Uncached` asks that the caches near a core hold no line of the cell's number. Of a line that lists a byte beyond its 128, it does not
exclude that this byte lies in the cell. FJOIN on a cell whose count is 0 pushes its continuation (R89); where that closure is to be staged,
the push is a fork (R205), which writes back the lines of the cluster cache that the core's signature matches, and so the stray byte
over the CONT bit that FJOIN has just set (R91). -/
set_option Elab.async false

open Sys2Proof Sys2Proof.Machine

namespace Sys2Proof.Machine

/-- The state that a word answers. -/
def stateAfter (i : Instr) (s : State) : State :=
  match exec i s with
  | .next t => t
  | _ => s

theorem stateAfter_of {i : Instr} {s t : State} (h : exec i s = .next t) : stateAfter i s = t := by
  unfold stateAfter
  rw [h]

/-- A line 0 whose one byte stands at offset 0x40085: in line 2049, whose signature bits line 0 shares (R192). -/
def strayLine : CLine := { pasid := 1, bytes := [(0x40085, ⟨0#8, true⟩)] }

/-- The demonstration wave with a handle in s16:s17 and the address of a line in s24:s25. -/
def joiningWave : Wave := placedWave.setSs [(16, 0x40080#32), (24, 0x40100#32)]

/-- The wave of a job whose first 2 MiB are mapped to the same device addresses. At 0x40080 is a cell of zero words, at 0x40100 the header of
a closure with one tile to be staged, and cluster 0 holds the stray line. -/
def joiningState : State :=
  ({ State.reset.withWave with
      cur := some ⟨0, 0, 0⟩
      mem := [(0x40102, 1#8), (0x40103, 0x41#8), (0x40118, 0x10#8), (0x4011A, 1#8)] }.modCore 0 (fun k =>
    { k with slots := [(0, joiningWave)], tlb := [⟨1, 0, 2 ^ 21, .dpa 0, true, true⟩] })).modCluster 0 (fun k => { k with cc := [(0, strayLine)] })

def joiningWord : Instr := .fjoin 16 24

def joiningCtx : Ctx :=
  { r := ⟨0, 0, 0⟩, wave := joiningWave, arm := { }, team := placedTeam, job := placedJob, lanes := 0xFFFFFFFF#32, ins := joiningWord }

/-- The state once the word's class is noted, and that after its release. -/
def joiningNoted : State := joiningState.noted joiningCtx joiningWord
def joiningReleased : State := joiningNoted.release 0 4

theorem joining_ready : Ready joiningState joiningWord joiningCtx where
  ctx := by decide +kernel
  fresh := rfl
  single := rfl
  go := by decide +kernel
  cls k hk := by
    obtain rfl := Option.some.inj (hk.symm.trans (show classOf joiningWord = some 10 from rfl))
    decide +kernel

theorem joining_cell : Claims.CellAt joiningNoted joiningCtx true (joiningCtx.wave.spair 16) 0x40080 :=
  ⟨by decide +kernel, by decide +kernel, by decide +kernel, by decide +kernel, by decide +kernel⟩

/-- The core has counted no rejection, so that to forget those of the arm changes nothing (R176). -/
theorem joining_unclaimed : (joiningNoted.modCore 0 (fun k => k.unclaim (fun r => r == ⟨0, 0, 0⟩))).cores = joiningNoted.cores := by
  decide +kernel

theorem joining_accepted {u : State} (h : Claims.Accepted joiningNoted joiningCtx u) : u = joiningNoted := by
  rcases h with h | h
  · exact h
  · exact h.trans (congrArg (fun l : NMap Core => { joiningNoted with cores := l }) joining_unclaimed)

theorem joining_uncached : Claims.Uncached joiningReleased 0 0x40080 ∧ Claims.Uncached joiningReleased 0 0x40100 :=
  ⟨⟨by decide +kernel, by decide +kernel⟩, by decide +kernel, by decide +kernel⟩

/-- The cell's second word, zero before, is zero after FJOIN too. -/
theorem joining_lost : Claims.cell joiningReleased.mem 0x40080 1 = 0#32 ∧
    Claims.cell (stateAfter joiningWord joiningState).mem 0x40080 1 = 0#32 := by decide +kernel

end Sys2Proof.Machine

namespace Sys2Proof
open Machine

/-- Refutes O46 in its last clause: after FJOIN at a cell whose count is 0, the fork of the pushed continuation has written a byte of
line 0 of the cluster's cache, which lies in the cell, over CONT. -/
theorem not_futureCells : ¬ Obligations.FutureCells := by
  unfold Obligations.FutureCells
  rintro ⟨-, -, -, -, h⟩
  obtain ⟨u, hu, h⟩ := h joiningState joiningCtx 16 24 0x40080 0x40100 joining_ready ⟨by decide +kernel, by decide +kernel⟩
  obtain rfl := joining_accepted hu
  obtain ⟨-, h⟩ := h (by decide) joining_cell (by decide +kernel) (by decide +kernel) (by decide +kernel) (by decide)
    (by decide +kernel) (by decide +kernel) joining_uncached.1 joining_uncached.2 (by decide +kernel) (by decide +kernel) (by decide +kernel)
  obtain ⟨t, ht, hjoined, -⟩ := h (by decide +kernel) (by decide +kernel)
  obtain ⟨hbefore, hafter⟩ := joining_lost
  rw [stateAfter_of (i := joiningWord) ht, hjoined] at hafter
  exact absurd ((congrArg (· ||| 0x200#32) hbefore).symm.trans hafter) (by decide)

end Sys2Proof
end
section
/-! ## A write-back that begins again after its wave has ended

A wave that ends keeps the arms that hold a store (R357). `State.tendCtx` finds the wave by an arm that is held by its tiles (R437), and
does not ask what that arm has captured, nor whether the wave has ended. Where an arm stands that is held by the tiles and has captured a store, the
wave's end leaves it, and the write-back begins once more: from no allocation, when the wave's team has ended meanwhile. -/
set_option Elab.async false

open Sys2Proof Sys2Proof.Machine

namespace Sys2Proof.Machine

/-- A tile of two bytes at local address 0, from which they go to 0x1000. -/
def endingTile : Tile := { base := 0, va := 0x1000, rows := 1, rb := 2, pitch := 2, wb := true }

def endingStore : Capture :=
  { id := 0, ins := .sts 0 0 0, pc := 0, word := 0, lanes := 0#32, popped := false, sregs := [], vregs := [], future := (0#32, 0#32) }

def endingArm : Arm := { hold := .tiles 0 0 0 }

/-- A wave without a future whose arm 0 waits in TEND, as does its arm 1, which has captured a store. -/
def endingWave : Wave :=
  { placedWave with tiles := [endingTile], arms := [(0, endingArm), (1, { endingArm with cap := some endingStore })] }

/-- The wave stands beside another one of its team, which has ended; the team counts one of them only, so that it ends with the
other one's slot. The page 0x1000 is mapped for the team's job, and for what stands for a job that does not exist. -/
def endingState : State :=
  (State.reset.withWave.modCore 0 (fun k =>
    { k with slots := [(0, endingWave), (1, { placedWave with uid := 2, arms := [], ended := true })],
             tlb := [⟨1, 0x1000, 0x1000, .dpa 0x1000, true, true⟩, ⟨0, 0x1000, 0x1000, .dpa 0x1000, true, true⟩] })).modAlloc 1
    (fun a => { a with cells := [(0, 1#8)] })

def endingCtx : Ctx := { r := ⟨0, 0, 0⟩, wave := endingWave, arm := endingArm, team := placedTeam, job := placedJob, lanes := 0#32 }

theorem ending_tendCtx : endingState.tendCtx 0 0 = some (endingCtx, 0, 0, 0) := by decide +kernel

theorem ending_backTiles : endingCtx.wave.backTiles = [endingTile] := rfl

/-- Both bytes of the tile have a place in device memory, outside the job's code. -/
theorem ending_places : ∀ i, i < 1 → ∀ k, k < 2 → 0x1000 + i * 2 + k < 2 ^ 57 ∧ placedJob.inCode (0x1000 + i * 2 + k) = false ∧
    endingState.xlate 0 1 (0x1000 + i * 2 + k) true = .hit (.dpa (0x1000 + i * 2 + k)) := by decide +kernel

theorem ending_place : ∀ i, i < 2 → endingState.xlate 0 1 (0x1000 + i / 2 * 2 + i % 2) true = .hit (.dpa (0x1000 + i)) := by decide +kernel

/-- What holds of a map's values and of the default holds of what stands at a key. -/
theorem NMap.at_of_all {α : Type} {p : α → Prop} {m : NMap α} {d : α} (h : ∀ e, e ∈ m → p e.2) (hd : p d) (k : Nat) : p (NMap.at m k d) := by
  unfold NMap.at
  cases hk : NMap.get? m k with
  | none => exact hd
  | some a => exact h _ (NMap.mem_of_get? hk)

/-- No core and no cluster holds a line. -/
theorem ending_cold (k j : Nat) : (endingState.core k).l1 ++ (endingState.cluster j).cc = [] :=
  List.append_eq_nil_iff.2
    ⟨NMap.at_of_all (p := fun c : Core => c.l1 = []) (m := endingState.cores) (by decide +kernel) rfl k,
      NMap.at_of_all (p := fun c : Cluster => c.cc = []) (m := endingState.clusters) (by decide +kernel) rfl j⟩

/-- The tile's first byte is 1 in SCRATCH, and 0 at its place in device memory after the write-back. -/
theorem ending_lost : (endingState.alloc 1).cells.read 0 = 1#8 ∧ (stateAfter (.tileWritebackComplete 0 0) endingState).mem.read 0x1000 = 0#8 := by
  decide +kernel

end Sys2Proof.Machine

namespace Sys2Proof
open Machine

/-- Refutes O47 in its clause on the write-back: its tile is written once from SCRATCH and once more, from an allocation that is gone, after
the wave's end. -/
theorem not_taskEnds : ¬ Obligations.TaskEnds := by
  unfold Obligations.TaskEnds
  rintro ⟨-, -, h, -, -⟩
  obtain ⟨t, ht, -, -, h⟩ := h endingState 0 0 endingCtx 0 0 0 ending_tendCtx (by decide +kernel)
    (fun tl htl i k hi hk => by
      rw [ending_backTiles, List.mem_singleton] at htl
      subst htl
      obtain ⟨hva, hcode, hx⟩ := ending_places i hi k hk
      exact ⟨hva, hcode, _, hx⟩) (by decide +kernel)
  have hread := h endingTile (fun i => 0x1000 + i) ending_backTiles rfl ending_place (fun i j _ _ e => Nat.add_left_cancel e)
    (fun k j _ e _ _ he => by rw [ending_cold] at he; cases he) 0 (by decide)
  obtain ⟨hbefore, hafter⟩ := ending_lost
  rw [stateAfter_of ht] at hafter
  exact absurd (hafter.symm.trans (hread.trans hbefore)) (by decide)

end Sys2Proof
end
section
/-! ## Encodings

The words of R107 to R112 decode to the instructions that they encode. -/
set_option Elab.async false

open Sys2Proof Sys2Proof.Machine

namespace Sys2Proof.Laws.Coded

/-- Every instruction word is decoded from its encoding by the law of its own fields (R107 to R112); a step of the device or the host
has no encoding (R98). -/
theorem decodes : ∀ i : Instr, Statement i
  | .nop => nop | .exit => exit | .trap i => trap i | .brk i => brk i | .preoff a => preoff a | .preon => preon | .getc d i => getc d i
  | .setc a i => setc a i | .fence s => fence s | .acq s => acq s | .rel s => rel s | .drain n => drain n | .rdvi a p => rdvi a p
  | .rdva p => rdva p | .rdvw p => rdvw p | .smap b p => smap b p | .sunmap p => sunmap p | .mqcfg e => mqcfg e | .tend a => tend a
  | .ptake => ptake | .ppass a => ppass a | .ppassFree => ppassFree | .ret a => ret a | .jmp a => jmp a | .merge => merge
  | .cwait a => cwait a | .sadd d a b => sadd d a b | .ssub d a b => ssub d a b | .smul d a b => smul d a b
  | .smulh d a b u => smulh d a b u | .sand d a b => sand d a b | .sor d a b => sor d a b | .sxor d a b => sxor d a b
  | .sandn d a b => sandn d a b | .sshl d a b => sshl d a b | .sshr d a b u => sshr d a b u | .ssra d a b => ssra d a b
  | .smin d a b u => smin d a b u | .smax d a b u => smax d a b u | .ssel d a b => ssel d a b | .scmp d a b k => scmp d a b k
  | .sdiv d a b u v => sdiv d a b u v | .sbfx d a b u => sbfx d a b u | .sbfi d a b => sbfi d a b | .sclz d a => sclz d a
  | .spopc d a => spopc d a | .smov d a => smov d a | .sxget d a => sxget d a | .sxset a b => sxset a b | .maskp d p => maskp d p
  | .pmask p a => pmask p a | .vote d p u => vote d p u | .saddImm d a i => saddImm d a i | .sandImm d a i => sandImm d a i
  | .sorImm d a i => sorImm d a i | .sxorImm d a i => sxorImm d a i | .sshlImm d a n => sshlImm d a n | .sshrImm d a n => sshrImm d a n
  | .ssraImm d a n => ssraImm d a n | .scmpImm d a k i => scmpImm d a k i | .smovi d i => smovi d i | .slih d i => slih d i
  | .lds d a i => lds d a i | .sts d a i => sts d a i | .ldacq d a s w => ldacq d a s w | .strel d a s w => strel d a s w
  | .atoms d a b s f => atoms d a b s f | .bra o => bra o | .call o => call o | .bz a o => bz a o | .bnz a o => bnz a o
  | .bany p t o => bany p t o | .ball p t o => ball p t o | .bnone p t o => bnone p t o | .split p o => split p o
  | .switch a v n => switch a v n | .spawnS a => spawnS a | .spawnL a => spawnL a | .fnew a b u => fnew a b u | .fjoin a b => fjoin a b
  | .fwait d a => fwait d a | .fput a b => fput a b | .copy a => copy a | .copyM a b l n => copyM a b l n | .mma a l n => mma a l n
  | .mmaMc a b l n => mmaMc a b l n | .accz n => accz n | .accld a l n => accld a l n | .accst a l n => accst a l n
  | .cxopenIntersect a b n => cxopenIntersect a b n | .cxopenUnion a b n => cxopenUnion a b n | .cxopenExpand a n => cxopenExpand a n
  | .cxnext v d p n => cxnext v d p n | .cxsplit a b n => cxsplit a b n | .cxsave a n => cxsave a n | .cxload a n => cxload a n
  | .cxloadS a n => cxloadS a n | .cxclose n => cxclose n | .vadd d a b g => vadd d a b g | .vsub d a b g => vsub d a b g
  | .vmul d a b g => vmul d a b g | .vmulhI d a b g => vmulhI d a b g | .vand d a b g => vand d a b g | .vor d a b g => vor d a b g
  | .vxor d a b g => vxor d a b g | .vandn d a b g => vandn d a b g | .vshl d a b g => vshl d a b g | .vshr d a b g => vshr d a b g
  | .vsra d a b g => vsra d a b g | .vminI d a b g => vminI d a b g | .vmaxI d a b g => vmaxI d a b g | .vsel d a b q => vsel d a b q
  | .vmov d a g => vmov d a g | .vbcast d a g => vbcast d a g | .vminN d a b g => vminN d a b g | .vmaxN d a b g => vmaxN d a b g
  | .vmulhN d a b g => vmulhN d a b g | .vbfxI d a b g => vbfxI d a b g | .vbfxN d a b g => vbfxN d a b g | .vbfi d a b g => vbfi d a b g
  | .vclz d a g => vclz d a g | .vpopc d a g => vpopc d a g | .vbrev d a g => vbrev d a g | .vlaneid d g => vlaneid d g
  | .vmad d a b e n => vmad d a b e n | .vaddImm d a i => vaddImm d a i | .vandImm d a i => vandImm d a i | .vorImm d a i => vorImm d a i
  | .vxorImm d a i => vxorImm d a i | .vshlImm d a n => vshlImm d a n | .vshrImm d a n => vshrImm d a n | .vsraImm d a n => vsraImm d a n
  | .vmovImm d i => vmovImm d i | .vcmpInt p q a b t k => vcmpInt p q a b t k | .vcmpImm p q a i t k => vcmpImm p q a i t k
  | .vcmpF32 p q a b t k => vcmpF32 p q a b t k | .vfaddF32 d a b g => vfaddF32 d a b g | .vfsubF32 d a b g => vfsubF32 d a b g
  | .vfmulF32 d a b g => vfmulF32 d a b g | .vfminF32 d a b g => vfminF32 d a b g | .vfmaxF32 d a b g => vfmaxF32 d a b g
  | .vfdiv d a b g => vfdiv d a b g | .vfsqrt d a g => vfsqrt d a g | .vrcp d a g => vrcp d a g | .vrsq d a g => vrsq d a g
  | .vexp2 d a g => vexp2 d a g | .vlog2 d a g => vlog2 d a g | .vsin d a g => vsin d a g | .vcos d a g => vcos d a g
  | .vtanh d a g => vtanh d a g | .vfclassF32 d a g => vfclassF32 d a g | .vfcvtF32 d a k g => vfcvtF32 d a k g
  | .vfaddF16x2 d a b g => vfaddF16x2 d a b g | .vfsubF16x2 d a b g => vfsubF16x2 d a b g | .vfmulF16x2 d a b g => vfmulF16x2 d a b g
  | .vfminF16x2 d a b g => vfminF16x2 d a b g | .vfmaxF16x2 d a b g => vfmaxF16x2 d a b g | .vfclassF16x2 d a g => vfclassF16x2 d a g
  | .vfcvtF16x2 d a k g => vfcvtF16x2 d a k g | .vfaddBf16x2 d a b g => vfaddBf16x2 d a b g | .vfsubBf16x2 d a b g => vfsubBf16x2 d a b g
  | .vfmulBf16x2 d a b g => vfmulBf16x2 d a b g | .vfminBf16x2 d a b g => vfminBf16x2 d a b g
  | .vfmaxBf16x2 d a b g => vfmaxBf16x2 d a b g | .vfclassBf16x2 d a g => vfclassBf16x2 d a g
  | .vfcvtBf16x2 d a k g => vfcvtBf16x2 d a k g | .vfmaF32 d a b e n => vfmaF32 d a b e n | .vfmaF16x2 d a b e n => vfmaF16x2 d a b e n
  | .vfmaBf16x2 d a b e n => vfmaBf16x2 d a b e n | .pand d a b g => pand d a b g | .por d a b g => por d a b g
  | .pxor d a b g => pxor d a b g | .pnot d a g => pnot d a g | .shflIdx d a b g => shflIdx d a b g | .shflUp d a b g => shflUp d a b g
  | .shflDown d a b g => shflDown d a b g | .shflXor d a b g => shflXor d a b g | .shflBcast d a b g => shflBcast d a b g
  | .vred d a g f => vred d a g f | .vscan d a k f => vscan d a k f | .ld d a b g n z => ld d a b g n z
  | .st d a b g n z => st d a b g n z | .ldl d a b g z => ldl d a b g z | .ldlW d a b g z => ldlW d a b g z
  | .ldlWc d a b g z => ldlWc d a b g z | .stl d a b g z => stl d a b g z | .stlFill d a b g z => stlFill d a b g z
  | .atom d a b g f => atom d a b g f | .atoml d a b g f => atoml d a b g f | .pref a b g f => pref a b g f
  | .eventWrite .. | .resultArrival .. | .missStatusRetry .. | .futureDelivery | .errorDelivery | .messageArrival ..
  | .taskDispatch .. | .steal .. | .stagingStart .. | .stagingComplete .. | .tileWritebackComplete .. | .copyStart ..
  | .copyCompletion .. | .matrixOpStart .. | .matrixOpEnd .. | .brambleOpStart .. | .mmaMcWindowLapse .. | .teamPlacement ..
  | .rootClosurePush .. | .switchOut .. | .switchIn .. | .preoffWindowExpiry .. | .periodStart .. | .budgetExhausted .. | .jobEnd ..
  | .sweepVisit .. | .sweepTest .. | .testResult .. | .drainmaxExpiry .. | .coreGated .. | .launch .. | .createContract ..
  | .destroyContract .. | .drainJob .. | .cmdUndefined .. | .graftRead .. | .regraft .. | .capRead .. | .capFence .. | .capRetest ..
  | .sweepSet .. | .migrate .. | .migrateEnd .. | .groupSet .. | .powerSetClockStep .. | .powerSetGate .. | .powerSetHbmRefresh ..
  | .alarmSet .. | .viSet .. | .attest .. | .retransmit .. | .illegalInstruction .. | .brambleOpEnd .. | .sqdbWrite .. | .sqblWrite ..
  | .eqblWrite .. | .vipasWrite .. | .registerWrite .. | .moduleReset .. | .stackReset .. | .clusterReset .. | .mevtClear ..
  | .inventory | .sensors | .i3cPower .. | .i3cAttest .. | .status | .i3cReset | .fwWrite .. | .fwCommit .. | .i3cUnknownCommand ..
  | .translationCompletion .. | .pageResponse .. | .invalidateRequest .. | .peerRequest .. | .linkAck .. | .currentAlarmHigh ..
  | .currentAlarmLow .. | .lineEviction .. | .numvfsWrite .. | .dynamicAddressAssignment .. => no_word rfl

end Sys2Proof.Laws.Coded

namespace Sys2Proof

/-- Settles O3, instruction by instruction. -/
theorem decodeEncode : Obligations.DecodeEncode := by
  unfold Obligations.DecodeEncode
  exact Laws.Coded.decodes

/-- Settles O4: each group of the printed words is decoded. -/
theorem decodeWords : Obligations.DecodeWords := by
  unfold Obligations.DecodeWords
  refine ⟨?system, ?scalar, ?vectorAndPredicate, ?memory, ?tasks, ?engines, ?bramble⟩
  all_goals decide +kernel

end Sys2Proof
end
section
/-! ## Shifts

An amount modulo 32 and what a shift fills with (R110, R126). -/
set_option Elab.async false

open Sys2Proof Sys2Proof.Machine

namespace Sys2Proof.Machine

theorem shl_eq_shifted (a b : Word) : shl a b = Claims.shifted 0 b.toNat a := rfl

theorem shr_eq_shifted (a b : Word) : shr a b = Claims.shifted 1 b.toNat a := rfl

theorem sra_eq_shifted (a b : Word) : sra a b = Claims.shifted 2 b.toNat a := rfl

/-- An immediate amount keeps its value as a word, so that a shift takes it modulo 32 like one from a register (R126). -/
theorem toNat_setWidth_amount (n : BitVec 6) : (n.setWidth 32).toNat = n.toNat := BitVec.toNat_setWidth_of_le (by decide)

/-- The scalar shifts write the operand shifted as the table says. -/
theorem exec_scalarShift {s : State} {i : Instr} {c : Ctx} {d : Reg} {x : Word} {n k : Nat} (h : Ready s i c)
    (hr : Claims.scalarShift c i = some (d, x, n, k)) :
    exec i s = .next (Claims.wrote s c i (fun w => w.setS d.toNat (Claims.shifted k n x))) := by
  cases i with
  | sshl | ssra =>
    cases hr
    exact State.run_scalar h rfl _
  | sshr d a b u =>
    cases hr
    refine (State.run_scalar h rfl _).trans ?_
    by_cases hu : u = 1#1
    · simp only [if_pos hu]
      rfl
    · simp only [if_neg hu]
      rfl
  | sshlImm | sshrImm | ssraImm =>
    cases hr
    refine (State.run_scalar h rfl _).trans ?_
    simp only [shl_eq_shifted, shr_eq_shifted, sra_eq_shifted, toNat_setWidth_amount]
    rfl
  | _ => cases hr

/-- The vector shifts deliver every lane shifted as the table says. -/
theorem exec_vectorShift {s : State} {i : Instr} {c : Ctx} {d : Reg} {x : Nat → Word} {n : Nat → Nat} {k : Nat} (h : Ready s i c)
    (hr : Claims.vectorShift (s.begun c i).1 i = some (d, x, n, k)) : exec i s = .next ((s.begun c i).1.retire
      { vdst := [(d.toNat, LaneVec.ofFn (fun l => Claims.shifted k (n l) (x l)))] } (s.begun c i).2) := by
  cases i with
  | vshl | vshr | vsra =>
    cases hr
    exact State.run_ready h _
  | vshlImm | vshrImm | vsraImm =>
    cases hr
    refine (State.run_ready h _).trans ?_
    simp only [shl_eq_shifted, shr_eq_shifted, sra_eq_shifted, toNat_setWidth_amount]
    rfl
  | _ => cases hr

end Sys2Proof.Machine

namespace Sys2Proof
open Machine

/-- Settles O15, from the scalar and the vector shifts. -/
theorem shiftAmounts : Obligations.ShiftAmounts := by
  unfold Obligations.ShiftAmounts
  exact ⟨fun _ _ _ _ _ _ _ h hr => exec_scalarShift h hr, fun _ _ _ _ _ _ _ h hr => exec_vectorShift h hr⟩

end Sys2Proof
end
section
/-! ## Transfers of control

Branches, CALL, JMP and RET (R102, R332 to R337, R339, R371, R405), and the tiles that a predicate branch asks (R62, R333). -/
set_option Elab.async false

open Sys2Proof Sys2Proof.Machine

namespace Sys2Proof.Machine

/-! ### The lanes of a tile -/

/-- A mask holds a lane unless it is empty. -/
theorem mask_ne_zero_iff (m : Mask) : m ≠ 0#32 ↔ ∃ l, l < 32 ∧ m.getLsbD l = true := by
  refine ⟨fun h => ?_, fun ⟨l, _, hl⟩ e => by rw [e, BitVec.getLsbD_zero] at hl; cases hl⟩
  by_contra hno
  exact h (BitVec.eq_of_getLsbD_eq (fun l hl => by
    rw [BitVec.getLsbD_zero]
    exact Bool.eq_false_iff.2 (fun e => hno ⟨l, hl, e⟩)))

theorem mask_eq_zero_iff (m : Mask) : m = 0#32 ↔ ∀ l, l < 32 → m.getLsbD l ≠ true := by
  rw [← not_iff_not]
  refine (mask_ne_zero_iff m).trans ?_
  simp

/-- A lane lies in the tile of its number divided by the width (R62). -/
theorem getLsbD_tileMask {w l : Nat} (hw : 0 < w) (g : Nat) (hl : l < 32) : (tileMask w g).getLsbD l = decide (l / w = g) := by
  have hdiv : l / w = g ↔ w * g ≤ l ∧ l - w * g < w := by
    rw [Nat.div_eq_iff hw, Nat.mul_comm g w]
    omega
  unfold tileMask
  rw [BitVec.getLsbD_ofNat, decide_eq_true hl, Bool.true_and, Nat.testBit_mul_two_pow, Nat.testBit_two_pow_sub_one]
  simp only [hdiv, Bool.decide_and]

/-- The active lanes of a tile. -/
theorem getLsbD_tile {w l : Nat} (hw : 0 < w) (m : Mask) (g : Nat) (hl : l < 32) :
    (m &&& tileMask w g).getLsbD l = true ↔ l / w = g ∧ m.getLsbD l = true := by
  rw [BitVec.getLsbD_and, getLsbD_tileMask hw g hl, Bool.and_eq_true, decide_eq_true_iff, and_comm]

/-- LTILE's widths divide the wave (R62). -/
theorem tileWidth_dvd (x : Word) : tileWidth x ∣ 32 :=
  Nat.div_dvd_of_dvd (Nat.pow_dvd_pow 2 (Nat.le_trans (Nat.min_le_right x.toNat 4) (by decide) : min x.toNat 4 ≤ 5))

/-! ### Predicate branches -/

theorem voteTile_any (active p : Mask) :
    voteTile 0 active p = true ↔ ((∃ l, l < 32 ∧ active.getLsbD l = true ∧ p.getLsbD l = true) ↔ True) := by
  refine bne_iff_ne.trans ((mask_ne_zero_iff _).trans ?_)
  simp only [BitVec.getLsbD_and, Bool.and_eq_true, iff_true]

theorem voteTile_all (active p : Mask) :
    voteTile 1 active p = true ↔ ((∃ l, l < 32 ∧ active.getLsbD l = true ∧ p.getLsbD l = false) ↔ False) := by
  refine beq_iff_eq.trans ((mask_eq_zero_iff _).trans ?_)
  simp +contextual

theorem voteTile_none (active p : Mask) :
    voteTile 2 active p = true ↔ ((∃ l, l < 32 ∧ active.getLsbD l = true ∧ p.getLsbD l = true) ↔ False) := by
  refine beq_iff_eq.trans ((mask_eq_zero_iff _).trans ?_)
  simp [BitVec.getLsbD_and]

/-- A predicate branch is taken when its test holds in every tile with an active lane, and some lane is active (R333). -/
theorem Ctx.taken_iff {c : Ctx} {kind : Nat} {p : PReg} {test : Nat → Prop} {outcome : Prop}
    (h : ∀ active, voteTile kind active (c.wave.preg p.toNat) = true ↔ ((∃ l, l < 32 ∧ active.getLsbD l = true ∧ test l) ↔ outcome))
    (t : BitVec 1) : c.taken kind p t = true ↔ Claims.tilesHold c t test outcome := by
  unfold Ctx.taken Claims.tilesHold Wave.ltileNow
  generalize hw : (if t = 1#1 then tileWidth (c.wave.ltile0.getD c.wave.ltile) else 32) = w
  have hdvd : w ∣ 32 := by
    rw [← hw]
    split
    · exact tileWidth_dvd _
    · exact Nat.dvd_refl 32
  have hpos : 0 < w := Nat.pos_of_dvd_of_pos hdvd (by decide)
  have hactive (g : Nat) : c.arm.exm &&& tileMask w g ≠ 0#32 ↔ ∃ l, l < 32 ∧ l / w = g ∧ c.arm.exm.getLsbD l = true :=
    (mask_ne_zero_iff _).trans (exists_congr fun l => and_congr_right fun hl => getLsbD_tile hpos _ g hl)
  have hvote (g : Nat) : voteTile kind (c.arm.exm &&& tileMask w g) (c.wave.preg p.toNat) = true ↔
      ((∃ l, l < 32 ∧ l / w = g ∧ c.arm.exm.getLsbD l = true ∧ test l) ↔ outcome) := by
    refine (h _).trans (iff_congr (exists_congr fun l => and_congr_right fun hl => ?_) Iff.rfl)
    rw [getLsbD_tile hpos _ g hl, and_assoc]
  simp only [Bool.and_eq_true, bne_iff_ne, List.all_eq_true, List.mem_range, Bool.or_eq_true, beq_iff_eq, hvote]
  refine and_congr_right fun _ => forall_congr' fun g => ?_
  rw [← hactive, or_iff_not_imp_left]
  refine ⟨fun hg ha => ?_, fun hg _ => hg⟩
  obtain ⟨l, hl, rfl, -⟩ := (hactive g).1 ha
  exact hg (Nat.div_lt_div_of_lt_of_dvd hdvd hl) ha

/-! ### Where a transfer goes -/

theorem Ctx.transfer_inside {c : Ctx} {t : Int} (h0 : 0 ≤ t) (h : t < c.job.npkt) (f : Wave → Wave) (s : State) :
    c.transfer t f s = s.modWave c.r.core c.r.slot (fun w => (f w).modArm c.r.arm (fun a => a.goto t.toNat)) := if_pos ⟨h0, h⟩

/-- A transfer to anywhere else faults with the byte address of its target (R102). -/
theorem Ctx.transfer_outside {c : Ctx} {t : Int} (h : t < 0 ∨ c.job.npkt ≤ t) (f : Wave → Wave) (s : State) :
    c.transfer t f s = c.fault 0x10 0 (((c.job.cbase : Int) + 12 * t) % 2 ^ 64).toNat s := if_neg (by omega)

/-- An untaken branch goes to the next packet (R101). -/
theorem Ready.next_eq_moved {s : State} {i : Instr} {c : Ctx} (h : Ready s i c) :
    c.next (s.noted c i) = Claims.moved s c i (c.arm.pc + 1) :=
  State.modArm_congr h.stands.wave h.stands.arm rfl

/-- A byte address in the code segment that is a packet's (R102). -/
theorem Ctx.jump_packet {c : Ctx} {va k : Nat} (hva : va = c.job.cbase + 12 * k) (hk : k < c.job.npkt) (s : State) :
    c.jump va s = s.modArm c.r (fun a => a.goto k) := by
  have hsub : va - c.job.cbase = 12 * k := by omega
  have hin : c.job.inCode va = true := decide_eq_true (by omega)
  unfold Ctx.jump
  rw [hsub, if_pos ⟨hin, Nat.mul_mod_right 12 k⟩, Nat.mul_div_cancel_left k (by decide)]

theorem Ctx.jump_elsewhere {c : Ctx} {va : Nat} (h : ∀ n, n < c.job.npkt → va ≠ c.job.cbase + 12 * n) (s : State) :
    c.jump va s = c.fault 0x10 0 va s := by
  refine if_neg (fun ⟨hin, hmod⟩ => ?_)
  obtain ⟨hlo, hhi⟩ := of_decide_eq_true hin
  exact h ((va - c.job.cbase) / 12) (by omega) (by omega)

/-! ### The words -/

/-- A word that branches under a test makes its transfer when the test holds, else it goes on. -/
theorem Ready.run_branch {s : State} {i : Instr} {c : Ctx} (h : Ready s i c) (hv : (uses i).vs = []) {test : Ctx → Prop}
    [DecidablePred test] {taken : Prop} (ht : test c ↔ taken) {n : Nat} (o : BitVec n) :
    (taken → s.run i (fun c s => if test c then c.branch o s else c.next s) =
      .next (c.transfer (c.arm.pc + o.toInt) id (s.noted c i))) ∧
    (¬ taken → s.run i (fun c s => if test c then c.branch o s else c.next s) = .next (Claims.moved s c i (c.arm.pc + 1))) := by
  rw [State.run_scalar h hv, ← ht]
  refine ⟨fun hp => congrArg _ (if_pos hp), fun hn => congrArg _ ?_⟩
  rw [if_neg hn, h.next_eq_moved]

/-- A branch makes its transfer when it is taken, else it goes on (R332 to R337). -/
theorem exec_branch {s : State} {i : Instr} {c : Ctx} {taken : Prop} {off : Int} (h : Ready s i c)
    (hb : Claims.branch c i = some (taken, off)) :
    (taken → exec i s = .next (c.transfer (c.arm.pc + off) id (s.noted c i))) ∧
    (¬ taken → exec i s = .next (Claims.moved s c i (c.arm.pc + 1))) := by
  cases i with
  | bra o =>
    cases hb
    exact ⟨fun _ => State.run_scalar h rfl _, fun hn => absurd trivial hn⟩
  | bz a o =>
    cases hb
    exact h.run_branch rfl (test := fun c => c.sv a = 0#32) Iff.rfl o
  | bnz a o =>
    cases hb
    have hx := h.run_branch rfl (test := fun c => c.sv a ≠ 0#32) Iff.rfl o
    simp only [ite_not] at hx
    exact hx
  | bany p t o =>
    cases hb
    exact h.run_branch rfl (c.taken_iff (fun m => voteTile_any m (c.wave.preg p.toNat)) t) o
  | ball p t o =>
    cases hb
    exact h.run_branch rfl (c.taken_iff (fun m => voteTile_all m (c.wave.preg p.toNat)) t) o
  | bnone p t o =>
    cases hb
    exact h.run_branch rfl (c.taken_iff (fun m => voteTile_none m (c.wave.preg p.toNat)) t) o
  | _ => cases hb

theorem exec_call {s : State} {c : Ctx} {o : BitVec 25} (h : Ready s (.call o) c) :
    exec (.call o) s = .next (c.transfer (c.arm.pc + o.toInt)
      (fun w => (w.setS 62 (lo32 (c.job.packetVA (c.arm.pc + 1)))).setS 63 (hi32 (c.job.packetVA (c.arm.pc + 1)))) (s.noted c (.call o))) :=
  State.run_scalar h rfl _

/-- JMP and RET jump to the address in their register pair (R371, R405). -/
theorem exec_jump {s : State} {c : Ctx} {i : Instr} {a : Reg} (h : Ready s i c) (hi : i = .jmp a ∨ i = .ret a) :
    exec i s = .next (c.jump (c.wave.spair a.toNat) (s.noted c i)) := by
  obtain rfl | rfl := hi
  · exact State.run_scalar h rfl _
  · exact State.run_scalar h rfl _

end Sys2Proof.Machine

namespace Sys2Proof
open Machine

/-- Settles O28: each word makes a transfer or goes on, and a transfer goes to a packet of the job or faults. -/
theorem transfersOfControl : Obligations.TransfersOfControl := by
  unfold Obligations.TransfersOfControl
  refine ⟨fun s c i taken off h hb => ?_, fun s c o h => ⟨fun h0 hn => ?_, fun ho => ?_⟩,
    fun s c i a k h hi => ⟨fun hva hk => ?_, fun hno => ?_⟩⟩
  · obtain ⟨htaken, hnext⟩ := exec_branch h hb
    refine ⟨hnext, fun ht h0 hn => ?_, fun ht ho => ?_⟩
    · rw [htaken ht, Ctx.transfer_inside h0 hn]
      rfl
    · rw [htaken ht, Ctx.transfer_outside ho]
  · rw [exec_call h, Ctx.transfer_inside h0 hn]
    rfl
  · rw [exec_call h, Ctx.transfer_outside ho]
  · exact (exec_jump h hi).trans (congrArg Host.Outcome.next (Ctx.jump_packet hva hk _))
  · exact (exec_jump h hi).trans (congrArg Host.Outcome.next (Ctx.jump_elsewhere hno _))

end Sys2Proof
end
section
/-! ## Division

Quotient and remainder (R128). -/
set_option Elab.async false

open Sys2Proof Sys2Proof.Machine

namespace Sys2Proof.Machine

/-- The one division whose quotient overflows (R128). -/
theorem divide_overflow : divide false 0x80000000#32 0xFFFFFFFF#32 = (0x80000000#32, 0#32) := by decide

/-- The machine divides as R128 says. -/
theorem divide_eq_quotient (u : Bool) (a b : Word) : divide u a b = Claims.quotient u a b := by
  by_cases hb : b = 0#32
  · rw [divide, Claims.quotient, if_pos hb, if_pos hb]
  · by_cases ho : u = false ∧ a = 0x80000000#32 ∧ b = 0xFFFFFFFF#32
    · rw [Claims.quotient, if_neg hb, if_pos ho]
      obtain ⟨rfl, rfl, rfl⟩ := ho
      exact divide_overflow
    · rw [divide, Claims.quotient, if_neg hb, if_neg hb, if_neg ho, Nat.mod_eq_sub_div_mul, Int.tmod_def, Int.mul_comm b.toInt]

end Sys2Proof.Machine

namespace Sys2Proof
open Machine

/-- Settles O16: SDIV writes what the machine's division gives, and that is R128's. -/
theorem divideResult : Obligations.DivideResult := by
  unfold Obligations.DivideResult
  intro s c d a b u v h
  refine (State.run_scalar h rfl _).trans ?_
  simp only [divide_eq_quotient]
  rfl

end Sys2Proof
end
section
/-! ## Bit fields

Extracts and inserts, bit by bit (R129). -/
set_option Elab.async false

open Sys2Proof Sys2Proof.Machine

namespace Sys2Proof.Machine

theorem fieldOff_eq (ctl : Word) : fieldOff ctl = (ctl.extractLsb' 0 6).toNat := by
  rw [BitVec.extractLsb'_toNat, Nat.shiftRight_zero]
  rfl

theorem fieldWidth_eq (ctl : Word) : fieldWidth ctl = (ctl.extractLsb' 8 6).toNat := by
  rw [BitVec.extractLsb'_toNat, Nat.shiftRight_eq_div_pow]
  rfl

/-- The top bit of a field of `m + 1` bits is what its size says. -/
theorem testBit_top {f m : Nat} (h : f < 2 ^ (m + 1)) : f.testBit m = decide (2 ^ m ≤ f) := by
  by_cases hf : 2 ^ m ≤ f
  · rw [decide_eq_true hf]
    exact Nat.testBit_of_two_pow_le_and_two_pow_add_one_gt hf h
  · rw [decide_eq_false hf]
    exact Nat.testBit_lt_two_pow (by omega)

/-- A field of `m` bits with ones above it, up to bit 31. -/
theorem testBit_ones_above {f m n : Nat} (hm : m ≤ 32) (hf : f < 2 ^ m) (hn : n < 32) :
    (f + 2 ^ 32 - 2 ^ m).testBit n = if n < m then f.testBit n else true := by
  have h32 : 2 ^ 32 = 2 ^ m * 2 ^ (32 - m) := by rw [← Nat.pow_add, Nat.add_sub_cancel' hm]
  have heq : f + 2 ^ 32 - 2 ^ m = 2 ^ m * (2 ^ (32 - m) - 1) + f := by
    have : 2 ^ m ≤ 2 ^ 32 := Nat.pow_le_pow_right (by omega) hm
    rw [Nat.mul_sub, Nat.mul_one, ← h32]
    omega
  rw [heq, Nat.testBit_two_pow_mul_add _ hf]
  split
  · rfl
  · rw [Nat.testBit_two_pow_sub_one]
    exact decide_eq_true (by omega)

/-- A field of a word, by its bits. -/
theorem testBit_field (x off m n : Nat) : (x / 2 ^ off % 2 ^ m).testBit n = (decide (n < m) && x.testBit (off + n)) := by
  rw [Nat.testBit_mod_two_pow, Nat.testBit_div_two_pow, Nat.add_comm]

theorem extractBit_eq (signed : Bool) (x ctl : Word) (n : Nat) : Claims.extractBit signed x ctl n =
    if fieldWidth ctl = 0 ∨ 32 ≤ fieldOff ctl then false
    else if fieldOff ctl + n ≤ min (fieldOff ctl + fieldWidth ctl) 32 - 1 then x.getLsbD (fieldOff ctl + n)
    else signed && x.getLsbD (min (fieldOff ctl + fieldWidth ctl) 32 - 1) := by
  rw [fieldOff_eq, fieldWidth_eq]
  rfl

theorem insertBit_eq (t x ctl : Word) (n : Nat) : Claims.insertBit t x ctl n =
    if fieldOff ctl ≤ n ∧ n < fieldOff ctl + fieldWidth ctl then x.getLsbD (n - fieldOff ctl) else t.getLsbD n := by
  rw [fieldOff_eq, fieldWidth_eq]
  rfl

/-- Bit by bit, an extract is as R129 says. -/
theorem getLsbD_extractField (signed : Bool) (x ctl : Word) {n : Nat} (hn : n < 32) :
    (extractField signed x ctl).getLsbD n = Claims.extractBit signed x ctl n := by
  rw [extractBit_eq]
  unfold extractField
  generalize fieldOff ctl = off
  generalize fieldWidth ctl = w
  split
  · exact BitVec.getLsbD_zero
  · next h =>
    rw [not_or, Nat.not_le] at h
    extract_lets m f
    set top := min (off + w) 32 - 1 with ht
    -- the field has its highest bit at `top`, and at least one bit
    obtain ⟨k, hk⟩ : ∃ k, m = k + 1 := ⟨m - 1, by omega⟩
    have hf : f < 2 ^ (k + 1) := hk ▸ Nat.mod_lt _ (Nat.two_pow_pos m)
    have hbit (j : Nat) : f.testBit j = (decide (j < m) && x.getLsbD (off + j)) := testBit_field x.toNat off m j
    have htop : f.testBit k = x.getLsbD top := by
      rw [hbit, decide_eq_true (by omega), Bool.true_and, show off + k = top by omega]
    rw [testBit_top hf] at htop
    have hm1 : m - 1 = k := by omega
    rw [hm1, ← htop]
    by_cases hin : n < m
    · rw [if_pos (show off + n ≤ top by omega)]
      split
      · rw [BitVec.getLsbD_ofNat, decide_eq_true hn, Bool.true_and, testBit_ones_above (by omega) (hk ▸ hf) hn, if_pos hin, hbit,
          decide_eq_true hin, Bool.true_and]
      · rw [BitVec.getLsbD_ofNat, decide_eq_true hn, Bool.true_and, hbit, decide_eq_true hin, Bool.true_and]
    · rw [if_neg (show ¬ off + n ≤ top by omega)]
      split
      · next hs =>
        rw [BitVec.getLsbD_ofNat, decide_eq_true hn, Bool.true_and, testBit_ones_above (by omega) (hk ▸ hf) hn, if_neg hin, hs.1,
          decide_eq_true hs.2, Bool.true_and]
      · next hs =>
        rw [BitVec.getLsbD_ofNat, hbit, decide_eq_false hin, Bool.false_and, Bool.and_false]
        rw [← Bool.decide_eq_true (b := signed), ← Bool.decide_and, decide_eq_false hs]

/-- Bit by bit, an insert is as R129 says. -/
theorem getLsbD_insertField (t x ctl : Word) {n : Nat} (hn : n < 32) :
    (insertField t x ctl).getLsbD n = Claims.insertBit t x ctl n := by
  rw [insertBit_eq]
  unfold insertField
  generalize fieldOff ctl = off
  generalize fieldWidth ctl = w
  extract_lets m
  have hm : m.getLsbD n = (decide (off ≤ n) && decide (n - off < w)) := by
    rw [BitVec.getLsbD_ofNat, decide_eq_true hn, Bool.true_and, Nat.mul_comm, Nat.testBit_two_pow_mul, Nat.testBit_two_pow_sub_one]
  have hx : (BitVec.ofNat 32 (x.toNat * 2 ^ off)).getLsbD n = (decide (off ≤ n) && x.getLsbD (n - off)) := by
    rw [BitVec.getLsbD_ofNat, decide_eq_true hn, Bool.true_and, Nat.mul_comm, Nat.testBit_two_pow_mul]
    rfl
  rw [BitVec.getLsbD_or, BitVec.getLsbD_and, BitVec.getLsbD_and, BitVec.getLsbD_not, decide_eq_true hn, Bool.true_and, hx, hm]
  by_cases hin : off ≤ n ∧ n < off + w
  · rw [if_pos hin, decide_eq_true hin.1, decide_eq_true (show n - off < w by omega)]
    simp
  · rw [if_neg hin]
    have hout : (decide (off ≤ n) && decide (n - off < w)) = false := by
      rw [← Bool.decide_and]
      exact decide_eq_false (by omega)
    rw [hout]
    simp

end Sys2Proof.Machine

namespace Sys2Proof
open Machine

/-- Settles O17: each word writes the machine's extract or insert, whose bits are R129's. -/
theorem bitFields : Obligations.BitFields := by
  unfold Obligations.BitFields
  refine ⟨fun s c d a b u h => ⟨_, State.run_scalar h rfl _, fun n hn => getLsbD_extractField _ _ _ hn⟩,
    fun s c d a b h => ⟨_, State.run_scalar h rfl _, fun n hn => getLsbD_insertField _ _ _ hn⟩, fun s c i d f h hf => ?_⟩
  cases i with
  | vbfxI | vbfxN =>
    cases hf
    exact ⟨_, State.run_ready h _, fun l n hn => getLsbD_extractField _ _ _ hn⟩
  | vbfi =>
    cases hf
    exact ⟨_, State.run_ready h _, fun l n hn => getLsbD_insertField _ _ _ hn⟩
  | _ => cases hf

end Sys2Proof
end
section
/-! ## NaNs, infinities and signed zeros of f32

What an encoded word stands for (R130), and what the operations make of NaNs (R136 to R138). -/
set_option Elab.async false

open Sys2Proof Sys2Proof.Machine

namespace Sys2Proof.Machine

/-! ### NaNs of f32 -/

/-- A word is a NaN of f32: its exponent is all ones and its fraction is not zero (R130). -/
def F32Nan (x : Word) : Prop := x.extractLsb' 23 8 = 0xFF#8 ∧ x.extractLsb' 0 23 ≠ 0#23

/-- A NaN of f32 that signals (R136). -/
def F32Snan (x : Word) : Prop := F32Nan x ∧ x.getLsbD 22 = false

theorem f32_expo (x : Word) : Fmt.f32.expo x.toNat = (x.extractLsb' 23 8).toNat := by
  rw [BitVec.extractLsb'_toNat, Nat.shiftRight_eq_div_pow]
  rfl

theorem f32_frac (x : Word) : Fmt.f32.frac x.toNat = (x.extractLsb' 0 23).toNat := by
  rw [BitVec.extractLsb'_toNat, Nat.shiftRight_zero]
  rfl

/-- What a word of f32 stands for is no number where its exponent is all ones and its fraction is not zero. -/
theorem f32_num_eq_nan_iff (x : Nat) : Fmt.f32.num x = .nan ↔ Fmt.f32.expo x = 255 ∧ Fmt.f32.frac x ≠ 0 := by
  have hmax : Fmt.f32.expMax = 255 := rfl
  have hinf : Fmt.f32.inf = true := rfl
  unfold Fmt.num
  generalize Fmt.f32.expo x = e
  generalize Fmt.f32.frac x = m
  rw [hmax, hinf]
  by_cases h0 : e = 0
  · simp [h0]
  · by_cases h1 : e = 255
    · by_cases h2 : m = 0 <;> simp [h1, h2]
    · simp [h0, h1]

theorem f32_isNan_iff (x : Word) : Fmt.f32.isNan x.toNat = true ↔ F32Nan x := by
  unfold Fmt.isNan F32Nan
  rw [beq_iff_eq, f32_num_eq_nan_iff, f32_expo, f32_frac, BitVec.toNat_eq, ne_eq, ne_eq, BitVec.toNat_eq]
  rfl

/-- The top bit of the fraction is bit 22. -/
theorem f32_frac_top (x : Word) : Fmt.f32.frac x.toNat / 2 ^ (Fmt.f32.fb - 1) = (x.getLsbD 22).toNat := by
  have h : Fmt.f32.frac x.toNat / 2 ^ (Fmt.f32.fb - 1) = x.toNat / 2 ^ 22 % 2 := by
    show x.toNat % 2 ^ 23 / 2 ^ 22 = _
    omega
  rw [h, ← BitVec.testBit_toNat, Nat.toNat_testBit]

theorem f32_isSnan_iff (x : Word) : Fmt.f32.isSnan x.toNat = true ↔ F32Snan x := by
  unfold Fmt.isSnan F32Snan
  rw [Bool.and_eq_true, f32_isNan_iff, f32_frac_top, beq_iff_eq, Bool.toNat_eq_zero]

/-- A word with bit 22 set, by what it is before. -/
theorem toNat_or_bit22 (x : Word) :
    (x ||| 0x00400000#32).toNat = if x.getLsbD 22 = false then x.toNat + 2 ^ 22 else x.toNat := by
  have hbit : ∀ i, (0x00400000#32 : Word).getLsbD i = decide (22 = i) := fun i => by
    rw [show (0x00400000#32 : Word) = BitVec.twoPow 32 22 from rfl, BitVec.getLsbD_twoPow, decide_eq_true (by decide), Bool.true_and]
  split
  · next hb =>
    have hdisjoint : x &&& 0x00400000#32 = 0#32 := BitVec.eq_of_getLsbD_eq (fun i _ => by
      rw [BitVec.getLsbD_and, hbit, BitVec.getLsbD_zero, Bool.and_eq_false_iff, decide_eq_false_iff_not]
      by_cases h : 22 = i
      · exact .inl (h ▸ hb)
      · exact .inr h)
    have hlow : x.toNat / 2 ^ 22 % 2 = 0 := by
      rw [← Nat.toNat_testBit, BitVec.testBit_toNat, hb]
      rfl
    rw [← BitVec.add_eq_or_of_and_eq_zero _ _ hdisjoint, BitVec.toNat_add]
    exact Nat.mod_eq_of_lt (show x.toNat + 2 ^ 22 < 2 ^ 32 by have := x.isLt; omega)
  · next hb =>
    refine congrArg BitVec.toNat (BitVec.eq_of_getLsbD_eq (fun i _ => ?_))
    rw [BitVec.getLsbD_or, hbit]
    by_cases h : 22 = i
    · rw [← h, Bool.eq_true_of_not_eq_false hb, Bool.true_or]
    · rw [decide_eq_false h, Bool.or_false]

/-- A NaN made quiet is the NaN with bit 22 set (R136). -/
theorem f32_quiet (x : Word) : Fmt.f32.quiet x.toNat = (x ||| 0x00400000#32).toNat := by
  unfold Fmt.quiet
  rw [f32_frac_top, toNat_or_bit22]
  exact ite_congr (propext Bool.toNat_eq_zero) (fun _ => rfl) (fun _ => rfl)

/-! ### Operations on NaNs -/

theorem Fmt.pickNan_left {f : Fmt} {a : Nat} (h : f.isNan a = true) (b : Nat) : f.pickNan [a, b] = f.quiet a := by
  unfold Fmt.pickNan
  rw [List.find?_cons_of_pos h]

theorem Fmt.pickNan_right {f : Fmt} {a b : Nat} (ha : f.isNan a = false) (h : f.isNan b = true) : f.pickNan [a, b] = f.quiet b := by
  unfold Fmt.pickNan
  rw [List.find?_cons_of_neg (by rw [ha]; exact Bool.false_ne_true), List.find?_cons_of_pos h]

/-- NV is raised for a signalling NaN among two operands (R136). -/
theorem Fmt.nv_pair (f : Fmt) (a b : Nat) : f.nv [a, b] = if f.isSnan a = true ∨ f.isSnan b = true then 1#32 else 0#32 := by
  unfold Fmt.nv
  rw [List.any_cons, List.any_cons, List.any_nil, Bool.or_false]
  exact ite_congr (Bool.or_eq_true _ _) (fun _ => rfl) (fun _ => rfl)

/-- A sum with a NaN operand (R136). -/
theorem Fmt.add_nan {f : Fmt} {a b : Nat} (h : f.isNan a = true ∨ f.isNan b = true) (rm : Rm) :
    f.add rm a b = (f.pickNan [a, b], f.nv [a, b]) := by
  unfold Fmt.isNan at h
  rw [beq_iff_eq, beq_iff_eq] at h
  unfold Fmt.add
  rcases h with h | h
  · rw [h]
  · rw [h]
    cases f.num a <;> rfl

/-- A product with a NaN operand (R136). -/
theorem Fmt.mul_nan {f : Fmt} {a b : Nat} (h : f.isNan a = true ∨ f.isNan b = true) (rm : Rm) :
    f.mul rm a b = (f.pickNan [a, b], f.nv [a, b]) := by
  unfold Fmt.mul
  rw [if_pos (by rwa [Bool.or_eq_true])]

/-- The minimum and the maximum of a number and a NaN are the number, of two NaNs the first, made quiet (R138). -/
theorem Fmt.minMax_nan {f : Fmt} {a b x : Nat} (h : f.isNan a = true ∧ f.isNan b = true ∧ x = f.quiet a ∨
    f.isNan a = true ∧ f.isNan b = false ∧ x = b ∨ f.isNan a = false ∧ f.isNan b = true ∧ x = a) :
    f.minNum a b = (x, f.nv [a, b]) ∧ f.maxNum a b = (x, f.nv [a, b]) := by
  unfold Fmt.minNum Fmt.maxNum
  rcases h with ⟨ha, hb, rfl⟩ | ⟨ha, hb, rfl⟩ | ⟨ha, hb, rfl⟩
  · simp [ha, hb, Fmt.pickNan_left]
  · simp [ha, hb]
  · simp [ha, hb]

theorem Fmt.minMax_flags {f : Fmt} {a b : Nat} (h : f.isNan a = true ∨ f.isNan b = true) :
    ∃ x, f.minNum a b = (x, f.nv [a, b]) ∧ f.maxNum a b = (x, f.nv [a, b]) := by
  cases ha : f.isNan a with
  | true =>
    cases hb : f.isNan b with
    | true => exact ⟨_, Fmt.minMax_nan (.inl ⟨ha, hb, rfl⟩)⟩
    | false => exact ⟨_, Fmt.minMax_nan (.inr (.inl ⟨ha, hb, rfl⟩))⟩
  | false => exact ⟨_, Fmt.minMax_nan (.inr (.inr ⟨ha, h.resolve_left (by rw [ha]; exact Bool.false_ne_true), rfl⟩))⟩

/-! ### Infinities and zeros -/

theorem f32_add_infinities (rm : Rm) : Fmt.f32.add rm 0x7F800000 0xFF800000 = (0x7FC00000, 1#32) := by
  cases rm <;> decide

theorem f32_mul_zero_infinity (rm : Rm) : Fmt.f32.mul rm 0 0x7F800000 = (0x7FC00000, 1#32) := by
  cases rm <;> decide

/-- -0 orders below +0 (R138). -/
theorem f32_minMax_zeros : Fmt.f32.minNum 0 0x80000000 = (0x80000000, 0#32) ∧ Fmt.f32.maxNum 0x80000000 0 = (0, 0#32) := by decide

end Sys2Proof.Machine

namespace Sys2Proof
open Machine

/-- Settles O27: with a NaN operand each operation gives what R136 and R138 say of NaNs; the other special values are computed. -/
theorem floatSpecials : Obligations.FloatSpecials := by
  unfold Obligations.FloatSpecials
  intro rm a b nan snan f
  have hnan (x : Word) : nan x ↔ f.isNan x.toNat = true := (f32_isNan_iff x).symm
  have hsnan (x : Word) : snan x ↔ f.isSnan x.toNat = true := (f32_isSnan_iff x).symm
  have hquiet (x : Word) : f.quiet x.toNat = (x ||| 0x00400000#32).toNat := f32_quiet x
  simp only [hnan, hsnan, ← hquiet, Bool.not_eq_true]
  refine ⟨fun ha => ?_, fun ha hb => ?_, fun ha hb => ?_, fun ha hb => ?_, fun h => ?_, f32_add_infinities rm, f32_mul_zero_infinity rm,
    f32_minMax_zeros⟩
  · rw [Fmt.add_nan (.inl ha), Fmt.mul_nan (.inl ha), Fmt.pickNan_left ha]
    exact ⟨rfl, rfl⟩
  · obtain ⟨hmin, hmax⟩ := Fmt.minMax_nan (.inr (.inr ⟨ha, hb, rfl⟩))
    rw [Fmt.add_nan (.inr hb), Fmt.mul_nan (.inr hb), Fmt.pickNan_right ha hb, hmin, hmax]
    exact ⟨rfl, rfl, rfl, rfl⟩
  · obtain ⟨hmin, hmax⟩ := Fmt.minMax_nan (.inr (.inl ⟨ha, hb, rfl⟩))
    rw [hmin, hmax]
    exact ⟨rfl, rfl⟩
  · obtain ⟨hmin, hmax⟩ := Fmt.minMax_nan (.inl ⟨ha, hb, rfl⟩)
    rw [hmin, hmax]
    exact ⟨rfl, rfl⟩
  · obtain ⟨x, hmin, hmax⟩ := Fmt.minMax_flags h
    rw [Fmt.add_nan h, Fmt.mul_nan h, hmin, hmax, Fmt.nv_pair]
    exact ⟨fun hs => by rw [if_pos hs]; exact ⟨rfl, rfl, rfl, rfl⟩, fun hs => by rw [if_neg hs]; exact ⟨rfl, rfl, rfl, rfl⟩⟩

end Sys2Proof
end
section
/-! ## Accumulators

Elements of accumulators that a tile's operation writes and those that it leaves (R222), and a K block of an MMA (R155, R225). -/
set_option Elab.async false

open Sys2Proof Sys2Proof.Machine

namespace Sys2Proof.Machine

/-! ### Values set one after another -/

theorem NMap.at_set {α : Type} [BEq α] [LawfulBEq α] (m : NMap α) (d : α) (k j : Nat) (v : α) :
    NMap.at (NMap.set m d k v) j d = if j = k then v else NMap.at m j d := by
  unfold NMap.set
  split
  · next h =>
    unfold NMap.at
    rw [NMap.get?_del]
    split
    · exact (beq_iff_eq.1 h).symm
    · rfl
  · exact NMap.at_put _ _ _ _ _

section
variable {α β : Type} [BEq α] [LawfulBEq α] {ps : List β} {key : β → Nat} {val : β → α} {j : Nat}

theorem NMap.at_foldl_set_of_notMem (h : ∀ p, p ∈ ps → key p ≠ j) (m : NMap α) (d : α) :
    NMap.at (ps.foldl (fun m p => NMap.set m d (key p) (val p)) m) j d = NMap.at m j d := by
  induction ps generalizing m with
  | nil => rfl
  | cons p ps ih =>
    refine (ih (fun q hq => h q (List.mem_cons_of_mem _ hq)) _).trans ?_
    rw [NMap.at_set, if_neg (Ne.symm (h p List.mem_cons_self))]

/-- A key that is set, each time to one value, has that value. -/
theorem NMap.at_foldl_set_of_mem {p : β} {v : α} (hp : p ∈ ps) (hk : key p = j) (hv : ∀ q, q ∈ ps → key q = j → val q = v) (m : NMap α) (d : α) :
    NMap.at (ps.foldl (fun m p => NMap.set m d (key p) (val p)) m) j d = v := by
  induction ps generalizing m p with
  | nil => cases hp
  | cons q ps ih =>
    have hv' : ∀ r, r ∈ ps → key r = j → val r = v := fun r hr => hv r (List.mem_cons_of_mem _ hr)
    by_cases hl : ∃ r, r ∈ ps ∧ key r = j
    · obtain ⟨r, hr, hrk⟩ := hl
      exact ih hr hrk hv' _
    · have hnone : ∀ r, r ∈ ps → key r ≠ j := fun r hr e => hl ⟨r, hr, e⟩
      obtain rfl : p = q := (List.mem_cons.1 hp).resolve_right (fun h => hnone p h hk)
      refine (NMap.at_foldl_set_of_notMem hnone _ d).trans ?_
      rw [NMap.at_set, if_pos hk.symm, hv p List.mem_cons_self hk]

end
/-! ### The elements of an accumulator -/

/-- The places of the elements of one accumulator differ, where columns are below 128 (R222). -/
theorem accKey_inj {k i i' j j' : Nat} (hj : j < 128) (hj' : j' < 128) (h : accKey k i j = accKey k i' j') : i = i' ∧ j = j' := by
  unfold accKey at h
  omega

/-- The accumulators have their elements at different places. -/
theorem accKey_ne {k n i i' j j' : Nat} (hn : n ≠ k) (hi : i < 128) (hi' : i' < 128) (hj : j < 128) (hj' : j' < 128) :
    accKey n i j ≠ accKey k i' j' := by
  unfold accKey
  omega

theorem mem_tilePlaces {rows cols : Nat} {p : Nat × Nat} : p ∈ tilePlaces rows cols ↔ p.1 < rows ∧ p.2 < cols := by
  unfold tilePlaces
  simp only [List.mem_flatMap, List.mem_map, List.mem_range]
  constructor
  · rintro ⟨i, hi, j, hj, rfl⟩
    exact ⟨hi, hj⟩
  · exact fun ⟨hi, hj⟩ => ⟨p.1, hi, p.2, hj, rfl⟩

/-- An element of a tile that an operation writes. -/
theorem Core.accElem_setAcc_tile {n rows cols i j : Nat} (hi : i < rows) (hj : j < cols) (hc : cols ≤ 128) (c : Core) (f : Nat → Nat → Word) :
    (c.setAcc n (tilePlaces rows cols) f).accElem n i j = f i j :=
  NMap.at_foldl_set_of_mem (p := (i, j)) (mem_tilePlaces.2 ⟨hi, hj⟩) rfl (fun q hq hk => by
    obtain ⟨-, hq2⟩ := mem_tilePlaces.1 hq
    obtain ⟨h1, h2⟩ := accKey_inj (Nat.lt_of_lt_of_le hq2 hc) (Nat.lt_of_lt_of_le hj hc) hk
    rw [h1, h2]) _ _

/-- Every other element of the accumulators stays. -/
theorem Core.accElem_setAcc_other {k n rows cols i j : Nat} (hi : i < 128) (hj : j < 128) (hr : rows ≤ 128) (hc : cols ≤ 128)
    (h : k ≠ n ∨ rows ≤ i ∨ cols ≤ j) (c : Core) (f : Nat → Nat → Word) :
    (c.setAcc n (tilePlaces rows cols) f).accElem k i j = c.accElem k i j :=
  NMap.at_foldl_set_of_notMem (fun q hq hk => by
    obtain ⟨hq1, hq2⟩ := mem_tilePlaces.1 hq
    by_cases hn : k = n
    · subst hn
      obtain ⟨h1, h2⟩ := accKey_inj (Nat.lt_of_lt_of_le hq2 hc) hj hk
      omega
    · exact accKey_ne hn hi (Nat.lt_of_lt_of_le hq1 hr) hj (Nat.lt_of_lt_of_le hq2 hc) hk.symm) _ _

theorem NMap.get?_filter_of_not {α : Type} {p : Nat × α → Bool} {k : Nat} (h : ∀ a, p (k, a) = false) (m : NMap α) :
    NMap.get? (m.filter p) k = none := by
  cases hg : NMap.get? (m.filter p) k with
  | none => rfl
  | some a =>
    have hp := (List.mem_filter.1 (NMap.mem_of_get? hg)).2
    rw [h] at hp
    cases hp

/-- A zeroed accumulator holds zeros and is not poisoned (R222, R225). -/
theorem Core.zeroAcc_spec (c : Core) (k : Nat) : NMap.get? (c.zeroAcc k).accPois k = none ∧
    ∀ i j, i < 128 → j < 128 → (c.zeroAcc k).accElem k i j = 0#32 := by
  refine ⟨(NMap.get?_del _ _ _).trans (if_pos rfl), fun i j hi hj => ?_⟩
  have hk : accKey k i j / 16384 = k := by
    unfold accKey
    omega
  show (NMap.get? (c.acc.filter (fun e => e.1 / 16384 != k)) (accKey k i j)).getD 0#32 = 0#32
  rw [NMap.get?_filter_of_not (fun a => by rw [hk]; exact bne_self_eq_false _)]
  rfl

/-! ### Poisoned sectors -/

/-- The sectors that bytes touch, in rising order. -/
theorem sectorsOf_map (a n : Nat) : (sectorsOf a n).map (fun e => 4 * e.1 + e.2) = List.range' (a / 32) ((a + n - 1) / 32 + 1 - a / 32) := by
  unfold sectorsOf
  rw [List.map_map, List.range'_eq_map_range]
  refine List.map_congr_left (fun k _ => ?_)
  show 4 * ((a / 32 + k) / 4) + (a / 32 + k) % 4 = _
  omega

/-- Bytes touch a sector. -/
def spans (a n k : Nat) : Prop := a / 32 ≤ k ∧ k ≤ (a + n - 1) / 32

/-- The address of the lowest poisoned sector of an allocation among some sectors, if one of them is poisoned. -/
structure Alloc.LowestPoison (al : Alloc) (p : Nat → Prop) (x : Option Nat) : Prop where
  none_iff : x = none ↔ ∀ k, k ∈ al.pois → ¬ p k
  least : ∀ a, x = some a → ∃ k, a = 32 * k ∧ k ∈ al.pois ∧ p k ∧ ∀ m, m ∈ al.pois → p m → k ≤ m

theorem Alloc.poisonIn_lowest (al : Alloc) (a : Nat) {n : Nat} (hn : 1 ≤ n) : al.LowestPoison (spans a n) (al.poisonIn a n) := by
  have hmem (k : Nat) : a / 32 ≤ k → (k < a / 32 + ((a + n - 1) / 32 + 1 - a / 32) ↔ spans a n k) := by
    unfold spans
    omega
  unfold Alloc.poisonIn
  rw [sectorsOf_map]
  refine ⟨?_, fun x hx => ?_⟩
  · rw [Option.map_eq_none_iff, List.find?_range'_eq_none]
    constructor
    · intro h k hk hs
      have := h k hs.1 ((hmem k hs.1).2 hs)
      simp [hk] at this
    · intro h k hlo hhi
      simpa using fun hk => h k hk ((hmem k hlo).1 hhi)
  · obtain ⟨k, hk, rfl⟩ := Option.map_eq_some_iff.1 hx
    obtain ⟨hp, hr, hlow⟩ := List.find?_range'_eq_some.1 hk
    have hr := List.mem_range'_1.1 hr
    refine ⟨k, rfl, List.contains_iff_mem.1 hp, (hmem k hr.1).1 hr.2, fun m hm hs => ?_⟩
    by_contra hlt
    have := hlow m hs.1 (by omega)
    simp [hm] at this

/-- The lowest poisoned sector that rows touch is the lowest of those of the rows. -/
theorem Alloc.rowsPoison_lowest (al : Alloc) (base pitch rows : Nat) {rb : Nat} (hb : 1 ≤ rb) :
    al.LowestPoison (fun k => ∃ i, i < rows ∧ spans (base + i * pitch) rb k) (al.rowsPoison base pitch rows rb) := by
  have hrow (i : Nat) := al.poisonIn_lowest (base + i * pitch) hb
  unfold Alloc.rowsPoison
  refine ⟨?_, fun x hx => ?_⟩
  · rw [List.min?_eq_none_iff, List.filterMap_eq_nil_iff]
    constructor
    · rintro h k hk ⟨i, hi, hs⟩
      exact ((hrow i).none_iff.1 (h i (List.mem_range.2 hi))) k hk hs
    · exact fun h i hi => (hrow i).none_iff.2 (fun k hk hs => h k hk ⟨i, List.mem_range.1 hi, hs⟩)
  · obtain ⟨hmem, hle⟩ := List.min?_eq_some_iff.1 hx
    obtain ⟨i, hi, he⟩ := List.mem_filterMap.1 hmem
    obtain ⟨k, rfl, hk, hs, -⟩ := (hrow i).least x he
    refine ⟨k, rfl, hk, ⟨i, List.mem_range.1 hi, hs⟩, ?_⟩
    rintro m hm ⟨j, hj, hs'⟩
    cases hp : al.poisonIn (base + j * pitch) rb with
    | none => exact absurd hs' ((hrow j).none_iff.1 hp m hm)
    | some y =>
      obtain ⟨l, rfl, -, -, hl⟩ := (hrow j).least y hp
      have h1 := hle (32 * l) (List.mem_filterMap.2 ⟨j, List.mem_range.2 hj, hp⟩)
      have h2 := hl m hm hs'
      omega

/-! ### A K block -/

/-- An allocation without poison has none in any rows. -/
theorem Alloc.rowsPoison_clean {al : Alloc} (h : al.pois = []) (base pitch rows rb : Nat) : al.rowsPoison base pitch rows rb = none := by
  unfold Alloc.rowsPoison
  rw [List.filterMap_eq_nil_iff.2 (fun i _ => Alloc.poisonIn_clean h _ _)]
  rfl

/-- A K block of an allocation without poison reads none (R225). -/
theorem MatOp.poison_clean {al : Alloc} (h : al.pois = []) (o : MatOp) (q : Nat) : o.poison al q = none := by
  unfold MatOp.poison lowest
  simp only [Alloc.rowsPoison_clean h, ite_self]
  rfl

/-- What an MMA's next K block makes of its core (R155, R225). -/
def Core.blockDone (k : Core) (o : MatOp) (os : List MatOp) (al : Alloc) : Core :=
  { k.setAcc o.acc (tilePlaces o.a.rows o.b.cols) (fun i j => o.blockElem al o.kdone i j (k.accElem o.acc i j)) with
    matQ := { o with kdone := o.kdone + 1, pois := lowest [o.pois, o.poison al o.kdone] } :: os }

theorem State.core_blockDone {s : State} {core : Nat} {o : MatOp} {os : List MatOp} (h : (s.core core).matQ = o :: os) (hs : o.started = true)
    (hk : o.kind = .mma) (hd : o.kdone < o.a.cols / 64) :
    (s.blockDone core).core core = (s.core core).blockDone o os (s.alloc o.aid) := by
  have hgo : (!o.started || o.kind != .mma || decide (o.a.cols / 64 ≤ o.kdone)) = false := by
    rw [hs, hk, decide_eq_false (by omega)]
    rfl
  unfold State.blockDone
  simp only [h, hgo, Bool.false_eq_true, if_false]
  unfold State.modMat
  rw [State.core_modCore, if_pos rfl, State.core_modCore, if_pos rfl]
  show ({ (s.core core).setAcc o.acc _ _ with matQ := match (s.core core).matQ with | o :: os => _ :: os | [] => [] } : Core) = _
  rw [h]
  rfl

/-- A K block adds its group sums into the elements of its tile, and leaves the others; it has read poison only where the operation had or
its allocation holds some (R155, R225). -/
theorem Core.blockDone_spec (k : Core) (o : MatOp) (os : List MatOp) (al : Alloc) (hc : o.b.cols ≤ 128) :
    (∃ p, (k.blockDone o os al).matQ = { o with kdone := o.kdone + 1, pois := p } :: os ∧ (o.pois = none → al.pois = [] → p = none)) ∧
      (∀ i j, i < o.a.rows → j < o.b.cols →
        (k.blockDone o os al).accElem o.acc i j = o.blockElem al o.kdone i j (k.accElem o.acc i j)) ∧
      ∀ n i j, i < 128 → j < 128 → n ≠ o.acc ∨ o.a.rows ≤ i ∨ o.b.cols ≤ j → o.a.rows ≤ 128 →
        (k.blockDone o os al).accElem n i j = k.accElem n i j := by
  refine ⟨⟨_, rfl, fun hp ha => ?_⟩, fun i j hi hj => ?_, fun n i j hi hj hne hr => ?_⟩
  · rw [hp, MatOp.poison_clean ha]
    rfl
  · exact Core.accElem_setAcc_tile hi hj hc k (fun i j => o.blockElem al o.kdone i j (k.accElem o.acc i j))
  · exact Core.accElem_setAcc_other hi hj hr hc hne k (fun i j => o.blockElem al o.kdone i j (k.accElem o.acc i j))

end Sys2Proof.Machine
end
section
/-! ## What a core's rest leaves of its matrix engine

A core that comes to rest hands the pennant on, which may zero its accumulators (R48, R227), and frees slots (R357). -/
set_option Elab.async false

open Sys2Proof Sys2Proof.Machine

namespace Sys2Proof.Machine

/-- The matrix order of a core, its accumulators and their poison. -/
def Core.engine (k : Core) : List MatOp × NMap Word × NMap Nat := (k.matQ, k.acc, k.accPois)

/-! ### Slots that become free -/

theorem State.engine_of_offCaches {s t : State} (h : t.offCaches = s.offCaches) (d : Nat) : (t.core d).engine = (s.core d).engine :=
  (congrArg Core.engine (State.core_of_offCaches h d) :)

theorem State.rebank_engine (s : State) (cl d : Nat) : ((s.rebank cl).core d).engine = (s.core d).engine :=
  State.engine_of_offCaches (State.offCaches_of_offBanks (s.rebank_offBanks cl)) d

theorem State.leaveCluster_engine (s : State) (jid cl d : Nat) : ((s.leaveCluster jid cl).core d).engine = (s.core d).engine := by
  unfold State.leaveCluster
  split
  · rfl
  · split
    · rfl
    · exact State.rebank_engine _ _ _

theorem State.endTeam_engine (s : State) (tid d : Nat) : ((s.endTeam tid).core d).engine = (s.core d).engine := by
  unfold State.endTeam
  extract_lets t last u v
  have hu : (u.core d).engine = (s.core d).engine := by
    unfold u
    split
    · exact foldl_keeps (g := fun s : State => (s.core d).engine) (f := fun s c => s.release c 5)
        (fun s c => State.engine_of_offCaches (s.release_offCaches c 5) d) _ s
    · rfl
  split
  · exact (State.leaveCluster_engine _ _ _ _).trans hu
  · exact (State.rebank_engine _ _ _).trans hu

theorem State.engine_modCore (s : State) {c : Nat} {f : Core → Core} (h : ∀ k, (f k).engine = k.engine) (d : Nat) :
    ((s.modCore c f).core d).engine = (s.core d).engine := by
  rw [State.core_modCore]
  split
  · next e => rw [h, e]
  · rfl

theorem State.freeSlot_engine (s : State) (core slot : Nat) (w : Wave) (d : Nat) :
    ((s.freeSlot core slot w).core d).engine = (s.core d).engine := by
  unfold State.freeSlot
  extract_lets t u
  have hu : (u.core d).engine = (s.core d).engine := by
    unfold u
    rw [State.core_modTeam]
    exact s.engine_modCore (f := fun k => { k with slots := NMap.del k.slots slot }) (fun _ => rfl) d
  split
  · exact (u.endTeam_engine _ d).trans hu
  · exact hu

theorem Core.closeCursors_engine (k : Core) : k.closeCursors.engine = k.engine := by
  unfold Core.closeCursors
  split <;> rfl

/-- A core that comes to rest changes its matrix engine by the pennant's move alone. -/
theorem State.settle_engine (s : State) (core d : Nat) : ((s.settle core).core d).engine = ((s.settlePennant core).core d).engine := by
  unfold State.settle
  extract_lets t
  refine Eq.trans (foldl_keeps (g := fun s : State => (s.core d).engine) (fun s e => ?_) _ t)
    ((s.settlePennant core).engine_modCore Core.closeCursors_engine d)
  show ((if e.2.ended && !s.waveBusy core e.2 then s.freeSlot core e.1 e.2 else s).core d).engine = _
  split
  · exact s.freeSlot_engine _ _ _ _
  · rfl

/-! ### The pennant's move -/

/-- A core keeps its matrix order, and its accumulators with their poison or neither (R48). -/
structure Core.Rested (k l : Core) : Prop where
  matQ : l.matQ = k.matQ
  acc : l.acc = k.acc ∧ l.accPois = k.accPois ∨ l.acc = [] ∧ l.accPois = []

theorem Core.Rested.of_engine {k l : Core} (h : l.engine = k.engine) : k.Rested l :=
  ⟨(congrArg Prod.fst h :), .inl ⟨(congrArg (fun e => e.2.1) h :), (congrArg (fun e => e.2.2) h :)⟩⟩

theorem Core.Rested.trans {k l m : Core} (h : k.Rested l) (g : l.Rested m) : k.Rested m := by
  refine ⟨g.matQ.trans h.matQ, ?_⟩
  rcases g.acc with ⟨ga, gp⟩ | g0
  · rw [ga, gp]
    exact h.acc
  · exact .inr g0

theorem Core.Rested.pennantTo (k : Core) (slot job : Nat) : k.Rested (k.pennantTo slot job) := by
  refine ⟨rfl, ?_⟩
  unfold Core.pennantTo
  split
  · exact .inl ⟨rfl, rfl⟩
  · exact .inr ⟨rfl, rfl⟩

theorem Core.Rested.of_offSlots {k l m : Core} (h : k.Rested l) (e : m.offSlots = l.offSlots) : k.Rested m :=
  h.trans (.of_engine (congrArg Core.engine e :))

theorem State.rested_letGo (s : State) (core : Nat) (old : Option Nat) (d : Nat) : (s.core d).Rested ((s.letGo core old).core d) := by
  cases old with
  | none => exact .of_engine rfl
  | some h => exact .of_offSlots (.of_engine rfl) (s.offSlots_modWave core h d _)

theorem State.rested_givePennant (s : State) (core slot : Nat) : (s.core core).Rested ((s.givePennant core slot).core core) :=
  (Core.Rested.pennantTo _ _ _).of_offSlots (s.core_givePennant core slot)

theorem State.rested_passTo (s : State) (core : Nat) (found : Option (Nat × Wave)) : (s.core core).Rested ((s.passTo core found).core core) := by
  unfold State.passTo
  split
  · exact s.rested_givePennant _ _
  · split
    · exact s.rested_givePennant _ _
    · exact .of_engine (s.engine_modCore (f := fun k => { k with holder := none }) (fun _ => rfl) core)

theorem State.rested_handover (s : State) (core : Nat) (target : Option Nat) : (s.core core).Rested ((s.handover core target).core core) := by
  rw [State.handover_eq]
  exact (s.rested_letGo _ _ _).trans (State.rested_passTo _ _ _)

theorem State.rested_settlePennant (s : State) (core : Nat) : (s.core core).Rested ((s.settlePennant core).core core) := by
  unfold State.settlePennant
  extract_lets k
  split
  · exact .of_engine rfl
  · split
    · exact s.rested_handover _ _
    · split
      · exact .of_engine rfl
      · split
        · exact s.rested_handover _ _
        · split
          · exact s.rested_handover _ _
          · exact .of_engine rfl

/-- A core at rest holds the matrix order that it held; its accumulators too, unless the pennant's move has zeroed them. -/
theorem State.rested_settle (s : State) (core : Nat) : (s.core core).Rested ((s.settle core).core core) :=
  (s.rested_settlePennant core).trans (.of_engine (s.settle_engine core core))

/-- The pennant stays with a wave that goes on and does not pass it (R227). -/
theorem State.settlePennant_of_kept {s : State} {core slot : Nat} {w : Wave} (hh : (s.core core).holder = some slot)
    (hw : s.wave? core slot = some w) (he : w.ended = false) (hp : ∀ e, e ∈ w.arms → e.2.heldBy Hold.isPassing = false) :
    s.settlePennant core = s := by
  have hw' : NMap.get? (s.core core).slots slot = some w := hw
  have hnone : w.arms.findSome? (fun e => e.2.passes) = none := List.findSome?_eq_none_iff.2 (fun e h => Arm.passes_none (hp e h))
  unfold State.settlePennant
  simp only [hh, hw', he, Bool.false_eq_true, if_false]
  split
  · rfl
  · split
    · next u hu => cases hu.symm.trans hnone
    · rfl

/-- Where no wave of a core has ended, the pennant moves and cursors are closed, and no slot becomes free. -/
theorem State.settle_of_live {s : State} {core : Nat} (h : ∀ e, e ∈ (s.core core).slots → e.2.ended = false) :
    s.settle core = (s.settlePennant core).modCore core Core.closeCursors := by
  unfold State.settle
  extract_lets t
  have hl : ∀ e, e ∈ (t.core core).slots → e.2.ended = false := fun e he => by
    unfold t at he
    rw [State.core_modCore, if_pos rfl, Core.closeCursors_slots] at he
    obtain ⟨x, hx, f⟩ := (s.settlePennant_rearmed core).slots core e he
    exact (congrArg Wave.ended f :).symm.trans (h _ hx)
  refine List.foldlRecOn (motive := fun x => x = t) _ _ rfl (fun x hx e he => ?_)
  simp only [hl e he, Bool.false_and, Bool.false_eq_true, if_false, hx]

end Sys2Proof.Machine
end
section
/-! ## A core's L1 after the fork edge

The fork edge writes every dirty byte of the core's L1 back (R194, R205). -/
set_option Elab.async false

open Sys2Proof Sys2Proof.Machine

namespace Sys2Proof.Machine

theorem CLine.dirty_clean (l : CLine) : l.clean.dirty = [] := by
  unfold CLine.dirty CLine.clean
  rw [List.filterMap_eq_nil_iff]
  intro e he
  obtain ⟨x, -, rfl⟩ := List.mem_map.1 he
  exact if_neg Bool.false_ne_true

theorem State.lineOut_core (s : State) (cl la : Nat) (l : CLine) (home : Bool) (d : Nat) : (s.lineOut cl la l home).core d = s.core d :=
  (congrArg (fun t => State.core t d) (s.lineOut_offBanks cl la l home) :)

theorem State.writeBackCC_core (s : State) (cl : Nat) (g : BitVec 2048) (d : Nat) : (s.writeBackCC cl g).core d = s.core d := by
  refine foldl_keeps (g := fun s : State => s.core d) (fun s e => ?_) _ s
  show (if e.2.dirty.isEmpty || !sigMatch g e.1 then s else (s.lineHome e.1 e.2).setCC cl e.1 e.2.clean).core d = _
  split
  · rfl
  · exact (congrArg (fun t => State.core t d) (s.lineHome_offBanks e.1 e.2) :)

/-- Setting a line of an L1 leaves that line, or none in its place, and the others. -/
theorem State.get?_setL1 {s : State} {c la k : Nat} {l x : CLine} (h : NMap.get? ((s.setL1 c la l).core c).l1 k = some x) :
    x = l ∨ k ≠ la ∧ NMap.get? (s.core c).l1 k = some x := by
  unfold State.setL1 at h
  rw [State.core_modCore, if_pos rfl] at h
  by_cases hk : k = la
  · left
    dsimp only at h
    split at h
    · rw [NMap.get?_del, if_pos hk] at h
      cases h
    · rw [NMap.get?_put, if_pos hk] at h
      exact (Option.some.inj h).symm
  · refine .inr ⟨hk, ?_⟩
    dsimp only at h
    split at h
    · rwa [NMap.get?_del, if_neg hk] at h
    · rwa [NMap.get?_put, if_neg hk] at h

/-- No byte of a core's L1 is dirty after its write-back (R194). -/
theorem State.writeBackL1_clean {s : State} {c k : Nat} {home : Bool} {x : CLine}
    (h : NMap.get? ((s.writeBackL1 c home).core c).l1 k = some x) : x.dirty = [] := by
  have key (es : List (Nat × CLine)) : ∀ s : State, (∀ k x, NMap.get? (s.core c).l1 k = some x → x.dirty = [] ∨ (k, x) ∈ es) →
      ∀ k x, NMap.get? ((es.foldl (fun s e => if e.2.dirty.isEmpty then s
        else (s.lineOut (clusterOf c) e.1 e.2 home).setL1 c e.1 e.2.clean) s).core c).l1 k = some x → x.dirty = [] := by
    induction es with
    | nil => exact fun s hs k x h => (hs k x h).resolve_right List.not_mem_nil
    | cons e es ih =>
      refine fun s hs => ih _ (fun k x hx => ?_)
      dsimp only at hx
      split at hx
      · next hd =>
        rcases hs k x hx with hx | hx
        · exact .inl hx
        · rcases List.mem_cons.1 hx with rfl | hx
          · exact .inl (List.isEmpty_iff.1 hd)
          · exact .inr hx
      · rcases State.get?_setL1 hx with rfl | ⟨hk, hx⟩
        · exact .inl e.2.dirty_clean
        · rw [State.lineOut_core] at hx
          refine (hs k x hx).imp_right (fun hm => (List.mem_cons.1 hm).resolve_left ?_)
          rintro rfl
          exact hk rfl
  exact key _ s (fun _ _ hx => .inr (NMap.mem_of_get? hx)) k x h

/-- No byte of the core's L1 is dirty after the fork edge (R205). -/
theorem State.fork_clean {s : State} {c k : Nat} {x : CLine} (h : NMap.get? ((s.fork c).core c).l1 k = some x) : x.dirty = [] := by
  unfold State.fork at h
  rw [State.writeBackCC_core] at h
  exact State.writeBackL1_clean h

/-- The head of the matrix order starts after its fork edge (R224, R226). -/
theorem exec_matrixOpStart {s : State} {core : Nat} {o : MatOp} {os : List MatOp} (h : (s.core core).matQ = o :: os) (hs : o.started = false)
    (hw : o.waits = false) (hv : o.served = true) (hf : s.forkReady core o.slot o.uid o.id = true) :
    exec (.matrixOpStart core) s = .next (((s.fork core).modMat core (fun o => { o with started := true })).modCore core
      (fun k => { k with narrow := o.kind == .mma && (s.stack (stackOf core)).narrow })) := by
  show execMatrixOpStart core s = _
  unfold execMatrixOpStart
  simp only [h, hs, hw, hv, hf, Bool.not_true, Bool.or_self, Bool.false_eq_true, if_false]

/-- What the start makes of the core (R205, R224, R226). -/
theorem State.core_matStarted {s : State} {core : Nat} {o : MatOp} {os : List MatOp} (h : (s.core core).matQ = o :: os) (b : Bool) :
    (((s.fork core).modMat core (fun o => { o with started := true })).modCore core (fun k => { k with narrow := b })).core core =
      { (s.fork core).core core with matQ := { o with started := true } :: os, narrow := b } := by
  have hq : ((s.fork core).core core).matQ = o :: os := (congrArg Core.matQ (State.core_of_offCaches (s.fork_offCaches core) core) :).trans h
  unfold State.modMat
  rw [State.core_modCore, if_pos rfl, State.core_modCore, if_pos rfl]
  dsimp only
  rw [hq]

end Sys2Proof.Machine
end
section
/-! ## The end of a matrix operation

An operation that ends leaves the matrix order, and the core comes to rest (R48, R222, R224, R322, R323). -/
set_option Elab.async false

open Sys2Proof Sys2Proof.Machine

namespace Sys2Proof.Machine

/-- A core without an operation in its matrix order. -/
def Core.unqueueMat (k : Core) (id : Nat) : Core := { k with matQ := k.matQ.filter (fun x => x.id != id) }

theorem Core.id_of_mem_unqueueMat {k : Core} {id : Nat} {x : MatOp} (h : x ∈ (k.unqueueMat id).matQ) : x.id ≠ id :=
  bne_iff_ne.1 (List.mem_filter.1 h).2

/-- A state in which an operation has had its effect and left the order, before the core comes to rest. -/
def State.finished (s : State) (core : Nat) (o : MatOp) : State := (s.finishMat core o).modCore core (fun k => k.unqueueMat o.id)

theorem State.core_finished (s : State) (core : Nat) (o : MatOp) :
    (s.finished core o).core core = ((s.finishMat core o).core core).unqueueMat o.id :=
  (State.core_modCore _ _ _ _).trans (if_pos rfl)

section
variable {s : State} {core : Nat} {o : MatOp} {os : List MatOp}

/-- The operation at the head ends (R224). -/
theorem exec_matrixOpEnd (h : (s.core core).matQ = o :: os) (hs : o.started = true) :
    exec (.matrixOpEnd core) s = .next ((s.finished core o).settle core) := by
  show execMatrixOpEnd core s = _
  unfold execMatrixOpEnd
  simp only [h, hs, Bool.not_true, Bool.false_eq_true, if_false]
  rfl

/-- No operation with its number stands in the order when the core is at rest (R224). -/
theorem State.id_of_mem_finished {x : MatOp} (h : x ∈ (((s.finished core o).settle core).core core).matQ) : x.id ≠ o.id := by
  rw [(State.rested_settle _ _).matQ, State.core_finished] at h
  exact Core.id_of_mem_unqueueMat h

/-! ### ACCZ -/

theorem State.core_finished_accz (hk : o.kind = .accz) :
    (s.finished core o).core core = ((s.core core).zeroAcc o.acc).unqueueMat o.id := by
  rw [State.core_finished]
  unfold State.finishMat
  simp only [hk]
  rw [State.core_modCore, if_pos rfl]

/-- A core at rest holds zeros without poison where it held them (R48, R222). -/
theorem Core.Rested.zero {k l : Core} (h : k.Rested l) {n : Nat} (hz : NMap.get? k.accPois n = none ∧ ∀ i j, i < 128 → j < 128 → k.accElem n i j = 0#32) :
    NMap.get? l.accPois n = none ∧ ∀ i j, i < 128 → j < 128 → l.accElem n i j = 0#32 := by
  unfold Core.accElem at hz ⊢
  rcases h.acc with ⟨ha, hp⟩ | ⟨ha, hp⟩
  · rwa [ha, hp]
  · rw [ha, hp]
    exact ⟨rfl, fun _ _ _ _ => rfl⟩

theorem State.settle_accz (hk : o.kind = .accz) :
    NMap.get? (((s.finished core o).settle core).core core).accPois o.acc = none ∧
      ∀ i j, i < 128 → j < 128 → (((s.finished core o).settle core).core core).accElem o.acc i j = 0#32 := by
  refine (State.rested_settle _ _).zero ?_
  rw [State.core_finished_accz hk]
  exact Core.zeroAcc_spec _ _

/-! ### ACCLD -/

/-- The element that an ACCLD reads for a place of its tile (R322). -/
def MatOp.loadElem (o : MatOp) (al : Alloc) (i j : Nat) : Word :=
  widen o.fmt.mf (bytesNat (al.bytesAt (o.a.laddr + i * o.a.pitch + j * elemBytes o.fmt.mf) (elemBytes o.fmt.mf)))

/-- What an ACCLD makes of its core (R223, R225, R322). -/
def Core.loaded (k : Core) (o : MatOp) (al : Alloc) : Core :=
  { k.setAcc o.acc (tilePlaces o.a.rows o.a.cols) (o.loadElem al) with
    accPois := match al.rowsPoison o.a.laddr o.a.pitch o.a.rows (o.a.cols * elemBytes o.fmt.mf) with
      | some x => NMap.put k.accPois o.acc x
      | none => NMap.del k.accPois o.acc }

theorem State.core_finished_accld (hk : o.kind = .accld) :
    (s.finished core o).core core = ((s.core core).loaded o (s.alloc o.aid)).unqueueMat o.id := by
  rw [State.core_finished]
  unfold State.finishMat
  simp only [hk]
  unfold State.endAccld
  rw [State.core_modCore, if_pos rfl]
  rfl

/-- An ACCLD leaves the lowest poisoned sector that it reads as the poison of its accumulator (R225). -/
theorem Core.accPois_loaded (k : Core) (o : MatOp) (al : Alloc) :
    NMap.get? (k.loaded o al).accPois o.acc = al.rowsPoison o.a.laddr o.a.pitch o.a.rows (o.a.cols * elemBytes o.fmt.mf) := by
  show NMap.get? (match al.rowsPoison o.a.laddr o.a.pitch o.a.rows (o.a.cols * elemBytes o.fmt.mf) with
    | some x => NMap.put k.accPois o.acc x
    | none => NMap.del k.accPois o.acc) o.acc = _
  cases al.rowsPoison o.a.laddr o.a.pitch o.a.rows (o.a.cols * elemBytes o.fmt.mf) with
  | none => exact (NMap.get?_del _ _ _).trans (if_pos rfl)
  | some x => exact (NMap.get?_put _ _ _ _).trans (if_pos rfl)

/-- The pennant's holder, which does not pass it, keeps what its ACCLD has loaded (R227). -/
theorem State.engine_settle_accld {w : Wave} (hk : o.kind = .accld) (hh : (s.core core).holder = some o.slot)
    (hw : s.wave? core o.slot = some w) (he : w.ended = false) (hp : ∀ e, e ∈ w.arms → e.2.heldBy Hold.isPassing = false) :
    (((s.finished core o).settle core).core core).engine = (((s.core core).loaded o (s.alloc o.aid)).unqueueMat o.id).engine := by
  have hc := s.core_finished_accld (core := core) hk
  have hw' : (s.finished core o).wave? core o.slot = some w := by
    unfold State.wave? at hw ⊢
    rw [hc]
    exact hw
  rw [State.settle_engine, State.settlePennant_of_kept (by rw [hc]; exact hh) hw' he hp, hc]

/-! ### ACCST of a poisoned accumulator -/

/-- An ACCST of a poisoned accumulator halts its wave, or leaves the record of one that has ended (R323). -/
theorem State.finished_accst_poisoned {w : Wave} {x : Nat} (hk : o.kind = .accst) (hx : NMap.get? (s.core core).accPois o.acc = some x)
    (hw : s.wave? core o.slot = some w) : s.finished core o =
      (if w.ended then s.endedHalt core o.slot w ⟨o.pc, o.word, o.exm, true⟩ 1 (faultCause 0x13 0) x []
        else s.haltWave core o.slot (w.nextOf o.arm ⟨o.pc, o.word, o.exm, true⟩) (faultCause 0x13 0) x [] true).modCore core
      (fun k => k.unqueueMat o.id) := by
  unfold State.finished State.finishMat
  simp only [hk]
  unfold State.endAccst
  simp only [hx]
  unfold State.lateHalt
  simp only [hw]
  cases w.ended <;> rfl

end

/-! ### The window of an MMA.mc -/

theorem State.matQ_serve (s : State) (core id : Nat) :
    ((s.serve core id).core core).matQ = (s.core core).matQ.map (fun o => if o.id = id then { o with served := true } else o) := by
  unfold State.serve
  rw [State.core_modCore, if_pos rfl]

/-- An MMA.mc whose window has passed reads its operand itself (R228). -/
theorem exec_mmaMcWindowLapse {s : State} {core : Nat} {x : MatOp} (hx : (s.core core).openMc = some x)
    (hg : ∀ c m, (c, m) ∈ s.mcGroup core x → m.at_ + 64 < (s.stack (stackOf core)).ck) (ha : x.at_ + 64 < (s.stack (stackOf core)).ck) :
    exec (.mmaMcWindowLapse core) s = .next (s.serve core x.id) := by
  have hfirst : (((s.mcGroup core x).map (fun e => e.2.at_)).min?).getD x.at_ + 64 < (s.stack (stackOf core)).ck := by
    cases hm : ((s.mcGroup core x).map (fun e => e.2.at_)).min? with
    | none => exact ha
    | some m =>
      obtain ⟨e, he, rfl⟩ := List.mem_map.1 (List.min?_eq_some_iff.1 hm).1
      exact hg e.1 e.2 he
  show execMmaMcWindowLapse core s = _
  unfold execMmaMcWindowLapse
  simp only [hx, hfirst, true_or, if_true]

theorem State.served_of_mem_serve {s : State} {core id : Nat} {y : MatOp} (h : y ∈ ((s.serve core id).core core).matQ) (hy : y.id = id) :
    y.served = true := by
  rw [State.matQ_serve] at h
  obtain ⟨o, -, rfl⟩ := List.mem_map.1 h
  by_cases ho : o.id = id
  · rw [if_pos ho]
  · rw [if_neg ho] at hy
    exact absurd hy ho

end Sys2Proof.Machine
end
section
/-! ## The bytes of an ACCST land

An engine writes SCRATCH, fills granules and serves what waits there (R168, R169, R322); where nothing is poisoned no wave halts. -/
set_option Elab.async false

open Sys2Proof Sys2Proof.Machine

namespace Sys2Proof.Machine

/-- An allocation stands with some bytes and without poison, and no wave of a core has ended. -/
structure State.Sound (s : State) (aid core : Nat) (cells : Memory) : Prop where
  held : ∃ al, NMap.get? s.allocs aid = some al ∧ al.cells = cells ∧ al.pois = []
  live : ∀ e, e ∈ (s.core core).slots → e.2.ended = false

section
variable {s : State} {aid core : Nat} {cells : Memory}

theorem State.Sound.modAlloc {al : Alloc} (hal : NMap.get? s.allocs aid = some al) (hl : ∀ e, e ∈ (s.core core).slots → e.2.ended = false)
    {f : Alloc → Alloc} (hc : (f al).cells = cells) (hp : (f al).pois = []) : (s.modAlloc aid f).Sound aid core cells := by
  refine ⟨⟨f al, State.get?_modAlloc hal f, hc, hp⟩, ?_⟩
  have hcore : (s.modAlloc aid f).core core = s.core core := (congrArg (fun t => State.core t core) (s.modAlloc_offAllocs aid f) :)
  rwa [hcore]

theorem State.Sound.modWave (h : s.Sound aid core cells) (c k : Nat) {f : Wave → Wave} (hf : ∀ w, (f w).ended = w.ended) :
    (s.modWave c k f).Sound aid core cells := by
  refine ⟨by rw [State.modWave_allocs]; exact h.held, fun e he => ?_⟩
  unfold State.modWave at he
  split at he
  · next w hw =>
    rw [State.core_modCore] at he
    split at he
    · next hcore =>
      rcases NMap.mem_put _ _ _ _ he with rfl | he
      · exact (hf w).trans (h.live _ (hcore ▸ NMap.mem_of_get? hw))
      · exact h.live e (hcore ▸ he)
    · exact h.live e he
  · exact h.live e he

/-- A request that waited at a granule without poison is answered (R169). -/
theorem State.Sound.serveWait (h : s.Sound aid core cells) (q : BankWait) : (s.serveWait aid q).Sound aid core cells := by
  obtain ⟨al, hal, -, hp⟩ := h.held
  have hnone : (q.lanes.filterMap (fun x => (s.alloc aid).poisonIn x.2 q.size)).head? = none := by
    rw [State.alloc_of_get? hal, List.head?_eq_none_iff, List.filterMap_eq_nil_iff]
    exact fun x _ => Alloc.poisonIn_clean hp _ _
  unfold State.serveWait
  simp only [hnone]
  exact h.modWave _ _ (fun _ => rfl)

theorem State.Sound.fillGranule (h : s.Sound aid core cells) (g : Nat) : (s.fillGranule aid g).Sound aid core cells := by
  obtain ⟨al, hal, hc, hp⟩ := h.held
  exact List.foldlRecOn (motive := fun t : State => t.Sound aid core cells) _ _ (.modAlloc hal h.live hc hp) (fun _ ht q _ => ht.serveWait q)

end

/-- Bytes none of which comes from a poisoned source poison no sector. -/
theorem poisonedOf_clean {ws : List EByte} (h : ∀ w, w ∈ ws → w.pois = false) : poisonedOf ws = [] := by
  unfold poisonedOf
  rw [List.filter_eq_nil_iff]
  intro k _ hk
  obtain ⟨w, hw, he⟩ := List.any_eq_true.1 hk
  rw [h w hw, Bool.and_false] at he
  cases he

/-- An engine's write to an allocation without poison, of bytes without poison (R168, R178). -/
theorem State.engineScratch_sound {s : State} {aid core : Nat} {al : Alloc} {ws : List EByte} (hal : NMap.get? s.allocs aid = some al)
    (hp : al.pois = []) (hl : ∀ e, e ∈ (s.core core).slots → e.2.ended = false) (hw : ∀ w, w ∈ ws → w.pois = false) :
    (s.engineScratch aid ws).Sound aid core ((ws.map (fun w => (w.addr, w.val))).foldl (fun m e => Memory.write m e.1 e.2) al.cells) := by
  unfold State.engineScratch State.scratchPart
  refine List.foldlRecOn (motive := fun t : State => t.Sound aid core _) _ _ (.modAlloc hal hl rfl ?_) (fun _ ht g _ => ht.fillGranule g)
  show (poisonedOf ws).foldl setInsert (al.pois.filter _) = []
  rw [poisonedOf_clean hw, hp]
  rfl

/-! ### The bytes of a tile -/

theorem rowCol_inj {p i i' r r' : Nat} (hr : r < p) (hr' : r' < p) (h : i * p + r = i' * p + r') : i = i' ∧ r = r' := by
  have hi : i = i' := by
    have := congrArg (· / p) h
    simpa [Nat.add_comm (_ * p), Nat.add_mul_div_right _ _ (Nat.zero_lt_of_lt hr), Nat.div_eq_of_lt hr, Nat.div_eq_of_lt hr'] using this
  subst hi
  exact ⟨rfl, Nat.add_left_cancel h⟩

/-- The bytes of elements of a tile lie apart. -/
theorem tileByte_inj {pitch e cols i i' j j' b b' : Nat} (hp : cols * e ≤ pitch) (hj : j < cols) (hj' : j' < cols) (hb : b < e) (hb' : b' < e)
    (h : i * pitch + j * e + b = i' * pitch + j' * e + b') : i = i' ∧ j = j' ∧ b = b' := by
  have hin {j b : Nat} (hj : j < cols) (hb : b < e) : j * e + b < pitch :=
    calc j * e + b < j * e + e := Nat.add_lt_add_left hb _
      _ = (j + 1) * e := (Nat.succ_mul j e).symm
      _ ≤ pitch := (Nat.mul_le_mul_right e hj).trans hp
  obtain ⟨hi, hr⟩ := rowCol_inj (hin hj hb) (hin hj' hb') (by rw [← Nat.add_assoc, ← Nat.add_assoc, h])
  exact ⟨hi, rowCol_inj hb hb' hr⟩

/-- The bytes that an ACCST writes (R322). -/
def MatOp.storeBytes (o : MatOp) (k : Core) : List EByte :=
  (tilePlaces o.a.rows o.a.cols).flatMap (fun p =>
    (List.range (elemBytes o.fmt.mf)).map (fun b => ⟨o.a.laddr + p.1 * o.a.pitch + p.2 * elemBytes o.fmt.mf + b,
      (natBytes (elemBytes o.fmt.mf) (narrow o.fmt.mf (k.accElem o.acc p.1 p.2))).getD b 0#8, false⟩))

theorem MatOp.mem_storeBytes {o : MatOp} {k : Core} {w : EByte} : w ∈ o.storeBytes k ↔
    ∃ i j b, i < o.a.rows ∧ j < o.a.cols ∧ b < elemBytes o.fmt.mf ∧ w = ⟨o.a.laddr + i * o.a.pitch + j * elemBytes o.fmt.mf + b,
      (natBytes (elemBytes o.fmt.mf) (narrow o.fmt.mf (k.accElem o.acc i j))).getD b 0#8, false⟩ := by
  unfold MatOp.storeBytes
  simp only [List.mem_flatMap, List.mem_map, List.mem_range, mem_tilePlaces]
  constructor
  · rintro ⟨p, ⟨hi, hj⟩, b, hb, rfl⟩
    exact ⟨p.1, p.2, b, hi, hj, hb, rfl⟩
  · rintro ⟨i, j, b, hi, hj, hb, rfl⟩
    exact ⟨(i, j), ⟨hi, hj⟩, b, hb, rfl⟩

theorem Memory.readBytes_of_read {m : Memory} {a n : Nat} {l : List Byte} (hn : l.length = n)
    (h : ∀ k, k < n → m.read (a + k) = l.getD k 0#8) : m.readBytes a n = l := by
  subst hn
  induction l generalizing a with
  | nil => rfl
  | cons b l ih =>
    rw [List.length_cons, Memory.readBytes, ih (fun k hk => ?_)]
    · exact congrArg (· :: l) (h 0 (Nat.zero_lt_succ _))
    · rw [Nat.add_assoc, Nat.add_comm 1 k, h (k + 1) (Nat.succ_lt_succ hk), List.getD_cons_succ]

/-- The element that stands in memory where an ACCST has written its bytes (R322). -/
theorem MatOp.storeBytes_elem {o : MatOp} {k : Core} {i j : Nat} (hp : o.a.cols * elemBytes o.fmt.mf ≤ o.a.pitch) (hi : i < o.a.rows)
    (hj : j < o.a.cols) (m : Memory) :
    bytesNat ((((o.storeBytes k).map (fun w => (w.addr, w.val))).foldl (fun m e => Memory.write m e.1 e.2) m).readBytes
      (o.a.laddr + i * o.a.pitch + j * elemBytes o.fmt.mf) (elemBytes o.fmt.mf)) =
      narrow o.fmt.mf (k.accElem o.acc i j) % 256 ^ elemBytes o.fmt.mf := by
  rw [← Claims.bytesNat_natBytes]
  refine congrArg bytesNat (Memory.readBytes_of_read (Claims.natBytes_length _ _) (fun b hb => ?_))
  have hmem := List.mem_map_of_mem (f := fun w : EByte => (w.addr, w.val)) (MatOp.mem_storeBytes (k := k).2 ⟨i, j, b, hi, hj, hb, rfl⟩)
  refine NMap.at_foldl_set_of_mem (key := Prod.fst) (val := Prod.snd) hmem rfl (fun q hq hk => ?_) m _
  obtain ⟨w, hw, rfl⟩ := List.mem_map.1 hq
  obtain ⟨i', j', b', -, hj', hb', rfl⟩ := MatOp.mem_storeBytes.1 hw
  obtain ⟨rfl, rfl, rfl⟩ := tileByte_inj hp hj' hj hb' hb (by simp only [Nat.add_assoc, Nat.add_left_cancel_iff] at hk ⊢; exact hk)
  rfl

/-- The elements of an ACCST's accumulator stand, narrowed, in its allocation when it has ended (R322). -/
theorem State.settle_accst {s : State} {core : Nat} {o : MatOp} (hk : o.kind = .accst) (hx : NMap.get? (s.core core).accPois o.acc = none)
    (hp : (s.alloc o.aid).pois = []) (ha : NMap.get? s.allocs o.aid ≠ none) (hl : ∀ e, e ∈ (s.core core).slots → e.2.ended = false)
    (hpitch : o.a.cols * elemBytes o.fmt.mf ≤ o.a.pitch) {i j : Nat} (hi : i < o.a.rows) (hj : j < o.a.cols) :
    bytesNat ((((s.finished core o).settle core).alloc o.aid).bytesAt (o.a.laddr + i * o.a.pitch + j * elemBytes o.fmt.mf) (elemBytes o.fmt.mf)) =
      narrow o.fmt.mf ((s.core core).accElem o.acc i j) % 256 ^ elemBytes o.fmt.mf := by
  obtain ⟨al, hal⟩ := Option.ne_none_iff_exists'.1 ha
  rw [State.alloc_of_get? hal] at hp
  have hfin : s.finished core o = (s.engineScratch o.aid (o.storeBytes (s.core core))).modCore core (fun k => k.unqueueMat o.id) := by
    unfold State.finished State.finishMat
    simp only [hk]
    unfold State.endAccst
    simp only [hx]
    rfl
  obtain ⟨⟨u, hu, hcells, -⟩, hlive⟩ := State.engineScratch_sound (core := core) (ws := o.storeBytes (s.core core)) hal hp hl
    (fun w hw => by obtain ⟨_, _, _, _, _, _, rfl⟩ := MatOp.mem_storeBytes.1 hw; rfl)
  have hallocs : ((s.finished core o).settle core).allocs = (s.engineScratch o.aid (o.storeBytes (s.core core))).allocs := by
    rw [State.settle_of_live (by rw [hfin, State.core_modCore, if_pos rfl]; exact hlive), hfin]
    exact (congrArg State.allocs (State.settlePennant_offCores _ core) :)
  have halloc : ((s.finished core o).settle core).alloc o.aid = u := State.alloc_of_get? (by rw [hallocs]; exact hu)
  rw [halloc]
  unfold Alloc.bytesAt
  rw [hcells]
  exact MatOp.storeBytes_elem hpitch hi hj _

end Sys2Proof.Machine
end
section
/-! ## A matrix operation is queued

Where the checks of a matrix instruction pass, its operation is the last of the core's matrix order (R209, R221, R223, R224, R228). -/
set_option Elab.async false

open Sys2Proof Sys2Proof.Machine

namespace Sys2Proof.Machine

/-! ### Classes noted in the run log -/

/-- A state from which another differs, as far as a core's issue sees it, by its run log alone (R305). -/
structure State.Noted (s t : State) : Prop where
  core : ∀ d, ∃ l o, t.core d = { s.core d with runLog := l, overflow := o }
  clusters : t.clusters = s.clusters
  allocs : t.allocs = s.allocs

theorem State.Noted.noted (s : State) (c : Ctx) (i : Instr) : s.Noted (s.noted c i) := by
  obtain ⟨hc, -, -, ha⟩ := s.noted_hardware c i
  exact ⟨s.noted_core c i, hc, ha⟩

namespace State.Noted

variable {s t : State} {c : Ctx}

theorem noteClass (h : s.Noted t) (core jid cls : Nat) : s.Noted (t.noteClass core jid cls) := by
  obtain ⟨hc, -, -, ha⟩ := t.noteClass_hardware core jid cls
  refine ⟨fun d => ?_, hc.trans h.clusters, ha.trans h.allocs⟩
  obtain ⟨l, o, e⟩ := h.core d
  obtain ⟨l', o', e'⟩ := t.core_noteClass core jid cls d
  exact ⟨l', o', by rw [e', e]⟩

theorem cluster (h : s.Noted t) (k : Nat) : t.cluster k = s.cluster k := by
  unfold State.cluster
  rw [h.clusters]

theorem present (h : s.Noted t) (k : Nat) : t.present k = s.present k := by
  unfold State.present State.graftWord
  rw [h.cluster]

theorem isGanged (h : s.Noted t) (k : Nat) : t.isGanged k = s.isGanged k := by
  unfold State.isGanged
  rw [h.cluster]

theorem capMask (h : s.Noted t) (k : Nat) : t.capMask k = s.capMask k := by
  obtain ⟨l, o, e⟩ := h.core k
  have hout : t.isOut k = s.isOut k := by
    unfold State.isOut State.graftWord State.entryOf
    rw [h.cluster]
  unfold State.capMask
  rw [hout, h.present, h.isGanged, e]

theorem mcMask (h : s.Noted t) (k : Nat) (m : Word) : t.mcMask k m = s.mcMask k m := by
  unfold State.mcMask
  simp only [h.present]

theorem allocBytes (h : s.Noted t) : c.allocBytes t = (s.alloc c.team.alloc).bytes := by
  unfold Ctx.allocBytes State.alloc
  rw [h.allocs]

theorem holder (h : s.Noted t) (k : Nat) : (t.core k).holder = (s.core k).holder := by
  obtain ⟨l, o, e⟩ := h.core k
  rw [e]

theorem matQ (h : s.Noted t) (k : Nat) : (t.core k).matQ = (s.core k).matQ := by
  obtain ⟨l, o, e⟩ := h.core k
  rw [e]

theorem wave? (h : s.Noted t) (k j : Nat) : t.wave? k j = s.wave? k j := by
  obtain ⟨l, o, e⟩ := h.core k
  unfold State.wave?
  rw [e]

/-- A class that the job and the core have is noted. -/
theorem withClass (h : s.Noted t) {cls : Nat} (hc : Claims.HasClass s c cls) (k : State → State) :
    c.withClass cls t k = k (t.noteClass c.r.core c.job.jid cls) := by
  have hf : t.classFault c.r.core c.job cls = none := by
    unfold State.classFault
    rw [h.capMask, hc.1, hc.2]
    rfl
  unfold Ctx.withClass
  rw [hf]

/-- The pennant's holder goes on. -/
theorem ownPennant (h : s.Noted t) (hh : (s.core c.r.core).holder = some c.r.slot) (k : State → State) : c.ownPennant t k = k t :=
  if_pos ((h.holder _).trans hh)

/-- Shapes that fit go on. -/
theorem mmaShapes (h : s.Noted t) {a : Reg} {l : BitVec 3} (hf : Claims.MmaFits s c (s.alloc c.team.alloc).bytes a l) (k : State → State) :
    c.mmaShapes a.toNat l.toNat t k = k t := by
  obtain ⟨-, -, hm, hb⟩ := hf
  unfold Ctx.mmaShapes
  simp only [h.isGanged, h.allocBytes, hm, hb]

end State.Noted

/-! ### The queue -/

/-- An operation whose window, if it has one, counts as closed. -/
def MatOp.given (o : MatOp) : MatOp := { o with served := true }

/-- An operation stands last in the matrix order of the issuing core, and the arm goes on. -/
structure Ctx.Queued (c : Ctx) (s t : State) (o : MatOp) : Prop where
  matQ : (t.core c.r.core).matQ.map MatOp.given = (s.core c.r.core).matQ.map MatOp.given ++ [o.given]
  wave : t.wave? c.r.core c.r.slot = some (c.wave.modArm c.r.arm Arm.advance)

section
variable {s t u : State} {c : Ctx}

theorem Ctx.queued (h : s.Noted u) (hw : s.wave? c.r.core c.r.slot = some c.wave) (f : MatOp → MatOp) (kind : MatKind) (n : Nat) :
    c.Queued s (c.done (c.queueMat f kind n u)) (f (c.matOp kind n u.handles)) := by
  constructor
  · have hq : ((c.done (c.queueMat f kind n u)).core c.r.core).matQ = (u.core c.r.core).matQ ++ [f (c.matOp kind n u.handles)] := by
      refine (congrArg Core.matQ (State.offSlots_modWave _ _ _ _ _) :).trans ?_
      exact congrArg Core.matQ ((State.core_modCore u.fresh.2 c.r.core c.r.core _).trans (if_pos rfl))
    rw [hq, h.matQ, List.map_append]
    rfl
  · refine State.wave?_modWave_self ?_ _
    exact ((State.wave?_modCore_of_slots (s := u.fresh.2) rfl _ _).trans (h.wave? _ _)).trans hw

/-! ### The windows of MMA.mc -/

theorem Ctx.Queued.serve {o : MatOp} (h : c.Queued s t o) (core id : Nat) : c.Queued s (t.serve core id) o := by
  refine ⟨?_, (State.wave?_modCore_of_slots rfl _ _).trans h.wave⟩
  rw [← h.matQ]
  unfold State.serve
  rw [State.core_modCore]
  split
  · next e =>
    rw [e, List.map_map]
    refine List.map_congr_left (fun x _ => ?_)
    show (if x.id = id then { x with served := true } else x : MatOp).given = x.given
    split <;> rfl
  · rfl

/-- A match closes windows, and changes nothing else (R228). -/
theorem Ctx.Queued.mcMatch {o : MatOp} (h : c.Queued s t o) (core : Nat) : c.Queued s (t.mcMatch core) o := by
  unfold State.mcMatch
  split
  · exact h
  · extract_lets g start
    split
    · exact List.foldlRecOn (motive := fun t : State => c.Queued s t o) _ _ h (fun _ ht e _ => ht.serve _ _)
    · exact h

/-! ### The instructions -/

/-- ACCLD and ACCST, where their checks pass (R223, R323). -/
theorem Ctx.accMove_queues (h : s.Noted t) {a : Reg} {l n : BitVec 3} (hf : Claims.AccMove s c (s.alloc c.team.alloc).bytes a l)
    (hh : (s.core c.r.core).holder = some c.r.slot) (kind : MatKind) : ∃ u, s.Noted u ∧ c.accMove a l n kind t =
      c.done (c.queueMat (fun o => { o with fmt := c.job.slot l.toNat, a := c.wave.shape a.toNat }) kind n.toNat u) := by
  obtain ⟨⟨k, hk, hc⟩, hr, hr', hcol, hcol', hs, hp, hla, hpi, hb⟩ := hf
  have hu := h.noteClass c.r.core c.job.jid k
  refine ⟨_, hu, ?_⟩
  unfold Ctx.accMove
  simp only [hk]
  rw [h.withClass hc, hu.ownPennant hh]
  simp only [hu.isGanged, hu.allocBytes, hb]
  exact if_neg (by omega)

theorem Ctx.mmaFormats_of {a : Reg} {l : BitVec 3} {bytes k : Nat} (hf : Claims.MmaFits s c bytes a l)
    (hk : pairClass (c.job.slot l.toNat).af (c.job.slot l.toNat).bf = some k) (f : Nat → State → State) : c.mmaFormats l.toNat t f = f k t := by
  obtain ⟨-, hta, -, -⟩ := hf
  unfold Ctx.mmaFormats
  simp only [hk]
  exact if_neg (fun e => hta e.1 e.2)

/-- ACCZ of a wave that does not hold the pennant faults (R47). -/
theorem exec_accz_unheld {n : BitVec 3} (h : Ready s (.accz n) c) (hh : (s.core c.r.core).holder ≠ some c.r.slot) :
    exec (.accz n) s = .next (c.fault 0x1C 0 ((s.core c.r.core).penn c.r.slot).toNat (s.noted c (.accz n))) := by
  refine (State.run_scalar h rfl _).trans ?_
  unfold Ctx.ownPennant
  rw [if_neg (by rwa [State.holder_noted]), pennantFault_noted]

theorem exec_accz_queues {n : BitVec 3} (h : Ready s (.accz n) c) (hh : (s.core c.r.core).holder = some c.r.slot) : ∃ u, s.Noted u ∧
    exec (.accz n) s = .next (c.done (c.queueMat id .accz n.toNat u)) :=
  have hu := State.Noted.noted s c (.accz n)
  ⟨_, hu, (State.run_scalar h rfl _).trans (congrArg _ (hu.ownPennant hh _))⟩

theorem exec_accld_queues {a : Reg} {l n : BitVec 3} (h : Ready s (.accld a l n) c)
    (hf : Claims.AccMove s c (s.alloc c.team.alloc).bytes a l) (hh : (s.core c.r.core).holder = some c.r.slot) : ∃ u, s.Noted u ∧
      exec (.accld a l n) s = .next (c.done (c.queueMat (fun o => { o with fmt := c.job.slot l.toNat, a := c.wave.shape a.toNat }) .accld
        n.toNat u)) := by
  obtain ⟨u, hu, hx⟩ := Ctx.accMove_queues (.noted s c (.accld a l n)) hf hh .accld
  exact ⟨u, hu, (State.run_scalar h rfl _).trans (congrArg _ hx)⟩

theorem exec_accst_queues {a : Reg} {l n : BitVec 3} (h : Ready s (.accst a l n) c)
    (hf : Claims.AccMove s c (s.alloc c.team.alloc).bytes a l) (hh : (s.core c.r.core).holder = some c.r.slot) : ∃ u, s.Noted u ∧
      exec (.accst a l n) s = .next (c.done (c.queueMat (fun o => { o with fmt := c.job.slot l.toNat, a := c.wave.shape a.toNat }) .accst
        n.toNat u)) := by
  obtain ⟨u, hu, hx⟩ := Ctx.accMove_queues (.noted s c (.accst a l n)) hf hh .accst
  exact ⟨u, hu, (State.run_scalar h rfl _).trans (congrArg _ hx)⟩

theorem exec_mma_queues {a : Reg} {l n : BitVec 3} (h : Ready s (.mma a l n) c) (hf : Claims.MmaFits s c (s.alloc c.team.alloc).bytes a l)
    (hh : (s.core c.r.core).holder = some c.r.slot) : ∃ u, s.Noted u ∧
      exec (.mma a l n) s = .next (c.done (c.queueMat (c.mmaOp a.toNat l.toNat) .mma n.toNat u)) := by
  obtain ⟨k, hk, hc⟩ := hf.1
  have h0 := State.Noted.noted s c (.mma a l n)
  have hu := h0.noteClass c.r.core c.job.jid k
  refine ⟨_, hu, (State.run_scalar h rfl _).trans ?_⟩
  rw [Ctx.mmaFormats_of hf hk, h0.withClass hc, hu.ownPennant hh, hu.mmaShapes hf]

theorem exec_mmaMc_queues {a b : Reg} {l n : BitVec 3} (h : Ready s (.mmaMc a b l n) c)
    (hf : Claims.MmaFits s c (s.alloc c.team.alloc).bytes a l) (h24 : Claims.HasClass s c 24)
    (hm : s.mcMask c.r.core (c.wave.sreg b.toNat) = true) (hh : (s.core c.r.core).holder = some c.r.slot) : ∃ u, s.Noted u ∧
      exec (.mmaMc a b l n) s = .next ((c.done (c.queueMat (fun o => { c.mmaOp a.toNat l.toNat o with
        mc := (c.wave.sreg b.toNat).toNat, at_ := (u.stack (stackOf c.r.core)).ck, served := false }) .mma n.toNat u)).mcMatch c.r.core) := by
  obtain ⟨k, hk, hc⟩ := hf.1
  have h0 := State.Noted.noted s c (.mmaMc a b l n)
  have h1 := h0.noteClass c.r.core c.job.jid k
  have hu := h1.noteClass c.r.core c.job.jid 24
  refine ⟨_, hu, (State.run_scalar h rfl _).trans ?_⟩
  rw [Ctx.mmaFormats_of hf hk]
  simp only [h0.mcMask, hm, Bool.not_true, Bool.false_eq_true, if_false]
  rw [h0.withClass hc, h1.withClass h24, hu.ownPennant hh, hu.mmaShapes hf]

end

end Sys2Proof.Machine
end
section
/-! ## Matrix instructions and the matrix engine

What an operation captures at issue (R209), what its start leaves (R205, R224), and the statement. -/
set_option Elab.async false

open Sys2Proof Sys2Proof.Machine

namespace Sys2Proof.Machine

/-- What a queued operation has captured (R209, R224): its kind, accumulator, format slot, shapes and wave; it has not started. -/
structure Ctx.Captured (c : Ctx) (i : Instr) (kind : MatKind) (n : BitVec 3) (f : Slot) (a b : Shape) (o : MatOp) : Prop where
  kind : o.kind = kind
  acc : o.acc = n.toNat
  fmt : o.fmt = f
  a : o.a = a
  b : o.b = b
  slot : o.slot = c.r.slot
  uid : o.uid = c.wave.uid
  started : o.started = false
  kdone : o.kdone = 0
  waits : o.waits = false
  mc : ∀ x y l m, i = .mmaMc x y l m → o.mc = (c.wave.sreg y.toNat).toNat

theorem Ctx.captured_matOp {c : Ctx} {i : Instr} {kind : MatKind} {n : BitVec 3} {f : Slot} {a b : Shape} {id mc ck : Nat} {served : Bool}
    (hmc : ∀ x y l m, i = .mmaMc x y l m → mc = (c.wave.sreg y.toNat).toNat) :
    c.Captured i kind n f a b { c.matOp kind n.toNat id with fmt := f, a := a, b := b, mc := mc, at_ := ck, served := served } :=
  ⟨rfl, rfl, rfl, rfl, rfl, rfl, rfl, rfl, rfl, rfl, hmc⟩

/-- A matrix instruction whose checks pass queues its operation (R209, R220 to R224, R228). -/
theorem exec_matrix_queued {s : State} {c : Ctx} {i : Instr} {kind : MatKind} {n : BitVec 3} {f : Slot} {a b : Shape} {ok : Prop}
    (h : Ready s i c) (hr : Claims.matrixRule s c (s.alloc c.team.alloc).bytes i = some (kind, n, f, a, b, ok)) (hok : ok)
    (hh : (s.core c.r.core).holder = some c.r.slot) :
    ∃ t o, exec i s = .next t ∧ c.Queued s t o ∧ c.Captured i kind n f a b o := by
  have hw : s.wave? c.r.core c.r.slot = some c.wave := (Ctx.stands h.ctx).wave
  unfold Claims.matrixRule at hr
  split at hr
  case h_1 =>
    cases hr
    obtain ⟨u, hu, hx⟩ := exec_accz_queues h hh
    exact ⟨_, _, hx, Ctx.queued hu hw _ _ _, Ctx.captured_matOp nofun⟩
  case h_2 =>
    cases hr
    obtain ⟨u, hu, hx⟩ := exec_accld_queues h hok hh
    exact ⟨_, _, hx, Ctx.queued hu hw _ _ _, Ctx.captured_matOp nofun⟩
  case h_3 =>
    cases hr
    obtain ⟨u, hu, hx⟩ := exec_accst_queues h hok hh
    exact ⟨_, _, hx, Ctx.queued hu hw _ _ _, Ctx.captured_matOp nofun⟩
  case h_4 =>
    cases hr
    obtain ⟨u, hu, hx⟩ := exec_mma_queues h hok hh
    exact ⟨_, _, hx, Ctx.queued hu hw _ _ _, Ctx.captured_matOp nofun⟩
  case h_5 =>
    cases hr
    obtain ⟨hf, h24, hm⟩ := hok
    obtain ⟨u, hu, hx⟩ := exec_mmaMc_queues h hf h24 hm hh
    exact ⟨_, _, hx, (Ctx.queued hu hw _ _ _).mcMatch _, Ctx.captured_matOp (fun _ _ _ _ e => by cases e; rfl)⟩
  case h_6 => cases hr

/-- What the start of the head of the matrix order leaves (R205, R224, R226). -/
theorem exec_matrixOpStart_spec {s : State} {core : Nat} {o : MatOp} {os : List MatOp} (h : (s.core core).matQ = o :: os)
    (hs : o.started = false) (hw : o.waits = false) (hv : o.served = true) (hf : s.forkReady core o.slot o.uid o.id = true) :
    ∃ t, exec (.matrixOpStart core) s = .next t ∧ (t.core core).matQ = { o with started := true } :: os ∧
      (t.core core).narrow = (o.kind == .mma && (s.stack (stackOf core)).narrow) ∧ t.mem = (s.fork core).mem ∧
      (∀ la l, NMap.get? (t.core core).l1 la = some l → l.dirty = []) ∧ t.hostMem = s.hostMem ∧ s.sameScratch t := by
  refine ⟨_, exec_matrixOpStart h hs hw hv hf, ?_, ?_, rfl, fun la l hl => ?_, ?_, .of_eq ?_⟩
  · rw [State.core_matStarted h]
  · rw [State.core_matStarted h]
  · rw [State.core_matStarted h] at hl
    exact State.fork_clean hl
  · exact (congrArg (fun e => e.1.hostMem) (s.fork_offCaches core) :)
  · exact (congrArg (fun e => e.1.allocs) (s.fork_offCaches core) :)

/-- What the end of an ACCLD leaves, while its wave goes on with the pennant (R223, R225, R322). -/
theorem State.settle_accld {s : State} {core : Nat} {o : MatOp} {w : Wave} (hk : o.kind = .accld)
    (hh : (s.core core).holder = some o.slot) (hw : s.wave? core o.slot = some w) (he : w.ended = false)
    (hp : ∀ e, e ∈ w.arms → e.2.heldBy Hold.isPassing = false) (hr : o.a.rows ≤ 128) (hc : o.a.cols ≤ 128) :
    (∀ i j, i < o.a.rows → j < o.a.cols →
      (((s.finished core o).settle core).core core).accElem o.acc i j = o.loadElem (s.alloc o.aid) i j) ∧
    (∀ m i j, i < 128 → j < 128 → m ≠ o.acc ∨ o.a.rows ≤ i ∨ o.a.cols ≤ j →
      (((s.finished core o).settle core).core core).accElem m i j = (s.core core).accElem m i j) ∧
    NMap.get? (((s.finished core o).settle core).core core).accPois o.acc =
      (s.alloc o.aid).rowsPoison o.a.laddr o.a.pitch o.a.rows (o.a.cols * elemBytes o.fmt.mf) := by
  have heng := State.engine_settle_accld hk hh hw he hp
  have hacc : (((s.finished core o).settle core).core core).acc = ((s.core core).loaded o (s.alloc o.aid)).acc :=
    (congrArg (fun e => e.2.1) heng :)
  have hpois : (((s.finished core o).settle core).core core).accPois = ((s.core core).loaded o (s.alloc o.aid)).accPois :=
    (congrArg (fun e => e.2.2) heng :)
  have helem (m i j : Nat) : (((s.finished core o).settle core).core core).accElem m i j =
      ((s.core core).setAcc o.acc (tilePlaces o.a.rows o.a.cols) (o.loadElem (s.alloc o.aid))).accElem m i j := by
    unfold Core.accElem
    rw [hacc]
    rfl
  refine ⟨fun i j hi hj => ?_, fun m i j hi hj hne => ?_, ?_⟩
  · rw [helem, Core.accElem_setAcc_tile hi hj hc]
  · rw [helem, Core.accElem_setAcc_other hi hj hr hc hne]
  · rw [hpois, Core.accPois_loaded]

end Sys2Proof.Machine

namespace Sys2Proof
open Machine

/-- Settles O42: issue by the one operation that each matrix instruction queues, the engine by what start, K block and end make of the core;
the core's rest keeps a matrix order, and accumulators that it does not zero. -/
theorem matrixEngine : Obligations.MatrixEngine := by
  unfold Obligations.MatrixEngine
  refine ⟨⟨fun s c n h hh _ => exec_accz_unheld h hh, fun s c i kind n f a b ok h hr hok hh => ?_⟩, fun s core o os h =>
    ⟨fun hs hw hv hf => exec_matrixOpStart_spec h hs hw hv hf, fun hs hk hd hc => ?_, fun hs => ?_,
      fun w hs hk hh hw he hp hr hc1 hc hb => ?_, fun w x hs hk hx hw => ?_, fun hs hk hx hp ha hl hpitch => ?_, fun x hx hg ha => ?_⟩⟩
  · obtain ⟨t, o, hx, ⟨hq, hw⟩, hkind, hacc, hfmt, ha, hb, hslot, huid, hstarted, hkdone, hwaits, hmc⟩ := exec_matrix_queued h hr hok hh
    exact ⟨t, o, _, hx, hq, hkind, hacc, hfmt, ha, hb, hslot, huid, hstarted, hkdone, hwaits, hmc, hw, rfl⟩
  · rw [State.core_blockDone h hs hk hd]
    exact Core.blockDone_spec _ _ _ _ hc
  · exact ⟨_, exec_matrixOpEnd h hs, fun x hx => State.id_of_mem_finished hx, fun hk => State.settle_accz hk⟩
  · obtain ⟨htile, hother, hpois⟩ := State.settle_accld hk hh hw he hp hr hc
    have hlow := (s.alloc o.aid).rowsPoison_lowest o.a.laddr o.a.pitch o.a.rows (rb := o.a.cols * elemBytes o.fmt.mf)
      (Nat.mul_pos hc1 hb)
    rw [← hpois] at hlow
    exact ⟨_, exec_matrixOpEnd h hs, htile, hother, hlow.none_iff, hlow.least⟩
  · rw [exec_matrixOpEnd h hs, State.finished_accst_poisoned hk hx hw]
    rfl
  · exact ⟨_, exec_matrixOpEnd h hs, fun i j hi hj => State.settle_accst hk hx hp ha hl hpitch hi hj⟩
  · exact ⟨_, exec_mmaMcWindowLapse hx hg ha, fun y hy hid => State.served_of_mem_serve hy hid⟩

end Sys2Proof
end
section
/-! ## A store beside a byte that its line lists twice

A line that lists the byte at one offset twice, a clean copy before a dirty one, holds two values for one address. The scalar store of
R160 drops the clean bytes of the sector that it stores to, and so uncovers the dirty one. -/
set_option Elab.async false

open Sys2Proof Sys2Proof.Machine

namespace Sys2Proof.Machine

/-- The line of `Claims.twiceLine`, in the address space of the job. -/
def storedLine : CLine := { Claims.twiceLine with pasid := 1 }

/-- The demonstration wave with the virtual address 0x10004 in s16:s17. -/
def storingWave : Wave := placedWave.setSs [(16, 0x10004#32)]

/-- The wave of a job whose page 0x10000 is mapped to device address 0, whose first line stands in the core's L1. -/
def storingState : State :=
  { State.reset.withWave with cur := some ⟨0, 0, 0⟩ }.modCore 0 (fun k =>
    { k with slots := [(0, storingWave)], tlb := [⟨1, 0x10000, 4096, .dpa 0, true, true⟩], l1 := [(0, storedLine)] })

def storingWord : Instr := .sts 8 16 0

def storingCtx : Ctx :=
  { r := ⟨0, 0, 0⟩, wave := storingWave, arm := { }, team := placedTeam, job := placedJob, lanes := 0xFFFFFFFF#32, ins := storingWord }

/-- The state once the word's class is noted. -/
def storingNoted : State := storingState.noted storingCtx storingWord

theorem storing_ready : Ready storingState storingWord storingCtx where
  ctx := by decide +kernel
  fresh := rfl
  single := rfl
  go := by decide +kernel
  cls k hk := by
    obtain rfl := Option.some.inj (hk.symm.trans (show classOf storingWord = some 7 from rfl))
    decide +kernel

theorem storing_logRoom : storingState.logRoom storingCtx storingWord := fun k hk => by
  obtain rfl := Option.some.inj (hk.symm.trans (show classOf storingWord = some 7 from rfl))
  exact .inr (by decide +kernel)

theorem storing_caches : (storingNoted.core 0).l1 = [(0, storedLine)] ∧ (storingNoted.cluster (clusterOf 0)).cc = [] := by decide +kernel

theorem storing_alone : Claims.Alone storingNoted 0 1 where
  l1 la l e := by
    rw [storing_caches.1, NMap.get?] at e
    split at e
    · obtain rfl := Option.some.inj e
      rfl
    · cases e
  cc la l e := by
    rw [storing_caches.2] at e
    cases e
  empty _ := storing_caches.2

theorem storing_room : Claims.Room storingNoted 0 [4 / 128] where
  l1 := .inl (by decide +kernel)
  cc la _ := by
    have h : Claims.absent (storingNoted.cluster (clusterOf 0)).cc [4 / 128] = [0] := by decide +kernel
    rw [h, List.mem_singleton]
    rintro rfl
    decide +kernel

theorem storing_hits : Claims.Hits storingNoted storingCtx true (0x10004 / 4 * 4) 4 :=
  ⟨by decide +kernel, by decide +kernel, by decide +kernel, by decide +kernel⟩

/-- The core sees the 0 at home at address 0, and the dirty copy after the store at address 4. -/
theorem storing_uncovers : Claims.seen storingNoted 0 1 0 = 0#8 ∧ Claims.seen (stateAfter storingWord storingState) 0 1 0 = 2#8 := by
  decide +kernel

end Sys2Proof.Machine

namespace Sys2Proof
open Machine

/-- Refutes O39 in its clause on STS: a store at address 4 changes the byte that the core sees at address 0, when its L1 line lists that
byte twice. The clause lacks the hypothesis `Claims.Tidy`. -/
theorem not_globalStores : ¬ Obligations.GlobalStores := by
  unfold Obligations.GlobalStores
  rintro ⟨-, h, -⟩
  obtain ⟨-, hstore, -⟩ := h storingState storingCtx 8 16 0 4 storing_ready storing_logRoom
  obtain ⟨t, ht, -, hframe, -⟩ := hstore storing_alone storing_room (by decide +kernel) (by decide +kernel) (by decide) storing_hits
  have h0 : Claims.seen t 0 1 0 = Claims.seen storingNoted 0 1 0 := hframe 0 (.inl (by decide))
  obtain ⟨hbefore, hafter⟩ := storing_uncovers
  rw [stateAfter_of (i := storingWord) ht, h0, hbefore] at hafter
  exact absurd hafter (by decide)

end Sys2Proof
end
section
/-! ## A migration that puts out a line with a byte beyond its end

A page of a migration is written through the cluster whose copy engine runs the copy, and a line that this cluster's cache holds there
for another address space is written back and leaves (R172). Where such a line lists a byte beyond its 128, home is written at an
address outside the page. -/
set_option Elab.async false

open Sys2Proof Sys2Proof.Machine

namespace Sys2Proof.Machine

/-! ### What landing a page leaves alone -/

theorem State.writeThrough_offBanks (s : State) (c pasid : Nat) (ws : List (Nat × Byte)) : (s.writeThrough c pasid ws).offBanks = s.offBanks := by
  refine (foldl_keeps (g := State.offBanks) (fun s e => ?_) ws _).trans
    ((congrArg State.offBanks (State.l2Bytes_offL2 _ pasid true _)).trans
      (foldl_keeps (g := State.offBanks) (fun s la => s.evictOther_offBanks _ _ la) _ s))
  extract_lets t
  split
  · split
    · rfl
    · rfl
  · rfl

theorem State.markSector_offBanks (s : State) (cl : Nat) (p : Bool) (sec : Nat) : (s.markSector cl p sec).offBanks = s.offBanks := by
  unfold State.markSector
  extract_lets t
  split
  · rfl
  · rfl

theorem State.markSector_mem (s : State) (cl : Nat) (p : Bool) (sec : Nat) : (s.markSector cl p sec).mem = s.mem := by
  unfold State.markSector
  extract_lets t
  split
  · rfl
  · rfl

theorem publishTo_mem (s : State) (c scope : Nat) (g : BitVec 2048) : (publishTo s c scope g).mem = s.mem := by
  unfold publishTo
  extract_lets t u
  have hu : u.mem = s.mem := by
    unfold u
    split
    · rfl
    · rfl
  split
  · exact hu
  · exact hu

theorem State.landPage_offCaches (s : State) (m : Migration) (b : Nat) (bs : List (Byte × Bool)) :
    (s.landPage m (.dpa b) bs).offCaches = s.offCaches := by
  simp only [State.landPage, State.enginePublish]
  rw [State.publishTo_offCaches]
  refine State.offCaches_of_offBanks ?_
  rw [foldl_keeps (g := State.offBanks) (fun s k => s.markSector_offBanks _ _ _)]
  exact s.writeThrough_offBanks _ _ _

theorem State.landPage_mem (s : State) (m : Migration) (b : Nat) (bs : List (Byte × Bool)) :
    (s.landPage m (.dpa b) bs).mem = (s.writeT (128 * (homeSlice s.groups b).1) m.pasid (.dpa b) (bs.map (fun x => x.1))).mem := by
  simp only [State.landPage, State.enginePublish]
  rw [publishTo_mem, foldl_keeps (g := State.mem) (fun s k => s.markSector_mem _ _ _)]

theorem State.forgetFetched_cases (s : State) (owner : Nat) :
    s.forgetFetched owner = { s with fetched := (s.forgetFetched owner).fetched } := by
  unfold State.forgetFetched
  split
  · rfl
  · rfl

theorem State.touchHome_offCaches (s : State) (p : Nat) (t : Target) (n : Nat) : (s.touchHome p t n).offCaches = s.offCaches :=
  (congrArg State.offCaches (s.touchHome_offL2 p t n) :)

theorem State.touchHome_groups (s : State) (p : Nat) (t : Target) (n : Nat) : (s.touchHome p t n).groups = s.groups :=
  (congrArg State.groups (s.touchHome_offL2 p t n) :)

theorem State.touchHome_cluster (s : State) (p : Nat) (t : Target) (n cl : Nat) : (s.touchHome p t n).cluster cl = s.cluster cl :=
  (congrArg (fun t : State => t.cluster cl) (s.touchHome_offL2 p t n) :)

/-- The state in which a page of a migration has landed. -/
def State.pageLanded (s : State) (m : Migration) (a b : Nat) : State :=
  (s.touchHome m.pasid (.dpa a) 4096).landPage m (.dpa b) (m.landed (s.migrateBytes m (m.src + m.off) (.dpa a)))

theorem State.migrateOne_fst (s : State) (m : Migration) (a b : Nat) :
    (s.migrateOne m (.dpa a) (.dpa b)).1 = { s.pageLanded m a b with fetched := ((s.pageLanded m a b).forgetFetched m.id).fetched } := by
  rw [← State.forgetFetched_cases]
  simp only [State.migrateOne, State.pageLanded]

theorem State.pageLanded_offCaches (s : State) (m : Migration) (a b : Nat) : (s.pageLanded m a b).offCaches = s.offCaches := by
  unfold State.pageLanded
  rw [State.landPage_offCaches, State.touchHome_offCaches]

theorem State.pageLanded_mem (s : State) (m : Migration) (a b : Nat) : (s.pageLanded m a b).mem =
    ((s.touchHome m.pasid (.dpa a) 4096).writeT (128 * (homeSlice s.groups b).1) m.pasid (.dpa b)
      ((m.landed (s.migrateBytes m (m.src + m.off) (.dpa a))).map (fun x => x.1))).mem := by
  unfold State.pageLanded
  rw [State.landPage_mem, State.touchHome_groups]

theorem State.pageLanded_ioPlace (s : State) (m : Migration) (a b : Nat) : (s.pageLanded m a b).ioPlace = s.ioPlace := by
  have h := s.pageLanded_offCaches m a b
  generalize s.pageLanded m a b = t at h ⊢
  exact (congrArg (fun v => v.1.ioPlace) h :)

/-- Of an address that it does not write, a store past the L1 changes what lines put out for it change. -/
theorem State.read_writeThrough_out (s : State) (c pasid : Nat) (ws : List (Nat × Byte)) {y : Nat} (h : ∀ e, e ∈ ws → e.1 ≠ y) :
    (s.writeThrough c pasid ws).mem.read y =
      (((ws.map (fun e => e.1 / 128)).dedup.foldl (fun s la => s.evictOther (clusterOf c) pasid la) s).mem.read y) := by
  unfold State.writeThrough
  refine List.foldlRecOn (motive := fun t : State => t.mem.read y = _) ws _ ?_ (fun t ht e he => ?_)
  · exact (congrArg (fun t : State => t.mem.read y) (State.l2Bytes_offL2 _ pasid true _) :)
  · have hw : (Memory.write t.mem e.1 e.2).read y = t.mem.read y := by
      rw [Memory.read_write, if_neg (h e he).symm]
    extract_lets u
    split
    · split
      · exact hw.trans ht
      · exact hw.trans ht
    · exact hw.trans ht

/-- The last page of a migration moves, where its places are known and nothing keeps it. -/
theorem State.migratePages_one {s : State} {m : Migration} {a b : Nat} (hf : m.failed = false)
    (ha : s.migratePlace m.pasid (m.src + m.off) false = .at (.dpa a)) (hb : s.migratePlace m.pasid (m.dst + m.off) true = .at (.dpa b))
    (ho : m.overlaps (m.dst + m.off) = false) (hn : s.migrateNeeds m (.dpa b) = ([], true)) :
    ∃ t m' fin, s.migratePages m 1 = (t, m', fin) ∧ (fin = .link ∨ fin = .complete) ∧ m'.record = m.record ∧
      t.mem = (s.pageLanded m a b).mem ∧ t.ioPlace = (s.pageLanded m a b).ioPlace := by
  refine ⟨(s.migrateOne m (.dpa a) (.dpa b)).1, (s.migrateOne m (.dpa a) (.dpa b)).2,
    if (s.migrateOne m (.dpa a) (.dpa b)).1.peerOwes m.id then .link else .complete, ?_, ?_, rfl, ?_⟩
  · simp [State.migratePages, hf, ha, hb, ho, hn]
    rfl
  · split
    · exact .inl rfl
    · exact .inr rfl
  · rw [State.migrateOne_fst]
    generalize s.pageLanded m a b = t
    exact ⟨rfl, rfl⟩

/-- A migration of one more page, whose record goes to host memory, changes what the page changes. -/
theorem State.execMigrateEnd_one {s : State} {m : Migration} {a b h : Nat} (hm : s.migrations.find? (fun y => y.id == m.id) = some m)
    (hf : m.failed = false) (hlen : (m.len - m.off) / 4096 = 1) (ha : s.migratePlace m.pasid (m.src + m.off) false = .at (.dpa a))
    (hb : s.migratePlace m.pasid (m.dst + m.off) true = .at (.dpa b)) (ho : m.overlaps (m.dst + m.off) = false)
    (hn : s.migrateNeeds m (.dpa b) = ([], true)) (hp : (s.pageLanded m a b).ioPlace m.record.pasid m.record.rva true = .at (.host h)) :
    ∃ t, execMigrateEnd m.id s = .next t ∧ t.mem = (s.pageLanded m a b).mem := by
  obtain ⟨t, m', fin, hrun, hfin, hrec, hmem, hplace⟩ := State.migratePages_one hf ha hb ho hn
  refine ⟨_, rfl, ?_⟩
  simp only [hm, hlen, hrun]
  rw [← hmem]
  obtain rfl | rfl := hfin
  · rfl
  · have hat : t.ioPlace m'.record.pasid m'.record.rva true = .at (.host h) := by rw [hrec, hplace, hp]
    show (State.putOrWait _ _).mem = _
    unfold State.putOrWait
    show (match t.ioPlace m'.record.pasid m'.record.rva true with | .at _ => _ | .bad => _ | .miss => _ : State).mem = _
    rw [hat]
    rfl

/-! ### The migration -/

/-- The migration of one page at virtual address 0 to the one at 16384, which reports at 32768. -/
def strayMigration : Migration :=
  { id := 4, record := { vi := 0, pasid := 5, rva := 32768, fields := { tag := 1#32, out := 1 } }, pasid := 5, src := 0, dst := 16384,
    len := 4096, off := 0, lo := 0 }

/-- A line of another address space whose byte stands at offset 4096. -/
def beyondLine : CLine := { pasid := 9, bytes := [(4096, ⟨1#8, true⟩)] }

/-- The two pages lie at device addresses 0 and 16384; the first line of the second one stands in cluster 0's cache. -/
def strayPage : State :=
  { State.reset with
      ioAtc := [⟨5, 0, 32768, .dpa 0, true, true⟩, ⟨5, 32768, 4096, .host 0, true, true⟩]
      migrations := [strayMigration] }.modCluster 0 (fun k => { k with cc := [(128, beyondLine)] })

theorem strayPage_quiet (va : Nat) (h : va = 0 ∨ va = 16384) : strayPage.peerNeeds 4 ioQuiet 5 (pageSectors va) = [] := by
  obtain rfl | rfl := h
  · decide +kernel
  · decide +kernel

/-- A line that leaves is gone, and its byte stands at home. -/
theorem evictOther_beyondLine {s : State} (h : (s.cluster 0).cc = [(128, beyondLine)]) :
    ((s.evictOther 0 strayMigration.pasid 128).cluster 0).cc = [] ∧ (s.evictOther 0 strayMigration.pasid 128).mem.read 20480 = 1#8 := by
  have hget : NMap.get? (s.cluster 0).cc 128 = some beyondLine := by rw [h]; rfl
  have he : s.evictOther 0 strayMigration.pasid 128 = (s.lineHome 128 beyondLine).modCluster 0 (fun k => { k with cc := NMap.del k.cc 128 }) := by
    unfold State.evictOther State.evictCC
    simp only [hget]
    exact if_neg (by decide)
  have hcl : (s.lineHome 128 beyondLine).cluster 0 = s.cluster 0 :=
    (congrArg (fun t : State => t.cluster 0) (State.l2Touch_offL2 s 9 128 [128] true) :)
  refine ⟨?_, ?_⟩
  · rw [he, State.cluster_modCluster, if_pos rfl, hcl, h]
    rfl
  · rw [he]
    have hmem : (s.lineHome 128 beyondLine).mem = Memory.write (s.l2Touch 9 128 [128] true).mem 20480 1#8 := rfl
    rw [State.modCluster_mem, hmem, Memory.read_write]
    rfl

theorem foldl_evictOther_beyondLine {s : State} {lines : List Nat} (h : (s.cluster 0).cc = [(128, beyondLine)]) (hmem : 128 ∈ lines) :
    (lines.foldl (fun s la => s.evictOther 0 strayMigration.pasid la) s).mem.read 20480 = 1#8 := by
  have hempty : ∀ (ls : List Nat) (t : State), (t.cluster 0).cc = [] → ls.foldl (fun s la => s.evictOther 0 strayMigration.pasid la) t = t := by
    intro ls t ht
    induction ls with
    | nil => rfl
    | cons la ls ih =>
      have e : t.evictOther 0 strayMigration.pasid la = t := by
        unfold State.evictOther
        rw [ht]
        rfl
      rw [List.foldl_cons, e, ih]
  induction lines with
  | nil => cases hmem
  | cons la ls ih =>
    rw [List.foldl_cons]
    by_cases hla : la = 128
    · obtain ⟨hcc, hread⟩ := evictOther_beyondLine h
      rw [hla, hempty ls _ hcc, hread]
    · have e : s.evictOther 0 strayMigration.pasid la = s := by
        unfold State.evictOther
        rw [h, NMap.get?, if_neg (fun e => hla e.symm)]
        rfl
      rw [e]
      exact ih ((List.mem_cons.1 hmem).resolve_left (fun e => hla e.symm))

/-- The bytes that move are a page. -/
theorem length_strayBytes (s : State) :
    (strayMigration.landed (s.migrateBytes strayMigration (strayMigration.src + strayMigration.off) (.dpa 0))).length = 4096 := by
  unfold Migration.landed
  rw [if_neg (by decide)]
  unfold State.migrateBytes
  simp [strayMigration, List.length_flatMap]

/-- The page moves through cluster 0, whose cache gives up the line. -/
theorem strayPage_moved : (strayPage.pageLanded strayMigration 0 16384).mem.read 20480 = 1#8 := by
  have hcc : ((strayPage.touchHome strayMigration.pasid (.dpa 0) 4096).cluster 0).cc = [(128, beyondLine)] := by
    rw [State.touchHome_cluster]
    decide +kernel
  have hlen := length_strayBytes strayPage
  have hcl : clusterOf (128 * (homeSlice strayPage.groups 16384).1) = 0 := by decide +kernel
  rw [State.pageLanded_mem]
  generalize strayPage.touchHome _ _ _ = s at hcc ⊢
  generalize strayMigration.landed _ = bs at hlen ⊢
  simp only [State.writeT]
  rw [State.read_writeThrough_out, hcl]
  · refine foldl_evictOther_beyondLine hcc ?_
    rw [List.mem_dedup, List.map_map, List.mem_map]
    refine ⟨0, ?_, ?_⟩
    · rw [List.mem_range, List.length_map, hlen]
      exact Nat.succ_pos 4095
    · simp
  · intro e he
    obtain ⟨k, hk, rfl⟩ := List.mem_map.1 he
    rw [List.mem_range, List.length_map, hlen] at hk
    show 16384 + k ≠ 20480
    omega

/-- The migration ends with its only page, and its record goes to host memory. -/
theorem strayPage_ends : ∃ t, exec (.migrateEnd 4) strayPage = .next t ∧ t.mem.read 20480 = 1#8 := by
  have hplace : (strayPage.pageLanded strayMigration 0 16384).ioPlace 5 32768 true = .at (.host 0) := by
    rw [State.pageLanded_ioPlace]
    decide +kernel
  obtain ⟨t, ht, hmem⟩ := State.execMigrateEnd_one (s := strayPage) (m := strayMigration) (by decide +kernel) rfl rfl (by decide +kernel)
    (by decide +kernel) (by decide) (by decide +kernel) hplace
  exact ⟨t, ht, (congrArg (fun y : Memory => y.read 20480) hmem).trans strayPage_moved⟩

end Sys2Proof.Machine

namespace Sys2Proof
open Machine

/-- Refutes O56 in its clause on the end of a migration: a line of another address space that the cluster of the copy engine holds at the
destination is written back, and with it a byte behind the page. -/
theorem not_managementCommands : ¬ Obligations.ManagementCommands := by
  unfold Obligations.ManagementCommands
  intro h
  obtain ⟨-, -, -, -, -, -, -, -, -, -, hend, -⟩ := h strayPage { vi := 0, pasid := 5, bytes := [] } (.dpa 0)
  obtain ⟨t, ht, -, hframe, -⟩ := hend strayMigration 0 16384 0 (by decide +kernel) rfl rfl rfl (by decide) (by decide +kernel)
    (by decide +kernel) (by decide +kernel) strayPage_quiet (by decide +kernel) (by decide +kernel)
  have hbefore : t.mem.read 20480 = 0#8 := (hframe 20480 (.inr (by decide))).trans (by decide +kernel)
  obtain ⟨u, hu, hafter⟩ := strayPage_ends
  rw [Host.Outcome.next.inj (hu.symm.trans ht), hbefore] at hafter
  exact absurd hafter (by decide)

end Sys2Proof
end
section
/-! ## Requests of a peer

A request is performed at home (R313): its poison is that of the sectors that it meets (R177, R178). -/
set_option Elab.async false

open Sys2Proof Sys2Proof.Machine

namespace Sys2Proof.Machine

/-! ### Poison at home -/

theorem mem_setInsert {l : List Nat} {k j : Nat} : j ∈ setInsert l k ↔ j = k ∨ j ∈ l := by
  unfold setInsert
  split
  next h => exact ⟨.inr, fun e => e.elim (fun e => e ▸ List.contains_iff_mem.1 h) id⟩
  next => rw [List.mem_append, List.mem_singleton, or_comm]

theorem mem_setErase {l : List Nat} {k j : Nat} : j ∈ setErase l k ↔ j ∈ l ∧ j ≠ k := by
  unfold setErase
  rw [List.mem_filter, bne_iff_ne]

/-- Sectors that lose their poison. -/
theorem State.mem_poison_clears {s : State} {l : List Nat} {j : Nat} :
    j ∈ (l.foldl (fun s k => s.setPoison (32 * k) false) s).poison ↔ j ∈ s.poison ∧ j ∉ l := by
  induction l generalizing s with
  | nil => simp
  | cons k l ih =>
    have hk : (s.setPoison (32 * k) false).poison = setErase s.poison k := congrArg (setErase s.poison) (Nat.mul_div_cancel_left k (by decide))
    rw [List.foldl_cons, ih, hk, mem_setErase, List.mem_cons, not_or, and_assoc]

/-- Sectors that become poisoned. -/
theorem State.mem_poison_sets {s : State} {l : List Nat} {j : Nat} :
    j ∈ (l.foldl (fun s k => s.setPoison (32 * k) true) s).poison ↔ j ∈ l ∨ j ∈ s.poison := by
  induction l generalizing s with
  | nil => simp
  | cons k l ih =>
    have hk : (s.setPoison (32 * k) true).poison = setInsert s.poison k := congrArg (setInsert s.poison) (Nat.mul_div_cancel_left k (by decide))
    rw [List.foldl_cons, ih, hk, mem_setInsert, List.mem_cons, or_left_comm, or_assoc]

/-- A state without the poison of device memory. -/
def State.offPoison (s : State) : State := { s with poison := [] }

theorem State.setPoisons_offPoison (s : State) (l : List Nat) (p : Bool) :
    (l.foldl (fun s k => s.setPoison (32 * k) p) s).offPoison = s.offPoison :=
  foldl_keeps (g := State.offPoison) (f := fun s k => s.setPoison (32 * k) p) (fun _ _ => rfl) l s

/-- A write from outside at home clears the poison of the sectors that it covers (R177), and changes nothing else but its bytes and what the L2 slices hold. -/
theorem State.outsideWrite_dpa (s : State) (pasid a : Nat) (bs : List Byte) :
    (s.outsideWrite pasid (.dpa a) bs).mem = s.mem.writeBytes a bs ∧ (s.outsideWrite pasid (.dpa a) bs).cores = s.cores ∧
      (s.outsideWrite pasid (.dpa a) bs).filters = s.filters ∧
      ∀ k, k ∈ (s.outsideWrite pasid (.dpa a) bs).poison ↔ k ∈ s.poison ∧ ¬ (a ≤ 32 * k ∧ 32 * k + 32 ≤ a + bs.length) := by
  have hl := s.l2Bytes_offL2 pasid true (List.range' a bs.length)
  simp only [State.outsideWrite]
  generalize hw : List.filter _ _ = whole
  have hp := State.setPoisons_offPoison ((s.l2Bytes pasid true (List.range' a bs.length)).homeWrite a bs) whole false
  refine ⟨?_, ?_, ?_, fun k => ?_⟩
  · exact (congrArg State.mem hp :).trans (congrArg (fun t : State => t.mem.writeBytes a bs) hl :)
  · exact (congrArg State.cores hp :).trans (congrArg State.cores hl :)
  · exact (congrArg State.filters hp :).trans (congrArg State.filters hl :)
  · rw [State.mem_poison_clears]
    have hs : ((s.l2Bytes pasid true (List.range' a bs.length)).homeWrite a bs).poison = s.poison := (congrArg State.poison hl :)
    rw [hs]
    rw [← hw, sectorsOf_map, List.mem_filter, List.mem_range'_1, decide_eq_true_iff]
    refine and_congr_right (fun _ => not_congr ⟨And.right, fun h => ⟨?_, h⟩⟩)
    omega

/-- Bytes of device memory that meet no poisoned sector are read as they stand. -/
theorem State.readHome_quiet {s : State} {a n : Nat} (hn : 0 < n) (ha : a + n ≤ 2 ^ 40)
    (h : ∀ k, k < 2 ^ 35 → a < 32 * k + 32 → 32 * k < a + n → k ∉ s.poison) : s.readHome a n = (s.mem.readBytes a n, false) := by
  refine Prod.ext rfl (List.any_eq_false.2 (fun e he => ?_))
  have hk : 4 * e.1 + e.2 ∈ (sectorsOf a n).map (fun e => 4 * e.1 + e.2) := List.mem_map_of_mem he
  rw [sectorsOf_map, List.mem_range'_1] at hk
  have hsec : (128 * e.1 + 32 * e.2) / 32 = 4 * e.1 + e.2 := by omega
  unfold State.homePoison
  rw [hsec, List.contains_iff_mem]
  exact h _ (by omega) (by omega) (by omega)

theorem State.l2Bytes_mem (s : State) (pasid : Nat) (w : Bool) (as : List Nat) : (s.l2Bytes pasid w as).mem = s.mem :=
  (congrArg State.mem (s.l2Bytes_offL2 pasid w as) :)

/-- Bytes at home are read with the poison that they meet, and nothing changes but what the L2 slices hold. -/
theorem State.readAt_dpa (s : State) (pasid a n : Nat) :
    (s.readAt pasid (.dpa a) n).1.offL2 = s.offL2 ∧ (s.readAt pasid (.dpa a) n).2 = s.readHome a n := by
  have hl := s.touchHome_offL2 pasid (.dpa a) n
  exact ⟨hl, (congrArg (fun t : State => t.readHome a n) hl :)⟩

/-! ### The reply filter -/

/-- The state once a peer's request has had its reply, which the filter of its source keeps (R313). -/
def State.filed (s : State) (src tag : Nat) (reply : List Byte) (f : List (Nat × List Byte)) : State :=
  { s with filters := NMap.put s.filters src (((tag, reply) :: f).take 4096) }

theorem State.mem_filed (s : State) (src tag : Nat) (reply : List Byte) (f : List (Nat × List Byte)) :
    (tag, reply) ∈ NMap.at (s.filed src tag reply f).filters src [] := by
  unfold State.filed
  rw [NMap.at_put, if_pos rfl]
  exact List.mem_cons_self

/-- A tag that the filter holds is not performed again. -/
theorem execPeerRequest_held {s : State} {src tag : Nat} {op : PeerOp} (hr : s.pf.rcv = false) (ha : peerAddr op + peerSize op ≤ 2 ^ 40)
    (h : ∃ e, e ∈ NMap.at s.filters src [] ∧ e.1 = tag) : execPeerRequest src tag op s = .next s := by
  obtain ⟨e, he, rfl⟩ := h
  have hany : (NMap.at s.filters src []).any (fun x => x.1 == e.1) = true := List.any_eq_true.2 ⟨e, he, beq_self_eq_true e.1⟩
  unfold execPeerRequest
  simp only [hr, Bool.false_eq_true, if_false, if_neg (Nat.not_lt.2 ha), hany, if_true]

/-- A request with a new tag is performed, and its reply kept. -/
theorem execPeerRequest_fresh {s : State} {src tag : Nat} {op : PeerOp} (hr : s.pf.rcv = false) (ha : peerAddr op + peerSize op ≤ 2 ^ 40)
    (h : ∀ e, e ∈ NMap.at s.filters src [] → e.1 ≠ tag) :
    execPeerRequest src tag op s = .next ((s.peerOp op).1.filed src tag (s.peerOp op).2 (NMap.at s.filters src [])) := by
  have hany : (NMap.at s.filters src []).any (fun x => x.1 == tag) = false :=
    List.any_eq_false.2 (fun e he => by rw [beq_iff_eq]; exact h e he)
  unfold execPeerRequest
  simp only [hr, Bool.false_eq_true, if_false, if_neg (Nat.not_lt.2 ha), hany]
  rfl

/-! ### Reads, writes and atomics of a peer -/

theorem State.peerOp_read {s : State} {a n : Nat} (ha : a + n ≤ 2 ^ 40)
    (h : ∀ k, k < 2 ^ 35 → a < 32 * k + 32 → 32 * k < a + n → k ∉ s.poison) :
    (s.peerOp (.read a n)).1.mem = s.mem ∧ (s.peerOp (.read a n)).2 = s.mem.readBytes a n := by
  obtain ⟨hs, hb⟩ := s.readAt_dpa noPasid a n
  have hm : (s.readAt noPasid (.dpa a) n).1.mem = s.mem := (congrArg State.mem hs :)
  have he : (s.readAt noPasid (.dpa a) n) = ((s.readAt noPasid (.dpa a) n).1, s.readHome a n) := Prod.ext rfl hb
  simp only [State.peerOp]
  rw [he]
  obtain rfl | hn := Nat.eq_zero_or_pos n
  · unfold State.readHome
    cases (sectorsOf a 0).any (fun e => s.homePoison (128 * e.1 + 32 * e.2))
    · exact ⟨hm, rfl⟩
    · exact ⟨hm, rfl⟩
  · rw [State.readHome_quiet hn ha h]
    exact ⟨hm, rfl⟩

/-- A write carries the poison of its sectors (R177, R178). -/
theorem State.peerOp_write (s : State) (a : Nat) (bs : List Byte) (pois : List Nat) :
    (s.peerOp (.write a bs pois)).1.mem = s.mem.writeBytes a bs ∧ (s.peerOp (.write a bs pois)).1.cores = s.cores ∧
      ∀ k, k ∈ (s.peerOp (.write a bs pois)).1.poison ↔ (k ∈ pois ∧ a / 32 ≤ k ∧ 32 * k < a + bs.length) ∨
        (k ∈ s.poison ∧ ¬ (a ≤ 32 * k ∧ 32 * k + 32 ≤ a + bs.length)) := by
  obtain ⟨hm, hc, -, hp⟩ := s.outsideWrite_dpa noPasid a bs
  have hf := State.setPoisons_offPoison (s.outsideWrite noPasid (.dpa a) bs)
    (pois.filter (fun k => decide (a / 32 ≤ k ∧ 32 * k < a + bs.length))) true
  simp only [State.peerOp]
  refine ⟨(congrArg State.mem hf :).trans hm, (congrArg State.cores hf :).trans hc, fun k => ?_⟩
  rw [State.mem_poison_sets, hp, List.mem_filter, decide_eq_true_iff]

/-- An atomic replies the old word's bytes and leaves the new word's. -/
theorem State.peerOp_atomic {s : State} {fn a : Nat} {d new : Word} (ha : a + 4 ≤ 2 ^ 40)
    (h : ∀ k, k < 2 ^ 35 → a < 32 * k + 32 → 32 * k < a + 4 → k ∉ s.poison) :
    (s.peerOp (.atomic fn a d new)).1.mem =
        s.mem.writeBytes a (natBytes 4 (atomNew fn (bytesWord (s.mem.readBytes a 4)) d new).toNat) ∧
      (s.peerOp (.atomic fn a d new)).2 = s.mem.readBytes a 4 := by
  obtain ⟨hs, hb⟩ := s.readAt_dpa noPasid a 4
  rw [State.readHome_quiet (by decide) ha h] at hb
  simp only [State.peerOp]
  generalize s.readAt noPasid (.dpa a) 4 = y at hs hb ⊢
  obtain ⟨u, bs, p⟩ := y
  obtain ⟨rfl, rfl⟩ := Prod.mk.inj hb
  have hm : (u.l2Bytes noPasid true [a]).mem = s.mem := by
    rw [State.l2Bytes_mem]
    exact (congrArg State.mem hs :)
  exact ⟨congrArg (fun m => Memory.writeBytes m a _) hm, rfl⟩

/-- The new word of R328. -/
theorem atomNew_rule (fn : Nat) (w d n : Word) : atomNew fn w d n = Claims.atomRule fn w d n := by
  unfold atomNew Claims.atomRule
  split
  all_goals rfl

theorem bytesWord_natBytes (w : Word) : bytesWord (natBytes 4 w.toNat) = w := by
  unfold bytesWord
  rw [List.take_of_length_le (Claims.natBytes_length 4 _).le, Claims.bytesNat_natBytes,
    Nat.mod_eq_of_lt (b := 256 ^ 4) w.isLt, BitVec.ofNat_toNat, BitVec.setWidth_eq]

/-- A word that is written at home stands there. -/
theorem Claims.cell_writeBytes (m : Memory) (a : Nat) (w : Word) : Claims.cell (m.writeBytes a (natBytes 4 w.toNat)) a 0 = w := by
  have h := Memory.readBytes_writeBytes m a (natBytes 4 w.toNat)
  rw [Claims.natBytes_length] at h
  exact (congrArg bytesWord h).trans (bytesWord_natBytes w)

end Sys2Proof.Machine
end
section
/-! ## Relune Link: acknowledgements and retransmissions

Where nothing waits for a place in a window (R288, R312), an acknowledgement changes the window and what waits for the reply. -/
set_option Elab.async false

open Sys2Proof Sys2Proof.Machine

namespace Sys2Proof.Machine

/-! ### Cores on which nothing waits -/

/-- A core with an empty side log, none of whose loads is to be replayed. -/
structure Core.Calm (k : Core) : Prop where
  log : k.sideLog = []
  loads : ∀ w, w ∈ k.slots → ∀ p, p ∈ w.2.inflight → p.replay = false

/-- Every core listed is so. -/
def State.Calm (s : State) : Prop := ∀ e, e ∈ s.cores → e.2.Calm

theorem State.Calm.core {s : State} (h : s.Calm) (d : Nat) : (s.core d).Calm :=
  NMap.at_of_all (p := Core.Calm) h ⟨rfl, fun _ hw => (List.not_mem_nil hw).elim⟩ d

theorem State.Calm.of_cores {s t : State} (h : s.Calm) (e : t.cores = s.cores) : t.Calm := by
  unfold State.Calm
  rw [e]
  exact h

theorem State.Calm.modCore {s : State} (h : s.Calm) {c : Nat} {f : Core → Core} (hf : (s.core c).Calm → (f (s.core c)).Calm) :
    (s.modCore c f).Calm := by
  intro e he
  rcases NMap.mem_put _ _ _ _ he with rfl | he
  · exact hf (h.core c)
  · exact h e he

theorem State.Calm.modWave {s : State} (h : s.Calm) {c k : Nat} {f : Wave → Wave}
    (hf : ∀ w, (∀ p, p ∈ w.inflight → p.replay = false) → ∀ p, p ∈ (f w).inflight → p.replay = false) : (s.modWave c k f).Calm := by
  unfold State.modWave
  split
  · next w hw =>
    refine h.modCore (fun hc => ⟨hc.log, fun x hx => ?_⟩)
    rcases NMap.mem_put _ _ _ _ hx with rfl | hx
    · exact hf w (hc.loads _ (NMap.mem_of_get? hw))
    · exact hc.loads x hx
  · exact h

theorem State.Calm.foldl {α : Type} {f : State → α → State} (hf : ∀ s a, s.Calm → (f s a).Calm) (l : List α) {s : State} (h : s.Calm) :
    (l.foldl f s).Calm := by
  induction l generalizing s with
  | nil => exact h
  | cons a l ih => exact ih (hf s a h)

/-! ### A core that comes to rest -/

theorem State.Calm.letGo {s : State} (h : s.Calm) (core : Nat) (old : Option Nat) : (s.letGo core old).Calm := by
  cases old with
  | none => exact h
  | some k => exact h.modWave (fun _ hw => hw)

theorem State.Calm.givePennant {s : State} (h : s.Calm) (core slot : Nat) : (s.givePennant core slot).Calm := by
  unfold State.givePennant
  extract_lets job t
  have ht : t.Calm := h.modCore (fun hc => ⟨hc.log, hc.loads⟩)
  exact ht.modWave (fun _ hw => hw)

theorem State.Calm.handover {s : State} (h : s.Calm) (core : Nat) (target : Option Nat) : (s.handover core target).Calm := by
  rw [State.handover_eq]
  have hl := h.letGo core (s.core core).holder
  unfold State.passTo
  split
  · exact hl.givePennant _ _
  · split
    · exact hl.givePennant _ _
    · exact hl.modCore (fun hc => ⟨hc.log, hc.loads⟩)

theorem State.Calm.settlePennant {s : State} (h : s.Calm) (core : Nat) : (s.settlePennant core).Calm := by
  unfold State.settlePennant
  extract_lets k
  split
  · exact h
  · split
    · exact h.handover _ _
    · split
      · exact h
      · split
        · exact h.handover _ _
        · split
          · exact h.handover _ _
          · exact h

theorem State.Calm.of_offBanks {s t : State} (h : s.Calm) (e : t.offBanks = s.offBanks) : t.Calm := h.of_cores (congrArg State.cores e :)

theorem State.Calm.writeBackL1 {s : State} (h : s.Calm) (c : Nat) (home : Bool) : (s.writeBackL1 c home).Calm := by
  refine State.Calm.foldl (fun s e h => ?_) _ h
  show State.Calm (if e.2.dirty.isEmpty then s else (s.lineOut (clusterOf c) e.1 e.2 home).setL1 c e.1 e.2.clean)
  split
  · exact h
  · exact (h.of_offBanks (s.lineOut_offBanks _ _ _ _)).modCore (fun hc => ⟨hc.log, hc.loads⟩)

theorem State.Calm.writeBackCC {s : State} (h : s.Calm) (cl : Nat) (g : BitVec 2048) : (s.writeBackCC cl g).Calm := by
  refine State.Calm.foldl (fun s e h => ?_) _ h
  show State.Calm (if e.2.dirty.isEmpty || !sigMatch g e.1 then s else (s.lineHome e.1 e.2).setCC cl e.1 e.2.clean)
  split
  · exact h
  · exact h.of_offBanks (s.lineHome_offBanks e.1 e.2)

theorem publishTo_cores (s : State) (c scope : Nat) (g : BitVec 2048) : (publishTo s c scope g).cores = s.cores := by
  unfold publishTo
  extract_lets t u
  have hu : u.cores = s.cores := by
    unfold u
    split
    · rfl
    · rfl
  split
  · exact hu
  · exact hu

theorem State.Calm.release {s : State} (h : s.Calm) (c scope : Nat) : (s.release c scope).Calm := by
  unfold State.release
  split
  · exact h
  · extract_lets g t u v
    have ht : t.Calm := h.writeBackL1 _ _
    have hu : u.Calm := by
      unfold u
      split
      · exact ht.writeBackCC _ _
      · exact ht
    have hv : v.Calm := hu.of_cores (publishTo_cores u c scope g)
    exact hv.modCore (fun hc => ⟨hc.log, hc.loads⟩)

theorem State.Calm.rebank {s : State} (h : s.Calm) (cl : Nat) : (s.rebank cl).Calm := h.of_offBanks (s.rebank_offBanks cl)

theorem State.Calm.leaveCluster {s : State} (h : s.Calm) (jid cl : Nat) : (s.leaveCluster jid cl).Calm := by
  unfold State.leaveCluster
  split
  · exact h
  · split
    · exact h
    · refine State.Calm.rebank ?_ cl
      exact h.of_cores rfl

theorem State.Calm.endTeam {s : State} (h : s.Calm) (tid : Nat) : (s.endTeam tid).Calm := by
  unfold State.endTeam
  extract_lets t last u v
  have hu : u.Calm := by
    unfold u
    split
    · exact State.Calm.foldl (fun _ c h => h.release c 5) _ h
    · exact h
  split
  · refine State.Calm.leaveCluster ?_ _ _
    exact hu.of_cores rfl
  · refine State.Calm.rebank ?_ _
    exact hu.of_cores rfl

theorem NMap.mem_of_mem_del {α : Type} {m : NMap α} {k : Nat} {e : Nat × α} (h : e ∈ NMap.del m k) : e ∈ m :=
  (List.mem_filter.1 h).1

theorem State.Calm.freeSlot {s : State} (h : s.Calm) (core slot : Nat) (w : Wave) : (s.freeSlot core slot w).Calm := by
  unfold State.freeSlot
  extract_lets t u
  have ht : t.Calm := h.modCore (fun hc => ⟨hc.log, fun x hx => hc.loads x (NMap.mem_of_mem_del hx)⟩)
  have hu : u.Calm := ht.of_cores (State.modTeam_cores _ _ _)
  split
  · exact hu.endTeam _
  · exact hu

theorem Core.Calm.closeCursors {k : Core} (h : k.Calm) : k.closeCursors.Calm := by
  unfold Core.closeCursors
  split
  · exact h
  · exact ⟨h.log, h.loads⟩

theorem State.Calm.settle {s : State} (h : s.Calm) (core : Nat) : (s.settle core).Calm := by
  unfold State.settle
  extract_lets t
  have ht : t.Calm := (h.settlePennant core).modCore Core.Calm.closeCursors
  refine State.Calm.foldl (fun s e h => ?_) _ ht
  show State.Calm (if e.2.ended && !s.waveBusy core e.2 then s.freeSlot core e.1 e.2 else s)
  split
  · exact h.freeSlot _ _ _
  · exact h

/-! ### What a core at rest leaves alone -/

/-- What Relune Link and the host see of a state. -/
def State.outer (s : State) : NMap LinkDest × NMap Iface × PfPage × List Continuation := (s.links, s.vis, s.pf, s.conts)

theorem State.outer_of_offPlaces {s t : State} (h : t.offPlaces = s.offPlaces) : t.outer = s.outer := (congrArg (fun v => v.1.outer) h :)

theorem State.endTeam_outer (s : State) (tid : Nat) : (s.endTeam tid).outer = s.outer := by
  unfold State.endTeam
  extract_lets t last u v
  have hu : u.outer = s.outer := by
    unfold u
    split
    · exact foldl_keeps (g := State.outer) (f := fun s c => s.release c 5)
        (fun s c => State.outer_of_offPlaces (State.offPlaces_of_offCaches (s.release_offCaches c 5))) _ s
    · rfl
  split
  · exact (State.outer_of_offPlaces (State.leaveCluster_offPlaces _ _ _)).trans hu
  · exact (State.outer_of_offPlaces (State.offPlaces_of_offBanks (State.rebank_offBanks _ _))).trans hu

theorem State.modTeam_outer (s : State) (t : Nat) (f : Team → Team) : (s.modTeam t f).outer = s.outer := by
  unfold State.modTeam
  split
  · rfl
  · rfl

theorem State.freeSlot_outer (s : State) (core slot : Nat) (w : Wave) : (s.freeSlot core slot w).outer = s.outer := by
  unfold State.freeSlot
  extract_lets t u
  have hu : u.outer = s.outer := t.modTeam_outer _ _
  split
  · exact (u.endTeam_outer _).trans hu
  · exact hu

theorem State.settle_outer (s : State) (core : Nat) : (s.settle core).outer = s.outer := by
  unfold State.settle
  extract_lets t
  refine Eq.trans (foldl_keeps (g := State.outer) (fun s (e : Nat × Wave) => ?_) _ t) (congrArg State.outer (s.settlePennant_offCores core) :)
  show (if e.2.ended && !s.waveBusy core e.2 then s.freeSlot core e.1 e.2 else s).outer = _
  split
  · exact s.freeSlot_outer _ _ _
  · rfl

/-- Where no wave of the core has ended, memory stays as it is. -/
theorem State.settle_mem_of_live {s : State} {core : Nat} (h : ∀ e, e ∈ (s.core core).slots → e.2.ended = false) :
    (s.settle core).mem = s.mem := by
  rw [State.settle_of_live h]
  exact (congrArg State.mem (s.settlePennant_offCores core) :)

/-! ### A free place in a window -/

/-- Where nothing waits, nothing goes on (R288, R312). -/
theorem State.windowFree_calm {s : State} (h : s.Calm) (hc : s.conts = []) : s.windowFree = s := by
  have hlog : s.cores.filter (fun e : Nat × Core => !e.2.sideLog.isEmpty) = [] :=
    List.filter_eq_nil_iff.2 (fun e he => by rw [(h e he).log]; exact Bool.false_ne_true)
  have hreplay (core : Nat) (which : Wave → Pending → Bool) : s.retryReplays core which = s := by
    have hno : s.replaysOn core which = [] := List.flatMap_eq_nil_iff.2 (fun e he => by
      rw [List.map_eq_nil_iff, List.filter_eq_nil_iff]
      intro p hp
      rw [(h.core core).loads e he p hp, Bool.false_and]
      exact Bool.false_ne_true)
    unfold State.retryReplays
    rw [hno]
    rfl
  unfold State.windowFree
  have hall (l : List (Nat × Core)) : l.foldl (fun s e => s.retryReplays e.1 (fun _ p => !e.2.rejects.any (fun x => x.1.arm == p.id + 2))) s = s := by
    refine List.foldlRecOn (motive := fun t => t = s) l _ rfl (fun t ht e _ => ?_)
    rw [ht, hreplay]
  simp only [hlog, List.foldl_nil, hall, hc]

/-- What an acknowledgement leaves once its reply is delivered. -/
theorem State.freed_calm {s : State} (h : s.Calm) (hc : s.conts = []) (core : Nat) :
    (s.settle core).windowFree.completeInvals.mem = (s.settle core).mem ∧
    (s.settle core).windowFree.completeInvals.outer = s.outer ∧
      ∀ d k, (s.settle core).windowFree.completeInvals.wave? d k = (s.settle core).wave? d k := by
  have ho := s.settle_outer core
  have hcs : (s.settle core).conts = [] := (congrArg (fun v => v.2.2.2) ho :).trans hc
  rw [State.windowFree_calm (h.settle core) hcs]
  exact ⟨rfl, ho, fun _ _ => rfl⟩

/-! ### Requests and their replies -/

theorem State.at_closeReq (s : State) (dest tag : Nat) :
    NMap.at (s.closeReq dest tag).links dest { } =
      { NMap.at s.links dest { } with open_ := (NMap.at s.links dest { }).open_.filter (fun q => q.tag != tag) } := by
  unfold State.closeReq NMap.alter
  rw [NMap.at_put, if_pos rfl]

theorem State.pf_of_outer {s t : State} (h : t.outer = s.outer) : t.pf = s.pf := congrArg (fun v => v.2.2.1) h

theorem State.iface_of_outer {s t : State} (h : t.outer = s.outer) : t.iface = s.iface :=
  congrArg (fun v : NMap LinkDest × NMap Iface × PfPage × List Continuation => fun k => NMap.at v.2.1 k { }) h

theorem State.openReq_of_outer {s t : State} (h : t.outer = s.outer) (dest tag : Nat) : t.openReq dest tag = s.openReq dest tag :=
  (congrArg (fun v => (NMap.at v.1 dest { }).open_.find? (fun q => q.tag == tag)) h :)

/-- A request that has left its window is open no more. -/
theorem State.openReq_closeReq (s : State) (dest tag : Nat) : (s.closeReq dest tag).openReq dest tag = none := by
  unfold State.openReq
  rw [State.at_closeReq, List.find?_eq_none]
  intro q hq
  rw [beq_iff_eq]
  exact bne_iff_ne.1 (List.mem_filter.1 hq).2

theorem execLinkAck_of {s : State} {dest tag : Nat} {q : LinkReq} (h : s.openReq dest tag = some q) (reply : List Byte) :
    execLinkAck dest tag reply s =
      .next (((if q.ret then (s.closeReq dest tag).takeReply q reply else s.closeReq dest tag).settle q.core).windowFree.completeInvals) := by
  unfold execLinkAck
  simp only [h]

/-- A scalar reply goes into the results of a producer that waits for it alone (R50, R312). -/
def Pending.replied (p : Pending) (reply : List Byte) : Pending :=
  { p.fillLane scalarLane reply with left := p.left - 1 }

theorem Pending.replied_bad (p : Pending) (reply : List Byte) : (p.replied reply).bad = p.bad := rfl

/-- A reply of a scalar load or atomic, none of whose lanes read poison, reaches its producer. -/
theorem State.takeReply_scalar {s : State} {q : LinkReq} {w : Wave} {reply : List Byte} (hw : s.wave? q.core q.slot = some w)
    (hu : w.uid = q.uid) (hq : q.uid ≠ 0) (hb : ∀ p, p ∈ w.inflight → p.bad = []) (hl : q.lane = scalarLane)
    (hr : replySize q.op ≤ reply.length) :
    s.takeReply q reply = s.modPending q.core q.slot q.pend (fun p => p.replied reply) := by
  have hserves : q.serves = [scalarLane] := if_pos hl
  have hreplied : s.takeReply q reply = s.replied q (fun p => p.fillLane scalarLane reply) := by
    unfold State.takeReply
    rw [if_neg (Nat.not_lt.2 hr), if_neg hq, hserves]
    rfl
  rw [hreplied]
  unfold State.replied
  extract_lets t
  have hwt : t.wave? q.core q.slot = some { w with inflight := w.inflight.map (fun p => if p.id = q.pend then p.replied reply else p) } :=
    State.wave?_modWave_self hw _
  split
  · next v p hv =>
    have hp : p.bad = [] := by
      unfold State.waiter at hv
      rw [hwt] at hv
      simp only [hu, if_true] at hv
      obtain ⟨y, hy, e⟩ := Option.map_eq_some_iff.1 hv
      obtain ⟨x, hx, hxy⟩ := List.mem_map.1 (List.mem_of_find?_eq_some hy)
      have hyp : y = p := congrArg Prod.snd e
      rw [← hyp, ← hxy]
      split
      · exact hb x hx
      · exact hb x hx
    rw [hp]
    exact if_neg (fun h => Bool.false_ne_true h.2)
  · rfl

/-- A scalar producer's last reply completes it: its word is there. -/
theorem Pending.replied_done {p : Pending} {d : Nat} {x : Word} {reply : List Byte} (hl : p.left = 1) (hs : p.sdst = [(d, x)]) :
    (p.replied reply).id = p.id ∧ (p.replied reply).left = 0 ∧ (p.replied reply).sdst = [(d, bytesWord reply)] := by
  have hf : p.fillLane scalarLane reply = { p with sdst := p.sdst.map (fun (e : Nat × Word) => (e.1, bytesWord reply)) } := if_pos rfl
  unfold Pending.replied
  rw [hf, hl, hs]
  exact ⟨rfl, rfl, rfl⟩

theorem Pending.replied_replay (p : Pending) (reply : List Byte) : (p.replied reply).replay = p.replay := rfl

/-- The waves that have ended are the same where a producer has changed. -/
theorem State.live_modPending {s : State} {core slot id : Nat} {f : Pending → Pending} (h : ∀ e, e ∈ (s.core core).slots → e.2.ended = false) :
    ∀ e, e ∈ ((s.modPending core slot id f).core core).slots → e.2.ended = false := by
  intro e he
  unfold State.modPending State.modWave at he
  cases hw : s.wave? core slot with
  | none => rw [hw] at he; exact h e he
  | some w =>
    rw [hw] at he
    rw [show ((s.modCore core _).core core).slots = NMap.put (s.core core).slots slot _ from by rw [State.core_modCore, if_pos rfl]] at he
    rcases NMap.mem_put _ _ _ _ he with rfl | he
    · exact h (slot, w) (NMap.mem_of_get? hw)
    · exact h e he

/-! ### Acknowledgements -/

section

variable {s : State} {dest tag : Nat} {q : LinkReq} {reply : List Byte} (hq : s.openReq dest tag = some q) (hc : s.conts = []) (h : s.Calm)
  (hlive : ∀ e, e ∈ (s.core q.core).slots → e.2.ended = false)

include hq hc h hlive

/-- The acknowledgement of a request that waits for no reply frees its place. -/
theorem execLinkAck_write (hr : q.ret = false) :
    ∃ t, execLinkAck dest tag reply s = .next t ∧ t.openReq dest tag = none ∧ t.mem = s.mem := by
  have hcalm : (s.closeReq dest tag).Calm := h.of_cores rfl
  obtain ⟨hmem, hout, -⟩ := State.freed_calm hcalm hc q.core
  refine ⟨_, execLinkAck_of hq reply, ?_⟩
  rw [hr, if_neg Bool.false_ne_true]
  exact ⟨(State.openReq_of_outer hout dest tag).trans (s.openReq_closeReq dest tag),
    hmem.trans (State.settle_mem_of_live (s := s.closeReq dest tag) hlive)⟩

/-- The acknowledgement of a scalar load that waits for this reply alone frees its place and completes the load. -/
theorem execLinkAck_read {w : Wave} {p : Pending} {d : Nat} {x : Word} (hr : q.ret = true) (hw : s.wave? q.core q.slot = some w)
    (hu : w.uid = q.uid) (hn : q.uid ≠ 0) (hp : ∀ e, e ∈ w.inflight ↔ e = p) (hid : p.id = q.pend) (hl : p.left = 1) (hb : p.bad = [])
    (hlane : q.lane = scalarLane) (hsize : replySize q.op ≤ reply.length) (hs : p.sdst = [(d, x)]) :
    ∃ t u y, execLinkAck dest tag reply s = .next t ∧ t.openReq dest tag = none ∧ t.wave? q.core q.slot = some u ∧
      y ∈ u.inflight ∧ y.id = p.id ∧ y.left = 0 ∧ y.sdst = [(d, bytesWord reply)] := by
  let t := (s.closeReq dest tag).modPending q.core q.slot q.pend (fun p => p.replied reply)
  have htake : (s.closeReq dest tag).takeReply q reply = t :=
    State.takeReply_scalar hw hu hn (fun e he => ((hp e).1 he) ▸ hb) hlane hsize
  have hcalm : t.Calm := State.Calm.modWave (s := s.closeReq dest tag) (h.of_cores rfl) (fun v hv e he => by
    obtain ⟨y, hy, rfl⟩ := List.mem_map.1 he
    split
    · exact hv y hy
    · exact hv y hy)
  have htout : t.outer = (s.closeReq dest tag).outer := (congrArg State.outer (State.modWave_offCores _ _ _ _) :)
  have htw : t.wave? q.core q.slot = some { w with inflight := w.inflight.map (fun p => if p.id = q.pend then p.replied reply else p) } :=
    State.wave?_modWave_self (s := s.closeReq dest tag) hw _
  have htlive := State.live_modPending (s := s.closeReq dest tag) (slot := q.slot) (id := q.pend) (f := fun p => p.replied reply) hlive
  obtain ⟨u, hwu, hoff⟩ := State.wave?_settle htw (fun e he _ => htlive e he)
  obtain ⟨-, hout, hwave⟩ := State.freed_calm hcalm ((congrArg (fun v => v.2.2.2) htout :).trans hc) q.core
  obtain ⟨hid', hleft, hsdst⟩ := Pending.replied_done (reply := reply) hl hs
  refine ⟨_, u, p.replied reply, (execLinkAck_of hq reply).trans (by rw [hr, if_pos rfl, htake]), ?_, (hwave _ _).trans hwu, ?_, hid', hleft, hsdst⟩
  · exact (State.openReq_of_outer (hout.trans htout) dest tag).trans (s.openReq_closeReq dest tag)
  · rw [show u.inflight = _ from (congrArg Wave.inflight hoff :)]
    exact List.mem_map.2 ⟨p, (hp p).2 rfl, if_pos hid⟩

end

/-! ### Retransmissions -/

/-- A request that was sent fewer than 16 times is sent again. -/
theorem execRetransmit_again {s : State} {dest tag : Nat} {q : LinkReq} (hq : s.openReq dest tag = some q) (hn : q.sends < 16) :
    ∃ t, execRetransmit dest tag s = .next t ∧ t.openReq dest tag = some { q with sends := q.sends + 1 } ∧ t.cores = s.cores ∧ t.mem = s.mem := by
  unfold execRetransmit
  simp only [hq, if_pos hn]
  refine ⟨_, rfl, ?_, rfl, rfl⟩
  unfold State.openReq at hq ⊢
  unfold NMap.alter
  rw [NMap.at_put, if_pos rfl, List.find?_map]
  have hsame : ((fun q : LinkReq => q.tag == tag) ∘ fun x : LinkReq => if x.tag = tag then { x with sends := x.sends + 1 } else x) =
      fun q => q.tag == tag := by
    funext x
    show ((if x.tag = tag then { x with sends := x.sends + 1 } else x : LinkReq).tag == tag) = _
    split
    · rfl
    · rfl
  rw [hsame, hq, Option.map_some, if_pos (beq_iff_eq.1 (List.find?_some hq :))]

/-- The words of a link failure event (R282, R313). -/
def State.failureEvent (s : State) (dest : Nat) (q : LinkReq) : Event :=
  eventOf 6 0#32 (wordsWith 32
    [(5, lo32 (peerAddr q.op)), (6, hi32 (peerAddr q.op)), (7, BitVec.ofNat 32 (dest % 4096)), (8, q.wave), (10, BitVec.ofNat 32 q.core),
     (11, q.team), (12, BitVec.ofNat 32 (s.job q.job).num), (13, q.lanes), (14, lo32 (s.stack (stackOf q.core)).ck),
     (15, hi32 (s.stack (stackOf q.core)).ck), (16, BitVec.ofNat 32 q.tag)])

theorem State.failureEvent_words (s : State) (dest : Nat) (q : LinkReq) :
    ((s.failureEvent dest q).getD 0 0#32).toNat / 2 ^ 24 = 6 ∧ (s.failureEvent dest q).getD 5 0#32 = lo32 (peerAddr q.op) ∧
      (s.failureEvent dest q).getD 6 0#32 = hi32 (peerAddr q.op) ∧ (s.failureEvent dest q).getD 7 0#32 = BitVec.ofNat 32 (dest % 4096) ∧
      (s.failureEvent dest q).getD 16 0#32 = BitVec.ofNat 32 q.tag := by
  refine ⟨?_, rfl, rfl, rfl, rfl⟩
  show (BitVec.ofNat 32 (6 * 2 ^ 24 + (0#32).toNat % 2 ^ 16)).toNat / 2 ^ 24 = 6
  decide

theorem State.linkFailure_held {s : State} {dest : Nat} {q : LinkReq} (h : (s.iface (s.job q.job).vi).held.length < 256) :
    s.failureEvent dest q ∈ ((s.linkFailure dest q).iface (s.job q.job).vi).held := by
  have he : s.linkFailure dest q = s.modIface (s.job q.job).vi (fun v =>
      if 256 ≤ v.held.length then { v with lost := v.lost + 1 } else { v with held := v.held ++ [s.failureEvent dest q] }) := rfl
  rw [he]
  unfold State.modIface State.iface at *
  rw [NMap.at_put, if_pos rfl]
  dsimp only
  rw [if_neg (Nat.not_le.2 h)]
  exact List.mem_append_right _ List.mem_cons_self

/-- The state in which the last request to an unreachable destination, which waits for no reply, has become an event (R313). -/
def State.unreached (s : State) (dest : Nat) (q : LinkReq) : State :=
  ((s.mgmtEvent 3 (stackOf q.core)).closeReq dest q.tag).linkFailure dest q

theorem State.unreached_mevt (s : State) (dest : Nat) (q : LinkReq) : (s.unreached dest q).pf.mevt.getLsbD 3 = true := by
  show (s.pf.mevt ||| BitVec.ofNat 32 (2 ^ 3)).getLsbD 3 = true
  rw [BitVec.getLsbD_or]
  exact Bool.or_true _

theorem State.unreached_openReq (s : State) (dest : Nat) (q : LinkReq) : (s.unreached dest q).openReq dest q.tag = none :=
  State.openReq_closeReq _ dest q.tag

theorem State.unreached_held {s : State} {dest : Nat} {q : LinkReq} (h : (s.iface (s.job q.job).vi).held.length < 256) :
    s.failureEvent dest q ∈ ((s.unreached dest q).iface (s.job q.job).vi).held :=
  State.linkFailure_held (s := (s.mgmtEvent 3 (stackOf q.core)).closeReq dest q.tag) h

/-- After 16 sends the destination is unreachable. -/
theorem execRetransmit_last {s : State} {dest tag : Nat} {q : LinkReq} (hq : s.openReq dest tag = some q) (hn : 16 ≤ q.sends)
    (hopen : (NMap.at s.links dest { }).open_ = [q]) (hr : q.ret = false) :
    execRetransmit dest tag s = .next (((s.unreached dest q).settle q.core).windowFree.completeInvals) := by
  have hm : (NMap.at (s.mgmtEvent 3 (stackOf q.core)).links dest { }).open_ = [q] := hopen
  unfold execRetransmit
  simp only [hq, if_neg (Nat.not_lt.2 hn), hm, List.foldl_cons, List.foldl_nil]
  unfold State.failReq
  simp only [hr, Bool.false_eq_true, if_false]
  rfl

/-- Its last request, where it waits for no reply, ends as a link failure event. -/
theorem execRetransmit_fails {s : State} {dest tag : Nat} {q : LinkReq} (hq : s.openReq dest tag = some q) (hn : 16 ≤ q.sends)
    (hopen : (NMap.at s.links dest { }).open_ = [q]) (hc : s.conts = []) (h : s.Calm) (hr : q.ret = false)
    (hheld : (s.iface (s.job q.job).vi).held.length < 256) :
    ∃ t, execRetransmit dest tag s = .next t ∧ t.openReq dest tag = none ∧ t.pf.mevt.getLsbD 3 = true ∧
      s.failureEvent dest q ∈ (t.iface (s.job q.job).vi).held := by
  have htag : q.tag = tag := beq_iff_eq.1 (List.find?_some hq :)
  have hcalm : (s.unreached dest q).Calm := h.of_cores rfl
  obtain ⟨-, hout, -⟩ := State.freed_calm hcalm hc q.core
  refine ⟨_, execRetransmit_last hq hn hopen hr, ?_⟩
  rw [State.pf_of_outer hout, State.iface_of_outer hout, State.openReq_of_outer hout, ← htag]
  exact ⟨s.unreached_openReq dest q, s.unreached_mevt dest q, State.unreached_held hheld⟩

end Sys2Proof.Machine

namespace Sys2Proof
open Machine

/-- Settles O60, clause by clause: the acknowledgement, the retransmission, and a peer's request with a new tag and with one that is held. -/
theorem link : Obligations.Link := by
  unfold Obligations.Link
  refine ⟨fun s dest tag q reply hq hc hcalm hlive => ⟨fun hr => ?_, fun w p hr hw hu hn hp hid hl hb hlane hread hwrite hlen d x hs => ?_⟩,
    fun s dest tag q hq => ⟨fun hn => ?_, fun hn hopen hc hcalm hr hheld => ?_⟩, fun s src tag a n bs d new hrcv => ⟨?_, ?_, ?_, ?_⟩⟩
  · exact execLinkAck_write hq hc (fun e he => ⟨(hcalm e he).1, (hcalm e he).2⟩) hlive hr
  · refine execLinkAck_read hq hc (fun e he => ⟨(hcalm e he).1, (hcalm e he).2⟩) hlive hr hw hu hn hp hid hl hb hlane ?_ hs
    rw [hlen]
    cases hop : q.op with
    | read a n => exact (hread a n hop).le
    | write a bs pois => exact absurd hop (hwrite a bs pois)
    | atomic fn a d n => exact le_rfl
  · exact execRetransmit_again hq hn
  · obtain ⟨t, ht, hclosed, hmevt, hevent⟩ :=
      execRetransmit_fails hq hn hopen hc (fun e he => ⟨(hcalm e he).1, (hcalm e he).2⟩) hr hheld
    exact ⟨t, _, ht, hclosed, hmevt, hevent, s.failureEvent_words dest q⟩
  · rintro op ha rfl hheld
    exact execPeerRequest_held hrcv ha hheld
  · intro hf ha hquiet
    obtain ⟨hm, hb⟩ := State.peerOp_read ha hquiet
    refine ⟨_, execPeerRequest_fresh hrcv ha hf, hm, ?_⟩
    rw [hb]
    exact State.mem_filed _ _ _ _ _
  · intro pois hf ha
    obtain ⟨hm, hcores, hp⟩ := s.peerOp_write a bs pois
    refine ⟨_, execPeerRequest_fresh hrcv ha hf, ?_, fun y hy => ?_, hcores, hp⟩
    · exact (congrArg (fun m => Memory.readBytes m a bs.length) hm).trans (Memory.readBytes_writeBytes _ _ _)
    · exact (congrArg (fun m => Memory.read m y) hm).trans (Memory.read_writeBytes_out _ _ _ _ hy)
  · intro hf ha hquiet _
    obtain ⟨hm, hb⟩ := State.peerOp_atomic (fn := n) (d := d) (new := new) ha hquiet
    refine ⟨_, execPeerRequest_fresh hrcv ha hf, ?_, fun y hy => ?_, ?_⟩
    · refine (congrArg (fun m => Claims.cell m a 0) hm).trans ?_
      rw [Claims.cell_writeBytes, atomNew_rule]
      rfl
    · refine (congrArg (fun m => Memory.read m y) hm).trans (Memory.read_writeBytes_out _ _ _ _ ?_)
      rw [Claims.natBytes_length]
      exact hy
    · rw [hb]
      exact State.mem_filed _ _ _ _ _

end Sys2Proof
end
section
/-! ## Producers whose results may go to stream ports

What a long-latency producer makes of its wave and of the rest (R50), whether it reserves stream elements (R181) or not. -/
set_option Elab.async false

open Sys2Proof Sys2Proof.Machine

namespace Sys2Proof.Machine

/-- A wave with the marks of a producer that reserves some stream elements (R50, R181). -/
def Ctx.markedWith (c : Ctx) (x : Result) (f : Flight) (id : Nat) (ports : List (Nat × Nat × Nat)) (w : Wave) : Wave :=
  { w with sEmpty := w.sEmpty ++ x.sdst.map (fun (e : Nat × Word) => (e.1, id)),
           pHeld := w.pHeld ++ f.holdsPreds.map (fun (q : Nat) => (q, id)),
           inflight := w.inflight ++ [c.flight x f id ports] }.modArm c.r.arm
    (fun a => { a with empty := a.empty ++ (c.ownDst x).vdst.map (fun (e : Nat × LaneVec) => (e.1, id)) })

/-- A producer marks its wave, in a state of which it has changed rings only. -/
theorem Ctx.mark_any {c : Ctx} (hh : c.held = none) (x : Result) (f : Flight) (s : State) :
    ∃ (ports : List (Nat × Nat × Nat)) (u : State), u.offRings = ({ s with handles := s.handles + 1 } : State).offRings ∧
      c.mark x f s = (s.handles, u.modWave c.r.core c.r.slot (c.markedWith x f s.handles ports)) := by
  unfold Ctx.mark
  simp only [hh]
  exact ⟨_, _, foldl_keeps (g := State.offRings) (fun s e => s.modTeam_offRings _ _) _ s.fresh.2, rfl⟩

/-- A wave that went on from a word which writes none of its registers (R50). -/
structure Ctx.WentOn (c : Ctx) (u : Wave) : Prop where
  rest : u.offMarks = c.wave.offMarks
  arm : ∃ empty, NMap.get? u.arms c.r.arm = some { c.arm.advance with empty := empty }

theorem Ctx.WentOn.regs {c : Ctx} {u : Wave} (h : c.WentOn u) : (∀ r, u.sreg r = c.wave.sreg r) ∧ (∀ r, u.vreg r = c.wave.vreg r) ∧
    (∀ r, u.preg r = c.wave.preg r) ∧ u.controls = c.wave.controls :=
  ⟨fun r => (congrArg (fun w : Wave => w.sreg r) h.rest :), fun r => (congrArg (fun w : Wave => w.vreg r) h.rest :),
    fun r => (congrArg (fun w : Wave => w.preg r) h.rest :), (congrArg Wave.controls h.rest :)⟩

theorem Ctx.WentOn.place {c : Ctx} {u : Wave} (h : c.WentOn u) (ha : c.arm.also = none) : ∃ y, NMap.get? u.arms c.r.arm = some y ∧
    y.pc = c.arm.advance.pc ∧ y.word = c.arm.advance.word ∧ y.exm = c.arm.exm ∧ y.hold = .none := by
  obtain ⟨empty, harm⟩ := h.arm
  exact ⟨_, harm, rfl, rfl, c.arm.advance_exm, c.arm.advance_hold ha⟩

/-- The word is done: its arm moves on. -/
theorem Ctx.wentOn_advance {c : Ctx} (h : NMap.get? c.wave.arms c.r.arm = some c.arm) : c.WentOn (c.wave.modArm c.r.arm Arm.advance) := by
  refine ⟨Wave.modArm_offMarks _ _ _, c.arm.advance.empty, ?_⟩
  rw [Wave.get?_modArm, if_pos rfl, h]
  rfl

/-- What the launch of a producer leaves: it is the last one in flight in its wave, whose arm has moved on. -/
structure Ctx.Launched (c : Ctx) (w : Wave) (x : Result) (f : Flight) (s t : State) : Prop where
  wave : ∃ u ports empty, t.wave? c.r.core c.r.slot = some u ∧ u.inflight = w.inflight ++ [c.flight x f s.handles ports] ∧
    u.offMarks = w.offMarks ∧ NMap.get? u.arms c.r.arm = some { c.arm.advance with empty := empty }
  core : ∀ d, (t.core d).offSlots = (s.core d).offSlots
  mem : t.mem = s.mem
  host : t.hostMem = s.hostMem
  poison : t.poison = s.poison
  allocs : t.allocs = s.allocs
  clusters : t.clusters = s.clusters

theorem Ctx.launched {c : Ctx} {s : State} {w : Wave} (hh : c.held = none) (hw : s.wave? c.r.core c.r.slot = some w)
    (ha : NMap.get? w.arms c.r.arm = some c.arm) (x : Result) (f : Flight) :
    (c.launch x f s).1 = s.handles ∧ c.Launched w x f s (c.launch x f s).2 := by
  obtain ⟨ports, u, hu, hm⟩ := Ctx.mark_any hh x f s
  have huw : u.wave? c.r.core c.r.slot = some w := (congrArg (fun t : State => t.wave? c.r.core c.r.slot) hu :).trans hw
  have h1 := State.wave?_modWave_self huw (c.markedWith x f s.handles ports)
  have h2 := State.wave?_modWave_self h1 (fun w => w.modArm c.r.arm Arm.advance)
  unfold Ctx.launch
  rw [hm]
  refine ⟨rfl, ⟨_, ports, c.arm.empty ++ (c.ownDst x).vdst.map (fun e => (e.1, s.handles)), h2, ?_, ?_, ?_⟩, fun d => ?_, ?_, ?_, ?_, ?_, ?_⟩
  · exact (Wave.modArm_inflight _ _ _).trans (Wave.modArm_inflight _ _ _)
  · exact (Wave.modArm_offMarks _ _ _).trans (Wave.modArm_offMarks _ _ _)
  · rw [Wave.get?_modArm, if_pos rfl]
    unfold Ctx.markedWith
    rw [Wave.get?_modArm, if_pos rfl]
    refine (congrArg (fun a => Option.map Arm.advance (Option.map _ a)) ha).trans (congrArg some ?_)
    exact Arm.advance_withEmpty _ _
  · refine (State.offSlots_modWave _ _ _ _ _).trans ((State.offSlots_modWave _ _ _ _ _).trans ?_)
    exact (congrArg (fun t : State => (t.core d).offSlots) hu :)
  · exact (State.modWave_mem ..).trans ((State.modWave_mem ..).trans (congrArg State.mem hu :))
  · exact (State.modWave_hostMem ..).trans ((State.modWave_hostMem ..).trans (congrArg State.hostMem hu :))
  · exact (State.modWave_poison ..).trans ((State.modWave_poison ..).trans (congrArg State.poison hu :))
  · exact (State.modWave_allocs ..).trans ((State.modWave_allocs ..).trans (congrArg State.allocs hu :))
  · exact (State.modWave_clusters ..).trans ((State.modWave_clusters ..).trans (congrArg State.clusters hu :))

theorem Ctx.Launched.sameMemory {c : Ctx} {w : Wave} {x : Result} {f : Flight} {s t : State} (h : c.Launched w x f s t) : s.sameMemory t :=
  .of_eq h.mem h.host h.poison

end Sys2Proof.Machine
end
section
/-! ## Lanes of a vector access

The lanes of a mask in ascending order, and what they store (R160) and load (R372). -/
set_option Elab.async false

open Sys2Proof Sys2Proof.Machine

namespace Sys2Proof.Machine

theorem mem_maskLanes {m : Mask} {l : Nat} : l ∈ maskLanes m ↔ l < 32 ∧ m.getLsbD l = true := by
  unfold maskLanes allLanes laneSet
  rw [List.mem_filter, List.mem_range]

theorem maskLanes_pairwise (m : Mask) : (maskLanes m).Pairwise (· < ·) := List.pairwise_lt_range.filter _

/-- The first lane of a mask that passes a test. -/
theorem find?_maskLanes {m : Mask} {p : Nat → Bool} {l : Nat} (hl : l < 32) (hm : m.getLsbD l = true) (hp : p l = true)
    (hlow : ∀ k, k < l → m.getLsbD k = true → p k = false) : (maskLanes m).find? p = some l := by
  unfold maskLanes allLanes
  rw [List.find?_filter, List.find?_range_eq_some]
  refine ⟨?_, List.mem_range.2 hl, fun k hk => ?_⟩
  · exact decide_eq_true ⟨hm, hp⟩
  · cases hkm : m.getLsbD k with
    | false => simp [laneSet, hkm]
    | true => simp [hlow k hk hkm]

/-! ### Stores of lanes -/

/-- The bytes of a memory after writes in order. -/
def Memory.writes (m : Memory) (ws : List (Nat × Byte)) : Memory := ws.foldl (fun m e => Memory.write m e.1 e.2) m

theorem Memory.writes_append (m : Memory) (us ws : List (Nat × Byte)) : m.writes (us ++ ws) = (m.writes us).writes ws :=
  List.foldl_append

theorem Memory.read_writes_out (m : Memory) {ws : List (Nat × Byte)} {a : Nat} (h : ∀ e, e ∈ ws → e.1 ≠ a) : (m.writes ws).read a = m.read a := by
  induction ws generalizing m with
  | nil => rfl
  | cons e ws ih =>
    refine (ih (m.write e.1 e.2) (fun x hx => h x (List.mem_cons_of_mem _ hx))).trans ?_
    rw [Memory.read_write, if_neg (Ne.symm (h e List.mem_cons_self))]

theorem Memory.writes_laneBytes (m : Memory) (a : Nat) (bs : List Byte) : m.writes (laneBytes a bs) = m.writeBytes a bs := by
  induction bs generalizing m a with
  | nil => rfl
  | cons b bs ih =>
    have hcons : laneBytes a (b :: bs) = (a, b) :: laneBytes (a + 1) bs := by
      unfold laneBytes
      rw [List.length_cons, List.range_succ_eq_map, List.map_cons, List.map_map]
      refine congrArg ((a, b) :: ·) (List.map_congr_left (fun k _ => ?_))
      show (a + (k + 1), (b :: bs).getD (k + 1) 0#8) = (a + 1 + k, bs.getD k 0#8)
      rw [List.getD_cons_succ, Nat.add_assoc, Nat.add_comm 1 k]
    rw [hcons]
    exact ih _ _

theorem mem_laneBytes {a : Nat} {bs : List Byte} {e : Nat × Byte} (h : e ∈ laneBytes a bs) : a ≤ e.1 ∧ e.1 < a + bs.length := by
  obtain ⟨k, hk, rfl⟩ := List.mem_map.1 h
  rw [List.mem_range] at hk
  exact ⟨Nat.le_add_right _ _, Nat.add_lt_add_left hk a⟩

/-- Lanes that store in ascending order: a higher lane's bytes stand over a lower one's, every other byte as before (R160). -/
theorem stored_maskLanes (lanes : Mask) (n : Nat) (at_ : Nat → Nat) (data : Nat → List Byte) (hn : ∀ l, (data l).length = n) (m : Memory) :
    Claims.Stored lanes n at_ (fun l k => (data l).getD k 0#8) m.read
      (m.writes ((maskLanes lanes).flatMap (fun l => laneBytes (at_ l) (data l)))).read := by
  refine ⟨fun l k hl hset hk hover => ?_, fun a ha => ?_⟩
  · obtain ⟨pre, post, hsplit⟩ := List.append_of_mem (mem_maskLanes.2 ⟨hl, hset⟩)
    have hlater : ∀ x, x ∈ post → l < x ∧ x < 32 ∧ lanes.getLsbD x = true := by
      intro x hx
      have hp := maskLanes_pairwise lanes
      rw [hsplit, List.pairwise_append, List.pairwise_cons] at hp
      have hmem : x ∈ maskLanes lanes := by
        rw [hsplit]
        exact List.mem_append_right _ (List.mem_cons_of_mem _ hx)
      exact ⟨hp.2.1.1 x hx, mem_maskLanes.1 hmem⟩
    rw [hsplit, List.flatMap_append, List.flatMap_cons, Memory.writes_append, Memory.writes_append]
    refine (Memory.read_writes_out _ (fun e he heq => ?_)).trans ?_
    rotate_left
    · rw [Memory.writes_laneBytes, Memory.read_writeBytes_in _ _ _ _ (by rw [hn]; exact hk)]
      exact (List.getD_eq_getElem _ _ _).symm
    obtain ⟨x, hx, hex⟩ := List.mem_flatMap.1 he
    obtain ⟨hlo, hhi⟩ := mem_laneBytes hex
    rw [hn] at hhi
    obtain ⟨hlx, hx32, hxset⟩ := hlater x hx
    have := hover x hlx hx32 hxset
    omega
  · refine Memory.read_writes_out m (fun e he heq => ?_)
    obtain ⟨x, hx, hex⟩ := List.mem_flatMap.1 he
    obtain ⟨hlo, hhi⟩ := mem_laneBytes hex
    obtain ⟨hx32, hxset⟩ := mem_maskLanes.1 hx
    rw [hn] at hhi
    have := ha x hx32 hxset
    omega

/-! ### The bytes of a register group -/

theorem getD_flatMap_words (f : Nat → List Byte) (hf : ∀ j, (f j).length = 4) (n : Nat) {k : Nat} (hk : k < 4 * n) :
    ((List.range n).flatMap f).getD k 0#8 = (f (k / 4)).getD (k % 4) 0#8 := by
  induction n with
  | zero => omega
  | succ n ih =>
    have hlen : ((List.range n).flatMap f).length = 4 * n := by
      simp [List.length_flatMap, hf, Nat.mul_comm]
    rw [List.range_succ, List.flatMap_append, List.flatMap_singleton]
    by_cases h : k < 4 * n
    · rw [List.getD_append _ _ _ _ (by omega), ih h]
    · rw [List.getD_append_right _ _ _ _ (by omega), hlen]
      have h1 : k / 4 = n := by omega
      have h2 : k - 4 * n = k % 4 := by omega
      rw [h1, h2]

theorem natBytes_byte (w : Word) {k : Nat} (hk : k < 4) : (natBytes 4 w.toNat).getD k 0#8 = w.extractLsb' (8 * k) 8 := by
  rw [Claims.natBytes_getD _ hk]
  refine BitVec.eq_of_toNat_eq ?_
  rw [BitVec.toNat_ofNat, BitVec.extractLsb'_toNat, Nat.shiftRight_eq_div_pow, pow_mul]
  rfl

/-- A size code below 7 takes as many registers as it has words (R372). -/
theorem sizeBytes_le (z : Nat) (h : z ≠ 7) (h' : z < 8) : sizeBytes z ≤ 4 * sizeCount z := by
  unfold sizeBytes sizeCount
  split_ifs
  all_goals omega

theorem Ctx.length_laneData (c : Ctx) (d lane : Nat) {z : Nat} (h : z ≠ 7) (h' : z < 8) : (c.laneData d z lane).length = sizeBytes z := by
  unfold Ctx.laneData
  rw [List.length_take, List.length_flatMap]
  simp only [Claims.natBytes_length, List.map_const', List.length_range, List.sum_replicate, smul_eq_mul]
  exact Nat.min_eq_left (by have := sizeBytes_le z h h'; omega)

theorem Ctx.getD_laneData (c : Ctx) (d : Reg) (lane : Nat) {z k : Nat} (h : z ≠ 7) (h' : z < 8) (hk : k < sizeBytes z) :
    (c.laneData d.toNat z lane).getD k 0#8 = Claims.laneByte c d lane k := by
  have hle := sizeBytes_le z h h'
  unfold Ctx.laneData Claims.laneByte
  rw [List.getD_eq_getElem?_getD, List.getElem?_take_of_lt hk, ← List.getD_eq_getElem?_getD,
    getD_flatMap_words _ (fun j => Claims.natBytes_length 4 _) _ (by omega), natBytes_byte _ (Nat.mod_lt _ (by decide))]

theorem readBytes_eq_map (m : Memory) (a n : Nat) : m.readBytes a n = (List.range n).map (fun k => m.read (a + k)) := by
  refine Memory.readBytes_of_read (by rw [List.length_map, List.length_range]) (fun k hk => ?_)
  simp [hk]

end Sys2Proof.Machine
end
section
/-! ## Granules that are filled and read

What the requests at the granules of an allocation without poison do (R168, R169): they change producers in flight, and the allocation. -/
set_option Elab.async false

open Sys2Proof Sys2Proof.Machine

namespace Sys2Proof.Machine

/-! ### What a bank changes -/

/-- A wave without its producers in flight. -/
def Wave.offFlight (w : Wave) : Wave := { w with inflight := [] }

/-- Of the waves only the producers in flight may have changed, of the allocations only one, and no memory has. -/
structure State.Banked (aid : Nat) (s t : State) : Prop where
  waves : ∀ d k w, s.wave? d k = some w → ∃ u, t.wave? d k = some u ∧ u.offFlight = w.offFlight
  mem : t.mem = s.mem
  host : t.hostMem = s.hostMem
  poison : t.poison = s.poison
  others : ∀ k, k ≠ aid → t.alloc k = s.alloc k

theorem State.Banked.refl (aid : Nat) (s : State) : s.Banked aid s := ⟨fun _ _ w h => ⟨w, h, rfl⟩, rfl, rfl, rfl, fun _ _ => rfl⟩

theorem State.Banked.trans {aid : Nat} {s t u : State} (h : s.Banked aid t) (g : t.Banked aid u) : s.Banked aid u where
  waves d k w hw := by
    obtain ⟨v, hv, e⟩ := h.waves d k w hw
    obtain ⟨x, hx, f⟩ := g.waves d k v hv
    exact ⟨x, hx, f.trans e⟩
  mem := g.mem.trans h.mem
  host := g.host.trans h.host
  poison := g.poison.trans h.poison
  others k hk := (g.others k hk).trans (h.others k hk)

theorem State.Banked.sameMemory {aid : Nat} {s t : State} (h : s.Banked aid t) : s.sameMemory t := .of_eq h.mem h.host h.poison

theorem State.modAlloc_banked (s : State) (aid : Nat) (f : Alloc → Alloc) : s.Banked aid (s.modAlloc aid f) := by
  have h := s.modAlloc_offAllocs aid f
  refine ⟨fun d k w hw => ⟨w, (congrArg (fun t : State => t.wave? d k) h :).trans hw, rfl⟩, (congrArg State.mem h :),
    (congrArg State.hostMem h :), (congrArg State.poison h :), fun k hk => ?_⟩
  unfold State.modAlloc
  split
  · unfold State.alloc
    exact (NMap.at_put _ _ _ _ _).trans (if_neg hk)
  · rfl

theorem State.modPending_banked (s : State) (aid core slot id : Nat) (f : Pending → Pending) :
    s.Banked aid (s.modPending core slot id f) := by
  refine ⟨fun d k w hw => ?_, State.modWave_mem .., State.modWave_hostMem .., State.modWave_poison .., fun k _ => ?_⟩
  · unfold State.modPending
    rw [State.wave?_modWave]
    split
    · next h =>
      rw [← h.1, ← h.2, hw]
      exact ⟨_, rfl, rfl⟩
    · exact ⟨w, hw, rfl⟩
  · exact congrArg (fun m => NMap.at m k Alloc.empty) (State.modWave_allocs ..)

theorem State.modPending_allocs (s : State) (core slot id : Nat) (f : Pending → Pending) : (s.modPending core slot id f).allocs = s.allocs :=
  State.modWave_allocs ..

/-- The answer that a producer has from a granule. -/
def Pending.answered (p : Pending) (al : Alloc) (lanes : List (Nat × Nat)) : Pending := { p.fillLanes al lanes with left := p.left - 1 }

/-- A request at a granule without poison is answered. -/
theorem State.serveWait_clean {s : State} {aid : Nat} (h : (s.alloc aid).pois = []) (q : BankWait) :
    s.serveWait aid q = s.modPending q.core q.slot q.id (fun p => p.answered (s.alloc aid) q.lanes) := by
  have hnone : (q.lanes.filterMap (fun x => (s.alloc aid).poisonIn x.2 q.size)).head? = none := by
    rw [List.head?_eq_none_iff, List.filterMap_eq_nil_iff]
    exact fun x _ => Alloc.poisonIn_clean h _ _
  unfold State.serveWait
  simp only [hnone]
  rfl

/-! ### A granule that is filled -/

/-- An allocation after a granule has been filled (R169). -/
def Alloc.filled (al : Alloc) (g : Nat) : Alloc :=
  { al with
    full := if (servedBy (al.waits.filter (fun q => q.gran == g))).any (fun q => q.clear) then setErase al.full g else setInsert al.full g
    waits := al.waits.filter (fun q => !(servedBy (al.waits.filter (fun q => q.gran == g))).contains q) }

theorem any_clear_servedBy (l : List BankWait) : (servedBy l).any (fun q => q.clear) = l.any (fun q => q.clear) := by
  induction l with
  | nil => rfl
  | cons q l ih =>
    rw [servedBy]
    cases hq : q.clear with
    | true => simp [hq]
    | false => simp [hq, ih]

theorem mem_of_mem_servedBy {l : List BankWait} {q : BankWait} (h : q ∈ servedBy l) : q ∈ l := by
  induction l with
  | nil => cases h
  | cons x l ih =>
    rw [servedBy] at h
    split at h
    · rw [List.mem_singleton.1 h]
      exact List.mem_cons_self
    · rcases List.mem_cons.1 h with rfl | h
      · exact List.mem_cons_self
      · exact List.mem_cons_of_mem _ (ih h)

/-- A granule that is filled is full, unless a request that waits there empties it; the others stay. -/
theorem Alloc.mem_full_filled (al : Alloc) (g gr : Nat) :
    gr ∈ (al.filled g).full ↔ if gr = g then ∀ q, q ∈ al.waits → q.gran = gr → q.clear = false else gr ∈ al.full := by
  have hclear : (servedBy (al.waits.filter (fun q => q.gran == g))).any (fun q => q.clear) = true ↔ ∃ q, q ∈ al.waits ∧ q.gran = g ∧ q.clear = true := by
    rw [any_clear_servedBy, List.any_eq_true]
    simp only [List.mem_filter, beq_iff_eq, and_assoc]
  have hfull : (al.filled g).full = if (servedBy (al.waits.filter (fun q => q.gran == g))).any (fun q => q.clear) = true then setErase al.full g
    else setInsert al.full g := rfl
  rw [hfull]
  by_cases hg : gr = g
  · subst hg
    rw [if_pos rfl]
    split
    · next h =>
      obtain ⟨q, hq, hqg, hqc⟩ := hclear.1 h
      rw [mem_setErase]
      exact ⟨fun e => absurd rfl e.2, fun e => absurd (e q hq hqg) (by rw [hqc]; exact Bool.noConfusion)⟩
    · next h =>
      rw [mem_setInsert]
      refine ⟨fun _ q hq hqg => ?_, fun _ => .inl rfl⟩
      by_contra hqc
      exact h (hclear.2 ⟨q, hq, hqg, Bool.not_eq_false _ |>.mp hqc⟩)
  · rw [if_neg hg]
    split
    · rw [mem_setErase]
      exact ⟨And.left, fun e => ⟨e, hg⟩⟩
    · rw [mem_setInsert]
      exact ⟨fun e => e.resolve_left hg, .inr⟩

/-- What waits at other granules waits on. -/
theorem Alloc.mem_waits_filled {al : Alloc} {g : Nat} {q : BankWait} (h : q.gran ≠ g) : q ∈ (al.filled g).waits ↔ q ∈ al.waits := by
  show q ∈ al.waits.filter _ ↔ _
  rw [List.mem_filter]
  refine ⟨And.left, fun hq => ⟨hq, ?_⟩⟩
  rw [Bool.not_eq_true', ← Bool.not_eq_true, List.contains_iff_mem]
  refine fun hs => h ?_
  exact beq_iff_eq.1 (List.mem_filter.1 (mem_of_mem_servedBy hs)).2

theorem State.fillGranule_clean {s : State} {aid : Nat} {al : Alloc} (hal : NMap.get? s.allocs aid = some al) (hp : al.pois = []) (g : Nat) :
    s.Banked aid (s.fillGranule aid g) ∧ NMap.get? (s.fillGranule aid g).allocs aid = some (al.filled g) := by
  unfold State.fillGranule
  rw [State.alloc_of_get? hal]
  refine List.foldlRecOn (motive := fun t : State => s.Banked aid t ∧ NMap.get? t.allocs aid = some (al.filled g)) _ _
    ⟨s.modAlloc_banked aid _, State.get?_modAlloc hal _⟩ (fun t ht q _ => ?_)
  obtain ⟨hb, ha⟩ := ht
  have hclean : (t.alloc aid).pois = [] := by rw [State.alloc_of_get? ha]; exact hp
  rw [State.serveWait_clean hclean]
  exact ⟨hb.trans (State.modPending_banked _ _ _ _ _ _), by rw [State.modPending_allocs, ha]⟩

/-- Granules that are filled one after the other. -/
theorem State.fillGranules_clean {s : State} {aid : Nat} {al : Alloc} {gs : List Nat} (hal : NMap.get? s.allocs aid = some al) (hp : al.pois = [])
    (hn : gs.Nodup) : ∃ t, gs.foldl (fun s g => s.fillGranule aid g) s = t ∧ s.Banked aid t ∧
      ∃ al', NMap.get? t.allocs aid = some al' ∧ al'.cells = al.cells ∧
        ∀ gr, gr ∈ al'.full ↔ if gr ∈ gs then ∀ q, q ∈ al.waits → q.gran = gr → q.clear = false else gr ∈ al.full := by
  refine ⟨_, rfl, ?_⟩
  induction gs generalizing s al with
  | nil => exact ⟨.refl aid s, al, hal, rfl, fun gr => by simp⟩
  | cons g gs ih =>
    obtain ⟨hb, ha⟩ := State.fillGranule_clean hal hp g
    obtain ⟨hg, hn⟩ := List.nodup_cons.1 hn
    obtain ⟨hb', al', ha', hc, hf⟩ := ih ha (show (al.filled g).pois = [] from hp) hn
    refine ⟨hb.trans hb', al', ha', hc, fun gr => (hf gr).trans ?_⟩
    by_cases hgs : gr ∈ gs
    · have hne : gr ≠ g := fun e => hg (e ▸ hgs)
      rw [if_pos hgs, if_pos (List.mem_cons_of_mem _ hgs)]
      exact ⟨fun h q hq hqg => h q ((Alloc.mem_waits_filled (hqg ▸ hne)).2 hq) hqg, fun h q hq hqg =>
        h q ((Alloc.mem_waits_filled (hqg ▸ hne)).1 hq) hqg⟩
    · rw [if_neg hgs, Alloc.mem_full_filled]
      by_cases he : gr = g
      · rw [if_pos he, if_pos (he ▸ List.mem_cons_self)]
      · rw [if_neg he, if_neg (fun h => (List.mem_cons.1 h).elim he hgs)]

/-! ### The granules of some addresses -/

theorem nodup_setInsert {l : List Nat} (h : l.Nodup) (k : Nat) : (setInsert l k).Nodup := by
  unfold setInsert
  split
  · exact h
  · next hk =>
    rw [List.nodup_append]
    refine ⟨h, List.nodup_singleton k, fun a ha b hb e => hk ?_⟩
    rw [List.contains_iff_mem, ← List.mem_singleton.1 hb, ← e]
    exact ha

theorem granulesOf_spec (as : List Nat) : (granulesOf as).Nodup ∧ ∀ g, g ∈ granulesOf as ↔ ∃ a, a ∈ as ∧ g = a / 16 := by
  have key (l : List Nat) (hl : l.Nodup) : (as.foldl (fun l a => setInsert l (a / 16)) l).Nodup ∧
      ∀ g, g ∈ as.foldl (fun l a => setInsert l (a / 16)) l ↔ g ∈ l ∨ ∃ a, a ∈ as ∧ g = a / 16 := by
    induction as generalizing l with
    | nil => exact ⟨hl, fun g => by simp⟩
    | cons a as ih =>
      obtain ⟨hn, hm⟩ := ih (setInsert l (a / 16)) (nodup_setInsert hl _)
      refine ⟨hn, fun g => (hm g).trans ?_⟩
      rw [mem_setInsert, List.exists_mem_cons_iff]
      tauto
  obtain ⟨hn, hm⟩ := key [] List.nodup_nil
  exact ⟨hn, fun g => (hm g).trans (by simp)⟩

end Sys2Proof.Machine
end
section
/-! ## Accesses to local memory

LDL, STL and STL.fill (R158 to R160, R168, R379, R428): the lanes that lie in the allocation, and what each word does of them. -/
set_option Elab.async false

open Sys2Proof Sys2Proof.Machine

namespace Sys2Proof.Machine

/-! ### The context of a word that takes place -/

/-- A word takes place in the context `b` and the state `v`, once its class is noted and its ports are read. -/
structure Ctx.Begun (c b : Ctx) (v : State) : Prop where
  ref : b.r = c.r
  arm : b.arm = c.arm
  team : b.team = c.team
  job : b.job = c.job
  free : b.held = none
  wave : v.wave? c.r.core c.r.slot = some c.wave
  live : NMap.get? c.wave.arms c.r.arm = some c.arm

theorem State.begun_team (s : State) (c : Ctx) (i : Instr) : (s.begun c i).1.team = c.team := by
  obtain hb | ⟨rings, e, es, -, hb⟩ := s.begun_cases c i
  · rw [hb]
  · rw [hb]
    rfl

theorem Ready.begun {s : State} {i : Instr} {c : Ctx} (h : Ready s i c) : c.Begun (s.begun c i).1 (s.begun c i).2 := by
  have hp := s.begun_popped c i
  refine ⟨hp.ref, hp.arm, s.begun_team c i, hp.job, hp.held.trans (Ctx.stands h.ctx).free, ?_, Ctx.get?_self h.ctx⟩
  rw [← hp.ref]
  exact State.begun_wave? h.ctx

theorem State.begun_alloc (s : State) (c : Ctx) (i : Instr) (k : Nat) : (s.begun c i).2.alloc k = s.alloc k :=
  (congrArg (fun m => NMap.at m k Alloc.empty) (s.begun_popped c i).allocs).trans (s.noted_alloc c i k)

section

variable {c b : Ctx} {v : State} (hb : c.Begun b v)

include hb

/-- The word is done: its arm moves on. -/
theorem Ctx.Begun.done : ∃ w, (b.done v).wave? c.r.core c.r.slot = some w ∧ c.WentOn w ∧ w = c.wave.modArm c.r.arm Arm.advance := by
  refine ⟨_, ?_, Ctx.wentOn_advance hb.live, rfl⟩
  unfold Ctx.done State.modArm
  rw [hb.ref]
  exact State.wave?_modWave_self hb.wave _

/-- A producer that the word launches is in flight in its wave, which goes on. -/
theorem Ctx.Begun.launch (x : Result) (f : Flight) : (b.launch x f v).1 = v.handles ∧ b.Launched c.wave x f v (b.launch x f v).2 ∧
    ∃ w ports, (b.launch x f v).2.wave? c.r.core c.r.slot = some w ∧ c.WentOn w ∧ w.inflight = c.wave.inflight ++ [b.flight x f v.handles ports] := by
  obtain ⟨hid, hl⟩ := Ctx.launched (c := b) hb.free (hb.ref ▸ hb.wave) (by rw [hb.ref, hb.arm]; exact hb.live) x f
  obtain ⟨u, ports, empty, hu, hi, hr, ha⟩ := hl.wave
  rw [hb.ref] at hu ha
  rw [hb.arm] at ha
  exact ⟨hid, hl, u, ports, hu, ⟨hr, empty, ha⟩, hi⟩

end

/-! ### Lanes in the allocation -/

/-- The enabled lanes with their local addresses, aligned down (R158, R159). -/
def Ctx.alignedLanes (c : Ctx) (a b : Reg) (n : Nat) : List (Nat × Nat) :=
  (maskLanes c.lanes).map (fun l => (l, Claims.laneLA c a b l / n * n))

theorem Ctx.alignLanes_localLanes (c : Ctx) (a b : Reg) (n : Nat) : alignLanes n (c.localLanes a b) = c.alignedLanes a b n := by
  unfold alignLanes Ctx.localLanes Ctx.alignedLanes
  rw [List.map_map]
  rfl

theorem Ctx.mem_localLanes {c : Ctx} {a b : Reg} {e : Nat × Nat} :
    e ∈ c.localLanes a b ↔ (e.1 < 32 ∧ c.lanes.getLsbD e.1 = true) ∧ e.2 = Claims.laneLA c a b e.1 := by
  unfold Ctx.localLanes
  rw [List.mem_map]
  constructor
  · rintro ⟨l, hl, rfl⟩
    exact ⟨mem_maskLanes.1 hl, rfl⟩
  · rintro ⟨hl, he⟩
    exact ⟨e.1, mem_maskLanes.2 hl, Prod.ext rfl he.symm⟩

/-- The first lane past the allocation is named by the fault, and all of them by its mask (R158, R280). -/
theorem Ctx.inAlloc_outside {b : Ctx} {v : State} {a r : Reg} {l : Nat} (n : Nat) (k : List (Nat × Nat) → State → State) (hl : l < 32)
    (hset : b.lanes.getLsbD l = true) (hout : (v.alloc b.team.alloc).bytes ≤ Claims.laneLA b a r l)
    (hlow : ∀ m, m < l → b.lanes.getLsbD m = true → Claims.laneLA b a r m < (v.alloc b.team.alloc).bytes) :
    ∃ m, b.inAlloc n (b.localLanes a r) v k = b.faultLanes 0x12 2 (Claims.laneLA b a r l % 2 ^ 32) m v ∧
      ∀ j, j < 32 → m.getLsbD j = (b.lanes.getLsbD j && decide ((v.alloc b.team.alloc).bytes ≤ Claims.laneLA b a r j)) := by
  have hfind : (b.localLanes a r).find? (fun e => decide (b.allocBytes v ≤ e.2)) = some (l, Claims.laneLA b a r l) := by
    unfold Ctx.localLanes
    rw [List.find?_map]
    exact congrArg (Option.map _) (find?_maskLanes hl hset (decide_eq_true hout) (fun m hm hs => decide_eq_false (Nat.not_le.2 (hlow m hm hs))))
  unfold Ctx.inAlloc
  simp only [hfind]
  refine ⟨_, rfl, fun j hj => ?_⟩
  unfold laneMask
  rw [getLsbD_maskOf _ hj, Bool.eq_iff_iff, List.any_eq_true, Bool.and_eq_true, decide_eq_true_iff]
  constructor
  · rintro ⟨e, he, hej⟩
    obtain ⟨he, hbytes⟩ := List.mem_filter.1 he
    obtain ⟨⟨-, hs⟩, hla⟩ := Ctx.mem_localLanes.1 he
    obtain rfl := beq_iff_eq.1 hej
    exact ⟨hs, hla ▸ of_decide_eq_true hbytes⟩
  · rintro ⟨hs, hbytes⟩
    exact ⟨(j, Claims.laneLA b a r j), List.mem_filter.2 ⟨Ctx.mem_localLanes.2 ⟨⟨hj, hs⟩, rfl⟩, decide_eq_true hbytes⟩, beq_self_eq_true j⟩

/-- Where every lane lies in the allocation, the access goes on with its addresses aligned down (R159). -/
theorem Ctx.inAlloc_inside {b : Ctx} {v : State} {a r : Reg} (n : Nat) (k : List (Nat × Nat) → State → State)
    (h : ∀ l, l < 32 → b.lanes.getLsbD l = true → Claims.laneLA b a r l < (v.alloc b.team.alloc).bytes) :
    b.inAlloc n (b.localLanes a r) v k = k (b.alignedLanes a r n) v := by
  have hfind : (b.localLanes a r).find? (fun e => decide (b.allocBytes v ≤ e.2)) = none := by
    rw [List.find?_eq_none]
    intro e he
    obtain ⟨⟨h32, hs⟩, hla⟩ := Ctx.mem_localLanes.1 he
    rw [decide_eq_true_iff, hla]
    exact Nat.not_le.2 (h e.1 h32 hs)
  unfold Ctx.inAlloc
  simp only [hfind]
  rw [Ctx.alignLanes_localLanes]

/-- A mask that is not empty has a lane. -/
theorem exists_lane {m : Mask} (h : m ≠ 0#32) : ∃ l, l < 32 ∧ m.getLsbD l = true := by
  by_contra hno
  refine h (BitVec.eq_of_getLsbD_eq (fun l hl => ?_))
  rw [BitVec.getLsbD_zero]
  exact Bool.eq_false_iff.2 (fun e => hno ⟨l, hl, e⟩)

/-- An allocation that has a byte stands. -/
theorem State.get?_of_bytes {s : State} {aid : Nat} (h : (s.alloc aid).bytes ≠ 0) : NMap.get? s.allocs aid = some (s.alloc aid) := by
  unfold State.alloc NMap.at at *
  cases he : NMap.get? s.allocs aid with
  | none =>
    rw [he] at h
    exact absurd rfl h
  | some al => rfl

/-- A local word: nothing happens without an enabled lane; else its lanes lie in the allocation, or it faults (R158). -/
def LocalWord (i : Instr) (a b : Reg) (n : Nat) (k : Ctx → List (Nat × Nat) → State → State) : Prop :=
  ∀ (s : State) (c : Ctx), Ready s i c → exec i s = .next (if (s.begun c i).1.lanes = 0#32 then (s.begun c i).1.done (s.begun c i).2
    else (s.begun c i).1.inAlloc n ((s.begun c i).1.localLanes a b) (s.begun c i).2 (k (s.begun c i).1))

section

variable {i : Instr} {a b : Reg} {n : Nat} {k : Ctx → List (Nat × Nat) → State → State} (hi : LocalWord i a b n k)
  {s : State} {c : Ctx} (h : Ready s i c)

include hi h

theorem LocalWord.idle (hl : (s.begun c i).1.lanes = 0#32) : exec i s = .next ((s.begun c i).2.modArm c.r Arm.advance) := by
  rw [hi s c h, if_pos hl]
  unfold Ctx.done
  rw [h.begun.ref]

theorem LocalWord.outside {l : Nat} (hl : l < 32) (hset : (s.begun c i).1.lanes.getLsbD l = true)
    (hout : ((s.begun c i).2.alloc c.team.alloc).bytes ≤ Claims.laneLA (s.begun c i).1 a b l)
    (hlow : ∀ m, m < l → (s.begun c i).1.lanes.getLsbD m = true →
      Claims.laneLA (s.begun c i).1 a b m < ((s.begun c i).2.alloc c.team.alloc).bytes) :
    ∃ m, exec i s = .next ((s.begun c i).1.faultLanes 0x12 2 (Claims.laneLA (s.begun c i).1 a b l % 2 ^ 32) m (s.begun c i).2) ∧
      ∀ k, k < 32 → m.getLsbD k = ((s.begun c i).1.lanes.getLsbD k &&
        decide (((s.begun c i).2.alloc c.team.alloc).bytes ≤ Claims.laneLA (s.begun c i).1 a b k)) := by
  have hlanes : (s.begun c i).1.lanes ≠ 0#32 := by
    intro e
    rw [e, BitVec.getLsbD_zero] at hset
    cases hset
  rw [hi s c h, if_neg hlanes]
  rw [← s.begun_team c i] at hout hlow ⊢
  obtain ⟨m, he, hm⟩ := Ctx.inAlloc_outside n (k (s.begun c i).1) hl hset hout hlow
  exact ⟨m, congrArg Host.Outcome.next he, hm⟩

theorem LocalWord.inside (hlanes : (s.begun c i).1.lanes ≠ 0#32) (hin : ∀ l, l < 32 → (s.begun c i).1.lanes.getLsbD l = true →
      Claims.laneLA (s.begun c i).1 a b l < ((s.begun c i).2.alloc c.team.alloc).bytes) :
    exec i s = .next (k (s.begun c i).1 ((s.begun c i).1.alignedLanes a b n) (s.begun c i).2) := by
  rw [hi s c h, if_neg hlanes]
  rw [← s.begun_team c i] at hin
  exact congrArg Host.Outcome.next (Ctx.inAlloc_inside n (k (s.begun c i).1) hin)

omit hi h in
/-- The wave's allocation stands where an enabled lane lies in it. -/
theorem Ready.allocation (hlanes : (s.begun c i).1.lanes ≠ 0#32) {f : Nat → Nat} (hin : ∀ l, l < 32 → (s.begun c i).1.lanes.getLsbD l = true →
      f l < ((s.begun c i).2.alloc c.team.alloc).bytes) :
    NMap.get? (s.begun c i).2.allocs c.team.alloc = some ((s.begun c i).2.alloc c.team.alloc) := by
  obtain ⟨l, hl, hs⟩ := exists_lane hlanes
  exact State.get?_of_bytes (Nat.ne_of_gt (Nat.lt_of_le_of_lt (Nat.zero_le _) (hin l hl hs)))

end

/-! ### What the words do -/

/-- LDL reads at the bank (R379). -/
def Ctx.localLoad (d : Reg) (z : Nat) (c : Ctx) (lanes : List (Nat × Nat)) (s : State) : State :=
  match lanes.find? (fun e => ((s.alloc c.team.alloc).poisonIn e.2 (sizeBytes z)).isSome) with
  | some e => c.faultLanes 0x13 0 (e.2 / 32 * 32)
      (laneMask (lanes.filter (fun x => ((s.alloc c.team.alloc).poisonIn x.2 (sizeBytes z)).isSome))) s
  | none => (c.launch { vdst := loadRegs z d.toNat (lanes.map (fun e => (e.1, e.2, (s.alloc c.team.alloc).bytesAt e.2 (sizeBytes z), false))) }
      { isMem := true, load := some { loc := true, size := z, lanes := lanes, scalar := false, nt := false } } s).2

/-- STL writes at the bank (R428). -/
def Ctx.localPut (d : Reg) (z : Nat) (c : Ctx) (lanes : List (Nat × Nat)) (s : State) : State := c.done (c.localStore (c.laneData d.toNat z) lanes s)

/-- STL.fill fills what it has written (R428). -/
def Ctx.localFill (d : Reg) (z : Nat) (c : Ctx) (lanes : List (Nat × Nat)) (s : State) : State :=
  (granulesOf (lanes.map (fun e => e.2))).foldl (fun s gr => s.fillGranule c.team.alloc gr) (c.localPut d z lanes s)

theorem localWord_ldl (d a b : Reg) (g z : BitVec 3) : LocalWord (.ldl d a b g z) a b (sizeBytes z.toNat) (Ctx.localLoad d z.toNat) :=
  fun _ _ h => State.run_ready h _

theorem localWord_stl (d a b : Reg) (g z : BitVec 3) : LocalWord (.stl d a b g z) a b (sizeBytes z.toNat) (Ctx.localPut d z.toNat) :=
  fun _ _ h => State.run_ready h _

theorem localWord_stlFill (d a b : Reg) (g : BitVec 3) (z : BitVec 1) :
    LocalWord (.stlFill d a b g z) a b (sizeBytes (if z = 1#1 then 6 else 4)) (Ctx.localFill d (if z = 1#1 then 6 else 4)) :=
  fun _ _ h => State.run_ready h _

/-- What a local word leaves alone, and where its arm goes. -/
structure Ctx.LocalDone (c : Ctx) (v t : State) (w : Wave) : Prop where
  wave : t.wave? c.r.core c.r.slot = some w
  went : c.WentOn w
  memory : v.sameMemory t
  others : ∀ k, k ≠ c.team.alloc → t.alloc k = v.alloc k

section

variable {c b : Ctx} {v : State} {al : Alloc} (hb : c.Begun b v) (hal : NMap.get? v.allocs c.team.alloc = some al) (hp : al.pois = [])
  (d : Reg) {z : Nat}

include hb hal hp

/-- LDL has in flight what the lanes read. -/
theorem Ctx.Begun.localLoad (z : Nat) (lanes : List (Nat × Nat)) : ∃ w q, c.LocalDone v (b.localLoad d z lanes v) w ∧
    v.sameScratch (b.localLoad d z lanes v) ∧ q ∈ w.inflight ∧ q.lanes = b.lanes ∧ q.left = 0 ∧
    q.vdst = loadRegs z d.toNat (lanes.map (fun e => (e.1, e.2, al.bytesAt e.2 (sizeBytes z), false))) := by
  have hclean : lanes.find? (fun e => (al.poisonIn e.2 (sizeBytes z)).isSome) = none :=
    List.find?_eq_none.2 (fun e _ => by rw [Alloc.poisonIn_clean hp]; exact Bool.false_ne_true)
  unfold Ctx.localLoad
  rw [hb.team, State.alloc_of_get? hal]
  simp only [hclean]
  obtain ⟨-, hl, w, ports, hw, hwent, hq⟩ := hb.launch
    { vdst := loadRegs z d.toNat (lanes.map (fun e => (e.1, e.2, al.bytesAt e.2 (sizeBytes z), false))) }
    { isMem := true, load := some { loc := true, size := z, lanes := lanes, scalar := false, nt := false } }
  refine ⟨w, b.flight { vdst := loadRegs z d.toNat (lanes.map (fun e => (e.1, e.2, al.bytesAt e.2 (sizeBytes z), false))) }
    { isMem := true, load := some { loc := true, size := z, lanes := lanes, scalar := false, nt := false } } v.handles ports,
    ⟨hw, hwent, hl.sameMemory, fun k _ => congrArg (fun m => NMap.at m k Alloc.empty) hl.allocs⟩, .of_eq hl.allocs, ?_, rfl, rfl, rfl⟩
  rw [hq]
  exact List.mem_append_right _ (List.mem_singleton.2 rfl)

/-- What a local store makes of its allocation: the bytes, and nothing of its granules. -/
theorem Ctx.Begun.localPut (lanes : List (Nat × Nat)) : c.LocalDone v (b.localPut d z lanes v) (c.wave.modArm c.r.arm Arm.advance) ∧
    ∃ al', NMap.get? (b.localPut d z lanes v).allocs c.team.alloc = some al' ∧ al'.full = al.full ∧ al'.waits = al.waits ∧ al'.pois = [] ∧
      al'.cells = al.cells.writes (lanes.flatMap (fun e => laneBytes e.2 (b.laneData d.toNat z e.1))) := by
  let ws := lanes.flatMap (fun e => laneBytes e.2 (b.laneData d.toNat z e.1))
  let u := v.modAlloc c.team.alloc (fun al => (al.putAll ws).cleanse ws)
  have he : b.localPut d z lanes v = u.modArm c.r Arm.advance := by
    unfold Ctx.localPut Ctx.localStore Ctx.done
    rw [hb.team, hb.ref]
  have hbank : v.Banked c.team.alloc u := v.modAlloc_banked _ _
  have hu : u.wave? c.r.core c.r.slot = some c.wave :=
    (congrArg (fun t : State => t.wave? c.r.core c.r.slot) (v.modAlloc_offAllocs c.team.alloc _) :).trans hb.wave
  have hallocs : (u.modArm c.r Arm.advance).allocs = u.allocs := State.modWave_allocs ..
  rw [he]
  refine ⟨⟨State.wave?_modWave_self hu _, Ctx.wentOn_advance hb.live, hbank.sameMemory.trans (State.sameMemory_modWave _ _ _ _),
    fun k hk => (congrArg (fun m => NMap.at m k Alloc.empty) hallocs).trans (hbank.others k hk)⟩, (al.putAll ws).cleanse ws, ?_, rfl, rfl, ?_, rfl⟩
  · rw [hallocs]
    exact State.get?_modAlloc hal _
  · show al.pois.filter _ = []
    rw [hp]
    rfl

/-- STL.fill stores, and sets each granule that it writes full, unless a request that empties it waits there (R168, R428). -/
theorem Ctx.Begun.localFill (lanes : List (Nat × Nat)) : ∃ w, c.LocalDone v (b.localFill d z lanes v) w ∧
    ∃ al', NMap.get? (b.localFill d z lanes v).allocs c.team.alloc = some al' ∧
      al'.cells = al.cells.writes (lanes.flatMap (fun e => laneBytes e.2 (b.laneData d.toNat z e.1))) ∧
      ∀ gr, gr ∈ al'.full ↔ if ∃ e, e ∈ lanes ∧ gr = e.2 / 16 then ∀ q, q ∈ al.waits → q.gran = gr → q.clear = false else gr ∈ al.full := by
  obtain ⟨hd, al1, hal1, hfull, hwaits, hpois, hcells⟩ := hb.localPut hal hp d (z := z) lanes
  obtain ⟨hnodup, hmem⟩ := granulesOf_spec (lanes.map (fun e => e.2))
  obtain ⟨t, ht, hbank, al2, hal2, hcells2, hfull2⟩ := State.fillGranules_clean hal1 hpois hnodup
  have he : b.localFill d z lanes v = t := by
    unfold Ctx.localFill
    rw [hb.team]
    exact ht
  obtain ⟨w, hw, hoff⟩ := hbank.waves _ _ _ hd.wave
  rw [he]
  refine ⟨w, ⟨hw, ?_, hd.memory.trans hbank.sameMemory, fun k hk => (hbank.others k hk).trans (hd.others k hk)⟩, al2, hal2, hcells2.trans hcells,
    fun gr => ?_⟩
  · obtain ⟨hrest, empty, harm⟩ := hd.went
    refine ⟨(congrArg Wave.offMarks hoff :).trans hrest, empty, ?_⟩
    rw [show w.arms = _ from (congrArg Wave.arms hoff :)]
    exact harm
  · have hiff : gr ∈ granulesOf (lanes.map (fun e => e.2)) ↔ ∃ e, e ∈ lanes ∧ gr = e.2 / 16 := by
      rw [hmem]
      exact ⟨fun ⟨_, ha, hg⟩ => (List.mem_map.1 ha).elim (fun e he => ⟨e, he.1, he.2 ▸ hg⟩), fun ⟨e, he, hg⟩ => ⟨_, List.mem_map.2 ⟨e, he, rfl⟩, hg⟩⟩
    rw [hfull2, hfull, hwaits]
    simp only [hiff]

end

end Sys2Proof.Machine
end
section
/-! ## What local words read and store

The lanes of a local word in the shape of their registers (R372) and bytes (R160). -/
set_option Elab.async false

open Sys2Proof Sys2Proof.Machine

namespace Sys2Proof.Machine

/-- In a list with an entry for each lane of a mask, the entry of a lane. -/
theorem find?_laneMap {α : Type} {m : Mask} {l : Nat} (hl : l < 32) (hm : m.getLsbD l = true) (f : Nat → α) (key : α → Nat) (hk : ∀ k, key (f k) = k) :
    ((maskLanes m).map f).find? (fun e => key e == l) = some (f l) := by
  rw [List.find?_map]
  refine congrArg (Option.map f) (find?_maskLanes hl hm ?_ (fun k hkl _ => ?_))
  · exact beq_iff_eq.2 (hk l)
  · exact beq_eq_false_iff_ne.2 ((hk k).symm ▸ Nat.ne_of_lt hkl)

/-- The registers that the lanes of a mask read hold the words of their bytes (R372). -/
theorem loadRegs_maskLanes (z d : Nat) (m : Mask) (at_ : Nat → Nat) (bytes : Nat → List Byte) :
    (loadRegs z d (((maskLanes m).map (fun l => (l, at_ l))).map (fun e => (e.1, e.2, bytes e.2, false)))).length = sizeCount z ∧
    ∀ k, k < sizeCount z → ∃ v, (loadRegs z d (((maskLanes m).map (fun l => (l, at_ l))).map (fun e => (e.1, e.2, bytes e.2, false))))[k]? = some (d + k, v) ∧
      ∀ l, l < 32 → m.getLsbD l = true → v.lane l = loadWord z (bytes (at_ l)) k := by
  unfold loadRegs
  rw [List.map_map]
  refine ⟨by rw [List.length_map, List.length_range], fun k hk => ?_⟩
  rw [List.getElem?_map, List.getElem?_range hk]
  refine ⟨_, rfl, fun l hl hm => ?_⟩
  have hfind := find?_laneMap hl hm (fun x => (x, at_ x, bytes (at_ x), false)) Prod.fst (fun _ => rfl)
  rw [LaneVec.lane_ofFn _ l hl]
  exact congrArg (fun o : Option (Nat × Nat × List Byte × Bool) => match o with
    | some e => loadWord z e.2.2.1 k
    | none => 0#32) hfind

theorem stored_congr {lanes : Mask} {n : Nat} {at_ : Nat → Nat} {f g : Nat → Nat → Byte} {r r' : Nat → Byte} (h : ∀ l k, k < n → f l k = g l k)
    (hs : Claims.Stored lanes n at_ f r r') : Claims.Stored lanes n at_ g r r' :=
  ⟨fun l k hl hset hk hover => (hs.1 l k hl hset hk hover).trans (h l k hk), hs.2⟩

/-- What a local store leaves in the bytes of its allocation (R160). -/
theorem Ctx.stored_alignedLanes (c : Ctx) (d a b : Reg) {z : Nat} (h : z ≠ 7) (h' : z < 8) (m : Memory) :
    Claims.Stored c.lanes (sizeBytes z) (fun l => Claims.laneLA c a b l / sizeBytes z * sizeBytes z) (Claims.laneByte c d) m.read
      (m.writes ((c.alignedLanes a b (sizeBytes z)).flatMap (fun e => laneBytes e.2 (c.laneData d.toNat z e.1)))).read := by
  unfold Ctx.alignedLanes
  rw [List.flatMap_map]
  exact stored_congr (fun l k hk => c.getD_laneData d l h h' hk)
    (stored_maskLanes c.lanes (sizeBytes z) _ (c.laneData d.toNat z) (fun l => c.length_laneData d.toNat l h h') m)

theorem Ctx.mem_alignedLanes {c : Ctx} {a b : Reg} {n : Nat} {e : Nat × Nat} :
    e ∈ c.alignedLanes a b n ↔ (e.1 < 32 ∧ c.lanes.getLsbD e.1 = true) ∧ e.2 = Claims.laneLA c a b e.1 / n * n := by
  unfold Ctx.alignedLanes
  rw [List.mem_map]
  constructor
  · rintro ⟨l, hl, rfl⟩
    exact ⟨mem_maskLanes.1 hl, rfl⟩
  · rintro ⟨hl, he⟩
    exact ⟨e.1, mem_maskLanes.2 hl, Prod.ext rfl he.symm⟩

theorem Ctx.exists_alignedLanes {c : Ctx} {a b : Reg} {n gr : Nat} : (∃ e, e ∈ c.alignedLanes a b n ∧ gr = e.2 / 16) ↔
    ∃ l, l < 32 ∧ c.lanes.getLsbD l = true ∧ gr = Claims.laneLA c a b l / n * n / 16 := by
  constructor
  · rintro ⟨e, he, hg⟩
    obtain ⟨⟨h32, hs⟩, hla⟩ := Ctx.mem_alignedLanes.1 he
    exact ⟨e.1, h32, hs, hla ▸ hg⟩
  · rintro ⟨l, h32, hs, hg⟩
    exact ⟨(l, _), Ctx.mem_alignedLanes.2 ⟨⟨h32, hs⟩, rfl⟩, hg⟩

/-- What a local word leaves alone, from the state that it finds. -/
theorem Ctx.LocalDone.frame {c : Ctx} {s v t : State} {w : Wave} {P : Prop} (h : c.LocalDone v t w) (hs : s.sameMemory v)
    (ha : c.arm.also = none) (hp : P) : t.wave? c.r.core c.r.slot = some w ∧ s.sameMemory t ∧
      (∀ r, w.sreg r = c.wave.sreg r) ∧ (∀ r, w.vreg r = c.wave.vreg r) ∧ (∀ r, w.preg r = c.wave.preg r) ∧ w.controls = c.wave.controls ∧
      (∃ y, NMap.get? w.arms c.r.arm = some y ∧ y.pc = c.arm.advance.pc ∧ y.word = c.arm.advance.word ∧ y.exm = c.arm.exm ∧ y.hold = .none) ∧ P := by
  obtain ⟨hsreg, hvreg, hpreg, hctl⟩ := h.went.regs
  exact ⟨h.wave, hs.trans h.memory, hsreg, hvreg, hpreg, hctl, h.went.place ha, hp⟩

end Sys2Proof.Machine

namespace Sys2Proof

open Machine

/-- Each plain local word is one of three. -/
theorem localWord_of_kind {i : Instr} {d a b : Reg} {g : BitVec 3} {z kind : Nat} (hi : (∃ q : BitVec 3, i = .ldl d a b g q ∧ z = q.toNat ∧ kind = 0) ∨
      (∃ q : BitVec 3, i = .stl d a b g q ∧ q ≠ 7#3 ∧ z = q.toNat ∧ kind = 1) ∨
      (∃ q : BitVec 1, i = .stlFill d a b g q ∧ z = (if q = 1#1 then 6 else 4) ∧ kind = 2)) :
    ∃ k : Ctx → List (Nat × Nat) → State → State, LocalWord i a b (sizeBytes z) k ∧
      (k = Ctx.localLoad d z ∧ kind = 0 ∨ k = Ctx.localPut d z ∧ kind = 1 ∧ z ≠ 7 ∧ z < 8 ∨ k = Ctx.localFill d z ∧ kind = 2 ∧ z ≠ 7 ∧ z < 8) := by
  rcases hi with ⟨q, rfl, rfl, rfl⟩ | ⟨q, rfl, hq, rfl, rfl⟩ | ⟨q, rfl, rfl, rfl⟩
  · exact ⟨_, localWord_ldl d a b g q, .inl ⟨rfl, rfl⟩⟩
  · exact ⟨_, localWord_stl d a b g q, .inr (.inl ⟨rfl, rfl, fun e => hq (BitVec.eq_of_toNat_eq e), q.isLt⟩)⟩
  · refine ⟨_, localWord_stlFill d a b g q, .inr (.inr ⟨rfl, rfl, ?_⟩)⟩
    split
    · decide
    · decide

end Sys2Proof
end
section
/-! ## Loads that wait for granules

LDL.w and LDL.wc (R168, R169, R379): each distinct granule of the lanes has a request, which reads at once or waits at the bank. -/
set_option Elab.async false

open Sys2Proof Sys2Proof.Machine

namespace Sys2Proof.Machine

/-! ### A request at a bank -/

/-- A request for a granule reads at once: the granule is full and none waits there (R169). -/
def Alloc.readsAtOnce (al : Alloc) (gr : Nat) : Bool := al.full.contains gr && !(al.waits.any (fun x => x.gran == gr))

theorem Alloc.readsAtOnce_iff {al : Alloc} {gr : Nat} : al.readsAtOnce gr = true ↔ gr ∈ al.full ∧ ∀ q, q ∈ al.waits → q.gran ≠ gr := by
  unfold Alloc.readsAtOnce
  rw [Bool.and_eq_true, List.contains_iff_mem, Bool.not_eq_true', List.any_eq_false]
  simp only [beq_iff_eq, ne_eq]

/-- An allocation after a request has arrived. -/
def Alloc.arrived (al : Alloc) (q : BankWait) : Alloc :=
  if al.readsAtOnce q.gran then (if q.clear then { al with full := setErase al.full q.gran } else al) else { al with waits := al.waits ++ [q] }

/-- A producer after a request of it has arrived. -/
def Pending.arrived (al : Alloc) (p : Pending) (q : BankWait) : Pending := if al.readsAtOnce q.gran then p.answered al q.lanes else p

theorem Alloc.arrived_cells (al : Alloc) (q : BankWait) : (al.arrived q).cells = al.cells := by
  unfold Alloc.arrived
  split
  · split <;> rfl
  · rfl

theorem Alloc.arrived_pois (al : Alloc) (q : BankWait) : (al.arrived q).pois = al.pois := by
  unfold Alloc.arrived
  split
  · split <;> rfl
  · rfl

theorem Alloc.mem_full_arrived (al : Alloc) (q : BankWait) (gr : Nat) :
    gr ∈ (al.arrived q).full ↔ gr ∈ al.full ∧ ¬ (q.gran = gr ∧ q.clear = true ∧ al.readsAtOnce gr = true) := by
  unfold Alloc.arrived
  split
  · next hr =>
    split
    · next hc =>
      rw [mem_setErase]
      exact and_congr_right fun _ => ⟨fun hne e => hne e.1.symm, fun hno e => hno ⟨e.symm, hc, e ▸ hr⟩⟩
    · next hc => exact (and_iff_left (fun e => hc e.2.1)).symm
  · next hr =>
    have hno : ¬ (q.gran = gr ∧ q.clear = true ∧ al.readsAtOnce gr = true) := fun ⟨e, _, h⟩ => hr (e ▸ h)
    exact (and_iff_left hno).symm

theorem Alloc.mem_waits_arrived (al : Alloc) (q x : BankWait) :
    x ∈ (al.arrived q).waits ↔ x ∈ al.waits ∨ x = q ∧ al.readsAtOnce x.gran = false := by
  unfold Alloc.arrived
  split
  · next hr =>
    have hno : ¬ (x = q ∧ al.readsAtOnce x.gran = false) := fun ⟨e, he⟩ => Bool.noConfusion (he.symm.trans (e ▸ hr))
    split
    · exact (or_iff_left hno).symm
    · exact (or_iff_left hno).symm
  · next hr =>
    rw [List.mem_append, List.mem_singleton]
    exact or_congr_right ⟨fun e => ⟨e, e ▸ Bool.eq_false_iff.2 hr⟩, And.left⟩

/-- A request at another granule finds its own as before. -/
theorem Alloc.readsAtOnce_arrived {al : Alloc} {q : BankWait} {gr : Nat} (h : gr ≠ q.gran) : (al.arrived q).readsAtOnce gr = al.readsAtOnce gr := by
  rw [Bool.eq_iff_iff, Alloc.readsAtOnce_iff, Alloc.readsAtOnce_iff, Alloc.mem_full_arrived]
  refine and_congr (and_iff_left (fun e => h (And.left e).symm)) (forall_congr' fun x => ?_)
  rw [Alloc.mem_waits_arrived]
  exact ⟨fun hx hm => hx (.inl hm), fun hx hm => hm.elim hx (fun e => e.1 ▸ h.symm)⟩

theorem Pending.arrived_congr {al al' : Alloc} (hc : al'.cells = al.cells) {q : BankWait} (hr : al'.readsAtOnce q.gran = al.readsAtOnce q.gran)
    (p : Pending) : p.arrived al' q = p.arrived al q := by
  unfold Pending.arrived Pending.answered Pending.fillLanes laneWord Alloc.bytesAt
  rw [hr, hc]

/-- The wave of `r` has the producer `p` in flight. -/
def State.HasPending (s : State) (r : ArmRef) (p : Pending) : Prop := ∃ w, s.wave? r.core r.slot = some w ∧ p ∈ w.inflight

theorem State.HasPending.flies {s : State} {r : ArmRef} {p : Pending} (h : s.HasPending r p) : s.flies r p.id = true := by
  obtain ⟨w, hw, hp⟩ := h
  unfold State.flies
  rw [hw]
  exact List.any_eq_true.2 ⟨p, hp, beq_self_eq_true p.id⟩

theorem State.HasPending.modPending {s : State} {r : ArmRef} {p : Pending} (h : s.HasPending r p) (f : Pending → Pending) :
    (s.modPending r.core r.slot p.id f).HasPending r (f p) := by
  obtain ⟨w, hw, hp⟩ := h
  exact ⟨_, State.wave?_modWave_self hw _, List.mem_map.2 ⟨p, hp, if_pos rfl⟩⟩

/-- A request at a bank without poison. -/
theorem State.arriveWait_clean {s : State} {aid : Nat} {al : Alloc} {r : ArmRef} {p : Pending} {q : BankWait}
    (hal : NMap.get? s.allocs aid = some al) (hp : al.pois = []) (hq : q.core = r.core ∧ q.slot = r.slot ∧ q.id = p.id) (h : s.HasPending r p) :
    s.Banked aid (s.arriveWait aid q) ∧ NMap.get? (s.arriveWait aid q).allocs aid = some (al.arrived q) ∧
      (s.arriveWait aid q).HasPending r (p.arrived al q) := by
  obtain ⟨hcore, hslot, hid⟩ := hq
  have hmod (f : Alloc → Alloc) : (s.modAlloc aid f).HasPending r p := by
    obtain ⟨w, hw, hm⟩ := h
    exact ⟨w, (congrArg (fun t : State => t.wave? r.core r.slot) (s.modAlloc_offAllocs aid f) :).trans hw, hm⟩
  have hserve (t : State) (al' : Alloc) (ht : NMap.get? t.allocs aid = some al') (hp' : al'.pois = []) (htp : t.HasPending r p) :
      t.Banked aid (t.serveWait aid q) ∧ NMap.get? (t.serveWait aid q).allocs aid = some al' ∧ (t.serveWait aid q).HasPending r (p.answered al' q.lanes) := by
    have hclean : (t.alloc aid).pois = [] := by rw [State.alloc_of_get? ht]; exact hp'
    rw [State.serveWait_clean hclean, State.alloc_of_get? ht, hcore, hslot, hid]
    exact ⟨State.modPending_banked _ _ _ _ _ _, by rw [State.modPending_allocs, ht], htp.modPending _⟩
  have he : s.arriveWait aid q = if al.readsAtOnce q.gran then
      (if q.clear then s.modAlloc aid (fun al => { al with full := setErase al.full q.gran }) else s).serveWait aid q
      else s.modAlloc aid (fun al => { al with waits := al.waits ++ [q] }) := by
    unfold State.arriveWait
    rw [State.alloc_of_get? hal]
    rfl
  rw [he]
  unfold Alloc.arrived Pending.arrived
  split
  · split
    · obtain ⟨hb, ha, hh⟩ := hserve _ _ (State.get?_modAlloc hal (fun al => { al with full := setErase al.full q.gran })) hp (hmod _)
      exact ⟨(s.modAlloc_banked aid _).trans hb, ha, hh⟩
    · exact hserve s al hal hp h
  · exact ⟨s.modAlloc_banked aid _, State.get?_modAlloc hal _, hmod _⟩

/-! ### The requests of one load -/

theorem Pending.arrived_id (al : Alloc) (p : Pending) (q : BankWait) : (p.arrived al q).id = p.id := by
  unfold Pending.arrived
  split <;> rfl

/-- What the requests of a load leave at its bank, and of its producer. -/
structure State.Arrived (s t : State) (aid : Nat) (al : Alloc) (r : ArmRef) (p : Pending) (qs : List BankWait) : Prop where
  bank : s.Banked aid t
  pending : t.HasPending r (qs.foldl (Pending.arrived al) p)
  alloc : ∃ al', NMap.get? t.allocs aid = some al' ∧ al'.cells = al.cells ∧
    (∀ gr, gr ∈ al'.full ↔ gr ∈ al.full ∧ ¬ ∃ q, q ∈ qs ∧ q.gran = gr ∧ q.clear = true ∧ al.readsAtOnce gr = true) ∧
    ∀ x, x ∈ al'.waits ↔ x ∈ al.waits ∨ x ∈ qs ∧ al.readsAtOnce x.gran = false

theorem State.arriveWaits_clean {s : State} {aid : Nat} {al : Alloc} {r : ArmRef} {id : Nat} {p : Pending} {qs : List BankWait}
    (hal : NMap.get? s.allocs aid = some al) (hp : al.pois = []) (hq : ∀ q, q ∈ qs → q.core = r.core ∧ q.slot = r.slot ∧ q.id = id)
    (hn : (qs.map (fun q => q.gran)).Nodup) (hid : p.id = id) (h : s.HasPending r p) :
    s.Arrived (qs.foldl (fun s q => if s.flies r id then s.arriveWait aid q else s) s) aid al r p qs := by
  induction qs generalizing s al p with
  | nil => exact ⟨.refl aid s, h, al, hal, rfl, fun gr => by simp, fun x => by simp⟩
  | cons q qs ih =>
    subst hid
    obtain ⟨hgran, hn⟩ := List.nodup_cons.1 hn
    have hother (x : BankWait) (hx : x ∈ qs) : x.gran ≠ q.gran := fun e => hgran (List.mem_map.2 ⟨x, hx, e⟩)
    obtain ⟨hb, ha, hh⟩ := State.arriveWait_clean hal hp (hq q List.mem_cons_self) h
    obtain ⟨hb', hh', al', ha', hc', hf', hw'⟩ := ih ha ((al.arrived_pois q).trans hp) (fun x hx => hq x (List.mem_cons_of_mem _ hx)) hn
      (p.arrived_id al q) hh
    rw [List.foldl_cons, if_pos h.flies]
    refine ⟨hb.trans hb', ?_, al', ha', hc'.trans (al.arrived_cells q), fun gr => ?_, fun x => ?_⟩
    · rw [List.foldl_cons, ← List.foldl_ext _ _ _ (fun p x hx =>
        Pending.arrived_congr (al.arrived_cells q) (Alloc.readsAtOnce_arrived (hother x hx)) p)]
      exact hh'
    · rw [hf', Alloc.mem_full_arrived, List.exists_mem_cons_iff, and_assoc, not_or]
      refine and_congr_right fun _ => and_congr_right fun _ => not_congr (exists_congr fun x => and_congr_right fun hx => and_congr_right fun e => ?_)
      rw [Alloc.readsAtOnce_arrived (e ▸ hother x hx)]
    · rw [hw', Alloc.mem_waits_arrived, List.mem_cons, or_and_right, or_assoc]
      refine or_congr_right (or_congr_right (and_congr_right fun hx => ?_))
      rw [Alloc.readsAtOnce_arrived (hother x hx)]

/-! ### What the producer has read -/

/-- Each request that reads at once leaves one granule less to wait for. -/
theorem Pending.arrivals (al : Alloc) (p : Pending) (qs : List BankWait) : (qs.foldl (Pending.arrived al) p).id = p.id ∧
    (qs.foldl (Pending.arrived al) p).lanes = p.lanes ∧
    (qs.foldl (Pending.arrived al) p).left = p.left - (qs.filter (fun q => al.readsAtOnce q.gran)).length := by
  induction qs generalizing p with
  | nil => exact ⟨rfl, rfl, rfl⟩
  | cons q qs ih =>
    obtain ⟨hid, hl, hleft⟩ := ih (p.arrived al q)
    rw [List.foldl_cons, hid, hl, hleft, List.filter_cons]
    unfold Pending.arrived
    split
    · refine ⟨rfl, rfl, ?_⟩
      show p.left - 1 - _ = _
      rw [List.length_cons]
      omega
    · exact ⟨rfl, rfl, rfl⟩

theorem Pending.getElem?_answered {p : Pending} {k r : Nat} {v : LaneVec} (h : p.vdst[k]? = some (r, v)) (al : Alloc) (lanes : List (Nat × Nat)) :
    (p.answered al lanes).vdst[k]? = some (r, LaneVec.ofFn (fun l => match lanes.find? (fun x => x.1 == l) with
      | some x => laneWord al x.2 k
      | none => v.lane l)) := by
  have hk : k < p.vdst.length := (List.getElem?_eq_some_iff.1 h).1
  have hd : p.vdst.getD k (0, []) = (r, v) := by rw [List.getD_eq_getElem?_getD, h]; rfl
  unfold Pending.answered Pending.fillLanes
  rw [List.getElem?_map, List.getElem?_range hk]
  exact congrArg (fun e : Nat × LaneVec => some (e.1, LaneVec.ofFn (fun l => match lanes.find? (fun x => x.1 == l) with
    | some x => laneWord al x.2 k
    | none => e.2.lane l))) hd

/-- A lane has the word of its granule once a request of it has read. -/
theorem Pending.lane_arrivals {al : Alloc} {l la k r : Nat} (hl : l < 32) {qs : List BankWait}
    (hq : ∀ q, q ∈ qs → ∀ x, q.lanes.find? (fun x => x.1 == l) = some x → x = (l, la)) {p : Pending} {v : LaneVec} (h : p.vdst[k]? = some (r, v)) :
    ∃ v', (qs.foldl (Pending.arrived al) p).vdst[k]? = some (r, v') ∧
      ((v.lane l = laneWord al la k ∨ ∃ q, q ∈ qs ∧ al.readsAtOnce q.gran = true ∧ q.lanes.find? (fun x => x.1 == l) = some (l, la)) →
        v'.lane l = laneWord al la k) := by
  induction qs generalizing p v with
  | nil => exact ⟨v, h, fun e => e.elim (fun hv => hv) (fun ⟨q, hm, _⟩ => absurd hm List.not_mem_nil)⟩
  | cons q qs ih =>
    have hqs := fun x hx => hq x (List.mem_cons_of_mem _ hx)
    rw [List.foldl_cons]
    by_cases hr : al.readsAtOnce q.gran = true
    · obtain ⟨v', hv', hlane⟩ := ih hqs (p := p.arrived al q) (by
        unfold Pending.arrived
        rw [if_pos hr]
        exact Pending.getElem?_answered h al q.lanes)
      refine ⟨v', hv', fun hor => hlane ?_⟩
      rw [LaneVec.lane_ofFn _ l hl]
      cases hx : q.lanes.find? (fun x => x.1 == l) with
      | some x =>
        left
        rw [hq q List.mem_cons_self x hx]
      | none =>
        rcases hor with hv | ⟨y, hy, hyr, hyf⟩
        · exact .inl hv
        · rcases List.mem_cons.1 hy with rfl | hy
          · exact absurd (hx.symm.trans hyf) (by simp)
          · exact .inr ⟨y, hy, hyr, hyf⟩
    · obtain ⟨v', hv', hlane⟩ := ih hqs (p := p.arrived al q) (v := v) (by
        unfold Pending.arrived
        rw [if_neg hr]
        exact h)
      refine ⟨v', hv', fun hor => hlane (hor.imp_right fun ⟨y, hy, hyr, hyf⟩ => ?_)⟩
      rcases List.mem_cons.1 hy with rfl | hy
      · exact absurd hyr hr
      · exact ⟨y, hy, hyr, hyf⟩

/-! ### LDL.w and LDL.wc -/

/-- LDL.w and LDL.wc once their lanes lie in the allocation (R169, R379). -/
def Ctx.waitingGo (d : Reg) (z : BitVec 1) (clear : Bool) (c : Ctx) (lanes : List (Nat × Nat)) (s : State) : State :=
  let l := c.launch { vdst := (granRegs d.toNat z.toNat).map (fun r => (r, [])) }
    { isMem := true, left := (granulesOf (lanes.map (fun e => e.2))).length } s
  (c.granuleWaits l.1 (if z = 1#1 then 16 else 4) clear lanes).foldl (fun s q => if s.flies c.r l.1 then s.arriveWait c.team.alloc q else s) l.2

theorem localWord_ldlW (d a b : Reg) (g : BitVec 3) (z : BitVec 1) :
    LocalWord (.ldlW d a b g z) a b (if z = 1#1 then 16 else 4) (Ctx.waitingGo d z false) :=
  fun _ _ h => State.run_ready h _

theorem localWord_ldlWc (d a b : Reg) (g : BitVec 3) (z : BitVec 1) :
    LocalWord (.ldlWc d a b g z) a b (if z = 1#1 then 16 else 4) (Ctx.waitingGo d z true) :=
  fun _ _ h => State.run_ready h _

theorem getElem?_granRegs (d : Nat) (z : BitVec 1) {k : Nat} (hk : k < (if z = 1#1 then 16 else 4) / 4) :
    ((granRegs d z.toNat).map (fun r => ((r, []) : Nat × LaneVec)))[k]? = some (d + k, []) := by
  have hz : (if z.toNat = 1 then 4 else 1) = (if z = 1#1 then 16 else 4) / 4 := by
    clear hk
    revert z
    decide
  unfold granRegs group
  rw [List.map_map, List.getElem?_map, List.getElem?_range (hz ▸ hk)]
  rfl

/-- The request of a waiting load at a granule, with the lanes there. -/
def Ctx.granuleWait (c : Ctx) (id n : Nat) (clear : Bool) (lanes : List (Nat × Nat)) (gr : Nat) : BankWait :=
  { core := c.r.core, slot := c.r.slot, id := id, clear := clear, gran := gr, size := n, lanes := lanes.filter (fun e => e.2 / 16 == gr) }

theorem Ctx.mem_granuleWaits {c : Ctx} {id n : Nat} {clear : Bool} {lanes : List (Nat × Nat)} {q : BankWait} :
    q ∈ c.granuleWaits id n clear lanes ↔ q.gran ∈ granulesOf (lanes.map (fun e => e.2)) ∧ q = c.granuleWait id n clear lanes q.gran := by
  unfold Ctx.granuleWaits
  rw [List.mem_map]
  constructor
  · rintro ⟨gr, hgr, rfl⟩
    exact ⟨hgr, rfl⟩
  · rintro ⟨hgr, hq⟩
    exact ⟨q.gran, hgr, hq.symm⟩

theorem Ctx.granuleWaits_gran (c : Ctx) (id n : Nat) (clear : Bool) (lanes : List (Nat × Nat)) :
    (c.granuleWaits id n clear lanes).map (fun q => q.gran) = granulesOf (lanes.map (fun e => e.2)) := by
  unfold Ctx.granuleWaits
  rw [List.map_map]
  exact List.map_id _

/-- The granules that the lanes touch. -/
theorem Ctx.mem_granules {c : Ctx} {a b : Reg} {n gr : Nat} : gr ∈ granulesOf ((c.alignedLanes a b n).map (fun e => e.2)) ↔
    ∃ l, l < 32 ∧ c.lanes.getLsbD l = true ∧ gr = Claims.laneLA c a b l / n * n / 16 := by
  rw [(granulesOf_spec _).2, ← Ctx.exists_alignedLanes]
  exact ⟨fun ⟨_, ha, hg⟩ => (List.mem_map.1 ha).elim (fun e he => ⟨e, he.1, he.2 ▸ hg⟩), fun ⟨e, he, hg⟩ => ⟨_, List.mem_map.2 ⟨e, he, rfl⟩, hg⟩⟩

/-- A lane has a request at its granule. -/
theorem Ctx.granuleWait_mem {c : Ctx} {a b : Reg} {n l : Nat} (id : Nat) (clear : Bool) (hl : l < 32) (hs : c.lanes.getLsbD l = true) :
    c.granuleWait id n clear (c.alignedLanes a b n) (Claims.laneLA c a b l / n * n / 16) ∈ c.granuleWaits id n clear (c.alignedLanes a b n) :=
  Ctx.mem_granuleWaits.2 ⟨Ctx.mem_granules.2 ⟨l, hl, hs, rfl⟩, rfl⟩

/-- The lanes of a granule hold a lane with its address or not at all. -/
theorem Ctx.find?_granule {c : Ctx} {a b : Reg} {n l : Nat} {f : Nat × Nat → Bool} {x : Nat × Nat}
    (h : ((c.alignedLanes a b n).filter f).find? (fun x => x.1 == l) = some x) : x = (l, Claims.laneLA c a b l / n * n) := by
  have h1 : x.1 = l := beq_iff_eq.1 (List.find?_some h :)
  have hx := (Ctx.mem_alignedLanes.1 (List.mem_filter.1 (List.mem_of_find?_eq_some h)).1).2
  exact Prod.ext h1 (h1 ▸ hx)

/-- What LDL.w and LDL.wc launch. -/
structure Ctx.Waiter (b : Ctx) (d : Reg) (z : BitVec 1) (lanes : List (Nat × Nat)) (p : Pending) : Prop where
  mask : p.lanes = b.lanes
  left : p.left = (granulesOf (lanes.map (fun e => e.2))).length
  vdst : p.vdst = (granRegs d.toNat z.toNat).map (fun r => (r, []))

/-- LDL.w and LDL.wc launch their producer, whose requests then arrive at the bank. -/
theorem Ctx.Begun.waitingGo {c b : Ctx} {v : State} {al : Alloc} (hb : c.Begun b v) (hal : NMap.get? v.allocs c.team.alloc = some al)
    (hp : al.pois = []) (d : Reg) (z : BitVec 1) (clear : Bool) (lanes : List (Nat × Nat)) :
    ∃ u w p, v.sameMemory u ∧ u.wave? c.r.core c.r.slot = some w ∧ c.WentOn w ∧ b.Waiter d z lanes p ∧
      u.Arrived (b.waitingGo d z clear lanes v) c.team.alloc al c.r p (b.granuleWaits p.id (if z = 1#1 then 16 else 4) clear lanes) := by
  obtain ⟨hid, hl, w, ports, hw, hwent, hin⟩ := hb.launch { vdst := (granRegs d.toNat z.toNat).map (fun r => (r, [])) }
    { isMem := true, left := (granulesOf (lanes.map (fun e => e.2))).length }
  refine ⟨_, w, b.flight { vdst := (granRegs d.toNat z.toNat).map (fun r => (r, [])) }
    { isMem := true, left := (granulesOf (lanes.map (fun e => e.2))).length } v.handles ports, hl.sameMemory, hw, hwent, ⟨rfl, rfl, rfl⟩, ?_⟩
  unfold Ctx.waitingGo
  simp only [hid, hb.team, hb.ref]
  refine State.arriveWaits_clean (by rw [hl.allocs]; exact hal) hp (fun q hq => ?_) ?_ rfl ⟨w, hw, ?_⟩
  · rw [(Ctx.mem_granuleWaits.1 hq).2]
    exact ⟨congrArg ArmRef.core hb.ref, congrArg ArmRef.slot hb.ref, rfl⟩
  · rw [Ctx.granuleWaits_gran]
    exact (granulesOf_spec _).1
  · rw [hin]
    exact List.mem_append_right _ (List.mem_singleton.2 rfl)

section

variable {c b : Ctx} {al : Alloc} {d x y : Reg} {z : BitVec 1} {n : Nat} {clear : Bool} {p : Pending}

/-- The granules that a waiting load waits for. -/
theorem Ctx.Waiter.waitsFor (h : b.Waiter d z (b.alignedLanes x y n) p) (id : Nat) : ∃ gs : List Nat, gs.Nodup ∧
    ((b.granuleWaits id n clear (b.alignedLanes x y n)).foldl (Pending.arrived al) p).left = gs.length ∧
    ∀ gr, gr ∈ gs ↔ (∃ l, l < 32 ∧ b.lanes.getLsbD l = true ∧ gr = Claims.laneLA b x y l / n * n / 16) ∧ al.readsAtOnce gr = false := by
  let grs := granulesOf ((b.alignedLanes x y n).map (fun e => e.2))
  have hreads : ((b.granuleWaits id n clear (b.alignedLanes x y n)).filter (fun q => al.readsAtOnce q.gran)).length =
      (grs.filter al.readsAtOnce).length := by
    rw [show grs = _ from (b.granuleWaits_gran id n clear (b.alignedLanes x y n)).symm, List.filter_map, List.length_map]
    rfl
  refine ⟨grs.filter (fun gr => !al.readsAtOnce gr), (granulesOf_spec _).1.filter _, ?_, fun gr => ?_⟩
  · rw [(Pending.arrivals al p _).2.2, hreads, h.left]
    have := List.length_eq_length_filter_add (l := grs) al.readsAtOnce
    show grs.length - _ = _
    omega
  · rw [List.mem_filter, Ctx.mem_granules, Bool.not_eq_true']

/-- A lane whose granule reads at once has its words. -/
theorem Ctx.Waiter.lane (h : b.Waiter d z (b.alignedLanes x y (if z = 1#1 then 16 else 4)) p) (id : Nat) {l k : Nat} (hl : l < 32)
    (hs : b.lanes.getLsbD l = true) (hr : al.readsAtOnce (Claims.laneLA b x y l / (if z = 1#1 then 16 else 4) * (if z = 1#1 then 16 else 4) / 16) = true)
    (hk : k < (if z = 1#1 then 16 else 4) / 4) : ∃ v,
      ((b.granuleWaits id (if z = 1#1 then 16 else 4) clear (b.alignedLanes x y (if z = 1#1 then 16 else 4))).foldl (Pending.arrived al) p).vdst[k]? =
        some (d.toNat + k, v) ∧
      v.lane l = laneWord al (Claims.laneLA b x y l / (if z = 1#1 then 16 else 4) * (if z = 1#1 then 16 else 4)) k := by
  generalize hn : (if z = 1#1 then 16 else 4) = n at *
  obtain ⟨v, hv, hlane⟩ := Pending.lane_arrivals (al := al) hl (p := p) (la := Claims.laneLA b x y l / n * n)
    (qs := b.granuleWaits id n clear (b.alignedLanes x y n))
    (fun q hq e he => by
      rw [(Ctx.mem_granuleWaits.1 hq).2] at he
      exact Ctx.find?_granule he) (h.vdst ▸ getElem?_granRegs d.toNat z (hn ▸ hk))
  refine ⟨v, hv, hlane (.inr ⟨_, Ctx.granuleWait_mem id clear hl hs, hr, ?_⟩)⟩
  cases he : ((b.alignedLanes x y n).filter (fun e => e.2 / 16 == Claims.laneLA b x y l / n * n / 16)).find? (fun e => e.1 == l) with
  | some e => exact he.trans (congrArg some (Ctx.find?_granule he))
  | none =>
    refine absurd (List.find?_eq_none.1 he (l, Claims.laneLA b x y l / n * n) (List.mem_filter.2 ⟨?_, beq_self_eq_true _⟩)) (by simp)
    exact Ctx.mem_alignedLanes.2 ⟨⟨hl, hs⟩, rfl⟩

end

end Sys2Proof.Machine

namespace Sys2Proof

open Machine

/-- The waiting loads are two local words. -/
theorem localWord_waiting {i : Instr} {d a b : Reg} {g : BitVec 3} {z : BitVec 1} {clear : Bool}
    (hi : i = .ldlW d a b g z ∧ clear = false ∨ i = .ldlWc d a b g z ∧ clear = true) :
    LocalWord i a b (if z = 1#1 then 16 else 4) (Ctx.waitingGo d z clear) := by
  rcases hi with ⟨rfl, rfl⟩ | ⟨rfl, rfl⟩
  · exact localWord_ldlW d a b g z
  · exact localWord_ldlWc d a b g z

/-- Settles O41: a local word's lanes lie in its allocation or fault; inside it, the bank's bytes and granules change by each word's rule, and a
waiting load's producer collects the lanes of the granules that read at once. -/
theorem localMemory : Obligations.LocalMemory := by
  unfold Obligations.LocalMemory
  refine ⟨fun s c i d a b g z kind h hi => ?_, fun s c i d a b g z clear h hroom hi => ?_⟩
  · obtain ⟨k, hw, hk⟩ := localWord_of_kind hi
    refine ⟨hw.idle h, fun l => hw.outside h, fun hne hl hp hin => ?_⟩
    have hal := Ready.allocation hne hin
    have hm := State.sameMemory_begun hl
    rw [hw.inside h hne hin]
    rcases hk with ⟨rfl, rfl⟩ | ⟨rfl, rfl, hz, hz8⟩ | ⟨rfl, rfl, hz, hz8⟩
    · obtain ⟨w, q, hd, hscratch, hq, hlanes, hleft, hdst⟩ := h.begun.localLoad hal hp d z ((s.begun c i).1.alignedLanes a b (sizeBytes z))
      obtain ⟨hlen, hregs⟩ := loadRegs_maskLanes z d.toNat (s.begun c i).1.lanes (fun l => Claims.laneLA (s.begun c i).1 a b l / sizeBytes z * sizeBytes z)
        (fun la => ((s.begun c i).2.alloc c.team.alloc).bytesAt la (sizeBytes z))
      refine ⟨_, w, rfl, hd.frame hm h.single ⟨fun _ => ⟨(s.sameScratch_begun i c).trans hscratch, q, hq, hlanes, hleft, ?_, fun k hk => ?_⟩,
        fun e => absurd rfl e, fun e => absurd e (by decide), fun e => absurd e (by decide), fun k hk => (hd.others k hk).trans (s.begun_alloc c i k)⟩⟩
      · rw [hdst]
        exact hlen
      · obtain ⟨v, hv, hlane⟩ := hregs k hk
        rw [hdst]
        refine ⟨v, hv, fun l h32 hs => (hlane l h32 hs).trans ?_⟩
        exact congrArg (fun bs => loadWord z bs k) (readBytes_eq_map _ _ _)
    · obtain ⟨hd, al', hal', hfull, hwaits, -, hcells⟩ := h.begun.localPut hal hp d (z := z) ((s.begun c i).1.alignedLanes a b (sizeBytes z))
      have hst := (s.begun c i).1.stored_alignedLanes d a b hz hz8 ((s.begun c i).2.alloc c.team.alloc).cells
      rw [← hcells] at hst
      refine ⟨_, _, rfl, hd.frame hm h.single ?_⟩
      rw [State.alloc_of_get? hal']
      exact ⟨fun e => absurd e (by decide), fun _ => hst, fun _ => ⟨hfull, hwaits⟩, fun e => absurd e (by decide),
        fun k hk => (hd.others k hk).trans (s.begun_alloc c i k)⟩
    · obtain ⟨w, hd, al', hal', hcells, hfull⟩ := h.begun.localFill hal hp d (z := z) ((s.begun c i).1.alignedLanes a b (sizeBytes z))
      have hst := (s.begun c i).1.stored_alignedLanes d a b hz hz8 ((s.begun c i).2.alloc c.team.alloc).cells
      rw [← hcells] at hst
      refine ⟨_, w, rfl, hd.frame hm h.single ?_⟩
      rw [State.alloc_of_get? hal']
      simp only [Ctx.exists_alignedLanes] at hfull
      exact ⟨fun e => absurd e (by decide), fun _ => hst, fun e => absurd e (by decide), fun _ gr => ⟨fun hx => (hfull gr).trans (by rw [if_pos hx]),
        fun hx => (hfull gr).trans (by rw [if_neg hx])⟩, fun k hk => (hd.others k hk).trans (s.begun_alloc c i k)⟩
  · have hw := localWord_waiting hi
    refine ⟨hw.idle h, fun hne hp hin => ?_⟩
    have hal := Ready.allocation hne hin
    rw [hw.inside h hne hin]
    obtain ⟨u, w, p, hmem, hu, hwent, hwait, harr⟩ := h.begun.waitingGo hal hp d z clear
      ((s.begun c i).1.alignedLanes a b (if z = 1#1 then 16 else 4))
    obtain ⟨hbank, ⟨w', hw', hin'⟩, al', hal', hcells, hfull, hwaits⟩ := harr
    obtain ⟨hid, hlanes, -⟩ := Pending.arrivals ((s.begun c i).2.alloc c.team.alloc) p ((s.begun c i).1.granuleWaits p.id (if z = 1#1 then 16 else 4) clear
      ((s.begun c i).1.alignedLanes a b (if z = 1#1 then 16 else 4)))
    obtain ⟨w'', hw'', hoff⟩ := hbank.waves _ _ _ hu
    obtain rfl := Option.some.inj (hw'.symm.trans hw'')
    obtain ⟨hsreg, hvreg, -, -⟩ := hwent.regs
    obtain ⟨gs, hnodup, hleft, hgs⟩ := hwait.waitsFor (al := (s.begun c i).2.alloc c.team.alloc) (clear := clear) p.id
    have honce (gr : Nat) := Alloc.readsAtOnce_iff (al := (s.begun c i).2.alloc c.team.alloc) (gr := gr)
    refine ⟨_, w', _, rfl, hw', hin', hlanes.trans hwait.mask, ((State.sameMemory_begun hroom).trans hmem).trans hbank.sameMemory,
      fun r => ((congrArg (fun w : Wave => w.sreg r) hoff :)).trans (hsreg r), fun r => ((congrArg (fun w : Wave => w.vreg r) hoff :)).trans (hvreg r), ?_,
      ⟨gs, hnodup, hleft, fun gr => (hgs gr).trans ?_⟩, fun gr => ?_, fun l hl hs hat k hk => ?_, fun l hl hs hat => ?_⟩
    · rw [State.alloc_of_get? hal', hcells]
      exact fun k => rfl
    · exact and_congr_right fun _ => (Bool.not_eq_true _).symm.to_iff.trans (not_congr (honce gr))
    · rw [State.alloc_of_get? hal', hfull]
      refine Iff.trans ?_ (and_congr_right fun _ => not_congr (and_congr_right fun _ => and_congr (honce gr) Ctx.mem_granules))
      refine and_congr_right fun _ => not_congr ⟨fun ⟨q, hq, hg, hc, hr⟩ => ?_, fun ⟨hc, hr, hm⟩ => ?_⟩
      · obtain ⟨hm, he⟩ := Ctx.mem_granuleWaits.1 hq
        rw [he] at hc
        exact ⟨hc, hr, hg ▸ hm⟩
      · exact ⟨(s.begun c i).1.granuleWait p.id _ clear _ gr, Ctx.mem_granuleWaits.2 ⟨hm, rfl⟩, rfl, hc, hr⟩
    · exact hwait.lane p.id hl hs ((honce _).2 hat) hk
    · rw [State.alloc_of_get? hal']
      refine ⟨_, (hwaits _).2 (.inr ⟨Ctx.granuleWait_mem p.id clear hl hs, Bool.eq_false_iff.2 (fun e => hat ((honce _).1 e))⟩),
        congrArg ArmRef.core h.begun.ref, congrArg ArmRef.slot h.begun.ref, hid.symm, rfl, rfl, ?_⟩
      exact List.mem_filter.2 ⟨Ctx.mem_alignedLanes.2 ⟨⟨hl, hs⟩, rfl⟩, beq_self_eq_true _⟩

end Sys2Proof
end
section
/-! ## A line of the cluster cache that goes while its word is read

Where two lines of a set stand in its one CACHE bank, the flush before an access at cluster scope drops the clean bytes of one of them, and
with them the line: its word is then filled anew, and the other line leaves the bank for it, written back. -/
set_option Elab.async false

open Sys2Proof Sys2Proof.Machine

namespace Sys2Proof.Machine

/-! ### What an access at the cluster's level leaves at home -/

/-- The fill of a sector changes memory at home only by the line that it may make leave. -/
theorem State.ccSector_mem (s : State) (cl pasid la sec : Nat) : (s.ccSector cl pasid la sec).mem = (s.ccLine cl pasid la).1.mem := by
  have heq : s.ccSector cl pasid la sec = if (s.ccLine cl pasid la).2.hasSector sec then (s.ccLine cl pasid la).1
      else ((s.ccLine cl pasid la).1.l2Touch pasid la [sec] false).setCC cl la ((s.ccLine cl pasid la).2.fill sec
        (fun o => Memory.read (s.ccLine cl pasid la).1.mem (128 * la + o)) ((s.ccLine cl pasid la).1.homePoison (128 * la + 32 * sec))) := rfl
  rw [heq]
  split
  · rfl
  · exact (congrArg State.mem ((s.ccLine cl pasid la).1.l2Touch_offL2 pasid la [sec] false) :)

/-- A read at the level of a cluster cache. -/
theorem State.readLevel_cluster {s : State} {core : Nat} (h : s.hasCC (clusterOf core) = true) (pasid a : Nat) :
    s.readLevel core pasid 2 (.dpa a) = (s.flushSector core a false).readCC (clusterOf core) pasid a 4 := by
  unfold State.readLevel
  dsimp only
  rw [if_neg (Nat.lt_irrefl 2), if_pos ⟨rfl, h⟩]

/-- An atomic at the level of a cluster cache leaves at home what its read of the word does. -/
theorem State.atomScope_mem {s : State} {core : Nat} (h : s.hasCC (clusterOf core) = true) (pasid a fn : Nat) (d n : Word) :
    (s.atomScope core pasid 2 (.dpa a) fn d n).1.mem = ((s.flushSector core a false).readCC (clusterOf core) pasid a 4).1.mem := by
  unfold State.atomScope
  dsimp only
  rw [if_neg (Nat.lt_irrefl 2), if_pos ⟨rfl, h⟩]
  generalize (s.flushSector core a false).readCC (clusterOf core) pasid a 4 = r
  obtain ⟨t, bs, p⟩ := r
  cases p
  · rfl
  · rfl

/-- A set whose one bank is taken gives it up for a new line. -/
theorem State.ccWay_of_taken {s : State} {cl la : Nat} {e : Nat × CLine} (hset : s.ccSet cl la = [e])
    (hfull : (List.range Config.bankCount).find? (fun b => (NMap.get? (s.cluster cl).banks b).isNone && !(s.ccSet cl la).any (fun e => e.2.way == b)) = none) :
    (s.ccWay cl la).1.mem = (s.evictCC cl e.1).mem := by
  have hget : (s.ccSet cl la)[Config.victim s.freeCtr % (s.ccSet cl la).length]? = some e := by
    rw [hset, List.length_singleton, Nat.mod_one]
    rfl
  unfold State.ccWay
  simp only [hfull, hget]

/-! ### The counterexample -/

/-- A line with one dirty byte. -/
def dirtyLine : CLine := { pasid := 1, bytes := [(0, ⟨1#8, true⟩)] }

/-- A line with one clean byte. -/
def cleanLine : CLine := { pasid := 1, bytes := [(0, ⟨0#8, false⟩)] }

/-- Core 0 holds line 0; its cluster, with one CACHE bank, holds lines 0 and 1024 of the same set, the second one dirty. -/
def sharedWayState : State :=
  (State.reset.modCore 0 (fun k => { k with l1 := [(0, cleanLine)] })).modCluster 0
    (fun c => { c with banks := (List.range 63).map (fun b => (b + 1, .alloc 2)), cc := [(0, cleanLine), (1024, dirtyLine)] })

theorem sharedWay_caches : (sharedWayState.core 0).l1 = [(0, cleanLine)] ∧
    (sharedWayState.cluster (clusterOf 0)).cc = [(0, cleanLine), (1024, dirtyLine)] := by decide +kernel

theorem sharedWay_alone : Claims.Alone sharedWayState 0 1 where
  l1 la l e := by
    rw [sharedWay_caches.1] at e
    obtain h := List.mem_singleton.1 (NMap.mem_of_get? e)
    obtain ⟨rfl, rfl⟩ := Prod.mk.inj h
    rfl
  cc la l e := by
    rw [sharedWay_caches.2] at e
    rcases List.mem_cons.1 (NMap.mem_of_get? e) with h | h
    · obtain ⟨rfl, rfl⟩ := Prod.mk.inj h
      rfl
    · obtain ⟨rfl, rfl⟩ := Prod.mk.inj (List.mem_singleton.1 h)
      rfl
  empty h := absurd h (by decide +kernel)

theorem sharedWay_tidy : Claims.Tidy sharedWayState 0 where
  l1 := by decide +kernel
  cc := by decide +kernel
  bytes := by decide +kernel

/-- Both caches hold the line. -/
theorem sharedWay_room : Claims.Room sharedWayState 0 [0 / 128] where
  l1 := .inl (by decide +kernel)
  cc la _ h := by
    rw [show Claims.absent (sharedWayState.cluster (clusterOf 0)).cc [0 / 128] = [] by decide +kernel] at h
    cases h

theorem sharedWay_unpoisoned : Claims.Unpoisoned sharedWayState 0 0 := by
  refine ⟨by decide +kernel, fun l hl => ?_, fun l hl => ?_⟩
  · rw [sharedWay_caches.1] at hl
    obtain rfl := Option.some.inj hl
    decide +kernel
  · rw [sharedWay_caches.2] at hl
    obtain rfl := Option.some.inj hl
    decide +kernel

theorem sharedWay_hasCC : sharedWayState.hasCC (clusterOf 0) = true := by decide +kernel

/-- The flush leaves line 1024 alone in the set. -/
def flushedState : State := sharedWayState.flushSector 0 0 false

/-- The line that leaves takes its dirty byte home. -/
theorem flushed_mem : (flushedState.readCC (clusterOf 0) 1 0 4).1.mem.read 131072 = 1#8 := by
  have hway : (flushedState.ccWay 0 0).1.mem = (flushedState.evictCC 0 1024).mem :=
    State.ccWay_of_taken (s := flushedState) (cl := 0) (la := 0) (e := (1024, dirtyLine)) (by decide +kernel) (by decide +kernel)
  have hnone : NMap.get? (flushedState.cluster 0).cc 0 = none := by decide +kernel
  have hline : (flushedState.ccLine 0 1 0).1 = (flushedState.ccWay 0 0).1 := by
    unfold State.ccLine
    rw [hnone]
  have hread : (flushedState.readCC (clusterOf 0) 1 0 4).1 = flushedState.ccSector 0 1 0 0 := by
    unfold State.readCC
    rw [if_pos (by decide +kernel)]
    rfl
  rw [hread, State.ccSector_mem, hline, hway]
  decide +kernel

theorem sharedWay_mem : sharedWayState.mem.read 131072 = 0#8 := by decide +kernel

end Sys2Proof.Machine

namespace Sys2Proof

open Machine

/-- Refutes O38 in its clause on the levels: a read at cluster scope at address 0 changes the byte at home of another line, which stands in
the same bank. The clause bounds the lines of a set by its banks only where the line that is read is absent (`Claims.Room`). -/
theorem not_globalLoads : ¬ Obligations.GlobalLoads := by
  unfold Obligations.GlobalLoads
  rintro ⟨-, -, -, h⟩
  obtain ⟨-, ⟨-, -, -, hhome⟩, -⟩ := h sharedWayState 0 1 2 0 sharedWay_alone sharedWay_tidy sharedWay_room rfl
  have hbyte := hhome 131072 (by decide)
  rw [State.readLevel_cluster sharedWay_hasCC, sharedWay_mem] at hbyte
  exact absurd (flushed_mem.symm.trans hbyte) (by decide)

/-- Refutes O40 in its clause on the levels: an atomic at cluster scope at address 0 changes the byte at home of another line, which stands
in the same bank. The clause bounds the lines of a set by its banks only where the atomic's line is absent (`Claims.Room`). -/
theorem not_atomics : ¬ Obligations.Atomics := by
  unfold Obligations.Atomics
  rintro ⟨-, -, h, -⟩
  obtain ⟨hlevel, hanswers, -⟩ := h sharedWayState 0 1 2 0 0 1 0 sharedWay_alone sharedWay_tidy sharedWay_room rfl
  obtain ⟨old, hold⟩ := Option.ne_none_iff_exists'.1 (hanswers sharedWay_unpoisoned)
  obtain ⟨-, -, -, -, hhome⟩ := hlevel old hold
  have hbyte := hhome 131072 (by decide)
  rw [State.atomScope_mem sharedWay_hasCC, sharedWay_mem] at hbyte
  exact absurd (flushed_mem.symm.trans hbyte) (by decide)

end Sys2Proof
end
